-- ==== Sys2Proof/Word.lean ====
section
/-!
DEFINITION. The byte type and the plain quantities every part of the model uses (00_scope.md, R5 to R9). Byte order, CRC,
signed fields and rounding stand in Machine/Bits.lean.
-/

namespace Sys2Proof

/-- One byte. -/
abbrev Byte := BitVec 8

/-- A value as it travels: bytes, first byte first (little-endian fields, R9). -/
abbrev Bytes := List Byte

/-- One of the twelve islands of Table 2.1 (R48). -/
inductive Island where
  | aon | security | compute | fabric | memory | comb | fixer | developer | tracking | radio | network | timebase
  deriving DecidableEq, Repr, Inhabited

/-- The island's ID in Table 2.1. -/
def Island.id : Island → Nat
  | .aon => 0 | .security => 1 | .compute => 2 | .fabric => 3 | .memory => 4 | .comb => 5
  | .fixer => 6 | .developer => 7 | .tracking => 8 | .radio => 9 | .network => 10 | .timebase => 11

/-- The island of an ID of Table 2.1. -/
def Island.ofId : Nat → Option Island
  | 0 => some .aon | 1 => some .security | 2 => some .compute | 3 => some .fabric | 4 => some .memory
  | 5 => some .comb | 6 => some .fixer | 7 => some .developer | 8 => some .tracking | 9 => some .radio
  | 10 => some .network | 11 => some .timebase | _ => none

/-- The twelve islands in ID order. -/
def Island.all : List Island :=
  [.aon, .security, .compute, .fabric, .memory, .comb, .fixer, .developer, .tracking, .radio, .network, .timebase]

/-- What detected an island fault (R70). -/
inductive FaultCause where
  | ecc | lockstep | gasket | watchdog
  deriving DecidableEq, Repr, Inhabited

/-- Why an island is declared failed (R77). -/
inductive FailCause where
  | restartLate | storeCheck | thirdFault
  deriving DecidableEq, Repr, Inhabited

end Sys2Proof
end

