-- ==== Sys2Proof/Syntax/Types.lean ====
section
/-!
DEFINITION. The operand types of the commands: who sends an access, and what the outside world (a datagram, a radio frame, an
engine's measurement) brings with it. Measured quantities are integers in the unit the spec's own record gives them.
-/

namespace Sys2Proof

/-- Who makes a dictionary access or a port request (R111, R151): a Coil session with the request_id of its record, a USDO
client on a CAN port, an applet hart with its request, or firmware. -/
inductive Caller where
  | coil (session req : Nat)
  | usdo (port client : Nat)
  | applet (hart req : Nat)
  | firmware
  deriving DecidableEq, Repr, Inhabited

/-- How a USDO request is addressed (R146). -/
inductive UsdoKind where
  | unicast | broadcast | routed
  deriving DecidableEq, Repr, Inhabited

/-- The CANopen types of Table 3.2. -/
inductive CanType where
  | boolean
  | unsigned (bits : Nat)
  | integer (bits : Nat)
  | real (bits : Nat)
  | octetString
  | visibleString
  | domain
  deriving DecidableEq, Repr, Inhabited

/-- A sealed body: the key, nonce and additional data it was sealed under, its plaintext, and whether it arrived intact. Its tag
verifies exactly when it is intact and the receiver's key, nonce and additional data are these (an ideal authenticated cipher). -/
structure Sealed where
  key    : Bytes
  nonce  : Bytes
  aad    : Bytes
  plain  : Bytes
  intact : Bool
  deriving DecidableEq, Repr, Inhabited

/-- A store of Table 2.7 in which an uncorrectable error falls (R76). -/
inductive StoreRef where
  | combBucket (bucket slot : Nat)
  | roverState (slot : Nat)
  | queuePacket (queue index : Nat)
  | brood (index : Nat)
  | keySlot (slot : Nat)
  | linkEntry (slot : Nat)
  | logRecord (slot : Nat)
  deriving DecidableEq, Repr, Inhabited

/-- A point or vector of three coordinates. -/
abbrev V3 := Int × Int × Int

/-- A correlation at a tap: its offset from prompt in 1/32 chip, in-phase and quadrature. -/
structure Tap where
  off : Int
  i   : Int
  q   : Int
  deriving DecidableEq, Repr, Inhabited

/-- What a channel's correlators give at the end of one coherent interval (R330, R336): the taps of the component that drives the
loops, the data component's prompt of a signal with a pilot, the length of one symbol in ms, and the magnitudes of the 32 taps of the
profile correlator. -/
structure Corr where
  taps    : List Tap
  data    : Option (Int × Int)
  ms      : Nat
  profile : List Nat
  deriving DecidableEq, Repr, Inhabited

/-- An edge of a sample port's clock, with the four data pins at it (R321). -/
structure GsEdge where
  rising : Bool
  pins   : BitVec 4
  deriving DecidableEq, Repr, Inhabited

/-- One channel's measurement at an epoch (Table 7.9): transmit time, carrier phase (2⁻¹⁶ cycle) and Doppler (2⁻¹⁰ Hz) of its loops, its
correlations since the last epoch, and the unit vector to the satellite in east, north and up (2⁻³⁰), when the base solution gives
one (R356). -/
structure ChanMeas where
  channel  : Nat
  txWeek   : Nat
  txTowMs  : Nat
  txFrac   : Nat
  phase    : Int
  doppler  : Int
  corr     : List Corr
  sight    : Option V3
  deriving DecidableEq, Repr, Inhabited

/-- What a channel's loops show when its lock state is judged (Table 7.7): frequency error in mHz and code discriminator in
10⁻³ chip with the time both have held in ms, its correlations since it was last judged, oldest first, transmit time decoded, preamble
polarity resolved, and whether that polarity asks for the half-cycle correction. -/
structure LockObs where
  freqErr  : Nat
  codeDisc : Nat
  heldMs   : Nat
  corr     : List Corr
  txDecoded : Bool
  polarity : Bool
  invert   : Bool
  deriving DecidableEq, Repr, Inhabited

/-- What an epoch of Tracking measures (R346): the instants of each group's first samples, and its channels. -/
structure EpochMeas where
  firsts : List Nat
  chans  : List ChanMeas
  deriving DecidableEq, Repr, Inhabited

/-- A millisecond of a sample port (R321, R323, R325): the edges of its clock, and its sample counter as captured. -/
structure GsTick where
  edges   : List GsEdge
  counter : Nat
  deriving DecidableEq, Repr, Inhabited

/-- A decoded navigation message unit (Table 7.10): TIME64 of its first symbol, its signal, whether its parity or CRC passed, antenna B,
its bits in order of transmission. -/
structure NavUnit where
  first   : Int
  system  : Nat
  sat     : Nat
  signal  : Nat
  passed  : Bool
  antB    : Bool
  bits    : List Bool
  deriving DecidableEq, Repr, Inhabited

/-- What a navigation message brings: UTC parameters (R658), and the broadcast offset of its system from the system's UTC realisation in ns,
whole leap seconds left out (R349). -/
structure NavNews where
  utc     : Option (Int × Nat × Int)
  offset  : Option Int
  deriving DecidableEq, Repr, Inhabited

/-- A signal of a satellite predicted in view: elevation in degrees, age of its ephemeris in seconds (none held: no value),
and whether an almanac less than 7 days old is held. -/
structure SkySignal where
  system : Nat
  sat    : Nat
  signal : Nat
  elev   : Int
  ephAge : Option Nat
  almanac : Bool
  deriving DecidableEq, Repr, Inhabited

/-- A signal found by a search: detection ratio in 0.1 dB, code phase and Doppler in the units of Table 8.8. -/
structure Found where
  system : Nat
  sat    : Nat
  signal : Nat
  ratio  : Nat
  codePhase : Nat
  doppler : Int
  deriving DecidableEq, Repr, Inhabited

/-- A satellite as its broadcast ephemeris places it: ECEF position (0.1 mm) and velocity (0.1 mm/s) at the transmission of what is
received now, in the Earth-fixed frame of the reception, and its clock's offset (10⁻¹² s). The formats of ephemerides are those of
the signals' interface specifications. -/
structure SatEph where
  system : Nat
  sat    : Nat
  pos    : V3
  vel    : V3
  clock  : Int
  deriving DecidableEq, Repr, Inhabited

/-- Samples that an antenna's two ports gave, decimated to the rates of R377 with the band centre at 0 Hz: I and Q, first sample first
(R395, R400). -/
structure Snapshot where
  l1 : List (Int × Int)
  l5 : List (Int × Int)
  deriving DecidableEq, Repr, Inhabited

/-- What a search of the device's own is developed from: its samples, and the satellites. -/
structure OwnCapture where
  cap : Snapshot
  sky : List SatEph
  deriving DecidableEq, Repr, Inhabited

/-- What a base epoch is solved from: its nominal instant, and the satellites. -/
structure BaseTick where
  nominal : Int
  sky     : List SatEph
  deriving DecidableEq, Repr, Inhabited

/-- A radio frame as it arrives (Table 12.3): header fields, sealed payload, and whether its FCS is good. -/
structure RadioFrame where
  ftype   : Nat
  flags   : Nat
  id      : Nat
  counter : Nat
  event   : Nat
  body    : Sealed
  fcsGood : Bool
  deriving DecidableEq, Repr, Inhabited

/-- A PTP message inside an Ethernet frame: the fields the device reads or writes (R686 to R701): messageType, domainNumber,
sequenceId, sourcePortIdentity, correctionField, two-step flag, its timestamp in ns, requestingPortIdentity, transport (0 Layer 2,
1 UDP/IPv4, 2 UDP/IPv6), UDP checksum, the word after the message over UDP/IPv6 where there is one, and the fields of Announce. -/
structure PtpMsg where
  mtype     : Nat
  domain    : Nat
  seqId     : Nat
  source    : Nat
  correction : Int
  twoStep   : Bool
  stamp     : Int
  requester : Nat
  transport : Nat
  checksum  : Nat
  tail      : Option Nat
  priority1 : Nat
  clockClass : Nat
  accuracy  : Nat
  variance  : Nat
  priority2 : Nat
  grandmaster : Nat
  steps     : Nat
  timeSource : Nat
  utcOffset : Int
  traceable : Bool
  deriving DecidableEq, Repr, Inhabited

/-- A CAN frame (Table 15.4). -/
structure CanFrame where
  id   : Nat
  ide  : Bool
  fdf  : Bool
  brs  : Bool
  esi  : Bool
  rtr  : Bool
  dlc  : Nat
  data : Bytes
  deriving DecidableEq, Repr, Inhabited

/-- How a transmit attempt ends (R728 to R733). -/
inductive CanAttempt where
  | success | lostArbitration | ackError | otherError
  deriving DecidableEq, Repr, Inhabited

/-- A row of an SRAM bank of an island, with the region of Table 19.10 it lies in (R896, R897). -/
structure SramRow where
  island : Island
  bank   : Nat
  row    : Nat
  region : Nat
  deriving DecidableEq, Repr, Inhabited

/-- Where a corrected error fell: in logic or a buffer, in an SRAM row, or in an LPDDR page (R72, R896, R898); or in one of the three
copies of the time count, or of a latch of the island's Stop Bath channel (R49), with the value it upset that copy to; or of the flag of a
Comb bucket (R312). -/
inductive EccAt where
  | elsewhere
  | row (bank row : Nat)
  | page (n : Nat)
  | timeCopy (copy : Nat) (v : Int)
  | latchCopy (copy scope target bits : Nat)
  | openFlag (copy bucket : Nat)
  deriving DecidableEq, Repr, Inhabited

/-- A load or store of a hart: physical address, bytes, and the value a store writes (R786). -/
structure HartAccess where
  addr  : Nat
  size  : Nat
  store : Option Nat
  deriving DecidableEq, Repr, Inhabited

/-- What a hart looks at: half of the descriptor of an index (R763), any access of its address map that no other row carries, at an address
(Table 16.7), or its time CSR (R785). -/
inductive PeekAt where
  | half (high : Bool)
  | access (size : Nat) (store : Option Nat)
  | time
  deriving DecidableEq, Repr, Inhabited

/-- What was being written to the flash when power failed: a boot record or a Keyring record, whose tag then fails, or a mirror slot, whose CRC
does (R816, R834, R920). -/
inductive Torn where
  | none | boot | keyring | mirror
  deriving DecidableEq, Repr, Inhabited

/-- VDD_AON rises: when, and what the power failure before it tore. -/
structure PowerUp where
  t    : Nat
  torn : Torn
  deriving DecidableEq, Repr, Inhabited

/-- Who asks for a change of keys, and whether the flash takes it (R816). -/
structure FlashAsk where
  caller  : Caller
  flashOk : Bool
  deriving DecidableEq, Repr, Inhabited

/-- A segment of an update, and whether the flash takes it (R844). -/
structure FlashData where
  bytes   : Bytes
  flashOk : Bool
  deriving DecidableEq, Repr, Inhabited

/-- Who asks for a bank to be written, and how many of its blocks the flash fails (R856). -/
structure WornAsk where
  caller : Caller
  worn   : Nat
  deriving DecidableEq, Repr, Inhabited

/-- The value of a USDO download with its data type (R147). -/
structure UsdoData where
  type  : CanType
  bytes : Bytes
  deriving DecidableEq, Repr, Inhabited

/-- What ends a blocked FETCH before its timeout (R765). -/
inductive FetchWake where
  | grant | interrupt
  deriving DecidableEq, Repr, Inhabited

end Sys2Proof
end

