-- ==== Sys2Proof/Syntax.lean ====
section
/-!
DEFINITION. The commands of the device, one constructor per row of the opcode table, in its order. The first operand of each
is `t`, the instant of its arrival in ns on the device's own count (log entry 1); the others are what the row's event brings
with it: who makes an access, an address, a value, a frame, a measurement. Each docstring is the row's rule and summary.
-/

namespace Sys2Proof

inductive Instr where
  /-- R89. A write to a dictionary object that has no row of its own is checked in the order of R112 and applied, or stored, under its access mode. -/
  | dictWrite (t : Nat) (c : Caller) (idx : Nat) (sub : Nat) (v : Bytes)
  /-- R119. A HELLO datagram is received and answered with an ACCEPT that opens a session, or is dropped and logged as EV_COIL_REFUSED. -/
  | coilHello (t : Nat) (raw : Bytes)
  /-- R127. A DATA datagram is checked for tag and replay and its operation records are taken in order; a malformed record is answered VALUE_INVALID. -/
  | coilData (t : Nat) (hdr : Bytes) (body : Sealed)
  /-- R132. The READ opcode returns the whole value of an object, or is refused with TOO_LARGE when the value exceeds 1,348 bytes. -/
  | coilRead (t : Nat) (s : Nat) (req : Nat) (idx : Nat) (sub : Nat)
  /-- R132. The WRITE opcode writes the whole value of an object after the checks of R112. -/
  | coilWrite (t : Nat) (s : Nat) (req : Nat) (idx : Nat) (sub : Nat) (v : Bytes)
  /-- R133. The BLOCK_READ opcode returns the bytes of a value from the given offset, together with the object's generation. -/
  | blockRead (t : Nat) (s : Nat) (req : Nat) (idx : Nat) (sub : Nat) (off : Nat) (max : Nat)
  /-- R134. One BLOCK_WRITE segment is checked for order and length; the segment that completes the total applies the whole value. -/
  | blockWrite (t : Nat) (s : Nat) (req : Nat) (idx : Nat) (sub : Nat) (off : Nat) (total : Nat) (data : Bytes)
  /-- R102. The COMMIT opcode with param 0x01 validates the named stage group's shadow set and makes it active. -/
  | coilCommit (t : Nat) (s : Nat) (req : Nat) (idx : Nat) (sub : Nat)
  /-- R109. The COMMIT opcode with param 0x02 returns the group's shadow to the active set and ends the editor's hold. -/
  | coilDiscard (t : Nat) (s : Nat) (req : Nat) (idx : Nat) (sub : Nat)
  /-- R90. One TRANSACT segment to a port object is taken; the completing segment sends the whole request to the port. -/
  | transact (t : Nat) (s : Nat) (req : Nat) (idx : Nat) (sub : Nat) (off : Nat) (total : Nat) (data : Bytes)
  /-- R139. The SUBSCRIBE opcode creates, replaces or cancels the session's subscription to an object. -/
  | subscribe (t : Nat) (s : Nat) (req : Nat) (idx : Nat) (sub : Nat) (param : Nat)
  /-- R141. A subscription falls due and the device sends a NOTIFY record with the value, or with the outcome of the failed read. -/
  | notify (t : Nat) (s : Nat) (idx : Nat) (sub : Nat)
  /-- R130. A CLOSE datagram from the host ends the session, and the device answers it with one CLOSE of its own. -/
  | coilClose (t : Nat) (hdr : Bytes) (body : Sealed)
  /-- R129. CoilIdleTimeout passes with no accepted datagram, and the device sends a CLOSE and ends the session. -/
  | coilIdleTimeout (t : Nat) (s : Nat)
  /-- R136. A partial block transfer receives no segment for 10 s and is abandoned. -/
  | blockTransferAbandon (t : Nat) (s : Nat) (idx : Nat) (sub : Nat)
  /-- R108. StageHoldTimeout passes with no access by the editor, the hold ends and the shadow returns to the active set. -/
  | stageHoldTimeout (t : Nat) (idx : Nat) (sub : Nat)
  /-- R109. A write to StageDiscard discards the shadow of the named commit object's group. -/
  | stageDiscard (t : Nat) (c : Caller) (idx : Nat)
  /-- R146. A USDO upload request over CAN reads a dictionary object with UsdoPrivilege. -/
  | usdoUpload (t : Nat) (port : Nat) (client : Nat) (kind : UsdoKind) (idx : Nat) (sub : Nat)
  /-- R146. A USDO download request over CAN writes a dictionary object with UsdoPrivilege. -/
  | usdoDownload (t : Nat) (port : Nat) (client : Nat) (kind : UsdoKind) (idx : Nat) (sub : Nat) (v : UsdoData)
  /-- R36. A write of 0x01 to CapCommit validates the cap profile against the silicon and stores it for the next chip reset. -/
  | capCommit (t : Nat) (c : Caller)
  /-- R46. The clashing controller stays silent for three heartbeat periods, and the clash ends. -/
  | controllerIdClashEnd (t : Nat)
  /-- R73. An island fault is detected; the gasket isolates the island, in-flight operations are discarded and the restart begins. -/
  | islandFault (t : Nat) (i : Island) (cause : FaultCause)
  /-- R74. The restart reaches t6, the gasket opens and service resumes; a Stop Bath channel first merges its latches under R81. -/
  | islandRestartEnd (t : Nat) (i : Island)
  /-- R77. An island is declared failed, is held in reset with its gasket answering ABSENT, and the action of Table 2.9 applies. -/
  | islandFailed (t : Nat) (i : Island) (cause : FailCause)
  /-- R868. An island sequencer stays silent for 100 µs, which is an island fault. -/
  | islandWatchdogExpiry (t : Nat) (i : Island)
  /-- R76. An uncorrectable error in a protected store is handled as Table 2.7 states, with no restart. -/
  | protectedStoreError (t : Nat) (store : StoreRef)
  /-- R72. A corrected ECC error is counted in the island's event counter. -/
  | correctedEccError (t : Nat) (i : Island) (where_ : EccAt)
  /-- R190. A write of 0x01 to SiteCommit validates the site frame and, at its place in the acceptance sequence, empties the Comb and applies the new frame. -/
  | siteCommit (t : Nat) (c : Caller)
  /-- R183. From CTIME 0xF0_0000_0000 onwards, EV_COMB_EPOCH_AGE is logged once every 24 hours. -/
  | combEpochAge (t : Nat)
  /-- R255. A Comb request arrives, is checked against checks 1 to 4 and enters its intake queue, or waits with its issuer while the queue is full. -/
  | combIntake (t : Nat) (c : Caller) (req : Bytes)
  /-- R257. The acceptance stage takes the next operation by source priority and gives it an acceptance sequence number and t_acc. -/
  | combAccept (t : Nat)
  /-- R221. A CLAIM is rasterised and judged, and its new track is stored all-or-nothing. -/
  | claim (t : Nat) (seq : Nat)
  /-- R228. A PROBE judges a track or area at a series of time shifts and stores nothing. -/
  | probe (t : Nat) (seq : Nat)
  /-- R231. An AMEND replaces a live track with a new one all-or-nothing. -/
  | amend (t : Nat) (seq : Nat)
  /-- R233. A RELEASE ends one track, or every track of an owner, from a given CTIME. -/
  | release (t : Nat) (seq : Nat)
  /-- R236. An AREA stores a keep-out or maintenance area; with force set it truncates machine entries. -/
  | area (t : Nat) (seq : Nat)
  /-- R230. A QUERY returns up to 32 live entries of one cell. -/
  | query (t : Nat) (seq : Nat)
  /-- R264. An earlier operation that a waiting request depends on reaches its outcome, and the waiting request resumes its judgement. -/
  | combWaitResume (t : Nat) (seq : Nat)
  /-- R244. A trim accepted on the internal path shortens the entries of a trim-flagged track behind the machine. -/
  | combTrim (t : Nat) (seq : Nat)
  /-- R240. The sweep visits a bucket and reclaims its dead entries. -/
  | combSweep (t : Nat) (bucket : Nat)
  /-- R311. An uncorrectable error in a Comb slot sets that slot blocked and logs EV_COMB_BLOCKED. -/
  | combBlocked (t : Nat) (bucket : Nat) (slot : Nat)
  /-- R313. CtimeNow passes t_detect plus 3,600,000 ms, and the blocked slot becomes free. -/
  | combBlockExpiry (t : Nat) (bucket : Nat) (slot : Nat)
  /-- R314. A write of 0x01 to CombClearBlocked frees every blocked slot while a stop of scope all is latched. -/
  | combClearBlocked (t : Nat) (c : Caller)
  /-- R316. The last live entry of a Comb region that is being retired dies; the region is retired and EV_COMB_RETIRE is logged. -/
  | combRetire (t : Nat) (group : Nat)
  /-- R273. A write of 0x01 to RegionCommit validates the region group and puts every neighbour into state syncing. -/
  | regionCommit (t : Nat) (c : Caller)
  /-- R280. A received PREPARE is judged as a request of the foreign owner, written tentative and answered. -/
  | prepare (t : Nat) (c : Caller) (msg : Bytes)
  /-- R281. The answer to a PREPARE arrives; when every PREPARE is answered DONE the request commits and sends COMMIT, otherwise it is refused and sends ABORT. -/
  | prepareAnswer (t : Nat) (n : Nat) (exch : Nat) (resp : Bytes)
  /-- R282. A PREPARE goes unanswered for CombPrepareTimeout, and the request is refused with ABORT sent. -/
  | prepareTimeout (t : Nat) (exch : Nat)
  /-- R283. A COMMIT or ABORT not yet answered is sent again every 2 ms, until CombPrepareTimeout. -/
  | commitAbortRepeat (t : Nat) (n : Nat) (exch : Nat)
  /-- R284. A received COMMIT replaces the foreign track's entries with the prepared entries in one step. -/
  | regionCommitMessage (t : Nat) (c : Caller) (msg : Bytes)
  /-- R285. A received ABORT removes the prepared entries, or removes presumed entries under R287. -/
  | regionAbort (t : Nat) (c : Caller) (msg : Bytes)
  /-- R286. Neither COMMIT nor ABORT arrives within CombPrepareTimeout, and the receiver commits the prepared entries and logs EV_COMB_PRESUMED. -/
  | combPresumed (t : Nat) (n : Nat) (exch : Nat)
  /-- R288. A received SHORTEN shortens or removes the named foreign entries on the internal path. -/
  | shorten (t : Nat) (c : Caller) (msg : Bytes)
  /-- R306. A received SYNC replaces the sender's foreign entries with the records it carries, written as committed. -/
  | sync (t : Nat) (c : Caller) (msg : Bytes)
  /-- R308. The neighbour's answer to this controller's last SYNC arrives; once both ways are complete, the neighbour becomes live. -/
  | syncAnswer (t : Nat) (n : Nat)
  /-- R298. At the start of each heartbeat period, a HEARTBEAT is sent to each neighbour over Ethernet. -/
  | heartbeatSend (t : Nat)
  /-- R299. A received heartbeat is validated and counted for its period, and may move the neighbour's state. -/
  | regionHeartbeat (t : Nat) (c : Caller) (msg : Bytes)
  /-- R301. Three consecutive periods pass with no valid heartbeat; the neighbour is declared lost and its band freezes. -/
  | neighbourLost (t : Nat) (n : Nat)
  /-- R346. At a nominal epoch instant, Tracking posts one measurement packet per group to TrackRecordQueue. -/
  | trackEpoch (t : Nat) (meas : EpochMeas)
  /-- R351. A navigation message unit is decoded and posted to TrackNavQueue. -/
  | navMessage (t : Nat) (msg : NavUnit) (news : NavNews)
  /-- R341. A channel meets a condition of Table 7.7 and changes its lock state. -/
  | channelLockTransition (t : Nat) (ch : Nat) (obs : LockObs)
  /-- R341. FREQ is not reached within 500 ms of PULL_IN; the channel returns to IDLE and re-acquisition is requested. -/
  | pullInTimeout (t : Nat) (ch : Nat)
  /-- R341. A channel has been in COAST for 1 s; it returns to IDLE and re-acquisition is requested. -/
  | coastTimeout (t : Nat) (ch : Nat)
  /-- R334. A watch channel's 100 ms dwell ends; it tests its offset, may set second_peak, and moves to the next offset. -/
  | watchDwell (t : Nat) (ch : Nat) (power : Nat)
  /-- R335. 10 s pass after second_peak was set, and the flag clears. -/
  | secondPeakClear (t : Nat) (system : Nat) (sat : Nat) (sig : Nat)
  /-- R325. Every 1 ms, the automatic gain duty is updated and the AGC-limit and jam conditions are checked. -/
  | agcUpdate (t : Nat) (port : Nat) (tick : GsTick)
  /-- R327. 10 s pass with neither jam condition, and the jam bit clears. -/
  | gsJamClear (t : Nat) (port : Nat)
  /-- R328. A sample port clock stops; every channel of the group enters COAST and EV_GS_CLOCK_LOST is logged. -/
  | gsClockLost (t : Nat) (port : Nat)
  /-- R328. A lost sample port clock returns, and EV_GS_CLOCK_BACK is logged. -/
  | gsClockBack (t : Nat) (port : Nat)
  /-- R329. A port's elastic store overflows or underruns; samples are dropped to the next tick and the gap is flagged. -/
  | gsGap (t : Nat) (port : Nat)
  /-- R360. A write of 0x01 to TrackCommit validates the tracking group, which takes effect at the next nominal epoch instant. -/
  | trackCommit (t : Nat) (c : Caller)
  /-- R361. A write of 1 to TrackMode enters Tracking standby while a stop of scope all is latched. -/
  | trackStandbyEnter (t : Nat) (c : Caller)
  /-- R362. A write of 0 to TrackMode ends standby, and assisted acquisition begins. -/
  | trackStandbyExit (t : Nat) (c : Caller)
  /-- R380. A machine exposure packet arrives, is checked against checks 1 to 4 and stored as a latent record. -/
  | devExposureArrival (t : Nat) (pkt : Bytes)
  /-- R381. The budget holds a waiting exposure's cost; its start checks run and its development begins. -/
  | devExposureStart (t : Nat) (sky : List SkySignal)
  /-- R390. A development ends; its result is posted, and either a conformance operation or a result notice is issued. -/
  | devResult (t : Nat) (slot : Nat) (sky : List SatEph)
  /-- R394. An own acquisition search, or one part of it, starts when its budget allows. -/
  | devOwnSearchStart (t : Nat)
  /-- R398. An own search part ends, and each signal found is handed over to Tracking. -/
  | devOwnSearchDone (t : Nat) (x : OwnCapture)
  /-- R394. Every 10 s, a search is issued for each allotted signal of a satellite predicted in view whose channel is IDLE. -/
  | devReacquireTick (t : Nat) (sky : List SkySignal)
  /-- R400. In standby, an exposure is taken from GS0 and GS1 at every multiple of DevStandbyPeriod. -/
  | devStandbyExposure (t : Nat)
  /-- R401. A standby exposure is developed; it offers a time offset to the Timebase and may log EV_DEV_STANDBY_POSITION. -/
  | devStandbyResult (t : Nat) (x : OwnCapture)
  /-- R427. A base epoch solves antenna A, runs the integrity checks, moves BaseState and the survey, and offers GNSS time. -/
  | baseEpoch (t : Nat) (tick : BaseTick)
  /-- R413. A write of 0x01 to BaseCommit validates the base group, which takes effect at the next nominal epoch instant. -/
  | baseCommit (t : Nat) (c : Caller)
  /-- R414. A write of 0x01 to BaseSurveyStart starts a standalone survey. -/
  | surveyStartStandalone (t : Nat) (c : Caller)
  /-- R414. A write of 0x02 to BaseSurveyStart starts a network survey. -/
  | surveyStartNetwork (t : Nat) (c : Caller)
  /-- R414. A write of 0x00 to BaseSurveyStart abandons a running or paused survey. -/
  | surveyAbandon (t : Nat) (c : Caller)
  /-- R440. A request to BaseNetPort delivers reference-network RTCM frames, which are accepted or skipped. -/
  | baseNetPort (t : Nat) (c : Caller) (req : Bytes)
  /-- R454. An observation record arrives, passes or fails checks 1 to 5, and issues a reported-position conformance operation. -/
  | roverObsArrival (t : Nat) (pkt : Bytes)
  /-- R458. The rover budget and the in-flight limit admit a waiting epoch; checks 6 to 8 run and solving begins. -/
  | roverEpochStart (t : Nat)
  /-- R469. A rover epoch commits its new state block, posts its fix record and issues a conformance operation. -/
  | roverEpochDone (t : Nat) (slot : Nat) (sky : List SatEph)
  /-- R467. A write of 0x01 to RoverReset makes the slot's filter re-initialise at its next epoch. -/
  | roverReset (t : Nat) (c : Caller) (slot : Nat)
  /-- R496. A fix conformance operation is judged by the EXCURSION and pair tests, posts a verdict and may start a trim. -/
  | confFix (t : Nat) (slot : Nat)
  /-- R496. A reported-position conformance operation is judged by the EXCURSION test and by pair tests with earlier positions. -/
  | confReported (t : Nat) (slot : Nat)
  /-- R500. A developed-position conformance operation is judged by the DISAGREE pair test. -/
  | confDeveloped (t : Nat) (slot : Nat)
  /-- R506. A result notice for a development result that is not FIXED sets policy row 6. -/
  | confResultNotice (t : Nat) (slot : Nat)
  /-- R502. Every 10 ms, freshness is evaluated per slot and kind, and zone membership is reported to both channels. -/
  | confFreshnessTick (t : Nat)
  /-- R510. Once per second, the device rows for time quality and BaseState are evaluated. -/
  | confDeviceTick (t : Nat)
  /-- R513. A write of 0x01 to PolicyCommit validates the policy columns and applies them at once. -/
  | policyCommit (t : Nat) (c : Caller)
  /-- R515. A write of a mode to SwarmCommand makes a new fleet-mode change pending. -/
  | swarmCommand (t : Nat) (c : Caller) (v : Bytes)
  /-- R516. A write of mode 0xFF to SwarmCommand cancels the pending command before its instant. -/
  | swarmCancel (t : Nat) (c : Caller) (v : Bytes)
  /-- R518. The command's instant arrives; FleetMode takes the new mode, and so does AckedMode for each slot already acknowledged. -/
  | swarmInstant (t : Nat)
  /-- R519. The command's deadline arrives, and each slot still unacknowledged meets policy row 8. -/
  | swarmDeadline (t : Nat)
  /-- R529. A level change on a stop input pin starts its debounce. -/
  | siPinChange (t : Nat) (input : Nat) (pin : Nat) (level : Bool)
  /-- R530. A pin holds its level for the debounce time; the input enters stop and sets its latch, or returns to go. -/
  | siDebounceExpiry (t : Nat) (input : Nat) (pin : Nat)
  /-- R531. An input's two debounced pin states differ for longer than the discrepancy time, and the input enters discrepancy lock. -/
  | siDiscrepancy (t : Nat) (input : Nat)
  /-- R535. Output readback differs from the expected level for 50 µs; an output fault sets the latch with source 8. -/
  | soFault (t : Nat) (output : Nat) (p : Bool) (n : Bool)
  /-- R536. Once per second, a pulse-tested output is released for test_width. -/
  | soPulseTest (t : Nat) (output : Nat)
  /-- R536. The test width ends; the readback is judged, and the output fault is raised or cleared. -/
  | soPulseTestEnd (t : Nat) (output : Nat) (p : Bool) (n : Bool)
  /-- R537. A write to StopCommand sets the named latch in both channels and logs EV_STOP_COMMAND. -/
  | stopCommand (t : Nat) (c : Caller) (v : Bytes)
  /-- R541. A neighbour stop notice arrives and sets the all latch or a band zone latch with source 7, or is ignored. -/
  | stopNeighbourNotice (t : Nat) (c : Caller) (msg : Bytes)
  /-- R542. An unanswered stop notice is repeated every 2 ms, for up to 200 ms. -/
  | stopNoticeRepeat (t : Nat) (n : Nat)
  /-- R543. Every 10 µs, each channel sends the Radio island a vote of go bits and stop epochs. -/
  | stopVote (t : Nat)
  /-- R549. The two channels' go bits or stop epochs differ for more than 40 µs, and each channel sets the all latch with source 10. -/
  | stopChannelDisagree (t : Nat)
  /-- R556. A write to ReleaseArm arms the first step of a release and sets ReleaseArmed with an arm_number. -/
  | releaseArm (t : Nat) (c : Caller) (v : Bytes)
  /-- R561. A write to ReleaseConfirm checks the arm and, if accepted, clears the named latches in both channels. -/
  | releaseConfirm (t : Nat) (c : Caller) (v : Bytes)
  /-- R596. At a link's anchor, the device tunes the radio and sends its frame, carrying the token and any stop frame. -/
  | linkEvent (t : Nat) (slot : Nat)
  /-- R599. A machine reply is received and checked; its elements and segments are taken, which may connect the link. -/
  | linkReplyReceived (t : Nat) (slot : Nat) (frame : RadioFrame) (offset : Int) (rssi : Int)
  /-- R602. No machine frame is accepted for the supervision time, and the link ends. -/
  | linkSupervisionTimeout (t : Nat) (slot : Nat)
  /-- R603. 8 events pass in JOINING without CONNECTED, and the link returns to IDLE. -/
  | linkJoinTimeout (t : Nat) (slot : Nat)
  /-- R604. At its instant, a modem sends its beacon, carrying the heartbeat when one is due. -/
  | beaconSend (t : Nat) (modem : Nat)
  /-- R608. A join request is received, checked and answered with a join response that may admit a link. -/
  | joinRequest (t : Nat) (modem : Nat) (frame : RadioFrame)
  /-- R606. A neighbour's beacon is heard on a listen, and its heartbeat counts as arriving by radio. -/
  | neighbourBeacon (t : Nat) (modem : Nat) (n : Nat) (frame : RadioFrame)
  /-- R613. At its instant, a modem fills and sends a waggle broadcast of swarm, RTCM and fleet elements. -/
  | waggleSend (t : Nat) (modem : Nat)
  /-- R586. A write of 0x01 to RadioCommit validates the radio group and applies channel, placement and map changes. -/
  | radioCommit (t : Nat) (c : Caller)
  /-- R606. A write to RadioNeighbourListen places a listen reservation on a modem, or removes it. -/
  | radioNeighbourListen (t : Nat) (c : Caller) (n : Nat) (v : Bytes)
  /-- R619. A write to LinkParamRequest is checked and sends an UPDATE with new link parameters. -/
  | linkParamRequest (t : Nat) (c : Caller) (slot : Nat) (v : Bytes)
  /-- R617. An UPDATE's event instant arrives; the new parameters apply, and any held change is sent. -/
  | linkUpdateInstant (t : Nat) (slot : Nat)
  /-- R603. A write of 0x01 to LinkEnd ends the link with END reason 0. -/
  | linkEnd (t : Nat) (c : Caller) (slot : Nat)
  /-- R603. A write to MachineId sets the slot's machine and ends its link. -/
  | machineIdWrite (t : Nat) (c : Caller) (slot : Nat) (id : Nat)
  /-- R626. A TRANSACT to RadioSendPort sends a fleet message to a machine as stream 4. -/
  | radioSend (t : Nat) (c : Caller) (req : Bytes)
  /-- R615. A TRANSACT to RadioWagglePort queues a fleet message for waggle broadcasts on the named modems. -/
  | radioWaggle (t : Nat) (c : Caller) (req : Bytes)
  /-- R634. REFIN is lost for 10 µs, and the counter moves to the internal oscillator. -/
  | refinLost (t : Nat)
  /-- R634. REFIN has been present for 10 s, and the counter returns to it. -/
  | refinBack (t : Nat) (clock : Nat)
  /-- R638. A time source delivers an offset, which updates qualification, candidate selection and the servo. -/
  | timeOffset (t : Nat) (src : Nat) (off : Int) (bound : Nat)
  /-- R638. A source has been present and consistent for TimeQualifyTime, and becomes qualified. -/
  | timeSourceQualified (t : Nat) (src : Nat)
  /-- R642. At the next whole second of the candidate's time, TIME64 takes the candidate's value and the servo enters LOCKED. -/
  | timeAcquired (t : Nat)
  /-- R649. A write of 0x01 to TimeStepArm arms one step in HOLD_JUMP under a latched stop. -/
  | timeStepArm (t : Nat) (c : Caller)
  /-- R648. A write of 0x00 to TimeStepArm disarms the step. -/
  | timeStepDisarm (t : Nat) (c : Caller)
  /-- R648. An armed step takes effect at a whole second; TIME64 steps and CTIME follows. -/
  | timeStep (t : Nat)
  /-- R652. A scheduled leading edge of a time pulse is emitted, or skipped under R653 and R654. -/
  | timePulse (t : Nat) (output : Nat)
  /-- R652. width ns after its leading edge, the pulse's trailing edge is emitted. -/
  | timePulseEnd (t : Nat) (output : Nat)
  /-- R656. A write of 0x01 to TimePulseCommit validates a pulse value, which applies from the next admitted pulse. -/
  | timePulseCommit (t : Nat) (c : Caller) (output : Nat)
  /-- R657. 10 ms after each whole second, a mode 2 output sends its time-of-day line. -/
  | todMessage (t : Nat) (output : Nat)
  /-- R659. An edge on an enabled TC input is captured and its record posted, or held in the buffer. -/
  | timeCapture (t : Nat) (input : Nat) (rising : Bool) (quarter : Nat)
  /-- R661. The queue accepts again, and buffered capture records are posted in order. -/
  | capturePostRetry (t : Nat) (input : Nat)
  /-- R637. A write to PpsTimeOfDay names the TIME64 of the next PPS edge. -/
  | ppsTimeOfDay (t : Nat) (c : Caller) (v : Bytes)
  /-- R671. A frame is received whole on a port, timestamped, checked, learned and forwarded or dropped. -/
  | ethFrameReceived (t : Nat) (port : Nat) (groups : Bytes)
  /-- R696. A frame leaves an egress port, with any residence correction and checksum fix-up applied as it leaves. -/
  | ethFrameSent (t : Nat) (port : Nat)
  /-- R672. A learned address sees no frame for EthAgeing seconds and ages out. -/
  | ethAddressAgeing (t : Nat) (mac : Nat)
  /-- R669. A write to EthPortConfig applies at once and restarts the link on a change of mode or autoneg. -/
  | ethPortConfig (t : Nat) (c : Caller) (port : Nat) (v : Bytes)
  /-- R677. A PHY control word is received, acknowledged with 0x4001, and sets link state and speed. -/
  | sgmiiControlWord (t : Nat) (port : Nat) (word : Nat)
  /-- R681. A write of 0x01 to PtpCommit validates the PTP group, and changed ports re-enter INITIALIZING. -/
  | ptpCommit (t : Nat) (c : Caller)
  /-- R690. A Sync, or its Follow_Up, on the slave port yields an offset offered to the Timebase as source 2. -/
  | ptpSyncReceived (t : Nat) (port : Nat) (msg : PtpMsg)
  /-- R686. A received Announce feeds the best master clock algorithm and the port state machine. -/
  | ptpAnnounceReceived (t : Nat) (port : Nat) (msg : PtpMsg)
  /-- R686. announceReceiptTimeout passes without an Announce, and the port state machine acts. -/
  | ptpAnnounceTimeout (t : Nat) (port : Nat)
  /-- R691. No Sync arrives for three Sync intervals, and source 2 stops being present. -/
  | ptpSyncTimeout (t : Nat) (port : Nat)
  /-- R688. A port in MASTER sends an Announce with the clock quality of Table 14.7. -/
  | ptpAnnounceSend (t : Nat) (port : Nat)
  /-- R693. A port in MASTER sends a one-step or two-step Sync on its schedule. -/
  | ptpSyncSend (t : Nat) (port : Nat)
  /-- R695. A port sends a Delay_Req or Pdelay_Req and records its departure time. -/
  | ptpDelayReqSend (t : Nat) (port : Nat)
  /-- R694. A received Delay_Req or Pdelay_Req is answered with a Delay_Resp or Pdelay_Resp. -/
  | ptpDelayReqReceived (t : Nat) (port : Nat) (msg : PtpMsg)
  /-- R690. A received Delay_Resp or Pdelay_Resp updates the mean path delay or the peer delay. -/
  | ptpDelayRespReceived (t : Nat) (port : Nat) (msg : PtpMsg)
  /-- R716. A frame received on a CAN port is timestamped and placed with USDO, the Stop Bath, a buffer or a FIFO, or dropped. -/
  | canFrameReceived (t : Nat) (port : Nat) (sof : Nat) (frame : CanFrame)
  /-- R727. A send request to CanTxPort writes a frame into a transmit buffer, pending until its outcome. -/
  | canSend (t : Nat) (c : Caller) (req : Bytes)
  /-- R729. A cancel request ends a pending send at once, or at the end of the attempt in progress. -/
  | canCancel (t : Nat) (c : Caller) (req : Bytes) (trying : Bool)
  /-- R730. A transmit attempt ends in success, lost arbitration or an error, and updates fault confinement and the no-ack count. -/
  | canAttemptEnd (t : Nat) (port : Nat) (buf : Nat) (sof : Nat) (outcome : CanAttempt)
  /-- R732. A write of 0x01 to CanRecover starts bus-off recovery. -/
  | canRecover (t : Nat) (c : Caller) (port : Nat)
  /-- R732. 128 occurrences of 11 recessive bits complete the recovery. -/
  | canBusOffRecovered (t : Nat) (port : Nat)
  /-- R713. 11 consecutive recessive bits pass, and the controller takes part in the bus. -/
  | canIntegrationDone (t : Nat) (port : Nat)
  /-- R713. A write of 0x01 to CanPortCommit validates the port group and restarts the controller with it. -/
  | canPortCommit (t : Nat) (c : Caller) (port : Nat)
  /-- R734. A write of 0x01 to CanTmCommit validates and applies the time master value. -/
  | canTmCommit (t : Nat) (c : Caller)
  /-- R736. At each cycle boundary, every named awake port queues a reference message, and one not sent by then is dropped. -/
  | canTmBoundary (t : Nat)
  /-- R739. A write of 1 to CanSleep asks the port to sleep once the bus is idle. -/
  | canSleep (t : Nat) (c : Caller) (port : Nat)
  /-- R740. The bus becomes idle and the port enters sleep, ending its pending sends. -/
  | canSleepEntry (t : Nat) (port : Nat)
  /-- R744. A write of 0 to CanSleep wakes the port. -/
  | canWakeWrite (t : Nat) (c : Caller) (port : Nat)
  /-- R742. A dominant level of 5 µs or more in edge mode wakes a sleeping port. -/
  | canWakeEdge (t : Nat) (port : Nat) (width : Nat)
  /-- R721. A write of seq to CanBufferAck clears new_data and overwritten while the seq still matches. -/
  | canBufferAck (t : Nat) (c : Caller) (port : Nat) (buf : Nat) (seq : Nat)
  /-- R724. A FIFO posts its held frames as packets once its queue accepts them. -/
  | canFifoPost (t : Nat) (port : Nat) (fifo : Nat)
  /-- R765. A FETCH load completes the hart's current task and blocks for work. -/
  | fetch (t : Nat) (hart : Nat) (timeout : Nat)
  /-- R766. A READY task is granted to a blocked FETCH, or the FETCH returns nv on an interrupt or a Fabric restart. -/
  | fetchGrant (t : Nat) (hart : Nat) (wake : FetchWake)
  /-- R765. FETCH_TIMEOUT passes, and the FETCH returns nv with wake 1. -/
  | fetchTimeout (t : Nat) (hart : Nat)
  /-- R761. A write to COMPLETE records the outcome, decrements succ and rearms or ends the task. -/
  | complete (t : Nat) (hart : Nat) (v : Nat)
  /-- R759. A write to DECREMENT lowers a descriptor's count, or adds to its pending count. -/
  | decrement (t : Nat) (hart : Nat) (v : Nat)
  /-- R758. A SUBMIT load writes the staged descriptor, which enters WAITING or READY. -/
  | submit (t : Nat) (hart : Nat) (idx : Nat) (lo : Nat) (hi : Nat)
  /-- R771. A REISSUE load makes a DISCARDED descriptor READY with count 0. -/
  | reissue (t : Nat) (hart : Nat) (idx : Nat)
  /-- R763. A PEEK_LO or PEEK_HI load returns half of the descriptor at STAGE_INDEX. -/
  | peekDescriptor (t : Nat) (hart : Nat) (n : Nat) (look : PeekAt)
  /-- R778. A POP returns the next word of a queue packet and holds the packet, or returns nv. -/
  | pop (t : Nat) (hart : Nat) (q : Nat)
  /-- R774. A PEEK returns the word that POP would return, with no effect. -/
  | queuePeek (t : Nat) (hart : Nat) (q : Nat)
  /-- R777. A PUSH appends words to the hart's open packet, or marks the packet overflowed. -/
  | push (t : Nat) (hart : Nat) (q : Nat) (words : List Nat)
  /-- R776. An OPEN load opens a packet on the queue and reserves its length word. -/
  | queueOpen (t : Nat) (hart : Nat) (q : Nat)
  /-- R773. A write to TAG sets the tag of the hart's open packet. -/
  | tag (t : Nat) (hart : Nat) (q : Nat) (v : Nat)
  /-- R777. A CLOSE load closes the open packet; it may make packets poppable and decrement the trigger. -/
  | close (t : Nat) (hart : Nat) (q : Nat)
  /-- R775. A store to CLOSE abandons the hart's open packet. -/
  | closeAbandon (t : Nat) (hart : Nat) (q : Nat)
  /-- R780. A write to DROP ends the hart's hold and discards the unread words of the packet. -/
  | drop (t : Nat) (hart : Nat) (q : Nat)
  /-- R789. An applet SUBMIT hands a staged Comb or dictionary request to its port, or reports full. -/
  | requestWindowSubmit (t : Nat) (hart : Nat) (comb : Bool) (req : Bytes) (reply : Nat)
  /-- R790. A request window reply is posted once its queue accepts it, and the notify descriptor is decremented. -/
  | replyPost (t : Nat) (hart : Nat)
  /-- R795. An applet ANSWER record completes a TRANSACT or commit on an applet object. -/
  | answer (t : Nat) (hart : Nat) (token : Nat) (outcome : Nat) (data : Bytes)
  /-- R795. AppletAnswerTimeout passes without an answer, and the access is refused with APPLET_NO_ANSWER. -/
  | appletNoAnswer (t : Nat) (token : Nat)
  /-- R808. A write to KeyWrite installs a slot, in clear or derived, and updates the flash record. -/
  | keyWrite (t : Nat) (ask : FlashAsk) (v : Bytes)
  /-- R812. A write to KeyErase empties a slot and increments its generation. -/
  | keyErase (t : Nat) (ask : FlashAsk) (slot : Nat)
  /-- R813. A write to KeyInvalidate invalidates a slot and withdraws its descendant keys in every island before DONE. -/
  | keyInvalidate (t : Nat) (ask : FlashAsk) (slot : Nat)
  /-- R816. A persistent slot that took an uncorrectable error is reloaded from the winning flash record. -/
  | keySlotReload (t : Nat) (slot : Nat)
  /-- R819. Op 1 of KeySealPort seals data under the sealing key of the chosen measurement. -/
  | seal (t : Nat) (c : Caller) (req : Bytes)
  /-- R819. Op 2 of KeySealPort unseals a blob, or answers KEY_INVALID. -/
  | unseal (t : Nat) (c : Caller) (req : Bytes)
  /-- R820. Op 3 of KeySealPort re-seals a blob under the measurement of the staged image. -/
  | forward (t : Nat) (c : Caller) (req : Bytes)
  /-- R822. LifecycleCommand with target Provisioned moves the device from Blank or Decommissioned, with a chip reset. -/
  | lifecycleProvision (t : Nat) (c : Caller) (v : Bytes)
  /-- R822. LifecycleCommand with target Commissioned moves the device from Provisioned, with a chip reset. -/
  | lifecycleCommission (t : Nat) (c : Caller) (v : Bytes)
  /-- R822. LifecycleCommand with target Decommissioned erases keys and settings and makes a chip reset. -/
  | lifecycleDecommission (t : Nat) (c : Caller) (v : Bytes)
  /-- R829. LifecycleCommand with target Scrapped blows the scrap and root secret fuses. -/
  | lifecycleScrap (t : Nat) (c : Caller) (v : Bytes)
  /-- R842. A write to UpdateHeader checks an image header and sets the target slot to receiving. -/
  | updateHeader (t : Nat) (c : Caller) (v : Bytes)
  /-- R844. A BLOCK_WRITE segment of UpdatePayload is written; the last segment verifies the hashes and stages the slot. -/
  | updatePayload (t : Nat) (s : Nat) (req : Nat) (off : Nat) (total : Nat) (data : FlashData)
  /-- R845. A write of 0x01 to UpdateActivate names the staged slot as trial and makes a chip reset. -/
  | updateActivate (t : Nat) (c : Caller)
  /-- R846. A write of 0x01 to UpdateConfirm confirms the trial and blows the security version fuses. -/
  | updateConfirm (t : Nat) (c : Caller)
  /-- R848. A write of 0x02 to UpdateConfirm rejects the trial, which is followed by a chip reset. -/
  | updateReject (t : Nat) (c : Caller)
  /-- R848. TrialTimeout passes without confirmation, and the trial is rejected. -/
  | trialTimeout (t : Nat)
  /-- R856. A write of 0x01 to SettingsReset writes a bank of defaults, names it active and makes a chip reset. -/
  | settingsReset (t : Nat) (ask : WornAsk)
  /-- R858. A BLOCK_READ of ConfigExport returns the signed configuration image. -/
  | configExport (t : Nat) (s : Nat) (req : Nat) (off : Nat) (max : Nat)
  /-- R860. A write to ConfigImport verifies an image and writes it into the other bank for the next chip reset. -/
  | configImport (t : Nat) (ask : WornAsk) (v : Bytes)
  /-- R861. Every 10 s, a carried stage group commit refused with outcome 0x12 is tried again. -/
  | configCommitRetry (t : Nat)
  /-- R862. A write of 0x01 to BoantEnter makes a chip reset into Boant. -/
  | boantEnter (t : Nat) (c : Caller)
  /-- R863. Boant op INFO returns the serial number, versions, life-cycle state and slot states. -/
  | boantInfo (t : Nat) (port : Nat) (msg : Bytes)
  /-- R863. Boant op HEADER takes a kind 1 header and checks it after its last byte. -/
  | boantHeader (t : Nat) (port : Nat) (msg : Bytes)
  /-- R863. Boant op DATA writes payload bytes at an offset, contiguously. -/
  | boantData (t : Nat) (port : Nat) (msg : Bytes)
  /-- R864. Boant op FINISH verifies the hashes, makes the slot the trial slot and makes a chip reset. -/
  | boantFinish (t : Nat) (port : Nat) (msg : Bytes)
  /-- R863. Boant op RESET makes a chip reset. -/
  | boantReset (t : Nat) (port : Nat) (msg : Bytes)
  /-- R868. VDD_AON rises through its threshold, a power-on reset is asserted, and it is released 1 ms later. -/
  | por (up : PowerUp)
  /-- R935. A monitored rail stays below its threshold for 1 µs, and a power-on reach reset is asserted. -/
  | bor (t : Nat)
  /-- R935. Every rail has been above its threshold plus 20 mV for 1 ms, and BOR is released. -/
  | borRelease (t : Nat)
  /-- R874. A recognised low on RESET_N asserts a chip reset with source 2. -/
  | resetNLow (t : Nat)
  /-- R874. RESET_N rises, and source 2 is released within 1 µs. -/
  | resetNHigh (t : Nat)
  /-- R869. The global watchdog is not serviced within its period, and a chip reset is asserted with source 3. -/
  | globalWatchdog (t : Nat)
  /-- R868. A reset request on DBG asserts a chip reset while DbgResetEnable is true. -/
  | debugReset (t : Nat)
  /-- R871. ResetCommand with reach 1 asserts a chip reset under a latched stop. -/
  | resetChip (t : Nat) (c : Caller)
  /-- R871. ResetCommand with reach 2 asserts a system reset under a latched stop. -/
  | resetSystem (t : Nat) (c : Caller)
  /-- R871. ResetCommand with reach 3 resets one island of 5 to 10 under a latched stop. -/
  | resetIsland (t : Nat) (c : Caller) (island : Nat)
  /-- R885. ResetCommand with reach 4 resets one block of Table 19.4. -/
  | resetBlock (t : Nat) (c : Caller) (island : Nat) (block : Nat)
  /-- R874. The wipes of a reset's reach complete, and the source asserted until then is released. -/
  | wipeComplete (t : Nat) (code : Nat)
  /-- R880. Every island of the rows above is running or failed, and the next row of Table 19.5 is released. -/
  | releaseRow (t : Nat)
  /-- R879. Clock-good has not come within 2 ms of the start of an island's release, and the island stays in reset as failed. -/
  | islandClockTimeout (t : Nat) (i : Island)
  /-- R890. An island sensor reads above 125 °C, and EV_TEMP_HIGH is logged. -/
  | tempHigh (t : Nat) (i : Island) (temp : Int)
  /-- R890. A temperature above 140 °C for 1 ms asserts a thermal trip chip reset. -/
  | thermalTrip (t : Nat) (i : Island) (temp : Int)
  /-- R890. Every sensor reads 115 °C or below, and the thermal trip is released. -/
  | thermalTripRelease (t : Nat) (temps : List Int)
  /-- R894. Each second, the margin planner samples replica slack and may raise the core voltage or lower an island's step. -/
  | marginSample (t : Nat) (slacks : List Int) (temps : List Int)
  /-- R891. The operations in flight in the island complete, and the island's clock switches to its new step. -/
  | islandStepChange (t : Nat) (i : Island)
  /-- R940. The VREQ code moves by one step towards the request, at most once in any 1 ms. -/
  | vreqStep (t : Nat)
  /-- R896. A failing SRAM row is replaced by a spare, or its region is retired when no spare remains. -/
  | sramRowSpare (t : Nat) (row : SramRow) (unc : Bool)
  /-- R898. A failing LPDDR page is retired, up to 1,024 pages. -/
  | lpddrPageRetire (t : Nat) (page : Nat) (unc : Bool)
  /-- R899. A write to CounterSelect clears the counter and sets its source and parameter. -/
  | counterSelect (t : Nat) (c : Caller) (n : Nat) (v : Nat)
  /-- R901. A write of 0x01 to CounterSnapshot copies all 64 counters at once. -/
  | counterSnapshot (t : Nat) (c : Caller)
  /-- R910. An event is offered to the Logbook; it folds into the open record, is staged, or is lost. -/
  | logEvent (t : Nat) (code : Nat) (sev : Nat) (island : Nat) (params : Bytes)
  /-- R911. The writer takes the next staged event and writes it as a record, overwriting under R914. -/
  | logRecordWrite (t : Nat)
  /-- R909. 1 s passes after an open record was written, and the record closes. -/
  | logRecordClose (t : Nat)
  /-- R918. A closed error or critical record is written whole to the flash mirror when the flash is free. -/
  | logMirrorWrite (t : Nat) (ok : Bool)
  /-- R921. At each multiple of LogTimeMarkPeriod of TIME64, an EV_TIME_MARK record is written. -/
  | timeMark (t : Nat)
  /-- R922. A request to LogQuery returns up to 20 records at or above a seq and severity. -/
  | logQuery (t : Nat) (c : Caller) (req : Bytes)
  /-- R924. A write to SEEK looks up the slot of the smallest seq at or above the value. -/
  | logSeek (t : Nat) (hart : Nat) (seq : Nat)
  /-- R924. A write to EMIT offers an applet event with the staged params to the Logbook. -/
  | emit (t : Nat) (hart : Nat) (word : Nat) (params : Bytes)
  /-- R869. Firmware services the global watchdog, which restarts its GlobalWatchdogPeriod. -/
  | globalWatchdogService (t : Nat)
  /-- R890. Every sensor reads below 120 °C, and the high-temperature condition logged as EV_TEMP_HIGH clears. -/
  | tempHighClear (t : Nat) (temps : List Int)
  /-- R638. A time source stops delivering offsets at its rate, for example PPS edges cease, so it stops being present, loses qualification, and the servo may enter HOLDOVER or HOLD_JUMP. -/
  | timeSourceNotPresent (t : Nat) (src : Nat)
  /-- R677. A port's PCS gains or loses synchronisation, which takes the link up or down when autoneg is not used. -/
  | pcsSyncChange (t : Nat) (port : Nat) (synced : Bool)
  /-- R731. A bus error detected while receiving raises the receive error counter, sends an error frame, and may move the port to error-passive or bus-off. -/
  | canErrorFrame (t : Nat) (port : Nat)
  /-- R536. A stop output pin that showed a readback fault returns to its expected level, and the output fault ends for release under rule 2 of Table 11.9. -/
  | soFaultEnd (t : Nat) (output : Nat) (p : Bool) (n : Bool)
  /-- R586. At the next hyperperiod boundary after a radio commit, beacon, waggle and listen placements are recomputed. -/
  | hyperperiodBoundary (t : Nat) (modem : Nat)
  /-- R338. A channel's ±2d or ±3d taps have been stronger than prompt for 100 ms, so it moves its code one side-peak spacing and increments slip_count. -/
  | bumpJump (t : Nat) (ch : Nat) (corr : List Corr)
  /-- R293. The device, as host, receives a neighbour's ACCEPT and opens the Coil session that carries region messages and heartbeats to that neighbour. -/
  | neighbourSessionOpen (t : Nat) (n : Nat) (accept : Bytes)
  /-- R283. A neighbour answers a COMMIT, ABORT or stop notice, and the repeats of R283 or R542 for that message stop. -/
  | neighbourAnswer (t : Nat) (n : Nat) (exch : Nat)
  deriving DecidableEq, Repr, Inhabited

end Sys2Proof
end

