-- ==== Sys2Proof/Config.lean ====
section
/-!
DEFINITION. The free values: what the spec says the device draws at random, or leaves unstated, or takes from a published standard
that it does not reproduce. None has a body, so nothing can be proved of the value one takes; the step draws a fresh one by the
counter `State.free`, or applies it to the operands it depends on (log entries 6 and 7).
-/

namespace Sys2Proof.Config

/-- A fresh number for each draw: session identifiers, arm numbers, link identifiers, exchange nonces. -/
opaque rand : Nat → Nat

/-- A fresh byte string for each draw: nonces and initialisation vectors. -/
opaque randBytes : Nat → Bytes

/-- AES-256-GCM: the keystream of a key and nonce, of a number of bytes, and the tag over additional data and ciphertext. -/
opaque gcmStream : (key nonce : Bytes) → Nat → Bytes
opaque gcmTag : (key nonce aad cipher : Bytes) → Bytes

/-- AES-CCM with an 8-byte MIC: the keystream of a key and nonce, of a number of bytes, and the MIC over additional data and plaintext. -/
opaque ccmStream : (key nonce : Bytes) → Nat → Bytes
opaque ccmMic : (key nonce aad plain : Bytes) → Bytes

/-- ECDSA P-384 verification of a signature over SHA-384 of the bytes, by an uncompressed point. -/
opaque verify : (point message signature : Bytes) → Bool

/-- ECDSA P-384 signature of the device key over the bytes; the standard lets it differ from draw to draw. -/
opaque sign : (draw : Nat) → (message : Bytes) → Bytes

/-- Staum's image key and root key, held in ROM. -/
opaque imageKey : Bytes
opaque rootKey : Bytes

/-- The public key a certificate names, where Staum's root key certifies it. -/
opaque certKey : (rootKey cert : Bytes) → Option Bytes

/-- The root secret (R799). -/
opaque rootSecret : Bytes

/-- The frequency term and the rate correction that the PI servo takes after an offset: previous term, offset in ns, time
constant in s (R641: the spec gives the servo's kind and time constant, not its gains). -/
opaque servoFreq : Int → Int → Nat → Int
opaque servoRate : Int → Int → Nat → Int

/-- Number of SRAM banks of an island (R896 gives 8 spare rows per bank, and no count of banks). -/
opaque sramBanks : Nat → Nat

/-- Settings format that the running firmware writes, and whether it can read a given format (R851, R854): the running image's
version and the format. -/
opaque readsFormat : Nat → Nat → Bool

/-- The directory entries an applet bundle declares (R792: the spec gives the entries, not where a bundle holds them). -/
opaque bundleEntries : (bundle : Bytes) → Bytes

/-- A channel's measurement where an epoch's operand gives none. -/
opaque measured : Nat → ChanMeas

/-- A signal's spreading waveform, 1 or −1, at a place of its code period in 2⁻²⁸ ms (R368): the codes are those of the signals'
interface specifications. -/
opaque replica : (system sat signal place : Nat) → Int

/-- Spectral density of the random walk of a double-differenced ionosphere state, in mm² per second (Table 10.4 gives the walk and its
constraint, not its density). -/
opaque ionoWalk : Nat

/-- 1σ of a snapshot's code phase in mm: what a developed position's sigmas rest on (Table 8.7 does not say). -/
opaque snapshotSigma : Nat

/-- One side-peak spacing of a signal's correlation in 2⁻²⁸ ms of code (R338), by its code: it follows from the modulation, which the
signal's interface specification gives. -/
opaque sidePeak : Nat → Nat

/-- Ideal normalised correlation of a signal's modulation, filtered to the port bandwidth, at profile tap j, in 2⁻¹⁶ (R336). -/
opaque idealTap : (signal j : Nat) → Int

/-- The single receiver oscillator indicator of messages 1005 and 1006, which Table 9.4 does not give. -/
opaque oneOscillator : Bool

end Sys2Proof.Config
end

