-- ==== Sys2Proof/Machine/Bits.lean ====
section
/-!
DEFINITION. Tables by number, byte order, bit fields, CRC-32C, integer roots and rounding: the helpers every chapter's
arithmetic uses (00_scope.md R5 to R15; 05_comb_claims.md R198).
-/

namespace Sys2Proof.Machine

/-- A table from numbers to values, kept in rising order of its keys with no key twice. -/
abbrev Tbl (α : Type) := List (Nat × α)

/-- The entry of key `k`. -/
def Tbl.get? {α : Type} : Tbl α → Nat → Option α
  | [], _ => none
  | (k', v) :: t, k => if k' = k then some v else Tbl.get? t k

/-- The entry of key `k`, or `d` where the table has none. -/
def Tbl.getD {α : Type} (t : Tbl α) (k : Nat) (d : α) : α :=
  match Tbl.get? t k with
  | some v => v
  | none => d

/-- The table with `k` set to `v`, in rising order. -/
def Tbl.put {α : Type} : Tbl α → Nat → α → Tbl α
  | [], k, v => [(k, v)]
  | (k', v') :: t, k, v =>
    if k < k' then (k, v) :: (k', v') :: t
    else if k = k' then (k, v) :: t
    else (k', v') :: Tbl.put t k v

/-- The table without key `k`. -/
def Tbl.del {α : Type} : Tbl α → Nat → Tbl α
  | [], _ => []
  | (k', v') :: t, k => if k' = k then Tbl.del t k else (k', v') :: Tbl.del t k

/-- The table with `f` applied to the entry of `k`, if it has one. -/
def Tbl.upd {α : Type} (t : Tbl α) (k : Nat) (f : α → α) : Tbl α :=
  t.map fun p => if p.1 = k then (p.1, f p.2) else p

/-- Whether the table has an entry of `k`. -/
def Tbl.has {α : Type} (t : Tbl α) (k : Nat) : Bool := (Tbl.get? t k).isSome

/-- The entries whose value satisfies `p`. -/
def Tbl.keep {α : Type} (t : Tbl α) (p : Nat → α → Bool) : Tbl α := t.filter fun e => p e.1 e.2

/-- Element `i` of a list of numbers, zero beyond its end. -/
def nth (l : List Nat) (i : Nat) : Nat := l.getD i 0

/-- The list with element `i` changed by `f` (nothing changes beyond its end). -/
def modNth {α : Type} : List α → Nat → (α → α) → List α
  | [], _, _ => []
  | a :: l, 0, f => f a :: l
  | a :: l, i + 1, f => a :: modNth l i f

/-- The numbers `lo`, `lo + 1`, … of which there are `n`. -/
def span (lo n : Nat) : List Nat := (List.range n).map (lo + ·)

/-- The least of a list under an order. -/
def least {α : Type} (le : α → α → Bool) : List α → Option α
  | [] => none
  | x :: t =>
    match least le t with
    | none => some x
    | some y => if le x y then some x else some y

/-- A value held in three copies and read by majority vote (R49). -/
structure Triple (α : Type) where
  x : α
  y : α
  z : α
  deriving DecidableEq, Repr, Inhabited

/-- The same value in every copy. -/
def Triple.of {α : Type} (v : α) : Triple α := { x := v, y := v, z := v }

/-- What a reader gets: the value that two copies agree in. -/
def Triple.vote {α : Type} [DecidableEq α] (t : Triple α) : α := if t.x = t.y || t.x = t.z then t.x else t.y

/-- Copy k (0, 1 or 2) with another value. -/
def Triple.upset {α : Type} (t : Triple α) (k : Nat) (v : α) : Triple α :=
  match k with
  | 0 => { t with x := v }
  | 1 => { t with y := v }
  | 2 => { t with z := v }
  | _ => t

/-- The vote corrects the copy that differs. -/
def Triple.corrected {α : Type} [DecidableEq α] (t : Triple α) : Triple α := Triple.of t.vote

/-- A single upset, in copy k, of copies that agree until then; the vote corrects it (R49). -/
def Triple.struck {α : Type} [DecidableEq α] (t : Triple α) (k : Nat) (v : α) : Triple α := (t.corrected.upset k v).corrected

/-- Two lists, each in order, merged; `fuel` bounds the steps. -/
def mergeBy {α : Type} (le : α → α → Bool) : Nat → List α → List α → List α
  | 0, a, b => a ++ b
  | _, [], b => b
  | _, a, [] => a
  | n + 1, x :: a, y :: b => if le x y then x :: mergeBy le n a (y :: b) else y :: mergeBy le n (x :: a) b

/-- A list sorted by halves, `depth` times halved. -/
def sortGo {α : Type} (le : α → α → Bool) : Nat → List α → List α
  | 0, l => l
  | n + 1, l =>
    if l.length ≤ 1 then l
    else
      let h := l.length / 2
      mergeBy le l.length (sortGo le n (l.take h)) (sortGo le n (l.drop h))

/-- A list in order, equal elements keeping their places. -/
def sortBy {α : Type} (le : α → α → Bool) (l : List α) : List α := sortGo le (Nat.log2 l.length + 1) l

/-! ### Bytes -/

/-- A byte from a number. -/
def byte (n : Nat) : Byte := BitVec.ofNat 8 n

/-- `n` bytes of `v`, least significant first (R9). -/
def leBytes : Nat → Nat → Bytes
  | 0, _ => []
  | n + 1, v => byte v :: leBytes n (v / 256)

/-- `n` bytes of `v`, most significant first. -/
def beBytes (n v : Nat) : Bytes := (leBytes n v).reverse

/-- The number whose little-endian bytes these are. -/
def leNat : Bytes → Nat
  | [] => 0
  | b :: t => b.toNat + 256 * leNat t

/-- The number whose big-endian bytes these are. -/
def beNat (b : Bytes) : Nat := leNat b.reverse

/-- `len` bytes from `off`. -/
def slice (b : Bytes) (off len : Nat) : Bytes := (b.drop off).take len

/-- The unsigned field of `len` bytes at `off`. -/
def u (b : Bytes) (off len : Nat) : Nat := leNat (slice b off len)

/-- The number `v` read as a two's complement number of `n` bits. -/
def signed (n v : Nat) : Int := if v < 2 ^ (n - 1) then (v : Int) else (v : Int) - 2 ^ n

/-- The signed field of `len` bytes at `off`. -/
def si (b : Bytes) (off len : Nat) : Int := signed (8 * len) (u b off len)

/-- `n` bytes of a signed number, two's complement, least significant first. -/
def leInt (n : Nat) (v : Int) : Bytes := leBytes n (v % (256 ^ n : Nat)).toNat

/-- Whether every byte is zero. -/
def allZero (b : Bytes) : Bool := b.all (· == 0)

/-- `n` zero bytes. -/
def zeros (n : Nat) : Bytes := List.replicate n 0

/-- The bytes padded with zeros, or cut, to `n`. -/
def fit (n : Nat) (b : Bytes) : Bytes := b.take n ++ zeros (n - b.length)

/-- The bytes padded with zero bytes to a multiple of 4. -/
def pad4 (b : Bytes) : Bytes := b ++ zeros ((4 - b.length % 4) % 4)

/-- Bits `lo` to `lo + n - 1` of `v`. -/
def bits (v lo n : Nat) : Nat := v / 2 ^ lo % 2 ^ n

/-- Bit `i` of `v`. -/
def bit (v i : Nat) : Bool := v / 2 ^ i % 2 = 1

/-- A truth value as 1 or 0. -/
def b2n (b : Bool) : Nat := if b then 1 else 0

/-- `v` with bit `i` set. -/
def setBit (v i : Nat) : Nat := v ||| 2 ^ i

/-- `v` with bit `i` clear. -/
def clrBit (v i : Nat) : Nat := if bit v i then v - 2 ^ i else v

/-- The ASCII bytes of a string. -/
def ascii (s : String) : Bytes := s.toList.map fun c => byte c.toNat

/-- `v` limited to the range of an unsigned counter of `n` bits that wraps. -/
def wrap (n v : Nat) : Nat := v % 2 ^ n

/-! ### Memory -/

/-- A memory holds its bytes that are not zero, in rising order of their addresses; every other byte reads zero, as a wipe leaves it
(R881). -/
abbrev Memory := Tbl Byte

/-- The one form of a memory's content. -/
abbrev Memory.wf (m : Memory) : Prop := (m.map Prod.fst).Pairwise (· < ·) ∧ ∀ e ∈ m, e.2 ≠ 0

/-- The byte at an address. -/
def Memory.byteAt (m : Memory) (a : Nat) : Byte := Tbl.getD m a 0

/-- The memory with one byte written. -/
def Memory.putByte (m : Memory) (a : Nat) (b : Byte) : Memory := if b = 0 then Tbl.del m a else Tbl.put m a b

/-- The bytes from an address on. -/
def Memory.load (m : Memory) (a : Nat) : Nat → Bytes
  | 0 => []
  | n + 1 => m.byteAt a :: m.load (a + 1) n

/-- The memory with bytes written from an address on. -/
def Memory.store (m : Memory) (a : Nat) : Bytes → Memory
  | [] => m
  | b :: t => (m.putByte a b).store (a + 1) t

/-! ### CRC-32C -/

/-- One bit of the reflected CRC-32C, polynomial 0x1EDC6F41 (R198). -/
def crcBit (c : Nat) : Nat := if c % 2 = 1 then (c / 2) ^^^ 0x82F63B78 else c / 2

/-- One byte of the reflected CRC. -/
def crcByte (c : Nat) (b : Byte) : Nat := Nat.repeat crcBit 8 (c ^^^ b.toNat)

/-- CRC-32C: initial value and final exclusive-or all ones (R198). -/
def crc32c (b : Bytes) : Nat := (b.foldl crcByte 0xFFFFFFFF) ^^^ 0xFFFFFFFF

/-- CRC-32 of IEEE 802.3, reflected. -/
def crc32Bit (c : Nat) : Nat := if c % 2 = 1 then (c / 2) ^^^ 0xEDB88320 else c / 2
def crc32 (b : Bytes) : Nat := (b.foldl (fun c x => Nat.repeat crc32Bit 8 (c ^^^ x.toNat)) 0xFFFFFFFF) ^^^ 0xFFFFFFFF

/-! ### Numbers -/

/-- One step of the integer square root, from high bits down. -/
def isqrtGo : Nat → Nat → Nat → Nat
  | 0, _, r => r
  | k + 1, n, r => let c := r + 2 ^ k; isqrtGo k n (if c * c ≤ n then c else r)

/-- The integer square root: the greatest `r` with `r * r ≤ n`. -/
def isqrt (n : Nat) : Nat := isqrtGo (Nat.log2 n / 2 + 1) n 0

/-- The least `r` with `n ≤ r * r`. -/
def csqrt (n : Nat) : Nat := let r := isqrt n; if r * r = n then r else r + 1

/-- Division rounding up. -/
def ceilDiv (a b : Nat) : Nat := (a + b - 1) / b

/-- Division of integers rounding down. -/
def floorDiv (a : Int) (b : Nat) : Int := a.fdiv b

/-- Division of integers rounding to the nearest, halves away from zero. -/
def roundDiv (a : Int) (b : Nat) : Int :=
  if 0 ≤ a then (2 * a + b).fdiv (2 * b) else -((2 * (-a) + b).fdiv (2 * b))

/-- `x` limited to `lo` … `hi`. -/
def clampNat (lo hi x : Nat) : Nat := max lo (min hi x)

/-- An integer saturated to a signed field of `n` bits. -/
def satInt (n : Nat) (x : Int) : Int := max (-(2 ^ (n - 1))) (min (2 ^ (n - 1) - 1) x)

/-- One millisecond, one microsecond and one second in nanoseconds. -/
def ms : Nat := 1000000
def us : Nat := 1000
def sec : Nat := 1000000000

end Sys2Proof.Machine
end

