-- ==== Sys2Proof/Machine/Events.lean ====
section
/-! DEFINITION. The event codes of Table 20.4 with their severities and islands (20_logbook.md, R926). -/

namespace Sys2Proof.Machine

/-- The events of Table 20.4. Each name stands for EV_ followed by it. -/
inductive Ev where
  | capTrim | controllerIdClash
  | islandRestart | islandFailed | queueDrop
  | coilRefused
  | combEpochAge | ctimeStep | siteFrame | siteFrameMismatch
  | areaForced
  | combPresumed | neighbourLost | neighbourLive | combSyncConflict | combNearFull | combNearFullClear | combBlocked
  | combRetire
  | gsClockLost | gsClockBack | gsAgcLimit | gsJam | trackSecondPeak | trackDoa | trackEpochLost
  | devStandbyPosition | devBudgetStep
  | baseSurveyed | baseSurveyFailed | baseSuspect | baseOperating
  | confPolicy | swarmUnack | swarmLost | siDiscrepancy | soFault | stopNoticeIgnored | stopChannelDisagree | stopCommand
  | linkEnd | linkReplaced | linkJoinAbsent
  | timeAcquired | timeSourceDisagree | timeJumpRefused | timeStep | refinLost | refinBack | pulseSkipped
  | canErrorPassive | canBusOff | canNoAck | canFifoOverrun | canWake | canStopFrameBad | canStopFrame
  | broodPendingFull
  | lifecycle | keyRecordLost
  | bootSlotFailed | appletRejected | updateConfirmed | updateRejected | settingsDefaulted | settingsReadOnly
  | configCommitRefused
  | reset | blockReset | blockResetBusy | globalWatchdog | islandClock | tempHigh | marginVoltage | marginStep | endOfMargin
  | sramRetire | lpddrRetireFull
  | logLost | timeMark | logMirrorWorn
  deriving DecidableEq, Repr, Inhabited

/-- Code, severity (Table 20.2) and island of an event. EV_LOG_LOST takes its severity from R912. -/
def Ev.row : Ev → Nat × Nat × Nat
  | .capTrim => (0x0101, 1, 2) | .controllerIdClash => (0x0102, 4, 2)
  | .islandRestart => (0x0201, 2, 0) | .islandFailed => (0x0202, 4, 0) | .queueDrop => (0x0203, 3, 3)
  | .coilRefused => (0x0301, 2, 2)
  | .combEpochAge => (0x0401, 2, 5) | .ctimeStep => (0x0402, 3, 5) | .siteFrame => (0x0403, 1, 5)
  | .siteFrameMismatch => (0x0404, 3, 5)
  | .areaForced => (0x0501, 1, 5)
  | .combPresumed => (0x0601, 2, 5) | .neighbourLost => (0x0602, 3, 5) | .neighbourLive => (0x0603, 1, 5)
  | .combSyncConflict => (0x0604, 3, 5) | .combNearFull => (0x0605, 2, 5) | .combNearFullClear => (0x0606, 1, 5)
  | .combBlocked => (0x0607, 3, 5) | .combRetire => (0x0608, 3, 5)
  | .gsClockLost => (0x0701, 3, 8) | .gsClockBack => (0x0702, 1, 8) | .gsAgcLimit => (0x0703, 2, 8)
  | .gsJam => (0x0704, 3, 8) | .trackSecondPeak => (0x0705, 2, 8) | .trackDoa => (0x0706, 3, 8)
  | .trackEpochLost => (0x0707, 2, 8)
  | .devStandbyPosition => (0x0801, 3, 7) | .devBudgetStep => (0x0802, 3, 7)
  | .baseSurveyed => (0x0901, 1, 6) | .baseSurveyFailed => (0x0902, 3, 6) | .baseSuspect => (0x0903, 3, 6)
  | .baseOperating => (0x0904, 1, 6)
  | .confPolicy => (0x0B01, 2, 5) | .swarmUnack => (0x0B02, 2, 5) | .swarmLost => (0x0B03, 3, 5)
  | .siDiscrepancy => (0x0B04, 4, 0) | .soFault => (0x0B05, 4, 0) | .stopNoticeIgnored => (0x0B06, 2, 0)
  | .stopChannelDisagree => (0x0B07, 4, 0) | .stopCommand => (0x0B08, 1, 0)
  | .linkEnd => (0x0C01, 1, 9) | .linkReplaced => (0x0C02, 1, 9) | .linkJoinAbsent => (0x0C03, 3, 9)
  | .timeAcquired => (0x0D01, 1, 11) | .timeSourceDisagree => (0x0D02, 2, 11) | .timeJumpRefused => (0x0D03, 3, 11)
  | .timeStep => (0x0D04, 3, 11) | .refinLost => (0x0D05, 3, 11) | .refinBack => (0x0D06, 1, 11)
  | .pulseSkipped => (0x0D07, 2, 11)
  | .canErrorPassive => (0x0F01, 2, 10) | .canBusOff => (0x0F02, 3, 10) | .canNoAck => (0x0F03, 2, 10)
  | .canFifoOverrun => (0x0F04, 2, 10) | .canWake => (0x0F05, 0, 10) | .canStopFrameBad => (0x0F06, 4, 10)
  | .canStopFrame => (0x0F07, 2, 10)
  | .broodPendingFull => (0x1001, 3, 3)
  | .lifecycle => (0x1101, 4, 1) | .keyRecordLost => (0x1102, 4, 1)
  | .bootSlotFailed => (0x1201, 3, 1) | .appletRejected => (0x1202, 3, 2) | .updateConfirmed => (0x1203, 1, 2)
  | .updateRejected => (0x1204, 3, 2) | .settingsDefaulted => (0x1205, 2, 2) | .settingsReadOnly => (0x1206, 3, 2)
  | .configCommitRefused => (0x1207, 3, 2)
  | .reset => (0x1301, 3, 0) | .blockReset => (0x1302, 1, 0) | .blockResetBusy => (0x1303, 2, 0)
  | .globalWatchdog => (0x1304, 3, 0) | .islandClock => (0x1305, 4, 0) | .tempHigh => (0x1306, 3, 0)
  | .marginVoltage => (0x1307, 1, 0) | .marginStep => (0x1308, 3, 0) | .endOfMargin => (0x1309, 4, 0)
  | .sramRetire => (0x130A, 3, 0) | .lpddrRetireFull => (0x130B, 3, 0)
  | .logLost => (0x1401, 2, 0) | .timeMark => (0x1402, 0, 0) | .logMirrorWorn => (0x1403, 3, 0)

/-- Every event. -/
def Ev.all : List Ev :=
    [.capTrim, .controllerIdClash, .islandRestart, .islandFailed, .queueDrop, .coilRefused, .combEpochAge, .ctimeStep] ++
    [.siteFrame, .siteFrameMismatch, .areaForced, .combPresumed, .neighbourLost, .neighbourLive, .combSyncConflict, .combNearFull] ++
    [.combNearFullClear, .combBlocked, .combRetire, .gsClockLost, .gsClockBack, .gsAgcLimit, .gsJam, .trackSecondPeak] ++
    [.trackDoa, .trackEpochLost, .devStandbyPosition, .devBudgetStep, .baseSurveyed, .baseSurveyFailed, .baseSuspect, .baseOperating] ++
    [.confPolicy, .swarmUnack, .swarmLost, .siDiscrepancy, .soFault, .stopNoticeIgnored, .stopChannelDisagree, .stopCommand] ++
    [.linkEnd, .linkReplaced, .linkJoinAbsent, .timeAcquired, .timeSourceDisagree, .timeJumpRefused, .timeStep, .refinLost] ++
    [.refinBack, .pulseSkipped, .canErrorPassive, .canBusOff, .canNoAck, .canFifoOverrun, .canWake, .canStopFrameBad] ++
    [.canStopFrame, .broodPendingFull, .lifecycle, .keyRecordLost, .bootSlotFailed, .appletRejected, .updateConfirmed, .updateRejected] ++
    [.settingsDefaulted, .settingsReadOnly, .configCommitRefused, .reset, .blockReset, .blockResetBusy, .globalWatchdog, .islandClock] ++
    [.tempHigh, .marginVoltage, .marginStep, .endOfMargin, .sramRetire, .lpddrRetireFull, .logLost, .timeMark] ++
    [.logMirrorWorn]

end Sys2Proof.Machine
end

