-- ==== Sys2Proof/Machine/Objects.lean ====
section
/-!
DEFINITION. The object dictionary as data: one row per object, or per run of objects that share a description, in rising order of
index and subindex, from the object tables of chapters 1 to 20 (R87, R152; defaults, ranges and persistence as the tables give them).
-/

namespace Sys2Proof.Machine

/-- The value rule of check 8 of R112 that an object's table row states. -/
inductive Chk where
  /-- any value of the type -/
  | any
  /-- VALUE_LOW below, VALUE_HIGH above -/
  | range (lo hi : Int)
  /-- VALUE_INVALID for any other value -/
  | oneOf (l : List Nat)
  /-- VALUE_INVALID when a bit outside the mask is set -/
  | mask (m : Nat)
  /-- a rule of its own, in Machine/DictCheck.lean -/
  | special
  deriving DecidableEq, Repr, Inhabited

/-- A row of the dictionary: `nIdx` indices from `idx`, each with `nSub` subindices from `sub`. -/
structure ObjRow where
  name : String
  idx  : Nat
  nIdx : Nat
  sub  : Nat
  nSub : Nat
  /-- type code of Table 3.2, access code of Table 3.1, privilege -/
  ty   : Nat
  acc  : Nat
  priv : Nat
  dflt : Bytes
  /-- size of a fixed-size type, or the object's maximum -/
  max  : Nat
  pers : Bool
  /-- the object is a commit object, a port object, or a DOMAIN with one exact length (R92) -/
  isCommit : Bool
  isPort : Bool
  exact : Bool
  /-- index of the group's commit object (for the first of `nIdx` indices), or zero -/
  commit : Nat
  /-- ID of the island whose gasket stands before the object's block; 12 for the Stop Bath, which both its channels serve, so that no
  one gasket stands before it (R538, DEDUCED) -/
  island : Nat
  chk  : Chk
  deriving DecidableEq, Repr, Inhabited

def ob (name : String) (idx nIdx sub nSub ty acc priv : Nat) (dflt : Bytes) (max fl commit island : Nat) (chk : Chk) : ObjRow :=
  { name := name, idx := idx, nIdx := nIdx, sub := sub, nSub := nSub, ty := ty, acc := acc, priv := priv, dflt := dflt,
    max := max, pers := bit fl 0, isCommit := bit fl 1, isPort := bit fl 2, exact := bit fl 3, commit := commit,
    island := island, chk := chk }

/-- Objects from 0x1001 to 0x1201. -/
def objs0 : List ObjRow :=
  [ ob "PartNumber" 0x1001 1 0x00 1 16 1 0 ([]) 16 1 0x0000 2 (.any),
    ob "SiliconPartNumber" 0x1001 1 0x01 1 16 0 2 ([]) 16 1 0x0000 2 (.any),
    ob "TierSlots" 0x1002 1 0x01 1 3 1 0 (zeros 2) 2 1 0x0000 2 (.any),
    ob "ServiceLetter" 0x1002 1 0x02 1 2 1 0 (zeros 1) 1 1 0x0000 2 (.any),
    ob "PackageLetter" 0x1002 1 0x03 1 2 1 0 (zeros 1) 1 1 0x0000 2 (.any),
    ob "Stepping" 0x1003 1 0x00 1 2 0 0 (zeros 1) 1 1 0x0000 2 (.any),
    ob "SerialNumber" 0x1004 1 0x00 1 15 0 0 (zeros 8) 8 1 0x0000 2 (.any),
    ob "ControllerId" 0x1005 1 0x00 1 3 2 2 (zeros 2) 2 1 0x0000 2 (.range 0 16383),
    ob "CapCommit" 0x1010 1 0x00 1 2 3 3 (zeros 1) 1 2 0x0000 2 (.oneOf [1]),
    ob "CapProfileShadow" 0x1010 1 0x01 1 2 4 3 (zeros 1) 1 1 0x1010 2 (.special),
    ob "CapProfileActive" 0x1011 1 0x00 1 2 1 0 (zeros 1) 1 1 0x0000 2 (.any),
    ob "DictDirectory" 0x1020 1 0x00 1 17 1 0 ([]) 1048576 0 0x0000 2 (.any),
    ob "StageDiscard" 0x1021 1 0x00 1 3 3 0 (zeros 2) 2 0 0x0000 2 (.any),
    ob "StageHoldTimeout" 0x1022 1 0x00 1 3 2 2 ([0x3C, 0x00]) 2 1 0x0000 2 (.range 5 3600),
    ob "CoilEnable" 0x1030 1 0x00 1 1 2 2 ([0x01]) 1 1 0x0000 2 (.any),
    ob "CoilSessionsMax" 0x1031 1 0x00 1 2 2 2 ([0x10]) 1 1 0x0000 2 (.range 1 16),
    ob "CoilIdleTimeout" 0x1032 1 0x00 1 3 2 2 ([0x3C, 0x00]) 2 1 0x0000 2 (.range 5 3600),
    ob "CoilSessionsOpen" 0x1033 1 0x00 1 2 1 0 (zeros 1) 1 0 0x0000 2 (.any),
    ob "LifecycleState" 0x1100 1 0x00 1 2 1 0 (zeros 1) 1 1 0x0000 1 (.any),
    ob "LifecycleCommand" 0x1101 1 0x00 1 17 3 3 ([]) 8 8 0x0000 1 (.special),
    ob "KeySlotStatus" 0x1110 1 0x01 255 15 1 0 (zeros 16) 16 1 0x0000 1 (.any),
    ob "KeyWrite" 0x1111 1 0x00 1 17 3 3 ([]) 104 0 0x0000 1 (.special),
    ob "KeyErase" 0x1112 1 0x00 1 2 3 3 (zeros 1) 1 0 0x0000 1 (.any),
    ob "KeyInvalidate" 0x1113 1 0x00 1 2 3 3 (zeros 1) 1 0 0x0000 1 (.any),
    ob "KeySealPort" 0x1114 1 0x00 1 17 3 1 ([]) 1060 4 0x0000 1 (.any),
    ob "KeyRecordGeneration" 0x1115 1 0x00 1 5 1 0 (zeros 8) 8 1 0x0000 1 (.any),
    ob "KeySlotsFree" 0x1116 1 0x00 1 2 1 0 ([0xFE]) 1 0 0x0000 1 (.any),
    ob "RootSecretState" 0x1117 1 0x00 1 2 1 0 ([0x01]) 1 1 0x0000 1 (.any),
    ob "SlotState" 0x1200 1 0x01 2 2 1 0 (zeros 1) 1 1 0x0000 2 (.any),
    ob "SlotVersion" 0x1201 1 0x01 2 4 1 0 (zeros 4) 4 1 0x0000 2 (.any) ]

/-- Objects from 0x1202 to 0x1313. -/
def objs1 : List ObjRow :=
  [ ob "SlotSecurityVersion" 0x1202 1 0x01 2 3 1 0 (zeros 2) 2 1 0x0000 2 (.any),
    ob "BootSlot" 0x1203 1 0x00 1 2 1 0 (zeros 1) 1 0 0x0000 2 (.any),
    ob "DeviceCertificate" 0x1204 1 0x00 1 17 0 0 ([]) 1024 1 0x0000 2 (.any),
    ob "SecurityVersionFuse" 0x1205 1 0x00 1 2 1 0 (zeros 1) 1 1 0x0000 2 (.any),
    ob "Measurement" 0x1206 1 0x01 3 15 1 0 (zeros 48) 48 0 0x0000 2 (.any),
    ob "UpdateHeader" 0x1210 1 0x00 1 17 3 2 ([]) 512 8 0x0000 2 (.any),
    ob "UpdatePayload" 0x1211 1 0x00 1 17 3 2 ([]) 33554432 0 0x0000 2 (.special),
    ob "UpdateState" 0x1212 1 0x00 1 2 1 0 (zeros 1) 1 0 0x0000 2 (.any),
    ob "UpdateActivate" 0x1213 1 0x00 1 2 3 2 (zeros 1) 1 0 0x0000 2 (.oneOf [1]),
    ob "UpdateConfirm" 0x1214 1 0x00 1 2 3 2 (zeros 1) 1 0 0x0000 2 (.oneOf [1, 2]),
    ob "TrialTimeout" 0x1215 1 0x00 1 4 2 2 ([0x58, 0x02, 0x00, 0x00]) 4 1 0x0000 2 (.range 60 86400),
    ob "TrialAttempts" 0x1216 1 0x00 1 2 2 2 ([0x02]) 1 1 0x0000 2 (.range 1 3),
    ob "AppletSignerKey" 0x1217 1 0x00 1 15 2 3 (zeros 97) 97 1 0x0000 2 (.special),
    ob "SettingsFormat" 0x1220 1 0x00 1 3 1 0 (zeros 2) 2 0 0x0000 2 (.any),
    ob "SettingsState" 0x1221 1 0x00 1 2 1 0 (zeros 1) 1 0 0x0000 2 (.any),
    ob "SettingsReset" 0x1222 1 0x00 1 2 3 3 (zeros 1) 1 0 0x0000 2 (.oneOf [1]),
    ob "SettingsSpareBlocks" 0x1223 1 0x00 1 2 1 0 ([0x10]) 1 1 0x0000 2 (.any),
    ob "ConfigExport" 0x1230 1 0x00 1 17 1 2 ([]) 1048576 0 0x0000 2 (.any),
    ob "ConfigImport" 0x1231 1 0x00 1 17 3 3 ([]) 1048576 0 0x0000 2 (.special),
    ob "ConfigPendingGroups" 0x1232 1 0x00 1 3 1 0 (zeros 2) 2 0 0x0000 2 (.any),
    ob "BoantEnter" 0x1240 1 0x00 1 2 3 3 (zeros 1) 1 0 0x0000 2 (.oneOf [1]),
    ob "ResetCauseLast" 0x1300 1 0x00 1 15 1 0 (zeros 16) 16 0 0x0000 0 (.any),
    ob "ResetCommand" 0x1301 1 0x00 1 17 3 2 ([]) 4 8 0x0000 0 (.special),
    ob "ResetCount" 0x1302 1 0x00 1 4 1 0 (zeros 4) 4 0 0x0000 0 (.any),
    ob "GlobalWatchdogPeriod" 0x1303 1 0x00 1 3 2 2 ([0xF4, 0x01]) 2 1 0x0000 0 (.range 10 10000),
    ob "DbgResetEnable" 0x1304 1 0x00 1 1 2 3 (zeros 1) 1 1 0x0000 0 (.any),
    ob "IslandState" 0x1310 1 0x01 12 2 1 0 (zeros 1) 1 0 0x0000 0 (.any),
    ob "IslandRestarts" 0x1311 1 0x01 12 4 1 0 (zeros 4) 4 0 0x0000 0 (.any),
    ob "IslandCorrectedEcc" 0x1312 1 0x01 12 4 1 0 (zeros 4) 4 0 0x0000 0 (.any),
    ob "IslandStep" 0x1313 1 0x01 12 2 1 0 (zeros 1) 1 1 0x0000 0 (.any) ]

/-- Objects from 0x1314 to 0x2005. -/
def objs2 : List ObjRow :=
  [ ob "IslandTemperature" 0x1314 1 0x01 12 7 1 0 (zeros 2) 2 0 0x0000 0 (.any),
    ob "IslandSlack" 0x1315 1 0x01 12 7 1 0 (zeros 2) 2 0 0x0000 0 (.any),
    ob "SpareRowsLeft" 0x1316 1 0x01 12 3 1 0 (zeros 2) 2 1 0x0000 0 (.any),
    ob "RegionsRetired" 0x1317 1 0x01 12 3 1 0 (zeros 2) 2 1 0x0000 0 (.any),
    ob "CoreVoltageRequest" 0x1318 1 0x00 1 3 1 0 (zeros 2) 2 1 0x0000 0 (.any),
    ob "MarginState" 0x1319 1 0x00 1 2 1 0 (zeros 1) 1 1 0x0000 0 (.any),
    ob "BlockIdle" 0x1320 12 0x01 12 1 1 0 ([0x01]) 1 0 0x0000 0 (.any),
    ob "CounterSelect" 0x1330 1 0x01 64 4 2 2 (zeros 4) 4 1 0x0000 0 (.special),
    ob "CounterValue" 0x1331 1 0x01 64 5 1 0 (zeros 8) 8 0 0x0000 0 (.any),
    ob "CounterSnapshot" 0x1332 1 0x00 1 2 3 0 (zeros 1) 1 0 0x0000 0 (.oneOf [1]),
    ob "CounterSnapshotValue" 0x1333 1 0x01 64 5 1 0 (zeros 8) 8 0 0x0000 0 (.any),
    ob "LpddrPagesRetired" 0x1335 1 0x00 1 3 1 0 (zeros 2) 2 1 0x0000 0 (.any),
    ob "ThermalTrips" 0x1336 1 0x00 1 4 1 0 (zeros 4) 4 1 0x0000 0 (.any),
    ob "LogLatestSeq" 0x1400 1 0x00 1 5 1 0 (zeros 8) 8 0 0x0000 0 (.any),
    ob "LogCapacity" 0x1401 1 0x00 1 3 1 0 ([0x00, 0x40]) 2 0 0x0000 0 (.any),
    ob "LogRecordsHeld" 0x1402 1 0x00 1 3 1 0 (zeros 2) 2 0 0x0000 0 (.any),
    ob "LogDropped" 0x1403 1 0x00 1 4 1 0 (zeros 4) 4 0 0x0000 0 (.any),
    ob "LogLost" 0x1404 1 0x00 1 4 1 0 (zeros 4) 4 0 0x0000 0 (.any),
    ob "LogMirrorCapacity" 0x1405 1 0x00 1 3 1 0 ([0x00, 0x14]) 2 1 0x0000 0 (.any),
    ob "LogMirrorLatestSeq" 0x1406 1 0x00 1 5 1 0 (zeros 8) 8 1 0x0000 0 (.any),
    ob "LogTimeMarkPeriod" 0x1407 1 0x00 1 3 2 2 ([0x3C, 0x00]) 2 1 0x0000 0 (.range 1 3600),
    ob "LogMinSeverity" 0x1408 1 0x00 1 2 2 2 (zeros 1) 1 1 0x0000 0 (.range 0 2),
    ob "LogQuery" 0x1410 1 0x00 1 17 3 0 ([]) 12 4 0x0000 0 (.any),
    ob "LogSlot" 0x1440 64 0x00 256 15 1 0 (zeros 64) 64 0 0x0000 0 (.any),
    ob "TimeNow" 0x2000 1 0x00 1 12 1 0 (zeros 8) 8 0 0x0000 11 (.any),
    ob "TimeState" 0x2001 1 0x00 1 2 1 0 (zeros 1) 1 0 0x0000 11 (.any),
    ob "TimeQuality" 0x2002 1 0x00 1 2 1 0 (zeros 1) 1 0 0x0000 11 (.any),
    ob "TimeErrorBound" 0x2003 1 0x00 1 4 1 0 ([0xFF, 0xFF, 0xFF, 0xFF]) 4 0 0x0000 11 (.any),
    ob "TimeSource" 0x2004 1 0x00 1 2 1 0 (zeros 1) 1 0 0x0000 11 (.any),
    ob "TimeFreqRef" 0x2005 1 0x00 1 2 1 0 (zeros 1) 1 0 0x0000 11 (.any) ]

/-- Objects from 0x2006 to 0x2402. -/
def objs3 : List ObjRow :=
  [ ob "TimeRateCorr" 0x2006 1 0x00 1 8 1 0 (zeros 4) 4 0 0x0000 11 (.any),
    ob "TimeJumpPending" 0x2007 1 0x00 1 9 1 0 (zeros 8) 8 0 0x0000 11 (.any),
    ob "TimeStepArm" 0x2008 1 0x00 1 2 3 2 (zeros 1) 1 0 0x0000 11 (.oneOf [0, 1]),
    ob "TimeSourceStatus" 0x2009 1 0x00 1 15 1 0 (zeros 4) 4 0 0x0000 11 (.any),
    ob "TimeUtcOffset" 0x200A 1 0x00 1 7 1 0 ([0x25, 0x00]) 2 0 0x0000 11 (.any),
    ob "TimeUtcOffsetManual" 0x200B 1 0x00 1 7 2 2 ([0x25, 0x00]) 2 1 0x0000 11 (.range 0 100),
    ob "TimeSourcePriority" 0x2010 1 0x00 1 15 2 2 ([0x01, 0x02, 0x03, 0x04]) 4 1 0x0000 11 (.special),
    ob "TimeQualifyTime" 0x2011 1 0x00 1 3 2 2 ([0x0A, 0x00]) 2 1 0x0000 11 (.range 1 600),
    ob "TimeJumpThreshold" 0x2012 1 0x00 1 4 2 2 ([0xF4, 0x01, 0x00, 0x00]) 4 1 0x0000 11 (.range 50 1000000),
    ob "TimeSlewRate" 0x2013 1 0x00 1 4 2 2 ([0xE8, 0x03, 0x00, 0x00]) 4 1 0x0000 11 (.range 10 100000),
    ob "TimeServoTau" 0x2014 1 0x00 1 3 2 2 ([0x1E, 0x00]) 2 1 0x0000 11 (.range 1 1000),
    ob "RefinConfig" 0x2015 1 0x00 1 2 2 2 (zeros 1) 1 1 0x0000 11 (.oneOf [0, 1, 2]),
    ob "RefinHoldoverFreq" 0x2016 1 0x00 1 4 2 2 ([0x64, 0x00, 0x00, 0x00]) 4 1 0x0000 11 (.range 1 100000),
    ob "RefinHoldoverDrift" 0x2017 1 0x00 1 4 2 2 ([0x64, 0x00, 0x00, 0x00]) 4 1 0x0000 11 (.range 1 1000000),
    ob "PpsInput" 0x2018 1 0x00 1 2 2 2 ([0xFF]) 1 1 0x0000 11 (.oneOf [0, 1, 2, 3, 255]),
    ob "PpsTimeOfDay" 0x2019 1 0x00 1 12 3 1 (zeros 8) 8 0 0x0000 11 (.any),
    ob "TimeHoldoverElapsed" 0x201A 1 0x00 1 4 1 0 (zeros 4) 4 0 0x0000 11 (.any),
    ob "TimePulseCommit" 0x2100 8 0x00 1 2 3 2 (zeros 1) 1 2 0x0000 11 (.oneOf [1]),
    ob "TimePulseShadow" 0x2100 8 0x01 1 15 4 2 (zeros 32) 32 1 0x2100 11 (.special),
    ob "TimePulse" 0x2100 8 0x02 1 15 1 0 (zeros 32) 32 1 0x0000 11 (.any),
    ob "TimePulseSkipped" 0x2100 8 0x03 1 4 1 0 (zeros 4) 4 0 0x0000 11 (.any),
    ob "TimeCaptureConfig" 0x2200 4 0x00 1 2 2 2 (zeros 1) 1 1 0x0000 11 (.mask 0x7),
    ob "TimeCaptureLast" 0x2200 4 0x01 1 15 1 0 (zeros 16) 16 0 0x0000 11 (.any),
    ob "TimeCaptureCount" 0x2200 4 0x02 1 4 1 0 (zeros 4) 4 0 0x0000 11 (.any),
    ob "TimeCaptureMissed" 0x2200 4 0x03 1 4 1 0 (zeros 4) 4 0 0x0000 11 (.any),
    ob "TimeCaptureQueue" 0x2210 1 0x00 1 3 2 2 ([0x19, 0x00]) 2 1 0x0000 11 (.range 0 1023),
    ob "EthPortConfig" 0x2400 1 0x01 1 15 2 2 ([0x00, 0x00, 0x00, 0x20, 0x5F, 0x00, 0x00, 0x18]) 8 1 0x0000 10 (.special),
    ob "EthPortConfig" 0x2400 1 0x02 3 15 2 2 ([0x00, 0x00, 0x00, 0x20, 0x5F, 0x00, 0x00, 0x00]) 8 1 0x0000 10 (.special),
    ob "EthPhyDelayRx" 0x2401 1 0x01 4 8 2 2 (zeros 4) 4 1 0x0000 10 (.range 0 1000000),
    ob "EthPhyDelayTx" 0x2402 1 0x01 4 8 2 2 (zeros 4) 4 1 0x0000 10 (.range 0 1000000) ]

/-- Objects from 0x2403 to 0x2812. -/
def objs4 : List ObjRow :=
  [ ob "EthLinkState" 0x2403 1 0x01 4 2 1 0 (zeros 1) 1 0 0x0000 10 (.any),
    ob "EthPortCounters" 0x2404 1 0x01 4 15 1 0 (zeros 32) 32 0 0x0000 10 (.any),
    ob "EthMacAddress" 0x2405 1 0x00 1 15 0 0 (zeros 6) 6 1 0x0000 10 (.any),
    ob "EthAgeing" 0x2406 1 0x00 1 3 2 2 ([0x2C, 0x01]) 2 1 0x0000 10 (.range 10 3600),
    ob "EthIpv4Config" 0x2410 1 0x00 1 15 2 2 (zeros 9) 9 1 0x0000 10 (.special),
    ob "EthIpv6Config" 0x2411 1 0x00 1 15 2 2 (zeros 33) 33 1 0x0000 10 (.special),
    ob "PtpCommit" 0x2440 1 0x00 1 2 3 2 (zeros 1) 1 2 0x0000 10 (.oneOf [1]),
    ob "PtpDomainShadow" 0x2441 1 0x00 1 2 4 2 (zeros 1) 1 1 0x2440 10 (.any),
    ob "PtpProfileShadow" 0x2442 1 0x00 1 2 4 2 (zeros 1) 1 1 0x2440 10 (.any),
    ob "PtpPortShadow" 0x2443 1 0x01 4 15 4 2 ([0x00, 0x00, 0x00, 0x03, 0x00, 0x01, 0x00, 0x04]) 8 1 0x2440 10 (.special),
    ob "PtpPriority1Shadow" 0x2444 1 0x00 1 2 4 2 ([0x80]) 1 1 0x2440 10 (.any),
    ob "PtpPriority2Shadow" 0x2445 1 0x00 1 2 4 2 ([0x80]) 1 1 0x2440 10 (.any),
    ob "PtpSlaveOnlyShadow" 0x2446 1 0x00 1 1 4 2 (zeros 1) 1 1 0x2440 10 (.any),
    ob "PtpBoundBase" 0x2447 1 0x00 1 4 2 2 ([0x64, 0x00, 0x00, 0x00]) 4 1 0x0000 10 (.range 25 1000000),
    ob "PtpDomain" 0x2451 1 0x00 1 2 1 0 (zeros 1) 1 1 0x0000 10 (.any),
    ob "PtpProfile" 0x2452 1 0x00 1 2 1 0 (zeros 1) 1 1 0x0000 10 (.any),
    ob "PtpPort" 0x2453 1 0x01 4 15 1 0 ([0x00, 0x00, 0x00, 0x03, 0x00, 0x01, 0x00, 0x04]) 8 1 0x0000 10 (.any),
    ob "PtpPriority1" 0x2454 1 0x00 1 2 1 0 ([0x80]) 1 1 0x0000 10 (.any),
    ob "PtpPriority2" 0x2455 1 0x00 1 2 1 0 ([0x80]) 1 1 0x0000 10 (.any),
    ob "PtpSlaveOnly" 0x2456 1 0x00 1 1 1 0 (zeros 1) 1 1 0x0000 10 (.any),
    ob "PtpPortState" 0x2460 1 0x01 4 2 1 0 (zeros 1) 1 0 0x0000 10 (.any),
    ob "PtpMeanPathDelay" 0x2461 1 0x00 1 9 1 0 (zeros 8) 8 0 0x0000 10 (.any),
    ob "PtpOffset" 0x2462 1 0x00 1 9 1 0 (zeros 8) 8 0 0x0000 10 (.any),
    ob "PtpGrandmaster" 0x2463 1 0x00 1 15 1 0 (zeros 8) 8 0 0x0000 10 (.any),
    ob "PtpClockClass" 0x2464 1 0x00 1 2 1 0 ([0xF8]) 1 0 0x0000 10 (.any),
    ob "PtpPeerDelay" 0x2465 1 0x01 4 9 1 0 (zeros 8) 8 0 0x0000 10 (.any),
    ob "PtpTcUncorrected" 0x2466 1 0x00 1 4 1 0 (zeros 4) 4 0 0x0000 10 (.any),
    ob "UsdoEnable" 0x2810 1 0x01 8 1 2 2 (zeros 1) 1 1 0x0000 2 (.any),
    ob "UsdoNodeId" 0x2811 1 0x00 1 2 2 2 ([0x10]) 1 1 0x0000 2 (.range 1 127),
    ob "UsdoPrivilege" 0x2812 1 0x00 1 2 2 3 (zeros 1) 1 1 0x0000 2 (.range 0 1) ]

/-- Objects from 0x2820 to 0x2980. -/
def objs5 : List ObjRow :=
  [ ob "CanPortCommit" 0x2820 8 0x00 1 2 3 2 (zeros 1) 1 2 0x0000 10 (.oneOf [1]),
    ob "CanPortConfigShadow" 0x2820 8 0x01 1 4 4 2 ([0x00, 0x00, 0x10, 0x32]) 4 1 0x2820 10 (.mask 0xFFFF0000),
    ob "CanBitTimingShadow" 0x2820 8 0x02 1 15 4 2 ([0x00, 0xF0, 0xCC, 0xE4, 0xE0, 0xF3, 0xF1, 0x03]) 8 1 0x2820 10 (.special),
    ob "CanPortConfig" 0x2820 8 0x03 1 4 1 0 ([0x00, 0x00, 0x10, 0x32]) 4 1 0x0000 10 (.any),
    ob "CanBitTiming" 0x2820 8 0x04 1 15 1 0 ([0x00, 0xF0, 0xCC, 0xE4, 0xE0, 0xF3, 0xF1, 0x03]) 8 1 0x0000 10 (.any),
    ob "CanState" 0x2820 8 0x05 1 2 1 0 (zeros 1) 1 0 0x0000 10 (.any),
    ob "CanErrorCounters" 0x2820 8 0x06 1 15 1 0 (zeros 4) 4 0 0x0000 10 (.any),
    ob "CanNoAckCount" 0x2820 8 0x07 1 3 1 0 (zeros 2) 2 0 0x0000 10 (.any),
    ob "CanSleep" 0x2820 8 0x08 1 2 2 1 (zeros 1) 1 0 0x0000 10 (.oneOf [0, 1]),
    ob "CanWakeConfig" 0x2820 8 0x09 1 15 2 2 (zeros 8) 8 1 0x0000 10 (.special),
    ob "CanFifoQueue" 0x2820 1 0x0A 1 15 2 2 ([0x1A, 0x00, 0x1B, 0x00]) 4 1 0x0000 10 (.special),
    ob "CanRecover" 0x2820 8 0x0B 1 2 3 1 (zeros 1) 1 0 0x0000 10 (.oneOf [1]),
    ob "CanCounters" 0x2820 8 0x0C 1 15 1 0 (zeros 32) 32 0 0x0000 10 (.any),
    ob "CanFifoQueue" 0x2821 1 0x0A 1 15 2 2 ([0x1C, 0x00, 0x1D, 0x00]) 4 1 0x0000 10 (.special),
    ob "CanFifoQueue" 0x2822 1 0x0A 1 15 2 2 ([0x1E, 0x00, 0x1F, 0x00]) 4 1 0x0000 10 (.special),
    ob "CanFifoQueue" 0x2823 1 0x0A 1 15 2 2 ([0x20, 0x00, 0x21, 0x00]) 4 1 0x0000 10 (.special),
    ob "CanFifoQueue" 0x2824 1 0x0A 1 15 2 2 ([0x22, 0x00, 0x23, 0x00]) 4 1 0x0000 10 (.special),
    ob "CanFifoQueue" 0x2825 1 0x0A 1 15 2 2 ([0x24, 0x00, 0x25, 0x00]) 4 1 0x0000 10 (.special),
    ob "CanFifoQueue" 0x2826 1 0x0A 1 15 2 2 ([0x26, 0x00, 0x27, 0x00]) 4 1 0x0000 10 (.special),
    ob "CanFifoQueue" 0x2827 1 0x0A 1 15 2 2 ([0x28, 0x00, 0x29, 0x00]) 4 1 0x0000 10 (.special),
    ob "CanTmCommit" 0x2830 1 0x00 1 2 3 2 (zeros 1) 1 2 0x0000 10 (.oneOf [1]),
    ob "CanTmShadow" 0x2830 1 0x01 1 15 4 2 (zeros 16) 16 1 0x2830 10 (.special),
    ob "CanTm" 0x2830 1 0x02 1 15 1 0 (zeros 16) 16 1 0x0000 10 (.any),
    ob "CanTmSkipped" 0x2830 1 0x03 1 4 1 0 (zeros 4) 4 0 0x0000 10 (.any),
    ob "CanStopId" 0x2838 1 0x00 1 4 2 2 ([0x01, 0x00, 0x00, 0x00]) 4 1 0x0000 10 (.special),
    ob "CanStopFramesBad" 0x2839 1 0x00 1 4 1 0 (zeros 4) 4 0 0x0000 10 (.any),
    ob "CanTxPort" 0x2840 1 0x00 1 17 3 1 ([]) 72 4 0x0000 10 (.any),
    ob "CanBufferConfig" 0x2900 8 0x01 128 15 2 2 (zeros 8) 8 1 0x0000 10 (.special),
    ob "CanBuffer" 0x2940 8 0x01 128 17 1 0 ([]) 84 0 0x0000 10 (.any),
    ob "CanBufferAck" 0x2980 8 0x01 128 3 3 1 (zeros 2) 2 0 0x0000 10 (.any) ]

/-- Objects from 0x29C0 to 0x3003. -/
def objs6 : List ObjRow :=
  [ ob "CanFilter" 0x29C0 8 0x01 64 15 2 2 (zeros 8) 8 1 0x0000 10 (.special),
    ob "RadioCommit" 0x2C00 1 0x00 1 2 3 2 (zeros 1) 1 2 0x0000 9 (.oneOf [1]),
    ob "ChannelShadow" 0x2C01 1 0x01 48 15 4 2 (zeros 12) 12 1 0x2C00 9 (.special),
    ob "Channel" 0x2C02 1 0x01 48 15 1 0 (zeros 12) 12 1 0x0000 9 (.any),
    ob "ModemShadow" 0x2C03 1 0x01 8 15 4 2 ([0x00, 0x07, 0x04, 0x0F, 0x90, 0x01, 0xC8, 0x00, 0x00, 0x00, 0x00, 0x02, 0x0E, 0x11, 0x80, 0x00, 0x64, 0x00, 0x00, 0x00, 0x00, 0x00, 0x00, 0x00]) 24 1 0x2C00 9 (.special),
    ob "Modem" 0x2C04 1 0x01 8 15 1 0 ([0x00, 0x07, 0x04, 0x0F, 0x90, 0x01, 0xC8, 0x00, 0x00, 0x00, 0x00, 0x02, 0x0E, 0x11, 0x80, 0x00, 0x64, 0x00, 0x00, 0x00, 0x00, 0x00, 0x00, 0x00]) 24 1 0x0000 9 (.any),
    ob "RadioDeviceSca" 0x2C08 1 0x00 1 3 2 2 ([0x02, 0x00]) 2 1 0x0000 9 (.range 1 50),
    ob "RadioJoinKeySlot" 0x2C09 1 0x00 1 3 2 3 (zeros 2) 2 1 0x0000 9 (.any),
    ob "RadioBroadcastKeySlot" 0x2C0A 1 0x00 1 3 2 3 (zeros 2) 2 1 0x0000 9 (.any),
    ob "RadioBeaconKeySlot" 0x2C0B 1 0x00 1 3 2 3 (zeros 2) 2 1 0x0000 9 (.any),
    ob "RadioLinkKeyBits" 0x2C0C 1 0x00 1 3 2 2 ([0x00, 0x01]) 2 1 0x0000 9 (.oneOf [128, 256]),
    ob "RadioJoinInterval" 0x2C0D 1 0x00 1 3 2 2 ([0x32, 0x00]) 2 1 0x0000 9 (.range 2 400),
    ob "RadioJoinSupervision" 0x2C0E 1 0x00 1 3 2 2 ([0x64, 0x00]) 2 1 0x0000 9 (.range 1 3200),
    ob "RadioJoinReserve" 0x2C0F 1 0x00 1 2 2 2 ([0x07]) 1 1 0x0000 9 (.range 4 80),
    ob "RadioFleetUpQueue" 0x2C10 1 0x00 1 3 2 2 ([0x18, 0x00]) 2 1 0x0000 9 (.range 0 1023),
    ob "RadioSendPort" 0x2C11 1 0x00 1 17 3 1 ([]) 4100 4 0x0000 9 (.any),
    ob "RadioWagglePort" 0x2C12 1 0x00 1 17 3 1 ([]) 1028 4 0x0000 9 (.any),
    ob "RadioNeighbourListen" 0x2C13 1 0x01 12 15 2 2 (0xFF :: zeros 5) 6 1 0x0000 9 (.special),
    ob "ModemLinks" 0x2C20 1 0x01 8 3 1 0 (zeros 2) 2 0 0x0000 9 (.any),
    ob "ModemAirtime" 0x2C21 1 0x01 8 3 1 0 (zeros 2) 2 0 0x0000 9 (.any),
    ob "ModemLinkCap" 0x2C22 1 0x01 8 3 1 0 (zeros 2) 2 0 0x0000 9 (.any),
    ob "RadioJoinRefused" 0x2C23 1 0x00 1 4 1 0 (zeros 4) 4 0 0x0000 9 (.any),
    ob "RadioMicFails" 0x2C24 1 0x00 1 4 1 0 (zeros 4) 4 0 0x0000 9 (.any),
    ob "RadioReplayDrops" 0x2C25 1 0x00 1 4 1 0 (zeros 4) 4 0 0x0000 9 (.any),
    ob "RadioLinksEnded" 0x2C26 1 0x00 1 4 1 0 (zeros 4) 4 0 0x0000 9 (.any),
    ob "RadioMessagesDropped" 0x2C27 1 0x00 1 4 1 0 (zeros 4) 4 0 0x0000 9 (.any),
    ob "TrackMode" 0x3000 1 0x00 1 2 2 1 (zeros 1) 1 0 0x0000 8 (.oneOf [0, 1]),
    ob "TrackRate" 0x3001 1 0x00 1 2 2 2 ([0x0A]) 1 1 0x0000 8 (.oneOf [1, 2, 5, 10, 20, 50, 100]),
    ob "TrackCommit" 0x3002 1 0x00 1 2 3 2 (zeros 1) 1 2 0x0000 8 (.oneOf [1]),
    ob "GsConfigShadow" 0x3003 1 0x01 4 15 4 2 ([0x00, 0x21, 0x00, 0x00, 0x00, 0x00, 0x80, 0x10]) 8 1 0x3002 8 (.special) ]

/-- Objects from 0x3004 to 0x3404. -/
def objs7 : List ObjRow :=
  [ ob "GsConfig" 0x3004 1 0x01 4 15 1 0 ([0x00, 0x21, 0x00, 0x00, 0x00, 0x00, 0x80, 0x10]) 8 1 0x0000 8 (.any),
    ob "AllotShadow" 0x3005 1 0x01 1 15 4 2 ([0x00, 0x00, 0x30, 0x00, 0x30, 0x00, 0x38, 0x00, 0x50, 0x00, 0x0C, 0x00, 0x0C, 0x00, 0x20, 0x00]) 16 1 0x3002 8 (.special),
    ob "AllotShadow" 0x3005 1 0x02 1 15 4 2 ([0x00, 0x00, 0x40, 0x00, 0x40, 0x00, 0x58, 0x00, 0x10, 0x00, 0x18, 0x00, 0x20, 0x00, 0x00, 0x00]) 16 1 0x3002 8 (.special),
    ob "AllotShadow" 0x3005 1 0x03 1 15 4 2 ([0x00, 0x00, 0x30, 0x00, 0x30, 0x00, 0x38, 0x00, 0x50, 0x00, 0x0C, 0x00, 0x0C, 0x00, 0x20, 0x00]) 16 1 0x3002 8 (.special),
    ob "AllotShadow" 0x3005 1 0x04 1 15 4 2 ([0x00, 0x00, 0x40, 0x00, 0x40, 0x00, 0x58, 0x00, 0x10, 0x00, 0x18, 0x00, 0x20, 0x00, 0x00, 0x00]) 16 1 0x3002 8 (.special),
    ob "Allot" 0x3006 1 0x01 1 15 1 0 ([0x00, 0x00, 0x30, 0x00, 0x30, 0x00, 0x38, 0x00, 0x50, 0x00, 0x0C, 0x00, 0x0C, 0x00, 0x20, 0x00]) 16 1 0x0000 8 (.any),
    ob "Allot" 0x3006 1 0x02 1 15 1 0 ([0x00, 0x00, 0x40, 0x00, 0x40, 0x00, 0x58, 0x00, 0x10, 0x00, 0x18, 0x00, 0x20, 0x00, 0x00, 0x00]) 16 1 0x0000 8 (.any),
    ob "Allot" 0x3006 1 0x03 1 15 1 0 ([0x00, 0x00, 0x30, 0x00, 0x30, 0x00, 0x38, 0x00, 0x50, 0x00, 0x0C, 0x00, 0x0C, 0x00, 0x20, 0x00]) 16 1 0x0000 8 (.any),
    ob "Allot" 0x3006 1 0x04 1 15 1 0 ([0x00, 0x00, 0x40, 0x00, 0x40, 0x00, 0x58, 0x00, 0x10, 0x00, 0x18, 0x00, 0x20, 0x00, 0x00, 0x00]) 16 1 0x0000 8 (.any),
    ob "LoopShadow" 0x3007 1 0x00 1 15 4 2 ([0x00, 0x14, 0x20, 0x32, 0xA1, 0x14, 0x0A, 0x1E]) 8 1 0x3002 8 (.special),
    ob "Loop" 0x3008 1 0x00 1 15 1 0 ([0x00, 0x14, 0x20, 0x32, 0xA1, 0x14, 0x0A, 0x1E]) 8 1 0x0000 8 (.any),
    ob "BaselineShadow" 0x3009 1 0x01 3 8 4 2 (zeros 4) 4 1 0x3002 8 (.any),
    ob "Baseline" 0x300A 1 0x01 3 8 1 0 (zeros 4) 4 1 0x0000 8 (.any),
    ob "TrackTimeSystem" 0x300B 1 0x00 1 2 2 2 (zeros 1) 1 1 0x0000 8 (.oneOf [0, 1, 2]),
    ob "TrackRecordQueue" 0x300C 1 0x00 1 3 2 2 ([0x10, 0x00]) 2 1 0x0000 8 (.range 0 1023),
    ob "TrackNavQueue" 0x300D 1 0x00 1 3 2 2 ([0x11, 0x00]) 2 1 0x0000 8 (.range 0 1023),
    ob "GsStatus" 0x3010 1 0x01 4 2 1 0 (zeros 1) 1 0 0x0000 8 (.any),
    ob "GsOccupancy" 0x3011 1 0x01 4 3 1 0 (zeros 2) 2 0 0x0000 8 (.any),
    ob "GsAgcDuty" 0x3012 1 0x01 4 2 1 0 (zeros 1) 1 0 0x0000 8 (.any),
    ob "GsClockOffset" 0x3013 1 0x01 4 8 1 0 (zeros 4) 4 0 0x0000 8 (.any),
    ob "GsGaps" 0x3014 1 0x01 4 4 1 0 (zeros 4) 4 0 0x0000 8 (.any),
    ob "TrackLocked" 0x3018 1 0x01 4 3 1 0 (zeros 2) 2 0 0x0000 8 (.any),
    ob "DoaState" 0x3019 1 0x01 2 2 1 0 (zeros 1) 1 0 0x0000 8 (.any),
    ob "TrackEpochsLost" 0x301A 1 0x00 1 4 1 0 (zeros 4) 4 0 0x0000 8 (.any),
    ob "TrackLatest" 0x301B 1 0x00 1 17 1 0 ([]) 55296 0 0x0000 8 (.any),
    ob "DevExposureQueue" 0x3400 1 0x00 1 3 2 2 ([0x12, 0x00]) 2 1 0x0000 7 (.range 0 1023),
    ob "DevResultQueue" 0x3401 1 0x00 1 3 2 2 ([0x13, 0x00]) 2 1 0x0000 7 (.range 0 1023),
    ob "DevMaxAge" 0x3402 1 0x00 1 3 2 2 ([0xE8, 0x03]) 2 1 0x0000 7 (.range 100 10000),
    ob "DevLatentMax" 0x3403 1 0x00 1 3 2 2 ([0x00, 0x08]) 2 1 0x0000 7 (.range 16 8192),
    ob "DevDetectThreshold" 0x3404 1 0x00 1 2 2 2 ([0x78]) 1 1 0x0000 7 (.range 80 200) ]

/-- Objects from 0x3405 to 0x3611. -/
def objs8 : List ObjRow :=
  [ ob "DevSpeedPrior" 0x3405 1 0x00 1 3 2 2 ([0xA8, 0x61]) 2 1 0x0000 7 (.range 1000 40000),
    ob "DevUnassistedFreqUnc" 0x3406 1 0x00 1 3 2 2 ([0xAC, 0x0D]) 2 1 0x0000 7 (.range 100 20000),
    ob "DevOwnFreqUnc" 0x3407 1 0x00 1 3 2 2 ([0x64, 0x00]) 2 1 0x0000 7 (.range 1 20000),
    ob "DevOwnBudget" 0x3408 1 0x00 1 4 2 2 ([0xC0, 0xD4, 0x01, 0x00]) 4 1 0x0000 7 (.range 20000 148480),
    ob "DevSigmaMax" 0x3409 1 0x00 1 4 2 2 ([0x88, 0x13, 0x00, 0x00]) 4 1 0x0000 7 (.range 500 100000),
    ob "DevResidualMax" 0x340A 1 0x00 1 3 2 2 ([0x2C, 0x01]) 2 1 0x0000 7 (.range 10 5000),
    ob "DevElevMask" 0x340B 1 0x00 1 2 2 2 ([0x0A]) 1 1 0x0000 7 (.range 0 45),
    ob "DevSignalMask" 0x340C 1 0x00 1 3 2 2 ([0xFE, 0x7E]) 2 1 0x0000 7 (.mask 0x7EFE),
    ob "DevStandbyPeriod" 0x3410 1 0x00 1 3 2 2 ([0xE8, 0x03]) 2 1 0x0000 7 (.range 100 60000),
    ob "DevStandbyLength" 0x3411 1 0x00 1 2 2 2 ([0x04]) 1 1 0x0000 7 (.range 1 8),
    ob "DevStandbyPosMax" 0x3412 1 0x00 1 4 2 2 ([0x10, 0x27, 0x00, 0x00]) 4 1 0x0000 7 (.range 1000 1000000),
    ob "DevStandbyResult" 0x3413 1 0x00 1 17 1 0 ([]) 640 0 0x0000 7 (.any),
    ob "DevStandbyFlags" 0x3414 1 0x00 1 2 1 0 (zeros 1) 1 0 0x0000 7 (.any),
    ob "DevRateCells" 0x3418 1 0x00 1 4 1 0 ([0x00, 0xC4, 0x09, 0x00]) 4 0 0x0000 7 (.any),
    ob "DevMachineBudget" 0x3419 1 0x00 1 4 1 0 (zeros 4) 4 0 0x0000 7 (.any),
    ob "DevLatentCount" 0x341A 1 0x00 1 3 1 0 (zeros 2) 2 0 0x0000 7 (.any),
    ob "DevDeveloped" 0x341B 1 0x00 1 4 1 0 (zeros 4) 4 0 0x0000 7 (.any),
    ob "DevRefused" 0x341C 1 0x00 1 4 1 0 (zeros 4) 4 0 0x0000 7 (.any),
    ob "BaseCommit" 0x3600 1 0x00 1 2 3 2 (zeros 1) 1 2 0x0000 6 (.oneOf [1]),
    ob "BaseRefShadow" 0x3601 1 0x01 3 9 4 2 (zeros 8) 8 1 0x3600 6 (.any),
    ob "BaseAntennaHeightShadow" 0x3602 1 0x00 1 3 4 2 (zeros 2) 2 1 0x3600 6 (.any),
    ob "BaseStationIdShadow" 0x3603 1 0x00 1 3 4 2 (zeros 2) 2 1 0x3600 6 (.range 0 4095),
    ob "BaseItrfYearShadow" 0x3604 1 0x00 1 2 4 2 (zeros 1) 1 1 0x3600 6 (.range 0 63),
    ob "BaseRef" 0x3605 1 0x01 3 9 1 0 (zeros 8) 8 1 0x0000 6 (.any),
    ob "BaseAntennaHeight" 0x3606 1 0x00 1 3 1 0 (zeros 2) 2 1 0x0000 6 (.any),
    ob "BaseStationId" 0x3607 1 0x00 1 3 1 0 (zeros 2) 2 1 0x0000 6 (.any),
    ob "BaseItrfYear" 0x3608 1 0x00 1 2 1 0 (zeros 1) 1 1 0x0000 6 (.any),
    ob "BaseRefSource" 0x3609 1 0x00 1 2 1 0 (zeros 1) 1 1 0x0000 6 (.any),
    ob "BaseState" 0x3610 1 0x00 1 2 1 0 (zeros 1) 1 0 0x0000 6 (.any),
    ob "BaseSuspectCause" 0x3611 1 0x00 1 2 1 0 (zeros 1) 1 0 0x0000 6 (.any) ]

/-- Objects from 0x3612 to 0x3643. -/
def objs9 : List ObjRow :=
  [ ob "BaseExcludeMask" 0x3612 1 0x00 1 2 2 2 ([0x06]) 1 1 0x0000 6 (.mask 0x7),
    ob "BasePosCheckMax" 0x3613 1 0x00 1 4 2 2 ([0x88, 0x13, 0x00, 0x00]) 4 1 0x0000 6 (.range 500 100000),
    ob "BaseResidualMax" 0x3614 1 0x00 1 3 2 2 ([0x64, 0x00]) 2 1 0x0000 6 (.range 10 1000),
    ob "BaseRecoverTime" 0x3615 1 0x00 1 3 2 2 ([0x3C, 0x00]) 2 1 0x0000 6 (.range 10 3600),
    ob "BaseSurveyStart" 0x3620 1 0x00 1 2 3 2 (zeros 1) 1 0 0x0000 6 (.oneOf [0, 1, 2]),
    ob "BaseSurveyMinTime" 0x3621 1 0x00 1 4 2 2 ([0x58, 0x02, 0x00, 0x00]) 4 1 0x0000 6 (.range 600 86400),
    ob "BaseSurveySigmaMax" 0x3622 1 0x00 1 4 2 2 ([0xF4, 0x01, 0x00, 0x00]) 4 1 0x0000 6 (.range 10 10000),
    ob "BaseSurveySigmaNet" 0x3623 1 0x00 1 4 2 2 ([0x14, 0x00, 0x00, 0x00]) 4 1 0x0000 6 (.range 2 1000),
    ob "BaseSurveyMaxTime" 0x3624 1 0x00 1 4 2 2 ([0x80, 0x51, 0x01, 0x00]) 4 1 0x0000 6 (.range 600 604800),
    ob "BaseSurveyState" 0x3625 1 0x00 1 2 1 0 (zeros 1) 1 1 0x0000 6 (.any),
    ob "BaseSurveyElapsed" 0x3626 1 0x00 1 4 1 0 (zeros 4) 4 0 0x0000 6 (.any),
    ob "BaseSurveySigma" 0x3627 1 0x00 1 4 1 0 ([0xFF, 0xFF, 0xFF, 0xFF]) 4 0 0x0000 6 (.any),
    ob "RtcmMsmType" 0x3630 1 0x00 1 2 2 2 ([0x07]) 1 1 0x0000 6 (.oneOf [4, 7]),
    ob "RtcmMsmRate" 0x3631 1 0x00 1 2 2 2 ([0x01]) 1 1 0x0000 6 (.oneOf [1, 2, 5, 10]),
    ob "RtcmArpType" 0x3632 1 0x00 1 2 2 2 ([0x06]) 1 1 0x0000 6 (.oneOf [5, 6]),
    ob "RtcmStaticPeriod" 0x3633 1 0x00 1 3 2 2 ([0x0A, 0x00]) 2 1 0x0000 6 (.range 1 300),
    ob "RtcmAntennaDescriptor" 0x3634 1 0x00 1 16 2 2 ([]) 31 1 0x0000 6 (.special),
    ob "RtcmAntennaSerial" 0x3635 1 0x00 1 16 2 2 ([]) 31 1 0x0000 6 (.special),
    ob "RtcmAntennaSetupId" 0x3636 1 0x00 1 2 2 2 (zeros 1) 1 1 0x0000 6 (.any),
    ob "RtcmSystemMask" 0x3637 1 0x00 1 2 2 2 ([0x0F]) 1 1 0x0000 6 (.mask 0xF),
    ob "RtcmUdpDest" 0x3638 1 0x01 4 17 2 2 ([]) 18 1 0x0000 6 (.special),
    ob "RtcmQueue" 0x3639 1 0x00 1 3 2 2 ([0x14, 0x00]) 2 1 0x0000 6 (.range 0 1023),
    ob "RtcmWaggle" 0x363A 1 0x00 1 1 2 2 ([0x01]) 1 1 0x0000 6 (.any),
    ob "RtcmEpochsSent" 0x363B 1 0x00 1 4 1 0 (zeros 4) 4 0 0x0000 6 (.any),
    ob "RtcmEpochsWithheld" 0x363C 1 0x00 1 4 1 0 (zeros 4) 4 0 0x0000 6 (.any),
    ob "RtcmWaggleSuperseded" 0x363D 1 0x00 1 4 1 0 (zeros 4) 4 0 0x0000 6 (.any),
    ob "BaseNetPort" 0x3640 1 0x00 1 17 3 2 ([]) 1348 4 0x0000 6 (.any),
    ob "BaseNetStationId" 0x3641 1 0x00 1 3 2 2 (zeros 2) 2 1 0x0000 6 (.range 0 4095),
    ob "BaseNetMaxAge" 0x3642 1 0x00 1 3 2 2 ([0x88, 0x13]) 2 1 0x0000 6 (.range 1000 60000),
    ob "BaseNetMaxBaseline" 0x3643 1 0x00 1 4 2 2 ([0x50, 0xC3, 0x00, 0x00]) 4 1 0x0000 6 (.range 1000 100000) ]

/-- Objects from 0x3644 to 0x4003. -/
def objs10 : List ObjRow :=
  [ ob "BaseNetCheckMax" 0x3644 1 0x00 1 4 2 2 ([0x32, 0x00, 0x00, 0x00]) 4 1 0x0000 6 (.range 10 10000),
    ob "BaseNetState" 0x3645 1 0x00 1 2 1 0 (zeros 1) 1 0 0x0000 6 (.any),
    ob "BaseNetFramesBad" 0x3646 1 0x00 1 4 1 0 (zeros 4) 4 0 0x0000 6 (.any),
    ob "RoverEnable" 0x3800 1 0x00 1 1 2 2 ([0x01]) 1 1 0x0000 6 (.any),
    ob "RoverObsQueue" 0x3801 1 0x00 1 3 2 2 ([0x15, 0x00]) 2 1 0x0000 6 (.range 0 1023),
    ob "RoverFixQueue" 0x3802 1 0x00 1 3 2 2 ([0x16, 0x00]) 2 1 0x0000 6 (.range 0 1023),
    ob "RoverMaxAge" 0x3803 1 0x00 1 3 2 2 ([0xC8, 0x00]) 2 1 0x0000 6 (.range 20 2000),
    ob "RoverBaseAgeMax" 0x3804 1 0x00 1 3 2 2 ([0xFA, 0x00]) 2 1 0x0000 6 (.range 10 2000),
    ob "RoverElevMask" 0x3805 1 0x00 1 2 2 2 ([0x0A]) 1 1 0x0000 6 (.range 0 45),
    ob "RoverCodeSigma" 0x3806 1 0x00 1 3 2 2 ([0x2C, 0x01]) 2 1 0x0000 6 (.range 10 10000),
    ob "RoverPhaseSigma" 0x3807 1 0x00 1 3 2 2 ([0x1E, 0x00]) 2 1 0x0000 6 (.range 5 500),
    ob "RoverAccelNoise" 0x3808 1 0x00 1 3 2 2 ([0xE8, 0x03]) 2 1 0x0000 6 (.range 10 20000),
    ob "RoverIonoPpm" 0x3809 1 0x00 1 3 2 2 ([0x0A, 0x00]) 2 1 0x0000 6 (.range 1 200),
    ob "RoverRatioMin" 0x380A 1 0x00 1 3 2 2 ([0x2C, 0x01]) 2 1 0x0000 6 (.range 150 1000),
    ob "RoverMinFixed" 0x380B 1 0x00 1 2 2 2 ([0x08]) 1 1 0x0000 6 (.range 4 32),
    ob "RoverPartialDrop" 0x380C 1 0x00 1 2 2 2 ([0x06]) 1 1 0x0000 6 (.range 0 16),
    ob "RoverAbFracMax" 0x380D 1 0x00 1 3 2 2 ([0x64, 0x00]) 2 1 0x0000 6 (.range 30 250),
    ob "RoverPhaseResMax" 0x380E 1 0x00 1 3 2 2 ([0x14, 0x00]) 2 1 0x0000 6 (.range 5 200),
    ob "RoverSearchNodes" 0x380F 1 0x00 1 4 2 2 ([0x50, 0xC3, 0x00, 0x00]) 4 1 0x0000 6 (.range 1000 1000000),
    ob "RoverPendingMax" 0x3810 1 0x00 1 3 2 2 ([0x00, 0x04]) 2 1 0x0000 6 (.range 64 4096),
    ob "RoverRateBudget" 0x3811 1 0x00 1 4 1 0 (zeros 4) 4 0 0x0000 6 (.any),
    ob "RoverGapMax" 0x3812 1 0x00 1 3 2 2 ([0x88, 0x13]) 2 1 0x0000 6 (.range 200 60000),
    ob "RoverPending" 0x3820 1 0x00 1 3 1 0 (zeros 2) 2 0 0x0000 6 (.any),
    ob "RoverSolved" 0x3821 1 0x00 1 4 1 0 (zeros 4) 4 0 0x0000 6 (.any),
    ob "RoverReinits" 0x3822 1 0x00 1 4 1 0 (zeros 4) 4 0 0x0000 6 (.any),
    ob "RoverRefused" 0x3823 1 0x00 1 4 1 0 (zeros 4) 4 0 0x0000 6 (.any),
    ob "SiteCommit" 0x4000 1 0x00 1 2 3 2 (zeros 1) 1 2 0x0000 5 (.oneOf [1]),
    ob "SiteOriginShadow" 0x4001 1 0x01 3 9 4 2 (zeros 8) 8 1 0x4000 5 (.any),
    ob "CellPitchShadow" 0x4002 1 0x00 1 2 4 2 ([0x02]) 1 1 0x4000 5 (.range 0 7),
    ob "CombEpochShadow" 0x4003 1 0x00 1 12 4 2 (zeros 8) 8 1 0x4000 5 (.any) ]

/-- Objects from 0x4004 to 0x4047. -/
def objs11 : List ObjRow :=
  [ ob "SiteOrigin" 0x4004 1 0x01 3 9 1 0 (zeros 8) 8 1 0x0000 5 (.any),
    ob "CellPitch" 0x4005 1 0x00 1 2 1 0 ([0x02]) 1 1 0x0000 5 (.any),
    ob "CombEpoch" 0x4006 1 0x00 1 12 1 0 (zeros 8) 8 1 0x0000 5 (.any),
    ob "SiteFrameState" 0x4007 1 0x00 1 2 1 0 (zeros 1) 1 1 0x0000 5 (.any),
    ob "SiteGeodetic" 0x4008 1 0x01 3 11 1 0 (zeros 8) 8 1 0x0000 5 (.any),
    ob "SiteFrameDigest" 0x4009 1 0x00 1 15 1 0 (zeros 8) 8 1 0x0000 5 (.any),
    ob "CtimeNow" 0x400A 1 0x00 1 13 1 0 (zeros 5) 5 0 0x0000 5 (.any),
    ob "CombEntriesCap" 0x4010 1 0x00 1 4 1 0 (zeros 4) 4 0 0x0000 5 (.any),
    ob "CombEntriesUsed" 0x4011 1 0x00 1 4 1 0 (zeros 4) 4 0 0x0000 5 (.any),
    ob "CombEntriesLive" 0x4012 1 0x00 1 4 1 0 (zeros 4) 4 0 0x0000 5 (.any),
    ob "CombBucketsFull" 0x4013 1 0x00 1 4 1 0 (zeros 4) 4 0 0x0000 5 (.any),
    ob "CombHorizon" 0x4014 1 0x00 1 4 2 2 ([0xC0, 0x27, 0x09, 0x00]) 4 1 0x0000 5 (.range 1000 3600000),
    ob "CombTrackEntriesMax" 0x4015 1 0x00 1 4 2 2 ([0x00, 0x00, 0x01, 0x00]) 4 1 0x0000 5 (.range 1024 131072),
    ob "CombSpeedMax" 0x4016 1 0x00 1 3 2 2 ([0xA8, 0x61]) 2 1 0x0000 5 (.range 1000 40000),
    ob "CombRequestPort" 0x4020 1 0x00 1 17 3 1 ([]) 1124 4 0x0000 5 (.any),
    ob "CombIntakeWaiting" 0x4030 1 0x01 8 2 1 0 (zeros 1) 1 0 0x0000 5 (.any),
    ob "CombInFlight" 0x4031 1 0x00 1 3 1 0 (zeros 2) 2 0 0x0000 5 (.any),
    ob "CombAcceptSeqLast" 0x4032 1 0x00 1 4 1 0 (zeros 4) 4 0 0x0000 5 (.any),
    ob "CombWaited" 0x4033 1 0x00 1 4 1 0 (zeros 4) 4 0 0x0000 5 (.any),
    ob "CombBlockedSlots" 0x4034 1 0x00 1 4 1 0 (zeros 4) 4 0 0x0000 5 (.any),
    ob "CombClearBlocked" 0x4035 1 0x00 1 2 3 2 (zeros 1) 1 0 0x0000 5 (.oneOf [1]),
    ob "CombPrepareTimeout" 0x4036 1 0x00 1 3 2 2 ([0x14, 0x00]) 2 1 0x0000 5 (.range 2 200),
    ob "RegionCommit" 0x4040 1 0x00 1 2 3 2 (zeros 1) 1 2 0x0000 5 (.oneOf [1]),
    ob "RegionPolygonShadow" 0x4041 1 0x00 1 17 4 2 ([]) 128 1 0x4040 5 (.any),
    ob "NeighbourShadow" 0x4042 1 0x01 12 17 4 2 ([]) 152 1 0x4040 5 (.special),
    ob "BandWidthShadow" 0x4043 1 0x00 1 4 4 2 ([0x20, 0x4E, 0x00, 0x00]) 4 1 0x4040 5 (.range 1000 200000),
    ob "HeartbeatPeriodShadow" 0x4044 1 0x00 1 3 4 2 ([0x64, 0x00]) 2 1 0x4040 5 (.range 20 1000),
    ob "RegionPolygon" 0x4045 1 0x00 1 17 1 0 ([]) 128 1 0x0000 5 (.any),
    ob "Neighbour" 0x4046 1 0x01 12 17 1 0 ([]) 152 1 0x0000 5 (.any),
    ob "BandWidth" 0x4047 1 0x00 1 4 1 0 ([0x20, 0x4E, 0x00, 0x00]) 4 1 0x0000 5 (.any) ]

/-- Objects from 0x4048 to 0x4845. -/
def objs12 : List ObjRow :=
  [ ob "HeartbeatPeriod" 0x4048 1 0x00 1 3 1 0 ([0x64, 0x00]) 2 1 0x0000 5 (.any),
    ob "RegionDigest" 0x4049 1 0x00 1 15 1 0 (zeros 8) 8 1 0x0000 5 (.any),
    ob "NeighbourState" 0x404A 1 0x01 12 2 1 0 (zeros 1) 1 0 0x0000 5 (.any),
    ob "NeighbourLosses" 0x404B 1 0x01 12 4 1 0 (zeros 4) 4 0 0x0000 5 (.any),
    ob "CombNeighbourPort" 0x4050 1 0x00 1 17 3 2 ([]) 2097168 4 0x0000 5 (.any),
    ob "PolicyCommit" 0x4800 1 0x00 1 2 3 2 (zeros 1) 1 2 0x0000 5 (.oneOf [1]),
    ob "PolicyShadow" 0x4801 1 0x01 8 15 4 2 ([0x02, 0x01, 0x00, 0x00, 0x02, 0x03, 0x00, 0x00, 0x02, 0x02, 0x00, 0x00, 0x02, 0x01, 0x00, 0x00, 0x02, 0x01, 0x00, 0x00, 0x01, 0x01, 0x00, 0x00, 0x01, 0x03, 0x00, 0x00, 0x01, 0x01, 0x00, 0x00, 0x02, 0x00, 0x00, 0x00, 0x01, 0x01, 0x00, 0x00]) 40 1 0x4800 5 (.special),
    ob "Policy" 0x4802 1 0x01 8 15 1 0 ([0x02, 0x01, 0x00, 0x00, 0x02, 0x03, 0x00, 0x00, 0x02, 0x02, 0x00, 0x00, 0x02, 0x01, 0x00, 0x00, 0x02, 0x01, 0x00, 0x00, 0x01, 0x01, 0x00, 0x00, 0x01, 0x03, 0x00, 0x00, 0x01, 0x01, 0x00, 0x00, 0x02, 0x00, 0x00, 0x00, 0x01, 0x01, 0x00, 0x00]) 40 1 0x0000 5 (.any),
    ob "ConfVerdictQueue" 0x4803 1 0x00 1 3 2 2 ([0x17, 0x00]) 2 1 0x0000 5 (.range 0 1023),
    ob "ConfSigmaScale" 0x4804 1 0x00 1 3 2 2 ([0x2C, 0x01]) 2 1 0x0000 5 (.range 100 1000),
    ob "ConfDisagreeFloor" 0x4805 1 0x00 1 4 2 2 ([0xE8, 0x03, 0x00, 0x00]) 4 1 0x0000 5 (.range 100 100000),
    ob "ConfDisagreeScale" 0x4806 1 0x00 1 3 2 2 ([0x90, 0x01]) 2 1 0x0000 5 (.range 100 2000),
    ob "ConfPairWindow" 0x4807 1 0x00 1 3 2 2 ([0xC8, 0x00]) 2 1 0x0000 5 (.range 10 2000),
    ob "ConfStaleReported" 0x4808 1 0x00 1 3 2 2 ([0xF4, 0x01]) 2 1 0x0000 5 (.range 50 10000),
    ob "ConfStaleFix" 0x4809 1 0x00 1 3 2 2 ([0xF4, 0x01]) 2 1 0x0000 5 (.range 50 10000),
    ob "ConfStaleDeveloped" 0x480A 1 0x00 1 4 2 2 ([0x88, 0x13, 0x00, 0x00]) 4 1 0x0000 5 (.range 500 600000),
    ob "ConfHeadingAge" 0x480B 1 0x00 1 3 2 2 ([0xF4, 0x01]) 2 1 0x0000 5 (.range 10 5000),
    ob "ConfTimeQualityMin" 0x480C 1 0x00 1 2 2 2 ([0x04]) 1 1 0x0000 5 (.range 0 15),
    ob "ConfIgnored" 0x480D 1 0x00 1 4 1 0 (zeros 4) 4 0 0x0000 5 (.any),
    ob "ConfVerdictCount" 0x480E 1 0x01 4 4 1 0 (zeros 4) 4 0 0x0000 5 (.any),
    ob "FleetMode" 0x4820 1 0x00 1 2 1 0 (zeros 1) 1 1 0x0000 5 (.any),
    ob "SwarmCommand" 0x4821 1 0x00 1 17 3 1 ([]) 24 8 0x0000 5 (.any),
    ob "SwarmPending" 0x4822 1 0x00 1 15 1 0 (zeros 24) 24 0 0x0000 5 (.any),
    ob "SwarmUnacked" 0x4823 1 0x00 1 3 1 0 (zeros 2) 2 0 0x0000 5 (.any),
    ob "StopCommand" 0x4840 1 0x00 1 17 3 1 ([]) 8 8 0x0000 12 (.any),
    ob "ReleaseArm" 0x4841 1 0x00 1 17 3 1 ([]) 4 8 0x0000 12 (.any),
    ob "ReleaseArmed" 0x4842 1 0x00 1 15 1 0 (zeros 8) 8 0 0x0000 12 (.any),
    ob "ReleaseConfirm" 0x4843 1 0x00 1 17 3 1 ([]) 8 8 0x0000 12 (.any),
    ob "ReleaseMinDelay" 0x4844 1 0x00 1 3 2 2 ([0xE8, 0x03]) 2 1 0x0000 12 (.range 0 10000),
    ob "ReleaseWindow" 0x4845 1 0x00 1 3 2 2 ([0x1E, 0x00]) 2 1 0x0000 12 (.range 5 300) ]

/-- Objects from 0x4847 to 0x7000. -/
def objs13 : List ObjRow :=
  [ ob "StopLatchAll" 0x4847 1 0x00 1 3 1 0 ([0x00, 0x08]) 2 0 0x0000 12 (.any),
    ob "StopLatchGroup" 0x4848 1 0x01 64 3 1 0 (zeros 2) 2 0 0x0000 12 (.any),
    ob "StopLatchZone" 0x4849 1 0x01 28 3 1 0 (zeros 2) 2 0 0x0000 12 (.any),
    ob "StopInService" 0x484A 1 0x00 1 1 1 0 (zeros 1) 1 0 0x0000 12 (.any),
    ob "StopInConfig" 0x4850 1 0x01 4 4 2 2 ([0x20, 0x43, 0x06, 0x00]) 4 1 0x0000 12 (.special),
    ob "StopInState" 0x4851 1 0x01 4 2 1 0 (zeros 1) 1 0 0x0000 12 (.any),
    ob "StopOutConfig" 0x4852 1 0x01 4 4 2 2 ([0x00, 0x00, 0x14, 0x00]) 4 1 0x0000 12 (.special),
    ob "StopOutState" 0x4853 1 0x01 4 2 1 0 (zeros 1) 1 0 0x0000 12 (.any),
    ob "StopZone" 0x4855 1 0x01 16 17 2 2 ([]) 128 1 0x0000 12 (.special),
    ob "StopNeighbourAccept" 0x4860 1 0x00 1 3 2 2 ([0xFF, 0x0F]) 2 1 0x0000 12 (.mask 0xFFF),
    ob "StopNeighbourSend" 0x4861 1 0x00 1 2 2 2 ([0x01]) 1 1 0x0000 12 (.range 0 2),
    ob "StopNeighbourPort" 0x4862 1 0x00 1 17 3 2 ([]) 16 4 0x0000 12 (.any),
    ob "BroodAppletBase" 0x5010 1 0x00 1 3 2 3 ([0x00, 0xC0]) 2 1 0x0000 3 (.special),
    ob "BroodAppletCount" 0x5011 1 0x00 1 4 2 3 ([0x00, 0x40, 0x00, 0x00]) 4 1 0x0000 3 (.special),
    ob "BroodDiscardQueue" 0x5012 1 0x01 1 3 2 2 ([0x00, 0x00]) 2 1 0x0000 3 (.special),
    ob "BroodDiscardQueue" 0x5012 1 0x02 1 3 2 2 ([0x00, 0x02]) 2 1 0x0000 3 (.special),
    ob "AppletPrivilege" 0x5013 1 0x00 1 2 2 3 ([0x01]) 1 1 0x0000 3 (.range 0 2),
    ob "AppletSramSize" 0x5014 1 0x00 1 2 2 3 ([0x04]) 1 1 0x0000 3 (.range 0 6),
    ob "AppletLpddrSize" 0x5015 1 0x00 1 3 2 3 ([0x10, 0x00]) 2 1 0x0000 3 (.special),
    ob "BroodStray" 0x5016 1 0x00 1 4 1 0 (zeros 4) 4 0 0x0000 3 (.any),
    ob "BroodReady" 0x5017 1 0x01 2 4 1 0 (zeros 4) 4 0 0x0000 3 (.any),
    ob "AppletObjectQueue" 0x5018 1 0x00 1 3 2 2 ([0x01, 0x02]) 2 1 0x0000 3 (.special),
    ob "AppletAnswerTimeout" 0x5019 1 0x00 1 3 2 2 ([0x64, 0x00]) 2 1 0x0000 3 (.range 10 10000),
    ob "QueueConfig" 0x5100 2 0x00 256 15 2 2 ([0x00, 0x00, 0x00, 0x00, 0x00, 0x00, 0x04, 0x00]) 8 1 0x0000 3 (.special),
    ob "QueueConfig" 0x5102 2 0x00 256 15 2 2 ([0x00, 0x00, 0x00, 0x00, 0x00, 0x00, 0x04, 0xC0]) 8 1 0x0000 3 (.special),
    ob "QueueLevel" 0x5110 4 0x00 256 15 1 0 (zeros 8) 8 0 0x0000 3 (.any),
    ob "QueueDrops" 0x5120 4 0x00 256 4 1 0 (zeros 4) 4 0 0x0000 3 (.any),
    ob "QueuePoolFree" 0x5130 1 0x00 1 4 1 0 ([0x00, 0x00, 0x01, 0x00]) 4 0 0x0000 3 (.any),
    ob "MachineId" 0x7000 1024 0x01 1 4 2 1 ([0xFF, 0xFF, 0xFF, 0xFF]) 4 1 0x0000 9 (.any),
    ob "JoinCounterLast" 0x7000 1024 0x02 1 5 1 0 (zeros 8) 8 1 0x0000 9 (.any) ]

/-- Objects from 0x7000 to 0x7000. -/
def objs14 : List ObjRow :=
  [ ob "CombG0" 0x7000 1024 0x20 1 3 2 1 ([0xFA, 0x00]) 2 1 0x0000 5 (.range 0 10000),
    ob "CombK" 0x7000 1024 0x21 1 3 2 1 ([0x14, 0x00]) 2 1 0x0000 5 (.range 0 1000),
    ob "CombMarginMin" 0x7000 1024 0x22 1 3 2 1 ([0xC8, 0x00]) 2 1 0x0000 5 (.range 0 5000),
    ob "CombTrimGuard" 0x7000 1024 0x23 1 3 2 1 ([0xF4, 0x01]) 2 1 0x0000 5 (.range 0 10000),
    ob "CombLiveTracks" 0x7000 1024 0x24 1 2 1 0 (zeros 1) 1 0 0x0000 5 (.any),
    ob "CombLiveEntries" 0x7000 1024 0x25 1 4 1 0 (zeros 4) 4 0 0x0000 5 (.any),
    ob "RoverStatus" 0x7000 1024 0x30 1 2 1 0 (zeros 1) 1 0 0x0000 6 (.any),
    ob "RoverLastFix" 0x7000 1024 0x31 1 17 1 0 ([]) 104 0 0x0000 6 (.any),
    ob "RoverReset" 0x7000 1024 0x32 1 2 3 1 (zeros 1) 1 0 0x0000 6 (.oneOf [1]),
    ob "RoverFixedEpochs" 0x7000 1024 0x33 1 4 1 0 (zeros 4) 4 0 0x0000 6 (.any),
    ob "StopGroup" 0x7000 1024 0x40 1 2 2 1 (zeros 1) 1 1 0x0000 12 (.range 0 63),
    ob "ConfFootprint" 0x7000 1024 0x41 1 17 2 1 ([]) 72 1 0x0000 5 (.special),
    ob "ConfSources" 0x7000 1024 0x42 1 2 2 1 ([0x03]) 1 1 0x0000 5 (.mask 0x7),
    ob "SafelightMissMax" 0x7000 1024 0x43 1 2 2 1 ([0x02]) 1 1 0x0000 5 (.range 1 16),
    ob "StopEpoch" 0x7000 1024 0x44 1 4 1 0 (zeros 4) 4 0 0x0000 12 (.any),
    ob "StopLatch" 0x7000 1024 0x45 1 3 1 0 (zeros 2) 2 0 0x0000 12 (.any),
    ob "ConfVerdictLast" 0x7000 1024 0x46 1 15 1 0 (zeros 32) 32 0 0x0000 5 (.any),
    ob "AckedMode" 0x7000 1024 0x47 1 2 1 0 (zeros 1) 1 0 0x0000 5 (.any),
    ob "StopGo" 0x7000 1024 0x48 1 1 1 0 (zeros 1) 1 0 0x0000 12 (.any),
    ob "LinkState" 0x7000 1024 0x50 1 2 1 0 (zeros 1) 1 0 0x0000 9 (.any),
    ob "LinkModem" 0x7000 1024 0x51 1 2 1 0 ([0xFF]) 1 0 0x0000 9 (.any),
    ob "LinkId" 0x7000 1024 0x52 1 4 1 0 (zeros 4) 4 0 0x0000 9 (.any),
    ob "LinkParams" 0x7000 1024 0x53 1 15 1 0 (zeros 20) 20 0 0x0000 9 (.any),
    ob "LinkParamRequest" 0x7000 1024 0x54 1 15 3 1 (zeros 20) 20 0 0x0000 9 (.special),
    ob "LinkEnd" 0x7000 1024 0x55 1 2 3 1 (zeros 1) 1 0 0x0000 9 (.oneOf [1]),
    ob "LinkStats" 0x7000 1024 0x56 1 15 1 0 (zeros 16) 16 0 0x0000 9 (.any),
    ob "LinkRssi" 0x7000 1024 0x57 1 6 1 0 ([0x80]) 1 0 0x0000 9 (.any) ]

/-- The whole dictionary (applet-defined objects apart, R792). -/
def objTable : List ObjRow :=
  objs0 ++ objs1 ++ objs2 ++ objs3 ++ objs4 ++ objs5 ++ objs6 ++ objs7 ++ objs8 ++ objs9 ++ objs10 ++ objs11 ++ objs12 ++ objs13 ++ objs14

/-- The key of an object: index and subindex in one number. -/
def key (idx sub : Nat) : Nat := idx * 256 + sub

def ObjRow.hasIdx (r : ObjRow) (idx : Nat) : Bool := r.idx ≤ idx && idx < r.idx + r.nIdx
def ObjRow.has (r : ObjRow) (idx sub : Nat) : Bool := r.hasIdx idx && (r.sub ≤ sub && sub < r.sub + r.nSub)

/-- The row of an object. -/
def findObj (idx sub : Nat) : Option ObjRow := objTable.find? fun r => r.has idx sub

/-- The default of an object. -/
def objDefault (k : Nat) : Bytes :=
  match findObj (k / 256) (k % 256) with
  | some r => r.dflt
  | none => []

/-- The commit object's index of an object of the row: indices that number ports or outputs have one group each. -/
def ObjRow.commitOf (r : ObjRow) (idx : Nat) : Nat := if r.commit = 0 then 0 else r.commit + (idx - r.idx)

/-- A run of members of a stage group: shadow objects and the objects that hold their active values. -/
structure Member where
  commit : Nat
  shadow : Nat
  active : Nat
  count  : Nat
  deriving DecidableEq, Repr, Inhabited

/-- The members of the groups whose commit object stands alone. -/
def groupTable : List Member :=
  [ ⟨0x4000, key 0x4001 1, key 0x4004 1, 3⟩,
    ⟨0x4000, key 0x4002 0, key 0x4005 0, 1⟩,
    ⟨0x4000, key 0x4003 0, key 0x4006 0, 1⟩,
    ⟨0x4040, key 0x4041 0, key 0x4045 0, 1⟩,
    ⟨0x4040, key 0x4042 1, key 0x4046 1, 12⟩,
    ⟨0x4040, key 0x4043 0, key 0x4047 0, 1⟩,
    ⟨0x4040, key 0x4044 0, key 0x4048 0, 1⟩,
    ⟨0x3002, key 0x3003 1, key 0x3004 1, 4⟩,
    ⟨0x3002, key 0x3005 1, key 0x3006 1, 4⟩,
    ⟨0x3002, key 0x3007 0, key 0x3008 0, 1⟩,
    ⟨0x3002, key 0x3009 1, key 0x300A 1, 3⟩,
    ⟨0x3600, key 0x3601 1, key 0x3605 1, 3⟩,
    ⟨0x3600, key 0x3602 0, key 0x3606 0, 1⟩,
    ⟨0x3600, key 0x3603 0, key 0x3607 0, 1⟩,
    ⟨0x3600, key 0x3604 0, key 0x3608 0, 1⟩,
    ⟨0x4800, key 0x4801 1, key 0x4802 1, 8⟩,
    ⟨0x2C00, key 0x2C01 1, key 0x2C02 1, 48⟩,
    ⟨0x2C00, key 0x2C03 1, key 0x2C04 1, 8⟩,
    ⟨0x2440, key 0x2441 0, key 0x2451 0, 1⟩,
    ⟨0x2440, key 0x2442 0, key 0x2452 0, 1⟩,
    ⟨0x2440, key 0x2443 1, key 0x2453 1, 4⟩,
    ⟨0x2440, key 0x2444 0, key 0x2454 0, 1⟩,
    ⟨0x2440, key 0x2445 0, key 0x2455 0, 1⟩,
    ⟨0x2440, key 0x2446 0, key 0x2456 0, 1⟩,
    ⟨0x2830, key 0x2830 1, key 0x2830 2, 1⟩ ]

/-- The members of the group of commit object `c` (R101 to R104); those of time pulse outputs and CAN ports follow the number. -/
def members (c : Nat) : List Member :=
  if 0x2100 ≤ c && c < 0x2108 then [⟨c, key c 1, key c 2, 1⟩]
  else if 0x2820 ≤ c && c < 0x2828 then [⟨c, key c 1, key c 3, 1⟩, ⟨c, key c 2, key c 4, 1⟩]
  else if c = 0x1010 then [⟨0x1010, key 0x1010 1, key 0x1011 0, 1⟩]
  else groupTable.filter fun m => m.commit = c

/-- The keys of a group's shadow objects with the keys of their active values. -/
def memberKeys (c : Nat) : List (Nat × Nat) :=
  (members c).flatMap fun m => (List.range m.count).map fun i => (m.shadow + i, if m.active = 0 then 0 else m.active + i)

end Sys2Proof.Machine
end

