-- ==== Sys2Proof/Machine/Sha.lean ====
section
/-!
DEFINITION. SHA-384, HMAC-SHA-384, HKDF with SHA-384 and the counter-mode KDF (03_object_dictionary.md R122, 17_keyring_lifecycle.md
R801, R837). The spec names the functions; their constants are PRESUMED from the published standards (log entry 5).
-/

namespace Sys2Proof.Machine.Sha

/-- Words are numbers below 2⁶⁴. -/
def M : Nat := 2 ^ 64
def rotr (x n : Nat) : Nat := (x >>> n) ||| ((x <<< (64 - n)) % M)
def bnot (x : Nat) : Nat := x ^^^ (M - 1)

/-- Round constants. -/
def K : List Nat :=
  [ 0x428A2F98D728AE22, 0x7137449123EF65CD, 0xB5C0FBCFEC4D3B2F, 0xE9B5DBA58189DBBC,
    0x3956C25BF348B538, 0x59F111F1B605D019, 0x923F82A4AF194F9B, 0xAB1C5ED5DA6D8118,
    0xD807AA98A3030242, 0x12835B0145706FBE, 0x243185BE4EE4B28C, 0x550C7DC3D5FFB4E2,
    0x72BE5D74F27B896F, 0x80DEB1FE3B1696B1, 0x9BDC06A725C71235, 0xC19BF174CF692694,
    0xE49B69C19EF14AD2, 0xEFBE4786384F25E3, 0x0FC19DC68B8CD5B5, 0x240CA1CC77AC9C65,
    0x2DE92C6F592B0275, 0x4A7484AA6EA6E483, 0x5CB0A9DCBD41FBD4, 0x76F988DA831153B5,
    0x983E5152EE66DFAB, 0xA831C66D2DB43210, 0xB00327C898FB213F, 0xBF597FC7BEEF0EE4,
    0xC6E00BF33DA88FC2, 0xD5A79147930AA725, 0x06CA6351E003826F, 0x142929670A0E6E70,
    0x27B70A8546D22FFC, 0x2E1B21385C26C926, 0x4D2C6DFC5AC42AED, 0x53380D139D95B3DF,
    0x650A73548BAF63DE, 0x766A0ABB3C77B2A8, 0x81C2C92E47EDAEE6, 0x92722C851482353B,
    0xA2BFE8A14CF10364, 0xA81A664BBC423001, 0xC24B8B70D0F89791, 0xC76C51A30654BE30,
    0xD192E819D6EF5218, 0xD69906245565A910, 0xF40E35855771202A, 0x106AA07032BBD1B8,
    0x19A4C116B8D2D0C8, 0x1E376C085141AB53, 0x2748774CDF8EEB99, 0x34B0BCB5E19B48A8,
    0x391C0CB3C5C95A63, 0x4ED8AA4AE3418ACB, 0x5B9CCA4F7763E373, 0x682E6FF3D6B2B8A3,
    0x748F82EE5DEFB2FC, 0x78A5636F43172F60, 0x84C87814A1F0AB72, 0x8CC702081A6439EC,
    0x90BEFFFA23631E28, 0xA4506CEBDE82BDE9, 0xBEF9A3F7B2C67915, 0xC67178F2E372532B,
    0xCA273ECEEA26619C, 0xD186B8C721C0C207, 0xEADA7DD6CDE0EB1E, 0xF57D4F7FEE6ED178,
    0x06F067AA72176FBA, 0x0A637DC5A2C898A6, 0x113F9804BEF90DAE, 0x1B710B35131C471B,
    0x28DB77F523047D84, 0x32CAAB7B40C72493, 0x3C9EBE0A15C9BEBC, 0x431D67C49C100D4C,
    0x4CC5D4BECB3E42B6, 0x597F299CFC657E2A, 0x5FCB6FAB3AD6FAEC, 0x6C44198C4A475817 ]

/-- Initial hash value of SHA-384. -/
def H0 : List Nat :=
  [ 0xCBBB9D5DC1059ED8, 0x629A292A367CD507, 0x9159015A3070DD17, 0x152FECD8F70E5939,
    0x67332667FFC00B31, 0x8EB44A8768581511, 0xDB0C2E0D64F98FA7, 0x47B5481DBEFA4FA4 ]

/-- The schedule, newest word first: `k` more words after the given ones. -/
def schedule : Nat → List Nat → List Nat
  | 0, w => w
  | k + 1, w =>
    let a := w.getD 1 0; let b := w.getD 14 0
    let s1 := rotr a 19 ^^^ rotr a 61 ^^^ (a >>> 6)
    let s0 := rotr b 1 ^^^ rotr b 8 ^^^ (b >>> 7)
    schedule k (((s1 + w.getD 6 0 + s0 + w.getD 15 0) % M) :: w)

/-- The working variables. -/
structure V where
  a : Nat
  b : Nat
  c : Nat
  d : Nat
  e : Nat
  f : Nat
  g : Nat
  h : Nat
  deriving DecidableEq, Repr, Inhabited

def round (v : V) (kw : Nat × Nat) : V :=
  let s1 := rotr v.e 14 ^^^ rotr v.e 18 ^^^ rotr v.e 41
  let ch := (v.e &&& v.f) ^^^ (bnot v.e &&& v.g)
  let t1 := v.h + s1 + ch + kw.1 + kw.2
  let s0 := rotr v.a 28 ^^^ rotr v.a 34 ^^^ rotr v.a 39
  let mj := (v.a &&& v.b) ^^^ (v.a &&& v.c) ^^^ (v.b &&& v.c)
  { a := (t1 + s0 + mj) % M, b := v.a, c := v.b, d := v.c, e := (v.d + t1) % M, f := v.e, g := v.f, h := v.g }

/-- One block of 128 bytes. -/
def block (h : List Nat) (b : Bytes) : List Nat :=
  let w16 := ((List.range 16).map fun i => beNat (slice b (8 * i) 8)).reverse
  let w := (schedule 64 w16).reverse
  let i (n : Nat) := h.getD n 0
  let v := (K.zip w).foldl round ⟨i 0, i 1, i 2, i 3, i 4, i 5, i 6, i 7⟩
  [(i 0 + v.a) % M, (i 1 + v.b) % M, (i 2 + v.c) % M, (i 3 + v.d) % M, (i 4 + v.e) % M, (i 5 + v.f) % M, (i 6 + v.g) % M,
   (i 7 + v.h) % M]

/-- The padded message: 0x80, zeros to 112 modulo 128, and the length in bits as 16 bytes. -/
def pad (b : Bytes) : Bytes :=
  b ++ (0x80 :: zeros ((239 - b.length % 128) % 128)) ++ beBytes 16 (8 * b.length)

def blocks : Nat → Bytes → List Nat → List Nat
  | 0, _, h => h
  | k + 1, b, h => blocks k (b.drop 128) (block h (b.take 128))

/-- SHA-384. -/
def sha384 (b : Bytes) : Bytes :=
  let p := pad b
  ((blocks (p.length / 128) p H0).flatMap (beBytes 8)).take 48

/-- HMAC-SHA-384 with its 128-byte block. -/
def hmac (key msg : Bytes) : Bytes :=
  let k := fit 128 (if key.length > 128 then sha384 key else key)
  sha384 (k.map (· ^^^ 0x5C) ++ sha384 (k.map (· ^^^ 0x36) ++ msg))

/-- Blocks `i`, `i + 1`, … of the KDF of R801. -/
def kdfGo : Nat → Nat → Bytes → Bytes → Bytes
  | 0, _, _, _ => []
  | n + 1, i, ki, tail => hmac ki (beBytes 4 i ++ tail) ++ kdfGo n (i + 1) ki tail

/-- The KDF in counter mode (R801): `len` bytes. -/
def kdf (ki label ctx : Bytes) (len : Nat) : Bytes :=
  (kdfGo ((len + 47) / 48) 1 ki (label ++ 0 :: ctx ++ beBytes 4 (8 * len))).take len

def hkdfGo : Nat → Nat → Bytes → Bytes → Bytes → Bytes
  | 0, _, _, _, _ => []
  | n + 1, i, prk, info, prev =>
    let t := hmac prk (prev ++ info ++ [byte i])
    t ++ hkdfGo n (i + 1) prk info t

/-- HKDF with SHA-384 (R122): `len` bytes. -/
def hkdf (ikm salt info : Bytes) (len : Nat) : Bytes :=
  (hkdfGo ((len + 47) / 48) 1 (hmac salt ikm) info []).take len

/-- extend(a, b) of R837. -/
def extend (a b : Bytes) : Bytes := sha384 (a ++ b)

end Sys2Proof.Machine.Sha

namespace Sys2Proof.Machine

/-! ### Authenticated encryption -/

def xorBytes (a b : Bytes) : Bytes := List.zipWith (fun x y => x ^^^ y) a b

/-- AES-256-GCM: ciphertext and 16-byte tag. -/
def gcmSeal (key nonce aad plain : Bytes) : Bytes :=
  let c := xorBytes plain (fit plain.length (Config.gcmStream key nonce plain.length))
  c ++ fit 16 (Config.gcmTag key nonce aad c)

/-- AES-256-GCM: the plaintext where the tag verifies. -/
def gcmOpen (key nonce aad sealedText : Bytes) : Option Bytes :=
  let n := sealedText.length - 16
  let c := sealedText.take n
  if 16 ≤ sealedText.length && sealedText.drop n = fit 16 (Config.gcmTag key nonce aad c) then
    some (xorBytes c (fit n (Config.gcmStream key nonce n)))
  else none

/-- AES-CCM with an 8-byte MIC: ciphertext and MIC (R574). -/
def ccmSeal (key nonce aad plain : Bytes) : Bytes :=
  xorBytes plain (fit plain.length (Config.ccmStream key nonce plain.length)) ++ fit 8 (Config.ccmMic key nonce aad plain)

end Sys2Proof.Machine
end

