-- ==== Sys2Proof/Machine/State/Comb.lean ====
section
/-! DEFINITION. State of the Comb, of its acceptance and of the neighbour controllers (05_comb_claims.md, 06_comb_concurrency_handover.md). -/

namespace Sys2Proof.Machine

/-- A stored claim entry (Table 5.1) with the slot that stores it. A free slot stores no entry; a blocked slot is a `Blocked`.
`seq` is the acceptance sequence number of the operation whose tentative entry it is, zero for a committed entry. -/
structure Entry where
  q      : Int
  r      : Int
  owner  : Nat
  tag    : Nat
  start  : Nat
  dur    : Nat
  open_  : Bool
  cont   : Bool
  trim   : Bool
  trunc  : Bool
  seq    : Nat
  bucket : Nat
  slot   : Nat
  deriving DecidableEq, Repr, Inhabited

/-- A slot in state blocked: CTIME of detection, and its bucket's open_end flag at that moment (R311, R313). -/
structure Blocked where
  bucket : Nat
  slot   : Nat
  detect : Nat
  open_  : Bool
  deriving DecidableEq, Repr, Inhabited

/-- The Table 5.11 values of an owner as an operation finds them at its acceptance (R211, R214, R247): CombG0, CombK, CombMarginMin and
CombTrimGuard. -/
structure CombPars where
  g0     : Nat
  k      : Nat
  margin : Nat
  guard  : Nat
  deriving DecidableEq, Repr, Inhabited

/-- What the Comb keeps of a live track or area: its request (for trims), the acceptance CTIME, its progress τ and its mirror index
(R242 to R244, R278). -/
structure Track where
  owner  : Nat
  tag    : Nat
  req    : Bytes
  tacc   : Nat
  tau    : Option Nat
  mirror : Nat
  deriving DecidableEq, Repr, Inhabited

/-- A PREPARE that waits for its answer (R279, R281): neighbour, exchange number, the answer. -/
structure Asked where
  nbr  : Nat
  exch : Nat
  resp : Option Bytes
  deriving DecidableEq, Repr, Inhabited

/-- Where an operation in flight stands: accepted and not yet judged, waiting under R264, or judged and waiting for PREPARE answers
(R279): the PREPAREs, when they were sent, note and entries of its response, and the mirror index its track was claimed with (R278). -/
inductive OpPhase where
  | judging
  | waiting
  | exchange (asked : List Asked) (since : Nat) (note entries mirror : Nat)
  deriving DecidableEq, Repr, Inhabited

/-- A trim of the Comb's internal path (R242): track, CTIME of the position, its place in units of 1/`den` mm, its uncertainty
radius in 2⁻⁶⁴ mm, its heading, and the radius of the disc of R494 in 2⁻⁶⁴ mm where that was used. -/
structure TrimOp where
  owner : Nat
  tag   : Nat
  f     : Nat
  e     : Int
  n     : Int
  den   : Int
  u     : Nat
  head  : Int
  disc  : Option Nat
  deriving DecidableEq, Repr, Inhabited

/-- A request with who sent it. -/
structure CombReq where
  caller : Caller
  req    : Bytes
  deriving DecidableEq, Repr, Inhabited

/-- The shadow values of a group as a commit found them: the keys of shadow and active value, and the value. -/
abbrev GroupVals := List (Nat × Nat × Bytes)

/-- An operation of Table 6.1: a request of an intake queue, a trim, a region message of neighbour n, a site frame commit or a
region commit with the values validated (R187, R273). -/
inductive FlightOp where
  | request (r : CombReq)
  | trim (t : TrimOp)
  | message (n : Nat) (r : CombReq)
  | site (c : Caller) (vals : GroupVals)
  | region (c : Caller) (vals : GroupVals)
  deriving DecidableEq, Repr, Inhabited

/-- An operation in flight (R259, R264): its acceptance sequence number and CTIME, whether it counts against the tier's limit
(R260), its phase, its owner's values (R247) and the neighbours whose bands were frozen (R302) at its acceptance, and the entries that
operations accepted after it have added and removed while it waits (R263). -/
structure Flight where
  seq     : Nat
  tacc    : Nat
  op      : FlightOp
  counted : Bool
  phase   : OpPhase
  pars    : CombPars
  frozen  : List Nat
  added   : List Entry
  removed : List Entry
  deriving DecidableEq, Repr, Inhabited

/-- An exchange this controller sent (R281 to R283): COMMIT or ABORT being repeated until answered. -/
structure SentMsg where
  nbr   : Nat
  exch  : Nat
  body  : Bytes
  since : Nat
  last  : Nat
  deriving DecidableEq, Repr, Inhabited

/-- A PREPARE received and answered DONE (R280, R286): neighbour, exchange, foreign owner and tag, acceptance number of its
entries, when it was answered, and whether it has been presumed committed. -/
structure Prepared where
  nbr   : Nat
  exch  : Nat
  owner : Nat
  tag   : Nat
  seq   : Nat
  at_   : Nat
  presumed : Bool
  deriving DecidableEq, Repr, Inhabited

/-- The states of Table 6.9. -/
inductive NbrState where
  | none | syncing | live | radioOnly | lost
  deriving DecidableEq, Repr, Inhabited

def NbrState.code : NbrState → Nat
  | .none => 0 | .syncing => 1 | .live => 2 | .radioOnly => 3 | .lost => 4

/-- A neighbour (R293 to R308): its state and losses; the last period counted, and whether each of the last three counted
periods came by Ethernet or by radio only; how far the two SYNCs have come, and whether ours was sent; the session opened to it as host,
and the nonce of the HELLO still to be answered; whether the SYNC in progress has met an overlap (R307), whether the mismatch of R194
has been logged, and whether the Comb was emptied since the last heartbeat sent to it (Table 6.6). -/
structure Neighbour where
  st       : NbrState
  losses   : Nat
  /-- periods for which a valid heartbeat has been counted, newest first, with whether one came over Ethernet (R300) -/
  heard    : List (Int × Bool)
  /-- first period that can pass empty: the one after which counting began -/
  from_    : Int
  theirs   : Bool
  ours     : Bool
  asked    : Bool
  session  : Option Nat
  nonce    : Bytes
  conflict : Bool
  mismatch : Bool
  emptied  : Bool
  deriving DecidableEq, Repr, Inhabited

def Neighbour.reset : Neighbour :=
  { st := .none, losses := 0, heard := [], from_ := 0, theirs := false, ours := false, asked := false, session := none,
    nonce := [], conflict := false, mismatch := false, emptied := true }

/-- The Comb (R195 to R317). -/
structure Comb where
  entries  : List Entry
  /-- buckets whose open_end flag is set, in three copies (R312) -/
  openIn   : Triple (List Nat)
  blocked  : List Blocked
  /-- groups of 64 buckets being retired, and retired (R202, R316) -/
  retiring : List Nat
  retired  : List Nat
  tracks   : List Track
  /-- the eight intake queues, oldest first (R253), and requests their issuers hold (R254) -/
  intake   : List (List CombReq)
  outside  : List CombReq
  flight   : List Flight
  seqLast  : Nat
  waited   : Nat
  nearFull : Bool
  exchNext : Nat
  sent     : List SentMsg
  prepared : List Prepared
  nbrs     : List Neighbour
  /-- instant at which EV_COMB_EPOCH_AGE was last logged (R183) -/
  ageAt    : Option Nat
  /-- heartbeats (R298): number and period of the latest; the period of the latest over Ethernet; the period of the latest by beacon,
  whether that says that the Comb was emptied, and whether the Comb has been emptied since -/
  hbSeq    : Nat
  hbPeriod : Option Int
  hbEth    : Option Int
  hbBeacon : Option Int
  hbEmpty  : Bool
  emptied  : Bool
  deriving DecidableEq, Repr, Inhabited

def Comb.reset : Comb :=
  { entries := [], openIn := Triple.of [], blocked := [], retiring := [], retired := [], tracks := [], intake := List.replicate 8 [], outside := [],
    flight := [], seqLast := 0, waited := 0, nearFull := false, exchNext := 1, sent := [], prepared := [],
    nbrs := List.replicate 12 Neighbour.reset, ageAt := none, hbSeq := 0,
    hbPeriod := none, hbEth := none, hbBeacon := none, hbEmpty := false, emptied := true }

end Sys2Proof.Machine
end

