-- ==== Sys2Proof/Machine/State/Dict.lean ====
section
/-! DEFINITION. State of the dictionary service and of Coil sessions, and what the device sends (03_object_dictionary.md). -/

namespace Sys2Proof.Machine

/-- An editor of a stage group (R111): a Coil session, a CAN port with a client's node ID, or the applet partition. -/
inductive Editor where
  | coil (session : Nat)
  | can (port client : Nat)
  | applet
  | firmware
  deriving DecidableEq, Repr, Inhabited

/-- An editor's hold of the stage group of a commit object (R107, R108). -/
structure Hold where
  commit : Nat
  editor : Editor
  last   : Nat
  deriving DecidableEq, Repr, Inhabited

/-- A subscription (R139 to R142): object, request_id of the SUBSCRIBE, period in ms, on-change flag, NOTIFY count, instant of the
last NOTIFY, the generation it notified, whether the object could then be read, and how often that had changed (R141). -/
structure Sub where
  key      : Nat
  req      : Nat
  period   : Nat
  onChange : Bool
  count    : Nat
  last     : Nat
  gen      : Nat
  readable : Bool
  turns    : Nat
  /-- for the applet partition: hart and reply queue of the SUBSCRIBE (R791) -/
  reply    : Option (Nat × Nat)
  deriving DecidableEq, Repr, Inhabited

/-- A partial BLOCK_WRITE or TRANSACT transfer (R133 to R136). -/
structure Xfer where
  opcode : Nat
  key    : Nat
  total  : Nat
  data   : Bytes
  last   : Nat
  deriving DecidableEq, Repr, Inhabited

/-- A kept response (R143): the request it answers and the response record. -/
structure Kept where
  req    : Nat
  opcode : Nat
  key    : Nat
  offset : Nat
  resp   : Bytes
  deriving DecidableEq, Repr, Inhabited

/-- An operation in flight in a session (R139). -/
structure InFlight where
  req    : Nat
  opcode : Nat
  key    : Nat
  offset : Nat
  deriving DecidableEq, Repr, Inhabited

/-- What an access is answered: outcome (Table 2.5), abort code, data, and the total field of Table 3.6. -/
structure Ans where
  outcome : Nat
  abort   : Nat
  data    : Bytes
  total   : Nat
  deriving DecidableEq, Repr, Inhabited

/-- A record on its way out: a response or NOTIFY whose generation is filled in as it leaves, with whether it is kept under R143,
one whose generation is filled in, or a kept record that is sent again. -/
inductive OutRec where
  | resp (f : InFlight) (a : Ans) (keep : Bool)
  | built (f : InFlight) (keep : Bool) (b : Bytes)
  | again (req : Nat) (b : Bytes)
  deriving DecidableEq, Repr, Inhabited

/-- A Coil session, or the applet partition, which counts as one (R118 to R131, R791). `nbr` names the neighbour of a session
this device opened as host (R293). -/
structure Session where
  sid      : Nat
  slot     : Nat
  slotGen  : Nat
  priv     : Nat
  keyIn    : Bytes
  keyOut   : Bytes
  /-- IV bases of the two directions (R123) -/
  ivIn     : Bytes
  ivOut    : Bytes
  txSeq    : Nat
  rxHigh   : Nat
  rxSeen   : List Nat
  last     : Nat
  flight   : List InFlight
  subs     : List Sub
  kept     : List Kept
  xfers    : List Xfer
  nbr      : Option Nat
  /-- request_id of the next record that this device sends as host (R131) -/
  reqNext  : Nat
  /-- response records of the command being executed, sent as one datagram at its end -/
  outbox   : List OutRec
  deriving DecidableEq, Repr, Inhabited

def Session.fresh (slot gen priv now : Nat) : Session :=
  { sid := 0, slot := slot, slotGen := gen, priv := priv, keyIn := [], keyOut := [], ivIn := [], ivOut := [], txSeq := 0, rxHigh := 0, rxSeen := [], last := now,
    flight := [], subs := [], kept := [], xfers := [], nbr := none, reqNext := 0, outbox := [] }

/-- The generation of an object (Table 3.6) with the value last seen under it. -/
structure GenRec where
  gen   : Nat
  value : Option Bytes
  /-- whether it can be read, and how often that has changed (R141) -/
  readable : Bool
  turns : Nat
  deriving DecidableEq, Repr, Inhabited

/-- The dictionary service (R87 to R154). -/
structure Dict where
  sessions : Tbl Session
  applet   : Session
  holds    : List Hold
  gens     : Tbl GenRec
  /-- HELLOs refused (R119) -/
  refused  : Nat
  deriving DecidableEq, Repr, Inhabited

def Dict.reset : Dict := { sessions := [], applet := Session.fresh 0 0 2 0, holds := [], gens := [], refused := 0 }

/-- What the device sends, as the model records it. -/
inductive Out where
  /-- a HELLO to neighbour n (R293) -/
  | hello (n : Nat) (raw : Bytes)
  /-- an ACCEPT -/
  | accept (raw : Bytes)
  /-- a DATA datagram: session, seq, plaintext, and the bytes that leave (R125) -/
  | data (session seq : Nat) (plain raw : Bytes)
  | close (session seq : Nat) (raw : Bytes)
  /-- a USDO answer: SDO abort code (zero for success) and data -/
  | usdo (port client abort : Nat) (data : Bytes)
  /-- a USDO upload that succeeds, with its data type (R147) -/
  | usdoUp (port client : Nat) (ty : CanType) (data : Bytes)
  /-- an engine's request of firmware that its gasket or block answers without effect (R29, R57): island and outcome -/
  | engine (island outcome : Nat)
  /-- a Coil request to a neighbour's port: index and bytes -/
  | nbr (n index : Nat) (msg : Bytes)
  /-- a UDP datagram to a destination value -/
  | udp (dest payload : Bytes)
  /-- the code groups of a frame from preamble to FCS, and how many groups of idle follow (R676) -/
  | eth (port : Nat) (groups : Bytes) (idle : Nat)
  | can (port : Nat) (f : CanFrame)
  /-- a radio frame on a channel entry, with the bytes of its PSDU (R573) -/
  | radio (modem channel : Nat) (f : RadioFrame) (raw : Bytes)
  /-- a tune word on RPn_CTLD, most significant bit first, and the device instants between which RPn_CTLSTB is high after it (R571) -/
  | tune (modem : Nat) (word : List Bool) (from_ till : Int)
  /-- RPn_TXEN, or RPn_RXEN, high between two device instants (R572) -/
  | enable (modem : Nat) (tx : Bool) (from_ till : Int)
  /-- a time pulse edge: output, pulse number, leading or trailing, and the pin's level after it, none for high-impedance -/
  | edge (output k : Nat) (leading : Bool) (level : Option Bool)
  /-- a time-of-day line with its rate in baud -/
  | tod (output baud : Nat) (line : Bytes)
  | boant (port : Nat) (msg : Bytes)
  /-- a fetch or window load answered to a hart -/
  | hart (n : Nat) (value : Nat)
  /-- an access fault of a hart at a physical address (R763, R774, R786) -/
  | accessFault (n : Nat) (addr : Nat)
  /-- a control word of an SGMII port -/
  | sgmii (port word : Nat)
  /-- the level of CPn_STB from now on (R742, R743) -/
  | canStb (port : Nat) (high : Bool)
  /-- an error frame on a CAN port -/
  | canError (port : Nat)
  deriving DecidableEq, Repr, Inhabited

end Sys2Proof.Machine
end

