-- ==== Sys2Proof/Machine/State/Fabric.lean ====
section
/-! DEFINITION. State of the Dispatcher, the queues and the applet partition (16_dispatcher_queues_applets.md). -/

namespace Sys2Proof.Machine

/-- States of a descriptor (Table 16.1). -/
inductive TaskState where
  | free | waiting | ready | running | done | discarded
  deriving DecidableEq, Repr, Inhabited

def TaskState.code : TaskState → Nat
  | .free => 0 | .waiting => 1 | .ready => 2 | .running => 3 | .done => 4 | .discarded => 5

/-- A task descriptor (Table 16.1); `order` is its place among the tasks that entered READY (R762), and `fullLogged` says
that its full pending count has been logged (R759). -/
structure Desc where
  arg     : Nat
  entry   : Nat
  count   : Nat
  reload  : Nat
  succ    : Nat
  prio    : Nat
  applet  : Bool
  rearm   : Bool
  st      : TaskState
  hasSucc : Bool
  outcome : Nat
  pending : Nat
  order   : Nat
  fullLogged : Bool
  deriving DecidableEq, Repr, Inhabited

/-- A FREE descriptor. -/
def Desc.free (applet : Bool) : Desc :=
  { arg := 0, entry := 0, count := 0, reload := 0, succ := 0, prio := 0, applet := applet, rearm := false, st := .free,
    hasSucc := false, outcome := 0, pending := 0, order := 0, fullLogged := false }

/-- A per-hart request window (Table 16.8): staged bytes, request length, and the REPLY register. -/
structure ReqWindow where
  stage : Bytes
  len   : Nat
  word  : Nat
  deriving DecidableEq, Repr, Inhabited

def ReqWindow.reset : ReqWindow := { stage := [], len := 0, word := 0 }

/-- Fields of REPLY: the reply queue, the notify descriptor and notify_enable. -/
def ReqWindow.reply (w : ReqWindow) : Nat := bits w.word 0 10
def ReqWindow.notify (w : ReqWindow) : Nat := bits w.word 16 16
def ReqWindow.notifyOn (w : ReqWindow) : Bool := bit w.word 32

/-- A hart (R763, R764, R788): current task, blocked FETCH (instant and place in the order of FETCHes), timeout, staging. -/
structure Hart where
  task     : Option Nat
  fetch    : Option (Nat × Nat)
  timeout  : Nat
  stageLo  : Nat
  stageHi  : Nat
  stageIdx : Nat
  combWin  : ReqWindow
  dictWin  : ReqWindow
  deriving DecidableEq, Repr, Inhabited

def Hart.reset : Hart :=
  { task := none, fetch := none, timeout := 0, stageLo := 0, stageHi := 0, stageIdx := 0, combWin := ReqWindow.reset,
    dictWin := ReqWindow.reset }

/-- The phase of a packet (R775, R778, R781): open by a hart, closed, held by a hart that has read some of its words, or
finished or dropped by a hart whose task has not completed. -/
inductive PktPhase where
  | opened (hart : Nat) (spilled : Bool)
  | closed
  | held (hart : Nat) (read : Nat)
  | unfreed (hart : Nat)
  deriving DecidableEq, Repr, Inhabited

/-- A packet: its place in the order of OPENs, its tag and its data words. -/
structure Pkt where
  id    : Nat
  tag   : Nat
  words : List Nat
  phase : PktPhase
  deriving DecidableEq, Repr, Inhabited

/-- A queue (R775 to R783): its packets in the order of their OPENs, and its drops. -/
structure Queue where
  pkts  : List Pkt
  drops : Nat
  deriving DecidableEq, Repr, Inhabited

def Queue.reset : Queue := { pkts := [], drops := 0 }

/-- An object an applet bundle declares (R792, Table 3.9). -/
structure AppletObj where
  key    : Nat
  type   : Nat
  access : Nat
  priv   : Nat
  persistent : Bool
  grouped : Bool
  port   : Bool
  maxSize : Nat
  commit : Nat
  deriving DecidableEq, Repr, Inhabited

/-- A dictionary request of the applet partition in flight: hart, its request_id, its reply queue and notify descriptor
(R789, R790). -/
structure AppletReq where
  hart   : Nat
  req    : Nat
  comb   : Bool
  reply  : Nat
  notify : Option Nat
  deriving DecidableEq, Repr, Inhabited

/-- A reply waiting for its queue (R790). -/
structure AppletReply where
  hart   : Nat
  reply  : Nat
  notify : Option Nat
  data   : Bytes
  deriving DecidableEq, Repr, Inhabited

/-- An event on an applet object that waits for its ANSWER (R794, R795): who asked, token, kind 2 or 3, index.sub, deadline; for a commit,
the shadow set it was asked for: shadow key, active key and value of each member. -/
structure AppletEvent where
  token  : Nat
  kind   : Nat
  key    : Nat
  caller : Caller
  due    : Nat
  vals   : List (Nat × Nat × Bytes)
  deriving DecidableEq, Repr, Inhabited

/-- The Fabric island's state (R756 to R795). -/
structure Fabric where
  brood     : Tbl Desc
  readyNext : Nat
  harts     : List Hart
  fetchNext : Nat
  queues    : Tbl Queue
  pktNext   : Nat
  stray     : Nat
  /-- blocks of the pool lost to retired regions (Table 19.10) -/
  lost      : Nat
  /-- bounds of the applet partition in force (Table 16.12) -/
  appBase   : Nat
  appCount  : Nat
  bundle    : Option (List AppletObj)
  reqs      : List AppletReq
  replies   : List AppletReply
  events    : List AppletEvent
  tokenNext : Nat
  /-- shared SRAM by physical address: the bytes that are not zero (Table 2.1, R66, R881) -/
  sram      : List Host.Cell
  deriving DecidableEq, Repr, Inhabited

def Fabric.reset : Fabric :=
  { brood := [], readyNext := 0, harts := List.replicate 16 Hart.reset, fetchNext := 0, queues := [], pktNext := 0, stray := 0,
    lost := 0, appBase := 49152, appCount := 16384, bundle := none, reqs := [], replies := [], events := [], tokenNext := 0, sram := [] }

end Sys2Proof.Machine
end

