-- ==== Sys2Proof/Machine/Geometry.lean ====
section
/-!
DEFINITION. Exact geometry of the site: numbers a + b·√3, dyadic (binary64) numbers, sines and cosines rounded to binary64,
cells, footprints and polygons, and the conversion between ECEF and the site plane (04_site_frame_cells_time.md R155 to R171,
05_comb_claims.md R208 to R212, R236).
-/

namespace Sys2Proof.Machine

/-! ### Numbers a + b·√3 -/

/-- The number a + b·√3. -/
structure R3 where
  a : Int
  b : Int
  deriving DecidableEq, Repr, Inhabited

def R3.add (x y : R3) : R3 := ⟨x.a + y.a, x.b + y.b⟩
def R3.sub (x y : R3) : R3 := ⟨x.a - y.a, x.b - y.b⟩
def R3.mul (x y : R3) : R3 := ⟨x.a * y.a + 3 * (x.b * y.b), x.a * y.b + x.b * y.a⟩
def R3.ofInt (a : Int) : R3 := ⟨a, 0⟩

/-- The sign of a + b·√3 (R169). -/
def signRoot3 (a b : Int) : Int :=
  if 0 ≤ a ∧ 0 ≤ b then (if a = 0 ∧ b = 0 then 0 else 1)
  else if a ≤ 0 ∧ b ≤ 0 then -1
  else if 0 < a then (a * a - 3 * (b * b)).sign else -((a * a - 3 * (b * b)).sign)

def R3.le (x y : R3) : Bool := signRoot3 (y.a - x.a) (y.b - x.b) ≥ 0
def R3.lt (x y : R3) : Bool := signRoot3 (y.a - x.a) (y.b - x.b) > 0

/-! ### Dyadic numbers: binary64 values -/

/-- The number m · 2^e. -/
structure Dy where
  m : Int
  e : Int
  deriving DecidableEq, Repr, Inhabited

/-- An integer times 2^e rounded to 53 significant bits, ties to even: the correctly rounded binary64 value. -/
def Dy.round (m e : Int) : Dy :=
  let n := m.natAbs
  if n < 2 ^ 53 then ⟨m, e⟩
  else
    let k := Nat.log2 n - 52
    let qt := n / 2 ^ k
    let rem := n % 2 ^ k
    let half := 2 ^ (k - 1)
    let up := rem > half || (rem = half && qt % 2 = 1)
    let r := if up then qt + 1 else qt
    ⟨if m < 0 then -(r : Int) else r, e + k⟩

/-- The correctly rounded product. -/
def Dy.mulR (x y : Dy) : Dy := Dy.round (x.m * y.m) (x.e + y.e)

/-- The value scaled by 2^s, rounded down (exact where e + s is not negative). -/
def Dy.scaled (x : Dy) (s : Int) : Int :=
  if 0 ≤ x.e + s then x.m * 2 ^ (x.e + s).toNat else x.m.fdiv (2 ^ (-(x.e + s)).toNat)

/-- The 64 bits of a binary64 value (normal numbers and zero). -/
def Dy.bits64 (x : Dy) : Nat :=
  if x.m = 0 then 0
  else
    let n := x.m.natAbs
    let l := Nat.log2 n
    let frac := if l ≤ 52 then n * 2 ^ (52 - l) else n / 2 ^ (l - 52)
    (if x.m < 0 then 2 ^ 63 else 0) + ((x.e + l + 1023).toNat % 2048) * 2 ^ 52 + (frac - 2 ^ 52)

/-! ### Fixed-point analysis with 320 fraction bits -/

/-- One, in fixed point. -/
def fxOne : Int := 2 ^ 320
def fxMul (a b : Int) : Int := (a * b).fdiv fxOne
def fxDiv (a b : Int) : Int := if b = 0 then 0 else (a * fxOne).fdiv b
def fxSqrt (a : Int) : Int := (isqrt (a.toNat * 2 ^ 320) : Nat)

/-- Taylor sum: term_{k+1} = -term_k · x² / ((k+1)(k+2)). -/
def taylor : Nat → Nat → Int → Int → Int → Int
  | 0, _, _, _, acc => acc
  | n + 1, k, x2, term, acc =>
    taylor n (k + 2) x2 (-((fxMul term x2).fdiv (((k + 1) * (k + 2) : Nat) : Int))) (acc + term)

def fxSin (x : Int) : Int := taylor 60 1 (fxMul x x) x 0
def fxCos (x : Int) : Int := taylor 60 0 (fxMul x x) fxOne 0

/-- Taylor sum of the arctangent of a small number: x − x³/3 + x⁵/5 − … -/
def atanGo : Nat → Nat → Int → Int → Int → Int
  | 0, _, _, _, acc => acc
  | n + 1, k, x2, pw, acc => atanGo n (k + 2) x2 (-(fxMul pw x2)) (acc + pw.fdiv (k : Int))

/-- Half of an angle by its tangent: tan(a/2) = x / (1 + √(1 + x²)). -/
def halfTan (x : Int) : Int := fxDiv x (fxOne + fxSqrt (fxOne + fxMul x x))

/-- Arctangent in radians. -/
def fxAtan (x : Int) : Int := 64 * (let y := Nat.repeat halfTan 6 x; atanGo 40 1 (fxMul y y) y 0)

/-- π, as four times the arctangent of 1. -/
def fxPi : Int := 4 * fxAtan fxOne

/-- The angle of (x, y) in radians, in (−π, π]; 0 at the origin. -/
def fxAtan2 (y x : Int) : Int :=
  if x > 0 then fxAtan (fxDiv y x)
  else if x = 0 then (if y > 0 then fxPi.fdiv 2 else if y < 0 then -(fxPi.fdiv 2) else 0)
  else if y ≥ 0 then fxPi + fxAtan (fxDiv y x) else fxAtan (fxDiv y x) - fxPi

/-! ### Headings -/

/-- Sine and cosine of a heading (R163, R210), correctly rounded to binary64 and scaled by 2⁶⁶: every such value is a whole
number of 2⁻⁶⁶. -/
def headSinCos (h : Int) : Int × Int :=
  let k := (h % 65536).toNat
  if k = 0 then (0, 2 ^ 66) else if k = 16384 then (2 ^ 66, 0) else if k = 32768 then (0, -(2 ^ 66))
  else if k = 49152 then (-(2 ^ 66), 0)
  else
    let quad := k / 16384
    let x := (fxPi * ((k % 16384 : Nat) : Int)).fdiv 32768
    let s := (Dy.round (fxSin x) (-320)).scaled 66
    let c := (Dy.round (fxCos x) (-320)).scaled 66
    match quad with
    | 0 => (s, c) | 1 => (c, -s) | 2 => (-s, -c) | _ => (-c, s)

/-! ### Cells -/

/-- The pitch in mm of exponent k (R165). -/
def pitch (k : Nat) : Nat := 125 * 2 ^ k

/-- Whether cell (q, r) exists (R170). -/
def onGrid (q r : Int) : Bool := -32768 ≤ q && q ≤ 32767 && -32768 ≤ r && r ≤ 32767

/-- CELL32 of a cell (R171). -/
def cell32 (q r : Int) : Nat := (q % 65536).toNat * 65536 + (r % 65536).toNat

/-- The cell of a CELL32. -/
def cellOf32 (c : Nat) : Int × Int := (signed 16 (c / 65536 % 65536), signed 16 (c % 65536))

/-- Neighbour offsets of R169. -/
def cellNbrs : List (Int × Int) := [(1, 0), (1, -1), (0, -1), (-1, 0), (-1, 1), (0, 1)]

/-- The sign of d′² − d² for a neighbour (R169). -/
def nbrSign (e n : Int) (p : Nat) (q r dq dr : Int) : Int :=
  signRoot3 (2 * p + 3 * p * q * dq - (2 * n - 2 * p * r - p * q) * (2 * dr + dq)) (-2 * dq * e)

/-- The move the procedure of R169 makes from (q, r), if any. -/
def cellMove (e n : Int) (p : Nat) (q r : Int) : Option (Int × Int) :=
  (cellNbrs.find? fun d =>
    let sg := nbrSign e n p q r d.1 d.2
    sg < 0 || (sg = 0 && (d.1 > 0 || (d.1 = 0 && d.2 > 0)))).map fun d => (q + d.1, r + d.2)

/-- The moves of R169, at most `k` of them. -/
def cellWalk : Nat → Int → Int → Nat → Int → Int → Int × Int
  | 0, _, _, _, q, r => (q, r)
  | k + 1, e, n, p, q, r =>
    match cellMove e n p q r with
    | some (q', r') => cellWalk k e n p q' r'
    | none => (q, r)

/-- An estimate of a point's cell, within one cell of it. -/
def cellGuess (e n : Int) (p : Nat) : Int × Int :=
  let q := roundDiv (e * 1154700538) (1000000000 * p)
  (q, roundDiv (2 * n - p * q) (2 * p))

/-- The cell of a site-plane point in mm (R168, R169). -/
def cellOf (e n : Int) (p : Nat) : Int × Int :=
  let g := cellGuess e n p
  cellWalk 16 e n p g.1 g.2

/-- A cell's centre as a site-plane coordinate, each component rounded (R167): east = p·√3·q/2. -/
def cellCentre (p : Nat) (q r : Int) : Int × Int :=
  let m := p * q.natAbs
  -- nearest integer to m·√3/2: floor of (m·√3 + 1)/2 = floor((isqrt(3 m²) + 1)/2), no tie since √3 is irrational
  let ev := (isqrt (3 * m * m) + 1) / 2
  (if q < 0 then -(ev : Int) else ev, roundDiv (p * (2 * r + q)) 2)

/-! ### Footprints and polygons, exactly -/

/-- A point with coordinates in numbers a + b·√3. -/
structure P3 where
  x : R3
  y : R3
  deriving DecidableEq, Repr, Inhabited

/-- The scale of exact coordinates: 6·2⁶⁶ units to the mm, times `z`. -/
def gscale (z : Int) : Int := 6 * 2 ^ 66 * z

/-- The exact centre of a cell (R166) at scale `S` (a multiple of 2). -/
def centre3 (S : Int) (p : Nat) (q r : Int) : P3 :=
  ⟨⟨0, S * p * q / 2⟩, ⟨S * p * (2 * r + q) / 2, 0⟩⟩

def dist2 (a b : P3) : R3 :=
  let dx := a.x.sub b.x
  let dy := a.y.sub b.y
  (dx.mul dx).add (dy.mul dy)

/-- Twice the signed area of triangle a b c. -/
def cross3 (a b c : P3) : R3 :=
  (((b.x.sub a.x).mul (c.y.sub a.y)).sub ((b.y.sub a.y).mul (c.x.sub a.x)))

/-- Whether the distance from `c` to the segment a–b is at most `D`. -/
def segWithin (D : R3) (c a b : P3) : Bool :=
  let wx := b.x.sub a.x
  let wy := b.y.sub a.y
  let len2 := (wx.mul wx).add (wy.mul wy)
  let t := ((c.x.sub a.x).mul wx).add ((c.y.sub a.y).mul wy)
  let D2 := D.mul D
  if t.le ⟨0, 0⟩ then (dist2 c a).le D2
  else if len2.le t then (dist2 c b).le D2
  else
    let cr := cross3 a b c
    (cr.mul cr).le (D2.mul len2)

/-- The edges of a closed polygon. -/
def edges {α : Type} (l : List α) : List (α × α) :=
  match l with
  | [] => []
  | h :: t => (l.zip (t ++ [h]))

/-- Whether a point lies inside or on a polygon (even-odd rule, boundary counted in by the distance test). -/
def inPoly (c : P3) (vs : List P3) : Bool :=
  ((edges vs).filter fun (a, b) =>
    let up := a.y.le c.y && c.y.lt b.y
    let down := b.y.le c.y && c.y.lt a.y
    (up && (⟨0, 0⟩ : R3).lt (cross3 a b c)) || (down && (cross3 a b c).lt ⟨0, 0⟩)).length % 2 = 1

/-- Whether the distance from `c` to the shape is at most `D`: a single vertex is a point, more are a polygon. -/
def shapeWithin (D : R3) (c : P3) (vs : List P3) : Bool :=
  match vs with
  | [] => false
  | [v] => (dist2 c v).le (D.mul D)
  | _ => inPoly c vs || (edges vs).any fun (a, b) => segWithin D c a b

/-- A footprint body (Table 5.6 types 1 to 3): a disc of a radius, or a polygon with vertices (forward, left) in mm. -/
inductive Footprint where
  | disc (r : Nat)
  | poly (vs : List (Int × Int))
  deriving DecidableEq, Repr, Inhabited

/-- The greatest distance of the footprint from its reference point, squared, in mm². -/
def Footprint.reach2 : Footprint → Nat
  | .disc r => r * r
  | .poly vs => vs.foldl (fun m v => max m (v.1 * v.1 + v.2 * v.2).toNat) 0

/-- The exact shape of a footprint posed at (e, n) in units of 1/`den` mm with heading `h`, at scale S = gscale z, and the
radius it adds (a disc is a point with its radius). -/
def Footprint.pose (f : Footprint) (z : Int) (den : Int) (e n : Int) (h : Int) : List P3 :=
  let S := gscale z
  let o : Int × Int := (S * e / den, S * n / den)
  match f with
  | .disc _ => [⟨⟨o.1, 0⟩, ⟨o.2, 0⟩⟩]
  | .poly vs =>
    let sc := headSinCos h
    let k := 6 * z
    vs.map fun v => ⟨⟨o.1 + k * (v.1 * sc.1 - v.2 * sc.2), 0⟩, ⟨o.2 + k * (v.1 * sc.2 + v.2 * sc.1), 0⟩⟩

def Footprint.radius : Footprint → Nat
  | .disc r => r
  | .poly _ => 0

/-- The radius `base` (at scale S) plus p/√3, as a number a + b·√3. -/
def dilate (S : Int) (base : Int) (p : Nat) : R3 := ⟨base, S * p / 3⟩

/-- The cells, around (e, n) in mm, of columns and rows within `m` of the cell there. -/
def cellsAround (e n : Int) (p m : Nat) : List (Int × Int) :=
  let g := cellGuess e n p
  (List.range (2 * m + 1)).flatMap fun (i : Nat) =>
    (List.range (2 * m + 1)).map fun (j : Nat) =>
      let dq : Int := (i : Int) - m
      let q := g.1 + dq
      (q, roundDiv (2 * n - p * q) (2 * p) + ((j : Int) - m))

/-- Every cell whose exact centre lies within `D` (scale S) of the shape, looked for within `reach` mm of (e, n): the columns
and rows within reach/p·2 + 3 of that point's cell hold them all. -/
def cellsWithin (S : Int) (p : Nat) (D : R3) (shape : List P3) (e n : Int) (reach : Nat) : List (Int × Int) :=
  (cellsAround e n p (reach * 6 / (5 * p) + 3)).filter fun c => shapeWithin D (centre3 S p c.1 c.2) shape

/-- Site-plane polygon vertices of Table 5.6 type 4. -/
def areaVerts (b : Bytes) : List (Int × Int) :=
  (List.range (b.length / 8)).map fun i => (si b (8 * i) 4, si b (8 * i + 4) 4)

def toP3 (S : Int) (v : Int × Int) : P3 := ⟨⟨S * v.1, 0⟩, ⟨S * v.2, 0⟩⟩

/-- Twice the signed area of an integer polygon. -/
def area2 (vs : List (Int × Int)) : Int :=
  ((edges vs).map fun (a, b) => a.1 * b.2 - a.2 * b.1).sum

def icross (a b c : Int × Int) : Int := (b.1 - a.1) * (c.2 - a.2) - (b.2 - a.2) * (c.1 - a.1)

/-- Whether c lies on the segment a–b, given that the three are in line. -/
def onSeg (a b c : Int × Int) : Bool :=
  min a.1 b.1 ≤ c.1 && c.1 ≤ max a.1 b.1 && min a.2 b.2 ≤ c.2 && c.2 ≤ max a.2 b.2

/-- Whether two closed segments meet. -/
def segsMeet (a b c d : Int × Int) : Bool :=
  let s1 := (icross a b c).sign; let s2 := (icross a b d).sign
  let s3 := (icross c d a).sign; let s4 := (icross c d b).sign
  (s1 ≠ s2 && s3 ≠ s4) || (s1 = 0 && onSeg a b c) || (s2 = 0 && onSeg a b d) || (s3 = 0 && onSeg c d a)
    || (s4 = 0 && onSeg c d b)

/-- Whether a polygon is simple with non-zero area (Table 5.6 type 4): edges that are not neighbours do not meet, neighbours
meet only in their common vertex, and no two vertices coincide. -/
def simplePoly (vs : List (Int × Int)) : Bool :=
  let es := edges vs
  let n := es.length
  3 ≤ n && area2 vs ≠ 0 && vs.Nodup &&
  (List.range n).all fun i => (List.range n).all fun j =>
    let (a, b) := es.getD i ((0, 0), (0, 0))
    let (c, d) := es.getD j ((0, 0), (0, 0))
    if i = j then true
    else if (i + 1) % n = j then !(icross a b d = 0 && onSeg a b d) && !(icross c d a = 0 && onSeg c d a)
    else if (j + 1) % n = i then true
    else !segsMeet a b c d

/-- Strictly convex and counter-clockwise (Table 5.6 type 3): no vertex is repeated, and every other vertex lies strictly to the left of
each edge. -/
def convexCcw (vs : List (Int × Int)) : Bool :=
  3 ≤ vs.length && vs.Nodup && (edges vs).all fun (a, b) => vs.all fun c => c = a || c = b || 0 < icross a b c

/-- Whether `p` lies in the closed triangle a b c taken counter-clockwise. -/
def inTri (a b c p : Int × Int) : Bool := 0 ≤ icross a b p && 0 ≤ icross b c p && 0 ≤ icross c a p

/-- One step of ear clipping of a counter-clockwise simple polygon: the triangle cut off (none where the vertex is flat), and
the polygon without the vertex. -/
def clipEar (vs : List (Int × Int)) : Option (Option ((Int × Int) × (Int × Int) × (Int × Int)) × List (Int × Int)) :=
  let n := vs.length
  let at_ (i : Nat) := vs.getD (i % n) (0, 0)
  ((List.range n).find? fun i =>
    let a := at_ (i + n - 1); let b := at_ i; let c := at_ (i + 1)
    icross a b c = 0 || (0 < icross a b c && vs.all fun p => p = a || p = b || p = c || !inTri a b c p)).map fun i =>
      let a := at_ (i + n - 1); let b := at_ i; let c := at_ (i + 1)
      (if icross a b c = 0 then none else some (a, b, c), vs.eraseIdx i)

/-- The triangles of a simple polygon of at most `k` + 2 vertices, counter-clockwise. -/
def triangles : Nat → List (Int × Int) → List ((Int × Int) × (Int × Int) × (Int × Int))
  | 0, _ => []
  | k + 1, vs =>
    if vs.length < 3 then []
    else match clipEar vs with
      | some (some t, r) => t :: triangles k r
      | some (none, r) => triangles k r
      | none => []

/-- Whether the line through an edge of triangle t leaves all of triangle w on its outer side or on it. -/
def separates (t w : (Int × Int) × (Int × Int) × (Int × Int)) : Bool :=
  [(t.1, t.2.1), (t.2.1, t.2.2), (t.2.2, t.1)].any fun (a, b) =>
    [w.1, w.2.1, w.2.2].all fun p => icross a b p ≤ 0

/-- Whether two simple polygons share non-zero area (REGION_OVERLAP): some triangle of one and some triangle of the other are
separated by no edge of either. -/
def polysOverlap (v w : List (Int × Int)) : Bool :=
  let ccw (l : List (Int × Int)) := if area2 l < 0 then l.reverse else l
  (triangles v.length (ccw v)).any fun t => (triangles w.length (ccw w)).any fun u =>
    !(separates t u || separates u t)

/-- Whether a site-plane point lies within the site plane (R161). -/
def inPlane (v : Int × Int) : Bool := v.1 * v.1 + v.2 * v.2 ≤ 32000000 * 32000000

/-- Whether a cell lies on the grid with its centre within the site plane (R161, R162, R170). -/
def cellInPlane (p : Nat) (c : Int × Int) : Bool :=
  onGrid c.1 c.2 &&
    -- 4·|centre|² = 3 p² q² + p² (2 r + q)²
    3 * p * p * c.1 * c.1 + p * p * (2 * c.2 + c.1) * (2 * c.2 + c.1) ≤ 4 * (32000000 * 32000000)

/-! ### ECEF and the site plane -/

/-- The eight binary64 coefficients of R159 in the order sφ, cφ, sλ, cλ, sφ·cλ, sφ·sλ, cφ·cλ, cφ·sλ. -/
structure SiteCoef where
  sp : Dy
  cp : Dy
  sl : Dy
  cl : Dy
  spcl : Dy
  spsl : Dy
  cpcl : Dy
  cpsl : Dy
  deriving DecidableEq, Repr, Inhabited

/-- WGS 84 (R155): semi-major axis in 0.1 mm and squared eccentricity 2f − f², fixed point. -/
def wgsA : Int := 63781370000
def fxF : Int := (fxOne * 1000000000).fdiv 298257223563
def fxE2 : Int := 2 * fxF - fxMul fxF fxF

/-- Geodetic latitude as tangent by fixed-point iteration t ← (z + e²·N·sin φ) / ρ on the meridian point (ρ, z) in 0.1 mm;
the iteration contracts by e² at each step, so 44 steps reach the fixed-point precision for points near the surface. -/
def latGo : Nat → Int → Int → Int → Int → Int × Int
  | 0, _, _, s, c => (s, c)
  | k + 1, rho, z, s, c =>
    let N := fxDiv (wgsA * fxOne) (fxSqrt (fxOne - fxMul fxE2 (fxMul s s)))
    let zz := z + fxMul (fxMul fxE2 N) s
    let h := fxSqrt (fxMul rho rho + fxMul zz zz)
    latGo k rho z (fxDiv zz h) (fxDiv rho h)

/-- sin and cos of latitude and longitude of an ECEF point in 0.1 mm, in fixed point (R156: longitude 0 on the polar axis). -/
def geoTrig (x y z : Int) : Int × Int × Int × Int :=
  let rho := fxSqrt ((x * x + y * y) * fxOne)
  let sl := if rho = 0 then 0 else fxDiv (y * fxOne) rho
  let cl := if rho = 0 then fxOne else fxDiv (x * fxOne) rho
  let zf := z * fxOne
  let h := fxSqrt (fxMul rho rho + fxMul zf zf)
  let st := if h = 0 then (0, fxOne) else latGo 44 rho zf (fxDiv zf h) (fxDiv rho h)
  (st.1, st.2, sl, cl)

/-- The coefficients of R159. -/
def siteCoef (x y z : Int) : SiteCoef :=
  let (s, c, l, m) := geoTrig x y z
  let sp := Dy.round s (-320); let cp := Dy.round c (-320)
  let sl := Dy.round l (-320); let cl := Dy.round m (-320)
  { sp := sp, cp := cp, sl := sl, cl := cl, spcl := Dy.mulR sp cl, spsl := Dy.mulR sp sl, cpcl := Dy.mulR cp cl,
    cpsl := Dy.mulR cp sl }

/-- Exact scale for sums of coefficients: their exponents are never below −800. -/
def coefS : Int := 800
def Dy.at_ (d : Dy) : Int := d.scaled coefS

/-- R158: ECEF to the site plane, in mm, ties away from zero. -/
def toPlane (k : SiteCoef) (o p : Int × Int × Int) : Int × Int × Int :=
  let dx := p.1 - o.1; let dy := p.2.1 - o.2.1; let dz := p.2.2 - o.2.2
  let r (v : Int) : Int := roundDiv v (10 * 2 ^ 800)
  (r (-k.sl.at_ * dx + k.cl.at_ * dy), r (-k.spcl.at_ * dx - k.spsl.at_ * dy + k.cp.at_ * dz),
   r (k.cpcl.at_ * dx + k.cpsl.at_ * dy + k.sp.at_ * dz))

/-- R160: the site plane back to ECEF by the transpose; each sum with the origin is rounded, ties away from zero. -/
def toEcef (k : SiteCoef) (o : Int × Int × Int) (e n up : Int) : Int × Int × Int :=
  let r (a v : Int) : Int := roundDiv (a * 2 ^ 800 + 10 * v) (2 ^ 800)
  (r o.1 (-k.sl.at_ * e - k.spcl.at_ * n + k.cpcl.at_ * up),
   r o.2.1 (k.cl.at_ * e - k.spsl.at_ * n + k.cpsl.at_ * up),
   r o.2.2 (k.cp.at_ * n + k.sp.at_ * up))

/-- φ and λ in degrees and h in metres, in binary64 (R156): each the correctly rounded value of the fixed-point result. -/
def geodetic (x y z : Int) : Dy × Dy × Dy :=
  let (s, c, l, m) := geoTrig x y z
  let deg (a : Int) : Dy := Dy.round (fxDiv (180 * a) fxPi) (-320)
  let rho := fxSqrt ((x * x + y * y) * fxOne)
  let N := fxDiv (wgsA * fxOne) (fxSqrt (fxOne - fxMul fxE2 (fxMul s s)))
  -- h = ρ·cos φ + z·sin φ − a·√(1 − e²·sin²φ)
  let h := fxMul rho c + fxMul (z * fxOne) s - fxMul (fxMul N (fxOne - fxMul fxE2 (fxMul s s))) fxOne
  (deg (fxAtan2 s c), deg (fxAtan2 l m), Dy.round (h.fdiv 10000) (-320))

end Sys2Proof.Machine
end

