-- ==== Sys2Proof/Machine/State/Gnss.lean ====
section
/-! DEFINITION. State of Tracking, the Developer, and the Fixer as base and as rover solver (07 to 10). -/

namespace Sys2Proof.Machine

/-! ### Tracking -/

/-- A signal of a satellite: system and satellite of Table 7.9, signal code of Table 7.4. -/
structure Sig where
  system : Nat
  sat    : Nat
  signal : Nat
  deriving DecidableEq, Repr, Inhabited

/-- The lock states of a channel that tracks (Table 7.6); an idle channel is not listed, and a watch channel follows from R333. -/
inductive Lock where
  | pullIn | freq | phase | locked | coast
  deriving DecidableEq, Repr, Inhabited

def Lock.code : Lock → Nat
  | .pullIn => 1 | .freq => 2 | .phase => 3 | .locked => 4 | .coast => 5

/-- A channel that tracks (R341 to R343): its signal, the code phase (2⁻²⁸ ms) and Doppler (2⁻⁴ Hz) it was handed over with, its
correlations of the last second, newest first (R336, R340), its lock state and since when, when it last entered PHASE, its slips,
whether the polarity of a data-only signal is resolved and asks for the half-cycle correction, whether its loops ran without samples
since the last epoch, its last C/N0, its latest record, and the geometry test's count of consecutive epochs above or at most 0.15 cycle
with its outlier flag (R356). -/
structure Chan where
  sig     : Sig
  code    : Nat
  doppler : Int
  corr    : List Corr
  st      : Lock
  since   : Nat
  phaseAt : Nat
  slips   : Nat
  resolved : Bool
  invert  : Bool
  coasted : Bool
  cn0     : Nat
  data    : Bytes
  above   : Nat
  below   : Nat
  outlier : Bool
  deriving DecidableEq, Repr, Inhabited

/-- A sample port (R321 to R329): clock present, duty of its gain output with the duties of the last second and the instants until which
they held, share of large samples (0.1 %), conditions of GsStatus with the instants they began, gaps, the gap of the present epoch, its
clock's offset from nominal (parts per 10⁹), and where the measurement of that offset began: the instant, the Timebase's correction and
the sample counter (10⁻³ period) captured then. -/
structure GsPort where
  clock   : Bool
  duty    : Nat
  duties  : List (Nat × Nat)
  share   : Nat
  atLimit : Bool
  jam     : Bool
  highAt  : Option Nat
  quietAt : Option Nat
  gaps    : Nat
  gap     : Bool
  offset  : Int
  mark    : Option (Nat × Int × Nat)
  deriving DecidableEq, Repr, Inhabited

def GsPort.reset : GsPort :=
  { clock := false, duty := 0, duties := [], share := 0, atLimit := false, jam := false, highAt := none, quietAt := none, gaps := 0,
    gap := false, offset := 0, mark := none }

/-- Values of the tracking group in effect (R360). -/
structure TrackVals where
  gs    : List Bytes
  allot : List Bytes
  loop  : Bytes
  base  : List Bytes
  deriving DecidableEq, Repr, Inhabited

/-- Tracking (R320 to R365). -/
structure Tracking where
  /-- TrackMode -/
  mode    : Nat
  ports   : List GsPort
  chans   : Tbl Chan
  /-- watch channels: place in their sweep, and the instant their dwell began (R334) -/
  watch   : Tbl (Nat × Nat)
  /-- the instant from which the watch channels of a signal of a group have shared its satellites as they do now, by 16 g + code -/
  shared  : Tbl Nat
  /-- second_peak set, with the instant (R335) -/
  peaks   : List (Sig × Nat)
  vals    : TrackVals
  /-- a committed group waits for the next nominal instant -/
  due     : Bool
  /-- rate in effect, and the TIME64 at which a written rate takes effect -/
  rate    : Nat
  rateAt  : Option Int
  /-- nominal instant of the last epoch -/
  nominal : Option Int
  seq     : Nat
  /-- the first packets after a step of TIME64 are still to come (R364) -/
  clockStep : Bool
  /-- the next packet of each group carries the gap flag after an island restart (R363) -/
  gapAll  : Bool
  doa     : List Nat
  lost    : Nat
  /-- broadcast offset of a system from its UTC realisation in ns, by system (R349) -/
  broadcast : Tbl Int
  /-- groups whose packet of the last epoch was posted (R346, R352) -/
  posted  : List Nat
  deriving DecidableEq, Repr, Inhabited

def gsDefault : Bytes := leBytes 8 0x1080000000002100
def loopDefault : Bytes := leBytes 8 0x1E0A14A132201400
/-- Default allotments of an L1 group and an L5 group (Table 7.4). -/
def allotL1 : Bytes := [0, 48, 48, 56, 80, 12, 12, 32].flatMap (leBytes 2)
def allotL5 : Bytes := [0, 64, 64, 88, 16, 24, 32, 0].flatMap (leBytes 2)

def TrackVals.reset : TrackVals :=
  { gs := List.replicate 4 gsDefault, allot := [allotL1, allotL5, allotL1, allotL5], loop := loopDefault,
    base := List.replicate 3 (zeros 4) }

def Tracking.reset : Tracking :=
  { mode := 0, ports := List.replicate 4 GsPort.reset, chans := [], watch := [], shared := [], peaks := [], vals := TrackVals.reset, due := false,
    rate := 10, rateAt := none, nominal := none, seq := 0, clockStep := false, gapAll := false, doa := [0, 0], lost := 0, broadcast := [], posted := [] }

/-! ### Developer -/

/-- A budget bucket (R374, R456): its level in 10⁻⁹ units and the instant of that level. -/
structure Bucket where
  level : Nat
  at_   : Nat
  deriving DecidableEq, Repr, Inhabited

/-- The search of a machine exposure, as its start fixes it (R384 to R387, R410): the signals searched, the bins of each band, whether one
segment is enough, the settings it is judged by, and its cost. -/
structure ExpSearch where
  sigs      : List Sig
  bins      : Nat × Nat
  sure      : Bool
  threshold : Nat
  sigmaMax  : Nat
  residualMax : Nat
  cost      : Nat
  deriving DecidableEq, Repr, Inhabited

/-- A latent record (R380 to R382): slot, TIME64 of arrival and machine_id of Table 8.3, the machine's record, and the search it
started with. -/
structure Latent where
  slot    : Nat
  arrival : Int
  machine : Nat
  data    : Bytes
  started : Option ExpSearch
  deriving DecidableEq, Repr, Inhabited

/-- How an own search is bounded (R395 to R397, R404): cold, warm, on antenna B after antenna A, or assisted from a standby result. -/
inductive SearchKind where
  | cold | warm | second | assisted
  deriving DecidableEq, Repr, Inhabited

/-- An own acquisition search that waits or runs: its antenna (0 A, 1 B), its kind, the signals still to search in order, what is already
known of their code phases and Dopplers with the instant it held at (R395, R397, R404), and, of one that runs, the instant of its
samples and the settings it runs by. -/
structure OwnSearch where
  antenna : Nat
  kind    : SearchKind
  sigs    : List Sig
  hints   : List Found
  hintAt  : Nat
  at_     : Nat
  threshold : Nat
  freqUnc : Nat
  sure    : Bool
  deriving DecidableEq, Repr, Inhabited

/-- A search that waits. -/
def OwnSearch.new (antenna : Nat) (kind : SearchKind) (sigs : List Sig) (hints : List Found) (hintAt : Nat) : OwnSearch :=
  { antenna := antenna, kind := kind, sigs := sigs, hints := hints, hintAt := hintAt, at_ := 0, threshold := 0, freqUnc := 0, sure := false }

/-- A standby exposure being developed (R400): TIME64 and instant of its capture, its length in ms, its search, and whether its budget has
let it start. -/
structure StandbyExp where
  at_     : Int
  taken   : Nat
  length  : Nat
  search  : ExpSearch
  started : Bool
  deriving DecidableEq, Repr, Inhabited

/-- The Developer (R368 to R408). -/
structure Developer where
  machine : Bucket
  own     : Bucket
  latents : List Latent
  /-- exposure_seq of the last 16 exposures of each slot, newest first -/
  seqs    : Tbl (List Nat)
  searches : List OwnSearch
  running : List OwnSearch
  /-- the sky as last predicted -/
  sky     : List SkySignal
  standby : Option StandbyExp
  /-- number of the last standby period in which an exposure was taken -/
  period  : Option Int
  result  : Bytes
  /-- signals the latest standby exposure found, and the instant of its capture -/
  found   : List Found
  foundAt : Nat
  flags   : Nat
  developed : Nat
  refused : Nat
  deriving DecidableEq, Repr, Inhabited

/-! ### The filter (R461 to R468) -/

/-- The phase of one signal as it runs on: slip_counts of the machine and of the base, their counts as last read, and what they have
accumulated since the signal was first seen. -/
structure PhaseTrack where
  sig   : Sig
  slips : Nat × Nat
  raw   : Nat × Nat
  sum   : Int × Int
  ok    : Bool
  deriving DecidableEq, Repr, Inhabited

/-- A state beyond position and velocity: the ambiguity of a signal against a reference satellite, with the integer held for it and the
epochs it has been continuous; or the ionosphere of a satellite against the reference of all. -/
inductive FState where
  | amb (sig : Sig) (ref : Nat) (held : Option Int) (count : Nat)
  | ion (system sat : Nat)
  deriving DecidableEq, Repr, Inhabited

/-- A slot's filter (Tables 10.4, 10.5): its frame's origin, the time of its state, the state vector and covariance as binary64 numbers,
what its states from the seventh on are, the ionosphere's reference satellite, and the phase tracks. -/
structure Filter where
  origin : V3
  t      : Int
  x      : List Dy
  p      : List (List Dy)
  states : List FState
  ionRef : Nat × Nat
  tracks : List PhaseTrack
  deriving DecidableEq, Repr, Inhabited

/-! ### The Fixer as base -/

/-- A survey in progress (R414 to R421): network or standalone, survey time, time of the block in progress with its count and sums
(0.1 mm), number of blocks with the sums and sums of squares of their means (10⁻⁵ mm). -/
structure Survey where
  net     : Bool
  paused  : Bool
  elapsed : Nat
  block   : Nat
  count   : Nat
  sum     : Int × Int × Int
  blocks  : Nat
  means   : Int × Int × Int
  squares : Int × Int × Int
  deriving DecidableEq, Repr, Inhabited

def Survey.start (net : Bool) : Survey :=
  { net := net, paused := false, elapsed := 0, block := 0, count := 0, sum := (0, 0, 0), blocks := 0, means := (0, 0, 0),
    squares := (0, 0, 0) }

/-- Lock of an RTCM signal: its slips as last seen, the lock_time at which the indicator restarted (Table 9.5), and the whole cycles
that then brought the phase-range to the pseudorange. -/
structure RtcmLock where
  sig  : Sig
  slips : Nat
  from_ : Nat
  cycles : Int
  deriving DecidableEq, Repr, Inhabited

/-- A base epoch that later solutions draw on (R462, R476): its nominal instant, and the measurement records of antennas A and B as
numbers, A's without those excluded under R426. -/
structure BaseEp where
  nominal : Int
  a       : List Nat
  b       : List Nat
  deriving DecidableEq, Repr, Inhabited

/-- A carrier-smoothed pseudorange (R416): the epochs it is smoothed over, its value in 2⁻²⁰ m, carrier_phase and slip_count as last read. -/
structure Smooth where
  sig   : Sig
  n     : Nat
  range : Int
  phase : Nat
  slips : Nat
  deriving DecidableEq, Repr, Inhabited

/-- A signal of the network station as its latest MSM gives it (R441): its epoch, pseudorange and phase-range in 2⁻³¹ ms, lock time indicator
with the times it has fallen, half-cycle ambiguity. -/
structure NetObs where
  sig   : Sig
  at_   : Int
  range : Int
  phase : Option Int
  lock  : Nat
  slips : Nat
  half  : Bool
  deriving DecidableEq, Repr, Inhabited

/-- The Fixer as base (R411 to R446). -/
structure Base where
  /-- BaseState, BaseSuspectCause -/
  st      : Nat
  cause   : Nat
  /-- consecutive epochs at which every check passed; epochs of a differing network position; instant since which each check passes -/
  clean   : Nat
  netRun  : Nat
  passAt  : List (Option Nat)
  /-- reference position, height, station and year in effect -/
  ref     : Int × Int × Int
  height  : Nat
  station : Nat
  year    : Nat
  /-- a committed group waits for the next nominal instant -/
  due     : Bool
  survey  : Option Survey
  /-- base epochs, newest first, at most 512 -/
  epochs  : List BaseEp
  /-- carrier-smoothed pseudoranges, and the single-point positions of the last 10 s with their nominal instants, newest first -/
  smooth  : List Smooth
  spps    : List (Int × V3)
  /-- nominal instant of the last static messages; the first RTCM epoch after entering OPERATING is still to come -/
  static  : Option Int
  first   : Bool
  locks   : List RtcmLock
  sent    : Nat
  withheld : Nat
  superseded : Nat
  /-- nominal instant of a base epoch that a restart discarded and firmware has still to issue again (R444) -/
  redo    : Option Int
  /-- reference network: frames accepted at all, instant of the last MSM, its epoch and whether that epoch is whole, its signals, station
  position, solution kind with the fixed position of antenna A, the filter with the station position it runs against, frames skipped -/
  netAny  : Bool
  netAt   : Option Nat
  netEpoch : Option Int
  netWhole : Bool
  netObs  : List NetObs
  netPos  : Option (Int × Int × Int)
  netSol  : Nat
  netFix  : V3
  netFilter : Option (V3 × Filter)
  netBad  : Nat
  deriving DecidableEq, Repr, Inhabited

def Base.reset : Base :=
  { st := 0, cause := 0, clean := 0, netRun := 0, passAt := List.replicate 5 none, ref := (0, 0, 0), height := 0, station := 0,
    year := 0, due := false, survey := none, epochs := [], smooth := [], spps := [], static := none, first := false, locks := [], sent := 0, withheld := 0,
    superseded := 0, redo := none, netAny := false, netAt := none, netEpoch := none, netWhole := false, netObs := [],
    netPos := none, netSol := 0, netFix := (0, 0, 0), netFilter := none, netBad := 0 }

/-! ### The Fixer as rover solver -/

/-- Where an observation record stands (R458, R481): waiting, in flight, or its fix record waiting for earlier ones of its slot. -/
inductive EpochPhase where
  | waiting
  | flying
  | ended (fix : Bytes)
  deriving DecidableEq, Repr, Inhabited

/-- An observation record taken in (R454): slot, machine_id and arrival of its header, its bytes, its phase. -/
structure RoverEpoch where
  slot    : Nat
  machine : Nat
  arrival : Int
  data    : Bytes
  phase   : EpochPhase
  deriving DecidableEq, Repr, Inhabited

/-- What the solver keeps of a slot beside its state block (R455, R467): last obs_seq and t_rx of check 4, whether the next epoch
re-initialises the filter, FIXED epochs, the latest fix record. -/
structure RoverSlot where
  last    : Option (Nat × Int)
  again   : Bool
  fixed   : Nat
  fix     : Bytes
  deriving DecidableEq, Repr, Inhabited

def RoverSlot.reset : RoverSlot := { last := none, again := false, fixed := 0, fix := [] }

/-- A rover state block (Table 10.5): machine_id, t_rx and obs_seq of its epoch, its generation, the status it gave, whether an uncorrectable
error has damaged it (R471), and the filter: state vector, covariance and entry map. -/
structure RoverBlock where
  machine : Nat
  t       : Int
  seq     : Nat
  gen     : Nat
  status  : Nat
  damaged : Bool
  filter  : Filter
  deriving DecidableEq, Repr, Inhabited

/-- The rover solver (R449 to R487). -/
structure Rover where
  epochs  : List RoverEpoch
  slots   : Tbl RoverSlot
  /-- state blocks by number, the slot table (a slot it does not list points to the block of its own number), the spare blocks (R469) -/
  blocks  : Tbl RoverBlock
  table   : Tbl Nat
  spares  : List Nat
  budget  : Bucket
  solved  : Nat
  reinits : Nat
  refused : Nat
  deriving DecidableEq, Repr, Inhabited

/-- A full bucket of a rate of n units per second (log entry 29). -/
def Bucket.full (n now : Nat) : Bucket := { level := n * 1000000000, at_ := now }

/-- After a chip or system reset, with the machine budget and the rover budget of the variant: the buckets are full, and a cold search of
antenna A waits (R394). -/
def Developer.start (cells now : Nat) : Developer :=
  { machine := Bucket.full cells now, own := Bucket.full 120000 now, latents := [], seqs := [],
    searches := [OwnSearch.new 0 .cold [] [] 0], running := [], sky := [], standby := none, period := none, result := [],
    found := [], foundAt := 0, flags := 0, developed := 0, refused := 0 }

def Rover.start (rate tier now : Nat) : Rover :=
  { epochs := [], slots := [], blocks := [], table := [], spares := span tier 64, budget := Bucket.full rate now, solved := 0, reinits := 0,
    refused := 0 }

/-- The Developer and the rover solver of the part of log entry 2 after power-on. -/
def Developer.reset : Developer := Developer.start 491520 0
def Rover.reset : Rover := Rover.start 10240 1024 0

end Sys2Proof.Machine
end

