-- ==== Sys2Proof/Machine/State/Islands.lean ====
section
/-! DEFINITION. State of the islands, of resets and of health (02_architecture.md, 19_reset_clocks_health.md, 21_electrical_package.md). -/

namespace Sys2Proof.Machine

/-- The states of Table 2.10. -/
inductive IslandState where
  | running | restarting | inReset | failed | absent
  deriving DecidableEq, Repr, Inhabited

/-- The value of IslandState (Table 2.10). -/
def IslandState.code : IslandState → Nat
  | .running => 0 | .restarting => 1 | .inReset => 2 | .failed => 3 | .absent => 4

/-- One island: its state, restarts since the last chip reset, instants of its faults within the last second (R77), when its
restart or its release began, its corrected errors (R72), its frequency step, last temperature (0.1 °C), slack samples of the
last 10 min (instant, ps), regions retired and whether the end of its margin was logged. -/
structure IslandRec where
  st       : IslandState
  restarts : Nat
  faults   : List Nat
  since    : Nat
  ecc      : Nat
  step     : Nat
  temp     : Int
  slack    : List (Nat × Int)
  regions  : Nat
  endLogged : Bool
  /-- a step change the planner has asked for and the gasket has not yet made (R891) -/
  stepTo   : Option Nat
  /-- what detected the fault that restarts it, as EV_ISLAND_RESTART reports it -/
  cause    : Nat
  /-- the fault that restarts it is its third within 1 s (R77) -/
  third    : Bool
  /-- instant at which its last restart ended -/
  back     : Nat
  deriving DecidableEq, Repr, Inhabited

def IslandRec.reset : IslandRec :=
  { st := .running, restarts := 0, faults := [], since := 0, ecc := 0, step := 0, temp := 0, slack := [], regions := 0,
    endLogged := false, stepTo := none, cause := 0, third := false, back := 0 }

/-- A reset source that is asserted: its code of Table 19.2, its reach code of Table 19.1, and its island for island reach. -/
structure Asserted where
  code   : Nat
  reach  : Nat
  island : Nat
  deriving DecidableEq, Repr, Inhabited

/-- The reset cause record while it is open or as last completed (R886, Table 19.7). -/
structure Cause where
  sources : Nat
  first   : Nat
  reach   : Nat
  island  : Nat
  count   : Nat
  deriving DecidableEq, Repr, Inhabited

/-- One step of a release (Table 19.5): islands of one row, the ROM's choice of image, or the applet harts. -/
inductive ReleaseStep where
  | islands (l : List Island)
  | rom
  | appletHarts
  deriving DecidableEq, Repr, Inhabited

/-- Resets in progress and completed (R867 to R887, R935). -/
structure Resets where
  asserted : List Asserted
  /-- steps of the release not yet made, and when the present row began -/
  plan     : List ReleaseStep
  rowAt    : Nat
  record   : Option Cause
  last     : Cause
  count    : Nat
  /-- RESET_N low since -/
  pinLow   : Option Nat
  /-- instant VDD_AON passed its threshold, while POR is asserted -/
  porAt    : Option Nat
  watchdogAt : Nat
  deriving DecidableEq, Repr, Inhabited

/-- Health of the die and its memories (R890 to R901, R937 to R940). -/
structure Health where
  tempHigh  : Bool
  /-- CoreVoltageRequest in mV, and the VREQ code driven with the instant of its last change -/
  volts     : Nat
  vreq      : Nat
  vreqAt    : Nat
  marginV   : Bool
  marginS   : Bool
  marginEnd : Bool
  trips     : Nat
  /-- corrected errors of single rows and pages within 24 h: key and instants -/
  rowErrs   : Tbl (List Nat)
  pageErrs  : Tbl (List Nat)
  /-- spare rows used, by island * 65,536 + bank -/
  rowsUsed  : Tbl Nat
  pages     : List Nat
  /-- regions retired, as island * 65,536 + region (R897) -/
  retired   : List Nat
  /-- the 64 event counters and their snapshot (R899, R901) -/
  counters  : List Nat
  snapshot  : List Nat
  deriving DecidableEq, Repr, Inhabited

end Sys2Proof.Machine
end

