-- ==== Sys2Proof/Machine/State/Keys.lean ====
section
/-! DEFINITION. State of the Keyring, of the image slots and boot records, and of the settings banks (17_keyring_lifecycle.md,
18_boot_update_recovery.md). -/

namespace Sys2Proof.Machine

/-- States of a key slot (Table 17.3). -/
inductive KeyState where
  | empty | valid | invalid | damaged
  deriving DecidableEq, Repr, Inhabited

def KeyState.code : KeyState → Nat
  | .empty => 0 | .valid => 1 | .invalid => 2 | .damaged => 3

/-- A key slot: the fields of its descriptor (Table 17.3) and its key. -/
structure KeySlot where
  usage     : Nat
  parent    : Nat
  gen       : Nat
  parentGen : Nat
  length    : Nat
  st        : KeyState
  persistent : Bool
  derived   : Bool
  ceiling   : Nat
  depth     : Nat
  installed : Int
  material  : Bytes
  deriving DecidableEq, Repr, Inhabited

def KeySlot.empty (gen : Nat) : KeySlot :=
  { usage := 0, parent := 0, gen := gen, parentGen := 0, length := 0, st := .empty, persistent := false, derived := false,
    ceiling := 0, depth := 0, installed := 0, material := [] }

/-- Life-cycle states (Table 17.7). -/
inductive Lifecycle where
  | blank | provisioned | commissioned | decommissioned | scrapped
  deriving DecidableEq, Repr, Inhabited

def Lifecycle.code : Lifecycle → Nat
  | .blank => 0 | .provisioned => 1 | .commissioned => 2 | .decommissioned => 3 | .scrapped => 4

/-- A flash record of the Keyring (R816): its generation, whether its tag verifies, the persistent slots and every slot's
generation, and the life-cycle state. -/
structure KeyRecord where
  gen   : Nat
  good  : Bool
  slots : Tbl KeySlot
  life  : Lifecycle
  deriving DecidableEq, Repr, Inhabited

/-- The Keyring (R799 to R829). -/
structure Keyring where
  slots    : Tbl KeySlot
  recA     : KeyRecord
  recB     : KeyRecord
  life     : Lifecycle
  loadedGen : Nat
  /-- the scrap fuse (R829) -/
  scrapFuse : Bool
  /-- fuses of the root secret are all blown (R829) -/
  rootGone : Bool
  /-- settings banks still to be erased (R827, R828) -/
  eraseDue : Bool
  /-- KeyInvalidate of a damaged slot waits for its reload (R812): slot and who asked -/
  waiting  : List (Nat × Caller)
  deriving DecidableEq, Repr, Inhabited

def KeyRecord.blank : KeyRecord := { gen := 0, good := true, slots := [], life := .blank }

def Keyring.reset : Keyring :=
  { slots := [], recA := KeyRecord.blank, recB := KeyRecord.blank, life := .blank, loadedGen := 0, scrapFuse := false,
    rootGone := false, eraseDue := false, waiting := [] }

/-- States of an image slot (Table 18.5, SlotState). -/
inductive ImgState where
  | empty | invalid | receiving | staged | trial | active | valid
  deriving DecidableEq, Repr, Inhabited

def ImgState.code : ImgState → Nat
  | .empty => 0 | .invalid => 1 | .receiving => 2 | .staged => 3 | .trial => 4 | .active => 5 | .valid => 6

/-- An image slot (R835): its state, its two headers (Table 18.2; the applet header empty when it holds no bundle), and
whether what it holds passes the signature and hash checks of R836, R839 and R841. -/
structure ImgSlot where
  st      : ImgState
  header  : Bytes
  appHdr  : Bytes
  sigOk   : Bool
  seg0Ok  : Bool
  seg1Ok  : Bool
  appOk   : Bool
  /-- the objects the bundle declares (R792) -/
  objects : Bytes
  deriving DecidableEq, Repr, Inhabited

def ImgSlot.empty : ImgSlot :=
  { st := .empty, header := [], appHdr := [], sigOk := false, seg0Ok := false, seg1Ok := false, appOk := false,
    objects := [] }

/-- A trial named by the boot record (R834, R845). -/
structure Trial where
  slot     : Nat
  attempts : Nat
  timeout  : Nat
  deriving DecidableEq, Repr, Inhabited

/-- An update in progress (R843): its header. Its owner is the editor that holds commit index 0x1210; its payload is a partial
transfer of that editor's session. -/
structure Update where
  header  : Bytes
  deriving DecidableEq, Repr, Inhabited

/-- A boot record (R834): its generation, whether it verifies, the active slot, the trial slot with its attempts and timeout, the active
settings bank, the states of the image slots and the staged one. -/
structure BootRecord where
  gen    : Nat
  good   : Bool
  active : Nat
  trial  : Option Trial
  bank   : Nat
  sts    : List ImgState
  staged : Option Nat
  deriving DecidableEq, Repr, Inhabited

/-- The record of the factory image (log entry 3). -/
def BootRecord.factory : BootRecord :=
  { gen := 0, good := true, active := 0, trial := none, bank := 0, sts := [.active, .empty], staged := none }

/-- What the flash does while the command that writes it runs, as that command's operand says (model's own; no write fails between
commands): whether the write fails, and how many erase blocks turn out worn. -/
structure Flash where
  fails : Bool
  worn  : Nat
  deriving DecidableEq, Repr, Inhabited

def Flash.idle : Flash := { fails := false, worn := 0 }

/-- Boot, update and Boant (R834 to R850, R862 to R864). -/
structure Boot where
  imgs     : List ImgSlot
  active   : Nat
  trial    : Option Trial
  /-- the trial that is running: when its firmware was released (R848) -/
  running  : Option Nat
  booted   : Nat
  m0       : Bytes
  m1       : Bytes
  m2       : Bytes
  fuse     : Nat
  /-- the security version owed to the fuses (R846, R847) -/
  owed     : Nat
  update   : Option Update
  staged   : Option Nat
  /-- boot records A and B -/
  recA     : BootRecord
  recB     : BootRecord
  boant    : Bool
  /-- BoantEnter was written: the chip reset that follows enters Boant (R862) -/
  boantReq : Bool
  boantHdr : Bytes
  boantData : Bytes
  boantSlot : Nat
  deriving DecidableEq, Repr, Inhabited

/-- A settings bank (R851, R852): format, generation, the value of each object it holds, its live half and the bytes used of that. -/
structure Bank where
  format : Nat
  gen    : Nat
  writer : Nat
  values : Tbl Bytes
  half   : Nat
  fill   : Nat
  deriving DecidableEq, Repr, Inhabited

/-- Bytes of an entry of a bank (R851). -/
def entrySize (v : Bytes) : Nat := 8 + (v.length + 3) / 4 * 4

/-- Bytes of a bank that holds each value once: its header, its entries and its HMAC. -/
def bankSize (values : Tbl Bytes) : Nat := 112 + (values.map fun e => entrySize e.2).sum

/-- A bank just written. -/
def Bank.fresh (format gen writer : Nat) (values : Tbl Bytes) : Bank :=
  { format := format, gen := gen, writer := writer, values := values, half := 0, fill := bankSize values }

def Bank.empty : Bank := Bank.fresh 0 0 0 []

/-- Bytes of a half of a bank. -/
def halfSize : Nat := 2 ^ 20

/-- One entry joins the live half, after which the bank holds `values`; where the half has no room for it, the current values are written
into the other half, which becomes live (R852). -/
def Bank.write (b : Bank) (values : Tbl Bytes) (size : Nat) : Bank :=
  if b.fill + size ≤ halfSize then { b with values := values, fill := b.fill + size }
  else { b with values := values, half := 1 - b.half, fill := bankSize values }

/-- The settings (R94 to R97, R851 to R861): the two banks, the one in use, the one the boot record names, their spares; the
device records of R857; volatile written values; values in force since the last chip reset; carried groups not yet committed. -/
structure Settings where
  bank0   : Bank
  bank1   : Bank
  inUse   : Nat
  named   : Nat
  spares  : Nat
  readOnly : Bool
  defaulted : Bool
  trialBank : Bool
  records : Tbl Bytes
  vol     : Tbl Bytes
  inForce : Tbl Bytes
  /-- commit objects of carried stage groups with the instant of their last try (R861) -/
  carried : List (Nat × Nat)
  /-- an imported image waits in the other bank for the next chip reset, with the groups it carries -/
  imported : Option (Bank × List Nat)
  deriving DecidableEq, Repr, Inhabited

def Settings.reset : Settings :=
  { bank0 := Bank.empty, bank1 := Bank.empty, inUse := 0, named := 0, spares := 16, readOnly := false, defaulted := false,
    trialBank := false, records := [], vol := [], inForce := [], carried := [], imported := none }

end Sys2Proof.Machine
end

