-- ==== Sys2Proof/Machine/State/Links.lean ====
section
/-! DEFINITION. State of the radio modems and the link controller, of the Ethernet switch and PTP, and of the CAN ports (12, 14, 15). -/

namespace Sys2Proof.Machine

/-- The states of a link that exists (Table 12.10); a slot without one is IDLE. -/
inductive LinkState where
  | joining | connected
  deriving DecidableEq, Repr, Inhabited

/-- A reliable element waiting for its acknowledgement (Table 12.4, R583): type, body, and the stream-4 message it completes. -/
structure Elem where
  ty   : Nat
  body : Bytes
  msg  : Option Nat
  deriving DecidableEq, Repr, Inhabited

/-- A partial message of a stream (R624). -/
structure Partial where
  msg   : Nat
  total : Nat
  data  : Bytes
  deriving DecidableEq, Repr, Inhabited

/-- An UPDATE whose instant has not come (R616): event number, parameter block, reservation offset and channel
entries of the change. -/
structure LinkUpdate where
  instant : Nat
  params  : Bytes
  offset  : Nat
  chans   : List Bytes
  deriving DecidableEq, Repr, Inhabited

/-- A stream-4 message in flight (R626): its number, its sender, its bytes, how many were sent and whether any segment was. -/
structure DownMsg where
  msg    : Nat
  caller : Caller
  data   : Bytes
  off    : Nat
  begun  : Bool
  deriving DecidableEq, Repr, Inhabited

/-- A link (R592 to R629): event `base` has its anchor at radio-timeline instant `first`; `next` is the first event not yet past;
reservation `offset` in 25 µs units; keys with the join slot and generation they came from; the sn, nesn and replay state; what
waits and what is unacknowledged; the instant the last machine frame was accepted; the end of the device frame whose reply is
awaited. -/
structure Link where
  st       : LinkState
  modem    : Nat
  linkId   : Nat
  first    : Int
  base     : Nat
  next     : Nat
  params   : Bytes
  offset   : Nat
  /-- the channel entries it uses until an UPDATE's instant (R586) -/
  chans    : List Bytes
  pend     : Option LinkUpdate
  held     : Bool
  txCount  : Nat
  rxHigh   : Nat
  sn       : Bool
  nesn     : Bool
  sent     : List Elem
  queue    : List Elem
  linkKey  : Bytes
  tokenKey : Bytes
  keyOk    : Bool
  joinSlot : Nat
  joinGen  : Nat
  lastRx   : Nat
  awaiting : Option Nat
  /-- the pending swarm command given in the join response, in SWARM_ANNOUNCE layout -/
  swarm    : Bytes
  /-- stop frame being repeated (R550) -/
  stopBody : Bytes
  partials : Tbl Partial
  msgs     : List DownMsg
  msgNext  : Nat
  events   : Nat
  noReply  : Nat
  micFails : Nat
  replays  : Nat
  rssi     : Int
  deriving DecidableEq, Repr, Inhabited

/-- A neighbour listen placed on a modem (R606). -/
structure Listen where
  nbr    : Nat
  chan   : Nat
  offset : Nat
  period : Nat
  deriving DecidableEq, Repr, Inhabited

/-- A modem (R584 to R613): its counter of beacons and waggles, the value its placements follow until the next hyperperiod
boundary, the waggle's offset, the beacon's channel entry, its listens, the heartbeat period last carried, RTCM frames of the current batch not yet sent,
waggle messages with repeats left. -/
structure Modem where
  counter  : Nat
  value    : Bytes
  waggle   : Option Nat
  entry    : Bytes
  listens  : List Listen
  replan   : Bool
  hbPeriod : Option Int
  rtcm     : List Bytes
  msgs     : List (Nat × Nat)
  deriving DecidableEq, Repr, Inhabited

/-- Replay window of a broadcast id (R578): the highest counter accepted and the counters below it accepted. -/
structure ReplayWin where
  high : Nat
  seen : List Nat
  deriving DecidableEq, Repr, Inhabited

/-- A message of RadioWagglePort (R615). -/
structure WaggleMsg where
  caller : Caller
  body   : Bytes
  deriving DecidableEq, Repr, Inhabited

/-- The Radio island (R566 to R632). A farewell is an ended link that still sends END in its next event. -/
structure Radio where
  links     : Tbl Link
  farewells : List (Nat × Nat × Link)
  modems    : List Modem
  wins      : Tbl ReplayWin
  waggles   : Tbl WaggleMsg
  waggleNext : Nat
  joinRefused : Nat
  micFails  : Nat
  replayDrops : Nat
  ended     : Nat
  dropped   : Nat
  deriving DecidableEq, Repr, Inhabited
/-- What the device does as a frame of its own leaves (R692 to R695). `rx` is the corrected receive timestamp of the request a
Pdelay_Resp answers, in 2⁻¹⁶ ns. -/
inductive Depart where
  | plain
  | syncOne
  | syncTwo
  | delayReq
  | pdelayReq
  | pdelayOne (rx : Int)
  | pdelayTwo
  deriving DecidableEq, Repr, Inhabited

/-- A frame in an egress queue, from destination address to before the FCS: its ingress port (4 the internal port), corrected receive timestamp, and what happens at departure. -/
structure EgFrame where
  frame   : Bytes
  ingress : Nat
  rx      : Int
  act     : Depart
  deriving DecidableEq, Repr, Inhabited

/-- A master heard by Announce on a port: its message and the instants of its Announces, newest first. -/
structure Foreign where
  msg   : PtpMsg
  times : List Nat
  deriving DecidableEq, Repr, Inhabited

/-- A Pdelay exchange: sequenceId and departure of the request, and the response's receipt with its timestamp and correction. -/
structure Peer where
  seqId : Nat
  t1    : Option Int
  resp  : Option (Int × Int × Int)
  deriving DecidableEq, Repr, Inhabited

/-- A port EPn (R669 to R700): its link (EthLinkState) and whether its PCS is synchronised, its counters, its four egress queues; its PTP
port state with the instant it was entered, masters heard, parent, instant until which PRE_MASTER lasts; the Sync that waits for its
Follow_Up, the last Sync's t2 − t1 − c, the Delay_Req sent, the peer exchange and peer delay, and its sequence numbers. -/
structure EthPort where
  link    : Nat
  pcs     : Bool
  speed   : Nat
  rx      : Nat
  tx      : Nat
  err     : Nat
  drop    : Nat
  queues  : List (List EgFrame)
  ptp     : Nat
  since   : Nat
  foreign : List Foreign
  parent  : Option PtpMsg
  until_  : Nat
  syncAt  : Option Nat
  twoStep : Option (Nat × Int × Int)
  leg     : Option Int
  req     : Option (Nat × Option Int)
  peer    : Peer
  peerDelay : Int
  seqAnn  : Nat
  seqSync : Nat
  seqReq  : Nat
  deriving DecidableEq, Repr, Inhabited

def EthPort.reset (role : Nat) (now : Nat) : EthPort :=
  { link := 0, pcs := false, speed := 3, rx := 0, tx := 0, err := 0, drop := 0, queues := [[], [], [], []],
    ptp := if role = 1 then 1 else 0, since := now, foreign := [], parent := none, until_ := 0, syncAt := none, twoStep := none,
    leg := none, req := none, peer := { seqId := 0, t1 := none, resp := none }, peerDelay := 0, seqAnn := 0, seqSync := 0, seqReq := 0 }

/-- An address learned: the port it was seen on and when last. -/
structure MacEntry where
  mac  : Nat
  port : Nat
  at_  : Nat
  deriving DecidableEq, Repr, Inhabited

/-- A residence held for a Follow_Up (R699). -/
structure Residence where
  port   : Nat
  source : Nat
  domain : Nat
  seqId  : Nat
  r      : Int
  at_    : Nat
  deriving DecidableEq, Repr, Inhabited

/-- The Network island's switch and PTP instance (R669 to R703). -/
structure Net where
  ports : List EthPort
  macs  : List MacEntry
  held  : List Residence
  meanPath : Int
  offset : Int
  uncorrected : Nat
  deriving DecidableEq, Repr, Inhabited

/-- A frame record (Table 15.4); its length is that of its data. -/
structure CanRec where
  time    : Int
  frac    : Nat
  seq     : Nat
  frame   : CanFrame
  fresh   : Bool
  overrun : Bool
  outcome : Nat
  deriving DecidableEq, Repr, Inhabited

/-- A pending send (R727 to R730): buffer, sender, instant of acceptance, attempts made, and the cancel that waits for the end of the
attempt in progress. -/
structure CanSend where
  buf      : Nat
  caller   : Caller
  since    : Nat
  frame    : CanFrame
  attempts : Nat
  cancel   : Option Caller
  deriving DecidableEq, Repr, Inhabited

/-- A reference message waiting (R736): its boundary and the instant it was queued. -/
structure CanRefMsg where
  k     : Int
  since : Nat
  frame : CanFrame
  deriving DecidableEq, Repr, Inhabited

/-- A receive FIFO (R724): frames in order of reception, whether a frame was lost before the next one, the second in which drops were
last logged. -/
structure CanFifo where
  recs   : List CanRec
  lost   : Bool
  logged : Option Nat
  deriving DecidableEq, Repr, Inhabited

/-- A port CPn (R707 to R753): its state (0 disabled, 1 integrating, 2 on the bus, 4 bus-off, 5 asleep), whether bus-off recovery runs,
the error counters, CanNoAckCount and the lonely bit, whether sleep was asked for, the CanWakeConfig applied at sleep entry, the
buffer records, pending sends, the reference message waiting and the last one sent (its boundary and its start of frame minus its
cycle_time), the FIFOs and the counts of CanCounters. -/
structure CanPort where
  st       : Nat
  recovering : Bool
  tec      : Nat
  recErrs  : Nat
  noAck    : Nat
  lonely   : Bool
  sleepReq : Bool
  wakeCfg  : Nat
  bufs     : Tbl CanRec
  pend     : List CanSend
  refMsg   : Option CanRefMsg
  refSent  : Option (Int × Int)
  fifos    : List CanFifo
  rx       : Nat
  tx       : Nat
  errs     : Nat
  drops    : Nat
  deriving DecidableEq, Repr, Inhabited

/-- The CAN ports (R707 to R755): CanTmSkipped, the last cycle boundary passed, CanStopFramesBad and the second in which a bad stop
frame was last logged. -/
structure Can where
  ports   : List CanPort
  skipped : Nat
  lastK   : Option Int
  badStops : Nat
  badLogged : Option Nat
  deriving DecidableEq, Repr, Inhabited

/-- The default modem value (Table 12.6). -/
def modemDefault : Bytes :=
  [0, 7, 4, 15] ++ leBytes 2 400 ++ leBytes 2 200 ++ leBytes 2 0 ++ [0, 2, 14, 17] ++ leBytes 2 128 ++ leBytes 2 100 ++ zeros 6

def Modem.reset : Modem :=
  { counter := 0, value := modemDefault, waggle := none, entry := zeros 12, listens := [], replan := false, hbPeriod := none, rtcm := [], msgs := [] }

def Radio.reset : Radio :=
  { links := [], farewells := [], modems := List.replicate 8 Modem.reset, wins := [], waggles := [], waggleNext := 0,
    joinRefused := 0, micFails := 0, replayDrops := 0, ended := 0, dropped := 0 }
def Net.reset : Net :=
  { ports := List.replicate 4 (EthPort.reset 0 0), macs := [], held := [], meanPath := 0, offset := 0, uncorrected := 0 }

def CanFifo.reset : CanFifo := { recs := [], lost := false, logged := none }
def CanPort.reset (st : Nat) : CanPort :=
  { st := st, recovering := false, tec := 0, recErrs := 0, noAck := 0, lonely := false, sleepReq := false, wakeCfg := 0, bufs := [],
    pend := [], refMsg := none, refSent := none, fifos := [CanFifo.reset, CanFifo.reset], rx := 0, tx := 0, errs := 0, drops := 0 }
def Can.reset : Can :=
  { ports := List.replicate 8 (CanPort.reset 0), skipped := 0, lastK := none, badStops := 0, badLogged := none }

end Sys2Proof.Machine
end

