-- ==== Sys2Proof/Machine/State/Log.lean ====
section
/-! DEFINITION. State of the Logbook (20_logbook.md). -/

namespace Sys2Proof.Machine

/-- An event as it is offered to the Logbook (R904, R905): code, severity, island and params. -/
structure LogEv where
  code   : Nat
  sev    : Nat
  island : Nat
  params : Bytes
  deriving DecidableEq, Repr, Inhabited

/-- A record of Table 20.1: its sequence number in two parts, its event, its flags, its repeat count, and whether an
uncorrectable error has damaged it so that its CRC fails (R916). -/
structure LogRec where
  cycle    : Nat
  count    : Nat
  ev       : LogEv
  mirrored : Bool
  satur    : Bool
  synth    : Bool
  rep      : Nat
  damaged  : Bool
  deriving DecidableEq, Repr, Inhabited

/-- An entry of the staging queue: an event, or the place of a synthetic EV_LOG_LOST (R912). -/
inductive Staged where
  | event (e : LogEv)
  | lost (wher : Nat)
  deriving DecidableEq, Repr, Inhabited

/-- Events lost and not yet reported by a written EV_LOG_LOST: count and highest severity, by where byte (R912). -/
structure Lost where
  wher  : Nat
  count : Nat
  sev   : Nat
  deriving DecidableEq, Repr, Inhabited

/-- A hart's registers of the Logbook window (Table 20.3). -/
structure LogWin where
  select : Nat
  seek   : Nat
  /-- what SEEK_SLOT reads -/
  found  : Nat
  stage  : Bytes
  deriving DecidableEq, Repr, Inhabited

/-- The Logbook (R904 to R924). -/
structure Logbook where
  /-- SRAM slots in use, by slot number -/
  slots    : Tbl LogRec
  /-- 64 KiB regions retired (R916) -/
  retired  : List Nat
  /-- slot of the record that is open, and the instant it was written (R909) -/
  openRec  : Option (Nat × Nat)
  /-- staging queue, oldest first, at most 64 (R911) -/
  staging  : List Staged
  /-- losses not yet reported -/
  losses   : List Lost
  dropped  : Nat
  lostAll  : Nat
  /-- seq of the next record: power cycle and count (R906) -/
  cycle    : Nat
  count    : Nat
  /-- seq of the newest record written, zero before the first -/
  latest   : Nat
  /-- records held in the flash mirror, oldest first -/
  mirror   : List LogRec
  /-- records waiting for the mirror, oldest first, at most 256 (R919) -/
  mirrorQ  : List LogRec
  /-- ring blocks and spare blocks of the mirror (R917, R920) -/
  ring     : Nat
  spares   : Nat
  /-- the last multiple of LogTimeMarkPeriod, in ns of TIME64, at which a mark was written (R921) -/
  lastMark : Option Int
  windows  : Tbl LogWin
  deriving DecidableEq, Repr, Inhabited

/-- The Logbook after power-on with an empty mirror: EV_RESET of the power-on reset, the record of its cause, waits in the
staging queue (R887, R906). -/
def Logbook.reset (first : List Staged) : Logbook :=
  { slots := [], retired := [], openRec := none, staging := first, losses := [], dropped := 0, lostAll := 0, cycle := 0,
    count := 1, latest := 0, mirror := [], mirrorQ := [], ring := 5, spares := 3, lastMark := none, windows := [] }

end Sys2Proof.Machine
end

