-- ==== Sys2Proof/Machine/State/Stop.lean ====
section
/-! DEFINITION. State of the Conformance monitor, of swarm commands and of the Stop Bath (11_conformance_stop_bath.md). -/

namespace Sys2Proof.Machine

/-- A latch of Table 11.4. -/
inductive Latch where
  | all
  | zone (z : Nat)
  | group (g : Nat)
  | machine (m : Nat)
  deriving DecidableEq, Repr, Inhabited

/-- The scope number of R537 and the target of a latch. -/
def Latch.scope : Latch → Nat
  | .all => 0 | .zone _ => 1 | .group _ => 2 | .machine _ => 3
def Latch.target : Latch → Nat
  | .all => 0 | .zone z => z | .group g => g | .machine m => m

/-- The stop latches of one channel as sets of source bits (Table 11.4). -/
structure StopLatches where
  all      : Nat
  zones    : Tbl Nat
  groups   : Tbl Nat
  machines : Tbl Nat
  deriving DecidableEq, Repr, Inhabited

/-- One channel of the Stop Bath: its latches in three copies (R49), its stop epochs, the slots it holds in go, and the sources its
gasket holds while its island restarts (R68). -/
structure StopChan where
  copies   : Triple StopLatches
  epochs   : Tbl Nat
  go       : List Nat
  held     : List (Latch × Nat)
  deriving DecidableEq, Repr, Inhabited

/-- The latches as read by majority vote (R49), and each kind of them. -/
def StopChan.latches (ch : StopChan) : StopLatches := ch.copies.vote
def StopChan.all (ch : StopChan) : Nat := ch.latches.all
def StopChan.zones (ch : StopChan) : Tbl Nat := ch.latches.zones
def StopChan.groups (ch : StopChan) : Tbl Nat := ch.latches.groups
def StopChan.machines (ch : StopChan) : Tbl Nat := ch.latches.machines

/-- Latches are written in all three copies. -/
def StopChan.latched (ch : StopChan) (l : StopLatches) : StopChan := { ch with copies := Triple.of l }

/-- A channel right after power-on: the all latch set with source 11 (R526), every epoch 0. -/
def StopChan.reset : StopChan :=
  { copies := Triple.of { all := 0x0800, zones := [], groups := [], machines := [] }, epochs := [], go := [], held := [] }

/-- One pin of a stop input: its raw level with the instant from which it holds it, its debounced level, and the instant from which it
held the level before, which counts on where the present one lasts less than 2 µs (R529). -/
structure StopPin where
  level : Bool
  since : Nat
  deb   : Bool
  before : Nat
  deriving DecidableEq, Repr, Inhabited

/-- Discrepancy lock (R531): none, locked, or locked with both pins seen in stop together. -/
inductive DiscLock where
  | none | locked | bothStop
  deriving DecidableEq, Repr, Inhabited

/-- A stop input SIn (R528 to R531): its two pins, the instant from which their debounced states differ, its lock. -/
structure StopIn where
  a      : StopPin
  b      : StopPin
  differ : Option Nat
  lock   : DiscLock
  deriving DecidableEq, Repr, Inhabited

/-- A stop output SOn (R535, R536): whether a pin shows a readback fault, whether its latest pulse test failed, the instant its
pulse in progress began, and the instant of its last test. -/
structure StopOut where
  readback : Bool
  failed   : Bool
  pulse    : Option Nat
  lastTest : Option Nat
  deriving DecidableEq, Repr, Inhabited

/-- A release arm (R556). -/
structure Arm where
  scope  : Nat
  target : Nat
  number : Nat
  at_    : Nat
  deriving DecidableEq, Repr, Inhabited

/-- A stop notice being sent to a neighbour until it is answered (R542). -/
structure StopNotice where
  nbr   : Nat
  body  : Bytes
  since : Nat
  last  : Nat
  deriving DecidableEq, Repr, Inhabited

/-- A vote as the Radio island received it (R543): channel 0 (A) or 1 (B), go bits, stop epochs, arrival. -/
structure Vote where
  chan   : Nat
  go     : List Nat
  epochs : Tbl Nat
  at_    : Nat
  deriving DecidableEq, Repr, Inhabited

/-- The Stop Bath (R521 to R561). -/
structure StopBath where
  a         : StopChan
  b         : StopChan
  /-- members of each zone (R524) -/
  members   : Tbl (List Nat)
  ins       : List StopIn
  outs      : List StopOut
  arm       : Option Arm
  notices   : List StopNotice
  /-- votes of the last 250 µs, newest first -/
  votes     : List Vote
  disagree  : Option Nat
  /-- stop frames still to insert per slot: how many, and the instant of the latch (R550) -/
  frames    : Tbl (Nat × Nat)
  /-- latest reason per latch and source: key = (scope · 2,048 + target) · 16 + source (Table 11.8) -/
  reasons   : Tbl Nat
  /-- StopCommand writes that wait for a channel to return (R538): the value and who wrote it -/
  waiting   : List (Bytes × Caller)
  deriving DecidableEq, Repr, Inhabited

def StopPin.reset : StopPin := { level := true, since := 0, deb := true, before := 0 }
def StopIn.reset : StopIn := { a := StopPin.reset, b := StopPin.reset, differ := none, lock := .none }
def StopOut.reset : StopOut := { readback := false, failed := false, pulse := none, lastTest := none }

def StopBath.reset : StopBath :=
  { a := StopChan.reset, b := StopChan.reset, members := [], ins := List.replicate 4 StopIn.reset,
    outs := List.replicate 4 StopOut.reset, arm := none, notices := [], votes := [], disagree := none, frames := [],
    reasons := [], waiting := [] }

/-- A reported position as the monitor keeps it: t_rx, plane east and north (0.1 mm), velocity (mm/s), heading (2⁻¹⁶ turn),
sigma (mm). -/
structure RepPos where
  t : Int
  e : Int
  n : Int
  ve : Int
  vn : Int
  heading : Nat
  sigma : Nat
  deriving DecidableEq, Repr, Inhabited

/-- A fix or developed position already judged by a pair test or waiting for a partner (R501): kind, time, plane position
(0.1 mm), sigma squared (10⁻⁶ mm²), and the time distance of its partner, if it had one. -/
structure PairPos where
  kind : Nat
  t : Int
  e : Int
  n : Int
  var : Nat
  partner : Option Nat
  deriving DecidableEq, Repr, Inhabited

/-- A conformance operation (R489): a fix with its covariance (ee, nn, en in 10⁻⁶ mm²), a reported position, a developed
position (ECEF in 0.1 mm, sigma_h in mm, whether its exposure was assisted: R391), or a result notice. -/
inductive ConfOp where
  | fix (t e n : Int) (ee nn en : Int) (status : Nat)
  | reported (p : RepPos)
  | developed (t : Int) (pos : V3) (sigma : Nat) (assisted : Bool)
  | notice (fixed : Bool)
  deriving DecidableEq, Repr, Inhabited

/-- What the monitor keeps of one slot (R490 to R510, R518): since when it is monitored, its reported positions and judged
positions within the pair window, time of the latest judged operation per kind, instants of the last stale record per kind,
counters of the ten rows, cell set of its latest position, latest verdict record, acknowledged mode and a mode acknowledged
ahead of its instant. -/
structure ConfSlot where
  since    : Option Nat
  reported : List RepPos
  judged   : List PairPos
  ages     : List (Option Int)
  staleAt  : List (Option Nat)
  counters : List Nat
  cells    : List (Int × Int)
  verdict  : Bytes
  acked    : Nat
  ackAhead : Option Nat
  deriving DecidableEq, Repr, Inhabited

def ConfSlot.reset : ConfSlot :=
  { since := none, reported := [], judged := [], ages := [none, none, none], staleAt := [none, none, none],
    counters := List.replicate 10 0, cells := [], verdict := zeros 32, acked := 0, ackAhead := none }

/-- A pending swarm command (R514 to R519). -/
structure Swarm where
  mode     : Nat
  instant  : Int
  deadline : Int
  applied  : Bool
  deriving DecidableEq, Repr, Inhabited

/-- The Conformance monitor and the fleet mode (R489 to R520). -/
structure Conf where
  slots    : Tbl ConfSlot
  /-- operations issued to the monitor and not yet judged, per slot, oldest first (R492) -/
  ops      : List (Nat × ConfOp)
  rows     : List Nat
  ignored  : Nat
  verdicts : List Nat
  swarm    : Option Swarm
  /-- mode and instant of the last command past its deadline, for an acknowledgement that arrives late (R518) -/
  past     : Option (Nat × Int)
  deriving DecidableEq, Repr, Inhabited

def Conf.reset : Conf :=
  { slots := [], ops := [], rows := List.replicate 10 0, ignored := 0, verdicts := [0, 0, 0, 0], swarm := none, past := none }

end Sys2Proof.Machine
end

