-- ==== Sys2Proof/Machine/State/Time.lean ====
section
/-! DEFINITION. State of the Timebase and of the time outputs and captures (13_timebase_time_io.md). -/

namespace Sys2Proof.Machine

/-- A time source of Table 13.1: whether it is present, since when, qualified, marked disagree; its last offset (ns, TIME64
minus the source's time) with its instant and the rate correction accumulated then; its offsets of the last TimeQualifyTime
with the correction removed (instant, 10⁻¹² ns); the bound reported with it. -/
structure TimeSrc where
  present   : Bool
  since     : Nat
  qualified : Bool
  disagree  : Bool
  last      : Int
  lastAt    : Nat
  lastCorr  : Int
  window    : List (Nat × Int)
  bound     : Nat
  deriving DecidableEq, Repr, Inhabited

def TimeSrc.none : TimeSrc :=
  { present := false, since := 0, qualified := false, disagree := false, last := 0, lastAt := 0, lastCorr := 0, window := [],
    bound := 0 }

/-- The servo states of Table 13.2. -/
inductive TimeState where
  | freerun | locked | slewing | holdover | holdJump
  deriving DecidableEq, Repr, Inhabited

def TimeState.code : TimeState → Nat
  | .freerun => 0 | .locked => 1 | .slewing => 2 | .holdover => 3 | .holdJump => 4

/-- The Timebase (R633 to R650, R658). Phases are in 10⁻¹² ns, so that a rate correction of one part per 10¹² moves the count
by a whole number in each ns. -/
structure Timebase where
  /-- device instant at which `count`, `corr` were taken -/
  anchor   : Nat
  /-- TIME64 at the anchor, 10⁻¹² ns, in three copies (R49) -/
  count    : Triple Int
  /-- rate correction accumulated up to the anchor, 10⁻¹² ns -/
  corr     : Int
  /-- rate correction, parts per 10¹² -/
  rate     : Int
  /-- frequency term of the servo, parts per 10¹², since when, and its earlier stretches in LOCKED or SLEWING, newest first
  (length in ns, term), R644 -/
  freq     : Int
  freqAt   : Nat
  hist     : List (Nat × Int)
  st       : TimeState
  source   : Nat
  srcs     : List TimeSrc
  /-- whether the counter runs from REFIN -/
  refin    : Bool
  /-- the clock at the REFIN pin, as RefinConfig names its frequency: 0 none, 1 10 MHz, 2 25 MHz -/
  refClock : Nat
  /-- bound at holdover entry (ns), instant of entry, and growth up to `segAt` in 5·10⁻²⁵ ns (R646) -/
  e0       : Nat
  holdAt   : Nat
  segAt    : Nat
  eAcc     : Nat
  /-- in SLEWING, the offset still to remove at the anchor, ns -/
  remain   : Int
  armed    : Bool
  /-- UTC parameters held (R658): TAI − UTC, the leap announcement 0, 1 or 2, and the TAI second at which the UTC day it ends
  would end without it -/
  utc      : Option (Int × Nat × Int)
  /-- PpsTimeOfDay: the named TIME64 and the instant of the write -/
  ppsTod   : Option (Int × Nat)
  /-- sum of the armed steps since acquisition, ns: TIME64 less the radio timeline (R587) -/
  stepped  : Int
  deriving DecidableEq, Repr, Inhabited

/-- The time count as read by majority vote (R49). -/
def Timebase.phase (b : Timebase) : Int := b.count.vote

/-- After a chip or power-on reset (R635): TIME64 is 0 and the servo is in FREERUN. -/
def Timebase.reset (now : Nat) : Timebase :=
  { anchor := now, count := Triple.of 0, corr := 0, rate := 0, freq := 0, freqAt := now, hist := [], st := .freerun, source := 0,
    srcs := List.replicate 4 TimeSrc.none, refin := false, refClock := 0, e0 := 0, holdAt := now, segAt := now, eAcc := 0,
    remain := 0, armed := false, utc := none, ppsTod := none, stepped := 0 }

/-- A pulse in progress: its number, the TIME64 of its trailing edge in 10⁻¹² ns, and its active level (Table 13.6). -/
structure PulseOn where
  k     : Nat
  fin   : Int
  level : Bool
  deriving DecidableEq, Repr, Inhabited

/-- A time output TOn (R651 to R657). Its value is the active TimePulse object. -/
structure TimeOut where
  /-- least number the next pulse may have -/
  k        : Nat
  pulse    : Option PulseOn
  /-- TIME64 of the last trailing edge, 10⁻¹² ns -/
  ended    : Option Int
  skipped  : Nat
  /-- the whole second in which a skip was last logged -/
  skipSec  : Option Int
  /-- the whole second whose time-of-day line was last sent -/
  todSec   : Option Int
  /-- after a chip reset the pin floats until the acquisition step (R665) -/
  floating : Bool
  deriving DecidableEq, Repr, Inhabited

def TimeOut.reset : TimeOut :=
  { k := 0, pulse := none, ended := none, skipped := 0, skipSec := none, todSec := none, floating := true }

/-- A time capture input TCn (R659 to R661). -/
structure Capture where
  seq    : Nat
  /-- instant of the last captured edge, 250 ps -/
  lastAt : Option Nat
  /-- an edge was missed before the next record -/
  miss   : Bool
  missed : Nat
  count  : Nat
  /-- records waiting to be posted, oldest first, at most 16 -/
  buffer : List Bytes
  last   : Bytes
  deriving DecidableEq, Repr, Inhabited

def Capture.reset : Capture :=
  { seq := 0, lastAt := none, miss := false, missed := 0, count := 0, buffer := [], last := zeros 16 }

end Sys2Proof.Machine
end

