-- ==== Sys2Proof/Machine/State.lean ====
section
/-!
DEFINITION. The state of the device: what the spec gives it, chapter by chapter, as plain data, with the model's own fields
(the clock of arrivals, the record of what was sent, the free-value counter, the queue of commands).
-/

namespace Sys2Proof.Machine

/-- What fuses, bonding and silicon fix (R17, R37, Table 1.2): nothing changes it. `sbe` is no part of it: blown security
version and scrap fuses stand in `boot` and `keys`. -/
structure Silicon where
  tier     : Nat
  sService : Bool
  packageA : Bool
  stepping : Nat
  serial   : Bytes
  mac      : Nat
  volts    : Nat
  cert     : Bytes
  /-- installed LPDDR in MiB -/
  lpddr    : Nat
  deriving DecidableEq, Repr, Inhabited

/-- A clashing controller (R46): when its last heartbeat was heard. -/
structure Clash where
  last : Nat
  deriving DecidableEq, Repr, Inhabited

structure State where
  /-- instant of the last command, ns of the device's own count since power-on -/
  now     : Nat
  silicon : Silicon
  /-- cap profile in force since the last chip reset (R38) -/
  cap     : Nat
  clash   : Option Clash
  islands : List IslandRec
  resets  : Resets
  health  : Health
  dict    : Dict
  settings : Settings
  keys    : Keyring
  flash   : Flash
  boot    : Boot
  comb    : Comb
  track   : Tracking
  dev     : Developer
  base    : Base
  rover   : Rover
  conf    : Conf
  stop    : StopBath
  radio   : Radio
  tb      : Timebase
  outs    : List TimeOut
  caps    : List Capture
  net     : Net
  can     : Can
  fabric  : Fabric
  /-- LPDDR as harts use it, by physical address: the bytes that are not zero (Table 2.1, R66, R881) -/
  dram    : List Host.Cell
  log     : Logbook
  /-- what the device has sent, newest first (model's own) -/
  out     : List Out
  /-- free values drawn so far (model's own) -/
  free    : Nat
  /-- commands waiting, first in first out -/
  pending : List Instr
  deriving DecidableEq, Repr, Inhabited

/-- Why the model stops with a fault. -/
inductive Fault where
  /-- Raised by nothing: every command of the table has an effect or none, and no access of one leaves an address space. Safe. -/
  | unraised
  deriving DecidableEq, Repr, Inhabited

/-- Why the model refuses a command. -/
inductive Refusal where
  /-- Raised by the dispatch for a row that has no meaning yet; raised by no meaning. Safe. -/
  | notModelled (mnemonic : String)
  deriving DecidableEq, Repr, Inhabited

/-- DESIGN CHOICE (log entry 2): the part the fuses name, a DHX-1024S-A of stepping 0xB0. -/
def Silicon.part : Silicon :=
  { tier := 1024, sService := true, packageA := true, stepping := 0xB0, serial := zeros 8, mac := 0, volts := 750, cert := [],
    lpddr := 8192 }

/-- The record of the power-on reset (R886): source 0, reach power-on, ResetCount 1. -/
def Cause.powerOn : Cause := { sources := 1, first := 0, reach := 0, island := 0xFF, count := 1 }

/-- Table 19.7. -/
def Cause.bytes (c : Cause) : Bytes :=
  leBytes 4 c.sources ++ [byte c.first, byte c.reach, byte c.island, 0] ++ leBytes 4 c.count ++ zeros 4

def Resets.reset : Resets :=
  { asserted := [], plan := [], rowAt := 0, record := none, last := Cause.powerOn, count := 1, pinLow := none, porAt := none,
    watchdogAt := 0 }

def Health.reset : Health :=
  { tempHigh := false, volts := 750, vreq := 20, vreqAt := 0, marginV := false, marginS := false, marginEnd := false,
    trips := 0, rowErrs := [], pageErrs := [], rowsUsed := [], pages := [], retired := [], counters := List.replicate 64 0,
    snapshot := List.replicate 64 0 }

/-- DESIGN CHOICE (log entry 3): slot A holds the factory image, which passes its checks, and slot B is empty. -/
def ImgSlot.factory : ImgSlot :=
  { st := .active, header := ascii "DXIM" ++ [1, 1] ++ zeros 506, appHdr := [], sigOk := true, seg0Ok := true, seg1Ok := true,
    appOk := false, objects := [] }

/-- M1 of the factory image: extend of 48 zero bytes with 48 zero bytes (R837). -/
def factoryM1 : Bytes :=
  [245, 123, 183, 237, 130, 198, 174, 74, 41, 230, 201, 135, 147, 56, 197, 146, 199, 212, 42, 57, 19, 85, 131, 232,
   204, 190, 57, 64, 242, 52, 75, 14, 182, 235, 133, 3, 219, 15, 253, 106, 57, 221, 208, 12, 208, 125, 131, 23]
/-- M2 of the factory image: extend of M1 with 48 zero bytes (R837). -/
def factoryM2 : Bytes :=
  [17, 20, 49, 33, 190, 179, 101, 230, 56, 38, 231, 222, 137, 249, 199, 106, 225, 16, 4, 17, 251, 150, 67, 209,
   152, 231, 48, 183, 96, 58, 131, 164, 151, 124, 118, 238, 230, 221, 247, 79, 160, 180, 63, 191, 73, 137, 121, 120]

def Boot.reset : Boot :=
  { imgs := [ImgSlot.factory, ImgSlot.empty], active := 0, trial := none, running := none, booted := 0, m0 := zeros 48,
    m1 := factoryM1, m2 := factoryM2, fuse := 0, owed := 0, update := none, staged := none,
    recA := BootRecord.factory, recB := BootRecord.factory, boant := false,
    boantReq := false, boantHdr := [], boantData := [], boantSlot := 0 }

/-- The device right after power-on: the release of the power-on reset has just ended (log entry 4). -/
def State.reset : State :=
  { now := 0, silicon := Silicon.part, cap := 0, clash := none, islands := List.replicate 12 IslandRec.reset,
    resets := Resets.reset, health := Health.reset, dict := Dict.reset, settings := Settings.reset, keys := Keyring.reset, flash := Flash.idle,
    boot := Boot.reset, comb := Comb.reset, track := Tracking.reset, dev := Developer.reset, base := Base.reset,
    rover := Rover.reset, conf := Conf.reset, stop := StopBath.reset, radio := Radio.reset, tb := Timebase.reset 0,
    outs := List.replicate 8 TimeOut.reset, caps := List.replicate 4 Capture.reset, net := Net.reset, can := Can.reset,
    fabric := Fabric.reset, dram := [],
    log := Logbook.reset [.event { code := 0x1301, sev := 3, island := 0, params := Cause.powerOn.bytes }],
    out := [], free := 0, pending := [] }

end Sys2Proof.Machine
end

