-- ==== Sys2Proof/Machine/Ops.lean ====
section
/-!
DEFINITION. The named operations every chapter uses: the variant in force, islands, settings, time, free values, what is sent,
event counters, and the offer of events to the Logbook.
-/

namespace Sys2Proof.Machine

/-! ### The variant in force (R17 to R41) -/

/-- Tier, service and package of a cap profile value (Table 1.3). -/
def capTier (v : Nat) : Nat := 256 * 2 ^ bits v 0 2
def capService (v : Nat) : Bool := bit v 2
def capPackageA (v : Nat) : Bool := !bit v 3

/-- Machine slots of the variant in force (R39). -/
def State.tier (s : State) : Nat := if bit s.cap 7 then capTier s.cap else s.silicon.tier
/-- Whether the variant in force is of service S. -/
def State.sService (s : State) : Bool := if bit s.cap 7 then capService s.cap else s.silicon.sService
/-- Whether the variant in force is of package A. -/
def State.packageA (s : State) : Bool := if bit s.cap 7 then capPackageA s.cap else s.silicon.packageA

/-- "DHX-1024S-A" and its kin. -/
def partName (tier : Nat) (sv pa : Bool) : Bytes :=
  ascii "DHX-" ++ ascii (toString tier) ++ ascii (if sv then "S" else "C") ++ ascii (if pa then "-A" else "-B")

def State.partNumber (s : State) : Bytes := partName s.tier s.sService s.packageA

/-- Installed LPDDR in MiB that the variant reaches: package B has one channel, of up to 4 GiB (R21). -/
def State.lpddr (s : State) : Nat := if s.packageA then s.silicon.lpddr else min s.silicon.lpddr 4096

/-! ### Islands (R48 to R83) -/

def State.isl (s : State) (i : Island) : IslandRec := s.islands.getD i.id IslandRec.reset
def State.setIsl (s : State) (i : Island) (f : IslandRec → IslandRec) : State := { s with islands := modNth s.islands i.id f }
/-- The island runs. -/
def State.up (s : State) (i : Island) : Bool := (s.isl i).st = .running
/-- The island is absent or failed: its gasket answers ABSENT (R57). -/
def State.gone (s : State) (i : Island) : Bool := (s.isl i).st = .failed || (s.isl i).st = .absent

/-- What a gasket answers while its island does not run (R57): outcome and abort code of Table 3.3. -/
def State.gasket (s : State) (i : Island) : Option (Nat × Nat) :=
  match (s.isl i).st with
  | .running => none
  | .restarting => some (0x40, 0x05000020)
  | .inReset => some (0x41, 0x05000021)
  | .failed | .absent => some (0x70, 0x05000030)

/-! ### Settings (R94 to R97, R851 to R857) -/

/-- The device records of R857, held in the boot records and not in the banks. -/
def isDeviceRecord (k : Nat) : Bool :=
  k = key 0x1010 1 || k = key 0x1011 0 || (0x1200 ≤ k / 256 && k / 256 ≤ 0x12FF)
    || (0x1313 ≤ k / 256 && k / 256 ≤ 0x1319 && k / 256 ≠ 0x1314 && k / 256 ≠ 0x1315) || k / 256 = 0x1335 || k / 256 = 0x1336

def Settings.bank (g : Settings) : Bank := if g.inUse = 0 then g.bank0 else g.bank1
def Settings.mapBank (g : Settings) (f : Bank → Bank) : Settings :=
  if g.inUse = 0 then { g with bank0 := f g.bank0 } else { g with bank1 := f g.bank1 }

/-- The stored value of an object: a device record, a value of the bank in use where it is persistent, or a volatile value; its default
otherwise. -/
def Settings.find? (g : Settings) (k : Nat) (pers : Bool) : Option Bytes :=
  if isDeviceRecord k then Tbl.get? g.records k else if pers then Tbl.get? g.bank.values k else Tbl.get? g.vol k

/-- Set or clear a key of a table that never lists a default. -/
def putCanon (t : Tbl Bytes) (k : Nat) (v dflt : Bytes) : Tbl Bytes := if v = dflt then Tbl.del t k else Tbl.put t k v

/-- Store a value (R95): into the device records, the bank in use, or the volatile values. -/
def Settings.store (g : Settings) (k : Nat) (pers : Bool) (v dflt : Bytes) : Settings :=
  if isDeviceRecord k then { g with records := putCanon g.records k v dflt }
  else if pers then g.mapBank fun b => b.write (putCanon b.values k v dflt) (entrySize v)
  else { g with vol := putCanon g.vol k v dflt }

/-- The declared object of the applet bundle that a key names (R792). A group's active values stand under the keys of its shadow
objects plus 2²⁴. -/
def State.bundleObj? (s : State) (k : Nat) : Option AppletObj :=
  if 0x600000 ≤ k % 2 ^ 24 && k % 2 ^ 24 < 0x700000 then
    match s.fabric.bundle with
    | some l => l.find? fun o => o.key = k % 2 ^ 24
    | none => none
  else none

/-- Size of a value of a fixed-size type (Table 3.2); that of OCTETS is its object's. -/
def fixedSize (ty max : Nat) : Option Nat :=
  match ty with
  | 1 | 2 | 6 => some 1
  | 3 | 7 => some 2
  | 4 | 8 | 10 | 14 => some 4
  | 5 | 9 | 11 | 12 => some 8
  | 13 => some 5
  | 15 => some max
  | _ => none

/-- What an applet's object reads until it is written: zeros of a fixed size, else nothing (DESIGN CHOICE, log entry 30). -/
def AppletObj.dflt (o : AppletObj) : Bytes :=
  match fixedSize o.type o.maxSize with
  | some n => zeros n
  | none => []

/-- The default, and the persistence, of the object at a key. -/
def State.dflt (s : State) (k : Nat) : Bytes :=
  match s.bundleObj? k with
  | some o => o.dflt
  | none => objDefault k
def keyPersistent (k : Nat) : Bool :=
  match findObj (k / 256) (k % 256) with
  | some r => r.pers
  | none => false
def State.persists (s : State) (k : Nat) : Bool :=
  match s.bundleObj? k with
  | some o => o.persistent
  | none => keyPersistent k

/-- The stored value of the object at a key. -/
def State.val (s : State) (k : Nat) : Bytes :=
  match s.settings.find? k (s.persists k) with
  | some v => v
  | none => s.dflt k

/-- The stored value of object idx.sub as an unsigned number, as a signed number of its width, and as bytes. -/
def State.cfg (s : State) (idx sub : Nat) : Nat := leNat (s.val (key idx sub))
def State.cfgI (s : State) (idx sub : Nat) : Int := let b := s.val (key idx sub); signed (8 * b.length) (leNat b)
def State.cfgB (s : State) (idx sub : Nat) : Bytes := s.val (key idx sub)

/-- Store a value under a key, as its object's persistence says. -/
def State.setVal (s : State) (k : Nat) (v : Bytes) : State :=
  { s with settings := s.settings.store k (s.persists k) v (s.dflt k) }

/-- The keys of a group's shadow objects with the keys of their active values: those of a commit object of the device, or of the
applet bundle. -/
def State.groupKeys (s : State) (commit : Nat) : List (Nat × Nat) :=
  if 0x6000 ≤ commit && commit < 0x7000 then
    match s.fabric.bundle with
    | some l => (l.filter fun o => o.grouped && o.commit = commit && o.access = 4).map fun o => (o.key, o.key + 2 ^ 24)
    | none => []
  else memberKeys commit

/-- The value in force since the last chip reset of an object that applies at the next one. -/
def State.inForce (s : State) (idx sub : Nat) : Nat :=
  leNat (match Tbl.get? s.settings.inForce (key idx sub) with
    | some v => v
    | none => objDefault (key idx sub))

/-- A field of the machine table (0x7000 + slot). -/
def State.mach (s : State) (slot sub : Nat) : Nat := s.cfg (0x7000 + slot) sub

/-- The controller ID in force since the last chip reset (Table 1.2). -/
def State.controllerId (s : State) : Nat := s.inForce 0x1005 0

/-- What an operation makes while the flash behaves as its command says. -/
def State.withFlash (s : State) (x : Flash) (body : State → State) : State := { body { s with flash := x } with flash := s.flash }

/-! ### Time (R176 to R182, R633 to R635, R663) -/

/-- 10¹²: the phase unit of the Timebase is 10⁻¹² ns. -/
def fineUnit : Int := 1000000000000

/-- TIME64 at instant `t` of the device's count, in 10⁻¹² ns. -/
def Timebase.fine (b : Timebase) (t : Nat) : Int := b.phase + ((t : Int) - b.anchor) * (fineUnit + b.rate)

/-- TIME64 at instant `t`. -/
def Timebase.time64 (b : Timebase) (t : Nat) : Int := (b.fine t).fdiv fineUnit

/-- TFRAC16 at instant `t` (R177). -/
def Timebase.frac16 (b : Timebase) (t : Nat) : Nat := ((b.fine t % fineUnit) * 65536 / fineUnit).toNat

/-- TIME64 now. -/
def State.time64 (s : State) : Int := s.tb.time64 s.now

/-- Whether time has been acquired (Table 13.2: the state is not FREERUN). -/
def State.timed (s : State) : Bool := s.tb.st ≠ .freerun

/-- The active comb epoch, and CTIME of a TIME64 (R180). -/
def State.combEpoch (s : State) : Int := s.cfgI 0x4006 0
def State.ctimeOf (s : State) (t : Int) : Int := (t - s.combEpoch).fdiv 1000000

/-- CtimeNow, where there is a CTIME (R182). -/
def State.ctime (s : State) : Option Nat :=
  if s.timed && s.combEpoch ≤ s.time64 then some (s.ctimeOf s.time64).toNat else none

/-! ### Quality and bound of time (R646, R647) -/

/-- Terms δf (10⁻¹¹) and A (10⁻¹⁵ per s) of Table 13.4 for the reference in use. -/
def State.holdTerms (s : State) : Nat × Nat :=
  if s.tb.refin then (s.cfg 0x2016 0, s.cfg 0x2017 0) else (2000, 50000)

/-- Growth of E from `a` to `b` ns after holdover entry, in 5·10⁻²⁵ ns: the integral of (δf + A·s) ds. -/
def holdGrowth (tm : Nat × Nat) (a b : Nat) : Nat := 20000000000000 * tm.1 * (b - a) + tm.2 * (b * b - a * a)

/-- Error bound b of a source (Table 13.1). -/
def TimeSrc.b (x : TimeSrc) (code : Nat) : Nat :=
  match code with
  | 1 => 25 | 2 => max 25 x.bound | 3 => 250 | 4 => 60 | _ => 0

def Timebase.src (b : Timebase) (code : Nat) : TimeSrc := b.srcs.getD (code - 1) TimeSrc.none

/-- Offset still to remove in SLEWING at instant t, ns rounded away from zero. -/
def State.slewRemain (s : State) (t : Nat) : Int :=
  let done : Int := ((s.cfg 0x2013 0 * (t - s.tb.anchor) / sec : Nat) : Int)
  if s.tb.remain ≥ 0 then max 0 (s.tb.remain - done) else min 0 (s.tb.remain + done)

/-- The first qualified source marked disagree, in priority order (R645). -/
def State.firstDisagree (s : State) : Option Nat :=
  ((s.cfgB 0x2010 0).map BitVec.toNat).find? fun c =>
    1 ≤ c && c ≤ 4 && (s.tb.src c).qualified && (s.tb.src c).disagree

/-- TimeJumpPending (R645). -/
def State.jumpPending (s : State) : Int :=
  if s.tb.st = .holdJump then
    match s.firstDisagree with
    | some c => (s.tb.src c).last
    | none => 0
  else 0

/-- E of R646 in ns, saturating; no bound in FREERUN. -/
def State.errorBound (s : State) : Nat :=
  let b := s.tb
  let e := match b.st with
    | .freerun => 0xFFFFFFFF
    | .locked => (b.src b.source).b b.source + (b.src b.source).last.natAbs
    | .slewing => (b.src b.source).b b.source + (s.slewRemain s.now).natAbs
    | .holdover | .holdJump =>
      let g := b.eAcc + holdGrowth s.holdTerms (b.segAt - b.holdAt) (s.now - b.holdAt)
      let e := b.e0 + ceilDiv g 2000000000000000000000000
      if b.st = .holdJump then max e s.jumpPending.natAbs else e
  min e 0xFFFFFFFF

/-- The bounds of Table 13.5 from quality 15 down to 2. -/
def qualityBounds : List (Nat × Nat) :=
  [(15, 25), (14, 50), (13, 100), (12, 250), (11, 1000), (10, 2500), (9, 10000), (8, 25000), (7, 100000), (6, 250000),
   (5, 1000000), (4, 10000000), (3, 100000000), (2, 1000000000)]

/-- TimeQuality (R647). -/
def State.quality (s : State) : Nat :=
  if s.tb.st = .freerun then 0
  else match qualityBounds.find? fun p => s.errorBound ≤ p.2 with
    | some p => p.1
    | none => 1

/-! ### Free values and what is sent -/

/-- A fresh free number. -/
def State.draw (s : State) : State × Nat := ({ s with free := s.free + 1 }, Config.rand s.free)
/-- A fresh free byte string of n bytes. -/
def State.drawBytes (s : State) (n : Nat) : State × Bytes := ({ s with free := s.free + 1 }, fit n (Config.randBytes s.free))
/-- Record what the device sends. -/
def State.emit (s : State) (o : Out) : State := { s with out := o :: s.out }

/-! ### Event counters (R899, R900) -/

/-- Whether a counter whose CounterSelect is `sel` counts an occurrence of (source, param). -/
def selectHits (sel source param : Nat) : Bool :=
  bit sel 31 && bits sel 16 8 = source &&
    (bits sel 0 16 = param || (bits sel 0 16 = 0xFF && (source = 0x0C || source = 0x0D)))

/-- One counter after n occurrences: saturating or wrapping at 48 bits. -/
def countBy (sel v n : Nat) : Nat := if bit sel 30 then min (v + n) (2 ^ 48 - 1) else (v + n) % 2 ^ 48

/-- The counters after n occurrences of (source, param); a counter whose CounterSelect is not stored counts nothing. -/
def State.counted (s : State) (source param n : Nat) : List Nat :=
  if s.settings.bank.values.any fun e => e.1 / 256 = 0x1330 then
    s.health.counters.mapIdx fun i v =>
      let sel := s.cfg 0x1330 (i + 1)
      if selectHits sel source param then countBy sel v n else v
  else s.health.counters

/-- Count n occurrences of (source, param) in every counter that selects it. -/
def State.count (s : State) (source param n : Nat) : State :=
  if s.up .aon then { s with health := { s.health with counters := s.counted source param n } } else s

/-! ### Offers to the Logbook (R907 to R914, R919) -/

/-- Losses are added to the pending EV_LOG_LOST of their place (R912). -/
def addLoss (l : List Lost) (wher sev : Nat) : List Lost :=
  match l with
  | [] => [{ wher := wher, count := 1, sev := sev }]
  | x :: t => if x.wher = wher then { x with count := x.count + 1, sev := max x.sev sev } :: t else x :: addLoss t wher sev

/-- Stage the synthetic EV_LOG_LOST of every place with losses, as far as entries are free (R912). -/
def stageLosses (staging : List Staged) : List Lost → List Staged
  | [] => staging
  | x :: t =>
    stageLosses (if staging.length < 64 && !(staging.contains (.lost x.wher)) then staging ++ [.lost x.wher] else staging) t

def Logbook.lose (l : Logbook) (wher sev : Nat) : Logbook :=
  { l with losses := addLoss l.losses wher sev, lostAll := l.lostAll + (if wher = 2 then 0 else 1) }

/-- A record closes: of severity error or critical, it joins the mirror queue, or is left unmirrored when that is full (R918,
R919). -/
def Logbook.close (l : Logbook) : Logbook :=
  match l.openRec with
  | none => l
  | some (slot, _) =>
    let l := { l with openRec := none }
    match Tbl.get? l.slots slot with
    | none => l
    | some r =>
      if r.ev.sev < 3 then l
      else if l.mirrorQ.length < 256 then { l with mirrorQ := l.mirrorQ ++ [r] }
      else
        let l := l.lose 1 r.ev.sev
        { l with staging := stageLosses l.staging l.losses }

/-- The open record closes once 1 s has passed since it was written (R909). -/
def Logbook.expire (l : Logbook) (now : Nat) : Logbook :=
  match l.openRec with
  | some (_, at_) => if at_ + sec ≤ now then l.close else l
  | none => l

/-- Whether an event folds into a record: all four of code, severity, island and params are equal; time marks never fold
(R910, R921). -/
def folds (r : LogRec) (e : LogEv) : Bool := r.ev = e && e.code ≠ 0x1402

/-- Fold an event into the open record, where it folds. -/
def Logbook.fold? (l : Logbook) (e : LogEv) : Option Logbook :=
  match l.openRec with
  | none => none
  | some (slot, _) =>
    match Tbl.get? l.slots slot with
    | none => none
    | some r =>
      if folds r e then
        let r' := { r with rep := min (r.rep + 1) 0xFFFFFFFF, satur := r.satur || r.rep + 1 ≥ 0xFFFFFFFF }
        some { l with slots := Tbl.put l.slots slot r' }
      else none

/-- Offer an event to the writer (R910 to R912). -/
def Logbook.offer (l : Logbook) (now : Nat) (e : LogEv) : Logbook :=
  let l := l.expire now
  match l.fold? e with
  | some l' => l'
  | none =>
    if l.staging.length < 64 then { l with staging := l.staging ++ [.event e] }
    else l.lose 0 e.sev

/-- An event is offered (R907, R912, R913): not recorded below LogMinSeverity; counted at the gasket while the Always-on island
does not run. -/
def State.offer (s : State) (e : LogEv) : State :=
  if e.sev < s.cfg 0x1408 0 then s
  else if s.up .aon then { s with log := s.log.offer s.now e }
  else { s with log := s.log.lose 2 e.sev }

/-- The device logs an event of Table 20.4. -/
def State.logEv (s : State) (ev : Ev) (params : Bytes) : State :=
  s.offer { code := ev.row.1, sev := ev.row.2.1, island := ev.row.2.2, params := params }

/-- Params of a time mark: TIME64, TimeState, TimeQuality (R921). -/
def State.timeMark (s : State) : State :=
  s.logEv .timeMark (leInt 8 s.time64 ++ [byte s.tb.st.code, byte s.quality])

/-! ### Stop of scope all (R521, R528) -/

/-- A stop of scope all is latched, in either channel. -/
def State.stoppedAll (s : State) : Bool := s.stop.a.all ||| s.stop.b.all ≠ 0

end Sys2Proof.Machine
end

