-- ==== Sys2Proof/Machine/Queues.lean ====
section
/-!
DEFINITION. Operations of the Dispatcher and the queues on the state: decrement, ready order, completion, discard, packets and
their triggers, engine posts (16_dispatcher_queues_applets.md R756 to R784).
-/

namespace Sys2Proof.Machine

/-! ### Descriptors -/

/-- Whether a descriptor belongs to the applet partition (R757). -/
def Fabric.isApplet (f : Fabric) (d : Nat) : Bool := f.appBase ≤ d && d < f.appBase + f.appCount

/-- A descriptor; one that was never written is FREE. -/
def Fabric.desc (f : Fabric) (d : Nat) : Desc := Tbl.getD f.brood d (Desc.free (f.isApplet d))

def Fabric.setDesc (f : Fabric) (d : Nat) (x : Desc) : Fabric := { f with brood := Tbl.put f.brood d x }

/-- A descriptor enters WAITING, or READY when its count is 0, at the end of the READY order (R758, R762). -/
def Fabric.enter (f : Fabric) (d : Nat) (x : Desc) : Fabric :=
  if x.count = 0 then { f.setDesc d { x with st := .ready, order := f.readyNext } with readyNext := f.readyNext + 1 }
  else f.setDesc d { x with st := .waiting }

/-- The effect of one decrement on the table (R759), and whether EV_BROOD_PENDING_FULL is due. -/
def Fabric.decr (f : Fabric) (d : Nat) : Fabric × Bool :=
  let x := f.desc d
  match x.st with
  | .waiting => (f.enter d { x with count := x.count - 1 }, false)
  | .ready | .running =>
    if x.pending < 255 then (f.setDesc d { x with pending := x.pending + 1 }, false)
    else (f.setDesc d { x with fullLogged := true }, !x.fullLogged)
  | .free | .done | .discarded => ({ f with stray := wrap 32 (f.stray + 1) }, false)

/-- A decrement of descriptor `d` (R759, R760). -/
def State.decr (s : State) (d : Nat) : State :=
  let r := s.fabric.decr d
  let s := { s with fabric := r.1 }
  if r.2 then s.logEv .broodPendingFull (leBytes 2 d) else s

/-- Completion of descriptor `d` with an outcome (R761). -/
def State.completeTask (s : State) (d outcome : Nat) : State :=
  let x := { s.fabric.desc d with outcome := outcome }
  let s := { s with fabric := s.fabric.setDesc d x }
  let s := if x.hasSucc then s.decr x.succ else s
  let x := s.fabric.desc d
  if x.rearm then
    { s with fabric := s.fabric.enter d { x with count := x.reload - x.pending, pending := 0, fullLogged := false } }
  else { s with fabric := s.fabric.setDesc d { x with st := .done } }

def Fabric.hart (f : Fabric) (h : Nat) : Hart := f.harts.getD h Hart.reset
def Fabric.setHart (f : Fabric) (h : Nat) (g : Hart → Hart) : Fabric := { f with harts := modNth f.harts h g }

/-- Harts 8 to 15 form the applet partition. -/
def hartApplet (h : Nat) : Bool := 8 ≤ h

/-! ### Queues and packets -/

def Fabric.queue (f : Fabric) (q : Nat) : Queue := Tbl.getD f.queues q Queue.reset
def Fabric.setQueue (f : Fabric) (q : Nat) (x : Queue) : Fabric := { f with queues := Tbl.put f.queues q x }

/-- Fields of QueueConfig (Table 16.6). -/
def State.queueCfg (s : State) (q : Nat) : Nat := s.cfg (0x5100 + q / 256) (q % 256)
def qReaderApplet (c : Nat) : Bool := bit c 63
def qAppletWrite (c : Nat) : Bool := bit c 62
def qTrigger (c : Nat) : Option Nat := if bit c 61 then some (bits c 24 16) else none
def qLimit (c : Nat) : Nat := bits c 40 16

/-- Blocks of a packet with n data words (R773). -/
def pktBlocks (n : Nat) : Nat := (1 + n + 15) / 16
def Pkt.blocks (p : Pkt) : Nat := pktBlocks p.words.length
def Queue.blocks (q : Queue) : Nat := (q.pkts.map Pkt.blocks).sum
/-- Blocks free in the pool (Table 16.12). -/
def Fabric.poolFree (f : Fabric) : Nat := 65536 - f.lost - (f.queues.map fun e => e.2.blocks).sum

def PktPhase.isOpen : PktPhase → Bool
  | .opened _ _ => true | _ => false
def PktPhase.byHart (h : Nat) : PktPhase → Bool
  | .opened h' _ => h' = h | _ => false
def PktPhase.heldBy (h : Nat) : PktPhase → Bool
  | .held h' _ => h' = h | .unfreed h' => h' = h | _ => false

/-- The packets before the first open one: those of them that are closed are poppable (R775). -/
def poppables (l : List Pkt) : List Pkt := (l.takeWhile fun p => !p.phase.isOpen).filter fun p => p.phase = .closed

/-- Decrement `d` `n` times. -/
def State.decrN (s : State) (d : Nat) : Nat → State
  | 0 => s
  | n + 1 => (s.decr d).decrN d n

/-- Replace a queue's packets; each packet that thereby becomes poppable decrements the trigger once (R775, R782). -/
def State.setPkts (s : State) (q : Nat) (pkts : List Pkt) : State :=
  let old := s.fabric.queue q
  let was := (poppables old.pkts).map Pkt.id
  let fresh := (poppables pkts).filter fun p => !was.contains p.id
  let s := { s with fabric := s.fabric.setQueue q { old with pkts := pkts } }
  match qTrigger (s.queueCfg q) with
  | some d => s.decrN d fresh.length
  | none => s

/-- Whether a packet of `n` words finds its blocks in the pool and under the queue's limit (R776, R777, R783). -/
def State.hasBlocks (s : State) (q n : Nat) : Bool :=
  n ≤ s.fabric.poolFree && (s.fabric.queue q).blocks + n ≤ qLimit (s.queueCfg q)

/-- Words of a byte string, 4 bytes each, the last padded with zeros. -/
def toWords : Nat → Bytes → List Nat
  | 0, _ => []
  | k + 1, b => if b = [] then [] else leNat (b.take 4) :: toWords k (b.drop 4)

/-- An engine posts a packet with tag 0 (R773, R783), where the Fabric runs and the queue has room. -/
def State.post? (s : State) (q : Nat) (data : Bytes) : Option State :=
  let words := toWords (data.length / 4 + 1) data
  if s.up .fabric && s.hasBlocks q (pktBlocks words.length) && (s.fabric.queue q).pkts.countP (·.phase.isOpen) < 8 then
    let p : Pkt := { id := s.fabric.pktNext, tag := 0, words := words, phase := .closed }
    let s := { s with fabric := { s.fabric with pktNext := s.fabric.pktNext + 1 } }
    some ((s.setPkts q ((s.fabric.queue q).pkts ++ [p])).count 0x0B q 1)
  else none

/-- Post, or leave the record unposted where the queue refuses it. -/
def State.post (s : State) (q : Nat) (data : Bytes) : State := (s.post? q data).getD s

/-- Packets of a queue with the packet of id `i` changed. -/
def mapPkt (l : List Pkt) (i : Nat) (f : Pkt → Pkt) : List Pkt := l.map fun p => if p.id = i then f p else p

/-- A task completes: every packet its hart finished or dropped is freed (R781). -/
def Fabric.freeOf (f : Fabric) (h : Nat) : Fabric :=
  { f with queues := f.queues.map fun e => (e.1, { e.2 with pkts := e.2.pkts.filter fun p => p.phase ≠ .unfreed h }) }

/-- A task is discarded: every packet its hart held or finished returns to the front of its queue (R781). -/
def Fabric.returnOf (f : Fabric) (h : Nat) : Fabric :=
  { f with queues := f.queues.map fun e =>
      (e.1, { e.2 with pkts := e.2.pkts.map fun p => if p.phase.heldBy h then { p with phase := .closed } else p }) }

/-- Complete the current task of a hart, where it has one (R764, R768). -/
def State.completeHart (s : State) (h outcome : Nat) : State :=
  match (s.fabric.hart h).task with
  | none => s
  | some d =>
    let s := s.completeTask d outcome
    { s with fabric := (s.fabric.freeOf h).setHart h fun x => { x with task := none } }

/-- A running task is discarded with an outcome (R770): it keeps its pending count, its successor is not decremented, its hart's
packets return, and a notice goes to its partition's discard queue. -/
def State.discardHart (s : State) (h outcome : Nat) : State :=
  match (s.fabric.hart h).task with
  | none => s
  | some d =>
    let x := { s.fabric.desc d with st := .discarded, outcome := outcome }
    let f := ((s.fabric.setDesc d x).returnOf h).setHart h fun y => { y with task := none }
    let s := { s with fabric := f }
    s.post (s.cfg 0x5012 (if x.applet then 2 else 1)) (leBytes 2 d ++ [byte outcome, 0])

/-- Every running task is discarded (R770). -/
def State.discardAll (s : State) (outcome : Nat) : State := (List.range 16).foldl (fun s h => s.discardHart h outcome) s

/-- Open packets are abandoned (R784), and blocked FETCHes return with wake 2 (R765, R772). -/
def State.abandonOpen (s : State) : State :=
  let f := s.fabric
  let qs := f.queues.map fun e => (e.1, { e.2 with pkts := e.2.pkts.filter fun p => !p.phase.isOpen })
  { s with fabric := { f with queues := qs } }

def fetchNv (wake : Nat) : Nat := 2 ^ 63 + wake * 2 ^ 56

/-- Blocked FETCHes of every hart return nv with a wake code. -/
def State.wakeAll (s : State) (wake : Nat) : State :=
  (List.range 16).foldl (fun s h =>
    if (s.fabric.hart h).fetch.isSome then
      { s with fabric := s.fabric.setHart h fun x => { x with fetch := none } }.emit (.hart h (fetchNv wake))
    else s) s

/-! ### Descriptor words (Table 16.1) -/

/-- The 128 bits of a descriptor. -/
def Desc.word (x : Desc) : Nat :=
  x.arg * 2 ^ 96 + x.entry * 2 ^ 80 + x.count * 2 ^ 64 + x.reload * 2 ^ 48 + x.succ * 2 ^ 32 + x.prio * 2 ^ 26
    + b2n x.applet * 2 ^ 25 + b2n x.rearm * 2 ^ 24 + x.st.code * 2 ^ 21 + b2n x.hasSucc * 2 ^ 20 + x.outcome * 2 ^ 8 + x.pending

/-- The descriptor a SUBMIT writes. -/
def Desc.ofWord (v : Nat) : Desc :=
  { arg := bits v 96 32, entry := bits v 80 16, count := bits v 64 16, reload := bits v 48 16, succ := bits v 32 16,
    prio := bits v 26 6, applet := bit v 25, rearm := bit v 24, st := .free, hasSucc := bit v 20, outcome := 0, pending := 0,
    order := 0, fullLogged := false }

/-- REFUSED_TASK_FORMAT of a SUBMIT (R769). -/
def Fabric.badFormat (f : Fabric) (applet : Bool) (idx v : Nat) : Bool :=
  65536 ≤ idx || f.isApplet idx ≠ applet || bit v 25 ≠ f.isApplet idx
    || (bit v 20 && f.isApplet (bits v 32 16) ≠ applet) || (!bit v 20 && bits v 32 16 ≠ 0)
    || bits v 16 4 ≠ 0 || bits v 21 3 ≠ 0 || bits v 0 16 ≠ 0 || (bit v 24 && bits v 48 16 = 0)

/-- Outcome a window access meets while the Fabric does not run: 0x40, 0x41 or 0x70. -/
def State.fabricOut (s : State) : Option Nat := (s.gasket .fabric).map Prod.fst

/-- Outcome of SUBMIT (R769), and the table after it. -/
def Fabric.submit (f : Fabric) (applet : Bool) (idx v : Nat) : Fabric × Nat :=
  if f.badFormat applet idx v then (f, 0x3F)
  else match (f.desc idx).st with
    | .waiting | .ready | .running => (f, 0x3E)
    | .free | .done | .discarded => (f.enter idx (Desc.ofWord v), 0)

/-- Outcome of REISSUE (R769), and the table after it. -/
def Fabric.reissue (f : Fabric) (applet : Bool) (idx : Nat) : Fabric × Nat :=
  if 65536 ≤ idx || f.isApplet idx ≠ applet then (f, 0x3F)
  else if (f.desc idx).st = .discarded then (f.enter idx { f.desc idx with count := 0 }, 0)
  else (f, 0x3E)

/-- The READY task of a partition that is granted next: lowest level, then first in READY order (R762). -/
def nextReady (applet : Bool) : Tbl Desc → Option (Nat × Desc)
  | [] => none
  | (d, x) :: t =>
    let best := nextReady applet t
    if x.st = .ready && x.applet = applet then
      match best with
      | some (_, y) => if x.prio < y.prio || (x.prio = y.prio && x.order < y.order) then some (d, x) else best
      | none => some (d, x)
    else best

/-- The hart of a partition whose FETCH began first (R766). -/
def Fabric.firstFetch (f : Fabric) (applet : Bool) : Option Nat :=
  (((List.range 16).filter fun h => hartApplet h = applet && (f.hart h).fetch.isSome).foldl
    (fun (best : Option (Nat × Nat)) h =>
      let o := match (f.hart h).fetch with
        | some p => p.2
        | none => 0
      match best with
      | some b => if o < b.2 then some (h, o) else best
      | none => some (h, o)) none).map Prod.fst

/-- Fetch word of a granted task (Table 16.3). -/
def fetchWord (d : Nat) (x : Desc) : Nat := x.prio * 2 ^ 32 + x.entry * 2 ^ 16 + d

/-! ### Pops (R778 to R781) -/

def popNv (outcome : Nat) : Nat := 2 ^ 63 + outcome * 2 ^ 56
def popWord (last head : Bool) (remaining element : Nat) : Nat :=
  b2n last * 2 ^ 49 + b2n head * 2 ^ 48 + remaining * 2 ^ 32 + element

/-- The length word of a packet (R773). -/
def Pkt.lengthWord (p : Pkt) : Nat := p.tag * 65536 + p.words.length

/-- Packets a hart's task holds or has finished. -/
def Fabric.holds (f : Fabric) (h : Nat) : Nat := (f.queues.map fun e => e.2.pkts.countP (·.phase.heldBy h)).sum

/-- What a POP by hart h of queue q returns, and the packet it changes: its id and next phase (none: it is freed). -/
def State.popOf (s : State) (h q : Nat) : Nat × Option (Nat × Option PktPhase) :=
  let f := s.fabric
  let done : Option PktPhase := if (f.hart h).task.isSome then some (.unfreed h) else none
  match s.fabricOut with
  | some o => (popNv o, none)
  | none =>
    if qReaderApplet (s.queueCfg q) ≠ hartApplet h then (popNv 0x3C, none)
    else
      match (f.queue q).pkts.find? fun p => match p.phase with
          | .held _ _ => true
          | _ => false with
      | some p =>
        (match p.phase with
        | .held h' k =>
          if h' ≠ h then (popNv 0x13, none)
          else
            let left := p.words.length - k - 1
            (popWord (left = 0) false left (nth p.words k), some (p.id, if left = 0 then done else some (.held h (k + 1))))
        | _ => (popNv 0, none))
      | none =>
        match (poppables (f.queue q).pkts).head? with
        | none => (popNv 0, none)
        | some p =>
          if (f.hart h).task.isSome && 16 ≤ f.holds h then (popNv 0x50, none)
          else
            let n := p.words.length
            (popWord (n = 0) true n p.lengthWord, some (p.id, if n = 0 then done else some (.held h 0)))

/-- Change or free a packet of a queue. -/
def Fabric.setPhase (f : Fabric) (q i : Nat) (ph : Option PktPhase) : Fabric :=
  let x := f.queue q
  let l := match ph with
    | some p => mapPkt x.pkts i fun y => { y with phase := p }
    | none => x.pkts.filter fun y => y.id ≠ i
  f.setQueue q { x with pkts := l }

/-- The packet a hart has open on a queue. -/
def Fabric.openOf (f : Fabric) (h q : Nat) : Option Pkt := (f.queue q).pkts.find? fun p => p.phase.byHart h

/-- Whether a hart's partition may write a queue (R776, R783). -/
def State.mayWrite (s : State) (h q : Nat) : Bool := !hartApplet h || qAppletWrite (s.queueCfg q)

end Sys2Proof.Machine
end

