-- ==== Sys2Proof/Machine/Reply.lean ====
section
/-!
DEFINITION. How an access is answered, whichever path it came by: response records of Coil and of the applet partition, SDO
aborts of USDO, and the datagrams that carry them (03_object_dictionary.md R113, R114, R132, R143, R150; R790).
-/

namespace Sys2Proof.Machine

/-! ### Answers -/

/-- Codes R61 reserves. -/
def reservedOutcome (v : Nat) : Bool :=
  (2 ≤ v && v < 0x10) || (0x42 ≤ v && v < 0x50) || (0x51 ≤ v && v < 0x60) || (0x61 ≤ v && v < 0x70) || 0x72 ≤ v

/-- DONE with data. -/
def Ans.done (d : Bytes) : Ans := { outcome := 0, abort := 0, data := d, total := 0 }
/-- DONE_NOTE (Table 2.5). -/
def Ans.note : Ans := { outcome := 1, abort := 0, data := [], total := 0 }
/-- A refusal. -/
def Ans.no (outcome abort : Nat) : Ans := { outcome := outcome, abort := abort, data := [], total := 0 }
/-- A block-specific refusal of outcome REFUSED_VALUE, and one of outcome REFUSED_STATE. -/
def Ans.bad (abort : Nat) : Ans := Ans.no 0x11 abort
def Ans.state (abort : Nat) : Ans := Ans.no 0x12 abort

def Ans.noObject : Ans := Ans.no 0x10 0x05000001
def Ans.noSub : Ans := Ans.no 0x10 0x05000002
def Ans.notWritable : Ans := Ans.no 0x10 0x05000003
def Ans.notReadable : Ans := Ans.no 0x10 0x05000004
def Ans.privilege : Ans := Ans.no 0x10 0x05000005
def Ans.length : Ans := Ans.no 0x11 0x05000006
def Ans.tooLarge : Ans := Ans.no 0x11 0x05000007
def Ans.invalid : Ans := Ans.no 0x11 0x05000008
def Ans.high : Ans := Ans.no 0x11 0x05000009
def Ans.low : Ans := Ans.no 0x11 0x0500000A
def Ans.stageHeld : Ans := Ans.no 0x12 0x0500000B
def Ans.stageInvalid : Ans := Ans.no 0x11 0x0500000C
def Ans.lifecycle : Ans := Ans.no 0x12 0x0500000D
def Ans.readOnly : Ans := Ans.no 0x12 0x0500000E
def Ans.order : Ans := Ans.no 0x11 0x0500000F
def Ans.portOnly : Ans := Ans.no 0x10 0x05000010
def Ans.sessionLimit : Ans := Ans.no 0x50 0x05000011
def Ans.fault : Ans := Ans.no 0x40 0x05000020
def Ans.reset : Ans := Ans.no 0x41 0x05000021
def Ans.absent : Ans := Ans.no 0x70 0x05000030
def Ans.keyInvalid : Ans := Ans.no 0x71 0x05000031

/-- The abort code of Table 3.3 of an outcome that has one alone. -/
def abortOf (outcome : Nat) : Option Nat :=
  match outcome with
  | 0x40 => some 0x05000020
  | 0x41 => some 0x05000021
  | 0x70 => some 0x05000030
  | 0x71 => some 0x05000031
  | _ => none

/-- Whether an answer is DONE or DONE_NOTE. -/
def Ans.ok (a : Ans) : Bool := a.outcome ≤ 1

/-- The SDO abort codes of Table 3.3. -/
def sdoTable : List (Nat × Nat) :=
  [(0x05000001, 0x06020000), (0x05000002, 0x06090011), (0x05000003, 0x06010002), (0x05000004, 0x06010001),
   (0x05000005, 0x06010000), (0x05000006, 0x06070010), (0x05000007, 0x06070012), (0x05000008, 0x06090030),
   (0x05000009, 0x06090031), (0x0500000A, 0x06090032), (0x0500000B, 0x08000022), (0x0500000C, 0x08000000),
   (0x0500000D, 0x08000022), (0x0500000E, 0x06060000), (0x05000010, 0x06010000), (0x05000011, 0x05040005),
   (0x05000020, 0x08000021), (0x05000021, 0x08000021), (0x05000030, 0x06020000), (0x05000031, 0x08000020),
   (0x05110020, 0x06010000)]

/-- The SDO abort code of an answer (R114, R150): zero for DONE; a block-specific code carries 0x0800_0000, or 0x0800_0022 where
its outcome is REFUSED_STATE, as the chapters' tables give; an applet's own codes have no table, so they carry 0x0800_0000. -/
def Ans.sdo (a : Ans) : Nat :=
  if a.ok then 0
  else match Tbl.get? sdoTable a.abort with
    | some x => x
    | none => if a.outcome = 0x12 && a.abort / 2 ^ 16 ≠ 0x0560 then 0x08000022 else 0x08000000

/-! ### Sessions -/

def State.setSession (s : State) (i : Nat) (f : Session → Session) : State :=
  { s with dict := { s.dict with sessions := Tbl.upd s.dict.sessions i f } }
def State.setApplet (s : State) (f : Session → Session) : State :=
  { s with dict := { s.dict with applet := f s.dict.applet } }
/-- The session of a caller that has one. -/
def State.sessionOf (s : State) : Caller → Option Session
  | .coil i _ => Tbl.get? s.dict.sessions i
  | .applet _ _ => some s.dict.applet
  | .usdo _ _ => none
  | .firmware => none
def State.onSession (s : State) (c : Caller) (f : Session → Session) : State :=
  match c with
  | .coil i _ => s.setSession i f
  | .applet _ _ => s.setApplet f
  | .usdo _ _ => s
  | .firmware => s

def Caller.req : Caller → Nat
  | .coil _ r => r
  | .applet _ r => r
  | .usdo _ _ => 0
  | .firmware => 0

/-- An operation in flight gets its response: it leaves its slot, and its record goes into the outbox (R132, R143). -/
def Session.respond (x : Session) (req : Nat) (a : Ans) : Session :=
  match x.flight.find? fun f => f.req = req with
  | none => x
  | some f => { x with flight := x.flight.filter (fun g => g.req ≠ req), outbox := x.outbox ++ [.resp f a true] }

/-- A response without an operation slot: a malformed record's, or a refusal at check 1 (R950, R112). It is not kept under R143
(DESIGN CHOICE, log entry 15). -/
def Session.reject (x : Session) (f : InFlight) (a : Ans) : Session := { x with outbox := x.outbox ++ [.resp f a false] }

/-- Answer the access of a caller. -/
def State.answer (s : State) (c : Caller) (a : Ans) : State :=
  match c with
  | .coil i r => s.setSession i fun x => x.respond r a
  | .applet _ r => s.setApplet fun x => x.respond r a
  | .usdo p n => if s.up .network then s.emit (.usdo p n a.sdo (if a.ok then a.data else [])) else s
  | .firmware => s

/-- Answer where there is an answer yet. -/
def State.answer? (r : State × Option Ans) (c : Caller) : State :=
  match r.2 with
  | some a => r.1.answer c a
  | none => r.1

/-! ### Records and datagrams -/

/-- How often an object has become readable or unreadable. -/
def State.turnsOf (s : State) (k : Nat) : Nat :=
  match Tbl.get? s.dict.gens k with
  | some g => g.turns
  | none => 0

/-- The generation of an object as counted so far. -/
def State.genOf (s : State) (k : Nat) : Nat :=
  match Tbl.get? s.dict.gens k with
  | some g => g.gen
  | none => 0

/-- A response or NOTIFY record (Table 3.6) with its data, padded (R132). -/
def respRecord (f : InFlight) (a : Ans) (gen : Nat) : Bytes :=
  [byte (f.opcode ||| 0x80), byte a.outcome] ++ leBytes 2 f.req ++ leBytes 2 (f.key / 256) ++ [byte f.key, 0]
    ++ leBytes 4 a.abort ++ leBytes 4 a.total ++ leBytes 2 a.data.length ++ leBytes 2 gen ++ pad4 a.data

/-- Greatest plaintext of a datagram: 1,400 bytes less header and tag (R116, R125). -/
def plainMax : Nat := 1368

/-- Records packed in order into plaintexts. -/
def packRecords : List Bytes → Bytes → List Bytes
  | [], acc => if acc = [] then [] else [acc]
  | r :: t, acc =>
    if acc = [] then packRecords t r
    else if acc.length + r.length ≤ plainMax then packRecords t (acc ++ r)
    else acc :: packRecords t r

/-- The record that leaves, and the response kept of it. -/
def OutRec.build (gen : Nat → Nat) : OutRec → Bytes
  | .resp f a _ => respRecord f a (gen f.key)
  | .built _ _ b => b
  | .again _ b => b

/-- Fill in the generations of the records made so far. -/
def OutRec.fill (gen : Nat → Nat) : OutRec → OutRec
  | .resp f a keep => .built f keep (respRecord f a (gen f.key))
  | .built f keep b => .built f keep b
  | .again r b => .again r b

/-- The response kept of a record (R143). -/
def OutRec.kept (gen : Nat → Nat) : OutRec → Option Kept
  | .resp f a true => some { req := f.req, opcode := f.opcode, key := f.key, offset := f.offset, resp := respRecord f a (gen f.key) }
  | .built f true b => some { req := f.req, opcode := f.opcode, key := f.key, offset := f.offset, resp := b }
  | .resp _ _ false => none
  | .built _ false _ => none
  | .again _ _ => none

/-- The request a record answers. -/
def OutRec.req : OutRec → Nat
  | .resp f _ _ => f.req
  | .built f _ _ => f.req
  | .again r _ => r

/-- The 64 most recent kept responses (R143). -/
def keepLast (l : List Kept) : List Kept := l.drop (l.length - 64)

/-- The session after its outbox has left. -/
def Session.flushed (x : Session) (gen : Nat → Nat) (n : Nat) : Session :=
  let kept := x.outbox.filterMap (OutRec.kept gen)
  { x with outbox := [], kept := keepLast (x.kept ++ kept), txSeq := x.txSeq + n }

/-- The outer header of a DATA (3) or CLOSE (4) datagram (Table 3.4). -/
def outerHeader (type sid seq : Nat) : Bytes := [1, byte type, 0, 0] ++ leBytes 4 sid ++ leBytes 8 seq

/-- The nonce of a datagram: the direction's IV base with seq XORed into bytes 4 to 11 (R125). -/
def coilNonce (iv : Bytes) (seq : Nat) : Bytes := iv.take 4 ++ xorBytes (iv.drop 4) (leBytes 8 seq)

/-- A datagram sealed for a session's far end (R125). -/
def Session.datagram (x : Session) (type seq : Nat) (plain : Bytes) : Bytes :=
  let h := outerHeader type x.sid seq
  h ++ gcmSeal x.keyOut (coilNonce x.ivOut seq) h plain

/-- Send what a session's outbox holds (R116, R126). While the Network island passes no signal (R54), it stays. -/
def State.flushSession (s : State) (i : Nat) : State :=
  match (if s.up .network then Tbl.get? s.dict.sessions i else none) with
  | none => s
  | some x =>
    let plains := packRecords (x.outbox.map (OutRec.build s.genOf)) []
    let outs := plains.mapIdx fun k p => Out.data i (x.txSeq + 1 + k) p (x.datagram 3 (x.txSeq + 1 + k) p)
    let s := s.setSession i fun y => y.flushed s.genOf plains.length
    { s with out := outs.reverse ++ s.out }

/-- The applet partition's records become replies, each for the hart and queue of its request (R790, R791). -/
def State.flushApplet (s : State) : State :=
  let x := s.dict.applet
  let find (r : Nat) := s.fabric.reqs.find? fun q => q.req = r && !q.comb
  let mk (r : Nat) (b : Bytes) : Option AppletReply :=
    (find r).map fun q => { hart := q.hart, reply := q.reply, notify := q.notify, data := b }
  let replies := x.outbox.filterMap fun o => mk o.req (o.build s.genOf)
  let gone := x.outbox.map OutRec.req
  let s := s.setApplet fun y => y.flushed s.genOf 0
  let reqs := s.fabric.reqs.filter fun q => q.comb || !gone.contains q.req
  { s with fabric := { s.fabric with reqs := reqs, replies := s.fabric.replies ++ replies } }

/-- Every record made so far takes the generation its object has now. -/
def State.fillAll (s : State) : State :=
  let fill (x : Session) : Session := { x with outbox := x.outbox.map (OutRec.fill s.genOf) }
  { s with dict := { s.dict with applet := fill s.dict.applet, sessions := s.dict.sessions.map fun e => (e.1, fill e.2) } }

/-- Every outbox leaves. -/
def State.flush (s : State) : State := (s.dict.sessions.foldl (fun s e => s.flushSession e.1) s).flushApplet

/-- Send a CLOSE to a session with its next seq (R130). -/
def State.sendClose (s : State) (i : Nat) : State :=
  match (if s.up .network then Tbl.get? s.dict.sessions i else none) with
  | none => s
  | some x => (s.setSession i fun y => { y with txSeq := y.txSeq + 1 }).emit (.close i (x.txSeq + 1) (x.datagram 4 (x.txSeq + 1) []))

/-- Refuse with the answer of a list of checks in order: the first that fails. -/
def firstFail : List (Bool × Ans) → Option Ans
  | [] => none
  | (ok, a) :: t => if ok then firstFail t else some a

end Sys2Proof.Machine
end

