-- ==== Sys2Proof/Machine/LogOps.lean ====
section
/-!
DEFINITION. What the Logbook does: writing a staged event, choosing its slot, the flash mirror, time marks, queries and the
applet window (20_logbook.md R904 to R925).
-/

namespace Sys2Proof.Machine

/-! ### Records -/

/-- seq of a record (Table 20.1). -/
def LogRec.seq (r : LogRec) : Nat := r.cycle * 2 ^ 48 + r.count

/-- Bytes 0 to 59 of a record. -/
def LogRec.body (r : LogRec) : Bytes :=
  leBytes 8 r.seq ++ leBytes 2 r.ev.code ++ [byte r.ev.sev, byte r.ev.island,
    byte (b2n r.mirrored + 2 * b2n r.satur + 4 * b2n r.synth), byte r.ev.params.length, 0, 0] ++ leBytes 4 r.rep ++ fit 40 r.ev.params

/-- The 64 bytes of a record. What an uncorrectable error leaves in a damaged one is free, but for its CRC, which fails (R916). -/
def LogRec.bytes (r : LogRec) : Bytes :=
  if r.damaged then
    let b := fit 60 (Config.randBytes r.seq)
    b ++ leBytes 4 (wrap 32 (crc32c b + 1 + Config.rand r.seq % (2 ^ 32 - 1)))
  else r.body ++ leBytes 4 (crc32c r.body)

/-! ### Slots -/

/-- Slots now (R916, Table 19.10): each retired 64 KiB region removes 1,024. -/
def Logbook.capacity (l : Logbook) : Nat := 16384 - 1024 * l.retired.length

/-- Whether a slot lies in a region that is still there. -/
def Logbook.usable (l : Logbook) (slot : Nat) : Bool := slot < 16384 && !l.retired.contains (slot / 1024)

/-- The first usable slot from `i` on that no sound record holds, walking the table of slots in rising order; `fuel` bounds the
walk. -/
def freeFrom (l : Logbook) : Nat → Tbl LogRec → Nat → Option Nat
  | 0, _, _ => none
  | fuel + 1, t, i =>
    if 16384 ≤ i then none
    else if l.retired.contains (i / 1024) then freeFrom l fuel t (i / 1024 * 1024 + 1024)
    else match t with
      | [] => some i
      | (k, r) :: t' =>
        if k < i then freeFrom l fuel t' i
        else if k = i && !r.damaged then freeFrom l fuel t' (i + 1)
        else some i

/-- A free slot (R914, R916), the lowest. -/
def Logbook.freeSlot (l : Logbook) : Option Nat := freeFrom l 32768 l.slots 0

/-- The slot of the oldest record among those of the lowest severity present (R914). -/
def oldestLowest : Tbl LogRec → Option (Nat × LogRec)
  | [] => none
  | (k, r) :: t =>
    match oldestLowest t with
    | none => some (k, r)
    | some (k', r') =>
      if r.ev.sev < r'.ev.sev || (r.ev.sev = r'.ev.sev && r.seq < r'.seq) then some (k, r) else some (k', r')

/-- The slot a new record of severity `sev` takes (R914). -/
def Logbook.slotFor (l : Logbook) (sev : Nat) : Option Nat :=
  match l.freeSlot with
  | some i => some i
  | none =>
    match oldestLowest l.slots with
    | some (i, r) => if r.ev.sev ≤ sev then some i else none
    | none => none

/-! ### The writer -/

/-- Write a distinct event as a record, or drop it (R909, R914). -/
def Logbook.write (l : Logbook) (now : Nat) (e : LogEv) (synth : Bool) : Logbook :=
  match l.slotFor e.sev with
  | none => { l with dropped := wrap 32 (l.dropped + 1) }
  | some i =>
    let l := l.close
    let r : LogRec := { cycle := l.cycle, count := l.count, ev := e, mirrored := false, satur := false, synth := synth, rep := 0, damaged := false }
    { l with slots := Tbl.put l.slots i r, openRec := some (i, now), count := l.count + 1, latest := r.seq }

/-- The event of a staged entry: a synthetic EV_LOG_LOST holds the losses of its place at this moment, which it reports (R912). -/
def Logbook.resolve (l : Logbook) : Staged → Logbook × Option (LogEv × Bool)
  | .event e => (l, some (e, false))
  | .lost w =>
    match l.losses.find? fun x => x.wher = w with
    | none => (l, none)
    | some x =>
      let e : LogEv := { code := 0x1401, sev := max 2 x.sev, island := 0, params := leBytes 4 (min x.count 0xFFFFFFFF) ++ [byte x.sev, byte w] }
      ({ l with losses := l.losses.filter fun y => y.wher ≠ w }, some (e, true))

/-- The writer takes the next staged event: it folds into the record then open, or is written (R910 to R912). -/
def Logbook.writeNext (l : Logbook) (now : Nat) : Logbook :=
  let l := l.expire now
  match l.staging with
  | [] => l
  | x :: rest =>
    let r := { l with staging := rest }.resolve x
    let l := match r.2 with
      | none => r.1
      | some (e, synth) =>
        match r.1.fold? e with
        | some l' => l'
        | none => r.1.write now e synth
    { l with staging := stageLosses l.staging l.losses }

/-- The writer's next event, with the record counted (Table 19.12). -/
def State.logWriteNext (s : State) : State :=
  let l := s.log.writeNext s.now
  let s' := { s with log := l }
  if l.count ≠ s.log.count then s'.count 0x12 0 1 else s'

/-! ### The mirror -/

/-- Whether the flash may be written now: the Security island runs (R919). -/
def State.flashFree (s : State) : Bool := s.up .security

/-- A record reaches the mirror: both copies take the mirrored flag; a ring that is full first erases its oldest block (R917,
R918). `ok` says whether its block could be erased and programmed; a block that could not is replaced by a spare, or is lost when
none remains (R920), which the second result reports. -/
def Logbook.mirrorNext (l : Logbook) (ok : Bool) : Logbook × Bool :=
  match l.mirrorQ with
  | [] => (l, false)
  | r :: rest =>
    let worn := !ok && l.spares = 0
    let ring := if worn then l.ring - 1 else l.ring
    let spares := if ok then l.spares else l.spares - 1
    let room := 1024 * ring
    let kept := if room ≤ l.mirror.length then l.mirror.drop (l.mirror.length - room + 1024) else l.mirror
    let r' := { r with mirrored := true }
    let slots := l.slots.map fun e => if e.2.seq = r.seq then (e.1, { e.2 with mirrored := true }) else e
    ({ l with mirrorQ := rest, ring := ring, spares := spares, mirror := if ring = 0 then [] else kept ++ [r'], slots := slots }, worn)

/-- A write torn by power loss: the last mirror slot fails its CRC (R920). -/
def Logbook.torn (l : Logbook) : Logbook :=
  { l with mirror := l.mirror.mapIdx fun i r => if i + 1 = l.mirror.length then { r with damaged := true } else r }

/-- Newest mirrored seq. -/
def Logbook.mirrorLatest (l : Logbook) : Nat :=
  match (l.mirror.filter fun r => !r.damaged).getLast? with
  | some r => r.seq
  | none => 0

/-! ### Time marks (R921) -/

/-- The whole second of TIME64 that is a multiple of LogTimeMarkPeriod and in which the command falls, if it is one. -/
def State.markSecond (s : State) : Option Int :=
  let q := s.time64.fdiv sec
  if q % (s.cfg 0x1407 0 : Int) = 0 then some q else none

/-- Write the mark of this second, once. -/
def State.timeMarkDue (s : State) : State :=
  match s.markSecond with
  | none => s
  | some q =>
    if s.log.lastMark = some q then s
    else
      let s := s.timeMark
      { s with log := { s.log with lastMark := some q } }

/-! ### Reading (R922 to R924) -/

/-- Records in ascending seq, those that fail their CRC skipped. -/
def Logbook.sound (l : Logbook) (mirror : Bool) : List LogRec :=
  let rs := (if mirror then l.mirror else l.slots.map Prod.snd).filter fun r => !r.damaged
  sortBy (fun a b => a.seq ≤ b.seq) rs

/-- LogQuery (R922). A count outside 1 to 20 or a source above 1 is refused under check 8 of R112. -/
def State.logQuery (s : State) (req : Bytes) : Ans :=
  let count := u req 8 2
  if req.length ≠ 12 then Ans.length
  else if u req 11 1 > 1 then Ans.invalid
  else if count = 0 then Ans.low
  else if 20 < count then Ans.high
  else
    let rs := (s.log.sound (u req 11 1 = 1)).filter fun r => u req 0 8 ≤ r.seq && u req 10 1 ≤ r.ev.sev
    Ans.done ((rs.take count).flatMap LogRec.bytes)

/-- LogSlot (R923). -/
def Logbook.slotBytes (l : Logbook) (slot : Nat) : Bytes :=
  match Tbl.get? l.slots slot with
  | some r => r.bytes
  | none => zeros 64

/-- SEEK_SLOT: the slot of the smallest seq at or above `seq`, or bit 63. -/
def Logbook.seekSlot (l : Logbook) (seq : Nat) : Nat :=
  match (l.slots.filter fun e => !e.2.damaged && seq ≤ e.2.seq).foldl (fun (b : Option (Nat × LogRec)) e =>
      match b with
      | some x => if e.2.seq < x.2.seq then some e else b
      | none => some e) none with
  | some e => e.1
  | none => 2 ^ 63

def LogWin.reset : LogWin := { select := 0, seek := 0, found := 2 ^ 63, stage := zeros 40 }
def Logbook.setWin (l : Logbook) (h : Nat) (f : LogWin → LogWin) : Logbook :=
  { l with windows := Tbl.put l.windows h (f (Tbl.getD l.windows h LogWin.reset)) }

/-- A write to SEEK. -/
def Logbook.seekTo (l : Logbook) (h seq : Nat) : Logbook :=
  l.setWin h fun w => { w with seek := seq, found := l.seekSlot seq }

/-- Whether an EMIT word is one of Table 20.3. -/
def emitOk (word : Nat) : Bool :=
  0x8000 ≤ bits word 0 16 && bits word 0 16 ≤ 0x8FFF && bits word 16 3 ≤ 3 && bits word 24 6 ≤ 40
    && bits word 19 5 = 0 && word < 2 ^ 30

/-- A write to EMIT with the bytes STAGE holds (R905, Table 20.3); applet events carry island 2. -/
def State.emitApplet (s : State) (h word : Nat) (stage : Bytes) : State :=
  let s := { s with log := s.log.setWin h fun w => { w with stage := fit 40 stage } }
  if emitOk word then
    s.offer { code := bits word 0 16, sev := bits word 16 3, island := 2, params := fit (bits word 24 6) stage }
  else { s with log := { s.log with dropped := wrap 32 (s.log.dropped + 1) } }

/-! ### Resets of the Always-on island and power-on (R906, R913, R915) -/

/-- After an Always-on island restart: staged events are lost and, with those the gasket counted, are reported first (R913). -/
def Logbook.afterRestart (l : Logbook) : Logbook :=
  let staged := l.staging.foldl (fun l x => match x with
    | .event e => l.lose 2 e.sev
    | .lost _ => l) { l with staging := [] }
  let front := staged.losses.filter fun x => x.wher = 2
  let rest := staged.losses.filter fun x => x.wher ≠ 2
  { staged with staging := stageLosses (stageLosses [] front) rest }

/-- After a power-on reset: SRAM records are emptied, the mirror stays, and seq starts a new power cycle (R906, R915). -/
def Logbook.afterPower (l : Logbook) : Logbook :=
  let top := l.mirror.foldl (fun (m : Option Nat) r => if r.damaged then m else some (max (m.getD 0) r.cycle)) none
  let cycle := match top with
    | some c => c + 1
    | none => 0
  { Logbook.reset [] with mirror := l.mirror, ring := l.ring, spares := l.spares, retired := l.retired, cycle := cycle }

end Sys2Proof.Machine
end

