-- ==== Sys2Proof/Machine/Airtime.lean ====
section
/-!
DEFINITION. What the modems' schedule is made of: airtime, modem values, channel entries, the radio timeline, and what their control
pins show (12_radio_links.md R566 to R572, R584, R587, R595).
-/

namespace Sys2Proof.Machine

/-! ### Airtime (R566, R567) -/

/-- One reservation unit, 25 µs, and half a millisecond, in ns. -/
def unitNs : Nat := 25000
def halfMs : Nat := 500000

def nDbps (rate : Nat) : Nat := nth [24, 36, 48, 72, 96, 144, 192, 216] rate
def tSym (half : Bool) : Nat := if half then 8000 else 4000
def tPre (half : Bool) : Nat := if half then 40000 else 20000
def tIfs (half : Bool) : Nat := if half then 32000 else 16000
/-- Length of a frame of `b` bytes in ns. -/
def frameNs (half : Bool) (rate b : Nat) : Nat := tPre half + tSym half * ceilDiv (22 + 8 * b) (nDbps rate)
/-- The greatest frame that lasts at most `ns`. -/
def frameFit (half : Bool) (rate ns : Nat) : Nat :=
  if ns < tPre half then 0 else min 2047 (((ns - tPre half) / tSym half * nDbps rate - 22) / 8)

/-! ### Modem and channel values (Tables 12.5, 12.6) -/

structure Mval where
  flags     : Nat
  linkRate  : Nat
  wagRate   : Nat
  guard     : Nat
  hyper     : Nat
  bPeriod   : Nat
  bOffset   : Nat
  bChan     : Nat
  joinWin   : Nat
  joinLen   : Nat
  wagLen    : Nat
  downMax   : Nat
  wagInt    : Nat
  map       : Nat
  deriving DecidableEq, Repr, Inhabited

def Mval.of (b : Bytes) : Mval :=
  { flags := u b 0 1, linkRate := u b 1 1, wagRate := u b 2 1, guard := u b 3 1, hyper := u b 4 2, bPeriod := u b 6 2, bOffset := u b 8 2,
    bChan := u b 10 1, joinWin := u b 11 1, joinLen := u b 12 1, wagLen := u b 13 1, downMax := u b 14 2, wagInt := u b 16 2, map := u b 18 6 }

def Mval.on (v : Mval) : Bool := bit v.flags 0
def Mval.half (v : Mval) : Bool := bit v.flags 1
def Mval.hb (v : Mval) : Bool := bit v.flags 2
def Mval.guardNs (v : Mval) : Nat := v.guard * 1000

/-- Modems the variant has (R25). -/
def State.hasModem (s : State) (m : Nat) : Bool := m < 8 && (s.packageA || m < 4)
def State.modem (s : State) (m : Nat) : Modem := s.radio.modems.getD m Modem.reset
def State.setModem (s : State) (m : Nat) (f : Modem → Modem) : State := { s with radio := { s.radio with modems := modNth s.radio.modems m f } }
/-- The active value of a modem, and the value its placements follow. -/
def State.mval (s : State) (m : Nat) : Mval := Mval.of (s.cfgB 0x2C04 (m + 1))
def State.mvalNow (s : State) (m : Nat) : Mval := Mval.of (s.modem m).value
def State.modemOn (s : State) (m : Nat) : Bool := s.hasModem m && (s.mvalNow m).on

/-- A channel entry that holds no frequency. -/
def chanEmpty (b : Bytes) : Bool := u b 0 4 = 0
def mapped (map : Nat) : List Nat := (List.range 48).filter fun i => bit map i

/-- Units of a neighbour listen (R589). -/
def Mval.listenLen (v : Mval) : Nat := ceilDiv (frameNs v.half 0 100 + 2 * v.guardNs) unitNs

/-- The radio timeline: TIME64 from the first acquisition, without its later steps (R587). -/
def State.radioTime (s : State) : Int := s.time64 - s.tb.stepped

/-! ### Control pins (R571, R572) -/

/-- The bits of a tune word in the order in which RPn_CTLD carries them. -/
def tuneBits (word : Nat) : List Bool := (List.range 32).map fun i => bit word (31 - i)

/-- A modem is tuned to a channel entry: its tune word is shifted out, and a strobe of 40 ns ends at a device instant (R571). -/
def State.tuneTo (s : State) (k : Nat) (entry : Bytes) (end_ : Int) : State := s.emit (.tune k (tuneBits (u entry 4 4)) (end_ - 40) end_)

/-- RPn_TXEN, or RPn_RXEN, is high from one device instant to another (R572). -/
def State.rfOn (s : State) (k : Nat) (tx : Bool) (from_ till : Int) : State := s.emit (.enable k tx from_ till)

/-- The windows of a listen whose tuning falls due after one instant of the radio timeline and not after another. -/
def Listen.windows (l : Listen) (v : Mval) (t0 t1 : Int) : List Int :=
  let i : Int := (l.period * 20 * unitNs : Nat)
  let o : Int := (l.offset * unitNs : Nat)
  if i = 0 then []
  else
    let a := (t0 + v.guardNs - o).fdiv i + 1
    let b := (t1 + v.guardNs - o).fdiv i
    (List.range (b + 1 - a).toNat).map fun n => o + (a + n) * i

/-- The neighbour listens that begin between two instants of the radio timeline (R571, R606). -/
def State.listensDue (s : State) (t0 t1 : Int) : State :=
  if !s.up .radio then s
  else
    let all := (List.range 8).flatMap fun k =>
      if s.modemOn k then (s.modem k).listens.flatMap fun l => (l.windows (s.mvalNow k) t0 t1).map fun w => (k, l, w) else []
    all.foldl (fun s x =>
      let v := s.mvalNow x.1
      let w := (s.now : Int) - (s.radioTime - x.2.2)
      (s.tuneTo x.1 (s.cfgB 0x2C02 (x.2.1.chan + 1)) (w - v.guardNs)).rfOn x.1 false w (w + (v.listenLen * unitNs : Nat))) s

end Sys2Proof.Machine
end

