-- ==== Sys2Proof/Machine/TimeOps.lean ====
section
/-!
DEFINITION. What the Timebase does: the passing of time, sources and their qualification, the servo, the acquisition and armed
steps, pulses, the time-of-day line and captures (13_timebase_time_io.md R633 to R665).
-/

namespace Sys2Proof.Machine

/-! ### The count -/

/-- Rate correction accumulated at instant t, 10⁻¹² ns. -/
def Timebase.corrAt (b : Timebase) (t : Nat) : Int := b.corr + ((t : Int) - b.anchor) * b.rate

/-- The count taken anew at instant t, continuing with a rate correction. -/
def Timebase.rebase (b : Timebase) (t : Nat) (rate : Int) : Timebase :=
  { b with anchor := t, count := Triple.of (b.fine t), corr := b.corrAt t, rate := rate }

/-- The stretches of the frequency term kept: the newest 600 s. -/
def pruneHist : Nat → List (Nat × Int) → List (Nat × Int)
  | _, [] => []
  | room, (d, f) :: t => if room = 0 then [] else (min d room, f) :: pruneHist (room - min d room) t

/-- The frequency term's stretch ends at t and a new term begins (R644). -/
def Timebase.newFreq (b : Timebase) (t : Nat) (f : Int) : Timebase :=
  { b with hist := pruneHist (600 * sec) ((t - b.freqAt, b.freq) :: b.hist), freq := f, freqAt := t }

/-- The frozen rate of HOLDOVER and HOLD_JUMP: the mean of the frequency term (R644). -/
def Timebase.meanFreq (b : Timebase) : Int :=
  let total := (b.hist.map Prod.fst).sum
  if total = 0 then b.freq else roundDiv ((b.hist.map fun p => (p.1 : Int) * p.2).sum) total

/-- SLEWING becomes LOCKED at the first instant at which at most 10 ns remain (R643, Table 13.3), and no earlier than a restart of the
Timebase ends, in which the servo pauses (R664). -/
def State.slewDone (s : State) : State :=
  if s.tb.st = .slewing && s.up .timebase && (s.slewRemain s.now).natAbs ≤ 10 then
    let t := min s.now (max (s.isl .timebase).back (s.tb.anchor + ceilDiv ((s.tb.remain.natAbs - 10) * sec) (s.cfg 0x2013 0)))
    let b := s.tb.rebase t s.tb.freq
    { s with tb := { b with st := .locked, remain := 0 } }
  else s

/-- Time passes to instant t; whole seconds of TIME64 are counted (Table 19.12), and the modems are tuned to the neighbour listens that
begin meanwhile (R571). -/
def State.advance (s : State) (t : Nat) : State :=
  let q := s.time64.fdiv sec
  let r := s.radioTime
  let s := ({ s with now := max s.now t } : State).slewDone
  let n := (s.time64.fdiv sec - q).toNat
  let s := if 0 < n && s.up .timebase then s.count 0x13 0 n else s
  s.listensDue r s.radioTime

/-! ### Holdover's bound (R646) -/

/-- E's growth up to now is taken into the accumulated part, before a term or the reference changes. -/
def State.rollBound (s : State) : State :=
  let b := s.tb
  let g := b.eAcc + holdGrowth s.holdTerms (b.segAt - b.holdAt) (s.now - b.holdAt)
  { s with tb := { b with eAcc := g, segAt := s.now } }

/-! ### Sources (R636 to R640) -/

def Timebase.setSrc (b : Timebase) (c : Nat) (f : TimeSrc → TimeSrc) : Timebase := { b with srcs := modNth b.srcs (c - 1) f }

/-- The servo's prediction of a source's offset at instant t (R638); an offset is TIME64 minus the source's time. -/
def Timebase.predict (b : Timebase) (x : TimeSrc) (t : Nat) : Int := x.last + roundDiv (b.corrAt t - x.lastCorr) 1000000000000

/-- A source takes an offset. -/
def Timebase.take (b : Timebase) (c t : Nat) (off : Int) (bound jump qt : Nat) : Timebase :=
  let x := b.src c
  let bad := x.present && (off - b.predict x t).natAbs > jump
  let entry : Nat × Int := (t, off * fineUnit - b.corrAt t)
  let window := (if x.present then x.window.filter fun e => t ≤ e.1 + qt * sec else []) ++ [entry]
  let since := if x.present then x.since else t
  b.setSrc c fun _ =>
    { present := true, since := since, qualified := x.present && x.qualified && !bad, disagree := x.disagree && !bad && x.present,
      last := off, lastAt := t, lastCorr := b.corrAt t, window := window, bound := bound }

/-- Whether a source has been present and consistent for TimeQualifyTime (R638). -/
def TimeSrc.consistent (x : TimeSrc) (t jump qt : Nat) : Bool :=
  let w := (x.window.filter fun e => t ≤ e.1 + qt * sec).map Prod.snd
  let lim : Int := jump * fineUnit
  x.present && x.since + qt * sec ≤ t && w.all fun a => w.all fun b => a - b ≤ lim

/-- The marks disagree (R640), and the sources newly marked. -/
def State.markDisagree (s : State) : State :=
  let jump := s.cfg 0x2012 0
  let mark (x : TimeSrc) : Bool := s.timed && x.qualified && x.last.natAbs > jump
  let fresh := s.tb.srcs.countP fun x => mark x && !x.disagree
  let s := { s with tb := { s.tb with srcs := s.tb.srcs.map fun x => { x with disagree := mark x } } }
  Nat.repeat (fun s => s.logEv .timeSourceDisagree []) fresh s

/-- The candidate (R639). -/
def State.candidate (s : State) : Option Nat :=
  ((s.cfgB 0x2010 0).map BitVec.toNat).find? fun c =>
    1 ≤ c && c ≤ 4 && (s.tb.src c).qualified && (s.tb.st = .freerun || (s.tb.src c).last.natAbs ≤ s.cfg 0x2012 0)

/-! ### The servo (Table 13.3) -/

/-- The rate correction of SLEWING: the frequency term and the slew that reduces the offset (R643), parts per 10¹². -/
def State.slewRate (s : State) (off : Int) : Int := s.tb.freq - off.sign * (1000 * s.cfg 0x2013 0 : Nat)

/-- What remains to be slewed is taken as it stands, before the slew rate changes. -/
def State.slewMoved (s : State) : State :=
  if s.tb.st = .slewing then { s with tb := { s.tb.rebase s.now s.tb.rate with remain := s.slewRemain s.now } } else s
/-- The rate correction of SLEWING under the slew rate now in force. -/
def State.slewRated (s : State) : State :=
  if s.tb.st = .slewing then { s with tb := s.tb.rebase s.now (s.slewRate s.tb.remain) } else s

/-- Enter SLEWING towards a source. -/
def State.enterSlew (s : State) (c : Nat) : State :=
  let off := s.tb.predict (s.tb.src c) s.now
  let b := s.tb.rebase s.now (s.slewRate off)
  let fresh := s.tb.st = .holdover || s.tb.st = .holdJump
  { s with tb := { b with st := .slewing, source := c, remain := off, armed := false, freqAt := if fresh then s.now else b.freqAt } }

/-- Enter HOLDOVER or HOLD_JUMP from LOCKED or SLEWING. -/
def State.enterHold (s : State) (jump : Bool) : State :=
  let e0 := s.errorBound
  let b := s.tb.newFreq s.now s.tb.freq
  let b := b.rebase s.now (satInt 32 b.meanFreq)
  let s := { s with tb := { b with st := if jump then .holdJump else .holdover, source := 0, remain := 0, e0 := e0, holdAt := s.now, segAt := s.now, eAcc := 0 } }
  if jump then s.logEv .timeJumpRefused [] else s

/-- The servo changes state as Table 13.3 states. -/
def State.servo (s : State) : State :=
  let s := s.markDisagree
  let cand := s.candidate
  let jump := s.firstDisagree.isSome
  match s.tb.st with
  | .freerun => s
  | .locked =>
    (match cand with
    | some c => if c = s.tb.source then s else s.enterSlew c
    | none => if (s.tb.src s.tb.source).qualified then s else s.enterHold jump)
  | .slewing =>
    (match cand with
    | some c => if c = s.tb.source || (s.tb.src s.tb.source).qualified then s else s.enterSlew c
    | none => if (s.tb.src s.tb.source).qualified then s else s.enterHold jump)
  | .holdover =>
    (match cand with
    | some c => s.enterSlew c
    | none => if jump then ({ s with tb := { s.tb with st := .holdJump } } : State).logEv .timeJumpRefused [] else s)
  | .holdJump =>
    (match cand with
    | some c => s.enterSlew c
    | none => if jump then s else { s with tb := { s.tb with st := .holdover, armed := false } })

/-- In LOCKED, an offset of the selected source steers the rate: the PI servo's two terms are free (log entry 6). -/
def State.steer (s : State) (c : Nat) (off : Int) : State :=
  if s.tb.st = .locked && s.tb.source = c then
    let tau := s.cfg 0x2014 0
    let f := satInt 32 (Config.servoFreq s.tb.freq off tau)
    let b := s.tb.newFreq s.now f
    { s with tb := b.rebase s.now (satInt 32 (Config.servoRate f off tau)) }
  else s

/-- Whether the islands that a source's offsets come through pass signals (R54, Table 13.1): GNSS time from Tracking and the Fixer,
PTP from the Network, standby exposures from the Developer. -/
def State.sourceReaches (s : State) (c : Nat) : Bool :=
  match c with
  | 1 => s.up .tracking && s.up .fixer
  | 2 => s.up .network
  | 4 => s.up .developer
  | _ => true

/-- A source delivers an offset; while the Timebase does not run it is dropped (R664). -/
def State.offset (s : State) (c : Nat) (off : Int) (bound : Nat) : State :=
  if s.up .timebase && s.sourceReaches c && 1 ≤ c && c ≤ 4 then
    let s := { s with tb := s.tb.take c s.now off bound (s.cfg 0x2012 0) (s.cfg 0x2011 0) }
    (s.servo).steer c off
  else s

/-- A source stops being present (R638). -/
def State.sourceGone (s : State) (c : Nat) : State :=
  if 1 ≤ c && c ≤ 4 then
    let b := s.tb.setSrc c fun x => { TimeSrc.none with last := x.last, lastAt := x.lastAt }
    { s with tb := b }.servo
  else s

/-- A source becomes qualified, where R638 lets it. -/
def State.qualify (s : State) (c : Nat) : State :=
  if s.up .timebase && (s.tb.src c).consistent s.now (s.cfg 0x2012 0) (s.cfg 0x2011 0) then
    let b := s.tb.setSrc c fun x => { x with qualified := true }
    { s with tb := b }.servo
  else s

/-! ### Steps (R642, R648, R655) -/

/-- TIME64 moves by `d` ns at this instant: every source's offset moves with it, and pulses in progress keep their width in
device time. -/
def State.moveTime (s : State) (d : Int) : State :=
  let b := s.tb
  let b := { b.rebase s.now b.rate with count := Triple.of (b.fine s.now + d * fineUnit) }
  let b := { b with srcs := b.srcs.map fun x =>
    { x with last := x.last + d, window := x.window.map fun e => (e.1, e.2 + d * fineUnit) } }
  let outs := s.outs.map fun o =>
    { o with pulse := o.pulse.map fun p => { p with fin := p.fin + d * fineUnit }, ended := o.ended.map (· + d * fineUnit) }
  { s with tb := b, outs := outs, track := { s.track with clockStep := true } }

/-- The mark of a step, which also stands for the multiple the step may fall on (R921). -/
def State.stepMark (s : State) : State :=
  let s := s.timeMark
  { s with log := { s.log with lastMark := some (s.time64.fdiv sec) } }

/-- The acquisition step from FREERUN (R642, R665). -/
def State.acquire (s : State) : State :=
  match s.candidate with
  | none => s
  | some c =>
    let off := s.tb.predict (s.tb.src c) s.now
    if s.tb.st = .freerun && s.up .timebase && (s.time64 - off) % (sec : Int) = 0 then
      let s := s.moveTime (-off)
      let outs := s.outs.map fun (o : TimeOut) => { o with floating := false }
      let s : State := { s with tb := { s.tb with st := .locked, source := c, freqAt := s.now }, outs := outs }
      (s.logEv .timeAcquired (leInt 8 (-off))).stepMark
    else s

/-- An armed step at a whole second (R648, R184). -/
def State.takeStep (s : State) : State :=
  match s.firstDisagree with
  | none => s
  | some c =>
    if s.tb.st = .holdJump && s.tb.armed && s.up .timebase && s.time64 % (sec : Int) < 2 then
      let off := s.tb.predict (s.tb.src c) s.now
      let before := s.ctimeOf s.time64
      let had := s.ctime.isSome
      let s := s.moveTime (-off)
      let b := s.tb.rebase s.now s.tb.freq
      let s := { s with tb := { b with st := .locked, source := c, armed := false, freqAt := s.now, stepped := b.stepped - off } }
      let s := s.logEv .timeStep (leInt 8 (-off))
      let s := if had then s.logEv .ctimeStep (leInt 8 (s.ctimeOf s.time64 - before)) else s
      s.stepMark
    else s

/-- TimeStepArm (R648 to R650). -/
def State.stepArm (s : State) : State × Option Ans :=
  if s.tb.st ≠ .holdJump then (s, some (Ans.state 0x05200010))
  else if !s.stoppedAll then (s, some (Ans.state 0x05200011))
  else ({ s with tb := { s.tb with armed := true } }, some (Ans.done []))

def State.stepDisarm (s : State) : State × Option Ans :=
  ({ s with tb := { s.tb with armed := false } }, some (Ans.done []))

/-- PpsTimeOfDay (R637, Table 13.7). -/
def State.ppsTimeOfDay (s : State) (v : Bytes) : State × Option Ans :=
  let x := si v 0 8
  if s.cfg 0x2018 0 = 0xFF || x % (sec : Int) ≠ 0 then (s, some (Ans.state 0x05200013))
  else ({ s with tb := { s.tb with ppsTod := some (x, s.now) } }, some (Ans.done []))

/-- An edge on the PPS input: its offset, where R637 gives one. `edge` is its TIME64. -/
def State.ppsEdge (s : State) (edge : Int) : State :=
  let named := match s.tb.ppsTod with
    | some (v, at_) => if s.now ≤ at_ + sec then some v else none
    | none => none
  let s := { s with tb := { s.tb with ppsTod := none } }
  match named with
  | some v => s.offset 3 (edge - v) 0
  | none => if s.timed then s.offset 3 (edge - roundDiv edge sec * sec) 0 else s

/-! ### Pulses (R651 to R656) -/

/-- The fields of a pulse value (Table 13.6). -/
structure PulseVal where
  start  : Int
  mode   : Nat
  low    : Bool
  gate   : Nat
  period : Nat
  width  : Nat
  baud   : Nat
  frac   : Nat
  deriving DecidableEq, Repr, Inhabited

def PulseVal.of (b : Bytes) : PulseVal :=
  { start := si b 0 8, mode := u b 10 1, low := bit (u b 11 1) 0, gate := u b 12 1, period := u b 16 8, width := u b 24 4, baud := u b 28 1, frac := u b 8 2 }

/-- The active value of output n. -/
def State.pulseVal (s : State) (n : Nat) : PulseVal := PulseVal.of (s.cfgB (0x2100 + n) 2)

/-- Output n exists: TO4 to TO7 are package A's (Table 13.9). -/
def State.hasOut (s : State) (n : Nat) : Bool := n < 8 && (s.packageA || n < 4)
def State.hasCap (s : State) (n : Nat) : Bool := n < 4 && (s.packageA || n < 2)

def State.timeOut (s : State) (n : Nat) : TimeOut := s.outs.getD n TimeOut.reset
def State.setOut (s : State) (n : Nat) (f : TimeOut → TimeOut) : State := { s with outs := modNth s.outs n f }

/-- The level of output n's pin: none while it is high-impedance, in mode 0 and from a chip reset to the acquisition step (R665); the
active level during a pulse and the other between pulses; a serial line idles high. -/
def State.outPin (s : State) (n : Nat) : Option Bool :=
  let o := s.timeOut n
  let v := s.pulseVal n
  if o.floating then none
  else match o.pulse with
    | some p => some (p.level)
    | none => match v.mode with
      | 1 => some v.low
      | 2 => some true
      | _ => none

/-- TIME64 of the leading edge of pulse k, 10⁻¹² ns (R652). -/
def PulseVal.edge (v : PulseVal) (k : Nat) : Int := (v.start + k * v.period) * fineUnit + (v.frac * fineUnit) / 65536

/-- The pulse whose leading edge falls within 1 ns of `f`, at or after number `lo`. -/
def PulseVal.pulseAt (v : PulseVal) (lo : Nat) (f : Int) : Option Nat :=
  let k := if v.period = 0 then 0 else (roundDiv (f - v.edge 0) (v.period * 1000000000000)).toNat
  if lo ≤ k && (f - v.edge k).natAbs ≤ 1000000000000 then some k else none

/-- The least gap between pulses: the lesser of width and period − width; a one-shot has no period to leave one of (R653). -/
def PulseVal.gap (v : PulseVal) : Nat := if v.period = 0 then v.width else min v.width (v.period - v.width)

/-- Whether the gap before an edge is long enough: the last pulse, in progress or ended, ended at least a gap before. -/
def TimeOut.gapOk (o : TimeOut) (v : PulseVal) (edge : Int) : Bool :=
  let last := match o.pulse with
    | some p => some p.fin
    | none => o.ended
  match last with
  | some e => e + (v.gap * fineUnit : Int) ≤ edge
  | none => true

/-- A pulse is skipped: counted, and logged once per second (R653). -/
def State.skipPulse (s : State) (n k : Nat) : State :=
  let q := s.time64.fdiv sec
  let first := (s.timeOut n).skipSec ≠ some q
  let s := s.setOut n fun o => { o with k := k + 1, skipped := wrap 32 (o.skipped + 1), skipSec := some q }
  if first then s.logEv .pulseSkipped [] else s

/-- A scheduled leading edge of output n falls due (R652 to R654). The Timebase may be restarting (R664). -/
def State.pulseDue (s : State) (n : Nat) : State :=
  let o := s.timeOut n
  let v := s.pulseVal n
  let f := s.tb.fine s.now
  let alive := s.up .timebase || (s.isl .timebase).st = .restarting
  if s.hasOut n && alive && !o.floating && v.mode = 1 then
    match v.pulseAt o.k f with
    | none => s
    | some k =>
      if s.quality < v.gate || !o.gapOk v (v.edge k) then s.skipPulse n k
      else
        let s := s.setOut n fun o => { o with k := k + 1, pulse := some { k := k, fin := v.edge k + v.width * fineUnit, level := !v.low } }
        s.emit (.edge n k true (s.outPin n))
  else s

/-- The trailing edge of the pulse in progress (R652). -/
def State.pulseEnd (s : State) (n : Nat) : State :=
  match (s.timeOut n).pulse with
  | none => s
  | some p =>
    if p.fin ≤ s.tb.fine s.now + fineUnit then
      let s := s.setOut n fun o => { o with pulse := none, ended := some p.fin }
      s.emit (.edge n p.k false (s.outPin n))
    else s

/-- Validation of a pulse shadow (Table 13.7). -/
def State.pulseCheck (s : State) (b : Bytes) : Option Ans :=
  let v := PulseVal.of b
  firstFail
    [(v.frac % 0x4000 = 0 && v.mode ≤ 2 && v.baud ≤ 1, Ans.bad 0x05200001),
     (4 ≤ v.width && v.width ≤ 1000000000 && (v.period = 0 || (20 ≤ v.period && v.period ≤ 86400000000000 && v.width < v.period)), Ans.bad 0x05200002),
     (v.period ≠ 0 || s.time64 + 10000000 ≤ v.start, Ans.bad 0x05200003)]

/-- A committed pulse value takes effect from its first admitted pulse (R656). -/
def State.pulseCommitted (s : State) (n : Nat) : State := s.setOut n fun o => { o with k := 0 }

/-! ### UTC and the time-of-day line (R657, R658) -/

/-- TAI − UTC in force at a whole TAI second, the leap announcement L of the UTC day it lies in, and whether it is itself an
inserted leap second. -/
def State.utcAt (s : State) (q : Int) : Int × Nat × Bool :=
  match s.tb.utc with
  | none => (s.cfgI 0x200B 0, 0, false)
  | some (o, l, e) =>
    let today := e - 86400 ≤ q
    if l = 1 then (if q < e then (o, b2n today, false) else if q = e then (o, 1, true) else (o + 1, 0, false))
    else if l = 2 then (if q < e - 1 then (o, 2 * b2n today, false) else (o - 1, 0, false))
    else (o, 0, false)

/-- Civil date of a day number since 1970-01-01 (Gregorian calendar). -/
def civil (d : Int) : Int × Nat × Nat :=
  let z := d + 719468
  let era := z.fdiv 146097
  let doe := (z - era * 146097).toNat
  let yoe := (doe - doe / 1460 + doe / 36524 - doe / 146096) / 365
  let doy := doe - (365 * yoe + yoe / 4 - yoe / 100)
  let mp := (5 * doy + 2) / 153
  let m := if mp < 10 then mp + 3 else mp - 9
  ((yoe : Int) + era * 400 + (if m ≤ 2 then 1 else 0), m, doy - (153 * mp + 2) / 5 + 1)

/-- A number as decimal digits, at least `w` of them. -/
def digits (w n : Nat) : String :=
  let t := toString n
  String.ofList (List.replicate (w - t.length) '0') ++ t

def hexDigit (n : Nat) : Char := "0123456789ABCDEF".toList.getD n '0'

/-- The time-of-day line for the whole TAI second q (R657). -/
def State.todLine (s : State) (q : Int) : Bytes :=
  let (o, l, leap) := s.utcAt q
  let utc := if leap then q - o - 1 else q - o
  let day := utc.fdiv 86400
  let sod := (utc - day * 86400).toNat
  let (y, m, d) := civil day
  let secs := if leap then 60 else sod % 60
  let core := "DXTOD," ++ digits 4 y.toNat ++ "-" ++ digits 2 m ++ "-" ++ digits 2 d ++ "T" ++ digits 2 (sod / 3600) ++ ":" ++
    digits 2 (sod / 60 % 60) ++ ":" ++ digits 2 secs ++ "Z," ++ toString o ++ "," ++ toString s.quality ++ "," ++ toString l
  let x := (ascii core).foldl (fun a b => a ^^^ b.toNat) 0
  ascii ("$" ++ core ++ "*" ++ String.ofList [hexDigit (x / 16), hexDigit (x % 16)]) ++ [13, 10]

/-- The line of this second, 10 ms after it began (R657). -/
def State.todDue (s : State) (n : Nat) : State :=
  let v := s.pulseVal n
  let q := s.time64.fdiv sec
  if s.hasOut n && s.up .timebase && !(s.timeOut n).floating && v.mode = 2 && s.timed && v.gate ≤ s.quality
      && (10 * ms : Nat) ≤ s.time64 - q * sec && (s.timeOut n).todSec ≠ some q then
    (s.setOut n fun o => { o with todSec := some q }).emit (.tod n (if v.baud = 1 then 115200 else 9600) (s.todLine q))
  else s

/-! ### Captures (R659 to R662) -/

def State.capIn (s : State) (n : Nat) : Capture := s.caps.getD n Capture.reset
def State.setCap (s : State) (n : Nat) (f : Capture → Capture) : State := { s with caps := modNth s.caps n f }

/-- A capture record (Table 13.8). -/
def State.capRecord (s : State) (n : Nat) (rising : Bool) (quarter : Nat) (miss late : Bool) (seq : Nat) : Bytes :=
  let f := s.tb.fine s.now + quarter * 250000000000
  let frac := ((f % fineUnit) * 4 / fineUnit).toNat * 0x4000
  let flags := b2n rising + 2 * b2n (s.tb.st ≠ .locked || late) + 4 * b2n miss
  leInt 8 (f.fdiv fineUnit) ++ leBytes 2 frac ++ [byte n, byte flags] ++ leBytes 2 seq ++ [byte s.quality, 0]

/-- Post the buffered records of an input in order, as far as the queue accepts them (R661). -/
def State.postCaptures (s : State) (n : Nat) : Nat → State
  | 0 => s
  | fuel + 1 =>
    match (s.capIn n).buffer with
    | [] => s
    | r :: rest =>
      match s.post? (s.cfg 0x2210 0) r with
      | none => s
      | some s' => (s'.setCap n fun c => { c with buffer := rest }).postCaptures n fuel

/-- A captured edge: its record is stored and posted, or held (R659, R661). -/
def State.capture (s : State) (n : Nat) (rising : Bool) (quarter : Nat) (late : Bool) : State :=
  let c := s.capIn n
  let r := s.capRecord n rising quarter c.miss late c.seq
  let full := 16 ≤ c.buffer.length
  let s := s.setCap n fun c =>
    { c with seq := wrap 16 (c.seq + 1), lastAt := some (4 * s.now + quarter), miss := full, count := wrap 32 (c.count + 1), last := r,
             missed := wrap 32 (c.missed + b2n full), buffer := if full then c.buffer else c.buffer ++ [r] }
  if late then s else s.postCaptures n 17

/-- An edge on input n (R659, R660, R662). -/
def State.capEdge (s : State) (n : Nat) (rising : Bool) (quarter : Nat) : State :=
  let late := (s.isl .timebase).st = .restarting
  if s.hasCap n && (s.up .timebase || late) then
    let edge := (s.tb.fine s.now + quarter * 250000000000).fdiv fineUnit
    let s := if rising && s.cfg 0x2018 0 = n && !late then s.ppsEdge edge else s
    let cf := s.cfg (0x2200 + n) 0
    if bit cf 2 && bit cf (if rising then 0 else 1) then
      let soon : Bool := match (s.capIn n).lastAt with
        | some t => decide (4 * s.now + quarter < t + 400)
        | none => false
      if soon then s.setCap n fun c => { c with miss := true, missed := wrap 32 (c.missed + 1) }
      else s.capture n rising quarter late
    else s
  else s

/-! ### The reference (R633, R634) -/

def State.refinLost (s : State) : State :=
  let now : State := { s with tb := { s.tb with refClock := 0 } }
  if s.tb.refin then
    let r := now.rollBound
    ({ r with tb := { r.tb with refin := false } } : State).logEv .refinLost []
  else now

/-- A clock (1 10 MHz, 2 25 MHz) has been present for 10 s: the counter returns to it where RefinConfig names its frequency. -/
def State.refinBack (s : State) (clock : Nat) : State :=
  let s := s.rollBound
  let now : State := { s with tb := { s.tb with refClock := clock } }
  if !s.tb.refin && clock ≠ 0 && clock = s.cfg 0x2015 0 then
    ({ now with tb := { now.tb with refin := true } } : State).logEv .refinBack []
  else now

/-- RefinConfig is v: the counter runs from REFIN where it names the frequency of the clock present, and else from the internal
oscillator, at once (R633). -/
def State.refinChosen (s : State) (v : Nat) : State :=
  let s := s.rollBound
  { s with tb := { s.tb with refin := v ≠ 0 && v = s.tb.refClock } }

/-- After a chip or power-on reset (R635, R665). -/
def State.timebaseReset (s : State) : State :=
  let clock := s.tb.refClock
  let on : Bool := clock ≠ 0 && s.cfg 0x2015 0 = clock
  { s with tb := { Timebase.reset s.now with refin := on, refClock := clock }, outs := s.outs.map fun _ => TimeOut.reset, caps := s.caps.map fun _ => Capture.reset }

end Sys2Proof.Machine
end

