-- ==== Sys2Proof/Machine/StopOps.lean ====
section
/-!
DEFINITION. The Stop Bath: latches and go bits of both channels, stop inputs and outputs, commands, notices, votes and release
(11_conformance_stop_bath.md R521 to R561; 02_architecture.md R68, R69, R81).
-/

namespace Sys2Proof.Machine

/-! ### Neighbour entries (Table 6.2) -/

/-- Neighbour n's entry of the active region group: empty, or 4 bytes of ID and key slot and a polygon. -/
def State.nbrEntry (s : State) (n : Nat) : Bytes := s.cfgB 0x4046 (n + 1)
def State.nbrPresent (s : State) (n : Nat) : Bool := n < 12 && s.nbrEntry n ≠ []
def State.nbrId (s : State) (n : Nat) : Nat := u (s.nbrEntry n) 0 2
def State.nbrKeySlot (s : State) (n : Nat) : Nat := u (s.nbrEntry n) 2 2
def State.nbr (s : State) (n : Nat) : Neighbour := s.comb.nbrs.getD n Neighbour.reset
def State.setNbr (s : State) (n : Nat) (f : Neighbour → Neighbour) : State :=
  { s with comb := { s.comb with nbrs := modNth s.comb.nbrs n f } }

/-- The neighbour whose key slot a caller's session was opened with (R294). -/
def State.nbrOfCaller (s : State) (c : Caller) : Option Nat :=
  match c with
  | .coil i _ =>
    (match Tbl.get? s.dict.sessions i with
    | some x => if x.nbr.isSome then none else (List.range 12).find? fun n => s.nbrPresent n && s.nbrKeySlot n = x.slot
    | none => none)
  | .usdo _ _ => none
  | .applet _ _ => none
  | .firmware => none

/-- The segments of a TRANSACT to a port (Table 3.5, R133): records of up to 1,348 bytes, in order. -/
def transactRecs (req index total : Nat) : Nat → Nat → Bytes → List Bytes
  | 0, _, _ => []
  | fuel + 1, off, b =>
    let d := b.take 1348
    ([6, 0] ++ leBytes 2 (wrap 16 req) ++ leBytes 2 index ++ [0, 0] ++ leBytes 4 off ++ leBytes 4 total ++ leBytes 2 d.length ++ zeros 2 ++ pad4 d)
      :: (if b.length ≤ 1348 then [] else transactRecs (req + 1) index total fuel (off + 1348) (b.drop 1348))

/-- Whether the session this device opened to neighbour n can carry a message now. -/
def State.nbrOn (s : State) (n : Nat) : Bool := (s.nbr n).session.isSome && s.up .network && s.up .compute

/-- Send a TRANSACT to a port of neighbour n over the session this device opened to it (R293): each segment in a DATA datagram of its own,
the largest filling one. -/
def State.toNbr (s : State) (n index : Nat) (msg : Bytes) : State :=
  match (if s.nbrOn n then (s.nbr n).session else none) with
  | none => s
  | some i =>
    let s := s.emit (.nbr n index msg)
    match Tbl.get? s.dict.sessions i with
    | none => s
    | some x =>
      let rs := transactRecs x.reqNext index msg.length (msg.length / 1348 + 1) 0 msg
      let outs := rs.mapIdx fun k p => Out.data i (x.txSeq + 1 + k) p (x.datagram 3 (x.txSeq + 1 + k) p)
      let s := s.setSession i fun y => { y with txSeq := y.txSeq + rs.length, reqNext := wrap 16 (y.reqNext + rs.length) }
      { s with out := outs.reverse ++ s.out }

/-! ### Latches of a channel (Table 11.4) -/

def StopLatches.bits (x : StopLatches) : Latch → Nat
  | .all => x.all
  | .zone z => Tbl.getD x.zones z 0
  | .group g => Tbl.getD x.groups g 0
  | .machine m => Tbl.getD x.machines m 0

def StopChan.bits (ch : StopChan) (l : Latch) : Nat := ch.latches.bits l

def putBits (t : Tbl Nat) (k v : Nat) : Tbl Nat := if v = 0 then Tbl.del t k else Tbl.put t k v

def StopLatches.put (x : StopLatches) (l : Latch) (v : Nat) : StopLatches :=
  match l with
  | .all => { x with all := v }
  | .zone z => { x with zones := putBits x.zones z v }
  | .group g => { x with groups := putBits x.groups g v }
  | .machine m => { x with machines := putBits x.machines m v }

def StopChan.put (ch : StopChan) (l : Latch) (v : Nat) : StopChan := ch.latched (ch.latches.put l v)

/-- An upset of one latch in one copy, which the vote corrects (R49). -/
def StopChan.upsetIn (ch : StopChan) (copy : Nat) (l : Latch) (v : Nat) : StopChan :=
  { ch with copies := ch.copies.struck copy (ch.latches.put l v) }

def StopChan.set (ch : StopChan) (l : Latch) (src : Nat) : StopChan := ch.put l (setBit (ch.bits l) src)

/-- Union of two tables of source bits. -/
def unionBits (a b : Tbl Nat) : Tbl Nat := b.foldl (fun t e => Tbl.put t e.1 (Tbl.getD t e.1 0 ||| e.2)) a

/-- The channel with the other's latches joined to its own (R81). -/
def StopChan.union (a b : StopChan) : StopChan :=
  a.latched { all := a.all ||| b.all, zones := unionBits a.zones b.zones, groups := unionBits a.groups b.groups,
              machines := unionBits a.machines b.machines }

/-- No latch of any scope is set. -/
def StopChan.clear (ch : StopChan) : Bool := ch.all = 0 && ch.zones = [] && ch.groups = [] && ch.machines = []

/-- The two channels' latch together: the source bits of a latch (Table 11.13). -/
def StopBath.latch (b : StopBath) (l : Latch) : Nat := b.a.bits l ||| b.b.bits l

/-! ### Service, go and epochs (R522 to R525) -/

/-- The device is in service (R522). -/
def State.inService (s : State) : Bool := s.keys.life = .commissioned && s.clash.isNone && !s.boot.boant

def State.stopGroup (s : State) (slot : Nat) : Nat := s.mach slot 0x40

/-- Whether slot `m` is a member of zone z (R524). -/
def StopBath.member (b : StopBath) (z m : Nat) : Bool := (Tbl.getD b.members z []).contains m

/-- Whether a latch of the channel covers slot m (Table 11.4). -/
def State.covered (s : State) (ch : StopChan) (m : Nat) : Bool :=
  ch.all ≠ 0 || Tbl.has ch.machines m || Tbl.has ch.groups (s.stopGroup m) || ch.zones.any fun z => s.stop.member z.1 m

/-- The slots a channel holds in go (R523). -/
def State.goList (s : State) (ch : StopChan) : List Nat :=
  if !s.inService || ch.all ≠ 0 then [] else (List.range s.tier).filter fun m => !s.covered ch m

/-- The slots whose go bit differs. -/
def changed (a b : List Nat) : List Nat := (a.filter fun m => !b.contains m) ++ (b.filter fun m => !a.contains m)

/-- A channel's go bits are made anew; each slot that changes takes its next stop epoch (R525). -/
def StopChan.regoing (ch : StopChan) (go : List Nat) : StopChan :=
  { ch with go := go, epochs := (changed ch.go go).foldl (fun t m => Tbl.put t m (wrap 32 (Tbl.getD t m 0 + 1))) ch.epochs }

/-- Whether the two channels differ in any go bit or stop epoch (R549). -/
def StopBath.differ (b : StopBath) : Bool := b.a.go ≠ b.b.go || b.a.epochs ≠ b.b.epochs

/-- Both channels run. -/
def State.channelsUp (s : State) : Bool := s.up .timebase && s.up .aon
/-- Either channel's island is restarting (R69). -/
def State.channelRestarting (s : State) : Bool := (s.isl .timebase).st = .restarting || (s.isl .aon).st = .restarting

/-- Slots that both channels hold in go. -/
def StopBath.go (b : StopBath) : List Nat := b.a.go.filter fun m => b.b.go.contains m

/-- The go bits of every running channel are made anew from its latches; a slot that thereby stops has its stop frame inserted in
its next events (R550); a difference between the channels begins to be timed (R549). -/
def State.refreshGo (s : State) : State :=
  let old := s.stop.go
  let a := if s.up .timebase then s.stop.a.regoing (s.goList s.stop.a) else s.stop.a
  let b := if s.up .aon then s.stop.b.regoing (s.goList s.stop.b) else s.stop.b
  let st := { s.stop with a := a, b := b }
  let new := st.go
  let frames := (old.filter fun m => !new.contains m).foldl (fun t m => Tbl.put t m (3, s.now)) st.frames
  let differ := s.channelsUp && st.differ
  let dis := if differ then (match st.disagree with
    | some t => some t
    | none => some s.now) else none
  { s with stop := { st with frames := frames, disagree := dis } }

/-! ### Setting a latch (R512, R521, R542, R68) -/

/-- Key of a latch and source in the table of reasons. -/
def reasonKey (l : Latch) (src : Nat) : Nat := (l.scope * 2048 + l.target) * 16 + src

/-- What one channel does with a source while its island is in state `st`: a restarting island's gasket holds it (R68). -/
def StopChan.takeSource (ch : StopChan) (st : IslandState) (l : Latch) (src : Nat) : StopChan :=
  match st with
  | .running => ch.set l src
  | .restarting => { ch with held := ch.held ++ [(l, src)] }
  | .inReset => ch
  | .failed => ch
  | .absent => ch

/-- Body of a neighbour stop notice (R540). -/
def State.noticeBody (s : State) (scope reason : Nat) : Bytes :=
  leBytes 2 s.controllerId ++ [byte scope, 0] ++ leBytes 4 reason ++ leInt 8 s.time64

/-- Send a stop notice to every neighbour that is not lost (R542). -/
def State.sendNotices (s : State) (reason : Nat) : State :=
  let mode := s.cfg 0x4861 0
  if mode = 0 then s
  else
    let body := s.noticeBody (if mode = 1 then 1 else 0) reason
    ((List.range 12).filter fun n => s.nbrPresent n && (s.nbr n).st ≠ .lost).foldl (fun s n =>
      let x : StopNotice := { nbr := n, body := body, since := s.now, last := s.now }
      let s := { s with stop := { s.stop with notices := s.stop.notices ++ [x] } }
      s.toNbr n 0x4862 body) s

/-- A stop source sets its latch in both channels, with the reason it brought (Table 11.8). -/
def State.setLatch (s : State) (l : Latch) (src reason : Nat) : State :=
  let had := s.stop.latch l
  let a := s.stop.a.takeSource (s.isl .timebase).st l src
  let b := s.stop.b.takeSource (s.isl .aon).st l src
  let s := { s with stop := { s.stop with a := a, b := b, reasons := Tbl.put s.stop.reasons (reasonKey l src) reason } }
  let s := s.refreshGo
  let s := if !bit had src && bit (s.stop.latch l) src then s.count 0x10 src 1 else s
  if l = .all && src ≠ 7 && !bit had src && bit (s.stop.latch .all) src then s.sendNotices reason else s

/-! ### Stop inputs (R528 to R531) -/

/-- Fields of StopInConfig (Table 11.6). -/
def siMode (c : Nat) : Nat := bits c 30 2
def siLatch (c : Nat) : Latch :=
  match bits c 28 2 with
  | 1 => .group (bits c 22 6)
  | 2 => .zone (bits c 22 6)
  | _ => .all
def siDebounce (c : Nat) : Nat := bits c 12 10 * 10 * us
def siDiscrepancyTime (c : Nat) : Nat := bits c 2 10 * ms

def State.siCfg (s : State) (n : Nat) : Nat := s.cfg 0x4850 (n + 1)
def StopBath.inp (b : StopBath) (n : Nat) : StopIn := b.ins.getD n StopIn.reset

/-- Whether a pin's level is its go level: both high, or _A high and _B low in antivalent mode. -/
def goLevel (c pin : Nat) (level : Bool) : Bool := if siMode c = 2 && pin = 1 then !level else level

def StopIn.goA (i : StopIn) (c : Nat) : Bool := goLevel c 0 i.a.deb
def StopIn.goB (i : StopIn) (c : Nat) : Bool := goLevel c 1 i.b.deb

/-- Input n, enabled, is in stop (R530, R531). -/
def State.siStopped (s : State) (n : Nat) : Bool :=
  let c := s.siCfg n
  let i := s.stop.inp n
  siMode c ≠ 0 && (!i.goA c || !i.goB c || i.lock ≠ .none)

/-- The lock's progress: both pins in stop together, then both in go (R531). -/
def DiscLock.next (l : DiscLock) (a b : Bool) : DiscLock :=
  match l with
  | .none => .none
  | .locked => if !a && !b then .bothStop else .locked
  | .bothStop => if a && b then .none else .bothStop

def State.setIn (s : State) (n : Nat) (f : StopIn → StopIn) : State :=
  { s with stop := { s.stop with ins := modNth s.stop.ins n f } }

/-- The input is judged anew after a debounced state or its configuration changed. -/
def State.siJudge (s : State) (n : Nat) : State :=
  let c := s.siCfg n
  let s := s.setIn n fun i =>
    let a := i.goA c; let b := i.goB c
    { i with lock := i.lock.next a b, differ := if siMode c ≠ 0 && a ≠ b then (match i.differ with
        | some t => some t
        | none => some s.now) else none }
  if s.siStopped n then s.setLatch (siLatch c) n 0 else s

/-- A pin takes a level: one that lasted less than 2 µs is ignored, as if the level before it had held on (R529). -/
def StopPin.take (x : StopPin) (now : Nat) (level : Bool) : StopPin :=
  if x.level = level then x
  else if now < x.since + 2 * us then { x with level := level, since := x.before }
  else { x with level := level, since := now, before := x.since }

/-- A level change on a pin (R529). -/
def State.siPin (s : State) (n pin : Nat) (level : Bool) : State :=
  let p : StopPin → StopPin := fun x => x.take s.now level
  s.setIn n fun i => if pin = 0 then { i with a := p i.a } else { i with b := p i.b }

def StopIn.pin (i : StopIn) (pin : Nat) : StopPin := if pin = 0 then i.a else i.b

/-- A pin has held its level for the debounce time, and for the 2 µs below which a level is ignored (R529). -/
def State.siHeld (s : State) (n pin : Nat) : Bool :=
  let x := (s.stop.inp n).pin pin
  x.deb ≠ x.level && x.since + max (siDebounce (s.siCfg n)) (2 * us) ≤ s.now

def State.siDebounced (s : State) (n pin : Nat) : State :=
  if s.siHeld n pin then
    let s := s.setIn n fun i =>
      if pin = 0 then { i with a := { i.a with deb := i.a.level } } else { i with b := { i.b with deb := i.b.level } }
    s.siJudge n
  else s

/-- The debounced states have differed for longer than the discrepancy time (R531). -/
def State.siDiscrepant (s : State) (n : Nat) : State :=
  let i := s.stop.inp n
  match i.differ with
  | none => s
  | some t =>
    if i.lock = .none && siMode (s.siCfg n) ≠ 0 && t + siDiscrepancyTime (s.siCfg n) < s.now then
      let s := s.logEv .siDiscrepancy []
      let s := s.setIn n fun i => { i with lock := .locked }
      s.siJudge n
    else s

/-! ### Stop outputs (R532 to R536) -/

def soScope (c : Nat) : Nat := bits c 30 2
def soTarget (c : Nat) : Nat := bits c 24 6
def soEnabled (c : Nat) : Bool := bit c 23
def soPulsed (c : Nat) : Bool := bit c 22
def soWidth (c : Nat) : Nat := bits c 16 6 * 10 * us
/-- The latch that faults of an output set (R535): for scope 0b11, the all latch. -/
def soLatch (c : Nat) : Latch :=
  match soScope c with
  | 1 => .group (soTarget c)
  | 2 => .zone (soTarget c)
  | _ => .all

def State.soCfg (s : State) (n : Nat) : Nat := s.cfg 0x4852 (n + 1)
def StopBath.outp (b : StopBath) (n : Nat) : StopOut := b.outs.getD n StopOut.reset
def State.setSo (s : State) (n : Nat) (f : StopOut → StopOut) : State :=
  { s with stop := { s.stop with outs := modNth s.stop.outs n f } }

/-- Whether a channel leaves an output's drivers enabled: no latch of its scope is set in it. -/
def StopChan.enables (ch : StopChan) (c : Nat) : Bool :=
  if soScope c = 3 then ch.clear else if soScope c = 0 then ch.all = 0 else ch.bits (soLatch c) = 0

/-- A channel whose island runs, or restarts with its outputs held (R80). -/
def State.chanHolds (s : State) (i : Island) : Bool := (s.isl i).st = .running || (s.isl i).st = .restarting

/-- Output n drives its pins (R533), apart from a pulse test. -/
def State.soEnabledNow (s : State) (n : Nat) : Bool :=
  let c := s.soCfg n
  n < 4 && soEnabled c && s.inService && s.chanHolds .timebase && s.chanHolds .aon && s.stop.a.enables c && s.stop.b.enables c

def State.soDriving (s : State) (n : Nat) : Bool := s.soEnabledNow n && (s.stop.outp n).pulse.isNone

/-- Whether readback of an output shows a level that it should not: not the driven levels while driving, a go level while
released (R535). -/
def soWrong (driving p n : Bool) : Bool := if driving then !p || n else p || !n

/-- A readback fault of output n (R535). -/
def State.soFaulted (s : State) (n : Nat) (pp nn : Bool) : State :=
  let c := s.soCfg n
  if n < 4 && soEnabled c && soWrong (s.soDriving n) pp nn && !(s.stop.outp n).readback && (s.stop.outp n).pulse.isNone then
    let s := s.setSo n fun o => { o with readback := true }
    (s.logEv .soFault []).setLatch (soLatch c) 8 0
  else s

/-- The pins are back at their expected levels (R536). -/
def State.soRecovered (s : State) (n : Nat) (pp nn : Bool) : State :=
  if (s.stop.outp n).readback && !soWrong (s.soDriving n) pp nn then s.setSo n fun o => { o with readback := false } else s

/-- A pulse test begins, once per second and not during another output's (R536). -/
def State.soPulseBegin (s : State) (n : Nat) : State :=
  let c := s.soCfg n
  let due : Bool := match (s.stop.outp n).lastTest with
    | some t => decide (t + sec ≤ s.now)
    | none => true
  if n < 4 && soEnabled c && soPulsed c && due && s.stop.outs.all (·.pulse.isNone) then
    s.setSo n fun o => { o with pulse := some s.now, lastTest := some s.now }
  else s

/-- A pulse test ends: both pins must have shown the stop level (R536). -/
def State.soPulseJudge (s : State) (n : Nat) (pp nn : Bool) : State :=
  match (s.stop.outp n).pulse with
  | none => s
  | some t =>
    if t + soWidth (s.soCfg n) ≤ s.now then
      let pass := !pp && nn
      let was := (s.stop.outp n).failed
      let s := s.setSo n fun o => { o with pulse := none, failed := !pass }
      if pass || was then s else (s.logEv .soFault []).setLatch (soLatch (s.soCfg n)) 8 0
    else s

/-! ### Commands and notices (R537 to R542) -/

/-- A latch by the scope codes of R537. -/
def latchOf (scope target : Nat) : Latch :=
  match scope with
  | 0 => .all
  | 1 => .zone target
  | 2 => .group target
  | _ => .machine target

/-- Whether a target is in range for its scope (R537, R560). -/
def State.targetOk (s : State) (scope target : Nat) : Bool :=
  match scope with
  | 0 => target = 0
  | 1 => target < 28
  | 2 => target < 64
  | 3 => target < s.tier
  | _ => target = 0

/-- Whether a StopCommand's target is one R537 allows. -/
def State.commandTargetOk (s : State) (scope target : Nat) : Bool :=
  s.targetOk scope target &&
    (scope ≠ 1 || (if target < 16 then s.cfgB 0x4855 (target + 1) ≠ [] else s.nbrPresent (target - 16)))

/-- StopCommand takes effect (R537). -/
def State.applyStop (s : State) (v : Bytes) : State :=
  let s := s.setLatch (latchOf (u v 0 1) (u v 2 2)) 4 (u v 4 4)
  s.logEv .stopCommand (slice v 0 1 ++ slice v 2 2 ++ slice v 4 4)

/-- StopCommand (R537, R538). Its length is checked before. -/
def State.stopCmd (s : State) (v : Bytes) (c : Caller) : State × Option Ans :=
  if 3 < u v 0 1 || u v 1 1 ≠ 0 then (s, some Ans.invalid)
  else if !s.commandTargetOk (u v 0 1) (u v 2 2) then (s, some (Ans.bad 0x05480002))
  else if s.up .timebase || s.up .aon then (s.applyStop v, some (Ans.done []))
  else
    let s := s.applyStop v
    ({ s with stop := { s.stop with waiting := s.stop.waiting ++ [(v, c)] } }, none)

/-- A neighbour's stop notice (R540, R541). -/
def State.stopNotice (s : State) (msg : Bytes) (c : Caller) : State × Option Ans :=
  match s.nbrOfCaller c with
  | none => (s, some Ans.privilege)
  | some n =>
    if msg.length ≠ 16 then (s, some Ans.length)
    else if u msg 0 2 ≠ s.nbrId n then (s, some (Ans.no 0x20 0x05400120))
    else if 1 < u msg 2 1 || u msg 3 1 ≠ 0 then (s, some Ans.invalid)
    else if bit (s.cfg 0x4860 0) n then
      (s.setLatch (if u msg 2 1 = 0 then .all else .zone (16 + n)) 7 (u msg 4 4), some (Ans.done []))
    else (s.logEv .stopNoticeIgnored [], some Ans.note)

/-- An unanswered notice is repeated every 2 ms for up to 200 ms (R542). -/
def State.repeatNotice (s : State) (n : Nat) : State :=
  let due := s.stop.notices.filter fun x => x.nbr = n && x.last + 2 * ms ≤ s.now && s.now < x.since + 200 * ms
  let notices := (s.stop.notices.filter fun x => x.nbr ≠ n || s.now < x.since + 200 * ms).map fun x =>
    if x.nbr = n && x.last + 2 * ms ≤ s.now then { x with last := s.now } else x
  let s := { s with stop := { s.stop with notices := notices } }
  due.foldl (fun s x => s.toNbr n 0x4862 x.body) s

/-! ### Votes and disagreement (R543, R549) -/

def StopChan.vote (ch : StopChan) (chan now : Nat) : Vote := { chan := chan, go := ch.go, epochs := ch.epochs, at_ := now }

/-- Every running channel sends its vote (R543); votes that no event can use any more are dropped. -/
def State.sendVotes (s : State) : State :=
  let kept := s.stop.votes.filter fun v => s.now ≤ v.at_ + 250 * us
  let a := if s.up .timebase then [s.stop.a.vote 0 s.now] else []
  let b := if s.up .aon then [s.stop.b.vote 1 s.now] else []
  { s with stop := { s.stop with votes := b ++ a ++ kept } }

/-- The channels have differed for more than 40 µs (R549). -/
def State.channelsDisagree (s : State) : State :=
  match s.stop.disagree with
  | none => s
  | some t =>
    if t + 40 * us < s.now && s.stop.differ then (s.logEv .stopChannelDisagree []).setLatch .all 10 0 else s

/-! ### Release (R556 to R561) -/

/-- A channel with the latches of a release cleared. -/
def StopChan.release (ch : StopChan) (scope target : Nat) : StopChan :=
  if scope = 4 then ch.latched { all := 0, zones := [], groups := [], machines := [] } else ch.put (latchOf scope target) 0

/-- Whether the latches a release names are clear in both channels (rule 1). -/
def State.releaseClear (s : State) (scope target : Nat) : Bool :=
  if scope = 4 then s.stop.a.clear && s.stop.b.clear else s.stop.latch (latchOf scope target) = 0

/-- Whether a latch is one a release step names. -/
def names (scope target : Nat) (l : Latch) : Bool := scope = 4 || l = latchOf scope target

/-- Rule 2: a source of the named latches is still active. -/
def State.sourceActive (s : State) (scope target : Nat) : Bool :=
  ((List.range 4).any fun n => s.siStopped n && names scope target (siLatch (s.siCfg n)))
    || ((List.range 4).any fun n => ((s.stop.outp n).readback || (s.stop.outp n).failed) && names scope target (soLatch (s.soCfg n)))
    || ((scope = 0 || scope = 4) && s.islands.any fun i => i.st = .failed)
    || !s.inService
    || ((scope = 0 || scope = 4) && s.track.mode = 1)

/-- Policy entry of a row in a fleet mode's active column: action and count (Table 11.3). -/
def State.policy (s : State) (mode row : Nat) : Nat × Nat :=
  let b := s.cfgB 0x4802 (mode + 1)
  (u b (4 * row) 1, u b (4 * row + 1) 1)

def State.confSlot (s : State) (m : Nat) : ConfSlot := Tbl.getD s.conf.slots m ConfSlot.reset

/-- A slot's counter of a row is at or above count in a row whose action stops (rule 3). Row 8 has no count. -/
def State.verdictActive (s : State) (m : Nat) : Bool :=
  let x := s.confSlot m
  x.since.isSome && [0, 1, 2, 3, 4, 5, 6, 8].any fun row =>
    let p := s.policy x.acked row
    2 ≤ p.1 && p.1 ≤ 4 && (if row = 8 then 1 else p.2) ≤ nth x.counters row

/-- Slots that would become go by a release. -/
def State.wouldGo (s : State) (scope target : Nat) : List Nat :=
  (s.goList (s.stop.a.release scope target)).filter fun m =>
    (s.goList (s.stop.b.release scope target)).contains m && !s.stop.go.contains m

/-- Checks of both release steps before and through rule 3 (R559, R560, R69). The privilege of scopes 0 and 4 is Engineer. -/
def State.releaseChecks (s : State) (scope byte1 target priv : Nat) : Option Ans :=
  firstFail
    [(priv ≥ 2 || (scope ≠ 0 && scope ≠ 4), Ans.privilege), (byte1 = 0, Ans.invalid), (!s.channelRestarting, Ans.fault),
     (scope ≤ 4 && s.targetOk scope target, Ans.bad 0x05480002), (!s.releaseClear scope target, Ans.state 0x05480010),
     (!s.sourceActive scope target, Ans.state 0x05480011),
     ((s.wouldGo scope target).all fun m => !s.verdictActive m, Ans.state 0x05480012)]

/-- ReleaseArm (R556, R558). -/
def State.releaseArmed (s : State) (v : Bytes) (priv : Nat) : State × Option Ans :=
  match s.releaseChecks (u v 0 1) (u v 1 1) (u v 2 2) priv with
  | some a => (if a = Ans.fault then { s with stop := { s.stop with arm := none } } else s, some a)
  | none =>
    let d := s.draw
    let arm : Arm := { scope := u v 0 1, target := u v 2 2, number := wrap 32 d.2, at_ := s.now }
    ({ d.1 with stop := { s.stop with arm := some arm } }, some (Ans.done []))

/-- Rules 4 to 6 of a confirm. -/
def State.confirmChecks (s : State) (v : Bytes) : Option Ans :=
  match s.stop.arm with
  | none => some (Ans.state 0x05480013)
  | some a =>
    firstFail
      [(a.scope = u v 0 1 && a.target = u v 2 2 && a.number = u v 4 4, Ans.state 0x05480013),
       (a.at_ + s.cfg 0x4844 0 * ms ≤ s.now, Ans.state 0x05480014), (s.now ≤ a.at_ + s.cfg 0x4845 0 * sec, Ans.state 0x05480015)]

/-- The reasons kept of latches that a release clears go with them. -/
def StopBath.dropReasons (b : StopBath) (scope target : Nat) : Tbl Nat :=
  if scope = 4 then [] else b.reasons.filter fun e => e.1 / 16 ≠ (latchOf scope target).scope * 2048 + (latchOf scope target).target

/-- ReleaseConfirm (R557, R558, R561). -/
def State.releaseConfirmed (s : State) (v : Bytes) (priv : Nat) : State × Option Ans :=
  let bad := match s.releaseChecks (u v 0 1) (u v 1 1) (u v 2 2) priv with
    | some a => some a
    | none => s.confirmChecks v
  let st := { s.stop with arm := none }
  match bad with
  | some a => ({ s with stop := st }, some a)
  | none =>
    let sc := u v 0 1
    let tg := u v 2 2
    let st := { st with a := st.a.release sc tg, b := st.b.release sc tg, reasons := st.dropReasons sc tg }
    (({ s with stop := st } : State).refreshGo, some (Ans.done []))

/-! ### The channels through restarts and resets (R68, R69, R81, R526, R527) -/

/-- A restarted channel joins its latches with the other's, takes the sources its gasket held, and votes again (R68, R81). -/
def StopChan.returned (ch other : StopChan) : StopChan :=
  let ch := ch.union other
  { ch.held.foldl (fun c h => c.set h.1 h.2) ch with held := [] }

/-- Answer the StopCommands that waited for a channel (R538). -/
def State.answerWaiting (s : State) : State :=
  let w := s.stop.waiting
  let s := { s with stop := { s.stop with waiting := [] } }
  w.foldl (fun s x => s.answer x.2 (Ans.done [])) s

/-- A source that a channel took from its gasket, where neither channel had it before, counts and sends its notices as any other
(R542). -/
def State.heldTaken (s : State) (before : StopBath) (h : Latch × Nat) : State :=
  if bit (before.latch h.1) h.2 then s
  else
    let s := s.count 0x10 h.2 1
    if h.1 = .all && h.2 ≠ 7 then s.sendNotices (Tbl.getD s.stop.reasons (reasonKey h.1 h.2) 0) else s

/-- A channel's island returns from its restart. -/
def State.channelReturned (s : State) (i : Island) : State :=
  let st := s.stop
  let s : State × List (Latch × Nat) := match i with
    | .timebase => ({ s with stop := { st with a := st.a.returned st.b } }, st.a.held)
    | .aon => ({ s with stop := { st with b := st.b.returned st.a } }, st.b.held)
    | _ => (s, [])
  (s.2.eraseDups.foldl (fun s h => s.heldTaken st h) s.1.refreshGo).answerWaiting

/-- A release in progress is cancelled (R69). -/
def State.cancelRelease (s : State) : State := { s with stop := { s.stop with arm := none } }

/-- A reset sets the all latch with source 11 in both channels (R526), of which the neighbours are told as R542 says. -/
def State.resetLatch (s : State) : State :=
  let st := s.stop
  let had := bit (st.latch .all) 11
  let st := { st with a := (st.a.set .all 11), b := (st.b.set .all 11), arm := none }
  let st := { st with a := { st.a.regoing [] with held := [] }, b := { st.b.regoing [] with held := [] } }
  let s : State := { s with stop := st }
  if had then s else (s.count 0x10 11 1).sendNotices 0

end Sys2Proof.Machine
end

