-- ==== Sys2Proof/Machine/CanOps.lean ====
section
/-!
DEFINITION. What the CAN FD ports do: reception and placement, buffers, filters and FIFOs, sends and cancels, fault confinement,
the time master, sleep and wake, stop frames (15_can_ports.md). The error counters of fault confinement are those of ISO 11898-1,
which the spec names (PRESUMED, log entry 10).
-/

namespace Sys2Proof.Machine

def State.canPort (s : State) (n : Nat) : CanPort := s.can.ports.getD n (CanPort.reset 0)
def State.setCan (s : State) (n : Nat) (f : CanPort → CanPort) : State := { s with can := { s.can with ports := modNth s.can.ports n f } }

/-! ### Port values (Tables 15.1 and 15.2) -/

/-- Ports of the variant (R28). -/
def State.hasCan (s : State) (n : Nat) : Bool := n < 8 && (s.packageA || n < 4)

/-- The active CanPortConfig of a port. -/
def State.canVal (s : State) (n : Nat) : Nat := s.cfg (0x2820 + n) 3
def canMode (v : Nat) : Nat := bits v 30 2
def canFd (v : Nat) : Bool := bit v 29
def canBrs (v : Nat) : Bool := bit v 28
def canOneShot (v : Nat) : Bool := bit v 27
def canStopSource (v : Nat) : Bool := bit v 26
def canAutoRecover (v : Nat) : Bool := bit v 25
def canStopOnBusOff (v : Nat) : Bool := bit v 24
def canNoAckLimit (v : Nat) : Nat := bits v 16 8

/-- The active mode, where the port is there to act on it (R40, Table 15.11). -/
def State.canModeOf (s : State) (n : Nat) : Nat := if s.hasCan n && !s.boot.boant then canMode (s.canVal n) else 0

/-- The port's controller runs. -/
def State.canUp (s : State) (n : Nat) : Bool := s.up .network && s.canModeOf n ≠ 0

/-- State a controller starts in (R713). -/
def State.canStart (s : State) (n : Nat) : Nat := if s.canModeOf n = 0 then 0 else 1

/-- CanState bits [2:0] (R731). -/
def CanPort.code (p : CanPort) : Nat := if p.st = 2 && (128 ≤ p.tec || 128 ≤ p.recErrs) then 3 else p.st
/-- CanState (R731). -/
def CanPort.value (p : CanPort) : Nat := p.code + 8 * b2n p.lonely

/-- A port takes part in bus traffic. -/
def CanPort.onBus (p : CanPort) : Bool := p.st = 2
/-- Whether a port's block is idle (Table 19.4). -/
def CanPort.idle (p : CanPort) : Bool := (p.st = 0 || p.st = 5) && p.pend = []

/-! ### Identifiers and frames -/

/-- Data bytes of a DLC (R715). -/
def dlcLen (fdf : Bool) (dlc : Nat) : Nat :=
  if dlc ≤ 8 then dlc
  else if !fdf then 8
  else match dlc with
    | 9 => 12 | 10 => 16 | 11 => 20 | 12 => 24 | 13 => 32 | 14 => 48 | _ => 64

/-- A frame as the bus carries it: fields within their formats. -/
def canNorm (f : CanFrame) : CanFrame :=
  let fdf := f.fdf && !f.rtr
  { f with id := f.id % (if f.ide then 2 ^ 29 else 2 ^ 11), fdf := fdf, brs := f.brs && fdf, esi := f.esi && fdf, dlc := f.dlc % 16,
           data := if f.rtr then [] else fit (dlcLen fdf (f.dlc % 16)) f.data }

/-- An 11-bit identifier in the alignment of Tables 15.3 and 15.4 has its upper 18 bits zero. -/
def idAligned (ide : Bool) (id : Nat) : Bool := ide || id < 2048

/-- Whether an identifier matches a pattern on the bits of a mask (R718). -/
def idMatches (id pattern mask : Nat) : Bool := (id ^^^ pattern) &&& mask = 0

/-- Order in which frames win arbitration: base identifier, standard before extended, identifier extension. -/
def arbKey (f : CanFrame) : Nat :=
  if f.ide then (f.id / 2 ^ 18) * 2 ^ 19 + 2 ^ 18 + f.id % 2 ^ 18 else f.id * 2 ^ 19

/-- Bytes 0 to 19 of a frame record, with its data (Table 15.4). -/
def CanRec.header (r : CanRec) : Bytes :=
  let f := r.frame
  leInt 8 r.time ++ leBytes 2 r.frac ++ leBytes 2 r.seq ++ leBytes 4 f.id
    ++ [byte (b2n r.fresh + 2 * b2n r.overrun + 4 * b2n f.fdf + 8 * b2n f.brs + 16 * b2n f.esi + 32 * b2n f.ide + 64 * b2n f.rtr),
        byte f.dlc, byte f.data.length, byte r.outcome]
/-- CanBuffer's 84 bytes. -/
def CanRec.bytes (r : CanRec) : Bytes := r.header ++ fit 64 r.frame.data
/-- A FIFO packet (R719). -/
def CanRec.packet (r : CanRec) : Bytes := r.header ++ pad4 r.frame.data

def CanRec.empty : CanRec :=
  { time := 0, frac := 0, seq := 0, fresh := false, overrun := false, outcome := 0,
    frame := { id := 0, ide := false, fdf := false, brs := false, esi := false, rtr := false, dlc := 0, data := [] } }

def CanPort.buf (p : CanPort) (b : Nat) : CanRec := Tbl.getD p.bufs b CanRec.empty
def CanPort.setBuf (p : CanPort) (b : Nat) (r : CanRec) : CanPort := { p with bufs := Tbl.put p.bufs b r }

/-- TIME64 and TFRAC16 of a start-of-frame edge (R714): a CAN port is not among the hardware of R178, and its TFRAC16 is zero. -/
def State.sofStamp (s : State) (sof : Nat) : Int × Nat := ((s.tb.fine (min sof s.now)).fdiv fineUnit, 0)

/-! ### Buffer and filter values (Tables 15.3, 15.5, 15.10) -/

def bufKind (v : Nat) : Nat := bits v 62 2
def bufIde (v : Nat) : Bool := bit v 61
def canIdOf (v : Nat) : Nat := bits v 29 29
def canMaskOf (v : Nat) : Nat := bits v 0 29

def State.bufVal (s : State) (n b : Nat) : Nat := s.cfg (0x2900 + n) (b + 1)
def State.filterVal (s : State) (n i : Nat) : Nat := s.cfg (0x29C0 + n) (i + 1)

/-- A CanBufferConfig value is legal (Table 15.3). -/
def bufferOk (v : Nat) : Bool :=
  bufKind v ≠ 3 && bits v 58 3 = 0 && idAligned (bufIde v) (canIdOf v) && (bufKind v ≠ 2 || canMaskOf v = 0)
/-- A CanFilter value is legal (Table 15.5). -/
def filterOk (v : Nat) : Bool := bits v 60 2 ≠ 3 && !bit v 58 && idAligned (bits v 60 2 ≠ 0) (canIdOf v)
/-- A CanWakeConfig value is legal (Table 15.10). -/
def wakeOk (v : Nat) : Bool := bits v 58 4 = 0 && idAligned (bit v 62) (canIdOf v)
/-- A CanStopId value is legal (R745). -/
def stopIdOk (v : Nat) : Bool := bits v 29 2 = 0 && idAligned (bit v 31) (bits v 0 29)

/-- A write to CanBufferConfig (R717). -/
def State.bufferCheck (s : State) (n b : Nat) : Option Ans :=
  if bufKind (s.bufVal n b) = 2 && (s.canPort n).pend.any (fun x => x.buf = b) then some (Ans.state 0x05280009) else none
/-- A written CanBufferConfig applies: a receive buffer's record is cleared (R717). -/
def State.bufferWritten (s : State) (n b old : Nat) : State :=
  if bufKind old = 1 || bufKind (s.bufVal n b) = 1 then s.setCan n fun p => { p with bufs := Tbl.del p.bufs b } else s

/-- A write to CanStopId (R745). -/
def State.stopIdCheck (s : State) : Option Ans :=
  if (List.range 8).any (fun n => s.hasCan n && canStopSource (s.canVal n)) && !s.stoppedAll then some (Ans.state 0x05280003) else none

/-- A write to CanBufferAck (R721). -/
def State.bufferAck (s : State) (n b seq : Nat) : State × Option Ans :=
  let r := (s.canPort n).buf b
  if r.seq ≠ seq then (s, some (Ans.state 0x05280008))
  else (s.setCan n fun p => if Tbl.has p.bufs b then p.setBuf b { r with fresh := false, overrun := false } else p, some (Ans.done []))

/-! ### Sends and cancels (R725 to R730) -/

/-- The response of CanTxPort (R726). -/
def txResponse (op outcome n b : Nat) (stamp : Int × Nat) (attempts : Nat) : Bytes :=
  [byte (op + 0x80), byte outcome, byte n, byte b] ++ zeros 4 ++ leInt 8 stamp.1 ++ leBytes 2 stamp.2 ++ leBytes 2 attempts ++ zeros 4

/-- The answer of a send or cancel with an outcome. -/
def txAns (op outcome n b : Nat) (stamp : Int × Nat) (attempts : Nat) : Ans :=
  let d := txResponse op outcome n b stamp attempts
  if outcome = 0 then Ans.done d else { outcome := outcome, abort := 0x05280100 + outcome, data := d, total := 0 }

/-- A pending send ends with an outcome: its buffer record says so, and its sender is answered. Ends by a fault or a reset of the
island carry the codes of Table 3.3. -/
def State.endSend (s : State) (n : Nat) (x : CanSend) (outcome : Nat) (stamp : Int × Nat) : State :=
  let s := s.setCan n fun p =>
    let r := p.buf x.buf
    let r := if outcome = 0 then { r with time := stamp.1, frac := stamp.2 } else r
    { p.setBuf x.buf { r with outcome := outcome } with pend := p.pend.filter fun y => y.buf ≠ x.buf }
  let a := match outcome with
    | 0x40 => Ans.fault | 0x41 => Ans.reset | _ => txAns 1 outcome n x.buf stamp x.attempts
  s.answer x.caller a

/-- A cancel that waited is answered. -/
def State.endCancel (s : State) (n : Nat) (x : CanSend) (outcome : Nat) : State :=
  match x.cancel with
  | some c => s.answer c (match outcome with
      | 0x40 => Ans.fault | 0x41 => Ans.reset | _ => txAns 2 outcome n x.buf (0, 0) 0)
  | none => s

/-- Every pending send of a port ends with one outcome; a cancel that waited on it finds nothing, or is discarded with it. -/
def State.endSends (s : State) (n outcome : Nat) : State :=
  (s.canPort n).pend.foldl (fun s x => (s.endSend n x outcome (0, 0)).endCancel n x (if 0x40 ≤ outcome then outcome else 0x1E)) s

/-- The pending sends of some callers end with one outcome. -/
def State.endSendsOf (s : State) (p : Caller → Bool) (outcome : Nat) : State :=
  (List.range 8).foldl (fun s n => ((s.canPort n).pend.filter fun x => p x.caller).foldl (fun s x => (s.endSend n x outcome (0, 0)).endCancel n x outcome) s) s

/-- REFUSED_CAN_FORMAT for the request itself (Table 15.6). -/
def txMalformed (req : Bytes) : Bool :=
  let op := u req 0 1; let flags := u req 3 1; let dlc := u req 4 1
  req.length < 8 || op = 0 || 2 < op || 7 < u req 1 1 || 127 < u req 2 1 || 3 < flags || 15 < dlc || u req 5 3 ≠ 0
    || (if op = 1 then (8 < dlc && !bit flags 0) || req.length ≠ 8 + dlcLen (bit flags 0) dlc
        else req.length ≠ 8 || flags ≠ 0 || dlc ≠ 0)

/-- The frame a send writes into its buffer. Bit rate is switched where the request and the port both ask for it. -/
def State.txFrame (s : State) (n b : Nat) (req : Bytes) : CanFrame :=
  let v := s.bufVal n b
  let fdf := bit (u req 3 1) 0
  { id := canIdOf v, ide := bufIde v, fdf := fdf, brs := fdf && bit (u req 3 1) 1 && canBrs (s.canVal n), esi := false, rtr := false,
    dlc := u req 4 1, data := req.drop 8 }

/-- A frame is pending in a buffer from now. Its record's time is no frame's yet: a free value; its TFRAC16 reads zero (R178). -/
def State.putSend (s : State) (c : Caller) (n b : Nat) (f : CanFrame) : State :=
  let (s, r) := s.draw
  let x : CanSend := { buf := b, caller := c, since := s.now, frame := f, attempts := 0, cancel := none }
  s.setCan n fun p =>
    let old := p.buf b
    { p.setBuf b { old with time := (r : Nat) % 2 ^ 63, frac := 0, seq := wrap 16 (old.seq + 1), frame := f } with pend := p.pend ++ [x] }

/-- A send request (R727); of an absent port it answers ABSENT (R29). -/
def State.canSendReq (s : State) (c : Caller) (req : Bytes) : State × Option Ans :=
  let n := u req 1 1; let b := u req 2 1
  let no (o : Nat) := (s, some (txAns 1 o n b (0, 0) 0))
  if txMalformed req then no 0x18
  else if !s.hasCan n then (s, some Ans.absent)
  else if bit (u req 3 1) 0 && !canFd (s.canVal n) then no 0x18
  else if s.canModeOf n ≠ 1 || !(s.canPort n).onBus then no 0x19
  else if bufKind (s.bufVal n b) ≠ 2 then no 0x1A
  else if (s.canPort n).pend.any (fun x => x.buf = b) then no 0x1B
  else (s.putSend c n b (s.txFrame n b req), none)

/-- A cancel request (R729). `trying` says that an attempt of the frame is in progress on the bus as it arrives. -/
def State.canCancelReq (s : State) (c : Caller) (req : Bytes) (trying : Bool) : State × Option Ans :=
  let n := u req 1 1; let b := u req 2 1
  let no (o : Nat) := (s, some (txAns 2 o n b (0, 0) 0))
  if txMalformed req then no 0x18
  else if !s.hasCan n then (s, some Ans.absent)
  else match (s.canPort n).pend.find? (fun x => x.buf = b) with
    | none => no 0x1E
    | some x =>
      if x.cancel.isSome then no 0x1E
      else if trying then (s.setCan n fun p => { p with pend := p.pend.map fun y => if y.buf = b then { y with cancel := some c } else y }, none)
      else (s.endSend n x 0x1C (0, 0), some (txAns 2 0 n b (0, 0) 0))

/-- A request to CanTxPort by its op. -/
def State.canTx (s : State) (c : Caller) (req : Bytes) (trying : Bool) : State × Option Ans :=
  if u req 0 1 = 2 then s.canCancelReq c req trying else s.canSendReq c req

/-! ### Fault confinement (R731 to R733, R749) -/

/-- Events and effects of the error counters after a change, from the port as it was. -/
def State.canConfine (s : State) (n was : Nat) : State :=
  let p := s.canPort n
  if p.st = 2 && 256 ≤ p.tec then
    let v := s.canVal n
    let s := s.setCan n fun p => { p with st := 4, recovering := canAutoRecover v }
    let s := (s.logEv .canBusOff []).endSends n 0x17
    if canStopSource v && canStopOnBusOff v then s.setLatch .all 5 0 else s
  else if was = 2 && p.code = 3 then s.logEv .canErrorPassive []
  else s

/-- CanNoAckCount after an attempt that ends in an acknowledgement error (R733). -/
def State.canNoAcked (s : State) (n : Nat) : State :=
  let c := min 65535 ((s.canPort n).noAck + 1)
  let due : Bool := c ≥ canNoAckLimit (s.canVal n) && !(s.canPort n).lonely
  let s := s.setCan n fun p => { p with noAck := c, lonely := p.lonely || due }
  if due then s.logEv .canNoAck [] else s

/-- The counters after an attempt (R731, R733); `fail` is an acknowledgement or other error. -/
def State.canErrored (s : State) (n : Nat) (ack : Bool) : State :=
  let passive : Bool := (s.canPort n).code = 3
  let s := if ack then s.canNoAcked n else s
  s.setCan n fun p => { p with errs := wrap 64 (p.errs + 1), tec := if ack && passive then p.tec else p.tec + 8 }

/-- The pending frame that is attempted: of those pending at a start of frame, the first in order (R728); none: the reference
message. Buffer 128 stands for the reference message. -/
def CanPort.first (p : CanPort) (sof : Nat) : Option (Nat × CanFrame) :=
  let own := (p.pend.filter fun x => x.since ≤ sof).map fun x => (x.buf, x.frame)
  let ref := match p.refMsg with
    | some m => if m.since ≤ sof then [(128, m.frame)] else []
    | none => []
  (own ++ ref).foldl (fun (best : Option (Nat × CanFrame)) x =>
    match best with
    | none => some x
    | some b => if arbKey x.2 < arbKey b.2 || (arbKey x.2 = arbKey b.2 && x.1 < b.1) then some x else some b) none

/-- A send's attempt ends (R729, R730, Table 15.7). -/
def State.sendTried (s : State) (n : Nat) (x : CanSend) (stamp : Int × Nat) (ok : Bool) : State :=
  let x := { x with attempts := min 65535 (x.attempts + 1) }
  if ok then (s.endSend n x 0 stamp).endCancel n x 0x1D
  else if canOneShot (s.canVal n) then (s.endSend n x 0x1F (0, 0)).endCancel n x 0x1E
  else if x.cancel.isSome then (s.endSend n x 0x1C (0, 0)).endCancel n x 0
  else s.setCan n fun p => { p with pend := p.pend.map fun y => if y.buf = x.buf then x else y }

/-- A reference message's attempt ends: once sent, its start of frame is kept for the next (R736, Table 15.9). -/
def State.refTried (s : State) (n : Nat) (m : CanRefMsg) (stamp : Int × Nat) (ok : Bool) : State :=
  if ok then
    let d := stamp.1 - m.k * (u (s.cfgB 0x2830 2) 8 4 * us : Nat)
    s.setCan n fun p => { p with refMsg := none, refSent := some (m.k, d) }
  else s

/-- A transmit attempt ends (R728 to R733). -/
def State.attemptEnd (s : State) (n b sof : Nat) (outcome : CanAttempt) : State :=
  let p := s.canPort n
  if !s.canUp n || s.canModeOf n ≠ 1 || !p.onBus then s
  else match p.first sof with
    | none => s
    | some (b', f) =>
      if b' ≠ b then s
      else
        let stamp := s.sofStamp sof
        let ok : Bool := outcome = .success
        let was := p.code
        let s := match outcome with
          | .success => (s.setCan n fun p => { p with tx := wrap 64 (p.tx + 1), tec := p.tec - 1, noAck := 0, lonely := false }).emit (.can n f)
          | .lostArbitration => s
          | .ackError => s.canErrored n true
          | .otherError => s.canErrored n false
        let s := match p.pend.find? (fun x => x.buf = b) with
          | some x => s.sendTried n x stamp ok
          | none => match p.refMsg with
            | some m => s.refTried n m stamp ok
            | none => s
        s.canConfine n was

/-- A bus error detected while receiving (R731): in listen-only no error frame is sent. -/
def State.canRxError (s : State) (n : Nat) : State :=
  let p := s.canPort n
  if !s.canUp n || !p.onBus then s
  else
    let was := p.code
    let s := s.setCan n fun p => { p with errs := wrap 64 (p.errs + 1), recErrs := min 65535 (p.recErrs + 1) }
    let s := if s.canModeOf n = 1 then s.emit (.canError n) else s
    s.canConfine n was

/-- A frame received without error lowers the receive error counter; from error-passive it becomes a value of 119 to 127, which the
standard leaves open. -/
def State.canRxGood (s : State) (n : Nat) : State :=
  if (s.canPort n).recErrs ≤ 127 then s.setCan n fun p => { p with recErrs := p.recErrs - 1 }
  else
    let (s, r) := s.draw
    s.setCan n fun p => { p with recErrs := 119 + r % 9 }

/-- CanRecover (R732). -/
def State.canRecoverReq (s : State) (n : Nat) : State × Option Ans :=
  if (s.canPort n).st ≠ 4 then (s, some (Ans.state 0x0528000A))
  else (s.setCan n fun p => { p with recovering := true }, some (Ans.done []))

/-- Recovery completes (R732). -/
def State.canRecovered (s : State) (n : Nat) : State :=
  let p := s.canPort n
  if s.canUp n && p.st = 4 && p.recovering then s.setCan n fun p => { p with st := 2, recovering := false, tec := 0, recErrs := 0 } else s

/-- Integration completes (R713). -/
def State.canIntegrated (s : State) (n : Nat) : State :=
  if s.canUp n && (s.canPort n).st = 1 then s.setCan n fun p => { p with st := 2 } else s

/-! ### Reception (R716 to R724, R739 to R748) -/

/-- A port serves USDO (R750). -/
def State.servesUsdo (s : State) (n : Nat) : Bool :=
  s.cfg 0x2810 (n + 1) = 1 && s.canModeOf n = 1 && canFd (s.canVal n) && (s.canPort n).st ≠ 5

/-- The second of the device's count, by which once-a-second events are kept apart. -/
def State.secondNow (s : State) : Nat := s.now / sec

/-- A frame with CanStopId on a stop-source port (R746 to R748). -/
def State.stopFrame (s : State) (n : Nat) (f : CanFrame) : State :=
  let scope := u f.data 0 1; let target := u f.data 2 2
  if !f.rtr && f.dlc = 8 && scope ≤ 3 && u f.data 1 1 = 0 && s.commandTargetOk scope target then
    (s.logEv .canStopFrame ([byte n] ++ slice f.data 0 1 ++ slice f.data 2 2 ++ slice f.data 4 4)).setLatch (latchOf scope target) 5 (u f.data 4 4)
  else
    let log : Bool := s.can.badLogged ≠ some s.secondNow
    let s := { s with can := { s.can with badStops := wrap 32 (s.can.badStops + 1), badLogged := some s.secondNow } }
    let s := if log then s.logEv .canStopFrameBad [] else s
    s.setLatch .all 5 0

/-- A receive buffer takes a frame (R720). -/
def CanPort.take (p : CanPort) (b : Nat) (stamp : Int × Nat) (f : CanFrame) : CanPort :=
  let old := p.buf b
  p.setBuf b { time := stamp.1, frac := stamp.2, seq := wrap 16 (old.seq + 1), frame := f, fresh := true, overrun := old.overrun || old.fresh, outcome := 0 }

/-- A FIFO takes a frame, or drops it (R724). The packet's seq and new_data bit are free values: the spec states them for a buffer. -/
def State.fifoTake (s : State) (n i : Nat) (stamp : Int × Nat) (f : CanFrame) : State :=
  let q := (s.canPort n).fifos.getD i CanFifo.reset
  if q.recs.length < 64 then
    let (s, r) := s.draw
    let x : CanRec := { time := stamp.1, frac := stamp.2, seq := r % 65536, frame := f, fresh := bit r 16, overrun := q.lost, outcome := 0 }
    s.setCan n fun p => { p with fifos := modNth p.fifos i fun q => { q with recs := q.recs ++ [x], lost := false } }
  else
    let log : Bool := q.logged ≠ some s.secondNow
    let sn := s.secondNow
    let s := s.setCan n fun p =>
      { p with drops := wrap 64 (p.drops + 1), fifos := modNth p.fifos i fun q => { q with lost := true, logged := some sn } }
    if log then s.logEv .canFifoOverrun [] else s

/-- A receive buffer matches a frame (R718). -/
def bufMatches (v : Nat) (f : CanFrame) : Bool := bufKind v = 1 && !f.rtr && bufIde v = f.ide && idMatches f.id (canIdOf v) (canMaskOf v)
/-- A filter matches a frame (Table 15.5). -/
def filterMatches (v : Nat) (f : CanFrame) : Bool :=
  bits v 62 2 ≠ 0 && (bits v 60 2 = 2 || (bits v 60 2 = 1) = f.ide) && (!f.rtr || bit v 59) && idMatches f.id (canIdOf v) (canMaskOf v)

/-- The buffers and filters written, in ascending number: those never written are unused and disabled. -/
def State.written (s : State) (idx count : Nat) : List Nat :=
  s.settings.bank.values.filterMap fun e => if e.1 / 256 = idx && 1 ≤ e.1 % 256 && e.1 % 256 ≤ count then some (e.1 % 256 - 1) else none

/-- Steps 3 to 5 of R716. -/
def State.placeFrame (s : State) (n : Nat) (stamp : Int × Nat) (f : CanFrame) : State :=
  match (s.written (0x2900 + n) 128).find? fun b => bufMatches (s.bufVal n b) f with
  | some b => s.setCan n fun p => p.take b stamp f
  | none =>
    match (s.written (0x29C0 + n) 64).find? fun i => filterMatches (s.filterVal n i) f with
    | some i =>
      let a := bits (s.filterVal n i) 62 2
      if a = 3 then s else s.fifoTake n (a - 1) stamp f
    | none => s.setCan n fun p => { p with drops := wrap 64 (p.drops + 1) }

/-- R716 for a received frame. -/
def State.takeCanFrame (s : State) (n : Nat) (stamp : Int × Nat) (f : CanFrame) : State :=
  let s := (s.setCan n fun p => { p with rx := wrap 64 (p.rx + 1) }).count 0x0E n 1
  let stopId := s.cfg 0x2838 0
  if s.servesUsdo n && !f.ide && f.id = 0x600 + s.cfg 0x2811 0 then s
  else
    let s := if canStopSource (s.canVal n) && f.ide = bit stopId 31 && f.id = bits stopId 0 29 then s.stopFrame n f else s
    s.placeFrame n stamp f

/-- A port wakes (R744): it integrates, and its next reference message has resume set. -/
def State.canWake (s : State) (n cause : Nat) : State :=
  ((s.setCan n fun p => { p with st := 1, sleepReq := false, refSent := none }).emit (.canStb n false)).logEv .canWake [byte cause]

/-- A frame is received (R714 to R716, R743). -/
def State.canFrameIn (s : State) (n sof : Nat) (f : CanFrame) : State :=
  let f := canNorm f
  let p := s.canPort n
  if !s.canUp n || (f.fdf && !canFd (s.canVal n)) then s
  else
    let stamp := s.sofStamp sof
    if p.st = 2 then (s.canRxGood n).takeCanFrame n stamp f
    else if p.st = 5 && bit p.wakeCfg 63 && !f.rtr && bit p.wakeCfg 62 = f.ide && idMatches f.id (canIdOf p.wakeCfg) (canMaskOf p.wakeCfg) then
      (s.canWake n 1).takeCanFrame n stamp f
    else s

/-- A FIFO posts the frames it holds, as far as its queue takes them (R724). -/
def State.postFifo (s : State) (n i q : Nat) : Nat → State
  | 0 => s
  | k + 1 =>
    match ((s.canPort n).fifos.getD i CanFifo.reset).recs with
    | [] => s
    | x :: _ =>
      match s.post? q x.packet with
      | none => s
      | some s => (s.setCan n fun p => { p with fifos := modNth p.fifos i fun f => { f with recs := f.recs.drop 1 } }).postFifo n i q k

def State.fifoPost (s : State) (n i : Nat) : State :=
  if !s.up .network || !s.hasCan n || 2 ≤ i then s else s.postFifo n i (u (s.cfgB (0x2820 + n) 0x0A) (2 * i) 2) 64

/-! ### Sleep (R739 to R744) -/

/-- A write of 1 to CanSleep (R739). -/
def State.canSleepReq (s : State) (n : Nat) : State × Option Ans :=
  if canStopSource (s.canVal n) then (s, some (Ans.state 0x05280007))
  else (s.setCan n fun p => { p with sleepReq := true }, some (Ans.done []))

/-- The bus is idle (R739, R740). -/
def State.canSleepIn (s : State) (n : Nat) : State :=
  let p := s.canPort n
  if !s.canUp n || !p.sleepReq || p.st ≠ 2 then s
  else
    let w := s.cfg (0x2820 + n) 9
    ((s.setCan n fun p => { p with st := 5, wakeCfg := w }).emit (.canStb n !(bit w 63))).endSends n 0x19

/-- A write of 0 to CanSleep (R739). -/
def State.canWakeReq (s : State) (n : Nat) : State × Option Ans :=
  if (s.canPort n).st = 5 then (s.canWake n 2, some (Ans.done []))
  else (s.setCan n fun p => { p with sleepReq := false }, some (Ans.done []))

/-- A dominant level on the receive pin of a port asleep in edge mode (R742). -/
def State.canEdge (s : State) (n width : Nat) : State :=
  let p := s.canPort n
  if s.canUp n && p.st = 5 && !bit p.wakeCfg 63 && 5 * us ≤ width then s.canWake n 0 else s

/-! ### Commits (R710 to R713, R734, R735) -/

/-- Bit time in protocol clocks, and the rules of R711, of a CanBitTiming value. -/
def timingOk (v : Nat) : Bool :=
  let nb := bits v 59 5 + 1; let n1 := bits v 51 8 + 1; let n2 := bits v 44 7 + 1; let nj := bits v 37 7 + 1
  let db := bits v 32 5 + 1; let d1 := bits v 27 5 + 1; let d2 := bits v 23 4 + 1; let dj := bits v 19 4 + 1
  let nominal := nb * (1 + n1 + n2); let data := db * (1 + d1 + d2)
  2 ≤ n1 && nj ≤ n2 && dj ≤ d2 && 80 ≤ nominal && 10 ≤ data && data ≤ nominal

/-- The time master value (Table 15.8). -/
def tmMask (b : Bytes) : Nat := u b 0 1
def tmIde (b : Bytes) : Bool := bit (u b 1 1) 0
def tmId (b : Bytes) : Nat := u b 4 4
def tmPeriod (b : Bytes) : Nat := u b 8 4

/-- The time master's identifier is one of a USDO server's (R735). -/
def State.usdoClash (s : State) (tm : Bytes) : Bool :=
  !tmIde tm && (tmId tm = 0x600 + s.cfg 0x2811 0 || tmId tm = 0x580 + s.cfg 0x2811 0)

/-- CanPortCommit's checks (R710, R712, Table 15.13): `v` and `tv` are the shadow values. -/
def State.canPortCheck (s : State) (n v tv : Nat) : Option Ans :=
  let a := s.canVal n
  let tm := s.cfgB 0x2830 2
  firstFail
    [(canMode v ≠ 3 && canNoAckLimit v ≠ 0 && bits v 0 16 = 0 && bits tv 0 11 = 0, Ans.bad 0x05280001),
     (timingOk tv, Ans.bad 0x05280002),
     (s.stoppedAll || (canStopSource a = canStopSource v && canStopOnBusOff a = canStopOnBusOff v
        && (canMode a = canMode v || !canStopSource a)), Ans.state 0x05280003),
     (!bit (tmMask tm) n || (canMode v = 1 && canFd v && !(s.cfg 0x2810 (n + 1) = 1 && s.usdoClash tm)), Ans.state 0x05280004)]

/-- A committed port group takes effect (R713). -/
def State.canPortCommitted (s : State) (n : Nat) : State :=
  let st := s.canStart n
  (s.endSends n 0x19).setCan n fun p =>
    { p with st := st, recovering := false, tec := 0, recErrs := 0, sleepReq := false, refMsg := none, refSent := none }

/-- CanTmCommit's checks (R734, R735, Table 15.13). -/
def State.canTmCheck (s : State) (b : Bytes) : Option Ans :=
  let named := (List.range 8).filter fun n => bit (tmMask b) n
  let stopId := s.cfg 0x2838 0
  firstFail
    [(named.all fun n => s.hasCan n && canMode (s.canVal n) = 1 && canFd (s.canVal n), Ans.state 0x05280004),
     (1000 ≤ tmPeriod b && tmPeriod b ≤ 1000000 && u b 1 1 < 4 && u b 2 2 = 0 && u b 12 4 = 0 && tmId b < 2 ^ 29 && idAligned (tmIde b) (tmId b),
        Ans.bad 0x05280005),
     (!(tmIde b = bit stopId 31 && tmId b = bits stopId 0 29) && !(named.any fun n => s.servesUsdo n && s.usdoClash b), Ans.bad 0x05280006)]

/-- A committed time master value takes effect: the first message after it has resume set (R737). -/
def State.canTmCommitted (s : State) : State :=
  let mask := tmMask (s.cfgB 0x2830 2)
  let ports := s.can.ports.mapIdx fun n p => { p with refSent := none, refMsg := if bit mask n then p.refMsg else none }
  { s with can := { s.can with ports := ports, lastK := none } }

/-- TIME64 has stepped: the next message has resume set (R737). -/
def State.canStepped (s : State) : State :=
  { s with can := { s.can with ports := s.can.ports.map fun p => { p with refSent := none } } }

/-- The reference message of boundary k on port n (Table 15.9). -/
def State.refMessage (s : State) (n : Nat) (k : Int) : CanRefMsg :=
  let b := s.cfgB 0x2830 2
  let delta : Option Int := match (s.canPort n).refSent with
    | some (j, d) => if j + 1 = k then some d else none
    | none => none
  let tail := match delta with
    | some d => leInt 4 d
    | none => leBytes 4 0xFFFFFFFF
  let data := [byte ((k % 64).toNat + if delta.isNone then 64 else 0), byte s.quality, 0, 0] ++ leInt 8 (k * (tmPeriod b * us : Nat)) ++ tail
  { k := k, since := s.now,
    frame := { id := tmId b, ide := tmIde b, fdf := true, brs := bit (u b 1 1) 1 && canBrs (s.canVal n), esi := false, rtr := false, dlc := 10, data := data } }

/-- Boundary k on one named port (R736 to R738). -/
def State.tmPort (s : State) (k : Int) (n : Nat) : State :=
  let s := if (s.canPort n).refMsg.isSome then
      let s := s.setCan n fun p => { p with refMsg := none, refSent := none }
      ({ s with can := { s.can with skipped := wrap 32 (s.can.skipped + 1) } } : State)
    else s
  if !s.canUp n || (s.canPort n).st = 5 || !s.timed then s
  else
    let m := s.refMessage n k
    s.setCan n fun p => { p with refMsg := some m }

/-- A cycle boundary (R736). -/
def State.tmBoundary (s : State) : State :=
  let b := s.cfgB 0x2830 2
  if !s.up .network || tmMask b = 0 then s
  else
    let k := s.time64.fdiv (tmPeriod b * us : Nat)
    if s.can.lastK = some k then s
    else
      let s : State := { s with can := { s.can with lastK := some k } }
      ((List.range 8).filter fun n => bit (tmMask b) n).foldl (fun s n => s.tmPort k n) s

/-! ### Restart and reset (R751, R752, R885) -/

/-- The Network island restarts: sends are discarded, ports integrate, and a port asleep stays asleep. -/
def State.canRestart (s : State) : State :=
  let s := (List.range 8).foldl (fun s n => s.endSends n 0x40) s
  let ports := s.can.ports.mapIdx fun n p =>
    { p with st := if p.st = 5 then 5 else s.canStart n, recovering := false, tec := 0, recErrs := 0, refMsg := none, refSent := none }
  { s with can := { s.can with ports := ports } }

/-- A port is reset as its configuration in force says. -/
def State.canResetPort (s : State) (n : Nat) : State :=
  let st := s.canStart n
  (s.endSends n 0x41).setCan n fun _ => CanPort.reset st

/-- The Network island, the system or the chip is reset. -/
def State.canReset (s : State) : State :=
  let s := (List.range 8).foldl (fun s n => s.canResetPort n) s
  { s with can := { s.can with skipped := 0, lastK := none, badStops := 0, badLogged := none } }

end Sys2Proof.Machine
end

