-- ==== Sys2Proof/Machine/Frames.lean ====
section
/-!
DEFINITION. Ethernet frames and the PTP messages in them as bytes, and their code groups on a serial interface between MAC and PHY
(14_ethernet_ptp.md R671 to R676, R693 to R701). The layouts are those of IEEE 802.3, of IPv4, IPv6 and UDP, and of IEEE 1588-2019,
which the spec names (PRESUMED, log entry 28).
-/

namespace Sys2Proof.Machine

/-- A big-endian field. -/
def ube (b : Bytes) (off n : Nat) : Nat := beNat (slice b off n)
def beInt (n : Nat) (v : Int) : Bytes := (leInt n v).reverse
/-- Bytes with a field written over them. -/
def patch (b : Bytes) (off : Nat) (x : Bytes) : Bytes := b.take off ++ x ++ b.drop (off + x.length)

/-! ### On the wire (R671, R676) -/

/-- Each byte as `k` identical code groups (R676). -/
def spread (k : Nat) (b : Bytes) : Bytes := b.flatMap (List.replicate k)
/-- Every k-th code group, the first `c` passed over. -/
def everyNth (k : Nat) : Nat → Bytes → Bytes
  | _, [] => []
  | 0, x :: t => x :: everyNth k (k - 1) t
  | c + 1, _ :: t => everyNth k c t

/-- A frame from preamble to FCS. -/
def onWire (body : Bytes) : Bytes := List.replicate 7 0x55 ++ [0xD5] ++ body ++ leBytes 4 (crc32 body)
/-- Code groups of the idle after a frame at one group a byte. -/
def idleGroups : Nat := 12

/-- What follows the start-of-frame delimiter. -/
def afterSfd (b : Bytes) : Bytes := (b.dropWhile (· ≠ 0xD5)).drop 1
/-- The frame without its FCS, where it is whole: header, FCS present and good. -/
def wholeFrame (b : Bytes) : Option Bytes :=
  let f := afterSfd b
  let body := f.take (f.length - 4)
  if 18 ≤ f.length && leNat (f.drop (f.length - 4)) = crc32 body then some body else none

/-! ### Header (R672, R673) -/

def ethDst (b : Bytes) : Nat := ube b 0 6
def ethSrc (b : Bytes) : Nat := ube b 6 6
def ethTagged (b : Bytes) : Bool := ube b 12 2 = 0x8100
/-- The priority of a VLAN tag. -/
def ethTagPcp (b : Bytes) : Option Nat := if ethTagged b then some (ube b 14 1 / 32) else none
/-- Where the payload begins, after tag and Ethertype. -/
def ethAt (b : Bytes) : Nat := if ethTagged b then 18 else 14
def ethType (b : Bytes) : Nat := ube b (ethAt b - 2) 2

/-- Transport (1 UDP/IPv4, 2 UDP/IPv6) and place of the UDP header of a frame. -/
def udpAt (b : Bytes) : Option (Nat × Nat) :=
  let p := ethAt b
  if ethType b = 0x0800 && ube b (p + 9) 1 = 17 then some (1, p + ube b p 1 % 16 * 4)
  else if ethType b = 0x86DD && ube b (p + 6) 1 = 17 then some (2, p + 40)
  else none

/-! ### PTP messages -/

/-- Transport and place of the PTP message of a frame: Ethertype 0x88F7, or UDP to port 319 or 320. -/
def ptpAt (b : Bytes) : Option (Nat × Nat) :=
  let at_ : Option (Nat × Nat) :=
    if ethType b = 0x88F7 then some (0, ethAt b)
    else match udpAt b with
      | some (tr, p) => if ube b (p + 2) 2 = 319 || ube b (p + 2) 2 = 320 then some (tr, p + 8) else none
      | none => none
  match at_ with
  | some (tr, o) => if o + 34 ≤ b.length then some (tr, o) else none
  | none => none

/-- A frame of class 3 (R673): PTP event messages, by Ethertype and messageType or by UDP destination port 319. -/
def isEventFrame (b : Bytes) : Bool :=
  (ethType b = 0x88F7 && ube b (ethAt b) 1 % 16 ≤ 3) || (match udpAt b with
    | some (_, p) => ube b (p + 2) 2 = 319
    | none => false)

/-- The PTP message of a frame. Over UDP/IPv6 the word after it is there where the UDP payload has room for it (R701). -/
def ptpOf (b : Bytes) : Option PtpMsg :=
  match ptpAt b with
  | none => none
  | some (tr, o) =>
    let mt := ube b o 1 % 16
    let len := ube b (o + 2) 2
    let ann := mt = 11
    some { mtype := mt, domain := ube b (o + 4) 1, seqId := ube b (o + 30) 2, source := ube b (o + 20) 10,
           correction := signed 64 (ube b (o + 8) 8), twoStep := bit (ube b (o + 6) 1) 1,
           stamp := ube b (o + 34) 6 * 1000000000 + ube b (o + 40) 4,
           requester := if mt = 9 || mt = 3 || mt = 10 then ube b (o + 44) 10 else 0,
           transport := tr, checksum := if tr = 0 then 0 else ube b (o - 2) 2,
           tail := if tr = 2 && len + 10 ≤ ube b (o - 4) 2 then some (ube b (o + len) 2) else none,
           priority1 := if ann then ube b (o + 47) 1 else 0, clockClass := if ann then ube b (o + 48) 1 else 0,
           accuracy := if ann then ube b (o + 49) 1 else 0, variance := if ann then ube b (o + 50) 2 else 0,
           priority2 := if ann then ube b (o + 52) 1 else 0, grandmaster := if ann then ube b (o + 53) 8 else 0,
           steps := if ann then ube b (o + 61) 2 else 0, timeSource := if ann then ube b (o + 63) 1 else 0,
           utcOffset := if ann then signed 16 (ube b (o + 44) 2) else 0, traceable := ann && bit (ube b (o + 7) 1) 4 }

/-- The correctionField, UDP checksum and trailing word of a message written in place (R700). -/
def frameWith (b : Bytes) (m : PtpMsg) : Bytes :=
  match ptpAt b with
  | none => b
  | some (tr, o) =>
    let len := ube b (o + 2) 2
    let b := patch b (o + 8) (beInt 8 m.correction)
    let b := if tr = 1 then patch b (o - 2) (beBytes 2 m.checksum) else b
    match tr, m.tail with
    | 2, some t => patch b (o + len) (beBytes 2 t)
    | _, _ => b

/-- Ones' complement sum of 16-bit words, folded. -/
def onesFold (n : Nat) : Nat := let m := n % 65536 + n / 65536; m % 65536 + m / 65536
/-- Sum of the big-endian 16-bit words of a string of bytes, an odd last byte padded with zero. -/
def wordsSum : Bytes → Nat
  | [] => 0
  | [a] => a.toNat * 256
  | a :: b :: t => a.toNat * 256 + b.toNat + wordsSum t
/-- The Internet checksum. -/
def inetSum (b : Bytes) : Nat := 0xFFFF - onesFold (onesFold (wordsSum b))

/-- Destination MAC address of a message by transport: peer messages have their own. -/
def ptpDest (transport : Nat) (peer : Bool) : Nat :=
  match transport, peer with
  | 0, false => 0x011B19000000 | 0, true => 0x0180C200000E
  | 1, false => 0x01005E000181 | 1, true => 0x01005E00006B
  | _, false => 0x333300000181 | _, true => 0x33330000006B
/-- Its IPv4 and IPv6 destination addresses. -/
def ptpDest4 (peer : Bool) : Bytes := if peer then [224, 0, 0, 107] else [224, 0, 1, 129]
def ptpDest6 (peer : Bool) : Bytes := [0xFF, if peer then 0x02 else 0x0E] ++ zeros 12 ++ [if peer then 0 else 0x01, if peer then 0x6B else 0x81]

/-- A message as bytes, with its logMessageInterval. -/
def ptpBytes (m : PtpMsg) (logInt : Int) : Bytes :=
  let req : Bool := m.mtype = 2 || m.mtype = 3 || m.mtype = 9 || m.mtype = 10
  let stamp := beBytes 6 (m.stamp / 1000000000).toNat ++ beBytes 4 (m.stamp % 1000000000).toNat
  let body := if m.mtype = 11 then
      stamp ++ beInt 2 m.utcOffset ++ [0, byte m.priority1, byte m.clockClass, byte m.accuracy] ++ beBytes 2 m.variance ++ [byte m.priority2]
        ++ beBytes 8 m.grandmaster ++ beBytes 2 m.steps ++ [byte m.timeSource]
    else stamp ++ (if req then beBytes 10 m.requester else [])
  let flags : Bytes := [byte (2 * b2n m.twoStep), byte (if m.mtype = 11 then 0x0C + (if m.traceable then 0x30 else 0) else 0)]
  let control : Nat := match m.mtype with
    | 0 => 0 | 1 => 1 | 8 => 2 | 9 => 3 | _ => 5
  [byte m.mtype, 0x12] ++ beBytes 2 (34 + body.length) ++ [byte m.domain, 0] ++ flags ++ beInt 8 m.correction ++ zeros 4
    ++ beBytes 10 m.source ++ beBytes 2 m.seqId ++ [byte control] ++ beInt 1 logInt ++ body

def isEvent (m : PtpMsg) : Bool := m.mtype ≤ 3
/-- Peer messages never leave a link. -/
def isPeer (m : PtpMsg) : Bool := m.mtype = 2 || m.mtype = 3 || m.mtype = 10

/-- A frame with a message of the device: from a MAC address and the device's addresses. Over IPv4 there is no UDP checksum; over
IPv6 an event message has two zero bytes after it (R701). -/
def ptpFrame (mac : Nat) (ip4 ip6 : Bytes) (m : PtpMsg) (logInt : Int) : Bytes :=
  let x := ptpBytes m logInt
  let head := beBytes 6 (ptpDest m.transport (isPeer m)) ++ beBytes 6 mac
  let port := beBytes 2 (if isEvent m then 319 else 320)
  let ttl : Byte := if isPeer m then 1 else 64
  let b := match m.transport with
    | 0 => head ++ [0x88, 0xF7] ++ x
    | 1 =>
      let udp := port ++ port ++ beBytes 2 (8 + x.length) ++ [0, 0] ++ x
      let ip := [0x45, 0] ++ beBytes 2 (20 + udp.length) ++ zeros 4 ++ [ttl, 17, 0, 0] ++ ip4 ++ ptpDest4 (isPeer m)
      head ++ [0x08, 0x00] ++ patch ip 10 (beBytes 2 (inetSum ip)) ++ udp
    | _ =>
      let x := x ++ (if isEvent m then zeros 2 else [])
      let udp := port ++ port ++ beBytes 2 (8 + x.length) ++ [0, 0] ++ x
      let sum := inetSum (ip6 ++ ptpDest6 (isPeer m) ++ beBytes 4 udp.length ++ [0, 0, 0, 17] ++ udp)
      head ++ [0x86, 0xDD, 0x60, 0, 0, 0] ++ beBytes 2 udp.length ++ [17, ttl] ++ ip6 ++ ptpDest6 (isPeer m)
        ++ patch udp 6 (beBytes 2 (if sum = 0 then 0xFFFF else sum))
  b ++ zeros (60 - b.length)

end Sys2Proof.Machine
end

