-- ==== Sys2Proof/Machine/NetOps.lean ====
section
/-!
DEFINITION. What the Network island does: switch ports, forwarding and its timestamps, transparent clocks, and the PTP instance
(14_ethernet_ptp.md). Message formats, data set comparison and state decision are those of IEEE 1588-2019, which the spec names
(PRESUMED, log entry 28).
-/

namespace Sys2Proof.Machine

def State.eth (s : State) (n : Nat) : EthPort := s.net.ports.getD n (EthPort.reset 0 0)
def State.setEth (s : State) (n : Nat) (f : EthPort → EthPort) : State := { s with net := { s.net with ports := modNth s.net.ports n f } }

/-! ### Port values (Tables 14.1 and 14.4) -/

def State.ethVal (s : State) (n : Nat) : Nat := s.cfg 0x2400 (n + 1)
def ethMode (v : Nat) : Nat := bits v 60 4
def ethAuto (v : Nat) : Bool := bit v 59
def ethPcp (v : Nat) : Nat := bits v 41 3
def ethMax (v : Nat) : Nat := bits v 28 12

def State.ptpVal (s : State) (n : Nat) : Nat := s.cfg 0x2453 (n + 1)
def ptpRole (v : Nat) : Nat := bits v 61 3
def ptpTransport (v : Nat) : Nat := bits v 59 2
def ptpOneStep (v : Nat) : Bool := bit v 58
def ptpLogSync (v : Nat) : Int := signed 8 (bits v 48 8)
def ptpLogAnnounce (v : Nat) : Int := signed 8 (bits v 40 8)
def ptpLogDelay (v : Nat) : Int := signed 8 (bits v 32 8)
def ptpTimeout (v : Nat) : Nat := bits v 24 8
/-- delayAsymmetry in 2⁻¹⁶ ns. -/
def ptpAsym (v : Nat) : Int := signed 24 (bits v 0 24) * 16384

/-- Ports of the variant (R28). -/
def State.hasEth (s : State) (n : Nat) : Bool := n < 4 && (s.packageA || n < 2)
/-- A role that is acted on. -/
def State.role (s : State) (n : Nat) : Nat := if s.hasEth n then ptpRole (s.ptpVal n) else 0
/-- The profile's delay mechanism is peer-to-peer (Table 14.5). -/
def State.p2p (s : State) : Bool := s.cfg 0x2452 0 % 2 = 1
def State.ptpDomain (s : State) : Nat := s.cfg 0x2451 0

/-- An interval of 2^l s in ns. -/
def logInterval (l : Int) : Nat := if 0 ≤ l then 2 ^ l.toNat * sec else sec / 2 ^ (-l).toNat

/-! ### Links (R669, R676, R677) -/

/-- EthLinkState of a mode and a speed code 1 to 3. -/
def linkCode (mode speed : Nat) : Nat :=
  match mode with
  | 1 => speed | 2 => 3 | 3 => 2 | 4 => 1 | 5 => 3 | 6 => 4 | _ => 0

/-- A link goes down: an ordinary or boundary clock port re-enters INITIALIZING. -/
def State.ptpInit (s : State) (n : Nat) : State :=
  let was := (s.eth n).ptp
  let role := s.role n
  let now := s.now
  let s := s.setEth n fun p => { p with ptp := if role = 1 then 1 else 0, since := now, foreign := [], parent := none, syncAt := none, twoStep := none,
                                        leg := none, req := none }
  if was = 9 then s.sourceGone 2 else s

def State.setEthLink (s : State) (n code : Nat) : State :=
  let was := (s.eth n).link
  let s := s.setEth n fun p => { p with link := code }
  if was ≠ 0 && code = 0 then s.ptpInit n else s

/-- A PHY's control word (R677). -/
def State.controlWord (s : State) (n w : Nat) : State :=
  let v := s.ethVal n
  let mode := ethMode v
  if !s.up .network || !s.hasEth n || !ethAuto v || mode = 0 || 4 < mode || !bit w 0 || bits w 10 2 = 3 then s
  else
    let s := s.emit (.sgmii n 0x4001)
    let speed := bits w 10 2 + 1
    let s := s.setEth n fun p => { p with speed := speed, err := if bit w 12 then p.err else wrap 64 (p.err + 1) }
    s.setEthLink n (if bit w 15 && bit w 12 then linkCode mode speed else 0)

/-- The PCS gains or loses synchronisation (R677): the link follows where no control words are exchanged. -/
def State.pcsSync (s : State) (n : Nat) (up : Bool) : State :=
  let v := s.ethVal n
  if !s.up .network || !s.hasEth n then s
  else
    let s := s.setEth n fun p => { p with pcs := up }
    if ethMode v = 0 || (ethAuto v && ethMode v ≤ 4) then s
    else s.setEthLink n (if up then linkCode (ethMode v) (s.eth n).speed else 0)

/-- EthPortConfig's own rules (Table 14.1, R670). -/
def State.ethConfigCheck (s : State) (n : Nat) (b : Bytes) : Option Ans :=
  let v := leNat b
  firstFail
    [(ethMode v ≤ 6 && !(ethMode v = 6 && ethAuto v) && bits v 56 3 = 0 && bits v 44 12 = 0 && bits v 40 1 = 0 && bits v 0 28 = 0
        && (1518 ≤ ethMax v && ethMax v ≤ 2000), Ans.invalid),
     (!(ethMode v = 0 && ptpRole (s.ptpVal n) ≠ 0), Ans.state 0x05240001)]

/-- A written port value applies: a change of mode or autoneg restarts the link (R669). -/
def State.ethConfigured (s : State) (n : Nat) (old : Bytes) : State :=
  let a := leNat old
  let v := s.ethVal n
  if ethMode a = ethMode v && ethAuto a = ethAuto v then s
  else
    let s := s.setEthLink n 0
    if (s.eth n).pcs && ethMode v ≠ 0 && !(ethAuto v && ethMode v ≤ 4) then s.setEthLink n (linkCode (ethMode v) (s.eth n).speed) else s

/-! ### Timestamps (R678, R679) -/

/-- Boundary timestamp now, in 2⁻¹⁶ ns, a whole number of 250 ps. -/
def State.boundary (s : State) : Int := (s.tb.fine s.now).fdiv 250000000000 * 16384

/-- Corrections of Table 14.2 by link code and mode, in ps: receive and transmit. -/
def macDelay (mode link : Nat) : Nat × Nat :=
  if mode = 6 then (84800, 44800) else if mode = 5 then (176000, 88000)
  else match link with
    | 1 => (9864000, 8896000) | 2 => (1064000, 896000) | _ => (184000, 96000)
/-- Corrections of Table 14.3 in ps. -/
def portDelay (n : Nat) : Nat × Nat :=
  match n with
  | 0 => (0, 0) | 1 => (500, 250) | 2 => (250, 500) | _ => (750, 250)

/-- A correction in ps as 2⁻¹⁶ ns, rounded once. -/
def psUnits (ps : Int) : Int := roundDiv (ps * 8192) 125

def State.rxStamp (s : State) (n : Nat) : Int :=
  s.boundary - psUnits ((macDelay (ethMode (s.ethVal n)) (s.eth n).link).1 + (portDelay n).1 + s.cfgI 0x2401 (n + 1))
def State.txStamp (s : State) (n : Nat) : Int :=
  s.boundary + psUnits ((macDelay (ethMode (s.ethVal n)) (s.eth n).link).2 + (portDelay n).2 + s.cfgI 0x2402 (n + 1))

/-! ### The switch (R671 to R673, R687, R696, R697) -/

/-- EthMacAddress, and the MAC and port identities of R674. -/
def State.macBase (s : State) : Nat := s.silicon.mac
def State.clockId (s : State) : Nat := s.macBase / 2 ^ 24 * 2 ^ 40 + 0xFFFE * 2 ^ 24 + s.macBase % 2 ^ 24
def State.portId (s : State) (n : Nat) : Nat := s.clockId * 65536 + (n + 1)

/-- Traffic class of a frame that entered at a port (R673). -/
def State.classOf (s : State) (ingress : Nat) (f : Bytes) : Nat :=
  if isEventFrame f then 3
  else
    let pcp := match ethTagPcp f with
      | some p => p
      | none => if ingress < 4 then ethPcp (s.ethVal ingress) else 0
    min 2 (pcp / 2)

/-- A port that forwards. -/
def State.ethOn (s : State) (n : Nat) : Bool := s.hasEth n && ethMode (s.ethVal n) ≠ 0 && (s.eth n).link ≠ 0

/-- Put a frame in an egress queue. -/
def State.enqueue (s : State) (n : Nat) (e : EgFrame) : State :=
  let c := s.classOf e.ingress e.frame
  s.setEth n fun p => { p with queues := modNth p.queues c (· ++ [e]) }

/-- The entries that have not aged out (R672). -/
def State.macTable (s : State) : List MacEntry := s.net.macs.filter fun x => s.now < x.at_ + s.cfg 0x2406 0 * sec

/-- Learn a source address (R672): a known one moves, a new one finds room in 4,096 entries. -/
def State.learn (s : State) (mac n : Nat) : State :=
  let e : MacEntry := { mac := mac, port := n, at_ := s.now }
  let t := s.macTable
  let t := if t.any fun x => x.mac = mac then t.map fun x => if x.mac = mac then e else x
    else if t.length < 4096 then t ++ [e] else t
  { s with net := { s.net with macs := t } }

/-- Ports a frame goes to: the one its destination was learned on, or every other enabled port (R672). -/
def State.routes (s : State) (ingress dst : Nat) : List Nat :=
  let others := (List.range 4).filter fun n => n ≠ ingress && s.ethOn n
  if bit dst 40 then others
  else if dst = s.macBase then []
  else match s.macTable.find? fun x => x.mac = dst with
    | some x => others.filter (· = x.port)
    | none => others

/-- Whether a PTP message ends at the port it arrives on (R687, Table 14.8). -/
def State.terminates (s : State) (n : Nat) (m : PtpMsg) : Bool :=
  (s.role n = 1 && m.domain = s.ptpDomain)
    || (s.role n = 3 && (m.mtype = 1 || m.mtype = 2 || m.mtype = 3 || m.mtype = 10))

/-- Code groups for each byte of a port's link: 10 at 100 Mbit/s and 100 at 10 Mbit/s (R676). -/
def State.groupsPerByte (s : State) (n : Nat) : Nat :=
  match (s.eth n).link with
  | 1 => 100 | 2 => 10 | _ => 1

/-- The frame of a run of received code groups, where a port accepts it: whole, its FCS good, no longer than max_frame (R671, R676). -/
def State.accepted (s : State) (n : Nat) (groups : Bytes) : Option Bytes :=
  let b := everyNth (s.groupsPerByte n) 0 groups
  if ethMax (s.ethVal n) < (afterSfd b).length then none else wholeFrame b

/-- A frame that a port accepted (R671, R672, R687). -/
def State.forward (s : State) (n : Nat) (f : Bytes) : State :=
  let rx := s.rxStamp n
  let s := ((s.setEth n fun p => { p with rx := wrap 64 (p.rx + 1) }).count 0x0F n 1).learn (ethSrc f) n
  let ends : Bool := match ptpOf f with
    | some m => s.terminates n m
    | none => false
  if ends then s
  else
    let e : EgFrame := { frame := f, ingress := n, rx := rx, act := .plain }
    (s.routes n (ethDst f)).foldl (fun s k => s.enqueue k e) s

/-- The code groups of a frame received on a port. Every other frame than those R671 forwards is dropped; one that is not whole with a good
FCS is errored too (DESIGN CHOICE, log entry 43: R671 names EthPortCounters, not which of them). -/
def State.frameIn (s : State) (n : Nat) (groups : Bytes) : State :=
  if !s.up .network || !s.ethOn n then s
  else match s.accepted n groups with
  | some f => s.forward n f
  | none =>
    let bad := (wholeFrame (everyNth (s.groupsPerByte n) 0 groups)).isNone
    s.setEth n fun p => { p with drop := wrap 64 (p.drop + 1), err := if bad then wrap 64 (p.err + 1) else p.err }

/-- An address ages out (R672). -/
def State.ageOut (s : State) (mac : Nat) : State :=
  { s with net := { s.net with macs := s.net.macs.filter fun x => x.mac ≠ mac || s.now < x.at_ + s.cfg 0x2406 0 * sec } }

/-! ### Corrections (R696 to R701) -/

/-- A correctionField after an addition (R698). -/
def addCorrection (c d : Int) : Int :=
  let top : Int := 2 ^ 63 - 1
  if c = top then c else min top (c + d)

/-- Ones' complement sum of the 16-bit words of a correctionField. -/
def wordSum (v : Int) : Nat :=
  let x := (v % 2 ^ 64).toNat
  onesFold (bits x 0 16 + bits x 16 16 + bits x 32 16 + bits x 48 16)
/-- The trailing word that keeps the UDP checksum when a correctionField changes. -/
def tailFor (tail : Nat) (old new : Int) : Nat := onesFold (tail + wordSum old + (0xFFFF - wordSum new))

/-- A message with its correctionField changed in place for its transport (R700). -/
def setCorrection (m : PtpMsg) (c : Int) : PtpMsg :=
  match m.transport with
  | 1 => { m with correction := c, checksum := 0 }
  | 2 => { m with correction := c, tail := m.tail.map fun t => tailFor t m.correction c }
  | _ => { m with correction := c }

/-- Whether a message crosses between transparent-clock ports of one delay mechanism. -/
def State.crosses (s : State) (a b : Nat) : Bool := a < 4 && s.role a = s.role b && (s.role a = 2 || s.role a = 3)

def State.uncorrected (s : State) : State := { s with net := { s.net with uncorrected := wrap 32 (s.net.uncorrected + 1) } }

/-- A residence is held for a Follow_Up: at most 64 on a port, the oldest making room (R699). -/
def State.holdResidence (s : State) (h : Residence) : State :=
  let mine := s.net.held.filter fun x => x.port = h.port
  let drop := mine.take (mine.length - 63)
  { s with net := { s.net with held := (s.net.held.filter fun x => !drop.contains x) ++ [h] } }

/-- A forwarded PTP message as it leaves a port (Table 14.8). -/
def State.residence (s : State) (n : Nat) (e : EgFrame) (m : PtpMsg) : State × PtpMsg :=
  if !s.crosses e.ingress n then (s, m)
  else
    let add := if s.role n = 3 && m.mtype = 0 then (s.eth e.ingress).peerDelay + ptpAsym (s.ptpVal e.ingress) else 0
    let r := s.txStamp n - e.rx + add
    if isEvent m && m.transport = 2 && m.tail.isNone then (s.uncorrected, m)
    else if m.mtype = 0 && m.twoStep then
      (s.holdResidence { port := n, source := m.source, domain := m.domain, seqId := m.seqId, r := r, at_ := s.now }, m)
    else if isEvent m then (s, setCorrection m (addCorrection m.correction r))
    else if m.mtype = 8 then
      let hit (x : Residence) : Bool := x.port = n && x.source = m.source && x.domain = m.domain && x.seqId = m.seqId
      match s.net.held.find? hit with
      | none => (s.uncorrected, m)
      | some h =>
        let s := { s with net := { s.net with held := s.net.held.filter fun x => !hit x } }
        if s.now ≤ h.at_ + sec then (s, setCorrection m (addCorrection m.correction h.r)) else (s.uncorrected, m)
    else (s, m)

/-! ### Own messages (R692 to R695) -/

/-- The IPv6 link-local address formed from the EUI-64, its universal bit inverted as RFC 4291 has it (R675; PRESUMED, log entry 28). -/
def State.linkLocal (s : State) : Bytes := [0xFE, 0x80] ++ zeros 6 ++ beBytes 8 (s.clockId ^^^ 2 ^ 57)
/-- The addresses the endpoint sends from (R675): its IPv4 address, and its global IPv6 address or else the link-local one. -/
def State.ip4 (s : State) : Bytes := fit 4 (s.cfgB 0x2410 0)
def State.ip6 (s : State) : Bytes := let g := fit 16 (s.cfgB 0x2411 0); if allZero g then s.linkLocal else g

/-- logMessageInterval of a message of port n. -/
def State.ptpLogInt (s : State) (n mtype : Nat) : Int :=
  let v := s.ptpVal n
  match mtype with
  | 0 | 8 => ptpLogSync v
  | 11 => ptpLogAnnounce v
  | 9 => ptpLogDelay v
  | _ => 0x7F

/-- The frame of an own message on port n (R674). -/
def State.ptpFrameOf (s : State) (n : Nat) (m : PtpMsg) : Bytes :=
  ptpFrame ((s.macBase + 1 + n) % 2 ^ 48) s.ip4 s.ip6 m (s.ptpLogInt n m.mtype)

/-- A message of port n with no announce fields. -/
def State.ptpMsg (s : State) (n mtype seqId : Nat) (stamp correction : Int) (twoStep : Bool) (requester : Nat) : PtpMsg :=
  let tr := ptpTransport (s.ptpVal n)
  { mtype := mtype, domain := s.ptpDomain, seqId := seqId, source := s.portId n, correction := correction, twoStep := twoStep, stamp := stamp,
    requester := requester, transport := tr, checksum := 0, tail := if tr = 2 then some 0 else none, priority1 := 0, clockClass := 0,
    accuracy := 0, variance := 0, priority2 := 0, grandmaster := 0, steps := 0, timeSource := 0, utcOffset := 0, traceable := false }

/-- Queue an own message on port n. -/
def State.sendPtp (s : State) (n : Nat) (m : PtpMsg) (act : Depart) : State :=
  s.enqueue n { frame := s.ptpFrameOf n m, ingress := 4, rx := 0, act := act }

/-- The departure of an own frame (R693 to R695): the message as it leaves, and what the device records or sends next. -/
def State.depart (s : State) (n : Nat) (m : PtpMsg) (act : Depart) : State × PtpMsg :=
  let tx := s.txStamp n
  match act with
  | .plain => (s, m)
  | .syncOne => (s, setCorrection m (addCorrection m.correction (tx - m.stamp * 65536)))
  | .syncTwo => (s.sendPtp n (s.ptpMsg n 8 m.seqId (tx.fdiv 65536) (tx % 65536) false 0) .plain, m)
  | .delayReq => (s.setEth n fun p => { p with req := p.req.map fun r => if r.1 = m.seqId then (r.1, some tx) else r }, m)
  | .pdelayReq => (s.setEth n fun p => { p with peer := if p.peer.seqId = m.seqId then { p.peer with t1 := some tx } else p.peer }, m)
  | .pdelayOne rx => (s, setCorrection m (addCorrection m.correction (tx - rx)))
  | .pdelayTwo => (s.sendPtp n (s.ptpMsg n 10 m.seqId (tx.fdiv 65536) (m.correction + tx % 65536) false m.requester) .plain, m)

/-- The frame a port sends next: of its highest class that waits (R673). -/
def nextFrame (q : List (List EgFrame)) : Option (Nat × EgFrame) :=
  [3, 2, 1, 0].findSome? fun c => ((q.getD c []).head?).map fun e => (c, e)

/-- A frame leaves a port, from preamble to FCS, each byte and the idle after it replicated as the link's speed asks (R676). -/
def State.ethOut (s : State) (n : Nat) (f : Bytes) : State :=
  let k := s.groupsPerByte n
  s.emit (.eth n (spread k (onWire f)) (k * idleGroups))

/-- A port sends its next frame (R696 to R701). -/
def State.frameOut (s : State) (n : Nat) : State :=
  if !s.up .network || !s.ethOn n then s
  else match nextFrame (s.eth n).queues with
    | none => s
    | some (c, e) =>
      let s := s.setEth n fun p => { p with queues := modNth p.queues c (·.drop 1), tx := wrap 64 (p.tx + 1) }
      match ptpOf e.frame with
      | none => s.ethOut n e.frame
      | some m =>
        let r := if e.ingress = 4 then s.depart n m e.act else s.residence n e m
        r.1.ethOut n (frameWith e.frame r.2)

/-! ### Clock quality (Table 14.7) -/

def State.held (s : State) : Bool := s.tb.st = .holdover || s.tb.st = .holdJump
def State.lockedTime (s : State) : Bool := s.tb.st = .locked || s.tb.st = .slewing
def State.clockClass (s : State) : Nat :=
  if s.lockedTime then 6 else if s.held then (if 11 ≤ s.quality then 7 else 52) else 248

/-- clockAccuracy enumerations from 0x20 with their bounds in ns. -/
def accuracyTable : List (Nat × Nat) :=
  [(0x20, 25), (0x21, 100), (0x22, 250), (0x23, 1000), (0x24, 2500), (0x25, 10000), (0x26, 25000), (0x27, 100000), (0x28, 250000),
   (0x29, 1000000), (0x2A, 2500000), (0x2B, 10000000), (0x2C, 25000000), (0x2D, 100000000), (0x2E, 250000000), (0x2F, 1000000000),
   (0x30, 10000000000)]
/-- The enumeration of a bound: 0x20 and above, since none below 25 ns arises. -/
def accuracyOf (bound : Nat) : Nat :=
  match accuracyTable.find? fun r => bound ≤ r.2 with
  | some r => r.1
  | none => 0x31
/-- The bound of an enumeration. -/
def accuracyBound (a : Nat) : Nat :=
  if a < 0x20 then 25 else match accuracyTable.find? fun r => r.1 = a with
    | some r => r.2
    | none => 0xFFFFFFFF

def State.ptpTimeSource (s : State) : Nat :=
  if s.tb.st = .freerun then 0xA0 else match s.tb.source with
    | 1 => 0x20 | 2 => 0x40 | 3 | 4 => 0x90 | _ => 0xA0

/-- The Announce the device would send as grandmaster on port n. -/
def State.ownAnnounce (s : State) (n : Nat) : PtpMsg :=
  let q := s.quality
  { s.ptpMsg n 11 (s.eth n).seqAnn 0 0 false 0 with
    priority1 := s.cfg 0x2454 0, clockClass := if s.cfg 0x2456 0 = 1 then 255 else s.clockClass,
    accuracy := if s.tb.st = .freerun then 0xFE else accuracyOf s.errorBound, variance := if s.lockedTime then 0x4E5D else 0xFFFF,
    priority2 := s.cfg 0x2455 0, grandmaster := s.clockId, steps := 0, timeSource := s.ptpTimeSource, utcOffset := (s.utcAt (s.time64.fdiv sec)).1,
    traceable := decide (11 ≤ q) }

/-! ### Best master (R686) -/

/-- Lexicographic comparison: less, equal or greater as −1, 0, 1. -/
def lexCmp : List (Nat × Nat) → Int
  | [] => 0
  | (a, b) :: t => if a < b then -1 else if b < a then 1 else lexCmp t

/-- Data set comparison: negative when `a` is better. `pa` and `pb` are the identities of the receiving ports. -/
def dsCmp (a b : PtpMsg) (pa pb : Nat) : Int :=
  if a.grandmaster = b.grandmaster then
    if a.steps + 1 < b.steps then -1 else if b.steps + 1 < a.steps then 1
    else if a.steps < b.steps then -1 else if b.steps < a.steps then 1
    else lexCmp [(a.source, b.source), (pa, pb)]
  else lexCmp [(a.priority1, b.priority1), (a.clockClass, b.clockClass), (a.accuracy, b.accuracy), (a.variance, b.variance),
               (a.priority2, b.priority2), (a.grandmaster, b.grandmaster)]

/-- A master heard twice within four announce intervals, fewer than 255 steps away. -/
def Foreign.qualified (f : Foreign) (interval now : Nat) : Bool :=
  f.msg.steps < 255 && 2 ≤ f.times.countP fun t => now ≤ t + 4 * interval

/-- The best master of a port. -/
def State.erbest (s : State) (n : Nat) : Option PtpMsg :=
  let iv := logInterval (ptpLogAnnounce (s.ptpVal n))
  (((s.eth n).foreign.filter fun f => f.qualified iv s.now).map Foreign.msg).foldl (fun (best : Option PtpMsg) m =>
    match best with
    | none => some m
    | some b => if dsCmp m b (s.portId n) (s.portId n) < 0 then some m else best) none

/-- Ports that run the state machine. -/
def State.clockPorts (s : State) : List Nat := (List.range 4).filter fun n => s.role n = 1 && s.ethOn n

/-- The best master of the instance with its port. -/
def State.ebest (s : State) : Option (Nat × PtpMsg) :=
  s.clockPorts.foldl (fun (best : Option (Nat × PtpMsg)) n =>
    match s.erbest n, best with
    | none, _ => best
    | some m, none => some (n, m)
    | some m, some b => if dsCmp m b.2 (s.portId n) (s.portId b.1) < 0 then some (n, m) else best) none

/-- A port state is entered; leaving SLAVE ends source 2 (R691). -/
def State.setPtp (s : State) (n st : Nat) (parent : Option PtpMsg) : State :=
  let p := s.eth n
  let same : Bool := p.ptp = st && p.parent.map PtpMsg.source = parent.map PtpMsg.source
  let now := s.now
  let s := s.setEth n fun p => if same then { p with parent := parent } else { p with ptp := st, since := now, parent := parent, twoStep := none, leg := none }
  if p.ptp = 9 && st ≠ 9 then s.sourceGone 2 else s

/-- The state the decision algorithm recommends for a port, applied. -/
def State.decidePort (s : State) (n : Nat) : State :=
  let slaveOnly : Bool := s.cfg 0x2456 0 = 1
  let own := s.ownAnnounce n
  let best := s.ebest
  let er := s.erbest n
  let st := (s.eth n).ptp
  let master (wait : Nat) : State :=
    if slaveOnly then s.setPtp n 4 none
    else if st = 6 then s
    else if wait = 0 then s.setPtp n 6 none
    else if st = 5 then s
    else (s.setPtp n 5 none).setEth n fun p => { p with until_ := s.now + wait }
  let slave (m : PtpMsg) : State :=
    if st = 9 && (s.eth n).parent.map PtpMsg.source = some m.source then s.setPtp n 9 (some m)
    else if st = 8 && (s.eth n).parent.map PtpMsg.source = some m.source then s.setPtp n 8 (some m)
    else s.setPtp n 8 (some m)
  match er with
  | none => if st = 1 || st = 4 then s.setPtp n 4 none else
      (match best with
      | none => if st = 6 || st = 5 then s else s.setPtp n 4 none
      | some b => if own.clockClass < 128 || dsCmp own b.2 (s.portId n) (s.portId b.1) < 0 then master 0
                  else master ((b.2.steps + 1) * logInterval (ptpLogAnnounce (s.ptpVal n))))
  | some m =>
    if own.clockClass < 128 then
      if dsCmp own m (s.portId n) (s.portId n) < 0 then master 0 else s.setPtp n 7 none
    else match best with
      | none => s
      | some b =>
        if dsCmp own b.2 (s.portId n) (s.portId b.1) < 0 then master 0
        else if b.1 = n then slave b.2
        else if b.2.grandmaster = m.grandmaster && b.2.steps ≤ m.steps then s.setPtp n 7 none
        else master ((b.2.steps + 1) * logInterval (ptpLogAnnounce (s.ptpVal n)))

/-- The state decision of every clock port. -/
def State.decidePorts (s : State) : State := s.clockPorts.foldl State.decidePort s

/-- Firmware that serves PTP runs, and the port takes part in it. -/
def State.ptpRuns (s : State) (n : Nat) : Bool := s.up .compute && s.up .network && s.role n = 1 && s.ethOn n

/-- An Announce is received (R686). -/
def State.announceIn (s : State) (n : Nat) (m : PtpMsg) : State :=
  if !s.ptpRuns n || m.mtype ≠ 11 || m.domain ≠ s.ptpDomain || m.source / 65536 = s.clockId then s
  else
    let now := s.now
    let s := s.setEth n fun p =>
      let f : Foreign := match p.foreign.find? fun f => f.msg.source = m.source with
        | some f => { msg := m, times := (now :: f.times).take 4 }
        | none => { msg := m, times := [now] }
      { p with foreign := (p.foreign.filter fun x => x.msg.source ≠ m.source).take 15 ++ [f] }
    s.decidePorts

/-- The instant a port last heard of the master it follows, or entered its state. -/
def EthPort.heard (p : EthPort) : Nat := ((p.foreign.flatMap Foreign.times) ++ [p.since]).foldl max 0

/-- announceReceiptTimeout passes without an Announce (R686). -/
def State.announceTimeout (s : State) (n : Nat) : State :=
  let p := s.eth n
  let v := s.ptpVal n
  if !s.ptpRuns n || p.ptp = 6 || p.ptp = 5 || s.now < p.heard + ptpTimeout v * logInterval (ptpLogAnnounce v) then s
  else
    let s := s.setEth n fun p => { p with foreign := [] }
    s.setPtp n (if s.cfg 0x2456 0 = 1 then 4 else 6) none

/-- PRE_MASTER ends. -/
def State.preMaster (s : State) (n : Nat) : State :=
  if (s.eth n).ptp = 5 && (s.eth n).until_ ≤ s.now then s.setPtp n 6 none else s

/-- A port in MASTER sends an Announce (R688). -/
def State.announceOut (s : State) (n : Nat) : State :=
  if !s.ptpRuns n then s
  else
    let s := s.preMaster n
    if (s.eth n).ptp ≠ 6 then s
    else
      let own := s.ownAnnounce n
      let m := match s.ebest with
        | some b => if 128 ≤ own.clockClass && (s.eth b.1).ptp = 9 then
            { own with priority1 := b.2.priority1, clockClass := b.2.clockClass, accuracy := b.2.accuracy, variance := b.2.variance,
                       priority2 := b.2.priority2, grandmaster := b.2.grandmaster, steps := b.2.steps + 1 } else own
        | none => own
      (s.sendPtp n m .plain).setEth n fun p => { p with seqAnn := (p.seqAnn + 1) % 65536 }

/-- A port in MASTER sends a Sync (R693, R695): originTimestamp is TIME64 truncated to a microsecond. -/
def State.syncOut (s : State) (n : Nat) : State :=
  if !s.ptpRuns n || (s.eth n).ptp ≠ 6 then s
  else
    let one := ptpOneStep (s.ptpVal n)
    let m := s.ptpMsg n 0 (s.eth n).seqSync (s.time64.fdiv 1000 * 1000) 0 (!one) 0
    (s.sendPtp n m (if one then .syncOne else .syncTwo)).setEth n fun p => { p with seqSync := (p.seqSync + 1) % 65536 }

/-- Delay_Req of a slave, or Pdelay_Req of a port that measures its peer delay (R695, Table 14.8). -/
def State.delayReqOut (s : State) (n : Nat) : State :=
  let seq := (s.eth n).seqReq
  if !s.up .compute || !s.up .network || !s.ethOn n then s
  else if s.role n = 3 || (s.role n = 1 && s.p2p) then
    (s.sendPtp n (s.ptpMsg n 2 seq 0 0 false 0) .pdelayReq).setEth n fun p =>
      { p with seqReq := (seq + 1) % 65536, peer := { seqId := seq, t1 := none, resp := none } }
  else if s.role n = 1 && ((s.eth n).ptp = 8 || (s.eth n).ptp = 9) then
    (s.sendPtp n (s.ptpMsg n 1 seq 0 0 false 0) .delayReq).setEth n fun p => { p with seqReq := (seq + 1) % 65536, req := some (seq, none) }
  else s

/-- A Delay_Req or Pdelay_Req is answered (R694). -/
def State.delayReqIn (s : State) (n : Nat) (m : PtpMsg) : State :=
  let rx := s.rxStamp n
  if !s.up .compute || !s.up .network || !s.ethOn n || m.domain ≠ s.ptpDomain then s
  else if m.mtype = 1 then
    if s.role n = 1 && (s.eth n).ptp = 6 && !s.p2p then
      s.sendPtp n (s.ptpMsg n 9 m.seqId (rx.fdiv 65536) (m.correction - rx % 65536) false m.source) .plain
    else s
  else if m.mtype = 2 && (s.role n = 3 || (s.role n = 1 && s.p2p)) then
    if ptpOneStep (s.ptpVal n) then s.sendPtp n (s.ptpMsg n 3 m.seqId 0 m.correction false m.source) (.pdelayOne rx)
    else s.sendPtp n (s.ptpMsg n 3 m.seqId (rx.fdiv 65536) (m.correction - rx % 65536) true m.source) .pdelayTwo
  else s

/-! ### The device as slave (R690, R691) -/

/-- delay used for a port's offsets. -/
def State.pathDelay (s : State) (n : Nat) : Int := (if s.p2p then (s.eth n).peerDelay else s.net.meanPath) + ptpAsym (s.ptpVal n)

/-- An offset of R690, from t2 − t1 − c in 2⁻¹⁶ ns, is offered to the Timebase. -/
def State.offerPtp (s : State) (n : Nat) (leg : Int) : State :=
  let o := leg - s.pathDelay n
  let acc := match (s.eth n).parent with
    | some m => accuracyBound m.accuracy
    | none => 0xFFFFFFFF
  let now := s.now
  let s := s.setEth n fun p => { p with leg := some leg, ptp := 9, syncAt := some now, twoStep := none }
  ({ s with net := { s.net with offset := o } } : State).offset 2 (roundDiv o 65536) (max 25 (max (s.cfg 0x2447 0) acc))

/-- A Sync, or its Follow_Up, on the slave port. -/
def State.syncIn (s : State) (n : Nat) (m : PtpMsg) : State :=
  let p := s.eth n
  let rx := s.rxStamp n
  if !s.ptpRuns n || (p.ptp ≠ 8 && p.ptp ≠ 9) || m.domain ≠ s.ptpDomain || p.parent.map PtpMsg.source ≠ some m.source then s
  else if m.mtype = 0 then
    if m.twoStep then s.setEth n fun p => { p with twoStep := some (m.seqId, rx, m.correction) }
    else s.offerPtp n (rx - m.stamp * 65536 - m.correction)
  else if m.mtype = 8 then
    match p.twoStep with
    | some (q, t2, c) => if q = m.seqId then s.offerPtp n (t2 - m.stamp * 65536 - c - m.correction) else s
    | none => s
  else s

/-- No Sync arrives for three Sync intervals (R691). -/
def State.syncTimeout (s : State) (n : Nat) : State :=
  match (s.eth n).syncAt with
  | none => s
  | some a =>
    if (s.eth n).ptp = 9 && a + 3 * logInterval (ptpLogSync (s.ptpVal n)) ≤ s.now then
      (s.setEth n fun p => { p with syncAt := none }).sourceGone 2
    else s

/-- A Delay_Resp, a Pdelay_Resp or its follow-up (R690). -/
def State.delayRespIn (s : State) (n : Nat) (m : PtpMsg) : State :=
  let p := s.eth n
  let rx := s.rxStamp n
  if !s.up .compute || !s.up .network || !s.ethOn n || m.domain ≠ s.ptpDomain || m.requester ≠ s.portId n then s
  else match m.mtype with
    | 9 =>
      (match p.req, p.leg with
      | some (q, some t3), some leg =>
        if q = m.seqId && s.role n = 1 then
          let d := roundDiv (leg + (m.stamp * 65536 - t3 - m.correction)) 2
          let s := s.setEth n fun p => { p with req := none }
          { s with net := { s.net with meanPath := d } }
        else s
      | _, _ => s)
    | 3 =>
      if p.peer.seqId ≠ m.seqId then s
      else if m.twoStep then s.setEth n fun p => { p with peer := { p.peer with resp := some (rx, m.stamp * 65536, m.correction) } }
      else (match p.peer.t1 with
        | some t1 => s.setEth n fun p => { p with peerDelay := roundDiv (rx - t1 - m.correction) 2 }
        | none => s)
    | 10 =>
      (match p.peer.t1, p.peer.resp with
      | some t1, some (t4, t2, c) =>
        if p.peer.seqId = m.seqId then
          s.setEth n fun p => { p with peerDelay := roundDiv (t4 - t1 - (m.stamp * 65536 - t2) - c - m.correction) 2 }
        else s
      | _, _ => s)
    | _ => s

/-! ### The PTP group (R681, R685) -/

/-- Ranges of Table 14.5. -/
def ptpRangesOk (profile v : Nat) : Bool :=
  let lo : Int × Int × Int := if profile < 2 then (-1, 0, 0) else (-7, -3, -7)
  lo.1 ≤ ptpLogSync v && ptpLogSync v ≤ 1 && lo.2.1 ≤ ptpLogAnnounce v && ptpLogAnnounce v ≤ 4 && lo.2.2 ≤ ptpLogDelay v
    && ptpLogDelay v ≤ 5 && (2 ≤ ptpTimeout v && ptpTimeout v ≤ 10)

/-- PtpCommit (Table 14.6). -/
def State.ptpCheck (s : State) : Option Ans :=
  let prof := s.cfg 0x2442 0
  let vs := (List.range 4).map fun n => (n, s.cfg 0x2443 (n + 1))
  let role (v : Nat) : Bool := ptpRole v ≤ 3 && ptpTransport v ≤ 2 && bits v 56 2 = 0
    && !(ptpRole v = 2 && prof % 2 = 1) && !(ptpRole v = 3 && prof % 2 = 0)
  let on := vs.filter fun p => ptpRole p.2 ≠ 0
  let v6 := on.filter fun p => ptpTransport p.2 = 2
  firstFail
    [(s.cfg 0x2441 0 ≤ 127 && prof ≤ 3, Ans.bad 0x05240010), (vs.all fun p => role p.2, Ans.bad 0x05240011),
     (vs.all fun p => ptpRangesOk prof p.2, Ans.bad 0x05240012),
     (on.all fun p => s.hasEth p.1 && ethMode (s.ethVal p.1) ≠ 0, Ans.state 0x05240013),
     ((!on.any fun p => ptpTransport p.2 = 1) || !allZero ((s.cfgB 0x2410 0).take 4), Ans.state 0x05240014),
     (v6.length ≤ 1 || !allZero ((s.cfgB 0x2411 0).take 16), Ans.state 0x05240014)]

/-- The committed group applies: ports whose value changed re-enter INITIALIZING, held residences are dropped. -/
def State.ptpCommitted (s : State) (old : List Bytes) : State :=
  let s := (List.range 4).foldl (fun (s : State) n =>
    if old.getD n [] ≠ s.cfgB 0x2453 (n + 1) then s.ptpInit n else s) s
  { s with net := { s.net with held := [] } }

/-! ### Restart and reset (R702, R703) -/

def State.netRestart (s : State) : State :=
  { s with net := { s.net with held := [], ports := s.net.ports.map fun p => { p with queues := [[], [], [], []] } } }

def State.netReset (s : State) : State :=
  let slave := s.net.ports.any fun p => p.ptp = 9
  let ports := (List.range 4).map fun n => EthPort.reset (s.role n) s.now
  let s : State := { s with net := { Net.reset with ports := ports } }
  if slave then s.sourceGone 2 else s

/-- PtpGrandmaster: the parent's while a slave, else the device's own. -/
def State.grandmaster (s : State) : Nat :=
  match s.net.ports.find? fun p => p.ptp = 8 || p.ptp = 9 with
  | some p => (match p.parent with
    | some m => m.grandmaster
    | none => 0)
  | none => if s.clockPorts = [] then 0 else s.clockId

end Sys2Proof.Machine
end

