-- ==== Sys2Proof/Machine/KeyOps.lean ====
section
/-!
DEFINITION. The Keyring: derivation, key slots and their chains, writing, erasing and invalidating, flash records, sealed data
(17_keyring_lifecycle.md R799 to R820).
-/

namespace Sys2Proof.Machine

/-! ### Slots (R805 to R807) -/

/-- The device reads Scrapped: its scrap fuse is blown (R829). -/
def Keyring.scrapped (k : Keyring) : Bool := k.scrapFuse || k.life = .scrapped

/-- The provisioning key of slot 255 (R824, Table 17.1). -/
def State.provSlot (s : State) : KeySlot :=
  { KeySlot.empty 0 with usage := 1, length := 32, st := .valid, ceiling := 3, material := Sha.kdf Config.rootSecret (ascii "DHX-PROV") s.silicon.serial 256 }

/-- Key slot i. Slot 0 names no key; slot 255 holds the provisioning key in Blank and Decommissioned; a scrapped device holds no
key (R824, R829). -/
def State.keySlot (s : State) (i : Nat) : KeySlot :=
  if i = 0 || 255 < i || s.keys.scrapped then KeySlot.empty 0
  else if i = 255 then (if s.keys.life = .blank || s.keys.life = .decommissioned then s.provSlot else KeySlot.empty 0)
  else Tbl.getD s.keys.slots i (KeySlot.empty 0)

/-- The slot and, in turn, every ancestor are valid at the recorded generations (R806); a chain has at most 4 slots. -/
def State.chainOk (s : State) : Nat → Nat → Bool
  | 0, _ => false
  | n + 1, i =>
    let x := s.keySlot i
    x.st = .valid && (x.parent = 0 || ((s.keySlot x.parent).gen = x.parentGen && s.chainOk n x.parent))

/-- Slot i's key is usable (R806). -/
def State.keyUsable (s : State) (i : Nat) : Bool := s.chainOk 8 i

/-- The key of slot i, where it is usable and of the usage asked for. -/
def State.keyFor (s : State) (i usage : Nat) : Option Bytes :=
  if (s.keySlot i).usage = usage && s.keyUsable i then some (s.keySlot i).material else none

/-- The state a slot reads (R806). -/
def State.keyState (s : State) (i : Nat) : KeyState :=
  let x := s.keySlot i
  if x.st = .valid && !s.keyUsable i then .invalid else x.st

/-- KeySlotStatus (Table 17.3). -/
def State.keyStatus (s : State) (i : Nat) : Bytes :=
  let x := s.keySlot i
  leBytes 8 (x.installed % 2 ^ 64).toNat
    ++ [byte (x.depth + 4 * x.ceiling + 16 * b2n x.derived + 32 * b2n x.persistent + 64 * (s.keyState i).code), byte x.length]
    ++ leBytes 2 x.parentGen ++ leBytes 2 x.gen ++ [byte x.parent, byte x.usage]

/-- Empty slots among 1 to 254. -/
def State.keySlotsFree (s : State) : Nat := ((span 1 254).filter fun i => (s.keySlot i).st = .empty).length

/-! ### Keys taken by links and sessions -/

/-- The join key of a machine (Table 17.2). -/
def joinKey (fleet : Bytes) (machineId : Nat) : Bytes := Sha.kdf fleet (ascii "DHX-JOIN") (leBytes 4 machineId) 256

/-- Link key and token key (Table 17.2, R804). -/
def linkKeys (join : Bytes) (bits linkId : Nat) (mach dev : Bytes) : Bytes × Bytes :=
  let k := Sha.kdf join (ascii "DHX-LINK") (leBytes 4 linkId ++ mach ++ dev) (bits + 256)
  (k.take (bits / 8), slice k (bits / 8) 32)

/-- The slot and its ancestors are valid, or damaged and yet to be reloaded, at the recorded generations: a damaged slot keeps its
generation, so its descendants stay valid (R816). -/
def State.chainStands (s : State) : Nat → Nat → Bool
  | 0, _ => false
  | n + 1, i =>
    let x := s.keySlot i
    (x.st = .valid || x.st = .damaged) && (x.parent = 0 || ((s.keySlot x.parent).gen = x.parentGen && s.chainStands n x.parent))

/-- Whether what was keyed from slot i at generation g still stands. -/
def State.keyStands (s : State) (i g : Nat) : Bool := s.chainStands 8 i && (s.keySlot i).gen = g

/-- The shadow of a stage group returns to the active set in one step (R108, R109). -/
def returnShadow (s : State) (commit : Nat) : State :=
  (s.groupKeys commit).foldl (fun s m => s.setVal m.1 (s.val m.2)) s

def Editor.ofCaller : Caller → Editor
  | .coil i _ => .coil i
  | .usdo p n => .can p n
  | .applet _ _ => .applet
  | .firmware => .firmware

/-- End every hold of an editor. -/
def State.endHolds (s : State) (e : Editor) : State :=
  let mine := s.dict.holds.filter fun h => h.editor = e
  let s := { s with dict := { s.dict with holds := s.dict.holds.filter fun h => h.editor ≠ e } }
  mine.foldl (fun s h => returnShadow s h.commit) s

/-- End a session: its subscriptions, holds and partial transfers end, and responses of operations still with an engine are
dropped (R131). The shadows of its holds return to the active sets (R108). -/
def State.endSession (s : State) (i : Nat) : State :=
  let was := Tbl.get? s.dict.sessions i
  let s := { s with dict := { s.dict with sessions := Tbl.del s.dict.sessions i } }
  let s := s.endHolds (.coil i)
  match was with
  | some x =>
    (match x.nbr with
    | some n => s.setNbr n fun y => { y with session := none }
    | none => s)
  | none => s

/-- Messages in flight to links that have lost their keys end KEY_INVALID (R629). -/
def State.dropKeyless (s : State) : State :=
  let msgs := s.radio.links.flatMap fun e => if e.2.keyOk then [] else e.2.msgs
  let links := s.radio.links.map fun e => (e.1, if e.2.keyOk then e.2 else { e.2 with msgs := [] })
  let s := { s with radio := { s.radio with links := links } }
  msgs.foldl (fun s m => s.answer m.caller Ans.keyInvalid) s

/-- The increments of a generation reach every island that holds a descendant key (R813, R814): a link keyed from a slot that no
longer stands loses its keys, a Coil session keyed from one ends after the responses it is owed (R100). -/
def State.withdrawKeys (s : State) : State :=
  let links := s.radio.links.map fun e => (e.1, { e.2 with keyOk := e.2.keyOk && s.keyStands e.2.joinSlot e.2.joinGen })
  let lost := (s.dict.sessions.filter fun e => !s.keyStands e.2.slot e.2.slotGen).map Prod.fst
  let s := ({ s with radio := { s.radio with links := links } } : State).dropKeyless
  lost.foldl (fun s i => (s.flushSession i).endSession i) s

/-! ### Flash records (R816, R953) -/

/-- What a record holds of the slots: persistent slots whole, of the others the generation. -/
def recordSlots (t : Tbl KeySlot) : Tbl KeySlot :=
  (t.map fun e => (e.1, if e.2.persistent then e.2 else KeySlot.empty e.2.gen)).filter fun e => e.2 ≠ KeySlot.empty 0

/-- The record that wins: its tag verifies and its record generation is higher. -/
def Keyring.winner (k : Keyring) : Option KeyRecord :=
  if k.recA.good && (!k.recB.good || k.recB.gen ≤ k.recA.gen) then some k.recA
  else if k.recB.good then some k.recB else none

/-- Write the change into the record of lower generation, or into one that does not verify, with the higher generation plus 1. -/
def Keyring.persist (k : Keyring) : Keyring :=
  let r : KeyRecord := { gen := max k.recA.gen k.recB.gen + 1, good := true, slots := recordSlots k.slots, life := k.life }
  if k.recA.good && (!k.recB.good || k.recB.gen < k.recA.gen) then { k with recB := r } else { k with recA := r }

/-- The record last written fails its tag: power failed while it was written. -/
def Keyring.torn (k : Keyring) : Keyring :=
  if k.recA.gen ≤ k.recB.gen then { k with recB := { k.recB with good := false } } else { k with recA := { k.recA with good := false } }

/-- Load the winning record at a reset of the Security island; the second result says that neither record verifies. -/
def Keyring.load (k : Keyring) : Keyring × Bool :=
  match k.winner with
  | some r => ({ k with slots := r.slots, life := if k.scrapFuse then .scrapped else r.life, loadedGen := r.gen }, false)
  | none => ({ k with slots := [], life := if k.scrapFuse then .scrapped else .decommissioned, loadedGen := 0 }, true)

/-! ### Writing a slot (R808 to R812) -/

def keyLengthOk (usage len : Nat) : Bool :=
  match usage with
  | 1 => len = 32
  | 2 => len = 32
  | 3 => len = 16 || len = 32
  | 4 => len = 16 || len = 32
  | 5 => len = 32 || len = 48
  | _ => false

/-- Whether slot j is slot i or a descendant of it: walking up from j meets i. -/
def State.descends (s : State) (i : Nat) : Nat → Nat → Bool
  | 0, _ => false
  | n + 1, j => j = i || ((s.keySlot j).parent ≠ 0 && s.descends i n (s.keySlot j).parent)

/-- Whether another slot names slot i as its parent. -/
def State.hasChildren (s : State) (i : Nat) : Bool := s.keys.slots.any fun e => e.1 ≠ i && e.2.parent = i

/-- The exact length of a KeyWrite value (R808). -/
def keyWriteLen (v : Bytes) : Nat := 8 + (if bit (u v 3 1) 1 then u v 5 1 + u v 6 1 else u v 4 1)

/-- Depth of a slot under a parent. -/
def State.depthUnder (s : State) (parent : Nat) : Nat := if parent = 0 then 0 else (s.keySlot parent).depth + 1

/-- The checks of Table 17.6 on a KeyWrite value of right length and zero reserved bits. -/
def State.keyWriteCheck (s : State) (v : Bytes) : Option Ans :=
  let slot := u v 0 1; let usage := u v 1 1; let parent := u v 2 1; let flags := u v 3 1
  let derived := bit flags 1
  let lab := u v 5 1; let ctx := u v 6 1
  firstFail
    [(1 ≤ slot && slot ≤ 254 && keyLengthOk usage (u v 4 1) && (usage = 1 || bits flags 2 2 = 0)
        && (if derived then 1 ≤ lab && lab ≤ 32 && ctx ≤ 64 else lab = 0 && ctx = 0), Ans.bad 0x05110001),
     ((parent ≠ 0 || !derived) && (parent = 0 || (!s.descends slot 8 parent && (s.keySlot parent).usage = 5 && s.keyUsable parent
        && s.depthUnder parent ≤ 3 && (!bit flags 0 || (s.keySlot parent).persistent))), Ans.bad 0x05110002),
     (!((s.keySlot slot).usage = 5 && usage ≠ 5 && s.hasChildren slot), Ans.state 0x05110003),
     ((s.keySlot slot).gen < 0xFFFF, Ans.state 0x05110004), (!s.flash.fails, Ans.state 0x05110005)]

/-- The slot a KeyWrite makes. -/
def State.keyMade (s : State) (v : Bytes) : KeySlot :=
  let slot := u v 0 1; let parent := u v 2 1; let flags := u v 3 1; let len := u v 4 1
  let m := v.drop 8
  let mat := if bit flags 1 then Sha.kdf (s.keySlot parent).material (m.take (u v 5 1)) (slice m (u v 5 1) (u v 6 1)) (8 * len) else m.take len
  { usage := u v 1 1, parent := parent, gen := (s.keySlot slot).gen + 1, parentGen := if parent = 0 then 0 else (s.keySlot parent).gen,
    length := len, st := .valid, persistent := bit flags 0, derived := bit flags 1, ceiling := bits flags 2 2,
    depth := s.depthUnder parent, installed := s.time64, material := mat }

/-- A slot changes: the increment reaches every island, then the record is written (R813, R816). -/
def State.putKey (s : State) (slot : Nat) (x : KeySlot) : State :=
  let s := ({ s with keys := { s.keys with slots := Tbl.put s.keys.slots slot x } } : State).withdrawKeys
  { s with keys := s.keys.persist }

/-- KeyWrite. A change that withdraws the writer's own session answers first (R100). -/
def State.keyWritten (s : State) (c : Caller) (v : Bytes) : State × Option Ans :=
  match s.keyWriteCheck v with
  | some a => (s, some a)
  | none => ((s.answer c (Ans.done [])).putKey (u v 0 1) (s.keyMade v), none)

/-- Checks 1, 4 and 5 of KeyErase and KeyInvalidate. -/
def State.keyEndCheck (s : State) (slot : Nat) : Option Ans :=
  firstFail [(1 ≤ slot && slot ≤ 254, Ans.bad 0x05110001), ((s.keySlot slot).gen < 0xFFFF, Ans.state 0x05110004),
             (!s.flash.fails, Ans.state 0x05110005)]

/-- KeyErase (R812). -/
def State.keyErased (s : State) (c : Caller) (slot : Nat) : State × Option Ans :=
  let x := s.keySlot slot
  if 1 ≤ slot && slot ≤ 254 && x.st = .empty then (s, some (Ans.done []))
  else match s.keyEndCheck slot with
    | some a => (s, some a)
    | none => ((s.answer c (Ans.done [])).putKey slot (KeySlot.empty (x.gen + 1)), none)

/-- KeyInvalidate (R812): of a damaged persistent slot, once its reload completes. -/
def State.keyInvalidated (s : State) (c : Caller) (slot : Nat) : State × Option Ans :=
  let x := s.keySlot slot
  if 1 ≤ slot && slot ≤ 254 && (s.keyState slot = .empty || s.keyState slot = .invalid) then (s, some (Ans.done []))
  else match s.keyEndCheck slot with
    | some a => (s, some a)
    | none =>
      if x.st = .damaged && x.persistent then ({ s with keys := { s.keys with waiting := s.keys.waiting ++ [(slot, c)] } }, none)
      else ((s.answer c (Ans.done [])).putKey slot { x with st := .invalid, gen := x.gen + 1 }, none)

/-- A damaged persistent slot is reloaded from the winning record (R816), and the KeyInvalidates that waited for it are applied. -/
def State.keyReload (s : State) (slot : Nat) : State :=
  let x := s.keySlot slot
  match s.keys.winner with
  | none => s
  | some r =>
    if x.st = .damaged && x.persistent && s.up .security then
      let s := { s with keys := { s.keys with slots := Tbl.put s.keys.slots slot (Tbl.getD r.slots slot (KeySlot.empty x.gen)) } }
      let mine := s.keys.waiting.filter fun w => w.1 = slot
      let s := { s with keys := { s.keys with waiting := s.keys.waiting.filter fun w => w.1 ≠ slot } }
      mine.foldl (fun s w => State.answer? (s.keyInvalidated w.2 slot) w.2) s
    else s

/-! ### Sealed data (R817 to R820) -/

/-- The sealing key of a binding and measurement (Table 17.1). -/
def sealKey (binding : Nat) (m : Bytes) : Bytes := Sha.kdf Config.rootSecret (ascii "DHX-SEAL") (byte binding :: m) 256

/-- The measurement of the running boot that a binding selects. -/
def State.measurement (s : State) (binding : Nat) : Bytes := if binding = 0 then s.boot.m1 else s.boot.m2

/-- The measurement the staged image would have (R820): M1′, or M2′ over M1′ or M1. -/
def State.stagedMeasure (s : State) (binding : Nat) : Option Bytes :=
  match s.boot.staged with
  | none => none
  | some i =>
    let x := s.boot.imgs.getD i ImgSlot.empty
    let m1 := Sha.extend (slice x.header 32 48) (slice x.header 80 48)
    let run := s.boot.imgs.getD s.boot.booted ImgSlot.empty
    let newFirmware : Bool := x.header ≠ run.header
    let newApp : Bool := x.appHdr ≠ run.appHdr
    if binding = 0 then (if newFirmware || !newApp then some m1 else none)
    else if (newApp || !newFirmware) && x.appHdr ≠ [] then some (Sha.extend m1 (slice x.appHdr 32 48)) else none

/-- A sealed blob (R819). -/
def sealBlob (binding : Nat) (key iv plain : Bytes) : Bytes :=
  let head : Bytes := [1, byte binding, 0, 0] ++ iv
  head ++ gcmSeal key iv head plain

/-- What a blob unseals to under a binding's key. -/
def unsealBlob (binding : Nat) (key b : Bytes) : Option Bytes :=
  if 32 ≤ b.length && b.take 4 = [1, byte binding, 0, 0] then gcmOpen key (slice b 4 12) (b.take 16) (b.drop 16) else none

/-- Whether a caller may use a binding (R818). -/
def sealCaller (c : Caller) (binding : Nat) : Bool :=
  match c with
  | .firmware => true
  | .applet _ _ => binding = 1
  | .coil _ _ => false
  | .usdo _ _ => false

/-- Seal data under a key, with a fresh IV. -/
def State.sealWith (s : State) (binding : Nat) (key plain : Bytes) : State × Option Ans :=
  let d := s.drawBytes 12
  (d.1, some (Ans.done (sealBlob binding key d.2 plain)))

/-- Op 1. -/
def State.sealOp (s : State) (binding : Nat) (data : Bytes) : State × Option Ans :=
  if 1024 < data.length then (s, some Ans.tooLarge) else s.sealWith binding (sealKey binding (s.measurement binding)) data

/-- Op 2. -/
def State.unsealOp (s : State) (binding : Nat) (data : Bytes) : State × Option Ans :=
  match unsealBlob binding (sealKey binding (s.measurement binding)) data with
  | some p => (s, some (Ans.done p))
  | none => (s, some Ans.keyInvalid)

/-- Op 3. -/
def State.forwardOp (s : State) (binding : Nat) (data : Bytes) : State × Option Ans :=
  match s.stagedMeasure binding with
  | none => (s, some (Ans.state 0x05110021))
  | some m =>
    match unsealBlob binding (sealKey binding (s.measurement binding)) data with
    | some p => s.sealWith binding (sealKey binding m) p
    | none => (s, some Ans.keyInvalid)

/-- KeySealPort (R817 to R820). -/
def State.sealPort (s : State) (c : Caller) (req : Bytes) : State × Option Ans :=
  let op := u req 0 1; let binding := u req 1 1; let data := req.drop 4
  if !sealCaller c binding then (s, some (Ans.no 0x10 0x05110020))
  else if req.length < 4 || op = 0 || 3 < op || 1 < binding || u req 2 2 ≠ 0 then (s, some Ans.invalid)
  else if s.keys.scrapped then (s, some Ans.keyInvalid)
  else if op = 1 then s.sealOp binding data
  else if op = 2 then s.unsealOp binding data
  else s.forwardOp binding data

end Sys2Proof.Machine
end

