-- ==== Sys2Proof/Machine/CombReqs.lean ====
section
/-!
DEFINITION. A Comb request as bytes, its format checks, and its way from track to cells (05_comb_claims.md R203 to R218, R236).
-/

namespace Sys2Proof.Machine

/-! ### Requests (Tables 5.4 to 5.7) -/

/-- A Comb request in its fields: `par` is param_a, `foot` the footprint's bytes, `rest` what follows it. -/
structure Creq where
  op     : Nat
  flags  : Nat
  owner  : Nat
  tag    : Nat
  intake : Nat
  body   : Nat
  ref    : Nat
  par    : Nat
  base   : Nat
  count  : Nat
  step   : Nat
  shifts : Nat
  foot   : Bytes
  rest   : Bytes
  deriving DecidableEq, Repr, Inhabited

/-- Bytes of the footprint of a body. -/
def footLen (body : Nat) (b : Bytes) : Nat :=
  match body with
  | 1 => 8
  | 2 => 16
  | 3 => 4 + 8 * u b 0 1
  | _ => 0

def Creq.of (b : Bytes) : Creq :=
  let body := u b 7 1
  let rest := b.drop 32
  let n := footLen body rest
  { op := u b 0 1, flags := u b 1 1, owner := u b 2 2, tag := u b 4 2, intake := u b 6 1, body := body, ref := u b 8 4,
    par := u b 12 4, base := u b 16 8, count := u b 24 2, step := u b 26 2, shifts := u b 28 1, foot := rest.take n,
    rest := rest.drop n }

def Creq.open_ (r : Creq) : Bool := bit r.flags 0
def Creq.force (r : Creq) : Bool := bit r.flags 1
def Creq.trim (r : Creq) : Bool := bit r.flags 2
def Creq.allTags (r : Creq) : Bool := bit r.flags 3
def Creq.hold (r : Creq) : Nat := r.par % 65536
def Creq.margin (r : Creq) : Nat := r.par / 65536

/-- A waypoint (Table 5.7): east, north, t_off, heading. -/
structure Wp where
  e : Int
  n : Int
  t : Nat
  h : Int
  deriving DecidableEq, Repr, Inhabited

def wpOf (b : Bytes) : Wp := { e := si b 0 4, n := si b 4 4, t := u b 8 4, h := si b 12 2 }
def Creq.wps (r : Creq) : List Wp := (List.range r.count).map fun i => wpOf (r.rest.drop (16 * i))
def Creq.verts (r : Creq) : List (Int × Int) := areaVerts r.rest

/-- Vertices of a machine polygon (Table 5.6). -/
def polyVerts (b : Bytes) : List (Int × Int) := (List.range (u b 0 1)).map fun i => (si b (4 + 8 * i) 4, si b (8 + 8 * i) 4)

/-- A footprint of Table 5.6 types 1 to 3. -/
def footprintOf (body : Nat) (b : Bytes) : Footprint :=
  match body with
  | 1 => .disc (u b 0 4)
  | 2 =>
    let f : Int := u b 0 4; let r : Int := u b 4 4; let l : Int := u b 8 4; let g : Int := u b 12 4
    .poly [(f, l), (-r, l), (-r, -g), (f, -g)]
  | _ => .poly (polyVerts b)

def Creq.footprint (r : Creq) : Footprint := footprintOf r.body r.foot

/-! ### Check 1 of Table 5.8 -/

/-- Flags an operation may carry (Table 5.4). -/
def flagMask (op : Nat) : Nat :=
  match op with
  | 1 => 5 | 2 => 1 | 3 => 5 | 4 => 8 | 5 => 3 | _ => 0

/-- Body types of Table 5.3. -/
def bodyOk (op body : Nat) : Bool :=
  match op with
  | 1 | 3 => 1 ≤ body && body ≤ 3
  | 2 => 1 ≤ body && body ≤ 4
  | 5 => body = 4
  | _ => body = 0

/-- Bytes after the footprint. -/
def Creq.tailLen (r : Creq) : Nat :=
  if r.op = 6 then 4 else if r.body = 0 then 0 else if r.body = 4 then 8 * r.count else 16 * r.count

/-- Ranges of a footprint's fields (Table 5.6). -/
def footRangeOk (body : Nat) (b : Bytes) : Bool :=
  match body with
  | 1 => 1 ≤ u b 0 4 && u b 0 4 ≤ 32000 && u b 4 4 = 0
  | 2 => u b 0 4 ≤ 32000 && u b 4 4 ≤ 32000 && u b 8 4 ≤ 32000 && u b 12 4 ≤ 32000 && 1 ≤ u b 0 4 + u b 4 4 && 1 ≤ u b 8 4 + u b 12 4
  | 3 => 3 ≤ u b 0 1 && u b 0 1 ≤ 8 && u b 1 3 = 0 && (polyVerts b).all fun v => v.1.natAbs ≤ 32000 && v.2.natAbs ≤ 32000
  | _ => true

/-- Ranges of the operation's own fields (Tables 5.4 and 5.5). -/
def Creq.fieldsOk (r : Creq) : Bool :=
  (match r.op with
  | 1 | 3 => r.margin ≤ 5000
  | 2 => (r.body = 4 || r.margin ≤ 5000) && (r.shifts = 0 || 1 ≤ r.step)
  | 4 => r.par = 0 && r.count = 0
  | 6 => r.tag = 0 && r.count = 0
  | _ => true)
    && (r.op = 2 || (r.step = 0 && r.shifts = 0))

/-- Reserved bits of each waypoint. -/
def Creq.wpsOk (r : Creq) : Bool := r.body = 0 || r.body = 4 || (List.range r.count).all fun i => u r.rest (16 * i + 14) 2 = 0

/-- Check 1: the request's format. -/
def formatOk (b : Bytes) : Bool :=
  let r := Creq.of b
  32 ≤ b.length && 1 ≤ r.op && r.op ≤ 6 && bodyOk r.op r.body && b.length = 32 + footLen r.body (b.drop 32) + r.tailLen
    && r.flags ||| flagMask r.op = flagMask r.op && r.owner < 2048 && r.tag ≤ 8190 && r.intake < 8 && r.base < 2 ^ 40
    && u b 29 3 = 0 && r.fieldsOk && footRangeOk r.body r.foot && r.wpsOk

/-- Check 3: the owner's kind (Table 5.3). -/
def Creq.ownerOk (r : Creq) : Bool :=
  match r.op with
  | 1 | 3 => r.owner < 1024
  | 5 => 1536 ≤ r.owner
  | 6 => r.owner = 0
  | _ => r.owner < 1024 || 1536 ≤ r.owner

/-! ### Tracks (R207 to R212) -/

/-- A pose held at the instants `a` to `b`; without `b`, for ever. -/
structure Pose where
  a : Nat
  b : Option Nat
  e : Int
  n : Int
  h : Int
  deriving DecidableEq, Repr, Inhabited

/-- Turn from one heading to another (R209). -/
def headDelta (h1 h2 : Int) : Int :=
  let d := signed 16 ((h2 - h1) % 65536).toNat
  if d = -32768 then 32768 else d

/-- The pose at instant t between two waypoints, `t0` being the base: each coordinate is rounded as a whole (R208), the turn by itself
(R209). -/
def interp (t0 : Nat) (x y : Wp) (t : Nat) : Pose :=
  let dt : Int := (t : Int) - (t0 + x.t)
  let tt := y.t - x.t
  { a := t, b := some t, e := roundDiv (x.e * tt + (y.e - x.e) * dt) tt, n := roundDiv (x.n * tt + (y.n - x.n) * dt) tt,
    h := signed 16 ((x.h + roundDiv (headDelta x.h y.h * dt) tt) % 65536).toNat }

/-- The poses from one waypoint up to the next, which it leaves to the next. -/
def legPoses (t0 : Nat) (x y : Wp) : List Pose :=
  if x.e = y.e && x.n = y.n && x.h = y.h then [{ a := t0 + x.t, b := some (t0 + y.t - 1), e := x.e, n := x.n, h := x.h }]
  else (span (t0 + x.t) (y.t - x.t)).map (interp t0 x y)

/-- The poses of a track in order of time. -/
def trackPoses (t0 hold : Nat) (open_ : Bool) : List Wp → List Pose
  | [] => []
  | [x] => [{ a := t0 + x.t, b := if open_ then none else some (t0 + x.t + hold), e := x.e, n := x.n, h := x.h }]
  | x :: y :: t => legPoses t0 x y ++ trackPoses t0 hold open_ (y :: t)

def lastWp (l : List Wp) : Wp := (l.getLast?).getD default
def Creq.tFirst (r : Creq) (shift : Nat) : Nat := r.base + shift + ((r.wps.head?).map Wp.t).getD 0
def Creq.tLast (r : Creq) (shift : Nat) : Nat := r.base + shift + (lastWp r.wps).t
/-- t_end; an open track has none. -/
def Creq.tEnd (r : Creq) (shift : Nat) : Option Nat := if r.open_ then none else some (r.tLast shift + r.hold)
def Creq.poses (r : Creq) (shift : Nat) : List Pose := trackPoses (r.base + shift) r.hold r.open_ r.wps

/-- Ticks of a cell: `lo` included, `hi` excluded, or without end. -/
structure Cov where
  q  : Int
  r  : Int
  lo : Nat
  hi : Option Nat
  deriving DecidableEq, Repr, Inhabited

/-- The ticks a pose's cells are covered at (R213). -/
def Pose.ticks (p : Pose) (tFirst : Nat) (tEnd : Option Nat) : Nat × Option Nat :=
  (max tFirst (p.a - 1),
    match p.b, tEnd with
    | some b, some e => some (min (b + 1) e)
    | some b, none => some (b + 1)
    | none, x => x)

/-- The cells inside a footprint posed at a place in units of 1/`den` mm, within the radius `base` (scale gscale den) plus p/√3
of it (R212, R495). `reach` bounds the distance in mm. -/
def cellsInside (p : Nat) (f : Footprint) (den : Int) (e n h : Int) (base : Int) (reach : Nat) : List (Int × Int) :=
  let S := gscale den
  cellsWithin S p (dilate S (S * f.radius + base) p) (f.pose den den e n h) (roundDiv e den.toNat) (roundDiv n den.toNat) reach

/-- The cells a pose covers. -/
def Pose.cells (x : Pose) (p : Nat) (f : Footprint) (margin : Nat) : List (Int × Int) :=
  cellsInside p f 1 x.e x.n x.h (gscale 1 * margin) (csqrt f.reach2 + margin + p + 2)

def covLe (x y : Cov) : Bool := x.q < y.q || (x.q = y.q && (x.r < y.r || (x.r = y.r && x.lo ≤ y.lo)))

def laterEnd : Option Nat → Option Nat → Option Nat
  | some a, some b => some (max a b)
  | _, _ => none

/-- Whether an interval with this end reaches an instant. -/
def reaches (e : Option Nat) (t : Nat) : Bool :=
  match e with
  | some x => t ≤ x
  | none => true

/-- Intervals of each cell in order, joined where they overlap or touch. -/
def joinCov : List Cov → List Cov
  | [] => []
  | x :: t =>
    match joinCov t with
    | [] => [x]
    | y :: rest => if x.q = y.q && x.r = y.r && reaches x.hi y.lo then { x with hi := laterEnd x.hi y.hi } :: rest else x :: y :: rest

/-- The covered runs of a list of poses (R213, R214). -/
def coverage (p : Nat) (f : Footprint) (margin tFirst : Nat) (tEnd : Option Nat) (poses : List Pose) : List Cov :=
  joinCov (sortBy covLe (poses.flatMap fun x =>
    let t := x.ticks tFirst tEnd
    (x.cells p f margin).map fun c => { q := c.1, r := c.2, lo := t.1, hi := t.2 }))

/-! ### Widening and entries (R214 to R218) -/

/-- The Table 5.11 values of an owner; for one that is no machine, their defaults (R211). -/
def State.parsOf (s : State) (owner : Nat) : CombPars :=
  if owner < 1024 then { g0 := s.mach owner 0x20, k := s.mach owner 0x21, margin := s.mach owner 0x22, guard := s.mach owner 0x23 }
  else { g0 := 250, k := 20, margin := 200, guard := 500 }
/-- Margin of a track (R211). -/
def Creq.marginWith (r : Creq) (p : CombPars) : Nat := max r.margin p.margin

/-- k·max(0, t − t_acc)/1,000, rounded up. -/
def widenBy (k tacc t : Nat) : Nat := ceilDiv (k * (t - tacc)) 1000

/-- A run widened, its start raised to t_acc, and whether R216 changed it; nothing where it ends at or before t_acc. -/
def widen (g0 k tacc : Nat) (c : Cov) : Option Cov × Bool :=
  let lo : Int := (c.lo : Int) - g0 - widenBy k tacc c.lo
  let hi := c.hi.map fun b => b + g0 + widenBy k tacc b
  let raised := lo < tacc
  if reaches (hi.map (· - 1)) tacc && reaches hi (tacc + 1) then (some { c with lo := if raised then tacc else lo.toNat, hi := hi }, raised)
  else (none, true)

/-- The intervals of a list of runs (R214 to R217), and note bit 0. -/
def widenAll (g0 k tacc : Nat) (l : List Cov) : List Cov × Bool :=
  let w := l.map (widen g0 k tacc)
  (joinCov (w.filterMap Prod.fst), w.any Prod.snd)

/-- Entries an interval is stored as (R218): start, duration, open_end, continued. -/
def chainGo : Nat → Nat → Nat → List (Nat × Nat × Bool × Bool)
  | 0, _, _ => []
  | fuel + 1, lo, len =>
    if len ≤ 65535 then [(lo, len, false, false)] else (lo, 65535, false, true) :: chainGo fuel (lo + 65535) (len - 65535)

def chain (c : Cov) : List (Nat × Nat × Bool × Bool) :=
  match c.hi with
  | none => [(c.lo, 0xFFFF, true, false)]
  | some h => chainGo ((h - c.lo) / 65535 + 1) c.lo (h - c.lo)

/-- Whether an interval is split. -/
def Cov.split (c : Cov) : Bool := 1 < (chain c).length

/-- The pitch in force. -/
def State.pitch (s : State) : Nat := Machine.pitch (s.cfg 0x4005 0)

/-- The coverage of a track or area at a shift. -/
def State.covers (s : State) (w : CombPars) (r : Creq) (shift : Nat) : List Cov :=
  let p := s.pitch
  if r.body = 4 then
    let vs := r.verts
    let S : Int := 6
    let ox := (vs.map Prod.fst).foldl max 0
    let lo (f : Int × Int → Int) : Int := vs.foldl (fun m v => min m (f v)) ox
    let hi (f : Int × Int → Int) : Int := vs.foldl (fun m v => max m (f v)) (lo f)
    let e0 := lo Prod.fst; let n0 := lo Prod.snd
    let reach := ((hi Prod.fst - e0) + (hi Prod.snd - n0)).toNat + p
    joinCov (sortBy covLe ((cellsWithin S p (dilate S 0 p) (vs.map (toP3 S)) e0 n0 reach).map fun c =>
      { q := c.1, r := c.2, lo := r.base + shift, hi := if r.open_ then none else some (r.base + shift + r.par) }))
  else coverage p r.footprint (r.marginWith w) (r.tFirst shift) (r.tEnd shift) (r.poses shift)

/-- The intervals a request asks for at a shift, given its coverage (R214 to R217; an area is not widened, R236). -/
def Creq.needsOf (r : Creq) (w : CombPars) (tacc : Nat) (cov : List Cov) : List Cov × Bool :=
  if r.body = 4 then widenAll 0 0 tacc cov else widenAll w.g0 w.k tacc cov

end Sys2Proof.Machine
end

