-- ==== Sys2Proof/Machine/CombStore.lean ====
section
/-!
DEFINITION. The Comb's storage: buckets, slots, live entries, blocked cells, retirement, regions and bands
(05_comb_claims.md R195 to R202, R240; 06_comb_concurrency_handover.md R268 to R278, R309 to R316).
-/

namespace Sys2Proof.Machine

/-! ### Entries (Table 5.1) -/

/-- End of an entry; none where it is open. -/
def Entry.fin (e : Entry) : Option Nat := if e.open_ then none else some (e.start + e.dur)
/-- An entry is live: its end is later than CtimeNow (R197). -/
def Entry.live (now : Nat) (e : Entry) : Bool := e.open_ || now < e.start + e.dur
def Entry.at_ (e : Entry) (q r : Int) : Bool := e.q = q && e.r = r
def Entry.of (e : Entry) (owner tag : Nat) : Bool := e.owner = owner && e.tag = tag

/-- Two intervals overlap. -/
def overlap (a : Nat) (b : Option Nat) (c : Nat) (d : Option Nat) : Bool := reaches b (c + 1) && reaches d (a + 1)

/-- An entry overlaps an interval of its cell. -/
def Entry.meets (e : Entry) (c : Cov) : Bool := e.at_ c.q c.r && overlap e.start e.fin c.lo c.hi

/-- Byte form of Table 5.1. -/
def Entry.word (e : Entry) : Nat :=
  cell32 e.q e.r * 2 ^ 96 + e.owner * 2 ^ 85 + e.tag * 2 ^ 72 + e.start * 2 ^ 32 + e.dur * 2 ^ 16
    + (if e.seq = 0 then 2 else 1) * 2 ^ 14 + b2n e.open_ * 2 ^ 13 + b2n e.cont * 2 ^ 12 + b2n e.trim * 2 ^ 11 + b2n e.trunc * 2 ^ 10
def Entry.bytes (e : Entry) : Bytes := leBytes 16 e.word

/-- CtimeNow, or zero where there is none. -/
def State.ct (s : State) : Nat := s.ctime.getD 0

/-! ### Buckets (R198 to R202) -/

/-- Buckets of the tier in force (Table 5.2). -/
def State.buckets (s : State) : Nat := if s.tier = 256 then 16384 else if s.tier = 512 then 32768 else 49152
def State.flightLimit (s : State) : Nat := s.tier / 2

/-- Home and alternate bucket of a cell. -/
def bucketsOf (n : Nat) (q r : Int) : Nat × Nat :=
  let h := crc32c (leBytes 4 (cell32 q r))
  let home := h % n
  (home, (home + 1 + h / 2 ^ 20 % (n - 1)) % n)

/-- The bank that holds a bucket (R198). -/
def bankOf (b : Nat) : Nat := b % 16

/-- A bucket takes new entries: its group of 64 is neither retired nor being retired (R202, R316). -/
def Comb.takes (c : Comb) (b : Nat) : Bool := !c.retired.contains (b / 64) && !c.retiring.contains (b / 64)

/-- A blocked slot still blocks at CTIME `now` (R311, R313). -/
def Blocked.holds (b : Blocked) (now : Nat) : Bool := b.open_ || now ≤ b.detect + 3600000
/-- A cell is blocked to what is judged at CTIME `now` (R311). -/
def State.cellBlocked (s : State) (q r : Int) (now : Nat) : Bool :=
  let h := bucketsOf s.buckets q r
  s.comb.blocked.any fun b => (b.bucket = h.1 || b.bucket = h.2) && b.holds now

/-- Slots of a bucket in use: live entries and slots that block. -/
def Comb.busy (c : Comb) (now b : Nat) : Nat :=
  c.entries.countP (fun e => e.bucket = b && e.live now) + c.blocked.countP fun x => x.bucket = b && x.holds now

/-- The CTIME at which an entry is dead to every operation: CtimeNow, or the earliest acceptance CTIME of an operation still in flight,
which judges the entries that live at its own (R263). -/
def Comb.reapAt (c : Comb) (now : Nat) : Nat := c.flight.foldl (fun m f => min m f.tacc) now

/-- Dead entries of a bucket are reclaimed (R199, R240). -/
def Comb.reclaim (c : Comb) (now b : Nat) : Comb :=
  let t := c.reapAt now
  { c with entries := c.entries.filter fun e => e.bucket ≠ b || e.live t, blocked := c.blocked.filter fun x => x.bucket ≠ b || x.holds t }

/-- The lowest slot of a bucket with no live entry at CTIME `now` and no block. -/
def Comb.freeSlot (c : Comb) (now b : Nat) : Option Nat :=
  (List.range 32).find? fun i =>
    !(c.entries.any fun e => e.bucket = b && e.slot = i && e.live now) && !(c.blocked.any fun x => x.bucket = b && x.slot = i && x.holds now)

/-- Whether a bucket has a free or dead slot. -/
def Comb.room (c : Comb) (now b : Nat) : Bool := c.takes b && c.busy now b < 32

/-- The bucket that takes a new entry of a cell (R199, R200). -/
def Comb.pickBucket (c : Comb) (n now : Nat) (q r : Int) : Option Nat :=
  let h := bucketsOf n q r
  if c.room now h.1 then some h.1 else if c.room now h.2 then some h.2 else none

/-- Write a new entry, where a bucket of its cell has a slot. -/
def Comb.place (c : Comb) (n now : Nat) (e : Entry) : Option Comb :=
  match c.pickBucket n now e.q e.r with
  | none => none
  | some b =>
    let c := c.reclaim now b
    (c.freeSlot now b).map fun i => { c with entries := c.entries ++ [{ e with bucket := b, slot := i }] }

/-- Write new entries in order; where one finds no slot, that one. -/
def Comb.placeAll (n now : Nat) : Comb → List Entry → Comb × Option Entry
  | c, [] => (c, none)
  | c, e :: t =>
    match c.place n now e with
    | some c' => Comb.placeAll n now c' t
    | none => (c, some e)

/-- Order of R224 among new entries: start, then q, then r. -/
def entryLe (a b : Entry) : Bool := a.start < b.start || (a.start = b.start && (a.q < b.q || (a.q = b.q && a.r ≤ b.r)))

/-- Entries that store intervals (R218), in the order of R224. -/
def entriesOf (owner tag seq : Nat) (trim : Bool) (l : List Cov) : List Entry :=
  sortBy entryLe (l.flatMap fun c => (chain c).map fun (st, d, o, k) =>
    { q := c.q, r := c.r, owner := owner, tag := tag, start := st, dur := d, open_ := o, cont := k, trim := trim, trunc := false,
      seq := seq, bucket := 0, slot := 0 })

/-- The interval of an entry. -/
def Entry.cov (e : Entry) : Cov := { q := e.q, r := e.r, lo := e.start, hi := e.fin }

/-- An entry's end is moved to `t`: removed where it starts there or later, cut where it ends later. What is left of an entry without
end may be longer than one entry holds; it is then stored as consecutive entries (R218), of which the last is the truncated one
(DESIGN CHOICE, log entry 19). -/
def Entry.cut (t : Nat) (e : Entry) : List Entry :=
  if t ≤ e.start then []
  else if reaches (some t) ((e.fin).getD (t + 1)) then [e]
  else (chainGo ((t - e.start) / 65535 + 1) e.start (t - e.start)).map fun (st, d, _, k) =>
    { e with start := st, dur := d, open_ := false, cont := k, trunc := !k }

/-! ### Tracks -/

def Comb.trackOf (c : Comb) (owner tag : Nat) : Option Track := c.tracks.find? fun t => t.owner = owner && t.tag = tag
/-- Entries of a tag that live at a CTIME. -/
def Comb.tagLive (c : Comb) (now owner tag : Nat) : Bool := c.entries.any fun e => e.of owner tag && e.live now
/-- Tags of an owner with entries that live at a CTIME. -/
def Comb.liveTags (c : Comb) (now owner : Nat) : List Nat :=
  (c.entries.filterMap fun e => if e.owner = owner && e.live now then some e.tag else none).eraseDups
def State.tagLive (s : State) (owner tag : Nat) : Bool := s.comb.tagLive s.ct owner tag
def State.liveTags (s : State) (owner : Nat) : List Nat := s.comb.liveTags s.ct owner

/-- Tracks without entries that live to any operation are forgotten. -/
def State.pruneTracks (s : State) : State :=
  let t := s.comb.reapAt s.ct
  { s with comb := { s.comb with tracks := s.comb.tracks.filter fun x => s.comb.tagLive t x.owner x.tag } }

/-- The lowest mirror index that no live track of the owner uses. -/
def Comb.mirrorFree (c : Comb) (now owner : Nat) : Nat :=
  let used := (c.tracks.filter fun t => t.owner = owner && c.tagLive now t.owner t.tag).map Track.mirror
  ((List.range 32).find? fun i => !used.contains i).getD 31

/-- The mirror index a track is claimed with (R278): that of the track an AMEND replaces; else the lowest that no live track of the owner
uses. An area takes one in the same way (DESIGN CHOICE, log entry 19). -/
def Comb.mirrorFor (c : Comb) (now owner tag : Nat) : Nat :=
  match c.trackOf owner tag with
  | some t => if c.tagLive now owner tag then t.mirror else c.mirrorFree now owner
  | none => c.mirrorFree now owner

/-! ### Counts (R241, R310) -/

def State.combUsed (s : State) : Nat := s.comb.entries.length
def State.combLive (s : State) : Nat := s.comb.entries.countP fun e => e.live s.ct
/-- R202: 2,048 entries fewer for each retired group among the buckets of the variant in force. -/
def State.combCap (s : State) : Nat := 32 * s.buckets - 2048 * s.comb.retired.countP fun g => g < s.buckets / 64

/-- Buckets that hold an open_end entry, or held one that a blocked slot has lost (R312). -/
def Comb.openBuckets (c : Comb) : List Nat :=
  ((c.entries.filter Entry.open_).map Entry.bucket ++ (c.blocked.filter Blocked.open_).map Blocked.bucket).eraseDups

/-- EV_COMB_NEAR_FULL and its clearing (R310). -/
def State.nearFull (s : State) : State :=
  if !s.comb.nearFull && 9 * s.combCap < 10 * s.combUsed then
    ({ s with comb := { s.comb with nearFull := true } } : State).logEv .combNearFull []
  else if s.comb.nearFull && 10 * s.combUsed < 8 * s.combCap then
    ({ s with comb := { s.comb with nearFull := false } } : State).logEv .combNearFullClear []
  else s

/-- After entries changed: the open_end flags of the buckets follow (R312), and the fill is judged (R310). -/
def State.combSettled (s : State) : State :=
  ({ s with comb := { s.comb with openIn := Triple.of s.comb.openBuckets } } : State).nearFull

/-! ### Regions and bands (R268 to R276) -/

/-- Polygon of neighbour n's active entry (Table 6.2). -/
def State.nbrPoly (s : State) (n : Nat) : List (Int × Int) := areaVerts ((s.nbrEntry n).drop 24)
def State.ownPoly (s : State) : List (Int × Int) := areaVerts (s.cfgB 0x4045 0)

/-- A cell's exact centre lies within `d` mm of a polygon. -/
def centreNear (p : Nat) (d : Nat) (vs : List (Int × Int)) (q r : Int) : Bool :=
  shapeWithin ⟨6 * d, 0⟩ (centre3 6 p q r) (vs.map (toP3 6))

/-- The indices of the neighbours that are present. -/
def State.nbrs (s : State) : List Nat := (List.range 12).filter s.nbrPresent

/-- Where a cell lies: the own region, a neighbour's, or none. A centre on a shared edge belongs to the smaller controller ID. -/
inductive Region where
  | own
  | nbr (n : Nat)
  | none
  deriving DecidableEq, Repr, Inhabited

def State.regionOf (s : State) (q r : Int) : Region :=
  if s.ownPoly = [] then .own
  else
    let p := s.pitch
    let own := if centreNear p 0 s.ownPoly q r then [(s.controllerId, Region.own)] else []
    let others := (s.nbrs.filter fun n => centreNear p 0 (s.nbrPoly n) q r).map fun n => (s.nbrId n, Region.nbr n)
    match own ++ others with
    | [] => .none
    | x :: t => (t.foldl (fun (b : Nat × Region) y => if y.1 < b.1 then y else b) x).2

/-- A cell lies in the band of neighbour n (R275). -/
def State.inBand (s : State) (n : Nat) (q r : Int) : Bool :=
  let w := s.cfg 0x4047 0
  s.ownPoly ≠ [] && centreNear s.pitch w s.ownPoly q r && centreNear s.pitch w (s.nbrPoly n) q r

/-- R276: a cell outside the own region must lie in the band of the neighbour whose region holds it. -/
def State.regionOk (s : State) (q r : Int) : Bool :=
  match s.regionOf q r with
  | .own => true
  | .nbr n => s.inBand n q r
  | .none => false

/-- The band of neighbour n is frozen (R302, Table 6.9); so is that of a neighbour with another site frame, which is treated as lost
(R194). -/
def State.frozen (s : State) (n : Nat) : Bool :=
  s.nbrPresent n && ((s.nbr n).st = .syncing || (s.nbr n).st = .lost || (s.nbr n).mismatch)

/-- The neighbours whose bands are frozen. -/
def State.frozenNow (s : State) : List Nat := s.nbrs.filter s.frozen

/-- A cell lies in the band of one of the neighbours `l`. -/
def State.inBands (s : State) (l : List Nat) (q r : Int) : Bool := l.any fun n => s.inBand n q r

/-! ### Digests and the site (R185, R274, R156) -/

/-- SiteFrameState. -/
def State.siteState (s : State) : Nat := s.cfg 0x4007 0
def State.siteOrigin (s : State) : Int × Int × Int := (s.cfgI 0x4004 1, s.cfgI 0x4004 2, s.cfgI 0x4004 3)
def State.siteCoefs (s : State) : SiteCoef := let o := s.siteOrigin; siteCoef o.1 o.2.1 o.2.2

/-- SiteFrameDigest as it reads (Table 4.4). -/
def State.siteDigestNow (s : State) : Bytes := s.cfgB 0x4009 0

/-- The digest of the active site frame. -/
def State.siteDigest (s : State) : Bytes :=
  (Sha.sha384 (s.cfgB 0x4004 1 ++ s.cfgB 0x4004 2 ++ s.cfgB 0x4004 3 ++ s.cfgB 0x4005 0 ++ s.cfgB 0x4006 0)).take 8

/-- RegionDigest of a controller ID and polygon bytes. -/
def regionDigestOf (id : Nat) (poly : Bytes) : Bytes := (Sha.sha384 (leBytes 2 id ++ poly)).take 8
def State.regionDigest (s : State) : Bytes := regionDigestOf s.controllerId (s.cfgB 0x4045 0)
/-- The digest expected from neighbour n. -/
def State.nbrDigest (s : State) (n : Nat) : Bytes := regionDigestOf (s.nbrId n) ((s.nbrEntry n).drop 24)

/-! ### Blocked and retired storage (R311 to R316) -/

/-- A slot takes an uncorrectable error, be it blocked already (R311). The bucket's open_end flag is read by majority vote (R312). -/
def State.blockSlot (s : State) (bucket slot : Nat) : State :=
  if bucket < s.buckets && slot < 32 && s.up .comb then
    let c := s.comb
    let flag := c.openIn.vote.contains bucket
    let es := c.entries.filter fun e => !(e.bucket = bucket && e.slot = slot)
    let bl := c.blocked.filter fun b => !(b.bucket = bucket && b.slot = slot)
    let x : Blocked := { bucket := bucket, slot := slot, detect := s.ct, open_ := flag }
    (({ s with comb := { c with entries := es, blocked := bl ++ [x] } } : State).pruneTracks.combSettled).logEv .combBlocked (leBytes 4 bucket)
  else s

/-- The sweep's visit to a bucket (R240). -/
def State.sweep (s : State) (bucket : Nat) : State :=
  ({ s with comb := s.comb.reclaim s.ct bucket } : State).pruneTracks.combSettled

/-- A blocked slot's time has passed (R313). -/
def State.blockExpire (s : State) (bucket slot : Nat) : State :=
  ({ s with comb := { s.comb with blocked := s.comb.blocked.filter fun b => !(b.bucket = bucket && b.slot = slot) || b.holds s.ct } } : State).combSettled

/-- CombClearBlocked (R314). -/
def State.clearBlocked (s : State) : State × Option Ans :=
  if s.stoppedAll then (({ s with comb := { s.comb with blocked := [] } } : State).combSettled, some (Ans.done []))
  else (s, some (Ans.state 0x05400006))

/-- A group of 64 buckets is to be retired: its live entries move to their other bucket where that has room (R316). -/
def State.retireGroup (s : State) (g : Nat) : State :=
  let c := { s.comb with retiring := s.comb.retiring ++ [g] }
  let mine := c.entries.filter fun e => e.bucket / 64 = g && e.live s.ct
  let c := mine.foldl (fun (c : Comb) e =>
    let h := bucketsOf s.buckets e.q e.r
    let other := if h.1 = e.bucket then h.2 else h.1
    if c.room s.ct other then
      let c' := c.reclaim s.ct other
      match c'.freeSlot s.ct other with
      | some i => { c' with entries := c'.entries.map fun x => if x = e then { x with bucket := other, slot := i } else x }
      | none => c
    else c) c
  ({ s with comb := c } : State).combSettled

/-- The last live entry of a group being retired has died (R316). -/
def State.retireDone (s : State) (g : Nat) : State :=
  let c := s.comb
  if c.retiring.contains g && !(c.entries.any fun e => e.bucket / 64 = g && e.live s.ct) then
    let c := { c with retiring := c.retiring.filter (· ≠ g), retired := c.retired ++ [g],
                      entries := c.entries.filter (fun e => e.bucket / 64 ≠ g), blocked := c.blocked.filter (fun b => b.bucket / 64 ≠ g) }
    let s : State := { s with comb := c }
    (s.logEv .combRetire (leBytes 4 s.combCap)).combSettled
  else s

end Sys2Proof.Machine
end

