-- ==== Sys2Proof/Machine/CombOps.lean ====
section
/-!
DEFINITION. Judging and committing Comb operations: intake, acceptance, the order of checks, serial waiting, claims, probes, amends,
releases, areas, queries and trims (05_comb_claims.md R219 to R251; 06_comb_concurrency_handover.md R253 to R267, R279).
-/

namespace Sys2Proof.Machine

/-- Privilege a caller acts with (R111, R148, R791): a session's, UsdoPrivilege, AppletPrivilege, Custodian for firmware. -/
def State.privOf (s : State) : Caller → Nat
  | .coil i _ => ((Tbl.get? s.dict.sessions i).map Session.priv).getD 0
  | .usdo _ _ => s.cfg 0x2812 0
  | .applet _ _ => s.cfg 0x5013 0
  | .firmware => 3

/-! ### Responses (Table 5.9) -/

/-- What a judgement found: outcome, note, entries, cell, existing owner and tag, CTIME, aux. -/
structure Verdict where
  out   : Nat
  note  : Nat
  ents  : Nat
  cell  : Nat
  owner : Nat
  tag   : Nat
  ct    : Nat
  aux   : Nat
  deriving DecidableEq, Repr, Inhabited

def Verdict.no (out : Nat) : Verdict := { out := out, note := 0, ents := 0, cell := 0, owner := 0, tag := 0, ct := 0, aux := 0 }
def Verdict.at_ (out : Nat) (q r : Int) (ct : Nat) : Verdict := { Verdict.no out with cell := cell32 q r, ct := ct }
/-- Applied: DONE, or DONE_NOTE where the note is not zero (R227). -/
def Verdict.ok (note ents aux : Nat) : Verdict := { Verdict.no (if note = 0 then 0 else 1) with note := note, ents := ents, aux := aux }
def Verdict.good (v : Verdict) : Bool := v.out ≤ 1

/-- The 40 bytes of a response. -/
def combResp (op owner tag ref seq : Nat) (v : Verdict) : Bytes :=
  [byte (op ||| 0x80), byte v.out] ++ leBytes 2 owner ++ leBytes 2 tag ++ [byte v.note, 0] ++ leBytes 4 ref ++ leBytes 4 seq
    ++ leBytes 4 v.ents ++ leBytes 4 v.cell ++ leBytes 2 v.owner ++ leBytes 2 v.tag ++ leBytes 8 v.ct ++ leBytes 2 v.aux ++ [0, 0]

/-- The Coil abort of a Comb outcome (R223). -/
def combAbort (out : Nat) : Nat :=
  if out ≤ 1 then 0 else if out = 0x40 then 0x05000020 else if out = 0x41 then 0x05000021 else if out = 0x70 then 0x05000030
  else 0x05400100 + out

/-- Answer a request with its response bytes: a TRANSACT response, or the reply of an applet's Comb window (R790). -/
def State.combAnswer (s : State) (c : Caller) (out : Nat) (resp : Bytes) : State :=
  match c with
  | .applet _ r =>
    (match s.fabric.reqs.find? fun q => q.req = r && q.comb with
    | none => s
    | some q =>
      let x : AppletReply := { hart := q.hart, reply := q.reply, notify := q.notify, data := resp }
      { s with fabric := { s.fabric with reqs := s.fabric.reqs.filter fun y => !(y.req = r && y.comb), replies := s.fabric.replies ++ [x] } })
  | .coil _ _ => s.answer c { outcome := out, abort := combAbort out, data := resp, total := 0 }
  | .usdo _ _ => s
  | .firmware => s

/-- Answer a request of the given sequence number. -/
def State.combReply (s : State) (r : CombReq) (seq : Nat) (v : Verdict) (tail : Bytes) : State :=
  let q := Creq.of r.req
  (s.count 0x07 v.out 1).combAnswer r.caller v.out (combResp q.op q.owner q.tag q.ref seq v ++ tail)

/-- A discarded request (R248, R951): every field after byte 11 is zero. -/
def State.combDiscard (s : State) (out : Nat) (r : CombReq) : State :=
  let q := Creq.of r.req
  s.combAnswer r.caller out ((combResp q.op q.owner q.tag q.ref 0 (Verdict.no out)).take 12 ++ zeros 28)

/-! ### Checks 5 to 12 -/

/-- Squared distance of a segment against the speed limit (check 11). -/
def tooFast (speed : Nat) (x y : Wp) : Bool :=
  let de := y.e - x.e; let dn := y.n - x.n
  let lim := speed * (y.t - x.t)
  (lim * lim : Int) < (de * de + dn * dn) * 1000000

def pairs {α : Type} (l : List α) : List (α × α) := l.zip (l.drop 1)

/-- Check 6 (R235), at acceptance CTIME `now`. -/
def Comb.tagRefused (c : Comb) (now : Nat) (r : Creq) : Bool :=
  match r.op with
  | 1 | 5 => c.tagLive now r.owner r.tag
  | 3 => !c.tagLive now r.owner r.tag
  | 4 => !r.allTags && !c.tagLive now r.owner r.tag
  | _ => false

/-- Check 7. -/
def Creq.waypointsBad (r : Creq) : Bool :=
  if r.body = 0 then false
  else if r.body = 4 then r.count < 3 || 16 < r.count
  else r.count < 1 || 64 < r.count || (pairs r.wps).any (fun (x, y) => y.t ≤ x.t) || (r.count = 1 && r.hold = 0 && !r.open_)

/-- Check 8. -/
def Creq.footprintBad (r : Creq) : Bool :=
  match r.body with
  | 3 => !convexCcw (polyVerts r.foot)
  | 4 => !simplePoly r.verts || (r.par = 0) ≠ r.open_
  | _ => false

/-- First instant, and the instant compared with the horizon (checks 9 and 10). -/
def Creq.firstAt (r : Creq) (shift : Nat) : Nat := if r.body = 4 then r.base + shift else r.tFirst shift
def Creq.lastAt (r : Creq) (shift : Nat) : Nat :=
  if r.body = 4 then r.base + shift + (if r.open_ then 0 else r.par) else r.tLast shift + (if r.open_ then 0 else r.hold)

def ctimeMax : Nat := 2 ^ 40 - 1

/-- Vertices and waypoints of a request lie in the site plane. -/
def Creq.placesOk (r : Creq) : Bool := if r.body = 4 then r.verts.all inPlane else r.wps.all fun w => inPlane (w.e, w.n)

/-- Checks 5 to 11 and the waypoints of check 12. -/
def State.earlyChecks (s : State) (r : Creq) (tacc shift : Nat) : Option Nat :=
  if s.siteState = 0 || s.ctime.isNone then some 0x22
  else if s.comb.tagRefused tacc r then some 0x29
  else if r.waypointsBad then some 0x23
  else if r.footprintBad then some 0x28
  else if r.body ≠ 0 && r.firstAt shift + 1000 < tacc then some 0x24
  else if r.body ≠ 0 && tacc + s.cfg 0x4014 0 < r.lastAt shift then some 0x25
  else none

/-! ### Checks 10 to 16 over entries -/

def covFirst (a b : Cov) : Bool := a.lo < b.lo || (a.lo = b.lo && (a.q < b.q || (a.q = b.q && a.r ≤ b.r)))

/-- A conflicting pair (R224): CTIME, cell, owner and tag of the existing entry. -/
structure Clashing where
  ct    : Nat
  q     : Int
  r     : Int
  owner : Nat
  tag   : Nat
  deriving DecidableEq, Repr, Inhabited

def clashLe (a b : Clashing) : Bool :=
  a.ct < b.ct || (a.ct = b.ct && (a.q < b.q || (a.q = b.q && (a.r < b.r || (a.r = b.r && (a.owner < b.owner || (a.owner = b.owner && a.tag ≤ b.tag)))))))

/-- Pairs of an interval with entries of other owners that live at CTIME `now` (R219). With force, only authority and foreign owners
conflict (R239). -/
def Comb.clashes (x : Comb) (now owner : Nat) (force : Bool) (l : List Cov) : List Clashing :=
  let es := x.entries.filter fun e => e.owner ≠ owner && e.live now && (!force || 1024 ≤ e.owner)
  l.flatMap fun c => (es.filter fun e => e.meets c).map fun e => { ct := max c.lo e.start, q := c.q, r := c.r, owner := e.owner, tag := e.tag }

/-- What is known of an operation's demand: its owner and tag, whether the limit of 32 tracks applies, whether it is forced, whether
it found a place in flight (R260), its acceptance CTIME, and the neighbours whose bands are frozen to it (R302). -/
structure Demand where
  owner   : Nat
  tag     : Nat
  limited : Bool
  force   : Bool
  trim    : Bool
  counted : Bool
  seq     : Nat
  now     : Nat
  frozen  : List Nat
  deriving DecidableEq, Repr, Inhabited

/-- Entries cut by a rule that leaves a list of entries of each (R218): the first keeps its slot, the others take new ones. The changed
entries as they now are, of duration zero where they are removed, and an entry that found no slot (R200). -/
def Comb.cutBy (c : Comb) (n now : Nat) (sel : Entry → Bool) (f : Entry → List Entry) : Comb × List Entry × Option Entry :=
  let es := c.entries.flatMap fun e => if sel e then (f e).take 1 else [e]
  let more := c.entries.flatMap fun e => if sel e then (f e).drop 1 else []
  let changed := (c.entries.filter sel).filterMap fun e => match f e with
    | [] => some { e with dur := 0 }
    | x :: _ => if x = e then none else some x
  let p := Comb.placeAll n now { c with entries := es } more
  (p.1, changed, p.2)

/-- A forced area's machine entries end at its start in their cell (R238). -/
def Comb.forceCut (c : Comb) (n now : Nat) (l : List Cov) : Comb × List Entry × Option Entry :=
  let hit (e : Entry) : Option Cov := if e.owner < 1024 && e.live now then l.find? e.meets else none
  c.cutBy n now (fun e => (hit e).isSome) fun e => match hit e with
    | some x => e.cut x.lo
    | none => [e]

/-- Check 12 on covered cells. -/
def State.outsideCell (s : State) (cov : List Cov) : Bool :=
  let p := s.pitch
  cov.any fun c => !cellInPlane p (c.q, c.r) || !s.regionOk c.q c.r

/-- The entry of an operation for which no slot is left: one of its own, or of what a forced area cuts (R200, R218). -/
def State.noSlot (s : State) (d : Demand) (l : List Cov) : Option Entry :=
  let p := s.comb.placeAll s.buckets d.now (entriesOf d.owner d.tag d.seq d.trim l)
  match p.2 with
  | some e => some e
  | none => if d.force then (p.1.forceCut s.buckets d.now l).2.2 else none

/-- Checks 13 to 16 on intervals: the refusal, or none. -/
def State.lateChecks (s : State) (d : Demand) (l : List Cov) : Option Verdict :=
  match least covFirst (l.filter fun c => s.inBands d.frozen c.q c.r) with
  | some c => some (Verdict.at_ 0x2B c.q c.r c.lo)
  | none =>
    let tags := s.comb.liveTags d.now d.owner
    if s.cfg 0x4015 0 < (l.map fun c => (chain c).length).sum || (d.limited && !tags.contains d.tag && 32 ≤ tags.length) || !d.counted then
      some (Verdict.no 0x50)
    else match s.noSlot d l with
      | some e => some (Verdict.at_ 0x50 e.q e.r e.start)
      | none =>
        match least covFirst (l.filter fun c => s.cellBlocked c.q c.r d.now) with
        | some c => some (Verdict.at_ 0x2C c.q c.r c.lo)
        | none => (least clashLe (s.comb.clashes d.now d.owner d.force l)).map fun x =>
            { Verdict.at_ 0x60 x.q x.r x.ct with owner := x.owner, tag := x.tag }

/-- The demand of a request. -/
def Creq.demand (r : Creq) (f : Flight) : Demand :=
  { owner := r.owner, tag := r.tag, limited := r.op ≠ 3, force := r.force, trim := r.trim, counted := f.counted, seq := f.seq,
    now := f.tacc, frozen := f.frozen }

/-- A request judged at a shift, with its own t_acc (R263): its refusal, or the intervals it is granted with note bits 0 and 1 (checks 5
to 16). -/
def State.judge (s : State) (r : Creq) (f : Flight) (shift : Nat) : Verdict × List Cov :=
  match s.earlyChecks r f.tacc shift with
  | some o => (Verdict.no o, [])
  | none =>
    let cov := s.covers f.pars r shift
    let w := r.needsOf f.pars f.tacc cov
    if w.1.any fun c => !reaches (some ctimeMax) (c.hi.getD 0) then (Verdict.no 0x25, [])
    else if r.body ≠ 4 && (pairs r.wps).any (fun (x, y) => tooFast (s.cfg 0x4016 0) x y) then (Verdict.no 0x26, [])
    else if !r.placesOk || s.outsideCell cov then (Verdict.no 0x27, [])
    else match s.lateChecks (r.demand f) w.1 with
      | some v => (v, [])
      | none =>
        let note := b2n w.2 + 2 * b2n (w.1.any Cov.split)
        (Verdict.ok note ((w.1.map fun c => (chain c).length).sum) 0, w.1)

/-! ### Waiting (R264, R265) -/

def Flight.creq (f : Flight) : Option Creq :=
  match f.op with
  | .request r => some (Creq.of r.req)
  | _ => none

/-- A PROBE or a QUERY. -/
def Flight.idle (f : Flight) : Bool :=
  match f.creq with
  | some r => r.op = 2 || r.op = 6
  | none => false

/-- Earlier in the acceptance sequence, whose numbers return to 1 after 0xFFFF_FFFF. -/
def seqBefore (a b : Nat) : Bool := a ≠ b && (b + 2 ^ 32 - a) % 2 ^ 32 < 2 ^ 31

/-- A mirror record (Table 6.7). -/
structure Mirror where
  q     : Int
  r     : Int
  slot  : Nat
  index : Nat
  open_ : Bool
  cont  : Bool
  start : Nat
  dur   : Nat
  deriving DecidableEq, Repr, Inhabited

def mirrorOf (b : Bytes) : Mirror :=
  let c := cellOf32 (u b 0 4)
  { q := c.1, r := c.2, slot := u b 4 2, index := u b 6 1, open_ := bit (u b 7 1) 0, cont := bit (u b 7 1) 1, start := u b 8 5, dur := u b 13 2 }
def msgMirrors (msg : Bytes) : List Mirror := (List.range (u msg 8 4)).map fun i => mirrorOf (slice msg (16 + 16 * i) 16)
/-- Foreign owner and tag of a record of neighbour n (R277, R278). -/
def Mirror.owner (m : Mirror) (n : Nat) : Nat := 1024 + 32 * n + m.slot / 32
def Mirror.tag (m : Mirror) : Nat := 32 * (m.slot % 32) + m.index
def Mirror.cov (m : Mirror) : Cov := { q := m.q, r := m.r, lo := m.start, hi := if m.open_ then none else some (m.start + m.dur) }

/-- The owner an operation acts for; a QUERY and an operation over many owners act for none. -/
def FlightOp.owner : FlightOp → Nat
  | .request r => let q := Creq.of r.req; if q.op = 6 then 4096 else q.owner
  | .trim t => t.owner
  | .message n r => (if u r.req 0 1 = 2 then ((msgMirrors r.req).head?.map fun m => m.owner n).getD 4096 else 4096)
  | .site _ _ => 4096
  | .region _ _ => 4096
def Flight.owner (f : Flight) : Nat := f.op.owner

/-- A commit that every earlier operation comes before and every later one after: of the site frame (R190) or the region group (R273). -/
def Flight.barrier (f : Flight) : Bool :=
  match f.op with
  | .request _ => false
  | .trim _ => false
  | .message _ _ => false
  | .site _ _ => true
  | .region _ _ => true

/-- A PREPARE answered DONE, by neighbour and exchange. -/
def State.preparedOf (s : State) (n exch : Nat) : Option Prepared := s.comb.prepared.find? fun p => p.nbr = n && p.exch = exch

/-- Whether an operation is one of the kinds that order the requests of its owner. -/
def Flight.ownerly (f : Flight) : Bool :=
  match f.op with
  | .request r => let q := Creq.of r.req; q.op = 1 || q.op = 3 || q.op = 4 || q.op = 5
  | .trim _ => true
  | .message _ _ => false
  | .site _ _ => false
  | .region _ _ => false

/-- The intervals an operation asks for. -/
def State.flightNeeds (s : State) (f : Flight) : List Cov :=
  match f.op with
  | .request r =>
    let q := Creq.of r.req
    if q.op = 4 || (s.earlyChecks q f.tacc 0).isSome then []
    else if q.op = 6 then
      let c := cellOf32 (u q.rest 0 4)
      [{ q := c.1, r := c.2, lo := q.base, hi := if q.par = 0 then none else some (q.base + q.par) }]
    else if q.op = 2 then (List.range (q.shifts + 1)).flatMap fun i => (q.needsOf f.pars f.tacc (s.covers f.pars q (i * q.step))).1
    else (q.needsOf f.pars f.tacc (s.covers f.pars q 0)).1
  | .message _ r => if u r.req 0 1 = 2 || u r.req 0 1 = 6 then (msgMirrors r.req).map Mirror.cov else []
  | .trim _ => []
  | .site _ _ => []
  | .region _ _ => []

/-- The entries an operation not yet finished will shorten or remove. -/
def State.flightRemoves (s : State) (f : Flight) : List Entry :=
  let live := s.comb.entries.filter fun e => e.live f.tacc && e.seq = 0
  match f.op with
  | .request r =>
    let q := Creq.of r.req
    if q.op = 3 then live.filter fun e => e.of q.owner q.tag
    else if q.op = 4 then live.filter fun e => e.owner = q.owner && (q.allTags || e.tag = q.tag)
    else if q.op = 5 && q.force then let l := s.flightNeeds f; live.filter fun e => e.owner < 1024 && l.any e.meets
    else []
  | .trim t => live.filter fun e => e.of t.owner t.tag
  | .message n r =>
    if u r.req 0 1 = 5 then
      let ms := msgMirrors r.req
      live.filter fun e => ms.any fun m => e.of (m.owner n) m.tag && e.at_ m.q m.r && e.start = m.start
    else if u r.req 0 1 = 6 then live.filter fun e => bit (u r.req 1 1) 0 && 1024 + 32 * n ≤ e.owner && e.owner < 1056 + 32 * n
    else if u r.req 0 1 = 4 then (match s.preparedOf n (u r.req 4 4) with
      | some p => live.filter fun e => e.of p.owner p.tag
      | none => [])
    else []
  | .site _ _ => live
  | .region _ _ => []

/-- A PREPARE answered DONE holds its tentative entries, and will remove what its COMMIT replaces (R284). -/
def State.preparedRemoves (s : State) (p : Prepared) : List Entry :=
  s.comb.entries.filter fun e => e.of p.owner p.tag && e.seq ≠ p.seq && e.live s.ct

/-- Whether an operation with owner `o` and intervals `l` meets entries of another owner. -/
def meetsOther (o : Nat) (l : List Cov) (es : List Entry) : Bool := es.any fun e => e.owner ≠ o && l.any e.meets

/-- Whether two lists of intervals overlap in a cell. -/
def covsMeet (l m : List Cov) : Bool := l.any fun a => m.any fun b => a.q = b.q && a.r = b.r && overlap a.lo a.hi b.lo b.hi

/-- Whether an earlier operation of owner `eo` holding or changing entries `held`, `gone` makes one of owner `o` wait; `full` is the
bucket pair of the cell for which that one finds no slot. -/
def waitsOn (o : Nat) (l : List Cov) (full : List Nat) (held gone : List Entry) : Bool :=
  meetsOther o l held || meetsOther o l gone || (held ++ gone).any fun e => full.contains e.bucket

/-- Buckets in which an operation finds no slot. -/
def State.fullFor (s : State) (f : Flight) (l : List Cov) : List Nat :=
  match (s.comb.placeAll s.buckets f.tacc (entriesOf f.owner 0 f.seq false l)).2 with
  | some e => let h := bucketsOf s.buckets e.q e.r; [h.1, h.2]
  | none => []

/-- The buckets that could store an interval's entries, once for each entry. -/
def State.bucketsFor (s : State) (l : List Cov) : List Nat :=
  l.flatMap fun c => let h := bucketsOf s.buckets c.q c.r; (chain c).flatMap fun _ => [h.1, h.2]

/-- A bucket may be too full for an operation and for those that wait before it. -/
def State.tight (s : State) (f : Flight) (l : List Cov) (es : List Flight) : Bool :=
  let mine := s.bucketsFor l
  let theirs := es.flatMap fun e => s.bucketsFor (s.flightNeeds e)
  mine.any fun b => theirs.contains b && 32 < s.comb.busy f.tacc b + mine.count b + theirs.count b

/-- Whether `f`, of owner `o`, with intervals `l` and with entries `mine` to remove, waits for the earlier operation `e`. -/
def State.waitsFor (s : State) (f e : Flight) (o : Nat) (l : List Cov) (full : List Nat) (mine : List Entry) : Bool :=
  f.barrier || e.barrier || (!e.idle &&
    ((e.ownerly && e.owner = o)
      || waitsOn o l full (s.comb.entries.filter fun x => x.seq = e.seq) (s.flightRemoves e)
      || (e.phase = .waiting && ((e.owner ≠ o && covsMeet l (s.flightNeeds e)) || meetsOther e.owner (s.flightNeeds e) mine))))

/-- Whether operation `f` must wait for an earlier one still in flight (R264, R265). One that itself waits counts with the entries it
asks for, and nothing that it reads is changed before it (R263); a commit of R190 or R273 comes after all before it, and before all
after it. -/
def State.mustWait (s : State) (f : Flight) : Bool :=
  let l := s.flightNeeds f
  let o := f.owner
  let full := s.fullFor f l
  let mine := s.flightRemoves f
  let before := s.comb.flight.filter fun e => seqBefore e.seq f.seq
  before.any (fun e => s.waitsFor f e o l full mine)
    || s.tight f l (before.filter fun e => !e.idle && e.phase = .waiting)
    || (s.comb.prepared.any fun p =>
        !p.presumed && seqBefore p.seq f.seq && waitsOn o l full (s.comb.entries.filter fun x => x.seq = p.seq) (s.preparedRemoves p))

/-! ### What a waiting PROBE or QUERY reads (R263, R265) -/

/-- A PROBE or QUERY that waits, and was accepted before operation `seq`. -/
def Flight.looksBefore (f : Flight) (seq : Nat) : Bool := f.idle && f.phase = .waiting && seqBefore f.seq seq

/-- Operation `seq` changed the entries `old`: a PROBE or QUERY that waits, and that nothing waits for, will not see it. -/
def State.noteLater (s : State) (seq : Nat) (old : List Entry) : State :=
  if s.comb.flight.any fun f => f.looksBefore seq then
    let new := s.comb.entries
    let add := new.filter fun e => !old.contains e
    let gone := old.filter fun e => !new.contains e
    let fl := s.comb.flight.map fun f =>
      if f.looksBefore seq then { f with added := f.added ++ add, removed := f.removed ++ gone } else f
    { s with comb := { s.comb with flight := fl } }
  else s

/-- The Comb as an operation finds it at its place. -/
def State.seenBefore (s : State) (f : Flight) : State :=
  { s with comb := { s.comb with entries := (s.comb.entries ++ f.removed).filter fun e => !f.added.contains e } }

/-! ### Commits -/

/-- A mirror record's bytes (Table 6.7). An authority's number gives its low ten bits as the slot (DESIGN CHOICE, log entry 19). -/
def mirrorBytes (e : Entry) (mirror : Nat) : Bytes :=
  leBytes 4 (cell32 e.q e.r) ++ leBytes 2 (e.owner % 1024) ++ [byte mirror, byte (b2n e.open_ + 2 * b2n e.cont)] ++ leBytes 5 e.start
    ++ leBytes 2 e.dur ++ [0]

/-- Header of a region message (Table 6.5). -/
def State.regionHeader (s : State) (type flags exch count : Nat) : Bytes :=
  [byte type, byte flags] ++ leBytes 2 s.controllerId ++ leBytes 4 exch ++ leBytes 4 count ++ zeros 4

/-- Mirror index of an entry's track. -/
def Comb.mirrorOfEntry (c : Comb) (e : Entry) : Nat := ((c.trackOf e.owner e.tag).map Track.mirror).getD 0

/-- An owner of this controller: a machine or an authority. -/
def ownOwner (o : Nat) : Bool := o < 1024 || 1536 ≤ o

/-- A neighbour that claims are exchanged with: not lost (R303), and with the same site frame (R194). -/
def State.exchanges (s : State) (n : Nat) : Bool := (s.nbr n).st ≠ .lost && !(s.nbr n).mismatch

/-- Send a SHORTEN of changed entries to each neighbour in whose region some of them lie (R288); `c` is the Comb that held them. -/
def State.sendShorten (s : State) (c : Comb) (l : List Entry) : State :=
  let l := l.filter fun e => ownOwner e.owner
  (s.nbrs.filter s.exchanges).foldl (fun s' n =>
    let mine := l.filter fun e => s.regionOf e.q e.r = .nbr n
    if mine = [] then s'
    else s'.toNbr n 0x4050 (s.regionHeader 5 0 0 mine.length ++ mine.flatMap fun e => mirrorBytes e (c.mirrorOfEntry e))) s

/-- The granted intervals of a request written as entries of sequence number `seq` (zero: committed). -/
def State.writeEntries (s : State) (d : Demand) (l : List Cov) : State :=
  ({ s with comb := (s.comb.placeAll s.buckets d.now (entriesOf d.owner d.tag d.seq d.trim l)).1 } : State).combSettled

/-- The track a granted request makes. -/
def Creq.track (r : Creq) (raw : Bytes) (tacc mirror : Nat) : Track :=
  { owner := r.owner, tag := r.tag, req := raw, tacc := tacc, tau := none, mirror := mirror }

/-- A forced area at its commit point (R238): one event per owner; how many entries it cut. -/
def State.forceArea (s : State) (now : Nat) (l : List Cov) : State × Nat :=
  let r := s.comb.forceCut s.buckets now l
  let owners := (r.2.1.map Entry.owner).eraseDups
  let s' := (({ s with comb := r.1 } : State).sendShorten s.comb r.2.1).pruneTracks
  (owners.foldl (fun s o => s.logEv .areaForced (leBytes 2 o)) s', r.2.1.length)

/-- Tentative entries of a sequence number become committed. -/
def Comb.commitSeq (c : Comb) (seq : Nat) : Comb := { c with entries := c.entries.map fun e => if e.seq = seq then { e with seq := 0 } else e }
/-- Tentative entries of a sequence number are removed. -/
def Comb.dropSeq (c : Comb) (seq : Nat) : Comb := { c with entries := c.entries.filter fun e => e.seq ≠ seq }
def Comb.endFlight (c : Comb) (seq : Nat) : Comb := { c with flight := c.flight.filter fun f => f.seq ≠ seq }

/-- The entries of a request's old tag, as a SHORTEN names those that an AMEND removes: where its new entries take the same place, the
neighbour's COMMIT replaces them (R284; DESIGN CHOICE, log entry 19). -/
def Comb.amended (c : Comb) (r : Creq) (f : Flight) : List Entry :=
  (c.entries.filter fun e => e.of r.owner r.tag && e.seq = 0 && e.live f.tacc
    && !(c.entries.any fun x => x.seq = f.seq && x.at_ e.q e.r && x.start = e.start)).map fun e => { e with dur := 0 }

/-- The commit point of a judged request whose tentative entries stand (R221, R231): an AMEND's old entries go, a forced area cuts, the
entries become committed, the track stands. Note and aux of the response. -/
def State.commitReq (s : State) (r : Creq) (raw : Bytes) (f : Flight) (mirror : Nat) : State × Nat × Nat :=
  let c := s.comb
  let s := if r.op = 3 then
      ({ s with comb := { c with entries := c.entries.filter fun e => !(e.of r.owner r.tag && e.seq = 0) } } : State).sendShorten c (c.amended r f)
    else s
  let fa := if r.op = 5 && r.force then s.forceArea f.tacc ((s.comb.entries.filter fun e => e.seq = f.seq).map Entry.cov) else (s, 0)
  let s := fa.1
  let c := s.comb.commitSeq f.seq
  let tracks := c.tracks.filter (fun x => !(x.owner = r.owner && x.tag = r.tag)) ++ [r.track raw f.tacc mirror]
  (({ s with comb := { c with tracks := tracks } } : State).combSettled, if fa.2 = 0 then 0 else 8, min fa.2 0xFFFF)

/-- RELEASE (R233, R234): how many entries end; or an entry for which no slot is left (R200), where nothing changes. -/
def State.release (s : State) (r : Creq) (tacc : Nat) : State × Except Entry Nat :=
  let x := s.comb.cutBy s.buckets tacc (fun e => e.owner = r.owner && (r.allTags || e.tag = r.tag) && e.live tacc) (Entry.cut (max r.base tacc))
  match x.2.2 with
  | some e => (s, .error e)
  | none => ((({ s with comb := x.1 } : State).sendShorten s.comb x.2.1).pruneTracks.combSettled, .ok x.2.1.length)

def queryLe (a b : Entry) : Bool := a.start < b.start || (a.start = b.start && (a.owner < b.owner || (a.owner = b.owner && a.tag ≤ b.tag)))

/-- QUERY (R230): entries found that live at its acceptance. -/
def Comb.queryCell (x : Comb) (now : Nat) (r : Creq) : List Entry :=
  let c := cellOf32 (u r.rest 0 4)
  sortBy queryLe (x.entries.filter fun e =>
    e.live now && e.meets { q := c.1, r := c.2, lo := r.base, hi := if r.par = 0 then none else some (r.base + r.par) })

/-- PROBE (R228): the first shift that would be granted, or the verdict of shift 0. -/
def State.probeGo (s : State) (r : Creq) (f : Flight) : Nat → Nat → Option Verdict
  | 0, _ => none
  | fuel + 1, i =>
    let v := (s.judge r f (i * r.step)).1
    if v.good then some (Verdict.ok (v.note + (if i = 0 then 0 else 4)) v.ents i) else s.probeGo r f fuel (i + 1)

/-- The verdict of a PROBE. A forced area is not probed: force is a flag of AREA only. -/
def State.probeVerdict (s : State) (r : Creq) (f : Flight) : Verdict :=
  match s.probeGo r f (r.shifts + 1) 0 with
  | some v => v
  | none => { (s.judge r f 0).1 with aux := 0xFFFF }

/-! ### The neighbours a request needs (R279, R291) -/

/-- Neighbours whose region holds cells of the intervals, with those. -/
def State.nbrParts (s : State) (l : List Cov) : List (Nat × List Cov) :=
  (s.nbrs.map fun n => (n, l.filter fun c => s.regionOf c.q c.r = .nbr n)).filter fun p => p.2 ≠ []

/-- The exchange number after `x`; zero numbers none (Table 6.5). -/
def nextExch (x : Nat) : Nat := max 1 (wrap 32 (x + 1))

/-- Send the PREPAREs of a request's parts; none to a neighbour with another site frame (R194). -/
def State.sendPrepares (s : State) (owner tag mirror seq : Nat) (parts : List (Nat × List Cov)) : State × List Asked :=
  parts.foldl (fun (p : State × List Asked) part =>
    let s := p.1
    let x := s.comb.exchNext
    let es := entriesOf owner tag seq false part.2
    let msg := s.regionHeader 2 0 x es.length ++ es.flatMap fun e => mirrorBytes e mirror
    let s : State := { s with comb := { s.comb with exchNext := nextExch x } }
    (if (s.nbr part.1).mismatch then s else s.toNbr part.1 0x4050 msg, p.2 ++ [{ nbr := part.1, exch := x, resp := none }])) (s, [])

def State.setFlight (s : State) (seq : Nat) (f : Flight → Flight) : State :=
  { s with comb := { s.comb with flight := s.comb.flight.map fun x => if x.seq = seq then f x else x } }

/-- End a request in flight with its response. -/
def State.endReq (s : State) (r : CombReq) (seq : Nat) (v : Verdict) (tail : Bytes) : State :=
  ({ s with comb := s.comb.endFlight seq } : State).combReply r seq v tail

/-- A CLAIM, AMEND or AREA judged, and committed or sent to its neighbours. -/
def State.runClaim (s : State) (r : CombReq) (f : Flight) : State :=
  let q := Creq.of r.req
  let j := s.judge q f 0
  if !j.1.good then s.endReq r f.seq j.1 []
  else
    let parts := s.nbrParts j.2
    if parts.any fun p => (s.nbr p.1).st = .radioOnly then s.endReq r f.seq (Verdict.no 0x2D) []
    else
      let mirror := s.comb.mirrorFor f.tacc q.owner q.tag
      let s := s.writeEntries (q.demand f) j.2
      if parts = [] then
        let c := s.commitReq q r.req f mirror
        c.1.endReq r f.seq (Verdict.ok (j.1.note + c.2.1) j.1.ents c.2.2) []
      else
        let p := s.sendPrepares q.owner q.tag mirror f.seq parts
        p.1.setFlight f.seq fun x => { x with phase := .exchange p.2 s.now j.1.note j.1.ents mirror }

/-- A request judged, where nothing makes it wait. -/
def State.runReq (s : State) (r : CombReq) (f : Flight) : State :=
  let q := Creq.of r.req
  match q.op with
  | 2 => s.endReq r f.seq ((s.seenBefore f).probeVerdict q f) []
  | 4 =>
    (match s.earlyChecks q f.tacc 0 with
    | some o => s.endReq r f.seq (Verdict.no o) []
    | none => if !f.counted then s.endReq r f.seq (Verdict.no 0x50) [] else
        let x := s.release q f.tacc
        x.1.endReq r f.seq (match x.2 with
          | .ok n => Verdict.ok 0 n 0
          | .error e => Verdict.at_ 0x50 e.q e.r e.start) [])
  | 6 =>
    (match s.earlyChecks q f.tacc 0 with
    | some o => s.endReq r f.seq (Verdict.no o) []
    | none => if !f.counted then s.endReq r f.seq (Verdict.no 0x50) [] else
        let es := (s.seenBefore f).comb.queryCell f.tacc q
        let v := Verdict.ok (if 32 < es.length then 16 else 0) (min 32 es.length) 0
        s.endReq r f.seq v ((es.take 32).flatMap Entry.bytes))
  | _ => s.runClaim r f

/-! ### Trims (R242 to R245) -/

/-- The track's reference point at tick c lies within u plus its margin of P. -/
def nearRef (t : TrimOp) (margin : Nat) (p : Pose) : Bool :=
  let dx := p.e * t.den - t.e; let dy := p.n * t.den - t.n
  let lim : Int := (t.u + margin * 2 ^ 64 : Nat)
  (dx * dx + dy * dy) * 2 ^ 128 ≤ lim * lim * (t.den * t.den)

/-- The pose of a list that holds at an instant. -/
def poseAt (l : List Pose) (t : Nat) : Option Pose := l.find? fun p => p.a ≤ t && reaches p.b t

/-- The greatest tick from `hi` down to `lo` that qualifies (R243). -/
def progressGo (t : TrimOp) (margin : Nat) (poses : List Pose) (lo : Nat) : Nat → Nat → Option Nat
  | 0, _ => none
  | fuel + 1, c =>
    if c < lo then none
    else match poseAt poses c with
      | some p => if nearRef t margin p then some c else if c = 0 then none else progressGo t margin poses lo fuel (c - 1)
      | none => if c = 0 then none else progressGo t margin poses lo fuel (c - 1)

/-- The new progress of a track, if any; `w` are the owner's values at the trim's acceptance (R247). -/
def trimProgress (w : CombPars) (t : TrimOp) (x : Track) (r : Creq) : Option Nat :=
  let lo := x.tau.getD (r.tFirst 0)
  let top := t.f + w.g0 + w.k * (t.f - x.tacc) / 1000
  let hi := match r.tEnd 0 with
    | some e => min top (e - 1)
    | none => top
  progressGo t (r.marginWith w) (r.poses 0) lo (hi + 1 - lo) hi

/-- The poses of a track from an instant on. -/
def posesFrom (l : List Pose) (t : Nat) : List Pose :=
  (l.filter fun p => reaches p.b t).map fun p => { p with a := max p.a t }

/-- The cells a trim keeps: those in the footprint, or the disc of R494, at P dilated by u and the dilation radius. -/
def State.trimHere (s : State) (t : TrimOp) (margin : Nat) (f : Footprint) : List (Int × Int) :=
  let base : Int := 4 * 6 * t.den * ((t.u + (t.disc.getD 0) + margin * 2 ^ 64 : Nat) : Int)
  let foot := match t.disc with
    | some _ => Footprint.disc 0
    | none => f
  let reach := csqrt foot.reach2 + (t.u + t.disc.getD 0) / 2 ^ 64 + margin + s.pitch + 3
  cellsInside s.pitch foot t.den t.e t.n t.head base reach

/-- A trim takes effect; one for whose entries no slot is left changes nothing (R200). -/
def State.runTrim (s : State) (t : TrimOp) (f : Flight) : State :=
  let s : State := { s with comb := s.comb.endFlight f.seq }
  match s.comb.trackOf t.owner t.tag with
  | none => s
  | some x =>
    let r := Creq.of x.req
    match trimProgress f.pars t x r with
    | none => s
    | some tau =>
      let here := s.trimHere t (r.marginWith f.pars) r.footprint
      let ahead := (coverage s.pitch r.footprint (r.marginWith f.pars) tau (r.tEnd 0) (posesFrom (r.poses 0) tau)).map fun c => (c.q, c.r)
      let keep (e : Entry) : Bool := here.contains (e.q, e.r) || ahead.contains (e.q, e.r)
      let c := s.comb.cutBy s.buckets f.tacc (fun e => e.of t.owner t.tag && e.live f.tacc && !keep e) (Entry.cut (t.f + f.pars.guard))
      if c.2.2.isSome then s
      else
        let tracks := s.comb.tracks.map fun y => if y.owner = t.owner && y.tag = t.tag then { y with tau := some tau } else y
        (({ s with comb := { c.1 with tracks := tracks } } : State).sendShorten s.comb c.2.1).pruneTracks.combSettled

end Sys2Proof.Machine
end

