-- ==== Sys2Proof/Machine/RegionOps.lean ====
section
/-!
DEFINITION. The Comb under load and between controllers: intake and acceptance, the run of operations in their order, the two-phase
exchange, region messages, SYNC, heartbeats and neighbour states, site frame and region commits, restarts and resets
(06_comb_concurrency_handover.md R253 to R308, R317; 04_site_frame_cells_time.md R183, R187 to R194).
-/

namespace Sys2Proof.Machine

/-! ### Intake (R253 to R255) -/

/-- Checks 1 to 4 of Table 5.8. -/
def State.intakeCheck (s : State) (c : Caller) (req : Bytes) : Option Nat :=
  let r := Creq.of req
  if !formatOk req then some 0x20
  else if r.force && s.privOf c < 2 then some 0x2A
  else if !r.ownerOk then some 0x21
  else if r.owner < 1024 && s.tier ≤ r.owner then some 0x70
  else none

/-- A request arrives (R255, R254). -/
def State.combIntake (s : State) (c : Caller) (req : Bytes) : State :=
  let x : CombReq := { caller := c, req := req }
  match s.intakeCheck c req with
  | some o => s.combReply x 0 { Verdict.no o with aux := if (Creq.of req).op = 2 then 0xFFFF else 0 } []
  | none =>
    let q := (Creq.of req).intake
    if (s.comb.intake.getD q []).length < 64 then { s with comb := { s.comb with intake := modNth s.comb.intake q (· ++ [x]) } }
    else { s with comb := { s.comb with outside := s.comb.outside ++ [x] } }

/-- A place became free: the first request waiting outside for that queue takes it (R254). -/
def Comb.refill (c : Comb) (q : Nat) : Comb :=
  match c.outside.findIdx? fun x => (Creq.of x.req).intake = q with
  | some i =>
    (match c.outside[i]? with
    | some x => { c with outside := c.outside.eraseIdx i, intake := modNth c.intake q (· ++ [x]) }
    | none => c)
  | none => c

/-! ### Acceptance (R256 to R261) -/

/-- The next acceptance sequence number (R257). -/
def nextSeq (n : Nat) : Nat := if n = 0xFFFFFFFF then 1 else n + 1

/-- An operation takes its place in the acceptance sequence. -/
def State.acceptOp (s : State) (op : FlightOp) (counted : Bool) : State × Nat :=
  let n := nextSeq s.comb.seqLast
  let f : Flight := { seq := n, tacc := s.ct, op := op, counted := counted, phase := .judging, pars := s.parsOf op.owner,
                      frozen := s.frozenNow, added := [], removed := [] }
  (({ s with comb := { s.comb with seqLast := n, flight := s.comb.flight ++ [f] } } : State).count 0x06 0 1, n)

def Flight.isRequest (f : Flight) : Bool :=
  match f.op with
  | .request _ => true
  | .trim _ => false
  | .message _ _ => false
  | .site _ _ => false
  | .region _ _ => false

/-- Intake requests in flight, and internal operations in flight with the PREPAREs that hold entries (R259, R261). -/
def State.inFlight (s : State) : Nat := s.comb.flight.countP fun f => f.isRequest && f.counted
def State.internalInFlight (s : State) : Nat := (s.comb.flight.countP fun f => !f.isRequest) + s.comb.prepared.countP fun p => !p.presumed

/-- The acceptance stage takes the next request: that at the head of the lowest queue that holds one (R256). -/
def State.acceptNext (s : State) : State :=
  match (List.range 8).find? fun q => (s.comb.intake.getD q []) ≠ [] with
  | none => s
  | some q =>
    match s.comb.intake.getD q [] with
    | [] => s
    | x :: rest =>
      let s : State := { s with comb := ({ s.comb with intake := modNth s.comb.intake q fun _ => rest } : Comb).refill q }
      (s.acceptOp (.request x) (s.inFlight < s.flightLimit)).1

/-! ### The answers of region messages (R296) -/

/-- Answer a region message. -/
def State.msgAnswer (s : State) (r : CombReq) (owner tag seq : Nat) (v : Verdict) : State :=
  s.combAnswer r.caller v.out (combResp (u r.req 0 1) owner tag (u r.req 4 4) seq v)

/-- Whether every record of a message is well formed (Table 6.7). -/
def mirrorsOk (msg : Bytes) (shorten : Bool) : Bool :=
  (List.range (u msg 8 4)).all fun i =>
    let b := slice msg (16 + 16 * i) 16
    let m := mirrorOf b
    u b 4 2 < 1024 && u b 6 1 < 32 && u b 7 1 < 4 && u b 15 1 = 0 && (shorten || 1 ≤ m.dur) && (!m.open_ || shorten || m.dur = 0xFFFF)

/-- Whether a region message is well formed (Table 6.5). -/
def regionMsgOk (msg : Bytes) : Bool :=
  let ty := u msg 0 1
  let n := u msg 8 4
  16 ≤ msg.length && 1 ≤ ty && ty ≤ 6 && (if ty = 6 then u msg 1 1 < 4 else u msg 1 1 = 0) && u msg 2 2 < 16384 && u msg 12 4 = 0
    && n ≤ 131072 && (ty = 2 || ty = 3 || ty = 4 || u msg 4 4 = 0)
    && (match ty with
        | 1 => n = 0 && msg.length = 48 && u msg 42 1 < 4 && u msg 43 1 = 0
        | 3 | 4 => n = 0 && msg.length = 16
        | _ => msg.length = 16 + 16 * n && mirrorsOk msg (ty = 5))

/-! ### PREPARE, COMMIT, ABORT (R280, R284 to R287) -/

/-- The entries a PREPARE asks to write. -/
def mirrorEntries (n seq : Nat) (ms : List Mirror) : List Entry :=
  sortBy entryLe (ms.map fun m =>
    { q := m.q, r := m.r, owner := m.owner n, tag := m.tag, start := m.start, dur := m.dur, open_ := m.open_, cont := m.cont, trim := false,
      trunc := false, seq := seq, bucket := 0, slot := 0 })

/-- Checks 12 to 16 on a PREPARE's records, judged as one request of the foreign owner (R280); without a CTIME the Comb grants nothing
(R182). -/
def State.prepareVerdict (s : State) (f : Flight) (owner tag : Nat) (ms : List Mirror) : Verdict :=
  let l := ms.map Mirror.cov
  let d : Demand := { owner := owner, tag := tag, limited := true, force := false, trim := false, counted := true, seq := f.seq, now := f.tacc,
                      frozen := f.frozen }
  if s.siteState = 0 || s.ctime.isNone then Verdict.no 0x22
  else if s.outsideCell l then Verdict.no 0x27
  else match s.lateChecks d l with
    | some v => v
    | none => Verdict.ok 0 ms.length 0

/-- The foreign owner and tag of a PREPARE: its first record's. One without records has no field that names them (R297): what it names is
free (log entry 19). -/
def State.prepareTag (s : State) (n : Nat) (ms : List Mirror) : State × Nat × Nat :=
  match ms with
  | m :: _ => (s, m.owner n, m.tag)
  | [] => let d := s.draw; (d.1, 1024 + 32 * n + d.2 % 32, d.2 / 32 % 1024)

/-- A PREPARE is judged, written tentative and answered (R280, R297). -/
def State.runPrepare (s : State) (n : Nat) (r : CombReq) (f : Flight) : State :=
  let ms := msgMirrors r.req
  let x := s.prepareTag n ms
  let s := x.1
  let v := if ms = [] then Verdict.ok 0 0 0
    else if ms.all (fun m => m.owner n = x.2.1 && m.tag = x.2.2) then s.prepareVerdict f x.2.1 x.2.2 ms
    else Verdict.no 0x20
  let s : State := { s with comb := s.comb.endFlight f.seq }
  let s := if v.good then
      let c := (s.comb.placeAll s.buckets f.tacc (mirrorEntries n f.seq ms)).1
      let p : Prepared := { nbr := n, exch := u r.req 4 4, owner := x.2.1, tag := x.2.2, seq := f.seq, at_ := s.now, presumed := false }
      ({ s with comb := { c with prepared := c.prepared ++ [p] } } : State).combSettled
    else s
  s.msgAnswer r x.2.1 x.2.2 f.seq v

def State.dropPrepared (s : State) (p : Prepared) : State :=
  { s with comb := { s.comb with prepared := s.comb.prepared.filter fun x => !(x.nbr = p.nbr && x.exch = p.exch) } }

/-- The prepared entries replace every other live entry of the same foreign owner and tag (R284), also those whose ABORT is still owed
(R287). -/
def State.commitPrepared (s : State) (p : Prepared) : State :=
  let old := s.comb.entries
  let es := old.filter fun e => !(e.of p.owner p.tag && e.seq ≠ p.seq)
  let ps := s.comb.prepared.filter fun x => !(x.presumed && x.owner = p.owner && x.tag = p.tag && x.seq ≠ p.seq)
  (({ s with comb := ({ s.comb with entries := es, prepared := ps } : Comb).commitSeq p.seq } : State).noteLater p.seq old).combSettled

/-- COMMIT (R284); a repeat, or one after presumption, changes nothing more. -/
def State.runCommit (s : State) (n : Nat) (r : CombReq) : State :=
  match s.preparedOf n (u r.req 4 4) with
  | none => s.msgAnswer r 0 0 0 (Verdict.ok 0 0 0)
  | some p =>
    let s := if p.presumed then s else s.commitPrepared p
    (s.dropPrepared p).msgAnswer r p.owner p.tag p.seq (Verdict.ok 0 0 0)

/-- ABORT of a PREPARE not yet presumed (R285). -/
def State.runAbort (s : State) (n : Nat) (r : CombReq) : State :=
  match s.preparedOf n (u r.req 4 4) with
  | none => s.msgAnswer r 0 0 0 (Verdict.ok 0 0 0)
  | some p =>
    let s : State := (({ s with comb := s.comb.dropSeq p.seq } : State).noteLater p.seq s.comb.entries).combSettled
    (s.dropPrepared p).msgAnswer r p.owner p.tag p.seq (Verdict.ok 0 0 0)

/-- ABORT after a presumed commit: the entries end as by a RELEASE from t_acc (R287). -/
def State.runLateAbort (s : State) (n : Nat) (r : CombReq) (f : Flight) : State :=
  let s : State := { s with comb := s.comb.endFlight f.seq }
  match s.preparedOf n (u r.req 4 4) with
  | none => s.msgAnswer r 0 0 f.seq (Verdict.ok 0 0 0)
  | some p =>
    let x := s.comb.cutBy s.buckets f.tacc (fun e => e.of p.owner p.tag && e.live f.tacc) (Entry.cut f.tacc)
    match x.2.2 with
    | some e => s.msgAnswer r p.owner p.tag f.seq (Verdict.at_ 0x50 e.q e.r e.start)
    | none => (({ s with comb := x.1 } : State).combSettled.dropPrepared p).msgAnswer r p.owner p.tag f.seq (Verdict.ok 0 x.2.1.length 0)

/-- No COMMIT or ABORT within CombPrepareTimeout (R286). -/
def State.presume (s : State) (n exch : Nat) : State :=
  match s.preparedOf n exch with
  | none => s
  | some p =>
    if !p.presumed && p.at_ + s.cfg 0x4036 0 * ms ≤ s.now then
      let s := s.commitPrepared p
      let ps := s.comb.prepared.map fun x => if x.nbr = n && x.exch = exch then { x with presumed := true } else x
      ({ s with comb := { s.comb with prepared := ps } } : State).logEv .combPresumed []
    else s

/-! ### SHORTEN and SYNC (R288, R305 to R308) -/

/-- One SHORTEN record: the named entry is removed, or ends earlier; never later. An entry that a PREPARE has written is not yet the
neighbour's. -/
def Mirror.shorten (m : Mirror) (n : Nat) (e : Entry) : List Entry :=
  if e.of (m.owner n) m.tag && e.seq = 0 && e.at_ m.q m.r && e.start = m.start then (if m.dur = 0 then [] else e.cut (m.start + m.dur)) else [e]

def State.runShorten (s : State) (n : Nat) (r : CombReq) (seq : Nat) : State :=
  let ms := msgMirrors r.req
  let es := ms.foldl (fun es m => es.flatMap (m.shorten n)) s.comb.entries
  let s := ({ s with comb := { (s.comb.endFlight seq) with entries := es } } : State).combSettled
  s.msgAnswer r ((ms.head?.map fun m => m.owner n).getD 0) ((ms.head?.map Mirror.tag).getD 0) seq (Verdict.ok 0 ms.length 0)

/-- Neighbour n becomes live once both SYNCs are complete (R308, Table 6.9). -/
def State.tryLive (s : State) (n : Nat) : State :=
  let x := s.nbr n
  if (x.st = .syncing || x.st = .radioOnly) && x.theirs && x.ours then
    (s.setNbr n fun y => { y with st := .live, theirs := false, ours := false, asked := false }).logEv .neighbourLive []
  else s

/-- The records of a SYNC written in order: the Comb, whether one overlapped a live entry of another owner, one for which no slot was
left. -/
def Comb.syncAll (n now : Nat) : Comb → Bool → List Entry → Comb × Bool × Option Entry
  | c, clash, [] => (c, clash, none)
  | c, clash, e :: t =>
    let clash := clash || c.entries.any fun x => x.owner ≠ e.owner && x.live now && x.meets e.cov
    match c.place n now e with
    | some c' => Comb.syncAll n now c' clash t
    | none => (c, clash, some e)

/-- SYNC (R306, R307). A record for which no slot is left is not written, and the SYNC is then refused CAPACITY. -/
def State.runSync (s : State) (n : Nat) (r : CombReq) (f : Flight) : State :=
  let ms := msgMirrors r.req
  let seq := f.seq
  let first := bit (u r.req 1 1) 0
  let last := bit (u r.req 1 1) 1
  let s : State := { s with comb := s.comb.endFlight seq }
  let es := if first then s.comb.entries.filter fun e => !(1024 + 32 * n ≤ e.owner && e.owner < 1056 + 32 * n) else s.comb.entries
  let p := Comb.syncAll s.buckets f.tacc { s.comb with entries := es } false (mirrorEntries n 0 ms)
  let was := if first then false else (s.nbr n).conflict
  let s := ({ s with comb := p.1 } : State).combSettled
  let s := s.setNbr n fun y => { y with conflict := was || p.2.1 }
  let s := if p.2.1 && !was then s.logEv .combSyncConflict [] else s
  match p.2.2 with
  | some e => s.msgAnswer r e.owner e.tag seq (Verdict.at_ 0x50 e.q e.r e.start)
  | none =>
    let s := if last then (s.setNbr n fun y => { y with theirs := true }).tryLive n else s
    s.msgAnswer r ((ms.head?.map fun m => m.owner n).getD 0) ((ms.head?.map Mirror.tag).getD 0) seq (Verdict.ok 0 ms.length 0)

/-- Lists of at most `k` elements. -/
def chunks {α : Type} (k : Nat) : Nat → List α → List (List α)
  | 0, _ => []
  | fuel + 1, l => if l.length ≤ k then [l] else l.take k :: chunks k fuel (l.drop k)

/-- The SYNC this controller sends (R305), once its session is open; none to a neighbour with another site frame (R194). -/
def State.sendSync (s : State) (n : Nat) : State :=
  if !s.nbrOn n || (s.nbr n).mismatch then s
  else
    let es := s.comb.entries.filter fun e => e.owner < 1024 && e.live s.ct && s.regionOf e.q e.r = .nbr n
    let parts := chunks 131072 (es.length / 131072 + 1) es
    let k := parts.length
    let ms := parts.mapIdx fun i l =>
      s.regionHeader 6 (b2n (i = 0) + 2 * b2n (i + 1 = k)) 0 l.length ++ l.flatMap fun e => mirrorBytes e (s.comb.mirrorOfEntry e)
    ms.foldl (fun s m => s.toNbr n 0x4050 m) (s.setNbr n fun x => { x with asked := true })

/-- The answer to this controller's SYNC flagged last arrives (R308). -/
def State.syncAnswered (s : State) (n : Nat) : State := (s.setNbr n fun x => { x with ours := x.ours || x.asked }).tryLive n

/-- Period P in ns. -/
def State.hbPeriodNs (s : State) : Int := s.cfg 0x4048 0 * 1000000
def State.hbNow (s : State) : Int := s.time64.fdiv s.hbPeriodNs

/-- Neighbour n enters syncing (R305): its periods count from the present one. -/
def State.enterSyncing (s : State) (n : Nat) : State :=
  (s.setNbr n fun x => { x with st := .syncing, ours := false, asked := false, heard := [], from_ := s.hbNow }).sendSync n

/-- A HELLO to neighbour n, as host, with its key slot and requested privilege Engineer (R118, R293). -/
def State.helloNbr (s : State) (n : Nat) : State :=
  if s.nbrPresent n && (s.nbr n).session.isNone && s.up .network && s.up .compute && !s.boot.boant then
    let b := s.drawBytes 32
    (b.1.setNbr n fun x => { x with nonce := b.2 }).emit (.hello n (outerHeader 1 0 0 ++ leBytes 2 (s.nbrKeySlot n) ++ [2, 0] ++ b.2))
  else s

/-! ### Site frame and region commits (R187 to R193, R272, R273) -/

/-- Checks of Table 4.5, and R188. -/
def State.siteCheck (s : State) : Option Ans :=
  let x := s.cfgI 0x4001 1; let y := s.cfgI 0x4001 2; let z := s.cfgI 0x4001 3
  let e := s.cfgI 0x4003 0
  let h := (geodetic x y z).2.2
  firstFail
    [(s.keys.life = .provisioned || s.keys.life = .commissioned, Ans.lifecycle),
     (-1000 * 2 ^ 320 ≤ h.scaled 320 && h.scaled 320 ≤ 9000 * 2 ^ 320, Ans.bad 0x05400001), (e % 1000000 = 0, Ans.bad 0x05400002),
     (s.timed && e ≤ s.time64, Ans.state 0x05400003), ((s.time64 - e).fdiv 1000000 < 0xF000000000, Ans.bad 0x05400004),
     (s.siteState = 0 || s.stoppedAll, Ans.state 0x05400005)]

/-- A group's shadow values become active (R102): the editor's hold ends (R108), and so do retries of a carried group (R861). -/
def State.applyGroup (s : State) (commit : Nat) : State :=
  let s : State := { s with dict := { s.dict with holds := s.dict.holds.filter fun h => h.commit ≠ commit },
                            settings := { s.settings with carried := s.settings.carried.filter fun x => x.1 ≠ commit } }
  (s.groupKeys commit).foldl (fun s m => if m.2 = 0 then s else s.setVal m.2 (s.val m.1)) s

/-- The shadow values of a group as they stand. -/
def State.shadowVals (s : State) (commit : Nat) : GroupVals :=
  (s.groupKeys commit).filterMap fun m => if m.2 = 0 then none else some (m.1, m.2, s.val m.1)

/-- The values a commit validated become active at its place, and the shadow is left equal to them (R104, R187). -/
def State.applyVals (s : State) (commit : Nat) (vals : GroupVals) : State :=
  (vals.foldl (fun (s : State) v => s.setVal v.1 v.2.2) s).applyGroup commit

/-- The site frame's place has come: the Comb is emptied and the new frame applies (R190, R191). -/
def State.runSite (s : State) (c : Caller) (vals : GroupVals) (seq : Nat) : State :=
  let nbrs := s.comb.nbrs.map fun x => { x with emptied := true }
  let cb := { s.comb.endFlight seq with entries := [], tracks := [], prepared := [], emptied := true, nbrs := nbrs }
  let s := (({ s with comb := cb } : State).applyVals 0x4000 vals).setVal (key 0x4007 0) [1]
  let o := s.siteOrigin
  let g := geodetic o.1 o.2.1 o.2.2
  let s := ((s.setVal (key 0x4008 1) (leBytes 8 g.1.bits64)).setVal (key 0x4008 2) (leBytes 8 g.2.1.bits64)).setVal (key 0x4008 3)
    (leBytes 8 g.2.2.bits64)
  let s := s.setVal (key 0x4009 0) s.siteDigest
  (s.combSettled.logEv .siteFrame s.siteDigest).answer c (Ans.done [])

/-- Checks of Table 6.3. -/
def State.regionCheck (s : State) : Option Ans :=
  let ownB := s.cfgB 0x4041 0
  let own := areaVerts ownB
  let nb := ((List.range 12).map fun n => s.cfgB 0x4042 (n + 1)).filter (· ≠ [])
  let ids := nb.map fun b => u b 0 2
  let polyOk (b : Bytes) : Bool :=
    let v := areaVerts b
    b.length % 8 = 0 && 3 ≤ v.length && v.length ≤ 16 && simplePoly v && v.all inPlane
  firstFail
    [((ownB = [] || polyOk ownB) && nb.all (fun b => 24 ≤ b.length && u b 4 1 * 8 = b.length - 24 && u b 5 3 = 0 && polyOk (b.drop 24)), Ans.bad 0x05400010),
     (ids.all (fun i => i ≠ s.controllerId && i ≤ 16383) && ids.Nodup, Ans.bad 0x05400011), (nb = [] || ownB ≠ [], Ans.bad 0x05400012),
     (nb.all fun b => !polysOverlap own (areaVerts (b.drop 24)), Ans.bad 0x05400013),
     (nb.all fun b => (s.keySlot (u b 2 2)).usage = 1, Ans.bad 0x05400014)]

/-- Send a CLOSE to neighbour n and end the session this device opened to it. -/
def State.closeNbr (s : State) (n : Nat) : State :=
  match (s.nbr n).session with
  | some i => (s.sendClose i).endSession i
  | none => s.setNbr n fun x => { x with nonce := [] }

/-- Neighbour n of a committed region group (R273): a session to another controller, or with another key, is closed and one opened anew
(R293); the neighbour enters syncing, or there is none. -/
def State.nbrCommitted (s : State) (old : Bytes) (n : Nat) : State :=
  let s := if s.nbrEntry n ≠ old then s.closeNbr n else s
  if s.nbrPresent n then ((s.setNbr n fun x => { x with theirs := false, mismatch := false }).enterSyncing n).helloNbr n
  else s.setNbr n fun x => { Neighbour.reset with losses := x.losses, session := x.session }

/-- The region group's place has come (R273): every neighbour enters syncing, for every operation accepted after it. -/
def State.runRegion (s : State) (c : Caller) (vals : GroupVals) (seq : Nat) : State :=
  let old := s
  let s := ({ s with comb := s.comb.endFlight seq } : State).applyVals 0x4040 vals
  let s := s.setVal (key 0x4049 0) s.regionDigest
  let s := (List.range 12).foldl (fun s n => s.nbrCommitted (old.nbrEntry n) n) s
  let fl := s.comb.flight.map fun f => { f with frozen := s.frozenNow }
  ({ s with comb := { s.comb with flight := fl } } : State).answer c (Ans.done [])

/-! ### Operations in their order (R263) -/

/-- An operation that nothing makes wait is carried out. -/
def State.runFlight (s : State) (f : Flight) : State :=
  match f.op with
  | .request r => s.runReq r f
  | .trim t => s.runTrim t f
  | .message n r =>
    (match u r.req 0 1 with
    | 2 => s.runPrepare n r f
    | 5 => s.runShorten n r f.seq
    | 6 => s.runSync n r f
    | _ => s.runLateAbort n r f)
  | .site c vals => s.runSite c vals f.seq
  | .region c vals => s.runRegion c vals f.seq

/-- Carry an operation out, or make it wait (R264). -/
def State.tryFlight (s : State) (f : Flight) : State :=
  if s.mustWait f then
    (match f.phase with
    | .judging =>
      let s := s.setFlight f.seq fun x => { x with phase := .waiting }
      if f.isRequest then { s with comb := { s.comb with waited := wrap 32 (s.comb.waited + 1) } } else s
    | .waiting => s
    | .exchange _ _ _ _ _ => s)
  else (s.runFlight f).noteLater f.seq s.comb.entries

def State.flightOf (s : State) (seq : Nat) : Option Flight := s.comb.flight.find? fun f => f.seq = seq

/-- Every operation accepted up to number `seq` and not yet looked at is, in order of acceptance. -/
def State.settle (s : State) (seq : Nat) : State :=
  (s.comb.flight.filter fun f => f.phase = .judging && (f.seq = seq || seqBefore f.seq seq)).foldl (fun s f =>
    match s.flightOf f.seq with
    | some g => s.tryFlight g
    | none => s) s

/-- An operation of the internal path is accepted and carried out at its place. -/
def State.internalOp (s : State) (op : FlightOp) : State :=
  let x := s.acceptOp op false
  x.1.settle x.2

/-- An operation that waits is looked at again (R264). -/
def State.resume (s : State) (seq : Nat) : State :=
  match s.flightOf seq with
  | some f => if f.phase = .waiting && s.up .comb then s.tryFlight f else s
  | none => s

/-- The judgement of an accepted request of operation `op`. -/
def State.judgeRow (s : State) (op seq : Nat) : State :=
  match s.flightOf seq with
  | some f =>
    (match f.op with
    | .request r => if u r.req 0 1 = op && f.phase = .judging && s.up .comb then s.settle seq else s
    | .trim _ => s
    | .message _ _ => s
    | .site _ _ => s
    | .region _ _ => s)
  | none => s

/-- A trim is issued by the Conformance monitor (R242, R261): beyond 64 internal operations it is skipped. -/
def State.issueTrim (s : State) (t : TrimOp) : State :=
  if s.up .comb && s.internalInFlight < 64 then (s.acceptOp (.trim t) false).1 else s

/-- A trim takes effect. -/
def State.trimRow (s : State) (seq : Nat) : State :=
  match s.flightOf seq with
  | some f =>
    (match f.op with
    | .trim _ => if f.phase = .judging && s.up .comb then s.settle seq else s
    | .request _ => s
    | .message _ _ => s
    | .site _ _ => s
    | .region _ _ => s)
  | none => s

/-! ### The exchange as sender (R281 to R283, R289 to R292) -/

def State.sendPhase (s : State) (n type exch : Nat) : State :=
  let body := s.regionHeader type 0 exch 0
  let x : SentMsg := { nbr := n, exch := exch, body := body, since := s.now, last := s.now }
  ({ s with comb := { s.comb with sent := s.comb.sent ++ [x] } } : State).toNbr n 0x4050 body

def Asked.done (a : Asked) : Bool :=
  match a.resp with
  | some b => u b 1 1 ≤ 1
  | none => false

/-- Order of the outcomes of Table 5.8, REFUSED_NEIGHBOUR last. -/
def outcomeOrder (o : Nat) : Nat :=
  (([0x20, 0x2A, 0x21, 0x70, 0x22, 0x29, 0x23, 0x28, 0x24, 0x25, 0x26, 0x27, 0x2B, 0x50, 0x2C, 0x60, 0x2D] : List Nat).idxOf o)

/-- A neighbour's refusal as this controller reports it (R289, Table 6.4). A discarded PREPARE counts as unanswered. -/
def refusalOf (n : Nat) (b : Bytes) : Verdict :=
  let o := u b 1 1
  if o = 0x40 || o = 0x41 then Verdict.no 0x2D
  else
    let owner := u b 24 2
    let named := o = 0x60
    let ow := if !named then 0 else if owner < 1024 then 1024 + 32 * n + owner / 32 else if 1536 ≤ owner then owner else 1024 + 32 * n + 31
    let tag := if !named then 0 else if owner < 1024 || 1536 ≤ owner then u b 26 2 else 8191
    { Verdict.no o with cell := u b 20 4, ct := u b 28 5, owner := ow, tag := tag }

def verdictLe (a b : Nat × Verdict) : Bool :=
  let x := outcomeOrder a.2.out; let y := outcomeOrder b.2.out
  x < y || (x = y && (a.2.ct < b.2.ct || (a.2.ct = b.2.ct && a.1 ≤ b.1)))

/-- The refusal of a request by its neighbours (R290, R291). -/
def exchangeRefusal (asked : List Asked) : Verdict :=
  let l := asked.filterMap fun a => if a.done then none else some (a.nbr, match a.resp with
    | some b => refusalOf a.nbr b
    | none => Verdict.no 0x2D)
  ((least verdictLe l).map Prod.snd).getD (Verdict.no 0x2D)

/-- A request's entries go, and ABORT goes to each neighbour that answered DONE (R282). -/
def State.exchangeDrop (s : State) (f : Flight) (asked : List Asked) : State :=
  let s := (({ s with comb := s.comb.dropSeq f.seq } : State).noteLater f.seq s.comb.entries).combSettled
  (asked.filter Asked.done).foldl (fun s a => s.sendPhase a.nbr 4 a.exch) s

/-- A request's exchange fails (R282). -/
def State.exchangeFail (s : State) (f : Flight) (r : CombReq) (asked : List Asked) (v : Verdict) : State :=
  ((s.exchangeDrop f asked).endReq r f.seq v [])

/-- Every PREPARE was answered DONE: the request commits (R281). -/
def State.exchangeCommit (s : State) (f : Flight) (r : CombReq) (asked : List Asked) (note ents mirror : Nat) : State :=
  let q := Creq.of r.req
  let c := s.commitReq q r.req f mirror
  let s := (c.1.noteLater f.seq s.comb.entries).endReq r f.seq (Verdict.ok (note + c.2.1) ents c.2.2) []
  asked.foldl (fun s a => s.sendPhase a.nbr 3 a.exch) s

/-- A request in flight whose exchange holds a PREPARE. -/
structure Asking where
  f      : Flight
  r      : CombReq
  asked  : List Asked
  since  : Nat
  note   : Nat
  ents   : Nat
  mirror : Nat
  deriving DecidableEq, Repr, Inhabited

/-- The exchange of an operation in flight, if it is in one. -/
def Flight.asking (f : Flight) : Option Asking :=
  match f.phase, f.op with
  | .exchange asked since note ents mirror, .request r =>
    some { f := f, r := r, asked := asked, since := since, note := note, ents := ents, mirror := mirror }
  | _, _ => none

def State.asking (s : State) (p : Asked → Bool) : Option Asking :=
  s.comb.flight.findSome? fun f => (f.asking).filter fun x => x.asked.any p

/-- The exchange is decided once every PREPARE is answered. -/
def State.judgeExchange (s : State) (x : Asking) (asked : List Asked) : State :=
  if asked.all Asked.done && s.now ≤ x.since + s.cfg 0x4036 0 * ms then s.exchangeCommit x.f x.r asked x.note x.ents x.mirror
  else if asked.all fun a => a.resp.isSome then s.exchangeFail x.f x.r asked (exchangeRefusal asked)
  else s

/-- The answer to a PREPARE arrives (R281, R282). -/
def State.prepareAnswer (s : State) (n exch : Nat) (resp : Bytes) : State :=
  match s.asking fun a => a.nbr = n && a.exch = exch && a.resp.isNone with
  | none => s
  | some x =>
    let asked := x.asked.map fun a => if a.nbr = n && a.exch = exch then { a with resp := some resp } else a
    let s := s.setFlight x.f.seq fun y => { y with phase := .exchange asked x.since x.note x.ents x.mirror }
    if s.up .comb then s.judgeExchange x asked else s

/-- A PREPARE went unanswered for CombPrepareTimeout (R282). -/
def State.prepareTimeout (s : State) (exch : Nat) : State :=
  match s.asking fun a => a.exch = exch && a.resp.isNone with
  | none => s
  | some x => if s.up .comb && x.since + s.cfg 0x4036 0 * ms ≤ s.now then s.exchangeFail x.f x.r x.asked (exchangeRefusal x.asked) else s

/-- A COMMIT or ABORT is repeated every 2 ms until CombPrepareTimeout (R283). -/
def State.repeatPhase (s : State) (n exch : Nat) : State :=
  let lapsed (x : SentMsg) : Bool := x.since + s.cfg 0x4036 0 * ms ≤ s.now
  let due := s.comb.sent.filter fun x => x.nbr = n && x.exch = exch && !lapsed x && x.last + 2 * ms ≤ s.now
  let sent := (s.comb.sent.filter fun x => !lapsed x).map fun x => if x.nbr = n && x.exch = exch && x.last + 2 * ms ≤ s.now then { x with last := s.now } else x
  due.foldl (fun s x => s.toNbr n 0x4050 x.body) { s with comb := { s.comb with sent := sent } }

/-- A neighbour answers a COMMIT or ABORT, or with exchange zero its oldest stop notice (R283, R542). -/
def State.nbrAnswered (s : State) (n exch : Nat) : State :=
  let sent := s.comb.sent.filter fun x => !(x.nbr = n && x.exch = exch)
  let s : State := { s with comb := { s.comb with sent := sent } }
  if exch = 0 then
    (match s.stop.notices.findIdx? fun x => x.nbr = n with
    | some i => { s with stop := { s.stop with notices := s.stop.notices.eraseIdx i } }
    | none => s)
  else s

/-! ### Heartbeats (R298 to R304, R194, R605) -/

/-- The heartbeat of period p has its number, by whichever path it goes. -/
def State.hbNumber (s : State) (p : Int) : State :=
  if s.comb.hbPeriod = some p then s
  else { s with comb := { s.comb with hbPeriod := some p, hbSeq := wrap 32 (s.comb.hbSeq + 1) } }

/-- The body of a heartbeat (Table 6.6); `empty` is bit 1 of its state. -/
def State.hbBody (s : State) (sendTime : Int) (empty : Bool) : Bytes :=
  let accepting := s.up .comb && s.siteState = 1 && s.ctime.isSome
  leInt 8 sendTime ++ s.siteDigestNow ++ s.regionDigest ++ leBytes 2 (s.cfg 0x4048 0) ++ [byte (b2n accepting + 2 * b2n empty), 0]
    ++ leBytes 4 s.comb.hbSeq

/-- The heartbeat that a beacon carries: the beacons of one period carry one. -/
def State.heartbeat (s : State) (sendTime : Int) : State × Bytes :=
  let p := sendTime.fdiv s.hbPeriodNs
  let s := s.hbNumber p
  let c := s.comb
  let s : State := { s with comb := if c.hbBeacon = some p then c else { c with hbBeacon := some p, hbEmpty := c.emptied, emptied := false } }
  (s, s.hbBody sendTime s.comb.hbEmpty)

/-- The HEARTBEAT to neighbour n, where a session to it is open; else a session is asked for. -/
def State.heartbeatTo (s : State) (n : Nat) : State :=
  if s.nbrOn n then
    (s.toNbr n 0x4050 (s.regionHeader 1 0 0 0 ++ s.hbBody s.time64 (s.nbr n).emptied)).setNbr n fun x => { x with emptied := false }
  else s.helloNbr n

/-- At the start of a period, a HEARTBEAT goes to each neighbour (R298). -/
def State.sendHeartbeats (s : State) : State :=
  let p := s.hbNow
  if s.up .comb && (s.time64 % s.hbPeriodNs) ≤ 50000 && s.comb.hbEth ≠ some p then
    let s := s.hbNumber p
    let s : State := { s with comb := { s.comb with hbEth := some p } }
    s.nbrs.foldl (fun s n => s.heartbeatTo n) s
  else s

/-- A heartbeat is valid (R299); its sender is checked before. -/
def State.hbValid (s : State) (n : Nat) (body : Bytes) : Bool :=
  let d := s.time64 - si body 0 8
  slice body 8 8 = s.siteDigestNow && slice body 16 8 = s.nbrDigest n && u body 24 2 = s.cfg 0x4048 0 && -1000000 ≤ d && d ≤ 5000000

/-- Periods heard, with a heartbeat of period j counted. -/
def countHeard (l : List (Int × Bool)) (j : Int) (eth : Bool) : List (Int × Bool) :=
  if l.any fun x => x.1 = j then l.map fun x => if x.1 = j then (j, x.2 || eth) else x else ((j, eth) :: l).take 4

/-- The three periods up to j were counted, by radio only. -/
def radioOnlyFor (l : List (Int × Bool)) (j : Int) : Bool := [j, j - 1, j - 2].all fun k => l.contains (k, false)

/-- What a counted heartbeat does to the state of neighbour n (Table 6.9): back from a loss, or with its Comb emptied, it is synced; radio
only for three periods, it is radio-only. From there it is live again once both SYNCs are complete, of which the first heartbeat over
Ethernet starts this controller's (DESIGN CHOICE, log entry 19). -/
def State.hbJudged (s : State) (n : Nat) (j : Int) (emptied eth : Bool) : State :=
  let x := s.nbr n
  if x.st = .lost || (emptied && x.st ≠ .none) then
    (s.enterSyncing n).setNbr n fun y => { y with heard := [(j, eth)] }
  else if x.st = .live && radioOnlyFor x.heard j then
    s.setNbr n fun y => { y with st := .radioOnly, theirs := false, ours := false, asked := false }
  else if !x.asked && (x.st = .syncing || (x.st = .radioOnly && eth)) then s.sendSync n
  else s

/-- A received heartbeat of neighbour n: bytes 16 to 47 of Table 6.6, by Ethernet or by radio (R299, R300, R304). -/
def State.hbReceived (s : State) (n : Nat) (body : Bytes) (eth : Bool) : State :=
  let j := (si body 0 8).fdiv s.hbPeriodNs
  let mism := slice body 8 8 ≠ s.siteDigestNow
  let s := if mism && !(s.nbr n).mismatch then (s.setNbr n fun x => { x with mismatch := true }).logEv .siteFrameMismatch []
    else if mism then s else s.setNbr n fun x => { x with mismatch := false }
  if s.hbValid n body && s.time64 < (j + 1) * s.hbPeriodNs + 10000000 then
    (s.setNbr n fun x => { x with heard := countHeard x.heard j eth }).hbJudged n j (bit (u body 26 1) 1) eth
  else s

/-- The last period in which neighbour n was heard, or the one before its counting began. -/
def Neighbour.lastHeard (x : Neighbour) : Int := x.heard.foldl (fun m p => max m p.1) (x.from_ - 1)

/-- REFUSED_FROZEN of a request whose entries lie in the band of neighbour n, with its first cell there (R225). -/
def State.frozenVerdict (s : State) (f : Flight) (n : Nat) : Verdict :=
  match least covFirst ((s.comb.entries.filter fun e => e.seq = f.seq && s.inBand n e.q e.r).map Entry.cov) with
  | some c => Verdict.at_ 0x2B c.q c.r c.lo
  | none => Verdict.no 0x2B

/-- Requests that wait for PREPARE answers and need a neighbour now lost are refused REFUSED_FROZEN (R292). -/
def State.failWaiting (s : State) (n : Nat) : State :=
  let xs := s.comb.flight.filterMap fun f => (f.asking).filter fun x => x.asked.any fun a => a.nbr = n
  xs.foldl (fun s x => s.exchangeFail x.f x.r x.asked (s.frozenVerdict x.f n)) s

/-- Three periods have passed empty (R301, R302). -/
def State.loseNeighbour (s : State) (n : Nat) : State :=
  let x := s.nbr n
  if s.up .comb && s.nbrPresent n && x.st ≠ .none && x.st ≠ .lost && (x.lastHeard + 4) * s.hbPeriodNs + 10000000 ≤ s.time64 then
    let s := s.setNbr n fun y => { y with st := .lost, losses := wrap 32 (y.losses + 1), theirs := false, ours := false, asked := false, heard := [] }
    (s.logEv .neighbourLost []).failWaiting n
  else s

/-! ### Messages to CombNeighbourPort (R294 to R296) -/

/-- A region message from a session of neighbour n. With a neighbour of another site frame no claims are exchanged (R194): its are refused
as in a frozen band. -/
def State.regionMsg (s : State) (n : Nat) (r : CombReq) : State :=
  let ty := u r.req 0 1
  let busy := 64 ≤ s.internalInFlight
  if (s.nbr n).mismatch && (ty = 2 || ty = 5 || ty = 6) then s.msgAnswer r 0 0 0 (Verdict.no 0x2B)
  else match ty with
  | 1 => (s.hbReceived n (r.req.drop 16) true).msgAnswer r 0 0 0 (Verdict.ok 0 0 0)
  | 3 => s.runCommit n r
  | 4 =>
    (match s.preparedOf n (u r.req 4 4) with
    | some p => if p.presumed then (if busy then s.msgAnswer r 0 0 0 (Verdict.no 0x50) else s.internalOp (.message n r)) else s.runAbort n r
    | none => s.runAbort n r)
  | _ => if busy then s.msgAnswer r 0 0 0 (Verdict.no 0x50) else s.internalOp (.message n r)

/-- A heartbeat carrying this controller's own ID (R46): the device leaves service. -/
def State.clashHeard (s : State) : State :=
  let s' := ({ s with clash := some { last := s.now } } : State).refreshGo
  if s.clash.isNone then s'.logEv .controllerIdClash [] else s'

/-- The clash ends: after three silent heartbeat periods, or as ControllerId changes (R46). -/
def State.clashEnded (s : State) : State := ({ s with clash := none } : State).refreshGo
def State.clashSilent (s : State) : State :=
  match s.clash with
  | some x => if x.last + 3 * (s.cfg 0x4048 0 * ms) ≤ s.now then s.clashEnded else s
  | none => s

/-- CombNeighbourPort: the session's key slot, the sender, the form (R294, R295). -/
def State.neighbourPort (s : State) (c : Caller) (msg : Bytes) : State :=
  match s.nbrOfCaller c with
  | none => s.answer c Ans.privilege
  | some n =>
    let r : CombReq := { caller := c, req := msg }
    let own : Bool := regionMsgOk msg && u msg 0 1 = 1 && u msg 2 2 = s.controllerId
    let s := if own then s.clashHeard else s
    if u msg 2 2 ≠ s.nbrId n || !regionMsgOk msg then s.msgAnswer r 0 0 0 (Verdict.no 0x20) else s.regionMsg n r

/-! ### Age of the epoch (R183) -/

def State.epochAge (s : State) : State :=
  match s.ctime with
  | none => s
  | some c =>
    let now := s.now
    let due : Bool := match s.comb.ageAt with
      | some a => decide (a + 86400 * sec ≤ now)
      | none => true
    if 0xF000000000 ≤ c && due then ({ s with comb := { s.comb with ageAt := some now } } : State).logEv .combEpochAge [] else s

/-! ### Faults and resets (Table 6.10, R248, R951) -/

/-- Requests of flights and intake queues, with what they are. -/
def Comb.requests (c : Comb) : List CombReq :=
  c.flight.filterMap (fun f => match f.op with
    | .request r => some r
    | _ => none) ++ c.intake.flatten ++ c.outside

/-- Region messages in flight, not yet answered. -/
def Comb.messages (c : Comb) : List CombReq :=
  c.flight.filterMap fun f => match f.op with
    | .message _ r => some r
    | _ => none

def Comb.commits (c : Comb) : List Caller :=
  c.flight.filterMap fun f => match f.op with
    | .site x _ => some x
    | .region x _ => some x
    | _ => none

/-- Everything in flight ends with outcome 0x40 or 0x41. -/
def State.combDiscardAll (s : State) (out : Nat) : State :=
  let c := s.comb
  let local_ := c.flight.map Flight.seq
  let s := ({ s with comb := { c with flight := [], intake := List.replicate 8 [], outside := [],
                                      entries := c.entries.filter fun e => e.seq = 0 || !local_.contains e.seq } } : State).combSettled
  let s := c.requests.foldl (fun s r => s.combDiscard out r) s
  let s := c.messages.foldl (fun s r => s.combAnswer r.caller out (combResp (u r.req 0 1) 0 0 (u r.req 4 4) 0 (Verdict.no out))) s
  c.commits.foldl (fun s x => s.answer x (if out = 0x40 then Ans.fault else Ans.reset)) s

/-- Who sent an operation in flight. -/
def Flight.caller (f : Flight) : Option Caller :=
  match f.op with
  | .request r => some r.caller
  | .trim _ => none
  | .message _ r => some r.caller
  | .site c _ => some c
  | .region c _ => some c

/-- An operation in flight ends with outcome 0x40 or 0x41 (R63): a request's entries go, and its exchange is aborted. -/
def State.combEndFlight (s : State) (out : Nat) (f : Flight) : State :=
  let asked := ((f.asking).map Asking.asked).getD []
  let s := s.exchangeDrop f asked
  let s : State := { s with comb := s.comb.endFlight f.seq }
  match f.op with
  | .request r => s.combDiscard out r
  | .trim _ => s
  | .message _ r => s.combAnswer r.caller out (combResp (u r.req 0 1) 0 0 (u r.req 4 4) 0 (Verdict.no out))
  | .site c _ => s.answer c (if out = 0x40 then Ans.fault else Ans.reset)
  | .region c _ => s.answer c (if out = 0x40 then Ans.fault else Ans.reset)

/-- The operations of some callers end with outcome 0x40 or 0x41, whose island was isolated (R63). -/
def State.combEnd (s : State) (p : Caller → Bool) (out : Nat) : State :=
  let c := s.comb
  let waits := (c.intake.flatten ++ c.outside).filter fun r => p r.caller
  let intake := c.intake.map fun q => q.filter fun r => !p r.caller
  let s : State := { s with comb := { c with intake := intake, outside := c.outside.filter fun r => !p r.caller } }
  let s := waits.foldl (fun s r => s.combDiscard out r) s
  let s := (c.flight.filter fun f => (f.caller).any p).foldl (fun s f => s.combEndFlight out f) s
  { s with comb := waits.foldl (fun c r => c.refill (Creq.of r.req).intake) s.comb }

/-- A restart of the Comb island. -/
def State.combRestart (s : State) : State := s.combDiscardAll 0x40

/-- A reset of the Comb island. -/
def State.combReset (s : State) : State :=
  let s := s.combDiscardAll 0x41
  let c := s.comb
  let nbrs := c.nbrs.map fun x => { Neighbour.reset with session := x.session, nonce := x.nonce, losses := x.losses }
  { s with comb := { Comb.reset with retired := c.retired, retiring := c.retiring, nbrs := nbrs, hbSeq := c.hbSeq, ageAt := c.ageAt } }

/-- After the release of a reset of the Comb island, the groups that were being retired hold no entry any more and are retired (R316), and
every neighbour enters syncing (Table 6.9). -/
def State.combReleased (s : State) : State :=
  let s := s.comb.retiring.foldl (fun s g => s.retireDone g) s
  s.nbrs.foldl (fun s n => s.enterSyncing n) s

end Sys2Proof.Machine
end

