-- ==== Sys2Proof/Machine/ConfOps.lean ====
section
/-!
DEFINITION. The Conformance monitor: position tests, freshness, policy, verdict records, swarm commands and zone membership
(11_conformance_stop_bath.md R489 to R520, R524).
-/

namespace Sys2Proof.Machine

/-! ### Monitored slots (R490, R504) -/

def State.setConf (s : State) (m : Nat) (f : ConfSlot → ConfSlot) : State :=
  { s with conf := { s.conf with slots := Tbl.put s.conf.slots m (f (s.confSlot m)) } }

/-- The machine of a slot, where it holds one. -/
def State.machineId (s : State) (m : Nat) : Nat := s.mach m 1
def State.monitored (s : State) (m : Nat) : Bool := m < s.tier && (s.confSlot m).since.isSome

/-- A slot becomes monitored: its ages start (R504). -/
def State.startMonitor (s : State) (m : Nat) : State :=
  s.setConf m fun x => { x with since := some s.now, ages := [some s.time64, some s.time64, some s.time64], staleAt := [none, none, none],
                                counters := List.replicate 10 0, reported := [], judged := [] }

/-- A slot leaves monitoring. -/
def State.stopMonitor (s : State) (m : Nat) : State :=
  s.setConf m fun x => { x with since := none, ages := [none, none, none], staleAt := [none, none, none], counters := List.replicate 10 0,
                                reported := [], judged := [] }

/-- Stale threshold of a kind in ns (R491, R502): 0 fix, 1 reported, 2 developed. -/
def State.staleLimit (s : State) (kind : Nat) : Int :=
  (match kind with
  | 0 => s.cfg 0x4809 0
  | 1 => s.cfg 0x4808 0
  | _ => s.cfg 0x480A 0 : Nat) * 1000000

/-- A position time is in range (R491). -/
def State.timeOk (s : State) (kind : Nat) (t : Int) : Bool := t ≤ s.time64 + 50000000 && s.time64 - s.staleLimit kind ≤ t

/-! ### Policy (R509 to R512) -/

/-- One evaluation of a slot row: its counter, and the action that applies, 0 where none does. -/
def State.evalRow (s : State) (m row : Nat) (cond : Bool) : State × Nat :=
  let n := if cond then nth (s.confSlot m).counters row + 1 else 0
  let s := s.setConf m fun x => { x with counters := modNth x.counters row fun _ => n }
  let p := s.policy (s.confSlot m).acked row
  (s, if cond && (row = 8 || p.2 ≤ n) then p.1 else 0)

/-- A slot is stopped: a latch covers it in a channel, or the device is out of service (R523). -/
def State.slotStopped (s : State) (m : Nat) : Bool := !s.inService || s.covered s.stop.a m || s.covered s.stop.b m

/-- A slot row's action is taken (Table 11.3, R512). -/
def State.act (s : State) (m action causes : Nat) : State :=
  if action = 1 then s.logEv .confPolicy []
  else if 2 ≤ action && !s.slotStopped m then
    s.setLatch (if action = 2 then .machine m else if action = 3 then .group (s.stopGroup m) else .all) 6 causes
  else s

/-- Evaluations of one judgement: rows with their conditions. The greatest action is the record's. -/
def State.evalRows (s : State) (m causes : Nat) : List (Nat × Bool) → State × Nat
  | [] => (s, 0)
  | (row, cond) :: t =>
    let x := s.evalRow m row cond
    let s := x.1.act m x.2 causes
    let y := s.evalRows m causes t
    (y.1, max x.2 y.2)

/-! ### Verdict records (Table 11.1) -/

/-- What a verdict record says besides its slot. -/
structure Record where
  t        : Int
  kind     : Nat
  causes   : Nat
  cell     : Nat
  distance : Nat
  bound    : Nat
  deriving DecidableEq, Repr, Inhabited

/-- The verdict of a set of causes (R508). -/
def verdictOf (causes : Nat) : Nat :=
  if bit causes 0 then 1 else if bit causes 1 || bit causes 2 then 2 else if bit causes 3 || bit causes 4 || bit causes 5 then 3 else 0

def Record.bytes (r : Record) (m action mode : Nat) : Bytes :=
  leInt 8 r.t ++ leBytes 2 m ++ [byte (verdictOf r.causes), byte r.kind] ++ leBytes 4 r.causes ++ leBytes 4 r.cell ++ leBytes 4 r.distance
    ++ leBytes 4 r.bound ++ [byte action, byte mode, 0, 0]

/-- Post a record and keep it (R507). -/
def State.verdict (s : State) (m action : Nat) (r : Record) : State :=
  let b := r.bytes m action (s.confSlot m).acked
  let v := verdictOf r.causes
  let s := s.setConf m fun x => { x with verdict := b }
  let s : State := { s with conf := { s.conf with verdicts := modNth s.conf.verdicts v fun n => wrap 32 (n + 1) } }
  (s.post (s.cfg 0x4803 0) b).count 0x11 v 1

/-- Rows evaluated and the record posted. -/
def State.conclude (s : State) (m : Nat) (rows : List (Nat × Bool)) (r : Record) : State :=
  let x := s.evalRows m r.causes rows
  x.1.verdict m x.2 r

/-! ### EXCURSION (R493 to R498) -/

/-- 10⁻⁶ mm² of λ of a covariance (R493), rounded up. -/
def lambdaOf (ee nn en : Int) : Nat := ((ee + nn + (csqrt ((ee - nn) * (ee - nn) + 4 * en * en).toNat : Int)).fdiv 2).toNat

/-- u in 2⁻⁶⁴ mm of a variance in 10⁻⁶ mm². -/
def State.radiusOf (s : State) (var : Nat) : Nat := csqrt (var * (2 ^ 64 * s.cfg 0x4804 0) ^ 2) / 100000

/-- The slot's ConfFootprint, where it is not empty. -/
def State.confFoot (s : State) (m : Nat) : Option Footprint :=
  let b := s.cfgB (0x7000 + m) 0x41
  if b = [] then none else some (footprintOf (u b 0 1) (b.drop 4))

/-- A point, its uncertainty and heading as the monitor judges them; P in 0.1 mm, radius and disc in 2⁻⁶⁴ mm. -/
structure Judged where
  t    : Int
  e    : Int
  n    : Int
  u    : Nat
  head : Option Int
  deriving DecidableEq, Repr, Inhabited

/-- Radius of the disc of R494 in 2⁻⁶⁴ mm. -/
def Footprint.discRadius (f : Footprint) : Nat := csqrt (f.reach2 * 2 ^ 128)

/-- The cell set X (R494, R495). -/
def State.cellSet (s : State) (j : Judged) (f : Footprint) : List (Int × Int) :=
  let r := match j.head with
    | some _ => 0
    | none => f.discRadius
  let foot := match j.head with
    | some _ => f
    | none => Footprint.disc 0
  cellsInside s.pitch foot 10 j.e j.n (j.head.getD 0) (240 * ((j.u + r : Nat) : Int)) (csqrt f.reach2 + j.u / 2 ^ 64 + s.pitch + 3)

/-- A cell is claimed for the slot at a CTIME, where the position's time has one, or blocked (R496, R315). -/
def State.holdsCell (s : State) (m : Nat) (ct : Option Nat) (c : Int × Int) : Bool :=
  cellInPlane s.pitch c && (s.cellBlocked c.1 c.2 s.ct || (match ct with
    | some ct => s.comb.entries.any fun e => e.owner = m && e.seq = 0 && e.at_ c.1 c.2 && e.start ≤ ct && reaches e.fin (ct + 1)
    | none => false))

def cellLe (a b : Int × Int) : Bool := a.1 < b.1 || (a.1 = b.1 && a.2 ≤ b.2)

/-- Fixed-point distance in 2⁻²⁰ mm of a point to a segment, all in 2⁻²⁰ mm. -/
def segDist (p a b : Int × Int) : Nat :=
  let wx := b.1 - a.1; let wy := b.2 - a.2
  let vx := p.1 - a.1; let vy := p.2 - a.2
  let len2 := wx * wx + wy * wy
  let t := vx * wx + vy * wy
  if t ≤ 0 || len2 = 0 then isqrt (vx * vx + vy * vy).toNat
  else if len2 ≤ t then isqrt ((p.1 - b.1) * (p.1 - b.1) + (p.2 - b.2) * (p.2 - b.2)).toNat
  else let c := (wx * vy - wy * vx).natAbs; c / isqrt len2.toNat

/-- Distance in mm, rounded, from a cell's centre to the posed footprint (Table 11.1). -/
def State.footDistance (s : State) (j : Judged) (f : Footprint) (c : Int × Int) : Nat :=
  let k : Int := 2 ^ 20
  let p := s.pitch
  let root3 : Int := isqrt (3 * 2 ^ 80)
  let pt : Int × Int := (roundDiv (p * c.1 * root3) (2 ^ 21), roundDiv (p * (2 * c.2 + c.1) * k) 2)
  let o : Int × Int := (roundDiv (j.e * k) 10, roundDiv (j.n * k) 10)
  let away (r : Nat) : Nat := isqrt ((pt.1 - o.1) * (pt.1 - o.1) + (pt.2 - o.2) * (pt.2 - o.2)).toNat - r
  let d := match f, j.head with
    | .disc r, _ => away (r * 2 ^ 20)
    | .poly _, none => away (f.discRadius / 2 ^ 44)
    | .poly vs, some h =>
      let sc := headSinCos h
      let v := vs.map fun x => (o.1 + roundDiv (x.1 * sc.1 - x.2 * sc.2) (2 ^ 46), o.2 + roundDiv (x.1 * sc.2 + x.2 * sc.1) (2 ^ 46))
      if inPoly ⟨⟨pt.1, 0⟩, ⟨pt.2, 0⟩⟩ (v.map fun x => ⟨⟨x.1, 0⟩, ⟨x.2, 0⟩⟩) then 0
      else ((edges v).map fun (a, b) => segDist pt a b).foldl min (2 ^ 60)
  (d + 2 ^ 19) / 2 ^ 20

/-- u + p/√3 in mm, rounded. -/
def State.bound (s : State) (u : Nat) : Nat := (u + isqrt (s.pitch * s.pitch * 2 ^ 128 / 3) + 2 ^ 63) / 2 ^ 64

/-- What the EXCURSION test finds: whether it fails, cause bits 16 and 17, the named cell, distance and bound, X. -/
structure Excursion where
  fails : Bool
  bits  : Nat
  cell  : Nat
  dist  : Nat
  bound : Nat
  cells : List (Int × Int)
  deriving DecidableEq, Repr, Inhabited

/-- The EXCURSION test (R496 to R498). -/
def State.excursion (s : State) (m : Nat) (j : Judged) : Excursion :=
  match s.confFoot m with
  | none => { fails := true, bits := 2 ^ 16, cell := 0, dist := 0, bound := s.bound j.u, cells := [] }
  | some f =>
    let bits := if j.head.isNone then 2 ^ 17 else 0
    if s.siteState = 0 then { fails := true, bits := bits, cell := 0, dist := 0, bound := s.bound j.u, cells := [] }
    else
      let x := s.cellSet j f
      let ct := if s.ctime.isNone || j.t < s.combEpoch then none else some (s.ctimeOf j.t).toNat
      match least cellLe (x.filter fun c => !s.holdsCell m ct c) with
      | none => { fails := false, bits := bits, cell := 0, dist := 0, bound := 0, cells := x }
      | some c => { fails := true, bits := bits, cell := cell32 c.1 c.2, dist := s.footDistance j f c, bound := s.bound j.u, cells := x }

/-! ### Pair tests (R500, R501) -/

/-- A pair test of position a with reported position b: whether it fails, d and the bound in mm. -/
def State.pairTest (s : State) (a : PairPos) (b : RepPos) : Bool × Nat × Nat :=
  let dt := a.t - b.t
  let dx := (a.e - b.e) * 100000000 - b.ve * dt
  let dy := (a.n - b.n) * 100000000 - b.vn * dt
  let d2 := (dx * dx + dy * dy).toNat
  let f := s.cfg 0x4805 0 * 1000000000
  let g := s.cfg 0x4806 0 * 10000
  let v := a.var + b.sigma * b.sigma * 1000000
  let rest : Int := (d2 : Int) - (f * f + g * g * v : Nat)
  (0 < rest && (4 * f * f * g * g * v : Nat) < rest * rest, (isqrt d2 + 500000000) / 1000000000, (f + isqrt (g * g * v) + 500000000) / 1000000000)

/-- The reported position nearest in time to `t` within the pair window. -/
def State.partner (s : State) (m : Nat) (t : Int) : Option RepPos :=
  let w : Int := s.cfg 0x4807 0 * 1000000
  least (fun a b => (a.t - t).natAbs ≤ (b.t - t).natAbs) ((s.confSlot m).reported.filter fun b => (b.t - t).natAbs ≤ w)

/-- Row of a pair test by the kind of position a. -/
def pairRow (kind : Nat) : Nat := if kind = 0 then 1 else 2

/-- Positions kept for later pairs and headings. -/
def State.keepPos (s : State) (m : Nat) : State :=
  let w : Int := (max (s.cfg 0x4807 0) (s.cfg 0x480B 0) + 700000) * 1000000
  s.setConf m fun x => { x with reported := x.reported.filter (fun b => s.time64 - w ≤ b.t), judged := x.judged.filter (fun a => s.time64 - w ≤ a.t) }

/-! ### Judging an operation (R489 to R508) -/

/-- Refresh a kind's age. -/
def State.refreshAge (s : State) (m kind : Nat) (t : Int) : State := s.setConf m fun x => { x with ages := modNth x.ages kind fun _ => some t }

/-- A verdict record of an operation out of range in time (R491). -/
def State.outOfRange (s : State) (m kind : Nat) (t : Int) : State :=
  s.verdict m 0 { t := t, kind := kind, causes := 2 ^ 18, cell := 0, distance := 0, bound := 0 }

/-- The first pair test of an arriving fix or developed position (R501): row evaluations, causes, distance and bound. -/
def State.firstPair (s : State) (m : Nat) (a : PairPos) : State × List (Nat × Bool) × Nat × Nat × Nat :=
  match s.partner m a.t with
  | none => (s.setConf m fun x => { x with judged := x.judged ++ [a] }, [], 2 ^ 19, 0, 0)
  | some b =>
    let p := s.pairTest a b
    let row := pairRow a.kind
    let a' := { a with partner := some (b.t - a.t).natAbs }
    (s.setConf m fun x => { x with judged := x.judged ++ [a'] }, [(row, p.1)], if p.1 then 2 ^ row else 0, p.2.1, p.2.2)

/-- The trims of an OK verdict (R242). -/
def State.trimTracks (s : State) (m : Nat) (j : Judged) : State :=
  let disc := match j.head with
    | some _ => none
    | none => (s.confFoot m).map Footprint.discRadius
  let ts := s.comb.tracks.filter fun t => t.owner = m && (Creq.of t.req).trim && s.tagLive m t.tag
  ts.foldl (fun s t => s.issueTrim { owner := m, tag := t.tag, f := (s.ctimeOf j.t).toNat, e := j.e, n := j.n, den := 10, u := j.u,
                                     head := j.head.getD 0, disc := disc }) s

/-- Zones of a slot's cells and claims (R524). -/
def State.inZone (s : State) (z : Nat) (c : Int × Int) : Bool :=
  if z < 16 then
    let v := areaVerts (s.cfgB 0x4855 (z + 1))
    v ≠ [] && shapeWithin (dilate 6 0 s.pitch) (centre3 6 s.pitch c.1 c.2) (v.map (toP3 6))
  else s.nbrPresent (z - 16) && s.inBand (z - 16) c.1 c.2

/-- Zones that exist now. -/
def State.zones (s : State) : List Nat :=
  (List.range 28).filter fun z => if z < 16 then s.cfgB 0x4855 (z + 1) ≠ [] else s.nbrPresent (z - 16)

/-- Cells that make a slot a member of a zone: X of its latest judged position, and its committed claims at the current CTIME. -/
def State.slotCells (s : State) (m : Nat) : List (Int × Int) :=
  (s.confSlot m).cells ++ s.comb.entries.filterMap fun e =>
    if e.owner = m && e.seq = 0 && e.start ≤ s.ct && reaches e.fin (s.ct + 1) then some (e.q, e.r) else none

/-- Membership of slot m in zone z: kept while the zone's latch stops it. -/
def State.memberNow (s : State) (z m : Nat) : Bool :=
  (s.stop.member z m && s.stop.latch (.zone z) ≠ 0)
    || (s.siteState ≠ 0 && s.ctime.isSome && (s.slotCells m).any (s.inZone z))

/-- Membership of the given slots is reported to both channels (R524). -/
def State.reportZones (s : State) (ms : List Nat) : State :=
  let zs := s.zones ++ (s.stop.members.map Prod.fst).filter fun z => !s.zones.contains z
  let t := zs.foldl (fun (t : Tbl (List Nat)) z =>
    let kept := (Tbl.getD t z []).filter fun m => !ms.contains m
    let now := kept ++ ms.filter fun m => s.memberNow z m
    if now = [] then Tbl.del t z else Tbl.put t z now) s.stop.members
  ({ s with stop := { s.stop with members := t } } : State).refreshGo

/-- Slots whose membership can be anything but empty. -/
def State.zoneSlots (s : State) : List Nat :=
  ((s.conf.slots.map Prod.fst) ++ (s.comb.entries.filterMap fun e => if e.owner < 1024 then some e.owner else none)
    ++ (s.stop.members.flatMap Prod.snd)).eraseDups

/-- The heading of a fix: that of the latest reported position within ConfHeadingAge of it (R493). -/
def State.headingFor (s : State) (m : Nat) (t : Int) : Option Int :=
  let w : Int := s.cfg 0x480B 0 * 1000000
  (least (fun a b => b.t ≤ a.t) ((s.confSlot m).reported.filter fun b => (b.t - t).natAbs ≤ w)).map fun b => signed 16 b.heading

/-- A fix or reported position is judged (R496): its EXCURSION test with the pair tests given. -/
def State.judgePos (s : State) (m kind : Nat) (j : Judged) (rows : List (Nat × Bool)) (causes d b : Nat) : State :=
  let x := s.excursion m j
  let all := causes ||| x.bits ||| (if x.fails then 1 else 0)
  let s := s.setConf m fun y => { y with cells := x.cells }
  let s := s.refreshAge m kind j.t
  let fail := rows.any Prod.snd
  let r : Record := { t := j.t, kind := kind, causes := all, cell := x.cell, distance := if x.fails then x.dist else if fail then d else 0,
                      bound := if x.fails then x.bound else if fail then b else 0 }
  let s := s.conclude m ((0, x.fails) :: rows) r
  let s := if verdictOf all = 0 then s.trimTracks m j else s
  (s.keepPos m).reportZones [m]

/-- A fix. -/
def State.judgeFix (s : State) (m : Nat) (t e n ee nn en : Int) : State :=
  let var := lambdaOf ee nn en
  let p := s.firstPair m { kind := 0, t := t, e := e, n := n, var := var, partner := none }
  p.1.judgePos m 0 { t := t, e := e, n := n, u := s.radiusOf var, head := s.headingFor m t } p.2.1 p.2.2.1 p.2.2.2.1 p.2.2.2.2

/-- A reported position: tested with every judged position it is a nearer partner of (R501). -/
def State.judgeReported (s : State) (m : Nat) (b : RepPos) : State :=
  let w : Int := s.cfg 0x4807 0 * 1000000
  let near (a : PairPos) : Bool := (b.t - a.t).natAbs ≤ w && (match a.partner with
    | some d => (b.t - a.t).natAbs < d
    | none => true)
  let tests := ((s.confSlot m).judged.filter near).map fun a => (pairRow a.kind, s.pairTest a b)
  let s := s.setConf m fun x => { x with reported := x.reported ++ [b],
                                         judged := x.judged.map fun a => if near a then { a with partner := some (b.t - a.t).natAbs } else a }
  let rows := tests.map fun x => (x.1, x.2.1)
  let causes := tests.foldl (fun c x => if x.2.1 then c ||| 2 ^ x.1 else c) 0
  let bad := ((tests.find? fun x => x.2.1).map fun x => (x.2.2.1, x.2.2.2)).getD (0, 0)
  s.judgePos m 1 { t := b.t, e := b.e, n := b.n, u := s.radiusOf (b.sigma * b.sigma * 1000000), head := some (signed 16 b.heading) } rows causes bad.1 bad.2

/-- A position (ECEF, 0.1 mm) in the site plane of the frame in force (R158), 0.1 mm; without a site frame, the origin. -/
def State.planePoint (s : State) (p : V3) : Int × Int :=
  if s.siteState = 0 then (0, 0) else let v := toPlane s.siteCoefs s.siteOrigin p; (10 * v.1, 10 * v.2.1)

/-- A developed position, converted to the site plane as it is judged (R192, R499, R500), which also clears row 6 (R506). -/
def State.judgeDeveloped (s : State) (m : Nat) (t : Int) (pos : V3) (sigma : Nat) : State :=
  let v := s.planePoint pos
  let p := s.firstPair m { kind := 2, t := t, e := v.1, n := v.2, var := sigma * sigma * 1000000, partner := none }
  let s := p.1.refreshAge m 2 t
  let fail := p.2.1.any Prod.snd
  let r : Record := { t := t, kind := 2, causes := p.2.2.1, cell := 0, distance := if fail then p.2.2.2.1 else 0, bound := if fail then p.2.2.2.2 else 0 }
  ((s.conclude m ((6, false) :: p.2.1) r).keepPos m).reportZones [m]

/-- Kind of an operation as Table 11.1 numbers it. -/
def ConfOp.kind : ConfOp → Nat
  | .fix _ _ _ _ _ _ _ => 0
  | .reported _ => 1
  | .developed _ _ _ _ => 2
  | .notice _ => 4

def ConfOp.time : ConfOp → Option Int
  | .fix t _ _ _ _ _ _ => some t
  | .reported b => some b.t
  | .developed t _ _ _ => some t
  | .notice _ => none

/-- An operation is judged by the tests of its kind. -/
def State.judgeOp (s : State) (m : Nat) (op : ConfOp) : State :=
  match op with
  | .fix t e n ee nn en _ => s.judgeFix m t e n ee nn en
  | .reported b => s.judgeReported m b
  | .developed t pos sg _ => s.judgeDeveloped m t pos sg
  | .notice fixed =>
    s.conclude m [(6, !fixed)] { t := s.time64, kind := 4, causes := if fixed then 0 else 2 ^ 6, cell := 0, distance := 0, bound := 0 }

/-- An operation reaches the monitor (R489, R490): answered ABSENT at a slot at or above the tier or where the Comb island has failed, else
taken in order of arrival. -/
def State.issueConf (s : State) (m : Nat) (op : ConfOp) : State :=
  if m < s.tier && !s.gone .comb then { s with conf := { s.conf with ops := s.conf.ops ++ [(m, op)] } }
  else s.emit (.engine Island.comb.id 0x70)

/-- The monitor takes the oldest operation of a slot, where it is of the kind the row names (R490 to R492). -/
def State.confRow (s : State) (m kind : Nat) : State :=
  match s.conf.ops.findIdx? fun x => x.1 = m with
  | none => s
  | some i =>
    match s.conf.ops[i]? with
    | none => s
    | some (_, op) =>
      if op.kind ≠ kind || !s.up .comb then s
      else
        let s : State := { s with conf := { s.conf with ops := s.conf.ops.eraseIdx i } }
        if !s.monitored m then { s with conf := { s.conf with ignored := wrap 32 (s.conf.ignored + 1) } }
        else match op.time with
          | some t => if s.timeOk kind t then s.judgeOp m op else s.outOfRange m kind t
          | none => s.judgeOp m op

/-! ### Freshness (R502 to R505) -/

/-- The machine exposures are developed and the rover is solved on this variant (R30). -/
def State.serviceS (s : State) : Bool := s.sService

/-- Whether a kind is enabled for a slot and not ignored (R502, R503); ConfSources bit 0 reported, 1 fix, 2 developed. -/
def State.kindCounts (s : State) (m kind : Nat) : Bool :=
  let src := s.mach m 0x42
  match kind with
  | 0 => bit src 1 && s.serviceS && s.cfg 0x3800 0 ≠ 0 && !s.gone .fixer && !s.gone .tracking
  | 1 => bit src 0
  | _ => bit src 2 && s.serviceS && !s.gone .developer

def State.kindStale (s : State) (m kind : Nat) : Bool :=
  s.kindCounts m kind && (match (s.confSlot m).ages.getD kind none with
    | some t => s.staleLimit kind < s.time64 - t
    | none => false)

/-- Row of a stale kind. -/
def staleRow (kind : Nat) : Nat := if kind = 1 then 3 else if kind = 0 then 4 else 5

/-- Freshness of one slot. -/
def State.freshSlot (s : State) (m : Nat) : State :=
  let st := [1, 0, 2].map fun k => (k, s.kindStale m k)
  let causes := st.foldl (fun c x => if x.2 then c ||| 2 ^ staleRow x.1 else c) 0
  let due := st.any fun x => x.2 && (match (s.confSlot m).staleAt.getD x.1 none with
    | some t => decide (t + sec ≤ s.now)
    | none => true)
  let x := s.evalRows m causes (st.map fun x => (staleRow x.1, x.2))
  let at_ (k : Nat) (o : Option Nat) : Option Nat := if st.contains (k, true) then (if due then some s.now else o) else none
  let s := x.1.setConf m fun y => { y with staleAt := y.staleAt.mapIdx at_ }
  if due then s.verdict m x.2 { t := s.time64, kind := 3, causes := causes, cell := 0, distance := 0, bound := 0 } else s

/-- The evaluation of every 10 ms (R502, R524). -/
def State.freshTick (s : State) : State :=
  if s.up .comb then
    let ms := (s.conf.slots.filter fun e => s.monitored e.1).map Prod.fst
    let s := ms.foldl State.freshSlot s
    s.reportZones s.zoneSlots
  else s

/-! ### Device rows (R510, rows 7 and 9) -/

/-- One evaluation of a device row. -/
def State.deviceRow (s : State) (row : Nat) (cond : Bool) : State :=
  let n := if cond then nth s.conf.rows row + 1 else 0
  let s : State := { s with conf := { s.conf with rows := modNth s.conf.rows row fun _ => n } }
  let p := s.policy (s.cfg 0x4820 0) row
  if cond && p.2 ≤ n then
    (if p.1 = 1 then s.logEv .confPolicy [] else if p.1 = 4 then s.setLatch .all 6 0 else s)
  else s

/-- Time quality and BaseState, once per second. -/
def State.deviceTick (s : State) (baseOperating : Bool) : State :=
  if s.up .comb then (s.deviceRow 7 (s.quality < s.cfg 0x480C 0)).deviceRow 9 (!baseOperating) else s

/-! ### The policy group (R513) -/

def State.policyCheck (s : State) : Option Ans :=
  let bad (b : Bytes) : Bool := (List.range 10).any fun row =>
    let a := u b (4 * row) 1
    4 < a || (row ≠ 8 && u b (4 * row + 1) 1 = 0) || ((row = 7 || row = 9) && (a = 2 || a = 3))
  if (List.range 8).any (fun k => bad (s.cfgB 0x4801 (k + 1))) then some (Ans.bad 0x05480001) else none

/-! ### Swarm commands (R514 to R520) -/

def Swarm.bytes (w : Swarm) : Bytes := byte w.mode :: zeros 7 ++ leInt 8 w.instant ++ leInt 8 w.deadline
/-- The SWARM_ANNOUNCE layout of 20 bytes. -/
def Swarm.announce (w : Swarm) : Bytes := byte w.mode :: zeros 3 ++ leInt 8 w.instant ++ leInt 8 w.deadline

/-- A cancel (R516). -/
def State.swarmCancel (s : State) : State × Option Ans :=
  match s.conf.swarm with
  | none => (s, some (Ans.done []))
  | some w => if w.instant ≤ s.time64 then (s, some (Ans.state 0x05480005)) else ({ s with conf := { s.conf with swarm := none } }, some (Ans.done []))

/-- A new command (R515). -/
def State.swarmNew (s : State) (v : Bytes) : State × Option Ans :=
  let i := si v 8 8; let d := si v 16 8
  match s.conf.swarm with
  | some _ => (s, some (Ans.state 0x05480004))
  | none =>
    if i < s.time64 + 200000000 || s.time64 + 3600000000000 < i || d < i || i + 600000000000 < d then (s, some (Ans.bad 0x05480003))
    else
      let w : Swarm := { mode := u v 0 1, instant := i, deadline := d, applied := false }
      let slots := s.conf.slots.map fun e => (e.1, { e.2 with ackAhead := none })
      ({ s with conf := { s.conf with swarm := some w, slots := slots } }, some (Ans.done []))

/-- SwarmCommand (R514); its length is checked before. -/
def State.swarmPort (s : State) (v : Bytes) : State × Option Ans :=
  let mode := u v 0 1
  if (7 < mode && mode ≠ 0xFF) || !allZero (slice v 1 7) then (s, some Ans.invalid)
  else if mode = 0xFF then s.swarmCancel else s.swarmNew v

/-- A slot reaches a mode; row 8 no longer holds for it. -/
def State.setAcked (s : State) (m mode : Nat) : State :=
  s.setConf m fun x => { x with acked := mode, ackAhead := none, counters := modNth x.counters 8 fun _ => 0 }

/-- The instant arrives (R518). -/
def State.swarmInstant (s : State) : State :=
  match s.conf.swarm with
  | none => s
  | some w =>
    if w.applied || s.time64 < w.instant || !s.up .comb then s
    else
      let s : State := { s with conf := { s.conf with swarm := some { w with applied := true } } }
      let s := s.setVal (key 0x4820 0) [byte w.mode]
      (s.conf.slots.filter fun e => e.2.ackAhead = some w.mode).foldl (fun s e => s.setAcked e.1 w.mode) s

/-- The deadline arrives (R519). -/
def State.swarmDeadline (s : State) : State :=
  match s.conf.swarm with
  | none => s
  | some w =>
    if !w.applied || s.time64 < w.deadline || !s.up .comb then s
    else
      let s : State := { s with conf := { s.conf with swarm := none, past := some (w.mode, w.instant) } }
      let ms := (s.conf.slots.filter fun e => s.monitored e.1 && e.2.acked ≠ s.cfg 0x4820 0).map Prod.fst
      ms.foldl (fun s m =>
        let s := s.logEv .swarmUnack []
        let x := s.evalRow m 8 true
        x.1.act m x.2 0) s

/-- An acknowledgement arrives on a link (R518, R614): of the pending command, or of the fleet mode in force with instant 0. -/
def State.swarmAck (s : State) (m mode : Nat) (instant : Int) : State :=
  match s.conf.swarm with
  | some w =>
    if w.mode = mode && w.instant = instant then (if w.applied then s.setAcked m mode else s.setConf m fun x => { x with ackAhead := some mode })
    else s
  | none => if s.conf.past = some (mode, instant) && s.cfg 0x4820 0 = mode then s.setAcked m mode else s

/-- A system or chip reset removes a pending command (R520). -/
def State.swarmLost (s : State) : State :=
  match s.conf.swarm with
  | none => s
  | some _ => ({ s with conf := { s.conf with swarm := none } } : State).logEv .swarmLost []

/-- Monitored slots not on the pending or current mode. -/
def State.swarmUnacked (s : State) : Nat :=
  let ms := s.conf.slots.filter fun e => s.monitored e.1
  match s.conf.swarm with
  | some w => ms.countP fun e => if w.applied then e.2.acked ≠ w.mode else e.2.ackAhead ≠ some w.mode
  | none => ms.countP fun e => e.2.acked ≠ s.cfg 0x4820 0

/-- A reset of the Comb island: the monitor starts anew for the slots that stay connected. Operations in flight that firmware issues again
(Table 11.15) stay in the order they had; a reset of system reach or wider loses them. -/
def State.confReset (s : State) (wide : Bool) : State :=
  let ops := if wide then [] else s.conf.ops
  let on := (s.conf.slots.filter fun e => e.2.since.isSome).map Prod.fst
  let slots := s.conf.slots.map fun e => (e.1, { ConfSlot.reset with acked := e.2.acked, ackAhead := e.2.ackAhead })
  let s : State := { s with conf := { s.conf with ops := ops, rows := List.replicate 10 0, ignored := 0, slots := slots } }
  on.foldl (fun s m => s.startMonitor m) s

end Sys2Proof.Machine
end

