-- ==== Sys2Proof/Machine/RadioOps.lean ====
section
/-!
DEFINITION. Radio modems and the link controller: airtime, channels, joins, link events and replies, tokens, messages, beacons, waggles,
updates (12_radio_links.md R566 to R632; 11_conformance_stop_bath.md R544 to R550).
-/

namespace Sys2Proof.Machine

/-! ### Families of intervals (R588) -/

/-- An interval in 0.5 ms units belongs to a modem's family (R588). -/
def inFamily (hyper i : Nat) : Bool := i ≠ 0 && (List.range 10).any fun j => i * 2 ^ j = hyper

/-! ### Reservations (R588 to R591) -/

/-- A reservation in 25 µs units. -/
structure Resv where
  off : Nat
  len : Nat
  int : Nat
  deriving DecidableEq, Repr, Inhabited

/-- Two reservations of one family overlap in some recurrence. -/
def Resv.clash (a b : Resv) : Bool :=
  let i := min a.int b.int
  i = 0 || (a.off + i * (b.off / i + 1) - b.off) % i < b.len || (b.off + i * (a.off / i + 1) - a.off) % i < a.len

def beaconBytes (hb : Bool) : Nat := 28 + 40 + (if hb then 32 else 0)
def Mval.beaconResv (v : Mval) : Resv :=
  { off := v.bOffset, len := ceilDiv (frameNs v.half 0 (beaconBytes v.hb) + tIfs v.half + v.joinWin * v.joinLen * unitNs + v.guardNs) unitNs,
    int := v.bPeriod * 20 }
def Listen.resv (l : Listen) (v : Mval) : Resv := { off := l.offset, len := v.listenLen, int := l.period * 20 }

/-- The smallest offset below the interval at which a reservation is free. -/
def placeAt (others : List Resv) (len int : Nat) : Option Nat :=
  (List.range int).find? fun o => others.all fun r => !(Resv.clash { off := o, len := len, int := int } r)

/-! ### Link parameters (Table 12.8) -/

structure LinkPar where
  int   : Nat
  sup   : Nat
  lat   : Nat
  miss  : Nat
  hop   : Nat
  len   : Nat
  map   : Nat
  down  : Nat
  up    : Nat
  rate  : Nat
  deriving DecidableEq, Repr, Inhabited

def LinkPar.of (b : Bytes) : LinkPar :=
  { int := u b 0 2, sup := u b 2 2, lat := u b 4 1, miss := u b 5 1, hop := u b 6 1, len := u b 7 1, map := u b 8 6, down := u b 14 2,
    up := u b 16 2, rate := u b 18 1 }
def LinkPar.bytes (p : LinkPar) : Bytes :=
  leBytes 2 p.int ++ leBytes 2 p.sup ++ [byte p.lat, byte p.miss, byte p.hop, byte p.len] ++ leBytes 6 p.map ++ leBytes 2 p.down
    ++ leBytes 2 p.up ++ [byte p.rate, 0]

def Link.par (l : Link) : LinkPar := LinkPar.of l.params
def LinkPar.intNs (p : LinkPar) : Nat := p.int * halfMs
def LinkPar.resv (p : LinkPar) (off : Nat) : Resv := { off := off, len := p.len, int := p.int * 20 }

/-- up_max of a reservation length on a modem (R592). -/
def Mval.upMax (v : Mval) (len : Nat) : Nat :=
  frameFit v.half v.linkRate (len * unitNs - v.guardNs - tIfs v.half - frameNs v.half v.linkRate v.downMax)

def hops : List Nat := [5, 7, 11, 13, 17, 19, 23, 25, 29, 31, 35, 37, 41, 43]

/-- A block is valid on a modem (R592, R601, ranges of Table 12.8). -/
def Mval.parOk (v : Mval) (p : LinkPar) : Bool :=
  2 ≤ p.int && p.int ≤ 400 && inFamily v.hyper p.int && 1 ≤ p.sup && p.sup ≤ 3200 && hops.contains p.hop && 4 ≤ p.len && p.len ≤ 80
    && 64 ≤ v.upMax p.len && 2 * (p.lat + 1) * p.int * halfMs ≤ p.sup * 10 * ms

/-! ### Links -/

def State.link? (s : State) (m : Nat) : Option Link := Tbl.get? s.radio.links m
def State.setLink (s : State) (m : Nat) (f : Link → Link) : State := { s with radio := { s.radio with links := Tbl.upd s.radio.links m f } }
def State.linksOn (s : State) (k : Nat) : List (Nat × Link) := s.radio.links.filter fun e => e.2.modem = k
def State.connected (s : State) (m : Nat) : Bool :=
  match s.link? m with
  | some l => l.st = .connected
  | none => false

/-- Reservations of a link: its own, and until an UPDATE's instant the new one too (R616). -/
def Link.resvs (l : Link) : List Resv :=
  l.par.resv l.offset :: (match l.pend with
    | some x => [(LinkPar.of x.params).resv x.offset]
    | none => [])

/-- Reservations of a modem, its value and waggle offset given, links of some slots left out. -/
def State.resvs (s : State) (k : Nat) (v : Mval) (wag : Option Nat) (but : List Nat) : List Resv :=
  (if v.on then [v.beaconResv] else [])
    ++ (match wag with
        | some o => if v.on && v.wagInt ≠ 0 then [{ off := o, len := v.wagLen, int := v.wagInt * 20 }] else []
        | none => [])
    ++ ((s.modem k).listens.map fun l => l.resv v)
    ++ ((s.linksOn k).filter fun e => !but.contains e.1).flatMap fun e => e.2.resvs

def State.resvsNow (s : State) (k : Nat) (but : List Nat) : List Resv := s.resvs k (s.mvalNow k) (s.modem k).waggle but

/-- Capacity of a modem with a link of the given interval (R23). -/
def State.linkCap (s : State) (k : Nat) (but : List Nat) (int : Nat) : Nat :=
  if 400 ≤ int && ((s.linksOn k).filter fun e => !but.contains e.1).all (fun e => 400 ≤ e.2.par.int) then 256 else 128
def State.modemLinks (s : State) (k : Nat) : Nat := (s.linksOn k).length

/-- The channel entry of event n (R595). -/
def LinkPar.channel (p : LinkPar) (n : Nat) : Nat :=
  let u := (n + 1) * p.hop % 48
  let l := mapped p.map
  if bit p.map u then u else nth l (u % l.length)

/-- Anchor of event n on the radio timeline (R594). -/
def Link.anchor (l : Link) (n : Nat) : Int := l.first + ((n : Int) - l.base) * l.par.intNs

/-! ### The end of a link (R603, R602, R610) -/

/-- A stream-4 message ends with an outcome of R626 (Coil abort 0x052C_0100 plus the outcome). -/
def Ans.send (out : Nat) : Ans := Ans.no out (0x052C0100 + out)

/-- A link ends with a cause in the order of R603, sending END in its next event where a reason is given. Messages end with `a`. -/
def State.endLink (s : State) (m cause : Nat) (reason : Option Nat) (a : Ans) : State :=
  match s.link? m with
  | none => s
  | some l =>
    let fw := match reason with
      | some r => [(m, r, l)]
      | none => []
    let r := { s.radio with links := Tbl.del s.radio.links m, ended := wrap 32 (s.radio.ended + 1), farewells := s.radio.farewells ++ fw }
    let s : State := { s with radio := r, stop := { s.stop with frames := Tbl.del s.stop.frames m } }
    let s := l.msgs.foldl (fun s x => s.answer x.caller a) s
    if l.st = .connected then (s.stopMonitor m).logEv .linkEnd [byte cause] else s

/-- Supervision (R602). -/
def State.superviseLink (s : State) (m : Nat) : State :=
  match s.link? m with
  | none => s
  | some l => if s.up .radio && l.lastRx + l.par.sup * 10 * ms ≤ s.now then s.endLink m 0 none (Ans.send 0x16) else s

/-- 8 events have passed in JOINING (R603). -/
def State.joinTimeout (s : State) (m : Nat) : State :=
  match s.link? m with
  | none => s
  | some l => if s.up .radio && l.st = .joining && l.anchor 8 ≤ s.radioTime then s.endLink m 0 none (Ans.send 0x16) else s

/-! ### Updates (R616 to R620) -/

/-- The first event at least 8 events and 100 ms away (R616). -/
def State.updateInstant (s : State) (l : Link) : Nat :=
  let t := s.radioTime + 100000000
  let n := if t ≤ l.anchor l.next then l.next else l.next + ceilDiv (t - l.anchor l.next).toNat l.par.intNs
  max n (l.next + 8)

/-- The active channel entries. -/
def State.channels (s : State) : List Bytes := (List.range 48).map fun i => s.cfgB 0x2C02 (i + 1)

/-- Send an UPDATE of a link to new parameters and channel entries. -/
def State.sendUpdate (s : State) (m : Nat) (l : Link) (p : LinkPar) (chans : List Bytes) (instant offset : Nat) : State :=
  let e : Elem := { ty := 3, body := leBytes 2 instant ++ p.bytes, msg := none }
  s.setLink m fun _ => { l with pend := some { instant := instant, params := p.bytes, offset := offset, chans := chans }, queue := l.queue ++ [e] }

/-- The map of a link's modem and the active entries reach it as an UPDATE, or are held while one is pending (R586, R620). -/
def State.remapLink (s : State) (m : Nat) (l : Link) : State :=
  if l.pend.isSome then s.setLink m fun x => { x with held := true }
  else s.sendUpdate m { l with held := false } { l.par with map := (s.mval l.modem).map } s.channels (s.updateInstant l) l.offset

/-- The instant of a pending UPDATE has come (R617): the new parameters run from that event on. -/
def State.applyUpdate (s : State) (m : Nat) : State :=
  match s.link? m with
  | none => s
  | some l =>
    match l.pend with
    | none => s
    | some x =>
      if s.radioTime < l.anchor x.instant then s
      else
        let l' := { l with first := l.anchor x.instant, base := x.instant, params := x.params, offset := x.offset, chans := x.chans, pend := none }
        let s := s.setLink m fun _ => l'
        if l.held then s.remapLink m l' else s

/-- The offset of an event's anchor within an interval, in units. -/
def offsetIn (a : Int) (intUnits : Nat) : Nat := ((a.fdiv unitNs) % intUnits).toNat

/-- LinkParamRequest (R619). The new reservation begins at the old anchor of the instant's event. -/
def State.paramRequest (s : State) (m : Nat) (v : Bytes) : State × Option Ans :=
  match s.link? m with
  | none => (s, some (Ans.send 0x15))
  | some l =>
    let q := LinkPar.of v
    let mv := s.mvalNow l.modem
    let p := { l.par with int := q.int, sup := q.sup, lat := q.lat, len := q.len, up := mv.upMax q.len }
    let n := s.updateInstant l
    let off := offsetIn (l.anchor n) (q.int * 20)
    let zero := q.miss = 0 && q.hop = 0 && q.map = 0 && q.down = 0 && q.up = 0 && q.rate = 0 && u v 19 1 = 0
    match firstFail
      [(l.st = .connected, Ans.send 0x15), (l.pend.isNone && !l.held, Ans.state 0x052C000C), (zero && mv.parOk p, Ans.bad 0x052C0009),
       (400 ≤ q.int || s.modemLinks l.modem ≤ 128, Ans.state 0x052C000B),
       ((s.resvsNow l.modem [m]).all fun r => !(p.resv off).clash r, Ans.state 0x052C000A)] with
    | some a => (s, some a)
    | none => (s.sendUpdate m l p l.chans n off, some (Ans.done []))

/-! ### Tokens and stop frames (R544 to R550) -/

/-- The latest vote of a channel held at instant x, while it is valid: at most 25 µs old. -/
def StopBath.voteAt (b : StopBath) (chan x : Nat) : Option Vote :=
  match b.votes.find? fun v => v.chan = chan && v.at_ ≤ x with
  | some v => if x ≤ v.at_ + 25 * us then some v else none
  | none => none

/-- Whether instant x lies in the latest restart of an island. -/
def IslandRec.restartingAt (i : IslandRec) (x : Nat) : Bool :=
  if i.st = .restarting then decide (i.since ≤ x) else decide (i.since ≤ x && x < i.back)

/-- The instant at which the tokens of an event with anchor `a` are computed, with the votes used (R545): none while the island of a
channel, `ta` or `tb`, restarts (R80). -/
def StopBath.computeAt (b : StopBath) (ta tb : IslandRec) (a : Nat) : Option (Nat × Vote × Vote) :=
  let lo := a - 200 * us
  let hi := a - 20 * us
  let ends := [ta.back, tb.back].filter fun x => lo < x && x ≤ hi
  let xs := lo :: ends ++ ((b.votes.map Vote.at_).filter fun x => lo < x && x ≤ hi).reverse
  (sortBy (fun x y => decide (x ≤ y)) xs).findSome? fun x =>
    if ta.restartingAt x || tb.restartingAt x then none
    else match b.voteAt 0 x, b.voteAt 1 x with
      | some v, some w => some (x, v, w)
      | _, _ => none

def Vote.epoch (v : Vote) (m : Nat) : Nat := Tbl.getD v.epochs m 0

/-- A safelight token (R544). -/
def tokenOf (key : Bytes) (linkId event epoch : Nat) (go : Bool) : Bytes :=
  (Sha.hmac key (ascii "SLT1" ++ leBytes 4 linkId ++ leBytes 6 event ++ leBytes 4 epoch ++ [byte (b2n go)])).take 16

/-- stop_epoch and go of the token of an event (R546, R621). -/
def StopBath.tokenSays (b : StopBath) (ta tb : IslandRec) (m a : Nat) (joining : Bool) : Option (Nat × Bool) :=
  (b.computeAt ta tb a).map fun (x, v, w) =>
    let later := b.votes.any fun y => x < y.at_ && y.at_ ≤ a && !y.go.contains m
    let go := !joining && v.go.contains m && w.go.contains m && v.epoch m = w.epoch m && !later
    (max (v.epoch m) (w.epoch m), go)

def elemBytes (ty : Nat) (body : Bytes) : Bytes := [byte ty, 0] ++ leBytes 2 body.length ++ body
def Elem.bytes (e : Elem) : Bytes := elemBytes e.ty e.body

/-- Both channels' islands restart at once: no go token leaves then, for a stop source may be held at their gaskets (R68). -/
def State.bothRestarting (s : State) : Bool := (s.isl .timebase).st = .restarting && (s.isl .aon).st = .restarting

/-- SAFELIGHT of event n of a link with anchor at device instant a. While a controller-ID clash is present there is none, neither of go nor of
stop: R46 names every safelight token (DEDUCED, log entry 46). -/
def State.safelight (s : State) (m n a : Nat) (l : Link) : Bytes :=
  match s.stop.tokenSays (s.isl .timebase) (s.isl .aon) m a (l.st = .joining) with
  | some (ep, go) =>
    if s.clash.isSome || (go && s.bothRestarting) then []
    else elemBytes 1 (tokenOf l.tokenKey l.linkId n ep go ++ leBytes 4 ep ++ [byte (b2n go), 0, 0, 0])
  | none => []

/-- The lowest set bit of a 16-bit set. -/
def lowBit (v : Nat) : Nat := ((List.range 16).find? fun i => bit v i).getD 0xFF

/-- The latch that a stop frame names (R550): the first scope, then the lowest number. -/
def State.namedLatch (s : State) (m : Nat) : Option Latch :=
  let b := s.stop
  if b.latch .all ≠ 0 then some .all
  else match (List.range 28).find? fun z => b.latch (.zone z) ≠ 0 && b.member z m with
    | some z => some (.zone z)
    | none =>
      if b.latch (.group (s.stopGroup m)) ≠ 0 then some (.group (s.stopGroup m))
      else if b.latch (.machine m) ≠ 0 then some (.machine m) else none

/-- Body of a stop frame (Table 11.8). -/
def State.stopBody (s : State) (m : Nat) : Bytes :=
  let ep := max (Tbl.getD s.stop.a.epochs m 0) (Tbl.getD s.stop.b.epochs m 0)
  match s.namedLatch m with
  | none => leBytes 4 ep ++ [0, 0xFF] ++ zeros 6
  | some l =>
    let src := lowBit (s.stop.latch l)
    let reason := if 4 ≤ src && src ≤ 7 then Tbl.getD s.stop.reasons (reasonKey l src) 0 else 0
    leBytes 4 ep ++ [byte l.scope, byte src] ++ leBytes 2 l.target ++ leBytes 4 reason

/-- Whether the event with anchor `a` carries the slot's stop frame. -/
def State.stopFrameDue (s : State) (m a : Nat) : Bool :=
  match Tbl.get? s.stop.frames m with
  | some (n, t) => 0 < n && t + 150 * us ≤ a
  | none => false

/-- The stop frame of an event: the first is made, the next two repeat it (R550). -/
def State.takeStopFrame (s : State) (m a : Nat) : State × Bytes :=
  match Tbl.get? s.stop.frames m, s.link? m with
  | some (n, t), some l =>
    if s.stopFrameDue m a then
      let body := if n = 3 then s.stopBody m else l.stopBody
      let s := s.setLink m fun x => { x with stopBody := body }
      let fr := if n = 1 then Tbl.del s.stop.frames m else Tbl.put s.stop.frames m (n - 1, t)
      ({ s with stop := { s.stop with frames := fr } }, elemBytes 2 body)
    else (s, [])
  | _, _ => (s, [])

/-! ### Link events (R594 to R596, R621 to R623) -/

/-- Segments of the messages in flight that fit in `room` bytes, and the messages with what was sent. -/
def takeSegments : Nat → List DownMsg → List Elem × List DownMsg
  | _, [] => ([], [])
  | room, d :: t =>
    let left := d.data.length - d.off
    if left = 0 && d.begun then
      let r := takeSegments room t
      (r.1, d :: r.2)
    else if room < 12 || (room = 12 && 0 < left) then ([], d :: t)
    else
      let n := min left (room - 12)
      let e : Elem := { ty := 5, body := [4, 0] ++ leBytes 2 d.msg ++ leBytes 2 d.off ++ leBytes 2 d.data.length ++ slice d.data d.off n,
                        msg := if n = left then some d.msg else none }
      let r := if n = left then takeSegments (room - 12 - n) t else ([], t)
      (e :: r.1, { d with off := d.off + n, begun := true } :: r.2)

/-- Queued elements that fit. -/
def takeQueue : Nat → List Elem → List Elem × List Elem
  | _, [] => ([], [])
  | room, e :: t =>
    if e.bytes.length ≤ room then
      let r := takeQueue (room - e.bytes.length) t
      (e :: r.1, r.2)
    else ([], e :: t)

/-- The reliable elements of the next frame (R583): those not acknowledged again, else new ones that fit. -/
def Link.refill (l : Link) (room : Nat) : Link :=
  if l.sent ≠ [] then l
  else
    let a := takeQueue room l.queue
    let used := (a.1.map fun e => e.bytes.length).sum
    let b := if a.2 = [] then takeSegments (room - used) l.msgs else ([], l.msgs)
    { l with sent := a.1 ++ b.1, queue := a.2, msgs := b.2 }

/-! ### Frames (R573, R574) -/

/-- Header (Table 12.3). -/
def frameHead (ftype flags len id counter event : Nat) : Bytes :=
  [byte ftype, byte flags] ++ leBytes 2 len ++ leBytes 4 id ++ leBytes 5 counter ++ leBytes 2 event ++ [0]

/-- Nonce: id, direction, counter (R574). -/
def frameNonce (ftype id counter : Nat) : Bytes := leBytes 4 id ++ [byte (ftype / 16 - 1)] ++ leBytes 5 counter ++ zeros 3

/-- A beacon carries its payload in clear, as additional data; every other frame encrypts it. -/
def clearFrame (ftype : Nat) : Bool := ftype / 16 = 3
def framePayload (f : RadioFrame) : Bytes := if clearFrame f.ftype then f.body.aad.drop 16 else f.body.plain
def frameHeader (f : RadioFrame) : Bytes := frameHead f.ftype f.flags (framePayload f).length f.id f.counter f.event
def frameAad (f : RadioFrame) : Bytes := frameHeader f ++ (if clearFrame f.ftype then framePayload f else [])

/-- A frame of the device. -/
def devFrame (ftype flags id counter event : Nat) (key payload : Bytes) : RadioFrame :=
  let h := frameHead ftype flags payload.length id counter event
  { ftype := ftype, flags := flags, id := id, counter := counter, event := event, fcsGood := true,
    body := { key := key, nonce := frameNonce ftype id counter, aad := h ++ (if clearFrame ftype then payload else []),
              plain := if clearFrame ftype then [] else payload, intact := true } }

/-- The bytes of a frame: header, payload, MIC, FCS. -/
def frameBytes (f : RadioFrame) : Bytes :=
  let b := f.body
  let sealed_ := ccmSeal b.key b.nonce b.aad b.plain
  let x := frameHeader f ++ (if clearFrame f.ftype then framePayload f else []) ++ sealed_
  x ++ leBytes 4 (crc32 x)

/-- A frame leaves on a channel entry, its first sample at instant `a`, for `ns` (R572). -/
def State.transmit (s : State) (k chan : Nat) (a : Int) (ns : Nat) (f : RadioFrame) : State :=
  (s.rfOn k true (a - 2000) (a + ns + 1000)).emit (.radio k chan f (frameBytes f))

/-- Event number whose anchor is now: no later than 100 µs ago, at or after the next. -/
def State.eventNow (s : State) (l : Link) : Option Nat :=
  let d := s.radioTime - l.anchor l.next
  if d < 0 then none
  else
    let n := l.next + d.toNat / l.par.intNs
    if s.radioTime - l.anchor n ≤ 100000 then some n else none

/-- A reply that did not come before the next event counts (Tables 12.19, 19.12). -/
def State.missReply (s : State) (m : Nat) (l : Link) : State :=
  if l.awaiting.isSome then (s.setLink m fun x => { x with awaiting := none, noReply := wrap 32 (x.noReply + 1) }).count 0x0D l.modem 1 else s

/-- The tune word of event n of a link, with anchor at device instant `a` (R571, R595). -/
def State.eventTune (s : State) (l : Link) (n : Nat) (a : Int) : State :=
  s.tuneTo l.modem (l.chans.getD (l.par.channel n) []) (a - (s.mvalNow l.modem).guardNs)

/-- The frame of event n of a link is made and sent (R571, R572, Table 12.9). -/
def State.sendEvent (s : State) (m n : Nat) (l : Link) : State :=
  let a := (s.now : Int) - (s.radioTime - l.anchor n)
  let sf := s.safelight m n a.toNat l
  let st := s.takeStopFrame m a.toNat
  let s := st.1
  match s.link? m with
  | none => s
  | some l =>
    let head := sf ++ st.2
    let l := l.refill (l.par.down - 28 - head.length)
    let plain := head ++ l.sent.flatMap Elem.bytes
    let f := devFrame 0x11 (b2n l.sn + 2 * b2n l.nesn) l.linkId (l.txCount + 1) (n % 65536) l.linkKey plain
    let v := s.mvalNow l.modem
    let ns := frameNs v.half v.linkRate (28 + plain.length)
    let s := s.setLink m fun _ => { l with txCount := l.txCount + 1, awaiting := some (a.toNat + ns) }
    let s := (s.eventTune l n a).transmit l.modem (l.par.channel n) a ns f
    (s.rfOn l.modem false (a + ns + 1000) (a + (l.par.len * unitNs : Nat) - v.guardNs)).count 0x0C l.modem 1

/-- The END of an ended link goes out in its next event. -/
def State.sendFarewell (s : State) (m : Nat) : State :=
  match s.radio.farewells.find? fun x => x.1 = m && (s.eventNow x.2.2).isSome with
  | none => s
  | some (_, reason, l) =>
    let s : State := { s with radio := { s.radio with farewells := s.radio.farewells.filter fun x => x ≠ (m, reason, l) } }
    match s.eventNow l with
    | none => s
    | some n =>
      if l.keyOk && l.txCount + 1 < 2 ^ 40 then
        let plain := (l.sent ++ ([{ ty := 6, body := [byte reason], msg := none }] : List Elem)).flatMap Elem.bytes
        let a := (s.now : Int) - (s.radioTime - l.anchor n)
        let v := s.mvalNow l.modem
        let f := devFrame 0x11 (b2n l.sn + 2 * b2n l.nesn) l.linkId (l.txCount + 1) (n % 65536) l.linkKey plain
        ((s.eventTune l n a).transmit l.modem (l.par.channel n) a (frameNs v.half v.linkRate (28 + plain.length)) f).count 0x0C l.modem 1
      else s

/-- A link's anchor (R596, R577, R627, R629). -/
def State.linkEvent (s : State) (m : Nat) : State :=
  if !s.up .radio then s
  else
    let s := (s.sendFarewell m).applyUpdate m
    match s.link? m with
    | none => s
    | some l =>
      match s.eventNow l with
      | none => s
      | some n =>
        let s := s.missReply m l
        let s := s.setLink m fun x => { x with next := n + 1, events := wrap 32 (x.events + (n + 1 - l.next)) }
        if !l.keyOk then s
        else if 2 ^ 40 ≤ l.txCount + 1 then s.endLink m 5 (some 3) (Ans.send 0x16)
        else match s.link? m with
          | some l => s.sendEvent m n l
          | none => s

/-! ### Replies (R599, R579 to R583, R624, R625) -/

/-- Elements of a payload; none where one overruns it (R580, R581). -/
def parseElems : Nat → Bytes → Option (List (Nat × Bytes))
  | 0, _ => none
  | fuel + 1, b =>
    if b = [] then some []
    else if b.length < 4 || b.length < 4 + u b 2 2 then none
    else (parseElems fuel (b.drop (4 + u b 2 2))).map fun t => (u b 0 1, slice b 4 (u b 2 2)) :: t

def streamLimit (stream : Nat) : Nat := if stream = 1 then 1072 else if stream = 2 then 57352 else 4096
def State.streamQueue (s : State) (stream : Nat) : Nat :=
  if stream = 1 then s.cfg 0x3801 0 else if stream = 2 then s.cfg 0x3400 0 else s.cfg 0x2C10 0

/-- Arrival header (Table 8.3). -/
def State.arrivalHeader (s : State) (m modem : Nat) : Bytes := leInt 8 s.time64 ++ leBytes 2 m ++ [byte modem, 0] ++ leBytes 4 (s.machineId m)

/-- One segment (R624, R625): the state after it, or none where a complete message could not be posted. -/
def State.takeSegment (s : State) (m : Nat) (b : Bytes) : Option State :=
  match s.link? m with
  | none => some s
  | some l =>
    let stream := u b 0 1
    let msg := u b 2 2; let off := u b 4 2; let total := u b 6 2
    let data := b.drop 8
    if b.length < 8 || stream = 0 || 3 < stream then some s
    else
      let old := Tbl.get? l.partials stream
      let start : Option Bytes :=
        if off = 0 then some []
        else match old with
          | some p => if p.msg = msg && p.total = total && p.data.length = off then some p.data else none
          | none => none
      let drop (s : State) : State :=
        (let s : State := { s with radio := { s.radio with dropped := wrap 32 (s.radio.dropped + 1) } }
        s.setLink m fun x => { x with partials := Tbl.del x.partials stream })
      match start with
      | none => some (drop s)
      | some d =>
        let d := d ++ data
        if streamLimit stream < total || total < d.length then some (drop s)
        else if d.length = total then
          let s := s.setLink m fun x => { x with partials := Tbl.del x.partials stream }
          s.post? (s.streamQueue stream) (s.arrivalHeader m l.modem ++ d)
        else some (s.setLink m fun x => { x with partials := Tbl.put x.partials stream { msg := msg, total := total, data := d } })

/-- The segments of a frame in order. -/
def State.takeSegmentsIn (s : State) (m : Nat) : List (Nat × Bytes) → Option State
  | [] => some s
  | (ty, b) :: t =>
    if ty = 5 then
      match s.takeSegment m b with
      | some s' => s'.takeSegmentsIn m t
      | none => none
    else s.takeSegmentsIn m t

/-- SWARM_ACKs of a frame: mode and instant. -/
def acksOf (es : List (Nat × Bytes)) : List (Nat × Int) := es.filterMap fun e => if e.1 = 4 && e.2.length = 12 then some (u e.2 0 1, si e.2 4 8) else none

/-- The first frame that acknowledges the fleet mode, and the command given at joining, connects the link (R611). -/
def State.tryConnect (s : State) (m : Nat) (acks : List (Nat × Int)) : State :=
  match s.link? m with
  | none => s
  | some l =>
    let fleet := s.cfg 0x4820 0
    let given := allZero l.swarm || acks.contains (u l.swarm 0 1, si l.swarm 4 8)
    if l.st = .joining && acks.contains (fleet, 0) && given then
      ((s.setLink m fun x => { x with st := .connected }).startMonitor m).setAcked m fleet
    else s

/-- The reliable elements of an accepted frame take effect, or none does. -/
def State.takeElems (s : State) (m : Nat) (es : List (Nat × Bytes)) : State × Bool :=
  match s.takeSegmentsIn m es with
  | none => (s, false)
  | some s =>
    let s := s.tryConnect m (acksOf es)
    let s := if s.connected m then (acksOf es).foldl (fun s a => s.swarmAck m a.1 a.2) s else s
    (s, true)

/-- Acknowledged elements: the messages whose last segment they held are DONE (R583, R626). -/
def State.ackSent (s : State) (m : Nat) (l : Link) : State :=
  let done := l.sent.filterMap Elem.msg
  let gone := l.msgs.filter fun x => done.contains x.msg
  let s := s.setLink m fun x => { x with sent := [], sn := !x.sn, msgs := x.msgs.filter fun y => !done.contains y.msg }
  gone.foldl (fun s x => s.answer x.caller (Ans.done [])) s

/-- Counts of a frame that fails its MIC, or its replay check (R579). -/
def State.micFail (s : State) (m : Option Nat) : State :=
  let s : State := { s with radio := { s.radio with micFails := wrap 32 (s.radio.micFails + 1) } }
  match m with
  | some m => s.setLink m fun x => { x with micFails := wrap 32 (x.micFails + 1) }
  | none => s
def State.replayDrop (s : State) (m : Option Nat) : State :=
  let s : State := { s with radio := { s.radio with replayDrops := wrap 32 (s.radio.replayDrops + 1) } }
  match m with
  | some m => s.setLink m fun x => { x with replays := wrap 32 (x.replays + 1) }
  | none => s

/-- The MIC of a frame verifies under a key (R574). -/
def micOk (f : RadioFrame) (key : Bytes) : Bool :=
  f.body.intact && f.body.key = key && f.body.nonce = frameNonce f.ftype f.id f.counter && f.body.aad = frameAad f

/-- An accepted machine frame. -/
def State.acceptReply (s : State) (m : Nat) (l : Link) (f : RadioFrame) (es : List (Nat × Bytes)) (rssi : Int) : State :=
  let s := s.setLink m fun x => { x with rxHigh := f.counter, lastRx := s.now, awaiting := none, rssi := satInt 8 rssi }
  let s := if bit f.flags 1 ≠ l.sn then s.ackSent m l else s
  if bit f.flags 0 = l.nesn then
    let r := s.takeElems m es
    let s := if r.2 then r.1.setLink m fun x => { x with nesn := !x.nesn } else r.1
    if r.2 && es.any fun e => e.1 = 6 then s.endLink m 1 none (Ans.send 0x16) else s
  else s

/-- A machine reply is received (R599, R577, R579, R581). -/
def State.linkReply (s : State) (m : Nat) (f : RadioFrame) (offset rssi : Int) : State :=
  match s.link? m with
  | none => s
  | some l =>
    let ifs : Int := tIfs (s.mvalNow l.modem).half
    if !s.up .radio || l.awaiting.isNone || !l.keyOk || !f.fcsGood || f.ftype ≠ 0x21 || f.id ≠ l.linkId || offset < ifs - 2000 || ifs + 10000 < offset then s
    else if !micOk f l.linkKey then s.micFail (some m)
    else if f.counter ≤ l.rxHigh then s.replayDrop (some m)
    else match parseElems ((framePayload f).length + 1) (framePayload f) with
      | none => s
      | some es => s.acceptReply m l f es rssi

/-! ### Beacons and waggles (R604, R605, R612, R613) -/

/-- A recurrence of offset `off` and interval `int` (units) begins now, at most 50 µs ago. -/
def State.recurs (s : State) (off int : Nat) : Bool := int ≠ 0 && (s.radioTime - off * unitNs) % (int * unitNs : Nat) ≤ 50000

/-- Broadcast id of a modem (Table 12.3). -/
def broadcastId (controller modem : Nat) : Nat := 0x80000000 + 8 * controller + modem

/-- Links a modem can still admit at its longest interval. -/
def State.freeLinks (s : State) (k : Nat) : Nat := s.linkCap k [] (s.mvalNow k).hyper - s.modemLinks k

/-- Beacon payload (Table 12.11). -/
def State.beaconPayload (s : State) (k : Nat) (v : Mval) (hb : Bytes) : Bytes :=
  leBytes 2 s.controllerId ++ [byte k, byte (b2n (v.joinWin ≠ 0) + 2 * b2n (hb ≠ []) + 4 * b2n v.half)] ++ leBytes 2 (s.freeLinks k)
    ++ leBytes 2 (s.cfg 0x2C08 0) ++ leInt 8 s.time64 ++ leBytes 2 v.bPeriod ++ [byte v.joinWin, byte v.joinLen] ++ leBytes 2 v.wagInt
    ++ leBytes 2 ((s.modem k).waggle.getD 0) ++ leBytes 6 v.map ++ [byte v.linkRate, 0] ++ s.siteDigestNow ++ hb

/-- The device instant at which the present recurrence of an offset began. -/
def State.recurAt (s : State) (off int : Nat) : Int := s.now - (s.radioTime - off * unitNs) % (int * unitNs : Nat)

/-- A broadcast frame with the modem's next counter, on the beacon channel from instant `a` on (R571, R576). -/
def State.broadcast (s : State) (k ftype rate : Nat) (a : Int) (key payload : Bytes) : State :=
  let c := (s.modem k).counter + 1
  let v := s.mvalNow k
  let s := (s.setModem k fun m => { m with counter := c }).tuneTo k (s.modem k).entry (a - v.guardNs)
  (s.transmit k v.bChan a (frameNs v.half rate (28 + payload.length)) (devFrame ftype 0 (broadcastId s.controllerId k) c 0 key payload)).count 0x0C k 1

/-- Each join window after a beacon is received in (R572, R607). -/
def State.joinOpen (s : State) (k : Nat) (a : Int) (bytes : Nat) : State :=
  let v := s.mvalNow k
  if v.joinWin = 0 then s
  else
    let first := a + (frameNs v.half 0 bytes + tIfs v.half : Nat)
    s.rfOn k false first (first + (v.joinWin * v.joinLen * unitNs : Nat))

/-- A beacon falls due (R604, R605). Without a usable beacon key no MIC can be made, and none is sent; while the Comb is down there is no
heartbeat to carry. -/
def State.sendBeacon (s : State) (k : Nat) : State :=
  let v := s.mvalNow k
  match s.keyFor (s.cfg 0x2C0B 0) 4 with
  | none => s
  | some key =>
    if s.up .radio && s.modemOn k && s.recurs v.bOffset (v.bPeriod * 20) then
      let a := s.recurAt v.bOffset (v.bPeriod * 20)
      let p := s.time64.fdiv s.hbPeriodNs
      if v.hb && s.up .comb && (s.modem k).hbPeriod ≠ some p then
        let x := s.heartbeat s.time64
        let s := x.1.setModem k fun m => { m with hbPeriod := some p }
        (s.broadcast k 0x31 0 a key (s.beaconPayload k v x.2)).joinOpen k a 100
      else (s.broadcast k 0x31 0 a key (s.beaconPayload k v [])).joinOpen k a 68
    else s

/-- Elements in order up to the first that does not fit. -/
def fitElems : Nat → List (Nat × Bytes) → List (Nat × Bytes)
  | _, [] => []
  | room, (tag, b) :: t => if b.length ≤ room then (tag, b) :: fitElems (room - b.length) t else []

/-- A FLEET message has been sent on a modem once more; it is DONE when no modem has repeats left (R615). -/
def State.waggleSent (s : State) (k id : Nat) : State :=
  let s := s.setModem k fun m => { m with msgs := (m.msgs.map fun x => if x.1 = id then (id, x.2 - 1) else x).filter fun x => x.2 ≠ 0 }
  if s.radio.modems.any fun m => m.msgs.any fun x => x.1 = id then s
  else match Tbl.get? s.radio.waggles id with
    | some w => (({ s with radio := { s.radio with waggles := Tbl.del s.radio.waggles id } } : State)).answer w.caller (Ans.done [])
    | none => s

/-- A waggle falls due (R613). -/
def State.sendWaggle (s : State) (k : Nat) : State :=
  let v := s.mvalNow k
  match s.keyFor (s.cfg 0x2C0A 0) 3, (s.modem k).waggle with
  | some key, some off =>
    if s.up .radio && s.modemOn k && v.wagInt ≠ 0 && s.recurs off (v.wagInt * 20) then
      let room := frameFit v.half v.wagRate (v.wagLen * unitNs - v.guardNs) - 28
      let swarm := match s.conf.swarm with
        | some w => [(0, elemBytes 7 w.announce)]
        | none => []
      let rtcm := (s.modem k).rtcm.map fun b => (1, elemBytes 8 b)
      let fleet := (s.modem k).msgs.filterMap fun x => (Tbl.get? s.radio.waggles x.1).map fun w => (2 + x.1, elemBytes 9 w.body)
      let sent := fitElems room (swarm ++ rtcm ++ fleet)
      if sent = [] then s
      else
        let s := s.setModem k fun m => { m with rtcm := m.rtcm.drop (sent.countP fun e => e.1 = 1) }
        let s := s.broadcast k 0x41 v.wagRate (s.recurAt off (v.wagInt * 20)) key (sent.flatMap Prod.snd)
        (sent.filter fun e => 2 ≤ e.1).foldl (fun s e => s.waggleSent k (e.1 - 2)) s
    else s
  | _, _ => s

/-! ### Joining (R607 to R611, R591, R593) -/

/-- The slot that holds a machine ID. -/
def State.slotOf (s : State) (id : Nat) : Option Nat :=
  if id = 0xFFFFFFFF then none else (List.range s.tier).find? fun m => s.machineId m = id

/-- The interval a join gets (R593): the one asked for, RadioJoinInterval, or the longest of the family not above that. -/
def State.joinInterval (s : State) (v : Mval) (req : Nat) : Nat :=
  let ok (i : Nat) : Bool := 2 ≤ i && i ≤ 400 && inFamily v.hyper i
  let dflt := s.cfg 0x2C0D 0
  if ok req then req
  else if ok dflt then dflt
  else
    let all := ((List.range 10).map fun j => v.hyper / 2 ^ j).filter ok
    match all.find? fun i => i ≤ dflt with
    | some i => i
    | none => all.getLast?.getD v.hyper

/-- The least reservation from RadioJoinReserve on that gives the reply bytes asked for. -/
def State.joinReserve (s : State) (v : Mval) (up : Nat) : Option Nat :=
  (span (s.cfg 0x2C0F 0) (81 - s.cfg 0x2C0F 0)).find? fun l => max 64 up ≤ v.upMax l

def State.joinPar (s : State) (m : Nat) (v : Mval) (int len hop : Nat) : LinkPar :=
  { int := int, sup := max (s.cfg 0x2C0E 0) (ceilDiv (2 * int * halfMs) (10 * ms)), lat := 0, miss := s.mach m 0x43, hop := hop, len := len,
    map := v.map, down := v.downMax, up := v.upMax len, rate := v.linkRate + 8 * b2n v.half }

/-- Status 1 to 3 of a join, or the slot, interval, reservation length and offset it gets. -/
def State.joinStatus (s : State) (k : Nat) (v : Mval) (id intReq upReq : Nat) : Nat × Nat × Nat × Nat × Nat :=
  match s.slotOf id with
  | none => (1, 0, 0, 0, 0)
  | some m =>
    let int := s.joinInterval v intReq
    let others := (s.linksOn k).countP fun e => e.1 ≠ m
    if s.linkCap k [m] int ≤ others then (2, 0, 0, 0, 0)
    else match s.joinReserve v upReq with
      | none => (3, 0, 0, 0, 0)
      | some len =>
        match placeAt (s.resvsNow k [m]) len (int * 20) with
        | some o => (0, m, int, len, o)
        | none => (3, 0, 0, 0, 0)

def State.pendingAnnounce (s : State) : Bytes :=
  match s.conf.swarm with
  | some w => w.announce
  | none => zeros 20

/-- Send a join response, T_IFS after the request's end, on the beacon channel. -/
def State.joinRespond (s : State) (k id counter : Nat) (key plain : Bytes) : State :=
  let v := s.mvalNow k
  s.transmit k v.bChan ((s.now : Int) + tIfs v.half) (frameNs v.half 0 (28 + plain.length)) (devFrame 0x61 0 id counter 0 key plain)

/-- The first instant, `lead` ns from now or later, on an offset. -/
def State.anchorAfter (s : State) (lead off int : Nat) : Int :=
  let t := s.radioTime + lead
  let p : Int := (int * unitNs : Nat)
  t + ((off * unitNs : Nat) - t) % p

/-- An accepted join: an earlier link of the slot is replaced, the new one stands in JOINING (R609, R610). -/
def State.joinAccept (s : State) (k m id counter int len off : Nat) (key mach : Bytes) : State :=
  let s := if (s.link? m).isSome then (s.endLink m 4 (some 2) (Ans.send 0x16)).logEv .linkReplaced [] else s
  let v := s.mvalNow k
  let d1 := s.draw
  let d2 := d1.1.draw
  let d3 := d2.1.drawBytes 16
  let s := d3.1
  let linkId := d1.2 % (2 ^ 31 - 1) + 1
  let par := s.joinPar m v int len (nth hops (d2.2 % 14))
  let first := s.anchorAfter (tIfs v.half + frameNs v.half 0 104 + 10 * ms) off (int * 20)
  let bits := s.cfg 0x2C0C 0
  let ks := linkKeys key bits linkId mach d3.2
  let js := s.cfg 0x2C09 0
  let l : Link :=
    { st := .joining, modem := k, linkId := linkId, first := first, base := 0, next := 0, params := par.bytes, offset := off, chans := s.channels, pend := none,
      held := false, txCount := 0, rxHigh := 0, sn := false, nesn := false, sent := [], queue := [], linkKey := ks.1, tokenKey := ks.2,
      keyOk := true, joinSlot := js, joinGen := (s.keySlot js).gen, lastRx := (s.now : Int).toNat + (first - s.radioTime).toNat,
      awaiting := none, swarm := s.pendingAnnounce, stopBody := [], partials := [], msgs := [], msgNext := 0, events := 0, noReply := 0,
      micFails := 0, replays := 0, rssi := -128 }
  let s : State := { s with radio := { s.radio with links := Tbl.put s.radio.links m l } }
  let plain := [0, 0] ++ leBytes 2 m ++ leBytes 4 linkId ++ leInt 8 (first + s.tb.stepped) ++ par.bytes ++ d3.2 ++ [byte (s.cfg 0x4820 0), 0, 0, 0]
    ++ s.pendingAnnounce
  s.joinRespond k id counter key plain

/-- A join request (R608). Without a usable join key its MIC cannot verify. -/
def State.joinRequest (s : State) (k : Nat) (f : RadioFrame) : State :=
  let v := s.mvalNow k
  if !s.up .radio || !s.modemOn k || v.joinWin = 0 || !f.fcsGood || f.ftype ≠ 0x51 then s
  else if s.gone .security then s.logEv .linkJoinAbsent []
  else match s.keyFor (s.cfg 0x2C09 0) 2 with
    | none => s.micFail none
    | some fleet =>
      let key := joinKey fleet f.id
      let p := framePayload f
      if !micOk f key then s.micFail none
      else
        let slot := s.slotOf f.id
        let low := match slot with
          | some m => s.cfg (0x7000 + m) 2
          | none => 0
        if slot.isSome && f.counter ≤ low then s.replayDrop none
        else if p.length ≠ 24 || u p 16 2 = 0 || 500 < u p 16 2 || u p 22 2 ≠ 0 then s
        else
          let s := match slot with
            | some m => s.setVal (key' m) (leBytes 8 f.counter)
            | none => s
          let x := s.joinStatus k v f.id (u p 18 2) (u p 20 2)
          if x.1 = 0 then s.joinAccept k x.2.1 f.id f.counter x.2.2.1 x.2.2.2.1 x.2.2.2.2 key (p.take 16)
          else
            let s : State := { s with radio := { s.radio with joinRefused := wrap 32 (s.radio.joinRefused + 1) } }
            s.joinRespond k f.id f.counter key (byte x.1 :: zeros 75)
where
  key' (m : Nat) : Nat := Machine.key (0x7000 + m) 2

/-! ### A neighbour's beacon (R578, R606) -/

/-- The replay window takes a counter (R578); none where it drops it. -/
def ReplayWin.take (w : Option ReplayWin) (c : Nat) : Option ReplayWin :=
  match w with
  | none => some { high := c, seen := [] }
  | some w =>
    if w.high < c then some { high := c, seen := (w.high :: w.seen).filter fun x => c ≤ x + 64 }
    else if c = w.high || c + 64 < w.high || w.seen.contains c then none
    else some { w with seen := c :: w.seen }

/-- A neighbour's beacon is heard on a listen. -/
def State.nbrBeacon (s : State) (k n : Nat) (f : RadioFrame) : State :=
  let listening := (s.modem k).listens.any fun l => l.nbr = n
  let p := framePayload f
  if !s.up .radio || !s.modemOn k || !listening || !s.nbrPresent n || !f.fcsGood || f.ftype ≠ 0x31
      || !((List.range 8).any fun j => f.id = broadcastId (s.nbrId n) j || f.id = broadcastId s.controllerId j) then s
  else match s.keyFor (s.cfg 0x2C0B 0) 4 with
    | none => s.micFail none
    | some key =>
      if !micOk f key then s.micFail none
      else match ReplayWin.take (Tbl.get? s.radio.wins f.id) f.counter with
        | none => s.replayDrop none
        | some w =>
          let s : State := { s with radio := { s.radio with wins := Tbl.put s.radio.wins f.id w } }
          let hb : Bool := p.length = 72 && bit (u p 3 1) 1
          if hb && u p 0 2 = s.controllerId then s.clashHeard
          else if hb && u p 0 2 = s.nbrId n && s.up .comb then s.hbReceived n (p.drop 40) false else s

/-! ### Ports (R615, R626) -/

/-- RadioSendPort. -/
def State.radioSend (s : State) (c : Caller) (req : Bytes) : State × Option Ans :=
  let m := u req 0 2
  if req.length < 4 || 4100 < req.length || u req 2 2 ≠ 0 || 1024 ≤ m then (s, some (Ans.send 0x14))
  else match s.link? m with
    | none => (s, some (Ans.send 0x15))
    | some l =>
      if l.st ≠ .connected || s.tier ≤ m then (s, some (Ans.send 0x15))
      else if 4 ≤ l.msgs.length then (s, some (Ans.no 0x50 0x052C0150))
      else
        let d : DownMsg := { msg := l.msgNext, caller := c, data := req.drop 4, off := 0, begun := false }
        (s.setLink m fun x => { x with msgs := x.msgs ++ [d], msgNext := wrap 16 (x.msgNext + 1) }, none)

/-- RadioWagglePort. A mask that names no modem is done at once. -/
def State.radioWaggle (s : State) (c : Caller) (req : Bytes) : State × Option Ans :=
  let mask := u req 0 1; let rep := u req 1 1
  let ks := (List.range 8).filter fun k => bit mask k
  if req.length < 4 || 1028 < req.length || rep = 0 || 8 < rep || u req 2 2 ≠ 0 then (s, some Ans.invalid)
  else if ks.any fun k => !s.hasModem k then (s, some Ans.absent)
  else if ks.any fun k => 16 ≤ (s.modem k).msgs.length then (s, some (Ans.no 0x50 0x052C0150))
  else if ks = [] then (s, some (Ans.done []))
  else
    let id := s.radio.waggleNext
    let r := { s.radio with waggles := Tbl.put s.radio.waggles id { caller := c, body := req.drop 4 }, waggleNext := id + 1 }
    (ks.foldl (fun s k => s.setModem k fun m => { m with msgs := m.msgs ++ [(id, rep)] }) { s with radio := r }, none)

/-! ### The radio group and listens (R584 to R586, R606) -/

/-- Rule 1: a channel entry. -/
def chanBad (b : Bytes) : Bool := (chanEmpty b && u b 8 1 ≠ 0) || 63 < u b 9 1 || 3 < u b 8 1 || u b 10 2 ≠ 0

/-- Rule 4: fields of a modem value (Table 12.6, R588). -/
def Mval.fieldsBad (v : Mval) : Bool :=
  7 < v.flags || 7 < v.linkRate || 7 < v.wagRate || v.guard < 12 || 100 < v.guard || v.hyper < 2 || 400 < v.hyper || v.bPeriod * 20 ≤ v.bOffset
    || 47 < v.bChan || 4 < v.joinWin || v.joinLen < 12 || 40 < v.joinLen || v.downMax < 64 || 2047 < v.downMax || !inFamily v.hyper v.bPeriod
    || (v.wagInt ≠ 0 && !inFamily v.hyper v.wagInt)

/-- Rule 5. -/
def Mval.waggleShort (v : Mval) : Bool := v.wagInt ≠ 0 && v.wagLen * unitNs < frameNs v.half v.wagRate 1128 + v.guardNs

/-- Rule 6: a change that a modem with links does not take. -/
def Mval.busyChange (a b : Mval) : Bool :=
  a.half ≠ b.half || a.linkRate ≠ b.linkRate || a.guard ≠ b.guard || a.hyper ≠ b.hyper || a.downMax ≠ b.downMax || a.bChan ≠ b.bChan || (a.on && !b.on)

/-- The waggle's place beside beacon, listens and links. -/
def State.wagglePlace (s : State) (k : Nat) (v : Mval) : Option Nat :=
  if v.on && v.wagInt ≠ 0 then placeAt (s.resvs k v none []) v.wagLen (v.wagInt * 20) else none

/-- No two reservations of a list overlap. -/
def resvsFree : List Resv → Bool
  | [] => true
  | r :: t => t.all (fun x => !r.clash x) && resvsFree t

/-- Rule 7. -/
def State.airtimeBad (s : State) (k : Nat) (v : Mval) : Bool :=
  v.on && (!resvsFree (v.beaconResv :: (s.modem k).listens.map fun l => l.resv v)
    || (s.resvs k v none []).any (fun r => r ≠ v.beaconResv && v.beaconResv.clash r)
    || (v.wagInt ≠ 0 && (s.wagglePlace k v).isNone))

/-- The rules of Table 12.7, on the modems there are (R40). -/
def State.radioCheck (s : State) : Option Ans :=
  let ch (i : Nat) : Bytes := s.cfgB 0x2C01 (i + 1)
  let vs := ((List.range 8).filter s.hasModem).map fun k => (k, Mval.of (s.cfgB 0x2C03 (k + 1)))
  let on := vs.filter fun x => x.2.on
  firstFail
    [((List.range 48).all fun i => !chanBad (ch i), Ans.bad 0x052C0001),
     (on.all fun x => 2 ≤ (mapped x.2.map).length && (mapped x.2.map).all (fun i => !chanEmpty (ch i) && bit (u (ch i) 8 1) 0), Ans.bad 0x052C0002),
     (on.all fun x => !chanEmpty (ch x.2.bChan) && bit (u (ch x.2.bChan) 8 1) 1, Ans.bad 0x052C0003),
     (vs.all fun x => !x.2.fieldsBad, Ans.bad 0x052C0004), (vs.all fun x => !x.2.waggleShort, Ans.bad 0x052C0005),
     (vs.all fun x => s.linksOn x.1 = [] || !(s.mval x.1).busyChange x.2, Ans.state 0x052C0006),
     (vs.all fun x => !s.airtimeBad x.1 x.2, Ans.state 0x052C0007)]

/-- A radio commit takes effect (R586): links whose map or channel entries changed get an UPDATE, placements follow at the next
hyperperiod boundary. -/
def State.radioCommitted (s : State) : State :=
  let oldCh := (List.range 48).map fun i => s.cfgB 0x2C02 (i + 1)
  let oldMap := (List.range 8).map fun k => (s.mval k).map
  let s := s.applyGroup 0x2C00
  let chg := (List.range 48).filter fun i => s.cfgB 0x2C02 (i + 1) ≠ oldCh.getD i []
  let s := s.radio.links.foldl (fun s e =>
    let k := e.2.modem
    if (s.mval k).map ≠ nth oldMap k || chg.any (fun i => bit e.2.par.map i) then
      (match s.link? e.1 with
      | some l => s.remapLink e.1 l
      | none => s)
    else s) s
  { s with radio := { s.radio with modems := s.radio.modems.map fun m => { m with replan := true } } }

/-- The hyperperiod boundary after a commit: placements are made anew. -/
def State.replanModem (s : State) (k : Nat) : State :=
  if (s.modem k).replan && s.up .radio && s.hasModem k then
    let b := s.cfgB 0x2C04 (k + 1)
    let w := s.wagglePlace k (Mval.of b)
    let e := s.cfgB 0x2C02 ((Mval.of b).bChan + 1)
    s.setModem k fun m => { m with value := b, waggle := w, entry := e, replan := false }
  else s

/-- A write to RadioNeighbourListen (R606): its check, then the listen placed or removed. -/
def State.listenCheck (s : State) (n : Nat) (v : Bytes) : Option Ans :=
  let k := u v 0 1
  if k = 0xFF then none
  else if k < 8 && !s.hasModem k then some Ans.absent
  else
    let l : Listen := { nbr := n, chan := u v 1 1, offset := u v 2 2, period := u v 4 2 }
    let mv := s.mvalNow k
    firstFail
      [(k < 8 && l.chan < 48, Ans.invalid), (inFamily mv.hyper l.period, Ans.bad 0x052C0004),
       ((({ s with radio := { s.radio with modems := s.radio.modems.map fun m => { m with listens := m.listens.filter fun x => x.nbr ≠ n } } } : State).resvsNow k []).all
          fun r => !(l.resv mv).clash r, Ans.state 0x052C0007)]

def State.listenWritten (s : State) (n : Nat) (v : Bytes) : State :=
  let s : State := { s with radio := { s.radio with modems := s.radio.modems.map fun m => { m with listens := m.listens.filter fun x => x.nbr ≠ n } } }
  let k := u v 0 1
  if k = 0xFF then s
  else s.setModem k fun m => { m with listens := m.listens ++ [{ nbr := n, chan := u v 1 1, offset := u v 2 2, period := u v 4 2 }] }

/-! ### Machine IDs, resets (R603, R627) -/

/-- MachineId: refused where another slot of the variant holds the value; the link ends (R40, R603). -/
def State.machineWrite (s : State) (m id : Nat) : State × Option Ans :=
  if id ≠ 0xFFFFFFFF && (List.range s.tier).any fun j => j ≠ m && s.machineId j = id then (s, some (Ans.bad 0x052C0008))
  else ((s.endLink m 3 (some 0) (Ans.send 0x16)).setVal (key (0x7000 + m) 1) (leBytes 4 id), some (Ans.done []))

/-- Messages of the link controller's work buffers end (R627). -/
def State.endMessages (s : State) (a : Ans) : State :=
  let ms := s.radio.links.flatMap fun e => e.2.msgs
  let ws := s.radio.waggles.map fun e => e.2.caller
  let links := s.radio.links.map fun e => (e.1, { e.2 with msgs := [], awaiting := none, sent := e.2.sent.map fun x => { x with msg := none } })
  let modems := s.radio.modems.map fun m => { m with msgs := [] }
  let s : State := { s with radio := { s.radio with links := links, waggles := [], modems := modems } }
  ws.foldl (fun s c => s.answer c a) (ms.foldl (fun s x => s.answer x.caller a) s)

/-- Messages of some callers end. -/
def State.endMessagesOf (s : State) (p : Caller → Bool) (a : Ans) : State :=
  let gone := s.radio.links.flatMap fun e => e.2.msgs.filter fun x => p x.caller
  let left (l : Link) : Link :=
    { l with msgs := l.msgs.filter fun x => !p x.caller,
             sent := l.sent.map fun x => if (x.msg).any fun i => l.msgs.any fun y => y.msg = i && p y.caller then { x with msg := none } else x }
  let ws := s.radio.waggles.filter fun e => p e.2.caller
  let modems := s.radio.modems.map fun m => { m with msgs := m.msgs.filter fun x => !(ws.any fun e => e.1 = x.1) }
  let s : State := { s with radio := { s.radio with links := s.radio.links.map fun e => (e.1, left e.2), modems := modems,
                                                    waggles := s.radio.waggles.filter fun e => !p e.2.caller } }
  ws.foldl (fun s e => s.answer e.2.caller a) (gone.foldl (fun s x => s.answer x.caller a) s)

/-- A restart of the Radio island. -/
def State.radioRestart (s : State) : State := s.endMessages Ans.fault

/-- A reset of the Radio island: every link ends; after its release placements follow the active values. -/
def State.radioReset (s : State) : State :=
  let s := s.endMessages Ans.reset
  let s := s.radio.links.foldl (fun s e => s.endLink e.1 7 none Ans.reset) s
  let ls := s.radio.modems.map Modem.listens
  { s with radio := { Radio.reset with ended := s.radio.ended,
                                       modems := (List.range 8).map fun k => { Modem.reset with listens := ls.getD k [], counter := (s.modem k).counter, replan := true } } }

end Sys2Proof.Machine
end

