-- ==== Sys2Proof/Machine/Linear.lean ====
section
/-!
DEFINITION. Exact rational numbers, vectors and matrices: what the Fixer's and the Developer's solutions are computed in, and the
roundings to the formats their records and state blocks hold (08_developer_exposures.md R388; 10_fixer_rover_solving.md R461, R468,
R483). The arithmetic inside one epoch is exact; a stored state is rounded to binary64 (log entry 48).
-/

namespace Sys2Proof.Machine

/-! ### Numbers -/

/-- The greatest multiple of 2⁻⁶⁴ whose square is at most x; 0 for a negative x. -/
def ratSqrt (x : Rat) : Rat := (isqrt (x.num.toNat * 2 ^ 128 / x.den) : Rat) / 2 ^ 64

/-- The nearest integer, halves away from zero. -/
def nearest (x : Rat) : Int := roundDiv x.num x.den

/-- A dyadic number as a rational. -/
def Dy.rat (d : Dy) : Rat := if 0 ≤ d.e then (d.m * 2 ^ d.e.toNat : Int) else (d.m : Rat) / 2 ^ (-d.e).toNat

/-- A rational as a dyadic number of 66 significant bits or more whose last bit says whether anything was cut off: it rounds to fewer
bits as the rational does. -/
def sticky (x : Rat) : Int × Int :=
  let n := x.num.natAbs
  let k : Int := 66 + (Nat.log2 x.den : Int) - (Nat.log2 n : Int)
  let num := if 0 ≤ k then n * 2 ^ k.toNat else n
  let den := if 0 ≤ k then x.den else x.den * 2 ^ (-k).toNat
  let m := 2 * (num / den) + (if num % den = 0 then 0 else 1)
  (if x.num < 0 then -(m : Int) else m, -k - 1)

/-- The nearest binary64 number, ties to even. -/
def toF64 (x : Rat) : Dy := let p := sticky x; Dy.round p.1 p.2

/-- The 32 bits of the nearest binary32 number, ties to even; beyond its range, infinity. -/
def toF32 (x : Rat) : BitVec 32 :=
  let a : Rat := if x < 0 then -x else x
  -- exponent of the unit in the last place: 2^e ≤ a·2⁻²³ < 2^(e+1), not below 2⁻¹⁴⁹
  let l : Int := (Nat.log2 a.num.natAbs : Int) - Nat.log2 a.den
  let pow (k : Int) : Rat := if 0 ≤ k then (2 ^ k.toNat : Nat) else 1 / (2 ^ (-k).toNat : Nat)
  let top : Int := if a < pow l then l - 1 else if a < pow (l + 1) then l else l + 1
  let e : Int := max (-149) (top - 23)
  let q := (a / pow e).floor.toNat
  let r : Rat := a / pow e - (q : Rat)
  let up : Bool := 1 / 2 < r || (r = 1 / 2 && q % 2 = 1)
  let m := if up then q + 1 else q
  -- the mantissa's carry into the exponent is the addition's
  let v := if a = 0 then 0 else if m < 2 ^ 23 then m else min 0x7F800000 (((e + 150).toNat - 1) * 2 ^ 23 + m)
  BitVec.ofNat 32 (v + (if x < 0 then 2 ^ 31 else 0))

/-- x brought to [−1/2, 1/2) by a whole number. -/
def wrapHalf (x : Rat) : Rat := x - (x + 1 / 2).floor

/-- Fixed point of 320 fraction bits as a rational. -/
def fxRat (x : Int) : Rat := (x : Rat) / 2 ^ 320

/-- Sine of whole degrees. -/
def sinDeg (d : Nat) : Rat := fxRat (fxSin ((fxPi * d).fdiv 180))

/-! ### Vectors and matrices -/

abbrev Vec := List Rat
/-- A matrix by its rows. -/
abbrev Mat := List Vec

def Vec.dot (a b : Vec) : Rat := (List.zipWith (· * ·) a b).sum
def Vec.add (a b : Vec) : Vec := List.zipWith (· + ·) a b
def Vec.sub (a b : Vec) : Vec := List.zipWith (· - ·) a b
def Vec.scale (k : Rat) (a : Vec) : Vec := a.map (k * ·)
def Vec.norm (a : Vec) : Rat := ratSqrt (Vec.dot a a)

def Mat.mulVec (m : Mat) (v : Vec) : Vec := m.map (Vec.dot · v)
def Mat.add (a b : Mat) : Mat := List.zipWith Vec.add a b
/-- Column j. -/
def Mat.col (m : Mat) (j : Nat) : Vec := m.map (·.getD j 0)
/-- The transpose of a matrix of n columns. -/
def Mat.transp (n : Nat) (m : Mat) : Mat := (List.range n).map m.col
/-- The product with a matrix of n columns. -/
def Mat.mul (n : Nat) (a b : Mat) : Mat := let t := b.transp n; a.map fun r => t.map (Vec.dot r)
/-- Entry (i, j). -/
def Mat.at_ (m : Mat) (i j : Nat) : Rat := (m.getD i []).getD j 0
/-- a bᵀ. -/
def Mat.outer (a b : Vec) : Mat := a.map fun x => b.map (x * ·)
def Mat.unit (n : Nat) : Mat := (List.range n).map fun i => (List.range n).map fun j => if i = j then 1 else 0
def Mat.zero (n m : Nat) : Mat := List.replicate n (List.replicate m 0)
/-- G P Gᵀ of a square P of n rows, for a G of n columns. -/
def Mat.sandwich (n : Nat) (g p : Mat) : Mat := let gp := Mat.mul n g p; gp.map fun r => g.map (Vec.dot r)

/-- The unknowns of a system of n equations whose rows hold n coefficients and then the right-hand sides: one row of values per
unknown; none where the system is singular. Each step takes a row whose first coefficient is not zero. -/
def gauss : Nat → Mat → Option Mat
  | 0, _ => some []
  | n + 1, rows =>
    match rows.findIdx? fun r => r.headD 0 ≠ 0 with
    | none => none
    | some i =>
      let p := rows.getD i []
      let p := Vec.scale (1 / p.headD 0) p.tail
      let rest := (rows.eraseIdx i).map fun r => Vec.sub r.tail (Vec.scale (r.headD 0) p)
      match gauss n rest with
      | none => none
      | some xs => some ((List.zipWith Vec.scale (p.take n) xs).foldl Vec.sub (p.drop n) :: xs)

/-- The inverse of an n × n matrix. -/
def Mat.inv (n : Nat) (m : Mat) : Option Mat := gauss n (List.zipWith (· ++ ·) m (Mat.unit n))

/-- Least squares of unknowns x from equations h·x = z of equal weight: x and the inverse of the normal matrix. -/
def leastSquares (n : Nat) (eqs : List (Vec × Rat)) : Option (Vec × Mat) :=
  let h : Mat := eqs.map Prod.fst
  let t := h.transp n
  match Mat.inv n (Mat.mul n t h) with
  | none => none
  | some q => some (q.mulVec (t.mulVec (eqs.map Prod.snd)), q)

/-! ### Estimates: a state vector with its covariance -/

structure Est where
  x : Vec
  p : Mat
  deriving DecidableEq, Repr, Inhabited

/-- The estimate under a linear map to m states. -/
def Est.map (g : Mat) (e : Est) : Est := { x := g.mulVec e.x, p := Mat.sandwich e.x.length g e.p }

/-- The update by one scalar measurement h·x = z of variance r (Kalman); a measurement that the state already knows exactly and that is
exact says nothing more. -/
def Est.update (e : Est) (h : Vec) (z r : Rat) : Est :=
  let ph := e.p.mulVec h
  let s := Vec.dot h ph + r
  if s = 0 then e
  else
    let k := Vec.scale (1 / s) ph
    { x := Vec.add e.x (Vec.scale (z - Vec.dot h e.x) k), p := List.zipWith (fun ki row => Vec.sub row (Vec.scale ki ph)) k e.p }

/-- The vector of n zeros with a one at i. -/
def Vec.one (n i : Nat) : Vec := (List.range n).map fun j => if j = i then 1 else 0

/-- State i set to v with a variance of its own and no correlation. -/
def Est.reset (e : Est) (i : Nat) (v var : Rat) : Est :=
  { x := e.x.set i v,
    p := e.p.mapIdx fun a row => row.mapIdx fun b c => if a = i ∧ b = i then var else if a = i ∨ b = i then 0 else c }

/-- A new last state. -/
def Est.push (e : Est) (v var : Rat) : Est :=
  { x := e.x ++ [v], p := e.p.map (· ++ [0]) ++ [List.replicate e.x.length 0 ++ [var]] }

/-- The states named by a list of places, in that order. -/
def Est.pick (e : Est) (l : List Nat) : Est :=
  { x := l.map (e.x.getD · 0), p := l.map fun i => l.map fun j => e.p.at_ i j }

end Sys2Proof.Machine
end

