-- ==== Sys2Proof/Machine/TrackOps.lean ====
section
/-!
DEFINITION. What Tracking does: signals and their channels, lock states, epochs and their records, direction of arrival, watch
channels, sample ports, the tracking group and standby (07_gnss_tracking.md).
-/

namespace Sys2Proof.Machine

/-! ### Signals and channels (R330 to R333) -/

/-- The signals of Table 7.4: code, system of Table 7.9, band (0 L1, 1 L5), whether a pilot drives the loops. -/
def signalTable : List (Nat × Nat × Nat × Bool) :=
  [(1, 0, 0, false), (2, 0, 0, true), (3, 1, 0, true), (4, 2, 0, true), (5, 3, 0, false), (6, 3, 0, true), (7, 5, 0, false),
   (9, 0, 1, true), (10, 1, 1, true), (11, 2, 1, true), (12, 3, 1, true), (13, 4, 1, false), (14, 5, 1, true)]

def isSignal (c : Nat) : Bool := signalTable.any fun r => r.1 = c
def signalSystem (c : Nat) : Nat :=
  match signalTable.find? fun r => r.1 = c with
  | some r => r.2.1
  | none => 0
def hasPilot (c : Nat) : Bool := signalTable.any fun r => r.1 = c && r.2.2.2
/-- Band of a signal code. -/
def bandOf (c : Nat) : Nat := if c ≤ 7 then 0 else 1
/-- Centre frequency of a band in Hz. -/
def bandFreq (band : Nat) : Nat := if band = 0 then 1575420000 else 1176450000
/-- Milliseconds of a signal's code period (R370). -/
def codePeriod (c : Nat) : Nat := if c = 2 || c = 4 || c = 6 then 10 else if c = 3 then 4 else 1
/-- Group of a signal on an antenna (R320). -/
def groupOf (antenna c : Nat) : Nat := bandOf c + 2 * antenna

/-- Channels allotted to a signal by an Allot value (R331). -/
def allotCount (a : Bytes) (c : Nat) : Nat := u a (2 * (c % 8)) 2

/-- First channel and number of channels of a signal in its group (R332). -/
def rangeIn (g : Nat) (a : Bytes) (c : Nat) : Nat × Nat :=
  (288 * g + ((List.range (c % 8)).map fun j => u a (2 * j) 2).sum, allotCount a c)

def State.allotOf (s : State) (g : Nat) : Bytes := s.track.vals.allot.getD g []
def State.chanRange (s : State) (g c : Nat) : Nat × Nat := rangeIn g (s.allotOf g) c

/-- Signal codes of a group. -/
def groupSignals (g : Nat) : List Nat := (signalTable.filter fun r => r.2.2.1 = g % 2).map Prod.fst

/-- The signal whose range holds a channel. -/
def State.signalOf (s : State) (ch : Nat) : Option Nat :=
  (groupSignals (ch / 288)).find? fun c => let r := s.chanRange (ch / 288) c; r.1 ≤ ch && ch < r.1 + r.2

def State.setTrack (s : State) (f : Tracking → Tracking) : State := { s with track := f s.track }
def State.chan? (s : State) (ch : Nat) : Option Chan := Tbl.get? s.track.chans ch
def State.setChan (s : State) (ch : Nat) (f : Chan → Chan) : State := s.setTrack fun t => { t with chans := Tbl.upd t.chans ch f }
def State.idleChan (s : State) (ch : Nat) : State := s.setTrack fun t => { t with chans := Tbl.del t.chans ch }

/-- The channels of group g that track. -/
def Tracking.group (t : Tracking) (g : Nat) : Tbl Chan := t.chans.filter fun e => e.1 / 288 = g
/-- The channel of a group that tracks a signal. -/
def Tracking.holder (t : Tracking) (g : Nat) (x : Sig) : Option (Nat × Chan) := (t.group g).find? fun e => e.2.sig = x

def foundSig (f : Found) : Sig := { system := f.system, sat := f.sat, signal := f.signal }

/-! ### Sample ports: values of Table 7.3 -/

def State.gsVal (s : State) (g : Nat) : Nat := leNat (s.track.vals.gs.getD g [])
def gsFormat (v : Nat) : Nat := bits v 62 2
def gsEnable (v : Nat) : Bool := bit v 60
def gsAgc (v : Nat) : Nat := bits v 58 2
def gsIf (v : Nat) : Int := signed 32 (bits v 16 32)
def gsTarget (v : Nat) : Nat := bits v 8 8
def State.port (s : State) (g : Nat) : GsPort := s.track.ports.getD g GsPort.reset
def State.setPort (s : State) (g : Nat) (f : GsPort → GsPort) : State := s.setTrack fun t => { t with ports := modNth t.ports g f }
/-- The port feeds its group. -/
def State.feeds (s : State) (g : Nat) : Bool := gsEnable (s.gsVal g) && (s.port g).clock
/-- The port's gain is automatic: enabled, clocked and in mode 0b01 (R324, R325). -/
def State.gsAuto (s : State) (g : Nat) : Bool := s.feeds g && gsAgc (s.gsVal g) = 1
/-- Nominal frequency of the port's clock in Hz (Table 7.2). -/
def gsNominal (v : Nat) : Nat := if gsFormat v = 2 then 81840000 else 40920000

/-- GSn_AGC: the duty it shows in 1/256, or none while it is high-impedance, on a disabled port or with gain off (R324, R325). -/
def State.agcPin (s : State) (g : Nat) : Option Nat :=
  let v := s.gsVal g
  if !gsEnable v then none
  else match gsAgc v with
    | 1 => some (s.port g).duty
    | 2 => some (bits v 48 8)
    | _ => none

/-- GsStatus. -/
def State.gsStatus (s : State) (g : Nat) : Nat :=
  let p := s.port g
  b2n p.clock + 2 * b2n (p.atLimit && s.gsAuto g) + 4 * b2n p.jam + 8 * b2n (gsEnable (s.gsVal g))

/-! ### Samples (R321, Table 7.1) -/

/-- A component of a sign and a magnitude pin. -/
def signMag (sign mag : Bool) : Int := (if sign then -1 else 1) * (if mag then 3 else 1)

/-- Samples of format 1: I on a capture edge, Q on the opposite edge that follows. -/
def gsPairs (cap : Bool) : List GsEdge → List (List Int)
  | a :: b :: t =>
    if a.rising = cap && b.rising ≠ cap then [a.pins.toInt, b.pins.toInt] :: gsPairs cap t else gsPairs cap (b :: t)
  | _ => []

/-- The samples that a port takes at some edges of its clock, each by its components: the capture edge is that of clk_edge. -/
def gsSamples (v : Nat) (l : List GsEdge) : List (List Int) :=
  let cap := !bit v 61
  match gsFormat v with
  | 0 => (l.filter fun e => e.rising = cap).map fun e =>
      [signMag (e.pins.getLsbD 0) (e.pins.getLsbD 1), signMag (e.pins.getLsbD 2) (e.pins.getLsbD 3)]
  | 1 => gsPairs cap l
  | _ => (l.filter fun e => e.rising = cap).map fun e => [e.pins.toInt]

/-- A component of large magnitude: magnitude bit 1, or an absolute value of 4 or more (Table 7.3). -/
def gsLarge (v : Nat) (x : Int) : Bool := if gsFormat v = 0 then x.natAbs = 3 else 4 ≤ x.natAbs

/-- Components of large magnitude, and all components, of some samples. -/
def gsCount (v : Nat) (l : List GsEdge) : Nat × Nat :=
  let x := (gsSamples v l).flatten
  (x.countP (gsLarge v), x.length)

/-! ### Loop values of Table 7.5 -/

def State.loopVal (s : State) : Nat := leNat s.track.vals.loop
/-- lock_cn0 in 0.1 dB-Hz. -/
def State.lockCn0 (s : State) : Nat := 5 * bits s.loopVal 24 8
def State.mpThreshold (s : State) : Nat := bits s.loopVal 16 8
def State.watchSpan (s : State) : Nat := bits s.loopVal 8 8
/-- coh_ms, and tap spacing d in 1/32 chip. -/
def State.cohMs (s : State) : Nat := bits s.loopVal 35 5
def State.tapSpacing (s : State) : Int := 2 ^ bits s.loopVal 32 3

/-! ### Correlations (R330, R336, R338, R340) -/

/-- The newest correlations that together cover n ms. -/
def lastMs : Nat → List Corr → List Corr
  | 0, _ => []
  | _, [] => []
  | n + 1, c :: t => c :: lastMs (n + 1 - c.ms) t

/-- A channel takes correlations, oldest first: a pilot is integrated over coh_ms, a data component over one symbol (Table 7.5). One
second of them is kept. -/
def State.takeCorr (s : State) (c : Chan) (l : List Corr) : Chan :=
  let l := l.map fun x => if hasPilot c.sig.signal then { x with ms := s.cohMs } else x
  { c with corr := lastMs 1000 (l.reverse ++ c.corr) }

/-- In-phase and quadrature at a tap. -/
def tapOf (c : Corr) (off : Int) : Int × Int :=
  match c.taps.find? fun t => t.off = off with
  | some t => (t.i, t.q)
  | none => (0, 0)
/-- Power at a tap. -/
def tapPower (c : Corr) (off : Int) : Nat := let x := tapOf c off; (x.1 * x.1 + x.2 * x.2).toNat
/-- The prompt correlation. -/
def promptOf (c : Corr) : Int × Int := tapOf c 0

/-- ⌊100 log₁₀ x⌋ of a number of at least 1, at most 2,047; 0 below 1: a power ratio in 0.1 dB. -/
def tenthDb (x : Rat) : Nat :=
  (List.range 11).foldl (fun r i =>
    let c := r + 2 ^ (10 - i)
    if 10 ^ c * x.den ^ 100 ≤ x.num.toNat ^ 100 then c else r) 0

/-- C/N0 in 0.1 dB-Hz by the second and fourth moments of the prompt power over the last 200 ms (R340). -/
def cn0Of (l : List Corr) : Nat :=
  let w := lastMs 200 l
  let n : Rat := w.length
  let t := (w.map Corr.ms).sum
  if n = 0 || t = 0 then 0
  else
    let m2 : Rat := (w.map fun c => (tapPower c 0 : Rat)).sum / n
    let m4 : Rat := (w.map fun c => (tapPower c 0 : Rat) * (tapPower c 0 : Rat)).sum / n
    let signal := ratSqrt (2 * m2 * m2 - m4)
    let noise := m2 - signal
    if m2 = 0 then 0 else if noise ≤ 0 then 1023 else min 1023 (tenthDb (signal / noise * 1000 * n / t))

/-- ΣI² − ΣQ² and ΣI² + ΣQ² of the prompt over the last 100 ms: the phase lock indicator is their ratio (R340). -/
def pliOf (l : List Corr) : Int × Int :=
  let w := (lastMs 100 l).map promptOf
  let i := (w.map fun x => x.1 * x.1).sum
  let q := (w.map fun x => x.2 * x.2).sum
  (i - q, i + q)

/-- The side towards which the ±2d and ±3d taps have been stronger than prompt for 100 ms (R338). -/
def bumpSide (d : Int) (l : List Corr) : Option Int :=
  let w := lastMs 100 l
  let side (k : Int) : Nat := (w.map fun c => tapPower c (k * 2 * d) + tapPower c (k * 3 * d)).sum
  if 100 ≤ (w.map Corr.ms).sum && w.all (fun c => [-3, -2, 2, 3].any fun k => tapPower c 0 < tapPower c (k * d)) then
    some (if side (-1) < side 1 then 1 else -1)
  else none

/-- The multipath index (R336): the greatest distance of the profile, averaged over 1 s, from the ideal one. -/
def mpIndex (signal : Nat) (l : List Corr) : Nat :=
  let w := lastMs 1000 l
  let p (j : Nat) : Rat := (w.map fun c => (nth c.profile j : Rat) * c.ms).sum
  let dev (j : Nat) : Nat :=
    if p 8 = 0 then (if p j = 0 then 0 else 255)
    else
      let x := 255 * (p j / p 8 - (Config.idealTap signal j : Rat) / 65536)
      (nearest (if x < 0 then -x else x)).toNat
  min 255 (((span 9 23).map dev).foldl max 0)

/-! ### Acquisition asked of the Developer, and handover (R341, R394, R399) -/

/-- Whether an ephemeris, or an almanac less than 7 days old, of a satellite is held (R396). -/
def State.skyKnown (s : State) (x : Sig) : Bool :=
  s.dev.sky.any fun y => y.system = x.system && y.sat = x.sat && (y.almanac || (match y.ephAge with
    | some a => a < 604800
    | none => false))

/-- A search is warm when the Timebase has time and the satellite's orbit is held (R396). -/
def State.searchKind (s : State) (x : Sig) : SearchKind := if s.timed && s.skyKnown x then .warm else .cold

/-- The Developer is asked to acquire a signal for an antenna. -/
def State.askAcquire (s : State) (antenna : Nat) (x : Sig) : State :=
  let n := OwnSearch.new antenna (s.searchKind x) [x] [] 0
  { s with dev := { s.dev with searches := s.dev.searches ++ [n] } }

/-- The watch channels of a signal of a group share its satellites anew from now: their sweeps begin again (R333, R334). -/
def State.reshare (s : State) (g c : Nat) : State :=
  let r := s.chanRange g c
  s.setTrack fun t => { t with shared := Tbl.put t.shared (16 * g + c) s.now,
                               watch := t.watch.filter fun e => e.1 < r.1 || r.1 + r.2 ≤ e.1 }

/-- As `reshare`, of every signal of a group. -/
def State.reshareGroup (s : State) (g : Nat) : State := (groupSignals g).foldl (fun s c => s.reshare g c) s

/-- A channel returns to IDLE and its signal is to be acquired again. -/
def State.loseChan (s : State) (ch : Nat) : State :=
  match s.chan? ch with
  | none => s
  | some c => ((s.idleChan ch).askAcquire (ch / 288 / 2) c.sig).reshare (ch / 288) c.sig.signal

/-- A signal found is handed over with its code phase and Doppler (R341: IDLE to PULL_IN; R399): to the first channel of its range that
tracks none, where its port feeds the group, no standby holds and no channel of the group tracks it. -/
def State.handover (s : State) (antenna : Nat) (f : Found) : State :=
  let x := foundSig f
  let g := groupOf antenna x.signal
  if !s.up .tracking || s.track.mode = 1 || !s.feeds g || (s.track.holder g x).isSome || !isSignal x.signal then s
  else
    let r := s.chanRange g x.signal
    match (span r.1 r.2).find? fun ch => !Tbl.has s.track.chans ch with
    | none => s
    | some ch =>
      let c : Chan := { sig := x, code := f.codePhase, doppler := f.doppler, corr := [], st := .pullIn, since := s.now, phaseAt := 0,
                        slips := 0, resolved := false, invert := false, coasted := false, cn0 := 0, data := [], above := 0, below := 0,
                        outlier := false }
      (s.setTrack fun t => { t with chans := Tbl.put t.chans ch c }).reshare g x.signal

/-! ### Lock states (Table 7.7) -/

def slip (c : Chan) : Chan := { c with slips := (c.slips + 1) % 16 }
def enter (c : Chan) (st : Lock) (now : Nat) : Chan := { c with st := st, since := now }
def coastChan (c : Chan) (now : Nat) : Chan := { enter c .coast now with coasted := true, resolved := false, invert := false }

/-- The next state of a channel that shows `o`, its correlations already taken. The C/N0 conditions are judged before the phase lock
conditions; a channel that holds no correlations is judged by neither (log entry 20). -/
def nextLock (c : Chan) (o : LockObs) (lockCn0 now : Nat) : Chan :=
  let c := { c with cn0 := cn0Of c.corr }
  let p := pliOf c.corr
  let low : Bool := c.corr ≠ [] && c.cn0 < lockCn0
  let firm : Bool := 0 < p.2 && 4 * p.2 ≤ 5 * p.1
  let weak : Bool := 5 * p.1 < 3 * p.2
  match c.st with
  | .pullIn => if o.freqErr < 5000 && o.codeDisc < 100 && 20 ≤ o.heldMs then enter c .freq now else c
  | .freq =>
    if low then coastChan c now
    else if firm then { enter c .phase now with phaseAt := now, resolved := hasPilot c.sig.signal } else c
  | .phase =>
    if low then coastChan c now
    else if weak then { slip (enter c .freq now) with resolved := false, invert := false }
    else
      let c := if !c.resolved && o.polarity then { c with resolved := true, invert := o.invert } else c
      if o.txDecoded && c.resolved then enter c .locked now else c
  | .locked =>
    if low then coastChan c now
    else if weak then { slip (enter c .freq now) with resolved := false, invert := false }
    else c
  | .coast => if lockCn0 + 30 ≤ c.cn0 && now ≤ c.since + sec then enter c .freq now else c

/-- A channel's lock state is judged. A channel without samples stays in COAST (R328). -/
def State.lockStep (s : State) (ch : Nat) (o : LockObs) : State :=
  match s.chan? ch with
  | none => s
  | some c =>
    if !s.up .tracking || !s.feeds (ch / 288) then s
    else
      let c' := nextLock (s.takeCorr c o.corr) o s.lockCn0 s.now
      let s := s.setChan ch fun _ => c'
      if (c.st = .locked) = (c'.st = .locked) then s else s.reshare (ch / 288) c.sig.signal

/-- PULL_IN has lasted 500 ms, or COAST 1 s. -/
def State.lockTimeout (s : State) (ch : Nat) (st : Lock) (limit : Nat) : State :=
  match s.chan? ch with
  | none => s
  | some c => if s.up .tracking && c.st = st && c.since + limit ≤ s.now then s.loseChan ch else s

/-- The bump-jump (R338): the correlations since the channel was last judged are taken, and the code moves by one side-peak spacing towards
the stronger side. -/
def State.bumpJump (s : State) (ch : Nat) (corr : List Corr) : State :=
  if s.up .tracking then
    let d := s.tapSpacing
    s.setChan ch fun c =>
      let c := s.takeCorr c corr
      match bumpSide d c.corr with
      | none => c
      | some side =>
        let peak : Int := Config.sidePeak c.sig.signal
        { slip c with code := ((c.code + side * peak) % (codePeriod c.sig.signal * 2 ^ 28 : Nat)).toNat, corr := [] }
  else s

/-! ### Watch channels (R333 to R335) -/

/-- Satellites a signal is LOCKED on in a group, in ascending number. -/
def State.lockedSats (s : State) (g c : Nat) : List Nat :=
  sortBy (fun a b => decide (a ≤ b)) (((s.track.group g).filter fun e => e.2.sig.signal = c && e.2.st = .locked).map fun e => e.2.sig.sat)

/-- The offsets of a watched satellite in half chips (R334). -/
def watchOffsets (wspan : Nat) : List Int :=
  ((List.range (4 * wspan + 1)).map fun (i : Nat) => (i : Int) - 2 * wspan).filter fun k => 4 ≤ k.natAbs

/-- What a watch channel watches: its satellite, and its share of the offsets: every m-th, where m channels watch the satellite. -/
def State.watchOf (s : State) (ch : Nat) : Option (Sig × List Int) :=
  match s.signalOf ch with
  | none => none
  | some c =>
    let g := ch / 288
    let r := s.chanRange g c
    let free := (span r.1 r.2).filter fun x => !Tbl.has s.track.chans x
    let sats := s.lockedSats g c
    match free.findIdx? (· = ch) with
    | none => none
    | some i =>
      if sats = [] || s.track.mode = 1 || !s.feeds g then none
      else
        let n := sats.length
        let m := (free.length - 1 - i % n) / n + 1
        let offs := ((watchOffsets s.watchSpan).mapIdx fun k o => (k, o)).filter fun p => p.1 % m = i / n
        some ({ system := signalSystem c, sat := nth sats (i % n), signal := c }, offs.map Prod.snd)

/-- Lock state of a channel as Table 7.6 numbers it. -/
def State.lockState (s : State) (ch : Nat) : Nat :=
  match s.chan? ch with
  | some c => c.st.code
  | none => if (s.watchOf ch).isSome then 6 else 0

/-- A watch channel's dwell ends with a peak of `power` (0.1 dB-Hz) at its offset (R334, R335). -/
def State.watchDwell (s : State) (ch power : Nat) : State :=
  match s.watchOf ch with
  | none => s
  | some (x, offs) =>
    let p := Tbl.getD s.track.watch ch (0, Tbl.getD s.track.shared (16 * (ch / 288) + x.signal) 0)
    match offs[p.1 % offs.length]? with
    | none => s
    | some off =>
      if !s.up .tracking || s.now < p.2 + 100 * ms then s
      else
        let s := s.setTrack fun t => { t with watch := Tbl.put t.watch ch ((p.1 + 1) % offs.length, s.now) }
        if s.lockCn0 ≤ power then
          let s := s.setTrack fun t => { t with peaks := (x, s.now) :: t.peaks.filter fun q => q.1 ≠ x }
          s.logEv .trackSecondPeak ([byte x.system, byte x.sat, byte x.signal] ++ leInt 2 off)
        else s

/-- 10 s have passed since second_peak was set (R335). -/
def State.clearPeak (s : State) (x : Sig) : State :=
  s.setTrack fun t => { t with peaks := t.peaks.filter fun q => q.1 ≠ x || s.now < q.2 + 10 * sec }

/-! ### Sample ports (R325 to R329) -/

/-- A share of `large` components in `all` lies more than k percentage points above, or below, a target in %. -/
def shareAbove (large all target k : Nat) : Bool := (target + k) * all < 100 * large
def shareBelow (large all target k : Nat) : Bool := 100 * large + k * all < target * all

/-- The automatic duty after a share: unchanged within 2 points of the target, else moved towards it by a free number of steps from 1
to 8 (log entry 21). -/
def nextDuty (duty large all target move : Nat) : Nat :=
  if shareAbove large all target 2 then duty - min duty (1 + move % 8)
  else if shareBelow large all target 2 then min 255 (duty + 1 + move % 8)
  else duty

/-- The clock's offset from nominal, in parts per 10⁹ (R323): sample counters (10⁻³ period) at the ends of an interval of the Timebase
(10⁻¹² ns). -/
def clockOffset (nominal from_ to_ : Nat) (elapsed : Int) : Int :=
  if elapsed ≤ 0 then 0 else nearest ((((to_ : Rat) - from_) * 10 ^ 18 / (elapsed * nominal) - 1) * 10 ^ 9)

/-- The sample counter captured at a 1 ms tick: after 1 s the offset is taken, and the next measurement begins (R323). -/
def State.offsetTick (s : State) (g counter : Nat) : State :=
  let p := s.port g
  if !p.clock then s
  else
    let corr := s.tb.corrAt s.now
    match p.mark with
    | none => s.setPort g fun p => { p with mark := some (s.now, corr, counter) }
    | some (t, c, k) =>
      if s.now < t + sec then s
      else
        let e := ((s.now - t : Nat) : Int) * fineUnit + corr - c
        s.setPort g fun p => { p with offset := satInt 32 (clockOffset (gsNominal (s.gsVal g)) k counter e),
                                      mark := some (s.now, corr, counter) }

/-- The jam conditions of a port after an update (R327): set while either holds, with EV_GS_JAM when the bit sets; without them, quiet
since the first update that found neither. -/
def State.jamJudge (s : State) (g : Nat) (cond : Bool) : State :=
  let was := (s.port g).jam
  let s := s.setPort g fun p => { p with quietAt := if cond then none else some (p.quietAt.getD s.now), jam := p.jam || cond }
  if cond && !was then s.logEv .gsJam [] else s

/-- The 1 ms update of a port, with the clock's edges of that ms and the sample counter captured at its end: the share, the clock's
offset, the automatic gain and its conditions (R321, R323, R325 to R327). -/
def State.agcUpdate (s : State) (g : Nat) (edges : List GsEdge) (counter : Nat) : State :=
  if !s.up .tracking then s
  else
    let v := s.gsVal g
    let n := gsCount v edges
    let s := (s.setPort g fun p => { p with share := if n.2 = 0 then 0 else (1000 * n.1 + n.2 / 2) / n.2 }).offsetTick g counter
    if !s.gsAuto g then (s.setPort g fun p => { p with atLimit := false, highAt := none, duties := [] }).jamJudge g false
    else
      let target := gsTarget v
      let (s, move) := s.draw
      let p := s.port g
      let duty := nextDuty p.duty n.1 n.2 target move
      let duties := (s.now, p.duty) :: p.duties.filter fun d => s.now ≤ d.1 + sec
      let limit : Bool := (duty = 0 || duty = 255) && (shareAbove n.1 n.2 target 5 || shareBelow n.1 n.2 target 5)
      let highAt := if shareAbove n.1 n.2 target 10 && duty = 0 then some (p.highAt.getD s.now) else none
      let s := s.setPort g fun p => { p with duty := duty, duties := duties, atLimit := limit, highAt := highAt }
      let s := if limit && !p.atLimit then s.logEv .gsAgcLimit [] else s
      s.jamJudge g (duties.any (fun d => duty + 64 < d.2) || (match highAt with
        | some a => a + sec ≤ s.now
        | none => false))

/-- 10 s have passed with neither jam condition (R327). -/
def State.jamClear (s : State) (g : Nat) : State :=
  s.setPort g fun p => match p.quietAt with
    | some a => if a + 10 * sec ≤ s.now then { p with jam := false } else p
    | none => p

def tracks (c : Chan) : Bool := c.st = .freq || c.st = .phase || c.st = .locked

/-- A port clock stops (R328). -/
def State.clockLost (s : State) (g : Nat) : State :=
  if !s.up .tracking || !(s.port g).clock then s
  else
    let chans := s.track.chans.map fun e => if e.1 / 288 = g && tracks e.2 then (e.1, coastChan e.2 s.now) else e
    (((s.setPort g fun p => { p with clock := false, mark := none }).setTrack fun t => { t with chans := chans }).reshareGroup g).logEv
      .gsClockLost []

/-- A port clock returns (R328). -/
def State.clockBack (s : State) (g : Nat) : State :=
  if !s.up .tracking || 4 ≤ g || (s.port g).clock then s else (s.setPort g fun p => { p with clock := true }).logEv .gsClockBack []

/-- An elastic store overflows or underruns (R329). -/
def State.gsGap (s : State) (g : Nat) : State :=
  if !s.up .tracking || !s.feeds g then s
  else
    let chans := s.track.chans.map fun e =>
      if e.1 / 288 = g then
        let c := { e.2 with coasted := true }
        (e.1, if c.st = .phase || c.st = .locked then slip c else c)
      else e
    (s.setPort g fun p => { p with gaps := wrap 32 (p.gaps + 1), gap := true }).setTrack fun t => { t with chans := chans }

/-! ### The tracking group (R359, R360) -/

/-- Baseline in mm, and the square of its length. -/
def baseLen2 (b : List Bytes) : Nat := (b.map fun x => let v := signed 32 (leNat x); (v * v).toNat).sum
def Tracking.baseLen2 (t : Tracking) : Nat := Machine.baseLen2 t.vals.base

def gsOk (v : Nat) : Bool := gsFormat v ≠ 3 && gsAgc v ≠ 3 && (10 ≤ gsTarget v && gsTarget v ≤ 60)
def ifOk (v : Nat) : Bool :=
  if gsFormat v = 2 then 15000000 ≤ gsIf v && gsIf v ≤ 25920000 else -5000000 ≤ gsIf v && gsIf v ≤ 5000000
def allotSumOk (a : Bytes) : Bool := ((List.range 8).map fun j => u a (2 * j) 2).sum ≤ 288
def allotSigOk (g : Nat) (a : Bytes) : Bool := u a 0 2 = 0 && (g % 2 = 0 || u a 14 2 = 0)
def loopOk (v : Nat) : Bool :=
  let f (lo n a b : Nat) : Bool := a ≤ bits v lo n && bits v lo n ≤ b
  f 56 8 2 60 && f 48 8 1 200 && f 40 8 2 40 && f 35 5 1 20 && f 32 3 0 3 && f 24 8 20 80 && f 16 8 1 255 && f 8 8 2 255

/-- TrackCommit (Table 7.11). -/
def State.trackCheck (s : State) : Option Ans :=
  let gs := (List.range 4).map fun n => s.cfg 0x3003 (n + 1)
  let al := (List.range 4).map fun n => s.cfgB 0x3005 (n + 1)
  let l2 := baseLen2 ((List.range 3).map fun n => s.cfgB 0x3009 (n + 1))
  firstFail
    [(gs.all gsOk, Ans.bad 0x05300001), (gs.all ifOk, Ans.bad 0x05300002), (al.all allotSumOk, Ans.bad 0x05300003),
     ((al.mapIdx fun g a => allotSigOk g a).all id, Ans.bad 0x05300004), (loopOk (s.cfg 0x3007 0), Ans.bad 0x05300005),
     (l2 = 0 || (250000 ≤ l2 && l2 ≤ 10000000000), Ans.bad 0x05300006)]

/-- The active values of the group. -/
def State.trackActive (s : State) : TrackVals :=
  { gs := (List.range 4).map fun n => s.cfgB 0x3004 (n + 1), allot := (List.range 4).map fun n => s.cfgB 0x3006 (n + 1),
    loop := s.cfgB 0x3008 0, base := (List.range 3).map fun n => s.cfgB 0x300A (n + 1) }

def State.trackCommitted (s : State) : State := s.setTrack fun t => { t with due := true }

/-- The channels of one signal of a group under a new range: satellites of lowest C/N0 are released where the count fell, and the rest
move in ascending satellite number. -/
def moveSignal (old : Tbl Chan) (was now : Nat × Nat) : Tbl Chan :=
  if was = now then old
  else
    let keep := (sortBy (fun a b : Nat × Chan => decide (b.2.cn0 ≤ a.2.cn0)) old).take now.2
    (sortBy (fun a b : Nat × Chan => decide (a.2.sig.sat ≤ b.2.sig.sat)) keep).mapIdx fun i e => (now.1 + i, e.2)

/-- A committed group takes effect (R360). -/
def State.trackApply (s : State) : State :=
  let old := s.track.vals
  let new := s.trackActive
  let s := (List.range 4).foldl (fun s g =>
    if old.gs.getD g [] ≠ new.gs.getD g [] then
      let v := leNat (old.gs.getD g [])
      -- automatic gain takes over at the duty that a fixed one left
      let s := if gsAgc v = 2 then s.setPort g fun p => { p with duty := bits v 48 8 } else s
      (s.track.group g).foldl (fun s e => s.loseChan e.1) (s.setPort g fun p => { p with mark := none })
    else s) s
  let chans := (List.range 4).flatMap fun g => (groupSignals g).flatMap fun c =>
    moveSignal ((s.track.group g).filter fun e => e.2.sig.signal = c) (rangeIn g (old.allot.getD g []) c) (rangeIn g (new.allot.getD g []) c)
  let chans := chans.foldl (fun (t : Tbl Chan) e => Tbl.put t e.1 e.2) []
  let chans := if old.base ≠ new.base then chans.map fun e => (e.1, { e.2 with above := 0, below := 0, outlier := false }) else chans
  (List.range 4).foldl State.reshareGroup (s.setTrack fun t => { t with vals := new, due := false, chans := chans })

/-! ### Direction of arrival (R354 to R357) -/

/-- A pair: the channels of antennas A and B that hold one satellite and signal in PHASE or LOCKED, and ab_sd in 2⁻¹⁶ cycle. -/
structure Pair where
  a   : Nat
  b   : Nat
  sig : Sig
  sd  : Int
  deriving DecidableEq, Repr, Inhabited

def phased (c : Chan) : Bool := c.st = .phase || c.st = .locked

/-- carrier_phase of a record: a resolved data-only signal is corrected by half a cycle where its polarity asks (R343). -/
def carrierOf (c : Chan) (m : ChanMeas) : Int := m.phase + (if c.invert then 32768 else 0)

/-- Pairs of a band (R354). -/
def pairsOf (t : Tracking) (phase : Nat → Chan → Int) (band : Nat) : List Pair :=
  (t.group band).filterMap fun e =>
    if phased e.2 then
      match t.holder (band + 2) e.2.sig with
      | some (b, cb) =>
        if phased cb then some { a := e.1, b := b, sig := e.2.sig, sd := signed 16 ((phase e.1 e.2 - phase b cb) % 65536).toNat } else none
      | none => none
    else none

def pairSignals (l : List Pair) : List Nat := (l.map fun p => p.sig.signal).eraseDups

/-- The common-direction test of a band: none where it does not run, else whether it fails (R355). -/
def commonTest (l : List Pair) : Option Bool :=
  if l.length < 5 then none
  else
    let one (c : Nat) : Nat :=
      let v := (l.filter fun p => p.sig.signal = c).map fun p => headSinCos p.sd
      let x := (v.map Prod.fst).sum
      let y := (v.map Prod.snd).sum
      isqrt (x * x + y * y).toNat
    some (95 * l.length * 2 ^ 66 ≤ 100 * ((pairSignals l).map one).sum)

/-- The pairs the geometry test takes, each with ab_sd − e in 2⁻¹⁶ cycle: those of signals with at least 5 whose lines of sight are
known. e is the baseline (mm) along the line of sight (2⁻³⁰) in wavelengths (R356). -/
def geoPairs (base : V3) (l : List Pair) (sight : Nat → Option V3) : List (Pair × Int) :=
  let k := l.filterMap fun p => (sight p.a).map fun v =>
    (p, p.sd - roundDiv (65536 * ((base.1 * v.1 + base.2.1 * v.2.1 + base.2.2 * v.2.2) * bandFreq (bandOf p.sig.signal)))
      (2 ^ 30 * 299792458000))
  k.filter fun p => 5 ≤ (k.filter fun q => q.1.sig.signal = p.1.sig.signal).length

/-- cos(2π · 0.15), in 2⁻³²⁰. -/
def cosLimit : Int := fxCos ((3 * fxPi).fdiv 10)

/-- Each pair with whether its residual against the circular mean of its signal's pairs exceeds 0.15 cycle: whether the cosine of the
angle between them is below that of 0.15 cycle. Where the mean has no direction, its direction is free (log entry 42). -/
def geoHigh (free : Nat) (l : List (Pair × Int)) : List (Pair × Bool) :=
  l.map fun p =>
    let v := (l.filter fun q => q.1.sig.signal = p.1.sig.signal).map fun q => headSinCos q.2
    let sum : Int × Int := ((v.map Prod.fst).sum, (v.map Prod.snd).sum)
    let mean := if sum = (0, 0) then headSinCos free else sum
    let x := headSinCos p.2
    let r : Int := isqrt (mean.1 * mean.1 + mean.2 * mean.2).toNat
    (p.1, decide ((x.1 * mean.1 + x.2 * mean.2) * 2 ^ 320 < cosLimit * (r * 2 ^ 66)))

/-- One epoch of the geometry test on a channel: above 0.15 cycle or not. -/
def geoChan (c : Chan) (high : Bool) : Chan :=
  let above := if high then min 3 (c.above + 1) else 0
  let below := if high then 0 else min 3 (c.below + 1)
  { c with above := above, below := below, outlier := if 3 ≤ above then true else if 3 ≤ below then false else c.outlier }

/-- Baseline (0x300A), mm. -/
def State.baseline (s : State) : V3 :=
  let v (i : Nat) : Int := signed 32 (leNat (s.track.vals.base.getD i []))
  (v 0, v 1, v 2)

/-- The two tests of a band, and DoaState after them. -/
def State.doaBand (s : State) (band free : Nat) (phase : Nat → Chan → Int) (sight : Nat → Option V3) : State :=
  let l := pairsOf s.track phase band
  if s.track.baseLen2 < 250000 then s.setTrack fun t => { t with doa := modNth t.doa band fun _ => 0 }
  else
    let geo := geoHigh free (geoPairs s.baseline l sight)
    let s := geo.foldl (fun s p => (s.setChan p.1.a (geoChan · p.2)).setChan p.1.b (geoChan · p.2)) s
    let out := geo.countP fun p => match s.chan? p.1.a with
      | some c => c.outlier
      | none => false
    let st := match commonTest l with
      | some true => 2
      | some false => if geo ≠ [] && geo.length < 2 * out then 3 else 1
      | none => if geo = [] then 0 else if geo.length < 2 * out then 3 else 1
    let was := nth s.track.doa band
    let s := s.setTrack fun t => { t with doa := modNth t.doa band fun _ => st }
    if st ≠ was && 2 ≤ st then s.logEv .trackDoa [] else s

/-! ### Records (R342 to R352) -/

/-- lock_time (R342). -/
def lockTime (c : Chan) (now : Nat) : Nat := if phased c then min 1048575 ((now - c.phaseAt) / ms) else 0

/-- A measurement record (Table 7.9). `at_` is the group's measurement instant in 2⁻¹⁶ ns. -/
def recordOf (s : State) (ch : Nat) (c : Chan) (at_ : Int) (m : ChanMeas) (ab : Option Int) (step : Bool) : Bytes :=
  let mp := mpIndex c.sig.signal c.corr
  let ab16 := match ab with
    | some x => (x % 65536).toNat
    | none => 0
  let v :=
    (at_ % 2 ^ 80).toNat * 2 ^ 304 + ch * 2 ^ 293 + c.sig.system % 8 * 2 ^ 290
      + c.sig.sat % 256 * 2 ^ 282 + c.sig.signal * 2 ^ 277 + c.st.code * 2 ^ 274 + m.txWeek % 2 ^ 13 * 2 ^ 261
      + m.txTowMs % 2 ^ 30 * 2 ^ 231 + m.txFrac % 2 ^ 32 * 2 ^ 199 + (carrierOf c m % 2 ^ 48).toNat * 2 ^ 151
      + (m.doppler % 2 ^ 32).toNat * 2 ^ 119 + c.cn0 % 2 ^ 10 * 2 ^ 109 + lockTime c s.now * 2 ^ 89 + c.slips % 16 * 2 ^ 85
      + mp * 2 ^ 77 + ab16 * 2 ^ 61 + b2n (c.st = .locked) * 2 ^ 60 + b2n (phased c) * 2 ^ 59
      + b2n (c.st = .phase && !c.resolved) * 2 ^ 58 + b2n (s.mpThreshold ≤ mp) * 2 ^ 57
      + b2n (s.track.peaks.any fun q => q.1 = c.sig && s.now < q.2 + 10 * sec) * 2 ^ 56 + b2n c.outlier * 2 ^ 55 + b2n (c.coasted || c.st = .coast) * 2 ^ 54
      + b2n step * 2 ^ 53 + b2n ab.isSome * 2 ^ 52
  leBytes 48 v

/-- Header of a measurement packet (Table 7.8). -/
def packetHeader (nominal : Int) (seq g : Nat) (gap step : Bool) (count : Nat) : Bytes :=
  leInt 8 nominal ++ leBytes 2 seq ++ [byte g, byte (b2n gap + 2 * b2n step)] ++ leBytes 2 count ++ [0, 0]

/-- A packet is posted whole or dropped and counted (R352). -/
def State.trackPost (s : State) (q : Nat) (b : Bytes) : State :=
  match s.post? q b with
  | some s => s
  | none => (s.setTrack fun t => { t with lost := wrap 32 (t.lost + 1) }).logEv .trackEpochLost []

/-- Measurements of an epoch: those given, and a free one for a channel the operand leaves out. -/
def measOf (l : List ChanMeas) (free ch : Nat) : ChanMeas :=
  match l.find? fun m => m.channel = ch with
  | some m => m
  | none => Config.measured (free * 2048 + ch)

/-- Period of the epochs in effect, ns. -/
def State.epochPeriod (s : State) : Int :=
  let r := match s.track.rateAt with
    | some a => if a ≤ s.time64 then s.cfg 0x3001 0 else s.track.rate
    | none => s.track.rate
  if r = 0 then 1000000000 else 1000000000 / r

/-- The latest nominal epoch instant. -/
def State.nominalNow (s : State) : Int := s.time64.fdiv s.epochPeriod * s.epochPeriod

/-- Whether a nominal instant has come that has had no epoch: the grid is set anew after a step (R364). -/
def State.epochDue (s : State) : Bool :=
  s.up .tracking && match s.track.nominal with
    | some n => s.track.clockStep || n < s.nominalNow
    | none => true

/-- One group's packet; `first` is how long after the nominal instant the group's first sample came, in 2⁻¹⁶ ns (R345). -/
def State.groupPacket (s : State) (g : Nat) (nominal : Int) (first : Nat) (meas : Nat → ChanMeas) (pairs : List Pair) (step : Bool) :
    State :=
  let chans := (s.track.group g).filter fun e => e.2.st ≠ .pullIn
  let ab (ch : Nat) : Option Int := (pairs.find? fun p => p.a = ch || p.b = ch).map Pair.sd
  let recs := chans.map fun e => (e.1, recordOf s e.1 e.2 (nominal * 65536 + first) (meas e.1) (ab e.1) step)
  let gap := (s.port g).gap || s.track.gapAll
  let s := recs.foldl (fun s e => s.setChan e.1 fun c => { c with data := e.2, coasted := false }) s
  let b := packetHeader nominal s.track.seq g gap step recs.length ++ recs.flatMap Prod.snd
  let s := if (s.post? (s.cfg 0x300C 0) b).isSome then s.setTrack fun t => { t with posted := t.posted ++ [g] } else s
  s.trackPost (s.cfg 0x300C 0) b

/-- A nominal epoch (R344 to R357, R360, R364). -/
def State.trackEpoch (s : State) (firsts : List Nat) (l : List ChanMeas) : State :=
  let period := s.epochPeriod
  let nominal := s.nominalNow
  let s := s.setTrack fun t => { t with nominal := some nominal, posted := [], rate := (1000000000 / period).toNat,
                                        rateAt := t.rateAt.filter fun a => s.time64 < a }
  let s := if s.track.due then s.trackApply else s
  if s.track.mode = 1 then s.setTrack fun t => { t with ports := t.ports.map fun p => { p with gap := false } }
  else
    let free := s.free
    let s := { s with free := s.free + 1 }
    let meas := measOf l free
    let s := s.setTrack fun t => { t with chans := t.chans.map fun e =>
      let c := s.takeCorr e.2 (meas e.1).corr
      (e.1, { c with cn0 := cn0Of c.corr }) }
    let phase (ch : Nat) (c : Chan) : Int := carrierOf c (meas ch)
    let sight (ch : Nat) : Option V3 := if s.up .fixer then (meas ch).sight else none
    let s := (s.doaBand 0 free phase sight).doaBand 1 free phase sight
    let pairs := pairsOf s.track phase 0 ++ pairsOf s.track phase 1
    let step := s.track.clockStep
    let s := (List.range 4).foldl (fun s g => s.groupPacket g nominal (nth firsts g) meas pairs step) s
    s.setTrack fun t => { t with seq := (t.seq + 1) % 65536, clockStep := false, gapAll := false,
                                 ports := t.ports.map fun p => { p with gap := false } }

/-- The bytes of bits in order of transmission, the first in bit 7. -/
def bitsBytes : Nat → List Bool → Bytes
  | 0, _ => []
  | n + 1, l => byte ((List.range 8).map fun i => if l.getD i false then 2 ^ (7 - i) else 0).sum :: bitsBytes n (l.drop 8)

/-- A navigation data record (Table 7.10). -/
def navBytes (m : NavUnit) : Bytes :=
  leInt 8 m.first ++ [byte m.system, byte m.sat, byte m.signal, byte (b2n m.passed + 2 * b2n m.antB)] ++ leBytes 2 m.bits.length ++ [0, 0]
    ++ bitsBytes (4 * ((m.bits.length + 31) / 32)) m.bits

/-- A decoded navigation message unit and what it brings (R351): the UTC parameters (R658) and the broadcast offset (R349) of one that passed are taken. -/
def State.navMessage (s : State) (m : NavUnit) (news : NavNews) : State :=
  if !s.up .tracking || s.track.mode = 1 then s
  else
    let s := if m.passed then
        let s := match news.utc with
          | some p => { s with tb := { s.tb with utc := some p } }
          | none => s
        match news.offset with
        | some x => s.setTrack fun t => { t with broadcast := Tbl.put t.broadcast m.system x }
        | none => s
      else s
    s.trackPost (s.cfg 0x300D 0) (navBytes m)

/-- TrackLatest (R353). -/
def State.trackLatest (s : State) : Bytes :=
  (List.range 1152).flatMap fun ch => match s.chan? ch with
    | some c => if c.st = .pullIn || c.data = [] then zeros 48 else c.data
    | none => zeros 48

/-- TrackLocked of a group. -/
def State.trackLocked (s : State) (g : Nat) : Nat := (s.track.group g).countP fun e => e.2.st = .locked

/-! ### Standby, restart and reset (R361 to R363) -/

/-- TrackMode := 1 (R361). -/
def State.standbyEnter (s : State) : State × Option Ans :=
  if !s.stoppedAll then (s, some (Ans.state 0x05300010))
  else ((List.range 4).foldl State.reshareGroup (s.setTrack fun t => { t with mode := 1, chans := [] }), some (Ans.done []))

/-- TrackMode := 0 (R362): assisted searches of what the latest standby result found (R404). -/
def State.standbyExit (s : State) : State × Option Ans :=
  if s.track.mode = 0 then (s, some (Ans.done []))
  else
    let s := s.setTrack fun t => { t with mode := 0 }
    let sigs := s.dev.found.map foundSig
    let n := if sigs = [] then OwnSearch.new 0 .cold [] [] 0 else OwnSearch.new 0 .assisted sigs s.dev.found s.dev.foundAt
    ({ s with dev := { s.dev with searches := s.dev.searches ++ [n] } }, some (Ans.done []))

/-- After a Tracking island restart (R363). -/
def State.trackRestart (s : State) : State :=
  s.setTrack fun t => { t with chans := t.chans.map fun e => (e.1, { e.2 with coasted := true }), gapAll := true }

/-- After a reset of the Tracking island. -/
def State.trackReset (s : State) : State :=
  let v := s.trackActive
  s.setTrack fun _ => { Tracking.reset with vals := v, rate := s.cfg 0x3001 0 }

/-- A written TrackRate takes effect at the next whole second (R344). -/
def State.rateWritten (s : State) : State :=
  s.setTrack fun t => { t with rateAt := some ((s.time64.fdiv 1000000000 + 1) * 1000000000) }

end Sys2Proof.Machine
end

