-- ==== Sys2Proof/Machine/Snapshot.lean ====
section
/-!
DEFINITION. Samples, correlation and positions: the sample blocks of an exposure, the search of a signal over code phases and Doppler
bins, and positions by least squares from code phases and pseudoranges (08_developer_exposures.md R368 to R371, R377 to R379, R386
to R388; 09_fixer_base_corrections.md R416; 10_fixer_rover_solving.md R463).
-/

namespace Sys2Proof.Machine

/-! ### Sample blocks (R377, R378) -/

/-- Samples per ms of a band. -/
def bandRate (band : Nat) : Nat := if band = 0 then 4092 else 10230

/-- The samples of one byte: four of one bit per component, or two of two bits, the first in the high bits. -/
def byteSamples (w : Nat) (b : Byte) : List (Int × Int) :=
  let v := b.toNat
  if w = 1 then [6, 4, 2, 0].map fun k => (signMag (bit v (k + 1)) false, signMag (bit v k) false)
  else [4, 0].map fun k => (signMag (bit v (k + 3)) (bit v (k + 2)), signMag (bit v (k + 1)) (bit v k))

/-- The samples of a block. -/
def blockSamples (w count : Nat) (b : Bytes) : List (Int × Int) := (b.flatMap (byteSamples w)).take count

/-- Bytes of a sample block (R377). -/
def blockBytes (ms_ n w : Nat) : Nat := let b := ceilDiv (ms_ * n * 2 * w) 8; (b + 3) / 4 * 4

/-- The samples of an exposure record in a band (R376 to R378). -/
def exposureSamples (r : Bytes) (band : Nat) : List (Int × Int) :=
  let bands := u r 1 1
  let w := u r 2 1 + 1
  let len := u r 3 1
  if !bit bands band then []
  else
    let off := if band = 1 && bit bands 0 then 64 + blockBytes len 4092 w else 64
    blockSamples w (len * bandRate band) (slice r off (blockBytes len (bandRate band) w))

/-! ### Correlation (R368, R369, R371, R379) -/

/-- The correlation of samples of one ms, the first of them number `k0`, with a signal at a code phase and a frequency: `code` is the
place of the code at sample 0 in 2⁻²⁸ ms, `freq` the frequency in the samples in 2⁻⁴ Hz. Sums in 2⁻⁶⁶. -/
def correlate (x : Sig) (n k0 code : Nat) (freq : Int) (l : List (Int × Int)) : Int × Int :=
  let period := codePeriod x.signal * 2 ^ 28
  let one (k : Nat) (v : Int × Int) : Int × Int :=
    let c := Config.replica x.system x.sat x.signal ((code + k * 2 ^ 28 / n) % period)
    -- the carrier is taken off: the sample is turned back by freq · t
    let t := headSinCos (roundDiv (freq * k * 65536) (16 * n * 1000))
    (c * (v.1 * t.2 + v.2 * t.1), c * (v.2 * t.2 - v.1 * t.1))
  let s := l.mapIdx fun i v => one (k0 + i) v
  ((s.map Prod.fst).sum, (s.map Prod.snd).sum)

/-- The power at a code phase and frequency: blocks of 1 ms combined non-coherently. -/
def cellPower (x : Sig) (n : Nat) (blocks : List (List (Int × Int))) (code : Nat) (freq : Int) : Nat :=
  (blocks.mapIdx fun b l => let c := correlate x n (b * n) code freq l; (c.1 * c.1 + c.2 * c.2).toNat).sum

/-- The 1 ms blocks of samples. -/
def cutBlocks (n : Nat) : Nat → List (Int × Int) → List (List (Int × Int))
  | 0, _ => []
  | k + 1, l => if l = [] then [] else l.take n :: cutBlocks n k (l.drop n)

/-- How a signal is searched: the centre of its Doppler bins (2⁻⁴ Hz), their number, the frequency at which the band centre lies in the
samples (Hz), and the code phase about which one segment lies; none: every segment of its period (R369, R370). -/
structure SearchPlan where
  centre : Int
  bins   : Nat
  ifHz   : Int
  about  : Option Nat
  deriving DecidableEq, Repr, Inhabited

/-- The code phases of a plan, a sample apart, in 2⁻²⁸ ms. -/
def planPhases (c n : Nat) (about : Option Nat) : List Nat :=
  let period := codePeriod c * 2 ^ 28
  match about with
  | none => (List.range (codePeriod c * n)).map fun k => k * 2 ^ 28 / n
  | some a => (List.range n).map fun k => (a + period - 2 ^ 27 + k * 2 ^ 28 / n) % period

/-- The search of one signal: its greatest power over its mean power in 0.1 dB, and where that lies (R387, Table 8.8). -/
def searchSignal (samples : List (Int × Int)) (x : Sig) (p : SearchPlan) : Found :=
  let n := bandRate (bandOf x.signal)
  let blocks := cutBlocks n 8 samples
  let cells := (planPhases x.signal n p.about).flatMap fun code => (List.range p.bins).map fun b =>
    let f := p.centre + ((b : Int) - (p.bins / 2 : Nat)) * 8000
    (cellPower x n blocks code (16 * p.ifHz + f), code, f)
  let best := cells.foldl (fun (m : Nat × Nat × Int) c => if m.1 < c.1 then c else m) (0, 0, 0)
  let total := (cells.map Prod.fst).sum
  { system := x.system, sat := x.sat, signal := x.signal, ratio := if total = 0 then 0 else tenthDb ((best.1 * cells.length : Nat) / (total : Nat) : Rat),
    codePhase := best.2.1, doppler := best.2.2 }

/-- A code phase some ns later, at a Doppler. -/
def laterPhase (f : Found) (ns : Nat) : Nat :=
  let freq := bandFreq (bandOf f.signal)
  let turn : Int := (ns : Int) * 2 ^ 28 * (16 * freq + f.doppler)
  ((f.codePhase + turn.fdiv (16000000 * freq : Nat)) % (codePeriod f.signal * 2 ^ 28 : Nat)).toNat

/-! ### Lines of sight -/

/-- Speed of light in m/s. -/
def lightSpeed : Rat := 299792458

/-- A position of 0.1 mm in metres, and back. -/
def v3m (p : V3) : Vec := [(p.1 : Rat) / 10000, (p.2.1 : Rat) / 10000, (p.2.2 : Rat) / 10000]
def mV3 (v : Vec) : V3 := (nearest (10000 * v.getD 0 0), nearest (10000 * v.getD 1 0), nearest (10000 * v.getD 2 0))

/-- Range in metres and unit vector from a point to a satellite, the vector's components to 2⁻⁴⁰. -/
def sightTo (x sat : Vec) : Rat × Vec :=
  let d := Vec.sub sat x
  let r := Vec.norm d
  (r, if r = 0 then d else d.map fun k => ((k / r * 2 ^ 40).floor : Rat) / 2 ^ 40)

/-- The rotation into east, north and up at a point. -/
def enuMat (k : SiteCoef) : Mat :=
  [[-k.sl.rat, k.cl.rat, 0], [-k.spcl.rat, -k.spsl.rat, k.cp.rat], [k.cpcl.rat, k.cpsl.rat, k.sp.rat]]
def enuAt (p : V3) : Mat := enuMat (siteCoef p.1 p.2.1 p.2.2)

/-- Sine of a satellite's elevation at a point. -/
def sinElev (p : V3) (sat : V3) : Rat := Vec.dot ((enuAt p).getD 2 []) (sightTo (v3m p) (v3m sat)).2

def ephOf (l : List SatEph) (system sat : Nat) : Option SatEph := l.find? fun e => e.system = system && e.sat = sat
/-- A satellite's clock offset in metres. -/
def clockM (e : SatEph) : Rat := lightSpeed * e.clock / 10 ^ 12

/-- Doppler of a signal predicted at a point at rest, in 2⁻⁴ Hz: positive when the range decreases. -/
def predictDoppler (p : V3) (e : SatEph) (signal : Nat) : Int :=
  nearest (-(16 * (bandFreq (bandOf signal) : Rat) * Vec.dot (sightTo (v3m p) (v3m e.pos)).2 (v3m e.vel) / lightSpeed))

/-- Code phase of a signal predicted at a point at a TIME64, in 2⁻²⁸ ms: that of its transmission (Table 4.3's offsets are whole
seconds). -/
def predictCode (p : V3) (e : SatEph) (signal : Nat) (t : Int) : Nat :=
  let tx : Rat := (t : Rat) / 10 ^ 6 - 1000 * (sightTo (v3m p) (v3m e.pos)).1 / lightSpeed + (e.clock : Rat) / 10 ^ 9
  ((tx * 2 ^ 28).floor % ((codePeriod signal * 2 ^ 28 : Nat) : Int)).toNat

/-! ### Least squares -/

/-- Iterated least squares of n unknowns: `eqs` gives, at an estimate, each equation's coefficients and what is left of its measurement.
The estimate is kept to 2⁻⁴⁰ between steps. -/
def gaussNewton (n : Nat) (eqs : Vec → List (Vec × Rat)) : Nat → Vec → Option (Vec × Mat)
  | 0, _ => none
  | k + 1, x =>
    match leastSquares n (eqs x) with
    | none => none
    | some r =>
      let y := (Vec.add x r.1).map fun v => ((v * 2 ^ 40).floor : Rat) / 2 ^ 40
      if k = 0 then some (y, r.2) else gaussNewton n eqs k y

/-- A pseudorange in metres, its satellite's clock taken off, with the satellite's position and its system. -/
structure CodeObs where
  system : Nat
  pos    : Vec
  range  : Rat
  deriving DecidableEq, Repr, Inhabited

def codeSystems (l : List CodeObs) : List Nat := sortBy (fun a b => decide (a ≤ b)) ((l.map CodeObs.system).eraseDups)

/-- The single-point code solution: position, and the receiver's clock against each system in metres, from a starting point. -/
def singlePoint (start : Vec) (l : List CodeObs) : Option (Vec × List (Nat × Rat)) :=
  let sys := codeSystems l
  let n := 3 + sys.length
  let eqs (x : Vec) : List (Vec × Rat) := l.map fun o =>
    let s := sightTo (x.take 3) o.pos
    let j := (sys.findIdx? (· = o.system)).getD 0
    (Vec.scale (-1) s.2 ++ Vec.one sys.length j, o.range - s.1 - (x.drop 3).getD j 0)
  if l.length < n then none
  else (gaussNewton n eqs 8 (start ++ sys.map fun _ => 0)).map fun r => (r.1.take 3, List.zip sys (r.1.drop 3))

/-! ### Snapshots (R388, R400 to R402) -/

/-- A detected signal with its satellite. -/
abbrev Heard := List (Found × SatEph)

/-- The pseudorange, less whole ms, that a code phase means for a first sample at TIME64 t, in metres. -/
def rawRange (t : Int) (f : Found) : Rat :=
  let ms : Rat := (t : Rat) / 10 ^ 6 - (f.codePhase : Rat) / 2 ^ 28
  lightSpeed / 1000 * (ms - ms.floor)

/-- Pseudoranges with their whole ms resolved from a point: relative to the first signal's (R388). -/
def wholeRanges (from_ : Vec) (t : Int) (l : Heard) : List (Rat × SatEph) :=
  let exp (e : SatEph) : Rat := (sightTo from_ (v3m e.pos)).1 - clockM e
  match l with
  | [] => []
  | h :: _ =>
    let b := rawRange t h.1 - exp h.2
    let ms := lightSpeed / 1000
    l.map fun p => let raw := rawRange t p.1; (raw + ms * nearest ((exp p.2 + b - raw) / ms), p.2)

/-- What a development's solution gave: position (m), clock bias (m), coarse time offset (s), inverse normal matrix of position, mean square
of the residuals (m²). -/
structure Solved where
  pos  : Vec
  bias : Rat
  late : Rat
  cov  : Mat
  res2 : Rat
  deriving DecidableEq, Repr, Inhabited

/-- Position, clock bias and coarse time offset by least squares from code phases at a TIME64: whole periods are resolved from `origin`, and
the iteration starts at `start` (R388). Without `coarse`, time is taken as it is. -/
def snapshotSolve (origin start : Vec) (t : Int) (coarse : Bool) (l : Heard) : Option Solved :=
  let obs := wholeRanges origin t l
  let n := if coarse then 5 else 4
  let eqs (x : Vec) : List (Vec × Rat) := obs.map fun o =>
    let late := if coarse then x.getD 4 0 else 0
    let sat := Vec.add (v3m o.2.pos) (Vec.scale late (v3m o.2.vel))
    let s := sightTo (x.take 3) sat
    (Vec.scale (-1) s.2 ++ [1] ++ (if coarse then [Vec.dot s.2 (v3m o.2.vel)] else []), o.1 + clockM o.2 - s.1 - x.getD 3 0)
  if l.length < 5 then none
  else (gaussNewton n eqs 8 (start ++ List.replicate (n - 3) 0)).map fun r =>
    let res := (eqs r.1).map Prod.snd
    { pos := r.1.take 3, bias := r.1.getD 3 0, late := if coarse then r.1.getD 4 0 else 0,
      cov := (r.2.take 3).map (·.take 3), res2 := (res.map fun x => x * x).sum / res.length }

/-- The clock bias alone, in metres, with the position held (R400). -/
def snapshotBias (at_ : Vec) (t : Int) (l : Heard) : Rat :=
  let obs := wholeRanges at_ t l
  let d := obs.map fun o => o.1 + clockM o.2 - (sightTo at_ (v3m o.2.pos)).1
  if d = [] then 0 else d.sum / d.length

/-- A clock bias in ns: known but for whole ms, it is the one nearest to 0. -/
def biasNs (b : Rat) : Int := nearest (10 ^ 6 * wrapHalf (1000 * b / lightSpeed))

end Sys2Proof.Machine
end

