-- ==== Sys2Proof/Machine/DevOps.lean ====
section
/-!
DEFINITION. What the Developer does: search cost and budgets, machine exposures from arrival to result, own searches and standby
exposures (08_developer_exposures.md).
-/

namespace Sys2Proof.Machine

def State.setDev (s : State) (f : Developer → Developer) : State := { s with dev := f s.dev }

/-! ### Budgets (R372 to R375, R407) -/

/-- A budget under retired regions and the island's step, rounded down (R407). -/
def State.devScaled (s : State) (top : Nat) : Nat :=
  let i := s.isl .developer
  top * (16 - i.regions) * (16 - i.step) / 256
def State.devRate (s : State) : Nat := s.devScaled 640000
def State.machineBudget (s : State) : Nat := s.devScaled (480 * s.tier)
def State.ownBudget (s : State) : Nat := s.devScaled (s.cfg 0x3408 0)

/-- A bucket filled up to now (R374, R456): it holds at most one second of its rate. -/
def Bucket.fill (b : Bucket) (rate now : Nat) : Bucket :=
  { level := min (rate * 1000000000) (b.level + rate * (now - b.at_)), at_ := now }

/-- Whether a latent record waits to start. -/
def Developer.machineWaiting (d : Developer) : Bool := d.latents.any fun x => x.started.isNone

/-- The group whose port an own search takes its first signal's samples from. -/
def OwnSearch.group (x : OwnSearch) : Nat :=
  match x.sigs with
  | [] => 2 * x.antenna
  | a :: _ => groupOf x.antenna a.signal

/-- Whether an own search waits for its budget only. -/
def State.ownWaiting (s : State) : Bool :=
  (s.dev.searches.any fun x => s.feeds x.group) || (match s.dev.standby with
    | some x => !x.started
    | none => false)

/-- The buckets after a search of a cost starts, where they let it (R373, R374). -/
def State.spend (s : State) (own : Bool) (cost : Nat) : Option State :=
  let m := s.dev.machine.fill s.machineBudget s.now
  let o := s.dev.own.fill s.ownBudget s.now
  let c := cost * 1000000000
  let mine := if own then o.level else m.level
  let other := if own then m.level else o.level
  let waiting := if own then s.dev.machineWaiting else s.ownWaiting
  let left : Option (Nat × Nat) :=
    if c ≤ mine then some (mine - c, other)
    else if !waiting && c ≤ mine + other then some (0, other - (c - mine))
    else none
  left.map fun p =>
    let ml := if own then p.2 else p.1
    let ol := if own then p.1 else p.2
    (s.setDev fun d => { d with machine := { m with level := ml }, own := { o with level := ol } }).count 0x09 0 cost

/-! ### Search cost (R368 to R371, R386, R395, R396) -/

/-- Segments of a signal (R370). -/
def segments (c : Nat) (sure : Bool) : Nat := if sure then 1 else codePeriod c
/-- Bins of a half-window of num/den Hz (R369). -/
def binsOf (num den : Nat) : Nat := 2 * ceilDiv num (500 * den) + 1

/-- Bins of an own search in a band (R395, R396, R404), with its frequency uncertainty in parts per 10⁹. -/
def ownBins (k : SearchKind) (band unc : Nat) : Nat :=
  match k with
  | .cold => binsOf (5100 * 1000000000 + bandFreq band * unc) 1000000000
  | .warm => binsOf (150 * 1000000000 + bandFreq band * unc) 1000000000
  | .second => binsOf 100 1
  | .assisted => binsOf 150 1

/-- Whether one segment is enough for an own search: its time is known to 100 µs, or its code phases are (R370, R395, R404). -/
def State.ownSure (s : State) (k : SearchKind) : Bool :=
  match k with
  | .cold | .warm => decide (s.errorBound ≤ 100000)
  | .second | .assisted => true

/-- Cells of one signal of an own search, 4 blocks. -/
def State.ownCost (s : State) (k : SearchKind) (c : Nat) : Nat := 4 * ownBins k (bandOf c) (s.cfg 0x3407 0) * segments c (s.ownSure k)

/-- Satellite numbers of a system: PRNs of GPS, QZSS and SBAS, SV IDs of the others (log entry 22). -/
def satNumbers (system : Nat) : List Nat :=
  match system with
  | 0 => span 1 32 | 1 => span 1 36 | 2 => span 1 63 | 3 => span 193 10 | 4 => span 1 14 | _ => span 120 39

/-- The signals of a cold search: every satellite number of each allotted L1 signal (R396). -/
def State.coldSigs (s : State) (antenna : Nat) : List Sig :=
  let g := 2 * antenna
  ((groupSignals g).filter fun c => 0 < allotCount (s.allotOf g) c).flatMap fun c =>
    (satNumbers (signalSystem c)).map fun n => { system := signalSystem c, sat := n, signal := c }

/-- The longest prefix whose cost is within a bound, and the rest (R398). -/
def takeCost (cost : Sig → Nat) : Nat → List Sig → List Sig × List Sig
  | _, [] => ([], [])
  | room, x :: t =>
    if cost x ≤ room then let r := takeCost cost (room - cost x) t; (x :: r.1, r.2) else ([], x :: t)

/-- An own search, or one part of it, starts when its budget allows (R394 to R398). -/
def State.ownStart (s : State) : State :=
  if !s.up .developer || s.track.mode = 1 then s
  else
    match s.dev.searches.findIdx? fun x => s.feeds x.group with
    | none => s
    | some i =>
      match s.dev.searches[i]? with
      | none => s
      | some x =>
        let sigs := if x.kind = .cold && x.sigs = [] then s.coldSigs x.antenna else x.sigs
        let cost (y : Sig) : Nat := s.ownCost x.kind y.signal
        let p := takeCost cost s.ownBudget sigs
        let rest := if p.2 = [] then s.dev.searches.eraseIdx i else s.dev.searches.set i { x with sigs := p.2 }
        if p.1 = [] then s
        else
          match s.spend true ((p.1.map cost).sum) with
          | none => s
          | some s =>
            let run := { x with sigs := p.1, at_ := s.now, threshold := s.cfg 0x3404 0, freqUnc := s.cfg 0x3407 0, sure := s.ownSure x.kind }
            s.setDev fun d => { d with searches := rest, running := d.running ++ [run] }

/-- A hint for the L5 signal of a satellite found in the L1 band: its Doppler in the other band. -/
def hintL5 (f : Found) (c : Nat) : Found :=
  { f with signal := c, doppler := roundDiv (f.doppler * bandFreq 1) (bandFreq 0) }

/-- Searches a part's findings give rise to: antenna B after antenna A, and the L5 signals after a cold search (R395, R397). -/
def State.nextSearches (s : State) (x : OwnSearch) (found : List Found) : List OwnSearch :=
  if x.antenna ≠ 0 || found = [] then []
  else
    let l5 : List Found := if x.kind = .cold then
        (found.map fun y => (y.system, y.sat)).eraseDups.flatMap fun y =>
          ((groupSignals 1).filter fun c => signalSystem c = y.1 && 0 < allotCount (s.allotOf 1) c).filterMap fun c =>
            (found.find? fun f => f.system = y.1 && f.sat = y.2).map fun f => hintL5 f c
      else []
    (if l5 = [] then [] else [OwnSearch.new 0 .warm (l5.map foundSig) l5 x.at_])
      ++ [OwnSearch.new 1 .second (found.map foundSig) found x.at_]

/-- Where the device itself stands: the site origin, or without a site frame the reference position. -/
def State.homePos (s : State) : V3 := if s.siteState = 0 then s.base.ref else s.siteOrigin

/-- How an own search looks for a signal (R369, R370, R395, R396, R404): about what is known of it already, else about what its orbit
predicts, else about 0 Hz and, where one segment is enough, the code's beginning. -/
def State.ownPlan (s : State) (x : OwnSearch) (sky : List SatEph) (y : Sig) : SearchPlan :=
  let hint := x.hints.find? fun f => foundSig f = y
  let eph := ephOf sky y.system y.sat
  let centre := match hint, eph with
    | some f, _ => f.doppler
    | none, some e => if x.kind = .cold then 0 else predictDoppler s.homePos e y.signal
    | none, none => 0
  let known : Bool := x.kind = .second || x.kind = .assisted
  let code := match hint, eph with
    | some f, some e => if known then laterPhase f (x.at_ - x.hintAt) else predictCode s.homePos e y.signal (s.tb.time64 x.at_)
    | some f, none => if known then laterPhase f (x.at_ - x.hintAt) else 0
    | none, some e => predictCode s.homePos e y.signal (s.tb.time64 x.at_)
    | none, none => 0
  { centre := centre, bins := ownBins x.kind (bandOf y.signal) x.freqUnc, ifHz := 0, about := if x.sure then some code else none }

def snapshotBand (c : Snapshot) (signal : Nat) : List (Int × Int) := if bandOf signal = 0 then c.l1 else c.l5

/-- An own search part ends with the 4 ms of samples it took (R395, R398, R399): each signal detected in it is handed over with its code
phase and Doppler, the code phase propagated to now. -/
def State.ownDone (s : State) (cap : Snapshot) (sky : List SatEph) : State :=
  match s.dev.running with
  | [] => s
  | x :: rest =>
    if !s.up .developer then s
    else
      let all := x.sigs.map fun y => searchSignal ((snapshotBand cap y.signal).take (4 * bandRate (bandOf y.signal))) y (s.ownPlan x sky y)
      let found := all.filter fun f => x.threshold ≤ f.ratio
      let more := s.nextSearches x found
      let s := s.setDev fun d => { d with running := rest, searches := d.searches ++ more }
      found.foldl (fun s f => s.handover x.antenna { f with codePhase := laterPhase f (s.now - x.at_) }) s

/-- Every 10 s (R394): signals predicted in view whose channel is idle are searched. -/
def State.reacquire (s : State) (sky : List SkySignal) : State :=
  let s := s.setDev fun d => { d with sky := sky }
  if !s.up .developer || s.track.mode = 1 then s
  else
    let asked := s.dev.searches.flatMap fun x => x.sigs.map fun y => (x.antenna, y)
    let sigs := sky.map fun y => ({ system := y.system, sat := y.sat, signal := y.signal } : Sig)
    let want (antenna : Nat) (y : Sig) : Bool :=
      let g := groupOf antenna y.signal
      isSignal y.signal && 0 < allotCount (s.allotOf g) y.signal && (s.track.holder g y).isNone && !asked.contains (antenna, y)
    let a := sigs.filter fun y => want 0 y
    let b := sigs.filter fun y => want 1 y && (s.track.holder (groupOf 0 y.signal) y).isSome
    let mk (antenna : Nat) (k : SearchKind) (l : List Sig) : List OwnSearch :=
      if l = [] then [] else [OwnSearch.new antenna k l [] 0]
    let warm := a.filter fun y => s.searchKind y = .warm
    let cold := a.filter fun y => s.searchKind y ≠ .warm
    s.setDev fun d => { d with searches := d.searches ++ mk 0 .warm warm ++ mk 0 .cold cold ++ mk 1 .second b }

/-! ### Machine exposures (R376 to R392) -/

/-- REFUSED_FORMAT of an exposure record (R376, Table 8.4). -/
def exposureOk (r : Bytes) : Bool :=
  let bands := u r 1 1
  let l1 := bit bands 0
  let l5 := bit bands 1
  let w := u r 2 1 + 1
  let i1 := si r 28 4
  let i5 := si r 32 4
  64 ≤ r.length && u r 0 1 = 1 && (1 ≤ bands && bands ≤ 3) && u r 2 1 ≤ 1 && (1 ≤ u r 3 1 && u r 3 1 ≤ 8) && u r 6 1 < 8
    && u r 7 1 = 0 && (1 ≤ u r 24 4 && u r 24 4 ≤ 20000) && (if l1 then i1.natAbs ≤ 500000 else i1 = 0)
    && (if l5 then i5.natAbs ≤ 1000000 else i5 = 0) && (1 ≤ u r 48 4 && u r 48 4 ≤ 3000000)
    && r.length = 64 + (if l1 then blockBytes (u r 3 1) 4092 w else 0) + (if l5 then blockBytes (u r 3 1) 10230 w else 0)

/-- Whether an exposure is assisted, and the fields of its search (R383, R386). -/
def assisted (r : Bytes) : Bool := bit (u r 6 1) 0
def State.latentMax (s : State) : Nat := s.inForce 0x3403 0

/-- The Developer answers firmware's development operation (Tables 8.5, 8.6). -/
def State.devAnswer (s : State) (outcome : Nat) : State := s.emit (.engine Island.developer.id outcome)

/-- A machine exposure is refused. -/
def State.devRefuse (s : State) (outcome : Nat) : State := (s.setDev fun d => { d with refused := wrap 32 (d.refused + 1) }).devAnswer outcome

/-- Checks 1 to 4 of Table 8.5, in order; a failed Developer island answers ABSENT (R78). -/
def State.arrivalCheck (s : State) (slot : Nat) (r : Bytes) : Option Nat :=
  if !s.sService || s.tier ≤ slot || s.gone .developer then some 0x70
  else if !exposureOk r then some 0x30
  else if (Tbl.getD s.dev.seqs slot []).contains (u r 4 2) then some 0x35
  else if s.latentMax ≤ s.dev.latents.length then some 0x50
  else none

/-- A machine exposure arrives (R380). -/
def State.exposureArrival (s : State) (pkt : Bytes) : State :=
  let slot := u pkt 8 2 % 1024
  let r := pkt.drop 16
  let seq := u r 4 2
  if !s.up .compute then s
  else match s.arrivalCheck slot r with
    | some o => s.devRefuse o
    | none =>
      let x : Latent := { slot := slot, arrival := si pkt 0 8, machine := u pkt 12 4, data := r, started := none }
      s.setDev fun d => { d with latents := d.latents ++ [x], seqs := Tbl.put d.seqs slot ((seq :: Tbl.getD d.seqs slot []).take 16) }

/-- Order of R384: highest elevation first. -/
def skyFirst (a b : SkySignal) : Bool :=
  if a.elev ≠ b.elev then b.elev ≤ a.elev
  else a.system * 65536 + a.sat * 256 + a.signal ≤ b.system * 65536 + b.sat * 256 + b.signal

/-- Signals enabled and in view above the mask. -/
def State.inView (s : State) (sky : List SkySignal) : List SkySignal :=
  sky.filter fun y => bit (s.cfg 0x340C 0) y.signal && isSignal y.signal && (s.cfg 0x340B 0 : Int) < y.elev

/-- The signals of a band searched for a machine exposure (R384). -/
def State.expSignals (s : State) (sky : List SkySignal) (band : Nat) : List SkySignal :=
  (sortBy skyFirst ((s.inView sky).filter fun y => bandOf y.signal = band)).take 24

/-- Bins of a machine exposure in a band (R369, R386). -/
def State.expBins (s : State) (r : Bytes) (band : Nat) : Nat :=
  let as_ := assisted r
  let flags := u r 6 1
  let unc := if bit flags 2 && as_ then u r 24 4 else s.cfg 0x3406 0
  let v := if bit flags 1 && as_ then 1000 else s.cfg 0x3405 0
  let c := 299792458000
  let f := bandFreq band
  binsOf (100 * 1000000000 * c + f * unc * c + f * v * 1000000000) (1000000000 * c)

/-- The search of a machine exposure started now (R371, R384 to R387). -/
def State.expSearch (s : State) (r : Bytes) (sky : List SkySignal) : ExpSearch :=
  let sigs (band : Nat) : List Sig := if bit (u r 1 1) band then
      (s.expSignals sky band).map fun y => { system := y.system, sat := y.sat, signal := y.signal } else []
  let bins := (s.expBins r 0, s.expBins r 1)
  let sure : Bool := assisted r && decide (u r 16 4 ≤ 100)
  let cost (l : List Sig) (b : Nat) : Nat := (l.map fun y => segments y.signal sure * b * u r 3 1).sum
  { sigs := sigs 0 ++ sigs 1, bins := bins, sure := sure, threshold := s.cfg 0x3404 0, sigmaMax := s.cfg 0x3409 0,
    residualMax := s.cfg 0x340A 0, cost := cost (sigs 0) bins.1 + cost (sigs 1) bins.2 }

/-- Signals with an ephemeris younger than 4 h (check 7). -/
def State.freshSignals (s : State) (sky : List SkySignal) : Nat :=
  (s.inView sky).countP fun y => match y.ephAge with
    | some a => a < 14400
    | none => false

/-- MachineId of a slot as a machine holds it, or none. -/
def State.holderIs (s : State) (slot id : Nat) : Bool := s.mach slot 1 = id && id ≠ 0xFFFFFFFF

/-- Checks 5 to 8 of Table 8.5, in order. -/
def State.startCheck (s : State) (x : Latent) (sky : List SkySignal) (cost : Nat) : Option Nat :=
  if !s.holderIs x.slot x.machine then some 0x36
  else if x.arrival + (s.cfg 0x3402 0 * ms : Nat) < s.time64 then some 0x33
  else if !s.timed || s.freshSignals sky < 5 then some 0x32
  else if s.machineBudget < cost then some 0x34
  else none

/-- The first waiting exposure starts when its budget allows; its start checks come first of its cost (R380, R381). An exposure that no
budget could ever start is refused at once. -/
def State.exposureStart (s : State) (sky : List SkySignal) : State :=
  let s := s.setDev fun d => { d with sky := sky }
  match s.dev.latents.findIdx? fun x => x.started.isNone with
  | none => s
  | some i =>
    match s.dev.latents[i]? with
    | none => s
    | some x =>
      if !s.up .developer then s
      else
        let e := s.expSearch x.data sky
        match s.spend false e.cost, s.startCheck x sky e.cost with
        | none, o => if s.machineBudget < e.cost then (s.setDev fun d => { d with latents := d.latents.eraseIdx i }).devRefuse (o.getD 0x34) else s
        | some _, some o => (s.setDev fun d => { d with latents := d.latents.eraseIdx i }).devRefuse o
        | some s', none => s'.setDev fun d => { d with latents := d.latents.set i { x with started := some e } }

/-- The detected signals of a development, in the order of Table 8.8. -/
def detected (threshold : Nat) (l : List Found) : List Found :=
  (sortBy (fun a b : Found => decide (a.system * 65536 + a.sat * 256 + a.signal ≤ b.system * 65536 + b.sat * 256 + b.signal))
    (l.filter fun f => threshold ≤ f.ratio)).take 48

/-- Entries of Table 8.8. -/
def foundBytes (f : Found) : Bytes :=
  [byte f.system, byte f.sat, byte f.signal, byte (min 255 f.ratio)] ++ leBytes 4 f.codePhase ++ leInt 4 f.doppler

/-- A development's solution as its record states it: position (0.1 mm), TIME64 of the first sample, sigmas in mm, mean square of the
residuals (m²), signals used. -/
structure DevFix where
  ecef   : V3
  tExp   : Int
  sigmaH : Nat
  sigmaV : Nat
  res2   : Rat
  used   : Nat
  deriving DecidableEq, Repr, Inhabited

/-- The sigmas of a solution at a place: the free 1σ of a code phase times the square roots of the horizontal and vertical variances. -/
def devFix (at_ : V3) (t : Int) (used : Nat) (x : Solved) : DevFix :=
  let c := Mat.sandwich 3 (enuAt at_) x.cov
  let sg (v : Rat) : Nat := (nearest (Config.snapshotSigma * ratSqrt v)).toNat
  { ecef := mV3 x.pos, tExp := t + nearest (10 ^ 9 * x.late), sigmaH := sg (c.at_ 0 0 + c.at_ 1 1), sigmaV := sg (c.at_ 2 2),
    res2 := x.res2, used := used }

/-- Residual RMS at most DevResidualMax (0.1 m). -/
def residualOk (max : Nat) (f : DevFix) : Bool := 100 * f.res2 ≤ (max : Rat) * max

/-- Status of Table 8.6 by the number of signals detected. -/
def devStatus (n residualMax sigmaMax : Nat) (f : Option DevFix) : Nat :=
  if 5 ≤ n then
    match f with
    | some f => if residualOk residualMax f && f.sigmaH ≤ sigmaMax then 1 else 2
    | none => 2
  else if 1 ≤ n then 3 else 4

/-- Square root rounded to the nearest. -/
def nearSqrt (n : Nat) : Nat := (isqrt (4 * n) + 1) / 2

/-- ECEF (0.1 mm) in the site plane (mm), where a site frame is committed. -/
def State.planeOf (s : State) (p : Int × Int × Int) : Option (Int × Int × Int) :=
  if s.siteState = 0 then none else some (toPlane s.siteCoefs s.siteOrigin p)

/-- A result record (Tables 8.7 and 8.8). `unc` is pos_unc and time_unc, `prior` the horizontal distance from prior. -/
def resultRecord (st slot machine seq : Nat) (tStart : Int) (as_ : Bool) (unc : Nat × Nat) (prior : Option Nat) (cost residualMax : Nat)
    (fix : Option DevFix) (det : List Found) : Bytes :=
  let f := fix.filter fun _ => st = 1 || st = 2
  let off := (f.map fun f => f.tExp - tStart).getD 0
  let po := if f.isSome then prior.getD 0xFFFFFFFF else 0xFFFFFFFF
  let flags := b2n as_ + 2 * b2n (po ≠ 0xFFFFFFFF && unc.1 < po) + 4 * b2n (f.isSome && unc.2 * 1000 < off.natAbs)
    + 8 * b2n (f.any fun f => !residualOk residualMax f)
  (match f with
    | some f => leInt 8 f.tExp
    | none => zeros 8) ++ leBytes 2 slot ++ [byte st, byte ((f.map DevFix.used).getD 0)] ++ leBytes 4 machine
    ++ (match f with
    | some f => leInt 8 f.ecef.1 ++ leInt 8 f.ecef.2.1 ++ leInt 8 f.ecef.2.2
    | none => zeros 24) ++ leBytes 4 ((f.map DevFix.sigmaH).getD 0) ++ leBytes 4 ((f.map DevFix.sigmaV).getD 0)
    ++ leInt 4 (if f.isSome then satInt 32 off else -2147483648)
    ++ leBytes 4 po ++ leBytes 2 seq ++ [byte flags, byte det.length] ++ leBytes 4 cost ++ det.flatMap foundBytes

/-- The detected signals whose satellites' orbits are given. -/
def heard (sky : List SatEph) (det : List Found) : Heard := det.filterMap fun f => (ephOf sky f.system f.sat).map fun e => (f, e)

/-- TIME64 that a machine exposure's search takes its first sample to have: t_start when assisted, else the middle of its window (R383,
R385). -/
def State.expTime (s : State) (x : Latent) : Int :=
  if assisted x.data then si x.data 8 8 else x.arrival - ((s.cfg 0x3402 0 + 10) * ms / 2 : Nat)

/-- How a signal of a machine exposure is searched (R369, R370, R386). -/
def State.expPlan (s : State) (x : Latent) (e : ExpSearch) (sky : List SatEph) (y : Sig) : SearchPlan :=
  let r := x.data
  let band := bandOf y.signal
  let eph := ephOf sky y.system y.sat
  let shift : Int := if assisted r && bit (u r 6 1) 2 then -roundDiv (16 * (bandFreq band * si r 20 4)) 1000000000 else 0
  { centre := (eph.map fun k => predictDoppler s.homePos k y.signal).getD 0 + shift, bins := if band = 0 then e.bins.1 else e.bins.2,
    ifHz := si r (28 + 4 * band) 4,
    about := if e.sure then some ((eph.map fun k => predictCode s.homePos k y.signal (s.expTime x)).getD 0) else none }

/-- The development of a machine exposure (R378, R379, R386 to R388): the signals detected in its samples, and the solution. -/
def State.develop (s : State) (x : Latent) (e : ExpSearch) (sky : List SatEph) : List Found × Option DevFix :=
  let r := x.data
  let l1 := exposureSamples r 0
  let l5 := exposureSamples r 1
  let det := detected e.threshold (e.sigs.map fun y =>
    searchSignal (if bandOf y.signal = 0 then l1 else l5) y (s.expPlan x e sky y))
  let h := heard sky det
  let start := if assisted r then v3m (toEcef s.siteCoefs s.siteOrigin (si r 36 4) (si r 40 4) (si r 44 4)) else v3m s.homePos
  let t := s.expTime x
  (det, if 5 ≤ det.length then (snapshotSolve (v3m s.homePos) start t true h).map (devFix s.homePos t h.length) else none)

/-- Horizontal distance of a position from prior, in mm. -/
def State.priorOffset (s : State) (r : Bytes) (p : V3) : Option Nat :=
  if assisted r then (s.planeOf p).map fun v => nearSqrt ((v.1 - si r 36 4) ^ 2 + (v.2.1 - si r 40 4) ^ 2).toNat else none

/-- A development ends (R389 to R391), with the orbits of the satellites searched. A result whose queue has no room is not delivered
yet. -/
def State.devResult (s : State) (slot : Nat) (sky : List SatEph) : State :=
  match s.dev.latents.findIdx? fun x => x.slot = slot with
  | none => s
  | some i =>
    match s.dev.latents[i]? with
    | none => s
    | some x =>
      match x.started with
      | none => s
      | some e =>
        if !s.up .developer then s
        else
          let d := s.develop x e sky
          let st := devStatus d.1.length e.residualMax e.sigmaMax d.2
          let r := resultRecord st x.slot x.machine (u x.data 4 2) (si x.data 8 8) (assisted x.data) (u x.data 48 4, u x.data 16 4)
            (d.2.bind fun f => s.priorOffset x.data f.ecef) e.cost e.residualMax d.2 d.1
          match s.post? (s.cfg 0x3401 0) r with
          | none => s
          | some s =>
            let s := (s.setDev fun d => { d with latents := d.latents.eraseIdx i, developed := wrap 32 (d.developed + 1) }).devAnswer
              (if st = 1 then 0 else 1)
            match st, d.2 with
            | 1, some f => s.issueConf slot (.developed f.tExp f.ecef f.sigmaH (assisted x.data))
            | _, _ => s.issueConf slot (.notice false)

/-! ### Standby exposures (R400 to R403) -/

/-- The search of a standby exposure started now: a warm one of the signals last predicted in view (log entry 23). -/
def State.standbySearch (s : State) : ExpSearch :=
  let sigs := (s.inView s.dev.sky).map fun y => ({ system := y.system, sat := y.sat, signal := y.signal } : Sig)
  let unc := s.cfg 0x3407 0
  { sigs := sigs, bins := (ownBins .warm 0 unc, ownBins .warm 1 unc), sure := s.ownSure .warm, threshold := s.cfg 0x3404 0,
    sigmaMax := s.cfg 0x3409 0, residualMax := s.cfg 0x340A 0,
    cost := (sigs.map fun y => s.ownCost .warm y.signal / 4 * s.cfg 0x3411 0).sum }

/-- At a whole multiple of DevStandbyPeriod, an exposure is taken (R400). -/
def State.standbyExposure (s : State) : State :=
  let per : Int := (s.cfg 0x3410 0 * ms : Nat)
  let k := s.time64.fdiv per
  if !s.up .developer || s.track.mode ≠ 1 || s.dev.standby.isSome || s.dev.period = some k then s
  else
    let e := s.standbySearch
    let go := s.spend true e.cost
    let x : StandbyExp := { at_ := k * per, taken := s.now, length := s.cfg 0x3411 0, search := e, started := go.isSome }
    (go.getD s).setDev fun d => { d with period := some k, standby := some x }

/-- Square of the distance of two ECEF positions, (0.1 mm)². -/
def ecefDist2 (a b : Int × Int × Int) : Nat := ((a.1 - b.1) ^ 2 + (a.2.1 - b.2.1) ^ 2 + (a.2.2 - b.2.2) ^ 2).toNat

/-- What the samples of a standby exposure hold (R400): the signals detected, with their satellites. -/
def State.standbyHeard (s : State) (x : StandbyExp) (cap : Snapshot) (sky : List SatEph) : List Found × Heard :=
  let find (y : Sig) : Found :=
    let eph := ephOf sky y.system y.sat
    let n := x.length * bandRate (bandOf y.signal)
    searchSignal ((snapshotBand cap y.signal).take n) y
      { centre := (eph.map fun k => predictDoppler s.homePos k y.signal).getD 0,
        bins := if bandOf y.signal = 0 then x.search.bins.1 else x.search.bins.2, ifHz := 0,
        about := if x.search.sure then some ((eph.map fun k => predictCode s.homePos k y.signal x.at_).getD 0) else none }
  let det := detected x.search.threshold (x.search.sigs.map find)
  (det, heard sky det)

/-- GNSS time as the Timebase takes it (R349): a receiver clock bias in ns against the system of TrackTimeSystem at its nominal offset,
corrected by that system's broadcast offset, gives TIME64 minus TAI. -/
def State.gnssOffset (s : State) (bias : Int) : Int := bias + Tbl.getD s.track.broadcast (s.cfg 0x300B 0) 0

/-- A standby exposure is developed from its samples (R401 to R403, Table 8.9). The reference position is held; during a survey, or
without a reference, position is solved as well and R402 does not apply. An exposure whose budget has not held its cost stays until
it does. -/
def State.standbyResult (s : State) (cap : Snapshot) (sky : List SatEph) : State :=
  match s.dev.standby with
  | none => s
  | some x =>
    let go := if x.started then some s else s.spend true x.search.cost
    match go with
    | none => s
    | some s1 =>
      if !s.up .developer then s
      else
        let h := s.standbyHeard x cap sky
        let n := h.1.length
        let held : Bool := s.base.survey.isNone && s.cfg 0x3609 0 ≠ 0
        let at_ := if held then s.base.ref else s.homePos
        let sol := if 5 ≤ n then snapshotSolve (v3m at_) (v3m at_) x.at_ false h.2 else none
        let fix := sol.map fun v => { devFix at_ x.at_ h.2.length v with tExp := x.at_ - s.gnssOffset (biasNs v.bias) }
        let (s, seq) := s1.draw
        let r := resultRecord (devStatus n x.search.residualMax x.search.sigmaMax fix) 0xFFFF 0 (seq % 65536) x.at_ false (0, 0) none
          x.search.cost x.search.residualMax fix h.1
        let s := s.setDev fun d => { d with standby := none, result := r, found := h.1, foundAt := x.taken }
        let bias := if held then (if 4 ≤ n then some (snapshotBias (v3m at_) x.at_ h.2) else none) else sol.map Solved.bias
        let s := match bias with
          | some b => s.offset 4 (s.gnssOffset (biasNs b)) 0
          | none => s
        match fix, held with
        | some f, true =>
          let far : Bool := (10 * s.cfg 0x3412 0) ^ 2 < ecefDist2 f.ecef s.base.ref
          let s := s.setDev fun d => { d with flags := b2n far }
          if far then s.logEv .devStandbyPosition [] else s
        | _, _ => s

/-! ### Restart, failure and reset (R405, R406, Table 8.9) -/

def State.devRestart (s : State) : State :=
  s.setDev fun d => { d with searches := d.running ++ d.searches, running := [], standby := none,
                             latents := d.latents.map fun x => { x with started := none } }

/-- The Developer island failed: every waiting exposure ends ABSENT. -/
def State.devFailed (s : State) : State :=
  let n := s.dev.latents.length
  let s := s.setDev fun d => { d with latents := [], searches := [], running := [], standby := none }
  Nat.repeat (fun s => s.devRefuse 0x70) n s

/-- After a reset of the Developer island alone, firmware issues again what the reset ended, from the latent records in LPDDR and with new
samples (R65, R67); the counters and the latest standby result stay. -/
def State.devIslandReset (s : State) : State :=
  let old := s.dev
  s.setDev fun _ =>
    { Developer.start s.machineBudget s.now with
      own := Bucket.full s.ownBudget s.now, latents := old.latents.map fun x => { x with started := none }, seqs := old.seqs,
      searches := old.running ++ old.searches, sky := old.sky, result := old.result, found := old.found, foundAt := old.foundAt,
      flags := old.flags, developed := old.developed, refused := old.refused, period := old.period }

def State.devReset (s : State) : State := s.setDev fun _ =>
  { Developer.start s.machineBudget s.now with own := Bucket.full s.ownBudget s.now }

/-- The Developer is released: its budgets are full (log entry 29). -/
def State.devRelease (s : State) : State :=
  let m := Bucket.full s.machineBudget s.now
  let o := Bucket.full s.ownBudget s.now
  s.setDev fun d => { d with machine := m, own := o }

end Sys2Proof.Machine
end

