-- ==== Sys2Proof/Machine/Lattice.lean ====
section
/-!
DEFINITION. The integer search of the rover solver: decorrelation by integer unimodular steps, and the search for the two nearest
integer vectors within a limit of nodes (10_fixer_rover_solving.md R473 to R475).
-/

namespace Sys2Proof.Machine

/-! ### Decorrelation -/

/-- Float ambiguities and their covariance after a unimodular transformation, with the matrix that leads back, by its columns. -/
structure Decor where
  a : Vec
  q : Mat
  back : List (List Int)
  deriving DecidableEq, Repr, Inhabited

def Decor.start (a : Vec) (q : Mat) : Decor :=
  { a := a, q := q, back := (List.range a.length).map fun i => (List.range a.length).map fun j => if i = j then 1 else 0 }

/-- Ambiguity i less μ times ambiguity j, where μ is the whole number that lowers its variance most. -/
def Decor.step (d : Decor) (i j : Nat) : Decor :=
  let qjj := d.q.at_ j j
  let m := if qjj = 0 || i = j then 0 else nearest (d.q.at_ i j / qjj)
  if m = 0 then d
  else
    let k : Rat := m
    let q := d.q.set i (Vec.sub (d.q.getD i []) (Vec.scale k (d.q.getD j [])))
    { a := d.a.set i (d.a.getD i 0 - k * d.a.getD j 0),
      q := q.map fun r => r.set i (r.getD i 0 - k * r.getD j 0),
      back := d.back.set j (List.zipWith (fun x y => x + m * y) (d.back.getD j []) (d.back.getD i [])) }

/-- The steps of every pair, in order. -/
def Decor.sweep (d : Decor) : Decor :=
  let n := d.a.length
  (List.range n).foldl (fun d i => (List.range n).foldl (fun d j => d.step i j) d) d

/-- The ambiguities in falling order of their variance: the search begins with the last. -/
def Decor.sort (d : Decor) : Decor :=
  let o := sortBy (fun i j => decide (d.q.at_ j j ≤ d.q.at_ i i)) (List.range d.a.length)
  { a := o.map (d.a.getD · 0), q := o.map fun i => o.map fun j => d.q.at_ i j, back := o.map (d.back.getD · []) }

/-- The decorrelated ambiguities: as many sweeps as there are ambiguities, then sorted. -/
def decorrelate (a : Vec) (q : Mat) : Decor := (Nat.repeat Decor.sweep a.length (Decor.start a q)).sort

/-- The integer vector that a decorrelated one stands for. -/
def Decor.undo (d : Decor) (z : List Int) : List Int :=
  (List.zipWith (fun c k => c.map (k * ·)) d.back z).foldl (List.zipWith (· + ·)) (List.replicate d.a.length 0)

/-! ### Search -/

/-- A quadratic form as a sum of squares: for each unknown its weight and the factors of the later ones. -/
def ldl : Nat → Mat → List (Rat × Vec)
  | 0, _ => []
  | n + 1, m =>
    let r := m.headD []
    let w := r.headD 0
    let f := if w = 0 then r.tail.map fun _ => 0 else Vec.scale (1 / w) r.tail
    (w, f) :: ldl n (m.tail.map fun row => Vec.sub row.tail (Vec.scale (row.headD 0) f))

/-- One level of the search: weight, factors of the levels already set, float value. -/
structure Level where
  w : Rat
  f : Vec
  a : Rat
  deriving DecidableEq, Repr, Inhabited

/-- A node: the levels still to set, the integers set with their distances from the float values, the squared distance so far, and how
many candidates of the next level have been visited. -/
structure Node where
  levels : List Level
  zs : List Int
  xs : Vec
  dist : Rat
  k : Nat
  deriving DecidableEq, Repr, Inhabited

/-- The k-th nearest integer to c. -/
def zig (c : Rat) (k : Nat) : Int :=
  let b := nearest c
  let side : Int := if (b : Rat) ≤ c then 1 else -1
  if k % 2 = 1 then b + side * ((k + 1) / 2 : Nat) else b - side * (k / 2 : Nat)

/-- The two best vectors so far, nearest first. -/
abbrev Best := List (Rat × List Int)

def Best.put (b : Best) (d : Rat) (z : List Int) : Best :=
  match b with
  | [] => [(d, z)]
  | [x] => if d < x.1 then [(d, z), x] else [x, (d, z)]
  | x :: y :: _ => if d < x.1 then [(d, z), x] else if d < y.1 then [x, (d, z)] else b

/-- Whether a distance can still improve on the second best. -/
def Best.open_ (b : Best) (d : Rat) : Bool :=
  match b with
  | _ :: y :: _ => d < y.1
  | _ => true

/-- The search, depth first: at most `fuel` nodes, and whether it has finished within them. -/
def searchGo : Nat → List Node → Best → Best × Bool
  | _, [], b => (b, true)
  | 0, _ :: _, b => (b, false)
  | fuel + 1, n :: rest, b =>
    match n.levels with
    | [] => searchGo fuel rest b
    | l :: ls =>
      let c := l.a - Vec.dot l.f n.xs
      let z := zig c n.k
      let d := n.dist + l.w * ((z : Rat) - c) * ((z : Rat) - c)
      if !Best.open_ b d then searchGo fuel rest b
      else
        let next : Node := { n with k := n.k + 1 }
        match ls with
        | [] => searchGo fuel (next :: rest) (b.put d (z :: n.zs))
        | _ => searchGo fuel ({ levels := ls, zs := z :: n.zs, xs := ((z : Rat) - l.a) :: n.xs, dist := d, k := 0 } :: next :: rest) b

/-- What a search found (R473): the nearest integer vector with the two squared distances, and whether it finished within the limit. -/
structure Found2 where
  z : List Int
  q1 : Rat
  q2 : Rat
  done : Bool
  deriving DecidableEq, Repr, Inhabited

/-- The search of R473 over float ambiguities of a covariance, visiting at most `limit` nodes. -/
def latticeSearch (limit : Nat) (a : Vec) (q : Mat) : Found2 :=
  let d := decorrelate a q
  match Mat.inv a.length d.q with
  | none => { z := [], q1 := 0, q2 := 0, done := false }
  | some w =>
    let levels := (List.zipWith (fun p x => ({ w := p.1, f := p.2, a := x } : Level)) (ldl a.length w) d.a).reverse
    let r := searchGo limit [{ levels := levels, zs := [], xs := [], dist := 0, k := 0 }] []
    match r.1 with
    | x :: y :: _ => { z := d.undo x.2, q1 := x.1, q2 := y.1, done := r.2 }
    | _ => { z := [], q1 := 0, q2 := 0, done := false }

/-- The ratio in 0.01, rounded down and saturated at 655.35 (R475). -/
def ratioOf (q1 q2 : Rat) : Nat := if q1 = 0 then 65535 else min 65535 (100 * q2 / q1).floor.toNat

end Sys2Proof.Machine
end

