-- ==== Sys2Proof/Machine/Filter.lean ====
section
/-!
DEFINITION. The float filter of the rover solver and the validation of its integers: double differences, states and their models,
reset and re-reference of ambiguities, the search over candidate sets and the antenna B test (10_fixer_rover_solving.md R451, R452,
R461 to R466, R472 to R480, R483). The network solution of the base runs the same filter (R441).
-/

namespace Sys2Proof.Machine

/-! ### Observations -/

/-- One signal as a receiver observed it: pseudorange (m), carrier phase as counted (in units of 2⁻ᵇ cycle, wrapping at `wrap` bits) with
what the propagation to the time of the solution adds to it (cycles), its Doppler's share already in; whether that phase can be
used (valid, half-cycle resolved), slip_count. -/
structure PhaseObs where
  sig   : Sig
  range : Rat
  raw   : Nat
  add   : Rat
  ok    : Bool
  slips : Nat
  deriving DecidableEq, Repr, Inhabited

/-- A kind of phase count: bits of the count, and bits of its fraction. -/
structure PhaseUnit where
  bits : Nat
  frac : Nat
  deriving DecidableEq, Repr, Inhabited

/-- Table 10.2: I40 in 2⁻¹² cycle. -/
def entryUnit : PhaseUnit := { bits := 40, frac := 12 }
/-- Table 7.9: I48 in 2⁻¹⁶ cycle. -/
def recordUnit : PhaseUnit := { bits := 48, frac := 16 }

/-- The settings the filter and its validation run by (Table 10.11). -/
structure FilterPars where
  codeSigma  : Nat
  phaseSigma : Nat
  accel      : Nat
  ionoPpm    : Nat
  elevMask   : Nat
  ratioMin   : Nat
  minFixed   : Nat
  partialDrop : Nat
  abFracMax  : Nat
  phaseResMax : Nat
  nodes      : Nat
  deriving DecidableEq, Repr, Inhabited

/-- The defaults (R441). -/
def FilterPars.default : FilterPars :=
  { codeSigma := 300, phaseSigma := 30, accel := 1000, ionoPpm := 10, elevMask := 10, ratioMin := 300, minFixed := 8, partialDrop := 6,
    abFracMax := 100, phaseResMax := 20, nodes := 50000 }

/-- The frame of the position states: its origin (ECEF, 0.1 mm) and the rotation into east, north and up. -/
structure Frame where
  origin : V3
  rot    : Mat
  deriving DecidableEq, Repr, Inhabited

def frameAt (p : V3) : Frame := { origin := p, rot := enuAt p }
/-- A point of the frame in ECEF metres, and back. -/
def Frame.out (f : Frame) (p : Vec) : Vec := Vec.add (v3m f.origin) ((f.rot.transp 3).mulVec p)
def Frame.into (f : Frame) (p : Vec) : Vec := f.rot.mulVec (Vec.sub p (v3m f.origin))

/-- What an epoch is solved from (R461 to R464): its time, the observations of the machine and of base antennas A and B with their units,
the satellites, the positions of A and B (ECEF, 0.1 mm) and the settings. -/
structure FilterIn where
  t      : Int
  rover  : List PhaseObs
  base   : List PhaseObs
  baseB  : List PhaseObs
  roverUnit : PhaseUnit
  baseUnit  : PhaseUnit
  sky    : List SatEph
  posA   : V3
  posB   : V3
  frame  : Frame
  pars   : FilterPars
  deriving DecidableEq, Repr, Inhabited

/-- Wavelength in metres. -/
def waveLength (signal : Nat) : Rat := lightSpeed / bandFreq (bandOf signal)

/-! ### Measurement records (Table 7.9) -/

def recSig (r : Nat) : Sig := { system := bits r 290 3, sat := bits r 282 8, signal := bits r 277 5 }
/-- The measurement instant in ns of TIME64, and the Doppler in Hz. -/
def recTime (r : Nat) : Rat := (signed 80 (bits r 304 80) : Rat) / 65536
def recDoppler (r : Nat) : Rat := (signed 32 (bits r 119 32) : Rat) / 1024

/-- TIME64 in s at which the weeks of a system's time begin to count (Table 4.3). -/
def systemZero (system : Nat) : Int := if system = 1 then 935280019 else if system = 2 then 1136073633 else 315964819

/-- The pseudorange of a record in metres (R348): its week is known modulo 8,192. -/
def recRange (r : Nat) : Rat :=
  let week : Rat := 604800000
  let rx := recTime r / 10 ^ 6 - 1000 * systemZero (bits r 290 3)
  let tx := week * bits r 261 13 + bits r 231 30 + (bits r 199 32 : Rat) / 2 ^ 32
  let cycle := 8192 * week
  lightSpeed / 1000 * (cycle * wrapHalf ((rx - tx) / cycle))

/-- Seconds from an instant to a record's measurement. -/
def recAhead (t : Int) (r : Nat) : Rat := (recTime r - t) / 10 ^ 9

/-- A record's pseudorange and phase (cycles) at an instant, by its Doppler (R350, R433, R462). -/
def recRangeAt (t : Int) (r : Nat) : Rat := recRange r + waveLength (bits r 277 5) * recDoppler r * recAhead t r
def recPhaseAt (t : Int) (r : Nat) : Rat := (signed 48 (bits r 151 48) : Rat) / 65536 + recDoppler r * recAhead t r

/-- A record as the filter takes it at an instant. -/
def recObs (t : Int) (r : Nat) : PhaseObs :=
  { sig := recSig r, range := recRangeAt t r, raw := bits r 151 48, add := recDoppler r * recAhead t r, ok := bit r 59 && !bit r 58,
    slips := bits r 85 4 }

/-- An entry of an observation record (Table 10.2) as the filter takes it. -/
def entryObs (e : Nat) : PhaseObs :=
  { sig := { system := bits e 125 3, sat := bits e 117 8, signal := bits e 112 5 }, range := (bits e 76 36 : Rat) / 1024, raw := bits e 36 40,
    add := 0, ok := bit e 2 && !bit e 4, slips := bits e 5 4 }

/-- A pseudorange with its satellite (R416, R463). -/
def codeOf (sky : List SatEph) (x : Sig) (range : Rat) : Option CodeObs :=
  (ephOf sky x.system x.sat).map fun e => { system := x.system, pos := v3m e.pos, range := range + clockM e }

def obsOf (l : List PhaseObs) (x : Sig) : Option PhaseObs := l.find? fun o => o.sig = x

/-- Sine of a satellite's elevation as seen from the reference position. -/
def FilterIn.elev (f : FilterIn) (system sat : Nat) : Rat :=
  match ephOf f.sky system sat with
  | some e => sinElev f.posA e.pos
  | none => -1

/-! ### Phase counts (R451) -/

/-- The change of a wrapping count, brought to −2ⁿ⁻¹ … 2ⁿ⁻¹ − 1 (R451). -/
def phaseChange (bits old new : Nat) : Int := signed bits ((new + 2 ^ bits - old % 2 ^ bits) % 2 ^ bits)

/-- A signal's track after an epoch in which both sides observed it. -/
def trackStep (f : FilterIn) (old : Option PhaseTrack) (a b : PhaseObs) : PhaseTrack :=
  match old with
  | none => { sig := a.sig, slips := (a.slips, b.slips), raw := (a.raw, b.raw),
              sum := (signed f.roverUnit.bits a.raw, signed f.baseUnit.bits b.raw), ok := a.ok && b.ok }
  | some o => { sig := a.sig, slips := (a.slips, b.slips), raw := (a.raw, b.raw),
                sum := (o.sum.1 + phaseChange f.roverUnit.bits o.raw.1 a.raw, o.sum.2 + phaseChange f.baseUnit.bits o.raw.2 b.raw),
                ok := a.ok && b.ok }

/-- Machine's phase less the base's, in cycles, both at the time of the solution. -/
def FilterIn.single (f : FilterIn) (t : PhaseTrack) (a b : PhaseObs) : Rat :=
  (t.sum.1 : Rat) / 2 ^ f.roverUnit.frac + a.add - ((t.sum.2 : Rat) / 2 ^ f.baseUnit.frac + b.add)

/-! ### States (Table 10.4) -/

/-- The filter at work: an exact estimate with its states. -/
structure Work where
  e      : Est
  states : List FState
  ionRef : Nat × Nat
  deriving DecidableEq, Repr, Inhabited

def Filter.work (f : Filter) : Work := { e := { x := f.x.map Dy.rat, p := f.p.map (·.map Dy.rat) }, states := f.states, ionRef := f.ionRef }

def Work.find (w : Work) (g : FState → Bool) : Option Nat := (w.states.findIdx? g).map (6 + ·)
def isAmb (signal sat : Nat) : FState → Bool
  | .amb s _ _ _ => s.signal = signal && s.sat = sat
  | .ion _ _ => false
def isIon (system sat : Nat) : FState → Bool
  | .amb _ _ _ _ => false
  | .ion y n => y = system && n = sat

/-- A new state. -/
def Work.push (w : Work) (k : FState) (v var : Rat) : Work := { w with e := w.e.push v var, states := w.states ++ [k] }

/-- Only the states that a test keeps. -/
def Work.keep (w : Work) (g : FState → Bool) : Work :=
  let l := (w.states.mapIdx fun i k => (6 + i, k)).filter fun p => g p.2
  { w with e := w.e.pick (List.range 6 ++ l.map Prod.fst), states := l.map Prod.snd }

/-- The variance that says nothing of a state: 10¹⁰ in the square of its unit (R465). -/
def wide : Rat := 10 ^ 10

/-- The filter after re-initialisation at a position of the frame (R467): nothing else is known. -/
def Work.start (pos : Vec) : Work :=
  { e := { x := pos ++ [0, 0, 0], p := (List.range 6).map fun i => (List.range 6).map fun j => if i = j then wide else 0 }, states := [],
    ionRef := (0, 0) }

/-- Position integrated from velocity over dt seconds, velocity a random walk (Table 10.4), the ionosphere a random walk of free
density. -/
def Work.predict (w : Work) (dt : Rat) (accel : Nat) : Work :=
  let n := w.e.x.length
  let g := (List.range n).map fun i => if i < 3 then Vec.add (Vec.one n i) (Vec.scale dt (Vec.one n (i + 3))) else Vec.one n i
  let e := w.e.map g
  let a : Rat := (accel : Rat) / 1000
  let s := a * a
  let noise (i j : Nat) : Rat :=
    if i = j then
      (if i < 3 then s * dt * dt * dt / 3 else if i < 6 then s * dt
       else match w.states[i - 6]? with
        | some (.ion _ _) => (Config.ionoWalk : Rat) / 10 ^ 6 * dt
        | _ => 0)
    else if (i < 3 && j = i + 3) || (j < 3 && i = j + 3) then s * dt * dt / 2 else 0
  { w with e := { e with p := e.p.mapIdx fun i row => row.mapIdx fun j v => v + noise i j } }

/-- The states in another frame: position and velocity are turned, position is moved as well. -/
def Work.reframe (w : Work) (old new : Frame) : Work :=
  let turn := Mat.mul 3 new.rot (old.rot.transp 3)
  let n := w.e.x.length
  let pad (r : Vec) (at_ : Nat) : Vec := List.replicate at_ 0 ++ r ++ List.replicate (n - at_ - 3) 0
  let g := turn.map (pad · 0) ++ turn.map (pad · 3) ++ (List.range (n - 6)).map fun i => Vec.one n (6 + i)
  let e := w.e.map g
  { w with e := { e with x := new.into (old.out (w.e.x.take 3)) ++ e.x.drop 3 } }

/-! ### Double differences (R461, R464) -/

/-- A double difference: the satellite and its reference of one signal, each with both sides' observations and its track. -/
structure Pairing where
  j  : Sig
  r  : Sig
  oj : PhaseObs × PhaseObs
  or : PhaseObs × PhaseObs
  tj : PhaseTrack
  tr : PhaseTrack
  deriving DecidableEq, Repr, Inhabited

/-- The signals both sides observed. -/
def FilterIn.common (f : FilterIn) : List (PhaseObs × PhaseObs) :=
  f.rover.filterMap fun a => (obsOf f.base a.sig).bind fun b => (ephOf f.sky a.sig.system a.sig.sat).map fun _ => (a, b)

/-- The reference of a signal: the satellite of highest elevation that both sides observed it of. -/
def FilterIn.refOf (f : FilterIn) (c : Nat) : Option Sig :=
  least (fun a b => decide (f.elev b.system b.sat ≤ f.elev a.system a.sat)) ((f.common.filter fun p => p.1.sig.signal = c).map fun p => p.1.sig)

/-- The double differences of an epoch, given its tracks. -/
def FilterIn.pairings (f : FilterIn) (tracks : List PhaseTrack) : List Pairing :=
  f.common.filterMap fun p =>
    let x := p.1.sig
    match f.refOf x.signal with
    | none => none
    | some r =>
      if r = x then none
      else match f.common.find? (fun q => q.1.sig = r), tracks.find? (fun t => t.sig = x), tracks.find? (fun t => t.sig = r) with
        | some q, some tj, some tr => some { j := x, r := r, oj := p, or := q, tj := tj, tr := tr }
        | _, _, _ => none

/-- The factor of the ionosphere against the L1 band. -/
def ionoFactor (signal : Nat) : Rat := let k : Rat := (bandFreq 0 : Rat) / bandFreq (bandOf signal); k * k

/-- Range of a satellite from a point (ECEF, m). -/
def FilterIn.rangeFrom (f : FilterIn) (p : Vec) (x : Sig) : Rat × Vec :=
  match ephOf f.sky x.system x.sat with
  | some e => sightTo p (v3m e.pos)
  | none => (0, [0, 0, 0])

/-- Double-differenced range from a point against a base position (0.1 mm), and its derivative by position in ECEF. -/
def FilterIn.ddRange (f : FilterIn) (p : Vec) (base : V3) (d : Pairing) : Rat × Vec :=
  let a := f.rangeFrom p d.j
  let b := f.rangeFrom p d.r
  let at_ := v3m base
  (a.1 - b.1 - ((f.rangeFrom at_ d.j).1 - (f.rangeFrom at_ d.r).1), Vec.sub b.2 a.2)

/-- Double-differenced pseudorange in m, and carrier phase in cycles. -/
def Pairing.code (d : Pairing) : Rat := d.oj.1.range - d.oj.2.range - (d.or.1.range - d.or.2.range)
def FilterIn.phase (f : FilterIn) (d : Pairing) : Rat := f.single d.tj d.oj.1 d.oj.2 - f.single d.tr d.or.1 d.or.2
/-- Whether its phase can be used: valid and free of half cycles on both sides and both satellites. -/
def Pairing.phaseOk (d : Pairing) : Bool := d.tj.ok && d.tr.ok

/-- Weight of R464: a 1σ divided by the sine of the lower elevation, squared. -/
def FilterIn.variance (f : FilterIn) (sigma : Rat) (d : Pairing) : Rat :=
  let s := min (f.elev d.j.system d.j.sat) (f.elev d.r.system d.r.sat)
  if s ≤ 0 then wide else (sigma / s) * (sigma / s)

/-! ### Ambiguities through an epoch (R465, R466) -/

/-- The reference satellites of an epoch, by signal code. -/
def refsOf (l : List Pairing) : List (Nat × Nat) := (l.map fun d => (d.r.signal, d.r.sat)).eraseDups
def refIn (refs : List (Nat × Nat)) (c : Nat) : Option Nat := (refs.find? fun p => p.1 = c).map Prod.snd

/-- A new reference that a signal's ambiguities do not know yet gets one of its own, of which nothing is known. -/
def Work.admitRef (w : Work) (c r : Nat) : Work :=
  if (w.find (isAmb c r)).isSome then w
  else match w.states.findSome? fun k => match k with
      | .amb s ref _ _ => if s.signal = c && ref ≠ r then some (s.system, ref) else none
      | .ion _ _ => none with
    | some (y, ref) => w.push (.amb { system := y, sat := r, signal := c } ref none 0) 0 wide
    | none => w

/-- The held integer and the continuity of an ambiguity. -/
def Work.heldOf (w : Work) (c sat : Nat) : Option Int × Nat :=
  match w.states.find? (isAmb c sat) with
  | some (.amb _ _ h n) => (h, n)
  | _ => (none, 0)

/-- Every ambiguity of a signal is mapped onto the signal's new reference, and every ionosphere state onto the new reference of all
(R466): linear maps, held integers with them; nothing is reset. -/
def Work.rereference (w : Work) (refs : List (Nat × Nat)) (ionRef : Nat × Nat) : Work :=
  let w := refs.foldl (fun w p => w.admitRef p.1 p.2) w
  let w := if w.ionRef = ionRef || w.states.any (isIon ionRef.1 ionRef.2) || !(w.states.any fun k => match k with
      | .ion _ _ => true
      | _ => false) then w else w.push (.ion ionRef.1 ionRef.2) 0 wide
  let n := w.e.x.length
  let one (o : Option Nat) : Vec := Vec.one n (o.getD n)
  let l := w.states.mapIdx fun i k => match k with
    | .amb s ref h cnt =>
      (match refIn refs s.signal with
      | some r =>
        if r = ref then (Vec.one n (6 + i), k)
        else if s.sat = r then (Vec.scale (-1) (Vec.one n (6 + i)), FState.amb { s with sat := ref } r (h.map fun v => -v) cnt)
        else
          let b := w.heldOf s.signal r
          (Vec.sub (Vec.one n (6 + i)) (one (w.find (isAmb s.signal r))),
           FState.amb s r (h.bind fun v => b.1.map fun u => v - u) (min cnt b.2))
      | none => (Vec.one n (6 + i), k))
    | .ion y m =>
      if w.ionRef = ionRef then (Vec.one n (6 + i), k)
      else if (y, m) = ionRef then (Vec.scale (-1) (Vec.one n (6 + i)), FState.ion w.ionRef.1 w.ionRef.2)
      else (Vec.sub (Vec.one n (6 + i)) (one (w.find (isIon ionRef.1 ionRef.2))), k)
  { e := w.e.map ((List.range 6).map (Vec.one n) ++ l.map Prod.fst), states := l.map Prod.snd, ionRef := ionRef }

/-- The value an ambiguity starts at: phase less code, in cycles. -/
def FilterIn.ambStart (f : FilterIn) (d : Pairing) : Rat := f.phase d - d.code / waveLength d.j.signal

/-- Whether an ambiguity is reset to float (R465): a slip on either side, a phase that cannot be used on either side, or a signal that was
missing, of the satellite or of its reference. -/
def ambBroken (old : List PhaseTrack) (d : Pairing) : Bool :=
  let bad (t : PhaseTrack) : Bool := !t.ok || (match old.find? fun o => o.sig = t.sig with
    | some o => o.slips ≠ t.slips || !o.ok
    | none => true)
  bad d.tj || bad d.tr

/-- The ambiguity of a double difference in an epoch: kept and one epoch older, reset, or new. -/
def Work.ambiguity (w : Work) (f : FilterIn) (old : List PhaseTrack) (d : Pairing) : Work :=
  let n := if d.phaseOk then 1 else 0
  match w.find (isAmb d.j.signal d.j.sat) with
  | none => w.push (.amb d.j d.r.sat none n) (f.ambStart d) wide
  | some i =>
    if ambBroken old d then
      { w with e := w.e.reset i (f.ambStart d) wide, states := w.states.set (i - 6) (.amb d.j d.r.sat none n) }
    else match w.states[i - 6]? with
      | some (.amb s r h cnt) => { w with states := w.states.set (i - 6) (.amb s r h (cnt + 1)) }
      | _ => w

/-- The ionosphere's 1σ in m: RoverIonoPpm (0.1 ppm) of the baseline's length. -/
def FilterIn.ionoSigma (f : FilterIn) (p : Vec) : Rat := (f.pars.ionoPpm : Rat) / 10 ^ 7 * Vec.norm (Vec.sub p (v3m f.posA))

/-- The satellites of some double differences. -/
def pairedSats (l : List Pairing) : List (Nat × Nat) := (l.flatMap fun d => [(d.j.system, d.j.sat), (d.r.system, d.r.sat)]).eraseDups

/-- The states of an epoch: ambiguities and ionosphere re-referenced, those of signals and satellites no longer there dropped, new ones
added (R461, R465, R466). -/
def Work.prepare (w : Work) (f : FilterIn) (old : List PhaseTrack) (l : List Pairing) (sigma : Rat) : Work :=
  let sats := pairedSats l
  match least (fun a b => decide (f.elev b.1 b.2 ≤ f.elev a.1 a.2)) sats with
  | none => w.keep fun _ => false
  | some g =>
    let w := (w.rereference (refsOf l) g).keep fun k => match k with
      | .amb s _ _ _ => l.any fun d => d.j = s
      | .ion y n => sats.contains (y, n) && (y, n) ≠ g
    let w := l.foldl (fun w d => w.ambiguity f old d) w
    (sats.filter (· ≠ g)).foldl (fun w p => if w.states.any (isIon p.1 p.2) then w else w.push (.ion p.1 p.2) 0 (sigma * sigma)) w

/-! ### The update (R461 to R464) -/

/-- A scalar measurement of the states: coefficients, value, variance. -/
structure Meas where
  h : Vec
  z : Rat
  r : Rat
  deriving DecidableEq, Repr, Inhabited

/-- Coefficients of a double difference: position in the frame, ionosphere with its sign, and its ambiguity where it is a phase. -/
def Work.coeffs (w : Work) (f : FilterIn) (dpos : Vec) (d : Pairing) (isPhase : Bool) : Vec :=
  let n := w.e.x.length
  let g := ionoFactor d.j.signal * (if isPhase then -1 else 1)
  let ion (x : Sig) : Vec := match w.find (isIon x.system x.sat) with
    | some i => Vec.one n i
    | none => List.replicate n 0
  let amb : Vec := if isPhase then (match w.find (isAmb d.j.signal d.j.sat) with
      | some i => Vec.scale (waveLength d.j.signal) (Vec.one n i)
      | none => List.replicate n 0) else List.replicate n 0
  Vec.add (f.frame.rot.mulVec dpos ++ List.replicate (n - 3) 0) (Vec.add (Vec.scale g (Vec.sub (ion d.j) (ion d.r))) amb)

/-- What a double difference measures, linearised at the predicted position x0 (ECEF, m): code, or phase in metres. -/
def Work.measure (w : Work) (f : FilterIn) (x0 : Vec) (d : Pairing) (isPhase : Bool) : Meas :=
  let rho := f.ddRange x0 f.posA d
  let h := w.coeffs f rho.2 d isPhase
  let z := if isPhase then waveLength d.j.signal * f.phase d else d.code
  let lin := Vec.dot (h.take 3) (w.e.x.take 3)
  let sigma : Rat := if isPhase then (f.pars.phaseSigma : Rat) / 10 ^ 4 else (f.pars.codeSigma : Rat) / 1000
  { h := h, z := z - rho.1 + lin, r := f.variance sigma d }

/-- The measurements of an epoch: every code, every phase that can be used, and the ionosphere's constraint to zero. -/
def Work.measures (w : Work) (f : FilterIn) (x0 : Vec) (l : List Pairing) (sigma : Rat) : List Meas :=
  let n := w.e.x.length
  l.map (fun d => w.measure f x0 d false) ++ (l.filter Pairing.phaseOk).map (fun d => w.measure f x0 d true)
    ++ (w.states.mapIdx fun i k => (i, k)).filterMap fun p => match p.2 with
      | .ion _ _ => some { h := Vec.one n (6 + p.1), z := 0, r := sigma * sigma }
      | .amb _ _ _ _ => none

def Work.update (w : Work) (l : List Meas) : Work := { w with e := l.foldl (fun e m => e.update m.h m.z m.r) w.e }

/-- The estimate with ambiguities at whole numbers: place and integer of each. -/
def Est.condition (e : Est) (l : List (Nat × Int)) : Est :=
  l.foldl (fun e p => e.update (Vec.one e.x.length p.1) p.2 0) e

/-! ### Validation (R472 to R480) -/

/-- The places of the held ambiguities with their integers. -/
def Work.held (w : Work) : List (Nat × Int) :=
  (w.states.mapIdx fun i k => (6 + i, k)).filterMap fun p => match p.2 with
    | .amb _ _ (some v) _ => some (p.1, v)
    | _ => none

/-- The candidate ambiguities, each by its place with the sine of its satellite's elevation (R472). -/
def Work.candidates (w : Work) (f : FilterIn) : List (Nat × Rat) :=
  (w.states.mapIdx fun i k => (6 + i, k)).filterMap fun p => match p.2 with
    | .amb s _ _ n => if 2 ≤ n && sinDeg f.pars.elevMask ≤ f.elev s.system s.sat then some (p.1, f.elev s.system s.sat) else none
    | .ion _ _ => none

/-- Residuals of antenna B's double-differenced phases in cycles against the ranges from a position (ECEF, m) (R476). -/
def FilterIn.abResiduals (f : FilterIn) (p : Vec) (l : List Pairing) : List Rat :=
  l.filterMap fun d =>
    match obsOf f.baseB d.j, obsOf f.baseB d.r with
    | some bj, some br =>
      if !(d.oj.1.ok && d.or.1.ok && bj.ok && br.ok) then none
      else
        let cyc (u : PhaseUnit) (o : PhaseObs) : Rat := (signed u.bits o.raw : Rat) / 2 ^ u.frac + o.add
        let ph := cyc f.roverUnit d.oj.1 - cyc f.baseUnit bj - (cyc f.roverUnit d.or.1 - cyc f.baseUnit br)
        some (wrapHalf (ph - (f.ddRange p f.posB d).1 / waveLength d.j.signal))
    | _, _ => none

/-- Mean square of some numbers. -/
def meanSquare (l : List Rat) : Rat := if l = [] then 0 else (l.map fun x => x * x).sum / l.length

/-- The antenna B test (R476, R477): its RMS in 10⁻³ cycle where it is made, and whether it passes or is not made. -/
def FilterIn.abTest (f : FilterIn) (longBase : Bool) (p : Vec) (l : List Pairing) : Option Nat × Bool :=
  let r := f.abResiduals p l
  if !longBase || r.length < 5 then (none, true)
  else
    let m := meanSquare r
    (some (min 65534 (nearest (1000 * ratSqrt m)).toNat), decide (1000000 * m ≤ (f.pars.abFracMax : Rat) * f.pars.abFracMax))

/-- What validation found: the integers accepted by place (none: no set), whether with ambiguities removed, whether a search met its limit,
the ratio of the last search, and the antenna B test of the last set. -/
structure Validated where
  held    : List (Nat × Int)
  part    : Bool
  limit   : Bool
  ratio   : Nat
  ab      : Option Nat
  deriving DecidableEq, Repr, Inhabited

def Validated.none : Validated := { held := [], part := false, limit := false, ratio := 0, ab := Option.none }

/-- A candidate set without the ambiguity whose satellite has the lowest elevation. -/
def dropLowest (l : List (Nat × Rat)) : List (Nat × Rat) :=
  match least (fun a b => decide (a.2 ≤ b.2)) l with
  | some x => l.filter fun y => y.1 ≠ x.1
  | Option.none => []

/-- The procedure of R478 over a set, with at most `tries` searches. -/
def Work.validate (w : Work) (f : FilterIn) (longBase : Bool) (l : List Pairing) : Nat → Bool → List (Nat × Rat) → Validated → Validated
  | 0, _, _, v => v
  | tries + 1, part, set, v =>
    if set.length < f.pars.minFixed then v
    else
      let at_ := set.map Prod.fst
      let fl := w.e.pick at_
      let r := latticeSearch f.pars.nodes fl.x fl.p
      let z := List.zip at_ r.z
      let ab := f.abTest longBase (f.frame.out ((w.e.condition z).x.take 3)) l
      let v := { v with limit := v.limit || !r.done, ratio := if r.done then ratioOf r.q1 r.q2 else v.ratio, ab := ab.1 }
      if r.done && decide (r.q1 * f.pars.ratioMin ≤ 100 * r.q2) && ab.2 then { v with held := z, part := part }
      else w.validate f longBase l tries true (dropLowest set) v

/-- Mean square of the phase double-difference residuals with held integers, in m² (R480). -/
def Work.phaseRes (w : Work) (e : Est) (f : FilterIn) (x0 : Vec) (l : List Pairing) : Rat :=
  meanSquare ((l.filter Pairing.phaseOk).map fun d => let m := w.measure f x0 d true; m.z - Vec.dot m.h e.x)

/-- The held integers of the states replaced by a set. -/
def Work.hold (w : Work) (l : List (Nat × Int)) : Work :=
  { w with states := w.states.mapIdx fun i k => match k with
    | .amb s r _ n => .amb s r ((l.find? fun p => p.1 = 6 + i).map Prod.snd) n
    | .ion y m => .ion y m }

/-- What an epoch gave: the filter after it, the satellites used, its estimate of position and velocity with its covariance, conditioned on the
integers where there are any, whether they were held, and what validation found. -/
structure EpochOut where
  filter : Filter
  sats   : Nat
  x      : Vec
  p      : Mat
  kept   : Bool
  found  : Validated
  deriving DecidableEq, Repr, Inhabited

/-- Fewer than 4 satellites, or a horizontal 1σ above 30,000 mm (Table 10.7). -/
def EpochOut.invalid (o : EpochOut) : Bool := o.sats < 4 || decide (900 < o.p.at_ 0 0 + o.p.at_ 1 1)

/-- An epoch of the filter (R461 to R480): `old` is the state it continues, none where it re-initialises at `start` (ECEF, m);
`operating` allows held integers and a search (R485), `longBase` the antenna B test. -/
def FilterIn.epoch (f : FilterIn) (old : Option Filter) (start : Vec) (operating longBase : Bool) : EpochOut :=
  let was := (old.map Filter.tracks).getD []
  let tracks := f.common.map fun p => trackStep f (was.find? fun t => t.sig = p.1.sig) p.1 p.2
  let w := match old with
    | none => Work.start (f.frame.into start)
    | some o =>
      let w := if o.origin = f.frame.origin then o.work else o.work.reframe (frameAt o.origin) f.frame
      w.predict (((f.t - o.t : Int) : Rat) / 10 ^ 9) f.pars.accel
  let l := f.pairings tracks
  let x0 := f.frame.out (w.e.x.take 3)
  let sigma := f.ionoSigma x0
  let w := w.prepare f was l sigma
  let w := w.update (w.measures f x0 l sigma)
  let w := if operating then w else w.hold []
  let tight := w.e.condition w.held
  let ab := f.abTest longBase (f.frame.out (tight.x.take 3)) l
  let limit : Rat := (f.pars.phaseResMax : Rat) / 1000
  let kept : Bool := w.held ≠ [] && decide (w.phaseRes tight f x0 l ≤ limit * limit) && ab.2
  let v := if kept then { Validated.none with held := w.held, ab := ab.1 }
    else if operating then w.validate f longBase l (f.pars.partialDrop + 1) false (w.candidates f) Validated.none else Validated.none
  let w := w.hold v.held
  let e := w.e.condition v.held
  { filter := { origin := f.frame.origin, t := f.t, x := w.e.x.map toF64, p := w.e.p.map (·.map toF64), states := w.states, ionRef := w.ionRef,
                tracks := tracks },
    sats := (pairedSats l).length, x := e.x.take 6, p := (e.p.take 3).map (·.take 3), kept := kept, found := v }

end Sys2Proof.Machine
end

