-- ==== Sys2Proof/Machine/Rtcm.lean ====
section
/-!
DEFINITION. RTCM 3 frames as the device writes and reads them (R430 to R434, R440). The spec names the messages of RTCM 10403.3 and
not their layouts; the layouts, data fields and signal IDs here are the standard's (PRESUMED, log entry 24).
-/

namespace Sys2Proof.Machine

/-! ### Bits and frames -/

/-- Bits most significant first: fields of a width and a value, joined to one number with its length. -/
def joinBits (l : List (Nat × Nat)) : Nat × Nat := l.foldl (fun a f => (a.1 + f.1, a.2 * 2 ^ f.1 + f.2 % 2 ^ f.1)) (0, 0)
/-- A field of a signed value. -/
def sbits (w : Nat) (v : Int) : Nat × Nat := (w, (v % (2 ^ w : Nat)).toNat)
/-- The bytes of joined bits, padded with zero bits. -/
def bitBytes (l : List (Nat × Nat)) : Bytes :=
  let j := joinBits l
  let n := (j.1 + 7) / 8
  beBytes n (j.2 * 2 ^ (8 * n - j.1))

/-- CRC-24Q. -/
def crc24Bit (c : Nat) : Nat := let d := c * 2; if 2 ^ 24 ≤ d then (d ^^^ 0x1864CFB) % 2 ^ 24 else d
def crc24 (b : Bytes) : Nat := b.foldl (fun c x => Nat.repeat crc24Bit 8 (c ^^^ (x.toNat * 65536))) 0

/-- A frame: preamble, six zero bits, length, CRC-24Q (R430). -/
def rtcmFrame (payload : Bytes) : Bytes :=
  let h := byte 0xD3 :: beBytes 2 payload.length ++ payload
  h ++ beBytes 3 (crc24 h)

/-- A field of `n` bits at bit `off` of a payload, most significant first. -/
def mbits (b : Bytes) (off n : Nat) : Nat := beNat b / 2 ^ (8 * b.length - off - n) % 2 ^ n

/-! ### Station messages (Table 9.4) -/

/-- 1005 or 1006. -/
def rtcmArp (six : Bool) (station year : Nat) (ref : Int × Int × Int) (height : Nat) : Bytes :=
  bitBytes ([(12, if six then 1006 else 1005), (12, station), (6, year), (1, 1), (1, 0), (1, 1), (1, 1), sbits 38 ref.1,
    (1, b2n Config.oneOscillator), (1, 0), sbits 38 ref.2.1, (2, 0), sbits 38 ref.2.2] ++ (if six then [(16, height)] else []))

def counted (b : Bytes) : List (Nat × Nat) := (8, b.length) :: b.map fun x => (8, x.toNat)

/-- 1033. -/
def rtcmAntenna (station : Nat) (descriptor : Bytes) (setup : Nat) (antSerial receiver version serial : Bytes) : Bytes :=
  bitBytes ([(12, 1033), (12, station)] ++ counted descriptor ++ [(8, setup)] ++ counted antSerial ++ counted receiver ++ counted version
    ++ counted serial)

/-- 1230 with no biases. -/
def rtcmBias (station : Nat) : Bytes := bitBytes [(12, 1230), (12, station), (1, 0), (3, 0), (4, 0)]

/-! ### MSM -/

/-- A signal of an MSM: pseudorange (m), carrier phase with the cycles that align it (cycles), Doppler (Hz), lock time (ms), C/N0
(0.1 dB-Hz), flags. -/
structure MsmCell where
  sat     : Nat
  sid     : Nat
  freq    : Nat
  range   : Rat
  phase   : Rat
  doppler : Rat
  lock    : Nat
  half    : Bool
  cn0     : Nat
  phaseOk : Bool
  deriving DecidableEq, Repr, Inhabited

def noCell : MsmCell :=
  { sat := 0, sid := 0, freq := 1, range := 0, phase := 0, doppler := 0, lock := 0, half := false, cn0 := 0, phaseOk := false }

/-- Systems that have MSMs, in the order of their message numbers: code of Table 7.9, number of the MSM4, mask bit of RtcmSystemMask,
first satellite number. -/
def msmSystems : List (Nat × Nat × Nat × Nat) := [(0, 1074, 0, 1), (1, 1094, 1, 1), (3, 1114, 2, 193), (2, 1124, 3, 1)]

/-- Signal ID of a signal code. -/
def msmSignal (c : Nat) : Option Nat :=
  match c with
  | 1 | 3 | 5 => some 2
  | 2 | 4 | 6 => some 31
  | 9 | 10 | 11 | 12 => some 23
  | _ => none

/-- Lock time indicators DF402 and DF407. -/
def lockInd4 (t : Nat) : Nat := if t < 32 then 0 else min 15 (Nat.log2 t - 4)
def lockInd10 (t : Nat) : Nat := if t < 64 then t else let k := Nat.log2 t - 5; min 704 (32 * k + t / 2 ^ k)

/-- Pseudorange and phase-range in 2⁻³¹ ms, range rate in 10⁻⁴ m/s. -/
def MsmCell.ms31 (c : MsmCell) : Int := nearest (c.range / lightSpeed * 1000 * 2 ^ 31)
def MsmCell.phase31 (c : MsmCell) : Int := nearest (c.phase / c.freq * 1000 * 2 ^ 31)
def MsmCell.rate (c : MsmCell) : Int := nearest (-(c.doppler / c.freq * lightSpeed * 10000))

/-- A value that fits a signed field, or the field's invalid value. -/
def fitField (w : Nat) (v : Int) : Nat × Nat := sbits w (if -(2 ^ (w - 1)) < v && v < 2 ^ (w - 1) then v else -(2 ^ (w - 1)))

/-- The satellites of some cells, ascending. -/
def msmSats (l : List MsmCell) : List Nat := sortBy (fun a b => decide (a ≤ b)) ((l.map MsmCell.sat).eraseDups)
def msmSids (l : List MsmCell) : List Nat := sortBy (fun a b => decide (a ≤ b)) ((l.map MsmCell.sid).eraseDups)

/-- The body of one MSM (Table 9.5). -/
def msmBody (seven : Bool) (num station epoch : Nat) (more refin : Bool) (first : Nat) (l : List MsmCell) : Bytes :=
  let sats := msmSats l
  let sids := msmSids l
  let mask (n : Nat) (f : Nat → Bool) : List (Nat × Nat) := (List.range n).map fun i => (1, b2n (f i))
  let cells := sats.flatMap fun x => sids.map fun y => l.find? fun c => c.sat = x && c.sid = y
  let head := [(12, num), (12, station), (30, epoch), (1, b2n more), (3, 0), (7, 0), (2, 1), (2, b2n refin), (1, 0), (3, 0)]
    ++ mask 64 (fun i => sats.contains (first + i)) ++ mask 32 (fun i => sids.contains (i + 1)) ++ cells.map fun c => (1, b2n c.isSome)
  let lead (x : Nat) : MsmCell := (l.find? fun c => c.sat = x).getD noCell
  let rough (x : Nat) : Int := roundDiv (lead x).ms31 (2 ^ 21)
  let rrate (x : Nat) : Int := roundDiv (lead x).rate 10000
  let cs := cells.filterMap id
  let satD := sats.map (fun x => (8, (rough x / 1024).toNat)) ++ (if seven then sats.map fun _ => (4, 0) else [])
    ++ sats.map (fun x => (10, (rough x % 1024).toNat)) ++ (if seven then sats.map fun x => fitField 14 (rrate x) else [])
  let pr := cs.map fun c => if seven then fitField 20 (roundDiv (c.ms31 - rough c.sat * 2 ^ 21) 4)
                            else fitField 15 (roundDiv (c.ms31 - rough c.sat * 2 ^ 21) 128)
  let ph := cs.map fun c =>
    let d := c.phase31 - rough c.sat * 2 ^ 21
    if seven then (if c.phaseOk then fitField 24 d else sbits 24 (-(2 ^ 23)))
    else (if c.phaseOk then fitField 22 (roundDiv d 4) else sbits 22 (-(2 ^ 21)))
  let lk := cs.map fun c => if seven then (10, lockInd10 c.lock) else (4, lockInd4 c.lock)
  let hf := cs.map fun c => (1, b2n c.half)
  let cn := cs.map fun c => if seven then (10, (c.cn0 * 16 + 5) / 10) else (6, min 63 ((c.cn0 + 5) / 10))
  let rt := if seven then cs.map fun c => fitField 15 (c.rate - 10000 * rrate c.sat) else []
  bitBytes (head ++ satD ++ pr ++ ph ++ lk ++ hf ++ cn ++ rt)

/-- Cells cut into messages of at most 64 bits of cell mask: whole satellites, at most 64 / signals of them. -/
def msmCut : Nat → Nat → List Nat → List MsmCell → List (List MsmCell)
  | 0, _, _, _ => []
  | fuel + 1, per, sats, l =>
    if sats = [] then []
    else (l.filter fun c => (sats.take per).contains c.sat) :: msmCut fuel per (sats.drop per) l

def msmSplit (l : List MsmCell) : List (List MsmCell) :=
  if l = [] then [] else msmCut 64 (64 / max 1 (msmSids l).length) (msmSats l) l

/-- GNSS epoch time in ms of the week (Table 9.5, Table 4.3). -/
def msmEpoch (system : Nat) (t : Int) : Nat :=
  let zero : Int := if system = 2 then 1136073633 else 315964819
  (((t - zero * 1000000000) % 604800000000000) / 1000000).toNat

/-! ### Frames received (R438 to R440) -/

/-- Message numbers of Table 9.4. -/
def rtcmTypes : List Nat := [1005, 1006, 1033, 1230, 1074, 1094, 1114, 1124, 1077, 1097, 1117, 1127]
def isMsm (n : Nat) : Bool := 1074 ≤ n && n ≤ 1127
def msmSystemOf (n : Nat) : Nat := if n < 1090 then 0 else if n < 1110 then 1 else if n < 1120 then 3 else 2

/-- Bytes a payload of a type must have, by its own counts; none for other types. -/
def rtcmLength (b : Bytes) : Option Nat :=
  let n := mbits b 0 12
  let pop (off w : Nat) : Nat := (List.range w).countP fun i => mbits b (off + i) 1 = 1
  if n = 1005 then some 19
  else if n = 1006 then some 21
  else if n = 1230 then some ((32 + 16 * pop 28 4 + 7) / 8)
  else if n = 1033 then
    let d := u b 3 1
    let a := u b (5 + d) 1
    let r := u b (6 + d + a) 1
    let f := u b (7 + d + a + r) 1
    some (9 + d + a + r + f + u b (8 + d + a + r + f) 1)
  else if rtcmTypes.contains n then
    let ns := pop 73 64
    let ng := pop 137 32
    let nc := pop 169 (ns * ng)
    let bitsN := 169 + ns * ng + (if n % 10 = 7 then 36 * ns + 80 * nc else 18 * ns + 48 * nc)
    some ((bitsN + 7) / 8)
  else none

/-- The frames of a request, each with whether its CRC verifies and its payload; a rest that is no whole frame has no payload. -/
def rtcmFrames : Nat → Bytes → List (Bool × Option Bytes)
  | 0, _ => []
  | fuel + 1, b =>
    if b = [] then []
    else
      let n := beNat (slice b 1 2) % 1024
      if u b 0 1 = 0xD3 && n + 6 ≤ b.length then
        (beNat (slice b (3 + n) 3) = crc24 (b.take (3 + n)), some (slice b 3 n)) :: rtcmFrames fuel (b.drop (n + 6))
      else [(true, none)]

/-- TIME64 of an MSM's epoch: the time of week nearest to a TIME64. -/
def msmTime (n epoch : Nat) (now : Int) : Int :=
  let zero : Int := (if msmSystemOf n = 2 then 1136073633 else 315964819) * 1000000000 + (epoch : Int) * 1000000
  zero + roundDiv (now - zero) 604800000000000 * 604800000000000

/-- The signal of a system that a signal ID names. -/
def sidSignal (system sid : Nat) : Option Nat :=
  ((List.range 15).find? fun c => isSignal c && signalSystem c = system && msmSignal c = some sid)

/-- A signal read from an MSM, in 2⁻³¹ ms: pseudorange and phase-range where they are valid, lock time indicator, half-cycle ambiguity. -/
structure MsmRead where
  sig   : Sig
  range : Option Int
  phase : Option Int
  lock  : Nat
  half  : Bool
  deriving DecidableEq, Repr, Inhabited

/-- A signed field whose least value means that there is none, with the weight of its last bit. -/
def msmFine (b : Bytes) (off w : Nat) (weight : Int) : Option Int :=
  let v := mbits b off w
  if v = 2 ^ (w - 1) then none else some (signed w v * weight)

/-- The signals of an MSM4 or MSM7, cell by cell (Table 9.5). -/
def msmRead (b : Bytes) : List MsmRead :=
  let n := mbits b 0 12
  let y := msmSystemOf n
  let seven : Bool := n % 10 = 7
  let first := if y = 3 then 193 else 1
  let on (off w : Nat) : List Nat := (List.range w).filter fun i => mbits b (off + i) 1 = 1
  let sats := on 73 64
  let sids := on 137 32
  let ns := sats.length
  let cells := (List.range (ns * sids.length)).filter fun k => mbits b (169 + k) 1 = 1
  let nc := cells.length
  let o := 169 + ns * sids.length
  let o10 := o + ns * (if seven then 12 else 8)
  let fine := o10 + ns * (if seven then 24 else 10)
  let (wp, wf, wl) := if seven then (20, 24, 10) else (15, 22, 4)
  cells.mapIdx fun i k =>
    let j := k / sids.length
    let ms := mbits b (o + 8 * j) 8
    let rough : Int := ((ms * 1024 + mbits b (o10 + 10 * j) 10 : Nat) : Int) * 2 ^ 21
    let add (v : Option Int) : Option Int := if ms = 255 then none else v.map (rough + ·)
    let sig := (sidSignal y (sids.getD (k % sids.length) 0 + 1)).getD 0
    let ph := fine + nc * wp
    let lk := ph + nc * wf
    { sig := { system := y, sat := first + sats.getD j 0, signal := sig },
      range := add (msmFine b (fine + wp * i) wp (if seven then 4 else 128)),
      phase := add (msmFine b (ph + wf * i) wf (if seven then 1 else 4)),
      lock := mbits b (lk + wl * i) wl, half := mbits b (lk + nc * wl + i) 1 = 1 }

/-- Antenna reference point of a 1005 or 1006, 0.1 mm. -/
def arpOf (b : Bytes) : Int × Int × Int := (signed 38 (mbits b 34 38), signed 38 (mbits b 74 38), signed 38 (mbits b 114 38))

end Sys2Proof.Machine
end

