-- ==== Sys2Proof/Machine/BaseOps.lean ====
section
/-!
DEFINITION. What the Fixer does as base: reference position, survey-in, integrity checks, correction batches and the reference
network (09_fixer_base_corrections.md).
-/

namespace Sys2Proof.Machine

def State.setBase (s : State) (f : Base → Base) : State := { s with base := f s.base }

/-- BaseRefSource. -/
def State.refSource (s : State) : Nat := s.cfg 0x3609 0
/-- The active reference (0.1 mm). -/
def State.refActive (s : State) : Int × Int × Int := (s.cfgI 0x3605 1, s.cfgI 0x3605 2, s.cfgI 0x3605 3)
def State.setSurveyState (s : State) (n : Nat) : State := s.setVal (key 0x3625 0) [byte n]

/-- The group's active values come into effect. -/
def State.loadBase (s : State) : State :=
  s.setBase fun b => { b with ref := s.refActive, height := s.cfg 0x3606 0, station := s.cfg 0x3607 0, year := s.cfg 0x3608 0 }

/-! ### Commit (R412, R413) -/

/-- BaseCommit (Table 9.1). -/
def State.baseCheck (s : State) : Option Ans :=
  let r := (s.cfgI 0x3601 1, s.cfgI 0x3601 2, s.cfgI 0x3601 3)
  let h := (geodetic r.1 r.2.1 r.2.2).2.2
  let outside : Bool := match s.planeOf r with
    | some p => !inPlane (p.1, p.2.1)
    | none => false
  firstFail
    [(-1000 * 2 ^ 320 ≤ h.scaled 320 && h.scaled 320 ≤ 9000 * 2 ^ 320, Ans.bad 0x05360001), (!outside, Ans.bad 0x05360002),
     (!((s.base.st = 2 || s.base.st = 3) && r ≠ s.refActive && !s.stoppedAll), Ans.state 0x05360003),
     (s.base.survey.isNone, Ans.state 0x05360005)]

def State.baseCommitted (s : State) : State := s.setBase fun b => { b with due := true }

/-! ### Held integers (R485) -/

def FState.released : FState → FState
  | .amb s r _ n => .amb s r none n
  | .ion y m => .ion y m

/-- BaseState takes a value; every held integer is released where that is not OPERATING. -/
def State.baseTo (s : State) (st : Nat) : State :=
  let s := s.setBase fun b => { b with st := st }
  if st = 2 then s
  else
    let free (b : RoverBlock) : RoverBlock := { b with filter := { b.filter with states := b.filter.states.map FState.released } }
    { s with rover := { s.rover with blocks := s.rover.blocks.map fun e => (e.1, free e.2) } }

/-- NO_REFERENCE, or STARTING (R424). -/
def State.baseStart (s : State) : State :=
  (s.setBase fun b => { b with clean := 0, passAt := List.replicate 5 none }).baseTo (if s.refSource = 0 then 0 else 4)

/-- A nominal epoch instant: a committed group takes effect, and every rover filter re-initialises at its next epoch (R413, R467). -/
def State.baseNominal (s : State) : State :=
  if s.base.due && s.up .fixer then
    let s := ((s.setBase fun b => { b with due := false }).setVal (key 0x3609 0) [1]).loadBase.baseStart
    { s with rover := { s.rover with slots := s.rover.slots.map fun e => (e.1, { e.2 with again := true }) } }
  else s

/-! ### The reference network (R438 to R442) -/

/-- Distance of two positions at most `m` metres. -/
def withinM (a b : Int × Int × Int) (m : Nat) : Bool := ecefDist2 a b ≤ (10000 * m) ^ 2

/-- BaseNetState (R442). -/
def State.netState (s : State) : Nat :=
  let b := s.base
  if !b.netAny then 0
  else match b.netAt with
    | none => 1
    | some t =>
      if t + s.cfg 0x3642 0 * ms < s.now then 4
      else
        let far : Bool := match b.netPos with
          | some p => s.refSource ≠ 0 && !withinM p b.ref (s.cfg 0x3643 0)
          | none => false
        if far || b.netSol < 2 then 1 else b.netSol

/-- Why a frame is skipped (R439): 0 when it is accepted. -/
def State.frameFault (s : State) (crc : Bool) (p : Option Bytes) : Nat :=
  match p with
  | none => 2
  | some b =>
    let n := mbits b 0 12
    if !crc then 1
    else if b.length < 3 || (rtcmLength b).any (· ≠ b.length) then 2
    else if !rtcmTypes.contains n then 3
    else if mbits b 12 12 ≠ s.cfg 0x3641 0 then 4
    else if isMsm n && msmTime n (mbits b 24 30) s.time64 + (s.cfg 0x3642 0 * ms : Nat) < s.time64 then 5
    else 0

/-- A signal of the network station after an MSM: a lock time indicator that falls tells of a slip. -/
def netTake (l : List NetObs) (at_ : Int) (r : MsmRead) : List NetObs :=
  match r.range with
  | none => l
  | some v =>
    let slips := match l.find? fun k => k.sig = r.sig with
      | some k => if r.lock < k.lock then (k.slips + 1) % 16 else k.slips
      | none => 0
    l.filter (fun k => k.sig ≠ r.sig) ++ [{ sig := r.sig, at_ := at_, range := v, phase := r.phase, lock := r.lock, slips := slips, half := r.half }]

/-- A frame accepted. The MSM without the multiple message bit makes its epoch whole. -/
def State.takeFrame (s : State) (b : Bytes) : State :=
  let n := mbits b 0 12
  s.setBase fun x =>
    let x := { x with netAny := true }
    if isMsm n then
      let e := msmTime n (mbits b 24 30) s.time64
      { x with netAt := some s.now, netEpoch := some e, netWhole := mbits b 54 1 = 0, netObs := (msmRead b).foldl (netTake · e ·) x.netObs }
    else if n = 1005 || n = 1006 then { x with netPos := some (arpOf b) } else x

/-- BaseNetPort (R438, R439). -/
def State.netPort (s : State) (req : Bytes) : State × Option Ans :=
  let l := (rtcmFrames 512 req).map fun f => (f, s.frameFault f.1 f.2)
  let good := l.filter fun x => x.2 = 0
  let bad := l.filter fun x => x.2 ≠ 0
  let s := good.foldl (fun s x => s.takeFrame (x.1.2.getD [])) s
  let s := s.setBase fun b => { b with netBad := wrap 32 (b.netBad + bad.length) }
  let first := match bad with
    | [] => (0, 0)
    | x :: _ => (match x.1.2 with
      | some b => mbits b 0 12
      | none => 0, x.2)
  let d := leBytes 2 good.length ++ leBytes 2 bad.length ++ leBytes 2 first.1 ++ [byte first.2, 0]
  (s, some { Ans.done d with outcome := if bad = [] then 0 else 1 })

/-! ### Survey-in (R414 to R422) -/

/-- BaseSurveyStart (R414, R415). -/
def State.surveyStart (s : State) (net : Bool) : State × Option Ans :=
  match firstFail [(!((s.base.st = 2 || s.base.st = 3) && !s.stoppedAll), Ans.state 0x05360003), (s.base.survey.isNone, Ans.state 0x05360005),
      (!net || s.netState = 2 || s.netState = 3, Ans.state 0x05360004)] with
  | some a => (s, some a)
  | none => (((s.setBase fun b => { b with survey := some (Survey.start net), clean := 0 }).baseTo 1).setSurveyState 1, some (Ans.done []))

/-- A survey ends with a BaseSurveyState; the base enters NO_REFERENCE or STARTING (R424). -/
def State.surveyEnd (s : State) (n : Nat) : State := ((s.setBase fun b => { b with survey := none }).setSurveyState n).baseStart

def State.surveyAbandon (s : State) : State × Option Ans :=
  (if s.base.survey.isSome then s.surveyEnd 0 else s, some (Ans.done []))

/-- Whether a survey is to be paused (R421). -/
def State.surveyHalts (s : State) (x : Survey) : Bool :=
  s.track.mode = 1 || !s.feeds 0 || !s.feeds 1 || !s.up .tracking || (x.net && s.netState ≠ 2 && s.netState ≠ 3)

/-- Pause or resume the survey; the block in progress is discarded (R421). -/
def State.surveyPoll (s : State) : State :=
  match s.base.survey with
  | none => s
  | some x =>
    let halt := s.surveyHalts x
    if halt = x.paused then s
    else (s.setBase fun b => { b with survey := some { x with paused := halt, block := 0, count := 0, sum := (0, 0, 0) } }).setSurveyState
      (if halt then 2 else 1)

def mapV (f : Int → Int) (v : Int × Int × Int) : Int × Int × Int := (f v.1, f v.2.1, f v.2.2)
def addV (a b : Int × Int × Int) : Int × Int × Int := (a.1 + b.1, a.2.1 + b.2.1, a.2.2 + b.2.2)

/-- n·Σx² − (Σx)² summed over the axes. -/
def Survey.spread (x : Survey) : Int :=
  let n : Int := x.blocks
  let one (sq m : Int) : Int := n * sq - m * m
  one x.squares.1 x.means.1 + one x.squares.2.1 x.means.2.1 + one x.squares.2.2 x.means.2.2

/-- Sigma in mm, rounded up, defined from 10 blocks (R417; sample variance, log entry 25). -/
def Survey.sigma (x : Survey) : Option Nat :=
  if x.blocks < 10 then none
  else some (csqrt (ceilDiv x.spread.toNat (x.blocks * x.blocks * (x.blocks - 1) * 10000000000)))

/-- The estimate in 0.1 mm. -/
def Survey.estimate (x : Survey) : Int × Int × Int := mapV (fun v => roundDiv v (10000 * max 1 x.blocks)) x.means

/-- The survey after an epoch of `period` ns with its solution, and whether a block has just ended. -/
def Survey.step (x : Survey) (period : Nat) (p : Option (Int × Int × Int)) : Survey × Bool :=
  let x := match p with
    | some v => { x with count := x.count + 1, sum := addV x.sum v }
    | none => x
  let x := { x with elapsed := x.elapsed + period, block := x.block + period }
  if x.block < 60 * sec then (x, false)
  else if x.count = 0 then ({ x with block := 0 }, false)
  else
    let m := mapV (fun v => roundDiv (v * 10000) x.count) x.sum
    ({ x with block := 0, count := 0, sum := (0, 0, 0), blocks := x.blocks + 1, means := addV x.means m,
              squares := addV x.squares (mapV (fun v => v * v) m) }, true)

/-- A survey succeeds (R419): its estimate becomes the active reference and the shadow. -/
def State.surveyed (s : State) (x : Survey) (sigma : Nat) : State :=
  let e := x.estimate
  let dist := nearSqrt (ecefDist2 e s.base.ref) / 10
  let put (s : State) (i : Nat) (v : Int) : State := (s.setVal (key 0x3605 i) (leInt 8 v)).setVal (key 0x3601 i) (leInt 8 v)
  let s := ((put (put (put s 1 e.1) 2 e.2.1) 3 e.2.2).setVal (key 0x3609 0) [if x.net then 3 else 2]).loadBase
  (s.surveyEnd 3).logEv .baseSurveyed (leBytes 4 sigma ++ leBytes 4 dist)

/-- A running survey takes an epoch with its single-point solution (R416 to R420). -/
def State.surveyEpoch (s : State) (spp : Option V3) : State :=
  match s.base.survey with
  | none => s
  | some x =>
    if x.paused then s
    else
      let p := if x.net then (if s.netState = 3 then some s.base.netFix else none) else spp
      let (x, ended) := x.step s.epochPeriod.toNat p
      let s := s.setBase fun b => { b with survey := some x }
      let limit := if x.net then s.cfg 0x3623 0 else s.cfg 0x3622 0
      match x.sigma with
      | some g =>
        if ended && s.cfg 0x3621 0 * sec ≤ x.elapsed && g ≤ limit then s.surveyed x g
        else if s.cfg 0x3624 0 * sec ≤ x.elapsed then (s.surveyEnd 4).logEv .baseSurveyFailed [] else s
      | none => if s.cfg 0x3624 0 * sec ≤ x.elapsed then (s.surveyEnd 4).logEv .baseSurveyFailed [] else s

/-! ### Solutions of an epoch (R348, R416, R426, R427, R441) -/

/-- The records of an antenna (0 A, 1 B) that an epoch's posted packets brought. -/
def State.baseRecs (s : State) (antenna : Nat) (nominal : Int) : List Nat :=
  ((s.track.chans.filter fun e => e.2.data ≠ [] && e.1 / 576 = antenna && s.track.posted.contains (e.1 / 288)).map fun e => leNat e.2.data).filter
    fun r => decide (nominal ≤ signed 64 (bits r 320 64))

/-- The middle one of some numbers. -/
def median (l : List Rat) : Rat := (sortBy (fun a b => decide (a ≤ b)) l).getD (l.length / 2) 0

/-- A pseudorange less the range from a point and the satellite's clock: the receiver's clock and what is wrong with it. -/
def overRange (at_ : Vec) (o : CodeObs) : Rat := o.range - (sightTo at_ o.pos).1

/-- The records that pass the flags of R426. -/
def State.cleanRecs (s : State) (l : List Nat) : List Nat :=
  let m := s.cfg 0x3612 0
  l.filter fun r => bit r 60 && !((bit m 0 && bit r 57) || (bit m 1 && bit r 56) || (bit m 2 && bit r 55))

/-- The records that remain after R426. While a reference is active, a pseudorange's residual is what it leaves over the range from the
reference beyond the middle one of its system, which stands for the receiver's clock (log entry 27). -/
def State.baseSignals (s : State) (sky : List SatEph) (nominal : Int) : List Nat :=
  let l := s.cleanRecs (s.baseRecs 0 nominal)
  if s.refSource = 0 then l
  else
    let left := l.filterMap fun r => (codeOf sky (recSig r) (recRange r)).map fun o => (r, o.system, overRange (v3m s.base.ref) o)
    let clock (y : Nat) : Rat := median ((left.filter fun x => x.2.1 = y).map fun x => x.2.2)
    let limit : Rat := (s.cfg 0x3614 0 : Rat) / 10
    l.filter fun r => match left.find? fun x => x.1 = r with
      | some x => let d := x.2.2 - clock x.2.1; decide (-limit ≤ d) && decide (d ≤ limit)
      | none => true

/-- Epochs in 100 s. -/
def State.smoothLimit (s : State) : Nat := max 1 (100000000000 / (max 1 s.epochPeriod).toNat)

/-- A pseudorange carrier-smoothed (R416): it begins afresh after a slip, without phase, or at a step of the clock. -/
def smoothStep (w : Nat) (old : List Smooth) (r : Nat) : Smooth :=
  let x := recSig r
  let raw := 2 ^ 20 * recRange r
  let ph := bits r 151 48
  let slips := bits r 85 4
  let fresh : Smooth := { sig := x, n := 1, range := nearest raw, phase := ph, slips := slips }
  match old.find? fun k => k.sig = x with
  | none => fresh
  | some k =>
    if !bit r 59 || bit r 53 || k.slips ≠ slips then fresh
    else
      let n := min w (k.n + 1)
      let carried : Rat := k.range + 16 * waveLength x.signal * phaseChange 48 k.phase ph
      { fresh with n := n, range := nearest ((raw + (n - 1 : Nat) * carried) / n) }

/-- The ionosphere-free pseudoranges of an epoch: of each satellite that has both bands, from its lowest signal code of each. -/
def ionoFree (l : List Smooth) : List (Sig × Rat) :=
  let f1 : Rat := (bandFreq 0 : Rat) * bandFreq 0
  let f5 : Rat := (bandFreq 1 : Rat) * bandFreq 1
  let lowest (y n band : Nat) : Option Smooth :=
    least (fun a b => decide (a.sig.signal ≤ b.sig.signal)) (l.filter fun k => k.sig.system = y && k.sig.sat = n && bandOf k.sig.signal = band)
  ((l.map fun k => (k.sig.system, k.sig.sat)).eraseDups).filterMap fun p =>
    match lowest p.1 p.2 0, lowest p.1 p.2 1 with
    | some a, some b => some (a.sig, (f1 * a.range - f5 * b.range) / (f1 - f5) / 2 ^ 20)
    | _, _ => none

/-- Where a solution of antenna A starts from. -/
def State.sppStart (s : State) : V3 :=
  if s.refSource ≠ 0 then s.base.ref
  else match s.base.spps with
    | p :: _ => p.2
    | [] => (0, 0, 0)

/-- The single-point ionosphere-free solution of antenna A: position (m), and receiver clock against each system (m). -/
def State.basePoint (s : State) (sky : List SatEph) (l : List Smooth) : Option (Vec × List (Nat × Rat)) :=
  singlePoint (v3m s.sppStart) ((ionoFree l).filterMap fun p => codeOf sky p.1 p.2)

/-- The mean of the single-point positions of the last 10 s. -/
def meanV3 (l : List V3) : V3 :=
  let n := max 1 l.length
  let one (f : V3 → Int) : Int := roundDiv ((l.map f).sum) n
  (one fun p => p.1, one fun p => p.2.1, one fun p => p.2.2)

/-- A network signal as the filter takes it. -/
def NetObs.obs (o : NetObs) : PhaseObs :=
  let cyc : Rat := (o.phase.getD 0 : Rat) / 2 ^ 31 / 1000 * bandFreq (bandOf o.sig.signal)
  { sig := o.sig, range := lightSpeed * o.range / 2 ^ 31 / 1000, raw := ((nearest (65536 * cyc)) % 2 ^ 48).toNat, add := 0,
    ok := o.phase.isSome && !o.half, slips := o.slips }

/-- The network solution (R441): antenna A against the network station, when its MSMs of the same epoch have arrived. A filter that has run
against another station position, or not for the default RoverGapMax, begins again. -/
def State.netSolve (s : State) (sky : List SatEph) (nominal : Int) (l : List Nat) (spp : Option V3) : State :=
  match s.base.netPos with
  | none => s
  | some p =>
    if s.base.netEpoch ≠ some nominal || !s.base.netWhole then s
    else
      let f : FilterIn :=
        { t := nominal, rover := l.map (recObs nominal), base := (s.base.netObs.filter fun o => o.at_ = nominal).map NetObs.obs, baseB := [],
          roverUnit := recordUnit, baseUnit := recordUnit, sky := sky, posA := p, posB := p, frame := frameAt p, pars := FilterPars.default }
      let old := (s.base.netFilter.filter fun k => k.1 = p && nominal ≤ k.2.t + 5000 * (ms : Int)).map Prod.snd
      let o := f.epoch old (v3m (if s.refSource ≠ 0 then s.base.ref else spp.getD p)) true false
      let kind := if o.invalid then 0 else if o.found.held = [] then 2 else 3
      s.setBase fun b => { b with netSol := kind, netFix := mV3 (f.frame.out (o.x.take 3)), netFilter := some (p, o.filter) }

/-! ### Integrity (R425 to R429) -/

/-- The checks of Table 9.3 that fail, as bits. -/
def State.baseChecks (s : State) (sats netRun : Nat) : Nat :=
  let r := s.base.ref
  let p := toPlane (siteCoef r.1 r.2.1 r.2.2) r (meanV3 (s.base.spps.map Prod.snd))
  let pos : Bool := s.refSource ≠ 0 && s.base.spps ≠ [] && (s.cfg 0x3613 0) ^ 2 < (p.1 ^ 2 + p.2.1 ^ 2).toNat
  let src := s.tb.src 1
  b2n pos + 2 * b2n (s.track.doa.any (· = 2)) + 4 * b2n (sats < 5) + 8 * b2n (10 ≤ netRun)
    + 16 * b2n (s.timed && (s.gone .timebase || src.disagree))

/-- Epochs in a row at which the fixed network position differs from the reference (check 3). -/
def State.netRunNow (s : State) : Nat :=
  if s.netState = 3 && s.refSource ≠ 0 then
    if (10 * s.cfg 0x3644 0) ^ 2 < ecefDist2 s.base.netFix s.base.ref then min 10 (s.base.netRun + 1) else 0
  else 0

/-- Bits of BaseSuspectCause after an epoch in SUSPECT: set while failing, cleared after BaseRecoverTime of passing (R428). -/
def State.suspectStep (s : State) (fails : Nat) : State :=
  let passAt := s.base.passAt.mapIdx fun i p => if bit fails i then none else some (p.getD s.now)
  let cause := ((List.range 5).filter fun i =>
    bit fails i || (bit s.base.cause i && match passAt.getD i none with
      | some a => s.now < a + s.cfg 0x3615 0 * sec
      | none => true)).foldl setBit 0
  s.setBase fun b => { b with cause := cause, passAt := passAt }

/-- BaseState at an epoch whose failing checks are `fails` (R424, R428, Table 9.2). -/
def State.baseJudge (s : State) (fails : Nat) : State :=
  match s.base.st with
  | 2 =>
    if fails = 0 then s.setBase fun b => { b with cause := 0 }
    else ((s.setBase fun b => { b with cause := fails, passAt := List.replicate 5 none }).baseTo 3).logEv .baseSuspect [byte fails]
  | 3 =>
    let s := s.suspectStep fails
    if s.base.cause = 0 && s.timed then (s.setBase fun b => { b with st := 2, first := true }).logEv .baseOperating [] else s
  | 4 =>
    let clean := if fails = 0 then min 10 (s.base.clean + 1) else 0
    let s := s.setBase fun b => { b with cause := fails, clean := clean }
    if s.timed && 10 ≤ clean then s.setBase fun b => { b with st := 2, first := true } else s
  | _ => s.setBase fun b => { b with cause := fails }

/-- GNSS time is offered to the Timebase from the single-point solution's clock in the system of TrackTimeSystem (R349, R425, R429). -/
def State.offerGnss (s : State) (clocks : List (Nat × Rat)) (fails : Nat) : State :=
  match clocks.find? fun c => c.1 = s.cfg 0x300B 0 with
  | some c =>
    if s.base.st ≠ 3 && !bit fails 0 && !bit fails 1 && !bit fails 2 then s.offset 1 (s.gnssOffset (nearest (10 ^ 9 * c.2 / lightSpeed))) 0 else s
  | none => s

/-! ### Corrections (R430 to R436) -/

/-- Whether an epoch is an RTCM epoch (R431). -/
def State.rtcmEpoch (s : State) (nominal : Int) : Bool :=
  let period : Int := 1000000000 / (max 1 (s.cfg 0x3631 0) : Nat)
  period < s.epochPeriod || nominal % period = 0

/-- The carrier phase of a record aligned by whole cycles: near its pseudorange, whatever the count has wrapped by (Table 9.5). -/
def alignedPhase (t : Int) (r : Nat) (cycles : Int) : Rat :=
  let at_ := recRangeAt t r / waveLength (bits r 277 5)
  at_ + 2 ^ 32 * wrapHalf ((recPhaseAt t r + cycles - at_) / 2 ^ 32)

/-- Locks after an epoch: a slip or a clock step restarts the indicator and aligns the phase-range anew (Table 9.5, R445). -/
def rtcmLocks (t : Int) (locks : List RtcmLock) (l : List Nat) : List RtcmLock :=
  l.map fun r =>
    let x := recSig r
    let slips := bits r 85 4
    let lock := bits r 89 20
    let fresh : RtcmLock := { sig := x, slips := slips, from_ := lock,
                              cycles := nearest (recRangeAt t r / waveLength x.signal - recPhaseAt t r) }
    match locks.find? fun k => k.sig = x with
    | some k => if k.slips = slips && !bit r 53 && k.from_ ≤ lock then k else fresh
    | none => { fresh with from_ := 0 }

/-- The MSM cell of a record. -/
def msmCell (t : Int) (locks : List RtcmLock) (r : Nat) : Option MsmCell :=
  let x := recSig r
  match msmSignal x.signal, locks.find? fun k => k.sig = x with
  | some sid, some k =>
    some { sat := x.sat, sid := sid, freq := bandFreq (bandOf x.signal), range := recRangeAt t r, phase := alignedPhase t r k.cycles,
           doppler := recDoppler r, lock := if bit r 53 then 0 else bits r 89 20 - k.from_, half := bit r 58, cn0 := bits r 109 10,
           phaseOk := bit r 59 }
  | _, _ => none

def decimal (n : Nat) : Bytes := ascii (toString n)

/-- Version of the running firmware as text: major, minor and build of its image version (log entry 26). -/
def State.versionText (s : State) : Bytes :=
  let h := (s.boot.imgs.getD s.boot.booted ImgSlot.empty).header
  let v := u h 8 4
  decimal (bits v 24 8) ++ ascii "." ++ decimal (bits v 16 8) ++ ascii "." ++ decimal (bits v 0 16)

def hexText (b : Bytes) : Bytes := b.flatMap fun x => ascii (String.ofList [hexDigit (x.toNat / 16), hexDigit (x.toNat % 16)])

/-- Static messages of an epoch (R432). -/
def State.staticFrames (s : State) : List Bytes :=
  let b := s.base
  [rtcmArp (s.cfg 0x3632 0 = 6) b.station b.year b.ref b.height,
   rtcmAntenna b.station (s.cfgB 0x3634 0) (s.cfg 0x3636 0) (s.cfgB 0x3635 0) (ascii "STAUM DEXILA HX") s.versionText (hexText s.silicon.serial),
   rtcmBias b.station].map rtcmFrame

/-- MSM bodies before their multiple message bit is known: number, epoch, first satellite number, cells. -/
def State.msmParts (s : State) (nominal : Int) (l : List Nat) (locks : List RtcmLock) :
    List (Nat × Nat × Nat × List MsmCell) :=
  let seven : Bool := s.cfg 0x3630 0 = 7
  msmSystems.flatMap fun y =>
    if bit (s.cfg 0x3637 0) y.2.2.1 then
      let cells := (l.filter fun r => bits r 290 3 = y.1).filterMap (msmCell nominal locks)
      (msmSplit cells).map fun c => (y.2.1 + (if seven then 3 else 0), msmEpoch y.1 nominal, y.2.2.2, c)
    else []

/-- The frames of an RTCM epoch (R432). -/
def State.rtcmBatch (s : State) (nominal : Int) (l : List Nat) (locks : List RtcmLock) (static : Bool) : List Bytes :=
  let parts := s.msmParts nominal l locks
  let msms := parts.mapIdx fun i p =>
    rtcmFrame (msmBody (s.cfg 0x3630 0 = 7) p.1 s.base.station p.2.1 (i + 1 < parts.length) s.tb.refin p.2.2.1 p.2.2.2)
  (if static then s.staticFrames else []) ++ msms

/-- A batch goes to every destination (R435, R436). -/
def State.deliver (s : State) (frames : List Bytes) : State :=
  let whole := frames.flatten
  let s := if s.cfg 0x363A 0 = 1 then
      (List.range 8).foldl (fun (s : State) k =>
        if s.modemOn k then
          let old := (s.modem k).rtcm
          let s := if old = [] then s else s.setBase fun b => { b with superseded := wrap 32 (b.superseded + 1) }
          s.setModem k fun m => { m with rtcm := frames }
        else s) s
    else s
  let s := (List.range 4).foldl (fun (s : State) n =>
    let d := s.cfgB 0x3638 (n + 1)
    if d = [] || !s.up .network then s else s.emit (.udp d whole)) s
  s.post (s.cfg 0x3639 0) whole

/-- An RTCM epoch without a batch (R423, R444). -/
def State.withhold (s : State) (nominal : Int) : State :=
  if s.rtcmEpoch nominal then s.setBase fun b => { b with withheld := wrap 32 (b.withheld + 1) } else s

/-- The corrections of an epoch (R423, R430 to R435). -/
def State.corrections (s : State) (nominal : Int) (l : List Nat) : State :=
  let locks := rtcmLocks nominal s.base.locks l
  let s := s.setBase fun b => { b with locks := locks }
  if !s.rtcmEpoch nominal then s
  else if s.base.st ≠ 2 then s.withhold nominal
  else
    let due : Bool := s.base.first || (match s.base.static with
      | some a => decide (a + (s.cfg 0x3633 0 * sec : Nat) ≤ nominal)
      | none => true)
    let frames := s.rtcmBatch nominal l locks due
    let s := s.setBase fun b => { b with first := false, static := if due then some nominal else b.static }
    if frames = [] then s
    else (s.setBase fun b => { b with sent := wrap 32 (b.sent + 1) }).deliver frames

/-- A base epoch with its records, its satellites as placed by their ephemerides (R425 to R435). -/
def State.baseSolve (s : State) (nominal : Int) (sky : List SatEph) : State :=
  let l := s.baseSignals sky nominal
  let smooth := l.map (smoothStep s.smoothLimit s.base.smooth)
  let s := s.setBase fun b => { b with smooth := smooth, redo := none }
  let point := s.basePoint sky smooth
  let spp := point.map fun p => mV3 p.1
  let recent := (match spp with
    | some p => [(nominal, p)]
    | none => []) ++ s.base.spps
  let s := s.setBase fun b =>
    { b with spps := recent.filter fun p => nominal < p.1 + 10 * (sec : Int),
             epochs := ({ nominal := nominal, a := l, b := s.baseRecs 1 nominal } :: b.epochs).take 512 }
  let s := (s.netSolve sky nominal l spp).surveyPoll
  let sats := ((l.map fun r => (bits r 290 3, bits r 282 8)).eraseDups).length
  let run := s.netRunNow
  let fails := s.baseChecks sats run
  let s := s.setBase fun b => { b with netRun := run }
  let s := (s.baseJudge fails).offerGnss ((point.map Prod.snd).getD []) fails
  (s.surveyEpoch spp).corrections nominal l

/-- A base epoch that a restart discarded is skipped once the next epoch's packets have arrived (R444). -/
def State.skipRedo (s : State) (nominal : Int) : State :=
  match s.base.redo with
  | some n => if n < nominal then (s.withhold n).setBase fun b => { b with redo := none } else s
  | none => s

/-- A base epoch: that of the latest nominal instant, once its records are posted. While the Fixer restarts it is discarded, and firmware
issues it again (R65, R444). -/
def State.baseEpoch (s : State) (nominal : Int) (sky : List SatEph) : State :=
  if !s.up .tracking || s.track.mode = 1 then s
  else match s.track.nominal with
    | none => s
    | some n =>
      let s := s.skipRedo n
      if n ≠ nominal || (s.base.epochs.head?.map BaseEp.nominal) = some nominal then s
      else if !s.up .fixer then (if (s.isl .fixer).st = .restarting then s.setBase fun b => { b with redo := some nominal } else s)
      else s.baseSolve nominal sky

/-! ### Restart, reset and failed neighbours (R422, R424, R444, Table 9.7) -/

/-- The Fixer island is released from a reset. -/
def State.baseReset (s : State) : State :=
  let failed : Bool := s.cfg 0x3625 0 = 1 || s.cfg 0x3625 0 = 2
  let s := (s.setBase fun _ => Base.reset).loadBase.baseStart
  if failed then (s.setSurveyState 4).logEv .baseSurveyFailed [] else s

/-- The Tracking island has failed: an OPERATING base enters SUSPECT by the satellites check. -/
def State.baseNoTracking (s : State) : State :=
  if s.base.st = 2 then ((s.setBase fun b => { b with cause := 4, passAt := List.replicate 5 none }).baseTo 3).logEv .baseSuspect [4] else s

end Sys2Proof.Machine
end

