-- ==== Sys2Proof/Machine/RoverOps.lean ====
section
/-!
DEFINITION. What the Fixer does as rover solver: observation records from arrival to fix record, scheduling, ambiguity validation
(10_fixer_rover_solving.md). The filter itself is in Machine/Filter.lean.
-/

namespace Sys2Proof.Machine

def State.setRover (s : State) (f : Rover → Rover) : State := { s with rover := f s.rover }
def State.roverSlot (s : State) (m : Nat) : RoverSlot := Tbl.getD s.rover.slots m RoverSlot.reset
def State.setRoverSlot (s : State) (m : Nat) (f : RoverSlot → RoverSlot) : State :=
  s.setRover fun r => { r with slots := Tbl.put r.slots m (f (Tbl.getD r.slots m RoverSlot.reset)) }

/-- RoverRateBudget (R22, R457, Table 19.10). -/
def State.roverRate (s : State) : Nat :=
  if !s.sService then 0
  else
    let top := if s.packageA then 10 * s.tier else min 5120 (10 * s.tier)
    let i := s.isl .fixer
    top * (8 - min 8 i.regions) * (16 - i.step) / 128

/-- Epochs in flight at once (R458, Table 19.10). -/
def State.roverFlights (s : State) : Nat := 64 - 8 * (s.isl .fixer).regions

/-! ### The observation record (R449 to R454) -/

/-- An entry of Table 10.2 is well formed. -/
def obsEntryOk (b : Bytes) : Bool :=
  let v := leNat b
  let sig := bits v 112 5
  bits v 125 3 ≤ 5 && sig ≠ 0 && sig ≠ 8 && sig ≤ 14 && bits v 0 2 = 0

/-- REFUSED_FORMAT (R449, Tables 10.1 and 10.2). -/
def obsOk (r : Bytes) : Bool :=
  let n := u r 2 1
  48 ≤ r.length && (1 ≤ n && n ≤ 64) && r.length = 48 + 16 * n && u r 0 1 = 1 && u r 1 1 < 4 && u r 3 1 = 0 && u r 6 2 = 0 && u r 34 2 = 0
    && (1 ≤ u r 28 4 && u r 28 4 ≤ 1000000) && (List.range n).all fun i => obsEntryOk (slice r (48 + 16 * i) 16)

/-- Check 4: order of obs_seq and t_rx within the slot (R454, R455). -/
def State.obsOrderOk (s : State) (m : Nat) (r : Bytes) : Bool :=
  match (s.roverSlot m).last with
  | none => true
  | some (q, t) =>
    let d := (u r 4 2 + 65536 - q) % 65536
    1 ≤ d && d ≤ 32767 && t < si r 8 8

/-- The reported position of a record (R453). -/
def reportedOf (r : Bytes) : RepPos :=
  { t := si r 8 8, e := 10 * si r 16 4, n := 10 * si r 20 4, ve := si r 36 4, vn := si r 40 4, heading := u r 32 2, sigma := u r 28 4 }

/-! ### Fix records (R481, Table 10.6) -/

/-- A fix record from its fields. -/
structure FixRec where
  t       : Int
  slot    : Nat
  status  : Nat
  flags   : Nat
  machine : Nat
  ecef    : Int × Int × Int
  plane   : Bytes
  vel     : Bytes
  cov     : Bytes
  seq     : Nat
  sats    : Nat
  fixed   : Nat
  ratio   : Nat
  age     : Nat
  baseline : Nat
  ab      : Nat
  clock   : Nat
  outcome : Nat
  deriving DecidableEq, Repr, Inhabited

def FixRec.bytes (f : FixRec) : Bytes :=
  leInt 8 f.t ++ leBytes 2 f.slot ++ [byte f.status, byte f.flags] ++ leBytes 4 f.machine ++ leInt 8 f.ecef.1 ++ leInt 8 f.ecef.2.1
    ++ leInt 8 f.ecef.2.2 ++ fit 12 f.plane ++ fit 12 f.vel ++ fit 24 f.cov ++ leBytes 2 f.seq ++ [byte f.sats, byte f.fixed]
    ++ leBytes 2 f.ratio ++ leBytes 2 f.age ++ leBytes 4 f.baseline ++ leBytes 2 f.ab ++ [byte f.clock, byte f.outcome]

/-- The fix records of a slot that no earlier epoch of the slot holds back are posted, oldest first (R481). `held` names the slots with
an earlier epoch still to end. -/
def splitEnded : List RoverEpoch → List Nat → List (Nat × Bytes) × List RoverEpoch
  | [], _ => ([], [])
  | x :: t, held =>
    match x.phase with
    | .ended b => if held.contains x.slot then let r := splitEnded t held; (r.1, x :: r.2)
                  else let r := splitEnded t held; ((x.slot, b) :: r.1, r.2)
    | _ => let r := splitEnded t (x.slot :: held); (r.1, x :: r.2)

/-- A fix record leaves: posted, kept as the slot's latest. -/
def State.postFix (s : State) (m : Nat) (b : Bytes) : State :=
  ((s.setRoverSlot m fun x => { x with fix := b }).post (s.cfg 0x3802 0) b)

def State.flushFixes (s : State) : State :=
  let r := splitEnded s.rover.epochs []
  let s := s.setRover fun x => { x with epochs := r.2 }
  r.1.foldl (fun s p => s.postFix p.1 p.2) s

/-- The fix record of a record that was refused: what Table 10.6 states of status 0, and free values elsewhere (log entry 6). -/
def State.refusedFix (s : State) (slot machine : Nat) (r : Bytes) (outcome : Nat) : State × Bytes :=
  let (s, f) := s.drawBytes 64
  let flags := 4 + 32 * b2n (s.base.st ≠ 2) + 64 * b2n (bit (u r 1 1) 1)
  let x : FixRec := { t := si r 8 8, slot := slot, status := 0, flags := flags, machine := machine, ecef := (0, 0, 0), plane := slice f 0 12,
                      vel := slice f 12 12, cov := slice f 24 24, seq := u r 4 2, sats := u f 48 1, fixed := 0, ratio := 0,
                      age := u f 49 2, baseline := u f 51 4, ab := 0xFFFF, clock := u f 55 1, outcome := outcome }
  (s, x.bytes)

/-- A record ends refused: its fix record joins the slot's order. -/
def State.roverRefuse (s : State) (slot machine : Nat) (arrival : Int) (r : Bytes) (outcome : Nat) : State :=
  let (s, b) := s.refusedFix slot machine r outcome
  let x : RoverEpoch := { slot := slot, machine := machine, arrival := arrival, data := r, phase := .ended b }
  (s.setRover fun v => { v with epochs := v.epochs ++ [x], refused := wrap 32 (v.refused + 1) }).flushFixes

/-- A record already taken in ends refused. -/
def State.roverDrop (s : State) (i : Nat) (x : RoverEpoch) (outcome : Nat) : State :=
  let (s, b) := s.refusedFix x.slot x.machine x.data outcome
  (s.setRover fun v => { v with epochs := v.epochs.set i { x with phase := .ended b }, refused := wrap 32 (v.refused + 1) }).flushFixes

/-! ### Arrival (R453, R454) -/

/-- Records that wait. -/
def Rover.pending (r : Rover) : Nat := r.epochs.countP fun x => x.phase = .waiting
def Rover.flying (r : Rover) : Nat := r.epochs.countP fun x => x.phase = .flying

/-- Outcome of checks 1 to 5, in order. -/
def State.obsCheck (s : State) (slot : Nat) (r : Bytes) : Option Nat :=
  if !s.sService || s.tier ≤ slot || s.gone .fixer then some 0x70
  else if !obsOk r then some 0x38
  else if s.cfg 0x3800 0 = 0 then some 0x3D
  else if !s.obsOrderOk slot r then some 0x39
  else if s.cfg 0x3810 0 ≤ s.rover.pending then some 0x50
  else none

/-- An observation record arrives. -/
def State.obsArrival (s : State) (pkt : Bytes) : State :=
  let slot := u pkt 8 2 % 1024
  let machine := u pkt 12 4
  let arrival := si pkt 0 8
  let r := pkt.drop 16
  if !s.up .compute then s
  else
    let s := if bit (u r 1 1) 0 && obsOk r && s.obsOrderOk slot r then s.issueConf slot (.reported (reportedOf r)) else s
    match s.obsCheck slot r with
    | some o => s.roverRefuse slot machine arrival r o
    | none =>
      let s := s.setRoverSlot slot fun x => { x with last := some (u r 4 2, si r 8 8) }
      let x : RoverEpoch := { slot := slot, machine := machine, arrival := arrival, data := r, phase := .waiting }
      s.setRover fun v => { v with epochs := v.epochs ++ [x] }

/-! ### Start (R456 to R460) -/

/-- The latest base epoch at or before a time. -/
def State.baseAt (s : State) (t : Int) : Option BaseEp := s.base.epochs.find? fun e => e.nominal ≤ t

/-- Check 8. -/
def State.hasBase (s : State) (t : Int) : Bool :=
  (match s.baseAt t with
    | some e => decide (t - (s.cfg 0x3804 0 * ms : Nat) ≤ e.nominal)
    | none => false) &&
  (s.refSource ≠ 0 || (match s.base.survey with
    | some x => decide (0 < x.blocks)
    | none => false))

/-- The first waiting epoch starts when the budget holds its cost, fewer epochs than the limit are in flight, and none of its slot is;
its start checks come before its cost is taken. -/
def State.roverStart (s : State) : State :=
  match s.rover.epochs.findIdx? fun x => x.phase = .waiting with
  | none => s
  | some i =>
    match s.rover.epochs[i]? with
    | none => s
    | some x =>
      let b := s.rover.budget.fill s.roverRate s.now
      let c := (if 49 ≤ u x.data 2 1 then 2 else 1) * 1000000000
      if !s.up .fixer || b.level < c || s.roverFlights ≤ s.rover.flying || s.rover.epochs.any (fun y => y.slot = x.slot && y.phase = .flying) then s
      else if !s.holderIs x.slot x.machine then s.roverDrop i x 0x3A
      else if x.arrival + (s.cfg 0x3803 0 * ms : Nat) < s.time64 then s.roverDrop i x 0x3B
      else if !s.hasBase (si x.data 8 8) then s.roverDrop i x 0x3C
      else s.setRover fun v => { v with epochs := v.epochs.set i { x with phase := .flying }, budget := { b with level := b.level - c } }

/-! ### State blocks (R468, R469, R471) -/

/-- The number of the block that a slot's pointer names, and that block. -/
def Rover.pointer (r : Rover) (m : Nat) : Nat := Tbl.getD r.table m m
def Rover.block (r : Rover) (m : Nat) : Option RoverBlock := Tbl.get? r.blocks (r.pointer m)

/-- A new state is written into a spare block, and the slot's pointer is swapped with it (R469). -/
def Rover.swap (r : Rover) (m : Nat) (b : RoverBlock) : Rover :=
  match r.spares with
  | [] => r
  | n :: rest => { r with blocks := Tbl.put r.blocks n b, table := Tbl.put r.table m n, spares := rest ++ [r.pointer m] }

/-- An uncorrectable error in a slot's state block. -/
def State.roverDamage (s : State) (m : Nat) : State :=
  s.setRover fun r => { r with blocks := Tbl.upd r.blocks (r.pointer m) fun b => { b with damaged := true } }

/-! ### What an epoch is solved from (R451, R452, R461 to R464, R476, R485) -/

/-- The reference of the solver: the active one, or during a survey without one its latest estimate (R485). -/
def State.roverRef (s : State) : V3 :=
  if s.refSource ≠ 0 then s.base.ref
  else match s.base.survey with
    | some x => x.estimate
    | none => s.base.ref

/-- Antenna B: the reference plus the baseline (R476). -/
def State.antennaB (s : State) (ref : V3) : V3 :=
  let b := s.baseline
  let d : Vec := [(b.1 : Rat) / 1000, (b.2.1 : Rat) / 1000, (b.2.2 : Rat) / 1000]
  mV3 ((frameAt ref).out d)

/-- The plane the position states lie in: the site plane, or east, north and up at the reference while there is no site frame. -/
def State.roverFrame (s : State) (ref : V3) : Frame := frameAt (if s.siteState = 0 then ref else s.siteOrigin)

/-- The settings in effect (R488). -/
def State.filterPars (s : State) : FilterPars :=
  { codeSigma := s.cfg 0x3806 0, phaseSigma := s.cfg 0x3807 0, accel := s.cfg 0x3808 0, ionoPpm := s.cfg 0x3809 0, elevMask := s.cfg 0x3805 0,
    ratioMin := s.cfg 0x380A 0, minFixed := s.cfg 0x380B 0, partialDrop := s.cfg 0x380C 0, abFracMax := s.cfg 0x380D 0,
    phaseResMax := s.cfg 0x380E 0, nodes := s.cfg 0x380F 0 }

/-- The entries of a record as numbers. -/
def obsEntries (r : Bytes) : List Nat := (List.range (u r 2 1)).map fun i => u r (48 + 16 * i) 16

/-- The entries that are used (R452): of systems other than SBAS, with a pseudorange, at or above RoverElevMask as seen from the reference,
of the 32 highest satellites. -/
def usedEntries (sky : List SatEph) (ref : V3) (mask : Nat) (r : Bytes) : List PhaseObs :=
  let elev (o : PhaseObs) : Option Rat := (ephOf sky o.sig.system o.sig.sat).map fun e => sinElev ref e.pos
  let l := ((obsEntries r).filter fun e => bits e 125 3 ≠ 5 && bit e 3).map entryObs
  let l := l.filter fun o => match elev o with
    | some h => decide (sinDeg mask ≤ h)
    | none => false
  let sats := sortBy (fun a b => decide ((elev b).getD 0 ≤ (elev a).getD 0)) l
  let keep := ((sats.map fun o => (o.sig.system, o.sig.sat)).eraseDups).take 32
  l.filter fun o => keep.contains (o.sig.system, o.sig.sat)

/-- The machine's clock offset (ns) and position from a single-point code solution, against its lowest system (R463). -/
def machinePoint (sky : List SatEph) (ref : V3) (l : List PhaseObs) : Option (Int × Vec) :=
  (singlePoint (v3m ref) (l.filterMap fun o => codeOf sky o.sig o.range)).map fun p =>
    (nearest (10 ^ 9 * (p.2.head?.map Prod.snd).getD 0 / lightSpeed), p.1)

/-- What an epoch of a slot is solved from, with its clock offset and the position its filter would re-initialise at. -/
def State.roverInput (s : State) (x : RoverEpoch) (sky : List SatEph) : Int × Vec × FilterIn :=
  let ref := s.roverRef
  let l := usedEntries sky ref (s.cfg 0x3805 0) x.data
  let pt := machinePoint sky ref l
  let off := (pt.map Prod.fst).getD 0
  let t := si x.data 8 8 - off
  let ep := s.baseAt t
  let recs (f : BaseEp → List Nat) : List PhaseObs := ((ep.map f).getD []).map (recObs t)
  (off, (pt.map Prod.snd).getD (v3m ref),
   { t := t, rover := l, base := recs BaseEp.a, baseB := recs BaseEp.b, roverUnit := entryUnit, baseUnit := recordUnit, sky := sky, posA := ref,
     posB := s.antennaB ref, frame := s.roverFrame ref, pars := s.filterPars })

/-! ### An epoch ends (R461 to R485) -/

/-- Whether the filter re-initialises (R467). -/
def State.reinits (s : State) (x : RoverEpoch) : Bool :=
  (s.roverSlot x.slot).again || bit (u x.data 1 1) 1 || (match s.rover.block x.slot with
    | none => true
    | some b => b.damaged || b.machine ≠ x.machine || b.t + (s.cfg 0x3812 0 * ms : Nat) < si x.data 8 8)

/-- An F32 in mm² as a whole number of 10⁻⁶ mm². -/
def f32micro (b : BitVec 32) : Int :=
  let v := b.toNat
  let e := bits v 23 8
  let f := if e = 0 then bits v 0 23 else 2 ^ 23 + bits v 0 23
  let x : Int := (e : Int) - (if e = 0 then 149 else 150)
  let m : Int := if 0 ≤ x then (f * 1000000 * 2 ^ x.toNat : Nat) else roundDiv (f * 1000000 : Nat) (2 ^ (-x).toNat)
  if bit v 31 then -m else m

/-- The covariance words of a fix record (R483): ee, nn, uu, en, eu, nu in mm². -/
def covWords (p : Mat) : List (BitVec 32) := [(0, 0), (1, 1), (2, 2), (0, 1), (0, 2), (1, 2)].map fun k => toF32 (1000000 * p.at_ k.1 k.2)
def covAt (l : List (BitVec 32)) (i : Nat) : Int := f32micro (l.getD i 0)

/-- Three I32 of millimetres. -/
def mmOf (v : Vec) : V3 := let one (i : Nat) : Int := satInt 32 (nearest (1000 * v.getD i 0)); (one 0, one 1, one 2)
def i32s (v : V3) : Bytes := leInt 4 v.1 ++ leInt 4 v.2.1 ++ leInt 4 v.2.2

/-- The status of an epoch (Table 10.7). -/
def EpochOut.status (o : EpochOut) : Nat := if o.invalid then 1 else if o.found.held = [] then 2 else 3

/-- The fix record of a solved epoch (Table 10.6). -/
def State.solvedFix (s : State) (x : RoverEpoch) (off : Int) (f : FilterIn) (again operating : Bool) (o : EpochOut) : FixRec :=
  let st := o.status
  let ecef := mV3 (f.frame.out (o.x.take 3))
  let age := match s.baseAt f.t with
    | some e => min 65535 ((f.t - e.nominal).toNat / ms)
    | none => 65535
  { t := f.t, slot := x.slot, status := st, flags := b2n o.kept + 2 * b2n o.found.part + 4 * b2n o.found.ab.isNone + 8 * b2n o.found.limit
      + 16 * b2n again + 32 * b2n (!operating) + 64 * b2n (bit (u x.data 1 1) 1),
    machine := x.machine, ecef := if st = 1 then (0, 0, 0) else ecef, plane := i32s (mmOf (o.x.take 3)), vel := i32s (mmOf (o.x.drop 3)),
    cov := (covWords o.p).flatMap fun b => leBytes 4 b.toNat, seq := u x.data 4 2, sats := o.sats, fixed := o.found.held.length,
    ratio := o.found.ratio, age := age, baseline := min (2 ^ 32 - 1) (nearSqrt (ecefDist2 ecef f.posA) / 10), ab := o.found.ab.getD 0xFFFF,
    clock := (satInt 8 (roundDiv off 1000) % 256).toNat, outcome := if st = 3 then 0 else 1 }

/-- An epoch completes with the satellites as placed by their ephemerides: it commits its state, its fix record joins the slot's order, and
a conformance operation is issued. -/
def State.roverDone (s : State) (slot : Nat) (sky : List SatEph) : State :=
  match s.rover.epochs.findIdx? fun x => x.slot = slot && x.phase = .flying with
  | none => s
  | some i =>
    match s.rover.epochs[i]? with
    | none => s
    | some x =>
      if !s.up .fixer then s
      else
        let again := s.reinits x
        let operating : Bool := s.base.st = 2
        let old := s.rover.block slot
        let (off, start, f) := s.roverInput x sky
        let o := f.epoch (if again then none else old.map RoverBlock.filter) start operating (250000 ≤ s.track.baseLen2)
        let fix := s.solvedFix x off f again operating o
        let block : RoverBlock := { machine := x.machine, t := si x.data 8 8, seq := u x.data 4 2, gen := wrap 32 ((old.map RoverBlock.gen).getD 0 + 1),
                                    status := o.status, damaged := false, filter := o.filter }
        let s := s.setRoverSlot slot fun r => { r with again := false, fixed := (if again then 0 else r.fixed) + b2n (o.status = 3) }
        let s := s.setRover fun r => { r.swap slot block with epochs := r.epochs.set i { x with phase := .ended fix.bytes },
                                                              solved := wrap 32 (r.solved + 1), reinits := wrap 32 (r.reinits + b2n again) }
        let s := (s.count 0x08 0 1).flushFixes
        if 2 ≤ o.status then
          let p := mmOf (o.x.take 3)
          let c := covWords o.p
          s.issueConf slot (.fix f.t (10 * p.1) (10 * p.2.1) (covAt c 0) (covAt c 1) (covAt c 3) o.status)
        else s

/-- RoverReset (R467). -/
def State.roverReset (s : State) (m : Nat) : State × Option Ans := (s.setRoverSlot m fun x => { x with again := true }, some (Ans.done []))

/-! ### Restart, failure and reset (R470, Table 10.9) -/

/-- Epochs in flight are issued again from their records, in their order of arrival. -/
def State.roverRestart (s : State) : State :=
  s.setRover fun r => { r with epochs := r.epochs.map fun x => if x.phase = .flying then { x with phase := .waiting } else x }

/-- The Fixer has failed: every record not ended is answered ABSENT. -/
def State.roverFailed (s : State) : State :=
  (List.range s.rover.epochs.length).foldl (fun s _ =>
    match s.rover.epochs.findIdx? (fun x => x.phase = .waiting || x.phase = .flying) with
    | some j => (match s.rover.epochs[j]? with
      | some x => s.roverDrop j x 0x70
      | none => s)
    | none => s) s

/-- A chip or system reset, or the loss of LPDDR. -/
def State.roverResetAll (s : State) : State := s.setRover fun _ => Rover.start s.roverRate s.tier s.now

/-- A reset of the Fixer island alone: the state blocks in LPDDR and the records in their queue stand, and epochs in flight are issued again
(R65, R469, Table 2.6). -/
def State.roverIslandReset (s : State) : State := s.roverRestart

/-- The Fixer is released: its budget is full (log entry 29). -/
def State.roverRelease (s : State) : State :=
  let now := s.now
  let rate := s.roverRate
  let fresh := span s.tier 64
  s.setRover fun r => { r with budget := Bucket.full rate now, spares := if r.table = [] then fresh else r.spares }

end Sys2Proof.Machine
end

