-- ==== Sys2Proof/Machine/GroupOps.lean ====
section
/-!
DEFINITION. Commits of stage groups: each block's validation of a shadow set, and the step that makes it active
(03_object_dictionary.md R101 to R106).
-/

namespace Sys2Proof.Machine

/-- CapCommit (R36, R37). -/
def State.capCheck (s : State) : Option Ans :=
  let v := s.cfg 0x1010 1
  let beyond : Bool := bit v 7 &&
    (s.silicon.tier < capTier v || (capService v && !s.silicon.sService) || (capPackageA v && !s.silicon.packageA))
  if beyond then some (Ans.bad 0x05100001) else none

/-- The block's validation rules of the group of commit object `c` (check 11 of R112). -/
def State.groupCheck (s : State) (c : Nat) : Option Ans :=
  if 0x2100 ≤ c && c < 0x2108 then s.pulseCheck (s.cfgB c 1)
  else if 0x2820 ≤ c && c < 0x2828 then s.canPortCheck (c - 0x2820) (s.cfg c 1) (s.cfg c 2)
  else match c with
    | 0x1010 => s.capCheck
    | 0x4000 => s.siteCheck
    | 0x4040 => s.regionCheck
    | 0x3002 => s.trackCheck
    | 0x3600 => s.baseCheck
    | 0x4800 => s.policyCheck
    | 0x2C00 => s.radioCheck
    | 0x2440 => s.ptpCheck
    | 0x2830 => s.canTmCheck (s.cfgB 0x2830 1)
    | _ => none

/-- The group becomes active, with what its block does at the commit. The site frame and region groups take their place among the
Comb's operations and are answered there. -/
def State.groupCommit (s : State) (c : Nat) (who : Caller) : State × Option Ans :=
  let done (s : State) : State × Option Ans := (s, some (Ans.done []))
  if 0x2100 ≤ c && c < 0x2108 then done ((s.applyGroup c).pulseCommitted (c - 0x2100))
  else if 0x2820 ≤ c && c < 0x2828 then done ((s.applyGroup c).canPortCommitted (c - 0x2820))
  else match c with
    | 0x4000 => (s.internalOp (.site who (s.shadowVals c)), none)
    | 0x4040 => (s.internalOp (.region who (s.shadowVals c)), none)
    | 0x3002 => done (s.applyGroup c).trackCommitted
    | 0x3600 => done (s.applyGroup c).baseCommitted
    | 0x2C00 => done s.radioCommitted
    | 0x2440 =>
      let old := (List.range 4).map fun n => s.cfgB 0x2453 (n + 1)
      done ((s.applyGroup c).ptpCommitted old)
    | 0x2830 => done (s.applyGroup c).canTmCommitted
    | _ => done (s.applyGroup c)

/-- A commit that reaches its block. -/
def State.commitGroup (s : State) (c : Nat) (who : Caller) : State × Option Ans :=
  match s.groupCheck c with
  | some a => (s, some a)
  | none => s.groupCommit c who

/-- The commit objects, in ascending order. -/
def commitIndices : List Nat :=
  [0x1010] ++ span 0x2100 8 ++ [0x2440] ++ span 0x2820 8 ++ [0x2830, 0x2C00, 0x3002, 0x3600, 0x4000, 0x4040, 0x4800]

end Sys2Proof.Machine
end

