-- ==== Sys2Proof/Machine/BootOps.lean ====
section
/-!
DEFINITION. Image headers, the ROM's choice of slot, updates, trials, settings banks through a boot, and Boant
(18_boot_update_recovery.md R833 to R866).
-/

namespace Sys2Proof.Machine

/-! ### Image headers (Table 18.2, R836, R842) -/

def hdrKind (h : Bytes) : Nat := u h 5 1
def hdrVersion (h : Bytes) : Nat := u h 8 4
def hdrSecurity (h : Bytes) : Nat := u h 12 2
def hdrFormat (h : Bytes) : Nat := u h 14 2
def hdrLen0 (h : Bytes) : Nat := u h 16 4
def hdrLen1 (h : Bytes) : Nat := u h 20 4
def hdrHash0 (h : Bytes) : Bytes := slice h 32 48
def hdrHash1 (h : Bytes) : Bytes := slice h 80 48

/-- Check 1 of Table 18.3: magic, header_version, kind, lengths and reserved fields. `rest` is what of the other kind shares the
slot. -/
def hdrShapeOk (h : Bytes) (rest : Nat) : Bool :=
  h.length = 512 && h.take 4 = ascii "DXIM" && u h 4 1 = 1 && u h 6 2 = 0 && allZero (slice h 128 64) && allZero (slice h 288 224)
    && 512 + hdrLen0 h + hdrLen1 h + rest ≤ 33554432
    && (match hdrKind h with
      | 1 => hdrSecurity h ≤ 64 && 4096 ≤ hdrLen0 h && hdrLen0 h ≤ 524288 && 1 ≤ hdrLen1 h
      | 2 => hdrSecurity h = 0 && hdrFormat h = 0 && 1 ≤ hdrLen0 h && hdrLen0 h ≤ 8388608 && hdrLen1 h = 0 && allZero (hdrHash1 h)
      | _ => false)

/-- The signature of a header (R836): by Staum's image key, or by the owner's AppletSignerKey. -/
def State.hdrSigned (s : State) (h : Bytes) : Bool :=
  let key := if hdrKind h = 1 then Config.imageKey else s.cfgB 0x1217 0
  (hdrKind h = 1 || !allZero key) && Config.verify key (h.take 192) (slice h 192 96)

def State.imgSlot (s : State) (i : Nat) : ImgSlot := s.boot.imgs.getD i ImgSlot.empty
def State.setImg (s : State) (i : Nat) (f : ImgSlot → ImgSlot) : State :=
  { s with boot := { s.boot with imgs := modNth s.boot.imgs i f } }

/-! ### Boot records (R834) -/

/-- What a boot record now holds. -/
def State.bootRecord (s : State) (gen : Nat) : BootRecord :=
  { gen := gen, good := true, active := s.boot.active, trial := s.boot.trial, bank := s.settings.named,
    sts := s.boot.imgs.map ImgSlot.st, staged := s.boot.staged }

/-- Records are written alternately: into the one of lower generation, or one that does not verify. -/
def State.writeBoot (s : State) : State :=
  let b := s.boot
  let r := s.bootRecord (max b.recA.gen b.recB.gen + 1)
  { s with boot := if b.recA.good && (!b.recB.good || b.recB.gen < b.recA.gen) then { b with recB := r } else { b with recA := r } }

/-- The record that the ROM takes: it verifies and has the higher generation. -/
def Boot.winner (b : Boot) : Option BootRecord :=
  if b.recA.good && (!b.recB.good || b.recB.gen ≤ b.recA.gen) then some b.recA else if b.recB.good then some b.recB else none

/-- What a boot record says is in force. -/
def State.takeBoot (s : State) (r : BootRecord) : State :=
  let imgs := s.boot.imgs.mapIdx fun i x => { x with st := r.sts.getD i x.st }
  { s with boot := { s.boot with active := r.active, trial := r.trial, imgs := imgs, staged := r.staged },
           settings := { s.settings with named := r.bank } }

/-- Power failed while the last record was written: it does not verify, and the previous one is in force. -/
def State.bootTorn (s : State) : State :=
  let b := s.boot
  let b := if b.recA.gen ≤ b.recB.gen then { b with recB := { b.recB with good := false } } else { b with recA := { b.recA with good := false } }
  let s : State := { s with boot := b }
  match b.winner with
  | some r => s.takeBoot r
  | none => s

/-- A slot passes R839. -/
def State.slotOk (s : State) (i : Nat) : Bool :=
  let x := s.imgSlot i
  (x.st = .staged || x.st = .trial || x.st = .active || x.st = .valid) && x.sigOk && x.seg0Ok && x.seg1Ok && s.boot.fuse ≤ hdrSecurity x.header

/-- The slot an update writes: the one that was not booted. -/
def State.otherSlot (s : State) : Nat := 1 - s.boot.booted

/-! ### Objects a bundle declares (R792, Table 3.9) -/

def appletEntry (b : Bytes) : AppletObj :=
  { key := u b 0 2 * 256 + u b 2 1, type := u b 3 1, access := u b 4 1, priv := u b 5 1, persistent := bit (u b 6 1) 0,
    grouped := bit (u b 6 1) 2, port := bit (u b 6 1) 3, maxSize := u b 8 4, commit := u b 12 2 }

/-- An entry by itself is one of Table 3.9 for an applet object. -/
def appletEntryOk (b : Bytes) : Bool :=
  b.length = 16 && 0x6000 ≤ u b 0 2 && u b 0 2 ≤ 0x6FFF && 1 ≤ u b 3 1 && u b 3 1 ≤ 0x11 && u b 4 1 ≤ 4 && u b 5 1 ≤ 3 && u b 6 1 < 16
    && !bit (u b 6 1) 1 && u b 7 1 = 0 && u b 14 2 = 0

/-- Strings of 16 bytes. -/
def chunks16 : Nat → Bytes → List Bytes
  | 0, _ => []
  | n + 1, b => if b = [] then [] else b.take 16 :: chunks16 n (b.drop 16)

/-- The objects of a bundle, unless its entries overlap, carry reserved bits or name a commit object of another's. -/
def bundleObjs (entries : Bytes) : Option (List AppletObj) :=
  let bs := chunks16 (entries.length / 16 + 1) entries
  let os := bs.map appletEntry
  let keys := os.map AppletObj.key
  if bs.all appletEntryOk && keys.Nodup && os.all (fun o => o.commit = 0 || keys.any fun k => k / 256 = o.commit) then some os else none

/-! ### The boot chain (R837 to R841) -/

/-- Why a trial was rejected, as EV_UPDATE_REJECTED reports it: in the order of R848's list. -/
inductive RejectCause where
  | host | timeout | noAttempts | slotFailed
  deriving DecidableEq, Repr, Inhabited

def RejectCause.code : RejectCause → Nat
  | .host => 0 | .timeout => 1 | .noAttempts => 2 | .slotFailed => 3

/-- The trial is rejected (R848, R855): the boot record drops it, the slot returns to staged unless it failed, and the settings are
again those of the active bank. -/
def State.rejectTrial (s : State) (why : RejectCause) : State :=
  match s.boot.trial with
  | none => s
  | some t =>
    let failed : Bool := why = .slotFailed
    let s := s.setImg t.slot fun x => { x with st := if failed then .invalid else .staged }
    let b := { s.boot with trial := none, running := none, staged := if failed then s.boot.staged else some t.slot }
    let g := { s.settings with inUse := s.settings.named, trialBank := false, defaulted := false, imported := none }
    (({ s with boot := b, settings := g } : State).writeBoot).logEv .updateRejected [byte why.code]

/-- A slot that the ROM selected fails R839 (R840). -/
def State.slotFailed (s : State) (i : Nat) : State :=
  (s.setImg i fun x => { x with st := .invalid }).writeBoot.logEv .bootSlotFailed [byte i]

/-- Enter Boant (R862, R864): the slot it writes. -/
def State.enterBoant (s : State) : State :=
  let a := s.slotOk 0; let b := s.slotOk 1
  let w := if !a then 0 else if !b then 1 else s.otherSlot
  { s with boot := { s.boot with boant := true, boantReq := false, boantHdr := [], boantData := [], boantSlot := w, running := none } }

/-- The selected slot runs (R837, R841, R847): measurements, bundle and owed fuses. -/
def State.runSlot (s : State) (i : Nat) : State :=
  let x := s.imgSlot i
  let m0 := hdrHash0 x.header
  let m1 := Sha.extend m0 (hdrHash1 x.header)
  let objs := bundleObjs x.objects
  let good : Bool := x.appHdr ≠ [] && x.appOk && hdrKind x.appHdr = 2 && s.hdrSigned x.appHdr && objs.isSome
  let m2 := Sha.extend m1 (if good then hdrHash0 x.appHdr else zeros 48)
  let b := { s.boot with boant := false, booted := i, m0 := m0, m1 := m1, m2 := m2, fuse := max s.boot.fuse s.boot.owed }
  let s : State := { s with boot := b, fabric := { s.fabric with bundle := if good then objs else none } }
  if x.appHdr ≠ [] && !good then s.logEv .appletRejected [] else s

/-- The ROM's choice at a release of the Security island from a chip, system or power-on reset (R838 to R840, R848, R850, R862). With
it, why a pending trial is rejected. -/
def State.romSelect (s : State) : State × Option RejectCause :=
  let s : State := { s with boot := { s.boot with boant := false } }
  if s.boot.boantReq then (s.enterBoant, none)
  else match s.boot.trial with
    | some t =>
      if t.attempts = 0 then
        if s.slotOk s.boot.active then (s.runSlot s.boot.active, some .noAttempts)
        else ((s.rejectTrial .noAttempts).slotFailed s.boot.active |>.enterBoant, none)
      else
        let s := ({ s with boot := { s.boot with trial := some { t with attempts := t.attempts - 1 } } } : State).writeBoot
        if s.slotOk t.slot then (s.runSlot t.slot, none)
        else
          let s := s.slotFailed t.slot
          if s.slotOk (1 - t.slot) then (s.runSlot (1 - t.slot), some .slotFailed)
          else (((s.slotFailed (1 - t.slot)).rejectTrial .slotFailed).enterBoant, none)
    | none =>
      let a := s.boot.active
      if s.slotOk a then (s.runSlot a, none)
      else
        let s := s.slotFailed a
        if s.slotOk (1 - a) then (s.runSlot (1 - a), none) else ((s.slotFailed (1 - a)).enterBoant, none)

/-- The trial slot is the one that was booted. -/
def State.trialBooted (s : State) : Bool := match s.boot.trial with
  | some t => t.slot = s.boot.booted && !s.boot.boant
  | none => false

/-! ### Settings banks through a boot (R827, R828, R854, R856, R860) -/

def Settings.other (g : Settings) : Bank := if g.inUse = 0 then g.bank1 else g.bank0
def Settings.putBank (g : Settings) (i : Nat) (b : Bank) : Settings := if i = 0 then { g with bank0 := b } else { g with bank1 := b }

/-- Generation of a bank newly written. -/
def Settings.nextGen (g : Settings) : Nat := max g.bank0.gen g.bank1.gen + 1

/-- Settings format that the running firmware writes. -/
def State.fwFormat (s : State) : Nat := hdrFormat (s.imgSlot s.boot.booted).header
def State.fwVersion (s : State) : Nat := hdrVersion (s.imgSlot s.boot.booted).header

/-- The running firmware reads a settings format: its own, and those the image says. -/
def State.canRead (s : State) (format : Nat) : Bool := format = s.fwFormat || Config.readsFormat s.fwVersion format

/-- The banks as the firmware takes them up: an imported image in the other bank, and a trial's own bank. A trial firmware copies the
active bank once, at its first boot. -/
def State.takeBanks (s : State) : State :=
  let g := s.settings
  let g := match g.imported with
    | some (b, groups) =>
      let carried := groups.map fun c => (c, 0)
      if g.trialBank then { g.putBank g.inUse b with imported := none, carried := carried }
      else { g.putBank (1 - g.named) b with imported := none, named := 1 - g.named, carried := carried }
    | none => g
  let s := if g.named = s.settings.named then s else ({ s with settings := g } : State).writeBoot
  if s.trialBooted then
    if g.trialBank then { s with settings := g }
    else
      let act := if g.named = 0 then g.bank0 else g.bank1
      let ok := s.canRead act.format
      let nb := Bank.fresh s.fwFormat g.nextGen s.fwVersion (if ok then act.values else [])
      let g := { g.putBank (1 - g.named) nb with inUse := 1 - g.named, trialBank := true, defaulted := !ok }
      let s : State := { s with settings := g }
      if ok then s else s.logEv .settingsDefaulted []
  else { s with settings := { g with inUse := g.named, trialBank := false, defaulted := false } }

/-- Objects whose written value applies at the next chip reset. -/
def nextResetKeys : List Nat := [key 0x1005 0, key 0x3403 0, key 0x5010 0, key 0x5011 0, key 0x5014 0, key 0x5015 0]

/-- A chip reset puts them in force, and with them the cap profile (R38). -/
def State.putInForce (s : State) : State :=
  let t := nextResetKeys.foldl (fun (t : Tbl Bytes) k => putCanon t k (s.val k) (objDefault k)) []
  { s with settings := { s.settings with inForce := t }, cap := s.cfg 0x1011 0 }

/-- Both settings banks are erased (R827, R828). -/
def State.eraseBanks (s : State) : State :=
  if s.keys.eraseDue then
    { s with keys := { s.keys with eraseDue := false },
             settings := { s.settings with bank0 := Bank.empty, bank1 := Bank.empty, imported := none, carried := [] } }
  else s

/-! ### Updates (R842 to R848) -/

/-- The owner of the update: the editor that holds 0x1210 (R843). -/
def State.updateOwner (s : State) : Option Editor := (s.dict.holds.find? fun h => h.commit = 0x1210).map Hold.editor
/-- The update in progress, while it has an owner. -/
def State.updating (s : State) : Option Update := if s.updateOwner.isSome then s.boot.update else none

/-- SlotState: a slot whose update lost its owner holds no image. -/
def State.slotState (s : State) (i : Nat) : Nat :=
  let x := s.imgSlot i
  if x.st = .receiving && s.updating.isNone && !s.boot.boant then 1 else x.st.code

/-- The owner's payload is under way: a partial transfer to UpdatePayload. -/
def State.payloadUnderWay (s : State) : Bool :=
  match s.updateOwner with
  | some (.coil i) => (match Tbl.get? s.dict.sessions i with
      | some x => x.xfers.any fun f => f.key = key 0x1211 0
      | none => false)
  | some .applet => s.dict.applet.xfers.any fun f => f.key = key 0x1211 0
  | _ => false

/-- UpdateState (Table 18.5): receiving while the owner's payload transfer is partial (DEDUCED, log entry 33). -/
def State.updateState (s : State) : Nat :=
  if s.trialBooted then 4
  else match s.updating with
    | some _ => if s.payloadUnderWay then 2 else 1
    | none => if s.boot.staged.isSome then 3 else 0

/-- Bytes of the part that an update of a kind leaves as it is: the applet header and bundle, or the firmware header and its segments. -/
def State.keptLen (s : State) (kind : Nat) : Nat :=
  let x := s.imgSlot s.boot.booted
  if kind = 1 then (if x.appHdr = [] then 0 else 512 + hdrLen0 x.appHdr) else 512 + hdrLen0 x.header + hdrLen1 x.header

/-- Checks of Table 18.3 on a header, 1 to 3. -/
def State.headerChecks (s : State) (h : Bytes) (kept : Nat) : List (Bool × Ans) :=
  [(hdrShapeOk h kept, Ans.bad 0x05120001), (s.hdrSigned h, Ans.bad 0x05120002),
   (hdrKind h = 2 || s.boot.fuse ≤ hdrSecurity h, Ans.bad 0x05120003)]

/-- A slot begins to receive: its previous contents are lost. -/
def ImgSlot.receive (h : Bytes) : ImgSlot := { ImgSlot.empty with st := .receiving, header := h }

/-- A write to UpdateHeader (R842, R843). -/
def State.updateBegin (s : State) (c : Caller) (h : Bytes) : State × Option Ans :=
  let e := Editor.ofCaller c
  let busy : Bool := s.trialBooted || (match s.updateOwner with
    | some o => o ≠ e
    | none => false)
  match firstFail (s.headerChecks h (s.keptLen (hdrKind h)) ++ [(!busy, Ans.state 0x05120004)]) with
  | some a => (s, some a)
  | none =>
    let s := s.setImg s.otherSlot fun _ => ImgSlot.receive h
    let hold : Hold := { commit := 0x1210, editor := e, last := s.now }
    let holds := (s.dict.holds.filter fun x => x.commit ≠ 0x1210) ++ [hold]
    (({ s with dict := { s.dict with holds := holds }, boot := { s.boot with update := some { header := h }, staged := none } } : State).writeBoot,
      some (Ans.done []))

/-- The header an editor owns an update with. -/
def State.updateOf (s : State) (e : Editor) : Option Update :=
  if s.updateOwner = some e then s.boot.update else none

/-- Checks of a segment of UpdatePayload (R844). -/
def State.payloadCheck (s : State) (e : Editor) (total : Nat) : Option Ans :=
  match s.updateOf e with
  | none => some (Ans.state 0x05120005)
  | some x => firstFail [(total = hdrLen0 x.header + hdrLen1 x.header, Ans.bad 0x05120006), (!s.flash.fails, Ans.state 0x05120008)]

/-- A segment could not be written (Table 18.3): the slot becomes invalid, and the update ends. -/
def State.updateSpoiled (s : State) : State :=
  let s := s.setImg s.otherSlot fun x => { x with st := .invalid }
  ({ s with boot := { s.boot with update := none } } : State).writeBoot

/-- The slot a complete payload makes: for firmware, with the running bundle after it; for a bundle, with the running firmware before
it (R844). -/
def State.stagedImage (s : State) (h data : Bytes) : ImgSlot :=
  let run := s.imgSlot s.boot.booted
  let s0 : Bool := Sha.sha384 (data.take (hdrLen0 h)) = hdrHash0 h
  if hdrKind h = 1 then
    let s1 : Bool := Sha.sha384 (data.drop (hdrLen0 h)) = hdrHash1 h
    { run with st := if s0 && s1 then .staged else .invalid, header := h, sigOk := true, seg0Ok := s0, seg1Ok := s1 }
  else
    { run with st := if s0 then .staged else .invalid, appHdr := h, appOk := s0, objects := Config.bundleEntries data }

/-- The whole payload has arrived (R844). -/
def State.updateDone (s : State) (x : Update) (data : Bytes) : State × Option Ans :=
  let t := s.otherSlot
  let img := s.stagedImage x.header data
  let ok : Bool := img.st = .staged
  let s := s.setImg t fun _ => img
  let s := ({ s with boot := { s.boot with update := none, staged := if ok then some t else none } } : State).writeBoot
  (s, some (if ok then Ans.done [] else Ans.bad 0x05120007))

/-- UpdateActivate: its refusals (R845, Table 18.3). -/
def State.activateCheck (s : State) : Option Ans :=
  firstFail [(s.boot.staged.isSome, Ans.state 0x05120009), (s.stoppedAll, Ans.state 0x0512000B)]

/-- The boot record names the staged slot as the trial slot (R845). -/
def State.nameTrial (s : State) (slot attempts timeout : Nat) : State :=
  let s := s.setImg slot fun x => { x with st := .trial }
  ({ s with boot := { s.boot with trial := some { slot := slot, attempts := attempts, timeout := timeout }, staged := none } } : State).writeBoot

def State.activated (s : State) : State :=
  match s.boot.staged with
  | some i => s.nameTrial i (s.cfg 0x1216 0) (s.cfg 0x1215 0)
  | none => s

/-- The trial is confirmed (R846). -/
def State.confirmTrial (s : State) : State :=
  match s.boot.trial with
  | none => s
  | some t =>
    let s := (s.setImg s.boot.active fun x => if x.st = .active then { x with st := .valid } else x).setImg t.slot fun x => { x with st := .active }
    let v := hdrSecurity (s.imgSlot t.slot).header
    let b := { s.boot with active := t.slot, trial := none, running := none, owed := v, fuse := max s.boot.fuse v }
    let g := { s.settings with named := s.settings.inUse, trialBank := false }
    (({ s with boot := b, settings := g } : State).writeBoot).logEv .updateConfirmed []

/-- Worn erase blocks of a bank are replaced from the spare pool; when none remains, the bank becomes read-only (R853). -/
def State.blocksWorn (s : State) (n : Nat) : State :=
  let g := s.settings
  let ro : Bool := !g.readOnly && g.spares < n
  let s : State := { s with settings := { g with spares := g.spares - n, readOnly := g.readOnly || decide (g.spares < n) } }
  if ro then s.logEv .settingsReadOnly [] else s

/-- SettingsReset (R856): a bank of defaults. A trial firmware, which never writes the active bank, empties its own. -/
def State.defaultBank (s : State) : State :=
  let g := s.settings
  let nb := Bank.fresh s.fwFormat g.nextGen s.fwVersion []
  { s with settings := { g with imported := some (nb, []) } }

/-! ### Boant (R862 to R864) -/

/-- The answer to a Boant message. -/
def boantReply (port : Nat) (msg : Bytes) (outcome : Nat) (data : Bytes) : Out :=
  .boant port ([byte (u msg 0 1 + 0x80), byte outcome] ++ slice msg 2 2 ++ slice msg 4 4 ++ data)

/-- Whether a message of an op arrives at Boant: port 0 is EP0, port 1 is CP0. -/
def State.boantTakes (s : State) (port op : Nat) (msg : Bytes) : Bool :=
  s.boot.boant && s.up .network && port ≤ 1 && 8 ≤ msg.length && u msg 0 1 = op

/-- A message that breaks R863 is refused with outcome 0x11; in Scrapped every op but INFO with 0x10. -/
def State.boantRefusal (s : State) (port : Nat) (msg : Bytes) : Option Nat :=
  if s.keys.scrapped && u msg 0 1 ≠ 1 then some 0x10
  else if u msg 1 1 ≠ 0 || (if port = 0 then 1024 else 56) + 8 < msg.length then some 0x11
  else none

def State.boantInfo (s : State) (port : Nat) (msg : Bytes) : State :=
  if !s.boantTakes port 1 msg then s
  else match s.boantRefusal port msg with
    | some o => s.emit (boantReply port msg o [])
    | none =>
      let life := if s.keys.scrapped then 4 else s.keys.life.code
      s.emit (boantReply port msg 0 (s.silicon.serial ++ [byte s.silicon.stepping, byte s.boot.fuse, byte life, byte (s.slotState 0), byte (s.slotState 1), 0, 0, 0]))

/-- HEADER: the 512 bytes in order of offset; after the last, checks 1 to 3. -/
def State.boantHeader (s : State) (port : Nat) (msg : Bytes) : State :=
  if !s.boantTakes port 2 msg then s
  else match s.boantRefusal port msg with
    | some o => s.emit (boantReply port msg o [])
    | none =>
      let off := u msg 4 4; let d := msg.drop 8
      let have_ := if off = 0 then [] else s.boot.boantHdr
      let h := have_ ++ d
      if off ≠ have_.length || 512 < h.length || (off ≠ 0 && have_.length = 512) then
        ({ s with boot := { s.boot with boantHdr := [], boantData := [] } } : State).emit (boantReply port msg 0x11 [])
      else if h.length < 512 then ({ s with boot := { s.boot with boantHdr := h, boantData := [] } } : State).emit (boantReply port msg 0 [])
      else match firstFail ((hdrKind h = 1, Ans.bad 0x05120001) :: s.headerChecks h 0) with
        | some a => ({ s with boot := { s.boot with boantHdr := [], boantData := [] } } : State).emit (boantReply port msg a.outcome [])
        | none =>
          let s := s.setImg s.boot.boantSlot fun _ => ImgSlot.receive h
          (({ s with boot := { s.boot with boantHdr := h, boantData := [] } } : State).writeBoot).emit (boantReply port msg 0 [])

/-- DATA: payload bytes, contiguous. -/
def State.boantPayload (s : State) (port : Nat) (msg : Bytes) : State :=
  if !s.boantTakes port 3 msg then s
  else match s.boantRefusal port msg with
    | some o => s.emit (boantReply port msg o [])
    | none =>
      let off := u msg 4 4; let d := msg.drop 8
      let h := s.boot.boantHdr
      if h.length ≠ 512 then s.emit (boantReply port msg 0x12 [])
      else
        let have_ := if off = 0 then [] else s.boot.boantData
        if off ≠ have_.length || hdrLen0 h + hdrLen1 h < have_.length + d.length then
          ({ s with boot := { s.boot with boantData := [] } } : State).emit (boantReply port msg 0x11 [])
        else ({ s with boot := { s.boot with boantData := have_ ++ d } } : State).emit (boantReply port msg 0 [])

/-- FINISH: the hashes; whether a chip reset follows (R864). -/
def State.boantEnd (s : State) (port : Nat) (msg : Bytes) : State × Bool :=
  if !s.boantTakes port 4 msg then (s, false)
  else match s.boantRefusal port msg with
    | some o => (s.emit (boantReply port msg o []), false)
    | none =>
      let h := s.boot.boantHdr; let d := s.boot.boantData
      if h.length ≠ 512 then (s.emit (boantReply port msg 0x12 []), false)
      else if d.length ≠ hdrLen0 h + hdrLen1 h then (s.emit (boantReply port msg 0x11 []), false)
      else
        let ok0 : Bool := Sha.sha384 (d.take (hdrLen0 h)) = hdrHash0 h
        let ok1 : Bool := Sha.sha384 (d.drop (hdrLen0 h)) = hdrHash1 h
        let ok : Bool := ok0 && ok1
        let w := s.boot.boantSlot
        let s := s.setImg w fun _ =>
          { ImgSlot.empty with st := if ok then .staged else .invalid, header := h, sigOk := true, seg0Ok := ok0, seg1Ok := ok1 }
        let s := ({ s with boot := { s.boot with boantHdr := [], boantData := [] } } : State).writeBoot
        let s := s.emit (boantReply port msg (if ok then 0 else 0x11) [])
        if ok then (s.nameTrial w 2 600, true) else (s, false)

/-- RESET: whether a chip reset follows. -/
def State.boantResets (s : State) (port : Nat) (msg : Bytes) : State × Bool :=
  if !s.boantTakes port 5 msg then (s, false)
  else match s.boantRefusal port msg with
    | some o => (s.emit (boantReply port msg o []), false)
    | none => (s.emit (boantReply port msg 0 []), true)

end Sys2Proof.Machine
end

