-- ==== Sys2Proof/Machine/ResetOps.lean ====
section
/-!
DEFINITION. Islands through faults, restarts, failures and resets: what each loses and what each returns with, reset sources,
wipes, the release and the cause record (02_architecture.md R63 to R83, 19_reset_clocks_health.md R867 to R887).
-/

namespace Sys2Proof.Machine

/-! ### What an island loses -/

/-- An object of the rover solver, which service C lacks: those of Table 10.9, and the machine table's (R18, R28). -/
def roverObj (idx sub : Nat) : Bool := (0x3800 ≤ idx && idx < 0x3900) || (0x7000 ≤ idx && idx < 0x7400 && 0x30 ≤ sub && sub ≤ 0x33)

/-- An object of an absent machine slot, port, modem or rover solver (R27, R28): time outputs and captures, Ethernet and CAN ports,
modems. -/
def State.absentObj (s : State) (idx sub : Nat) : Bool :=
  (0x7000 ≤ idx && idx < 0x7400 && s.tier ≤ idx - 0x7000)
    || (0x2100 ≤ idx && idx < 0x2108 && !s.hasOut (idx - 0x2100))
    || (0x2200 ≤ idx && idx < 0x2204 && !s.hasCap (idx - 0x2200))
    || ([0x2400, 0x2401, 0x2402, 0x2403, 0x2404, 0x2443, 0x2453, 0x2460, 0x2465].contains idx && 1 ≤ sub && !s.hasEth (sub - 1))
    || (idx = 0x2810 && 1 ≤ sub && !s.hasCan (sub - 1))
    || (((0x2820 ≤ idx && idx < 0x2828) || (0x2900 ≤ idx && idx < 0x2A00)) && !s.hasCan (idx % 8))
    || ([0x2C03, 0x2C04, 0x2C20, 0x2C21, 0x2C22].contains idx && 1 ≤ sub && !s.hasModem (sub - 1))
    || (!s.sService && roverObj idx sub)

/-- KeyInvalidates of some callers that wait for a reload end. -/
def State.endKeyWaits (s : State) (p : Caller → Bool) (a : Ans) : State :=
  let w := s.keys.waiting.filter fun x => p x.2
  let s : State := { s with keys := { s.keys with waiting := s.keys.waiting.filter fun x => !p x.2 } }
  w.foldl (fun s x => s.answer x.2 a) s

/-- TRANSACTs and commits of some callers that wait for an applet's ANSWER end (R110, R795). -/
def State.endEvents (s : State) (p : Caller → Bool) (a : Ans) : State :=
  let w := s.fabric.events.filter fun e => p e.caller
  let s : State := { s with fabric := { s.fabric with events := s.fabric.events.filter fun e => !p e.caller } }
  w.foldl (fun s e => s.answer e.caller a) s

/-- Whose operations pass through an island on their way to the one that carries them out: the dictionary service runs in Compute, Coil and
USDO arrive through Network, and applets ask through the windows of Fabric (Table 2.4). -/
def passesThrough (i : Island) (c : Caller) : Bool :=
  match i, c with
  | .compute, .firmware | .network, .firmware | .network, .applet _ _ => false
  | .compute, _ | .network, _ | .fabric, .applet _ _ => true
  | _, _ => false

/-- What is in flight through an isolated island ends with 0x40 or 0x41 wherever it is (R63); an applet that would answer runs in Compute
and is asked through Fabric. -/
def State.endThrough (s : State) (i : Island) (out : Nat) : State :=
  let a := if out = 0x40 then Ans.fault else Ans.reset
  let p := passesThrough i
  let s := (s.combEnd p out).endKeyWaits p a
  let s := s.endEvents (fun c => i = .compute || i = .fabric || p c) a
  (s.endMessagesOf p a).endSendsOf p out

/-- The harts' registers return to their reset values; their blocked FETCHes are gone with them. -/
def State.hartsReset (s : State) : State := { s with fabric := { s.fabric with harts := s.fabric.harts.map fun _ => Hart.reset } }

/-- A restart ends what is in flight in an island (R63, R66) and re-initialises its work state (R73). -/
def State.restartIsland (s : State) (i : Island) : State :=
  match i with
  | .aon => s.cancelRelease
  | .security => s.endKeyWaits (fun _ => true) Ans.fault
  | .compute => ((s.discardAll 0x40).hartsReset).endThrough .compute 0x40
  | .fabric => (((s.discardAll 0x40).abandonOpen.wakeAll 2).hartsReset).endThrough .fabric 0x40
  | .memory => s
  | .comb => s.combRestart
  | .fixer => s.roverRestart
  | .developer => s.devRestart
  | .tracking => s.trackRestart
  | .radio => s.radioRestart
  | .network => (s.netRestart.canRestart).endThrough .network 0x40
  | .timebase => s.cancelRelease

/-- A system or chip reset ends every session and every hold (R108, R129); the Compute island keeps nothing. -/
def State.endDictionary (s : State) : State :=
  let s := s.dict.holds.foldl (fun s h => returnShadow s h.commit) s
  let nbrs := s.comb.nbrs.map fun x => { x with session := none }
  let s : State := { s with dict := { Dict.reset with applet := Session.fresh 0 0 2 s.now }, comb := { s.comb with nbrs := nbrs } }
  let f := { s.fabric with reqs := [], replies := [], events := [] }
  { s with fabric := f, stop := { s.stop with waiting := [], notices := [] } }

/-- The Fabric empties (R881); what its retired regions cost stays. -/
def State.fabricReset (s : State) : State :=
  let s := s.wakeAll 2
  let f := { Fabric.reset with lost := s.fabric.lost, bundle := s.fabric.bundle, appBase := s.fabric.appBase, appCount := s.fabric.appCount,
                               reqs := s.fabric.reqs, replies := [], events := s.fabric.events, tokenNext := s.fabric.tokenNext }
  { s with fabric := f }

/-- What a stop input keeps at power-on: its pins. -/
def StopIn.unlocked (i : StopIn) : StopIn := { i with differ := none, lock := .none }

/-- The Always-on island at power-on: the Logbook's SRAM records, event counters, conditions and channel B are lost. -/
def State.aonReset (s : State) : State :=
  let h := s.health
  let h := { h with tempHigh := false, rowErrs := [], pageErrs := [], counters := Health.reset.counters, snapshot := Health.reset.snapshot }
  let isl := s.islands.map fun x => { x with ecc := 0, temp := 0, slack := [], faults := [] }
  { s with health := h, islands := isl, log := s.log.afterPower, stop := { StopBath.reset with ins := s.stop.ins.map StopIn.unlocked } }

/-- A reset of an island ends what is in flight in it with 0x41 and wipes its memory (R63, R881). A reset of the Fixer's or the
Developer's island alone leaves the inputs of their operations where they are kept, and firmware issues those again (R65, Table 2.6);
one of system reach or wider does not. -/
def State.clearIsland (s : State) (i : Island) (wide : Bool) : State :=
  match i with
  | .aon => s.aonReset
  | .security => s.endKeyWaits (fun _ => true) Ans.reset
  | .compute => (((s.discardAll 0x41).hartsReset).endThrough .compute 0x41).endDictionary
  | .fabric => (s.fabricReset).endThrough .fabric 0x41
  | .memory => ({ s with dram := [] } : State).setDev (fun d => { d with latents := [] }) |>.roverResetAll
  | .comb => s.combReset.confReset wide
  | .fixer => if wide then (s.setBase fun _ => Base.reset).roverResetAll else (s.setBase fun _ => Base.reset).roverIslandReset
  | .developer => if wide then s.devReset else s.devIslandReset
  | .tracking => s.trackReset
  | .radio => s.radioReset
  | .network => (s.netReset.canReset).endThrough .network 0x41
  | .timebase => s.timebaseReset

/-- Volatile values of an island's objects take their defaults (R94). -/
def State.dropVolatile (s : State) (i : Island) : State :=
  let vol := s.settings.vol.filter fun e => match findObj (e.1 / 256) (e.1 % 256) with
    | some r => r.island ≠ i.id
    | none => i ≠ .compute
  { s with settings := { s.settings with vol := vol } }

/-- Counts "since the last chip reset" stand through narrower resets. -/
def State.keepCounts (s old : State) : State :=
  let ports := s.track.ports.mapIdx fun g p => { p with gaps := (old.port g).gaps }
  let nbrs := s.comb.nbrs.mapIdx fun n x => { x with losses := (old.nbr n).losses }
  { s with comb := { s.comb with waited := old.comb.waited, nbrs := nbrs },
           track := { s.track with lost := old.track.lost, ports := ports },
           dev := { s.dev with developed := old.dev.developed, refused := old.dev.refused },
           base := { s.base with sent := old.base.sent, netBad := old.base.netBad },
           rover := { s.rover with solved := old.rover.solved, reinits := old.rover.reinits, refused := old.rover.refused },
           conf := { s.conf with verdicts := old.conf.verdicts }, radio := { s.radio with ended := old.radio.ended },
           net := { s.net with uncorrected := old.net.uncorrected }, fabric := { s.fabric with stray := old.fabric.stray } }

/-- A chip reset starts them again. -/
def State.zeroCounts (s : State) : State :=
  let ports := s.track.ports.map fun p => { p with gaps := 0 }
  let nbrs := s.comb.nbrs.map fun x => { x with losses := 0 }
  { s with comb := { s.comb with waited := 0, nbrs := nbrs }, track := { s.track with lost := 0, ports := ports },
           dev := { s.dev with developed := 0, refused := 0 }, base := { s.base with sent := 0, netBad := 0 },
           rover := { s.rover with solved := 0, reinits := 0, refused := 0 }, conf := { s.conf with verdicts := [0, 0, 0, 0] },
           radio := { s.radio with ended := 0 }, net := { s.net with uncorrected := 0 }, fabric := { s.fabric with stray := 0 } }

/-! ### Faults, restarts and failures (R70 to R82) -/

def faultCode : FaultCause → Nat
  | .ecc => 0 | .lockstep => 1 | .gasket => 2 | .watchdog => 3
def failCode : FailCause → Nat
  | .restartLate => 0 | .storeCheck => 1 | .thirdFault => 2

/-- Faults of an island within the last second (R77). -/
def State.recentFaults (s : State) (i : Island) : List Nat := (s.isl i).faults.filter fun t => s.now < t + sec

/-- Occurrences of a fault, counted by source (Table 19.12). -/
def State.countFault (s : State) (i : Island) (c : FaultCause) : State :=
  let s := s.count 0x03 i.id 1
  match c with
  | .ecc => s.count 0x02 i.id 1
  | .gasket => s.count 0x04 i.id 1
  | .watchdog => s.count 0x05 i.id 1
  | .lockstep => s

/-- What a cause can be seen in (R71): lockstep covers the core pairs, the logic of both Stop Bath channels and the Keyring's engine. -/
def faultSeen (i : Island) (c : FaultCause) : Bool :=
  match c with
  | .lockstep => i = .compute || i = .aon || i = .timebase || i = .security
  | _ => true

/-- An island fault (R70, R73): one in an island that does not run is ignored. A restart of the Always-on island itself is logged when
the Logbook runs again. -/
def State.faultIn (s : State) (i : Island) (c : FaultCause) : State :=
  if !s.up i || !faultSeen i c then s
  else
    let s := s.countFault i c
    let fs := s.now :: s.recentFaults i
    let s := s.restartIsland i
    let now := s.now
    let s := s.setIsl i fun x => { x with st := .restarting, since := now, restarts := wrap 32 (x.restarts + 1), faults := fs, cause := faultCode c, third := decide (3 ≤ fs.length) }
    if i = .aon then s else s.logEv .islandRestart [byte i.id, byte (faultCode c)]

/-- The restart reaches t6 within 40 µs of the fault (R74, R77): service resumes. A swarm command whose instant fell within a restart
of the Comb island takes effect now (Table 2.12). -/
def State.restartEnds (s : State) (i : Island) : State :=
  let x := s.isl i
  if x.st = .restarting && s.now ≤ x.since + 40 * us && !x.third then
    let now := s.now
    let s := s.setIsl i fun x => { x with st := .running, back := now }
    match i with
    | .comb => s.swarmInstant
    | .aon => (({ s with log := s.log.afterRestart } : State).channelReturned i).logEv .islandRestart [byte i.id, byte x.cause]
    | .timebase => s.channelReturned i
    | _ => s
  else s

/-- The action of Table 2.9, once an island has failed. Its state is lost as in a reset. -/
def State.failAction (s : State) (i : Island) : State :=
  match i with
  | .aon => s.setLatch .all 9 0
  | .timebase => (s.clearIsland i true).setLatch .all 9 0
  | .security => s.clearIsland i true
  | .compute => ((s.discardAll 0x41).hartsReset).setLatch .all 9 0
  | .fabric | .memory | .comb | .radio | .network => (s.clearIsland i true).setLatch .all 9 0
  | .fixer => s.roverFailed.clearIsland i true
  | .developer => (s.clearIsland i true).devFailed
  | .tracking => (s.clearIsland i true).baseNoTracking

/-- Whether a cause of R77 holds for a restarting island. -/
def State.failDue (s : State) (i : Island) (c : FailCause) : Bool :=
  (s.isl i).st = .restarting && match c with
    | .restartLate => (s.isl i).since + 40 * us ≤ s.now
    | .storeCheck => true
    | .thirdFault => (s.isl i).third

/-- An island is declared failed (R77, R78). -/
def State.islandFails (s : State) (i : Island) (c : FailCause) : State :=
  if s.failDue i c then
    let s := s.setIsl i fun x => { x with st := .failed, stepTo := none }
    ((s.failAction i).keepCounts s).logEv .islandFailed [byte i.id, byte (failCode c)]
  else s

/-! ### Assertion (R867 to R877) -/

/-- Islands of a reach (Table 19.1). -/
def reachIslands (reach island : Nat) : List Island :=
  match reach with
  | 0 => Island.all
  | 1 => Island.all.filter (· ≠ .aon)
  | 2 => Island.all.filter fun i => i ≠ .aon && i ≠ .timebase
  | 3 => (Island.ofId island).toList
  | _ => []

def Asserted.islands (x : Asserted) : List Island := reachIslands x.reach x.island

/-- A source that reaches the island is asserted (R875). -/
def State.held? (s : State) (i : Island) : Bool := s.resets.asserted.any fun x => x.islands.contains i

/-- The cause record with a source seen (R886): power-on clears it first, and a chip reset sees the hold of a failed island. -/
def State.recordSource (s : State) (code reach island : Nat) : State :=
  let failed : Bool := s.islands.any fun x => x.st = .failed
  let bits := 2 ^ code ||| (if reach ≤ 1 && failed then 2 ^ 12 else 0)
  let fresh : Cause := { sources := bits, first := code, reach := reach, island := if reach = 3 then island else 0xFF, count := 0 }
  let c := match (if reach = 0 then none else s.resets.record) with
    | some c => { c with sources := c.sources ||| bits, reach := min c.reach reach }
    | none => fresh
  { s with resets := { s.resets with record := some c, count := if reach = 0 then 0 else s.resets.count } }

/-- Sources whose islands are reset cease to be present (R663), and an arm of a step ends (R650). -/
def State.sourcesGone (s : State) : State :=
  let s := ((s.sourceGone 1).sourceGone 2).sourceGone 4
  { s with tb := { s.tb with armed := false } }

/-- Holds of groups whose block's island is reset end, and the shadow returns, as R108 says, though R110 has hold and shadow stand when a
commit is in flight (DESIGN CHOICE, log entry 14). -/
def State.endHoldsOf (s : State) (i : Island) : State :=
  let mine := s.dict.holds.filter fun h => match findObj h.commit 0 with
    | some r => r.island = i.id
    | none => false
  let s : State := { s with dict := { s.dict with holds := s.dict.holds.filter fun h => !mine.contains h } }
  mine.foldl (fun s h => returnShadow s h.commit) s

/-- One island enters reset. A failed one stays failed under any reach narrower than chip (R78); one in reset is cleared again by
power-on alone. -/
def State.enterReset (s : State) (reach : Nat) (i : Island) : State :=
  let st := (s.isl i).st
  if (st = .inReset && 1 ≤ reach) || (st = .failed && 2 ≤ reach) then s
  else
    let s := ((s.endHoldsOf i).clearIsland i (decide (reach ≤ 2))).dropVolatile i
    s.setIsl i fun x => { x with st := .inReset, stepTo := none, restarts := if reach ≤ 1 then 0 else x.restarts }

/-- The steps of the release of what is in reset with no source asserted over it (Table 19.5); in Boant only Security and Network. -/
def State.releasePlan (s : State) : List ReleaseStep :=
  let ready (i : Island) : Bool := (s.isl i).st = .inReset && !s.held? i && (!s.boot.boant || i = .security || i = .network)
  let old := s.resets.plan
  let row (l : List Island) : List ReleaseStep := let l := l.filter ready; if l = [] then [] else [.islands l]
  let rom : Bool := ready .security || (old.contains .rom && (s.isl .security).st ≠ .inReset)
  let harts : Bool := !s.boot.boant && (ready .compute || (old.contains .appletHarts && (s.isl .compute).st ≠ .inReset))
  row [.security] ++ (if rom then [.rom] else []) ++ row [.memory] ++ row [.fabric] ++ row [.compute] ++ row [.timebase]
    ++ row [.network, .tracking, .comb, .fixer, .developer, .radio] ++ (if harts then [.appletHarts] else [])

/-- The release takes up what can now be released (R875, R876). -/
def State.replan (s : State) : State := { s with resets := { s.resets with plan := s.releasePlan, rowAt := s.now } }

/-- A chip reset clears the failed state of the Always-on island too (R78), which its reach leaves out (Table 19.1): it returns at the
release with what it held (DESIGN CHOICE, log entry 35). -/
def State.reviveAon (s : State) : State :=
  if (s.isl .aon).st = .failed then { s.setIsl .aon fun x => { x with st := .inReset } with log := s.log.afterRestart } else s

/-- A reset source is asserted: its reach is isolated, what is in flight there ends, and its memory is wiped (R873, R881). -/
def State.assertReset (s : State) (code reach island : Nat) : State :=
  let old := s
  let s := s.recordSource code reach island
  let x : Asserted := { code := code, reach := reach, island := island }
  let s : State := { s with resets := { s.resets with asserted := (s.resets.asserted.filter fun y => y ≠ x) ++ [x] } }
  let s := if reach ≤ 2 then (s.swarmLost.clearIsland .compute true).sourcesGone else s
  let s := (reachIslands reach island).foldl (fun s i => s.enterReset reach i) s
  let s := if reach ≤ 1 then s.zeroCounts.reviveAon else s.keepCounts old
  let s := if reach ≤ 2 then
      let s := s.resetLatch
      let outs := s.stop.outs.map fun o => { o with pulse := none }
      ({ s with stop := { s.stop with outs := outs, votes := [] }, health := { s.health with vreq := 40 } } : State)
    else s
  s.replan

/-! ### Release (R874 to R880) -/

/-- The voltage code of the request (R937). -/
def State.voltCode (s : State) : Nat := (s.health.volts - 650) / 5

/-- The stop inputs are judged by the pins as they stand (R528, R530). -/
def State.inputsJudged (s : State) : State := (List.range 4).foldl (fun (s : State) n => s.siJudge n) s

/-- A source is released. With a power-on source the Always-on island itself returns; the release of row 1 drives VREQ (R940). -/
def State.releaseSource (s : State) (code : Nat) : State :=
  if !(s.resets.asserted.any fun x => x.code = code) then s
  else
    let s : State := { s with resets := { s.resets with asserted := s.resets.asserted.filter fun x => x.code ≠ code } }
    let s := if (s.isl .aon).st = .inReset && !s.held? .aon then (s.setIsl .aon fun x => { x with st := .running }).inputsJudged else s
    let s := s.replan
    let row1 : Bool := match s.resets.plan with
      | .islands l :: _ => l.contains .security
      | _ => false
    if row1 then
      let k := s.voltCode
      let now := s.now
      { s with health := { s.health with vreq := k, vreqAt := now } }
    else s

/-- The Keyring loads at the release of the Security island (R816), and owed erasures are completed (R828). -/
def State.keysLoaded (s : State) : State :=
  let r := s.keys.load
  let s : State := { s with keys := { r.1 with eraseDue := r.1.eraseDue } }
  let s := s.eraseBanks
  if r.2 then s.logEv .keyRecordLost [] else s

/-- Channel A takes channel B's latches and epochs before its first vote (R527). -/
def State.channelAReleased (s : State) : State :=
  ({ s with stop := { s.stop with a := { s.stop.b with held := [] } } } : State).refreshGo

/-- An island returns from reset with its active settings (Table 19.5). -/
def State.startIsland (s : State) (i : Island) : State :=
  match i with
  | .aon => s
  | .security => s.keysLoaded
  | .compute =>
    let now := s.now
    let run := if s.trialBooted then some now else none
    ({ s with resets := { s.resets with watchdogAt := now }, boot := { s.boot with running := run } } : State)
  | .fabric => { s with fabric := { s.fabric with appBase := s.inForce 0x5010 0, appCount := s.inForce 0x5011 0 } }
  | .memory => s
  | .comb => (s.combReset.confReset false).combReleased
  | .fixer => s.baseReset.roverRelease
  | .developer => s.devRelease
  | .tracking => s.trackReset
  | .radio => s.radioReset
  | .network => s.netReset.canReset
  | .timebase => s.timebaseReset.channelAReleased

/-- Whether a CounterSelect counts at an absent modem or port (Table 19.12). -/
def State.selectsAbsent (s : State) (v : Nat) : Bool :=
  let p := bits v 0 16
  match bits v 16 8 with
  | 0x0C | 0x0D => p ≠ 0xFF && !s.hasModem p
  | 0x0E => !s.hasCan p
  | 0x0F => !s.hasEth p
  | _ => false

/-- Whether a value names an absent port or modem: PpsInput, CounterSelect, CanTmShadow and CanTm, RadioNeighbourListen. -/
def State.namesAbsent (s : State) (idx : Nat) (v : Bytes) : Bool :=
  match idx with
  | 0x1330 => s.selectsAbsent (leNat v)
  | 0x2018 => leNat v ≠ 0xFF && !s.hasCap (leNat v)
  | 0x2830 => (List.range 8).any fun n => bit (u v 0 1) n && !s.hasCan n
  | 0x2C13 => u v 0 1 ≠ 0xFF && !s.hasModem (u v 0 1)
  | _ => false

/-- Settings of the bank in use that refer to absent slots, ports or blocks (R40). -/
def State.trimmed (s : State) : Bool :=
  s.settings.bank.values.any fun e => s.absentObj (e.1 / 256) (e.1 % 256) || s.namesAbsent (e.1 / 256) e.2

/-- The ROM chooses and the first stage runs (Table 19.5 row 2): a rejection makes a chip reset. -/
def State.romStep (s : State) : State :=
  let chip : Bool := match s.resets.record with
    | some c => c.reach ≤ 1
    | none => false
  let r := s.romSelect
  let s := r.1
  match r.2 with
  | some why => (s.rejectTrial why).assertReset 7 1 0xFF
  | none =>
    if s.boot.boant then s.replan
    else
      let s := s.takeBanks.inputsJudged
      let s := if chip then s.putInForce else s
      if s.trimmed then s.logEv .capTrim [] else s

/-- A carried group is committed, or tried again (R861). -/
def State.tryCarried (s : State) (c : Nat) : State :=
  match s.groupCheck c with
  | none => s.groupCommit c .firmware |>.1
  | some a =>
    if a.outcome = 0x12 then
      let now := s.now
      { s with settings := { s.settings with carried := s.settings.carried.map fun x => if x.1 = c then (c, now) else x } }
    else
      ({ s with settings := { s.settings with carried := s.settings.carried.filter fun x => x.1 ≠ c } } : State).logEv .configCommitRefused (leBytes 2 c)

def State.tryAllCarried (s : State) : State := s.settings.carried.foldl (fun s x => s.tryCarried x.1) s

/-- The release has ended (R886, R887). -/
def State.resetDone (s : State) : State :=
  match s.resets.record with
  | none => s
  | some c =>
    if s.resets.plan = [] && s.resets.asserted = [] then
      let n := wrap 32 (s.resets.count + 1)
      let c := { c with count := n }
      let s : State := { s with resets := { s.resets with record := none, last := c, count := n } }
      (s.logEv .reset c.bytes).tryAllCarried
    else s

/-- The present row of the release is done (R880): its islands run, and the next row begins. -/
def State.releaseRow (s : State) : State :=
  match s.resets.plan with
  | [] => s
  | st :: rest =>
    let s : State := { s with resets := { s.resets with plan := rest, rowAt := s.now } }
    let s := match st with
      | .islands l => l.foldl (fun (s : State) i =>
          let s := s.setIsl i fun x => { x with st := .running }
          (s.startIsland i).keepCounts s) s
      | .rom => s.romStep
      | .appletHarts => s
    s.resetDone

/-- Clock-good has not come within 2 ms of the start of the island's release (R879): it stays in reset as failed. -/
def State.clockFails (s : State) (i : Island) : State :=
  match s.resets.plan with
  | .islands l :: rest =>
    if l.contains i && s.resets.rowAt + 2 * ms ≤ s.now then
      let l := l.filter (· ≠ i)
      let plan := if l = [] then rest else .islands l :: rest
      let s : State := { s with resets := { s.resets with plan := plan, rowAt := if l = [] then s.now else s.resets.rowAt } }
      let s := (s.setIsl i fun x => { x with st := .failed })
      (((s.failAction i).keepCounts s).logEv .islandClock [byte i.id]).resetDone
    else s
  | _ => s

/-- The wipes of a source's reach are complete (R874): it is released. RESET_N, BOR and the thermal trip are released by their own
conditions, POR no sooner than 1 ms after VDD_AON passed its threshold (R935). -/
def State.wipesDone (s : State) (code : Nat) : State :=
  let early : Bool := code = 0 && (match s.resets.porAt with
    | some t => s.now < t + ms
    | none => false)
  if code = 1 || code = 2 || code = 9 || early then s else s.releaseSource code

/-! ### Resets that firmware orders (R100, R130, R870 to R872) -/

/-- The responses owed leave, then a CLOSE to every session before a system or chip reset, and the reset is asserted. -/
def State.orderReset (s : State) (code reach island : Nat) : State :=
  let s := s.flush
  let s := if reach ≤ 2 then s.dict.sessions.foldl (fun s e => s.sendClose e.1) s else s
  s.assertReset code reach island

/-- An accepted command that ends in a reset answers first. -/
def State.answerReset (s : State) (c : Caller) (code reach island : Nat) : State × Option Ans :=
  ((s.answer c (Ans.done [])).orderReset code reach island, none)

/-- A block of Table 19.4 that is there. -/
def State.hasBlock (s : State) (island block : Nat) : Bool :=
  match island with
  | 8 => block < 4 && !s.gone .tracking
  | 9 => s.hasModem block && !s.gone .radio
  | 10 => (if block < 4 then s.hasEth block else s.hasCan (block - 4)) && !s.gone .network
  | _ => false

/-- BlockIdle (Table 19.4). -/
def State.blockIdle (s : State) (island block : Nat) : Bool :=
  match island with
  | 8 => (s.track.chans.filter fun e => e.1 / 288 = block) = []
  | 9 => !(s.radio.links.any fun e => e.2.modem = block)
  | 10 => if block < 4 then ptpRole (s.ptpVal block) = 0 && (s.eth block).link = 0 else (s.canPort (block - 4)).idle
  | _ => true

/-- A modem is reset: its links end as in a reset of the Radio island, its messages end 0x41 (R885). -/
def State.modemReset (s : State) (k : Nat) : State :=
  let s := (s.radio.links.filter fun e => e.2.modem = k).foldl (fun s e => s.endLink e.1 7 none Ans.reset) s
  let ids := (s.modem k).msgs.map Prod.fst
  let mine := s.radio.waggles.filter fun e => ids.contains e.1
  let s : State := { s with radio := { s.radio with waggles := s.radio.waggles.filter fun e => !ids.contains e.1 } }
  let s := s.setModem k fun m => { Modem.reset with listens := m.listens, counter := m.counter, replan := true }
  mine.foldl (fun s e => s.answer e.2.caller Ans.reset) s

/-- A block is reset (R885). -/
def State.resetBlockOf (s : State) (island block : Nat) : State :=
  let busy : Bool := !s.blockIdle island block
  let gaps := (s.port block).gaps
  let s := match island with
    | 8 => (s.setTrack fun t => { t with chans := t.chans.filter fun e => e.1 / 288 ≠ block }).setPort block fun _ => { GsPort.reset with gaps := gaps }
    | 9 => s.modemReset block
    | 10 =>
      if block < 4 then
        let now := s.now
        (s.ptpInit block).setEth block fun _ => EthPort.reset (s.role block) now
      else s.canResetPort (block - 4)
    | _ => s
  let s := if busy then s.logEv .blockResetBusy (byte island :: leBytes 2 block) else s
  s.logEv .blockReset (byte island :: leBytes 2 block)

/-- A target ResetCommand may name (Table 19.3). -/
def State.resetTargetOk (s : State) (v : Bytes) : Bool :=
  match u v 0 1 with
  | 1 | 2 => true
  | 3 => 5 ≤ u v 1 1 && u v 1 1 ≤ 10 && (match Island.ofId (u v 1 1) with
      | some i => !s.gone i
      | none => false)
  | 4 => s.hasBlock (u v 1 1) (u v 2 2)
  | _ => false

/-- ResetCommand (R870, R871). -/
def State.resetCommand (s : State) (c : Caller) (v : Bytes) : State × Option Ans :=
  let reach := u v 0 1
  match firstFail [(s.resetTargetOk v, Ans.bad 0x05130001), (reach = 4 || s.stoppedAll, Ans.state 0x05130002)] with
  | some a => (s, some a)
  | none => if reach = 4 then (s.resetBlockOf (u v 1 1) (u v 2 2), some (Ans.done [])) else s.answerReset c 6 reach (u v 1 1)

/-- Reserved bytes of a ResetCommand value are zero (R870). -/
def resetReservedOk (v : Bytes) : Bool :=
  match u v 0 1 with
  | 1 | 2 => u v 1 3 = 0
  | 3 => u v 2 2 = 0
  | _ => true

/-! ### Sources of their own (Table 19.2, R869, R874, R935) -/

def State.porRise (s : State) (torn : Torn) : State :=
  let s : State := match torn with
    | .none => s
    | .boot => s.bootTorn
    | .keyring => { s with keys := s.keys.torn }
    | .mirror => { s with log := s.log.torn }
  let s : State := { s with resets := { s.resets with porAt := some s.now } }
  s.assertReset 0 0 0xFF

def State.resetPinLow (s : State) : State :=
  let s : State := { s with resets := { s.resets with pinLow := some s.now } }
  s.assertReset 2 1 0xFF

def State.resetPinHigh (s : State) : State :=
  let s : State := { s with resets := { s.resets with pinLow := none } }
  s.releaseSource 2

/-- The watchdog runs from the start of firmware. -/
def State.watchdogRuns (s : State) : Bool := (s.isl .compute).st ≠ .inReset && !s.boot.boant

def State.watchdogExpires (s : State) : State :=
  if s.watchdogRuns && s.resets.watchdogAt + s.cfg 0x1303 0 * ms ≤ s.now then (s.logEv .globalWatchdog []).assertReset 3 1 0xFF else s

def State.watchdogServed (s : State) : State :=
  if s.up .compute then { s with resets := { s.resets with watchdogAt := s.now } } else s

def State.debugRequest (s : State) : State := if s.cfg 0x1304 0 = 1 then s.assertReset 8 1 0xFF else s

/-! ### Updates, trials, settings reset and Boant that end in a reset -/

def State.activateUpdate (s : State) (c : Caller) : State × Option Ans :=
  match s.activateCheck with
  | some a => (s, some a)
  | none => s.activated.answerReset c 7 1 0xFF

def State.confirmUpdate (s : State) (c : Caller) (v : Nat) : State × Option Ans :=
  if !s.trialBooted then (s, some (Ans.state 0x0512000A))
  else if v = 1 then (s.confirmTrial, some (Ans.done []))
  else (s.rejectTrial .host).answerReset c 7 1 0xFF

def State.trialExpires (s : State) : State :=
  match s.boot.running, s.boot.trial with
  | some t, some x => if s.trialBooted && t + x.timeout * sec ≤ s.now then (s.rejectTrial .timeout).orderReset 7 1 0xFF else s
  | _, _ => s

def State.resetSettings (s : State) (c : Caller) : State × Option Ans :=
  if !s.stoppedAll then (s, some (Ans.state 0x0512000B)) else (s.defaultBank.blocksWorn s.flash.worn).answerReset c 6 1 0xFF

def State.enterBoantCmd (s : State) (c : Caller) : State × Option Ans :=
  if !s.stoppedAll then (s, some (Ans.state 0x0512000B))
  else ({ s with boot := { s.boot with boantReq := true } } : State).answerReset c 11 1 0xFF

def State.boantFinishOp (s : State) (port : Nat) (msg : Bytes) : State :=
  let r := s.boantEnd port msg
  if r.2 then r.1.assertReset 11 1 0xFF else r.1

def State.boantResetOp (s : State) (port : Nat) (msg : Bytes) : State :=
  let r := s.boantResets port msg
  if r.2 then r.1.assertReset 11 1 0xFF else r.1

/-! ### Life-cycle (R821 to R829) -/

/-- A valid persistent slot of usage 1 with ceiling 3 exists in 1 to 254 (Table 17.8). -/
def State.hasOwnerKey (s : State) : Bool :=
  s.keys.slots.any fun e => 1 ≤ e.1 && e.1 ≤ 254 && e.2.persistent && e.2.usage = 1 && e.2.ceiling = 3 && s.keyUsable e.1

def Lifecycle.ofCode : Nat → Option Lifecycle
  | 0 => some .blank | 1 => some .provisioned | 2 => some .commissioned | 3 => some .decommissioned | 4 => some .scrapped | _ => none

/-- A transition Table 17.8 lists. -/
def lifeStep (old goal : Lifecycle) : Bool :=
  match old, goal with
  | .blank, .provisioned | .decommissioned, .provisioned | .provisioned, .commissioned | .provisioned, .decommissioned
  | .commissioned, .decommissioned | .blank, .scrapped | .decommissioned, .scrapped => true
  | _, _ => false

/-- The condition of a transition (Table 17.8). -/
def State.lifeCondition (s : State) (goal : Lifecycle) : Bool :=
  match goal with
  | .provisioned => s.hasOwnerKey
  | .commissioned => s.siteState = 1
  | _ => true

/-- The new state and its erasures, written to the flash record (R827, R829, Table 17.8). -/
def State.lifeWritten (s : State) (goal : Lifecycle) : State :=
  let k := s.keys
  match goal with
  | .decommissioned =>
    let k := { k with life := goal, slots := [], eraseDue := true }
    { s with keys := k.persist.persist, settings := { s.settings with records := Tbl.del s.settings.records (key 0x1217 0) } }
  | .scrapped => { s with keys := { k with life := goal, slots := [], scrapFuse := true, rootGone := true }.persist }
  | _ => { s with keys := { k with life := goal }.persist }

/-- LifecycleCommand (R822, R826, R827). -/
def State.lifecycleCmd (s : State) (c : Caller) (v : Bytes) : State × Option Ans :=
  let old := s.keys.life
  let target := Lifecycle.ofCode (u v 0 1)
  let reach : Bool := match target with
    | some t => lifeStep old t
    | none => false
  let cond : Bool := match target with
    | some t => s.lifeCondition t
    | none => false
  match firstFail [(slice v 4 4 = s.silicon.serial.take 4, Ans.bad 0x05110011), (reach, Ans.bad 0x05110010),
                   (old ≠ .commissioned || s.stoppedAll, Ans.state 0x05110013), (cond, Ans.state 0x05110012)] with
  | some a => (s, some a)
  | none =>
    match target with
    | some t => ((s.lifeWritten t).logEv .lifecycle [byte old.code, byte t.code]).answerReset c 10 1 0xFF
    | none => (s, none)

end Sys2Proof.Machine
end

