-- ==== Sys2Proof/Machine/HealthOps.lean ====
section
/-!
DEFINITION. Temperatures, ageing and memory health, the event counters, and errors in protected stores (19_reset_clocks_health.md
R889 to R902, 21_electrical_package.md R937 to R940, 02_architecture.md R72, R76).
-/

namespace Sys2Proof.Machine

/-! ### Temperature (R890) -/

def State.setTemp (s : State) (i : Island) (temp : Int) : State := s.setIsl i fun x => { x with temp := temp }

/-- The sensors of islands 0 to 11. -/
def State.setTemps (s : State) (temps : List Int) : State :=
  { s with islands := s.islands.mapIdx fun i x => { x with temp := temps.getD i x.temp } }

/-- A sensor above 125 °C: logged once until it clears. -/
def State.tempAbove (s : State) (i : Island) (temp : Int) : State :=
  let s := s.setTemp i temp
  if 1250 < temp && !s.health.tempHigh then
    ({ s with health := { s.health with tempHigh := true } } : State).logEv .tempHigh []
  else s

/-- Every sensor below 120 °C. -/
def State.tempBelow (s : State) (temps : List Int) : State :=
  let s := s.setTemps temps
  if s.islands.all fun x => x.temp < 1200 then { s with health := { s.health with tempHigh := false } } else s

/-- Above 140 °C for 1 ms: a thermal trip (source 9), counted. -/
def State.tripped (s : State) (i : Island) (temp : Int) : State :=
  let s := s.setTemp i temp
  if 1400 < temp && !(s.resets.asserted.any fun x => x.code = 9) then
    let s : State := { s with health := { s.health with trips := wrap 32 (s.health.trips + 1) } }
    s.assertReset 9 1 0xFF
  else s

/-- The trip stays asserted until every sensor reads 115 °C or below. -/
def State.tripReleased (s : State) (temps : List Int) : State :=
  let s := s.setTemps temps
  if s.islands.all fun x => x.temp ≤ 1150 then s.releaseSource 9 else s

/-! ### Capacity and steps (R891, R892, R407) -/

/-- The lowest step an island may run at (Table 19.9). -/
def floorStep : Island → Nat
  | .security | .compute | .fabric | .comb | .fixer | .developer => 4
  | .aon | .memory | .tracking | .radio | .network | .timebase => 0

/-- EV_DEV_BUDGET_STEP with DevRateCells and DevOwnBudget as they now are, where the island is the Developer (R407). -/
def State.budgetStep (s : State) (i : Island) : State := if i = .developer then s.logEv .devBudgetStep [] else s

/-- The clock of an island switches to the step asked for (R891). -/
def State.stepSwitched (s : State) (i : Island) : State :=
  match (s.isl i).stepTo with
  | none => s
  | some n => if s.up i then (s.setIsl i fun x => { x with step := n, stepTo := none }).budgetStep i else s

/-- The capacity of an island at its steps as EV_MARGIN_STEP reports it: the Fixer's and the Developer's rate, else sixteenths of the
rates of Table 19.10. -/
def State.capacity (s : State) (i : Island) : Nat :=
  match i with
  | .fixer => s.roverRate
  | .developer => s.devRate
  | .aon | .security | .compute | .fabric | .memory | .comb | .tracking | .radio | .network | .timebase => 16 - (s.isl i).step

/-! ### The margin planner (R893 to R895) -/

/-- Samples of the last 10 minutes. -/
def recentSlack (now : Nat) (l : List (Nat × Int)) : List (Nat × Int) := l.filter fun e => now < e.1 + 600 * sec

/-- IslandSlack: the worst of the samples, zero with none. -/
def worstSlack : List (Nat × Int) → Int
  | [] => 0
  | [e] => e.2
  | e :: t => min e.2 (worstSlack t)

/-- A sample joins the window of an island with replicas: every island that runs but Always-on. -/
def State.addSlack (s : State) (i : Island) (x : Int) : State :=
  if i = .aon || !s.up i then s
  else
    let now := s.now
    s.setIsl i fun r => { r with slack := (now, x) :: recentSlack now r.slack }

/-- Whether the planner acts for an island: worst slack of the window below 40 ps, or this sample below 10 ps. -/
def State.needsMargin (s : State) (i : Island) : Bool :=
  i ≠ .aon && s.up i && match (s.isl i).slack with
    | [] => false
    | e :: _ => e.1 = s.now && (worstSlack (s.isl i).slack < 40 || e.2 < 10)

/-- One action of the planner for an island (R894). -/
def State.marginAct (s : State) (i : Island) : State :=
  let h := s.health
  let n := (s.isl i).stepTo.getD (s.isl i).step
  if h.volts < 850 then
    let isl := s.islands.map fun x => { x with slack := [] }
    let h := { h with volts := h.volts + 5, marginV := decide (h.volts + 5 = 850) }
    (({ s with health := h, islands := isl } : State).logEv .marginVoltage []).count 0x14 0 1
  else if n < floorStep i then
    let s : State := { s with health := { h with marginS := true } }
    let s := s.setIsl i fun x => { x with stepTo := some (n + 1), slack := [] }
    let cap := (s.setIsl i fun x => { x with step := n + 1 }).capacity i
    (s.logEv .marginStep ([byte i.id, byte (n + 1)] ++ leBytes 4 cap)).count 0x14 0 1
  else if (s.isl i).endLogged then s
  else
    let s : State := { s with health := { h with marginEnd := true } }
    ((s.setIsl i fun x => { x with endLogged := true }).logEv .endOfMargin [byte i.id]).count 0x14 0 1

/-- A sample of every island: which islands need margin is judged first, then each is acted for while it still needs it. -/
def State.marginSampled (s : State) (slacks temps : List Int) : State :=
  if !s.up .aon then s
  else
    let s := s.setTemps temps
    let s := Island.all.foldl (fun s i => match slacks[i.id]? with
      | some x => s.addSlack i x
      | none => s) s
    (Island.all.filter s.needsMargin).foldl (fun s i => if s.needsMargin i then s.marginAct i else s) s

/-- The VREQ code moves one step towards the request, at most one step in any 1 ms (R937, R940). -/
def State.vreqMoved (s : State) : State :=
  let h := s.health
  let goal := s.voltCode
  if s.up .aon && h.vreqAt + ms ≤ s.now && h.vreq ≠ goal then
    { s with health := { h with vreq := if h.vreq < goal then h.vreq + 1 else h.vreq - 1, vreqAt := s.now } }
  else s

/-! ### Memory health (R72, R896 to R898) -/

/-- Errors of a place within the last 24 h, with one now. -/
def withError (t : Tbl (List Nat)) (k now : Nat) : Tbl (List Nat) :=
  Tbl.put t k (now :: (Tbl.getD t k []).filter fun e => now < e + 86400 * sec)

/-- Errors of a place within the last 24 h. -/
def errorsAt (t : Tbl (List Nat)) (k now : Nat) : Nat := ((Tbl.getD t k []).filter fun e => now < e + 86400 * sec).length

def rowKey (island bank row : Nat) : Nat := (island * 65536 + bank) * 65536 + row

/-- An upset of a stop latch in one copy of an island's channel (R49). -/
def State.latchUpset (s : State) (i : Island) (copy : Nat) (l : Latch) (v : Nat) : State :=
  match i with
  | .timebase => { s with stop := { s.stop with a := s.stop.a.upsetIn copy l v } }
  | .aon => { s with stop := { s.stop with b := s.stop.b.upsetIn copy l v } }
  | .security | .compute | .fabric | .memory | .comb | .fixer | .developer | .tracking | .radio | .network => s

/-- An upset of the flag of a bucket in one of its three copies, which the vote corrects (R312). -/
def Comb.flagUpset (c : Comb) (copy b : Nat) : Comb :=
  let v := c.openIn.vote
  { c with openIn := c.openIn.struck copy (if v.contains b then v.filter (· ≠ b) else v ++ [b]) }

/-- A corrected error of a protected store is counted (R72). -/
def State.eccCounted (s : State) (i : Island) : State := (s.setIsl i fun x => { x with ecc := wrap 32 (x.ecc + 1) }).count 0x01 i.id 1

/-- A corrected error (R72, R896, R898). An upset of one of three copies is corrected by the vote, and is no error of an ECC store, so
that it is not counted (R49; DESIGN CHOICE, log entry 38). -/
def State.corrected (s : State) (i : Island) (a : EccAt) : State :=
  if !s.up i then s
  else
    let h := s.health
    let now := s.now
    match a with
    | .elsewhere => s.eccCounted i
    | .row b r => ({ s with health := { h with rowErrs := withError h.rowErrs (rowKey i.id b r) now } } : State).eccCounted i
    | .page p => ({ s with health := { h with pageErrs := withError h.pageErrs p now } } : State).eccCounted i
    | .timeCopy k v => if i = .timebase then { s with tb := { s.tb with count := s.tb.count.struck k v } } else s
    | .latchCopy k sc tg v => s.latchUpset i k (latchOf sc tg) v
    | .openFlag k b => if i = .comb then { s with comb := s.comb.flagUpset k b } else s

/-- Spare rows of an island still left (R896). -/
def State.spareRows (s : State) (i : Nat) : Nat :=
  8 * Config.sramBanks i - ((s.health.rowsUsed.filter fun e => e.1 / 65536 = i).map Prod.snd).sum

/-- Regions an island may retire (Table 19.10). -/
def State.regionsOf (s : State) (i : Island) : Nat :=
  match i with
  | .comb => s.buckets / 64
  | .fixer => 8
  | .developer => 16
  | .fabric => 24
  | .aon => 16
  | .security | .compute | .memory | .tracking | .radio | .network | .timebase => 0

/-- Retire a region under Table 19.10: a Comb group, a Fixer or Developer MiB, 256 KiB of queue pool (regions 0 to 15 of the Fabric) or
1 MiB of shared SRAM (16 to 23), 64 KiB of the Logbook. -/
def State.regionRetired (s : State) (i : Island) (n : Nat) : State :=
  let s : State := { s with health := { s.health with retired := s.health.retired ++ [i.id * 65536 + n] } }
  let s := (s.setIsl i fun x => { x with regions := x.regions + 1 }).logEv .sramRetire [byte i.id]
  match i with
  | .comb => (s.retireGroup n).retireDone n
  | .fixer => s
  | .developer => s.budgetStep i
  | .fabric => if n < 16 then { s with fabric := { s.fabric with lost := s.fabric.lost + 4096 } } else s
  | .aon =>
    let l := s.log
    let openRec := match l.openRec with
      | some (slot, t) => if slot / 1024 = n then none else some (slot, t)
      | none => none
    { s with log := { l with retired := l.retired ++ [n], slots := l.slots.filter fun e => e.1 / 1024 ≠ n, openRec := openRec } }
  | .security | .compute | .memory | .tracking | .radio | .network | .timebase => s

/-- A row of the Comb is one bucket, of 512 bytes (Table 5.2), in its bank and in its group of 64 (R198, R202; DESIGN CHOICE, log entry 38:
that a row holds one bucket). -/
def rowPlaced (r : SramRow) : Bool := r.island ≠ .comb || (r.bank = bankOf r.row && r.region = r.row / 64)

/-- A failing row is replaced by a spare, or its region is retired, or stays in use (R896, R897). -/
def State.rowFails (s : State) (r : SramRow) (unc : Bool) : State :=
  let i := r.island
  let k := rowKey i.id r.bank r.row
  let b := i.id * 65536 + r.bank
  if !s.up i || !rowPlaced r || s.health.retired.contains (i.id * 65536 + r.region) || !(unc || 4 ≤ errorsAt s.health.rowErrs k s.now) then s
  else if Tbl.getD s.health.rowsUsed b 0 < 8 then
    let h := s.health
    { s with health := { h with rowErrs := Tbl.del h.rowErrs k, rowsUsed := Tbl.put h.rowsUsed b (Tbl.getD h.rowsUsed b 0 + 1) } }
  else if r.region < s.regionsOf i then s.regionRetired i r.region
  else if unc then s.faultIn i .ecc
  else s

/-- A failing LPDDR page is retired, up to 1,024 (R898). -/
def State.pageFails (s : State) (p : Nat) (unc : Bool) : State :=
  let h := s.health
  if !s.up .memory || h.pages.contains p || !(unc || 4 ≤ errorsAt h.pageErrs p s.now) then s
  else if h.pages.length < 1024 then { s with health := { h with pages := h.pages ++ [p], pageErrs := Tbl.del h.pageErrs p } }
  else s.logEv .lpddrRetireFull []

/-! ### Event counters (R899 to R902) -/

/-- Whether source and param are of Table 19.12. -/
def counterSourceOk (v : Nat) : Bool :=
  let p := bits v 0 16
  match bits v 16 8 with
  | 0x00 | 0x06 | 0x08 | 0x09 | 0x12 | 0x13 | 0x14 => p = 0
  | 0x01 | 0x02 | 0x03 | 0x04 | 0x05 => p < 12
  | 0x07 => p < 256
  | 0x0A => p < 2
  | 0x0B => p < 1024
  | 0x0C | 0x0D => p < 8 || p = 0xFF
  | 0x0E => p < 8
  | 0x0F => p < 4
  | 0x10 => p < 12
  | 0x11 => p < 4
  | _ => false

/-- Check 8 of CounterSelect: reserved bits, then COUNTER_SOURCE. -/
def counterSelectCheck (v : Bytes) : Option Ans :=
  firstFail [(bits (leNat v) 24 6 = 0, Ans.invalid), (counterSourceOk (leNat v), Ans.bad 0x05130003)]

/-- The write clears its counter. -/
def State.counterCleared (s : State) (n : Nat) : State :=
  { s with health := { s.health with counters := modNth s.health.counters (n - 1) fun _ => 0 } }

/-- CounterSnapshot. -/
def State.snapshotTaken (s : State) : State := { s with health := { s.health with snapshot := s.health.counters } }

/-! ### Errors in protected stores (Table 2.7) -/

/-- A queue packet is dropped whole, and counted. -/
def State.packetLost (s : State) (q i : Nat) : State :=
  if q < 1024 && i < (s.fabric.queue q).pkts.length && s.up .fabric then
    let x := s.fabric.queue q
    let s : State := { s with fabric := s.fabric.setQueue q { x with drops := wrap 32 (x.drops + 1) } }
    (s.setPkts q (x.pkts.eraseIdx i)).logEv .queueDrop (leBytes 2 q)
  else s

/-- A task whose descriptor is lost ends DISCARDED_FAULT: a hart that runs it loses it as in R770, and the notice is posted; the
descriptor is FREE, so that no REISSUE finds it. -/
def State.descLost (s : State) (d : Nat) : State :=
  let x := s.fabric.desc d
  if 65536 ≤ d || !s.up .fabric then s
  else
    let s := match x.st with
      | .running => (List.range 16).foldl (fun (s : State) h => if (s.fabric.hart h).task = some d then s.discardHart h 0x40 else s) s
      | .waiting | .ready => s.post (s.cfg 0x5012 (if x.applet then 2 else 1)) (leBytes 2 d ++ [byte 0x40, 0])
      | .free | .done | .discarded => s
    { s with fabric := s.fabric.setDesc d { Desc.free x.applet with outcome := 0x40 } }

/-- A key slot takes an uncorrectable error: it is damaged, at its generation, until it is reloaded or written (Table 17.3, R816). -/
def State.keyLost (s : State) (slot : Nat) : State :=
  match Tbl.get? s.keys.slots slot with
  | none => s
  | some x =>
    if x.st = .valid then { s with keys := { s.keys with slots := Tbl.put s.keys.slots slot { x with st := .damaged } } } else s

/-- Table 2.7. -/
def State.storeError (s : State) (x : StoreRef) : State :=
  match x with
  | .combBucket b i => s.blockSlot b i
  | .roverState m => if m < s.tier && s.up .memory then s.roverDamage m else s
  | .queuePacket q i => s.packetLost q i
  | .brood d => s.descLost d
  | .keySlot i => s.keyLost i
  | .linkEntry m => if s.up .radio then s.endLink m 6 none (Ans.send 0x16) else s
  | .logRecord i =>
    if s.up .aon && (Tbl.get? s.log.slots i).isSome then
      { s with log := { s.log with slots := Tbl.upd s.log.slots i fun r => { r with damaged := true } } }
    else s

end Sys2Proof.Machine
end

