-- ==== Sys2Proof/Machine/Live.lean ====
section
/-!
DEFINITION. What an object reads as now: the stored value, or for the objects that the device itself sets, the value its state gives
(R89, the object tables of chapters 1 to 20); and the object directory (R152, R153).
-/

namespace Sys2Proof.Machine

/-! ### Identity, dictionary, Keyring, boot (chapters 1, 3, 17, 18) -/

def State.liveIdentity (s : State) (idx sub : Nat) : Option Bytes :=
  match idx with
  | 0x1001 => some (if sub = 0 then s.partNumber else partName s.silicon.tier s.silicon.sService s.silicon.packageA)
  | 0x1002 =>
    some (if sub = 1 then leBytes 2 s.tier else if sub = 2 then [if s.sService then 0x53 else 0x43]
          else [if s.packageA then 0x41 else 0x42])
  | 0x1003 => some [byte s.silicon.stepping]
  | 0x1004 => some (fit 8 s.silicon.serial)
  | 0x1011 => some [byte s.cap]
  | 0x1033 => some [byte s.dict.sessions.length]
  | 0x1100 => some [byte (if s.keys.scrapped then Lifecycle.scrapped else s.keys.life).code]
  | 0x1110 => some (s.keyStatus sub)
  | 0x1115 => some (leBytes 8 s.keys.loadedGen)
  | 0x1116 => some [byte s.keySlotsFree]
  | 0x1117 => some [if s.keys.scrapped then 2 else 1]
  | 0x1200 => some [byte (s.slotState (sub - 1))]
  | 0x1201 => some (leBytes 4 (hdrVersion (s.imgSlot (sub - 1)).header))
  | 0x1202 => some (leBytes 2 (hdrSecurity (s.imgSlot (sub - 1)).header))
  | 0x1203 => some [byte s.boot.booted]
  | 0x1204 => some s.silicon.cert
  | 0x1205 => some [byte s.boot.fuse]
  | 0x1206 => some (if sub = 1 then s.boot.m0 else if sub = 2 then s.boot.m1 else s.boot.m2)
  | 0x1212 => some [byte s.updateState]
  | 0x1220 => some (leBytes 2 s.settings.bank.format)
  | 0x1221 => some [byte (b2n s.settings.readOnly + 2 * b2n s.settings.defaulted + 4 * b2n s.settings.trialBank)]
  | 0x1223 => some [byte s.settings.spares]
  | 0x1232 => some (leBytes 2 s.settings.carried.length)
  | _ => none

/-! ### Reset, health, Logbook (chapters 19, 20) -/

def State.liveIsland (s : State) (idx n : Nat) : Option Bytes :=
  let x := s.islands.getD n IslandRec.reset
  match idx with
  | 0x1310 => some [byte x.st.code]
  | 0x1311 => some (leBytes 4 x.restarts)
  | 0x1312 => some (leBytes 4 x.ecc)
  | 0x1313 => some [byte x.step]
  | 0x1314 => some (leInt 2 x.temp)
  | 0x1315 => some (leInt 2 (worstSlack (recentSlack s.now x.slack)))
  | 0x1316 => some (leBytes 2 (s.spareRows n))
  | 0x1317 => some (leBytes 2 x.regions)
  | _ => none

def State.liveHealth (s : State) (idx sub : Nat) : Option Bytes :=
  if 0x1310 ≤ idx && idx ≤ 0x1317 then s.liveIsland idx (sub - 1)
  else if 0x1320 ≤ idx && idx < 0x132C then some [byte (b2n (s.blockIdle (idx - 0x1320) (sub - 1)))]
  else if 0x1440 ≤ idx && idx < 0x1480 then some (s.log.slotBytes ((idx - 0x1440) * 256 + sub))
  else match idx with
  | 0x1300 => some s.resets.last.bytes
  | 0x1302 => some (leBytes 4 s.resets.count)
  | 0x1318 => some (leBytes 2 s.health.volts)
  | 0x1319 => some [byte (b2n s.health.marginV + 2 * b2n s.health.marginS + 4 * b2n s.health.marginEnd)]
  | 0x1331 => some (leBytes 8 (nth s.health.counters (sub - 1)))
  | 0x1333 => some (leBytes 8 (nth s.health.snapshot (sub - 1)))
  | 0x1335 => some (leBytes 2 s.health.pages.length)
  | 0x1336 => some (leBytes 4 s.health.trips)
  | 0x1400 => some (leBytes 8 s.log.latest)
  | 0x1401 => some (leBytes 2 s.log.capacity)
  | 0x1402 => some (leBytes 2 s.log.slots.length)
  | 0x1403 => some (leBytes 4 s.log.dropped)
  | 0x1404 => some (leBytes 4 s.log.lostAll)
  | 0x1405 => some (leBytes 2 (1024 * s.log.ring))
  | 0x1406 => some (leBytes 8 s.log.mirrorLatest)
  | _ => none

/-! ### Time (chapter 13) -/

def TimeSrc.status (x : TimeSrc) : Byte := byte (b2n x.present + 2 * b2n x.qualified + 4 * b2n x.disagree)

def State.liveTime (s : State) (idx sub : Nat) : Option Bytes :=
  if 0x2100 ≤ idx && idx < 0x2108 && sub = 3 then some (leBytes 4 (s.timeOut (idx - 0x2100)).skipped)
  else if 0x2200 ≤ idx && idx < 0x2204 then
    (let c := s.capIn (idx - 0x2200)
    match sub with
    | 1 => some c.last
    | 2 => some (leBytes 4 c.count)
    | 3 => some (leBytes 4 c.missed)
    | _ => none)
  else match idx with
  | 0x2000 => some (leInt 8 s.time64)
  | 0x2001 => some [byte s.tb.st.code]
  | 0x2002 => some [byte s.quality]
  | 0x2003 => some (leBytes 4 s.errorBound)
  | 0x2004 => some [byte s.tb.source]
  | 0x2005 => some [byte (if s.tb.refin then 1 else 0)]
  | 0x2006 => some (leInt 4 s.tb.rate)
  | 0x2007 => some (leInt 8 s.jumpPending)
  | 0x2009 => some (s.tb.srcs.map TimeSrc.status)
  | 0x200A => some (leInt 2 (s.utcAt (s.time64.fdiv sec)).1)
  | 0x201A => some (leBytes 4 (if s.tb.st = .holdover || s.tb.st = .holdJump then (s.now - s.tb.holdAt) / sec else 0))
  | _ => none

/-! ### Ethernet, PTP, CAN (chapters 14, 15) -/

def State.liveEth (s : State) (idx sub : Nat) : Option Bytes :=
  let p := s.eth (sub - 1)
  match idx with
  | 0x2403 => some [byte p.link]
  | 0x2404 => some (leBytes 8 p.rx ++ leBytes 8 p.tx ++ leBytes 8 p.err ++ leBytes 8 p.drop)
  | 0x2405 => some (beBytes 6 s.macBase)
  | 0x2460 => some [byte p.ptp]
  | 0x2461 => some (leInt 8 s.net.meanPath)
  | 0x2462 => some (leInt 8 s.net.offset)
  | 0x2463 => some (beBytes 8 s.grandmaster)
  | 0x2464 => some [byte s.clockClass]
  | 0x2465 => some (leInt 8 p.peerDelay)
  | 0x2466 => some (leBytes 4 s.net.uncorrected)
  | _ => none

def State.liveCan (s : State) (idx sub : Nat) : Option Bytes :=
  let p := s.canPort (idx % 8)
  if 0x2820 ≤ idx && idx < 0x2828 then
    (match sub with
    | 5 => some [byte p.value]
    | 6 => some (leBytes 2 p.tec ++ leBytes 2 p.recErrs)
    | 7 => some (leBytes 2 p.noAck)
    | 8 => some [byte (b2n (p.sleepReq || p.st = 5))]
    | 12 => some (leBytes 8 p.rx ++ leBytes 8 p.tx ++ leBytes 8 p.errs ++ leBytes 8 p.drops)
    | _ => none)
  else if 0x2940 ≤ idx && idx < 0x2948 then some (p.buf (sub - 1)).bytes
  else if idx = 0x2830 && sub = 3 then some (leBytes 4 s.can.skipped)
  else if idx = 0x2839 then some (leBytes 4 s.can.badStops)
  else none

/-! ### Radio, Tracking, Developer, Fixer (chapters 7 to 10, 12) -/

/-- Reserved airtime of a modem in 0.01 %, rounded down. -/
def State.airtime (s : State) (k : Nat) : Nat :=
  let hyper := 20 * (s.mvalNow k).hyper
  ((s.resvsNow k []).map fun r => r.len * (hyper / r.int)).sum * 10000 / hyper

def State.liveRadio (s : State) (idx sub : Nat) : Option Bytes :=
  match idx with
  | 0x2C20 => some (leBytes 2 (s.modemLinks (sub - 1)))
  | 0x2C21 => some (leBytes 2 (s.airtime (sub - 1)))
  | 0x2C22 => some (leBytes 2 (s.linkCap (sub - 1) [] 400))
  | 0x2C23 => some (leBytes 4 s.radio.joinRefused)
  | 0x2C24 => some (leBytes 4 s.radio.micFails)
  | 0x2C25 => some (leBytes 4 s.radio.replayDrops)
  | 0x2C26 => some (leBytes 4 s.radio.ended)
  | 0x2C27 => some (leBytes 4 s.radio.dropped)
  | _ => none

def State.liveTracking (s : State) (idx sub : Nat) : Option Bytes :=
  let g := sub - 1
  let p := s.port g
  match idx with
  | 0x3000 => some [byte s.track.mode]
  | 0x3010 => some [byte (s.gsStatus g)]
  | 0x3011 => some (leBytes 2 p.share)
  | 0x3012 => some [byte ((s.agcPin g).getD 0)]
  | 0x3013 => some (leInt 4 (s.port g).offset)
  | 0x3014 => some (leBytes 4 p.gaps)
  | 0x3018 => some (leBytes 2 (s.trackLocked g))
  | 0x3019 => some [byte (nth s.track.doa g)]
  | 0x301A => some (leBytes 4 s.track.lost)
  | 0x301B => some s.trackLatest
  | 0x3413 => some s.dev.result
  | 0x3414 => some [byte s.dev.flags]
  | 0x3418 => some (leBytes 4 s.devRate)
  | 0x3419 => some (leBytes 4 s.machineBudget)
  | 0x341A => some (leBytes 2 s.dev.latents.length)
  | 0x341B => some (leBytes 4 s.dev.developed)
  | 0x341C => some (leBytes 4 s.dev.refused)
  | _ => none

def State.liveFixer (s : State) (idx : Nat) : Option Bytes :=
  match idx with
  | 0x3610 => some [byte s.base.st]
  | 0x3611 => some [byte s.base.cause]
  | 0x3626 => some (leBytes 4 (match s.base.survey with
      | some x => x.elapsed / sec
      | none => 0))
  | 0x3627 => some (leBytes 4 (match s.base.survey with
      | some x => min 0xFFFFFFFF (x.sigma.getD 0xFFFFFFFF)
      | none => 0xFFFFFFFF))
  | 0x363B => some (leBytes 4 s.base.sent)
  | 0x363C => some (leBytes 4 s.base.withheld)
  | 0x363D => some (leBytes 4 s.base.superseded)
  | 0x3645 => some [byte s.netState]
  | 0x3646 => some (leBytes 4 s.base.netBad)
  | 0x3811 => some (leBytes 4 s.roverRate)
  | 0x3820 => some (leBytes 2 s.rover.pending)
  | 0x3821 => some (leBytes 4 s.rover.solved)
  | 0x3822 => some (leBytes 4 s.rover.reinits)
  | 0x3823 => some (leBytes 4 s.rover.refused)
  | _ => none

/-! ### Comb, Conformance, Stop Bath (chapters 5, 6, 11) -/

/-- Buckets that hold 32 live or blocked entries. -/
def State.bucketsFull (s : State) : Nat :=
  let bs := (s.comb.entries.map Entry.bucket ++ s.comb.blocked.map Blocked.bucket).eraseDups
  bs.countP fun b => 32 ≤ s.comb.busy s.ct b

def State.liveComb (s : State) (idx sub : Nat) : Option Bytes :=
  match idx with
  | 0x400A => some (leBytes 5 (s.ctime.getD 0))
  | 0x4010 => some (leBytes 4 s.combCap)
  | 0x4011 => some (leBytes 4 s.combUsed)
  | 0x4012 => some (leBytes 4 s.combLive)
  | 0x4013 => some (leBytes 4 s.bucketsFull)
  | 0x4030 => some [byte (s.comb.intake.getD (sub - 1) []).length]
  | 0x4031 => some (leBytes 2 s.inFlight)
  | 0x4032 => some (leBytes 4 s.comb.seqLast)
  | 0x4033 => some (leBytes 4 s.comb.waited)
  | 0x4034 => some (leBytes 4 (s.comb.blocked.countP fun b => b.holds s.ct))
  | 0x4049 => some s.regionDigest
  | 0x404A => some [byte (s.nbr (sub - 1)).st.code]
  | 0x404B => some (leBytes 4 (s.nbr (sub - 1)).losses)
  | _ => none

/-- ReleaseArmed: the arm, until a confirm or a cancellation ends it (R556, R558). -/
def State.armBytes (s : State) : Bytes :=
  match s.stop.arm with
  | some a => [byte a.scope, 0] ++ leBytes 2 a.target ++ leBytes 4 a.number
  | none => zeros 8

def State.inState (s : State) (n : Nat) : Nat :=
  let c := s.siCfg n
  let i := s.stop.inp n
  b2n (i.goA c) + 2 * b2n (i.goB c) + 4 * b2n (siMode c ≠ 0 && !s.siStopped n) + 8 * b2n (i.lock ≠ .none)

def State.outState (s : State) (n : Nat) : Nat :=
  let o := s.stop.outp n
  b2n (s.soDriving n) + 2 * b2n (o.readback || o.failed) + 4 * b2n o.failed

def State.liveStop (s : State) (idx sub : Nat) : Option Bytes :=
  match idx with
  | 0x480D => some (leBytes 4 s.conf.ignored)
  | 0x480E => some (leBytes 4 (nth s.conf.verdicts (sub - 1)))
  | 0x4822 => some (match s.conf.swarm with
      | some w => w.bytes
      | none => zeros 24)
  | 0x4823 => some (leBytes 2 s.swarmUnacked)
  | 0x4842 => some s.armBytes
  | 0x4847 => some (leBytes 2 (s.stop.latch .all))
  | 0x4848 => some (leBytes 2 (s.stop.latch (.group (sub - 1))))
  | 0x4849 => some (leBytes 2 (s.stop.latch (.zone (sub - 1))))
  | 0x484A => some [byte (b2n s.inService)]
  | 0x4851 => some [byte (s.inState (sub - 1))]
  | 0x4853 => some [byte (s.outState (sub - 1))]
  | _ => none

/-! ### Dispatcher and queues (chapter 16) -/

def State.readyTasks (s : State) (applet : Bool) : Nat := s.fabric.brood.countP fun e => e.2.st = .ready && e.2.applet = applet

/-- QueueLevel (Table 16.12). -/
def Queue.level (q : Queue) : Bytes :=
  let n (p : PktPhase → Bool) := q.pkts.countP fun x => p x.phase
  leBytes 4 (n fun p => p = .closed) ++ leBytes 2 q.blocks
    ++ [byte (n PktPhase.isOpen), byte (n fun p => match p with
      | .held _ _ | .unfreed _ => true
      | _ => false)]

def State.liveFabric (s : State) (idx sub : Nat) : Option Bytes :=
  if 0x5110 ≤ idx && idx < 0x5114 then some (s.fabric.queue ((idx - 0x5110) * 256 + sub)).level
  else if 0x5120 ≤ idx && idx < 0x5124 then some (leBytes 4 (s.fabric.queue ((idx - 0x5120) * 256 + sub)).drops)
  else match idx with
  | 0x5016 => some (leBytes 4 s.fabric.stray)
  | 0x5017 => some (leBytes 4 (s.readyTasks (sub = 2)))
  | 0x5130 => some (leBytes 4 s.fabric.poolFree)
  | _ => none

/-! ### The machine table (0x7000 + slot) -/

def State.liveLink (s : State) (m sub : Nat) : Option Bytes :=
  let l := s.link? m
  match sub with
  | 0x50 => some [match l with
      | some x => if x.st = .joining then 1 else 2
      | none => 0]
  | 0x51 => some [match l with
      | some x => byte x.modem
      | none => 0xFF]
  | 0x52 => some (match l with
      | some x => leBytes 4 x.linkId
      | none => zeros 4)
  | 0x53 => some (match l with
      | some x => x.params
      | none => zeros 20)
  | 0x56 => some (match l with
      | some x => leBytes 4 x.events ++ leBytes 4 x.noReply ++ leBytes 4 x.micFails ++ leBytes 4 x.replays
      | none => zeros 16)
  | 0x57 => some (match l with
      | some x => leInt 1 (satInt 8 x.rssi)
      | none => [0])
  | _ => none

def State.liveMachine (s : State) (m sub : Nat) : Option Bytes :=
  match sub with
  | 0x24 => some [byte (s.liveTags m).length]
  | 0x25 => some (leBytes 4 (s.comb.entries.countP fun e => e.owner = m && e.live s.ct))
  | 0x30 => some [byte (u (s.roverSlot m).fix 10 1)]
  | 0x31 => some (s.roverSlot m).fix
  | 0x33 => some (leBytes 4 (s.roverSlot m).fixed)
  | 0x44 => some (leBytes 4 (Tbl.getD s.stop.a.epochs m 0))
  | 0x45 => some (leBytes 2 (s.stop.latch (.machine m)))
  | 0x46 => some (s.confSlot m).verdict
  | 0x47 => some [byte (s.confSlot m).acked]
  | 0x48 => some [byte (b2n (s.stop.go.contains m))]
  | _ => s.liveLink m sub

/-! ### The directory (R153, Table 3.9) -/

def dirEntry (idx sub type access priv flags max commit : Nat) : Bytes :=
  leBytes 2 idx ++ [byte sub, byte type, byte access, byte priv, byte flags, 0] ++ leBytes 4 max ++ leBytes 2 commit ++ zeros 2

/-- Absent to check 3 of R112: its block is absent, or its island has failed. -/
def State.isAbsent (s : State) (r : ObjRow) (idx sub : Nat) : Bool :=
  s.absentObj idx sub || (match Island.ofId r.island with
    | some i => s.gone i
    | none => false)

def State.dirRow (s : State) (r : ObjRow) (idx : Nat) : Bytes :=
  (span r.sub r.nSub).flatMap fun sub =>
    dirEntry idx sub r.ty r.acc r.priv
      (b2n r.pers + 2 * b2n (s.isAbsent r idx sub) + 4 * b2n (r.commit ≠ 0) + 8 * b2n r.isPort) r.max (r.commitOf idx)

/-- The applet's objects at an index, in the order of their subindices. -/
def State.dirApplet (s : State) (idx : Nat) : Bytes :=
  match s.fabric.bundle with
  | none => []
  | some l => (sortBy (fun a b => a.key ≤ b.key) (l.filter fun o => o.key / 256 = idx)).flatMap fun o =>
      dirEntry idx (o.key % 256) o.type o.access o.priv
        (b2n o.persistent + 2 * b2n (s.gone .fabric) + 4 * b2n o.grouped + 8 * b2n o.port) o.maxSize o.commit

/-- DictDirectory. -/
def State.directory (s : State) : Bytes :=
  (span 0x1000 0x6400).flatMap fun idx =>
    if 0x6000 ≤ idx && idx < 0x7000 then s.dirApplet idx
    else (objTable.filter fun r => r.hasIdx idx).flatMap fun r => s.dirRow r idx

/-! ### Reading -/

/-- The value the device itself gives an object, where it gives one. -/
def State.live? (s : State) (idx sub : Nat) : Option Bytes :=
  if idx = 0x1020 then some s.directory
  else if idx < 0x1300 then s.liveIdentity idx sub
  else if idx < 0x2000 then s.liveHealth idx sub
  else if idx < 0x2400 then s.liveTime idx sub
  else if idx < 0x2800 then s.liveEth idx sub
  else if idx < 0x2C00 then s.liveCan idx sub
  else if idx < 0x3000 then s.liveRadio idx sub
  else if idx < 0x3600 then s.liveTracking idx sub
  else if idx < 0x4000 then s.liveFixer idx
  else if idx < 0x4800 then s.liveComb idx sub
  else if idx < 0x5000 then s.liveStop idx sub
  else if idx < 0x6000 then s.liveFabric idx sub
  else if idx < 0x7000 then none
  else s.liveMachine (idx - 0x7000) sub

/-- What an object reads as: the live value, or the stored one. -/
def State.readVal (s : State) (idx sub : Nat) : Bytes :=
  match s.live? idx sub with
  | some v => v
  | none => s.val (key idx sub)

end Sys2Proof.Machine
end

