-- ==== Sys2Proof/Machine/DictCheck.lean ====
section
/-!
DEFINITION. Check 8 of R112: whether a value is valid and in range for an object, by its type, its table's row, and the layouts of the
chapters (R13, R91 to R93).
-/

namespace Sys2Proof.Machine

/-! ### By type (Table 3.2) -/

def isNaN32 (v : Nat) : Bool := bits v 23 8 = 0xFF && bits v 0 23 ≠ 0
def isNaN64 (v : Nat) : Bool := bits v 52 11 = 0x7FF && bits v 0 52 ≠ 0
def printable (b : Byte) : Bool := 0x20 ≤ b.toNat && b.toNat ≤ 0x7E

def typeOk (ty : Nat) (v : Bytes) : Bool :=
  match ty with
  | 1 => leNat v ≤ 1
  | 10 => !isNaN32 (leNat v)
  | 11 => !isNaN64 (leNat v)
  | 16 => v.all printable
  | _ => true

/-- Whether a type's numbers are signed. -/
def tySigned (ty : Nat) : Bool := (6 ≤ ty && ty ≤ 9) || ty = 12

/-- A value as a number of its type. -/
def tyNum (ty : Nat) (v : Bytes) : Int := if tySigned ty then signed (8 * v.length) (leNat v) else leNat v

/-- VALUE_INVALID unless `ok`. -/
def orInvalid (ok : Bool) : Option Ans := if ok then none else some Ans.invalid
/-- VALUE_LOW below, VALUE_HIGH above. -/
def inRange (lo hi x : Int) : Option Ans := if x < lo then some Ans.low else if hi < x then some Ans.high else none
/-- The first refusal. -/
def orElse (a b : Option Ans) : Option Ans :=
  match a with
  | some x => some x
  | none => b

/-! ### By layout -/

/-- Table 1.3. -/
def capProfileOk (v : Nat) : Bool := bits v 4 3 = 0 && bits v 0 2 ≠ 3 && (bit v 7 || v = 0)

/-- KeyWrite (R808): its one exact length, then reserved fields. -/
def keyWriteValue (v : Bytes) : Option Ans :=
  if v.length < 8 || v.length ≠ keyWriteLen v then some Ans.length else orInvalid (bits (u v 3 1) 4 4 = 0 && u v 7 1 = 0)

/-- Table 13.6. -/
def pulseReservedOk (v : Bytes) : Bool := u v 11 1 < 2 && u v 13 3 = 0 && u v 29 3 = 0

/-- Table 15.8. -/
def canTmReservedOk (v : Bytes) : Bool := u v 1 1 < 4 && u v 2 2 = 0 && bits (u v 4 4) 29 3 = 0 && u v 12 4 = 0

/-- Two queue numbers (Table 15.12, CanFifoQueue). -/
def fifoQueuesOk (v : Bytes) : Bool := u v 0 2 < 1024 && u v 2 2 < 1024

/-- Table 12.5. -/
def channelReservedOk (v : Bytes) : Bool := u v 8 1 < 4 && u v 10 2 = 0

/-- RtcmUdpDest (R437): port 0 is VALUE_LOW. -/
def udpDestValue (v : Bytes) : Option Ans := if v ≠ [] && u v 16 2 = 0 then some Ans.low else none

/-- Reserved bytes of Table 11.3 in each of ten rows. -/
def policyReservedOk (v : Bytes) : Bool := (List.range 10).all fun i => u v (4 * i + 2) 2 = 0

/-- Table 11.6. -/
def stopInOk (c : Nat) : Bool :=
  let sc := bits c 28 2
  let tg := bits c 22 6
  bits c 30 2 ≠ 3 && sc ≠ 3 && bits c 0 2 = 0 && bits c 12 10 ≤ 1000 && 1 ≤ bits c 2 10 && bits c 2 10 ≤ 1000
    && (sc = 1 || (sc = 2 && tg ≤ 27) || tg = 0)

/-- Table 11.7. -/
def stopOutOk (c : Nat) : Bool :=
  let sc := bits c 30 2
  let tg := bits c 24 6
  bits c 0 16 = 0 && 1 ≤ bits c 16 6 && (sc = 1 || (sc = 2 && tg ≤ 27) || tg = 0)

/-- StopZone (R952). -/
def stopZoneOk (v : Bytes) : Bool := v = [] || (v.length % 8 = 0 && 24 ≤ v.length && simplePoly (areaVerts v))

/-- ConfFootprint (Table 11.14): a footprint of Table 5.6, or none. -/
def confFootprintOk (v : Bytes) : Bool :=
  let body := u v 0 1
  let f := v.drop 4
  v = [] || (1 ≤ body && body ≤ 3 && u v 1 3 = 0 && 4 ≤ v.length && f.length = footLen body f && footRangeOk body f
    && (body ≠ 3 || convexCcw (polyVerts f)))

/-- A queue that a partition may read. -/
def State.queueFor (s : State) (applet : Bool) (q : Nat) : Option Ans :=
  if 1023 < q then some Ans.high else orInvalid (qReaderApplet (s.queueCfg q) = applet)

/-- QueueConfig (R783). -/
def State.queueConfigOk (s : State) (c : Nat) : Bool :=
  bits c 56 5 = 0 && bits c 0 24 = 0 && qLimit c ≠ 0 &&
    (match qTrigger c with
    | some d => s.fabric.isApplet d = qReaderApplet c
    | none => true)

/-- BroodAppletBase and BroodAppletCount (Table 16.12): multiples of 1,024, within the table. -/
def State.broodBoundsOk (s : State) (idx : Nat) (x : Nat) : Option Ans :=
  let base := if idx = 0x5010 then x else s.cfg 0x5010 0
  let count := if idx = 0x5011 then x else s.cfg 0x5011 0
  orElse (orInvalid (x % 1024 = 0)) (if (idx = 0x5011 && 32768 < x) || 65536 < base + count then some Ans.high else none)

/-- Value rules that a chapter gives an object beyond type and plain range. -/
def State.special (s : State) (idx sub : Nat) (v : Bytes) : Option Ans :=
  let x := leNat v
  if 0x2100 ≤ idx && idx < 0x2108 then orInvalid (pulseReservedOk v)
  else if 0x2820 ≤ idx && idx < 0x2828 then
    (match sub with
    | 2 => orInvalid (bits x 0 11 = 0)
    | 9 => orInvalid (wakeOk x)
    | 0x0A => orInvalid (fifoQueuesOk v)
    | _ => none)
  else if 0x2900 ≤ idx && idx < 0x2908 then orInvalid (bufferOk x)
  else if 0x29C0 ≤ idx && idx < 0x29C8 then orInvalid (filterOk x)
  else if 0x5100 ≤ idx && idx < 0x5104 then orInvalid (s.queueConfigOk x)
  else if 0x7000 ≤ idx then (if sub = 0x41 then orInvalid (confFootprintOk v) else none)
  else match idx with
  | 0x1010 => orInvalid (capProfileOk x)
  | 0x1101 => orInvalid (u v 1 3 = 0)
  | 0x1111 => keyWriteValue v
  | 0x1217 => orInvalid (allZero v || u v 0 1 = 4)
  | 0x1301 => orInvalid (resetReservedOk v)
  | 0x2410 => orInvalid (u v 4 1 ≤ 32)
  | 0x2411 => orInvalid (u v 16 1 ≤ 128)
  | 0x2443 => orInvalid (bits x 56 2 = 0)
  | 0x2830 => orInvalid (canTmReservedOk v)
  | 0x2838 => orInvalid (stopIdOk x)
  | 0x2C01 => orInvalid (channelReservedOk v)
  | 0x2C03 => orInvalid (u v 0 1 < 8)
  | 0x3003 => orInvalid (bits x 56 2 = 0 && bits x 0 8 = 0)
  | 0x3007 => orInvalid (bits x 0 8 = 0)
  | 0x3638 => udpDestValue v
  | 0x4042 => orInvalid (u v 5 3 = 0)
  | 0x4801 => orInvalid (policyReservedOk v)
  | 0x4850 => orInvalid (stopInOk x)
  | 0x4852 => orInvalid (stopOutOk x)
  | 0x4855 => orInvalid (stopZoneOk v)
  | 0x5010 | 0x5011 => s.broodBoundsOk idx x
  | 0x5012 => s.queueFor (sub = 2) x
  | 0x5015 => if s.lpddr < 128 * x then some Ans.high else none
  | 0x5018 => s.queueFor true x
  | _ => none

/-! ### Checks 7 and 8 -/

/-- Check 7 on the length n of a value, or on the total of a transfer (R92, R134). -/
def lengthCheck (r : ObjRow) (n : Nat) : Option Ans :=
  if r.ty ≤ 15 || r.exact then (if n = r.max then none else some Ans.length)
  else if r.idx = 0x3638 && n ≠ 0 && n ≠ 18 then some Ans.length
  else if r.max < n then some Ans.tooLarge
  else none

/-- Check 8 on a whole value. -/
def State.valueCheck (s : State) (r : ObjRow) (idx sub : Nat) (v : Bytes) : Option Ans :=
  if !typeOk r.ty v then some Ans.invalid
  else match r.chk with
  | .any => none
  | .range lo hi => inRange lo hi (tyNum r.ty v)
  | .oneOf l => orInvalid (l.contains (leNat v))
  | .mask m => orInvalid (leNat v &&& m = leNat v)
  | .special => s.special idx sub v

end Sys2Proof.Machine
end

