-- ==== Sys2Proof/Machine/Run.lean ====
section
/-!
DEFINITION. How a command runs: the clock moves to its arrival, its effect happens, generations of the objects that sessions follow
are counted, and the responses leave (log entries 1 and 31).
-/

namespace Sys2Proof.Machine

/-! ### Objects by address (R87, R152, R792) -/

/-- The row of an object that the applet bundle declares. Its commit object is that of subindex 0 (log entry 30). -/
def State.appletRow (s : State) (o : AppletObj) : ObjRow :=
  let idx := o.key / 256
  let names : Bool := match s.fabric.bundle with
    | some l => l.any fun x => x.grouped && x.commit = idx
    | none => false
  let commit : Bool := names && o.key % 256 = 0 && !o.port
  { name := "", idx := idx, nIdx := 1, sub := o.key % 256, nSub := 1, ty := o.type, acc := o.access, priv := o.priv, dflt := o.dflt,
    max := (fixedSize o.type o.maxSize).getD o.maxSize, pers := o.persistent, isCommit := commit, isPort := o.port, exact := false,
    commit := if o.grouped then o.commit else 0, island := 3, chk := if commit then .oneOf [1] else .any }

/-- The row of an object. -/
def State.rowAt (s : State) (idx sub : Nat) : Option ObjRow :=
  if 0x6000 ≤ idx && idx < 0x7000 then (s.bundleObj? (key idx sub)).map s.appletRow else findObj idx sub

/-- Whether an index holds any object. -/
def State.hasIndex (s : State) (idx : Nat) : Bool :=
  if 0x6000 ≤ idx && idx < 0x7000 then
    match s.fabric.bundle with
    | some l => l.any fun o => o.key / 256 = idx
    | none => false
  else objTable.any fun r => r.hasIdx idx

/-- What the gasket before an object's block answers, while it is closed (R57, R112). -/
def State.gasketOf (s : State) (r : ObjRow) : Option Ans :=
  match Island.ofId r.island with
  | some i => (s.gasket i).map fun g => Ans.no g.1 g.2
  | none => none

/-- CtimeNow while there is no CTIME (R182). -/
def State.readRefusal (s : State) (idx : Nat) : Option Ans :=
  if idx = 0x400A && s.ctime.isNone then some (Ans.state 0x05400003) else none

/-- The value a read finds, where one can be made at all. -/
def State.readNow (s : State) (k : Nat) : Option Bytes :=
  match s.rowAt (k / 256) (k % 256) with
  | none => none
  | some r =>
    if r.acc = 3 || s.isAbsent r (k / 256) (k % 256) || (s.gasketOf r).isSome || (s.readRefusal (k / 256)).isSome || !s.up .compute then none
    else some (s.readVal (k / 256) (k % 256))

/-! ### Generations (Table 3.6, R137) -/

/-- Begin to follow an object (log entry 31). -/
def State.touch (s : State) (k : Nat) : State :=
  if Tbl.has s.dict.gens k then s
  else { s with dict := { s.dict with gens := Tbl.put s.dict.gens k { gen := 0, value := s.readNow k, readable := (s.readNow k).isSome, turns := 0 } } }

/-- One followed object: its generation is one more when its value has changed. -/
def GenRec.seen (g : GenRec) (v : Option Bytes) : GenRec :=
  let g := if g.readable = v.isSome then g else { g with readable := v.isSome, turns := g.turns + 1 }
  match v with
  | none => g
  | some b =>
    match g.value with
    | none => { g with value := some b }
    | some a => if a = b then g else { g with gen := (g.gen + 1) % 65536, value := some b }

def State.countGens (s : State) : State :=
  { s with dict := { s.dict with gens := s.dict.gens.map fun e => (e.1, e.2.seen (s.readNow e.1)) } }

/-- The records of one access are complete: they take the generations of this instant. -/
def State.stamp (s : State) : State := s.countGens.fillAll

/-- A command's effect at instant t of the device's count, with what follows every command. Silicon and the queue of waiting commands
are no effect's to change. -/
def State.run (s : State) (t : Nat) (body : State → State) : State :=
  let r := (body (s.advance t)).stamp.flush
  { r with now := max s.now t, silicon := s.silicon, pending := s.pending }

end Sys2Proof.Machine
end

