-- ==== Sys2Proof/Machine/ImageOps.lean ====
section
/-!
DEFINITION. Configuration images: what ConfigExport makes and ConfigImport takes (18_boot_update_recovery.md R851, R857 to R861).
-/

namespace Sys2Proof.Machine

/-! ### Entries (R851) -/

/-- One entry: index, sub, flags (bit 0 shadow), length, and the value padded to 4 bytes. -/
def entryBytes (k : Nat) (shadow : Bool) (v : Bytes) : Bytes :=
  leBytes 2 (k / 256) ++ [byte k, byte (b2n shadow)] ++ leBytes 2 v.length ++ zeros 2 ++ pad4 v

/-- The record key (Table 17.1), and the key that authenticates boot records and settings banks (R834); the length of the latter is that
of its PRF (PRESUMED, log entry 37). -/
def State.recordKey (s : State) : Bytes := Sha.kdf Config.rootSecret (ascii "DHX-KREC") s.silicon.serial 256
def State.bankKey (s : State) : Bytes := Sha.kdf s.recordKey (ascii "DHX-SETB") s.silicon.serial 384

/-- A settings bank as the flash holds it once each value is written once: header, entries and HMAC. -/
def State.bankImage (s : State) (b : Bank) : Bytes :=
  let shadow (k : Nat) : Bool := match findObj (k / 256) (k % 256) with
    | some r => r.acc = 4
    | none => false
  let es := b.values.flatMap fun e => entryBytes e.1 (shadow e.1) e.2
  let body := ascii "DXST" ++ leBytes 2 b.format ++ zeros 2 ++ leBytes 8 b.gen ++ leBytes 4 b.writer ++ leBytes 4 es.length ++ zeros 40 ++ es
  body ++ Sha.hmac s.bankKey body

/-- An entry read back: key, flags and value. -/
structure CfgEntry where
  key   : Nat
  flags : Nat
  value : Bytes
  deriving DecidableEq, Repr, Inhabited

/-- The entries of an image, where they fill their bytes exactly. -/
def parseEntries : Nat → Bytes → Option (List CfgEntry)
  | 0, _ => none
  | n + 1, b =>
    if b = [] then some []
    else
      let len := u b 4 2
      let size := 8 + (len + 3) / 4 * 4
      if b.length < size || u b 6 2 ≠ 0 || 1 < u b 3 1 then none
      else match parseEntries n (b.drop size) with
        | some l => some ({ key := key (u b 0 2) (u b 2 1), flags := u b 3 1, value := slice b 8 len } :: l)
        | none => none

/-- Whether an image carries the object at a key (R857, R859). -/
def imageCarries (k : Nat) : Bool :=
  !isDeviceRecord k && (k / 256 = 0x1005 || !(0x1000 ≤ k / 256 && k / 256 ≤ 0x12FF))

/-- Keys of a row's objects. -/
def ObjRow.keys (r : ObjRow) : List Nat := (span r.idx r.nIdx).flatMap fun i => (span r.sub r.nSub).map (key i)

/-- The persistent objects an image carries, with whether each is a shadow: the device's, then the applet bundle's. -/
def State.imageKeys (s : State) : List (Nat × Bool) :=
  let own := (objTable.filter fun r => r.pers).flatMap fun r => (r.keys.filter imageCarries).map fun k => (k, decide (r.acc = 4))
  let app := match s.fabric.bundle with
    | some l => (l.filter fun o => o.persistent && !o.port).map fun o => (o.key, decide (o.access = 4))
    | none => []
  own ++ app

/-! ### Export (R858, R859) -/

/-- Everything of an image before its signature. -/
def State.imageBody (s : State) : Bytes :=
  let es := s.imageKeys.flatMap fun k => entryBytes k.1 k.2 (s.readVal (k.1 / 256) (k.1 % 256))
  ascii "DXCF" ++ [1, 0, 0, 0] ++ fit 16 s.partNumber ++ fit 8 s.silicon.serial ++ leInt 8 s.time64 ++ leBytes 2 s.fwFormat ++ zeros 2
    ++ leBytes 4 es.length ++ es ++ leBytes 2 s.silicon.cert.length ++ zeros 2 ++ s.silicon.cert

/-- A read of ConfigExport from offset 0 makes an image, which reads at other offsets continue (log entry 32). -/
def State.exportImage (s : State) : State :=
  let b := s.imageBody
  ({ s with free := s.free + 1 } : State).setVal (key 0x1230 0) (b ++ fit 96 (Config.sign s.free b))

/-! ### Import (R860, R861) -/

/-- The certificate of an image, and whether the image has the length its own fields give. -/
def imageCert (b : Bytes) : Option Bytes :=
  let n := u b 44 4
  let c := u b (48 + n) 2
  if b.length = 148 + n + c then some (slice b (52 + n) c) else none

/-- Whether certificate and signature of an image stand. -/
def imageSigned (b : Bytes) : Bool :=
  match imageCert b with
  | none => false
  | some c =>
    match Config.certKey Config.rootKey c with
    | none => false
    | some p => Config.verify p (b.take (b.length - 96)) (b.drop (b.length - 96))

/-- The entries of a well-formed image. -/
def imageEntries (b : Bytes) : Option (List CfgEntry) :=
  if b.take 8 = ascii "DXCF" ++ [1, 0, 0, 0] && u b 42 2 = 0 && u b (50 + u b 44 4) 2 = 0 then
    parseEntries (u b 44 4 + 1) (slice b 48 (u b 44 4))
  else none

/-- Whether a key holds the active value of a stage group of the device, or what the device derives from one (SiteFrameState,
SiteGeodetic, SiteFrameDigest, BaseRefSource). -/
def isActiveKey (k : Nat) : Bool :=
  [0x4007, 0x4008, 0x4009, 0x3609].contains (k / 256) || commitIndices.any fun c => (memberKeys c).any fun m => m.2 = k

/-- Whether the device takes an entry's value: that of a setting an image carries, of an object there is; active values come by the
commits of R861. -/
def State.takesEntry (s : State) (e : CfgEntry) : Bool := imageCarries e.key && s.persists e.key && !isActiveKey e.key

/-- Checks 7 and 8 on the value of an entry, as for a write of it: no setting enters the bank with a reserved field set (R11, R13). -/
def State.entryCheck (s : State) (e : CfgEntry) : Option Ans :=
  if !s.takesEntry e then none
  else match s.rowAt (e.key / 256) (e.key % 256) with
    | some r => orElse (lengthCheck r e.value.length) (s.valueCheck r (e.key / 256) (e.key % 256) e.value)
    | none => none

/-- Checks of Table 18.3 on an image, then those on each value it carries, the first failure of which refuses it (DESIGN CHOICE, log
entry 17: Table 18.3 names no outcome for them). -/
def State.importCheck (s : State) (b : Bytes) : Option Ans :=
  orElse (firstFail
    [(imageSigned b, Ans.bad 0x05120010), (slice b 8 16 = fit 16 s.partNumber, Ans.bad 0x05120011),
     (s.canRead (u b 40 2) && (imageEntries b).isSome, Ans.bad 0x05120012)])
    (((imageEntries b).getD []).findSome? s.entryCheck)

/-- The values of a bank that an image makes. -/
def State.importValues (s : State) (l : List CfgEntry) : Tbl Bytes :=
  l.foldl (fun t e => if s.takesEntry e then putCanon t e.key e.value (s.dflt e.key) else t) []

/-- The stage groups that an image carries, in ascending order. -/
def importGroups (l : List CfgEntry) : List Nat :=
  commitIndices.filter fun c => (memberKeys c).any fun m => l.any fun e => e.key = m.1 && imageCarries e.key

/-- ConfigImport. -/
def State.importImage (s : State) (b : Bytes) : State × Option Ans :=
  match s.importCheck b with
  | some a => (s, some a)
  | none =>
    let l := (imageEntries b).getD []
    let nb := Bank.fresh s.fwFormat s.settings.nextGen s.fwVersion (s.importValues l)
    (({ s with settings := { s.settings with imported := some (nb, importGroups l) } } : State).blocksWorn s.flash.worn, some (Ans.done []))

end Sys2Proof.Machine
end

