-- ==== Sys2Proof/Machine/Dict.lean ====
section
/-!
DEFINITION. The dictionary service: the checks of R112, what a read, a write, a commit, a discard and a request to a port do, block
transfers, and subscriptions (03_object_dictionary.md R87 to R114, R131 to R143; 16_dispatcher_queues_applets.md R792 to R795).
-/

namespace Sys2Proof.Machine

/-- The four accesses that Table 3.1, R90 and R102 tell apart. -/
inductive Op where
  | read | write | commit | transact
  deriving DecidableEq, Repr, Inhabited

/-! ### Checks 2 to 6 -/

/-- Check 4. An applet writes its own objects whatever their mode, but for const ones (R793). -/
def modeCheck (op : Op) (own : Bool) (r : ObjRow) : Option Ans :=
  match op with
  | .read => if r.acc = 3 then some Ans.notReadable else none
  | .transact => if r.isPort then none else some Ans.portOnly
  | .commit => if r.isCommit then none else some Ans.portOnly
  | .write =>
    if r.isPort then some Ans.portOnly
    else if r.acc = 0 || (r.acc = 1 && !own) then some Ans.notWritable
    else none

/-- Check 6 (Table 17.7): what the life-cycle state lets an outside caller write. -/
def State.lifeBars (s : State) (idx : Nat) : Bool :=
  if s.keys.scrapped then true
  else match s.keys.life with
  | .blank | .decommissioned => !(0x1000 ≤ idx && idx ≤ 0x13FF)
  | .scrapped => true
  | .provisioned | .commissioned => false

def Caller.isApplet : Caller → Bool
  | .applet _ _ => true
  | _ => false

/-- Checks 2 to 6 of R112, in their order; with Security failed, writes that need Custodian are absent (Table 2.9). -/
def State.front (s : State) (c : Caller) (op : Op) (idx sub : Nat) : Except Ans ObjRow :=
  match s.rowAt idx sub with
  | none => .error (if s.hasIndex idx then Ans.noSub else Ans.noObject)
  | some r =>
    let writes : Bool := op ≠ .read
    if s.isAbsent r idx sub || (writes && r.priv = 3 && s.gone .security) then .error Ans.absent
    else match modeCheck op (Caller.isApplet c && 0x6000 ≤ idx && idx < 0x7000) r with
    | some a => .error a
    | none =>
      if s.privOf c < r.priv then .error Ans.privilege
      else if writes && c ≠ .firmware && s.lifeBars idx then .error Ans.lifecycle
      else .ok r

/-! ### Stage groups (R101 to R111) -/

def State.holdOf (s : State) (g : Nat) : Option Hold := s.dict.holds.find? fun h => h.commit = g

/-- Check 9: another editor holds the group. -/
def State.heldByOther (s : State) (c : Caller) (g : Nat) : Bool :=
  match s.holdOf g with
  | some h => h.editor ≠ Editor.ofCaller c
  | none => false

/-- Whether an access to an object counts for the hold of a group (R108): it is the commit object, or holds a member's shadow or
active value; for an update, UpdateHeader or UpdatePayload (R843). -/
def State.countsFor (s : State) (g k : Nat) : Bool :=
  k = key g 0 || (g = 0x1210 && k = key 0x1211 0) || (s.groupKeys g).any fun m => m.1 = k || m.2 = k

/-- Each access of an editor starts the count of its hold again. -/
def State.seenBy (s : State) (c : Caller) (k : Nat) : State :=
  let now := s.now
  let holds := s.dict.holds.map fun h => if h.editor = Editor.ofCaller c && s.countsFor h.commit k then { h with last := now } else h
  { s with dict := { s.dict with holds := holds } }

/-- The first write makes the writer the editor (R107). -/
def State.takeHold (s : State) (c : Caller) (g : Nat) : State :=
  match s.holdOf g with
  | some _ => s
  | none => { s with dict := { s.dict with holds := s.dict.holds ++ [{ commit := g, editor := Editor.ofCaller c, last := s.now }] } }

/-- A hold ends in another way than by a commit: the shadow returns to the active set (R108). -/
def State.dropHold (s : State) (g : Nat) : State :=
  returnShadow { s with dict := { s.dict with holds := s.dict.holds.filter fun h => h.commit ≠ g } } g

/-- Retries of a carried group end at a host's write or discard of its shadow (R861). -/
def State.notCarried (s : State) (g : Nat) : State :=
  { s with settings := { s.settings with carried := s.settings.carried.filter fun x => x.1 ≠ g } }

/-! ### Events on applet objects (R794, R795) -/

/-- Post an event on an applet object to AppletObjectQueue. -/
def State.appletPost (s : State) (kind token k : Nat) (body : Bytes) : State :=
  s.post (s.cfg 0x5018 0) ([byte kind, 0] ++ leBytes 2 token ++ leBytes 2 (k / 256) ++ [byte k, 0] ++ body)

/-- An event that waits for its ANSWER. -/
def State.appletAsk (s : State) (c : Caller) (kind k : Nat) (body : Bytes) : State :=
  let tok := s.fabric.tokenNext
  let e : AppletEvent := { token := tok, kind := kind, key := k, caller := c, due := s.now + s.cfg 0x5019 0 * ms,
                             vals := if kind = 3 then s.shadowVals (k / 256) else [] }
  let f := { s.fabric with tokenNext := (tok + 1) % 65536, events := s.fabric.events ++ [e] }
  ({ s with fabric := f } : State).appletPost kind tok k body

/-- The shadow set of an applet group: its members' shadows in rising order of index and subindex (log entry 30). -/
def State.shadowSet (s : State) (g : Nat) : Bytes :=
  (sortBy (fun a b => a.1 ≤ b.1) (s.groupKeys g)).flatMap fun m => s.val m.1

/-- The event of an ANSWER, and the rest. -/
def State.takeEvent (s : State) (tok : Nat) : Option (AppletEvent × State) :=
  match s.fabric.events.find? fun e => e.token = tok with
  | some e => some (e, { s with fabric := { s.fabric with events := s.fabric.events.filter fun x => x.token ≠ tok } })
  | none => none

/-- The abort code of an applet's refusal (R113): Table 3.3's, where the outcome has one alone; else one of the applet range, whose
number the spec does not state: it is free. -/
def appletAbort (outcome free : Nat) : Nat :=
  if outcome ≤ 1 then 0
  else match abortOf outcome with
    | some c => c
    | none => 0x05600000 + wrap 16 free

/-- An ANSWER (R795). A commit applies only when it is DONE, with the values it was asked for. -/
def State.appletAnswer (s : State) (tok outcome : Nat) (data : Bytes) : State :=
  match s.takeEvent tok with
  | none => s
  | some (e, s) =>
    let d := s.draw
    let s := d.1
    let a : Ans := { outcome := outcome, abort := appletAbort outcome d.2, data := if e.kind = 2 then data else [], total := 0 }
    let s := if e.kind = 3 && outcome = 0 then s.applyVals (e.key / 256) e.vals else s
    s.answer e.caller a

/-- No ANSWER came in AppletAnswerTimeout. -/
def State.appletSilent (s : State) (tok : Nat) : State :=
  match s.takeEvent tok with
  | none => s
  | some (e, s') => if e.due ≤ s.now then s'.answer e.caller (Ans.state 0x05500002) else s

/-! ### Commits and discards -/

/-- A commit that reached its block: check 11, and the group's own effect. An applet group's commit waits for its ANSWER. -/
def State.commitAt (s : State) (c : Caller) (idx : Nat) : State × Option Ans :=
  if 0x6000 ≤ idx && idx < 0x7000 then (s.appletAsk c 3 (key idx 0) (s.shadowSet idx), none) else s.commitGroup idx c

/-- A commit of the group of commit object idx: checks 9 and 10, then its gasket (R110, R112). -/
def State.commitOp (s : State) (c : Caller) (r : ObjRow) (idx : Nat) : State × Option Ans :=
  if s.heldByOther c idx then (s, some Ans.stageHeld)
  else if s.settings.readOnly && (s.groupKeys idx).any (fun m => s.persists m.1) then (s, some Ans.readOnly)
  else match s.gasketOf r with
  | some a => (s, some a)
  | none => s.commitAt c idx

/-- A discard of the group of commit object idx (R109). It meets the gasket of the group's island as a commit does, also where
StageDiscard makes it (DESIGN CHOICE, log entry 14). -/
def State.discardOp (s : State) (c : Caller) (r : ObjRow) (idx : Nat) : State × Option Ans :=
  if s.heldByOther c idx then (s, some Ans.stageHeld)
  else match s.gasketOf r with
  | some a => (s, some a)
  | none => ((s.dropHold idx).notCarried idx, some (Ans.done []))

/-- StageDiscard (R109): the group of a named commit object, with that object's privilege; with Security failed a Custodian's group is
absent (Table 2.9). Whatever its outcome, it counts for the hold (R108). -/
def State.stageDiscardOp (s : State) (c : Caller) (idx : Nat) : State × Option Ans :=
  match s.rowAt idx 0 with
  | none => (s, some Ans.invalid)
  | some r =>
    if !r.isCommit then (s, some Ans.invalid)
    else
      let s := s.seenBy c (key idx 0)
      if r.priv = 3 && s.gone .security then (s, some Ans.absent)
      else if s.privOf c < r.priv then (s, some Ans.privilege)
      else s.discardOp c r idx

/-! ### Writes -/

/-- TimeSourcePriority (Table 13.7): source codes 1 to 4, none twice; 0 fills unused places. -/
def prioritiesOk (v : Bytes) : Bool :=
  let l := (v.map BitVec.toNat).filter fun c => c ≠ 0
  l.all (fun c => c ≤ 4) && l.Nodup

/-- What the block of an rw object refuses. -/
def State.blockCheck (s : State) (idx sub : Nat) (v : Bytes) : Option Ans :=
  if 0x2900 ≤ idx && idx < 0x2908 then s.bufferCheck (idx - 0x2900) (sub - 1)
  else if 0x5100 ≤ idx && idx < 0x5104 then
    let q := (idx - 0x5100) * 256 + sub
    let busy : Bool := (s.fabric.queue q).pkts.any fun p => p.phase ≠ .closed
    if qReaderApplet (s.queueCfg q) ≠ qReaderApplet (leNat v) && busy then some (Ans.state 0x05500001) else none
  else match idx with
  | 0x1330 => counterSelectCheck v
  | 0x2010 => if prioritiesOk v then none else some (Ans.bad 0x05200012)
  | 0x2400 => s.ethConfigCheck (sub - 1) v
  | 0x2838 => s.stopIdCheck
  | 0x2C13 => s.listenCheck (sub - 1) v
  | 0x4850 | 0x4852 => if s.stoppedAll then none else some (Ans.state 0x05480006)
  | 0x4855 => if s.stop.latch (.zone (sub - 1)) = 0 then none else some (Ans.state 0x05480006)
  | _ => none

/-- What a write to an rw object does at its block as it is stored. -/
def State.storedAt (s : State) (idx sub : Nat) (old v : Bytes) : State :=
  if 0x2900 ≤ idx && idx < 0x2908 then s.bufferWritten (idx - 0x2900) (sub - 1) (leNat old)
  else if 0x7000 ≤ idx then (if sub = 0x40 then s.refreshGo else s)
  else match idx with
  | 0x1005 => if old = v then s else s.clashEnded
  | 0x1330 => s.counterCleared sub
  | 0x2010 | 0x2011 | 0x2012 => s.servo
  | 0x2013 => s.slewRated
  | 0x2015 => s.refinChosen (leNat v)
  | 0x2400 => s.ethConfigured (sub - 1) old
  | 0x2C13 => s.listenWritten (sub - 1) v
  | 0x3001 => s.rateWritten
  | 0x4850 => s.siJudge (sub - 1)
  | 0x4852 | 0x4855 => s.refreshGo
  | _ => s

/-- A write to an rw object: refused by its block, or stored and applied at once (R89, R95). -/
def State.applyWrite (s : State) (idx sub : Nat) (v : Bytes) : State × Option Ans :=
  if idx = 0x3000 then (if leNat v = 1 then s.standbyEnter else s.standbyExit)
  else if 0x2820 ≤ idx && idx < 0x2828 && sub = 8 then
    (if leNat v = 1 then s.canSleepReq (idx - 0x2820) else s.canWakeReq (idx - 0x2820))
  else if 0x7000 ≤ idx && sub = 1 then s.machineWrite (idx - 0x7000) (leNat v)
  else match s.blockCheck idx sub v with
  | some a => (s, some a)
  | none =>
    let old := s.val (key idx sub)
    let s := if idx = 0x2016 || idx = 0x2017 then s.rollBound else if idx = 0x2013 then s.slewMoved else s
    ((s.setVal (key idx sub) v).storedAt idx sub old v, some (Ans.done []))

/-- A whole UpdatePayload (R844). -/
def State.payloadOp (s : State) (c : Caller) (v : Bytes) : State × Option Ans :=
  match s.payloadCheck (Editor.ofCaller c) v.length with
  | some a => (s, some a)
  | none =>
    match s.updateOf (Editor.ofCaller c) with
    | some x => s.updateDone x v
    | none => (s, none)

/-- Commands of the machine table. -/
def State.machineCommand (s : State) (m sub : Nat) (v : Bytes) : State × Option Ans :=
  match sub with
  | 0x32 => s.roverReset m
  | 0x54 => s.paramRequest m v
  | 0x55 => (s.endLink m 2 (some 0) (Ans.send 0x16), some (Ans.done []))
  | _ => (s, some (Ans.done []))

/-- A write to a wo object that is no commit object. -/
def State.command (s : State) (c : Caller) (idx sub : Nat) (v : Bytes) : State × Option Ans :=
  if 0x7000 ≤ idx then s.machineCommand (idx - 0x7000) sub v
  else if 0x2820 ≤ idx && idx < 0x2828 then s.canRecoverReq (idx - 0x2820)
  else if 0x2980 ≤ idx && idx < 0x2988 then s.bufferAck (idx - 0x2980) (sub - 1) (leNat v)
  else match idx with
  | 0x1021 => s.stageDiscardOp c (leNat v)
  | 0x1101 => s.lifecycleCmd c v
  | 0x1111 => s.keyWritten c v
  | 0x1112 => s.keyErased c (leNat v)
  | 0x1113 => s.keyInvalidated c (leNat v)
  | 0x1210 => s.updateBegin c v
  | 0x1211 => s.payloadOp c v
  | 0x1213 => s.activateUpdate c
  | 0x1214 => s.confirmUpdate c (leNat v)
  | 0x1222 => s.resetSettings c
  | 0x1231 => s.importImage v
  | 0x1240 => s.enterBoantCmd c
  | 0x1301 => s.resetCommand c v
  | 0x1332 => (s.snapshotTaken, some (Ans.done []))
  | 0x2008 => if leNat v = 1 then s.stepArm else s.stepDisarm
  | 0x2019 => s.ppsTimeOfDay v
  | 0x3620 => if leNat v = 0 then s.surveyAbandon else s.surveyStart (leNat v = 2)
  | 0x4035 => s.clearBlocked
  | 0x4821 => s.swarmPort v
  | 0x4840 => s.stopCmd v c
  | 0x4841 => s.releaseArmed v (s.privOf c)
  | 0x4843 => s.releaseConfirmed v (s.privOf c)
  | _ => (s, some (Ans.done []))

/-- A write to an applet's object (R792 to R794). -/
def State.appletWrite (s : State) (c : Caller) (idx sub : Nat) (v : Bytes) : State × Option Ans :=
  let s := s.setVal (key idx sub) v
  (if Caller.isApplet c then s else s.appletPost 1 0 (key idx sub) v, some (Ans.done []))

/-- What a write does once it has passed the service's checks. -/
def State.writeEffect (s : State) (c : Caller) (r : ObjRow) (idx sub : Nat) (v : Bytes) : State × Option Ans :=
  let applet : Bool := 0x6000 ≤ idx && idx < 0x7000
  if r.isCommit then s.commitAt c idx
  else if r.commit ≠ 0 && r.acc = 4 then
    let s := (s.takeHold c (r.commitOf idx)).notCarried (r.commitOf idx)
    if applet then s.appletWrite c idx sub v else (s.setVal (key idx sub) v, some (Ans.done []))
  else if applet then s.appletWrite c idx sub v
  else if r.acc = 3 then s.command c idx sub v
  else s.applyWrite idx sub v

/-- The group whose hold a write meets at check 9. -/
def ObjRow.heldGroup (r : ObjRow) (idx : Nat) : Option Nat :=
  if r.isCommit then some idx else if r.commit ≠ 0 && r.acc = 4 then some (r.commitOf idx) else none

/-- Check 10: whether the write would store a persistent value. -/
def State.storesPersistent (s : State) (r : ObjRow) (idx sub : Nat) : Bool :=
  if r.isCommit then (s.groupKeys idx).any fun m => s.persists m.1 else r.pers

/-- LENGTH_MISMATCH, TOO_LARGE, VALUE_INVALID, VALUE_HIGH and VALUE_LOW: refusals of checks 7 and 8, also where a block's own rule
finds them. -/
def Ans.ofValue (a : Ans) : Bool := 0x05000006 ≤ a.abort && a.abort ≤ 0x0500000A

/-- A refusal that comes before an island's gasket: those of checks 7 and 8, and PRIVILEGE and STAGE_HELD of StageDiscard. -/
def Ans.early (a : Ans) : Bool := a.ofValue || a.abort = 0x05000005 || a.abort = 0x0500000B

/-- What an access that passed the service's checks comes to: its effect at the block, or what the block's gasket answers while its
island does not run (R57, R112). -/
def State.behind (s : State) (r : ObjRow) (e : State × Option Ans) : State × Option Ans :=
  match s.gasketOf r with
  | none => e
  | some g =>
    match e.2 with
    | some a => if a.early then e else (s, some g)
    | none => (s, some g)

/-- A whole write (R112): checks 2 to 10 by the service, then the block's gasket, then the block. -/
def State.writeOp (s : State) (c : Caller) (idx sub : Nat) (v : Bytes) : State × Option Ans :=
  match s.front c .write idx sub with
  | .error a => (s, some a)
  | .ok r =>
    match orElse (lengthCheck r v.length) (s.valueCheck r idx sub v) with
    | some a => (s, some a)
    | none =>
      let held : Bool := match r.heldGroup idx with
        | some g => s.heldByOther c g
        | none => false
      let e := s.writeEffect c r idx sub v
      if !r.isCommit && e.2.any Ans.ofValue then e
      else if held then (s, some Ans.stageHeld)
      else if s.settings.readOnly && s.storesPersistent r idx sub then (s, some Ans.readOnly)
      else if r.isCommit then (match s.gasketOf r with
        | none => e
        | some g => (s, some g))
      else s.behind r e

/-! ### Reads -/

/-- The most a READ carries (Table 3.7). -/
def readMax : Nat := 1348

/-- A read's checks, with the image a read of ConfigExport from offset 0 makes. -/
def State.readFront (s : State) (c : Caller) (idx sub off : Nat) : State × Option Ans :=
  match s.front c .read idx sub with
  | .error a => (s, some a)
  | .ok r =>
    match orElse (s.gasketOf r) (s.readRefusal idx) with
    | some a => (s, some a)
    | none => (if idx = 0x1230 && off = 0 then s.exportImage else s, none)

/-- The READ of Table 3.7. A USDO upload has no such limit. -/
def State.readOp (s : State) (c : Caller) (idx sub : Nat) (limited : Bool) : State × Option Ans :=
  match s.readFront c idx sub 0 with
  | (s, some a) => (s, some a)
  | (s, none) =>
    let v := s.readVal idx sub
    (s, some (if limited && readMax < v.length then Ans.tooLarge else { Ans.done v with total := v.length }))

/-- The BLOCK_READ of R133. -/
def State.blockReadOp (s : State) (c : Caller) (idx sub off max : Nat) : State × Option Ans :=
  match s.readFront c idx sub off with
  | (s, some a) => (s, some a)
  | (s, none) =>
    let v := s.readVal idx sub
    (s, some (if v.length < off then Ans.high else { Ans.done (slice v off max) with total := v.length }))

/-! ### Ports -/

/-- Whether an attempt of a buffer to be cancelled is in progress as a request arrives by a general row: free. -/
def State.canTxAny (s : State) (c : Caller) (req : Bytes) : State × Option Ans := s.draw.1.canTx c req (s.draw.2 % 2 = 1)

/-- A request reaches its port. -/
def State.portOp (s : State) (c : Caller) (idx sub : Nat) (req : Bytes) : State × Option Ans :=
  if 0x6000 ≤ idx && idx < 0x7000 then (s.appletAsk c 2 (key idx sub) req, none)
  else match idx with
  | 0x1114 => s.sealPort c req
  | 0x1410 => (s, some (s.logQuery req))
  | 0x2840 => s.canTxAny c req
  | 0x2C11 => s.radioSend c req
  | 0x2C12 => s.radioWaggle c req
  | 0x3640 => s.netPort req
  | 0x4020 => (s.combIntake c req, none)
  | 0x4050 => (s.neighbourPort c req, none)
  | 0x4862 => s.stopNotice req c
  | _ => (s, none)

/-- A whole TRANSACT: checks 2 to 7, then the port with its own checks 7 and 8, behind its gasket. -/
def State.transactWith (s : State) (c : Caller) (idx sub : Nat) (req : Bytes) (port : State → State × Option Ans) : State × Option Ans :=
  match s.front c .transact idx sub with
  | .error a => (s, some a)
  | .ok r =>
    match lengthCheck r req.length with
    | some a => (s, some a)
    | none => s.behind r (port s)

def State.transactOp (s : State) (c : Caller) (idx sub : Nat) (req : Bytes) : State × Option Ans :=
  s.transactWith c idx sub req fun s => s.portOp c idx sub req

/-! ### Block transfers (R133 to R136) -/

def Session.xferOf (x : Session) (k : Nat) : Option Xfer := x.xfers.find? fun f => f.key = k
def Session.dropXfer (x : Session) (k : Nat) : Session := { x with xfers := x.xfers.filter fun f => f.key ≠ k }

/-- Where a segment stands in its transfer: the bytes before it, or a refusal (R133). -/
def Session.place (x : Session) (opcode k off total len : Nat) : Except Ans Bytes :=
  let had : Except Ans Bytes :=
    if off = 0 then .ok []
    else match x.xferOf k with
    | none => .error Ans.order
    | some f => if f.opcode ≠ opcode || f.data.length ≠ off then .error Ans.order else if f.total ≠ total then .error Ans.length else .ok f.data
  match had with
  | .error a => .error a
  | .ok b => if total < off + len then .error Ans.length else .ok b

/-- Checks 2 to 7 of a segment, the total standing for the length; of UpdatePayload, R844's too. -/
def State.segmentCheck (s : State) (c : Caller) (opcode idx sub total : Nat) : Option Ans :=
  match s.front c (if opcode = 6 then .transact else .write) idx sub with
  | .error a => some a
  | .ok r => orElse (lengthCheck r total) (if idx = 0x1211 then s.payloadCheck (Editor.ofCaller c) total else none)

/-- A segment of a BLOCK_WRITE (opcode 4) or TRANSACT (opcode 6). -/
def State.segmentOp (s : State) (c : Caller) (opcode idx sub off total : Nat) (data : Bytes) : State × Option Ans :=
  match s.sessionOf c with
  | none => (s, none)
  | some x =>
    let k := key idx sub
    let s := s.onSession c fun x => x.dropXfer k
    match x.place opcode k off total data.length with
    | .error a => (s, some a)
    | .ok before =>
      match s.segmentCheck c opcode idx sub total with
      | some a => (if idx = 0x1211 && a = Ans.state 0x05120008 then s.updateSpoiled else s, some a)
      | none =>
        let whole := before ++ data
        if whole.length = total then (if opcode = 6 then s.transactOp c idx sub whole else s.writeOp c idx sub whole)
        else
          let f : Xfer := { opcode := opcode, key := k, total := total, data := whole, last := s.now }
          (s.onSession c fun x => { x with xfers := x.xfers ++ [f] }, some Ans.note)

/-- A partial transfer has had no segment for 10 s (R136). Session 0 is the applet partition. -/
def Session.abandon (x : Session) (k now : Nat) : Session := { x with xfers := x.xfers.filter fun f => !(f.key = k && f.last + 10 * sec ≤ now) }
def State.xferAbandon (s : State) (i k : Nat) : State :=
  let now := s.now
  if i = 0 then s.setApplet fun x => x.abandon k now else s.setSession i fun x => x.abandon k now

/-! ### Subscriptions (R139 to R142) -/

def Session.subOf (x : Session) (k : Nat) : Option Sub := x.subs.find? fun y => y.key = k
def Session.dropSub (x : Session) (k : Nat) : Session := { x with subs := x.subs.filter fun y => y.key ≠ k }

/-- Where the applet partition's NOTIFY records go: hart and reply queue of the SUBSCRIBE. -/
def State.subReply (s : State) (c : Caller) : Option (Nat × Nat) :=
  match c with
  | .applet h r => (s.fabric.reqs.find? fun q => q.hart = h && q.req = r && !q.comb).map fun q => (h, q.reply)
  | _ => none

/-- The SUBSCRIBE of Table 3.7. -/
def State.subscribeOp (s : State) (c : Caller) (idx sub param : Nat) : State × Option Ans :=
  let k := key idx sub
  let period := param % 65536
  let onch := bit param 16
  match s.sessionOf c with
  | none => (s, none)
  | some x =>
    if period = 0 && !onch then (s.onSession c fun x => x.dropSub k, some (Ans.done []))
    else if (x.subOf k).isNone && 64 ≤ x.subs.length then (s, some Ans.sessionLimit)
    else match s.front c .read idx sub with
    | .error a => (s, some a)
    | .ok r =>
      if period ≠ 0 && period < 10 then (s, some Ans.low)
      else match s.gasketOf r with
      | some a => (s, some a)
      | none =>
        let y : Sub := { key := k, req := Caller.req c, period := period, onChange := onch, count := 0, last := s.now, gen := s.genOf k,
                         readable := true, turns := s.turnsOf k, reply := s.subReply c }
        (s.onSession c fun x => let x := x.dropSub k; { x with subs := x.subs ++ [y] }, some (Ans.done []))

/-- Whether a subscription falls due, its object now at generation `gen` and having become readable or unreadable `turns` times (R140,
R141). -/
def Sub.due (y : Sub) (now gen turns : Nat) (ok : Bool) : Bool :=
  if y.onChange then (gen ≠ y.gen || turns ≠ y.turns || ok ≠ y.readable) && (y.count = 0 || y.last + max y.period 10 * ms ≤ now)
  else y.last + y.period * ms ≤ now

/-- A NOTIFY leaves, if it is due; of a value longer than 1,348 bytes it carries TOO_LARGE and no data, as a READ does (DESIGN CHOICE,
log entry 14). Session 0 is the applet partition, whose records go to its reply queue (R791). -/
def State.notifyDue (s : State) (i k : Nat) : State :=
  let s := s.countGens
  let x? := if i = 0 then some s.dict.applet else Tbl.get? s.dict.sessions i
  match x? with
  | none => s
  | some x =>
    match x.subOf k with
    | none => s
    | some y =>
      let c : Caller := if i = 0 then .applet ((y.reply.map Prod.fst).getD 0) y.req else .coil i y.req
      let a := ((s.readOp c (k / 256) (k % 256) true).2).getD Ans.absent
      if !s.up .compute || !y.due s.now (s.genOf k) (s.turnsOf k) a.ok then s
      else
        let f : InFlight := { req := y.req, opcode := 8, key := k, offset := 0 }
        let n := wrap 32 (y.count + 1)
        let rec_ := respRecord f { a with total := n } (s.genOf k)
        let y' := { y with count := n, last := s.now, gen := s.genOf k, readable := a.ok, turns := s.turnsOf k }
        let upd (x : Session) : Session := { x with subs := x.subs.map fun z => if z.key = k then y' else z }
        if i = 0 then
          let s := s.setApplet upd
          (match y.reply with
          | some (h, q) => { s with fabric := { s.fabric with replies := s.fabric.replies ++ [{ hart := h, reply := q, notify := none, data := rec_ }] } }
          | none => s)
        else s.setSession i fun x => let x := upd x; { x with outbox := x.outbox ++ [.built f false rec_] }

/-! ### Accesses (R112 check 1, R139, R143) -/

/-- The device listens for Coil (R115, R702). -/
def State.coilHears (s : State) : Bool := s.cfg 0x1030 0 = 1 && s.up .network && !s.boot.boant

/-- It listens, and the service runs. -/
def State.coilOn (s : State) : Bool := s.coilHears && s.up .compute

/-- What the gasket of the Compute island, where the service runs, answers for it (R57). -/
def State.serviceGasket (s : State) : Option Ans := (s.gasket .compute).map fun g => Ans.no g.1 g.2

/-- The kept response to the same request (R143), also one made for an earlier record of the same datagram. -/
def Session.keptFor (x : Session) (f : InFlight) : Option Bytes :=
  let same (req opcode key offset : Nat) : Bool := req = f.req && opcode = f.opcode && key = f.key && offset = f.offset
  let new := x.outbox.find? fun o => match o with
    | .built g true _ => same g.req g.opcode g.key g.offset
    | .built _ false _ => false
    | .resp _ _ _ => false
    | .again _ _ => false
  match new with
  | some o => some (o.build fun _ => 0)
  | none => (x.kept.find? fun k => same k.req k.opcode k.key k.offset).map Kept.resp

/-- A request of a session: answered again from the kept responses, dropped while its request_id is in flight, refused without a slot
(it counts for the editor's hold, R108, and a segment's partial transfer is abandoned, R134), or executed. -/
def State.inSession (s : State) (c : Caller) (x : Session) (f : InFlight) (body : State → State × Option Ans) : State :=
  match x.keptFor f with
  | some b => s.onSession c fun y => { y with outbox := y.outbox ++ [.again f.req b] }
  | none =>
    if x.flight.any fun g => g.req = f.req then s
    else if 32 ≤ x.flight.length then
      (s.seenBy c f.key).onSession c fun y => (if f.opcode = 4 || f.opcode = 6 then y.dropXfer f.key else y).reject f Ans.sessionLimit
    else
      let s := s.onSession c fun y => { y with flight := y.flight ++ [f] }
      State.answer? (body ((s.touch f.key).seenBy c f.key)) c

/-- An access that reaches the service: that of a session, in which this device is the server, counts as traffic of it (R129). -/
def State.served (s : State) (c : Caller) (f : InFlight) (body : State → State × Option Ans) : State :=
  match c with
  | .coil i _ =>
    (match Tbl.get? s.dict.sessions i with
    | some x =>
      if !s.coilHears || x.nbr.isSome then s
      else
        let now := s.now
        (s.setSession i fun y => { y with last := now }).inSession c x f body
    | none => s)
  | .applet _ _ => s.inSession c s.dict.applet f body
  | .usdo _ _ => State.answer? (body (s.seenBy c f.key)) c
  | .firmware => (body s).1

/-- An access that meets the gasket of the Compute island: its answer takes no operation slot and is kept nowhere. -/
def State.unserved (s : State) (c : Caller) (f : InFlight) (a : Ans) : State :=
  match c with
  | .coil i _ =>
    (match Tbl.get? s.dict.sessions i with
    | some x => if !s.coilHears || x.nbr.isSome then s else s.onSession c fun y => y.reject f a
    | none => s)
  | .applet _ _ => s.onSession c fun y => y.reject f a
  | .usdo _ _ => s.answer c a
  | .firmware => s

/-- An access, by whichever path it comes: it reaches the service, or the gasket before it answers (R57, Table 2.6). -/
def State.access (s : State) (c : Caller) (opcode k off : Nat) (body : State → State × Option Ans) : State :=
  let f : InFlight := { req := Caller.req c, opcode := opcode, key := k, offset := off }
  match s.serviceGasket with
  | some a => s.unserved c f a
  | none => s.served c f body

/-- A write of a whole value. -/
def State.writeBy (s : State) (c : Caller) (idx sub : Nat) (v : Bytes) : State :=
  s.access c 2 (key idx sub) 0 fun s => s.writeOp c idx sub v

/-- A whole request to a port. -/
def State.transactBy (s : State) (c : Caller) (idx : Nat) (req : Bytes) : State :=
  s.access c 6 (key idx 0) 0 fun s => s.transactOp c idx 0 req

/-! ### Request records (Table 3.5, R132, R950) -/

/-- A request record. -/
structure Rec where
  opcode : Nat
  flags  : Nat
  req    : Nat
  idx    : Nat
  sub    : Nat
  res    : Nat
  offset : Nat
  param  : Nat
  data   : Bytes
  deriving DecidableEq, Repr, Inhabited

/-- A record of bytes: its 20-byte header with the data that follows. -/
def Rec.of (b : Bytes) : Rec :=
  { opcode := u b 0 1, flags := u b 1 1, req := u b 2 2, idx := u b 4 2, sub := u b 6 1, res := u b 7 1 + u b 18 2, offset := u b 8 4,
    param := u b 12 4, data := slice b 20 (u b 16 2) }

/-- R950. -/
def Rec.malformed (q : Rec) : Bool :=
  let n := q.data.length
  q.flags ≠ 0 || q.res ≠ 0 || q.opcode = 0 || 7 < q.opcode || readMax < n
    || (q.offset ≠ 0 && q.opcode ≠ 3 && q.opcode ≠ 4 && q.opcode ≠ 6)
    || ((q.opcode = 1 || q.opcode = 2) && q.param ≠ 0)
    || (q.opcode = 3 && (q.param = 0 || readMax < q.param))
    || (q.opcode = 5 && q.param ≠ 1 && q.param ≠ 2)
    || (q.opcode = 7 && 2 ^ 17 ≤ q.param)
    || (n ≠ 0 && (q.opcode = 1 || q.opcode = 3 || q.opcode = 5 || q.opcode = 7))

/-- A COMMIT record (R102, R109). -/
def State.commitRec (s : State) (c : Caller) (idx sub param : Nat) : State × Option Ans :=
  match s.front c .commit idx sub with
  | .error a => (s, some a)
  | .ok r => if param = 1 then s.commitOp c r idx else s.discardOp c r idx

/-- R950 on an ANSWER of the applet's local dictionary port: byte 1 holds the outcome and param the token (R795), so that its reserved
bytes are 7 and 18 to 19, its offset is zero, and its token is 16 bits wide; an outcome that Table 2.5 does not issue to a request is an
undefined encoding (R61). -/
def Rec.badAnswer (q : Rec) : Bool :=
  q.res ≠ 0 || q.offset ≠ 0 || readMax < q.data.length || 65535 < q.param || reservedOutcome q.flags

/-- What a well-formed record asks. -/
def State.recOp (s : State) (c : Caller) (q : Rec) : State × Option Ans :=
  match q.opcode with
  | 1 => s.readOp c q.idx q.sub true
  | 2 => s.writeOp c q.idx q.sub q.data
  | 3 => s.blockReadOp c q.idx q.sub q.offset q.param
  | 4 => s.segmentOp c 4 q.idx q.sub q.offset q.param q.data
  | 5 => s.commitRec c q.idx q.sub q.param
  | 6 => s.segmentOp c 6 q.idx q.sub q.offset q.param q.data
  | 7 => s.subscribeOp c q.idx q.sub q.param
  | _ => (s, none)

/-- A malformed record is answered VALUE_INVALID without a slot (R950). -/
def State.refuseRec (s : State) (c : Caller) (q : Rec) : State :=
  if (s.coilHears || Caller.isApplet c) && s.up .compute then
    s.onSession c fun x => x.reject { req := q.req, opcode := q.opcode, key := key q.idx q.sub, offset := q.offset } Ans.invalid
  else s

/-- A record of a session is answered, unless it is malformed. -/
def State.record (s : State) (c : Caller) (q : Rec) : State :=
  if q.malformed then s.refuseRec c q
  else s.access c q.opcode (key q.idx q.sub) q.offset fun s => s.recOp c q

end Sys2Proof.Machine
end

