-- ==== Sys2Proof/Machine/BaseCmds.lean ====
section
/-!
DEFINITION. The commands of the Fixer as base and as rover solver (09_fixer_base_corrections.md, 10_fixer_rover_solving.md).
-/

namespace Sys2Proof.Machine

/-- R427. -/
def execBaseEpoch (t : Nat) (tick : BaseTick) (s : State) : Host.Outcome State Fault Refusal :=
  .next (s.run t fun s => s.baseEpoch tick.nominal tick.sky)

/-- R413. -/
def execBaseCommit (t : Nat) (c : Caller) (s : State) : Host.Outcome State Fault Refusal :=
  .next (s.run t fun s => s.writeBy c 0x3600 0 [1])

/-- R414. -/
def execSurveyStartStandalone (t : Nat) (c : Caller) (s : State) : Host.Outcome State Fault Refusal :=
  .next (s.run t fun s => s.writeBy c 0x3620 0 [1])

/-- R414. -/
def execSurveyStartNetwork (t : Nat) (c : Caller) (s : State) : Host.Outcome State Fault Refusal :=
  .next (s.run t fun s => s.writeBy c 0x3620 0 [2])

/-- R414. -/
def execSurveyAbandon (t : Nat) (c : Caller) (s : State) : Host.Outcome State Fault Refusal :=
  .next (s.run t fun s => s.writeBy c 0x3620 0 [0])

/-- R440. -/
def execBaseNetPort (t : Nat) (c : Caller) (req : Bytes) (s : State) : Host.Outcome State Fault Refusal :=
  .next (s.run t fun s => s.transactBy c 0x3640 req)

/-- R454. -/
def execRoverObsArrival (t : Nat) (pkt : Bytes) (s : State) : Host.Outcome State Fault Refusal :=
  .next (s.run t fun s => s.obsArrival pkt)

/-- R458. -/
def execRoverEpochStart (t : Nat) (s : State) : Host.Outcome State Fault Refusal :=
  .next (s.run t fun s => s.roverStart)

/-- R469. -/
def execRoverEpochDone (t slot : Nat) (sky : List SatEph) (s : State) : Host.Outcome State Fault Refusal :=
  .next (s.run t fun s => s.roverDone slot sky)

/-- R467. -/
def execRoverReset (t : Nat) (c : Caller) (slot : Nat) (s : State) : Host.Outcome State Fault Refusal :=
  .next (s.run t fun s => if slot < 1024 then s.writeBy c (0x7000 + slot) 0x32 [1] else s)

end Sys2Proof.Machine
end

