-- ==== Sys2Proof/Machine/BootCmds.lean ====
section
/-!
DEFINITION. The commands of boot, update and recovery (18_boot_update_recovery.md).
-/

namespace Sys2Proof.Machine

/-- Carried group commits refused with outcome 0x12 are tried again every 10 s (R861). -/
def State.retryCarried (s : State) : State :=
  (s.settings.carried.filter fun x => x.2 + 10 * sec ≤ s.now).foldl (fun (s : State) x => s.tryCarried x.1) s

/-- R842. -/
def execUpdateHeader (t : Nat) (c : Caller) (v : Bytes) (s : State) : Host.Outcome State Fault Refusal :=
  .next (s.run t fun s => s.writeBy c 0x1210 0 v)

/-- R844: a BLOCK_WRITE segment of UpdatePayload. -/
def execUpdatePayload (t sid req off total : Nat) (data : FlashData) (s : State) : Host.Outcome State Fault Refusal :=
  .next (s.run t fun s => s.withFlash { fails := !data.flashOk, worn := 0 } fun s => s.record (.coil sid req)
    { opcode := 4, flags := 0, req := req, idx := 0x1211, sub := 0, res := 0, offset := off, param := total, data := data.bytes })

/-- R845. -/
def execUpdateActivate (t : Nat) (c : Caller) (s : State) : Host.Outcome State Fault Refusal :=
  .next (s.run t fun s => s.writeBy c 0x1213 0 [1])

/-- R846. -/
def execUpdateConfirm (t : Nat) (c : Caller) (s : State) : Host.Outcome State Fault Refusal :=
  .next (s.run t fun s => s.writeBy c 0x1214 0 [1])

/-- R848. -/
def execUpdateReject (t : Nat) (c : Caller) (s : State) : Host.Outcome State Fault Refusal :=
  .next (s.run t fun s => s.writeBy c 0x1214 0 [2])

/-- R848. -/
def execTrialTimeout (t : Nat) (s : State) : Host.Outcome State Fault Refusal :=
  .next (s.run t fun s => s.trialExpires)

/-- R856. -/
def execSettingsReset (t : Nat) (ask : WornAsk) (s : State) : Host.Outcome State Fault Refusal :=
  .next (s.run t fun s => s.withFlash { fails := false, worn := ask.worn } fun s => s.writeBy ask.caller 0x1222 0 [1])

/-- R858: a BLOCK_READ of ConfigExport. -/
def execConfigExport (t sid req off max : Nat) (s : State) : Host.Outcome State Fault Refusal :=
  .next (s.run t fun s => s.record (.coil sid req)
    { opcode := 3, flags := 0, req := req, idx := 0x1230, sub := 0, res := 0, offset := off, param := max, data := [] })

/-- R860. -/
def execConfigImport (t : Nat) (ask : WornAsk) (v : Bytes) (s : State) : Host.Outcome State Fault Refusal :=
  .next (s.run t fun s => s.withFlash { fails := false, worn := ask.worn } fun s => s.writeBy ask.caller 0x1231 0 v)

/-- R861. -/
def execConfigCommitRetry (t : Nat) (s : State) : Host.Outcome State Fault Refusal :=
  .next (s.run t fun s => s.retryCarried)

/-- R862. -/
def execBoantEnter (t : Nat) (c : Caller) (s : State) : Host.Outcome State Fault Refusal :=
  .next (s.run t fun s => s.writeBy c 0x1240 0 [1])

/-- R863. -/
def execBoantInfo (t port : Nat) (msg : Bytes) (s : State) : Host.Outcome State Fault Refusal :=
  .next (s.run t fun s => s.boantInfo port msg)

/-- R863. -/
def execBoantHeader (t port : Nat) (msg : Bytes) (s : State) : Host.Outcome State Fault Refusal :=
  .next (s.run t fun s => s.boantHeader port msg)

/-- R863. -/
def execBoantData (t port : Nat) (msg : Bytes) (s : State) : Host.Outcome State Fault Refusal :=
  .next (s.run t fun s => s.boantPayload port msg)

/-- R864. -/
def execBoantFinish (t port : Nat) (msg : Bytes) (s : State) : Host.Outcome State Fault Refusal :=
  .next (s.run t fun s => s.boantFinishOp port msg)

/-- R863. -/
def execBoantReset (t port : Nat) (msg : Bytes) (s : State) : Host.Outcome State Fault Refusal :=
  .next (s.run t fun s => s.boantResetOp port msg)

end Sys2Proof.Machine
end

