-- ==== Sys2Proof/Machine/CanCmds.lean ====
section
/-!
DEFINITION. The commands of the CAN ports (15_can_ports.md).
-/

namespace Sys2Proof.Machine

/-- A request to CanTxPort with what is known of the attempt in progress (R729). -/
def State.transactCancel (s : State) (c : Caller) (req : Bytes) (trying : Bool) : State :=
  s.access c 6 (key 0x2840 0) 0 fun s => s.transactWith c 0x2840 0 req fun s => s.canTx c req trying

/-- R716. -/
def execCanFrameReceived (t port sof : Nat) (frame : CanFrame) (s : State) : Host.Outcome State Fault Refusal :=
  .next (s.run t fun s => s.canFrameIn port sof frame)

/-- R727. -/
def execCanSend (t : Nat) (c : Caller) (req : Bytes) (s : State) : Host.Outcome State Fault Refusal :=
  .next (s.run t fun s => s.transactBy c 0x2840 req)

/-- R729. -/
def execCanCancel (t : Nat) (c : Caller) (req : Bytes) (trying : Bool) (s : State) : Host.Outcome State Fault Refusal :=
  .next (s.run t fun s => s.transactCancel c req trying)

/-- R730. -/
def execCanAttemptEnd (t port buf sof : Nat) (outcome : CanAttempt) (s : State) : Host.Outcome State Fault Refusal :=
  .next (s.run t fun s => s.attemptEnd port buf sof outcome)

/-- R732. -/
def execCanRecover (t : Nat) (c : Caller) (port : Nat) (s : State) : Host.Outcome State Fault Refusal :=
  .next (s.run t fun s => if port < 8 then s.writeBy c (0x2820 + port) 0x0B [1] else s)

/-- R732. -/
def execCanBusOffRecovered (t port : Nat) (s : State) : Host.Outcome State Fault Refusal :=
  .next (s.run t fun s => s.canRecovered port)

/-- R713. -/
def execCanIntegrationDone (t port : Nat) (s : State) : Host.Outcome State Fault Refusal :=
  .next (s.run t fun s => s.canIntegrated port)

/-- R713. -/
def execCanPortCommit (t : Nat) (c : Caller) (port : Nat) (s : State) : Host.Outcome State Fault Refusal :=
  .next (s.run t fun s => if port < 8 then s.writeBy c (0x2820 + port) 0 [1] else s)

/-- R734. -/
def execCanTmCommit (t : Nat) (c : Caller) (s : State) : Host.Outcome State Fault Refusal :=
  .next (s.run t fun s => s.writeBy c 0x2830 0 [1])

/-- R736. -/
def execCanTmBoundary (t : Nat) (s : State) : Host.Outcome State Fault Refusal :=
  .next (s.run t fun s => s.tmBoundary)

/-- R739. -/
def execCanSleep (t : Nat) (c : Caller) (port : Nat) (s : State) : Host.Outcome State Fault Refusal :=
  .next (s.run t fun s => if port < 8 then s.writeBy c (0x2820 + port) 8 [1] else s)

/-- R740. -/
def execCanSleepEntry (t port : Nat) (s : State) : Host.Outcome State Fault Refusal :=
  .next (s.run t fun s => s.canSleepIn port)

/-- R744. -/
def execCanWakeWrite (t : Nat) (c : Caller) (port : Nat) (s : State) : Host.Outcome State Fault Refusal :=
  .next (s.run t fun s => if port < 8 then s.writeBy c (0x2820 + port) 8 [0] else s)

/-- R742. -/
def execCanWakeEdge (t port width : Nat) (s : State) : Host.Outcome State Fault Refusal :=
  .next (s.run t fun s => s.canEdge port width)

/-- R721. -/
def execCanBufferAck (t : Nat) (c : Caller) (port buf seq : Nat) (s : State) : Host.Outcome State Fault Refusal :=
  .next (s.run t fun s => if port < 8 then s.writeBy c (0x2980 + port) (buf + 1) (leBytes 2 seq) else s)

/-- R724. -/
def execCanFifoPost (t port fifo : Nat) (s : State) : Host.Outcome State Fault Refusal :=
  .next (s.run t fun s => s.fifoPost port fifo)

/-- R731. -/
def execCanErrorFrame (t port : Nat) (s : State) : Host.Outcome State Fault Refusal :=
  .next (s.run t fun s => s.canRxError port)

end Sys2Proof.Machine
end

