-- ==== Sys2Proof/Machine/Coil.lean ====
section
/-!
DEFINITION. Coil datagrams: opening a session either way, sealed datagrams, records, closing and idling; and the applet's request
windows (03_object_dictionary.md R115 to R132; 06_comb_concurrency_handover.md R293; 16_dispatcher_queues_applets.md R788 to R791).
-/

namespace Sys2Proof.Machine

/-! ### Keys of a session (R122 to R124) -/

/-- The 88 derived bytes. -/
def coilKeys (psk hostNonce devNonce : Bytes) (sid slot priv : Nat) : Bytes :=
  Sha.hkdf psk (hostNonce ++ devNonce) (ascii "coil1" ++ leBytes 4 sid ++ leBytes 2 slot ++ [byte priv]) 88
def hostKey (d : Bytes) : Bytes := d.take 32
def devKey (d : Bytes) : Bytes := slice d 32 32
def hostIv (d : Bytes) : Bytes := slice d 64 12
def devIv (d : Bytes) : Bytes := slice d 76 12
/-- Bytes 0 to 55 of an ACCEPT (R121). -/
def acceptHead (sid slot priv controller : Nat) (nonce : Bytes) : Bytes :=
  [1, 2, 0, 0] ++ leBytes 4 sid ++ zeros 8 ++ leBytes 2 slot ++ [byte priv, 0] ++ leBytes 2 controller ++ zeros 2 ++ nonce
/-- The confirm field of an ACCEPT. -/
def acceptConfirm (d head : Bytes) : Bytes := fit 16 (Config.gcmTag (devKey d) (devIv d) head [])

/-! ### Opening (R118 to R121) -/

/-- A header of the type, with reserved fields zero; HELLO and ACCEPT carry seq 0 (Table 3.4). -/
def openHeader (raw : Bytes) (type : Nat) : Bool := u raw 1 1 = type && u raw 2 2 = 0 && u raw 8 8 = 0

/-- Sessions in which this device is the server (R293). -/
def State.hostSessions (s : State) : Nat := s.dict.sessions.countP fun e => e.2.nbr.isNone

/-- The conditions of R119 on a HELLO. -/
def State.helloOk (s : State) (raw : Bytes) : Bool :=
  openHeader raw 1 && raw.length = 52 && u raw 4 4 = 0 && u raw 19 1 = 0 && s.up .security
    && (s.keyFor (u raw 16 2) 1).isSome && s.hostSessions < s.cfg 0x1031 0

/-- A session identifier not in use and not zero, at or after `n`. -/
def State.freeSid (s : State) : Nat → Nat → Nat
  | 0, n => n
  | fuel + 1, n => let m := max 1 (wrap 32 n); if Tbl.has s.dict.sessions m then s.freeSid fuel (m + 1) else m

/-- A HELLO (R119, R120): an ACCEPT and a session, or EV_COIL_REFUSED. -/
def State.hello (s : State) (raw : Bytes) : State :=
  if !s.coilOn || u raw 0 1 ≠ 1 || 1400 < raw.length then s
  else if !s.helloOk raw then
    ({ s with dict := { s.dict with refused := wrap 32 (s.dict.refused + 1) } } : State).logEv .coilRefused []
  else
    let slot := u raw 16 2
    let x := s.keySlot slot
    let priv := min (u raw 18 1) x.ceiling
    let a := s.draw
    let sid := a.1.freeSid 32 a.2
    let b := a.1.drawBytes 32
    let s := b.1
    let d := coilKeys x.material (slice raw 20 32) b.2 sid slot priv
    let head := acceptHead sid slot priv s.controllerId b.2
    let y := { Session.fresh slot x.gen priv s.now with sid := sid, keyIn := hostKey d, keyOut := devKey d, ivIn := hostIv d, ivOut := devIv d }
    let s : State := { s with dict := { s.dict with sessions := Tbl.put s.dict.sessions sid y } }
    s.emit (.accept (head ++ acceptConfirm d head))

/-- A neighbour's ACCEPT of the HELLO last sent to it (R293): checked as R124 asks of a host. The session is kept under 2³² plus the
neighbour's index. -/
def State.nbrOpen (s : State) (n : Nat) (raw : Bytes) : State :=
  let slot := u (s.nbrEntry n) 2 2
  let x := s.keySlot slot
  let sid := u raw 4 4
  let priv := u raw 18 1
  let nonce := (s.nbr n).nonce
  let d := coilKeys x.material nonce (slice raw 24 32) sid slot priv
  let form : Bool := u raw 0 1 = 1 && openHeader raw 2 && raw.length = 72 && sid ≠ 0 && u raw 16 2 = slot && u raw 19 1 = 0 && u raw 22 2 = 0
  let held : Bool := s.nbrPresent n && (s.keyFor slot 1).isSome && s.up .security && s.up .network && s.up .compute && !s.boot.boant
  if nonce ≠ [] && form && held && priv ≤ 2 && u raw 20 2 = s.nbrId n && slice raw 56 16 = acceptConfirm d (raw.take 56) then
    let i := 2 ^ 32 + n
    let s := s.endSession i
    let y :=
      { Session.fresh slot x.gen priv s.now with
        sid := sid, keyIn := devKey d, keyOut := hostKey d, ivIn := devIv d, ivOut := hostIv d, nbr := some n }
    let s : State := { s with dict := { s.dict with sessions := Tbl.put s.dict.sessions i y } }
    let s := s.setNbr n fun z => { z with session := some i, nonce := [] }
    if (s.nbr n).st = .syncing && !(s.nbr n).asked && s.up .comb then s.sendSync n else s
  else s

/-! ### Sealed datagrams (R125 to R127) -/

/-- The replay window after seq q. -/
def Session.accepted (x : Session) (q now : Nat) : Session :=
  let high := max x.rxHigh q
  { x with rxHigh := high, rxSeen := (q :: x.rxSeen).filter (fun r => high < r + 64), last := now }

/-- A sealed datagram belongs to a session: it names it, its tag verifies under the session's key, nonce and header (R125), and its seq
passes R127. -/
def Session.opens (x : Session) (hdr : Bytes) (body : Sealed) : Bool :=
  let q := u hdr 8 8
  x.sid = u hdr 4 4 && body.intact && body.key = x.keyIn && body.nonce = coilNonce x.ivIn q && body.aad = hdr
    && 1 ≤ q && !x.rxSeen.contains q && x.rxHigh < q + 64

/-- The session that a sealed datagram of a type with a right header belongs to. -/
def State.opened (s : State) (hdr : Bytes) (body : Sealed) (type : Nat) : Option Nat :=
  if s.coilHears && hdr.length = 16 && u hdr 0 1 = 1 && u hdr 1 1 = type && u hdr 2 2 = 0 && 32 + body.plain.length ≤ 1400 then
    (s.dict.sessions.find? fun e => e.2.opens hdr body).map Prod.fst
  else none

/-- The records of a plaintext, in order; a record that runs past the end ends the reading (R950). -/
def records : Nat → Bytes → List Rec
  | 0, _ => []
  | n + 1, b =>
    let len := u b 16 2
    if b.length < 20 + len then []
    else Rec.of b :: records n (b.drop (20 + (len + 3) / 4 * 4))

/-- Whether this device is the host of a session (R293). -/
def State.hostOf (s : State) (i : Nat) : Bool :=
  match Tbl.get? s.dict.sessions i with
  | some x => x.nbr.isSome
  | none => false

/-- A DATA datagram (R127, R128). One of a session that this device opened carries answers to its own messages, which the rows of
chapter 6 bring. -/
def State.coilDatagram (s : State) (hdr : Bytes) (body : Sealed) : State :=
  match s.opened hdr body 3 with
  | none => s
  | some i =>
    let now := s.now
    let s := s.setSession i fun x => x.accepted (u hdr 8 8) now
    if s.hostOf i then s
    else (records (body.plain.length / 20 + 1) body.plain).foldl (fun (s : State) q => (s.record (.coil i q.req) q).stamp) s

/-- A CLOSE from the far end (R130): a host's is answered by one; the session ends. -/
def State.coilClosed (s : State) (hdr : Bytes) (body : Sealed) : State :=
  match s.opened hdr body 4 with
  | none => s
  | some i => if body.plain ≠ [] then s else if s.hostOf i then s.endSession i else (s.sendClose i).endSession i

/-- CoilIdleTimeout (R129, R130), whether or not the listener is on. -/
def State.coilIdle (s : State) (i : Nat) : State :=
  match Tbl.get? s.dict.sessions i with
  | none => s
  | some x => if s.up .compute && x.nbr.isNone && x.last + s.cfg 0x1032 0 * sec ≤ s.now then (s.sendClose i).endSession i else s

/-- StageHoldTimeout (R108). -/
def State.holdTimeout (s : State) (g : Nat) : State :=
  match s.holdOf g with
  | none => s
  | some h => if s.up .compute && h.last + s.cfg 0x1022 0 * sec ≤ s.now then s.dropHold g else s

/-! ### Request windows (R788 to R791) -/

/-- Whether SUBMIT finds its target full (R789). -/
def State.submitFull (s : State) (hart : Nat) (comb : Bool) (req : Bytes) : Bool :=
  (comb && 64 ≤ (s.comb.intake.getD (Creq.of req).intake []).length) || (!comb && 32 ≤ s.dict.applet.flight.length)
    || 4 ≤ s.fabric.replies.countP fun r => r.hart = hart

/-- A window with its registers written (Table 16.8): the staged request and the REPLY value. -/
def ReqWindow.written (req : Bytes) (reply : Nat) : ReqWindow := { stage := req, len := req.length, word := reply }

/-- The reply queue and the notify descriptor may be used by the applet, and REPLY has no other bit set. -/
def State.replyAllowed (s : State) (w : ReqWindow) : Bool :=
  bits w.word 10 6 = 0 && w.word < 2 ^ 33 && qReaderApplet (s.queueCfg w.reply) && (!w.notifyOn || s.fabric.isApplet w.notify)

/-- A number for a Comb request of a window that no other of them has. -/
def Fabric.combId (f : Fabric) : Nat := 1 + (f.reqs.filter AppletReq.comb).foldl (fun m q => max m q.req) 0

/-- The outcome SUBMIT returns, and whether it takes the request (R789). -/
def State.submitOutcome (s : State) (hart : Nat) (comb : Bool) (req : Bytes) (reply : Nat) : Nat × Bool :=
  let w := ReqWindow.written req reply
  match s.fabricOut with
  | some o => (o, false)
  | none =>
    match s.gasket (if comb then .comb else .compute) with
    | some g => (g.1, false)
    | none =>
      if !s.replyAllowed w then (0x3C, false)
      else if s.submitFull hart comb req then (2 ^ 63, false)
      else (0, true)

/-- An ANSWER record of the dictionary window: the outcome stands in byte 1, the token in param (R795). -/
def State.answerRec (s : State) (c : Caller) (q : Rec) : State :=
  s.access c 10 (key q.idx q.sub) q.offset fun s => (s.appletAnswer q.param q.flags q.data, some (Ans.done []))

/-- An ANSWER record: a malformed one is answered as any malformed request is (R950). -/
def State.takeAnswer (s : State) (c : Caller) (q : Rec) : State := if q.badAnswer then s.refuseRec c q else s.answerRec c q

/-- A taken dictionary request (R791, R950). -/
def State.windowRecord (s : State) (c : Caller) (req : Bytes) : State :=
  let q := Rec.of req
  if req.length < 20 + u req 16 2 then s.refuseRec c q
  else if q.opcode = 10 then s.takeAnswer c q
  else s.record c q

/-- SUBMIT of an applet hart: the staged request goes to the Comb or to the dictionary (R788, R789). -/
def State.windowSubmit (s : State) (hart : Nat) (comb : Bool) (req : Bytes) (reply : Nat) : State :=
  if !(8 ≤ hart && hart < 16) then s
  else
    let w := ReqWindow.written req reply
    let o := s.submitOutcome hart comb req reply
    let f := s.fabric.setHart hart fun h => if comb then { h with combWin := w } else { h with dictWin := w }
    let id := if comb then f.combId else u req 2 2
    let q : AppletReq := { hart := hart, req := id, comb := comb, reply := w.reply, notify := if w.notifyOn then some w.notify else none }
    let s : State := ({ s with fabric := f } : State).emit (.hart hart o.1)
    if !o.2 then s
    else
      let s : State := { s with fabric := { s.fabric with reqs := s.fabric.reqs ++ [q] } }
      if comb then s.combIntake (.applet hart id) req else s.windowRecord (.applet hart id) req

end Sys2Proof.Machine
end

