-- ==== Sys2Proof/Machine/CombCmds.lean ====
section
/-!
DEFINITION. The commands of the Comb and of its neighbours (04_site_frame_cells_time.md, 05_comb_claims.md, 06_comb_concurrency_handover.md).
-/

namespace Sys2Proof.Machine

/-- R190. -/
def execSiteCommit (t : Nat) (c : Caller) (s : State) : Host.Outcome State Fault Refusal :=
  .next (s.run t fun s => s.writeBy c 0x4000 0 [1])

/-- R183. -/
def execCombEpochAge (t : Nat) (s : State) : Host.Outcome State Fault Refusal :=
  .next (s.run t fun s => s.epochAge)

/-- R255, R254. -/
def execCombIntake (t : Nat) (c : Caller) (req : Bytes) (s : State) : Host.Outcome State Fault Refusal :=
  .next (s.run t fun s => s.transactBy c 0x4020 req)

/-- R256, R257. -/
def execCombAccept (t : Nat) (s : State) : Host.Outcome State Fault Refusal :=
  .next (s.run t fun s => if s.up .comb then s.acceptNext else s)

/-- R221. -/
def execClaim (t seq : Nat) (s : State) : Host.Outcome State Fault Refusal :=
  .next (s.run t fun s => s.judgeRow 1 seq)

/-- R228. -/
def execProbe (t seq : Nat) (s : State) : Host.Outcome State Fault Refusal :=
  .next (s.run t fun s => s.judgeRow 2 seq)

/-- R231. -/
def execAmend (t seq : Nat) (s : State) : Host.Outcome State Fault Refusal :=
  .next (s.run t fun s => s.judgeRow 3 seq)

/-- R233. -/
def execRelease (t seq : Nat) (s : State) : Host.Outcome State Fault Refusal :=
  .next (s.run t fun s => s.judgeRow 4 seq)

/-- R236. -/
def execArea (t seq : Nat) (s : State) : Host.Outcome State Fault Refusal :=
  .next (s.run t fun s => s.judgeRow 5 seq)

/-- R230. -/
def execQuery (t seq : Nat) (s : State) : Host.Outcome State Fault Refusal :=
  .next (s.run t fun s => s.judgeRow 6 seq)

/-- R264. -/
def execCombWaitResume (t seq : Nat) (s : State) : Host.Outcome State Fault Refusal :=
  .next (s.run t fun s => s.resume seq)

/-- R242, R244. -/
def execCombTrim (t seq : Nat) (s : State) : Host.Outcome State Fault Refusal :=
  .next (s.run t fun s => s.trimRow seq)

/-- R240. -/
def execCombSweep (t bucket : Nat) (s : State) : Host.Outcome State Fault Refusal :=
  .next (s.run t fun s => s.sweep bucket)

/-- R311. -/
def execCombBlocked (t bucket slot : Nat) (s : State) : Host.Outcome State Fault Refusal :=
  .next (s.run t fun s => s.blockSlot bucket slot)

/-- R313. -/
def execCombBlockExpiry (t bucket slot : Nat) (s : State) : Host.Outcome State Fault Refusal :=
  .next (s.run t fun s => s.blockExpire bucket slot)

/-- R314. -/
def execCombClearBlocked (t : Nat) (c : Caller) (s : State) : Host.Outcome State Fault Refusal :=
  .next (s.run t fun s => s.writeBy c 0x4035 0 [1])

/-- R316. -/
def execCombRetire (t group : Nat) (s : State) : Host.Outcome State Fault Refusal :=
  .next (s.run t fun s => s.retireDone group)

/-- R273. -/
def execRegionCommit (t : Nat) (c : Caller) (s : State) : Host.Outcome State Fault Refusal :=
  .next (s.run t fun s => s.writeBy c 0x4040 0 [1])

/-- R280. -/
def execPrepare (t : Nat) (c : Caller) (msg : Bytes) (s : State) : Host.Outcome State Fault Refusal :=
  .next (s.run t fun s => s.transactBy c 0x4050 msg)

/-- R281. -/
def execPrepareAnswer (t n exch : Nat) (resp : Bytes) (s : State) : Host.Outcome State Fault Refusal :=
  .next (s.run t fun s => s.prepareAnswer n exch resp)

/-- R282. -/
def execPrepareTimeout (t exch : Nat) (s : State) : Host.Outcome State Fault Refusal :=
  .next (s.run t fun s => s.prepareTimeout exch)

/-- R283. -/
def execCommitAbortRepeat (t n exch : Nat) (s : State) : Host.Outcome State Fault Refusal :=
  .next (s.run t fun s => s.repeatPhase n exch)

/-- R284. -/
def execRegionCommitMessage (t : Nat) (c : Caller) (msg : Bytes) (s : State) : Host.Outcome State Fault Refusal :=
  .next (s.run t fun s => s.transactBy c 0x4050 msg)

/-- R285, R287. -/
def execRegionAbort (t : Nat) (c : Caller) (msg : Bytes) (s : State) : Host.Outcome State Fault Refusal :=
  .next (s.run t fun s => s.transactBy c 0x4050 msg)

/-- R286. -/
def execCombPresumed (t n exch : Nat) (s : State) : Host.Outcome State Fault Refusal :=
  .next (s.run t fun s => s.presume n exch)

/-- R288. -/
def execShorten (t : Nat) (c : Caller) (msg : Bytes) (s : State) : Host.Outcome State Fault Refusal :=
  .next (s.run t fun s => s.transactBy c 0x4050 msg)

/-- R306. -/
def execSync (t : Nat) (c : Caller) (msg : Bytes) (s : State) : Host.Outcome State Fault Refusal :=
  .next (s.run t fun s => s.transactBy c 0x4050 msg)

/-- R308. -/
def execSyncAnswer (t n : Nat) (s : State) : Host.Outcome State Fault Refusal :=
  .next (s.run t fun s => s.syncAnswered n)

/-- R298. -/
def execHeartbeatSend (t : Nat) (s : State) : Host.Outcome State Fault Refusal :=
  .next (s.run t fun s => s.sendHeartbeats)

/-- R299. -/
def execRegionHeartbeat (t : Nat) (c : Caller) (msg : Bytes) (s : State) : Host.Outcome State Fault Refusal :=
  .next (s.run t fun s => s.transactBy c 0x4050 msg)

/-- R301. -/
def execNeighbourLost (t n : Nat) (s : State) : Host.Outcome State Fault Refusal :=
  .next (s.run t fun s => s.loseNeighbour n)

/-- R293. -/
def execNeighbourSessionOpen (t n : Nat) (accept : Bytes) (s : State) : Host.Outcome State Fault Refusal :=
  .next (s.run t fun s => s.nbrOpen n accept)

/-- R283, R542. -/
def execNeighbourAnswer (t n exch : Nat) (s : State) : Host.Outcome State Fault Refusal :=
  .next (s.run t fun s => s.nbrAnswered n exch)

end Sys2Proof.Machine
end

