-- ==== Sys2Proof/Machine/ConfCmds.lean ====
section
/-!
DEFINITION. The commands of the Conformance monitor and of the Stop Bath (11_conformance_stop_bath.md).
-/

namespace Sys2Proof.Machine

/-- R496. -/
def execConfFix (t slot : Nat) (s : State) : Host.Outcome State Fault Refusal :=
  .next (s.run t fun s => s.confRow slot 0)

/-- R496. -/
def execConfReported (t slot : Nat) (s : State) : Host.Outcome State Fault Refusal :=
  .next (s.run t fun s => s.confRow slot 1)

/-- R500. -/
def execConfDeveloped (t slot : Nat) (s : State) : Host.Outcome State Fault Refusal :=
  .next (s.run t fun s => s.confRow slot 2)

/-- R506. -/
def execConfResultNotice (t slot : Nat) (s : State) : Host.Outcome State Fault Refusal :=
  .next (s.run t fun s => s.confRow slot 4)

/-- R502. -/
def execConfFreshnessTick (t : Nat) (s : State) : Host.Outcome State Fault Refusal :=
  .next (s.run t fun s => s.freshTick)

/-- R510. -/
def execConfDeviceTick (t : Nat) (s : State) : Host.Outcome State Fault Refusal :=
  .next (s.run t fun s => s.deviceTick (s.base.st = 2))

/-- R513. -/
def execPolicyCommit (t : Nat) (c : Caller) (s : State) : Host.Outcome State Fault Refusal :=
  .next (s.run t fun s => s.writeBy c 0x4800 0 [1])

/-- R515. -/
def execSwarmCommand (t : Nat) (c : Caller) (v : Bytes) (s : State) : Host.Outcome State Fault Refusal :=
  .next (s.run t fun s => s.writeBy c 0x4821 0 v)

/-- R516. -/
def execSwarmCancel (t : Nat) (c : Caller) (v : Bytes) (s : State) : Host.Outcome State Fault Refusal :=
  .next (s.run t fun s => s.writeBy c 0x4821 0 (byte 0xFF :: v.drop 1))

/-- R518. -/
def execSwarmInstant (t : Nat) (s : State) : Host.Outcome State Fault Refusal :=
  .next (s.run t fun s => s.swarmInstant)

/-- R519. -/
def execSwarmDeadline (t : Nat) (s : State) : Host.Outcome State Fault Refusal :=
  .next (s.run t fun s => s.swarmDeadline)

/-- R529. -/
def execSiPinChange (t input pin : Nat) (level : Bool) (s : State) : Host.Outcome State Fault Refusal :=
  .next (s.run t fun s => if input < 4 && pin < 2 then s.siPin input pin level else s)

/-- R530. -/
def execSiDebounceExpiry (t input pin : Nat) (s : State) : Host.Outcome State Fault Refusal :=
  .next (s.run t fun s => if input < 4 && pin < 2 then s.siDebounced input pin else s)

/-- R531. -/
def execSiDiscrepancy (t input : Nat) (s : State) : Host.Outcome State Fault Refusal :=
  .next (s.run t fun s => if input < 4 then s.siDiscrepant input else s)

/-- R535. -/
def execSoFault (t output : Nat) (p n : Bool) (s : State) : Host.Outcome State Fault Refusal :=
  .next (s.run t fun s => s.soFaulted output p n)

/-- R536. -/
def execSoPulseTest (t output : Nat) (s : State) : Host.Outcome State Fault Refusal :=
  .next (s.run t fun s => s.soPulseBegin output)

/-- R536. -/
def execSoPulseTestEnd (t output : Nat) (p n : Bool) (s : State) : Host.Outcome State Fault Refusal :=
  .next (s.run t fun s => s.soPulseJudge output p n)

/-- R536. -/
def execSoFaultEnd (t output : Nat) (p n : Bool) (s : State) : Host.Outcome State Fault Refusal :=
  .next (s.run t fun s => s.soRecovered output p n)

/-- R537. -/
def execStopCommand (t : Nat) (c : Caller) (v : Bytes) (s : State) : Host.Outcome State Fault Refusal :=
  .next (s.run t fun s => s.writeBy c 0x4840 0 v)

/-- R541. -/
def execStopNeighbourNotice (t : Nat) (c : Caller) (msg : Bytes) (s : State) : Host.Outcome State Fault Refusal :=
  .next (s.run t fun s => s.transactBy c 0x4862 msg)

/-- R542. -/
def execStopNoticeRepeat (t n : Nat) (s : State) : Host.Outcome State Fault Refusal :=
  .next (s.run t fun s => s.repeatNotice n)

/-- R543. -/
def execStopVote (t : Nat) (s : State) : Host.Outcome State Fault Refusal :=
  .next (s.run t fun s => s.sendVotes)

/-- R549. -/
def execStopChannelDisagree (t : Nat) (s : State) : Host.Outcome State Fault Refusal :=
  .next (s.run t fun s => s.channelsDisagree)

/-- R556. -/
def execReleaseArm (t : Nat) (c : Caller) (v : Bytes) (s : State) : Host.Outcome State Fault Refusal :=
  .next (s.run t fun s => s.writeBy c 0x4841 0 v)

/-- R561. -/
def execReleaseConfirm (t : Nat) (c : Caller) (v : Bytes) (s : State) : Host.Outcome State Fault Refusal :=
  .next (s.run t fun s => s.writeBy c 0x4843 0 v)

end Sys2Proof.Machine
end

