-- ==== Sys2Proof/Machine/DevCmds.lean ====
section
/-!
DEFINITION. The commands of the Developer (08_developer_exposures.md).
-/

namespace Sys2Proof.Machine

/-- R380. -/
def execDevExposureArrival (t : Nat) (pkt : Bytes) (s : State) : Host.Outcome State Fault Refusal :=
  .next (s.run t fun s => s.exposureArrival pkt)

/-- R381. -/
def execDevExposureStart (t : Nat) (sky : List SkySignal) (s : State) : Host.Outcome State Fault Refusal :=
  .next (s.run t fun s => s.exposureStart sky)

/-- R390. -/
def execDevResult (t slot : Nat) (sky : List SatEph) (s : State) : Host.Outcome State Fault Refusal :=
  .next (s.run t fun s => s.devResult slot sky)

/-- R394. -/
def execDevOwnSearchStart (t : Nat) (s : State) : Host.Outcome State Fault Refusal :=
  .next (s.run t fun s => s.ownStart)

/-- R398. -/
def execDevOwnSearchDone (t : Nat) (x : OwnCapture) (s : State) : Host.Outcome State Fault Refusal :=
  .next (s.run t fun s => s.ownDone x.cap x.sky)

/-- R394. -/
def execDevReacquireTick (t : Nat) (sky : List SkySignal) (s : State) : Host.Outcome State Fault Refusal :=
  .next (s.run t fun s => s.reacquire sky)

/-- R400. -/
def execDevStandbyExposure (t : Nat) (s : State) : Host.Outcome State Fault Refusal :=
  .next (s.run t fun s => s.standbyExposure)

/-- R401. -/
def execDevStandbyResult (t : Nat) (x : OwnCapture) (s : State) : Host.Outcome State Fault Refusal :=
  .next (s.run t fun s => s.standbyResult x.cap x.sky)

end Sys2Proof.Machine
end

