-- ==== Sys2Proof/Machine/DictCmds.lean ====
section
/-!
DEFINITION. The commands of the dictionary and of Coil, USDO, and the cap profile (01_family_variants.md, 03_object_dictionary.md).
-/

namespace Sys2Proof.Machine

/-- R89, R112: a write of an object without a row of its own, by any path. -/
def execDictWrite (t : Nat) (c : Caller) (idx sub : Nat) (v : Bytes) (s : State) : Host.Outcome State Fault Refusal :=
  .next (s.run t fun s => s.writeBy c idx sub v)

/-- R119. -/
def execCoilHello (t : Nat) (raw : Bytes) (s : State) : Host.Outcome State Fault Refusal :=
  .next (s.run t fun s => s.hello raw)

/-- R127, R128. -/
def execCoilData (t : Nat) (hdr : Bytes) (body : Sealed) (s : State) : Host.Outcome State Fault Refusal :=
  .next (s.run t fun s => s.coilDatagram hdr body)

/-- R132: opcode READ. -/
def execCoilRead (t sid req idx sub : Nat) (s : State) : Host.Outcome State Fault Refusal :=
  .next (s.run t fun s => s.record (.coil sid req)
    { opcode := 1, flags := 0, req := req, idx := idx, sub := sub, res := 0, offset := 0, param := 0, data := [] })

/-- R132: opcode WRITE. -/
def execCoilWrite (t sid req idx sub : Nat) (v : Bytes) (s : State) : Host.Outcome State Fault Refusal :=
  .next (s.run t fun s => s.record (.coil sid req)
    { opcode := 2, flags := 0, req := req, idx := idx, sub := sub, res := 0, offset := 0, param := 0, data := v })

/-- R133: opcode BLOCK_READ. -/
def execBlockRead (t sid req idx sub off max : Nat) (s : State) : Host.Outcome State Fault Refusal :=
  .next (s.run t fun s => s.record (.coil sid req)
    { opcode := 3, flags := 0, req := req, idx := idx, sub := sub, res := 0, offset := off, param := max, data := [] })

/-- R133, R134: opcode BLOCK_WRITE. -/
def execBlockWrite (t sid req idx sub off total : Nat) (data : Bytes) (s : State) : Host.Outcome State Fault Refusal :=
  .next (s.run t fun s => s.record (.coil sid req)
    { opcode := 4, flags := 0, req := req, idx := idx, sub := sub, res := 0, offset := off, param := total, data := data })

/-- R102: opcode COMMIT with param 0x01. -/
def execCoilCommit (t sid req idx sub : Nat) (s : State) : Host.Outcome State Fault Refusal :=
  .next (s.run t fun s => s.record (.coil sid req)
    { opcode := 5, flags := 0, req := req, idx := idx, sub := sub, res := 0, offset := 0, param := 1, data := [] })

/-- R109: opcode COMMIT with param 0x02. -/
def execCoilDiscard (t sid req idx sub : Nat) (s : State) : Host.Outcome State Fault Refusal :=
  .next (s.run t fun s => s.record (.coil sid req)
    { opcode := 5, flags := 0, req := req, idx := idx, sub := sub, res := 0, offset := 0, param := 2, data := [] })

/-- R90, R134: opcode TRANSACT. -/
def execTransact (t sid req idx sub off total : Nat) (data : Bytes) (s : State) : Host.Outcome State Fault Refusal :=
  .next (s.run t fun s => s.record (.coil sid req)
    { opcode := 6, flags := 0, req := req, idx := idx, sub := sub, res := 0, offset := off, param := total, data := data })

/-- R139, R140: opcode SUBSCRIBE. -/
def execSubscribe (t sid req idx sub param : Nat) (s : State) : Host.Outcome State Fault Refusal :=
  .next (s.run t fun s => s.record (.coil sid req)
    { opcode := 7, flags := 0, req := req, idx := idx, sub := sub, res := 0, offset := 0, param := param, data := [] })

/-- R141. -/
def execNotify (t sid idx sub : Nat) (s : State) : Host.Outcome State Fault Refusal :=
  .next (s.run t fun s => s.notifyDue sid (key idx sub))

/-- R130. -/
def execCoilClose (t : Nat) (hdr : Bytes) (body : Sealed) (s : State) : Host.Outcome State Fault Refusal :=
  .next (s.run t fun s => s.coilClosed hdr body)

/-- R129. -/
def execCoilIdleTimeout (t sid : Nat) (s : State) : Host.Outcome State Fault Refusal :=
  .next (s.run t fun s => s.coilIdle sid)

/-- R136. -/
def execBlockTransferAbandon (t sid idx sub : Nat) (s : State) : Host.Outcome State Fault Refusal :=
  .next (s.run t fun s => s.xferAbandon sid (key idx sub))

/-- R108: idx.sub names the group's commit object, whose subindex is 0. -/
def execStageHoldTimeout (t idx sub : Nat) (s : State) : Host.Outcome State Fault Refusal :=
  .next (s.run t fun s => if sub = 0 then s.holdTimeout idx else s)

/-- R109. -/
def execStageDiscard (t : Nat) (c : Caller) (idx : Nat) (s : State) : Host.Outcome State Fault Refusal :=
  .next (s.run t fun s => s.writeBy c 0x1021 0 (leBytes 2 idx))

/-- Whether a port serves USDO (R145, R750), and how a request addressed otherwise is answered (R146). -/
def State.usdoAccess (s : State) (port client : Nat) (kind : UsdoKind) (k : Nat) (body : State → State × Option Ans) : State :=
  if !s.servesUsdo port || !s.canUp port then s
  else match kind with
  | .unicast => s.access (.usdo port client) 0 k 0 body
  | .broadcast => s.emit (.usdo port client 0x06010000 [])
  | .routed => s.emit (.usdo port client 0x06010000 [])

/-- The CANopen type of a type code (Table 3.2). -/
def canTypeOf (ty : Nat) : CanType :=
  match ty with
  | 1 => .boolean
  | 2 => .unsigned 8
  | 3 => .unsigned 16
  | 4 | 14 => .unsigned 32
  | 5 => .unsigned 64
  | 6 => .integer 8
  | 7 => .integer 16
  | 8 => .integer 32
  | 9 | 12 => .integer 64
  | 10 => .real 32
  | 11 => .real 64
  | 13 => .unsigned 40
  | 15 => .octetString
  | 16 => .visibleString
  | _ => .domain

/-- The USDO data type of an object (R147). -/
def State.usdoType (s : State) (idx sub : Nat) : CanType :=
  match s.rowAt idx sub with
  | some r => canTypeOf r.ty
  | none => .domain

/-- An upload: the value leaves under its object's data type. -/
def State.usdoRead (s : State) (port client idx sub : Nat) : State × Option Ans :=
  match s.readOp (.usdo port client) idx sub false with
  | (s, some a) => if a.ok then (s.emit (.usdoUp port client (s.usdoType idx sub) a.data), none) else (s, some a)
  | (s, none) => (s, none)

/-- A download under a data type: another type than the object's is refused at check 7 as LENGTH_MISMATCH (DESIGN CHOICE, log entry 15). -/
def State.usdoWrite (s : State) (port client idx sub : Nat) (ty : CanType) (v : Bytes) : State × Option Ans :=
  match s.front (.usdo port client) .write idx sub with
  | .error a => (s, some a)
  | .ok r => if canTypeOf r.ty = ty then s.writeOp (.usdo port client) idx sub v else (s, some Ans.length)

/-- R146: an upload. -/
def execUsdoUpload (t port client : Nat) (kind : UsdoKind) (idx sub : Nat) (s : State) : Host.Outcome State Fault Refusal :=
  .next (s.run t fun s => s.usdoAccess port client kind (key idx sub) fun s => s.usdoRead port client idx sub)

/-- R146: a download. -/
def execUsdoDownload (t port client : Nat) (kind : UsdoKind) (idx sub : Nat) (v : UsdoData) (s : State) :
    Host.Outcome State Fault Refusal :=
  .next (s.run t fun s => s.usdoAccess port client kind (key idx sub) fun s => s.usdoWrite port client idx sub v.type v.bytes)

/-- R36: a write of 0x01 to CapCommit. -/
def execCapCommit (t : Nat) (c : Caller) (s : State) : Host.Outcome State Fault Refusal :=
  .next (s.run t fun s => s.writeBy c 0x1010 0 [1])

/-- R46: three silent heartbeat periods. -/
def execControllerIdClashEnd (t : Nat) (s : State) : Host.Outcome State Fault Refusal :=
  .next (s.run t fun s => s.clashSilent)

end Sys2Proof.Machine
end

