-- ==== Sys2Proof/Machine/QueueOps.lean ====
section
/-!
DEFINITION. What a hart does through its Dispatcher and queue windows: fetches and grants, completion, submission, and packets
opened, written, closed, read and dropped (16_dispatcher_queues_applets.md R757 to R781).
-/

namespace Sys2Proof.Machine

/-- One of the sixteen harts, while the Compute island runs it. -/
def State.hartRuns (s : State) (h : Nat) : Bool := h < 16 && s.up .compute && !s.boot.boant

def State.setFabric (s : State) (f : Fabric → Fabric) : State := { s with fabric := f s.fabric }

/-- A load returns a word to its hart. -/
def State.load (s : State) (h v : Nat) : State := s.emit (.hart h v)

/-! ### Work (R763 to R772) -/

/-- The word of a FETCH that the Fabric's state ends: nv with wake 2, and ABSENT in bits 7 to 0 once it has failed (R772, R796). -/
def fetchOut (o : Nat) : Nat := if o = 0x70 then fetchNv 2 + o else fetchNv 2

/-- FETCH_TIMEOUT takes a value of its range; another leaves it as it was (Table 16.2; DESIGN CHOICE, log entry 16). -/
def Hart.timed (x : Hart) (v : Nat) : Hart := if v ≤ 1000000 then { x with timeout := v } else x

/-- A FETCH completes the hart's task and blocks (R764, R765), with FETCH_TIMEOUT as it was written before it. -/
def State.fetchOp (s : State) (h timeout : Nat) : State :=
  match s.fabricOut with
  | some o => s.load h (fetchOut o)
  | none =>
    let s := s.completeHart h 0
    s.setFabric fun f =>
      { f.setHart h fun x => { x.timed timeout with fetch := some (s.now, f.fetchNext) } with fetchNext := f.fetchNext + 1 }

/-- The task a hart's FETCH is granted, where its FETCH began first and a task of its partition is READY (R762, R766). -/
def State.grantable (s : State) (h : Nat) : Option (Nat × Desc) :=
  if s.fabric.firstFetch (hartApplet h) = some h then nextReady (hartApplet h) s.fabric.brood else none

/-- The task enters RUNNING and becomes the hart's. -/
def State.grant (s : State) (h d : Nat) (x : Desc) : State :=
  let s := s.setFabric fun f => (f.setDesc d { x with st := .running }).setHart h fun y => { y with task := some d, fetch := none }
  (s.count 0x0A (b2n (hartApplet h)) 1).load h (fetchWord d x)

/-- A blocked FETCH returns nv. -/
def State.wake (s : State) (h code : Nat) : State := (s.setFabric fun f => f.setHart h fun x => { x with fetch := none }).load h (fetchNv code)

/-- A blocked FETCH returns: its grant where there is one, else nv with the wake code (R766: a grant wins, and is never lost). -/
def State.fetchReturn (s : State) (h : Nat) (code : Option Nat) : State :=
  if (s.fabric.hart h).fetch.isNone || s.fabricOut.isSome then s
  else match s.grantable h, code with
  | some (d, x), _ => s.grant h d x
  | none, some w => s.wake h w
  | none, none => s

/-- FETCH_TIMEOUT passes. -/
def State.fetchExpires (s : State) (h : Nat) : State :=
  let x := s.fabric.hart h
  match x.fetch with
  | some p => if x.timeout ≠ 0 && p.1 + x.timeout * us ≤ s.now then s.fetchReturn h (some 1) else s
  | none => s

/-- A write to COMPLETE (R768). -/
def State.completeOp (s : State) (h v : Nat) : State :=
  let o := v % 256
  if s.fabricOut.isSome then s
  else if (s.fabric.hart h).task.isNone then s.setFabric fun f => { f with stray := wrap 32 (f.stray + 1) }
  else s.completeHart h (if reservedOutcome o then 1 else o)

/-- A write to DECREMENT (R757, R759): only a descriptor of the hart's own partition. -/
def State.decrementOp (s : State) (h v : Nat) : State :=
  let d := v % 65536
  if s.fabricOut.isSome || s.fabric.isApplet d ≠ hartApplet h then s else s.decr d

/-- The staging registers as a SUBMIT, a REISSUE or a PEEK finds them. -/
def Hart.staged (x : Hart) (idx : Nat) : Hart := { x with stageIdx := idx }

/-- A SUBMIT of the staged descriptor (R758, R769). -/
def State.submitOp (s : State) (h idx lo hi : Nat) : State :=
  let i := idx % 65536; let l := lo % 2 ^ 64; let u := hi % 2 ^ 64
  let s := s.setFabric fun f => f.setHart h fun x => { x.staged i with stageLo := l, stageHi := u }
  match s.fabricOut with
  | some o => s.load h o
  | none =>
    let r := s.fabric.submit (hartApplet h) i (u * 2 ^ 64 + l)
    ({ s with fabric := r.1 } : State).load h r.2

/-- A REISSUE (R769, R771). -/
def State.reissueOp (s : State) (h idx : Nat) : State :=
  let i := idx % 65536
  let s := s.setFabric fun f => f.setHart h fun x => x.staged i
  match s.fabricOut with
  | some o => s.load h o
  | none =>
    let r := s.fabric.reissue (hartApplet h) i
    ({ s with fabric := r.1 } : State).load h r.2

/-- PEEK_LO or PEEK_HI: a descriptor of the other partition is not read (R757). -/
def State.peekOp (s : State) (h idx : Nat) (high : Bool) : State :=
  let i := idx % 65536
  let s := s.setFabric fun f => f.setHart h fun x => x.staged i
  match s.fabricOut with
  | some o => s.load h o
  | none =>
    let w := if s.fabric.isApplet i = hartApplet h then (s.fabric.desc i).word else 0
    s.load h (if high then w / 2 ^ 64 else w % 2 ^ 64)

/-! ### Packets (R773 to R781) -/

/-- OPEN (R776): its outcomes in the order the rule lists them. -/
def State.openOutcome (s : State) (h q : Nat) : Nat :=
  match s.fabricOut with
  | some o => o
  | none =>
    if (s.fabric.openOf h q).isSome then 0x3D
    else if !s.mayWrite h q then 0x3C
    else if 8 ≤ (s.fabric.queue q).pkts.countP (·.phase.isOpen) || !s.hasBlocks q 1 then 0x50
    else 0

def State.openOp (s : State) (h q : Nat) : State :=
  let o := s.openOutcome h q
  let s := s.load h o
  if o = 0 then
    let p : Pkt := { id := s.fabric.pktNext, tag := 0, words := [], phase := .opened h false }
    let x := s.fabric.queue q
    s.setFabric fun f => { f.setQueue q { x with pkts := x.pkts ++ [p] } with pktNext := f.pktNext + 1 }
  else s

/-- One word joins a packet, or marks it overflowed (R777); a packet holds 65,535 data words at most (R773). -/
def State.pushWord (s : State) (h q w : Nat) : State :=
  match s.fabric.openOf h q with
  | none => s
  | some p =>
    let n := p.words.length
    let more := pktBlocks (n + 1) - pktBlocks n
    let room : Bool := n < 65535 && (more = 0 || s.hasBlocks q more)
    let put (y : Pkt) : Pkt :=
      match p.phase with
      | .opened _ true => y
      | _ => if room then { y with words := y.words ++ [w % 2 ^ 32] } else { y with phase := .opened h true }
    let x := s.fabric.queue q
    s.setFabric fun f => f.setQueue q { x with pkts := mapPkt x.pkts p.id put }

/-- Stores to PUSH, word by word. -/
def State.pushOp (s : State) (h q : Nat) (words : List Nat) : State :=
  if s.fabricOut.isSome then s else words.foldl (fun (s : State) w => s.pushWord h q w) s

/-- A write to TAG (R773). -/
def State.tagOp (s : State) (h q v : Nat) : State :=
  match s.fabric.openOf h q with
  | none => s
  | some p =>
    let x := s.fabric.queue q
    if s.fabricOut.isSome then s else s.setFabric fun f => f.setQueue q { x with pkts := mapPkt x.pkts p.id fun y => { y with tag := v % 65536 } }

def Pkt.overflowed (p : Pkt) : Bool :=
  match p.phase with
  | .opened _ o => o
  | _ => false

/-- An open packet goes; those opened after it may become poppable (R775). -/
def State.removePkt (s : State) (q i : Nat) : State := s.setPkts q ((s.fabric.queue q).pkts.filter fun y => y.id ≠ i)

/-- A load of CLOSE (R777). -/
def State.closeOp (s : State) (h q : Nat) : State :=
  match s.fabricOut, s.fabric.openOf h q with
  | some o, _ => s.load h o
  | none, none => s.load h 0x3D
  | none, some p =>
    if p.overflowed then
      let s := s.load h 0x50
      (s.setFabric fun f => let x := f.queue q; f.setQueue q { x with drops := wrap 32 (x.drops + 1) }).removePkt q p.id
    else
      ((s.load h 0).setPkts q (mapPkt (s.fabric.queue q).pkts p.id fun y => { y with phase := .closed })).count 0x0B q 1

/-- A store to CLOSE abandons the packet (R775). -/
def State.abandonOp (s : State) (h q : Nat) : State :=
  match s.fabricOut, s.fabric.openOf h q with
  | none, some p => s.removePkt q p.id
  | _, _ => s

/-- A POP (R778, R779, R781). -/
def State.popOp (s : State) (h q : Nat) : State :=
  let r := s.popOf h q
  let s := s.load h r.1
  match r.2 with
  | none => s
  | some e => s.setFabric fun f => f.setPhase q e.1 e.2

/-- DROP (R780, R781). -/
def State.dropOp (s : State) (h q : Nat) : State :=
  let held := (s.fabric.queue q).pkts.find? fun p => match p.phase with
    | .held h' _ => h' = h
    | _ => false
  match s.fabricOut, held with
  | none, some p => s.setFabric fun f => f.setPhase q p.id (if (f.hart h).task.isSome then some (.unfreed h) else none)
  | _, _ => s

/-! ### Replies (R790) -/

/-- The first waiting reply of a hart that its queue accepts is posted, and its notify descriptor is decremented. -/
def State.replyOp (s : State) (h : Nat) : State :=
  let go := s.fabric.replies.findIdx? fun r => r.hart = h && (s.post? r.reply r.data).isSome
  match go with
  | none => s
  | some i =>
    match s.fabric.replies[i]? with
    | none => s
    | some r =>
      let s := (s.post r.reply r.data).setFabric fun f => { f with replies := f.replies.eraseIdx i }
      match r.notify with
      | some d => s.decr d
      | none => s

end Sys2Proof.Machine
end

