-- ==== Sys2Proof/Machine/Windows.lean ====
section
/-!
DEFINITION. The address map of the harts: what an access reaches, the window registers that no row of the table carries, shared SRAM
and LPDDR, and access faults (16_dispatcher_queues_applets.md R763, R774, R785 to R788; 20_logbook.md R924).
-/

namespace Sys2Proof.Machine

/-- An access fault of a hart. -/
def State.accessFault (s : State) (h addr : Nat) : State := s.emit (.accessFault h addr)

/-! ### The map (Table 16.7) -/

/-- What an address lies in. -/
inductive HartPlace where
  | dispatcher (off : Nat)
  | queue (q off : Nat)
  | request (comb : Bool) (off : Nat)
  | logbook (off : Nat)
  | sram
  | lpddr
  | none
  deriving DecidableEq, Repr

/-- Bases of the map: shared SRAM, of 8 MiB, and LPDDR. -/
def sramBase : Nat := 0x80000000
def lpddrBase : Nat := 0x1000000000
def mib : Nat := 2 ^ 20

/-- MiB of shared SRAM that retired regions took (Table 19.10). -/
def State.sramLost (s : State) : Nat := s.health.retired.countP fun n => Island.fabric.id * 65536 + 16 ≤ n && n < Island.fabric.id * 65536 + 24

/-- MiB of shared SRAM and of LPDDR that the applet partition has; the retired MiB leave its share first (Table 16.7, Table 19.10). -/
def State.appletSram (s : State) : Nat := s.inForce 0x5014 0 - s.sramLost
def State.appletLpddr (s : State) : Nat := 64 * s.inForce 0x5015 0

/-- The first address, and the one past the last, of the shared SRAM and the LPDDR that a hart reaches: the applet share for an applet
hart, and all of either for one of the service partition (DESIGN CHOICE, log entry 16: Table 16.7 is the applets' map alone). -/
def State.sramRange (s : State) (h : Nat) : Nat × Nat :=
  if hartApplet h then (sramBase + (8 - s.appletSram) * mib, sramBase + 8 * mib) else (sramBase, sramBase + 8 * mib)
def State.lpddrRange (s : State) (h : Nat) : Nat × Nat :=
  let top := lpddrBase + s.lpddr * mib
  if hartApplet h then (top - s.appletLpddr * mib, top) else (lpddrBase, top)

/-- Whether an access lies whole in a range. -/
def accessIn (a : HartAccess) (r : Nat × Nat) : Bool := r.1 ≤ a.addr && a.addr + a.size ≤ r.2

/-- What an access of a hart reaches. Only applet harts have request windows. -/
def State.hartPlace (s : State) (h : Nat) (a : HartAccess) : HartPlace :=
  let off := a.addr % 0x10000
  if accessIn a (s.sramRange h) then .sram
  else if accessIn a (s.lpddrRange h) then .lpddr
  else match a.addr / 0x10000, hartApplet h with
    | 0x4000, _ => .dispatcher off
    | 0x4001, _ => .queue (off / 64) (off % 64)
    | 0x4002, true => .request true off
    | 0x4003, _ => .logbook off
    | 0x4004, true => .request false off
    | _, _ => .none

/-- A window access is of 8 bytes and aligned; PUSH takes 4 bytes too, and the staging bytes any size (R763, R774, R788, R924). -/
def accessFits (a : HartAccess) (p : HartPlace) : Bool :=
  a.addr % a.size = 0 && match p with
    | .queue _ 0x10 => a.size = 8 || a.size = 4
    | .request _ off => a.size = 8 || off + a.size ≤ 0x600
    | .dispatcher _ | .queue _ _ | .logbook _ => a.size = 8
    | .sram | .lpddr | .none => true

/-! ### Window registers without a row of their own -/

/-- The Dispatcher window (Table 16.2): the state after the access, or none where no register takes it. The registers of the rows FETCH,
COMPLETE, DECREMENT, SUBMIT, REISSUE and PEEK_DESCRIPTOR are those rows' own. -/
def State.dispatcherAccess (s : State) (h off : Nat) (store : Option Nat) : Option State :=
  let x := s.fabric.hart h
  let set (f : Hart → Hart) : Option State := some (s.setFabric fun g => g.setHart h f)
  match off, store with
  | 0x008, none => some (s.load h (match x.task with
    | some d => (s.fabric.desc d).arg
    | none => 0))
  | 0x020, some v => set fun x => { x with stageLo := v }
  | 0x028, some v => set fun x => { x with stageHi := v }
  | 0x030, some v => set fun x => { x with stageIdx := v % 65536 }
  | 0x058, none => some (s.load h x.timeout)
  | 0x058, some v => set fun x => x.timed v
  | 0x060, none => some (s.load h (s.readyTasks (hartApplet h)))
  | 0x000, none | 0x010, some _ | 0x018, some _ | 0x038, none | 0x040, none | 0x048, none | 0x050, none => some s
  | _, _ => none

/-- LEVEL (Table 16.4). -/
def Queue.levelWord (q : Queue) : Nat := q.pkts.countP (fun p => p.phase = .closed) + q.blocks * 2 ^ 32

/-- A queue window (Table 16.4): LEVEL; the other registers are rows of their own. -/
def State.queueAccess (s : State) (h q off : Nat) (store : Option Nat) : Option State :=
  match off, store with
  | 0x38, none => some (s.load h (s.fabric.queue q).levelWord)
  | 0x00, none | 0x08, none | 0x10, some _ | 0x18, none | 0x20, some _ | 0x28, _ | 0x30, some _ => some s
  | _, _ => none

/-- A request window (Table 16.8); SUBMIT is a row of its own. -/
def State.requestAccess (s : State) (h : Nat) (comb : Bool) (off size : Nat) (store : Option Nat) : Option State :=
  let set (f : ReqWindow → ReqWindow) : Option State :=
    some (s.setFabric fun g => g.setHart h fun x => if comb then { x with combWin := f x.combWin } else { x with dictWin := f x.dictWin })
  match store with
  | none => if off = 0x610 then some s else none
  | some v =>
    if off + size ≤ 0x600 then set fun w => { w with stage := patch (fit 1536 w.stage) off (leBytes size v) }
    else if off = 0x600 then (if v ≤ 1536 then set fun w => { w with len := v } else some s)
    else if off = 0x608 then set fun w => { w with word := v }
    else none

/-- The Logbook window (Table 20.3); SEEK and EMIT are rows of their own. -/
def State.logbookAccess (s : State) (h off : Nat) (store : Option Nat) : Option State :=
  let w := Tbl.getD s.log.windows h LogWin.reset
  let set (f : LogWin → LogWin) : Option State := some { s with log := s.log.setWin h f }
  match off, store with
  | 0x000, none => some (s.load h s.log.latest)
  | 0x008, none => some (s.load h w.select)
  | 0x008, some v => set fun w => { w with select := v % 16384 }
  | 0x010, some _ | 0x130, some _ => some s
  | 0x018, none => some (s.load h w.found)
  | 0x020, none => some (s.load h s.log.capacity)
  | _, none => if 0x040 ≤ off && off < 0x080 then some (s.load h (u (s.log.slotBytes w.select) (off - 0x040) 8)) else none
  | _, some v => if 0x100 ≤ off && off < 0x128 then set fun w => { w with stage := patch (fit 40 w.stage) (off - 0x100) (leBytes 8 v) } else none

/-! ### The access -/

/-- An access of an island that does not run: a load gives what the gasket answers, and a store has no effect (R57, R796). -/
def State.gasketLoad (s : State) (h : Nat) (i : Island) (store : Option Nat) : State :=
  match s.gasket i, store with
  | some g, none => s.load h g.1
  | _, _ => s

/-- A load or store of shared SRAM or LPDDR. -/
def State.memoryAccess (s : State) (h : Nat) (shared : Bool) (a : HartAccess) : State :=
  let m : Memory := if shared then s.fabric.sram else s.dram
  match a.store with
  | none => s.load h (leNat (m.load a.addr a.size))
  | some v =>
    let m := m.store a.addr (leBytes a.size v)
    if shared then s.setFabric fun f => { f with sram := m } else { s with dram := m }

/-- An access of a hart that no other row carries. An address of no window, an access of a wrong size or alignment, and one to a register
that does not take it raise an access fault (R763, R774, R786). -/
def State.hartAccess (s : State) (h : Nat) (a : HartAccess) : State :=
  let p := s.hartPlace h a
  let through (i : Island) (x : Option State) : State :=
    if !s.up i then s.gasketLoad h i a.store
    else match x with
      | some y => y
      | none => s.accessFault h a.addr
  if !accessFits a p then s.accessFault h a.addr
  else match p with
    | .dispatcher off => through .fabric (s.dispatcherAccess h off a.store)
    | .queue q off => through .fabric (s.queueAccess h q off a.store)
    | .request comb off => through .fabric (s.requestAccess h comb off a.size a.store)
    | .logbook off => through .aon (s.logbookAccess h off a.store)
    | .sram => through .fabric (some (s.memoryAccess h true a))
    | .lpddr => through .memory (some (s.memoryAccess h false a))
    | .none => s.accessFault h a.addr

/-- What PEEK_DESCRIPTOR carries: a half of a descriptor, another access, or a read of the time CSR, which gives TIME64 (R763, R785). -/
def State.look (s : State) (h n : Nat) (p : PeekAt) : State :=
  match p with
  | .half high => s.peekOp h n high
  | .access size store => s.hartAccess h { addr := n, size := size, store := store }
  | .time => s.load h (leNat (leInt 8 s.time64))

/-- A store to a register of a queue window that the hart's partition may not use raises an access fault (R786). -/
def State.queueStore (s : State) (h q off : Nat) (may : Bool) (body : State → State) : State :=
  if s.up .fabric && hartApplet h && !may then s.accessFault h (0x40010000 + 64 * q + off) else body s

end Sys2Proof.Machine
end

