-- ==== Sys2Proof/Machine/FabricCmds.lean ====
section
/-!
DEFINITION. The commands of the Dispatcher, the queues and the applet partition (16_dispatcher_queues_applets.md). A hart's access
has its effect while the hart runs; a queue is one of the 1,024.
-/

namespace Sys2Proof.Machine

/-- An access of a hart that runs. -/
def State.byHart (s : State) (h : Nat) (body : State → State) : State := if s.hartRuns h then body s else s
/-- An access of a hart that runs, to the window of a queue. -/
def State.onQueue (s : State) (h q : Nat) (body : State → State) : State := if s.hartRuns h && q < 1024 then body s else s

/-- R764, R765. -/
def execFetch (t hart timeout : Nat) (s : State) : Host.Outcome State Fault Refusal :=
  .next (s.run t fun s => s.byHart hart fun s => s.fetchOp hart timeout)

/-- R765, R766. -/
def execFetchGrant (t hart : Nat) (wake : FetchWake) (s : State) : Host.Outcome State Fault Refusal :=
  .next (s.run t fun s => s.byHart hart fun s => s.fetchReturn hart (match wake with | .grant => none | .interrupt => some 0))

/-- R765. -/
def execFetchTimeout (t hart : Nat) (s : State) : Host.Outcome State Fault Refusal :=
  .next (s.run t fun s => s.byHart hart fun s => s.fetchExpires hart)

/-- R761, R768. -/
def execComplete (t hart v : Nat) (s : State) : Host.Outcome State Fault Refusal :=
  .next (s.run t fun s => s.byHart hart fun s => s.completeOp hart v)

/-- R759. -/
def execDecrement (t hart v : Nat) (s : State) : Host.Outcome State Fault Refusal :=
  .next (s.run t fun s => s.byHart hart fun s => s.decrementOp hart v)

/-- R758, R769. -/
def execSubmit (t hart idx lo hi : Nat) (s : State) : Host.Outcome State Fault Refusal :=
  .next (s.run t fun s => s.byHart hart fun s => s.submitOp hart idx lo hi)

/-- R769, R771. -/
def execReissue (t hart idx : Nat) (s : State) : Host.Outcome State Fault Refusal :=
  .next (s.run t fun s => s.byHart hart fun s => s.reissueOp hart idx)

/-- R763, R785, R786. -/
def execPeekDescriptor (t hart n : Nat) (look : PeekAt) (s : State) : Host.Outcome State Fault Refusal :=
  .next (s.run t fun s => s.byHart hart fun s => s.look hart n look)

/-- R778, R779. -/
def execPop (t hart q : Nat) (s : State) : Host.Outcome State Fault Refusal :=
  .next (s.run t fun s => s.onQueue hart q fun s => s.popOp hart q)

/-- R774. -/
def execQueuePeek (t hart q : Nat) (s : State) : Host.Outcome State Fault Refusal :=
  .next (s.run t fun s => s.onQueue hart q fun s => s.load hart (s.popOf hart q).1)

/-- R777, R786. -/
def execPush (t hart q : Nat) (words : List Nat) (s : State) : Host.Outcome State Fault Refusal :=
  .next (s.run t fun s => s.onQueue hart q fun s => s.queueStore hart q 0x10 (s.mayWrite hart q) fun s => s.pushOp hart q words)

/-- R776. -/
def execQueueOpen (t hart q : Nat) (s : State) : Host.Outcome State Fault Refusal :=
  .next (s.run t fun s => s.onQueue hart q fun s => s.openOp hart q)

/-- R773, R786. -/
def execTag (t hart q v : Nat) (s : State) : Host.Outcome State Fault Refusal :=
  .next (s.run t fun s => s.onQueue hart q fun s => s.queueStore hart q 0x20 (s.mayWrite hart q) fun s => s.tagOp hart q v)

/-- R777. -/
def execClose (t hart q : Nat) (s : State) : Host.Outcome State Fault Refusal :=
  .next (s.run t fun s => s.onQueue hart q fun s => s.closeOp hart q)

/-- R775, R786. -/
def execCloseAbandon (t hart q : Nat) (s : State) : Host.Outcome State Fault Refusal :=
  .next (s.run t fun s => s.onQueue hart q fun s => s.queueStore hart q 0x28 (s.mayWrite hart q) fun s => s.abandonOp hart q)

/-- R780, R781, R786. -/
def execDrop (t hart q : Nat) (s : State) : Host.Outcome State Fault Refusal :=
  .next (s.run t fun s => s.onQueue hart q fun s => s.queueStore hart q 0x30 (qReaderApplet (s.queueCfg q)) fun s => s.dropOp hart q)

/-- R788, R789. -/
def execRequestWindowSubmit (t hart : Nat) (comb : Bool) (req : Bytes) (reply : Nat) (s : State) : Host.Outcome State Fault Refusal :=
  .next (s.run t fun s => s.byHart hart fun s => s.windowSubmit hart comb req reply)

/-- R790. -/
def execReplyPost (t hart : Nat) (s : State) : Host.Outcome State Fault Refusal :=
  .next (s.run t fun s => s.replyOp hart)

/-- R795, R950: an ANSWER record of an applet hart. -/
def execAnswer (t hart token outcome : Nat) (data : Bytes) (s : State) : Host.Outcome State Fault Refusal :=
  .next (s.run t fun s => s.byHart hart fun s => if hartApplet hart then
    s.takeAnswer (.applet hart 0) { opcode := 10, flags := outcome, req := 0, idx := 0, sub := 0, res := 0, offset := 0, param := token, data := data }
    else s)

/-- R795. -/
def execAppletNoAnswer (t token : Nat) (s : State) : Host.Outcome State Fault Refusal :=
  .next (s.run t fun s => s.appletSilent token)

end Sys2Proof.Machine
end

