-- ==== Sys2Proof/Machine/HealthCmds.lean ====
section
/-!
DEFINITION. The commands of temperature, margins, memory health and event counters (19_reset_clocks_health.md, 21_electrical_package.md).
-/

namespace Sys2Proof.Machine

/-- R890. -/
def execTempHigh (t : Nat) (i : Island) (temp : Int) (s : State) : Host.Outcome State Fault Refusal :=
  .next (s.run t fun s => s.tempAbove i temp)

/-- R890. -/
def execTempHighClear (t : Nat) (temps : List Int) (s : State) : Host.Outcome State Fault Refusal :=
  .next (s.run t fun s => s.tempBelow temps)

/-- R890. -/
def execThermalTrip (t : Nat) (i : Island) (temp : Int) (s : State) : Host.Outcome State Fault Refusal :=
  .next (s.run t fun s => s.tripped i temp)

/-- R890. -/
def execThermalTripRelease (t : Nat) (temps : List Int) (s : State) : Host.Outcome State Fault Refusal :=
  .next (s.run t fun s => s.tripReleased temps)

/-- R894. -/
def execMarginSample (t : Nat) (slacks temps : List Int) (s : State) : Host.Outcome State Fault Refusal :=
  .next (s.run t fun s => s.marginSampled slacks temps)

/-- R891. -/
def execIslandStepChange (t : Nat) (i : Island) (s : State) : Host.Outcome State Fault Refusal :=
  .next (s.run t fun s => s.stepSwitched i)

/-- R940. -/
def execVreqStep (t : Nat) (s : State) : Host.Outcome State Fault Refusal :=
  .next (s.run t fun s => s.vreqMoved)

/-- R896. -/
def execSramRowSpare (t : Nat) (row : SramRow) (unc : Bool) (s : State) : Host.Outcome State Fault Refusal :=
  .next (s.run t fun s => s.rowFails row unc)

/-- R898. -/
def execLpddrPageRetire (t page : Nat) (unc : Bool) (s : State) : Host.Outcome State Fault Refusal :=
  .next (s.run t fun s => s.pageFails page unc)

/-- R899. -/
def execCounterSelect (t : Nat) (c : Caller) (n v : Nat) (s : State) : Host.Outcome State Fault Refusal :=
  .next (s.run t fun s => s.writeBy c 0x1330 (n + 1) (leBytes 4 v))

/-- R901. -/
def execCounterSnapshot (t : Nat) (c : Caller) (s : State) : Host.Outcome State Fault Refusal :=
  .next (s.run t fun s => s.writeBy c 0x1332 0 [1])

end Sys2Proof.Machine
end

