-- ==== Sys2Proof/Machine/IslandCmds.lean ====
section
/-!
DEFINITION. The commands of islands: faults, restarts, failures, and memory errors (02_architecture.md, 19_reset_clocks_health.md).
-/

namespace Sys2Proof.Machine

/-- R70, R73. -/
def execIslandFault (t : Nat) (i : Island) (cause : FaultCause) (s : State) : Host.Outcome State Fault Refusal :=
  .next (s.run t fun s => s.faultIn i cause)

/-- R74, R81. -/
def execIslandRestartEnd (t : Nat) (i : Island) (s : State) : Host.Outcome State Fault Refusal :=
  .next (s.run t fun s => s.restartEnds i)

/-- R77, R78. -/
def execIslandFailed (t : Nat) (i : Island) (cause : FailCause) (s : State) : Host.Outcome State Fault Refusal :=
  .next (s.run t fun s => s.islandFails i cause)

/-- R868. -/
def execIslandWatchdogExpiry (t : Nat) (i : Island) (s : State) : Host.Outcome State Fault Refusal :=
  .next (s.run t fun s => s.faultIn i .watchdog)

/-- R76. -/
def execProtectedStoreError (t : Nat) (store : StoreRef) (s : State) : Host.Outcome State Fault Refusal :=
  .next (s.run t fun s => s.storeError store)

/-- R72, R896, R898. -/
def execCorrectedEccError (t : Nat) (i : Island) (where_ : EccAt) (s : State) : Host.Outcome State Fault Refusal :=
  .next (s.run t fun s => s.corrected i where_)

end Sys2Proof.Machine
end

