-- ==== Sys2Proof/Machine/KeyCmds.lean ====
section
/-!
DEFINITION. The commands of the Keyring and of the life-cycle (17_keyring_lifecycle.md).
-/

namespace Sys2Proof.Machine

/-- R808. -/
def execKeyWrite (t : Nat) (ask : FlashAsk) (v : Bytes) (s : State) : Host.Outcome State Fault Refusal :=
  .next (s.run t fun s => s.withFlash { fails := !ask.flashOk, worn := 0 } fun s => s.writeBy ask.caller 0x1111 0 v)

/-- R812. -/
def execKeyErase (t : Nat) (ask : FlashAsk) (slot : Nat) (s : State) : Host.Outcome State Fault Refusal :=
  .next (s.run t fun s => s.withFlash { fails := !ask.flashOk, worn := 0 } fun s => s.writeBy ask.caller 0x1112 0 (leBytes 1 slot))

/-- R813. -/
def execKeyInvalidate (t : Nat) (ask : FlashAsk) (slot : Nat) (s : State) : Host.Outcome State Fault Refusal :=
  .next (s.run t fun s => s.withFlash { fails := !ask.flashOk, worn := 0 } fun s => s.writeBy ask.caller 0x1113 0 (leBytes 1 slot))

/-- R816. -/
def execKeySlotReload (t slot : Nat) (s : State) : Host.Outcome State Fault Refusal :=
  .next (s.run t fun s => s.keyReload slot)

/-- R819. -/
def execSeal (t : Nat) (c : Caller) (req : Bytes) (s : State) : Host.Outcome State Fault Refusal :=
  .next (s.run t fun s => s.transactBy c 0x1114 (byte 1 :: req.drop 1))

/-- R819. -/
def execUnseal (t : Nat) (c : Caller) (req : Bytes) (s : State) : Host.Outcome State Fault Refusal :=
  .next (s.run t fun s => s.transactBy c 0x1114 (byte 2 :: req.drop 1))

/-- R820. -/
def execForward (t : Nat) (c : Caller) (req : Bytes) (s : State) : Host.Outcome State Fault Refusal :=
  .next (s.run t fun s => s.transactBy c 0x1114 (byte 3 :: req.drop 1))

/-- R822: target Provisioned. -/
def execLifecycleProvision (t : Nat) (c : Caller) (v : Bytes) (s : State) : Host.Outcome State Fault Refusal :=
  .next (s.run t fun s => s.writeBy c 0x1101 0 (byte 1 :: v.drop 1))

/-- R822: target Commissioned. -/
def execLifecycleCommission (t : Nat) (c : Caller) (v : Bytes) (s : State) : Host.Outcome State Fault Refusal :=
  .next (s.run t fun s => s.writeBy c 0x1101 0 (byte 2 :: v.drop 1))

/-- R822: target Decommissioned. -/
def execLifecycleDecommission (t : Nat) (c : Caller) (v : Bytes) (s : State) : Host.Outcome State Fault Refusal :=
  .next (s.run t fun s => s.writeBy c 0x1101 0 (byte 3 :: v.drop 1))

/-- R829: target Scrapped. -/
def execLifecycleScrap (t : Nat) (c : Caller) (v : Bytes) (s : State) : Host.Outcome State Fault Refusal :=
  .next (s.run t fun s => s.writeBy c 0x1101 0 (byte 4 :: v.drop 1))

end Sys2Proof.Machine
end

