-- ==== Sys2Proof/Machine/LogCmds.lean ====
section
/-!
DEFINITION. The commands of the Logbook (20_logbook.md).
-/

namespace Sys2Proof.Machine

/-- Whether an island passes signals to others (R54): isolated, its gasket passes none. -/
def State.passes (s : State) (island : Nat) : Bool :=
  match Island.ofId island with
  | some i => i = .aon || s.up i
  | none => false

/-- Code, severity and island of an event are those of Table 20.4, or of an applet's event (R904, R926). -/
def eventListed (code sev island : Nat) : Bool :=
  Ev.all.any (fun e => e.row = (code, sev, island)) || (0x8000 ≤ code && code ≤ 0x8FFF && sev ≤ 3 && island = 2)

/-- An event as a source offers it: one of Table 20.4 or an applet's, of an island that is not isolated, with at most 40 bytes of params
(Table 20.1, R54). -/
def State.offerEvent (s : State) (code sev island : Nat) (params : Bytes) : State :=
  if eventListed code sev island && s.passes island && params.length ≤ 40 then s.offer { code := code, sev := sev, island := island, params := params }
  else s

/-- The mirror takes the first record that waits, while the flash is free (R918 to R920). -/
def State.mirrorOp (s : State) (ok : Bool) : State :=
  if s.up .aon && s.flashFree then
    let r := s.log.mirrorNext ok
    let x : State := { s with log := r.1 }
    if r.2 then x.logEv .logMirrorWorn [] else x
  else s

/-- R910. -/
def execLogEvent (t code sev island : Nat) (params : Bytes) (s : State) : Host.Outcome State Fault Refusal :=
  .next (s.run t fun s => s.offerEvent code sev island params)

/-- R911. -/
def execLogRecordWrite (t : Nat) (s : State) : Host.Outcome State Fault Refusal :=
  .next (s.run t fun s => if s.up .aon then s.logWriteNext else s)

/-- R909. -/
def execLogRecordClose (t : Nat) (s : State) : Host.Outcome State Fault Refusal :=
  .next (s.run t fun s => if s.up .aon then { s with log := s.log.expire s.now } else s)

/-- R918. -/
def execLogMirrorWrite (t : Nat) (ok : Bool) (s : State) : Host.Outcome State Fault Refusal :=
  .next (s.run t fun s => s.mirrorOp ok)

/-- R921. -/
def execTimeMark (t : Nat) (s : State) : Host.Outcome State Fault Refusal :=
  .next (s.run t fun s => s.timeMarkDue)

/-- R922. -/
def execLogQuery (t : Nat) (c : Caller) (req : Bytes) (s : State) : Host.Outcome State Fault Refusal :=
  .next (s.run t fun s => s.transactBy c 0x1410 req)

/-- R924. -/
def execLogSeek (t hart seq : Nat) (s : State) : Host.Outcome State Fault Refusal :=
  .next (s.run t fun s => if s.hartRuns hart && s.up .aon then { s with log := s.log.seekTo hart seq } else s)

/-- R924. -/
def execEmit (t hart word : Nat) (params : Bytes) (s : State) : Host.Outcome State Fault Refusal :=
  .next (s.run t fun s => if s.hartRuns hart && s.up .aon then s.emitApplet hart word params else s)

end Sys2Proof.Machine
end

