-- ==== Sys2Proof/Machine/NetCmds.lean ====
section
/-!
DEFINITION. The commands of Ethernet and PTP (14_ethernet_ptp.md).
-/

namespace Sys2Proof.Machine

/-- R671. -/
def execEthFrameReceived (t port : Nat) (groups : Bytes) (s : State) : Host.Outcome State Fault Refusal :=
  .next (s.run t fun s => s.frameIn port groups)

/-- R696. -/
def execEthFrameSent (t port : Nat) (s : State) : Host.Outcome State Fault Refusal :=
  .next (s.run t fun s => s.frameOut port)

/-- R672. -/
def execEthAddressAgeing (t mac : Nat) (s : State) : Host.Outcome State Fault Refusal :=
  .next (s.run t fun s => s.ageOut mac)

/-- R669. -/
def execEthPortConfig (t : Nat) (c : Caller) (port : Nat) (v : Bytes) (s : State) : Host.Outcome State Fault Refusal :=
  .next (s.run t fun s => s.writeBy c 0x2400 (port + 1) v)

/-- R677. -/
def execSgmiiControlWord (t port word : Nat) (s : State) : Host.Outcome State Fault Refusal :=
  .next (s.run t fun s => s.controlWord port word)

/-- R677. -/
def execPcsSyncChange (t port : Nat) (synced : Bool) (s : State) : Host.Outcome State Fault Refusal :=
  .next (s.run t fun s => s.pcsSync port synced)

/-- R681. -/
def execPtpCommit (t : Nat) (c : Caller) (s : State) : Host.Outcome State Fault Refusal :=
  .next (s.run t fun s => s.writeBy c 0x2440 0 [1])

/-- R690. -/
def execPtpSyncReceived (t port : Nat) (msg : PtpMsg) (s : State) : Host.Outcome State Fault Refusal :=
  .next (s.run t fun s => s.syncIn port msg)

/-- R686. -/
def execPtpAnnounceReceived (t port : Nat) (msg : PtpMsg) (s : State) : Host.Outcome State Fault Refusal :=
  .next (s.run t fun s => s.announceIn port msg)

/-- R686. -/
def execPtpAnnounceTimeout (t port : Nat) (s : State) : Host.Outcome State Fault Refusal :=
  .next (s.run t fun s => s.announceTimeout port)

/-- R691. -/
def execPtpSyncTimeout (t port : Nat) (s : State) : Host.Outcome State Fault Refusal :=
  .next (s.run t fun s => s.syncTimeout port)

/-- R688. -/
def execPtpAnnounceSend (t port : Nat) (s : State) : Host.Outcome State Fault Refusal :=
  .next (s.run t fun s => s.announceOut port)

/-- R693. -/
def execPtpSyncSend (t port : Nat) (s : State) : Host.Outcome State Fault Refusal :=
  .next (s.run t fun s => s.syncOut port)

/-- R695. -/
def execPtpDelayReqSend (t port : Nat) (s : State) : Host.Outcome State Fault Refusal :=
  .next (s.run t fun s => s.delayReqOut port)

/-- R694. -/
def execPtpDelayReqReceived (t port : Nat) (msg : PtpMsg) (s : State) : Host.Outcome State Fault Refusal :=
  .next (s.run t fun s => s.delayReqIn port msg)

/-- R690. -/
def execPtpDelayRespReceived (t port : Nat) (msg : PtpMsg) (s : State) : Host.Outcome State Fault Refusal :=
  .next (s.run t fun s => s.delayRespIn port msg)

end Sys2Proof.Machine
end

