-- ==== Sys2Proof/Machine/RadioCmds.lean ====
section
/-!
DEFINITION. The commands of the radio links (12_radio_links.md).
-/

namespace Sys2Proof.Machine

/-- R596. -/
def execLinkEvent (t slot : Nat) (s : State) : Host.Outcome State Fault Refusal :=
  .next (s.run t fun s => s.linkEvent slot)

/-- R599. -/
def execLinkReplyReceived (t slot : Nat) (frame : RadioFrame) (offset rssi : Int) (s : State) : Host.Outcome State Fault Refusal :=
  .next (s.run t fun s => s.linkReply slot frame offset rssi)

/-- R602. -/
def execLinkSupervisionTimeout (t slot : Nat) (s : State) : Host.Outcome State Fault Refusal :=
  .next (s.run t fun s => s.superviseLink slot)

/-- R603. -/
def execLinkJoinTimeout (t slot : Nat) (s : State) : Host.Outcome State Fault Refusal :=
  .next (s.run t fun s => s.joinTimeout slot)

/-- R604. -/
def execBeaconSend (t modem : Nat) (s : State) : Host.Outcome State Fault Refusal :=
  .next (s.run t fun s => s.sendBeacon modem)

/-- R608. -/
def execJoinRequest (t modem : Nat) (frame : RadioFrame) (s : State) : Host.Outcome State Fault Refusal :=
  .next (s.run t fun s => s.joinRequest modem frame)

/-- R606. -/
def execNeighbourBeacon (t modem n : Nat) (frame : RadioFrame) (s : State) : Host.Outcome State Fault Refusal :=
  .next (s.run t fun s => s.nbrBeacon modem n frame)

/-- R613. -/
def execWaggleSend (t modem : Nat) (s : State) : Host.Outcome State Fault Refusal :=
  .next (s.run t fun s => s.sendWaggle modem)

/-- R586. -/
def execRadioCommit (t : Nat) (c : Caller) (s : State) : Host.Outcome State Fault Refusal :=
  .next (s.run t fun s => s.writeBy c 0x2C00 0 [1])

/-- R606. -/
def execRadioNeighbourListen (t : Nat) (c : Caller) (n : Nat) (v : Bytes) (s : State) : Host.Outcome State Fault Refusal :=
  .next (s.run t fun s => s.writeBy c 0x2C13 (n + 1) v)

/-- R619. -/
def execLinkParamRequest (t : Nat) (c : Caller) (slot : Nat) (v : Bytes) (s : State) : Host.Outcome State Fault Refusal :=
  .next (s.run t fun s => if slot < 1024 then s.writeBy c (0x7000 + slot) 0x54 v else s)

/-- R617. -/
def execLinkUpdateInstant (t slot : Nat) (s : State) : Host.Outcome State Fault Refusal :=
  .next (s.run t fun s => s.applyUpdate slot)

/-- R603. -/
def execLinkEnd (t : Nat) (c : Caller) (slot : Nat) (s : State) : Host.Outcome State Fault Refusal :=
  .next (s.run t fun s => if slot < 1024 then s.writeBy c (0x7000 + slot) 0x55 [1] else s)

/-- R603. -/
def execMachineIdWrite (t : Nat) (c : Caller) (slot id : Nat) (s : State) : Host.Outcome State Fault Refusal :=
  .next (s.run t fun s => if slot < 1024 then s.writeBy c (0x7000 + slot) 1 (leBytes 4 id) else s)

/-- R626. -/
def execRadioSend (t : Nat) (c : Caller) (req : Bytes) (s : State) : Host.Outcome State Fault Refusal :=
  .next (s.run t fun s => s.transactBy c 0x2C11 req)

/-- R615. -/
def execRadioWaggle (t : Nat) (c : Caller) (req : Bytes) (s : State) : Host.Outcome State Fault Refusal :=
  .next (s.run t fun s => s.transactBy c 0x2C12 req)

/-- R586. -/
def execHyperperiodBoundary (t modem : Nat) (s : State) : Host.Outcome State Fault Refusal :=
  .next (s.run t fun s => s.replanModem modem)

end Sys2Proof.Machine
end

