-- ==== Sys2Proof/Machine/ResetCmds.lean ====
section
/-!
DEFINITION. The commands of resets (19_reset_clocks_health.md, 21_electrical_package.md).
-/

namespace Sys2Proof.Machine

/-- R868, with the flash record that power's failure left torn. -/
def execPor (up : PowerUp) (s : State) : Host.Outcome State Fault Refusal :=
  .next (s.run up.t fun s => s.porRise up.torn)

/-- R935. -/
def execBor (t : Nat) (s : State) : Host.Outcome State Fault Refusal :=
  .next (s.run t fun s => s.assertReset 1 0 0xFF)

/-- R935. -/
def execBorRelease (t : Nat) (s : State) : Host.Outcome State Fault Refusal :=
  .next (s.run t fun s => s.releaseSource 1)

/-- R874. -/
def execResetNLow (t : Nat) (s : State) : Host.Outcome State Fault Refusal :=
  .next (s.run t fun s => s.resetPinLow)

/-- R874. -/
def execResetNHigh (t : Nat) (s : State) : Host.Outcome State Fault Refusal :=
  .next (s.run t fun s => s.resetPinHigh)

/-- R869. -/
def execGlobalWatchdog (t : Nat) (s : State) : Host.Outcome State Fault Refusal :=
  .next (s.run t fun s => s.watchdogExpires)

/-- R869. -/
def execGlobalWatchdogService (t : Nat) (s : State) : Host.Outcome State Fault Refusal :=
  .next (s.run t fun s => s.watchdogServed)

/-- R868. -/
def execDebugReset (t : Nat) (s : State) : Host.Outcome State Fault Refusal :=
  .next (s.run t fun s => s.debugRequest)

/-- R871. -/
def execResetChip (t : Nat) (c : Caller) (s : State) : Host.Outcome State Fault Refusal :=
  .next (s.run t fun s => s.writeBy c 0x1301 0 [1, 0, 0, 0])

/-- R871. -/
def execResetSystem (t : Nat) (c : Caller) (s : State) : Host.Outcome State Fault Refusal :=
  .next (s.run t fun s => s.writeBy c 0x1301 0 [2, 0, 0, 0])

/-- R871. -/
def execResetIsland (t : Nat) (c : Caller) (island : Nat) (s : State) : Host.Outcome State Fault Refusal :=
  .next (s.run t fun s => s.writeBy c 0x1301 0 [3, byte island, 0, 0])

/-- R885. -/
def execResetBlock (t : Nat) (c : Caller) (island block : Nat) (s : State) : Host.Outcome State Fault Refusal :=
  .next (s.run t fun s => s.writeBy c 0x1301 0 (4 :: byte island :: leBytes 2 block))

/-- R874. -/
def execWipeComplete (t code : Nat) (s : State) : Host.Outcome State Fault Refusal :=
  .next (s.run t fun s => s.wipesDone code)

/-- R880. -/
def execReleaseRow (t : Nat) (s : State) : Host.Outcome State Fault Refusal :=
  .next (s.run t fun s => s.releaseRow)

/-- R879. -/
def execIslandClockTimeout (t : Nat) (i : Island) (s : State) : Host.Outcome State Fault Refusal :=
  .next (s.run t fun s => s.clockFails i)

end Sys2Proof.Machine
end

