-- ==== Sys2Proof/Machine/TimeCmds.lean ====
section
/-!
DEFINITION. The commands of the Timebase and of time inputs and outputs (13_timebase_time_io.md).
-/

namespace Sys2Proof.Machine

/-- An offset of a source. Source 1 is offered by the base, which offers nothing while SUSPECT (R429). -/
def State.timeOffset (s : State) (src : Nat) (off : Int) (bound : Nat) : State :=
  if src = 1 && s.base.st = 3 then s else s.offset src off bound

/-- An armed step; one that happened shows in the reference messages of CAN (R648, R737). -/
def State.timeStepped (s : State) : State :=
  let x := s.takeStep
  if s.tb.armed && !x.tb.armed then x.canStepped else x

/-- R634. -/
def execRefinLost (t : Nat) (s : State) : Host.Outcome State Fault Refusal :=
  .next (s.run t fun s => s.refinLost)

/-- R634. -/
def execRefinBack (t clock : Nat) (s : State) : Host.Outcome State Fault Refusal :=
  .next (s.run t fun s => s.refinBack clock)

/-- R638. -/
def execTimeOffset (t src : Nat) (off : Int) (bound : Nat) (s : State) : Host.Outcome State Fault Refusal :=
  .next (s.run t fun s => s.timeOffset src off bound)

/-- R638. -/
def execTimeSourceQualified (t src : Nat) (s : State) : Host.Outcome State Fault Refusal :=
  .next (s.run t fun s => s.qualify src)

/-- R642. -/
def execTimeAcquired (t : Nat) (s : State) : Host.Outcome State Fault Refusal :=
  .next (s.run t fun s => s.acquire)

/-- R649. -/
def execTimeStepArm (t : Nat) (c : Caller) (s : State) : Host.Outcome State Fault Refusal :=
  .next (s.run t fun s => s.writeBy c 0x2008 0 [1])

/-- R648. -/
def execTimeStepDisarm (t : Nat) (c : Caller) (s : State) : Host.Outcome State Fault Refusal :=
  .next (s.run t fun s => s.writeBy c 0x2008 0 [0])

/-- R648. -/
def execTimeStep (t : Nat) (s : State) : Host.Outcome State Fault Refusal :=
  .next (s.run t fun s => s.timeStepped)

/-- R652. -/
def execTimePulse (t output : Nat) (s : State) : Host.Outcome State Fault Refusal :=
  .next (s.run t fun s => s.pulseDue output)

/-- R652. -/
def execTimePulseEnd (t output : Nat) (s : State) : Host.Outcome State Fault Refusal :=
  .next (s.run t fun s => s.pulseEnd output)

/-- R656. -/
def execTimePulseCommit (t : Nat) (c : Caller) (output : Nat) (s : State) : Host.Outcome State Fault Refusal :=
  .next (s.run t fun s => if output < 8 then s.writeBy c (0x2100 + output) 0 [1] else s)

/-- R657. -/
def execTodMessage (t output : Nat) (s : State) : Host.Outcome State Fault Refusal :=
  .next (s.run t fun s => s.todDue output)

/-- R659. -/
def execTimeCapture (t input : Nat) (rising : Bool) (quarter : Nat) (s : State) : Host.Outcome State Fault Refusal :=
  .next (s.run t fun s => s.capEdge input rising quarter)

/-- R661. -/
def execCapturePostRetry (t input : Nat) (s : State) : Host.Outcome State Fault Refusal :=
  .next (s.run t fun s => s.postCaptures input 17)

/-- R637. -/
def execPpsTimeOfDay (t : Nat) (c : Caller) (v : Bytes) (s : State) : Host.Outcome State Fault Refusal :=
  .next (s.run t fun s => s.writeBy c 0x2019 0 v)

/-- R638. -/
def execTimeSourceNotPresent (t src : Nat) (s : State) : Host.Outcome State Fault Refusal :=
  .next (s.run t fun s => s.sourceGone src)

end Sys2Proof.Machine
end

