-- ==== Sys2Proof/Machine/TrackCmds.lean ====
section
/-!
DEFINITION. The commands of GNSS tracking (07_gnss_tracking.md).
-/

namespace Sys2Proof.Machine

/-- R346. -/
def execTrackEpoch (t : Nat) (meas : EpochMeas) (s : State) : Host.Outcome State Fault Refusal :=
  .next (s.run t fun s => if s.epochDue then s.trackEpoch meas.firsts meas.chans else s)

/-- R351. -/
def execNavMessage (t : Nat) (msg : NavUnit) (news : NavNews) (s : State) : Host.Outcome State Fault Refusal :=
  .next (s.run t fun s => s.navMessage msg news)

/-- R341. -/
def execChannelLockTransition (t ch : Nat) (obs : LockObs) (s : State) : Host.Outcome State Fault Refusal :=
  .next (s.run t fun s => s.lockStep ch obs)

/-- R341. -/
def execPullInTimeout (t ch : Nat) (s : State) : Host.Outcome State Fault Refusal :=
  .next (s.run t fun s => s.lockTimeout ch .pullIn (500 * ms))

/-- R341. -/
def execCoastTimeout (t ch : Nat) (s : State) : Host.Outcome State Fault Refusal :=
  .next (s.run t fun s => s.lockTimeout ch .coast sec)

/-- R334. -/
def execWatchDwell (t ch power : Nat) (s : State) : Host.Outcome State Fault Refusal :=
  .next (s.run t fun s => s.watchDwell ch power)

/-- R335. -/
def execSecondPeakClear (t system sat sig : Nat) (s : State) : Host.Outcome State Fault Refusal :=
  .next (s.run t fun s => s.clearPeak { system := system, sat := sat, signal := sig })

/-- R321, R323, R325 to R327. -/
def execAgcUpdate (t port : Nat) (tick : GsTick) (s : State) : Host.Outcome State Fault Refusal :=
  .next (s.run t fun s => s.agcUpdate port tick.edges tick.counter)

/-- R327. -/
def execGsJamClear (t port : Nat) (s : State) : Host.Outcome State Fault Refusal :=
  .next (s.run t fun s => s.jamClear port)

/-- R328. -/
def execGsClockLost (t port : Nat) (s : State) : Host.Outcome State Fault Refusal :=
  .next (s.run t fun s => s.clockLost port)

/-- R328. -/
def execGsClockBack (t port : Nat) (s : State) : Host.Outcome State Fault Refusal :=
  .next (s.run t fun s => s.clockBack port)

/-- R329. -/
def execGsGap (t port : Nat) (s : State) : Host.Outcome State Fault Refusal :=
  .next (s.run t fun s => s.gsGap port)

/-- R360. -/
def execTrackCommit (t : Nat) (c : Caller) (s : State) : Host.Outcome State Fault Refusal :=
  .next (s.run t fun s => s.writeBy c 0x3002 0 [1])

/-- R361. -/
def execTrackStandbyEnter (t : Nat) (c : Caller) (s : State) : Host.Outcome State Fault Refusal :=
  .next (s.run t fun s => s.writeBy c 0x3000 0 [1])

/-- R362. -/
def execTrackStandbyExit (t : Nat) (c : Caller) (s : State) : Host.Outcome State Fault Refusal :=
  .next (s.run t fun s => s.writeBy c 0x3000 0 [0])

/-- R338. -/
def execBumpJump (t ch : Nat) (corr : List Corr) (s : State) : Host.Outcome State Fault Refusal :=
  .next (s.run t fun s => s.bumpJump ch corr)

end Sys2Proof.Machine
end

