-- ==== Sys2Proof/Machine/Dispatch.lean ====
section
/-!
DEFINITION. Which meaning each command has: one arm per constructor, each one call.
-/

namespace Sys2Proof.Machine

def exec (i : Instr) (s : State) : Host.Outcome State Fault Refusal :=
  match i with
  | .dictWrite t c idx sub v => Sys2Proof.Machine.execDictWrite t c idx sub v s
  | .coilHello t raw => Sys2Proof.Machine.execCoilHello t raw s
  | .coilData t hdr body => Sys2Proof.Machine.execCoilData t hdr body s
  | .coilRead t sid req idx sub => Sys2Proof.Machine.execCoilRead t sid req idx sub s
  | .coilWrite t sid req idx sub v => Sys2Proof.Machine.execCoilWrite t sid req idx sub v s
  | .blockRead t sid req idx sub off max => Sys2Proof.Machine.execBlockRead t sid req idx sub off max s
  | .blockWrite t sid req idx sub off total data => Sys2Proof.Machine.execBlockWrite t sid req idx sub off total data s
  | .coilCommit t sid req idx sub => Sys2Proof.Machine.execCoilCommit t sid req idx sub s
  | .coilDiscard t sid req idx sub => Sys2Proof.Machine.execCoilDiscard t sid req idx sub s
  | .transact t sid req idx sub off total data => Sys2Proof.Machine.execTransact t sid req idx sub off total data s
  | .subscribe t sid req idx sub param => Sys2Proof.Machine.execSubscribe t sid req idx sub param s
  | .notify t sid idx sub => Sys2Proof.Machine.execNotify t sid idx sub s
  | .coilClose t hdr body => Sys2Proof.Machine.execCoilClose t hdr body s
  | .coilIdleTimeout t sid => Sys2Proof.Machine.execCoilIdleTimeout t sid s
  | .blockTransferAbandon t sid idx sub => Sys2Proof.Machine.execBlockTransferAbandon t sid idx sub s
  | .stageHoldTimeout t idx sub => Sys2Proof.Machine.execStageHoldTimeout t idx sub s
  | .stageDiscard t c idx => Sys2Proof.Machine.execStageDiscard t c idx s
  | .usdoUpload t port client kind idx sub => Sys2Proof.Machine.execUsdoUpload t port client kind idx sub s
  | .usdoDownload t port client kind idx sub v => Sys2Proof.Machine.execUsdoDownload t port client kind idx sub v s
  | .capCommit t c => Sys2Proof.Machine.execCapCommit t c s
  | .controllerIdClashEnd t => Sys2Proof.Machine.execControllerIdClashEnd t s
  | .islandFault t isl cause => Sys2Proof.Machine.execIslandFault t isl cause s
  | .islandRestartEnd t isl => Sys2Proof.Machine.execIslandRestartEnd t isl s
  | .islandFailed t isl cause => Sys2Proof.Machine.execIslandFailed t isl cause s
  | .islandWatchdogExpiry t isl => Sys2Proof.Machine.execIslandWatchdogExpiry t isl s
  | .protectedStoreError t store => Sys2Proof.Machine.execProtectedStoreError t store s
  | .correctedEccError t isl where_ => Sys2Proof.Machine.execCorrectedEccError t isl where_ s
  | .siteCommit t c => Sys2Proof.Machine.execSiteCommit t c s
  | .combEpochAge t => Sys2Proof.Machine.execCombEpochAge t s
  | .combIntake t c req => Sys2Proof.Machine.execCombIntake t c req s
  | .combAccept t => Sys2Proof.Machine.execCombAccept t s
  | .claim t seq => Sys2Proof.Machine.execClaim t seq s
  | .probe t seq => Sys2Proof.Machine.execProbe t seq s
  | .amend t seq => Sys2Proof.Machine.execAmend t seq s
  | .release t seq => Sys2Proof.Machine.execRelease t seq s
  | .area t seq => Sys2Proof.Machine.execArea t seq s
  | .query t seq => Sys2Proof.Machine.execQuery t seq s
  | .combWaitResume t seq => Sys2Proof.Machine.execCombWaitResume t seq s
  | .combTrim t seq => Sys2Proof.Machine.execCombTrim t seq s
  | .combSweep t bucket => Sys2Proof.Machine.execCombSweep t bucket s
  | .combBlocked t bucket slot => Sys2Proof.Machine.execCombBlocked t bucket slot s
  | .combBlockExpiry t bucket slot => Sys2Proof.Machine.execCombBlockExpiry t bucket slot s
  | .combClearBlocked t c => Sys2Proof.Machine.execCombClearBlocked t c s
  | .combRetire t group => Sys2Proof.Machine.execCombRetire t group s
  | .regionCommit t c => Sys2Proof.Machine.execRegionCommit t c s
  | .prepare t c msg => Sys2Proof.Machine.execPrepare t c msg s
  | .prepareAnswer t n exch resp => Sys2Proof.Machine.execPrepareAnswer t n exch resp s
  | .prepareTimeout t exch => Sys2Proof.Machine.execPrepareTimeout t exch s
  | .commitAbortRepeat t n exch => Sys2Proof.Machine.execCommitAbortRepeat t n exch s
  | .regionCommitMessage t c msg => Sys2Proof.Machine.execRegionCommitMessage t c msg s
  | .regionAbort t c msg => Sys2Proof.Machine.execRegionAbort t c msg s
  | .combPresumed t n exch => Sys2Proof.Machine.execCombPresumed t n exch s
  | .shorten t c msg => Sys2Proof.Machine.execShorten t c msg s
  | .sync t c msg => Sys2Proof.Machine.execSync t c msg s
  | .syncAnswer t n => Sys2Proof.Machine.execSyncAnswer t n s
  | .heartbeatSend t => Sys2Proof.Machine.execHeartbeatSend t s
  | .regionHeartbeat t c msg => Sys2Proof.Machine.execRegionHeartbeat t c msg s
  | .neighbourLost t n => Sys2Proof.Machine.execNeighbourLost t n s
  | .trackEpoch t meas => Sys2Proof.Machine.execTrackEpoch t meas s
  | .navMessage t msg news => Sys2Proof.Machine.execNavMessage t msg news s
  | .channelLockTransition t ch obs => Sys2Proof.Machine.execChannelLockTransition t ch obs s
  | .pullInTimeout t ch => Sys2Proof.Machine.execPullInTimeout t ch s
  | .coastTimeout t ch => Sys2Proof.Machine.execCoastTimeout t ch s
  | .watchDwell t ch power => Sys2Proof.Machine.execWatchDwell t ch power s
  | .secondPeakClear t system sat sig => Sys2Proof.Machine.execSecondPeakClear t system sat sig s
  | .agcUpdate t port tick => Sys2Proof.Machine.execAgcUpdate t port tick s
  | .gsJamClear t port => Sys2Proof.Machine.execGsJamClear t port s
  | .gsClockLost t port => Sys2Proof.Machine.execGsClockLost t port s
  | .gsClockBack t port => Sys2Proof.Machine.execGsClockBack t port s
  | .gsGap t port => Sys2Proof.Machine.execGsGap t port s
  | .trackCommit t c => Sys2Proof.Machine.execTrackCommit t c s
  | .trackStandbyEnter t c => Sys2Proof.Machine.execTrackStandbyEnter t c s
  | .trackStandbyExit t c => Sys2Proof.Machine.execTrackStandbyExit t c s
  | .devExposureArrival t pkt => Sys2Proof.Machine.execDevExposureArrival t pkt s
  | .devExposureStart t sky => Sys2Proof.Machine.execDevExposureStart t sky s
  | .devResult t slot sky => Sys2Proof.Machine.execDevResult t slot sky s
  | .devOwnSearchStart t => Sys2Proof.Machine.execDevOwnSearchStart t s
  | .devOwnSearchDone t x => Sys2Proof.Machine.execDevOwnSearchDone t x s
  | .devReacquireTick t sky => Sys2Proof.Machine.execDevReacquireTick t sky s
  | .devStandbyExposure t => Sys2Proof.Machine.execDevStandbyExposure t s
  | .devStandbyResult t x => Sys2Proof.Machine.execDevStandbyResult t x s
  | .baseEpoch t tick => Sys2Proof.Machine.execBaseEpoch t tick s
  | .baseCommit t c => Sys2Proof.Machine.execBaseCommit t c s
  | .surveyStartStandalone t c => Sys2Proof.Machine.execSurveyStartStandalone t c s
  | .surveyStartNetwork t c => Sys2Proof.Machine.execSurveyStartNetwork t c s
  | .surveyAbandon t c => Sys2Proof.Machine.execSurveyAbandon t c s
  | .baseNetPort t c req => Sys2Proof.Machine.execBaseNetPort t c req s
  | .roverObsArrival t pkt => Sys2Proof.Machine.execRoverObsArrival t pkt s
  | .roverEpochStart t => Sys2Proof.Machine.execRoverEpochStart t s
  | .roverEpochDone t slot sky => Sys2Proof.Machine.execRoverEpochDone t slot sky s
  | .roverReset t c slot => Sys2Proof.Machine.execRoverReset t c slot s
  | .confFix t slot => Sys2Proof.Machine.execConfFix t slot s
  | .confReported t slot => Sys2Proof.Machine.execConfReported t slot s
  | .confDeveloped t slot => Sys2Proof.Machine.execConfDeveloped t slot s
  | .confResultNotice t slot => Sys2Proof.Machine.execConfResultNotice t slot s
  | .confFreshnessTick t => Sys2Proof.Machine.execConfFreshnessTick t s
  | .confDeviceTick t => Sys2Proof.Machine.execConfDeviceTick t s
  | .policyCommit t c => Sys2Proof.Machine.execPolicyCommit t c s
  | .swarmCommand t c v => Sys2Proof.Machine.execSwarmCommand t c v s
  | .swarmCancel t c v => Sys2Proof.Machine.execSwarmCancel t c v s
  | .swarmInstant t => Sys2Proof.Machine.execSwarmInstant t s
  | .swarmDeadline t => Sys2Proof.Machine.execSwarmDeadline t s
  | .siPinChange t input pin level => Sys2Proof.Machine.execSiPinChange t input pin level s
  | .siDebounceExpiry t input pin => Sys2Proof.Machine.execSiDebounceExpiry t input pin s
  | .siDiscrepancy t input => Sys2Proof.Machine.execSiDiscrepancy t input s
  | .soFault t output p n => Sys2Proof.Machine.execSoFault t output p n s
  | .soPulseTest t output => Sys2Proof.Machine.execSoPulseTest t output s
  | .soPulseTestEnd t output p n => Sys2Proof.Machine.execSoPulseTestEnd t output p n s
  | .stopCommand t c v => Sys2Proof.Machine.execStopCommand t c v s
  | .stopNeighbourNotice t c msg => Sys2Proof.Machine.execStopNeighbourNotice t c msg s
  | .stopNoticeRepeat t n => Sys2Proof.Machine.execStopNoticeRepeat t n s
  | .stopVote t => Sys2Proof.Machine.execStopVote t s
  | .stopChannelDisagree t => Sys2Proof.Machine.execStopChannelDisagree t s
  | .releaseArm t c v => Sys2Proof.Machine.execReleaseArm t c v s
  | .releaseConfirm t c v => Sys2Proof.Machine.execReleaseConfirm t c v s
  | .linkEvent t slot => Sys2Proof.Machine.execLinkEvent t slot s
  | .linkReplyReceived t slot frame offset rssi => Sys2Proof.Machine.execLinkReplyReceived t slot frame offset rssi s
  | .linkSupervisionTimeout t slot => Sys2Proof.Machine.execLinkSupervisionTimeout t slot s
  | .linkJoinTimeout t slot => Sys2Proof.Machine.execLinkJoinTimeout t slot s
  | .beaconSend t modem => Sys2Proof.Machine.execBeaconSend t modem s
  | .joinRequest t modem frame => Sys2Proof.Machine.execJoinRequest t modem frame s
  | .neighbourBeacon t modem n frame => Sys2Proof.Machine.execNeighbourBeacon t modem n frame s
  | .waggleSend t modem => Sys2Proof.Machine.execWaggleSend t modem s
  | .radioCommit t c => Sys2Proof.Machine.execRadioCommit t c s
  | .radioNeighbourListen t c n v => Sys2Proof.Machine.execRadioNeighbourListen t c n v s
  | .linkParamRequest t c slot v => Sys2Proof.Machine.execLinkParamRequest t c slot v s
  | .linkUpdateInstant t slot => Sys2Proof.Machine.execLinkUpdateInstant t slot s
  | .linkEnd t c slot => Sys2Proof.Machine.execLinkEnd t c slot s
  | .machineIdWrite t c slot id => Sys2Proof.Machine.execMachineIdWrite t c slot id s
  | .radioSend t c req => Sys2Proof.Machine.execRadioSend t c req s
  | .radioWaggle t c req => Sys2Proof.Machine.execRadioWaggle t c req s
  | .refinLost t => Sys2Proof.Machine.execRefinLost t s
  | .refinBack t clock => Sys2Proof.Machine.execRefinBack t clock s
  | .timeOffset t src off bound => Sys2Proof.Machine.execTimeOffset t src off bound s
  | .timeSourceQualified t src => Sys2Proof.Machine.execTimeSourceQualified t src s
  | .timeAcquired t => Sys2Proof.Machine.execTimeAcquired t s
  | .timeStepArm t c => Sys2Proof.Machine.execTimeStepArm t c s
  | .timeStepDisarm t c => Sys2Proof.Machine.execTimeStepDisarm t c s
  | .timeStep t => Sys2Proof.Machine.execTimeStep t s
  | .timePulse t output => Sys2Proof.Machine.execTimePulse t output s
  | .timePulseEnd t output => Sys2Proof.Machine.execTimePulseEnd t output s
  | .timePulseCommit t c output => Sys2Proof.Machine.execTimePulseCommit t c output s
  | .todMessage t output => Sys2Proof.Machine.execTodMessage t output s
  | .timeCapture t input rising quarter => Sys2Proof.Machine.execTimeCapture t input rising quarter s
  | .capturePostRetry t input => Sys2Proof.Machine.execCapturePostRetry t input s
  | .ppsTimeOfDay t c v => Sys2Proof.Machine.execPpsTimeOfDay t c v s
  | .ethFrameReceived t port groups => Sys2Proof.Machine.execEthFrameReceived t port groups s
  | .ethFrameSent t port => Sys2Proof.Machine.execEthFrameSent t port s
  | .ethAddressAgeing t mac => Sys2Proof.Machine.execEthAddressAgeing t mac s
  | .ethPortConfig t c port v => Sys2Proof.Machine.execEthPortConfig t c port v s
  | .sgmiiControlWord t port word => Sys2Proof.Machine.execSgmiiControlWord t port word s
  | .ptpCommit t c => Sys2Proof.Machine.execPtpCommit t c s
  | .ptpSyncReceived t port msg => Sys2Proof.Machine.execPtpSyncReceived t port msg s
  | .ptpAnnounceReceived t port msg => Sys2Proof.Machine.execPtpAnnounceReceived t port msg s
  | .ptpAnnounceTimeout t port => Sys2Proof.Machine.execPtpAnnounceTimeout t port s
  | .ptpSyncTimeout t port => Sys2Proof.Machine.execPtpSyncTimeout t port s
  | .ptpAnnounceSend t port => Sys2Proof.Machine.execPtpAnnounceSend t port s
  | .ptpSyncSend t port => Sys2Proof.Machine.execPtpSyncSend t port s
  | .ptpDelayReqSend t port => Sys2Proof.Machine.execPtpDelayReqSend t port s
  | .ptpDelayReqReceived t port msg => Sys2Proof.Machine.execPtpDelayReqReceived t port msg s
  | .ptpDelayRespReceived t port msg => Sys2Proof.Machine.execPtpDelayRespReceived t port msg s
  | .canFrameReceived t port sof frame => Sys2Proof.Machine.execCanFrameReceived t port sof frame s
  | .canSend t c req => Sys2Proof.Machine.execCanSend t c req s
  | .canCancel t c req trying => Sys2Proof.Machine.execCanCancel t c req trying s
  | .canAttemptEnd t port buf sof outcome => Sys2Proof.Machine.execCanAttemptEnd t port buf sof outcome s
  | .canRecover t c port => Sys2Proof.Machine.execCanRecover t c port s
  | .canBusOffRecovered t port => Sys2Proof.Machine.execCanBusOffRecovered t port s
  | .canIntegrationDone t port => Sys2Proof.Machine.execCanIntegrationDone t port s
  | .canPortCommit t c port => Sys2Proof.Machine.execCanPortCommit t c port s
  | .canTmCommit t c => Sys2Proof.Machine.execCanTmCommit t c s
  | .canTmBoundary t => Sys2Proof.Machine.execCanTmBoundary t s
  | .canSleep t c port => Sys2Proof.Machine.execCanSleep t c port s
  | .canSleepEntry t port => Sys2Proof.Machine.execCanSleepEntry t port s
  | .canWakeWrite t c port => Sys2Proof.Machine.execCanWakeWrite t c port s
  | .canWakeEdge t port width => Sys2Proof.Machine.execCanWakeEdge t port width s
  | .canBufferAck t c port buf seq => Sys2Proof.Machine.execCanBufferAck t c port buf seq s
  | .canFifoPost t port fifo => Sys2Proof.Machine.execCanFifoPost t port fifo s
  | .fetch t hart timeout => Sys2Proof.Machine.execFetch t hart timeout s
  | .fetchGrant t hart wake => Sys2Proof.Machine.execFetchGrant t hart wake s
  | .fetchTimeout t hart => Sys2Proof.Machine.execFetchTimeout t hart s
  | .complete t hart v => Sys2Proof.Machine.execComplete t hart v s
  | .decrement t hart v => Sys2Proof.Machine.execDecrement t hart v s
  | .submit t hart idx lo hi => Sys2Proof.Machine.execSubmit t hart idx lo hi s
  | .reissue t hart idx => Sys2Proof.Machine.execReissue t hart idx s
  | .peekDescriptor t hart n look => Sys2Proof.Machine.execPeekDescriptor t hart n look s
  | .pop t hart q => Sys2Proof.Machine.execPop t hart q s
  | .queuePeek t hart q => Sys2Proof.Machine.execQueuePeek t hart q s
  | .push t hart q words => Sys2Proof.Machine.execPush t hart q words s
  | .queueOpen t hart q => Sys2Proof.Machine.execQueueOpen t hart q s
  | .tag t hart q v => Sys2Proof.Machine.execTag t hart q v s
  | .close t hart q => Sys2Proof.Machine.execClose t hart q s
  | .closeAbandon t hart q => Sys2Proof.Machine.execCloseAbandon t hart q s
  | .drop t hart q => Sys2Proof.Machine.execDrop t hart q s
  | .requestWindowSubmit t hart comb req reply => Sys2Proof.Machine.execRequestWindowSubmit t hart comb req reply s
  | .replyPost t hart => Sys2Proof.Machine.execReplyPost t hart s
  | .answer t hart token outcome data => Sys2Proof.Machine.execAnswer t hart token outcome data s
  | .appletNoAnswer t token => Sys2Proof.Machine.execAppletNoAnswer t token s
  | .keyWrite t ask v => Sys2Proof.Machine.execKeyWrite t ask v s
  | .keyErase t ask slot => Sys2Proof.Machine.execKeyErase t ask slot s
  | .keyInvalidate t ask slot => Sys2Proof.Machine.execKeyInvalidate t ask slot s
  | .keySlotReload t slot => Sys2Proof.Machine.execKeySlotReload t slot s
  | .seal t c req => Sys2Proof.Machine.execSeal t c req s
  | .unseal t c req => Sys2Proof.Machine.execUnseal t c req s
  | .forward t c req => Sys2Proof.Machine.execForward t c req s
  | .lifecycleProvision t c v => Sys2Proof.Machine.execLifecycleProvision t c v s
  | .lifecycleCommission t c v => Sys2Proof.Machine.execLifecycleCommission t c v s
  | .lifecycleDecommission t c v => Sys2Proof.Machine.execLifecycleDecommission t c v s
  | .lifecycleScrap t c v => Sys2Proof.Machine.execLifecycleScrap t c v s
  | .updateHeader t c v => Sys2Proof.Machine.execUpdateHeader t c v s
  | .updatePayload t sid req off total data => Sys2Proof.Machine.execUpdatePayload t sid req off total data s
  | .updateActivate t c => Sys2Proof.Machine.execUpdateActivate t c s
  | .updateConfirm t c => Sys2Proof.Machine.execUpdateConfirm t c s
  | .updateReject t c => Sys2Proof.Machine.execUpdateReject t c s
  | .trialTimeout t => Sys2Proof.Machine.execTrialTimeout t s
  | .settingsReset t ask => Sys2Proof.Machine.execSettingsReset t ask s
  | .configExport t sid req off max => Sys2Proof.Machine.execConfigExport t sid req off max s
  | .configImport t ask v => Sys2Proof.Machine.execConfigImport t ask v s
  | .configCommitRetry t => Sys2Proof.Machine.execConfigCommitRetry t s
  | .boantEnter t c => Sys2Proof.Machine.execBoantEnter t c s
  | .boantInfo t port msg => Sys2Proof.Machine.execBoantInfo t port msg s
  | .boantHeader t port msg => Sys2Proof.Machine.execBoantHeader t port msg s
  | .boantData t port msg => Sys2Proof.Machine.execBoantData t port msg s
  | .boantFinish t port msg => Sys2Proof.Machine.execBoantFinish t port msg s
  | .boantReset t port msg => Sys2Proof.Machine.execBoantReset t port msg s
  | .por up => Sys2Proof.Machine.execPor up s
  | .bor t => Sys2Proof.Machine.execBor t s
  | .borRelease t => Sys2Proof.Machine.execBorRelease t s
  | .resetNLow t => Sys2Proof.Machine.execResetNLow t s
  | .resetNHigh t => Sys2Proof.Machine.execResetNHigh t s
  | .globalWatchdog t => Sys2Proof.Machine.execGlobalWatchdog t s
  | .debugReset t => Sys2Proof.Machine.execDebugReset t s
  | .resetChip t c => Sys2Proof.Machine.execResetChip t c s
  | .resetSystem t c => Sys2Proof.Machine.execResetSystem t c s
  | .resetIsland t c island => Sys2Proof.Machine.execResetIsland t c island s
  | .resetBlock t c island block => Sys2Proof.Machine.execResetBlock t c island block s
  | .wipeComplete t code => Sys2Proof.Machine.execWipeComplete t code s
  | .releaseRow t => Sys2Proof.Machine.execReleaseRow t s
  | .islandClockTimeout t isl => Sys2Proof.Machine.execIslandClockTimeout t isl s
  | .tempHigh t isl temp => Sys2Proof.Machine.execTempHigh t isl temp s
  | .thermalTrip t isl temp => Sys2Proof.Machine.execThermalTrip t isl temp s
  | .thermalTripRelease t temps => Sys2Proof.Machine.execThermalTripRelease t temps s
  | .marginSample t slacks temps => Sys2Proof.Machine.execMarginSample t slacks temps s
  | .islandStepChange t isl => Sys2Proof.Machine.execIslandStepChange t isl s
  | .vreqStep t => Sys2Proof.Machine.execVreqStep t s
  | .sramRowSpare t row unc => Sys2Proof.Machine.execSramRowSpare t row unc s
  | .lpddrPageRetire t page unc => Sys2Proof.Machine.execLpddrPageRetire t page unc s
  | .counterSelect t c n v => Sys2Proof.Machine.execCounterSelect t c n v s
  | .counterSnapshot t c => Sys2Proof.Machine.execCounterSnapshot t c s
  | .logEvent t code sev island params => Sys2Proof.Machine.execLogEvent t code sev island params s
  | .logRecordWrite t => Sys2Proof.Machine.execLogRecordWrite t s
  | .logRecordClose t => Sys2Proof.Machine.execLogRecordClose t s
  | .logMirrorWrite t ok => Sys2Proof.Machine.execLogMirrorWrite t ok s
  | .timeMark t => Sys2Proof.Machine.execTimeMark t s
  | .logQuery t c req => Sys2Proof.Machine.execLogQuery t c req s
  | .logSeek t hart seq => Sys2Proof.Machine.execLogSeek t hart seq s
  | .emit t hart word params => Sys2Proof.Machine.execEmit t hart word params s
  | .globalWatchdogService t => Sys2Proof.Machine.execGlobalWatchdogService t s
  | .tempHighClear t temps => Sys2Proof.Machine.execTempHighClear t temps s
  | .timeSourceNotPresent t src => Sys2Proof.Machine.execTimeSourceNotPresent t src s
  | .pcsSyncChange t port synced => Sys2Proof.Machine.execPcsSyncChange t port synced s
  | .canErrorFrame t port => Sys2Proof.Machine.execCanErrorFrame t port s
  | .soFaultEnd t output p n => Sys2Proof.Machine.execSoFaultEnd t output p n s
  | .hyperperiodBoundary t modem => Sys2Proof.Machine.execHyperperiodBoundary t modem s
  | .bumpJump t ch corr => Sys2Proof.Machine.execBumpJump t ch corr s
  | .neighbourSessionOpen t n accept => Sys2Proof.Machine.execNeighbourSessionOpen t n accept s
  | .neighbourAnswer t n exch => Sys2Proof.Machine.execNeighbourAnswer t n exch s

end Sys2Proof.Machine
end

