-- ==== Sys2Proof/Safety.lean ====
section
/-!
DEFINITION. The words in which statements speak of a run: what a command answers, which parts of the state it may move, and when an
access reaches the object it names.
-/

namespace Sys2Proof.Machine

/-! ### Outcomes -/

/-- The command answers a next state, and `P` holds of it. -/
def Yields (o : Host.Outcome State Fault Refusal) (P : State → Prop) : Prop := ∃ u, o = .next u ∧ P u

/-! ### Parts of the state -/

/-- The parts of State, chapter by chapter. Requests and replies of the applet partition count apart from the Fabric island. -/
inductive Part where
  | now | silicon | cap | clash | islands | resets | health | dict | settings | keys | flash | boot | comb | track | dev | base | rover
  | conf | stop | radio | tb | outs | caps | net | can | fabric | dram | replies | log | out | free | pending
  deriving DecidableEq, Repr

/-- The Fabric island without requests and replies of the applet partition. -/
def Fabric.core (f : Fabric) : Fabric := { f with reqs := [], replies := [] }

/-- A part is the same in two states. -/
def Part.same (p : Part) (a b : State) : Prop :=
  match p with
  | .now => b.now = a.now
  | .silicon => b.silicon = a.silicon
  | .cap => b.cap = a.cap
  | .clash => b.clash = a.clash
  | .islands => b.islands = a.islands
  | .resets => b.resets = a.resets
  | .health => b.health = a.health
  | .dict => b.dict = a.dict
  | .settings => b.settings = a.settings
  | .keys => b.keys = a.keys
  | .flash => b.flash = a.flash
  | .boot => b.boot = a.boot
  | .comb => b.comb = a.comb
  | .track => b.track = a.track
  | .dev => b.dev = a.dev
  | .base => b.base = a.base
  | .rover => b.rover = a.rover
  | .conf => b.conf = a.conf
  | .stop => b.stop = a.stop
  | .radio => b.radio = a.radio
  | .tb => b.tb = a.tb
  | .outs => b.outs = a.outs
  | .caps => b.caps = a.caps
  | .net => b.net = a.net
  | .can => b.can = a.can
  | .fabric => b.fabric.core = a.fabric.core
  | .dram => b.dram = a.dram
  | .replies => b.fabric.reqs = a.fabric.reqs ∧ b.fabric.replies = a.fabric.replies
  | .log => b.log = a.log
  | .out => b.out = a.out
  | .free => b.free = a.free
  | .pending => b.pending = a.pending

/-- Between two states nothing differs but the listed parts. -/
def Only (ps : List Part) (a b : State) : Prop := ∀ p, p ∉ ps → p.same a b

/-- What any command may move: generations of objects, and the responses that leave (Table 3.6, R132). -/
def told : List Part := [.dict, .out, .replies]

/-- Every list that stands for a fixed number of things has that many: the 12 islands, the 64 event counters and their snapshot, the
8 rings and 12 neighbours of the Comb, the 4 sample ports, the 4 stop inputs and 4 stop outputs, the 10 rows and 4 totals of Conf, the
8 modems, the 4 time sources, the 8 time outputs and 4 captures, the 4 Ethernet and 8 CAN ports, the 16 harts, the 2 image slots. -/
abbrev State.sized (s : State) : Prop :=
  s.islands.length = 12 ∧ s.health.counters.length = 64 ∧ s.health.snapshot.length = 64 ∧ s.comb.intake.length = 8
    ∧ s.comb.nbrs.length = 12 ∧ s.track.ports.length = 4 ∧ s.stop.ins.length = 4 ∧ s.stop.outs.length = 4 ∧ s.conf.rows.length = 10
    ∧ s.conf.verdicts.length = 4 ∧ s.radio.modems.length = 8 ∧ s.tb.srcs.length = 4 ∧ s.outs.length = 8 ∧ s.caps.length = 4
    ∧ s.net.ports.length = 4 ∧ s.can.ports.length = 8 ∧ s.fabric.harts.length = 16 ∧ s.boot.imgs.length = 2

/-! ### Invariants and whole-device rules -/

/-- The keys of a table rise strictly, as every change of a table keeps them. -/
abbrev Tbl.rises {α : Type} (t : Tbl α) : Prop := (t.map Prod.fst).Pairwise (· < ·)

/-- The settings banks (and an imported one that waits), the device records, the volatile values and the values in force, and the bytes
of the shared SRAM and of LPDDR, are in their one canonical form. -/
abbrev State.canonical (s : State) : Prop :=
  Tbl.rises s.settings.bank0.values ∧ Tbl.rises s.settings.bank1.values ∧ Tbl.rises s.settings.records ∧ Tbl.rises s.settings.vol
    ∧ Tbl.rises s.settings.inForce ∧ (∀ b ∈ s.settings.imported.toList, Tbl.rises b.1.values) ∧ Memory.wf s.fabric.sram ∧ Memory.wf s.dram

/-- Commands that may clear a latch of channel B: the release's confirm, an access that can carry one to its object, and power-on,
after which only the all latch is set (R521, R526). -/
def mayClearLatch : Instr → Bool
  | .releaseConfirm _ _ _ | .dictWrite _ _ _ _ _ | .coilWrite _ _ _ _ _ _ | .coilData _ _ _ | .blockWrite _ _ _ _ _ _ _ _
  | .usdoDownload _ _ _ _ _ _ _ | .requestWindowSubmit _ _ _ _ _ | .por _ | .bor _ => true
  | _ => false

/-! ### Accesses (R112) -/

/-- A session takes the request as a new operation: it keeps no response to it, has none of its request_id in flight, and has a free
operation slot (R139, R143); and no record of an earlier command waits in it, as none does between two commands. -/
def Session.takes (x : Session) (f : InFlight) : Bool :=
  (x.keptFor f).isNone && !(x.flight.any fun g => g.req = f.req) && decide (x.flight.length < 32) && x.outbox.isEmpty

/-- The session has been sent this answer to this request, and keeps it (R143). -/
def State.answered (s : State) (i : Nat) (f : InFlight) (a : Ans) : Prop :=
  ∃ x g, Tbl.get? s.dict.sessions i = some x ∧ x.keptFor f = some (respRecord f a g)

/-- An operation waits in flight in a session that keeps no response to it. -/
def State.awaits (s : State) (i : Nat) (f : InFlight) : Bool :=
  match Tbl.get? s.dict.sessions i with
  | some x => decide (x.flight.find? (fun g => g.req = f.req) = some f) && x.outbox.isEmpty && (x.keptFor f).isNone
  | none => false

/-- From `s` to `u` a session that asked for an operation and waits for it is sent this answer, and keeps it (R143). -/
def State.replied (s : State) (c : Caller) (a : Ans) (u : State) : Prop :=
  ∀ i f, c = .coil i f.req → s.awaits i f = true → u.answered i f a

/-- It is the turn of an accepted Comb request: nothing before it is left to judge, and nothing makes it wait (R263, R264). -/
def State.turn (s : State) (f : Flight) (r : CombReq) : Bool :=
  s.up .comb && decide (s.flightOf f.seq = some f) && decide (f.phase = .judging) && decide (f.op = .request r) && !s.mustWait f
    && decide ((s.comb.flight.filter fun g => g.phase = .judging && (g.seq = f.seq || seqBefore g.seq f.seq)) = [f])

/-- No response waits to leave, but those that wait for the Network island to pass signals again (R54). -/
abbrev State.quiet (s : State) : Prop := (s.up .network = true → ∀ e ∈ s.dict.sessions, e.2.outbox = []) ∧ s.dict.applet.outbox = []

/-- The dictionary service runs, and an access passes check 1. -/
def State.admits (s : State) (c : Caller) (opcode k off : Nat) : Bool :=
  let f : InFlight := { req := Caller.req c, opcode := opcode, key := k, offset := off }
  s.serviceGasket.isNone && (match c with
    | .coil i _ => s.coilHears && (match Tbl.get? s.dict.sessions i with
      | some x => x.nbr.isNone && x.takes f
      | none => false)
    | .applet _ _ => s.dict.applet.takes f
    | .usdo _ _ => true
    | .firmware => true)

/-- An access passes checks 1 to 6, and its island's gasket is open. -/
def State.opens (s : State) (c : Caller) (op : Op) (opcode idx sub : Nat) : Bool :=
  s.admits c opcode (key idx sub) 0 && (match s.front c op idx sub with
    | .ok r => (s.gasketOf r).isNone
    | .error _ => false)

/-- A write of `v` passes checks 1 to 10, and its island's gasket is open: what it does is its object's own effect. -/
def State.writes (s : State) (c : Caller) (idx sub : Nat) (v : Bytes) : Bool :=
  s.opens c .write 2 idx sub && (match s.front c .write idx sub with
    | .ok r => (lengthCheck r v.length).isNone && (s.valueCheck r idx sub v).isNone
        && !(s.settings.readOnly && s.storesPersistent r idx sub)
        && (match r.heldGroup idx with
          | some g => !s.heldByOther c g
          | none => true)
    | .error _ => false)

/-- The object's block refuses the value (check 8). -/
def State.blockRefuses (s : State) (c : Caller) (r : ObjRow) (idx sub : Nat) (v : Bytes) : Bool :=
  !r.isCommit && (s.writeEffect c r idx sub v).2.any Ans.ofValue

/-- A read passes checks 1 to 6, its island's gasket is open, and the object has a value to read. -/
def State.reads (s : State) (c : Caller) (opcode idx sub off : Nat) : Bool :=
  s.admits c opcode (key idx sub) off && (match s.front c .read idx sub with
    | .ok r => (s.gasketOf r).isNone && (s.readRefusal idx).isNone
    | .error _ => false)

/-- The answer DONE with a value, which says the value's whole length too (Table 3.6). -/
def Ans.value (v : Bytes) (total : Nat) : Ans := { Ans.done v with total := total }

/-- A request to a port passes checks 1 to 7, and its island's gasket is open. -/
def State.requests (s : State) (c : Caller) (idx : Nat) (req : Bytes) : Bool :=
  s.opens c .transact 6 idx 0 && (match s.front c .transact idx 0 with
    | .ok r => (lengthCheck r req.length).isNone
    | .error _ => false)

/-- A well-formed region message of a type arrives over a session of neighbour n, with that neighbour's ID, which is not this
controller's (R294, R295, R46). -/
def State.hears (s : State) (c : Caller) (msg : Bytes) (n type : Nat) : Bool :=
  s.requests c 0x4050 msg && decide (s.nbrOfCaller c = some n) && u msg 2 2 = s.nbrId n && u msg 2 2 ≠ s.controllerId && regionMsgOk msg
    && u msg 0 1 = type

end Sys2Proof.Machine
end

