-- ==== Sys2Proof/Certificates/Slice0/Obligations.lean ====
section
/-!
DEFINITION. The statements: what the commands do, what they leave unchanged, what every step keeps. In each, `a` is the state at the
command's arrival: the state before it with the clock moved to its instant (log entry 1). `Yields` says that the command answers a
next state. `Only` names the parts that may differ: every clause that bears it is a frame. Where a statement rests on a choice of the
model, its docstring names the log entry.
-/

set_option maxRecDepth 4000

open Sys2Proof Sys2Proof.Machine

/-- With a command at the front of the queue, step is exec of it on the state with the rest of the queue. On an empty queue step
answers the same state (the model's choice, log entry 8). The model's choices in it: log entry 8. -/
def Obligations.StepTakesFront : Prop :=
  (∀ (s : State) (c : Instr) (rest : List Instr), s.pending = c :: rest → step s = exec c { s with pending := rest })
  ∧ (∀ (s : State), s.pending = [] → step s = .next s)

/-- State.reset is sized and canonical, no response waits in it, and no command is pending. The model's choices in it: log entry 4. -/
def Obligations.ResetInvariants : Prop :=
  State.reset.sized ∧ State.reset.canonical ∧ State.reset.quiet ∧ State.reset.pending = []

/-- After reset every island runs, both channels hold the all latch with source 11 and no slot is go, the Logbook holds no SRAM
record and numbers from 1 in power cycle 0, the last reset is the power-on reset, no session is open, TIME64 is free running,
queues and Comb entries are empty, and every object has its default. That State.reset is the end of the release is the model's
choice (log entry 4). The model's choices in it: log entry 4. -/
def Obligations.ResetLeaves : Prop :=
  (∀ i, State.reset.up i = true) ∧ bit (State.reset.stop.a.bits .all) 11 = true ∧ bit (State.reset.stop.b.bits .all) 11 = true
    ∧ State.reset.stop.a.go = [] ∧ State.reset.stop.b.go = [] ∧ State.reset.log.slots = [] ∧ State.reset.log.count = 1 ∧ State.reset.log.cycle = 0
    ∧ State.reset.resets.last = ⟨1, 0, 0, 0xFF, 1⟩ ∧ State.reset.dict.sessions = [] ∧ State.reset.tb.st = .freerun
    ∧ State.reset.fabric.queues = [] ∧ State.reset.comb.entries = [] ∧ (∀ k, State.reset.val k = State.reset.dflt k)

/-- For every command and state exec answers a next state; its clock is not earlier, the part's fuses are the same, the queue is
untouched, and no session or partition has a response still to be sent, but those that wait for the Network island (R54). The
model's choices in it: log entries 1, 9. -/
def Obligations.CommandsComplete : Prop :=
  ∀ (s : State) (c : Instr), Yields (exec c s) fun u => s.now ≤ u.now ∧ u.silicon = s.silicon ∧ u.pending = s.pending ∧ u.quiet

/-- For every state in which the islands, counters, rings, neighbours, ports, stop inputs and outputs, policy rows, modems, time
sources, outputs, captures, harts and image slots have their numbers, a step leaves them so. -/
def Obligations.StepKeepsSized : Prop :=
  ∀ (s u : State), s.sized → step s = .next u → u.sized

/-- For every state whose settings banks, device records, volatile values, values in force and waiting imported bank have strictly
rising keys, and whose shared SRAM and LPDDR list bytes at strictly rising addresses and none that is 0, a step leaves them so. -/
def Obligations.StepKeepsCanonical : Prop :=
  ∀ (s u : State), s.canonical → step s = .next u → u.canonical

/-- For every state, every latch of Table 11.4 and every source bit: if the command at the front of the queue is neither power-on,
nor ReleaseConfirm, nor an access that can carry a ReleaseConfirm to its object, then after the step channel B still has every
source bit it had. -/
def Obligations.LatchesOnlyReleased : Prop :=
  ∀ (s u : State) (c : Instr) (rest : List Instr) (l : Latch) (n : Nat),
    s.pending = c :: rest → mayClearLatch c = false → step s = .next u → bit (s.stop.b.bits l) n = true → bit (u.stop.b.bits l) n = true

/-- Whatever the command: if a source of power-on, chip or system reach is asserted after it that was not before, both channels have
source 11 in the all latch. POR, BOR and RESET_N do so in every state, ResetCommand 1 and 2 wherever they are accepted.
Formalises R526. -/
def Obligations.ResetsLatchAll : Prop :=
  (∀ (s w : State) (c : Instr) (x : Asserted), exec c s = .next w → x ∈ w.resets.asserted → x ∉ s.resets.asserted → x.reach ≤ 2 →
    bit (w.stop.a.bits .all) 11 = true ∧ bit (w.stop.b.bits .all) 11 = true)
  ∧ (∀ (s : State) (t : Nat) (k : Torn),
    (Yields (exec (.por ⟨t, k⟩) s) fun w => bit (w.stop.a.bits .all) 11 = true ∧ bit (w.stop.b.bits .all) 11 = true)
    ∧ (Yields (exec (.bor t) s) fun w => bit (w.stop.a.bits .all) 11 = true ∧ bit (w.stop.b.bits .all) 11 = true)
    ∧ Yields (exec (.resetNLow t) s) fun w => bit (w.stop.a.bits .all) 11 = true ∧ bit (w.stop.b.bits .all) 11 = true)
  ∧ (∀ (s : State) (t : Nat) (c : Caller) (v : Bytes), let a := s.advance t
    v = [1, 0, 0, 0] ∨ v = [2, 0, 0, 0] → a.writes c 0x1301 0 v = true → a.stoppedAll = true →
    Yields (exec (if v = [1, 0, 0, 0] then .resetChip t c else .resetSystem t c) s) fun w =>
      bit (w.stop.a.bits .all) 11 = true ∧ bit (w.stop.b.bits .all) 11 = true)

/-- A write above 16,383 to 0x1005 that passes the earlier checks is answered VALUE_HIGH and changes nothing; one of at most 16,383
is stored while the settings can be written. Formalises R34. -/
def Obligations.ControllerIdRange : Prop :=
  (∀ (s : State) (t sid req : Nat) (v : Bytes), let a := s.advance t
    a.opens (.coil sid req) .write 2 0x1005 0 = true → v.length = 2 → 16383 < u v 0 2 →
    Yields (exec (.coilWrite t sid req 0x1005 0 v) s) fun w =>
      w.answered sid ⟨req, 2, key 0x1005 0, 0⟩ Ans.high ∧ Only told a w)
  ∧ (∀ (s : State) (t : Nat) (c : Caller) (v : Bytes), let a := s.advance t
    a.opens c .write 2 0x1005 0 = true → v.length = 2 → 16383 < u v 0 2 →
    Yields (exec (.dictWrite t c 0x1005 0 v) s) fun w => Only told a w)
  ∧ (∀ (s : State) (t : Nat) (c : Caller) (v : Bytes), let a := s.advance t
    a.opens c .write 2 0x1005 0 = true → v.length = 2 → u v 0 2 ≤ 16383 → a.settings.readOnly = false →
    Yields (exec (.dictWrite t c 0x1005 0 v) s) fun w => w.cfg 0x1005 0 = u v 0 2)

/-- A commit of a cap profile whose tier, service or package is above the fused one is answered CAP_BEYOND_SILICON and leaves the
active profile, and everything but generations and the response, as it was. Formalises R36. -/
def Obligations.CapBeyondSilicon : Prop :=
  (∀ (s : State) (t sid req : Nat) (r : ObjRow), let a := s.advance t
    let v := a.cfg 0x1010 1
    let beyond := bit v 7 && (decide (a.silicon.tier < capTier v) || (capService v && !a.silicon.sService) || (capPackageA v && !a.silicon.packageA))
    a.admits (.coil sid req) 5 (key 0x1010 0) 0 = true → a.front (.coil sid req) .commit 0x1010 0 = .ok r → a.gasketOf r = none →
    a.heldByOther (.coil sid req) 0x1010 = false → a.settings.readOnly = false → beyond = true →
    Yields (exec (.coilCommit t sid req 0x1010 0) s) fun w =>
      w.answered sid ⟨req, 5, key 0x1010 0, 0⟩ (Ans.bad 0x05100001) ∧ w.readVal 0x1011 0 = a.readVal 0x1011 0 ∧ Only told a w)
  ∧ (∀ (s : State) (t : Nat) (c : Caller), let a := s.advance t
    let v := a.cfg 0x1010 1
    let beyond := bit v 7 && (decide (a.silicon.tier < capTier v) || (capService v && !a.silicon.sService) || (capPackageA v && !a.silicon.packageA))
    a.writes c 0x1010 0 [1] = true → beyond = true →
    Yields (exec (.capCommit t c) s) fun w => w.readVal 0x1011 0 = a.readVal 0x1011 0 ∧ Only told a w)

/-- For every stage group: a commit whose block finds a broken rule is answered with that rule's code, and every stored value,
active and shadow, is as before, as is everything else but generations and the response. Formalises R103. -/
def Obligations.RefusedCommitKeeps : Prop :=
  (∀ (s : State) (t sid req idx : Nat) (r : ObjRow) (x : Ans), let a := s.advance t
    idx ∈ commitIndices → a.admits (.coil sid req) 5 (key idx 0) 0 = true → a.front (.coil sid req) .commit idx 0 = .ok r →
    a.gasketOf r = none → a.heldByOther (.coil sid req) idx = false → a.settings.readOnly = false → a.groupCheck idx = some x →
    Yields (exec (.coilCommit t sid req idx 0) s) fun w =>
      w.answered sid ⟨req, 5, key idx 0, 0⟩ x ∧ (∀ k, w.val k = a.val k) ∧ Only told a w)
  ∧ (∀ (s : State) (t idx : Nat) (c : Caller) (x : Ans), let a := s.advance t
    idx ∈ commitIndices → a.writes c idx 0 [1] = true → a.groupCheck idx = some x →
    Yields (exec (.dictWrite t c idx 0 [1]) s) fun w => (∀ k, w.val k = a.val k) ∧ Only told a w)

/-- While the settings bank is read-only, a write or a commit that would store a persistent value and passes the checks before is
answered SETTINGS_READ_ONLY, and nothing of it applies. Formalises R96. -/
def Obligations.ReadOnlySettings : Prop :=
  (∀ (s : State) (t sid req idx sub : Nat) (v : Bytes) (r : ObjRow), let a := s.advance t
    a.admits (.coil sid req) 2 (key idx sub) 0 = true → a.front (.coil sid req) .write idx sub = .ok r → lengthCheck r v.length = none →
    a.valueCheck r idx sub v = none → a.blockRefuses (.coil sid req) r idx sub v = false → (∀ g, r.heldGroup idx = some g → a.heldByOther (.coil sid req) g = false) → v.length ≤ 1348 →
    a.settings.readOnly = true → a.storesPersistent r idx sub = true →
    Yields (exec (.coilWrite t sid req idx sub v) s) fun w =>
      w.answered sid ⟨req, 2, key idx sub, 0⟩ Ans.readOnly ∧ Only told a w)
  ∧ (∀ (s : State) (t sid req idx : Nat) (r : ObjRow), let a := s.advance t
    a.admits (.coil sid req) 5 (key idx 0) 0 = true → a.front (.coil sid req) .commit idx 0 = .ok r →
    a.heldByOther (.coil sid req) idx = false → a.settings.readOnly = true → ((a.groupKeys idx).any fun m => a.persists m.1) = true →
    Yields (exec (.coilCommit t sid req idx 0) s) fun w =>
      w.answered sid ⟨req, 5, key idx 0, 0⟩ Ans.readOnly ∧ Only told a w)

/-- POR and BOR set count to 1 and the power cycle to one more than the highest of the undamaged mirror records, or 0 with none, a
record that the loss of power tore not among them. RESET_N, the watchdog, debug and thermal resets, their releases, ResetCommand
and each step of a release leave both as they were. Formalises R906. -/
def Obligations.PowerCycleSeq : Prop :=
  (∀ (s : State) (t : Nat) (k : Torn), let a := s.advance t
    let top (l : Logbook) : List Nat := (l.mirror.filter fun r => !r.damaged).map LogRec.cycle
    let m := if k = .mirror then a.log.torn else a.log
    s.sized →
    (Yields (exec (.por ⟨t, k⟩) s) fun w => w.log.count = 1 ∧ (top m = [] → w.log.cycle = 0) ∧ ∀ x ∈ top m, x < w.log.cycle ∧ ((∀ y ∈ top m, y ≤ x) → w.log.cycle = x + 1))
    ∧ (Yields (exec (.bor t) s) fun w => w.log.count = 1 ∧ (top a.log = [] → w.log.cycle = 0) ∧ ∀ x ∈ top a.log, x < w.log.cycle ∧ ((∀ y ∈ top a.log, y ≤ x) → w.log.cycle = x + 1)))
  ∧ (∀ (s : State) (t code : Nat) (i : Island) (temp : Int) (l : List Int),
    (Yields (exec (.resetNLow t) s) fun w => w.log.cycle = s.log.cycle ∧ w.log.count = s.log.count)
    ∧ (Yields (exec (.resetNHigh t) s) fun w => w.log.cycle = s.log.cycle ∧ w.log.count = s.log.count)
    ∧ (Yields (exec (.globalWatchdog t) s) fun w => w.log.cycle = s.log.cycle ∧ w.log.count = s.log.count)
    ∧ (Yields (exec (.debugReset t) s) fun w => w.log.cycle = s.log.cycle ∧ w.log.count = s.log.count)
    ∧ (Yields (exec (.thermalTrip t i temp) s) fun w => w.log.cycle = s.log.cycle ∧ w.log.count = s.log.count)
    ∧ (Yields (exec (.thermalTripRelease t l) s) fun w => w.log.cycle = s.log.cycle ∧ w.log.count = s.log.count)
    ∧ (Yields (exec (.wipeComplete t code) s) fun w => w.log.cycle = s.log.cycle ∧ w.log.count = s.log.count)
    ∧ (Yields (exec (.releaseRow t) s) fun w => w.log.cycle = s.log.cycle ∧ w.log.count = s.log.count)
    ∧ Yields (exec (.islandClockTimeout t i) s) fun w => w.log.cycle = s.log.cycle ∧ w.log.count = s.log.count)
  ∧ (∀ (s : State) (t island block : Nat) (c : Caller),
    (Yields (exec (.resetChip t c) s) fun w => w.log.cycle = s.log.cycle ∧ w.log.count = s.log.count)
    ∧ (Yields (exec (.resetSystem t c) s) fun w => w.log.cycle = s.log.cycle ∧ w.log.count = s.log.count)
    ∧ (Yields (exec (.resetIsland t c island) s) fun w => w.log.cycle = s.log.cycle ∧ w.log.count = s.log.count)
    ∧ (Yields (exec (.resetBlock t c island block) s) fun w => w.log.cycle = s.log.cycle ∧ w.log.count = s.log.count))

/-- An event offered by any source with a severity below LogMinSeverity changes nothing, whether the device offers it, the LOG_EVENT
row does, or an applet's EMIT does (which still leaves its staged bytes). Formalises R907. -/
def Obligations.LowSeverityEvents : Prop :=
  (∀ (s : State) (e : LogEv), e.sev < s.cfg 0x1408 0 → s.offer e = s)
  ∧ (∀ (s : State) (t code sev island : Nat) (params : Bytes), let a := s.advance t
    sev < a.cfg 0x1408 0 →
    Yields (exec (.logEvent t code sev island params) s) fun w => Only told a w)
  ∧ (∀ (s : State) (t h word : Nat) (stage : Bytes), let a := s.advance t
    a.hartRuns h = true → a.up .aon = true → emitOk word = true → bits word 16 3 < a.cfg 0x1408 0 →
    Yields (exec (.emit t h word stage) s) fun w =>
      w.log = a.log.setWin h (fun x => { x with stage := fit 40 stage }) ∧ Only (told ++ [Part.log]) a w)

/-- Where an access passes the checks, a Coil read, a block read from any offset, a unicast USDO upload and a DATA datagram of one
READ record answer the value the object has; other USDO kinds are aborted; a segment of a TRANSACT is kept and noted, and a
whole request to LogQuery is answered. Nothing else moves. Rules: R90, R127, R132, R133, R146. The model's choices in it: log
entries 14, 15. -/
def Obligations.ReadsAnswer : Prop :=
  (∀ (s : State) (t sid req idx sub : Nat), let a := s.advance t
    a.reads (.coil sid req) 1 idx sub 0 = true → idx ≠ 0x1230 →
    Yields (exec (.coilRead t sid req idx sub) s) fun u =>
      u.answered sid { req := req, opcode := 1, key := key idx sub, offset := 0 }
        (if 1348 < (a.readVal idx sub).length then Ans.tooLarge else Ans.value (a.readVal idx sub) (a.readVal idx sub).length)
      ∧ Only told a u)
  ∧ (∀ (s : State) (t sid req idx sub off max : Nat), let a := s.advance t
    a.reads (.coil sid req) 3 idx sub off = true → idx ≠ 0x1230 ∨ off ≠ 0 → 1 ≤ max → max ≤ 1348 →
    Yields (exec (.blockRead t sid req idx sub off max) s) fun u =>
      u.answered sid { req := req, opcode := 3, key := key idx sub, offset := off }
        (if (a.readVal idx sub).length < off then Ans.high else Ans.value (slice (a.readVal idx sub) off max) (a.readVal idx sub).length)
      ∧ Only told a u)
  ∧ (∀ (s : State) (t port client idx sub : Nat), let a := s.advance t
    a.servesUsdo port = true → a.canUp port = true → a.reads (.usdo port client) 0 idx sub 0 = true → idx ≠ 0x1230 →
    Yields (exec (.usdoUpload t port client .unicast idx sub) s) fun u =>
      Out.usdoUp port client (a.usdoType idx sub) (a.readVal idx sub) ∈ u.out ∧ Only told a u)
  ∧ (∀ (s : State) (t port client idx sub : Nat) (kind : UsdoKind), let a := s.advance t
    a.servesUsdo port = true → a.canUp port = true → a.up .compute = true → kind ≠ .unicast →
    Yields (exec (.usdoUpload t port client kind idx sub) s) fun u =>
      Out.usdo port client 0x06010000 [] ∈ u.out ∧ Only told a u)
  ∧ (∀ (s : State) (t sid req idx sub : Nat) (hdr : Bytes) (body : Sealed), let a := s.advance t
    a.opened hdr body 3 = some sid → a.reads (.coil sid req) 1 idx sub 0 = true → idx ≠ 0x1230 → (a.readVal idx sub).length ≤ 1348 →
    records (body.plain.length / 20 + 1) body.plain
      = [{ opcode := 1, flags := 0, req := req, idx := idx, sub := sub, res := 0, offset := 0, param := 0, data := [] }] →
    Yields (exec (.coilData t hdr body) s) fun u =>
      u.answered sid { req := req, opcode := 1, key := key idx sub, offset := 0 }
        (Ans.value (a.readVal idx sub) (a.readVal idx sub).length))
  ∧ (∀ (s : State) (t sid req idx sub total : Nat) (data : Bytes), let a := s.advance t
    a.admits (.coil sid req) 6 (key idx sub) 0 = true → a.segmentCheck (.coil sid req) 6 idx sub total = none → idx ≠ 0x1211 →
    data.length < total → data.length ≤ 1348 →
    Yields (exec (.transact t sid req idx sub 0 total data) s) fun u =>
      u.answered sid { req := req, opcode := 6, key := key idx sub, offset := 0 } Ans.note
        ∧ (∃ x, Tbl.get? u.dict.sessions sid = some x ∧
            x.xferOf (key idx sub) = some { opcode := 6, key := key idx sub, total := total, data := data, last := a.now })
        ∧ Only told a u)
  ∧ (∀ (s : State) (t sid req : Nat) (data : Bytes), let a := s.advance t
    a.requests (.coil sid req) 0x1410 data = true → 
    Yields (exec (.transact t sid req 0x1410 0 0 data.length data) s) fun u =>
      u.answered sid { req := req, opcode := 6, key := key 0x1410 0, offset := 0 } (a.logQuery data) ∧ Only told a u)

/-- DICT_WRITE, WRITE, USDO download and a segment of BLOCK_WRITE: where the access passes the checks, a plain rw object or a shadow
takes the value, every other object keeps its own, and the caller is answered DONE (DONE_NOTE for a partial block). Rules: R89,
R112, R132, R134, R146. The model's choices in it: log entry 14. -/
def Obligations.WritesStore : Prop :=
  (∀ (s : State) (t idx sub : Nat) (c : Caller) (v : Bytes) (r : ObjRow), let a := s.advance t
    a.writes c idx sub v = true → idx < 0x6000 ∨ 0x7000 ≤ idx → findObj idx sub = some r → r.isCommit = false → r.acc = 2 →
    idx ≠ 0x3000 → ¬ (0x2820 ≤ idx ∧ idx < 0x2828 ∧ sub = 8) → ¬ (0x7000 ≤ idx ∧ sub = 1) → a.blockCheck idx sub v = none →
    Yields (exec (.dictWrite t c idx sub v) s) fun u =>
      u.cfgB idx sub = v ∧ ∀ k, k ≠ key idx sub → u.val k = a.val k)
  ∧ (∀ (s : State) (t idx sub : Nat) (c : Caller) (v : Bytes) (r : ObjRow), let a := s.advance t
    a.writes c idx sub v = true → idx < 0x6000 ∨ 0x7000 ≤ idx → findObj idx sub = some r → r.isCommit = false → r.acc = 4 → r.commit ≠ 0 →
    Yields (exec (.dictWrite t c idx sub v) s) fun u =>
      u.cfgB idx sub = v ∧ (∀ k, k ≠ key idx sub → u.val k = a.val k) ∧ Only (told ++ [Part.settings]) a u)
  ∧ (∀ (s : State) (t sid req idx sub : Nat) (v : Bytes) (r : ObjRow), let a := s.advance t
    a.writes (.coil sid req) idx sub v = true → idx < 0x6000 ∨ 0x7000 ≤ idx → findObj idx sub = some r → r.isCommit = false → r.acc = 2 →
    idx ≠ 0x3000 → ¬ (0x2820 ≤ idx ∧ idx < 0x2828 ∧ sub = 8) → ¬ (0x7000 ≤ idx ∧ sub = 1) → a.blockCheck idx sub v = none → v.length ≤ 1348 →
    Yields (exec (.coilWrite t sid req idx sub v) s) fun u =>
      u.cfgB idx sub = v ∧ (∀ k, k ≠ key idx sub → u.val k = a.val k)
        ∧ u.answered sid { req := req, opcode := 2, key := key idx sub, offset := 0 } (Ans.done []))
  ∧ (∀ (s : State) (t port client idx sub : Nat) (ty : CanType) (v : Bytes) (r : ObjRow), let a := s.advance t
    a.servesUsdo port = true → a.canUp port = true → canTypeOf r.ty = ty →
    a.writes (.usdo port client) idx sub v = true → idx < 0x6000 ∨ 0x7000 ≤ idx → findObj idx sub = some r → r.isCommit = false → r.acc = 2 →
    idx ≠ 0x3000 → ¬ (0x2820 ≤ idx ∧ idx < 0x2828 ∧ sub = 8) → ¬ (0x7000 ≤ idx ∧ sub = 1) → a.blockCheck idx sub v = none →
    Yields (exec (.usdoDownload t port client .unicast idx sub ⟨ty, v⟩) s) fun u =>
      u.cfgB idx sub = v ∧ (∀ k, k ≠ key idx sub → u.val k = a.val k) ∧ Out.usdo port client 0 [] ∈ u.out)
  ∧ (∀ (s : State) (t sid req idx sub total : Nat) (data : Bytes), let a := s.advance t
    a.admits (.coil sid req) 4 (key idx sub) 0 = true → a.segmentCheck (.coil sid req) 4 idx sub total = none → idx ≠ 0x1211 →
    data.length < total → data.length ≤ 1348 →
    Yields (exec (.blockWrite t sid req idx sub 0 total data) s) fun u =>
      u.answered sid { req := req, opcode := 4, key := key idx sub, offset := 0 } Ans.note
        ∧ (∃ x, Tbl.get? u.dict.sessions sid = some x ∧
            x.xferOf (key idx sub) = some { opcode := 4, key := key idx sub, total := total, data := data, last := a.now })
        ∧ Only told a u)

/-- A commit that its block validates makes each active member equal to its shadow and leaves every other value; a discard,
StageDiscard and the hold timeout make each shadow equal to its active value and leave every other. CapCommit leaves the profile
in force. Rules: R36, R102, R108, R109, R360, R413, R513, R681, R713, R734. The model's choices in it: log entry 14. -/
def Obligations.StageGroups : Prop :=
  (∀ (s : State) (t : Nat) (w : Caller), let a := s.advance t
    a.writes w 0x1010 0 [1] = true → a.groupCheck 0x1010 = none →
    Yields (exec (.capCommit t w) s) fun u =>
      u.val (key 0x1011 0) = a.val (key 0x1010 1) ∧ (∀ k, k ≠ key 0x1011 0 → u.val k = a.val k) ∧ u.cap = a.cap)
  ∧ (∀ (s : State) (t : Nat) (w : Caller), let a := s.advance t
    a.writes w 0x3002 0 [1] = true → a.groupCheck 0x3002 = none →
    Yields (exec (.trackCommit t w) s) fun u =>
      (∀ m ∈ memberKeys 0x3002, u.val m.2 = a.val m.1) ∧ (∀ k, k ∉ (memberKeys 0x3002).map Prod.snd → u.val k = a.val k))
  ∧ (∀ (s : State) (t : Nat) (w : Caller), let a := s.advance t
    a.writes w 0x3600 0 [1] = true → a.groupCheck 0x3600 = none →
    Yields (exec (.baseCommit t w) s) fun u =>
      (∀ m ∈ memberKeys 0x3600, u.val m.2 = a.val m.1) ∧ (∀ k, k ∉ (memberKeys 0x3600).map Prod.snd → u.val k = a.val k))
  ∧ (∀ (s : State) (t : Nat) (w : Caller), let a := s.advance t
    a.writes w 0x4800 0 [1] = true → a.groupCheck 0x4800 = none →
    Yields (exec (.policyCommit t w) s) fun u =>
      (∀ m ∈ memberKeys 0x4800, u.val m.2 = a.val m.1) ∧ (∀ k, k ∉ (memberKeys 0x4800).map Prod.snd → u.val k = a.val k))
  ∧ (∀ (s : State) (t : Nat) (w : Caller), let a := s.advance t
    a.writes w 0x2440 0 [1] = true → a.groupCheck 0x2440 = none →
    Yields (exec (.ptpCommit t w) s) fun u =>
      (∀ m ∈ memberKeys 0x2440, u.val m.2 = a.val m.1) ∧ (∀ k, k ∉ (memberKeys 0x2440).map Prod.snd → u.val k = a.val k))
  ∧ (∀ (s : State) (t : Nat) (w : Caller), let a := s.advance t
    a.writes w 0x2830 0 [1] = true → a.groupCheck 0x2830 = none →
    Yields (exec (.canTmCommit t w) s) fun u =>
      u.val (key 0x2830 2) = a.val (key 0x2830 1) ∧ (∀ k, k ≠ key 0x2830 2 → u.val k = a.val k))
  ∧ (∀ (s : State) (t port : Nat) (w : Caller), let a := s.advance t
    port < 8 → a.writes w (0x2820 + port) 0 [1] = true → a.groupCheck (0x2820 + port) = none →
    Yields (exec (.canPortCommit t w port) s) fun u =>
      u.cfgB (0x2820 + port) 3 = a.cfgB (0x2820 + port) 1 ∧ u.cfgB (0x2820 + port) 4 = a.cfgB (0x2820 + port) 2
        ∧ (∀ k, k ≠ key (0x2820 + port) 3 → k ≠ key (0x2820 + port) 4 → u.val k = a.val k))
  ∧ (∀ (s : State) (t sid req idx : Nat) (r : ObjRow), let a := s.advance t
    a.admits (.coil sid req) 5 (key idx 0) 0 = true → a.front (.coil sid req) .commit idx 0 = .ok r → a.gasketOf r = none →
    idx ∈ commitIndices → idx ≠ 0x4000 → idx ≠ 0x4040 → idx ≠ 0x2C00 → a.heldByOther (.coil sid req) idx = false →
    a.settings.readOnly = false → a.groupCheck idx = none →
    Yields (exec (.coilCommit t sid req idx 0) s) fun u =>
      (∀ m ∈ memberKeys idx, u.val m.2 = a.val m.1) ∧ (∀ k, k ∉ (memberKeys idx).map Prod.snd → u.val k = a.val k))
  ∧ (∀ (s : State) (t sid req idx : Nat) (r : ObjRow), let a := s.advance t
    a.admits (.coil sid req) 5 (key idx 0) 0 = true → a.front (.coil sid req) .commit idx 0 = .ok r → a.gasketOf r = none →
    idx ∈ commitIndices → a.heldByOther (.coil sid req) idx = false →
    Yields (exec (.coilDiscard t sid req idx 0) s) fun u =>
      (∀ m ∈ memberKeys idx, u.val m.1 = a.val m.2) ∧ (∀ k, k ∉ (memberKeys idx).map Prod.fst → u.val k = a.val k)
        ∧ Only (told ++ [Part.settings]) a u)
  ∧ (∀ (s : State) (t idx : Nat) (w : Caller) (r : ObjRow), let a := s.advance t
    a.writes w 0x1021 0 (leBytes 2 idx) = true → findObj idx 0 = some r → idx ∈ commitIndices → r.priv ≤ a.privOf w → a.gasketOf r = none → a.heldByOther w idx = false →
    Yields (exec (.stageDiscard t w idx) s) fun u =>
      (∀ m ∈ memberKeys idx, u.val m.1 = a.val m.2) ∧ (∀ k, k ∉ (memberKeys idx).map Prod.fst → u.val k = a.val k)
        ∧ Only (told ++ [Part.settings]) a u)
  ∧ (∀ (s : State) (t idx : Nat) (h : Hold), let a := s.advance t
    idx ∈ commitIndices → a.up .compute = true → a.holdOf idx = some h → h.last + a.cfg 0x1022 0 * sec ≤ a.now →
    Yields (exec (.stageHoldTimeout t idx 0) s) fun u =>
      u.holdOf idx = none ∧ (∀ m ∈ memberKeys idx, u.val m.1 = a.val m.2) ∧ (∀ k, k ∉ (memberKeys idx).map Prod.fst → u.val k = a.val k)
        ∧ Only (told ++ [Part.settings]) a u)

/-- An accepted HELLO opens a session with derived keys and answers an ACCEPT; a refused one is counted. SUBSCRIBE, NOTIFY, CLOSE,
the idle timeout, the abandon of a block transfer, and the end of an ID clash do what chapter 3 and R46 say. Rules: R46, R119,
R129, R130, R136, R139, R141. The model's choices in it: log entries 14, 15, 46. -/
def Obligations.Sessions : Prop :=
  (∀ (s : State) (t : Nat) (raw : Bytes), let a := s.advance t
    let slot := u raw 16 2
    let priv := min (u raw 18 1) (a.keySlot slot).ceiling
    a.coilOn = true → u raw 0 1 = 1 → a.helloOk raw = true →
    Yields (exec (.coilHello t raw) s) fun v => ∃ (sid : Nat) (nonce : Bytes) (x : Session),
      let d := coilKeys (a.keySlot slot).material (slice raw 20 32) nonce sid slot priv
      let head := acceptHead sid slot priv a.controllerId nonce
      1 ≤ sid ∧ Out.accept (head ++ acceptConfirm d head) ∈ v.out ∧ Tbl.get? v.dict.sessions sid = some x
        ∧ x.slot = slot ∧ x.priv = priv ∧ x.keyIn = hostKey d ∧ x.ivIn = hostIv d ∧ x.keyOut = devKey d ∧ x.ivOut = devIv d
        ∧ Only [Part.dict, Part.replies, Part.out, Part.free] a v)
  ∧ (∀ (s : State) (t : Nat) (raw : Bytes), let a := s.advance t
    a.coilOn = true → u raw 0 1 = 1 → raw.length ≤ 1400 → a.helloOk raw = false →
    Yields (exec (.coilHello t raw) s) fun v =>
      v.dict.refused = wrap 32 (a.dict.refused + 1) ∧ v.log = (a.logEv .coilRefused []).log ∧ Only (told ++ [Part.log]) a v)
  ∧ (∀ (s : State) (t sid req idx sub period : Nat) (onch : Bool) (x : Session) (r : ObjRow), let a := s.advance t
    a.admits (.coil sid req) 7 (key idx sub) 0 = true → Tbl.get? a.dict.sessions sid = some x →
    (x.subOf (key idx sub)).isSome ∨ x.subs.length < 64 → a.front (.coil sid req) .read idx sub = .ok r → a.gasketOf r = none →
    period < 65536 → 10 ≤ period ∨ (period = 0 ∧ onch = true) →
    Yields (exec (.subscribe t sid req idx sub (period + 65536 * onch.toNat)) s) fun u =>
      u.answered sid { req := req, opcode := 7, key := key idx sub, offset := 0 } (Ans.done [])
        ∧ ((Tbl.get? u.dict.sessions sid).bind fun y => (y.subOf (key idx sub)).map fun z => (z.req, z.period, z.onChange, z.count, z.last))
          = some (req, period, onch, 0, a.now) ∧ Only told a u)
  ∧ (∀ (s : State) (t sid idx sub : Nat) (x : Session) (y : Sub), let a := s.advance t
    sid ≠ 0 → a.up .compute = true → Tbl.get? a.dict.sessions sid = some x → x.subOf (key idx sub) = some y →
    y.onChange = false → y.last + y.period * ms ≤ a.now →
    Yields (exec (.notify t sid idx sub) s) fun u => Only told a u
      ∧ ((Tbl.get? u.dict.sessions sid).bind fun z => (z.subOf (key idx sub)).map fun w => (w.req, w.period, w.count, w.last))
        = some (y.req, y.period, wrap 32 (y.count + 1), a.now))
  ∧ (∀ (s : State) (t i : Nat) (hdr : Bytes) (body : Sealed) (x : Session), let a := s.advance t
    a.opened hdr body 4 = some i → body.plain = [] → Tbl.get? a.dict.sessions i = some x →
    Yields (exec (.coilClose t hdr body) s) fun u =>
      (x.nbr = none → Out.close i (x.txSeq + 1) (x.datagram 4 (x.txSeq + 1) []) ∈ u.out) ∧ Tbl.get? u.dict.sessions i = none ∧ Only (told ++ [Part.settings, Part.comb]) a u)
  ∧ (∀ (s : State) (t sid : Nat) (x : Session), let a := s.advance t
    a.up .compute = true → Tbl.get? a.dict.sessions sid = some x → x.nbr = none → x.last + a.cfg 0x1032 0 * sec ≤ a.now →
    Yields (exec (.coilIdleTimeout t sid) s) fun u =>
      (a.up .network = true → Out.close sid (x.txSeq + 1) (x.datagram 4 (x.txSeq + 1) []) ∈ u.out) ∧ Tbl.get? u.dict.sessions sid = none ∧ Only (told ++ [Part.settings, Part.comb]) a u)
  ∧ (∀ (s : State) (t sid idx sub : Nat) (x : Session), let a := s.advance t
    sid ≠ 0 → Tbl.get? a.dict.sessions sid = some x →
    Yields (exec (.blockTransferAbandon t sid idx sub) s) fun u =>
      (Tbl.get? u.dict.sessions sid).map Session.xfers
        = some (x.xfers.filter fun f => !(f.key = key idx sub && f.last + 10 * sec ≤ a.now)) ∧ Only told a u)
  ∧ (∀ (s : State) (t : Nat) (x : Clash), let a := s.advance t
    a.clash = some x → x.last + 3 * (a.cfg 0x4048 0 * ms) ≤ a.now →
    Yields (exec (.controllerIdClashEnd t) s) fun u => u.clash = none ∧ Only (told ++ [Part.clash, Part.stop]) a u)

/-- A fault or watchdog expiry of a running island makes it restart, counted and with its cause; within 40 us and below three faults
it runs again; else it fails, and no other island moves. Each protected store of Table 2.7 takes an uncorrectable error as
stated; a corrected error is counted. Rules: R72, R73, R74, R76, R77, R81, R868. The model's choices in it: log entry 36. -/
def Obligations.IslandFaults : Prop :=
  (∀ (s : State) (t : Nat) (i : Island) (c : FaultCause), let a := s.advance t
    s.sized → a.up i = true → faultSeen i c = true →
    Yields (exec (.islandFault t i c) s) fun u =>
      u.isl i = { a.isl i with st := .restarting, since := a.now, restarts := wrap 32 ((a.isl i).restarts + 1), faults := a.now :: a.recentFaults i,
                               cause := faultCode c, third := decide (2 ≤ (a.recentFaults i).length) }
      ∧ ∀ j, j ≠ i → u.isl j = a.isl j)
  ∧ (∀ (s : State) (t : Nat) (i : Island) (c : FaultCause), let a := s.advance t
    a.up i = false ∨ faultSeen i c = false → Yields (exec (.islandFault t i c) s) fun u => Only told a u)
  ∧ (∀ (s : State) (t : Nat) (i : Island), let a := s.advance t
    s.sized → a.up i = true →
    Yields (exec (.islandWatchdogExpiry t i) s) fun u =>
      u.isl i = { a.isl i with st := .restarting, since := a.now, restarts := wrap 32 ((a.isl i).restarts + 1), faults := a.now :: a.recentFaults i,
                               cause := 3, third := decide (2 ≤ (a.recentFaults i).length) }
      ∧ ∀ j, j ≠ i → u.isl j = a.isl j)
  ∧ (∀ (s : State) (t : Nat) (i : Island), let a := s.advance t
    s.sized → (a.isl i).st = .restarting → a.now ≤ (a.isl i).since + 40 * us → (a.isl i).third = false →
    Yields (exec (.islandRestartEnd t i) s) fun u =>
      u.isl i = { a.isl i with st := .running, back := a.now } ∧ ∀ j, j ≠ i → u.isl j = a.isl j)
  ∧ (∀ (s : State) (t : Nat) (i : Island) (c : FailCause), let a := s.advance t
    s.sized → (a.isl i).st = .restarting →
    (c = .restartLate ∧ (a.isl i).since + 40 * us ≤ a.now) ∨ c = .storeCheck ∨ (c = .thirdFault ∧ (a.isl i).third = true) →
    Yields (exec (.islandFailed t i c) s) fun u =>
      (u.isl i).st = .failed ∧ ∀ j, j ≠ i → u.isl j = a.isl j)
  ∧ (∀ (s : State) (t slot : Nat) (x : KeySlot), let a := s.advance t
    Tbl.get? a.keys.slots slot = some x → x.st = .valid →
    Yields (exec (.protectedStoreError t (.keySlot slot)) s) fun u =>
      Tbl.get? u.keys.slots slot = some { x with st := .damaged } ∧ Only (told ++ [Part.keys]) a u)
  ∧ (∀ (s : State) (t m : Nat), let a := s.advance t
    m < a.tier → a.up .memory = true →
    Yields (exec (.protectedStoreError t (.roverState m)) s) fun u =>
      u.rover = { a.rover with blocks := Tbl.upd a.rover.blocks (a.rover.pointer m) fun b => { b with damaged := true } } ∧ Only (told ++ [Part.rover]) a u)
  ∧ (∀ (s : State) (t i : Nat) (r : LogRec), let a := s.advance t
    a.up .aon = true → Tbl.get? a.log.slots i = some r →
    Yields (exec (.protectedStoreError t (.logRecord i)) s) fun u =>
      Tbl.get? u.log.slots i = some { r with damaged := true } ∧ Only (told ++ [Part.log]) a u)
  ∧ (∀ (s : State) (t q i : Nat), let a := s.advance t
    q < 1024 → i < (a.fabric.queue q).pkts.length → a.up .fabric = true →
    Yields (exec (.protectedStoreError t (.queuePacket q i)) s) fun u =>
      (u.fabric.queue q).drops = wrap 32 ((a.fabric.queue q).drops + 1) ∧ (u.fabric.queue q).pkts = (a.fabric.queue q).pkts.eraseIdx i)
  ∧ (∀ (s : State) (t d : Nat), let a := s.advance t
    d < 65536 → a.up .fabric = true →
    Yields (exec (.protectedStoreError t (.brood d)) s) fun u =>
      (u.fabric.desc d).st = .free ∧ (u.fabric.desc d).outcome = 0x40)
  ∧ (∀ (s : State) (t m : Nat) (l : Link), let a := s.advance t
    a.up .radio = true → a.link? m = some l →
    Yields (exec (.protectedStoreError t (.linkEntry m)) s) fun u =>
      u.link? m = none ∧ u.radio.ended = wrap 32 (a.radio.ended + 1))
  ∧ (∀ (s : State) (t b slot : Nat), let a := s.advance t
    b < a.buckets → slot < 32 → a.up .comb = true →
    Yields (exec (.protectedStoreError t (.combBucket b slot)) s) fun u =>
      { bucket := b, slot := slot, detect := a.ct, open_ := a.comb.openIn.vote.contains b : Blocked } ∈ u.comb.blocked
      ∧ ∀ e ∈ u.comb.entries, ¬ (e.bucket = b ∧ e.slot = slot))
  ∧ (∀ (s : State) (t : Nat) (i : Island), let a := s.advance t
    s.sized → a.up i = true →
    Yields (exec (.correctedEccError t i .elsewhere) s) fun u =>
      u.isl i = { a.isl i with ecc := wrap 32 ((a.isl i).ecc + 1) } ∧ (∀ j, j ≠ i → u.isl j = a.isl j)
      ∧ u.health.rowErrs = a.health.rowErrs ∧ u.health.pageErrs = a.health.pageErrs)
  ∧ (∀ (s : State) (t b r : Nat) (i : Island), let a := s.advance t
    s.sized → a.up i = true →
    Yields (exec (.correctedEccError t i (.row b r)) s) fun u =>
      (u.isl i).ecc = wrap 32 ((a.isl i).ecc + 1) ∧ (∀ j, j ≠ i → u.isl j = a.isl j)
      ∧ Tbl.get? u.health.rowErrs (rowKey i.id b r) = some (a.now :: (Tbl.getD a.health.rowErrs (rowKey i.id b r) []).filter fun e => a.now < e + 86400 * sec))
  ∧ (∀ (s : State) (t p : Nat) (i : Island), let a := s.advance t
    s.sized → a.up i = true →
    Yields (exec (.correctedEccError t i (.page p)) s) fun u =>
      (u.isl i).ecc = wrap 32 ((a.isl i).ecc + 1) ∧ (∀ j, j ≠ i → u.isl j = a.isl j)
      ∧ Tbl.get? u.health.pageErrs p = some (a.now :: (Tbl.getD a.health.pageErrs p []).filter fun e => a.now < e + 86400 * sec))

/-- When it is a request's turn, the judgement of its kind decides what the Comb holds afterwards and what is answered; a probe and
a query change no entries. Rules: R221, R228, R230, R231, R233, R236. The model's choices in it: log entry 19. -/
def Obligations.CombJudgements : Prop :=
  (∀ (s : State) (t : Nat) (f : Flight) (r : CombReq), let a := s.advance t
    let q := Creq.of r.req
    let j := a.judge q f 0
    let w := a.writeEntries (q.demand f) j.2
    a.turn f r = true → q.op = 1 → j.1.good = true → a.nbrParts j.2 = [] →
    Yields (exec (.claim t f.seq) s) fun v =>
      v.comb.entries = (w.comb.commitSeq f.seq).entries ∧ q.track r.req f.tacc (a.comb.mirrorFor f.tacc q.owner q.tag) ∈ v.comb.tracks ∧ v.flightOf f.seq = none
      ∧ a.replied r.caller ⟨(Verdict.ok j.1.note j.1.ents 0).out, 0,
          combResp 1 q.owner q.tag q.ref f.seq (Verdict.ok j.1.note j.1.ents 0), 0⟩ v)
  ∧ (∀ (s : State) (t op : Nat) (f : Flight) (r : CombReq) (c : Instr), let a := s.advance t
    let q := Creq.of r.req
    let j := a.judge q f 0
    a.turn f r = true → (op, c) ∈ [(1, Instr.claim t f.seq), (3, Instr.amend t f.seq), (5, Instr.area t f.seq)] → q.op = op → j.1.good = false →
    Yields (exec c s) fun v =>
      v.comb.entries = a.comb.entries ∧ v.comb.tracks = a.comb.tracks ∧ v.flightOf f.seq = none
      ∧ a.replied r.caller ⟨j.1.out, combAbort j.1.out,
          combResp op q.owner q.tag q.ref f.seq j.1, 0⟩ v)
  ∧ (∀ (s : State) (t : Nat) (f : Flight) (r : CombReq), let a := s.advance t
    let q := Creq.of r.req
    let p := (a.seenBefore f).probeVerdict q f
    a.turn f r = true → q.op = 2 →
    Yields (exec (.probe t f.seq) s) fun v =>
      v.comb.entries = a.comb.entries ∧ v.comb.tracks = a.comb.tracks ∧ v.flightOf f.seq = none
      ∧ a.replied r.caller ⟨p.out, combAbort p.out, combResp 2 q.owner q.tag q.ref f.seq p, 0⟩ v)
  ∧ (∀ (s : State) (t : Nat) (f : Flight) (r : CombReq), let a := s.advance t
    let q := Creq.of r.req
    let j := a.judge q f 0
    let w := a.writeEntries (q.demand f) j.2
    a.turn f r = true → q.op = 3 → j.1.good = true → a.nbrParts j.2 = [] →
    Yields (exec (.amend t f.seq) s) fun v =>
      v.comb.entries = (({ w.comb with entries := w.comb.entries.filter fun e => !(e.of q.owner q.tag && e.seq = 0) } : Comb).commitSeq f.seq).entries
      ∧ q.track r.req f.tacc (a.comb.mirrorFor f.tacc q.owner q.tag) ∈ v.comb.tracks ∧ v.flightOf f.seq = none)
  ∧ (∀ (s : State) (t : Nat) (f : Flight) (r : CombReq), let a := s.advance t
    let q := Creq.of r.req
    let x := a.comb.cutBy a.buckets f.tacc (fun e => e.owner = q.owner && (q.allTags || e.tag = q.tag) && e.live f.tacc) (Entry.cut (max q.base f.tacc))
    a.turn f r = true → q.op = 4 → a.earlyChecks q f.tacc 0 = none → f.counted = true → x.2.2 = none →
    Yields (exec (.release t f.seq) s) fun v =>
      v.comb.entries = x.1.entries ∧ v.flightOf f.seq = none
      ∧ a.replied r.caller ⟨0, 0,
          combResp 4 q.owner q.tag q.ref f.seq (Verdict.ok 0 x.2.1.length 0), 0⟩ v)
  ∧ (∀ (s : State) (t : Nat) (f : Flight) (r : CombReq), let a := s.advance t
    let q := Creq.of r.req
    let j := a.judge q f 0
    let w := a.writeEntries (q.demand f) j.2
    a.turn f r = true → q.op = 5 → q.force = false → j.1.good = true → a.nbrParts j.2 = [] →
    Yields (exec (.area t f.seq) s) fun v =>
      v.comb.entries = (w.comb.commitSeq f.seq).entries ∧ q.track r.req f.tacc (a.comb.mirrorFor f.tacc q.owner q.tag) ∈ v.comb.tracks ∧ v.flightOf f.seq = none)
  ∧ (∀ (s : State) (t : Nat) (f : Flight) (r : CombReq), let a := s.advance t
    let q := Creq.of r.req
    let j := a.judge q f 0
    let w := a.writeEntries (q.demand f) j.2
    let z := w.forceArea f.tacc ((w.comb.entries.filter fun e => e.seq = f.seq).map Entry.cov)
    a.turn f r = true → q.op = 5 → q.force = true → j.1.good = true → a.nbrParts j.2 = [] →
    Yields (exec (.area t f.seq) s) fun v =>
      v.comb.entries = (z.1.comb.commitSeq f.seq).entries ∧ q.track r.req f.tacc (a.comb.mirrorFor f.tacc q.owner q.tag) ∈ v.comb.tracks ∧ v.flightOf f.seq = none)
  ∧ (∀ (s : State) (t : Nat) (f : Flight) (r : CombReq), let a := s.advance t
    let q := Creq.of r.req
    let es := (a.seenBefore f).comb.queryCell f.tacc q
    a.turn f r = true → q.op = 6 → a.earlyChecks q f.tacc 0 = none → f.counted = true →
    Yields (exec (.query t f.seq) s) fun v =>
      v.comb.entries = a.comb.entries ∧ v.comb.tracks = a.comb.tracks ∧ v.flightOf f.seq = none
      ∧ a.replied r.caller ⟨if es.length ≤ 32 then 0 else 1, 0,
          combResp 6 q.owner q.tag q.ref f.seq (Verdict.ok (if 32 < es.length then 16 else 0) (min 32 es.length) 0)
              ++ (es.take 32).flatMap Entry.bytes, 0⟩ v)

/-- Requests enter rings of 64, are accepted in order and numbered, wait where R264 says; trims, sweeps, BLOCKED slots, retired
groups and the epoch age do what their rules say; a site commit empties the Comb. Rules: R183, R190, R240, R244, R255, R257,
R264, R311, R313, R314, R316. The model's choices in it: log entry 19. -/
def Obligations.CombStorage : Prop :=
  (∀ (s : State) (t : Nat) (w : Caller) (req : Bytes), let a := s.advance t
    let q := (Creq.of req).intake
    a.requests w 0x4020 req = true → a.intakeCheck w req = none →
    Yields (exec (.combIntake t w req) s) fun v =>
      v.comb = (if (a.comb.intake.getD q []).length < 64 then { a.comb with intake := modNth a.comb.intake q (· ++ [⟨w, req⟩]) }
        else { a.comb with outside := a.comb.outside ++ [⟨w, req⟩] }) ∧ Only (told ++ [Part.comb]) a v)
  ∧ (∀ (s : State) (t : Nat) (w : Caller) (req : Bytes) (o : Nat), let a := s.advance t
    a.requests w 0x4020 req = true → a.intakeCheck w req = some o →
    Yields (exec (.combIntake t w req) s) fun v => v.comb = a.comb ∧ Only (told ++ [Part.health]) a v)
  ∧ (∀ (s : State) (t q : Nat) (x : CombReq) (rest : List CombReq), let a := s.advance t
    a.up .comb = true → q < 8 → (∀ p, p < q → a.comb.intake.getD p [] = []) → a.comb.intake.getD q [] = x :: rest →
    Yields (exec (.combAccept t) s) fun v =>
      v.comb.flight = a.comb.flight ++ [⟨nextSeq a.comb.seqLast, a.ct, .request x, decide (a.inFlight < a.flightLimit), .judging,
            a.parsOf (FlightOp.request x).owner, a.frozenNow, [], []⟩]
      ∧ v.comb.seqLast = nextSeq a.comb.seqLast
      ∧ v.comb.intake = (({ a.comb with intake := modNth a.comb.intake q fun _ => rest } : Comb).refill q).intake
      ∧ v.comb.entries = a.comb.entries ∧ Only (told ++ [Part.comb, Part.health]) a v)
  ∧ (∀ (s : State) (t : Nat) (f : Flight) (r : CombReq), let a := s.advance t
    let q := Creq.of r.req
    let j := a.judge q f 0
    let w := a.writeEntries (q.demand f) j.2
    a.up .comb = true → a.flightOf f.seq = some f → f.phase = .waiting → f.op = .request r → a.mustWait f = false →
    q.op = 1 → j.1.good = true → a.nbrParts j.2 = [] →
    Yields (exec (.combWaitResume t f.seq) s) fun v =>
      v.comb.entries = (w.comb.commitSeq f.seq).entries ∧ q.track r.req f.tacc (a.comb.mirrorFor f.tacc q.owner q.tag) ∈ v.comb.tracks ∧ v.flightOf f.seq = none)
  ∧ (∀ (s : State) (t : Nat) (f : Flight) (m : TrimOp) (x : Track) (tau : Nat), let a := s.advance t
    let r := Creq.of x.req
    let here := a.trimHere m (r.marginWith f.pars) r.footprint
    let ahead := (coverage a.pitch r.footprint (r.marginWith f.pars) tau (r.tEnd 0) (posesFrom (r.poses 0) tau)).map fun c => (c.q, c.r)
    let y := (a.comb.endFlight f.seq).cutBy a.buckets f.tacc
        (fun e => e.of m.owner m.tag && e.live f.tacc && !(here.contains (e.q, e.r) || ahead.contains (e.q, e.r))) (Entry.cut (m.f + f.pars.guard))
    a.up .comb = true → a.flightOf f.seq = some f → f.phase = .judging → f.op = .trim m → a.mustWait f = false →
    (a.comb.flight.filter fun g => g.phase = .judging && (g.seq = f.seq || seqBefore g.seq f.seq)) = [f] →
    a.comb.trackOf m.owner m.tag = some x → trimProgress f.pars m x r = some tau → y.2.2 = none →
    Yields (exec (.combTrim t f.seq) s) fun v =>
      v.comb.entries = y.1.entries ∧ v.flightOf f.seq = none)
  ∧ (∀ (s : State) (t bucket : Nat), let a := s.advance t
    Yields (exec (.combSweep t bucket) s) fun v =>
      v.comb.entries = (a.comb.entries.filter fun e => e.bucket ≠ bucket || e.live (a.comb.reapAt a.ct))
      ∧ v.comb.blocked = (a.comb.blocked.filter fun x => x.bucket ≠ bucket || x.holds (a.comb.reapAt a.ct)))
  ∧ (∀ (s : State) (t b slot : Nat), let a := s.advance t
    b < a.buckets → slot < 32 → a.up .comb = true →
    Yields (exec (.combBlocked t b slot) s) fun u =>
      u.comb.blocked = (a.comb.blocked.filter fun x => !(x.bucket = b && x.slot = slot))
        ++ [⟨b, slot, a.ct, a.comb.openIn.vote.contains b⟩]
      ∧ u.comb.entries = a.comb.entries.filter fun e => !(e.bucket = b && e.slot = slot))
  ∧ (∀ (s : State) (t b slot : Nat), let a := s.advance t
    let c : Comb := { a.comb with blocked := a.comb.blocked.filter fun x => !(x.bucket = b && x.slot = slot) || x.holds a.ct }
    Yields (exec (.combBlockExpiry t b slot) s) fun u =>
      u.comb = { c with openIn := Triple.of c.openBuckets, nearFull := u.comb.nearFull } ∧ Only (told ++ [Part.comb, Part.log]) a u)
  ∧ (∀ (s : State) (t : Nat) (w : Caller), let a := s.advance t
    let c : Comb := { a.comb with blocked := [] }
    a.writes w 0x4035 0 [1] = true → a.stoppedAll = true →
    Yields (exec (.combClearBlocked t w) s) fun u =>
      u.comb = { c with openIn := Triple.of c.openBuckets, nearFull := u.comb.nearFull } ∧ Only (told ++ [Part.comb, Part.log]) a u)
  ∧ (∀ (s : State) (t : Nat) (w : Caller), let a := s.advance t
    a.writes w 0x4035 0 [1] = true → a.stoppedAll = false →
    Yields (exec (.combClearBlocked t w) s) fun u => Only told a u)
  ∧ (∀ (s : State) (t g : Nat), let a := s.advance t
    a.comb.retiring.contains g = true → (∀ e ∈ a.comb.entries, e.bucket / 64 = g → e.live a.ct = false) →
    Yields (exec (.combRetire t g) s) fun u =>
      u.comb.retired = a.comb.retired ++ [g] ∧ u.comb.retiring = a.comb.retiring.filter (· ≠ g)
      ∧ u.comb.entries = (a.comb.entries.filter fun e => e.bucket / 64 ≠ g) ∧ u.comb.blocked = a.comb.blocked.filter fun b => b.bucket / 64 ≠ g)
  ∧ (∀ (s : State) (t c : Nat), let a := s.advance t
    a.ctime = some c → 0xF000000000 ≤ c → (∀ d, a.comb.ageAt = some d → d + 86400 * sec ≤ a.now) →
    Yields (exec (.combEpochAge t) s) fun u =>
      u.comb = { a.comb with ageAt := some a.now } ∧ u.log = (a.logEv .combEpochAge []).log ∧ Only (told ++ [Part.comb, Part.log]) a u)
  ∧ (∀ (s : State) (t : Nat) (w : Caller), let a := s.advance t
    a.writes w 0x4000 0 [1] = true → a.groupCheck 0x4000 = none → a.up .comb = true → a.comb.flight = [] → a.comb.prepared = [] →
    Yields (exec (.siteCommit t w) s) fun u =>
      u.comb.entries = [] ∧ u.comb.tracks = [] ∧ u.comb.emptied = true ∧ u.siteState = 1
      ∧ (∀ m ∈ memberKeys 0x4000, u.val m.2 = a.val m.1) ∧ u.cfgB 0x4009 0 = u.siteDigest)

/-- A region commit, a PREPARE heard and judged, its answer, its timeout, the repeats of COMMIT and ABORT, each heard, and the
presumption of COMMIT do what Tables 6.3 to 6.7 say. Rules: R273, R280, R281, R282, R283, R284, R285, R286, R287. The model's
choices in it: log entries 19, 31. -/
def Obligations.RegionPrepares : Prop :=
  (∀ (s : State) (t : Nat) (w : Caller), let a := s.advance t
    s.sized → a.writes w 0x4040 0 [1] = true → a.groupCheck 0x4040 = none → a.up .comb = true → a.comb.flight = [] → a.comb.prepared = [] →
    Yields (exec (.regionCommit t w) s) fun v =>
      (∀ m ∈ memberKeys 0x4040, v.val m.2 = a.val m.1) ∧ v.cfgB 0x4049 0 = v.regionDigest ∧ v.comb.entries = a.comb.entries
      ∧ ∀ n, n < 12 → (v.nbr n).st = if v.nbrPresent n = true then NbrState.syncing else NbrState.none)
  ∧ (∀ (s : State) (t n : Nat) (w : Caller) (msg : Bytes) (m : Mirror) (ms : List Mirror), let a := s.advance t
    let q := nextSeq a.comb.seqLast
    let f : Flight := ⟨q, a.ct, .message n ⟨w, msg⟩, false, .judging, a.parsOf (m.owner n), a.frozenNow, [], []⟩
    a.hears w msg n 2 = true → (a.nbr n).mismatch = false → a.comb.flight = [] → a.comb.prepared = [] → msgMirrors msg = m :: ms →
    (∀ x ∈ ms, x.owner n = m.owner n ∧ x.tag = m.tag) → (a.prepareVerdict f (m.owner n) m.tag (m :: ms)).good = true →
    Yields (exec (.prepare t w msg) s) fun v =>
      v.comb.prepared = [⟨n, u msg 4 4, m.owner n, m.tag, q, a.now, false⟩]
      ∧ v.comb.entries = (a.comb.placeAll a.buckets a.ct (mirrorEntries n q (m :: ms))).1.entries
      ∧ v.comb.flight = [] ∧ v.comb.seqLast = q)
  ∧ (∀ (s : State) (t n exch : Nat) (resp : Bytes) (x : Asking), let a := s.advance t
    let q := Creq.of x.r.req
    let l := x.asked.map fun y => if y.nbr = n && y.exch = exch then { y with resp := some resp } else y
    a.asking (fun y => y.nbr = n && y.exch = exch && y.resp.isNone) = some x →
    a.up .comb = true → q.op = 1 → l.all Asked.done = true → a.now ≤ x.since + a.cfg 0x4036 0 * ms →
    Yields (exec (.prepareAnswer t n exch resp) s) fun v =>
      v.comb.entries = (a.comb.commitSeq x.f.seq).entries ∧ v.flightOf x.f.seq = none ∧ q.track x.r.req x.f.tacc x.mirror ∈ v.comb.tracks
      ∧ ∀ y ∈ x.asked, ⟨y.nbr, y.exch, a.regionHeader 3 0 y.exch 0, a.now, a.now⟩ ∈ v.comb.sent)
  ∧ (∀ (s : State) (t exch : Nat) (x : Asking), let a := s.advance t
    a.asking (fun y => y.exch = exch && y.resp.isNone) = some x →
    a.up .comb = true → x.since + a.cfg 0x4036 0 * ms ≤ a.now →
    Yields (exec (.prepareTimeout t exch) s) fun v =>
      v.comb.entries = (a.comb.entries.filter fun e => e.seq ≠ x.f.seq) ∧ v.flightOf x.f.seq = none
      ∧ ∀ y ∈ x.asked, y.done = true → ⟨y.nbr, y.exch, a.regionHeader 4 0 y.exch 0, a.now, a.now⟩ ∈ v.comb.sent)
  ∧ (∀ (s : State) (t n exch : Nat) (x : SentMsg), let a := s.advance t
    x ∈ a.comb.sent → x.nbr = n → x.exch = exch → a.now < x.since + a.cfg 0x4036 0 * ms → x.last + 2 * ms ≤ a.now → a.nbrOn n = true →
    Yields (exec (.commitAbortRepeat t n exch) s) fun v =>
      Out.nbr n 0x4050 x.body ∈ v.out ∧ { x with last := a.now } ∈ v.comb.sent ∧ Only (told ++ [Part.comb]) a v)
  ∧ (∀ (s : State) (t n : Nat) (w : Caller) (msg : Bytes) (p : Prepared), let a := s.advance t
    a.hears w msg n 3 = true → a.preparedOf n (u msg 4 4) = some p → p.presumed = false →
    Yields (exec (.regionCommitMessage t w msg) s) fun v =>
      v.comb.entries = (({ a.comb with entries := a.comb.entries.filter fun e => !(e.of p.owner p.tag && e.seq ≠ p.seq) } : Comb).commitSeq p.seq).entries
      ∧ v.comb.prepared = ((a.comb.prepared.filter fun x => !(x.presumed && x.owner = p.owner && x.tag = p.tag && x.seq ≠ p.seq)).filter fun x => !(x.nbr = n && x.exch = u msg 4 4)))
  ∧ (∀ (s : State) (t n : Nat) (w : Caller) (msg : Bytes) (p : Prepared), let a := s.advance t
    a.hears w msg n 4 = true → a.preparedOf n (u msg 4 4) = some p → p.presumed = false →
    Yields (exec (.regionAbort t w msg) s) fun v =>
      v.comb.entries = (a.comb.entries.filter fun e => e.seq ≠ p.seq)
      ∧ v.comb.prepared = (a.comb.prepared.filter fun x => !(x.nbr = n && x.exch = u msg 4 4)))
  ∧ (∀ (s : State) (t n : Nat) (w : Caller) (msg : Bytes) (p : Prepared), let a := s.advance t
    let x := a.comb.cutBy a.buckets a.ct (fun e => e.of p.owner p.tag && e.live a.ct) (Entry.cut a.ct)
    a.hears w msg n 4 = true → a.preparedOf n (u msg 4 4) = some p → p.presumed = true → a.comb.flight = [] → a.comb.prepared = [p] → x.2.2 = none →
    Yields (exec (.regionAbort t w msg) s) fun v => v.comb.entries = x.1.entries ∧ v.comb.prepared = [])
  ∧ (∀ (s : State) (t n exch : Nat) (p : Prepared), let a := s.advance t
    a.preparedOf n exch = some p → p.presumed = false → p.at_ + a.cfg 0x4036 0 * ms ≤ a.now →
    Yields (exec (.combPresumed t n exch) s) fun v =>
      v.comb.entries = (({ a.comb with entries := a.comb.entries.filter fun e => !(e.of p.owner p.tag && e.seq ≠ p.seq) } : Comb).commitSeq p.seq).entries
      ∧ v.comb.prepared = ((a.comb.prepared.filter fun x => !(x.presumed && x.owner = p.owner && x.tag = p.tag && x.seq ≠ p.seq)).map fun x => if x.nbr = n && x.exch = exch then { x with presumed := true } else x)
      ∧ Only (told ++ [Part.comb, Part.log]) a v)

/-- Shortened mirrors, SYNC and its answer, heartbeats sent and heard, a neighbour lost after three periods, the session this device
opens, and a neighbour's answer do what chapter 6 says. Rules: R283, R288, R293, R298, R299, R301, R306, R308, R542. The model's
choices in it: log entries 19, 31. -/
def Obligations.RegionMessages : Prop :=
  (∀ (s : State) (t n : Nat) (w : Caller) (msg : Bytes), let a := s.advance t
    a.hears w msg n 5 = true → (a.nbr n).mismatch = false → a.comb.flight = [] → a.comb.prepared = [] →
    Yields (exec (.shorten t w msg) s) fun v =>
      v.comb.entries = (msgMirrors msg).foldl (fun es m => es.flatMap (m.shorten n)) a.comb.entries ∧ v.comb.flight = [])
  ∧ (∀ (s : State) (t n : Nat) (w : Caller) (msg : Bytes), let a := s.advance t
    let kept := if bit (u msg 1 1) 0 then a.comb.entries.filter fun e => !(1024 + 32 * n ≤ e.owner && e.owner < 1056 + 32 * n) else a.comb.entries
    let p := Comb.syncAll a.buckets a.ct { a.comb with entries := kept } false (mirrorEntries n 0 (msgMirrors msg))
    let live := bit (u msg 1 1) 1 && ((a.nbr n).st = .syncing || (a.nbr n).st = .radioOnly) && (a.nbr n).ours
    s.sized → a.hears w msg n 6 = true → (a.nbr n).mismatch = false → a.comb.flight = [] → a.comb.prepared = [] → p.2.2 = none →
    Yields (exec (.sync t w msg) s) fun v =>
      v.comb.entries = p.1.entries ∧ v.comb.flight = []
      ∧ (v.nbr n).st = (if live then .live else (a.nbr n).st)
      ∧ (v.nbr n).theirs = (if bit (u msg 1 1) 1 then !live else (a.nbr n).theirs))
  ∧ (∀ (s : State) (t n : Nat), let a := s.advance t
    let ours := (a.nbr n).ours || (a.nbr n).asked
    let live := ((a.nbr n).st = .syncing || (a.nbr n).st = .radioOnly) && (a.nbr n).theirs && ours
    s.sized → n < 12 →
    Yields (exec (.syncAnswer t n) s) fun v =>
      (v.nbr n).st = (if live then .live else (a.nbr n).st)
      ∧ (v.nbr n).ours = (ours && !live) ∧ ∀ k, k < 12 → k ≠ n → v.nbr k = a.nbr k)
  ∧ (∀ (s : State) (t : Nat), let a := s.advance t
    let b := a.hbNumber a.hbNow
    s.sized → a.up .comb = true → a.time64 % a.hbPeriodNs ≤ 50000 → a.comb.hbEth ≠ some a.hbNow →
    Yields (exec (.heartbeatSend t) s) fun v =>
      v.comb.hbEth = some a.hbNow ∧ v.comb.hbPeriod = some a.hbNow
      ∧ v.comb.hbSeq = (if a.comb.hbPeriod = some a.hbNow then a.comb.hbSeq else (a.comb.hbSeq + 1) % 2 ^ 32) ∧ v.comb.entries = a.comb.entries
      ∧ (∀ n ∈ a.nbrs, a.nbrOn n = true → (v.nbr n).emptied = false
          ∧ Out.nbr n 0x4050 (a.regionHeader 1 0 0 0 ++ b.hbBody a.time64 (a.nbr n).emptied) ∈ v.out)
      ∧ Only (told ++ [Part.comb, Part.free]) a v)
  ∧ (∀ (s : State) (t n : Nat) (w : Caller) (msg : Bytes), let a := s.advance t
    let j := (si msg 16 8).fdiv a.hbPeriodNs
    s.sized → a.hears w msg n 1 = true → a.hbValid n (msg.drop 16) = true → a.time64 < (j + 1) * a.hbPeriodNs + 10000000 →
    (a.nbr n).st ≠ .lost → (bit (u msg 42 1) 1 = false ∨ (a.nbr n).st = .none) →
    Yields (exec (.regionHeartbeat t w msg) s) fun v =>
      (v.nbr n).heard = countHeard (a.nbr n).heard j true ∧ (v.nbr n).mismatch = false
      ∧ (v.nbr n).st = (a.nbr n).st ∧ v.comb.entries = a.comb.entries)
  ∧ (∀ (s : State) (t n : Nat), let a := s.advance t
    s.sized → n < 12 → a.up .comb = true → a.nbrPresent n = true → (a.nbr n).st ≠ .none → (a.nbr n).st ≠ .lost →
    ((a.nbr n).lastHeard + 4) * a.hbPeriodNs + 10000000 ≤ a.time64 →
    Yields (exec (.neighbourLost t n) s) fun v =>
      (v.nbr n).st = .lost ∧ (v.nbr n).losses = wrap 32 ((a.nbr n).losses + 1) ∧ ∀ k, k < 12 → k ≠ n → v.nbr k = a.nbr k)
  ∧ (∀ (s : State) (t n : Nat) (raw : Bytes), let a := s.advance t
    let slot := u (a.nbrEntry n) 2 2
    let d := coilKeys (a.keySlot slot).material (a.nbr n).nonce (slice raw 24 32) (u raw 4 4) slot (u raw 18 1)
    s.sized → n < 12 → (a.nbr n).nonce ≠ [] → a.nbrPresent n = true → (a.keyFor slot 1).isSome = true → a.up .security = true → a.up .network = true → a.up .compute = true →
    a.boot.boant = false → u raw 0 1 = 1 → openHeader raw 2 = true → raw.length = 72 → u raw 4 4 ≠ 0 → u raw 16 2 = slot → u raw 18 1 ≤ 2 →
    u raw 19 1 = 0 → u raw 20 2 = a.nbrId n → u raw 22 2 = 0 → slice raw 56 16 = acceptConfirm d (raw.take 56) →
    Yields (exec (.neighbourSessionOpen t n raw) s) fun v =>
      (v.nbr n).session = some (2 ^ 32 + n) ∧ (v.nbr n).nonce = []
      ∧ (Tbl.get? v.dict.sessions (2 ^ 32 + n)).map (fun x => (x.slot, x.priv, x.keyIn, x.keyOut, x.nbr))
        = some (slot, u raw 18 1, devKey d, hostKey d, some n))
  ∧ (∀ (s : State) (t n exch : Nat), let a := s.advance t
    exch ≠ 0 →
    Yields (exec (.neighbourAnswer t n exch) s) fun v =>
      v.comb = { a.comb with sent := a.comb.sent.filter fun x => !(x.nbr = n && x.exch = exch) } ∧ Only (told ++ [Part.comb]) a v)
  ∧ (∀ (s : State) (t n i : Nat), let a := s.advance t
    a.stop.notices.findIdx? (fun x => x.nbr = n) = some i →
    Yields (exec (.neighbourAnswer t n 0) s) fun v =>
      v.stop = { a.stop with notices := a.stop.notices.eraseIdx i } ∧ Only (told ++ [Part.comb, Part.stop]) a v)

/-- An epoch posts its records and takes the next nominal instant; a navigation message is posted and may give UTC and a broadcast
offset; a lock transition judges C/N0 and PLI by the correlations it brings; pull-in and coast timeouts, WATCH dwells and second
peaks move their channel as chapter 7 says. Rules: R334, R335, R341, R346, R351. The model's choices in it: log entries 20, 42. -/
def Obligations.TrackingChannels : Prop :=
  (∀ (s : State) (t : Nat) (firsts : List Nat) (meas : List ChanMeas), let a := s.advance t
    a.epochDue = true → a.track.due = false → a.track.mode ≠ 1 →
    Yields (exec (.trackEpoch t ⟨firsts, meas⟩) s) fun u =>
      u.track.nominal = some a.nominalNow ∧ u.track.seq = (a.track.seq + 1) % 65536 ∧ u.track.clockStep = false ∧ u.track.gapAll = false
      ∧ (∀ p ∈ u.track.ports, p.gap = false) ∧ u.free = a.free + 1
      ∧ u.track.chans.map (fun e => (e.1, e.2.sig, e.2.st)) = a.track.chans.map (fun e => (e.1, e.2.sig, e.2.st)))
  ∧ (∀ (s : State) (t : Nat) (firsts : List Nat) (meas : List ChanMeas), let a := s.advance t
    a.epochDue = true → a.track.due = false → a.track.mode = 1 →
    Yields (exec (.trackEpoch t ⟨firsts, meas⟩) s) fun u =>
      u.track.nominal = some a.nominalNow ∧ u.track.chans = a.track.chans ∧ Only (told ++ [Part.track]) a u)
  ∧ (∀ (s : State) (t : Nat) (m : NavUnit) (q : NavNews) (p : State), let a := s.advance t
    let tb : Timebase := if m.passed && q.utc.isSome then { a.tb with utc := q.utc } else a.tb
    let br := (q.offset.filter fun _ => m.passed).elim a.track.broadcast (Tbl.put a.track.broadcast m.system)
    let b : State := { a with tb := tb, track := { a.track with broadcast := br } }
    a.up .tracking = true → a.track.mode ≠ 1 → b.post? (a.cfg 0x300D 0) (navBytes m) = some p →
    Yields (exec (.navMessage t m q) s) fun u =>
      u.fabric.core = p.fabric.core ∧ u.tb = tb ∧ u.track = b.track)
  ∧ (∀ (s : State) (t : Nat) (m : NavUnit) (q : NavNews), let a := s.advance t
    let tb : Timebase := if m.passed && q.utc.isSome then { a.tb with utc := q.utc } else a.tb
    let br := (q.offset.filter fun _ => m.passed).elim a.track.broadcast (Tbl.put a.track.broadcast m.system)
    let b : State := { a with tb := tb, track := { a.track with broadcast := br } }
    a.up .tracking = true → a.track.mode ≠ 1 → b.post? (a.cfg 0x300D 0) (navBytes m) = none →
    Yields (exec (.navMessage t m q) s) fun u =>
      u.tb = tb ∧ u.track = { b.track with lost := wrap 32 (a.track.lost + 1) } ∧ u.fabric.core = a.fabric.core)
  ∧ (∀ (s : State) (t ch : Nat) (o : LockObs), let a := s.advance t
    a.up .tracking = true → a.feeds (ch / 288) = true →
    Yields (exec (.channelLockTransition t ch o) s) fun u =>
      u.chan? ch = (a.chan? ch).map (fun c => nextLock (a.takeCorr c o.corr) o a.lockCn0 a.now) ∧ (∀ k < 1152, k ≠ ch → u.chan? k = a.chan? k) ∧ Only (told ++ [Part.track]) a u)
  ∧ (∀ (s : State) (t ch : Nat) (c : Chan), let a := s.advance t
    a.up .tracking = true → a.chan? ch = some c → c.st = .pullIn → c.since + 500 * ms ≤ a.now →
    Yields (exec (.pullInTimeout t ch) s) fun u =>
      u.chan? ch = none ∧ u.dev.searches = a.dev.searches ++ [OwnSearch.new (ch / 288 / 2) (a.searchKind c.sig) [c.sig] [] 0] ∧ Only (told ++ [Part.track, Part.dev]) a u)
  ∧ (∀ (s : State) (t ch : Nat) (c : Chan), let a := s.advance t
    a.up .tracking = true → a.chan? ch = some c → c.st = .coast → c.since + sec ≤ a.now →
    Yields (exec (.coastTimeout t ch) s) fun u =>
      u.chan? ch = none ∧ u.dev.searches = a.dev.searches ++ [OwnSearch.new (ch / 288 / 2) (a.searchKind c.sig) [c.sig] [] 0] ∧ Only (told ++ [Part.track, Part.dev]) a u)
  ∧ (∀ (s : State) (t ch power : Nat) (x : Sig) (offs : List Int) (k at_ : Nat), let a := s.advance t
    a.up .tracking = true → a.watchOf ch = some (x, offs) → offs ≠ [] → Tbl.getD a.track.watch ch (0, Tbl.getD a.track.shared (16 * (ch / 288) + x.signal) 0) = (k, at_) → at_ + 100 * ms ≤ a.now →
    Yields (exec (.watchDwell t ch power) s) fun u =>
      Tbl.get? u.track.watch ch = some ((k + 1) % offs.length, a.now)
      ∧ u.track.peaks = (if a.lockCn0 ≤ power then (x, a.now) :: a.track.peaks.filter (fun q => q.1 ≠ x) else a.track.peaks)
      ∧ Only (told ++ [Part.track, Part.log]) a u)
  ∧ (∀ (s : State) (t y z x : Nat), let a := s.advance t
    Yields (exec (.secondPeakClear t y z x) s) fun u =>
      u.track = { a.track with peaks := a.track.peaks.filter fun q => q.1 ≠ ⟨y, z, x⟩ || a.now < q.2 + 10 * sec } ∧ Only (told ++ [Part.track]) a u)

/-- An AGC update counts the share of large samples at the port's edges and moves the duty; the end of jamming, clock loss and
return, gaps, entering and leaving standby, and bump jumps change their port and nothing else named. Rules: R325, R327, R328,
R329, R338, R361, R362. The model's choices in it: log entries 21, 42. -/
def Obligations.TrackingPorts : Prop :=
  (∀ (s : State) (t g counter : Nat) (edges : List GsEdge), let a := s.advance t
    let n := gsCount (a.gsVal g) edges
    s.sized → g < 4 → a.up .tracking = true →
    Yields (exec (.agcUpdate t g ⟨edges, counter⟩) s) fun u =>
      (u.port g).share = (if n.2 = 0 then 0 else (1000 * n.1 + n.2 / 2) / n.2) ∧ (∀ k < 4, k ≠ g → u.port k = a.port k)
      ∧ (u.port g).duty = (if a.gsAuto g then nextDuty (a.port g).duty n.1 n.2 (gsTarget (a.gsVal g)) (Config.rand a.free) else (a.port g).duty))
  ∧ (∀ (s : State) (t g q : Nat), let a := s.advance t
    s.sized → g < 4 → (a.port g).quietAt = some q → q + 10 * sec ≤ a.now →
    Yields (exec (.gsJamClear t g) s) fun u => u.port g = { a.port g with jam := false } ∧ Only (told ++ [Part.track]) a u)
  ∧ (∀ (s : State) (t g : Nat), let a := s.advance t
    a.up .tracking = true → (a.port g).clock = true →
    Yields (exec (.gsClockLost t g) s) fun u =>
      u.port g = { a.port g with clock := false, mark := none }
      ∧ (∀ ch < 1152, u.chan? ch = (a.chan? ch).map fun c => if ch / 288 = g && tracks c then coastChan c a.now else c)
      ∧ u.log = (a.logEv .gsClockLost []).log ∧ Only (told ++ [Part.track, Part.log]) a u)
  ∧ (∀ (s : State) (t g : Nat), let a := s.advance t
    s.sized → a.up .tracking = true → g < 4 → (a.port g).clock = false →
    Yields (exec (.gsClockBack t g) s) fun u =>
      u.port g = { a.port g with clock := true } ∧ u.log = (a.logEv .gsClockBack []).log ∧ Only (told ++ [Part.track, Part.log]) a u)
  ∧ (∀ (s : State) (t g : Nat), let a := s.advance t
    a.up .tracking = true → a.feeds g = true →
    Yields (exec (.gsGap t g) s) fun u =>
      u.port g = { a.port g with gaps := wrap 32 ((a.port g).gaps + 1), gap := true }
      ∧ (∀ ch < 1152, u.chan? ch = (a.chan? ch).map fun c => if ch / 288 = g then
          { c with coasted := true, slips := if c.st = .phase ∨ c.st = .locked then (c.slips + 1) % 16 else c.slips } else c)
      ∧ Only (told ++ [Part.track]) a u)
  ∧ (∀ (s : State) (t : Nat) (w : Caller), let a := s.advance t
    a.writes w 0x3000 0 [1] = true → a.stoppedAll = true →
    Yields (exec (.trackStandbyEnter t w) s) fun u =>
      u.track = { a.track with mode := 1, chans := [], watch := u.track.watch, shared := u.track.shared } ∧ Only (told ++ [Part.track]) a u)
  ∧ (∀ (s : State) (t : Nat) (w : Caller), let a := s.advance t
    a.writes w 0x3000 0 [1] = true → a.stoppedAll = false →
    Yields (exec (.trackStandbyEnter t w) s) fun u => Only told a u)
  ∧ (∀ (s : State) (t : Nat) (w : Caller), let a := s.advance t
    a.writes w 0x3000 0 [0] = true → a.track.mode ≠ 0 →
    Yields (exec (.trackStandbyExit t w) s) fun u =>
      u.track = { a.track with mode := 0 }
      ∧ u.dev.searches = a.dev.searches ++ [if a.dev.found = [] then OwnSearch.new 0 .cold [] [] 0 else OwnSearch.new 0 .assisted (a.dev.found.map foundSig) a.dev.found a.dev.foundAt]
      ∧ Only (told ++ [Part.track, Part.dev]) a u)
  ∧ (∀ (s : State) (t ch : Nat) (corr : List Corr), let a := s.advance t
    a.up .tracking = true →
    Yields (exec (.bumpJump t ch corr) s) fun u =>
      u.chan? ch = (a.chan? ch).map (fun c => (bumpSide a.tapSpacing (a.takeCorr c corr).corr).elim (a.takeCorr c corr) fun side =>
        { slip (a.takeCorr c corr) with
          code := ((c.code + side * (Config.sidePeak c.sig.signal : Nat)) % (codePeriod c.sig.signal * 2 ^ 28 : Nat)).toNat, corr := [] })
      ∧ (∀ k < 1152, k ≠ ch → u.chan? k = a.chan? k) ∧ Only (told ++ [Part.track]) a u)

/-- An exposure is admitted or refused by its checks, starts while the budget allows, and its result is developed from its samples
and posts the record of Table 8.5; own searches and standby exposures start, search the samples given, end and re-acquire as
chapter 8 says. Rules: R380, R381, R390, R394, R398, R400, R401. The model's choices in it: log entries 22, 23, 42, 48, 50. -/
def Obligations.DeveloperSearches : Prop :=
  (∀ (s : State) (t : Nat) (pkt : Bytes), let a := s.advance t
    let slot := u pkt 8 2 % 1024
    let r := pkt.drop 16
    a.up .compute = true → a.sService = true → slot < a.tier → a.gone .developer = false → exposureOk r = true →
    (Tbl.getD a.dev.seqs slot []).contains (u r 4 2) = false → a.dev.latents.length < a.latentMax →
    Yields (exec (.devExposureArrival t pkt) s) fun v =>
      v.dev = { a.dev with latents := a.dev.latents ++ [⟨slot, si pkt 0 8, u pkt 12 4, r, none⟩],
                           seqs := Tbl.put a.dev.seqs slot ((u r 4 2 :: Tbl.getD a.dev.seqs slot []).take 16) }
      ∧ Only (told ++ [Part.dev]) a v)
  ∧ (∀ (s : State) (t : Nat) (pkt : Bytes), let a := s.advance t
    let slot := u pkt 8 2 % 1024
    let r := pkt.drop 16
    a.up .compute = true →
    a.sService = false ∨ a.tier ≤ slot ∨ a.gone .developer = true ∨ exposureOk r = false
      ∨ (Tbl.getD a.dev.seqs slot []).contains (u r 4 2) = true ∨ a.latentMax ≤ a.dev.latents.length →
    Yields (exec (.devExposureArrival t pkt) s) fun v =>
      v.dev = { a.dev with refused := wrap 32 (a.dev.refused + 1) } ∧ Only (told ++ [Part.dev]) a v
      ∧ ∃ o, a.arrivalCheck slot r = some o ∧ Out.engine Island.developer.id o ∈ v.out)
  ∧ (∀ (s p : State) (t i : Nat) (sky : List SkySignal) (x : Latent), let a := s.advance t
    let b := ({ a with dev := { a.dev with sky := sky } } : State)
    let e := b.expSearch x.data sky
    a.up .developer = true → a.dev.latents.findIdx? (fun x => x.started.isNone) = some i → a.dev.latents[i]? = some x →
    a.holderIs x.slot x.machine = true → a.time64 ≤ x.arrival + (a.cfg 0x3402 0 * ms : Nat) → a.timed = true →
    5 ≤ a.freshSignals sky → e.cost ≤ a.machineBudget → b.spend false e.cost = some p →
    Yields (exec (.devExposureStart t sky) s) fun v =>
      v.dev = { p.dev with latents := a.dev.latents.set i { x with started := some e } } ∧ Only (told ++ [Part.dev, Part.health]) a v)
  ∧ (∀ (s : State) (t i : Nat) (sky : List SkySignal) (x : Latent), let a := s.advance t
    let b := ({ a with dev := { a.dev with sky := sky } } : State)
    a.up .developer = true → a.dev.latents.findIdx? (fun x => x.started.isNone) = some i → a.dev.latents[i]? = some x →
    (b.spend false (b.expSearch x.data sky).cost).isSome = true →
    a.holderIs x.slot x.machine = false ∨ x.arrival + (a.cfg 0x3402 0 * ms : Nat) < a.time64 ∨ a.timed = false ∨ a.freshSignals sky < 5 →
    Yields (exec (.devExposureStart t sky) s) fun v =>
      v.dev = { a.dev with sky := sky, latents := a.dev.latents.eraseIdx i, refused := wrap 32 (a.dev.refused + 1) } ∧ Only (told ++ [Part.dev]) a v)
  ∧ (∀ (s p : State) (t slot i : Nat) (sky : List SatEph) (x : Latent) (e : ExpSearch), let a := s.advance t
    let d := a.develop x e sky
    let st := devStatus d.1.length e.residualMax e.sigmaMax d.2
    a.up .developer = true → a.dev.latents.findIdx? (fun x => x.slot = slot) = some i → a.dev.latents[i]? = some x → x.started = some e →
    a.post? (a.cfg 0x3401 0) (resultRecord st x.slot x.machine (u x.data 4 2) (si x.data 8 8) (assisted x.data) (u x.data 48 4, u x.data 16 4)
      (d.2.bind fun f => a.priorOffset x.data f.ecef) e.cost e.residualMax d.2 d.1) = some p →
    Yields (exec (.devResult t slot sky) s) fun v =>
      v.dev = { a.dev with latents := a.dev.latents.eraseIdx i, developed := wrap 32 (a.dev.developed + 1) } ∧ v.fabric.core = p.fabric.core)
  ∧ (∀ (s p : State) (t i : Nat) (x : OwnSearch), let a := s.advance t
    let sigs := if x.kind = .cold && x.sigs = [] then a.coldSigs x.antenna else x.sigs
    let cost := fun y : Sig => a.ownCost x.kind y.signal
    let q := takeCost cost a.ownBudget sigs
    let run : OwnSearch := { x with sigs := q.1, at_ := a.now, threshold := a.cfg 0x3404 0, freqUnc := a.cfg 0x3407 0, sure := a.ownSure x.kind }
    a.up .developer = true → a.track.mode ≠ 1 → a.dev.searches.findIdx? (fun x => a.feeds x.group) = some i → a.dev.searches[i]? = some x →
    q.1 ≠ [] → a.spend true ((q.1.map cost).sum) = some p →
    Yields (exec (.devOwnSearchStart t) s) fun v =>
      v.dev = { p.dev with running := a.dev.running ++ [run],
                           searches := if q.2 = [] then a.dev.searches.eraseIdx i else a.dev.searches.set i { x with sigs := q.2 } }
      ∧ Only (told ++ [Part.dev, Part.health]) a v)
  ∧ (∀ (s : State) (t : Nat) (cap : Snapshot) (sky : List SatEph) (x : OwnSearch) (rest : List OwnSearch), let a := s.advance t
    let all := x.sigs.map fun y => searchSignal ((snapshotBand cap y.signal).take (4 * bandRate (bandOf y.signal))) y (a.ownPlan x sky y)
    let found := all.filter fun f => x.threshold ≤ f.ratio
    a.up .developer = true → a.dev.running = x :: rest →
    Yields (exec (.devOwnSearchDone t ⟨cap, sky⟩) s) fun v =>
      v.dev = { a.dev with running := rest, searches := a.dev.searches ++ a.nextSearches x found } ∧ Only (told ++ [Part.dev, Part.track]) a v)
  ∧ (∀ (s : State) (t : Nat) (sky : List SkySignal), let a := s.advance t
    a.up .developer = true → a.track.mode ≠ 1 →
    Yields (exec (.devReacquireTick t sky) s) fun v =>
      v.dev.sky = sky ∧ a.dev.searches <+: v.dev.searches ∧ Only (told ++ [Part.dev]) a v
      ∧ ∀ y ∈ sky, isSignal y.signal = true → 0 < allotCount (a.allotOf (groupOf 0 y.signal)) y.signal →
          a.track.holder (groupOf 0 y.signal) ⟨y.system, y.sat, y.signal⟩ = none →
          ∃ q ∈ v.dev.searches, q.antenna = 0 ∧ (⟨y.system, y.sat, y.signal⟩ : Sig) ∈ q.sigs)
  ∧ (∀ (s p : State) (t : Nat), let a := s.advance t
    let per : Int := (a.cfg 0x3410 0 * ms : Nat)
    let k := a.time64.fdiv per
    let e := a.standbySearch
    a.up .developer = true → a.track.mode = 1 → a.dev.standby = none → a.dev.period ≠ some k → a.spend true e.cost = some p →
    Yields (exec (.devStandbyExposure t) s) fun v =>
      v.dev = { p.dev with period := some k, standby := some ⟨k * per, a.now, a.cfg 0x3411 0, e, true⟩ } ∧ Only (told ++ [Part.dev, Part.health]) a v)
  ∧ (∀ (s : State) (t : Nat), let a := s.advance t
    let per : Int := (a.cfg 0x3410 0 * ms : Nat)
    let k := a.time64.fdiv per
    let e := a.standbySearch
    a.up .developer = true → a.track.mode = 1 → a.dev.standby = none → a.dev.period ≠ some k → a.spend true e.cost = none →
    Yields (exec (.devStandbyExposure t) s) fun v =>
      v.dev = { a.dev with period := some k, standby := some ⟨k * per, a.now, a.cfg 0x3411 0, e, false⟩ } ∧ Only (told ++ [Part.dev]) a v)
  ∧ (∀ (s : State) (t : Nat) (cap : Snapshot) (sky : List SatEph) (x : StandbyExp), let a := s.advance t
    let h := a.standbyHeard x cap sky
    let n := h.1.length
    let at_ := if a.base.survey.isNone && a.cfg 0x3609 0 ≠ 0 then a.base.ref else a.homePos
    let sol := if 5 ≤ n then snapshotSolve (v3m at_) (v3m at_) x.at_ false h.2 else none
    let fix := sol.map fun v => { devFix at_ x.at_ h.2.length v with tExp := x.at_ - a.gnssOffset (biasNs v.bias) }
    a.up .developer = true → a.dev.standby = some x → x.started = true →
    Yields (exec (.devStandbyResult t ⟨cap, sky⟩) s) fun v =>
      v.dev.standby = none ∧ v.dev.found = h.1 ∧ v.dev.foundAt = x.taken ∧ v.free = a.free + 1
      ∧ v.dev.result = resultRecord (devStatus n x.search.residualMax x.search.sigmaMax fix) 0xFFFF 0 (Config.rand a.free % 65536) x.at_ false (0, 0)
          none x.search.cost x.search.residualMax fix h.1)

/-- Base epochs, surveys and their abandon, frames of a reference network, machine observations, rover epochs from their start to
their fix, and RoverReset do what chapters 9 and 10 say; the base point, the network solution and the rover's filter are
computed. Rules: R414, R427, R440, R454, R458, R467, R469. The model's choices in it: log entries 24, 25, 27, 48, 49. -/
def Obligations.BaseStation : Prop :=
  (∀ (s : State) (t : Nat) (nominal : Int) (sky : List SatEph), let a := s.advance t
    let l := a.baseSignals sky nominal
    let smooth := l.map (smoothStep a.smoothLimit a.base.smooth)
    let spps := ((((a.basePoint sky smooth).map fun p => (nominal, mV3 p.1)).toList ++ a.base.spps).filter fun p => nominal < p.1 + 10 * (sec : Int))
    let b : State := { a with base := { a.base with spps := spps } }
    let fails := b.baseChecks ((l.map fun r => (bits r 290 3, bits r 282 8)).eraseDups).length a.netRunNow
    a.up .fixer = true → a.up .tracking = true → a.track.mode ≠ 1 → a.track.nominal = some nominal →
    a.base.epochs.head?.map BaseEp.nominal ≠ some nominal → a.base.netEpoch ≠ some nominal → a.base.survey = none → a.base.st = 2 →
    Yields (exec (.baseEpoch t ⟨nominal, sky⟩) s) fun u =>
      u.base.epochs = (⟨nominal, l, a.baseRecs 1 nominal⟩ :: a.base.epochs).take 512 ∧ u.base.smooth = smooth ∧ u.base.spps = spps
      ∧ u.base.netRun = a.netRunNow ∧ u.base.cause = fails ∧ u.base.st = (if fails = 0 then 2 else 3) ∧ u.base.survey = none)
  ∧ (∀ (s : State) (t : Nat) (nominal : Int) (sky : List SatEph), let a := s.advance t
    let l := a.baseSignals sky nominal
    let smooth := l.map (smoothStep a.smoothLimit a.base.smooth)
    let spps := ((((a.basePoint sky smooth).map fun p => (nominal, mV3 p.1)).toList ++ a.base.spps).filter fun p => nominal < p.1 + 10 * (sec : Int))
    let b : State := { a with base := { a.base with spps := spps } }
    let fails := b.baseChecks ((l.map fun r => (bits r 290 3, bits r 282 8)).eraseDups).length a.netRunNow
    a.up .fixer = true → a.up .tracking = true → a.track.mode ≠ 1 → a.track.nominal = some nominal →
    a.base.epochs.head?.map BaseEp.nominal ≠ some nominal → a.base.netEpoch ≠ some nominal → a.base.survey = none → a.base.st = 4 →
    Yields (exec (.baseEpoch t ⟨nominal, sky⟩) s) fun u =>
      u.base.epochs = (⟨nominal, l, a.baseRecs 1 nominal⟩ :: a.base.epochs).take 512 ∧ u.base.cause = fails
      ∧ u.base.clean = (if fails = 0 then min 10 (a.base.clean + 1) else 0)
      ∧ u.base.st = (if fails = 0 ∧ 9 ≤ a.base.clean ∧ a.timed = true then 2 else 4))
  ∧ (∀ (s : State) (t : Nat) (w : Caller), let a := s.advance t
    a.writes w 0x3620 0 [1] = true → a.base.survey = none → (a.base.st ≠ 2 ∧ a.base.st ≠ 3) ∨ a.stoppedAll = true →
    Yields (exec (.surveyStartStandalone t w) s) fun u =>
      u.base = { a.base with st := 1, survey := some (Survey.start false), clean := 0 } ∧ u.val (key 0x3625 0) = [1]
      ∧ Only (told ++ [Part.base, Part.rover, Part.settings]) a u)
  ∧ (∀ (s : State) (t : Nat) (w : Caller), let a := s.advance t
    a.writes w 0x3620 0 [2] = true → a.base.survey = none → (a.base.st ≠ 2 ∧ a.base.st ≠ 3) ∨ a.stoppedAll = true → a.netState = 2 ∨ a.netState = 3 →
    Yields (exec (.surveyStartNetwork t w) s) fun u =>
      u.base = { a.base with st := 1, survey := some (Survey.start true), clean := 0 } ∧ u.val (key 0x3625 0) = [1]
      ∧ Only (told ++ [Part.base, Part.rover, Part.settings]) a u)
  ∧ (∀ (s : State) (t : Nat) (w : Caller), let a := s.advance t
    a.writes w 0x3620 0 [0] = true → a.base.survey.isSome = true →
    Yields (exec (.surveyAbandon t w) s) fun u =>
      u.base = { a.base with st := if a.refSource = 0 then 0 else 4, survey := none, clean := 0, passAt := List.replicate 5 none }
      ∧ u.val (key 0x3625 0) = [0] ∧ Only (told ++ [Part.base, Part.rover, Part.settings]) a u)
  ∧ (∀ (s : State) (t : Nat) (w : Caller) (req : Bytes), let a := s.advance t
    let l := (rtcmFrames 512 req).map fun f => a.frameFault f.1 f.2
    a.requests w 0x3640 req = true →
    Yields (exec (.baseNetPort t w req) s) fun v =>
      v.base.netBad = wrap 32 (a.base.netBad + (l.filter fun x => x ≠ 0).length) ∧ v.base.netAny = (a.base.netAny || l.any (· = 0))
      ∧ Only (told ++ [Part.base]) a v)
  ∧ (∀ (s : State) (t i r : Nat) (req : Bytes), let a := s.advance t
    let l := (rtcmFrames 512 req).map fun f => a.frameFault f.1 f.2
    let first := ((rtcmFrames 512 req).find? fun f => a.frameFault f.1 f.2 ≠ 0).map fun f => ((f.2.map fun b => mbits b 0 12).getD 0, a.frameFault f.1 f.2)
    a.requests (.coil i r) 0x3640 req = true →
    Yields (exec (.baseNetPort t (.coil i r) req) s) fun v =>
      v.answered i ⟨r, 6, key 0x3640 0, 0⟩ ⟨if l.all (· = 0) then 0 else 1, 0,
        leBytes 2 (l.filter fun x => x = 0).length ++ leBytes 2 (l.filter fun x => x ≠ 0).length ++ leBytes 2 ((first.getD (0, 0)).1)
          ++ [byte (first.getD (0, 0)).2, 0], 0⟩)
  ∧ (∀ (s : State) (t : Nat) (pkt : Bytes), let a := s.advance t
    let slot := u pkt 8 2 % 1024
    let r := pkt.drop 16
    a.up .compute = true → a.obsCheck slot r = none →
    Yields (exec (.roverObsArrival t pkt) s) fun v =>
      v.rover.epochs = a.rover.epochs ++ [⟨slot, u pkt 12 4, si pkt 0 8, r, .waiting⟩]
      ∧ v.roverSlot slot = { a.roverSlot slot with last := some (u r 4 2, si r 8 8) } ∧ v.rover.refused = a.rover.refused
      ∧ Only (told ++ [Part.rover, Part.conf]) a v)
  ∧ (∀ (s : State) (t o : Nat) (pkt : Bytes), let a := s.advance t
    a.up .compute = true → a.obsCheck (u pkt 8 2 % 1024) (pkt.drop 16) = some o →
    Yields (exec (.roverObsArrival t pkt) s) fun v =>
      v.rover.refused = wrap 32 (a.rover.refused + 1) ∧ v.rover.pending = a.rover.pending ∧ v.rover.flying = a.rover.flying
      ∧ (∀ k < 1024, (v.roverSlot k).last = (a.roverSlot k).last))
  ∧ (∀ (s : State) (t i : Nat) (x : RoverEpoch), let a := s.advance t
    let b := a.rover.budget.fill a.roverRate a.now
    let c := (if 49 ≤ u x.data 2 1 then 2 else 1) * 1000000000
    a.up .fixer = true → a.rover.epochs.findIdx? (fun x => x.phase = .waiting) = some i → a.rover.epochs[i]? = some x → c ≤ b.level →
    a.rover.flying < a.roverFlights → (∀ y ∈ a.rover.epochs, y.slot = x.slot → y.phase ≠ .flying) → a.holderIs x.slot x.machine = true →
    a.time64 ≤ x.arrival + (a.cfg 0x3803 0 * ms : Nat) → a.hasBase (si x.data 8 8) = true →
    Yields (exec (.roverEpochStart t) s) fun v =>
      v.rover = { a.rover with epochs := a.rover.epochs.set i { x with phase := .flying }, budget := { b with level := b.level - c } }
      ∧ Only (told ++ [Part.rover]) a v)
  ∧ (∀ (s : State) (t i : Nat) (x : RoverEpoch), let a := s.advance t
    let b := a.rover.budget.fill a.roverRate a.now
    a.up .fixer = true → a.rover.epochs.findIdx? (fun x => x.phase = .waiting) = some i → a.rover.epochs[i]? = some x →
    (if 49 ≤ u x.data 2 1 then 2 else 1) * 1000000000 ≤ b.level →
    a.rover.flying < a.roverFlights → (∀ y ∈ a.rover.epochs, y.slot = x.slot → y.phase ≠ .flying) →
    a.holderIs x.slot x.machine = false ∨ x.arrival + (a.cfg 0x3803 0 * ms : Nat) < a.time64 ∨ a.hasBase (si x.data 8 8) = false →
    Yields (exec (.roverEpochStart t) s) fun v =>
      v.rover.refused = wrap 32 (a.rover.refused + 1) ∧ v.rover.budget = a.rover.budget ∧ v.rover.pending = a.rover.pending - 1)
  ∧ (∀ (s : State) (t slot i n : Nat) (sky : List SatEph) (x : RoverEpoch) (rest : List Nat), let a := s.advance t
    let r := a.roverInput x sky
    let o := r.2.2.epoch (if a.reinits x then none else (a.rover.block slot).map RoverBlock.filter) r.2.1 (a.base.st = 2) (decide (250000 ≤ a.track.baseLen2))
    a.up .fixer = true → a.rover.epochs.findIdx? (fun x => x.slot = slot && x.phase = .flying) = some i → a.rover.epochs[i]? = some x →
    a.rover.spares = n :: rest →
    Yields (exec (.roverEpochDone t slot sky) s) fun v =>
      v.rover.solved = wrap 32 (a.rover.solved + 1) ∧ v.rover.reinits = wrap 32 (a.rover.reinits + (a.reinits x).toNat)
      ∧ v.rover.flying = a.rover.flying - 1 ∧ (v.roverSlot slot).again = false
      ∧ (v.roverSlot slot).fixed = (if a.reinits x then 0 else (a.roverSlot slot).fixed) + (decide (o.status = 3)).toNat
      ∧ v.rover.pointer slot = n ∧ v.rover.spares = rest ++ [a.rover.pointer slot]
      ∧ v.rover.block slot = some ⟨x.machine, si x.data 8 8, u x.data 4 2, (((a.rover.block slot).map RoverBlock.gen).getD 0 + 1) % 2 ^ 32, o.status,
          false, o.filter⟩)
  ∧ (∀ (s : State) (t slot i : Nat) (sky : List SatEph) (x : RoverEpoch), let a := s.advance t
    a.up .fixer = true → a.rover.epochs.findIdx? (fun x => x.slot = slot && x.phase = .flying) = some i → a.rover.epochs[i]? = some x →
    a.base.st ≠ 2 →
    Yields (exec (.roverEpochDone t slot sky) s) fun z =>
      (z.roverSlot slot).fixed = (if a.reinits x then 0 else (a.roverSlot slot).fixed) ∧ z.rover.flying = a.rover.flying - 1)
  ∧ (∀ (s : State) (t slot : Nat) (w : Caller), let a := s.advance t
    slot < 1024 → a.writes w (0x7000 + slot) 0x32 [1] = true →
    Yields (exec (.roverReset t w slot) s) fun u =>
      u.roverSlot slot = { a.roverSlot slot with again := true } ∧ (∀ k < 1024, k ≠ slot → u.roverSlot k = a.roverSlot k) ∧ Only (told ++ [Part.rover]) a u)

/-- Fixes, reported and developed positions and result notices give verdicts and causes and take their place in the slot's evidence;
ticks judge freshness and the device rows; swarm commands wait, apply at their instant and are judged at their deadline. Rules:
R496, R500, R502, R506, R510, R515, R516, R518, R519. The model's choices in it: log entries 34, 41. -/
def Obligations.Conformance : Prop :=
  (∀ (s : State) (t m i : Nat) (tf e n ee nn en : Int) (status : Nat), let a := s.advance t
    let var := lambdaOf ee nn en
    let p := (a.firstPair m ⟨0, tf, e, n, var, none⟩).2
    let x := a.excursion m ⟨tf, e, n, a.radiusOf var, a.headingFor m tf⟩
    let causes := p.2.1 ||| x.bits ||| (if x.fails then 1 else 0)
    a.up .comb = true → a.conf.ops.findIdx? (fun y => y.1 = m) = some i → a.conf.ops[i]? = some (m, .fix tf e n ee nn en status) →
    a.monitored m = true → a.timeOk 0 tf = true →
    Yields (exec (.confFix t m) s) fun v =>
      v.conf.ops = a.conf.ops.eraseIdx i ∧ (v.confSlot m).cells = x.cells
      ∧ (v.confSlot m).ages = modNth (a.confSlot m).ages 0 (fun _ => some tf)
      ∧ (v.confSlot m).verdict.take 16 = leInt 8 tf ++ leBytes 2 m ++ [byte (verdictOf causes), 0] ++ leBytes 4 causes)
  ∧ (∀ (s : State) (t m i : Nat) (b : RepPos), let a := s.advance t
    a.up .comb = true → a.conf.ops.findIdx? (fun y => y.1 = m) = some i → a.conf.ops[i]? = some (m, .reported b) →
    a.monitored m = true → a.timeOk 1 b.t = true →
    Yields (exec (.confReported t m) s) fun v =>
      v.conf.ops = a.conf.ops.eraseIdx i
      ∧ (v.confSlot m).cells = (a.excursion m ⟨b.t, b.e, b.n, a.radiusOf (b.sigma * b.sigma * 1000000), some (signed 16 b.heading)⟩).cells
      ∧ (v.confSlot m).ages = modNth (a.confSlot m).ages 1 (fun _ => some b.t)
      ∧ (v.confSlot m).verdict.take 10 = leInt 8 b.t ++ leBytes 2 m)
  ∧ (∀ (s : State) (t m i : Nat) (tf : Int) (pos : V3) (sg st : Nat), let a := s.advance t
    let p := a.planePoint pos
    let causes := (a.firstPair m ⟨2, tf, p.1, p.2, sg * sg * 1000000, none⟩).2.2.1
    a.up .comb = true → a.conf.ops.findIdx? (fun y => y.1 = m) = some i → a.conf.ops[i]? = some (m, .developed tf pos sg st) →
    a.monitored m = true → a.timeOk 2 tf = true →
    Yields (exec (.confDeveloped t m) s) fun v =>
      v.conf.ops = a.conf.ops.eraseIdx i ∧ (v.confSlot m).ages = modNth (a.confSlot m).ages 2 (fun _ => some tf)
      ∧ (v.confSlot m).verdict.take 16 = leInt 8 tf ++ leBytes 2 m ++ [byte (verdictOf causes), 2] ++ leBytes 4 causes)
  ∧ (∀ (s : State) (t m i : Nat) (fixed : Bool), let a := s.advance t
    let causes := if fixed then 0 else 2 ^ 6
    a.up .comb = true → a.conf.ops.findIdx? (fun y => y.1 = m) = some i → a.conf.ops[i]? = some (m, .notice fixed) →
    a.monitored m = true →
    Yields (exec (.confResultNotice t m) s) fun v =>
      v.conf.ops = a.conf.ops.eraseIdx i
      ∧ (v.confSlot m).verdict.take 16 = leInt 8 a.time64 ++ leBytes 2 m ++ [0, 4] ++ leBytes 4 causes
      ∧ (v.confSlot m).counters = modNth (a.confSlot m).counters 6 (fun n => if fixed then 0 else n + 1))
  ∧ (∀ (s : State) (t m i kind : Nat) (c : Instr) (op : ConfOp) (tp : Int), let a := s.advance t
    (kind = 0 ∧ c = .confFix t m) ∨ (kind = 1 ∧ c = .confReported t m) ∨ (kind = 2 ∧ c = .confDeveloped t m) →
    a.up .comb = true → a.conf.ops.findIdx? (fun y => y.1 = m) = some i → a.conf.ops[i]? = some (m, op) → op.kind = kind →
    a.monitored m = true → op.time = some tp → tp < a.time64 - a.staleLimit kind ∨ a.time64 + 50000000 < tp →
    Yields (exec c s) fun v =>
      v.conf.ops = a.conf.ops.eraseIdx i ∧ (v.confSlot m).counters = (a.confSlot m).counters ∧ v.stop = a.stop
      ∧ (v.confSlot m).verdict.take 16 = leInt 8 tp ++ leBytes 2 m ++ [0, byte kind] ++ leBytes 4 (2 ^ 18))
  ∧ (∀ (s : State) (t m i : Nat) (c : Instr) (op : ConfOp), let a := s.advance t
    (op.kind = 0 ∧ c = .confFix t m) ∨ (op.kind = 1 ∧ c = .confReported t m) ∨ (op.kind = 2 ∧ c = .confDeveloped t m)
      ∨ (op.kind = 4 ∧ c = .confResultNotice t m) →
    a.up .comb = true → a.conf.ops.findIdx? (fun y => y.1 = m) = some i → a.conf.ops[i]? = some (m, op) →
    a.monitored m = false →
    Yields (exec c s) fun v =>
      v.conf = { a.conf with ops := a.conf.ops.eraseIdx i, ignored := wrap 32 (a.conf.ignored + 1) } ∧ Only (told ++ [Part.conf]) a v)
  ∧ (∀ (s : State) (t m : Nat) (x : ConfSlot), let a := s.advance t
    a.up .comb = true → a.conf.slots = [(m, x)] → a.monitored m = true → (∀ k < 3, a.kindStale m k = false) →
    Yields (exec (.confFreshnessTick t) s) fun v =>
      (∀ row < 10, nth (v.confSlot m).counters row = if 3 ≤ row ∧ row ≤ 5 then 0 else nth x.counters row) ∧ (v.confSlot m).verdict = x.verdict)
  ∧ (∀ (s : State) (t m : Nat) (x : ConfSlot), let a := s.advance t
    let on := fun k => a.kindStale m k
    let causes := (if on 1 then 2 ^ 3 else 0) ||| (if on 0 then 2 ^ 4 else 0) ||| (if on 2 then 2 ^ 5 else 0)
    a.up .comb = true → a.conf.slots = [(m, x)] → a.monitored m = true → on 0 || on 1 || on 2 → x.staleAt = [none, none, none] →
    Yields (exec (.confFreshnessTick t) s) fun v =>
      (v.confSlot m).verdict.take 16 = leInt 8 a.time64 ++ leBytes 2 m ++ [3, 3] ++ leBytes 4 causes)
  ∧ (∀ (s : State) (t : Nat), let a := s.advance t
    a.up .comb = true → a.cfg 0x480C 0 ≤ a.quality → a.base.st = 2 →
    Yields (exec (.confDeviceTick t) s) fun v =>
      v.conf = { a.conf with rows := modNth (modNth a.conf.rows 7 fun _ => 0) 9 fun _ => 0 } ∧ Only (told ++ [Part.conf]) a v)
  ∧ (∀ (s : State) (t : Nat), let a := s.advance t
    let p := a.policy (a.cfg 0x4820 0) 9
    a.up .comb = true → a.base.st ≠ 2 → p.1 = 4 → p.2 ≤ nth a.conf.rows 9 + 1 → a.up .timebase = true →
    Yields (exec (.confDeviceTick t) s) fun v => bit (v.stop.latch .all) 6 = true)
  ∧ (∀ (s : State) (t : Nat) (c : Caller) (v : Bytes), let a := s.advance t
    let i := si v 8 8
    let d := si v 16 8
    a.writes c 0x4821 0 v = true → a.conf.swarm = none → u v 0 1 ≤ 7 → allZero (slice v 1 7) = true → a.time64 + (200 * ms : Nat) ≤ i →
    i ≤ a.time64 + (3600 * sec : Nat) → i ≤ d → d ≤ i + (600 * sec : Nat) →
    Yields (exec (.swarmCommand t c v) s) fun w =>
      w.conf = { a.conf with swarm := some ⟨u v 0 1, i, d, false⟩, slots := a.conf.slots.map fun e => (e.1, { e.2 with ackAhead := none }) }
      ∧ Only (told ++ [Part.conf]) a w)
  ∧ (∀ (s : State) (t : Nat) (c : Caller) (v : Bytes), let a := s.advance t
    let i := si v 8 8
    let d := si v 16 8
    a.writes c 0x4821 0 v = true →
    a.conf.swarm.isSome = true ∨ i < a.time64 + (200 * ms : Nat) ∨ a.time64 + (3600 * sec : Nat) < i ∨ d < i ∨ i + (600 * sec : Nat) < d →
    u v 0 1 ≠ 0xFF →
    Yields (exec (.swarmCommand t c v) s) fun w => w.conf = a.conf ∧ Only told a w)
  ∧ (∀ (s : State) (t : Nat) (c : Caller) (v : Bytes) (x : Swarm), let a := s.advance t
    a.writes c 0x4821 0 (byte 0xFF :: v.drop 1) = true → allZero (slice v 1 7) = true → a.conf.swarm = some x → a.time64 < x.instant →
    Yields (exec (.swarmCancel t c v) s) fun w => w.conf = { a.conf with swarm := none } ∧ Only (told ++ [Part.conf]) a w)
  ∧ (∀ (s : State) (t : Nat) (w : Swarm), let a := s.advance t
    a.up .comb = true → a.conf.swarm = some w → w.applied = false → w.instant ≤ a.time64 → w.mode < 256 →
    Yields (exec (.swarmInstant t) s) fun v =>
      v.conf.swarm = some { w with applied := true } ∧ v.cfg 0x4820 0 = w.mode
      ∧ (∀ m < 1024, Tbl.get? a.conf.slots m ≠ none → (a.confSlot m).ackAhead = some w.mode → (v.confSlot m).acked = w.mode
          ∧ (v.confSlot m).ackAhead = none))
  ∧ (∀ (s : State) (t : Nat) (w : Swarm), let a := s.advance t
    a.up .comb = true → a.conf.swarm = some w → w.applied = true → w.deadline ≤ a.time64 →
    Yields (exec (.swarmDeadline t) s) fun v => v.conf.swarm = none ∧ v.conf.past = some (w.mode, w.instant))

/-- Pins are debounced and judged, discrepancies lock, output faults latch, StopCommand and neighbour notices set latches, votes
give go, a disagreement of the channels stops the slot, and a release clears the latches it names and no other. Rules: R529,
R530, R531, R535, R536, R537, R541, R542, R543, R549, R556, R561. The model's choices in it: log entry 18. -/
def Obligations.StopBath : Prop :=
  (∀ (s : State) (t n pin : Nat) (level : Bool), let a := s.advance t
    let x := (a.stop.inp n).pin pin
    n < 4 → pin < 2 → a.stop.ins.length = 4 → x.level ≠ level →
    Yields (exec (.siPinChange t n pin level) s) fun v =>
      (v.stop.inp n).pin pin = (if a.now < x.since + 2 * us then ⟨level, x.before, x.deb, x.before⟩ else ⟨level, a.now, x.deb, x.since⟩)
      ∧ (v.stop.inp n).pin (1 - pin) = (a.stop.inp n).pin (1 - pin) ∧ (∀ k < 4, k ≠ n → v.stop.inp k = a.stop.inp k)
      ∧ v.stop.a = a.stop.a ∧ v.stop.b = a.stop.b ∧ Only (told ++ [Part.stop]) a v)
  ∧ (∀ (s : State) (t n pin : Nat), let a := s.advance t
    n < 4 → pin < 2 → a.stop.ins.length = 4 → a.siHeld n pin = true → a.up .timebase = true →
    Yields (exec (.siDebounceExpiry t n pin) s) fun v =>
      ((v.stop.inp n).pin pin).deb = ((a.stop.inp n).pin pin).level
      ∧ (v.siStopped n = true → bit (v.stop.latch (siLatch (a.siCfg n))) n = true))
  ∧ (∀ (s : State) (t n t0 : Nat), let a := s.advance t
    let c := a.siCfg n
    n < 4 → a.stop.ins.length = 4 → (a.stop.inp n).differ = some t0 → (a.stop.inp n).lock = .none → siMode c ≠ 0 →
    t0 + siDiscrepancyTime c < a.now → (a.stop.inp n).goA c ≠ (a.stop.inp n).goB c → a.up .timebase = true →
    Yields (exec (.siDiscrepancy t n) s) fun v =>
      (v.stop.inp n).lock = .locked ∧ bit (v.stop.latch (siLatch c)) n = true ∧ v.log = (a.logEv .siDiscrepancy []).log)
  ∧ (∀ (s : State) (t n : Nat) (p m : Bool), let a := s.advance t
    let c := a.soCfg n
    n < 4 → a.stop.outs.length = 4 → soEnabled c = true → soWrong (a.soDriving n) p m = true → (a.stop.outp n).readback = false →
    (a.stop.outp n).pulse = none → a.up .timebase = true →
    Yields (exec (.soFault t n p m) s) fun v =>
      (v.stop.outp n).readback = true ∧ bit (v.stop.latch (soLatch c)) 8 = true ∧ v.log = (a.logEv .soFault []).log)
  ∧ (∀ (s : State) (t n : Nat), let a := s.advance t
    let c := a.soCfg n
    n < 4 → a.stop.outs.length = 4 → soEnabled c = true → soPulsed c = true → (a.stop.outp n).lastTest = none →
    a.stop.outs.all (fun o => o.pulse.isNone) = true →
    Yields (exec (.soPulseTest t n) s) fun v =>
      v.stop.outp n = { a.stop.outp n with pulse := some a.now, lastTest := some a.now } ∧ v.soDriving n = false
      ∧ (∀ k < 4, k ≠ n → v.stop.outp k = a.stop.outp k) ∧ Only (told ++ [Part.stop]) a v)
  ∧ (∀ (s : State) (t n t0 : Nat) (p m : Bool), let a := s.advance t
    n < 4 → a.stop.outs.length = 4 → (a.stop.outp n).pulse = some t0 → t0 + soWidth (a.soCfg n) ≤ a.now → a.up .timebase = true →
    Yields (exec (.soPulseTestEnd t n p m) s) fun v =>
      (v.stop.outp n).pulse = none ∧ (v.stop.outp n).failed = (p || !m)
      ∧ ((p || !m) = true → (a.stop.outp n).failed = false → bit (v.stop.latch (soLatch (a.soCfg n))) 8 = true))
  ∧ (∀ (s : State) (t n : Nat) (p m : Bool), let a := s.advance t
    n < 4 → a.stop.outs.length = 4 → (a.stop.outp n).readback = true → soWrong (a.soDriving n) p m = false →
    Yields (exec (.soFaultEnd t n p m) s) fun v =>
      v.stop.outp n = { a.stop.outp n with readback := false } ∧ v.stop.a = a.stop.a ∧ v.stop.b = a.stop.b ∧ Only (told ++ [Part.stop]) a v)
  ∧ (∀ (s : State) (t : Nat) (c : Caller) (v : Bytes), let a := s.advance t
    a.writes c 0x4840 0 v = true → u v 0 1 ≤ 3 → u v 1 1 = 0 → a.commandTargetOk (u v 0 1) (u v 2 2) = true → a.up .timebase = true →
    Yields (exec (.stopCommand t c v) s) fun w =>
      bit (w.stop.latch (latchOf (u v 0 1) (u v 2 2))) 4 = true
      ∧ (u v 0 1 = 0 → w.stop.a.go = [] ∧ (a.up .aon = true → w.stop.b.go = []))
      ∧ (∀ m < 1024, m ∈ a.stop.go → m ∉ w.stop.go → Tbl.get? w.stop.frames m = some (3, a.now)))
  ∧ (∀ (s : State) (t n : Nat) (c : Caller) (msg : Bytes), let a := s.advance t
    a.requests c 0x4862 msg = true → a.nbrOfCaller c = some n → msg.length = 16 → u msg 0 2 = a.nbrId n → u msg 2 1 ≤ 1 → u msg 3 1 = 0 →
    a.up .timebase = true →
    Yields (exec (.stopNeighbourNotice t c msg) s) fun w =>
      if bit (a.cfg 0x4860 0) n then bit (w.stop.latch (if u msg 2 1 = 0 then .all else .zone (16 + n))) 7 = true
      else w.stop = a.stop ∧ w.log = (a.logEv .stopNoticeIgnored []).log)
  ∧ (∀ (s : State) (t n : Nat) (x : StopNotice), let a := s.advance t
    a.stop.notices = [x] → x.nbr = n → x.last + 2 * ms ≤ a.now → a.now < x.since + 200 * ms → (a.nbr n).session.isSome = true →
    Yields (exec (.stopNoticeRepeat t n) s) fun w =>
      w.stop = { a.stop with notices := [{ x with last := a.now }] } ∧ Out.nbr n 0x4862 x.body ∈ w.out ∧ Only (told ++ [Part.stop]) a w)
  ∧ (∀ (s : State) (t : Nat), let a := s.advance t
    a.up .timebase = true → a.up .aon = true →
    Yields (exec (.stopVote t) s) fun w =>
      w.stop = { a.stop with votes := a.stop.b.vote 1 a.now :: a.stop.a.vote 0 a.now :: a.stop.votes.filter fun v => a.now ≤ v.at_ + 250 * us }
      ∧ Only (told ++ [Part.stop]) a w)
  ∧ (∀ (s : State) (t t0 : Nat), let a := s.advance t
    a.stop.disagree = some t0 → t0 + 40 * us < a.now → a.stop.a.go ≠ a.stop.b.go → a.up .timebase = true →
    Yields (exec (.stopChannelDisagree t) s) fun w =>
      bit (w.stop.latch .all) 10 = true ∧ w.stop.a.go = [] ∧ w.log = (a.logEv .stopChannelDisagree []).log)
  ∧ (∀ (s : State) (t : Nat) (c : Caller) (v : Bytes), let a := s.advance t
    a.writes c 0x4841 0 v = true → a.releaseChecks (u v 0 1) (u v 1 1) (u v 2 2) (a.privOf c) = none →
    Yields (exec (.releaseArm t c v) s) fun w =>
      w.stop = { a.stop with arm := some ⟨u v 0 1, u v 2 2, wrap 32 (Config.rand a.free), a.now⟩ } ∧ Only (told ++ [Part.stop, Part.free]) a w)
  ∧ (∀ (s : State) (t : Nat) (c : Caller) (v : Bytes) (x : Arm), let a := s.advance t
    a.writes c 0x4843 0 v = true → a.releaseChecks (u v 0 1) (u v 1 1) (u v 2 2) (a.privOf c) = none →
    a.stop.arm = some x → x.scope = u v 0 1 → x.target = u v 2 2 → x.number = u v 4 4 → x.at_ + a.cfg 0x4844 0 * ms ≤ a.now →
    a.now ≤ x.at_ + a.cfg 0x4845 0 * sec → a.up .timebase = true → a.up .aon = true →
    Yields (exec (.releaseConfirm t c v) s) fun w =>
      w.stop.arm = none ∧ (u v 0 1 = 4 → w.stop.a.clear = true ∧ w.stop.b.clear = true)
      ∧ (u v 0 1 ≠ 4 → w.stop.latch (latchOf (u v 0 1) (u v 2 2)) = 0) ∧ (∀ m < 1024, m ∈ a.wouldGo (u v 0 1) (u v 2 2) → m ∈ w.stop.go))
  ∧ (∀ (s : State) (t : Nat) (c : Caller) (v : Bytes), let a := s.advance t
    a.writes c 0x4843 0 v = true →
    (a.releaseChecks (u v 0 1) (u v 1 1) (u v 2 2) (a.privOf c)).isSome = true ∨ (a.confirmChecks v).isSome = true →
    Yields (exec (.releaseConfirm t c v) s) fun w => w.stop = { a.stop with arm := none } ∧ Only (told ++ [Part.stop]) a w)

/-- A link's connection event and its reply, supervision and join timeouts, beacons sent and heard, join requests and the waggle
broadcast do what chapter 12 says, with the tune words and enables that each drives. Rules: R596, R599, R602, R603, R604, R606,
R608, R613. The model's choices in it: log entry 40. -/
def Obligations.LinkEvents : Prop :=
  (∀ (s : State) (t m n : Nat) (l : Link), let a := s.advance t
    let x : Int := a.now - (a.radioTime - l.anchor n)
    let token := a.safelight m n x.toNat l
    let sent := l.refill (l.par.down - 28 - token.length)
    let plain := token ++ sent.sent.flatMap Elem.bytes
    let v := a.mvalNow l.modem
    let f := devFrame 0x11 (b2n l.sn + 2 * b2n l.nesn) l.linkId (l.txCount + 1) (n % 65536) l.linkKey plain
    let ns := frameNs v.half v.linkRate (28 + plain.length)
    let ch := l.par.channel n
    a.up .radio = true → a.radio.farewells = [] → a.link? m = some l → l.pend = none → a.eventNow l = some n → l.keyOk = true →
    l.txCount + 1 < 2 ^ 40 → l.awaiting = none → Tbl.get? a.stop.frames m = none →
    Yields (exec (.linkEvent t m) s) fun u =>
      Out.radio l.modem ch f (frameBytes f) ∈ u.out ∧ Out.enable l.modem true (x - 2000) (x + ns + 1000) ∈ u.out
      ∧ Out.tune l.modem (tuneBits (Sys2Proof.Machine.u (l.chans.getD ch []) 4 4)) (x - v.guardNs - 40) (x - v.guardNs) ∈ u.out
      ∧ Out.enable l.modem false (x + ns + 1000) (x + (l.par.len * unitNs : Nat) - v.guardNs) ∈ u.out
      ∧ u.link? m = some { sent with next := n + 1, events := wrap 32 (l.events + (n + 1 - l.next)), txCount := l.txCount + 1,
                                     awaiting := some (x.toNat + ns) })
  ∧ (∀ (s : State) (t m : Nat) (l : Link) (f : RadioFrame) (offset rssi : Int), let a := s.advance t
    let ifs : Int := tIfs (a.mvalNow l.modem).half
    let ack := bit f.flags 1 ≠ l.sn
    let new := bit f.flags 0 = l.nesn
    a.up .radio = true → a.link? m = some l → l.awaiting.isSome = true → l.keyOk = true → f.fcsGood = true → f.ftype = 0x21 → f.id = l.linkId →
    ifs - 2000 ≤ offset → offset ≤ ifs + 10000 → micOk f l.linkKey = true → l.rxHigh < f.counter → f.body.plain = [] → l.msgs = [] →
    Yields (exec (.linkReplyReceived t m f offset rssi) s) fun u =>
      u.link? m = some { l with rxHigh := f.counter, lastRx := a.now, awaiting := none, rssi := satInt 8 rssi,
                                sent := if ack then [] else l.sent, sn := if ack then !l.sn else l.sn, nesn := if new then !l.nesn else l.nesn }
      ∧ Only (told ++ [Part.radio]) a u)
  ∧ (∀ (s : State) (t m : Nat) (l : Link) (f : RadioFrame) (offset rssi : Int), let a := s.advance t
    let ifs : Int := tIfs (a.mvalNow l.modem).half
    let fleet := a.cfg 0x4820 0
    a.up .radio = true → a.link? m = some l → l.awaiting.isSome = true → l.keyOk = true → f.fcsGood = true → f.ftype = 0x21 → f.id = l.linkId →
    ifs - 2000 ≤ offset → offset ≤ ifs + 10000 → micOk f l.linkKey = true → l.rxHigh < f.counter → bit f.flags 1 = l.sn → bit f.flags 0 = l.nesn →
    l.st = .joining → allZero l.swarm = true → fleet < 256 → f.body.plain = elemBytes 4 (byte fleet :: zeros 11) →
    Yields (exec (.linkReplyReceived t m f offset rssi) s) fun u =>
      u.connected m = true ∧ (u.confSlot m).since = some a.now ∧ (u.confSlot m).acked = fleet)
  ∧ (∀ (s : State) (t m : Nat) (l : Link) (f : RadioFrame) (offset rssi : Int), let a := s.advance t
    let ifs : Int := tIfs (a.mvalNow l.modem).half
    a.up .radio = true → a.link? m = some l → l.awaiting.isSome = true → l.keyOk = true → f.fcsGood = true → f.ftype = 0x21 → f.id = l.linkId →
    ifs - 2000 ≤ offset → offset ≤ ifs + 10000 → (micOk f l.linkKey = false ∨ f.counter ≤ l.rxHigh) →
    Yields (exec (.linkReplyReceived t m f offset rssi) s) fun u =>
      u.link? m = some (if micOk f l.linkKey then { l with replays := wrap 32 (l.replays + 1) } else { l with micFails := wrap 32 (l.micFails + 1) })
      ∧ u.radio.micFails = (if micOk f l.linkKey then a.radio.micFails else wrap 32 (a.radio.micFails + 1))
      ∧ u.radio.replayDrops = (if micOk f l.linkKey then wrap 32 (a.radio.replayDrops + 1) else a.radio.replayDrops) ∧ Only (told ++ [Part.radio]) a u)
  ∧ (∀ (s : State) (t m : Nat) (l : Link), let a := s.advance t
    a.up .radio = true → a.link? m = some l → l.lastRx + l.par.sup * 10 * ms ≤ a.now →
    Yields (exec (.linkSupervisionTimeout t m) s) fun u =>
      u.link? m = none ∧ u.radio.ended = wrap 32 (a.radio.ended + 1) ∧ (l.st = .connected → (u.confSlot m).since = none))
  ∧ (∀ (s : State) (t m : Nat) (l : Link), let a := s.advance t
    a.up .radio = true → a.link? m = some l → l.st = .joining → l.anchor 8 ≤ a.radioTime →
    Yields (exec (.linkJoinTimeout t m) s) fun u =>
      u.link? m = none ∧ u.radio.ended = wrap 32 (a.radio.ended + 1) ∧ u.conf = a.conf ∧ u.log = a.log)
  ∧ (∀ (s : State) (t k : Nat) (kb : Bytes), let a := s.advance t
    let v := a.mvalNow k
    let x := a.recurAt v.bOffset (v.bPeriod * 20)
    let f := devFrame 0x31 0 (broadcastId a.controllerId k) ((a.modem k).counter + 1) 0 kb (a.beaconPayload k v [])
    a.keyFor (a.cfg 0x2C0B 0) 4 = some kb → a.up .radio = true → a.modemOn k = true → k < a.radio.modems.length →
    a.recurs v.bOffset (v.bPeriod * 20) = true → v.hb = false →
    Yields (exec (.beaconSend t k) s) fun u =>
      Out.radio k v.bChan f (frameBytes f) ∈ u.out ∧ Out.enable k true (x - 2000) (x + frameNs v.half 0 68 + 1000) ∈ u.out
      ∧ Out.tune k (tuneBits (Sys2Proof.Machine.u (a.modem k).entry 4 4)) (x - v.guardNs - 40) (x - v.guardNs) ∈ u.out
      ∧ u.modem k = { a.modem k with counter := (a.modem k).counter + 1 } ∧ u.radio.links = a.radio.links ∧ Only (told ++ [Part.radio, Part.health]) a u)
  ∧ (∀ (s : State) (t k m int len off : Nat) (f : RadioFrame) (fleet : Bytes), let a := s.advance t
    let p := f.body.plain
    a.up .radio = true → a.modemOn k = true → (a.mvalNow k).joinWin ≠ 0 → f.fcsGood = true → f.ftype = 0x51 → a.gone .security = false →
    a.keyFor (a.cfg 0x2C09 0) 2 = some fleet → micOk f (joinKey fleet f.id) = true → a.slotOf f.id = some m →
    a.cfg (0x7000 + m) 2 < f.counter → f.counter < 2 ^ 64 → p.length = 24 → 1 ≤ u p 16 2 → u p 16 2 ≤ 500 → u p 22 2 = 0 →
    a.joinStatus k (a.mvalNow k) f.id (u p 18 2) (u p 20 2) = (0, m, int, len, off) →
    Yields (exec (.joinRequest t k f) s) fun v =>
      v.cfg (0x7000 + m) 2 = f.counter
      ∧ ∃ l, v.link? m = some l ∧ l.st = .joining ∧ l.modem = k ∧ l.offset = off ∧ l.pend = none ∧ l.txCount = 0 ∧ l.rxHigh = 0
          ∧ 1 ≤ l.linkId ∧ l.linkId < 2 ^ 31 ∧ l.msgs = [] ∧ l.swarm = a.pendingAnnounce)
  ∧ (∀ (s : State) (t k : Nat) (f : RadioFrame) (fleet : Bytes), let a := s.advance t
    let p := f.body.plain
    let x := a.joinStatus k (a.mvalNow k) f.id (u p 18 2) (u p 20 2)
    let r := devFrame 0x61 0 f.id f.counter 0 (joinKey fleet f.id) (1 :: zeros 75)
    a.up .radio = true → a.modemOn k = true → (a.mvalNow k).joinWin ≠ 0 → f.fcsGood = true → f.ftype = 0x51 → a.gone .security = false →
    a.keyFor (a.cfg 0x2C09 0) 2 = some fleet → micOk f (joinKey fleet f.id) = true → a.slotOf f.id = none →
    p.length = 24 → 1 ≤ u p 16 2 → u p 16 2 ≤ 500 → u p 22 2 = 0 →
    Yields (exec (.joinRequest t k f) s) fun v =>
      x.1 = 1 ∧ v.radio = { a.radio with joinRefused := wrap 32 (a.radio.joinRefused + 1) }
      ∧ Out.radio k (a.mvalNow k).bChan r (frameBytes r) ∈ v.out ∧ Only (told ++ [Part.radio]) a v)
  ∧ (∀ (s : State) (t k n : Nat) (f : RadioFrame) (kb : Bytes) (w : ReplayWin), let a := s.advance t
    let p := framePayload f
    a.up .radio = true → a.modemOn k = true → (a.modem k).listens.any (fun l => l.nbr = n) = true → a.nbrPresent n = true → f.fcsGood = true →
    f.ftype = 0x31 → f.id = broadcastId (a.nbrId n) 2 → a.keyFor (a.cfg 0x2C0B 0) 4 = some kb → micOk f kb = true →
    ReplayWin.take (Tbl.get? a.radio.wins f.id) f.counter = some w → bit (u p 3 1) 1 = false →
    Yields (exec (.neighbourBeacon t k n f) s) fun v =>
      v.radio = { a.radio with wins := Tbl.put a.radio.wins f.id w } ∧ Only (told ++ [Part.radio]) a v)
  ∧ (∀ (s : State) (t k n : Nat) (f : RadioFrame) (kb : Bytes), let a := s.advance t
    a.up .radio = true → a.modemOn k = true → (a.modem k).listens.any (fun l => l.nbr = n) = true → a.nbrPresent n = true → f.fcsGood = true →
    f.ftype = 0x31 → f.id = broadcastId (a.nbrId n) 2 → a.keyFor (a.cfg 0x2C0B 0) 4 = some kb → micOk f kb = true →
    ReplayWin.take (Tbl.get? a.radio.wins f.id) f.counter = none →
    Yields (exec (.neighbourBeacon t k n f) s) fun v =>
      v.radio = { a.radio with replayDrops := wrap 32 (a.radio.replayDrops + 1) } ∧ Only (told ++ [Part.radio]) a v)
  ∧ (∀ (s : State) (t k off : Nat) (kb : Bytes) (w : Swarm), let a := s.advance t
    let v := a.mvalNow k
    let f := devFrame 0x41 0 (broadcastId a.controllerId k) ((a.modem k).counter + 1) 0 kb (elemBytes 7 w.announce)
    a.keyFor (a.cfg 0x2C0A 0) 3 = some kb → (a.modem k).waggle = some off → a.up .radio = true → a.modemOn k = true → k < a.radio.modems.length →
    v.wagInt ≠ 0 → a.recurs off (v.wagInt * 20) = true → 24 ≤ frameFit v.half v.wagRate (v.wagLen * unitNs - v.guardNs) - 28 →
    a.conf.swarm = some w → (a.modem k).rtcm = [] → (a.modem k).msgs = [] →
    Yields (exec (.waggleSend t k) s) fun u =>
      Out.radio k v.bChan f (frameBytes f) ∈ u.out
      ∧ u.modem k = { a.modem k with counter := (a.modem k).counter + 1 } ∧ Only (told ++ [Part.radio, Part.health]) a u)

/-- A committed radio group is planned anew; parameter requests take effect at their instant; a link is ended; MachineId names a
slot, ends its link or is refused; RadioSend and RadioWaggle queue or refuse; the hyperperiod places windows. Rules: R586, R603,
R606, R615, R617, R619, R626. The model's choices in it: log entry 40. -/
def Obligations.RadioCommands : Prop :=
  (∀ (s : State) (t : Nat) (w : Caller), let a := s.advance t
    a.writes w 0x2C00 0 [1] = true → a.groupCheck 0x2C00 = none → a.radio.modems.length = 8 →
    Yields (exec (.radioCommit t w) s) fun u =>
      (∀ m ∈ memberKeys 0x2C00, u.val m.2 = a.val m.1) ∧ (∀ k, k ∉ (memberKeys 0x2C00).map Prod.snd → u.val k = a.val k)
      ∧ (∀ k < 8, (u.modem k).replan = true ∧ (u.modem k).value = (a.modem k).value))
  ∧ (∀ (s : State) (t n k : Nat) (w : Caller) (v : Bytes), let a := s.advance t
    let others := fun (m : Modem) => m.listens.filter fun x => x.nbr ≠ n
    n < 12 → a.writes w 0x2C13 (n + 1) v = true → a.listenCheck n v = none → a.radio.modems.length = 8 → k < 8 →
    Yields (exec (.radioNeighbourListen t w n v) s) fun z =>
      (z.modem k).listens = others (a.modem k) ++ (if u v 0 1 = k then [⟨n, u v 1 1, u v 2 2, u v 4 2⟩] else [])
      ∧ z.val (key 0x2C13 (n + 1)) = v ∧ Only (told ++ [Part.radio, Part.settings]) a z)
  ∧ (∀ (s : State) (t m : Nat) (w : Caller) (v : Bytes) (l : Link), let a := s.advance t
    let q := LinkPar.of v
    let mv := a.mvalNow l.modem
    let p := { l.par with int := q.int, sup := q.sup, lat := q.lat, len := q.len, up := mv.upMax q.len }
    let n := a.updateInstant l
    let off := offsetIn (l.anchor n) (q.int * 20)
    m < 1024 → a.writes w (0x7000 + m) 0x54 v = true → a.link? m = some l → l.st = .connected → l.pend = none → l.held = false →
    v.drop 5 = [0, 0, byte q.len] ++ zeros 12 → mv.parOk p = true → 400 ≤ q.int ∨ a.modemLinks l.modem ≤ 128 →
    (a.resvsNow l.modem [m]).all (fun r => !(p.resv off).clash r) = true →
    Yields (exec (.linkParamRequest t w m v) s) fun u =>
      u.link? m = some { l with pend := some ⟨n, p.bytes, off, l.chans⟩, queue := l.queue ++ [⟨3, leBytes 2 n ++ p.bytes, none⟩] }
      ∧ Only (told ++ [Part.radio]) a u)
  ∧ (∀ (s : State) (t m : Nat) (l : Link) (x : LinkUpdate), let a := s.advance t
    a.link? m = some l → l.pend = some x → l.anchor x.instant ≤ a.radioTime → l.held = false →
    Yields (exec (.linkUpdateInstant t m) s) fun u =>
      u.link? m = some { l with first := l.anchor x.instant, base := x.instant, params := x.params, offset := x.offset, chans := x.chans, pend := none }
      ∧ Only (told ++ [Part.radio]) a u)
  ∧ (∀ (s : State) (t m : Nat) (w : Caller) (l : Link), let a := s.advance t
    m < 1024 → a.writes w (0x7000 + m) 0x55 [1] = true → a.link? m = some l →
    Yields (exec (.linkEnd t w m) s) fun u =>
      u.link? m = none ∧ u.radio.farewells = a.radio.farewells ++ [(m, 0, l)] ∧ u.radio.ended = wrap 32 (a.radio.ended + 1)
      ∧ (l.st = .connected → (u.confSlot m).since = none ∧ u.log = (a.logEv .linkEnd [2]).log))
  ∧ (∀ (s : State) (t m id : Nat) (w : Caller), let a := s.advance t
    m < 1024 → id < 2 ^ 32 → a.writes w (0x7000 + m) 1 (leBytes 4 id) = true →
    id = 0xFFFFFFFF ∨ (∀ j < a.tier, j ≠ m → a.machineId j ≠ id) →
    Yields (exec (.machineIdWrite t w m id) s) fun u =>
      u.machineId m = id ∧ u.link? m = none ∧ (∀ j < 1024, j ≠ m → u.machineId j = a.machineId j))
  ∧ (∀ (s : State) (t m j id : Nat) (w : Caller), let a := s.advance t
    m < 1024 → j < a.tier → j ≠ m → id < 2 ^ 32 → id ≠ 0xFFFFFFFF → a.writes w (0x7000 + m) 1 (leBytes 4 id) = true → a.machineId j = id →
    Yields (exec (.machineIdWrite t w m id) s) fun u => Only told a u)
  ∧ (∀ (s : State) (t : Nat) (w : Caller) (req : Bytes) (l : Link), let a := s.advance t
    let m := u req 0 2
    a.requests w 0x2C11 req = true → 4 ≤ req.length → req.length ≤ 4100 → u req 2 2 = 0 → m < a.tier → m < 1024 → a.link? m = some l →
    l.st = .connected → l.msgs.length < 4 →
    Yields (exec (.radioSend t w req) s) fun v =>
      v.link? m = some { l with msgs := l.msgs ++ [⟨l.msgNext, w, req.drop 4, 0, false⟩], msgNext := wrap 16 (l.msgNext + 1) }
      ∧ Only (told ++ [Part.radio]) a v)
  ∧ (∀ (s : State) (t k : Nat) (w : Caller) (req : Bytes), let a := s.advance t
    let mask := u req 0 1
    a.requests w 0x2C12 req = true → 4 ≤ req.length → req.length ≤ 1028 → 1 ≤ u req 1 1 → u req 1 1 ≤ 8 → u req 2 2 = 0 →
    a.radio.modems.length = 8 → (∀ j < 8, bit mask j = true → a.hasModem j = true) →
    (∀ j < 8, (a.modem j).msgs.length < 16) → mask ≠ 0 → k < 8 →
    Yields (exec (.radioWaggle t w req) s) fun v =>
      (v.modem k).msgs = (a.modem k).msgs ++ (if bit mask k then [(a.radio.waggleNext, u req 1 1)] else [])
      ∧ Tbl.get? v.radio.waggles a.radio.waggleNext = some ⟨w, req.drop 4⟩ ∧ v.radio.waggleNext = a.radio.waggleNext + 1
      ∧ Only (told ++ [Part.radio]) a v)
  ∧ (∀ (s : State) (t k : Nat), let a := s.advance t
    let b := a.cfgB 0x2C04 (k + 1)
    (a.modem k).replan = true → a.up .radio = true → a.hasModem k = true → a.radio.modems.length = 8 →
    Yields (exec (.hyperperiodBoundary t k) s) fun u =>
      u.modem k = { a.modem k with value := b, waggle := a.wagglePlace k (Mval.of b), entry := a.cfgB 0x2C02 ((Mval.of b).bChan + 1), replan := false } ∧ (∀ j < 8, j ≠ k → u.modem j = a.modem j)
      ∧ Only (told ++ [Part.radio]) a u)

/-- REFIN lost and back, an offset taken, sources qualified and gone, the acquisition step and the armed step of TIME64, and arming
and disarming do what chapter 13 says. Rules: R634, R637, R638, R642, R648, R649. The model's choices in it: log entries 11, 12. -/
def Obligations.TimeServo : Prop :=
  (∀ (s : State) (t : Nat), let a := s.advance t
    a.tb.refin = true →
    Yields (exec (.refinLost t) s) fun u => u.tb.refin = false ∧ u.tb.refClock = 0 ∧ u.log = (a.logEv .refinLost []).log)
  ∧ (∀ (s : State) (t clock : Nat), let a := s.advance t
    a.tb.refin = false → clock ≠ 0 → clock = a.cfg 0x2015 0 →
    Yields (exec (.refinBack t clock) s) fun u => u.tb.refin = true ∧ u.tb.refClock = clock ∧ u.log = (a.logEv .refinBack []).log)
  ∧ (∀ (s : State) (t src : Nat) (off : Int) (bound : Nat), let a := s.advance t
    a.sized → a.up .timebase = true → 1 ≤ src → src ≤ 4 → a.sourceReaches src = true → ¬ (src = 1 ∧ a.base.st = 3) →
    Yields (exec (.timeOffset t src off bound) s) fun u =>
      (u.tb.src src).present = true ∧ (u.tb.src src).last = off ∧ (u.tb.src src).lastAt = u.now)
  ∧ (∀ (s : State) (t src : Nat), let a := s.advance t
    a.sized → a.up .timebase = true → 1 ≤ src → src ≤ 4 → (a.tb.src src).consistent a.now (a.cfg 0x2012 0) (a.cfg 0x2011 0) = true →
    Yields (exec (.timeSourceQualified t src) s) fun u => (u.tb.src src).qualified = true)
  ∧ (∀ (s : State) (t src : Nat), let a := s.advance t
    a.sized → 1 ≤ src → src ≤ 4 →
    Yields (exec (.timeSourceNotPresent t src) s) fun u => (u.tb.src src).present = false ∧ (u.tb.src src).qualified = false)
  ∧ (∀ (s : State) (t c : Nat), let a := s.advance t
    let off := a.tb.predict (a.tb.src c) a.now
    a.up .timebase = true → a.tb.st = .freerun → a.candidate = some c → (a.time64 - off) % (1000000000 : Int) = 0 →
    Yields (exec (.timeAcquired t) s) fun u =>
      u.tb.st = .locked ∧ u.tb.source = c ∧ u.time64 = a.time64 - off ∧ ∀ o ∈ u.outs, o.floating = false)
  ∧ (∀ (s : State) (t c : Nat), let a := s.advance t
    let off := a.tb.predict (a.tb.src c) a.now
    a.up .timebase = true → a.tb.st = .holdJump → a.tb.armed = true → a.firstDisagree = some c → a.time64 % (1000000000 : Int) < 2 →
    Yields (exec (.timeStep t) s) fun u =>
      u.tb.st = .locked ∧ u.tb.source = c ∧ u.tb.armed = false ∧ u.time64 = a.time64 - off)
  ∧ (∀ (s : State) (t : Nat) (c : Caller), let a := s.advance t
    a.writes c 0x2008 0 [1] = true → a.tb.st = .holdJump → a.stoppedAll = true →
    Yields (exec (.timeStepArm t c) s) fun u => u.tb = { a.tb with armed := true } ∧ Only (told ++ [Part.tb]) a u)
  ∧ (∀ (s : State) (t : Nat) (c : Caller), let a := s.advance t
    a.writes c 0x2008 0 [0] = true →
    Yields (exec (.timeStepDisarm t c) s) fun u => u.tb = { a.tb with armed := false } ∧ Only (told ++ [Part.tb]) a u)
  ∧ (∀ (s : State) (t : Nat) (c : Caller) (v : Bytes), let a := s.advance t
    a.writes c 0x2019 0 v = true → a.cfg 0x2018 0 ≠ 0xFF → si v 0 8 % (1000000000 : Int) = 0 →
    Yields (exec (.ppsTimeOfDay t c v) s) fun u => u.tb = { a.tb with ppsTod := some (si v 0 8, a.now) } ∧ Only (told ++ [Part.tb]) a u)

/-- Leading and trailing edges are emitted, skipped or withheld by quality and gap; a commit of a pulse value applies; the
time-of-day line of a second is sent once; captures are numbered, posted or buffered. Rules: R652, R653, R654, R656, R657, R659,
R661. The model's choices in it: log entries 11, 12. -/
def Obligations.TimeOutputs : Prop :=
  (∀ (s : State) (t n k : Nat), let a := s.advance t
    a.sized → a.hasOut n = true → a.up .timebase = true → (a.timeOut n).floating = false → (a.pulseVal n).mode = 1 →
    (a.pulseVal n).pulseAt (a.timeOut n).k (a.tb.fine a.now) = some k → (a.pulseVal n).gate ≤ a.quality →
    (a.timeOut n).gapOk (a.pulseVal n) ((a.pulseVal n).edge k) = true →
    Yields (exec (.timePulse t n) s) fun u =>
      Out.edge n k true (some (!(a.pulseVal n).low)) ∈ u.out ∧ (u.timeOut n).k = k + 1
        ∧ (u.timeOut n).pulse = some ⟨k, (a.pulseVal n).edge k + (a.pulseVal n).width * fineUnit, !(a.pulseVal n).low⟩)
  ∧ (∀ (s : State) (t n k : Nat), let a := s.advance t
    a.sized → a.hasOut n = true → a.up .timebase = true → (a.timeOut n).floating = false → (a.pulseVal n).mode = 1 →
    (a.pulseVal n).pulseAt (a.timeOut n).k (a.tb.fine a.now) = some k → a.quality < (a.pulseVal n).gate →
    Yields (exec (.timePulse t n) s) fun u =>
      (u.timeOut n).k = k + 1 ∧ (u.timeOut n).pulse = (a.timeOut n).pulse ∧ (u.timeOut n).skipped = ((a.timeOut n).skipped + 1) % 2 ^ 32)
  ∧ (∀ (s : State) (t n k : Nat) (e : Int) (l : Bool), let a := s.advance t
    let rest := if (a.timeOut n).floating then none else if (a.pulseVal n).mode = 1 then some (a.pulseVal n).low else if (a.pulseVal n).mode = 2 then some true else none
    a.sized → n < 8 → (a.timeOut n).pulse = some ⟨k, e, l⟩ → e ≤ a.tb.fine a.now →
    Yields (exec (.timePulseEnd t n) s) fun u =>
      Out.edge n k false rest ∈ u.out ∧ (u.timeOut n).pulse = none ∧ (u.timeOut n).ended = some e)
  ∧ (∀ (s : State) (t n : Nat) (c : Caller), let a := s.advance t
    a.writes c (0x2100 + n) 0 [1] = true → n < 8 → a.pulseCheck (a.cfgB (0x2100 + n) 1) = none →
    Yields (exec (.timePulseCommit t c n) s) fun u =>
      u.cfgB (0x2100 + n) 2 = a.cfgB (0x2100 + n) 1 ∧ Only (told ++ [Part.settings, Part.outs]) a u)
  ∧ (∀ (s : State) (t n : Nat), let a := s.advance t
    let q := a.time64.fdiv 1000000000
    a.sized → a.hasOut n = true → a.up .timebase = true → (a.timeOut n).floating = false → (a.pulseVal n).mode = 2 →
    a.timed = true → (a.pulseVal n).gate ≤ a.quality → 10000000 ≤ a.time64 - q * 1000000000 → (a.timeOut n).todSec ≠ some q →
    Yields (exec (.todMessage t n) s) fun u =>
      Out.tod n (if (a.pulseVal n).baud = 1 then 115200 else 9600) (a.todLine q) ∈ u.out ∧ (u.timeOut n).todSec = some q)
  ∧ (∀ (s : State) (t n quarter : Nat) (rising : Bool), let a := s.advance t
    let r := a.capRecord n rising quarter (a.capIn n).miss false (a.capIn n).seq
    a.sized → a.hasCap n = true → a.up .timebase = true → a.cfg 0x2018 0 ≠ n → bit (a.cfg (0x2200 + n) 0) 2 = true →
    bit (a.cfg (0x2200 + n) 0) (if rising then 0 else 1) = true → (∀ x, (a.capIn n).lastAt = some x → x + 400 ≤ 4 * a.now + quarter) →
    Yields (exec (.timeCapture t n rising quarter) s) fun u =>
      (u.capIn n).last = r ∧ (u.capIn n).seq = ((a.capIn n).seq + 1) % 2 ^ 16 ∧ (u.capIn n).lastAt = some (4 * u.now + quarter)
        ∧ (u.capIn n).count = ((a.capIn n).count + 1) % 2 ^ 32)
  ∧ (∀ (s : State) (t n : Nat) (b : Bytes) (v : State), let a := s.advance t
    a.sized → n < 4 → (a.capIn n).buffer = [b] → a.post? (a.cfg 0x2210 0) b = some v →
    Yields (exec (.capturePostRetry t n) s) fun u => (u.capIn n).buffer = [] ∧ u.fabric.queues = v.fabric.queues)

/-- A good frame is counted, learnt from and queued to the port of its destination or to all; transmission frees its place;
addresses age; configuration, SGMII control words and PCS changes move the link. Rules: R669, R671, R672, R677, R696. The
model's choices in it: log entry 43. -/
def Obligations.EthernetFrames : Prop :=
  (∀ (s : State) (t n : Nat) (groups f : Bytes), let a := s.advance t
    let e : EgFrame := ⟨f, n, a.rxStamp n, .plain⟩
    let b := a.learn (ethSrc f) n
    a.net.ports.length = 4 → a.up .network = true → a.ethOn n = true → a.accepted n groups = some f →
    (∀ m, ptpOf f = some m → a.terminates n m = false) →
    Yields (exec (.ethFrameReceived t n groups) s) fun v =>
      v.net.macs = b.net.macs ∧ (v.eth n).rx = wrap 64 ((a.eth n).rx + 1) ∧ (v.eth n).drop = (a.eth n).drop
      ∧ (∀ k < 4, (v.eth k).queues = if k ∈ b.routes n (ethDst f) then modNth (a.eth k).queues (a.classOf n f) (· ++ [e]) else (a.eth k).queues))
  ∧ (∀ (s : State) (t n : Nat) (groups : Bytes), let a := s.advance t
    let bad := (wholeFrame (everyNth (a.groupsPerByte n) 0 groups)).isNone
    a.net.ports.length = 4 → a.up .network = true → a.ethOn n = true → a.accepted n groups = none →
    Yields (exec (.ethFrameReceived t n groups) s) fun v =>
      v.eth n = { a.eth n with drop := wrap 64 ((a.eth n).drop + 1), err := if bad then wrap 64 ((a.eth n).err + 1) else (a.eth n).err } ∧ (∀ k < 4, k ≠ n → v.eth k = a.eth k) ∧ v.net.macs = a.net.macs
      ∧ Only (told ++ [Part.net]) a v)
  ∧ (∀ (s : State) (t n c : Nat) (e : EgFrame), let a := s.advance t
    let k := a.groupsPerByte n
    a.net.ports.length = 4 → a.up .network = true → a.ethOn n = true → nextFrame (a.eth n).queues = some (c, e) → ptpOf e.frame = none →
    Yields (exec (.ethFrameSent t n) s) fun v =>
      Out.eth n (spread k (onWire e.frame)) (k * idleGroups) ∈ v.out ∧ v.eth n = { a.eth n with queues := modNth (a.eth n).queues c (·.drop 1), tx := wrap 64 ((a.eth n).tx + 1) }
      ∧ (∀ k < 4, k ≠ n → v.eth k = a.eth k) ∧ Only (told ++ [Part.net]) a v)
  ∧ (∀ (s : State) (t n c : Nat) (e : EgFrame) (m : PtpMsg), let a := s.advance t
    let r := a.txStamp n - e.rx + if a.role n = 3 ∧ m.mtype = 0 then (a.eth e.ingress).peerDelay + ptpAsym (a.ptpVal e.ingress) else 0
    let k := a.groupsPerByte n
    a.net.ports.length = 4 → a.up .network = true → a.ethOn n = true → nextFrame (a.eth n).queues = some (c, e) → ptpOf e.frame = some m →
    e.ingress < 4 → a.role e.ingress = a.role n → (a.role n = 2 ∨ a.role n = 3) → isEvent m = true → ¬(m.mtype = 0 ∧ m.twoStep = true) →
    m.transport = 0 →
    Yields (exec (.ethFrameSent t n) s) fun v =>
      Out.eth n (spread k (onWire (frameWith e.frame { m with correction := addCorrection m.correction r }))) (k * idleGroups) ∈ v.out
      ∧ (v.eth n).queues = modNth (a.eth n).queues c (·.drop 1) ∧ v.net.held = a.net.held)
  ∧ (∀ (s : State) (t mac : Nat), let a := s.advance t
    Yields (exec (.ethAddressAgeing t mac) s) fun v =>
      v.net = { a.net with macs := a.net.macs.filter fun x => x.mac ≠ mac || a.now < x.at_ + a.cfg 0x2406 0 * sec } ∧ Only (told ++ [Part.net]) a v)
  ∧ (∀ (s : State) (t n : Nat) (w : Caller) (v : Bytes), let a := s.advance t
    let old := a.ethVal n
    let new := leNat v
    n < 4 → a.net.ports.length = 4 → a.writes w 0x2400 (n + 1) v = true → a.ethConfigCheck n v = none →
    Yields (exec (.ethPortConfig t w n v) s) fun u =>
      u.val (key 0x2400 (n + 1)) = v
      ∧ (ethMode old = ethMode new → ethAuto old = ethAuto new → u.net = a.net)
      ∧ (ethMode old ≠ ethMode new ∨ ethAuto old ≠ ethAuto new → ethAuto new = true ∨ (a.eth n).pcs = false → ethMode new ≤ 4 → (u.eth n).link = 0)
      ∧ (∀ k < 4, k ≠ n → u.eth k = a.eth k))
  ∧ (∀ (s : State) (t n w : Nat), let a := s.advance t
    let v := a.ethVal n
    a.net.ports.length = 4 → a.up .network = true → a.hasEth n = true → ethAuto v = true → 1 ≤ ethMode v → ethMode v ≤ 4 →
    bit w 0 = true → bits w 10 2 ≠ 3 →
    Yields (exec (.sgmiiControlWord t n w) s) fun u =>
      Out.sgmii n 0x4001 ∈ u.out ∧ (u.eth n).link = (if bit w 15 && bit w 12 then linkCode (ethMode v) (bits w 10 2 + 1) else 0)
      ∧ (u.eth n).speed = bits w 10 2 + 1 ∧ (u.eth n).err = (if bit w 12 then (a.eth n).err else wrap 64 ((a.eth n).err + 1))
      ∧ (∀ k < 4, k ≠ n → u.eth k = a.eth k))
  ∧ (∀ (s : State) (t n : Nat) (synced : Bool), let a := s.advance t
    let v := a.ethVal n
    a.net.ports.length = 4 → a.up .network = true → a.hasEth n = true → ethMode v ≠ 0 → (ethAuto v = false ∨ 4 < ethMode v) →
    Yields (exec (.pcsSyncChange t n synced) s) fun u =>
      (u.eth n).pcs = synced ∧ (u.eth n).link = (if synced then linkCode (ethMode v) (a.eth n).speed else 0)
      ∧ (synced = false → (a.eth n).link ≠ 0 → (u.eth n).foreign = [] ∧ (u.eth n).parent = none ∧ (u.eth n).ptp = (if a.role n = 1 then 1 else 0)))

/-- Sync, announce, delay requests and responses move the port's state, give offsets to the Timebase and are answered as chapter 14
says. Rules: R686, R688, R690, R691, R693, R694, R695. The model's choices in it: log entries 28, 43. -/
def Obligations.PtpMessages : Prop :=
  (∀ (s : State) (t n : Nat) (m : PtpMsg), let a := s.advance t
    let p := a.eth n
    a.net.ports.length = 4 → a.ptpRuns n = true → (p.ptp = 8 ∨ p.ptp = 9) → m.domain = a.ptpDomain → p.parent.map PtpMsg.source = some m.source →
    m.mtype = 0 → m.twoStep = false →
    Yields (exec (.ptpSyncReceived t n m) s) fun v =>
      v.net.offset = a.rxStamp n - m.stamp * 65536 - m.correction - a.pathDelay n ∧ (v.eth n).ptp = 9 ∧ (v.eth n).syncAt = some a.now)
  ∧ (∀ (s : State) (t n : Nat) (m : PtpMsg), let a := s.advance t
    let p := a.eth n
    a.net.ports.length = 4 → a.ptpRuns n = true → (p.ptp = 8 ∨ p.ptp = 9) → m.domain = a.ptpDomain → p.parent.map PtpMsg.source = some m.source →
    m.mtype = 0 → m.twoStep = true →
    Yields (exec (.ptpSyncReceived t n m) s) fun v =>
      v.eth n = { p with twoStep := some (m.seqId, a.rxStamp n, m.correction) } ∧ Only (told ++ [Part.net]) a v)
  ∧ (∀ (s : State) (t n : Nat) (m : PtpMsg) (t2 c : Int), let a := s.advance t
    let p := a.eth n
    a.net.ports.length = 4 → a.ptpRuns n = true → (p.ptp = 8 ∨ p.ptp = 9) → m.domain = a.ptpDomain → p.parent.map PtpMsg.source = some m.source →
    m.mtype = 8 → p.twoStep = some (m.seqId, t2, c) →
    Yields (exec (.ptpSyncReceived t n m) s) fun v =>
      v.net.offset = t2 - m.stamp * 65536 - c - m.correction - a.pathDelay n ∧ (v.eth n).ptp = 9 ∧ (v.eth n).twoStep = none)
  ∧ (∀ (s : State) (t n t1 : Nat) (m m0 : PtpMsg), let a := s.advance t
    let p := a.eth n
    a.net.ports.length = 4 → a.clockPorts = [n] → a.ptpRuns n = true → m.mtype = 11 → m.domain = a.ptpDomain → m.source / 65536 ≠ a.clockId →
    p.ptp = 4 → p.foreign = [⟨m0, [t1]⟩] → m0.source = m.source → a.now ≤ t1 + 4 * logInterval (ptpLogAnnounce (a.ptpVal n)) → m.steps < 255 →
    128 ≤ (a.ownAnnounce n).clockClass → 0 ≤ dsCmp (a.ownAnnounce n) m (a.portId n) (a.portId n) →
    Yields (exec (.ptpAnnounceReceived t n m) s) fun v =>
      (v.eth n).ptp = 8 ∧ (v.eth n).parent = some m ∧ (v.eth n).foreign = [⟨m, [a.now, t1]⟩])
  ∧ (∀ (s : State) (t n : Nat) (m : PtpMsg), let a := s.advance t
    let p := a.eth n
    a.net.ports.length = 4 → a.ptpRuns n = true → m.mtype = 11 → m.domain = a.ptpDomain → m.source / 65536 ≠ a.clockId → p.foreign = [] →
    Yields (exec (.ptpAnnounceReceived t n m) s) fun v => (v.eth n).foreign = [⟨m, [a.now]⟩])
  ∧ (∀ (s : State) (t n : Nat), let a := s.advance t
    let p := a.eth n
    let v := a.ptpVal n
    a.net.ports.length = 4 → a.ptpRuns n = true → p.ptp ≠ 6 → p.ptp ≠ 5 → p.heard + ptpTimeout v * logInterval (ptpLogAnnounce v) ≤ a.now →
    Yields (exec (.ptpAnnounceTimeout t n) s) fun u =>
      (u.eth n).ptp = (if a.cfg 0x2456 0 = 1 then 4 else 6) ∧ (u.eth n).foreign = [] ∧ (u.eth n).parent = none)
  ∧ (∀ (s : State) (t n at_ : Nat), let a := s.advance t
    a.net.ports.length = 4 → a.tb.srcs.length = 4 → (a.eth n).syncAt = some at_ → (a.eth n).ptp = 9 →
    at_ + 3 * logInterval (ptpLogSync (a.ptpVal n)) ≤ a.now → a.up .timebase = true →
    Yields (exec (.ptpSyncTimeout t n) s) fun u => (u.eth n).syncAt = none ∧ (u.tb.src 2).qualified = false ∧ (u.tb.src 2).present = false)
  ∧ (∀ (s : State) (t n : Nat), let a := s.advance t
    let m := a.ownAnnounce n
    let f := a.ptpFrameOf n m
    a.net.ports.length = 4 → a.ptpRuns n = true → (a.eth n).ptp = 6 → a.ebest = none →
    Yields (exec (.ptpAnnounceSend t n) s) fun v =>
      v.eth n = { a.eth n with queues := modNth (a.eth n).queues 0 (· ++ [⟨f, 4, 0, .plain⟩]), seqAnn := ((a.eth n).seqAnn + 1) % 65536 }
      ∧ Only (told ++ [Part.net]) a v)
  ∧ (∀ (s : State) (t n : Nat), let a := s.advance t
    let one := ptpOneStep (a.ptpVal n)
    let m := a.ptpMsg n 0 (a.eth n).seqSync (a.time64.fdiv 1000 * 1000) 0 (!one) 0
    let f := a.ptpFrameOf n m
    a.net.ports.length = 4 → a.ptpRuns n = true → (a.eth n).ptp = 6 →
    Yields (exec (.ptpSyncSend t n) s) fun v =>
      v.eth n = { a.eth n with queues := modNth (a.eth n).queues 3 (· ++ [⟨f, 4, 0, if one then .syncOne else .syncTwo⟩]),
                               seqSync := ((a.eth n).seqSync + 1) % 65536 } ∧ Only (told ++ [Part.net]) a v)
  ∧ (∀ (s : State) (t n : Nat), let a := s.advance t
    let p := a.eth n
    let peer := a.role n = 3 ∨ (a.role n = 1 ∧ a.p2p = true)
    let m := a.ptpMsg n (if peer then 2 else 1) p.seqReq 0 0 false 0
    let f := a.ptpFrameOf n m
    a.net.ports.length = 4 → a.up .compute = true → a.up .network = true → a.ethOn n = true →
    peer ∨ (a.role n = 1 ∧ (p.ptp = 8 ∨ p.ptp = 9)) →
    Yields (exec (.ptpDelayReqSend t n) s) fun v =>
      (v.eth n).queues = modNth p.queues 3 (· ++ [⟨f, 4, 0, if peer then .pdelayReq else .delayReq⟩]) ∧ (v.eth n).seqReq = (p.seqReq + 1) % 65536
      ∧ (peer → (v.eth n).peer = ⟨p.seqReq, none, none⟩) ∧ (¬peer → (v.eth n).req = some (p.seqReq, none)) ∧ Only (told ++ [Part.net]) a v)
  ∧ (∀ (s : State) (t n : Nat) (m : PtpMsg), let a := s.advance t
    let rx := a.rxStamp n
    let p := a.eth n
    let r := a.ptpMsg n 9 m.seqId (rx.fdiv 65536) (m.correction - rx % 65536) false m.source
    let f := a.ptpFrameOf n r
    a.net.ports.length = 4 → a.ptpRuns n = true → m.domain = a.ptpDomain → m.mtype = 1 → p.ptp = 6 → a.p2p = false →
    Yields (exec (.ptpDelayReqReceived t n m) s) fun v =>
      v.eth n = { p with queues := modNth p.queues 0 (· ++ [⟨f, 4, 0, .plain⟩]) } ∧ Only (told ++ [Part.net]) a v)
  ∧ (∀ (s : State) (t n : Nat) (m : PtpMsg) (t3 leg : Int), let a := s.advance t
    let p := a.eth n
    a.net.ports.length = 4 → a.ptpRuns n = true → m.domain = a.ptpDomain → m.requester = a.portId n → m.mtype = 9 →
    p.req = some (m.seqId, some t3) → p.leg = some leg →
    Yields (exec (.ptpDelayRespReceived t n m) s) fun v =>
      v.net.meanPath = roundDiv (leg + (m.stamp * 65536 - t3 - m.correction)) 2 ∧ v.eth n = { p with req := none } ∧ Only (told ++ [Part.net]) a v)
  ∧ (∀ (s : State) (t n : Nat) (m : PtpMsg) (t1 : Int), let a := s.advance t
    let p := a.eth n
    a.net.ports.length = 4 → a.up .compute = true → a.up .network = true → a.ethOn n = true → m.domain = a.ptpDomain → m.requester = a.portId n →
    m.mtype = 3 → m.twoStep = false → p.peer.seqId = m.seqId → p.peer.t1 = some t1 →
    Yields (exec (.ptpDelayRespReceived t n m) s) fun v =>
      v.eth n = { p with peerDelay := roundDiv (a.rxStamp n - t1 - m.correction) 2 } ∧ Only (told ++ [Part.net]) a v)

/-- A frame is filtered into a buffer or FIFO with its timestamp; a send waits, is tried, ends or is cancelled; acknowledges and
posts free their place; errors are counted. Rules: R716, R721, R724, R727, R729, R730, R731. The model's choices in it: log
entries 10, 44. -/
def Obligations.CanTraffic : Prop :=
  (∀ (s : State) (t n sof b : Nat) (f : CanFrame), let a := s.advance t
    let p := a.canPort n
    let x := canNorm f
    let st := a.sofStamp sof
    a.can.ports.length = 8 → a.canUp n = true → x.fdf = false ∨ canFd (a.canVal n) = true → p.st = 2 → p.recErrs ≤ 127 →
    a.servesUsdo n = false → canStopSource (a.canVal n) = false →
    (a.written (0x2900 + n) 128).find? (fun b => bufMatches (a.bufVal n b) x) = some b →
    Yields (exec (.canFrameReceived t n sof f) s) fun v =>
      (v.canPort n).buf b = ⟨st.1, st.2, wrap 16 ((p.buf b).seq + 1), x, true, (p.buf b).overrun || (p.buf b).fresh, 0⟩
      ∧ (v.canPort n).rx = wrap 64 (p.rx + 1) ∧ (v.canPort n).recErrs = p.recErrs - 1 ∧ (v.canPort n).fifos = p.fifos
      ∧ (∀ k < 8, k ≠ n → v.canPort k = a.canPort k))
  ∧ (∀ (s : State) (t n sof i : Nat) (f : CanFrame), let a := s.advance t
    let p := a.canPort n
    let x := canNorm f
    let act := bits (a.filterVal n i) 62 2
    let q := p.fifos.getD (act - 1) CanFifo.reset
    a.can.ports.length = 8 → a.canUp n = true → x.fdf = false ∨ canFd (a.canVal n) = true → p.st = 2 → p.fifos.length = 2 →
    a.servesUsdo n = false → canStopSource (a.canVal n) = false →
    (a.written (0x2900 + n) 128).find? (fun b => bufMatches (a.bufVal n b) x) = none →
    (a.written (0x29C0 + n) 64).find? (fun i => filterMatches (a.filterVal n i) x) = some i → act = 1 ∨ act = 2 → q.recs.length < 64 →
    Yields (exec (.canFrameReceived t n sof f) s) fun v =>
      ∃ r, ((v.canPort n).fifos.getD (act - 1) CanFifo.reset).recs = q.recs ++ [r] ∧ r.frame = x ∧ (r.time, r.frac) = a.sofStamp sof
        ∧ r.overrun = q.lost ∧ (v.canPort n).bufs = p.bufs ∧ (v.canPort n).drops = p.drops)
  ∧ (∀ (s : State) (t n sof : Nat) (f : CanFrame), let a := s.advance t
    let p := a.canPort n
    let x := canNorm f
    a.can.ports.length = 8 → a.canUp n = true → x.fdf = false ∨ canFd (a.canVal n) = true → p.st = 2 → p.recErrs ≤ 127 →
    a.servesUsdo n = false → canStopSource (a.canVal n) = false →
    (a.written (0x2900 + n) 128).find? (fun b => bufMatches (a.bufVal n b) x) = none →
    (a.written (0x29C0 + n) 64).find? (fun i => filterMatches (a.filterVal n i) x) = none →
    Yields (exec (.canFrameReceived t n sof f) s) fun v =>
      v.canPort n = { p with rx := wrap 64 (p.rx + 1), recErrs := p.recErrs - 1, drops := wrap 64 (p.drops + 1) } ∧ Only (told ++ [Part.can, Part.health]) a v)
  ∧ (∀ (s : State) (t n sof : Nat) (f : CanFrame), let a := s.advance t
    let x := canNorm f
    let stopId := a.cfg 0x2838 0
    let good := x.rtr = false ∧ x.dlc = 8 ∧ u x.data 0 1 ≤ 3 ∧ u x.data 1 1 = 0 ∧ a.commandTargetOk (u x.data 0 1) (u x.data 2 2) = true
    a.can.ports.length = 8 → a.canUp n = true → x.fdf = false ∨ canFd (a.canVal n) = true → (a.canPort n).st = 2 →
    a.servesUsdo n = false → canStopSource (a.canVal n) = true → x.ide = bit stopId 31 → x.id = bits stopId 0 29 → a.up .timebase = true →
    Yields (exec (.canFrameReceived t n sof f) s) fun v =>
      (good → bit (v.stop.latch (latchOf (u x.data 0 1) (u x.data 2 2))) 5 = true ∧ v.can.badStops = a.can.badStops)
      ∧ (¬good → bit (v.stop.latch .all) 5 = true ∧ v.can.badStops = wrap 32 (a.can.badStops + 1)))
  ∧ (∀ (s : State) (t : Nat) (w : Caller) (req : Bytes), let a := s.advance t
    let n := u req 1 1
    let b := u req 2 1
    let p := a.canPort n
    let f := a.txFrame n b req
    a.can.ports.length = 8 → a.requests w 0x2840 req = true → u req 0 1 = 1 → txMalformed req = false →
    bit (u req 3 1) 0 = false ∨ canFd (a.canVal n) = true → a.canModeOf n = 1 → p.st = 2 → bufKind (a.bufVal n b) = 2 →
    p.pend.any (fun x => x.buf = b) = false →
    Yields (exec (.canSend t w req) s) fun v =>
      (v.canPort n).pend = p.pend ++ [⟨b, w, a.now, f, 0, none⟩] ∧ ((v.canPort n).buf b).frame = f
      ∧ ((v.canPort n).buf b).seq = wrap 16 ((p.buf b).seq + 1) ∧ (∀ k < 8, k ≠ n → v.canPort k = a.canPort k) ∧ Only (told ++ [Part.can, Part.free]) a v)
  ∧ (∀ (s : State) (t : Nat) (w : Caller) (req : Bytes) (x : CanSend) (trying : Bool), let a := s.advance t
    let n := u req 1 1
    let b := u req 2 1
    let p := a.canPort n
    a.can.ports.length = 8 → a.requests w 0x2840 req = true → u req 0 1 = 2 → txMalformed req = false → a.hasCan n = true →
    p.pend.find? (fun x => x.buf = b) = some x → x.cancel = none →
    Yields (exec (.canCancel t w req trying) s) fun v =>
      (v.canPort n).pend = (if trying then p.pend.map (fun y => if y.buf = b then { y with cancel := some w } else y) else p.pend.filter fun y => y.buf ≠ b)
      ∧ ((v.canPort n).buf b).outcome = (if trying then (p.buf b).outcome else 0x1C) ∧ Only (told ++ [Part.can]) a v)
  ∧ (∀ (s : State) (t n b sof : Nat) (x : CanSend), let a := s.advance t
    let p := a.canPort n
    let st := a.sofStamp sof
    a.can.ports.length = 8 → a.canUp n = true → a.canModeOf n = 1 → p.st = 2 → p.tec < 256 → p.first sof = some (b, x.frame) →
    p.pend.find? (fun y => y.buf = b) = some x →
    Yields (exec (.canAttemptEnd t n b sof .success) s) fun v =>
      Out.can n x.frame ∈ v.out ∧ (v.canPort n).pend = p.pend.filter (fun y => y.buf ≠ b) ∧ (v.canPort n).tx = wrap 64 (p.tx + 1)
      ∧ (v.canPort n).tec = p.tec - 1 ∧ (v.canPort n).noAck = 0 ∧ (v.canPort n).lonely = false
      ∧ (v.canPort n).buf b = { p.buf b with time := st.1, frac := st.2, outcome := 0 })
  ∧ (∀ (s : State) (t n b sof : Nat) (x : CanSend), let a := s.advance t
    let p := a.canPort n
    a.can.ports.length = 8 → a.canUp n = true → a.canModeOf n = 1 → p.st = 2 → p.tec < 256 → p.first sof = some (b, x.frame) →
    p.pend.find? (fun y => y.buf = b) = some x → canOneShot (a.canVal n) = false → x.cancel = none →
    Yields (exec (.canAttemptEnd t n b sof .lostArbitration) s) fun v =>
      (v.canPort n).pend = p.pend.map (fun y => if y.buf = b then { x with attempts := min 65535 (x.attempts + 1) } else y)
      ∧ (v.canPort n).tec = p.tec ∧ (v.canPort n).errs = p.errs ∧ (v.canPort n).st = 2)
  ∧ (∀ (s : State) (t n b sof : Nat) (x : CanSend), let a := s.advance t
    let p := a.canPort n
    a.can.ports.length = 8 → a.canUp n = true → a.canModeOf n = 1 → p.st = 2 → p.tec < 256 → p.first sof = some (b, x.frame) →
    p.pend.find? (fun y => y.buf = b) = some x → canOneShot (a.canVal n) = false → x.cancel = none →
    Yields (exec (.canAttemptEnd t n b sof .otherError) s) fun v =>
      (v.canPort n).tec = p.tec + 8 ∧ (v.canPort n).errs = wrap 64 (p.errs + 1)
      ∧ (p.tec + 8 < 256 → (v.canPort n).st = 2 ∧ (v.canPort n).pend.length = p.pend.length)
      ∧ (256 ≤ p.tec + 8 → (v.canPort n).st = 4 ∧ (v.canPort n).pend = [] ∧ (v.canPort n).recovering = canAutoRecover (a.canVal n)))
  ∧ (∀ (s : State) (t n b seq : Nat) (w : Caller) (x : CanRec), let a := s.advance t
    n < 8 → b < 128 → a.can.ports.length = 8 → seq < 65536 → a.writes w (0x2980 + n) (b + 1) (leBytes 2 seq) = true →
    Tbl.get? (a.canPort n).bufs b = some x → x.seq = seq →
    Yields (exec (.canBufferAck t w n b seq) s) fun v =>
      (v.canPort n).buf b = { x with fresh := false, overrun := false } ∧ (v.canPort n).fifos = (a.canPort n).fifos ∧ Only (told ++ [Part.can]) a v)
  ∧ (∀ (s : State) (t n i : Nat) (x : CanRec), let a := s.advance t
    let p := a.canPort n
    let q := u (a.cfgB (0x2820 + n) 0x0A) (2 * i) 2
    let w := a.fabric.queue q
    let words := toWords (x.packet.length / 4 + 1) x.packet
    a.can.ports.length = 8 → p.fifos.length = 2 → a.up .network = true → a.hasCan n = true → i < 2 →
    p.fifos.getD i CanFifo.reset = ⟨[x], false, none⟩ → a.up .fabric = true → a.hasBlocks q (pktBlocks words.length) = true →
    w.pkts.countP (fun p => p.phase.isOpen) < 8 →
    Yields (exec (.canFifoPost t n i) s) fun v =>
      (v.canPort n).fifos.getD i CanFifo.reset = ⟨[], false, none⟩ ∧ (v.fabric.queue q).pkts = w.pkts ++ [⟨a.fabric.pktNext, 0, words, .closed⟩]
      ∧ Only (told ++ [Part.can, Part.fabric, Part.health, Part.log]) a v)
  ∧ (∀ (s : State) (t n : Nat), let a := s.advance t
    let p := a.canPort n
    a.can.ports.length = 8 → a.canUp n = true → p.st = 2 → p.tec < 256 →
    Yields (exec (.canErrorFrame t n) s) fun v =>
      v.canPort n = { p with errs := wrap 64 (p.errs + 1), recErrs := min 65535 (p.recErrs + 1) }
      ∧ (a.canModeOf n = 1 → Out.canError n ∈ v.out) ∧ Only (told ++ [Part.can, Part.log]) a v)

/-- Recovery, the end of bus-off and of integration, the time master's boundary, sleep and wake move the port's state as chapter 15
says. Rules: R713, R732, R736, R739, R740, R742, R744. The model's choices in it: log entries 10, 44. -/
def Obligations.CanStates : Prop :=
  (∀ (s : State) (t n : Nat) (w : Caller), let a := s.advance t
    n < 8 → a.can.ports.length = 8 → a.writes w (0x2820 + n) 0x0B [1] = true → (a.canPort n).st = 4 →
    Yields (exec (.canRecover t w n) s) fun v => v.canPort n = { a.canPort n with recovering := true } ∧ Only (told ++ [Part.can]) a v)
  ∧ (∀ (s : State) (t n : Nat), let a := s.advance t
    let p := a.canPort n
    a.can.ports.length = 8 → a.canUp n = true → p.st = 4 → p.recovering = true →
    Yields (exec (.canBusOffRecovered t n) s) fun v =>
      v.canPort n = { p with st := 2, recovering := false, tec := 0, recErrs := 0 } ∧ Only (told ++ [Part.can]) a v)
  ∧ (∀ (s : State) (t n : Nat), let a := s.advance t
    a.can.ports.length = 8 → a.canUp n = true → (a.canPort n).st = 1 →
    Yields (exec (.canIntegrationDone t n) s) fun v => v.canPort n = { a.canPort n with st := 2 } ∧ Only (told ++ [Part.can]) a v)
  ∧ (∀ (s : State) (t n : Nat), let a := s.advance t
    let b := a.cfgB 0x2830 2
    let k := a.time64.fdiv (tmPeriod b * us : Nat)
    n < 8 → a.can.ports.length = 8 → a.up .network = true → tmMask b = 2 ^ n → a.can.lastK ≠ some k → a.canUp n = true → (a.canPort n).st ≠ 5 →
    a.timed = true → (a.canPort n).refMsg = none →
    Yields (exec (.canTmBoundary t) s) fun v =>
      v.canPort n = { a.canPort n with refMsg := some (a.refMessage n k) } ∧ v.can.lastK = some k ∧ v.can.skipped = a.can.skipped
      ∧ (∀ j < 8, j ≠ n → v.canPort j = a.canPort j) ∧ Only (told ++ [Part.can]) a v)
  ∧ (∀ (s : State) (t n : Nat) (w : Caller), let a := s.advance t
    n < 8 → a.can.ports.length = 8 → a.writes w (0x2820 + n) 8 [1] = true → canStopSource (a.canVal n) = false →
    Yields (exec (.canSleep t w n) s) fun v => v.canPort n = { a.canPort n with sleepReq := true } ∧ Only (told ++ [Part.can]) a v)
  ∧ (∀ (s : State) (t n : Nat), let a := s.advance t
    let p := a.canPort n
    a.can.ports.length = 8 → a.canUp n = true → p.sleepReq = true → p.st = 2 →
    Yields (exec (.canSleepEntry t n) s) fun v =>
      (v.canPort n).st = 5 ∧ (v.canPort n).pend = [] ∧ (v.canPort n).wakeCfg = a.cfg (0x2820 + n) 9 ∧ (v.canPort n).fifos = p.fifos
      ∧ Out.canStb n (!bit (a.cfg (0x2820 + n) 9) 63) ∈ v.out
      ∧ Only (told ++ [Part.can]) a v)
  ∧ (∀ (s : State) (t n : Nat) (w : Caller), let a := s.advance t
    n < 8 → a.can.ports.length = 8 → a.writes w (0x2820 + n) 8 [0] = true →
    Yields (exec (.canWakeWrite t w n) s) fun v =>
      (v.canPort n).sleepReq = false ∧ (v.canPort n).st = (if (a.canPort n).st = 5 then 1 else (a.canPort n).st)
      ∧ v.log = (if (a.canPort n).st = 5 then a.logEv .canWake [2] else a).log ∧ Only (told ++ [Part.can, Part.log]) a v)
  ∧ (∀ (s : State) (t n width : Nat), let a := s.advance t
    let p := a.canPort n
    a.can.ports.length = 8 → a.canUp n = true → p.st = 5 → bit p.wakeCfg 63 = false → 5 * us ≤ width →
    Yields (exec (.canWakeEdge t n width) s) fun v =>
      v.canPort n = { p with st := 1, sleepReq := false, refSent := none } ∧ v.log = (a.logEv .canWake [0]).log
      ∧ Out.canStb n false ∈ v.out ∧ Only (told ++ [Part.can, Part.log]) a v)

/-- A hart waits for, is granted or times out of a task; completion releases successors; decrements, submits and reissues move
descriptors as chapter 16 says; an access of Table 16.7 reads a descriptor, memory or the time, stores to memory it may use, or
ends in an access fault (R786), as does a queue store of an applet it may not use. Rules: R758, R759, R761, R763, R765, R766,
R771, R773, R775, R777, R780. The model's choices in it: log entries 16, 39, 51. -/
def Obligations.DispatcherTasks : Prop :=
  (∀ (s : State) (t h timeout : Nat), let a := s.advance t
    a.fabric.harts.length = 16 → a.hartRuns h = true → a.fabricOut = none → (a.fabric.hart h).task = none → timeout ≤ 1000000 →
    Yields (exec (.fetch t h timeout) s) fun v =>
      v.fabric.hart h = { a.fabric.hart h with timeout := timeout, fetch := some (a.now, a.fabric.fetchNext) }
      ∧ v.fabric.fetchNext = a.fabric.fetchNext + 1 ∧ v.fabric.brood = a.fabric.brood ∧ Only (told ++ [Part.fabric]) a v)
  ∧ (∀ (s : State) (t h timeout d : Nat), let a := s.advance t
    let x := a.fabric.desc d
    a.fabric.harts.length = 16 → a.hartRuns h = true → a.fabricOut = none → (a.fabric.hart h).task = some d → x.hasSucc = false → x.rearm = false →
    Yields (exec (.fetch t h timeout) s) fun v =>
      v.fabric.desc d = { x with outcome := 0, st := .done } ∧ (v.fabric.hart h).task = none
      ∧ (v.fabric.hart h).fetch = some (a.now, a.fabric.fetchNext))
  ∧ (∀ (s : State) (t h d : Nat) (x : Desc) (w : FetchWake), let a := s.advance t
    a.fabric.harts.length = 16 → a.hartRuns h = true → a.fabricOut = none → (a.fabric.hart h).fetch.isSome = true → a.grantable h = some (d, x) →
    Yields (exec (.fetchGrant t h w) s) fun v =>
      v.fabric.desc d = { x with st := .running } ∧ v.fabric.hart h = { a.fabric.hart h with task := some d, fetch := none }
      ∧ Out.hart h (fetchWord d x) ∈ v.out ∧ Only (told ++ [Part.fabric, Part.health]) a v)
  ∧ (∀ (s : State) (t h : Nat), let a := s.advance t
    a.fabric.harts.length = 16 → a.hartRuns h = true → a.fabricOut = none → (a.fabric.hart h).fetch.isSome = true → a.grantable h = none →
    Yields (exec (.fetchGrant t h .interrupt) s) fun v =>
      v.fabric.hart h = { a.fabric.hart h with fetch := none } ∧ Out.hart h (2 ^ 63) ∈ v.out ∧ Only (told ++ [Part.fabric]) a v)
  ∧ (∀ (s : State) (t h t0 n : Nat), let a := s.advance t
    a.fabric.harts.length = 16 → a.hartRuns h = true → a.fabricOut = none → (a.fabric.hart h).fetch = some (t0, n) → (a.fabric.hart h).timeout ≠ 0 →
    t0 + (a.fabric.hart h).timeout * us ≤ a.now → a.grantable h = none →
    Yields (exec (.fetchTimeout t h) s) fun v =>
      v.fabric.hart h = { a.fabric.hart h with fetch := none } ∧ Out.hart h (2 ^ 63 + 2 ^ 56) ∈ v.out ∧ Only (told ++ [Part.fabric]) a v)
  ∧ (∀ (s : State) (t h d c : Nat), let a := s.advance t
    let x := a.fabric.desc d
    let y := a.fabric.desc x.succ
    a.fabric.harts.length = 16 → a.hartRuns h = true → a.fabricOut = none → (a.fabric.hart h).task = some d → c < 256 → reservedOutcome c = false →
    x.hasSucc = true → x.rearm = false → x.succ ≠ d → y.st = .waiting → y.count = 1 →
    Yields (exec (.complete t h c) s) fun v =>
      v.fabric.desc d = { x with outcome := c, st := .done } ∧ v.fabric.desc x.succ = { y with count := 0, st := .ready, order := a.fabric.readyNext }
      ∧ (v.fabric.hart h).task = none ∧ Only (told ++ [Part.fabric]) a v)
  ∧ (∀ (s : State) (t h d c : Nat), let a := s.advance t
    let x := a.fabric.desc d
    a.fabric.harts.length = 16 → a.hartRuns h = true → a.fabricOut = none → (a.fabric.hart h).task = some d → c < 256 → reservedOutcome c = true →
    x.hasSucc = false → x.rearm = true → x.pending < x.reload →
    Yields (exec (.complete t h c) s) fun v =>
      v.fabric.desc d = { x with outcome := 1, count := x.reload - x.pending, pending := 0, fullLogged := false, st := .waiting }
      ∧ (v.fabric.hart h).task = none)
  ∧ (∀ (s : State) (t h v : Nat), let a := s.advance t
    let d := v % 65536
    let x := a.fabric.desc d
    a.hartRuns h = true → a.fabricOut = none → a.fabric.isApplet d = hartApplet h → x.st = .waiting →
    Yields (exec (.decrement t h v) s) fun u =>
      u.fabric.desc d = (if x.count - 1 = 0 then { x with count := 0, st := .ready, order := a.fabric.readyNext } else { x with count := x.count - 1 })
      ∧ u.fabric.readyNext = a.fabric.readyNext + (if x.count - 1 = 0 then 1 else 0) ∧ u.fabric.harts = a.fabric.harts ∧ Only (told ++ [Part.fabric]) a u)
  ∧ (∀ (s : State) (t h v : Nat), let a := s.advance t
    let d := v % 65536
    let x := a.fabric.desc d
    a.hartRuns h = true → a.fabricOut = none → a.fabric.isApplet d = hartApplet h →
    Yields (exec (.decrement t h v) s) fun u =>
      ((x.st = .ready ∨ x.st = .running) → x.pending < 255 → u.fabric.desc d = { x with pending := x.pending + 1 })
      ∧ ((x.st = .ready ∨ x.st = .running) → 255 ≤ x.pending → u.fabric.desc d = { x with fullLogged := true })
      ∧ ((x.st = .free ∨ x.st = .done ∨ x.st = .discarded) → u.fabric.brood = a.fabric.brood ∧ u.fabric.stray = wrap 32 (a.fabric.stray + 1)))
  ∧ (∀ (s : State) (t h idx lo hi : Nat), let a := s.advance t
    let v := hi * 2 ^ 64 + lo
    a.fabric.harts.length = 16 → a.hartRuns h = true → a.fabricOut = none → idx < 65536 → lo < 2 ^ 64 → hi < 2 ^ 64 →
    a.fabric.badFormat (hartApplet h) idx v = false → ((a.fabric.desc idx).st = .free ∨ (a.fabric.desc idx).st = .done ∨ (a.fabric.desc idx).st = .discarded) →
    0 < bits v 64 16 →
    Yields (exec (.submit t h idx lo hi) s) fun u =>
      u.fabric.desc idx = { Desc.ofWord v with st := .waiting } ∧ Out.hart h 0 ∈ u.out
      ∧ u.fabric.hart h = { a.fabric.hart h with stageIdx := idx, stageLo := lo, stageHi := hi } ∧ Only (told ++ [Part.fabric]) a u)
  ∧ (∀ (s : State) (t h idx lo hi : Nat), let a := s.advance t
    let v := hi * 2 ^ 64 + lo
    a.fabric.harts.length = 16 → a.hartRuns h = true → a.fabricOut = none → idx < 65536 → lo < 2 ^ 64 → hi < 2 ^ 64 →
    Yields (exec (.submit t h idx lo hi) s) fun u =>
      (a.fabric.badFormat (hartApplet h) idx v = true → Out.hart h 0x3F ∈ u.out ∧ u.fabric.brood = a.fabric.brood)
      ∧ (a.fabric.badFormat (hartApplet h) idx v = false →
          (a.fabric.desc idx).st = .waiting ∨ (a.fabric.desc idx).st = .ready ∨ (a.fabric.desc idx).st = .running →
          Out.hart h 0x3E ∈ u.out ∧ u.fabric.brood = a.fabric.brood))
  ∧ (∀ (s : State) (t h idx : Nat), let a := s.advance t
    let x := a.fabric.desc idx
    a.fabric.harts.length = 16 → a.hartRuns h = true → a.fabricOut = none → idx < 65536 → a.fabric.isApplet idx = hartApplet h →
    Yields (exec (.reissue t h idx) s) fun u =>
      (x.st = .discarded → u.fabric.desc idx = { x with count := 0, st := .ready, order := a.fabric.readyNext } ∧ Out.hart h 0 ∈ u.out)
      ∧ (x.st ≠ .discarded → u.fabric.brood = a.fabric.brood ∧ Out.hart h 0x3E ∈ u.out) ∧ Only (told ++ [Part.fabric]) a u)
  ∧ (∀ (s : State) (t h idx : Nat) (high : Bool), let a := s.advance t
    let w := (a.fabric.desc idx).word
    a.hartRuns h = true → a.fabricOut = none → idx < 65536 → a.fabric.isApplet idx = hartApplet h →
    Yields (exec (.peekDescriptor t h idx (.half high)) s) fun u =>
      Out.hart h (if high then w / 2 ^ 64 else w % 2 ^ 64) ∈ u.out ∧ u.fabric.brood = a.fabric.brood ∧ u.fabric.queues = a.fabric.queues
      ∧ Only (told ++ [Part.fabric]) a u)
  ∧ (∀ (s : State) (t h : Nat) (x : HartAccess), let a := s.advance t
    a.hartRuns h = true → a.hartPlace h x = .none ∨ accessFits x (a.hartPlace h x) = false →
    Yields (exec (.peekDescriptor t h x.addr (.access x.size x.store)) s) fun u => Out.accessFault h x.addr ∈ u.out ∧ Only told a u)
  ∧ (∀ (s : State) (t h v : Nat) (x : HartAccess), let a := s.advance t
    a.hartRuns h = true → a.hartPlace h x = .sram → accessFits x .sram = true → a.up .fabric = true → x.store = some v →
    Yields (exec (.peekDescriptor t h x.addr (.access x.size x.store)) s) fun u =>
      u.fabric = { a.fabric with sram := Memory.store a.fabric.sram x.addr (leBytes x.size v) } ∧ Only (told ++ [Part.fabric]) a u)
  ∧ (∀ (s : State) (t h : Nat) (x : HartAccess), let a := s.advance t
    a.hartRuns h = true → a.hartPlace h x = .lpddr → accessFits x .lpddr = true → a.up .memory = true → x.store = none →
    Yields (exec (.peekDescriptor t h x.addr (.access x.size x.store)) s) fun u =>
      Out.hart h (leNat (Memory.load a.dram x.addr x.size)) ∈ u.out ∧ Only told a u)
  ∧ (∀ (s : State) (t h n : Nat), let a := s.advance t
    a.hartRuns h = true →
    Yields (exec (.peekDescriptor t h n .time) s) fun u => Out.hart h (leNat (leInt 8 a.time64)) ∈ u.out ∧ Only told a u)
  ∧ (∀ (s : State) (t h q v : Nat) (words : List Nat), let a := s.advance t
    a.hartRuns h = true → q < 1024 → a.up .fabric = true → hartApplet h = true →
    (a.mayWrite h q = false →
      (Yields (exec (.push t h q words) s) fun u => Out.accessFault h (0x40010010 + 64 * q) ∈ u.out ∧ Only told a u)
      ∧ (Yields (exec (.tag t h q v) s) fun u => Out.accessFault h (0x40010020 + 64 * q) ∈ u.out ∧ Only told a u)
      ∧ (Yields (exec (.closeAbandon t h q) s) fun u => Out.accessFault h (0x40010028 + 64 * q) ∈ u.out ∧ Only told a u))
    ∧ (qReaderApplet (a.queueCfg q) = false →
      (Yields (exec (.drop t h q) s) fun u => Out.accessFault h (0x40010030 + 64 * q) ∈ u.out ∧ Only told a u)))

/-- Words of the head packet are read and held; an open packet takes words and a tag, is closed or abandoned; dropping frees the
packet. Rules: R773, R774, R775, R776, R777, R778, R780. The model's choices in it: log entry 39. -/
def Obligations.DispatcherQueues : Prop :=
  (∀ (s : State) (t h q : Nat) (p : Pkt), let a := s.advance t
    let n := p.words.length
    let held := fun (p : Pkt) => match p.phase with
      | .held _ _ => true
      | _ => false
    a.hartRuns h = true → q < 1024 → a.fabricOut = none → qReaderApplet (a.queueCfg q) = hartApplet h →
    (a.fabric.queue q).pkts.find? held = none → (poppables (a.fabric.queue q).pkts).head? = some p →
    (a.fabric.hart h).task.isNone = true ∨ a.fabric.holds h < 16 → 1 ≤ n →
    Yields (exec (.pop t h q) s) fun v =>
      Out.hart h (popWord false true n p.lengthWord) ∈ v.out
      ∧ (v.fabric.queue q).pkts = mapPkt (a.fabric.queue q).pkts p.id (fun y => { y with phase := .held h 0 }) ∧ Only (told ++ [Part.fabric]) a v)
  ∧ (∀ (s : State) (t h q k : Nat) (p : Pkt), let a := s.advance t
    let left := p.words.length - k - 1
    let held := fun (p : Pkt) => match p.phase with
      | .held _ _ => true
      | _ => false
    a.hartRuns h = true → q < 1024 → a.fabricOut = none → qReaderApplet (a.queueCfg q) = hartApplet h →
    (a.fabric.queue q).pkts.find? held = some p → p.phase = .held h k →
    Yields (exec (.pop t h q) s) fun v =>
      Out.hart h (popWord (left = 0) false left (nth p.words k)) ∈ v.out
      ∧ (v.fabric.queue q).pkts = (if 0 < left then mapPkt (a.fabric.queue q).pkts p.id fun y => { y with phase := .held h (k + 1) }
          else if (a.fabric.hart h).task.isSome then mapPkt (a.fabric.queue q).pkts p.id fun y => { y with phase := .unfreed h }
          else (a.fabric.queue q).pkts.filter fun y => y.id ≠ p.id))
  ∧ (∀ (s : State) (t h q : Nat), let a := s.advance t
    a.hartRuns h = true → q < 1024 →
    Yields (exec (.queuePeek t h q) s) fun v => Out.hart h (a.popOf h q).1 ∈ v.out ∧ Only told a v)
  ∧ (∀ (s : State) (t h q w : Nat) (p : Pkt), let a := s.advance t
    let n := p.words.length
    let more := pktBlocks (n + 1) - pktBlocks n
    a.hartRuns h = true → q < 1024 → a.fabricOut = none → hartApplet h = false ∨ a.mayWrite h q = true →
    a.fabric.openOf h q = some p → p.phase = .opened h false →
    Yields (exec (.push t h q [w]) s) fun v =>
      (v.fabric.queue q).pkts = mapPkt (a.fabric.queue q).pkts p.id fun y =>
        if n < 65535 ∧ (more = 0 ∨ a.hasBlocks q more = true) then { y with words := y.words ++ [w % 2 ^ 32] } else { y with phase := .opened h true })
  ∧ (∀ (s : State) (t h q : Nat), let a := s.advance t
    a.hartRuns h = true → q < 1024 → a.openOutcome h q = 0 →
    Yields (exec (.queueOpen t h q) s) fun v =>
      (v.fabric.queue q).pkts = (a.fabric.queue q).pkts ++ [⟨a.fabric.pktNext, 0, [], .opened h false⟩] ∧ v.fabric.pktNext = a.fabric.pktNext + 1
      ∧ Out.hart h 0 ∈ v.out ∧ Only (told ++ [Part.fabric]) a v)
  ∧ (∀ (s : State) (t h q : Nat), let a := s.advance t
    a.hartRuns h = true → q < 1024 → a.openOutcome h q ≠ 0 →
    Yields (exec (.queueOpen t h q) s) fun v => Out.hart h (a.openOutcome h q) ∈ v.out ∧ Only told a v)
  ∧ (∀ (s : State) (t h q v : Nat) (p : Pkt), let a := s.advance t
    a.hartRuns h = true → q < 1024 → a.fabricOut = none → hartApplet h = false ∨ a.mayWrite h q = true → a.fabric.openOf h q = some p →
    Yields (exec (.tag t h q v) s) fun u =>
      (u.fabric.queue q).pkts = mapPkt (a.fabric.queue q).pkts p.id (fun y => { y with tag := v % 65536 }) ∧ Only (told ++ [Part.fabric]) a u)
  ∧ (∀ (s : State) (t h q : Nat) (p : Pkt), let a := s.advance t
    a.hartRuns h = true → q < 1024 → a.fabricOut = none → a.fabric.openOf h q = some p →
    Yields (exec (.close t h q) s) fun v =>
      (p.overflowed = false → Out.hart h 0 ∈ v.out
        ∧ (v.fabric.queue q).pkts = mapPkt (a.fabric.queue q).pkts p.id fun y => { y with phase := .closed })
      ∧ (p.overflowed = true → Out.hart h 0x50 ∈ v.out ∧ (v.fabric.queue q).pkts = (a.fabric.queue q).pkts.filter (fun y => y.id ≠ p.id)
        ∧ (v.fabric.queue q).drops = wrap 32 ((a.fabric.queue q).drops + 1)))
  ∧ (∀ (s : State) (t h q : Nat) (p : Pkt), let a := s.advance t
    a.hartRuns h = true → q < 1024 → a.fabricOut = none → hartApplet h = false ∨ a.mayWrite h q = true → a.fabric.openOf h q = some p →
    Yields (exec (.closeAbandon t h q) s) fun v => (v.fabric.queue q).pkts = (a.fabric.queue q).pkts.filter fun y => y.id ≠ p.id)
  ∧ (∀ (s : State) (t h q k : Nat) (p : Pkt), let a := s.advance t
    let mine := fun (p : Pkt) => match p.phase with
      | .held h' _ => decide (h' = h)
      | _ => false
    a.hartRuns h = true → q < 1024 → a.fabricOut = none → hartApplet h = false ∨ qReaderApplet (a.queueCfg q) = true →
    (a.fabric.queue q).pkts.find? mine = some p → p.phase = .held h k →
    Yields (exec (.drop t h q) s) fun v =>
      (v.fabric.queue q).pkts = (if (a.fabric.hart h).task.isSome then mapPkt (a.fabric.queue q).pkts p.id fun y => { y with phase := .unfreed h }
        else (a.fabric.queue q).pkts.filter fun y => y.id ≠ p.id) ∧ Only (told ++ [Part.fabric]) a v)

/-- A request window submits to the Comb or the dictionary; a reply is posted to its queue; an ANSWER completes the access it names,
and silence ends it. Rules: R789, R790, R795. The model's choices in it: log entries 16, 39. -/
def Obligations.AppletExchanges : Prop :=
  (∀ (s : State) (t h reply : Nat) (req : Bytes), let a := s.advance t
    let q := (Creq.of req).intake
    8 ≤ h → a.fabric.harts.length = 16 → a.hartRuns h = true → a.submitOutcome h true req reply = (0, true) →
    a.intakeCheck (.applet h a.fabric.combId) req = none → (a.comb.intake.getD q []).length < 64 →
    Yields (exec (.requestWindowSubmit t h true req reply) s) fun v =>
      Out.hart h 0 ∈ v.out ∧ (v.fabric.hart h).combWin = ReqWindow.written req reply
      ∧ v.comb = { a.comb with intake := modNth a.comb.intake q (· ++ [⟨.applet h a.fabric.combId, req⟩]) })
  ∧ (∀ (s : State) (t h reply : Nat) (comb : Bool) (req : Bytes), let a := s.advance t
    8 ≤ h → a.hartRuns h = true → (a.submitOutcome h comb req reply).2 = false →
    Yields (exec (.requestWindowSubmit t h comb req reply) s) fun v =>
      Out.hart h (a.submitOutcome h comb req reply).1 ∈ v.out ∧ v.comb = a.comb ∧ Only (told ++ [Part.fabric]) a v)
  ∧ (∀ (s : State) (t h : Nat) (r : AppletReply), let a := s.advance t
    let words := toWords (r.data.length / 4 + 1) r.data
    let w := a.fabric.queue r.reply
    a.quiet → a.fabric.replies = [r] → r.hart = h → r.notify = none → a.up .fabric = true → a.hasBlocks r.reply (pktBlocks words.length) = true →
    w.pkts.countP (fun p => p.phase.isOpen) < 8 →
    Yields (exec (.replyPost t h) s) fun v =>
      v.fabric.replies = [] ∧ (v.fabric.queue r.reply).pkts = w.pkts ++ [⟨a.fabric.pktNext, 0, words, .closed⟩])
  ∧ (∀ (s : State) (t h tok out : Nat) (data : Bytes) (e : AppletEvent), let a := s.advance t
    a.hartRuns h = true → 8 ≤ h → a.admits (.applet h 0) 10 (key 0 0) 0 = true → a.fabric.events.find? (fun e => e.token = tok) = some e → out ≤ 1 → tok < 65536 →
    data.length ≤ 1348 →
    Yields (exec (.answer t h tok out data) s) fun v =>
      v.fabric.events = a.fabric.events.filter (fun e => e.token ≠ tok)
      ∧ a.replied e.caller ⟨out, 0, if e.kind = 2 then data else [], 0⟩ v)
  ∧ (∀ (s : State) (t tok : Nat) (e : AppletEvent), let a := s.advance t
    a.fabric.events.find? (fun e => e.token = tok) = some e → e.due ≤ a.now →
    Yields (exec (.appletNoAnswer t tok) s) fun v =>
      v.fabric.events = a.fabric.events.filter (fun e => e.token ≠ tok) ∧ a.replied e.caller (Ans.state 0x05500002) v)

/-- A key write makes its slot, an erase and an invalidate raise its generation; a damaged persistent slot is reloaded from the
record; SEAL, UNSEAL and FORWARD work under the measurement; a permitted life-cycle command writes its state, and any other is
refused. Rules: R808, R812, R813, R816, R819, R820, R822, R829. The model's choices in it: log entries 5, 45. -/
def Obligations.KeyringLifecycle : Prop :=
  (∀ (s : State) (t : Nat) (c : Caller) (v : Bytes) (ok : Bool), let a := s.advance t
    let b := { a with flash := ⟨!ok, 0⟩ }
    a.writes c 0x1111 0 v = true → b.keyWriteCheck v = none →
    Yields (exec (.keyWrite t ⟨c, ok⟩ v) s) fun w =>
      w.keys = ({ a.keys with slots := Tbl.put a.keys.slots (u v 0 1) (a.keyMade v) } : Keyring).persist)
  ∧ (∀ (s : State) (t : Nat) (c : Caller) (v : Bytes) (ok : Bool) (x : Ans), let a := s.advance t
    let b := { a with flash := ⟨!ok, 0⟩ }
    a.writes c 0x1111 0 v = true → b.keyWriteCheck v = some x →
    Yields (exec (.keyWrite t ⟨c, ok⟩ v) s) fun w => Only told a w)
  ∧ (∀ (s : State) (t n : Nat) (c : Caller), let a := s.advance t
    a.writes c 0x1112 0 (leBytes 1 n) = true → 1 ≤ n → n ≤ 254 → (a.keySlot n).st ≠ .empty → (a.keySlot n).gen < 0xFFFF →
    Yields (exec (.keyErase t ⟨c, true⟩ n) s) fun w =>
      w.keys = ({ a.keys with slots := Tbl.put a.keys.slots n (KeySlot.empty ((a.keySlot n).gen + 1)) } : Keyring).persist)
  ∧ (∀ (s : State) (t n : Nat) (c : Caller), let a := s.advance t
    let x := a.keySlot n
    a.writes c 0x1113 0 (leBytes 1 n) = true → 1 ≤ n → n ≤ 254 → x.st = .valid → a.keyUsable n = true → x.gen < 0xFFFF →
    Yields (exec (.keyInvalidate t ⟨c, true⟩ n) s) fun w =>
      w.keys = ({ a.keys with slots := Tbl.put a.keys.slots n { x with st := .invalid, gen := x.gen + 1 } } : Keyring).persist)
  ∧ (∀ (s : State) (t n : Nat) (c : Caller) (ok : Bool), let a := s.advance t
    (a.writes c 0x1112 0 (leBytes 1 n) = true ∧ (a.keySlot n).st = .empty ∨ a.writes c 0x1113 0 (leBytes 1 n) = true ∧ a.keyState n = .invalid) →
    1 ≤ n → n ≤ 254 →
    Yields (exec (if (a.keySlot n).st = .empty then .keyErase t ⟨c, ok⟩ n else .keyInvalidate t ⟨c, ok⟩ n) s) fun w => Only told a w)
  ∧ (∀ (s : State) (t n : Nat) (c : Caller), let a := s.advance t
    1 ≤ n → n ≤ 254 → (a.keySlot n).gen < 0xFFFF →
    (a.writes c 0x1112 0 (leBytes 1 n) = true → (a.keySlot n).st ≠ .empty → Yields (exec (.keyErase t ⟨c, false⟩ n) s) fun w => Only told a w)
    ∧ (a.writes c 0x1113 0 (leBytes 1 n) = true → a.keyState n = .valid → Yields (exec (.keyInvalidate t ⟨c, false⟩ n) s) fun w => Only told a w))
  ∧ (∀ (s : State) (t n : Nat) (r : KeyRecord), let a := s.advance t
    let x := a.keySlot n
    x.st = .damaged → x.persistent = true → a.up .security = true → a.keys.winner = some r → a.keys.waiting = [] →
    Yields (exec (.keySlotReload t n) s) fun w =>
      w.keys = { a.keys with slots := Tbl.put a.keys.slots n (Tbl.getD r.slots n (KeySlot.empty x.gen)) } ∧ Only (told ++ [Part.keys]) a w)
  ∧ (∀ (s : State) (t h r : Nat) (req : Bytes), let a := s.advance t
    let f : InFlight := ⟨r, 6, key 0x1114 0, 0⟩
    let q := byte 1 :: req.drop 1
    let ans := Ans.done (sealBlob 1 (sealKey 1 a.boot.m2) (fit 12 (Config.randBytes a.free)) (q.drop 4))
    a.requests (.applet h r) 0x1114 q = true → u q 1 1 = 1 → u q 2 2 = 0 → q.length ≤ 1028 → 4 ≤ q.length → a.keys.scrapped = false →
    Yields (exec (.seal t (.applet h r) req) s) fun w =>
      w.free = a.free + 1 ∧ (∃ g, w.dict.applet.keptFor f = some (respRecord f ans g)) ∧ Only (told ++ [Part.free]) a w)
  ∧ (∀ (s : State) (t h r : Nat) (req p : Bytes), let a := s.advance t
    let f : InFlight := ⟨r, 6, key 0x1114 0, 0⟩
    let q := byte 2 :: req.drop 1
    a.requests (.applet h r) 0x1114 q = true → u q 1 1 = 1 → u q 2 2 = 0 → 4 ≤ q.length → a.keys.scrapped = false →
    unsealBlob 1 (sealKey 1 a.boot.m2) (q.drop 4) = some p →
    Yields (exec (.unseal t (.applet h r) req) s) fun w =>
      (∃ g, w.dict.applet.keptFor f = some (respRecord f (Ans.done p) g)) ∧ Only told a w)
  ∧ (∀ (s : State) (t h r : Nat) (req p m : Bytes), let a := s.advance t
    let f : InFlight := ⟨r, 6, key 0x1114 0, 0⟩
    let q := byte 3 :: req.drop 1
    let ans := Ans.done (sealBlob 1 (sealKey 1 m) (fit 12 (Config.randBytes a.free)) p)
    a.requests (.applet h r) 0x1114 q = true → u q 1 1 = 1 → u q 2 2 = 0 → 4 ≤ q.length → a.keys.scrapped = false →
    a.stagedMeasure 1 = some m → unsealBlob 1 (sealKey 1 a.boot.m2) (q.drop 4) = some p →
    Yields (exec (.forward t (.applet h r) req) s) fun w =>
      w.free = a.free + 1 ∧ (∃ g, w.dict.applet.keptFor f = some (respRecord f ans g)) ∧ Only (told ++ [Part.free]) a w)
  ∧ (∀ (s : State) (t n : Nat) (c : Caller) (v : Bytes) (i : Instr) (goal : Lifecycle), let a := s.advance t
    let old := a.keys.life
    i = .lifecycleProvision t c v ∧ n = 1 ∧ goal = .provisioned ∧ (old = .blank ∨ old = .decommissioned)
      ∨ i = .lifecycleCommission t c v ∧ n = 2 ∧ goal = .commissioned ∧ old = .provisioned
      ∨ i = .lifecycleDecommission t c v ∧ n = 3 ∧ goal = .decommissioned ∧ (old = .provisioned ∨ old = .commissioned)
      ∨ i = .lifecycleScrap t c v ∧ n = 4 ∧ goal = .scrapped ∧ (old = .blank ∨ old = .decommissioned) →
    a.writes c 0x1101 0 (byte n :: v.drop 1) = true → slice v 4 4 = a.silicon.serial.take 4 → old ≠ .commissioned ∨ a.stoppedAll = true →
    a.lifeCondition goal = true → a.islands.length = 12 →
    Yields (exec i s) fun w =>
      w.keys.life = goal ∧ Asserted.mk 10 1 0xFF ∈ w.resets.asserted ∧ (∀ j, j ≠ .aon → (w.isl j).st = .inReset)
      ∧ (goal = .decommissioned ∨ goal = .scrapped → w.keys.slots = []) ∧ (goal = .decommissioned → w.keys.eraseDue = true)
      ∧ (goal = .scrapped → w.keys.scrapFuse = true ∧ w.keys.rootGone = true))
  ∧ (∀ (s : State) (t n : Nat) (c : Caller) (v : Bytes) (i : Instr) (goal : Lifecycle), let a := s.advance t
    i = .lifecycleProvision t c v ∧ n = 1 ∧ goal = .provisioned ∨ i = .lifecycleCommission t c v ∧ n = 2 ∧ goal = .commissioned
      ∨ i = .lifecycleDecommission t c v ∧ n = 3 ∧ goal = .decommissioned ∨ i = .lifecycleScrap t c v ∧ n = 4 ∧ goal = .scrapped →
    a.writes c 0x1101 0 (byte n :: v.drop 1) = true →
    slice v 4 4 ≠ a.silicon.serial.take 4 ∨ lifeStep a.keys.life goal = false ∨ (a.keys.life = .commissioned ∧ a.stoppedAll = false)
      ∨ a.lifeCondition goal = false →
    Yields (exec i s) fun w => Only told a w)

/-- A signed header makes the other slot receive; a whole payload is staged where its hashes hold; activation starts a trial by a
chip reset; a trial is confirmed, rejected or times out; a flash record that cannot be written refuses its command. Rules: R842,
R844, R845, R846, R848. The model's choices in it: log entries 33, 37. -/
def Obligations.Updates : Prop :=
  (∀ (s : State) (t : Nat) (c : Caller) (v : Bytes), let a := s.advance t
    a.boot.imgs.length = 2 → a.boot.booted ≤ 1 → a.writes c 0x1210 0 v = true → hdrShapeOk v (a.keptLen (hdrKind v)) = true →
    hdrKind v = 2 ∨ a.boot.fuse ≤ hdrSecurity v → a.trialBooted = false → a.updateOwner = none ∨ a.updateOwner = some (Editor.ofCaller c) →
    Yields (exec (.updateHeader t c v) s) fun w =>
      if a.hdrSigned v then
        w.imgSlot a.otherSlot = ImgSlot.receive v ∧ w.imgSlot a.boot.booted = a.imgSlot a.boot.booted ∧ w.boot.update = some ⟨v⟩ ∧ w.boot.staged = none
          ∧ w.updateOwner = some (Editor.ofCaller c)
      else w.boot = a.boot)
  ∧ (∀ (s : State) (t : Nat) (c : Caller) (v : Bytes), let a := s.advance t
    a.writes c 0x1210 0 v = true →
    hdrShapeOk v (a.keptLen (hdrKind v)) = false ∨ a.hdrSigned v = false ∨ (hdrKind v ≠ 2 ∧ hdrSecurity v < a.boot.fuse) ∨ a.trialBooted = true
      ∨ (∃ e, a.updateOwner = some e ∧ e ≠ Editor.ofCaller c) →
    Yields (exec (.updateHeader t c v) s) fun w => w.boot = a.boot ∧ Only told a w)
  ∧ (∀ (s : State) (t sid req : Nat) (data : Bytes) (x : Update), let a := s.advance t
    let img := a.stagedImage x.header data
    a.boot.imgs.length = 2 → a.boot.booted ≤ 1 → a.admits (.coil sid req) 4 (key 0x1211 0) 0 = true → a.writes (.coil sid req) 0x1211 0 data = true →
    a.updateOf (.coil sid) = some x → data.length = hdrLen0 x.header + hdrLen1 x.header →
    Yields (exec (.updatePayload t sid req 0 data.length ⟨data, true⟩) s) fun w =>
      w.imgSlot a.otherSlot = img ∧ w.boot.update = none ∧ w.boot.staged = (if img.st = .staged then some a.otherSlot else none)
      ∧ w.imgSlot a.boot.booted = a.imgSlot a.boot.booted)
  ∧ (∀ (s : State) (t sid req total : Nat) (data : Bytes) (x : Update), let a := s.advance t
    a.admits (.coil sid req) 4 (key 0x1211 0) 0 = true → a.writes (.coil sid req) 0x1211 0 (zeros total) = true →
    a.updateOf (.coil sid) = some x → total = hdrLen0 x.header + hdrLen1 x.header → data.length < total →
    Yields (exec (.updatePayload t sid req 0 total ⟨data, true⟩) s) fun w =>
      w.boot = a.boot ∧ ∃ y, Tbl.get? w.dict.sessions sid = some y ∧ y.xferOf (key 0x1211 0) = some ⟨4, key 0x1211 0, total, data, a.now⟩)
  ∧ (∀ (s : State) (t sid req total : Nat) (data : Bytes) (x : Update), let a := s.advance t
    a.boot.imgs.length = 2 → a.boot.booted ≤ 1 → a.admits (.coil sid req) 4 (key 0x1211 0) 0 = true →
    a.writes (.coil sid req) 0x1211 0 (zeros total) = true → a.updateOf (.coil sid) = some x → total = hdrLen0 x.header + hdrLen1 x.header →
    data.length ≤ total →
    Yields (exec (.updatePayload t sid req 0 total ⟨data, false⟩) s) fun w =>
      w.imgSlot a.otherSlot = { a.imgSlot a.otherSlot with st := .invalid } ∧ w.boot.update = none ∧ w.boot.staged = a.boot.staged
      ∧ w.imgSlot a.boot.booted = a.imgSlot a.boot.booted)
  ∧ (∀ (s : State) (t i : Nat) (c : Caller), let a := s.advance t
    i < 2 → a.boot.imgs.length = 2 → a.writes c 0x1213 0 [1] = true → a.boot.staged = some i → a.stoppedAll = true →
    Yields (exec (.updateActivate t c) s) fun w =>
      w.boot.trial = some ⟨i, a.cfg 0x1216 0, a.cfg 0x1215 0⟩ ∧ w.boot.staged = none ∧ (w.imgSlot i).st = .trial ∧ Asserted.mk 7 1 0xFF ∈ w.resets.asserted)
  ∧ (∀ (s : State) (t : Nat) (c : Caller) (x : Trial), let a := s.advance t
    let v := hdrSecurity (a.imgSlot x.slot).header
    a.boot.imgs.length = 2 → x.slot < 2 → a.writes c 0x1214 0 [1] = true → a.trialBooted = true → a.boot.trial = some x →
    Yields (exec (.updateConfirm t c) s) fun w =>
      w.boot.active = x.slot ∧ w.boot.trial = none ∧ w.boot.running = none ∧ w.boot.fuse = max a.boot.fuse v ∧ (w.imgSlot x.slot).st = .active
      ∧ w.settings.named = a.settings.inUse ∧ w.settings.trialBank = false ∧ Only (told ++ [Part.boot, Part.settings, Part.log]) a w)
  ∧ (∀ (s : State) (t : Nat) (c : Caller) (x : Trial), let a := s.advance t
    a.boot.imgs.length = 2 → x.slot < 2 → a.writes c 0x1214 0 [2] = true → a.trialBooted = true → a.boot.trial = some x →
    Yields (exec (.updateReject t c) s) fun w =>
      w.boot.trial = none ∧ w.boot.staged = some x.slot ∧ (w.imgSlot x.slot).st = .staged ∧ w.settings.inUse = a.settings.named
      ∧ Asserted.mk 7 1 0xFF ∈ w.resets.asserted)
  ∧ (∀ (s : State) (t : Nat) (c : Caller), let a := s.advance t
    a.trialBooted = false →
    (a.writes c 0x1214 0 [1] = true → Yields (exec (.updateConfirm t c) s) fun w => Only told a w)
      ∧ (a.writes c 0x1214 0 [2] = true → Yields (exec (.updateReject t c) s) fun w => Only told a w))
  ∧ (∀ (s : State) (t t0 : Nat) (x : Trial), let a := s.advance t
    a.boot.imgs.length = 2 → x.slot < 2 → a.trialBooted = true → a.boot.trial = some x → a.boot.running = some t0 → t0 + x.timeout * sec ≤ a.now →
    Yields (exec (.trialTimeout t) s) fun w =>
      w.boot.trial = none ∧ w.boot.staged = some x.slot ∧ (w.imgSlot x.slot).st = .staged ∧ Asserted.mk 7 1 0xFF ∈ w.resets.asserted)

/-- SettingsReset and BoantEnter order chip resets; an image is exported and imported; carried groups are tried again; Boant
answers, takes headers and data, finishes and resets. Rules: R856, R858, R860, R861, R862, R863, R864. The model's choices in
it: log entries 17, 32, 37. -/
def Obligations.SettingsBoant : Prop :=
  (∀ (s : State) (t worn : Nat) (c : Caller), let a := s.advance t
    a.writes c 0x1222 0 [1] = true → a.stoppedAll = true →
    Yields (exec (.settingsReset t ⟨c, worn⟩) s) fun w =>
      w.settings.imported = some (Bank.fresh a.fwFormat a.settings.nextGen a.fwVersion [], []) ∧ w.settings.spares = a.settings.spares - worn
      ∧ w.settings.readOnly = (a.settings.readOnly || decide (a.settings.spares < worn)) ∧ Asserted.mk 6 1 0xFF ∈ w.resets.asserted)
  ∧ (∀ (s : State) (t sid req max : Nat), let a := s.advance t
    a.reads (.coil sid req) 3 0x1230 0 0 = true →
    Yields (exec (.configExport t sid req 0 max) s) fun w =>
      w.free = a.free + 1 ∧ ∃ b g y, w.val (key 0x1230 0) = b ++ fit 96 (Config.sign a.free b)
        ∧ b.take 32 = ascii "DXCF" ++ [1, 0, 0, 0] ++ fit 16 a.partNumber ++ fit 8 a.silicon.serial
        ∧ Tbl.get? w.dict.sessions sid = some y
        ∧ y.keptFor ⟨req, 3, key 0x1230 0, 0⟩
            = some (respRecord ⟨req, 3, key 0x1230 0, 0⟩ (Ans.value (slice (w.val (key 0x1230 0)) 0 max) (w.val (key 0x1230 0)).length) g))
  ∧ (∀ (s : State) (t worn : Nat) (c : Caller) (v : Bytes), let a := s.advance t
    let l := (imageEntries v).getD []
    a.writes c 0x1231 0 v = true →
    Yields (exec (.configImport t ⟨c, worn⟩ v) s) fun w =>
      (a.importCheck v = none → w.settings = { a.settings with
          imported := some (Bank.fresh a.fwFormat a.settings.nextGen a.fwVersion (a.importValues l), importGroups l),
          spares := a.settings.spares - worn, readOnly := a.settings.readOnly || decide (a.settings.spares < worn) })
      ∧ (a.importCheck v ≠ none → w.settings = a.settings) ∧ Only (told ++ [Part.settings, Part.log]) a w)
  ∧ (∀ (s : State) (t t0 : Nat), let a := s.advance t
    a.settings.carried = [(0x4800, t0)] → t0 + 10 * sec ≤ a.now → a.groupCheck 0x4800 = none →
    Yields (exec (.configCommitRetry t) s) fun w =>
      w.settings.carried = [] ∧ (∀ m ∈ memberKeys 0x4800, w.val m.2 = a.val m.1))
  ∧ (∀ (s : State) (t t0 g : Nat) (x : Ans), let a := s.advance t
    a.settings.carried = [(g, t0)] → t0 + 10 * sec ≤ a.now → a.groupCheck g = some x →
    Yields (exec (.configCommitRetry t) s) fun w =>
      w.settings.carried = (if x.outcome = 0x12 then [(g, a.now)] else [])
      ∧ w.log = (if x.outcome = 0x12 then a else a.logEv .configCommitRefused (leBytes 2 g)).log ∧ Only (told ++ [Part.settings, Part.log]) a w)
  ∧ (∀ (s : State) (t : Nat) (c : Caller), let a := s.advance t
    a.writes c 0x1240 0 [1] = true → a.stoppedAll = true →
    Yields (exec (.boantEnter t c) s) fun w => w.boot.boantReq = true ∧ Asserted.mk 11 1 0xFF ∈ w.resets.asserted)
  ∧ (∀ (s : State) (t port : Nat) (msg : Bytes), let a := s.advance t
    let life := if a.keys.scrapped then 4 else a.keys.life.code
    a.boantTakes port 1 msg = true → a.boantRefusal port msg = none →
    Yields (exec (.boantInfo t port msg) s) fun w =>
      boantReply port msg 0 (a.silicon.serial ++ [byte a.silicon.stepping, byte a.boot.fuse, byte life, byte (a.slotState 0), byte (a.slotState 1), 0, 0, 0]) ∈ w.out
      ∧ Only told a w)
  ∧ (∀ (s : State) (t port op o : Nat) (msg : Bytes) (i : Instr), let a := s.advance t
    op = 1 ∧ i = .boantInfo t port msg ∨ op = 2 ∧ i = .boantHeader t port msg ∨ op = 3 ∧ i = .boantData t port msg
      ∨ op = 4 ∧ i = .boantFinish t port msg ∨ op = 5 ∧ i = .boantReset t port msg →
    a.boantTakes port op msg = true → a.boantRefusal port msg = some o →
    Yields (exec i s) fun w => boantReply port msg o [] ∈ w.out ∧ Only told a w)
  ∧ (∀ (s : State) (t port : Nat) (msg : Bytes), let a := s.advance t
    let d := msg.drop 8
    a.boantTakes port 2 msg = true → a.boantRefusal port msg = none → u msg 4 4 = 0 → d.length < 512 →
    Yields (exec (.boantHeader t port msg) s) fun w =>
      w.boot = { a.boot with boantHdr := d, boantData := [] } ∧ boantReply port msg 0 [] ∈ w.out ∧ Only (told ++ [Part.boot]) a w)
  ∧ (∀ (s : State) (t port : Nat) (msg : Bytes), let a := s.advance t
    let h := a.boot.boantHdr ++ msg.drop 8
    let good := hdrKind h = 1 ∧ hdrShapeOk h 0 = true ∧ a.hdrSigned h = true ∧ a.boot.fuse ≤ hdrSecurity h
    a.boantTakes port 2 msg = true → a.boantRefusal port msg = none → u msg 4 4 = a.boot.boantHdr.length → u msg 4 4 ≠ 0 →
    a.boot.boantHdr.length < 512 → h.length = 512 → a.boot.boantSlot < a.boot.imgs.length →
    Yields (exec (.boantHeader t port msg) s) fun w =>
      (good → w.boot.boantHdr = h ∧ w.imgSlot a.boot.boantSlot = ImgSlot.receive h ∧ boantReply port msg 0 [] ∈ w.out)
      ∧ (¬good → w.boot = { a.boot with boantHdr := [], boantData := [] }) ∧ Only (told ++ [Part.boot]) a w)
  ∧ (∀ (s : State) (t port : Nat) (msg : Bytes), let a := s.advance t
    let h := a.boot.boantHdr
    let d := msg.drop 8
    a.boantTakes port 3 msg = true → a.boantRefusal port msg = none → h.length = 512 → u msg 4 4 = a.boot.boantData.length → u msg 4 4 ≠ 0 →
    a.boot.boantData.length + d.length ≤ hdrLen0 h + hdrLen1 h →
    Yields (exec (.boantData t port msg) s) fun w =>
      w.boot = { a.boot with boantData := a.boot.boantData ++ d } ∧ boantReply port msg 0 [] ∈ w.out ∧ Only (told ++ [Part.boot]) a w)
  ∧ (∀ (s : State) (t port : Nat) (msg : Bytes), let a := s.advance t
    let h := a.boot.boantHdr
    let d := a.boot.boantData
    let w := a.boot.boantSlot
    a.boantTakes port 4 msg = true → a.boantRefusal port msg = none → h.length = 512 → d.length = hdrLen0 h + hdrLen1 h →
    w < a.boot.imgs.length → Sha.sha384 (d.take (hdrLen0 h)) = hdrHash0 h → Sha.sha384 (d.drop (hdrLen0 h)) = hdrHash1 h →
    Yields (exec (.boantFinish t port msg) s) fun v =>
      (v.imgSlot w).st = .trial ∧ (v.imgSlot w).header = h ∧ v.boot.trial = some ⟨w, 2, 600⟩ ∧ boantReply port msg 0 [] ∈ v.out
      ∧ Asserted.mk 11 1 0xFF ∈ v.resets.asserted)
  ∧ (∀ (s : State) (t port : Nat) (msg : Bytes), let a := s.advance t
    a.boantTakes port 5 msg = true → a.boantRefusal port msg = none →
    Yields (exec (.boantReset t port msg) s) fun v => boantReply port msg 0 [] ∈ v.out ∧ v.boot = a.boot ∧ Asserted.mk 11 1 0xFF ∈ v.resets.asserted)

/-- Each source of Table 19.2 is asserted with its reach and its islands enter reset; it is released by its condition or its wipes;
each row of the release starts its islands, the ROM chooses the image, the end makes the cause record the last; an island
without a clock fails. Rules: R868, R869, R874, R879, R880, R935. The model's choices in it: log entries 35, 36. -/
def Obligations.ResetSources : Prop :=
  (∀ (s : State) (t : Nat) (torn : Torn), let a := s.advance t
    s.sized →
    Yields (exec (.por ⟨t, torn⟩) s) fun w =>
      Asserted.mk 0 0 0xFF ∈ w.resets.asserted ∧ w.resets.porAt = some a.now ∧ w.resets.count = 0 ∧ (∀ i, (w.isl i).st = .inReset)
      ∧ w.log.slots = [] ∧ w.log.mirror = (if torn = .mirror then a.log.torn else a.log).mirror ∧ w.dict.sessions = [] ∧ bit (w.stop.latch .all) 11 = true ∧ w.stop.a.go = []
      ∧ w.settings.bank0 = a.settings.bank0 ∧ w.settings.bank1 = a.settings.bank1)
  ∧ (∀ (s : State) (t : Nat), let a := s.advance t
    s.sized →
    Yields (exec (.bor t) s) fun w =>
      Asserted.mk 1 0 0xFF ∈ w.resets.asserted ∧ w.resets.count = 0 ∧ (∀ i, (w.isl i).st = .inReset)
      ∧ w.log.slots = [] ∧ w.log.mirror = a.log.mirror ∧ w.dict.sessions = [] ∧ bit (w.stop.latch .all) 11 = true ∧ w.stop.a.go = [])
  ∧ (∀ (s : State) (t : Nat), let a := s.advance t
    s.sized → a.resets.asserted ≠ [] → (∀ x ∈ a.resets.asserted, x.code = 1) → (a.isl .aon).st = .inReset → (a.isl .security).st = .inReset →
    Yields (exec (.borRelease t) s) fun w =>
      w.resets.asserted = [] ∧ w.up .aon = true ∧ w.resets.plan.head? = some (.islands [.security]) ∧ w.health.vreq = a.voltCode
      ∧ (∀ i, i ≠ .aon → w.isl i = a.isl i) ∧ Only (told ++ [Part.islands, Part.resets, Part.health, Part.stop]) a w)
  ∧ (∀ (s : State) (t : Nat), let a := s.advance t
    s.sized →
    Yields (exec (.resetNLow t) s) fun w =>
      Asserted.mk 2 1 0xFF ∈ w.resets.asserted ∧ w.resets.pinLow = some a.now ∧ (∀ i, i ≠ .aon → (w.isl i).st = .inReset)
      ∧ (w.isl .aon).st = (if (a.isl .aon).st = .failed then .inReset else (a.isl .aon).st) ∧ w.dict.sessions = [] ∧ bit (w.stop.latch .all) 11 = true ∧ w.stop.a.go = [])
  ∧ (∀ (s : State) (t : Nat), let a := s.advance t
    Yields (exec (.resetNHigh t) s) fun w =>
      w.resets.asserted = a.resets.asserted.filter (fun x => x.code ≠ 2) ∧ w.resets.pinLow = none
      ∧ Only (told ++ [Part.islands, Part.resets, Part.health, Part.stop]) a w)
  ∧ (∀ (s : State) (t : Nat), let a := s.advance t
    s.sized → (a.isl .compute).st ≠ .inReset → a.boot.boant = false → a.resets.watchdogAt + a.cfg 0x1303 0 * ms ≤ a.now →
    Yields (exec (.globalWatchdog t) s) fun w =>
      Asserted.mk 3 1 0xFF ∈ w.resets.asserted ∧ (∀ i, i ≠ .aon → (w.isl i).st = .inReset)
      ∧ (a.resets.record = none → (∀ x ∈ a.islands, x.st ≠ .failed) → w.resets.record = some ⟨8, 3, 1, 0xFF, 0⟩))
  ∧ (∀ (s : State) (t : Nat), let a := s.advance t
    a.now < a.resets.watchdogAt + a.cfg 0x1303 0 * ms ∨ (a.isl .compute).st = .inReset ∨ a.boot.boant = true →
    Yields (exec (.globalWatchdog t) s) fun w => Only told a w)
  ∧ (∀ (s : State) (t : Nat), let a := s.advance t
    a.up .compute = true →
    Yields (exec (.globalWatchdogService t) s) fun w => w.resets = { a.resets with watchdogAt := a.now } ∧ Only (told ++ [Part.resets]) a w)
  ∧ (∀ (s : State) (t : Nat), let a := s.advance t
    s.sized → a.cfg 0x1304 0 = 1 →
    Yields (exec (.debugReset t) s) fun w => Asserted.mk 8 1 0xFF ∈ w.resets.asserted ∧ ∀ i, i ≠ .aon → (w.isl i).st = .inReset)
  ∧ (∀ (s : State) (t : Nat), let a := s.advance t
    a.cfg 0x1304 0 ≠ 1 →
    Yields (exec (.debugReset t) s) fun w => Only told a w)
  ∧ (∀ (s : State) (t code : Nat), let a := s.advance t
    code ≠ 1 → code ≠ 2 → code ≠ 9 → (code = 0 → ∀ x ∈ a.resets.porAt.toList, x + ms ≤ a.now) →
    Yields (exec (.wipeComplete t code) s) fun w =>
      w.resets.asserted = a.resets.asserted.filter (fun x => x.code ≠ code) ∧ Only (told ++ [Part.islands, Part.resets, Part.health, Part.stop]) a w)
  ∧ (∀ (s : State) (t code : Nat), let a := s.advance t
    code = 1 ∨ code = 2 ∨ code = 9 ∨ (code = 0 ∧ ∃ x ∈ a.resets.porAt.toList, a.now < x + ms) →
    Yields (exec (.wipeComplete t code) s) fun w => Only told a w)
  ∧ (∀ (s : State) (t : Nat) (l : List Island) (rest : List ReleaseStep), let a := s.advance t
    s.sized → a.resets.plan = .islands l :: rest →
    Yields (exec (.releaseRow t) s) fun w =>
      w.resets.plan = rest ∧ w.resets.rowAt = a.now ∧ (∀ i ∈ l, (w.isl i).st = .running) ∧ (∀ i, i ∉ l → (w.isl i).st = (a.isl i).st)
      ∧ (rest ≠ [] ∨ a.resets.asserted ≠ [] → w.resets.record = a.resets.record ∧ w.resets.count = a.resets.count))
  ∧ (∀ (s : State) (t : Nat) (c : Cause), let a := s.advance t
    a.resets.plan = [.appletHarts] → a.resets.asserted = [] → a.resets.record = some c →
    Yields (exec (.releaseRow t) s) fun w =>
      w.resets.plan = [] ∧ w.resets.record = none ∧ w.resets.count = wrap 32 (a.resets.count + 1)
      ∧ w.resets.last = { c with count := wrap 32 (a.resets.count + 1) })
  ∧ (∀ (s : State) (t : Nat) (rest : List ReleaseStep), let a := s.advance t
    s.boot.imgs.length = 2 → a.resets.plan = .rom :: rest → rest ≠ [] → a.boot.boantReq = false → a.boot.trial = none → a.slotOk a.boot.active = true →
    Yields (exec (.releaseRow t) s) fun w =>
      w.boot.booted = a.boot.active ∧ w.boot.boant = false ∧ w.resets.plan = rest ∧ w.resets.asserted = a.resets.asserted
      ∧ w.resets.record = a.resets.record)
  ∧ (∀ (s : State) (t : Nat) (i : Island) (l : List Island) (rest : List ReleaseStep), let a := s.advance t
    s.sized → a.resets.plan = .islands l :: rest → i ∈ l → a.resets.rowAt + 2 * ms ≤ a.now →
    Yields (exec (.islandClockTimeout t i) s) fun w =>
      (w.isl i).st = .failed ∧ (∀ j, j ≠ i → (w.isl j).st = (a.isl j).st)
      ∧ w.resets.plan = (if l.filter (· ≠ i) = [] then rest else .islands (l.filter (· ≠ i)) :: rest))

/-- Where all is stopped, reaches 1 to 3 reset their islands and nothing wider; without a stop, 1 and 2 change nothing; a block
reset clears its block and no other. Rules: R871, R885. The model's choices in it: log entry 35. -/
def Obligations.ResetCommands : Prop :=
  (∀ (s : State) (t : Nat) (c : Caller), let a := s.advance t
    s.sized → a.writes c 0x1301 0 [1, 0, 0, 0] = true → a.stoppedAll = true →
    Yields (exec (.resetChip t c) s) fun w =>
      Asserted.mk 6 1 0 ∈ w.resets.asserted ∧ (∀ i, i ≠ .aon → (w.isl i).st = .inReset) ∧ (w.isl .aon).st = (if (a.isl .aon).st = .failed then .inReset else (a.isl .aon).st)
      ∧ w.dict.sessions = [] ∧ bit (w.stop.latch .all) 11 = true
      ∧ (a.resets.record = none → (∀ x ∈ a.islands, x.st ≠ .failed) → w.resets.record = some ⟨64, 6, 1, 0xFF, 0⟩))
  ∧ (∀ (s : State) (t : Nat) (c : Caller), let a := s.advance t
    s.sized → a.writes c 0x1301 0 [2, 0, 0, 0] = true → a.stoppedAll = true →
    Yields (exec (.resetSystem t c) s) fun w =>
      Asserted.mk 6 2 0 ∈ w.resets.asserted ∧ (∀ i, i ≠ .aon → i ≠ .timebase → (w.isl i).st = if (a.isl i).st = .failed then .failed else .inReset)
      ∧ (w.isl .aon).st = (a.isl .aon).st ∧ (w.isl .timebase).st = (a.isl .timebase).st
      ∧ w.dict.sessions = [] ∧ bit (w.stop.latch .all) 11 = true)
  ∧ (∀ (s : State) (t : Nat) (c : Caller) (i : Island), let a := s.advance t
    s.sized → a.writes c 0x1301 0 [3, byte i.id, 0, 0] = true → 5 ≤ i.id → i.id ≤ 10 → a.gone i = false → a.stoppedAll = true →
    (a.isl i).st ≠ .failed →
    Yields (exec (.resetIsland t c i.id) s) fun w =>
      Asserted.mk 6 3 i.id ∈ w.resets.asserted ∧ (w.isl i).st = .inReset ∧ (∀ j, j ≠ i → w.isl j = a.isl j)
      ∧ ∀ x n, c = .coil x n → w.answered x ⟨n, 2, key 0x1301 0, 0⟩ (Ans.done []))
  ∧ (∀ (s : State) (t : Nat) (c : Caller) (island : Nat), let a := s.advance t
    (a.writes c 0x1301 0 [byte island, 0, 0, 0] = true ∧ (island = 1 ∨ island = 2)) → a.stoppedAll = false →
    Yields (exec (if island = 1 then .resetChip t c else .resetSystem t c) s) fun w => Only told a w)
  ∧ (∀ (s : State) (t port : Nat) (c : Caller), let a := s.advance t
    a.writes c 0x1301 0 ([4, 8] ++ leBytes 2 port) = true → port < 4 → a.gone .tracking = false → a.track.ports.length = 4 →
    Yields (exec (.resetBlock t c 8 port) s) fun w =>
      w.track.chans = a.track.chans.filter (fun e => e.1 / 288 ≠ port) ∧ w.port port = { GsPort.reset with gaps := (a.port port).gaps }
      ∧ (∀ q, q ≠ port → w.port q = a.port q))
  ∧ (∀ (s : State) (t k : Nat) (c : Caller), let a := s.advance t
    s.sized → a.writes c 0x1301 0 ([4, 9] ++ leBytes 2 k) = true → a.hasModem k = true → a.gone .radio = false →
    Yields (exec (.resetBlock t c 9 k) s) fun w =>
      (w.modem k).msgs = [] ∧ (w.modem k).replan = true ∧ (w.modem k).listens = (a.modem k).listens ∧ (w.modem k).counter = (a.modem k).counter
      ∧ ∀ e ∈ a.radio.links, e.2.modem ≠ k → e ∈ w.radio.links)
  ∧ (∀ (s : State) (t p : Nat) (c : Caller), let a := s.advance t
    s.sized → a.writes c 0x1301 0 ([4, 10] ++ leBytes 2 p) = true → p < 4 → a.hasEth p = true → a.gone .network = false →
    Yields (exec (.resetBlock t c 10 p) s) fun w => w.eth p = EthPort.reset (a.role p) a.now)
  ∧ (∀ (s : State) (t p : Nat) (c : Caller), let a := s.advance t
    s.sized → a.writes c 0x1301 0 ([4, 10] ++ leBytes 2 (p + 4)) = true → p < 8 → a.hasCan p = true → a.gone .network = false →
    Yields (exec (.resetBlock t c 10 (p + 4)) s) fun w =>
      w.canPort p = CanPort.reset (a.canStart p) ∧ ∀ q, q ≠ p → w.canPort q = a.canPort q)

/-- High temperature is logged once until it clears; above 140 C the device trips until every sensor reads at most 115 C; the
planner raises the voltage, then steps an island down, then reports the end of margin; the VREQ code moves one step in 1 ms.
Rules: R890, R891, R894, R940. The model's choices in it: log entry 38. -/
def Obligations.MarginActions : Prop :=
  (∀ (s : State) (t : Nat) (i : Island) (temp : Int), let a := s.advance t
    a.islands.length = 12 → 1250 < temp → a.health.tempHigh = false →
    Yields (exec (.tempHigh t i temp) s) fun w =>
      (w.isl i).temp = temp ∧ w.health = { a.health with tempHigh := true } ∧ w.log = (a.logEv .tempHigh []).log
      ∧ Only (told ++ [Part.islands, Part.health, Part.log]) a w)
  ∧ (∀ (s : State) (t : Nat) (i : Island) (temp : Int), let a := s.advance t
    a.islands.length = 12 → temp ≤ 1250 ∨ a.health.tempHigh = true →
    Yields (exec (.tempHigh t i temp) s) fun w => (w.isl i).temp = temp ∧ Only (told ++ [Part.islands]) a w)
  ∧ (∀ (s : State) (t : Nat) (temps : List Int), let a := s.advance t
    a.islands.length = 12 → temps.length = 12 →
    Yields (exec (.tempHighClear t temps) s) fun w =>
      w.health = { a.health with tempHigh := a.health.tempHigh && !(temps.all fun x => x < 1200) } ∧ w.islands.map (·.temp) = temps
      ∧ Only (told ++ [Part.islands, Part.health]) a w)
  ∧ (∀ (s : State) (t : Nat) (i : Island) (temp : Int), let a := s.advance t
    s.sized → 1400 < temp → (∀ x ∈ a.resets.asserted, x.code ≠ 9) →
    Yields (exec (.thermalTrip t i temp) s) fun w =>
      Asserted.mk 9 1 0xFF ∈ w.resets.asserted ∧ w.health.trips = wrap 32 (a.health.trips + 1) ∧ ∀ j, j ≠ .aon → (w.isl j).st = .inReset)
  ∧ (∀ (s : State) (t : Nat) (i : Island) (temp : Int), let a := s.advance t
    a.islands.length = 12 → temp ≤ 1400 ∨ (∃ x ∈ a.resets.asserted, x.code = 9) →
    Yields (exec (.thermalTrip t i temp) s) fun w => (w.isl i).temp = temp ∧ Only (told ++ [Part.islands]) a w)
  ∧ (∀ (s : State) (t : Nat) (temps : List Int), let a := s.advance t
    a.islands.length = 12 → temps.length = 12 →
    Yields (exec (.thermalTripRelease t temps) s) fun w =>
      w.resets.asserted = (if temps.all (fun x => x ≤ 1150) then a.resets.asserted.filter (fun x => x.code ≠ 9) else a.resets.asserted)
      ∧ Only (told ++ [Part.islands, Part.resets, Part.health, Part.stop]) a w)
  ∧ (∀ (s : State) (t : Nat) (i : Island) (x : Int) (temps : List Int), let a := s.advance t
    a.islands.length = 12 → a.up .aon = true → i ≠ .aon → a.up i = true → (∀ r ∈ a.islands, r.slack = []) → x < 40 → a.health.volts < 850 →
    Yields (exec (.marginSample t ((List.replicate 12 40).set i.id x) temps) s) fun w =>
      w.health.volts = a.health.volts + 5 ∧ w.health.marginV = decide (a.health.volts + 5 = 850) ∧ (∀ r ∈ w.islands, r.slack = [])
      ∧ w.log = (a.logEv .marginVoltage []).log ∧ Only (told ++ [Part.islands, Part.health, Part.log]) a w)
  ∧ (∀ (s : State) (t : Nat) (i : Island) (x : Int) (temps : List Int), let a := s.advance t
    let n := (a.isl i).stepTo.getD (a.isl i).step
    a.islands.length = 12 → a.up .aon = true → i ≠ .aon → a.up i = true → (∀ r ∈ a.islands, r.slack = []) → x < 40 → 850 ≤ a.health.volts →
    n < floorStep i →
    Yields (exec (.marginSample t ((List.replicate 12 40).set i.id x) temps) s) fun w =>
      (w.isl i).stepTo = some (n + 1) ∧ (w.isl i).step = (a.isl i).step ∧ (w.isl i).slack = [] ∧ w.health.marginS = true
      ∧ w.health.volts = a.health.volts ∧ Only (told ++ [Part.islands, Part.health, Part.log]) a w)
  ∧ (∀ (s : State) (t : Nat) (i : Island) (x : Int) (temps : List Int), let a := s.advance t
    let n := (a.isl i).stepTo.getD (a.isl i).step
    a.islands.length = 12 → a.up .aon = true → i ≠ .aon → a.up i = true → (∀ r ∈ a.islands, r.slack = []) → x < 40 → 850 ≤ a.health.volts →
    floorStep i ≤ n → (a.isl i).endLogged = false →
    Yields (exec (.marginSample t ((List.replicate 12 40).set i.id x) temps) s) fun w =>
      w.health.marginEnd = true ∧ (w.isl i).endLogged = true ∧ (w.isl i).stepTo = (a.isl i).stepTo ∧ w.health.volts = a.health.volts
      ∧ w.log = (a.logEv .endOfMargin [byte i.id]).log ∧ Only (told ++ [Part.islands, Part.health, Part.log]) a w)
  ∧ (∀ (s : State) (t : Nat) (slacks temps : List Int), let a := s.advance t
    a.islands.length = 12 → a.up .aon = true → (∀ x ∈ slacks, 40 ≤ x) → (∀ r ∈ a.islands, ∀ e ∈ r.slack, 40 ≤ e.2) →
    Yields (exec (.marginSample t slacks temps) s) fun w => Only (told ++ [Part.islands]) a w ∧ w.islands.map (·.stepTo) = a.islands.map (·.stepTo))
  ∧ (∀ (s : State) (t n : Nat) (i : Island), let a := s.advance t
    a.islands.length = 12 → (a.isl i).stepTo = some n → a.up i = true →
    Yields (exec (.islandStepChange t i) s) fun w =>
      w.isl i = { a.isl i with step := n, stepTo := none } ∧ (∀ j, j ≠ i → w.isl j = a.isl j) ∧ Only (told ++ [Part.islands, Part.log]) a w)
  ∧ (∀ (s : State) (t : Nat) (i : Island), let a := s.advance t
    (a.isl i).stepTo = none ∨ a.up i = false →
    Yields (exec (.islandStepChange t i) s) fun w => Only told a w)
  ∧ (∀ (s : State) (t : Nat), let a := s.advance t
    a.up .aon = true → a.health.vreqAt + ms ≤ a.now → a.health.vreq ≠ a.voltCode →
    Yields (exec (.vreqStep t) s) fun w =>
      w.health = { a.health with vreq := if a.health.vreq < a.voltCode then a.health.vreq + 1 else a.health.vreq - 1, vreqAt := a.now }
      ∧ Only (told ++ [Part.health]) a w)
  ∧ (∀ (s : State) (t : Nat), let a := s.advance t
    a.now < a.health.vreqAt + ms ∨ a.health.vreq = a.voltCode →
    Yields (exec (.vreqStep t) s) fun w => Only told a w)

/-- A failing row takes a spare, then its region is retired, then the island faults; a failing page is retired up to 1,024;
CounterSelect clears its counter; the snapshot copies all. Rules: R896, R898, R899, R901. The model's choices in it: log entry
38. -/
def Obligations.MemoryHealth : Prop :=
  (∀ (s : State) (t : Nat) (r : SramRow), let a := s.advance t
    let b := r.island.id * 65536 + r.bank
    a.up r.island = true → rowPlaced r = true → r.island.id * 65536 + r.region ∉ a.health.retired → Tbl.getD a.health.rowsUsed b 0 < 8 →
    Yields (exec (.sramRowSpare t r true) s) fun w =>
      Tbl.getD w.health.rowsUsed b 0 = Tbl.getD a.health.rowsUsed b 0 + 1 ∧ w.health.retired = a.health.retired ∧ Only (told ++ [Part.health]) a w)
  ∧ (∀ (s : State) (t : Nat) (r : SramRow), let a := s.advance t
    a.islands.length = 12 → a.up r.island = true → rowPlaced r = true → r.island.id * 65536 + r.region ∉ a.health.retired →
    8 ≤ Tbl.getD a.health.rowsUsed (r.island.id * 65536 + r.bank) 0 → r.region < a.regionsOf r.island →
    Yields (exec (.sramRowSpare t r true) s) fun w =>
      w.health.retired = a.health.retired ++ [r.island.id * 65536 + r.region] ∧ (w.isl r.island).regions = (a.isl r.island).regions + 1
      ∧ (r.island = .fabric → r.region < 16 → w.fabric.lost = a.fabric.lost + 4096)
      ∧ (r.island = .aon → w.log.capacity + 1024 = 16384 - 1024 * a.log.retired.length ∨ 16 ≤ a.log.retired.length))
  ∧ (∀ (s : State) (t : Nat) (r : SramRow), let a := s.advance t
    a.islands.length = 12 → a.up r.island = true → rowPlaced r = true → r.island.id * 65536 + r.region ∉ a.health.retired →
    8 ≤ Tbl.getD a.health.rowsUsed (r.island.id * 65536 + r.bank) 0 → a.regionsOf r.island ≤ r.region →
    Yields (exec (.sramRowSpare t r true) s) fun w => (w.isl r.island).st = .restarting ∧ (w.isl r.island).cause = 0)
  ∧ (∀ (s : State) (t : Nat) (r : SramRow), let a := s.advance t
    a.up r.island = false ∨ rowPlaced r = false ∨ r.island.id * 65536 + r.region ∈ a.health.retired
      ∨ errorsAt a.health.rowErrs (rowKey r.island.id r.bank r.row) a.now < 4 →
    Yields (exec (.sramRowSpare t r false) s) fun w => Only told a w)
  ∧ (∀ (s : State) (t p : Nat), let a := s.advance t
    a.up .memory = true → p ∉ a.health.pages →
    Yields (exec (.lpddrPageRetire t p true) s) fun w =>
      if a.health.pages.length < 1024 then
        w.health = { a.health with pages := a.health.pages ++ [p], pageErrs := Tbl.del a.health.pageErrs p } ∧ Only (told ++ [Part.health]) a w
      else w.log = (a.logEv .lpddrRetireFull []).log ∧ Only (told ++ [Part.log]) a w)
  ∧ (∀ (s : State) (t p : Nat), let a := s.advance t
    a.up .memory = false ∨ p ∈ a.health.pages ∨ errorsAt a.health.pageErrs p a.now < 4 →
    Yields (exec (.lpddrPageRetire t p false) s) fun w => Only told a w)
  ∧ (∀ (s : State) (t n v : Nat) (c : Caller), let a := s.advance t
    n < 64 → v < 2 ^ 32 → a.health.counters.length = 64 → a.writes c 0x1330 (n + 1) (leBytes 4 v) = true →
    Yields (exec (.counterSelect t c n v) s) fun w =>
      w.cfg 0x1330 (n + 1) = v ∧ w.health.counters.getD n 1 = 0 ∧ ∀ k, k ≠ n → w.health.counters.getD k 0 = a.health.counters.getD k 0)
  ∧ (∀ (s : State) (t : Nat) (c : Caller), let a := s.advance t
    a.writes c 0x1332 0 [1] = true →
    Yields (exec (.counterSnapshot t c) s) fun w => w.health = { a.health with snapshot := a.health.counters })

/-- An event folds into the open record, is staged, or is lost and reported; the writer gives a staged event the next seq in the
slot of R914; a record closes after 1 s, and one of error or critical joins the mirror's queue. Rules: R909, R910, R911, R914.
The model's choices in it: log entry 13. -/
def Obligations.LogRecords : Prop :=
  (∀ (s : State) (t code sev island : Nat) (params : Bytes), let a := s.advance t
    let e : LogEv := { code := code, sev := sev, island := island, params := params }
    eventListed code sev island = true → a.passes island = true → params.length ≤ 40 → a.cfg 0x1408 0 ≤ sev → a.up .aon = true →
    (a.log.expire a.now).fold? e = none → (a.log.expire a.now).staging.length < 64 →
    Yields (exec (.logEvent t code sev island params) s) fun w =>
      w.log = { a.log.expire a.now with staging := (a.log.expire a.now).staging ++ [.event e] } ∧ Only (told ++ [Part.log]) a w)
  ∧ (∀ (s : State) (t at_ slot : Nat) (r : LogRec), let a := s.advance t
    a.up .aon = true → a.cfg 0x1408 0 ≤ r.ev.sev → r.ev.code ≠ 0x1402 → eventListed r.ev.code r.ev.sev r.ev.island = true →
    a.passes r.ev.island = true → r.ev.params.length ≤ 40 → a.log.openRec = some (slot, at_) → a.now < at_ + sec → Tbl.get? a.log.slots slot = some r → r.rep < 0xFFFFFFFE →
    Yields (exec (.logEvent t r.ev.code r.ev.sev r.ev.island r.ev.params) s) fun w =>
      w.log = { a.log with slots := Tbl.put a.log.slots slot { r with rep := r.rep + 1 } } ∧ Only (told ++ [Part.log]) a w)
  ∧ (∀ (s : State) (t code sev island : Nat) (params : Bytes), let a := s.advance t
    let e : LogEv := { code := code, sev := sev, island := island, params := params }
    eventListed code sev island = true → a.passes island = true → params.length ≤ 40 → a.cfg 0x1408 0 ≤ sev → a.up .aon = true →
    (a.log.expire a.now).fold? e = none → 64 ≤ (a.log.expire a.now).staging.length →
    Yields (exec (.logEvent t code sev island params) s) fun w =>
      w.log.lostAll = (a.log.expire a.now).lostAll + 1 ∧ w.log.staging = (a.log.expire a.now).staging
      ∧ w.log.losses = addLoss (a.log.expire a.now).losses 0 sev ∧ Only (told ++ [Part.log]) a w)
  ∧ (∀ (s : State) (t code sev island : Nat) (params : Bytes), let a := s.advance t
    sev < a.cfg 0x1408 0 ∨ eventListed code sev island = false ∨ a.passes island = false →
    Yields (exec (.logEvent t code sev island params) s) fun w => Only told a w)
  ∧ (∀ (s : State) (t code sev island : Nat) (params : Bytes), let a := s.advance t
    eventListed code sev island = true → a.passes island = true → params.length ≤ 40 → a.cfg 0x1408 0 ≤ sev → a.up .aon = false →
    Yields (exec (.logEvent t code sev island params) s) fun w =>
      w.log = { a.log with losses := addLoss a.log.losses 2 sev } ∧ Only (told ++ [Part.log]) a w)
  ∧ (∀ (s : State) (t i : Nat) (e : LogEv) (rest : List Staged), let a := s.advance t
    let l := a.log.expire a.now
    a.up .aon = true → l.staging = .event e :: rest → l.fold? e = none → l.losses = [] → l.slotFor e.sev = some i → l.openRec = none →
    Yields (exec (.logRecordWrite t) s) fun w =>
      w.log = { l with
        staging := rest,
        slots := Tbl.put l.slots i { cycle := l.cycle, count := l.count, ev := e, mirrored := false, satur := false, synth := false, rep := 0, damaged := false },
        openRec := some (i, a.now), count := l.count + 1, latest := l.cycle * 2 ^ 48 + l.count }
      ∧ Only (told ++ [Part.health, Part.log]) a w)
  ∧ (∀ (s : State) (t : Nat) (e : LogEv) (rest : List Staged), let a := s.advance t
    let l := a.log.expire a.now
    a.up .aon = true → l.staging = .event e :: rest → l.fold? e = none → l.losses = [] → l.slotFor e.sev = none → l.openRec = none →
    Yields (exec (.logRecordWrite t) s) fun w =>
      w.log = { l with staging := rest, dropped := wrap 32 (l.dropped + 1) } ∧ Only (told ++ [Part.log]) a w)
  ∧ (∀ (s : State) (t i where_ n sev : Nat), let a := s.advance t
    let l := a.log.expire a.now
    let e : LogEv := { code := 0x1401, sev := max 2 sev, island := 0, params := leBytes 4 (min n 0xFFFFFFFF) ++ [byte sev, byte where_] }
    a.up .aon = true → l.staging = [.lost where_] → l.losses = [⟨where_, n, sev⟩] → l.fold? e = none → l.slotFor e.sev = some i → l.openRec = none →
    Yields (exec (.logRecordWrite t) s) fun w =>
      Tbl.get? w.log.slots i = some { cycle := l.cycle, count := l.count, ev := e, mirrored := false, satur := false, synth := true, rep := 0, damaged := false }
      ∧ w.log.staging = [] ∧ w.log.losses = [] ∧ Only (told ++ [Part.health, Part.log]) a w)
  ∧ (∀ (s : State) (t at_ slot : Nat) (r : LogRec), let a := s.advance t
    a.up .aon = true → a.log.openRec = some (slot, at_) → at_ + sec ≤ a.now → Tbl.get? a.log.slots slot = some r → a.log.mirrorQ.length < 256 →
    Yields (exec (.logRecordClose t) s) fun w =>
      w.log = { a.log with openRec := none, mirrorQ := if 3 ≤ r.ev.sev then a.log.mirrorQ ++ [r] else a.log.mirrorQ }
      ∧ Only (told ++ [Part.log]) a w)
  ∧ (∀ (s : State) (t at_ slot : Nat), let a := s.advance t
    a.log.openRec = some (slot, at_) → a.now < at_ + sec →
    Yields (exec (.logRecordClose t) s) fun w => Only told a w)

/-- A record reaches the mirror and both copies are flagged; a worn block shrinks the ring; marks are written once a second of the
period; LogQuery, SEEK and EMIT answer as chapter 20 says. Rules: R918, R921, R922, R924. The model's choices in it: log entry
13. -/
def Obligations.LogReading : Prop :=
  (∀ (s : State) (t : Nat) (r : LogRec) (rest : List LogRec), let a := s.advance t
    a.up .aon = true → a.up .security = true → a.log.mirrorQ = r :: rest → a.log.mirror.length < 1024 * a.log.ring →
    Yields (exec (.logMirrorWrite t true) s) fun w =>
      w.log = { a.log with
        mirrorQ := rest, mirror := a.log.mirror ++ [{ r with mirrored := true }],
        slots := a.log.slots.map fun e => if e.2.seq = r.seq then (e.1, { e.2 with mirrored := true }) else e }
      ∧ Only (told ++ [Part.log]) a w)
  ∧ (∀ (s : State) (t : Nat) (r : LogRec) (rest : List LogRec), let a := s.advance t
    a.up .aon = true → a.up .security = true → a.log.mirrorQ = r :: rest → a.log.spares = 0 → 2 ≤ a.log.ring → a.log.mirror = [] →
    Yields (exec (.logMirrorWrite t false) s) fun w =>
      w.log.ring + 1 = a.log.ring ∧ w.log.spares = 0 ∧ w.log.mirrorQ = rest ∧ w.log.mirror = [{ r with mirrored := true }] ∧ Only (told ++ [Part.log]) a w)
  ∧ (∀ (s : State) (t : Nat) (ok : Bool), let a := s.advance t
    a.up .security = false ∨ a.log.mirrorQ = [] →
    Yields (exec (.logMirrorWrite t ok) s) fun w => Only told a w)
  ∧ (∀ (s : State) (t : Nat) (q : Int), let a := s.advance t
    a.markSecond = some q → a.log.lastMark ≠ some q →
    Yields (exec (.timeMark t) s) fun w =>
      w.log = { (a.logEv .timeMark (leInt 8 a.time64 ++ [byte a.tb.st.code, byte a.quality])).log with lastMark := some q }
      ∧ Only (told ++ [Part.log]) a w)
  ∧ (∀ (s : State) (t : Nat), let a := s.advance t
    a.markSecond = none ∨ a.log.lastMark = a.markSecond →
    Yields (exec (.timeMark t) s) fun w => Only told a w)
  ∧ (∀ (s : State) (t i req : Nat) (v : Bytes), let a := s.advance t
    let f : InFlight := ⟨req, 6, key 0x1410 0, 0⟩
    let rs := (a.log.sound (u v 11 1 = 1)).filter fun r => u v 0 8 ≤ r.seq && u v 10 1 ≤ r.ev.sev
    a.requests (.coil i req) 0x1410 v = true → v.length = 12 → u v 11 1 ≤ 1 → 1 ≤ u v 8 2 → u v 8 2 ≤ 20 →
    Yields (exec (.logQuery t (.coil i req) v) s) fun w =>
      w.answered i f (Ans.done ((rs.take (u v 8 2)).flatMap LogRec.bytes)) ∧ Only told a w)
  ∧ (∀ (s : State) (t i req : Nat) (v : Bytes), let a := s.advance t
    let f : InFlight := ⟨req, 6, key 0x1410 0, 0⟩
    a.requests (.coil i req) 0x1410 v = true → v.length = 12 → 1 < u v 11 1 ∨ u v 8 2 = 0 ∨ 20 < u v 8 2 →
    Yields (exec (.logQuery t (.coil i req) v) s) fun w =>
      w.answered i f (if 1 < u v 11 1 then Ans.invalid else if u v 8 2 = 0 then Ans.low else Ans.high) ∧ Only told a w)
  ∧ (∀ (s : State) (t h seq slot : Nat) (r : LogRec), let a := s.advance t
    a.hartRuns h = true → a.up .aon = true → Tbl.get? a.log.slots slot = some r → r.damaged = false → seq ≤ r.seq →
    (∀ e ∈ a.log.slots, e.1 = slot ∨ e.2.seq < seq ∨ r.seq < e.2.seq) →
    Yields (exec (.logSeek t h seq) s) fun w =>
      w.log = a.log.setWin h (fun x => { x with seek := seq, found := slot }) ∧ Only (told ++ [Part.log]) a w)
  ∧ (∀ (s : State) (t h seq : Nat), let a := s.advance t
    a.hartRuns h = true → a.up .aon = true → (∀ e ∈ a.log.slots, e.2.damaged = true ∨ e.2.seq < seq) →
    Yields (exec (.logSeek t h seq) s) fun w =>
      w.log = a.log.setWin h (fun x => { x with seek := seq, found := 2 ^ 63 }) ∧ Only (told ++ [Part.log]) a w)
  ∧ (∀ (s : State) (t h word : Nat) (stage : Bytes), let a := s.advance t
    let e : LogEv := { code := bits word 0 16, sev := bits word 16 3, island := 2, params := fit (bits word 24 6) stage }
    a.hartRuns h = true → a.up .aon = true → emitOk word = true → a.cfg 0x1408 0 ≤ e.sev →
    Yields (exec (.emit t h word stage) s) fun w =>
      w.log = (a.log.setWin h fun x => { x with stage := fit 40 stage }).offer a.now e ∧ Only (told ++ [Part.log]) a w)
  ∧ (∀ (s : State) (t h word : Nat) (stage : Bytes), let a := s.advance t
    a.hartRuns h = true → a.up .aon = true → emitOk word = false →
    Yields (exec (.emit t h word stage) s) fun w =>
      w.log = { a.log.setWin h (fun x => { x with stage := fit 40 stage }) with dropped := wrap 32 (a.log.dropped + 1) } ∧ Only (told ++ [Part.log]) a w)

/-- Each command named, in every state, answers a next state that differs from the state at its arrival in nothing but the parts of
the state it lists (and generations, responses and replies). The model's choices in it: log entries 1, 31. -/
def Obligations.FrameTime : Prop :=
  (∀ (s : State) (t : Nat), Yields (exec (.refinLost t) s) fun w => Only (told ++ [Part.tb, Part.log]) (s.advance t) w)
  ∧ (∀ (s : State) (t : Nat) (clock : Nat), Yields (exec (.refinBack t clock) s) fun w => Only (told ++ [Part.tb, Part.log]) (s.advance t) w)
  ∧ (∀ (s : State) (t : Nat) (src : Nat) (off : Int) (bound : Nat), Yields (exec (.timeOffset t src off bound) s) fun w => Only (told ++ [Part.tb, Part.log]) (s.advance t) w)
  ∧ (∀ (s : State) (t : Nat) (src : Nat), Yields (exec (.timeSourceQualified t src) s) fun w => Only (told ++ [Part.tb, Part.log]) (s.advance t) w)
  ∧ (∀ (s : State) (t : Nat) (src : Nat), Yields (exec (.timeSourceNotPresent t src) s) fun w => Only (told ++ [Part.tb, Part.log]) (s.advance t) w)
  ∧ (∀ (s : State) (t : Nat), Yields (exec (.timeAcquired t) s) fun w => Only (told ++ [Part.track, Part.tb, Part.outs, Part.log]) (s.advance t) w)
  ∧ (∀ (s : State) (t : Nat), Yields (exec (.timeStep t) s) fun w => Only (told ++ [Part.track, Part.tb, Part.outs, Part.can, Part.log]) (s.advance t) w)
  ∧ (∀ (s : State) (t : Nat) (output : Nat), Yields (exec (.timePulse t output) s) fun w => Only (told ++ [Part.outs, Part.log]) (s.advance t) w)
  ∧ (∀ (s : State) (t : Nat) (output : Nat), Yields (exec (.timePulseEnd t output) s) fun w => Only (told ++ [Part.outs]) (s.advance t) w)
  ∧ (∀ (s : State) (t : Nat) (output : Nat), Yields (exec (.todMessage t output) s) fun w => Only (told ++ [Part.outs]) (s.advance t) w)
  ∧ (∀ (s : State) (t : Nat) (input : Nat) (rising : Bool) (quarter : Nat), Yields (exec (.timeCapture t input rising quarter) s) fun w => Only (told ++ [Part.health, Part.tb, Part.caps, Part.fabric, Part.log]) (s.advance t) w)
  ∧ (∀ (s : State) (t : Nat) (input : Nat), Yields (exec (.capturePostRetry t input) s) fun w => Only (told ++ [Part.health, Part.caps, Part.fabric, Part.log]) (s.advance t) w)

/-- Each command named, in every state, answers a next state that differs from the state at its arrival in nothing but the parts of
the state it lists (and generations, responses and replies). The model's choices in it: log entries 1, 31. -/
def Obligations.FrameGnss : Prop :=
  (∀ (s : State) (t : Nat) (meas : EpochMeas), Yields (exec (.trackEpoch t meas) s) fun w => Only (told ++ [Part.health, Part.track, Part.dev, Part.fabric, Part.log, Part.free]) (s.advance t) w)
  ∧ (∀ (s : State) (t : Nat) (msg : NavUnit) (news : NavNews), Yields (exec (.navMessage t msg news) s) fun w => Only (told ++ [Part.health, Part.track, Part.tb, Part.fabric, Part.log]) (s.advance t) w)
  ∧ (∀ (s : State) (t : Nat) (ch : Nat) (obs : LockObs), Yields (exec (.channelLockTransition t ch obs) s) fun w => Only (told ++ [Part.track]) (s.advance t) w)
  ∧ (∀ (s : State) (t : Nat) (system : Nat) (sat : Nat) (sig : Nat), Yields (exec (.secondPeakClear t system sat sig) s) fun w => Only (told ++ [Part.track]) (s.advance t) w)
  ∧ (∀ (s : State) (t : Nat) (port : Nat), Yields (exec (.gsJamClear t port) s) fun w => Only (told ++ [Part.track]) (s.advance t) w)
  ∧ (∀ (s : State) (t : Nat) (port : Nat), Yields (exec (.gsGap t port) s) fun w => Only (told ++ [Part.track]) (s.advance t) w)
  ∧ (∀ (s : State) (t : Nat) (ch : Nat) (corr : List Corr), Yields (exec (.bumpJump t ch corr) s) fun w => Only (told ++ [Part.track]) (s.advance t) w)
  ∧ (∀ (s : State) (t : Nat) (ch : Nat), Yields (exec (.pullInTimeout t ch) s) fun w => Only (told ++ [Part.track, Part.dev]) (s.advance t) w)
  ∧ (∀ (s : State) (t : Nat) (ch : Nat), Yields (exec (.coastTimeout t ch) s) fun w => Only (told ++ [Part.track, Part.dev]) (s.advance t) w)
  ∧ (∀ (s : State) (t : Nat) (x : OwnCapture), Yields (exec (.devOwnSearchDone t x) s) fun w => Only (told ++ [Part.track, Part.dev]) (s.advance t) w)
  ∧ (∀ (s : State) (t : Nat) (ch : Nat) (power : Nat), Yields (exec (.watchDwell t ch power) s) fun w => Only (told ++ [Part.track, Part.log]) (s.advance t) w)
  ∧ (∀ (s : State) (t : Nat) (port : Nat), Yields (exec (.gsClockLost t port) s) fun w => Only (told ++ [Part.track, Part.log]) (s.advance t) w)
  ∧ (∀ (s : State) (t : Nat) (port : Nat), Yields (exec (.gsClockBack t port) s) fun w => Only (told ++ [Part.track, Part.log]) (s.advance t) w)
  ∧ (∀ (s : State) (t : Nat) (port : Nat) (tick : GsTick), Yields (exec (.agcUpdate t port tick) s) fun w => Only (told ++ [Part.track, Part.log, Part.free]) (s.advance t) w)
  ∧ (∀ (s : State) (t : Nat) (pkt : Bytes), Yields (exec (.devExposureArrival t pkt) s) fun w => Only (told ++ [Part.dev]) (s.advance t) w)
  ∧ (∀ (s : State) (t : Nat) (sky : List SkySignal), Yields (exec (.devReacquireTick t sky) s) fun w => Only (told ++ [Part.dev]) (s.advance t) w)
  ∧ (∀ (s : State) (t : Nat) (sky : List SkySignal), Yields (exec (.devExposureStart t sky) s) fun w => Only (told ++ [Part.health, Part.dev]) (s.advance t) w)
  ∧ (∀ (s : State) (t : Nat), Yields (exec (.devOwnSearchStart t) s) fun w => Only (told ++ [Part.health, Part.dev]) (s.advance t) w)
  ∧ (∀ (s : State) (t : Nat), Yields (exec (.devStandbyExposure t) s) fun w => Only (told ++ [Part.health, Part.dev]) (s.advance t) w)
  ∧ (∀ (s : State) (t : Nat) (slot : Nat) (sky : List SatEph), Yields (exec (.devResult t slot sky) s) fun w => Only (told ++ [Part.health, Part.dev, Part.conf, Part.fabric, Part.log]) (s.advance t) w)
  ∧ (∀ (s : State) (t : Nat) (x : OwnCapture), Yields (exec (.devStandbyResult t x) s) fun w => Only (told ++ [Part.health, Part.dev, Part.tb, Part.log, Part.free]) (s.advance t) w)
  ∧ (∀ (s : State) (t : Nat) (tick : BaseTick), Yields (exec (.baseEpoch t tick) s) fun w => Only (told ++ [Part.health, Part.settings, Part.base, Part.rover, Part.radio, Part.tb, Part.fabric, Part.log]) (s.advance t) w)
  ∧ (∀ (s : State) (t : Nat) (c : Caller) (req : Bytes), Yields (exec (.baseNetPort t c req) s) fun w => Only (told ++ [Part.clash, Part.health, Part.settings, Part.comb, Part.base, Part.stop, Part.radio, Part.can, Part.fabric, Part.log, Part.free]) (s.advance t) w)
  ∧ (∀ (s : State) (t : Nat) (pkt : Bytes), Yields (exec (.roverObsArrival t pkt) s) fun w => Only (told ++ [Part.health, Part.rover, Part.conf, Part.fabric, Part.log, Part.free]) (s.advance t) w)
  ∧ (∀ (s : State) (t : Nat), Yields (exec (.roverEpochStart t) s) fun w => Only (told ++ [Part.health, Part.rover, Part.fabric, Part.log, Part.free]) (s.advance t) w)
  ∧ (∀ (s : State) (t : Nat) (slot : Nat) (sky : List SatEph), Yields (exec (.roverEpochDone t slot sky) s) fun w => Only (told ++ [Part.health, Part.rover, Part.conf, Part.fabric, Part.log]) (s.advance t) w)

/-- Each command named, in every state, answers a next state that differs from the state at its arrival in nothing but the parts of
the state it lists (and generations, responses and replies). The model's choices in it: log entries 1, 31. -/
def Obligations.FrameComb : Prop :=
  (∀ (s : State) (t : Nat), Yields (exec (.combEpochAge t) s) fun w => Only (told ++ [Part.comb, Part.log]) (s.advance t) w)
  ∧ (∀ (s : State) (t : Nat) (bucket : Nat), Yields (exec (.combSweep t bucket) s) fun w => Only (told ++ [Part.comb, Part.log]) (s.advance t) w)
  ∧ (∀ (s : State) (t : Nat) (bucket : Nat) (slot : Nat), Yields (exec (.combBlocked t bucket slot) s) fun w => Only (told ++ [Part.comb, Part.log]) (s.advance t) w)
  ∧ (∀ (s : State) (t : Nat) (bucket : Nat) (slot : Nat), Yields (exec (.combBlockExpiry t bucket slot) s) fun w => Only (told ++ [Part.comb, Part.log]) (s.advance t) w)
  ∧ (∀ (s : State) (t : Nat) (group : Nat), Yields (exec (.combRetire t group) s) fun w => Only (told ++ [Part.comb, Part.log]) (s.advance t) w)
  ∧ (∀ (s : State) (t : Nat) (n : Nat) (exch : Nat), Yields (exec (.combPresumed t n exch) s) fun w => Only (told ++ [Part.comb, Part.log]) (s.advance t) w)
  ∧ (∀ (s : State) (t : Nat) (n : Nat), Yields (exec (.syncAnswer t n) s) fun w => Only (told ++ [Part.comb, Part.log]) (s.advance t) w)
  ∧ (∀ (s : State) (t : Nat) (c : Caller) (req : Bytes), Yields (exec (.combIntake t c req) s) fun w => Only (told ++ [Part.clash, Part.health, Part.settings, Part.comb, Part.base, Part.stop, Part.radio, Part.can, Part.fabric, Part.log, Part.free]) (s.advance t) w)
  ∧ (∀ (s : State) (t : Nat) (c : Caller) (msg : Bytes), Yields (exec (.prepare t c msg) s) fun w => Only (told ++ [Part.clash, Part.health, Part.settings, Part.comb, Part.base, Part.stop, Part.radio, Part.can, Part.fabric, Part.log, Part.free]) (s.advance t) w)
  ∧ (∀ (s : State) (t : Nat) (c : Caller) (msg : Bytes), Yields (exec (.regionCommitMessage t c msg) s) fun w => Only (told ++ [Part.clash, Part.health, Part.settings, Part.comb, Part.base, Part.stop, Part.radio, Part.can, Part.fabric, Part.log, Part.free]) (s.advance t) w)
  ∧ (∀ (s : State) (t : Nat) (c : Caller) (msg : Bytes), Yields (exec (.regionAbort t c msg) s) fun w => Only (told ++ [Part.clash, Part.health, Part.settings, Part.comb, Part.base, Part.stop, Part.radio, Part.can, Part.fabric, Part.log, Part.free]) (s.advance t) w)
  ∧ (∀ (s : State) (t : Nat) (c : Caller) (msg : Bytes), Yields (exec (.shorten t c msg) s) fun w => Only (told ++ [Part.clash, Part.health, Part.settings, Part.comb, Part.base, Part.stop, Part.radio, Part.can, Part.fabric, Part.log, Part.free]) (s.advance t) w)
  ∧ (∀ (s : State) (t : Nat) (c : Caller) (msg : Bytes), Yields (exec (.sync t c msg) s) fun w => Only (told ++ [Part.clash, Part.health, Part.settings, Part.comb, Part.base, Part.stop, Part.radio, Part.can, Part.fabric, Part.log, Part.free]) (s.advance t) w)
  ∧ (∀ (s : State) (t : Nat) (c : Caller) (msg : Bytes), Yields (exec (.regionHeartbeat t c msg) s) fun w => Only (told ++ [Part.clash, Part.health, Part.settings, Part.comb, Part.base, Part.stop, Part.radio, Part.can, Part.fabric, Part.log, Part.free]) (s.advance t) w)
  ∧ (∀ (s : State) (t : Nat), Yields (exec (.combAccept t) s) fun w => Only (told ++ [Part.health, Part.comb]) (s.advance t) w)
  ∧ (∀ (s : State) (t : Nat) (seq : Nat), Yields (exec (.claim t seq) s) fun w => Only (told ++ [Part.health, Part.settings, Part.comb, Part.fabric, Part.log, Part.free]) (s.advance t) w)
  ∧ (∀ (s : State) (t : Nat) (seq : Nat), Yields (exec (.probe t seq) s) fun w => Only (told ++ [Part.health, Part.settings, Part.comb, Part.fabric, Part.log, Part.free]) (s.advance t) w)
  ∧ (∀ (s : State) (t : Nat) (seq : Nat), Yields (exec (.amend t seq) s) fun w => Only (told ++ [Part.health, Part.settings, Part.comb, Part.fabric, Part.log, Part.free]) (s.advance t) w)
  ∧ (∀ (s : State) (t : Nat) (seq : Nat), Yields (exec (.release t seq) s) fun w => Only (told ++ [Part.health, Part.settings, Part.comb, Part.fabric, Part.log, Part.free]) (s.advance t) w)
  ∧ (∀ (s : State) (t : Nat) (seq : Nat), Yields (exec (.area t seq) s) fun w => Only (told ++ [Part.health, Part.settings, Part.comb, Part.fabric, Part.log, Part.free]) (s.advance t) w)
  ∧ (∀ (s : State) (t : Nat) (seq : Nat), Yields (exec (.query t seq) s) fun w => Only (told ++ [Part.health, Part.settings, Part.comb, Part.fabric, Part.log, Part.free]) (s.advance t) w)
  ∧ (∀ (s : State) (t : Nat) (seq : Nat), Yields (exec (.combWaitResume t seq) s) fun w => Only (told ++ [Part.health, Part.settings, Part.comb, Part.fabric, Part.log, Part.free]) (s.advance t) w)
  ∧ (∀ (s : State) (t : Nat) (seq : Nat), Yields (exec (.combTrim t seq) s) fun w => Only (told ++ [Part.health, Part.settings, Part.comb, Part.fabric, Part.log, Part.free]) (s.advance t) w)
  ∧ (∀ (s : State) (t : Nat) (n : Nat) (exch : Nat) (resp : Bytes), Yields (exec (.prepareAnswer t n exch resp) s) fun w => Only (told ++ [Part.health, Part.comb, Part.fabric, Part.log]) (s.advance t) w)
  ∧ (∀ (s : State) (t : Nat) (exch : Nat), Yields (exec (.prepareTimeout t exch) s) fun w => Only (told ++ [Part.health, Part.comb, Part.fabric, Part.log]) (s.advance t) w)
  ∧ (∀ (s : State) (t : Nat) (n : Nat), Yields (exec (.neighbourLost t n) s) fun w => Only (told ++ [Part.health, Part.comb, Part.fabric, Part.log]) (s.advance t) w)
  ∧ (∀ (s : State) (t : Nat) (n : Nat) (exch : Nat), Yields (exec (.commitAbortRepeat t n exch) s) fun w => Only (told ++ [Part.comb]) (s.advance t) w)
  ∧ (∀ (s : State) (t : Nat), Yields (exec (.heartbeatSend t) s) fun w => Only (told ++ [Part.comb, Part.free]) (s.advance t) w)
  ∧ (∀ (s : State) (t : Nat) (n : Nat) (accept : Bytes), Yields (exec (.neighbourSessionOpen t n accept) s) fun w => Only (told ++ [Part.settings, Part.comb]) (s.advance t) w)
  ∧ (∀ (s : State) (t : Nat) (n : Nat) (exch : Nat), Yields (exec (.neighbourAnswer t n exch) s) fun w => Only (told ++ [Part.comb, Part.stop]) (s.advance t) w)

/-- Each command named, in every state, answers a next state that differs from the state at its arrival in nothing but the parts of
the state it lists (and generations, responses and replies). The model's choices in it: log entries 1, 31. -/
def Obligations.FrameConfStop : Prop :=
  (∀ (s : State) (t : Nat) (slot : Nat), Yields (exec (.confFix t slot) s) fun w => Only (told ++ [Part.health, Part.comb, Part.conf, Part.stop, Part.fabric, Part.log]) (s.advance t) w)
  ∧ (∀ (s : State) (t : Nat) (slot : Nat), Yields (exec (.confReported t slot) s) fun w => Only (told ++ [Part.health, Part.comb, Part.conf, Part.stop, Part.fabric, Part.log]) (s.advance t) w)
  ∧ (∀ (s : State) (t : Nat) (slot : Nat), Yields (exec (.confDeveloped t slot) s) fun w => Only (told ++ [Part.health, Part.comb, Part.conf, Part.stop, Part.fabric, Part.log]) (s.advance t) w)
  ∧ (∀ (s : State) (t : Nat) (slot : Nat), Yields (exec (.confResultNotice t slot) s) fun w => Only (told ++ [Part.health, Part.comb, Part.conf, Part.stop, Part.fabric, Part.log]) (s.advance t) w)
  ∧ (∀ (s : State) (t : Nat), Yields (exec (.confFreshnessTick t) s) fun w => Only (told ++ [Part.health, Part.conf, Part.stop, Part.fabric, Part.log]) (s.advance t) w)
  ∧ (∀ (s : State) (t : Nat), Yields (exec (.confDeviceTick t) s) fun w => Only (told ++ [Part.health, Part.conf, Part.stop, Part.log]) (s.advance t) w)
  ∧ (∀ (s : State) (t : Nat), Yields (exec (.swarmDeadline t) s) fun w => Only (told ++ [Part.health, Part.conf, Part.stop, Part.log]) (s.advance t) w)
  ∧ (∀ (s : State) (t : Nat), Yields (exec (.swarmInstant t) s) fun w => Only (told ++ [Part.settings, Part.conf]) (s.advance t) w)
  ∧ (∀ (s : State) (t : Nat) (input : Nat) (pin : Nat) (level : Bool), Yields (exec (.siPinChange t input pin level) s) fun w => Only (told ++ [Part.stop]) (s.advance t) w)
  ∧ (∀ (s : State) (t : Nat) (output : Nat), Yields (exec (.soPulseTest t output) s) fun w => Only (told ++ [Part.stop]) (s.advance t) w)
  ∧ (∀ (s : State) (t : Nat) (output : Nat) (p : Bool) (n : Bool), Yields (exec (.soFaultEnd t output p n) s) fun w => Only (told ++ [Part.stop]) (s.advance t) w)
  ∧ (∀ (s : State) (t : Nat) (n : Nat), Yields (exec (.stopNoticeRepeat t n) s) fun w => Only (told ++ [Part.stop]) (s.advance t) w)
  ∧ (∀ (s : State) (t : Nat), Yields (exec (.stopVote t) s) fun w => Only (told ++ [Part.stop]) (s.advance t) w)
  ∧ (∀ (s : State) (t : Nat) (input : Nat) (pin : Nat), Yields (exec (.siDebounceExpiry t input pin) s) fun w => Only (told ++ [Part.health, Part.stop]) (s.advance t) w)
  ∧ (∀ (s : State) (t : Nat) (input : Nat), Yields (exec (.siDiscrepancy t input) s) fun w => Only (told ++ [Part.health, Part.stop, Part.log]) (s.advance t) w)
  ∧ (∀ (s : State) (t : Nat) (output : Nat) (p : Bool) (n : Bool), Yields (exec (.soFault t output p n) s) fun w => Only (told ++ [Part.health, Part.stop, Part.log]) (s.advance t) w)
  ∧ (∀ (s : State) (t : Nat) (output : Nat) (p : Bool) (n : Bool), Yields (exec (.soPulseTestEnd t output p n) s) fun w => Only (told ++ [Part.health, Part.stop, Part.log]) (s.advance t) w)
  ∧ (∀ (s : State) (t : Nat), Yields (exec (.stopChannelDisagree t) s) fun w => Only (told ++ [Part.health, Part.stop, Part.log]) (s.advance t) w)
  ∧ (∀ (s : State) (t : Nat) (c : Caller) (msg : Bytes), Yields (exec (.stopNeighbourNotice t c msg) s) fun w => Only (told ++ [Part.clash, Part.health, Part.settings, Part.comb, Part.base, Part.stop, Part.radio, Part.can, Part.fabric, Part.log, Part.free]) (s.advance t) w)

/-- Each command named, in every state, answers a next state that differs from the state at its arrival in nothing but the parts of
the state it lists (and generations, responses and replies). The model's choices in it: log entries 1, 31. -/
def Obligations.FrameRadio : Prop :=
  (∀ (s : State) (t : Nat) (slot : Nat), Yields (exec (.linkEvent t slot) s) fun w => Only (told ++ [Part.health, Part.conf, Part.stop, Part.radio, Part.log]) (s.advance t) w)
  ∧ (∀ (s : State) (t : Nat) (slot : Nat) (frame : RadioFrame) (offset : Int) (rssi : Int), Yields (exec (.linkReplyReceived t slot frame offset rssi) s) fun w => Only (told ++ [Part.health, Part.conf, Part.stop, Part.radio, Part.fabric, Part.log]) (s.advance t) w)
  ∧ (∀ (s : State) (t : Nat) (slot : Nat), Yields (exec (.linkSupervisionTimeout t slot) s) fun w => Only (told ++ [Part.conf, Part.stop, Part.radio, Part.log]) (s.advance t) w)
  ∧ (∀ (s : State) (t : Nat) (slot : Nat), Yields (exec (.linkJoinTimeout t slot) s) fun w => Only (told ++ [Part.conf, Part.stop, Part.radio, Part.log]) (s.advance t) w)
  ∧ (∀ (s : State) (t : Nat) (modem : Nat), Yields (exec (.beaconSend t modem) s) fun w => Only (told ++ [Part.health, Part.comb, Part.radio]) (s.advance t) w)
  ∧ (∀ (s : State) (t : Nat) (modem : Nat) (frame : RadioFrame), Yields (exec (.joinRequest t modem frame) s) fun w => Only (told ++ [Part.settings, Part.conf, Part.stop, Part.radio, Part.log, Part.free]) (s.advance t) w)
  ∧ (∀ (s : State) (t : Nat) (modem : Nat) (n : Nat) (frame : RadioFrame), Yields (exec (.neighbourBeacon t modem n frame) s) fun w => Only (told ++ [Part.clash, Part.comb, Part.stop, Part.radio, Part.log]) (s.advance t) w)
  ∧ (∀ (s : State) (t : Nat) (modem : Nat), Yields (exec (.waggleSend t modem) s) fun w => Only (told ++ [Part.health, Part.radio]) (s.advance t) w)
  ∧ (∀ (s : State) (t : Nat) (slot : Nat), Yields (exec (.linkUpdateInstant t slot) s) fun w => Only (told ++ [Part.radio]) (s.advance t) w)
  ∧ (∀ (s : State) (t : Nat) (modem : Nat), Yields (exec (.hyperperiodBoundary t modem) s) fun w => Only (told ++ [Part.radio]) (s.advance t) w)
  ∧ (∀ (s : State) (t : Nat) (c : Caller) (req : Bytes), Yields (exec (.radioSend t c req) s) fun w => Only (told ++ [Part.clash, Part.health, Part.settings, Part.comb, Part.base, Part.stop, Part.radio, Part.can, Part.fabric, Part.log, Part.free]) (s.advance t) w)
  ∧ (∀ (s : State) (t : Nat) (c : Caller) (req : Bytes), Yields (exec (.radioWaggle t c req) s) fun w => Only (told ++ [Part.clash, Part.health, Part.settings, Part.comb, Part.base, Part.stop, Part.radio, Part.can, Part.fabric, Part.log, Part.free]) (s.advance t) w)

/-- Each command named, in every state, answers a next state that differs from the state at its arrival in nothing but the parts of
the state it lists (and generations, responses and replies). The model's choices in it: log entries 1, 31. -/
def Obligations.FrameNetCan : Prop :=
  (∀ (s : State) (t : Nat) (port : Nat) (groups : Bytes), Yields (exec (.ethFrameReceived t port groups) s) fun w => Only (told ++ [Part.health, Part.net]) (s.advance t) w)
  ∧ (∀ (s : State) (t : Nat) (port : Nat), Yields (exec (.ethFrameSent t port) s) fun w => Only (told ++ [Part.net]) (s.advance t) w)
  ∧ (∀ (s : State) (t : Nat) (mac : Nat), Yields (exec (.ethAddressAgeing t mac) s) fun w => Only (told ++ [Part.net]) (s.advance t) w)
  ∧ (∀ (s : State) (t : Nat) (port : Nat), Yields (exec (.ptpSyncSend t port) s) fun w => Only (told ++ [Part.net]) (s.advance t) w)
  ∧ (∀ (s : State) (t : Nat) (port : Nat), Yields (exec (.ptpDelayReqSend t port) s) fun w => Only (told ++ [Part.net]) (s.advance t) w)
  ∧ (∀ (s : State) (t : Nat) (port : Nat) (msg : PtpMsg), Yields (exec (.ptpDelayReqReceived t port msg) s) fun w => Only (told ++ [Part.net]) (s.advance t) w)
  ∧ (∀ (s : State) (t : Nat) (port : Nat) (msg : PtpMsg), Yields (exec (.ptpDelayRespReceived t port msg) s) fun w => Only (told ++ [Part.net]) (s.advance t) w)
  ∧ (∀ (s : State) (t : Nat) (port : Nat) (word : Nat), Yields (exec (.sgmiiControlWord t port word) s) fun w => Only (told ++ [Part.tb, Part.net, Part.log]) (s.advance t) w)
  ∧ (∀ (s : State) (t : Nat) (port : Nat) (synced : Bool), Yields (exec (.pcsSyncChange t port synced) s) fun w => Only (told ++ [Part.tb, Part.net, Part.log]) (s.advance t) w)
  ∧ (∀ (s : State) (t : Nat) (port : Nat) (msg : PtpMsg), Yields (exec (.ptpSyncReceived t port msg) s) fun w => Only (told ++ [Part.tb, Part.net, Part.log]) (s.advance t) w)
  ∧ (∀ (s : State) (t : Nat) (port : Nat) (msg : PtpMsg), Yields (exec (.ptpAnnounceReceived t port msg) s) fun w => Only (told ++ [Part.tb, Part.net, Part.log]) (s.advance t) w)
  ∧ (∀ (s : State) (t : Nat) (port : Nat), Yields (exec (.ptpAnnounceTimeout t port) s) fun w => Only (told ++ [Part.tb, Part.net, Part.log]) (s.advance t) w)
  ∧ (∀ (s : State) (t : Nat) (port : Nat), Yields (exec (.ptpSyncTimeout t port) s) fun w => Only (told ++ [Part.tb, Part.net, Part.log]) (s.advance t) w)
  ∧ (∀ (s : State) (t : Nat) (port : Nat), Yields (exec (.ptpAnnounceSend t port) s) fun w => Only (told ++ [Part.tb, Part.net, Part.log]) (s.advance t) w)
  ∧ (∀ (s : State) (t : Nat) (port : Nat) (sof : Nat) (frame : CanFrame), Yields (exec (.canFrameReceived t port sof frame) s) fun w => Only (told ++ [Part.health, Part.stop, Part.can, Part.log, Part.free]) (s.advance t) w)
  ∧ (∀ (s : State) (t : Nat) (c : Caller) (req : Bytes), Yields (exec (.canSend t c req) s) fun w => Only (told ++ [Part.clash, Part.health, Part.settings, Part.comb, Part.base, Part.stop, Part.radio, Part.can, Part.fabric, Part.log, Part.free]) (s.advance t) w)
  ∧ (∀ (s : State) (t : Nat) (c : Caller) (req : Bytes) (trying : Bool), Yields (exec (.canCancel t c req trying) s) fun w => Only (told ++ [Part.can, Part.free]) (s.advance t) w)
  ∧ (∀ (s : State) (t : Nat) (port : Nat) (buf : Nat) (sof : Nat) (outcome : CanAttempt), Yields (exec (.canAttemptEnd t port buf sof outcome) s) fun w => Only (told ++ [Part.health, Part.stop, Part.can, Part.log]) (s.advance t) w)
  ∧ (∀ (s : State) (t : Nat) (port : Nat), Yields (exec (.canErrorFrame t port) s) fun w => Only (told ++ [Part.health, Part.stop, Part.can, Part.log]) (s.advance t) w)
  ∧ (∀ (s : State) (t : Nat) (port : Nat), Yields (exec (.canBusOffRecovered t port) s) fun w => Only (told ++ [Part.can]) (s.advance t) w)
  ∧ (∀ (s : State) (t : Nat) (port : Nat), Yields (exec (.canIntegrationDone t port) s) fun w => Only (told ++ [Part.can]) (s.advance t) w)
  ∧ (∀ (s : State) (t : Nat), Yields (exec (.canTmBoundary t) s) fun w => Only (told ++ [Part.can]) (s.advance t) w)
  ∧ (∀ (s : State) (t : Nat) (port : Nat), Yields (exec (.canSleepEntry t port) s) fun w => Only (told ++ [Part.can]) (s.advance t) w)
  ∧ (∀ (s : State) (t : Nat) (port : Nat) (width : Nat), Yields (exec (.canWakeEdge t port width) s) fun w => Only (told ++ [Part.can, Part.log]) (s.advance t) w)
  ∧ (∀ (s : State) (t : Nat) (port : Nat) (fifo : Nat), Yields (exec (.canFifoPost t port fifo) s) fun w => Only (told ++ [Part.health, Part.can, Part.fabric, Part.log]) (s.advance t) w)

/-- Each command named, in every state, answers a next state that differs from the state at its arrival in nothing but the parts of
the state it lists (and generations, responses and replies). The model's choices in it: log entries 1, 31. -/
def Obligations.FrameFabric : Prop :=
  (∀ (s : State) (t : Nat) (hart : Nat) (timeout : Nat), Yields (exec (.fetch t hart timeout) s) fun w => Only (told ++ [Part.fabric, Part.log]) (s.advance t) w)
  ∧ (∀ (s : State) (t : Nat) (hart : Nat) (v : Nat), Yields (exec (.complete t hart v) s) fun w => Only (told ++ [Part.fabric, Part.log]) (s.advance t) w)
  ∧ (∀ (s : State) (t : Nat) (hart : Nat) (v : Nat), Yields (exec (.decrement t hart v) s) fun w => Only (told ++ [Part.fabric, Part.log]) (s.advance t) w)
  ∧ (∀ (s : State) (t : Nat) (hart : Nat) (q : Nat), Yields (exec (.closeAbandon t hart q) s) fun w => Only (told ++ [Part.fabric, Part.log]) (s.advance t) w)
  ∧ (∀ (s : State) (t : Nat) (hart : Nat) (wake : FetchWake), Yields (exec (.fetchGrant t hart wake) s) fun w => Only (told ++ [Part.health, Part.fabric]) (s.advance t) w)
  ∧ (∀ (s : State) (t : Nat) (hart : Nat), Yields (exec (.fetchTimeout t hart) s) fun w => Only (told ++ [Part.health, Part.fabric]) (s.advance t) w)
  ∧ (∀ (s : State) (t : Nat) (hart : Nat) (idx : Nat) (lo : Nat) (hi : Nat), Yields (exec (.submit t hart idx lo hi) s) fun w => Only (told ++ [Part.fabric]) (s.advance t) w)
  ∧ (∀ (s : State) (t : Nat) (hart : Nat) (idx : Nat), Yields (exec (.reissue t hart idx) s) fun w => Only (told ++ [Part.fabric]) (s.advance t) w)
  ∧ (∀ (s : State) (t : Nat) (hart : Nat) (q : Nat), Yields (exec (.pop t hart q) s) fun w => Only (told ++ [Part.fabric]) (s.advance t) w)
  ∧ (∀ (s : State) (t : Nat) (hart : Nat) (q : Nat) (words : List Nat), Yields (exec (.push t hart q words) s) fun w => Only (told ++ [Part.fabric]) (s.advance t) w)
  ∧ (∀ (s : State) (t : Nat) (hart : Nat) (q : Nat), Yields (exec (.queueOpen t hart q) s) fun w => Only (told ++ [Part.fabric]) (s.advance t) w)
  ∧ (∀ (s : State) (t : Nat) (hart : Nat) (q : Nat) (v : Nat), Yields (exec (.tag t hart q v) s) fun w => Only (told ++ [Part.fabric]) (s.advance t) w)
  ∧ (∀ (s : State) (t : Nat) (hart : Nat) (q : Nat), Yields (exec (.drop t hart q) s) fun w => Only (told ++ [Part.fabric]) (s.advance t) w)
  ∧ (∀ (s : State) (t : Nat) (token : Nat), Yields (exec (.appletNoAnswer t token) s) fun w => Only (told ++ [Part.fabric]) (s.advance t) w)
  ∧ (∀ (s : State) (t : Nat) (hart : Nat) (n : Nat) (look : PeekAt), Yields (exec (.peekDescriptor t hart n look) s) fun w => Only (told ++ [Part.fabric, Part.dram, Part.log]) (s.advance t) w)
  ∧ (∀ (s : State) (t : Nat) (hart : Nat) (q : Nat), Yields (exec (.queuePeek t hart q) s) fun w => Only told (s.advance t) w)
  ∧ (∀ (s : State) (t : Nat) (hart : Nat) (q : Nat), Yields (exec (.close t hart q) s) fun w => Only (told ++ [Part.health, Part.fabric, Part.log]) (s.advance t) w)
  ∧ (∀ (s : State) (t : Nat) (hart : Nat), Yields (exec (.replyPost t hart) s) fun w => Only (told ++ [Part.health, Part.fabric, Part.log]) (s.advance t) w)
  ∧ (∀ (s : State) (t : Nat) (hart : Nat) (token : Nat) (outcome : Nat) (data : Bytes), Yields (exec (.answer t hart token outcome data) s) fun w => Only (told ++ [Part.settings, Part.fabric, Part.free]) (s.advance t) w)

/-- Each command named, in every state, answers a next state that differs from the state at its arrival in nothing but the parts of
the state it lists (and generations, responses and replies). The model's choices in it: log entries 1, 31. -/
def Obligations.FrameHealthLog : Prop :=
  (∀ (s : State) (t : Nat) (i : Island) (temp : Int), Yields (exec (.tempHigh t i temp) s) fun w => Only (told ++ [Part.islands, Part.health, Part.log]) (s.advance t) w)
  ∧ (∀ (s : State) (t : Nat) (slacks : List Int) (temps : List Int), Yields (exec (.marginSample t slacks temps) s) fun w => Only (told ++ [Part.islands, Part.health, Part.log]) (s.advance t) w)
  ∧ (∀ (s : State) (t : Nat) (temps : List Int), Yields (exec (.tempHighClear t temps) s) fun w => Only (told ++ [Part.islands, Part.health]) (s.advance t) w)
  ∧ (∀ (s : State) (t : Nat) (temps : List Int), Yields (exec (.thermalTripRelease t temps) s) fun w => Only (told ++ [Part.islands, Part.resets, Part.health, Part.stop]) (s.advance t) w)
  ∧ (∀ (s : State) (t : Nat), Yields (exec (.borRelease t) s) fun w => Only (told ++ [Part.islands, Part.resets, Part.health, Part.stop]) (s.advance t) w)
  ∧ (∀ (s : State) (t : Nat), Yields (exec (.resetNHigh t) s) fun w => Only (told ++ [Part.islands, Part.resets, Part.health, Part.stop]) (s.advance t) w)
  ∧ (∀ (s : State) (t : Nat) (code : Nat), Yields (exec (.wipeComplete t code) s) fun w => Only (told ++ [Part.islands, Part.resets, Part.health, Part.stop]) (s.advance t) w)
  ∧ (∀ (s : State) (t : Nat) (i : Island), Yields (exec (.islandStepChange t i) s) fun w => Only (told ++ [Part.islands, Part.log]) (s.advance t) w)
  ∧ (∀ (s : State) (t : Nat), Yields (exec (.vreqStep t) s) fun w => Only (told ++ [Part.health]) (s.advance t) w)
  ∧ (∀ (s : State) (t : Nat) (row : SramRow) (unc : Bool), Yields (exec (.sramRowSpare t row unc) s) fun w => Only (told ++ [Part.islands, Part.health, Part.keys, Part.comb, Part.track, Part.dev, Part.rover, Part.stop, Part.radio, Part.net, Part.can, Part.fabric, Part.log]) (s.advance t) w)
  ∧ (∀ (s : State) (t : Nat) (i : Island) (cause : FaultCause), Yields (exec (.islandFault t i cause) s) fun w => Only (told ++ [Part.islands, Part.health, Part.keys, Part.comb, Part.track, Part.dev, Part.rover, Part.stop, Part.radio, Part.net, Part.can, Part.fabric, Part.log]) (s.advance t) w)
  ∧ (∀ (s : State) (t : Nat) (i : Island), Yields (exec (.islandWatchdogExpiry t i) s) fun w => Only (told ++ [Part.islands, Part.health, Part.keys, Part.comb, Part.track, Part.dev, Part.rover, Part.stop, Part.radio, Part.net, Part.can, Part.fabric, Part.log]) (s.advance t) w)
  ∧ (∀ (s : State) (t : Nat) (page : Nat) (unc : Bool), Yields (exec (.lpddrPageRetire t page unc) s) fun w => Only (told ++ [Part.health, Part.log]) (s.advance t) w)
  ∧ (∀ (s : State) (t : Nat), Yields (exec (.logRecordWrite t) s) fun w => Only (told ++ [Part.health, Part.log]) (s.advance t) w)
  ∧ (∀ (s : State) (t : Nat) (code : Nat) (sev : Nat) (island : Nat) (params : Bytes), Yields (exec (.logEvent t code sev island params) s) fun w => Only (told ++ [Part.log]) (s.advance t) w)
  ∧ (∀ (s : State) (t : Nat), Yields (exec (.logRecordClose t) s) fun w => Only (told ++ [Part.log]) (s.advance t) w)
  ∧ (∀ (s : State) (t : Nat) (ok : Bool), Yields (exec (.logMirrorWrite t ok) s) fun w => Only (told ++ [Part.log]) (s.advance t) w)
  ∧ (∀ (s : State) (t : Nat), Yields (exec (.timeMark t) s) fun w => Only (told ++ [Part.log]) (s.advance t) w)
  ∧ (∀ (s : State) (t : Nat) (hart : Nat) (seq : Nat), Yields (exec (.logSeek t hart seq) s) fun w => Only (told ++ [Part.log]) (s.advance t) w)
  ∧ (∀ (s : State) (t : Nat) (hart : Nat) (word : Nat) (params : Bytes), Yields (exec (.emit t hart word params) s) fun w => Only (told ++ [Part.log]) (s.advance t) w)
  ∧ (∀ (s : State) (t : Nat) (c : Caller) (req : Bytes), Yields (exec (.logQuery t c req) s) fun w => Only (told ++ [Part.clash, Part.health, Part.settings, Part.comb, Part.base, Part.stop, Part.radio, Part.can, Part.fabric, Part.log, Part.free]) (s.advance t) w)
  ∧ (∀ (s : State) (t : Nat) (i : Island), Yields (exec (.islandRestartEnd t i) s) fun w => Only (told ++ [Part.islands, Part.health, Part.settings, Part.conf, Part.stop, Part.log]) (s.advance t) w)
  ∧ (∀ (s : State) (t : Nat) (store : StoreRef), Yields (exec (.protectedStoreError t store) s) fun w => Only (told ++ [Part.health, Part.keys, Part.comb, Part.rover, Part.conf, Part.stop, Part.radio, Part.fabric, Part.log]) (s.advance t) w)
  ∧ (∀ (s : State) (t : Nat) (i : Island) (where_ : EccAt), Yields (exec (.correctedEccError t i where_) s) fun w => Only (told ++ [Part.islands, Part.health, Part.comb, Part.stop, Part.tb]) (s.advance t) w)
  ∧ (∀ (s : State) (t : Nat), Yields (exec (.globalWatchdogService t) s) fun w => Only (told ++ [Part.resets]) (s.advance t) w)

/-- Each command named, in every state, answers a next state that differs from the state at its arrival in nothing but the parts of
the state it lists (and generations, responses and replies). The model's choices in it: log entries 1, 31. -/
def Obligations.FrameDictKeysBoot : Prop :=
  (∀ (s : State) (t : Nat) (raw : Bytes), Yields (exec (.coilHello t raw) s) fun w => Only (told ++ [Part.log, Part.free]) (s.advance t) w)
  ∧ (∀ (s : State) (t : Nat) (sid : Nat) (idx : Nat) (sub : Nat), Yields (exec (.notify t sid idx sub) s) fun w => Only (told ++ [Part.settings, Part.fabric, Part.free]) (s.advance t) w)
  ∧ (∀ (s : State) (t : Nat) (hdr : Bytes) (body : Sealed), Yields (exec (.coilClose t hdr body) s) fun w => Only (told ++ [Part.settings, Part.comb]) (s.advance t) w)
  ∧ (∀ (s : State) (t : Nat) (sid : Nat), Yields (exec (.coilIdleTimeout t sid) s) fun w => Only (told ++ [Part.settings, Part.comb]) (s.advance t) w)
  ∧ (∀ (s : State) (t : Nat) (sid : Nat) (idx : Nat) (sub : Nat), Yields (exec (.blockTransferAbandon t sid idx sub) s) fun w => Only told (s.advance t) w)
  ∧ (∀ (s : State) (t : Nat) (port : Nat) (msg : Bytes), Yields (exec (.boantInfo t port msg) s) fun w => Only told (s.advance t) w)
  ∧ (∀ (s : State) (t : Nat) (idx : Nat) (sub : Nat), Yields (exec (.stageHoldTimeout t idx sub) s) fun w => Only (told ++ [Part.settings]) (s.advance t) w)
  ∧ (∀ (s : State) (t : Nat) (port : Nat) (client : Nat) (kind : UsdoKind) (idx : Nat) (sub : Nat), Yields (exec (.usdoUpload t port client kind idx sub) s) fun w => Only (told ++ [Part.settings, Part.free]) (s.advance t) w)
  ∧ (∀ (s : State) (t : Nat), Yields (exec (.controllerIdClashEnd t) s) fun w => Only (told ++ [Part.clash, Part.stop]) (s.advance t) w)
  ∧ (∀ (s : State) (t : Nat) (slot : Nat), Yields (exec (.keySlotReload t slot) s) fun w => Only (told ++ [Part.settings, Part.keys, Part.comb, Part.radio]) (s.advance t) w)
  ∧ (∀ (s : State) (t : Nat) (c : Caller) (req : Bytes), Yields (exec (.seal t c req) s) fun w => Only (told ++ [Part.clash, Part.health, Part.settings, Part.comb, Part.base, Part.stop, Part.radio, Part.can, Part.fabric, Part.log, Part.free]) (s.advance t) w)
  ∧ (∀ (s : State) (t : Nat) (c : Caller) (req : Bytes), Yields (exec (.unseal t c req) s) fun w => Only (told ++ [Part.clash, Part.health, Part.settings, Part.comb, Part.base, Part.stop, Part.radio, Part.can, Part.fabric, Part.log, Part.free]) (s.advance t) w)
  ∧ (∀ (s : State) (t : Nat) (c : Caller) (req : Bytes), Yields (exec (.forward t c req) s) fun w => Only (told ++ [Part.clash, Part.health, Part.settings, Part.comb, Part.base, Part.stop, Part.radio, Part.can, Part.fabric, Part.log, Part.free]) (s.advance t) w)
  ∧ (∀ (s : State) (t : Nat), Yields (exec (.configCommitRetry t) s) fun w => Only (told ++ [Part.health, Part.settings, Part.comb, Part.track, Part.base, Part.radio, Part.tb, Part.outs, Part.net, Part.can, Part.fabric, Part.log, Part.free]) (s.advance t) w)
  ∧ (∀ (s : State) (t : Nat) (port : Nat) (msg : Bytes), Yields (exec (.boantHeader t port msg) s) fun w => Only (told ++ [Part.boot]) (s.advance t) w)
  ∧ (∀ (s : State) (t : Nat) (port : Nat) (msg : Bytes), Yields (exec (.boantData t port msg) s) fun w => Only (told ++ [Part.boot]) (s.advance t) w)

/-- Each command named, where its write passes the checks, answers a next state that differs from the state at its arrival in
nothing but the parts of the state it lists (and generations, responses and replies). The model's choices in it: log entries 1,
31. -/
def Obligations.FrameCommands : Prop :=
  (∀ (s : State) (t : Nat) (c : Caller), let a := s.advance t
    a.writes c 0x3002 0 [1] = true →
    Yields (exec (.trackCommit t c) s) fun w => Only (told ++ [Part.settings, Part.track]) a w)
  ∧ (∀ (s : State) (t : Nat) (c : Caller), let a := s.advance t
    a.writes c 0x3600 0 [1] = true →
    Yields (exec (.baseCommit t c) s) fun w => Only (told ++ [Part.settings, Part.base]) a w)
  ∧ (∀ (s : State) (t : Nat) (c : Caller), let a := s.advance t
    a.writes c 0x4800 0 [1] = true →
    Yields (exec (.policyCommit t c) s) fun w => Only (told ++ [Part.settings]) a w)
  ∧ (∀ (s : State) (t : Nat) (c : Caller), let a := s.advance t
    a.writes c 0x2440 0 [1] = true →
    Yields (exec (.ptpCommit t c) s) fun w => Only (told ++ [Part.settings, Part.tb, Part.net, Part.log]) a w)
  ∧ (∀ (s : State) (t : Nat) (c : Caller), let a := s.advance t
    a.writes c 0x2830 0 [1] = true →
    Yields (exec (.canTmCommit t c) s) fun w => Only (told ++ [Part.settings, Part.can]) a w)
  ∧ (∀ (s : State) (t : Nat) (c : Caller) (n : Nat), let a := s.advance t
    a.writes c (0x2820 + n) 0 [1] = true → n < 8 →
    Yields (exec (.canPortCommit t c n) s) fun w => Only (told ++ [Part.settings, Part.can]) a w)
  ∧ (∀ (s : State) (t : Nat) (c : Caller), let a := s.advance t
    a.writes c 0x2C00 0 [1] = true →
    Yields (exec (.radioCommit t c) s) fun w => Only (told ++ [Part.settings, Part.radio]) a w)
  ∧ (∀ (s : State) (t : Nat) (c : Caller), let a := s.advance t
    a.writes c 0x4000 0 [1] = true →
    Yields (exec (.siteCommit t c) s) fun w => Only (told ++ [Part.settings, Part.health, Part.comb, Part.fabric, Part.log, Part.free]) a w)
  ∧ (∀ (s : State) (t : Nat) (c : Caller), let a := s.advance t
    a.writes c 0x4040 0 [1] = true →
    Yields (exec (.regionCommit t c) s) fun w => Only (told ++ [Part.settings, Part.health, Part.comb, Part.fabric, Part.log, Part.free]) a w)
  ∧ (∀ (s : State) (t : Nat) (c : Caller) (n : Nat) (v : Nat), let a := s.advance t
    a.writes c 0x1330 (n + 1) (leBytes 4 v) = true →
    Yields (exec (.counterSelect t c n v) s) fun w => Only (told ++ [Part.settings, Part.health]) a w)
  ∧ (∀ (s : State) (t : Nat) (c : Caller), let a := s.advance t
    a.writes c 0x1332 0 [1] = true →
    Yields (exec (.counterSnapshot t c) s) fun w => Only (told ++ [Part.health]) a w)
  ∧ (∀ (s : State) (t : Nat) (c : Caller) (b : Bytes), let a := s.advance t
    a.writes c 0x4840 0 b = true →
    Yields (exec (.stopCommand t c b) s) fun w => Only (told ++ [Part.health, Part.stop, Part.log]) a w)
  ∧ (∀ (s : State) (t : Nat) (c : Caller) (n : Nat), let a := s.advance t
    a.writes c (0x7000 + n) 0x55 [1] = true →
    Yields (exec (.linkEnd t c n) s) fun w => Only (told ++ [Part.conf, Part.stop, Part.radio, Part.log]) a w)
  ∧ (∀ (s : State) (t : Nat) (c : Caller) (n : Nat) (b : Bytes), let a := s.advance t
    a.writes c 0x2400 (n + 1) b = true →
    Yields (exec (.ethPortConfig t c n b) s) fun w => Only (told ++ [Part.settings, Part.tb, Part.net, Part.log]) a w)
  ∧ (∀ (s : State) (t : Nat) (c : Caller) (n : Nat), let a := s.advance t
    a.writes c 0x1301 0 ([4, 8] ++ leBytes 2 n) = true →
    Yields (exec (.resetBlock t c 8 n) s) fun w => Only (told ++ [Part.track, Part.log]) a w)

/-- For each of the 44 commands from TRACK_EPOCH to SWARM_DEADLINE of the table: under conditions on the state and the operands
alone, exec of it answers a next state, and that state has the main effect that the command's rule gives it. Rules: R325, R327,
R328, R329, R334, R335, R341, R346, R351, R360, R361, R362, R380, R381, R390, R394, R398, R400, R401, R413, R414, R427, R440,
R454, R458, R467, R469, R496, R500, R502, R506, R510, R513, R515, R516, R518, R519. The model's choices in it: log entries 20,
21, 22, 23, 42, 48, 50. -/
def Obligations.GnssConformanceComplete : Prop :=
  (∀ (s : State) (t : Nat) (firsts : List Nat) (meas : List ChanMeas), let a := s.advance t
    a.epochDue = true → a.track.mode ≠ 1 →
    ∃ u, Sys2Proof.Machine.exec (.trackEpoch t ⟨firsts, meas⟩) s = .next u ∧ u.track.seq = (a.track.seq + 1) % 65536 ∧ u.track.nominal = some a.nominalNow)
  ∧ (∀ (s : State) (t : Nat) (m : NavUnit) (q : NavNews), let a := s.advance t
    a.up .tracking = true → a.track.mode ≠ 1 →
    ∃ u, Sys2Proof.Machine.exec (.navMessage t m q) s = .next u ∧ u.tb.utc = if m.passed && q.utc.isSome then q.utc else a.tb.utc)
  ∧ (∀ (s : State) (t : Nat) (ch : Nat) (o : LockObs), let a := s.advance t
    a.up .tracking = true → a.feeds (ch / 288) = true →
    ∃ u, Sys2Proof.Machine.exec (.channelLockTransition t ch o) s = .next u ∧ u.chan? ch = (a.chan? ch).map fun c => nextLock (a.takeCorr c o.corr) o a.lockCn0 a.now)
  ∧ (∀ (s : State) (t : Nat) (ch : Nat) (c : Chan), let a := s.advance t
    a.up .tracking = true → a.chan? ch = some c → c.st = .pullIn → c.since + 500 * ms ≤ a.now →
    ∃ u, Sys2Proof.Machine.exec (.pullInTimeout t ch) s = .next u ∧ u.chan? ch = none ∧ ∃ x ∈ u.dev.searches, c.sig ∈ x.sigs)
  ∧ (∀ (s : State) (t : Nat) (ch : Nat) (c : Chan), let a := s.advance t
    a.up .tracking = true → a.chan? ch = some c → c.st = .coast → c.since + sec ≤ a.now →
    ∃ u, Sys2Proof.Machine.exec (.coastTimeout t ch) s = .next u ∧ u.chan? ch = none ∧ ∃ x ∈ u.dev.searches, c.sig ∈ x.sigs)
  ∧ (∀ (s : State) (t : Nat) (ch power : Nat) (x : Sig) (offs : List Int) (k at_ : Nat), let a := s.advance t
    a.up .tracking = true → a.watchOf ch = some (x, offs) → offs ≠ [] → Tbl.get? a.track.watch ch = some (k, at_) → at_ + 100 * ms ≤ a.now →
    ∃ u, Sys2Proof.Machine.exec (.watchDwell t ch power) s = .next u ∧ Tbl.get? u.track.watch ch = some ((k + 1) % offs.length, a.now))
  ∧ (∀ (s : State) (t : Nat) (y z x at_ : Nat), let a := s.advance t
    at_ + 10 * sec ≤ a.now →
    ∃ u, Sys2Proof.Machine.exec (.secondPeakClear t y z x) s = .next u ∧ (⟨y, z, x⟩, at_) ∉ u.track.peaks)
  ∧ (∀ (s : State) (t : Nat) (g counter : Nat) (edges : List GsEdge), let a := s.advance t
    let n := gsCount (a.gsVal g) edges
    s.sized → g < 4 → a.up .tracking = true →
    ∃ u, Sys2Proof.Machine.exec (.agcUpdate t g ⟨edges, counter⟩) s = .next u ∧ (u.port g).share = if n.2 = 0 then 0 else (1000 * n.1 + n.2 / 2) / n.2)
  ∧ (∀ (s : State) (t : Nat) (g q : Nat), let a := s.advance t
    s.sized → g < 4 → (a.port g).quietAt = some q → q + 10 * sec ≤ a.now →
    ∃ u, Sys2Proof.Machine.exec (.gsJamClear t g) s = .next u ∧ (u.port g).jam = false)
  ∧ (∀ (s : State) (t : Nat) (g : Nat), let a := s.advance t
    s.sized → g < 4 → a.up .tracking = true → (a.port g).clock = true →
    ∃ u, Sys2Proof.Machine.exec (.gsClockLost t g) s = .next u ∧ (u.port g).clock = false ∧ u.log = (a.logEv .gsClockLost []).log)
  ∧ (∀ (s : State) (t : Nat) (g : Nat), let a := s.advance t
    s.sized → g < 4 → a.up .tracking = true → (a.port g).clock = false →
    ∃ u, Sys2Proof.Machine.exec (.gsClockBack t g) s = .next u ∧ (u.port g).clock = true ∧ u.log = (a.logEv .gsClockBack []).log)
  ∧ (∀ (s : State) (t : Nat) (g : Nat), let a := s.advance t
    s.sized → g < 4 → a.up .tracking = true → a.feeds g = true →
    ∃ u, Sys2Proof.Machine.exec (.gsGap t g) s = .next u ∧ (u.port g).gap = true ∧ (u.port g).gaps = wrap 32 ((a.port g).gaps + 1))
  ∧ (∀ (s : State) (t : Nat) (c : Caller), let a := s.advance t
    a.writes c 0x3002 0 [1] = true → a.groupCheck 0x3002 = none →
    ∃ u, Sys2Proof.Machine.exec (.trackCommit t c) s = .next u ∧ u.track.due = true ∧ ∀ m ∈ a.groupKeys 0x3002, m.2 ≠ 0 → u.val m.2 = a.val m.1)
  ∧ (∀ (s : State) (t : Nat) (c : Caller), let a := s.advance t
    a.writes c 0x3600 0 [1] = true → a.groupCheck 0x3600 = none →
    ∃ u, Sys2Proof.Machine.exec (.baseCommit t c) s = .next u ∧ u.base.due = true ∧ ∀ m ∈ a.groupKeys 0x3600, m.2 ≠ 0 → u.val m.2 = a.val m.1)
  ∧ (∀ (s : State) (t : Nat) (c : Caller), let a := s.advance t
    a.writes c 0x3000 0 [1] = true → a.stoppedAll = true →
    ∃ u, Sys2Proof.Machine.exec (.trackStandbyEnter t c) s = .next u ∧ u.track.mode = 1 ∧ u.track.chans = [])
  ∧ (∀ (s : State) (t : Nat) (c : Caller), let a := s.advance t
    a.writes c 0x3000 0 [0] = true → a.track.mode ≠ 0 →
    ∃ u, Sys2Proof.Machine.exec (.trackStandbyExit t c) s = .next u ∧ u.track.mode = 0 ∧ u.dev.searches ≠ [])
  ∧ (∀ (s : State) (t : Nat) (pkt : Bytes), let a := s.advance t
    a.up .compute = true → a.sService = true → u pkt 8 2 % 1024 < a.tier → a.gone .developer = false → exposureOk (pkt.drop 16) = true → (Tbl.getD a.dev.seqs (u pkt 8 2 % 1024) []).contains (u (pkt.drop 16) 4 2) = false → a.dev.latents.length < a.latentMax →
    ∃ v, Sys2Proof.Machine.exec (.devExposureArrival t pkt) s = .next v ∧ v.dev.latents = a.dev.latents ++ [⟨u pkt 8 2 % 1024, si pkt 0 8, u pkt 12 4, pkt.drop 16, none⟩])
  ∧ (∀ (s : State) (t : Nat) (i : Nat) (sky : List SkySignal) (x : Latent), let a := s.advance t
    let b := ({ a with dev := { a.dev with sky := sky } } : State)
    let e := b.expSearch x.data sky
    a.up .developer = true → a.dev.latents.findIdx? (fun x => x.started.isNone) = some i → a.dev.latents[i]? = some x → a.holderIs x.slot x.machine = true → a.time64 ≤ x.arrival + (a.cfg 0x3402 0 * ms : Nat) → a.timed = true → 5 ≤ a.freshSignals sky → e.cost ≤ a.machineBudget → (b.spend false e.cost).isSome = true →
    ∃ v, Sys2Proof.Machine.exec (.devExposureStart t sky) s = .next v ∧ v.dev.latents = a.dev.latents.set i { x with started := some e })
  ∧ (∀ (s : State) (t slot i : Nat) (sky : List SatEph) (x : Latent) (e : ExpSearch), let a := s.advance t
    a.up .developer = true → a.dev.latents.findIdx? (fun x => x.slot = slot) = some i → a.dev.latents[i]? = some x → x.started = some e →
    ∃ v, Sys2Proof.Machine.exec (.devResult t slot sky) s = .next v ∧ v.dev.latents = a.dev.latents.eraseIdx i ∧ v.dev.developed = wrap 32 (a.dev.developed + 1))
  ∧ (∀ (s : State) (t : Nat) (i : Nat) (x : OwnSearch), let a := s.advance t
    let cost := fun y : Sig => a.ownCost x.kind y.signal
    let q := takeCost cost a.ownBudget (if x.kind = .cold && x.sigs = [] then a.coldSigs x.antenna else x.sigs)
    a.up .developer = true → a.track.mode ≠ 1 → a.dev.searches.findIdx? (fun x => a.feeds x.group) = some i → a.dev.searches[i]? = some x → q.1 ≠ [] → (a.spend true ((q.1.map cost).sum)).isSome = true →
    ∃ v, Sys2Proof.Machine.exec (.devOwnSearchStart t) s = .next v ∧ ∃ y ∈ v.dev.running, y.sigs = q.1 ∧ y.kind = x.kind)
  ∧ (∀ (s : State) (t : Nat) (cap : Snapshot) (sky : List SatEph) (x : OwnSearch) (rest : List OwnSearch), let a := s.advance t
    a.up .developer = true → a.dev.running = x :: rest →
    ∃ v, Sys2Proof.Machine.exec (.devOwnSearchDone t ⟨cap, sky⟩) s = .next v ∧ v.dev.running = rest)
  ∧ (∀ (s : State) (t : Nat) (sky : List SkySignal), let a := s.advance t
    a.up .developer = true → a.track.mode ≠ 1 →
    ∃ v, Sys2Proof.Machine.exec (.devReacquireTick t sky) s = .next v ∧ v.dev.sky = sky ∧ a.dev.searches <+: v.dev.searches)
  ∧ (∀ (s : State) (t : Nat), let a := s.advance t
    let per : Int := (a.cfg 0x3410 0 * ms : Nat)
    a.up .developer = true → a.track.mode = 1 → a.dev.standby = none → a.dev.period ≠ some (a.time64.fdiv per) →
    ∃ v, Sys2Proof.Machine.exec (.devStandbyExposure t) s = .next v ∧ v.dev.standby.map StandbyExp.at_ = some (a.time64.fdiv per * per) ∧ v.dev.period = some (a.time64.fdiv per))
  ∧ (∀ (s : State) (t : Nat) (cap : Snapshot) (sky : List SatEph) (x : StandbyExp), let a := s.advance t
    a.up .developer = true → a.dev.standby = some x → x.started = true →
    ∃ v, Sys2Proof.Machine.exec (.devStandbyResult t ⟨cap, sky⟩) s = .next v ∧ v.dev.standby = none ∧ v.dev.foundAt = x.taken)
  ∧ (∀ (s : State) (t : Nat) (nominal : Int) (sky : List SatEph), let a := s.advance t
    a.up .fixer = true → a.up .tracking = true → a.track.mode ≠ 1 → a.track.nominal = some nominal → a.base.epochs.head?.map BaseEp.nominal ≠ some nominal → a.base.netEpoch ≠ some nominal → a.base.survey = none →
    ∃ u, Sys2Proof.Machine.exec (.baseEpoch t ⟨nominal, sky⟩) s = .next u ∧ u.base.epochs.head?.map BaseEp.nominal = some nominal)
  ∧ (∀ (s : State) (t : Nat) (c : Caller), let a := s.advance t
    a.writes c 0x3620 0 [1] = true → a.base.survey = none → (a.base.st ≠ 2 ∧ a.base.st ≠ 3) ∨ a.stoppedAll = true →
    ∃ u, Sys2Proof.Machine.exec (.surveyStartStandalone t c) s = .next u ∧ u.base.survey = some (Survey.start false) ∧ u.base.st = 1)
  ∧ (∀ (s : State) (t : Nat) (c : Caller), let a := s.advance t
    a.writes c 0x3620 0 [2] = true → a.base.survey = none → (a.base.st ≠ 2 ∧ a.base.st ≠ 3) ∨ a.stoppedAll = true → a.netState = 2 ∨ a.netState = 3 →
    ∃ u, Sys2Proof.Machine.exec (.surveyStartNetwork t c) s = .next u ∧ u.base.survey = some (Survey.start true) ∧ u.base.st = 1)
  ∧ (∀ (s : State) (t : Nat) (c : Caller), let a := s.advance t
    a.writes c 0x3620 0 [0] = true → a.base.survey.isSome = true →
    ∃ u, Sys2Proof.Machine.exec (.surveyAbandon t c) s = .next u ∧ u.base.survey = none ∧ u.base.st = if a.refSource = 0 then 0 else 4)
  ∧ (∀ (s : State) (t : Nat) (c : Caller) (req : Bytes), let a := s.advance t
    a.requests c 0x3640 req = true →
    ∃ v, Sys2Proof.Machine.exec (.baseNetPort t c req) s = .next v ∧ v.base.netAny = (a.base.netAny || (rtcmFrames 512 req).any fun f => a.frameFault f.1 f.2 = 0))
  ∧ (∀ (s : State) (t : Nat) (pkt : Bytes), let a := s.advance t
    a.up .compute = true → a.obsCheck (u pkt 8 2 % 1024) (pkt.drop 16) = none →
    ∃ v, Sys2Proof.Machine.exec (.roverObsArrival t pkt) s = .next v ∧ v.rover.epochs = a.rover.epochs ++ [⟨u pkt 8 2 % 1024, u pkt 12 4, si pkt 0 8, pkt.drop 16, .waiting⟩])
  ∧ (∀ (s : State) (t : Nat) (i : Nat) (x : RoverEpoch), let a := s.advance t
    a.up .fixer = true → a.rover.epochs.findIdx? (fun x => x.phase = .waiting) = some i → a.rover.epochs[i]? = some x → (if 49 ≤ u x.data 2 1 then 2 else 1) * 1000000000 ≤ (a.rover.budget.fill a.roverRate a.now).level → a.rover.flying < a.roverFlights → (∀ y ∈ a.rover.epochs, y.slot = x.slot → y.phase ≠ .flying) → a.holderIs x.slot x.machine = true → a.time64 ≤ x.arrival + (a.cfg 0x3803 0 * ms : Nat) → a.hasBase (si x.data 8 8) = true →
    ∃ v, Sys2Proof.Machine.exec (.roverEpochStart t) s = .next v ∧ v.rover.epochs = a.rover.epochs.set i { x with phase := .flying })
  ∧ (∀ (s : State) (t slot i n : Nat) (sky : List SatEph) (x : RoverEpoch) (rest : List Nat), let a := s.advance t
    a.up .fixer = true → a.rover.epochs.findIdx? (fun x => x.slot = slot && x.phase = .flying) = some i → a.rover.epochs[i]? = some x → a.rover.spares = n :: rest →
    ∃ v, Sys2Proof.Machine.exec (.roverEpochDone t slot sky) s = .next v ∧ v.rover.pointer slot = n ∧ (v.rover.block slot).map RoverBlock.t = some (si x.data 8 8))
  ∧ (∀ (s : State) (t slot : Nat) (c : Caller), let a := s.advance t
    slot < 1024 → a.writes c (0x7000 + slot) 0x32 [1] = true →
    ∃ u, Sys2Proof.Machine.exec (.roverReset t c slot) s = .next u ∧ (u.roverSlot slot).again = true)
  ∧ (∀ (s : State) (t m i : Nat) (tf e n ee nn en : Int) (status : Nat), let a := s.advance t
    a.up .comb = true → a.conf.ops.findIdx? (fun y => y.1 = m) = some i → a.conf.ops[i]? = some (m, .fix tf e n ee nn en status) → a.monitored m = true →
    ∃ v, Sys2Proof.Machine.exec (.confFix t m) s = .next v ∧ v.conf.ops = a.conf.ops.eraseIdx i ∧ slice (v.confSlot m).verdict 8 2 = leBytes 2 m ∧ slice (v.confSlot m).verdict 11 1 = [0])
  ∧ (∀ (s : State) (t m i : Nat) (b : RepPos), let a := s.advance t
    a.up .comb = true → a.conf.ops.findIdx? (fun y => y.1 = m) = some i → a.conf.ops[i]? = some (m, .reported b) → a.monitored m = true →
    ∃ v, Sys2Proof.Machine.exec (.confReported t m) s = .next v ∧ v.conf.ops = a.conf.ops.eraseIdx i ∧ slice (v.confSlot m).verdict 8 2 = leBytes 2 m ∧ slice (v.confSlot m).verdict 11 1 = [1])
  ∧ (∀ (s : State) (t m i : Nat) (tf : Int) (pos : V3) (sg st : Nat), let a := s.advance t
    a.up .comb = true → a.conf.ops.findIdx? (fun y => y.1 = m) = some i → a.conf.ops[i]? = some (m, .developed tf pos sg st) → a.monitored m = true →
    ∃ v, Sys2Proof.Machine.exec (.confDeveloped t m) s = .next v ∧ v.conf.ops = a.conf.ops.eraseIdx i ∧ slice (v.confSlot m).verdict 8 2 = leBytes 2 m ∧ slice (v.confSlot m).verdict 11 1 = [2])
  ∧ (∀ (s : State) (t m i : Nat) (fixed : Bool), let a := s.advance t
    a.up .comb = true → a.conf.ops.findIdx? (fun y => y.1 = m) = some i → a.conf.ops[i]? = some (m, .notice fixed) → a.monitored m = true →
    ∃ v, Sys2Proof.Machine.exec (.confResultNotice t m) s = .next v ∧ v.conf.ops = a.conf.ops.eraseIdx i ∧ slice (v.confSlot m).verdict 8 2 = leBytes 2 m ∧ slice (v.confSlot m).verdict 11 1 = [4])
  ∧ (∀ (s : State) (t m : Nat) (x : ConfSlot), let a := s.advance t
    a.up .comb = true → a.conf.slots = [(m, x)] → a.monitored m = true → (∀ k < 3, a.kindStale m k = false) →
    ∃ v, Sys2Proof.Machine.exec (.confFreshnessTick t) s = .next v ∧ ∀ row < 10, nth (v.confSlot m).counters row = if 3 ≤ row ∧ row ≤ 5 then 0 else nth x.counters row)
  ∧ (∀ (s : State) (t : Nat), let a := s.advance t
    a.up .comb = true → a.cfg 0x480C 0 ≤ a.quality → a.base.st = 2 → a.conf.rows.length = 10 →
    ∃ v, Sys2Proof.Machine.exec (.confDeviceTick t) s = .next v ∧ nth v.conf.rows 7 = 0 ∧ nth v.conf.rows 9 = 0)
  ∧ (∀ (s : State) (t : Nat) (c : Caller), let a := s.advance t
    a.writes c 0x4800 0 [1] = true → a.groupCheck 0x4800 = none →
    ∃ u, Sys2Proof.Machine.exec (.policyCommit t c) s = .next u ∧ ∀ m ∈ a.groupKeys 0x4800, m.2 ≠ 0 → u.val m.2 = a.val m.1)
  ∧ (∀ (s : State) (t : Nat) (c : Caller) (v : Bytes), let a := s.advance t
    a.writes c 0x4821 0 v = true → a.conf.swarm = none → u v 0 1 ≤ 7 → allZero (slice v 1 7) = true → a.time64 + (200 * ms : Nat) ≤ si v 8 8 → si v 8 8 ≤ a.time64 + (3600 * sec : Nat) → si v 8 8 ≤ si v 16 8 → si v 16 8 ≤ si v 8 8 + (600 * sec : Nat) →
    ∃ w, Sys2Proof.Machine.exec (.swarmCommand t c v) s = .next w ∧ w.conf.swarm = some ⟨u v 0 1, si v 8 8, si v 16 8, false⟩)
  ∧ (∀ (s : State) (t : Nat) (c : Caller) (v : Bytes) (x : Swarm), let a := s.advance t
    a.writes c 0x4821 0 (byte 0xFF :: v.drop 1) = true → allZero (slice v 1 7) = true → a.conf.swarm = some x → a.time64 < x.instant →
    ∃ w, Sys2Proof.Machine.exec (.swarmCancel t c v) s = .next w ∧ w.conf.swarm = none)
  ∧ (∀ (s : State) (t : Nat) (w : Swarm), let a := s.advance t
    a.up .comb = true → a.conf.swarm = some w → w.applied = false → w.instant ≤ a.time64 → w.mode < 256 →
    ∃ v, Sys2Proof.Machine.exec (.swarmInstant t) s = .next v ∧ v.cfg 0x4820 0 = w.mode)
  ∧ (∀ (s : State) (t : Nat) (w : Swarm), let a := s.advance t
    a.up .comb = true → a.conf.swarm = some w → w.applied = true → w.deadline ≤ a.time64 →
    ∃ v, Sys2Proof.Machine.exec (.swarmDeadline t) s = .next v ∧ v.conf.swarm = none ∧ v.conf.past = some (w.mode, w.instant))
end

