-- ==== Sys2Proof/Laws/State.lean ====
section
/-!
SUPPORT. What one update of the state leaves alone: one lemma per part, and the laws of `Only`.
-/

namespace Sys2Proof.Machine

/-! ### Only -/

theorem Only.refl (ps : List Part) (a : State) : Only ps a a := fun p _ => by cases p <;> first | rfl | exact ⟨rfl, rfl⟩

theorem Part.same_trans {p : Part} {a b c : State} (h : p.same a b) (k : p.same b c) : p.same a c := by
  cases p <;> first | exact Eq.trans k h | exact ⟨k.1.trans h.1, k.2.trans h.2⟩

theorem Only.trans {ps : List Part} {a b c : State} (h : Only ps a b) (k : Only ps b c) : Only ps a c :=
  fun p hp => Part.same_trans (h p hp) (k p hp)

theorem Only.mono {ps qs : List Part} {a b : State} (h : Only ps a b) (k : ∀ p, p ∈ ps → p ∈ qs) : Only qs a b :=
  fun p hp => h p fun q => hp (k p q)

theorem Part.same_refl (p : Part) (a : State) : p.same a a := by cases p <;> first | rfl | exact ⟨rfl, rfl⟩

/-- A meaning of the shape every meaning has yields what its run makes. -/
theorem Yields.next {s : State} {P : State → Prop} (h : P s) : Yields (.next s) P := ⟨s, rfl, h⟩

/-! ### One update -/

@[simp] theorem same_now {p : Part} (h : ¬ p = .now) (a s : State) (x : Nat) : p.same a { s with now := x } ↔ p.same a s := by
  cases p <;> first | exact Iff.rfl | exact absurd rfl h

@[simp] theorem same_silicon {p : Part} (h : ¬ p = .silicon) (a s : State) (x : Silicon) : p.same a { s with silicon := x } ↔ p.same a s := by
  cases p <;> first | exact Iff.rfl | exact absurd rfl h

@[simp] theorem same_cap {p : Part} (h : ¬ p = .cap) (a s : State) (x : Nat) : p.same a { s with cap := x } ↔ p.same a s := by
  cases p <;> first | exact Iff.rfl | exact absurd rfl h

@[simp] theorem same_clash {p : Part} (h : ¬ p = .clash) (a s : State) (x : Option Clash) : p.same a { s with clash := x } ↔ p.same a s := by
  cases p <;> first | exact Iff.rfl | exact absurd rfl h

@[simp] theorem same_islands {p : Part} (h : ¬ p = .islands) (a s : State) (x : List IslandRec) : p.same a { s with islands := x } ↔ p.same a s := by
  cases p <;> first | exact Iff.rfl | exact absurd rfl h

@[simp] theorem same_resets {p : Part} (h : ¬ p = .resets) (a s : State) (x : Resets) : p.same a { s with resets := x } ↔ p.same a s := by
  cases p <;> first | exact Iff.rfl | exact absurd rfl h

@[simp] theorem same_health {p : Part} (h : ¬ p = .health) (a s : State) (x : Health) : p.same a { s with health := x } ↔ p.same a s := by
  cases p <;> first | exact Iff.rfl | exact absurd rfl h

@[simp] theorem same_dict {p : Part} (h : ¬ p = .dict) (a s : State) (x : Dict) : p.same a { s with dict := x } ↔ p.same a s := by
  cases p <;> first | exact Iff.rfl | exact absurd rfl h

@[simp] theorem same_settings {p : Part} (h : ¬ p = .settings) (a s : State) (x : Settings) : p.same a { s with settings := x } ↔ p.same a s := by
  cases p <;> first | exact Iff.rfl | exact absurd rfl h

@[simp] theorem same_keys {p : Part} (h : ¬ p = .keys) (a s : State) (x : Keyring) : p.same a { s with keys := x } ↔ p.same a s := by
  cases p <;> first | exact Iff.rfl | exact absurd rfl h

@[simp] theorem same_flash {p : Part} (h : ¬ p = .flash) (a s : State) (x : Flash) : p.same a { s with flash := x } ↔ p.same a s := by
  cases p <;> first | exact Iff.rfl | exact absurd rfl h

@[simp] theorem same_boot {p : Part} (h : ¬ p = .boot) (a s : State) (x : Boot) : p.same a { s with boot := x } ↔ p.same a s := by
  cases p <;> first | exact Iff.rfl | exact absurd rfl h

@[simp] theorem same_comb {p : Part} (h : ¬ p = .comb) (a s : State) (x : Comb) : p.same a { s with comb := x } ↔ p.same a s := by
  cases p <;> first | exact Iff.rfl | exact absurd rfl h

@[simp] theorem same_track {p : Part} (h : ¬ p = .track) (a s : State) (x : Tracking) : p.same a { s with track := x } ↔ p.same a s := by
  cases p <;> first | exact Iff.rfl | exact absurd rfl h

@[simp] theorem same_dev {p : Part} (h : ¬ p = .dev) (a s : State) (x : Developer) : p.same a { s with dev := x } ↔ p.same a s := by
  cases p <;> first | exact Iff.rfl | exact absurd rfl h

@[simp] theorem same_base {p : Part} (h : ¬ p = .base) (a s : State) (x : Base) : p.same a { s with base := x } ↔ p.same a s := by
  cases p <;> first | exact Iff.rfl | exact absurd rfl h

@[simp] theorem same_rover {p : Part} (h : ¬ p = .rover) (a s : State) (x : Rover) : p.same a { s with rover := x } ↔ p.same a s := by
  cases p <;> first | exact Iff.rfl | exact absurd rfl h

@[simp] theorem same_conf {p : Part} (h : ¬ p = .conf) (a s : State) (x : Conf) : p.same a { s with conf := x } ↔ p.same a s := by
  cases p <;> first | exact Iff.rfl | exact absurd rfl h

@[simp] theorem same_stop {p : Part} (h : ¬ p = .stop) (a s : State) (x : StopBath) : p.same a { s with stop := x } ↔ p.same a s := by
  cases p <;> first | exact Iff.rfl | exact absurd rfl h

@[simp] theorem same_radio {p : Part} (h : ¬ p = .radio) (a s : State) (x : Radio) : p.same a { s with radio := x } ↔ p.same a s := by
  cases p <;> first | exact Iff.rfl | exact absurd rfl h

@[simp] theorem same_tb {p : Part} (h : ¬ p = .tb) (a s : State) (x : Timebase) : p.same a { s with tb := x } ↔ p.same a s := by
  cases p <;> first | exact Iff.rfl | exact absurd rfl h

@[simp] theorem same_outs {p : Part} (h : ¬ p = .outs) (a s : State) (x : List TimeOut) : p.same a { s with outs := x } ↔ p.same a s := by
  cases p <;> first | exact Iff.rfl | exact absurd rfl h

@[simp] theorem same_caps {p : Part} (h : ¬ p = .caps) (a s : State) (x : List Capture) : p.same a { s with caps := x } ↔ p.same a s := by
  cases p <;> first | exact Iff.rfl | exact absurd rfl h

@[simp] theorem same_net {p : Part} (h : ¬ p = .net) (a s : State) (x : Net) : p.same a { s with net := x } ↔ p.same a s := by
  cases p <;> first | exact Iff.rfl | exact absurd rfl h

@[simp] theorem same_can {p : Part} (h : ¬ p = .can) (a s : State) (x : Can) : p.same a { s with can := x } ↔ p.same a s := by
  cases p <;> first | exact Iff.rfl | exact absurd rfl h

@[simp] theorem same_fabric {p : Part} (h : ¬ p = .fabric) (h' : ¬ p = .replies) (a s : State) (x : Fabric) : p.same a { s with fabric := x } ↔ p.same a s := by
  cases p <;> first | exact Iff.rfl | exact absurd rfl h | exact absurd rfl h'

@[simp] theorem same_dram {p : Part} (h : ¬ p = .dram) (a s : State) (x : List Host.Cell) : p.same a { s with dram := x } ↔ p.same a s := by
  cases p <;> first | exact Iff.rfl | exact absurd rfl h

@[simp] theorem same_log {p : Part} (h : ¬ p = .log) (a s : State) (x : Logbook) : p.same a { s with log := x } ↔ p.same a s := by
  cases p <;> first | exact Iff.rfl | exact absurd rfl h

@[simp] theorem same_out {p : Part} (h : ¬ p = .out) (a s : State) (x : List Out) : p.same a { s with out := x } ↔ p.same a s := by
  cases p <;> first | exact Iff.rfl | exact absurd rfl h

@[simp] theorem same_free {p : Part} (h : ¬ p = .free) (a s : State) (x : Nat) : p.same a { s with free := x } ↔ p.same a s := by
  cases p <;> first | exact Iff.rfl | exact absurd rfl h

@[simp] theorem same_pending {p : Part} (h : ¬ p = .pending) (a s : State) (x : List Instr) : p.same a { s with pending := x } ↔ p.same a s := by
  cases p <;> first | exact Iff.rfl | exact absurd rfl h

@[simp] theorem same_foldl {α : Type} {p : Part} (a s : State) (f : State → α → State) (l : List α) (h : ∀ s x, p.same a (f s x) ↔ p.same a s) : p.same a (l.foldl f s) ↔ p.same a s := by
  induction l generalizing s with
  | nil => rfl
  | cons x l ih => exact (ih _).trans (h _ _)

@[simp] theorem same_repeat {p : Part} (a s : State) (f : State → State) (n : Nat) (h : ∀ s, p.same a (f s) ↔ p.same a s) : p.same a (Nat.repeat f n s) ↔ p.same a s := by
  induction n with
  | zero => rfl
  | succ n ih => exact (h _).trans ih

@[simp] theorem same_ite {p : Part} (a x y : State) (c : Prop) [Decidable c] : p.same a (if c then x else y) ↔ (if c then p.same a x else p.same a y) := by
  split <;> rfl


@[simp] theorem same_tb_outs_caps {p : Part} (h0 : ¬ p = .tb) (h1 : ¬ p = .outs) (h2 : ¬ p = .caps) (a s : State) (x0 : Timebase) (x1 : List TimeOut) (x2 : List Capture) : p.same a { s with tb := x0, outs := x1, caps := x2 } ↔ p.same a s := by
  cases p <;> first | exact Iff.rfl | exact absurd rfl h0 | exact absurd rfl h1 | exact absurd rfl h2

@[simp] theorem same_health_stop {p : Part} (h0 : ¬ p = .health) (h1 : ¬ p = .stop) (a s : State) (x0 : Health) (x1 : StopBath) : p.same a { s with health := x0, stop := x1 } ↔ p.same a s := by
  cases p <;> first | exact Iff.rfl | exact absurd rfl h0 | exact absurd rfl h1

@[simp] theorem same_dict_comb_stop_fabric {p : Part} (h0 : ¬ p = .dict) (h1 : ¬ p = .comb) (h2 : ¬ p = .stop) (h3 : ¬ p = .fabric) (h4 : ¬ p = .replies) (a s : State) (x0 : Dict) (x1 : Comb) (x2 : StopBath) (x3 : Fabric) : p.same a { s with dict := x0, comb := x1, stop := x2, fabric := x3 } ↔ p.same a s := by
  cases p <;> first | exact Iff.rfl | exact absurd rfl h0 | exact absurd rfl h1 | exact absurd rfl h2 | exact absurd rfl h3 | exact absurd rfl h4

@[simp] theorem same_comb_stop {p : Part} (h0 : ¬ p = .comb) (h1 : ¬ p = .stop) (a s : State) (x0 : Comb) (x1 : StopBath) : p.same a { s with comb := x0, stop := x1 } ↔ p.same a s := by
  cases p <;> first | exact Iff.rfl | exact absurd rfl h0 | exact absurd rfl h1

@[simp] theorem same_dict_settings {p : Part} (h0 : ¬ p = .dict) (h1 : ¬ p = .settings) (a s : State) (x0 : Dict) (x1 : Settings) : p.same a { s with dict := x0, settings := x1 } ↔ p.same a s := by
  cases p <;> first | exact Iff.rfl | exact absurd rfl h0 | exact absurd rfl h1

@[simp] theorem same_dict_boot {p : Part} (h0 : ¬ p = .dict) (h1 : ¬ p = .boot) (a s : State) (x0 : Dict) (x1 : Boot) : p.same a { s with dict := x0, boot := x1 } ↔ p.same a s := by
  cases p <;> first | exact Iff.rfl | exact absurd rfl h0 | exact absurd rfl h1

@[simp] theorem same_tb_outs {p : Part} (h0 : ¬ p = .tb) (h1 : ¬ p = .outs) (a s : State) (x0 : Timebase) (x1 : List TimeOut) : p.same a { s with tb := x0, outs := x1 } ↔ p.same a s := by
  cases p <;> first | exact Iff.rfl | exact absurd rfl h0 | exact absurd rfl h1

@[simp] theorem same_track_tb_outs {p : Part} (h0 : ¬ p = .track) (h1 : ¬ p = .tb) (h2 : ¬ p = .outs) (a s : State) (x0 : Tracking) (x1 : Timebase) (x2 : List TimeOut) : p.same a { s with track := x0, tb := x1, outs := x2 } ↔ p.same a s := by
  cases p <;> first | exact Iff.rfl | exact absurd rfl h0 | exact absurd rfl h1 | exact absurd rfl h2

@[simp] theorem same_stop_radio {p : Part} (h0 : ¬ p = .stop) (h1 : ¬ p = .radio) (a s : State) (x0 : StopBath) (x1 : Radio) : p.same a { s with stop := x0, radio := x1 } ↔ p.same a s := by
  cases p <;> first | exact Iff.rfl | exact absurd rfl h0 | exact absurd rfl h1

@[simp] theorem same_settings_boot {p : Part} (h0 : ¬ p = .settings) (h1 : ¬ p = .boot) (a s : State) (x0 : Settings) (x1 : Boot) : p.same a { s with settings := x0, boot := x1 } ↔ p.same a s := by
  cases p <;> first | exact Iff.rfl | exact absurd rfl h0 | exact absurd rfl h1

@[simp] theorem same_boot_fabric {p : Part} (h0 : ¬ p = .boot) (h1 : ¬ p = .fabric) (h2 : ¬ p = .replies) (a s : State) (x0 : Boot) (x1 : Fabric) : p.same a { s with boot := x0, fabric := x1 } ↔ p.same a s := by
  cases p <;> first | exact Iff.rfl | exact absurd rfl h0 | exact absurd rfl h1 | exact absurd rfl h2

@[simp] theorem same_islands_health {p : Part} (h0 : ¬ p = .islands) (h1 : ¬ p = .health) (a s : State) (x0 : List IslandRec) (x1 : Health) : p.same a { s with islands := x0, health := x1 } ↔ p.same a s := by
  cases p <;> first | exact Iff.rfl | exact absurd rfl h0 | exact absurd rfl h1

@[simp] theorem same_stop_fabric {p : Part} (h0 : ¬ p = .stop) (h1 : ¬ p = .fabric) (h2 : ¬ p = .replies) (a s : State) (x0 : StopBath) (x1 : Fabric) : p.same a { s with stop := x0, fabric := x1 } ↔ p.same a s := by
  cases p <;> first | exact Iff.rfl | exact absurd rfl h0 | exact absurd rfl h1 | exact absurd rfl h2

@[simp] theorem same_dict_comb {p : Part} (h0 : ¬ p = .dict) (h1 : ¬ p = .comb) (a s : State) (x0 : Dict) (x1 : Comb) : p.same a { s with dict := x0, comb := x1 } ↔ p.same a s := by
  cases p <;> first | exact Iff.rfl | exact absurd rfl h0 | exact absurd rfl h1

@[simp] theorem same_clash_health_stop {p : Part} (h0 : ¬ p = .clash) (h1 : ¬ p = .health) (h2 : ¬ p = .stop) (a s : State) (x0 : Option Clash) (x1 : Health) (x2 : StopBath) : p.same a { s with clash := x0, health := x1, stop := x2 } ↔ p.same a s := by
  cases p <;> first | exact Iff.rfl | exact absurd rfl h0 | exact absurd rfl h1 | exact absurd rfl h2

@[simp] theorem same_dict_settings_boot {p : Part} (h0 : ¬ p = .dict) (h1 : ¬ p = .settings) (h2 : ¬ p = .boot) (a s : State) (x0 : Dict) (x1 : Settings) (x2 : Boot) : p.same a { s with dict := x0, settings := x1, boot := x2 } ↔ p.same a s := by
  cases p <;> first | exact Iff.rfl | exact absurd rfl h0 | exact absurd rfl h1 | exact absurd rfl h2

theorem same_foldl_fst {α β : Type} {p : Part} (a : State) (f : State × β → α → State × β) (l : List α) (z : State × β)
    (h : ∀ z x, p.same a (f z x).1 ↔ p.same a z.1) : p.same a (l.foldl f z).1 ↔ p.same a z.1 := by
  induction l generalizing z with
  | nil => rfl
  | cons x l ih => exact (ih _).trans (h _ _)


theorem same_replies {p : Part} (h : ¬ p = .replies) (a s : State) (x : List AppletReq) (y : List AppletReply) :
    p.same a { s with fabric := { s.fabric with reqs := x, replies := y } } ↔ p.same a s := by
  cases p <;> first | exact Iff.rfl | exact absurd rfl h

theorem same_now_silicon_pending {p : Part} (h0 : ¬ p = .now) (h1 : ¬ p = .silicon) (h2 : ¬ p = .pending) (a s : State) (x : Nat) (y : Silicon)
    (z : List Instr) : p.same a { s with now := x, silicon := y, pending := z } ↔ p.same a s := by
  cases p <;> first | exact Iff.rfl | exact absurd rfl h0 | exact absurd rfl h1 | exact absurd rfl h2


end Sys2Proof.Machine
end

