-- ==== Sys2Proof/Laws/Ops.lean ====
section
/-!
SUPPORT. What each operation of the named operations can move: every part but those it names is as it was.
-/

namespace Sys2Proof.Machine

theorem State.offer_same {pt : Part} (h0 : ¬ pt = .log) (a₀ : State) (s : State) (e : LogEv) : pt.same a₀ (State.offer s e) ↔ pt.same a₀ s := by
  unfold State.offer
  (repeat' split) <;> simp [h0]

theorem State.logEv_same {pt : Part} (h0 : ¬ pt = .log) (a₀ : State) (s : State) (ev : Ev) (params : Bytes) : pt.same a₀ (State.logEv s ev params) ↔ pt.same a₀ s := by
  unfold State.logEv
  (repeat' split) <;> simp [h0, State.offer_same]

theorem State.count_same {pt : Part} (h0 : ¬ pt = .health) (a₀ : State) (s : State) (source : Nat) (param : Nat) (n : Nat) : pt.same a₀ (State.count s source param n) ↔ pt.same a₀ s := by
  unfold State.count
  (repeat' split) <;> simp [h0]

theorem State.emit_same {pt : Part} (h0 : ¬ pt = .out) (a₀ : State) (s : State) (o : Out) : pt.same a₀ (State.emit s o) ↔ pt.same a₀ s := by
  unfold State.emit
  (repeat' split) <;> simp [h0]

theorem State.timeMark_same {pt : Part} (h0 : ¬ pt = .log) (a₀ : State) (s : State) : pt.same a₀ (State.timeMark s) ↔ pt.same a₀ s := by
  unfold State.timeMark
  (repeat' split) <;> simp [h0, State.logEv_same]

theorem State.setVal_same {pt : Part} (h0 : ¬ pt = .settings) (a₀ : State) (s : State) (k : Nat) (v : Bytes) : pt.same a₀ (State.setVal s k v) ↔ pt.same a₀ s := by
  unfold State.setVal
  (repeat' split) <;> simp [h0]

theorem State.setIsl_same {pt : Part} (h0 : ¬ pt = .islands) (a₀ : State) (s : State) (i : Island) (f : IslandRec → IslandRec) : pt.same a₀ (State.setIsl s i f) ↔ pt.same a₀ s := by
  unfold State.setIsl
  (repeat' split) <;> simp [h0]

theorem State.draw_same {pt : Part} (h0 : ¬ pt = .free) (a₀ : State) (s : State) : pt.same a₀ (State.draw s).1 ↔ pt.same a₀ s := by
  unfold State.draw
  (repeat' split) <;> simp [h0]

theorem State.drawBytes_same {pt : Part} (h0 : ¬ pt = .free) (a₀ : State) (s : State) (n : Nat) : pt.same a₀ (State.drawBytes s n).1 ↔ pt.same a₀ s := by
  unfold State.drawBytes
  (repeat' split) <;> simp [h0]

end Sys2Proof.Machine
end

