-- ==== Sys2Proof/Laws/Queues.lean ====
section
/-!
SUPPORT. What each operation of queues and descriptors can move: every part but those it names is as it was.
-/

namespace Sys2Proof.Machine

theorem State.decr_same {pt : Part} (h0 : ¬ pt = .fabric) (h1 : ¬ pt = .replies) (h2 : ¬ pt = .log) (a₀ : State) (s : State) (d : Nat) : pt.same a₀ (State.decr s d) ↔ pt.same a₀ s := by
  unfold State.decr
  (repeat' split) <;> simp [h0, h1, h2, State.logEv_same]

theorem State.decrN_same {pt : Part} (h0 : ¬ pt = .fabric) (h1 : ¬ pt = .replies) (h2 : ¬ pt = .log) (a₀ : State) (s : State) (d : Nat) (xs : Nat) : pt.same a₀ (State.decrN s d xs) ↔ pt.same a₀ s := by
  induction xs generalizing s with
  | zero => rfl
  | succ n ih => unfold State.decrN; rw [ih]; simp [h0, h1, h2, State.decr_same]

theorem State.setPkts_same {pt : Part} (h0 : ¬ pt = .fabric) (h1 : ¬ pt = .replies) (h2 : ¬ pt = .log) (a₀ : State) (s : State) (q : Nat) (pkts : List Pkt) : pt.same a₀ (State.setPkts s q pkts) ↔ pt.same a₀ s := by
  unfold State.setPkts
  simp; (repeat' split) <;> simp [h0, h1, h2, State.decrN_same]

theorem State.abandonOpen_same {pt : Part} (h0 : ¬ pt = .fabric) (h1 : ¬ pt = .replies) (a₀ : State) (s : State) : pt.same a₀ (State.abandonOpen s) ↔ pt.same a₀ s := by
  unfold State.abandonOpen
  (repeat' split) <;> simp [h0, h1]

theorem State.post?_same {pt : Part} (h0 : ¬ pt = .health) (h1 : ¬ pt = .fabric) (h2 : ¬ pt = .replies) (h3 : ¬ pt = .log) (a₀ : State) (s : State) (q : Nat) (data : Bytes) {s' : State} (h : s.post? q data = some s') : pt.same a₀ s' ↔ pt.same a₀ s := by
  unfold State.post? at h
  simp only [] at h
  split at h
  · cases h; simp [h0, h1, h2, h3, State.count_same, State.setPkts_same]
  · cases h

theorem State.post_same {pt : Part} (h0 : ¬ pt = .health) (h1 : ¬ pt = .fabric) (h2 : ¬ pt = .replies) (h3 : ¬ pt = .log) (a₀ : State) (s : State) (q : Nat) (data : Bytes) : pt.same a₀ (State.post s q data) ↔ pt.same a₀ s := by
  unfold State.post
  cases e : s.post? q data with
  | none => rfl
  | some s' => exact State.post?_same (by assumption) (by assumption) (by assumption) (by assumption) a₀ s q data e

theorem State.discardHart_same {pt : Part} (h0 : ¬ pt = .health) (h1 : ¬ pt = .fabric) (h2 : ¬ pt = .replies) (h3 : ¬ pt = .log) (a₀ : State) (s : State) (h : Nat) (outcome : Nat) : pt.same a₀ (State.discardHart s h outcome) ↔ pt.same a₀ s := by
  unfold State.discardHart
  (repeat' split) <;> simp [h0, h1, h2, h3, State.post_same]

theorem State.discardAll_same {pt : Part} (h0 : ¬ pt = .health) (h1 : ¬ pt = .fabric) (h2 : ¬ pt = .replies) (h3 : ¬ pt = .log) (a₀ : State) (s : State) (outcome : Nat) : pt.same a₀ (State.discardAll s outcome) ↔ pt.same a₀ s := by
  unfold State.discardAll
  (repeat' split) <;> simp [h0, h1, h2, h3, State.discardHart_same]

theorem State.wakeAll_same {pt : Part} (h0 : ¬ pt = .fabric) (h1 : ¬ pt = .replies) (h2 : ¬ pt = .out) (a₀ : State) (s : State) (wake : Nat) : pt.same a₀ (State.wakeAll s wake) ↔ pt.same a₀ s := by
  unfold State.wakeAll
  (repeat' split) <;> simp [h0, h1, h2, State.emit_same]

theorem State.completeTask_same {pt : Part} (h0 : ¬ pt = .fabric) (h1 : ¬ pt = .replies) (h2 : ¬ pt = .log) (a₀ : State) (s : State) (d : Nat) (outcome : Nat) : pt.same a₀ (State.completeTask s d outcome) ↔ pt.same a₀ s := by
  unfold State.completeTask
  (repeat' split) <;> simp [h0, h1, h2, State.decr_same]

theorem State.completeHart_same {pt : Part} (h0 : ¬ pt = .fabric) (h1 : ¬ pt = .replies) (h2 : ¬ pt = .log) (a₀ : State) (s : State) (h : Nat) (outcome : Nat) : pt.same a₀ (State.completeHart s h outcome) ↔ pt.same a₀ s := by
  unfold State.completeHart
  (repeat' split) <;> simp [h0, h1, h2, State.completeTask_same]

end Sys2Proof.Machine
end

