-- ==== Sys2Proof/Laws/Reply.lean ====
section
/-!
SUPPORT. What each operation of answers and responses can move: every part but those it names is as it was.
-/

namespace Sys2Proof.Machine

theorem State.setSession_same {pt : Part} (h0 : ¬ pt = .dict) (a₀ : State) (s : State) (i : Nat) (f : Session → Session) : pt.same a₀ (State.setSession s i f) ↔ pt.same a₀ s := by
  unfold State.setSession
  (repeat' split) <;> simp [h0]

theorem State.setApplet_same {pt : Part} (h0 : ¬ pt = .dict) (a₀ : State) (s : State) (f : Session → Session) : pt.same a₀ (State.setApplet s f) ↔ pt.same a₀ s := by
  unfold State.setApplet
  (repeat' split) <;> simp [h0]

theorem State.answer_same {pt : Part} (h0 : ¬ pt = .dict) (h1 : ¬ pt = .out) (a₀ : State) (s : State) (c : Caller) (a : Ans) : pt.same a₀ (State.answer s c a) ↔ pt.same a₀ s := by
  unfold State.answer
  (repeat' split) <;> simp [h0, h1, State.setSession_same, State.setApplet_same, State.emit_same]

theorem State.onSession_same {pt : Part} (h0 : ¬ pt = .dict) (a₀ : State) (s : State) (c : Caller) (f : Session → Session) : pt.same a₀ (State.onSession s c f) ↔ pt.same a₀ s := by
  unfold State.onSession
  (repeat' split) <;> simp [h0, State.setSession_same, State.setApplet_same]

theorem State.answer?_same {pt : Part} (h0 : ¬ pt = .dict) (h1 : ¬ pt = .out) (a₀ : State) (r : State × Option Ans) (c : Caller) : pt.same a₀ (State.answer? r c) ↔ pt.same a₀ r.1 := by
  unfold State.answer?
  (repeat' split) <;> simp [h0, h1, State.answer_same]

theorem State.flushApplet_same {pt : Part} (h0 : ¬ pt = .dict) (h1 : ¬ pt = .replies) (a₀ : State) (s : State) : pt.same a₀ (State.flushApplet s) ↔ pt.same a₀ s := by
  unfold State.flushApplet
  simp only []
  exact (same_replies h1 _ _ _ _).trans (State.setApplet_same h0 _ _ _)

theorem State.flushSession_same {pt : Part} (h0 : ¬ pt = .dict) (h1 : ¬ pt = .out) (a₀ : State) (s : State) (i : Nat) : pt.same a₀ (State.flushSession s i) ↔ pt.same a₀ s := by
  unfold State.flushSession
  (repeat' split) <;> simp [h0, h1, State.setSession_same]

theorem State.flush_same {pt : Part} (h0 : ¬ pt = .dict) (h1 : ¬ pt = .out) (h2 : ¬ pt = .replies) (a₀ : State) (s : State) : pt.same a₀ (State.flush s) ↔ pt.same a₀ s := by
  unfold State.flush
  rw [State.flushApplet_same h0 h2, same_foldl]
  intro s x
  exact State.flushSession_same h0 h1 _ _ _

theorem State.sendClose_same {pt : Part} (h0 : ¬ pt = .dict) (h1 : ¬ pt = .out) (a₀ : State) (s : State) (i : Nat) : pt.same a₀ (State.sendClose s i) ↔ pt.same a₀ s := by
  unfold State.sendClose
  (repeat' split) <;> simp [h0, h1, State.emit_same, State.setSession_same]

theorem State.fillAll_same {pt : Part} (h0 : ¬ pt = .dict) (a₀ : State) (s : State) : pt.same a₀ (State.fillAll s) ↔ pt.same a₀ s := by
  unfold State.fillAll
  (repeat' split) <;> simp [h0]

end Sys2Proof.Machine
end

