-- ==== Sys2Proof/Laws/LogOps.lean ====
section
/-!
SUPPORT. What each operation of the Logbook can move: every part but those it names is as it was.
-/

namespace Sys2Proof.Machine

theorem State.emitApplet_same {pt : Part} (h0 : ¬ pt = .log) (a₀ : State) (s : State) (h : Nat) (word : Nat) (stage : Bytes) : pt.same a₀ (State.emitApplet s h word stage) ↔ pt.same a₀ s := by
  unfold State.emitApplet
  (repeat' split) <;> simp [h0, State.offer_same]

theorem State.logWriteNext_same {pt : Part} (h0 : ¬ pt = .health) (h1 : ¬ pt = .log) (a₀ : State) (s : State) : pt.same a₀ (State.logWriteNext s) ↔ pt.same a₀ s := by
  unfold State.logWriteNext
  (repeat' split) <;> simp [h0, h1, State.count_same]

theorem State.timeMarkDue_same {pt : Part} (h0 : ¬ pt = .log) (a₀ : State) (s : State) : pt.same a₀ (State.timeMarkDue s) ↔ pt.same a₀ s := by
  unfold State.timeMarkDue
  (repeat' split) <;> simp [h0, State.timeMark_same]

end Sys2Proof.Machine
end

