-- ==== Sys2Proof/Laws/Airtime.lean ====
section
/-!
SUPPORT. What each operation of the tune words and enables of the modems can move: every part but those it names is as it was.
-/

namespace Sys2Proof.Machine

theorem State.rfOn_same {pt : Part} (h0 : ¬ pt = .out) (a₀ : State) (s : State) (k : Nat) (tx : Bool) (from_ : Int) (till : Int) : pt.same a₀ (State.rfOn s k tx from_ till) ↔ pt.same a₀ s := by
  unfold State.rfOn
  (repeat' split) <;> simp [h0, State.emit_same]

theorem State.tuneTo_same {pt : Part} (h0 : ¬ pt = .out) (a₀ : State) (s : State) (k : Nat) (entry : Bytes) (end_ : Int) : pt.same a₀ (State.tuneTo s k entry end_) ↔ pt.same a₀ s := by
  unfold State.tuneTo
  (repeat' split) <;> simp [h0, State.emit_same]

theorem State.listensDue_same {pt : Part} (h0 : ¬ pt = .out) (a₀ : State) (s : State) (t0 : Int) (t1 : Int) : pt.same a₀ (State.listensDue s t0 t1) ↔ pt.same a₀ s := by
  unfold State.listensDue
  (repeat' split) <;> simp [h0, State.rfOn_same, State.tuneTo_same]

theorem State.setModem_same {pt : Part} (h0 : ¬ pt = .radio) (a₀ : State) (s : State) (m : Nat) (f : Modem → Modem) : pt.same a₀ (State.setModem s m f) ↔ pt.same a₀ s := by
  unfold State.setModem
  (repeat' split) <;> simp [h0]

end Sys2Proof.Machine
end

