-- ==== Sys2Proof/Laws/TimeOps.lean ====
section
/-!
SUPPORT. What each operation of the Timebase and time inputs and outputs can move: every part but those it names is as it was.
-/

namespace Sys2Proof.Machine

theorem State.moveTime_same {pt : Part} (h0 : ¬ pt = .track) (h1 : ¬ pt = .tb) (h2 : ¬ pt = .outs) (a₀ : State) (s : State) (d : Int) : pt.same a₀ (State.moveTime s d) ↔ pt.same a₀ s := by
  unfold State.moveTime
  (repeat' split) <;> simp [h0, h1, h2]

theorem State.stepMark_same {pt : Part} (h0 : ¬ pt = .log) (a₀ : State) (s : State) : pt.same a₀ (State.stepMark s) ↔ pt.same a₀ s := by
  unfold State.stepMark
  (repeat' split) <;> simp [h0, State.timeMark_same]

theorem State.acquire_same {pt : Part} (h0 : ¬ pt = .track) (h1 : ¬ pt = .tb) (h2 : ¬ pt = .outs) (h3 : ¬ pt = .log) (a₀ : State) (s : State) : pt.same a₀ (State.acquire s) ↔ pt.same a₀ s := by
  unfold State.acquire
  split
  · rfl
  · simp only []; split <;> simp [h0, h1, h2, h3, State.moveTime_same, State.stepMark_same, State.logEv_same]

theorem State.markDisagree_same {pt : Part} (h0 : ¬ pt = .tb) (h1 : ¬ pt = .log) (a₀ : State) (s : State) : pt.same a₀ (State.markDisagree s) ↔ pt.same a₀ s := by
  unfold State.markDisagree
  (repeat' split) <;> simp [h0, h1, State.logEv_same]

theorem State.enterSlew_same {pt : Part} (h0 : ¬ pt = .tb) (a₀ : State) (s : State) (c : Nat) : pt.same a₀ (State.enterSlew s c) ↔ pt.same a₀ s := by
  unfold State.enterSlew
  (repeat' split) <;> simp [h0]

theorem State.enterHold_same {pt : Part} (h0 : ¬ pt = .tb) (h1 : ¬ pt = .log) (a₀ : State) (s : State) (jump : Bool) : pt.same a₀ (State.enterHold s jump) ↔ pt.same a₀ s := by
  unfold State.enterHold
  (repeat' split) <;> simp [h0, h1, State.logEv_same]

theorem State.servo_same {pt : Part} (h0 : ¬ pt = .tb) (h1 : ¬ pt = .log) (a₀ : State) (s : State) : pt.same a₀ (State.servo s) ↔ pt.same a₀ s := by
  unfold State.servo
  simp; (repeat' split) <;> simp [h0, h1, State.markDisagree_same, State.enterSlew_same, State.enterHold_same, State.logEv_same]

theorem State.sourceGone_same {pt : Part} (h0 : ¬ pt = .tb) (h1 : ¬ pt = .log) (a₀ : State) (s : State) (c : Nat) : pt.same a₀ (State.sourceGone s c) ↔ pt.same a₀ s := by
  unfold State.sourceGone
  (repeat' split) <;> simp [h0, h1, State.servo_same]

theorem State.timebaseReset_same {pt : Part} (h0 : ¬ pt = .tb) (h1 : ¬ pt = .outs) (h2 : ¬ pt = .caps) (a₀ : State) (s : State) : pt.same a₀ (State.timebaseReset s) ↔ pt.same a₀ s := by
  unfold State.timebaseReset
  (repeat' split) <;> simp [h0, h1, h2]

theorem State.slewDone_same {pt : Part} (h0 : ¬ pt = .tb) (a₀ : State) (s : State) : pt.same a₀ (State.slewDone s) ↔ pt.same a₀ s := by
  unfold State.slewDone
  (repeat' split) <;> simp [h0]

theorem State.advance_same {pt : Part} (h0 : ¬ pt = .now) (h1 : ¬ pt = .health) (h2 : ¬ pt = .tb) (h3 : ¬ pt = .out) (a₀ : State) (s : State) (t : Nat) : pt.same a₀ (State.advance s t) ↔ pt.same a₀ s := by
  unfold State.advance
  (repeat' split) <;> simp [h0, h1, h2, h3, State.slewDone_same, State.count_same, State.listensDue_same]

theorem State.rollBound_same {pt : Part} (h0 : ¬ pt = .tb) (a₀ : State) (s : State) : pt.same a₀ (State.rollBound s) ↔ pt.same a₀ s := by
  unfold State.rollBound
  (repeat' split) <;> simp [h0]

theorem State.slewMoved_same {pt : Part} (h0 : ¬ pt = .tb) (a₀ : State) (s : State) : pt.same a₀ (State.slewMoved s) ↔ pt.same a₀ s := by
  unfold State.slewMoved
  (repeat' split) <;> simp [h0]

theorem State.slewRated_same {pt : Part} (h0 : ¬ pt = .tb) (a₀ : State) (s : State) : pt.same a₀ (State.slewRated s) ↔ pt.same a₀ s := by
  unfold State.slewRated
  (repeat' split) <;> simp [h0]

theorem State.refinChosen_same {pt : Part} (h0 : ¬ pt = .tb) (a₀ : State) (s : State) (v : Nat) : pt.same a₀ (State.refinChosen s v) ↔ pt.same a₀ s := by
  unfold State.refinChosen
  (repeat' split) <;> simp [h0, State.rollBound_same]

theorem State.steer_same {pt : Part} (h0 : ¬ pt = .tb) (a₀ : State) (s : State) (c : Nat) (off : Int) : pt.same a₀ (State.steer s c off) ↔ pt.same a₀ s := by
  unfold State.steer
  (repeat' split) <;> simp [h0]

theorem State.offset_same {pt : Part} (h0 : ¬ pt = .tb) (h1 : ¬ pt = .log) (a₀ : State) (s : State) (c : Nat) (off : Int) (bound : Nat) : pt.same a₀ (State.offset s c off bound) ↔ pt.same a₀ s := by
  unfold State.offset
  (repeat' split) <;> simp [h0, h1, State.steer_same, State.servo_same]

theorem State.ppsEdge_same {pt : Part} (h0 : ¬ pt = .tb) (h1 : ¬ pt = .log) (a₀ : State) (s : State) (edge : Int) : pt.same a₀ (State.ppsEdge s edge) ↔ pt.same a₀ s := by
  unfold State.ppsEdge
  (repeat' split) <;> simp [h0, h1, State.offset_same]

theorem State.setCap_same {pt : Part} (h0 : ¬ pt = .caps) (a₀ : State) (s : State) (n : Nat) (f : Capture → Capture) : pt.same a₀ (State.setCap s n f) ↔ pt.same a₀ s := by
  unfold State.setCap
  (repeat' split) <;> simp [h0]

theorem State.postCaptures_same {pt : Part} (h0 : ¬ pt = .health) (h1 : ¬ pt = .caps) (h2 : ¬ pt = .fabric) (h3 : ¬ pt = .replies) (h4 : ¬ pt = .log) (a₀ : State) (s : State) (n : Nat) (xs : Nat) : pt.same a₀ (State.postCaptures s n xs) ↔ pt.same a₀ s := by
  induction xs generalizing s with
  | zero => rfl
  | succ n ih =>
    unfold State.postCaptures
    split
    · rfl
    · split
      · rfl
      · rename_i e; rw [ih, State.setCap_same (by assumption)]; exact State.post?_same (by assumption) (by assumption) (by assumption) (by assumption) a₀ _ _ _ e

theorem State.capture_same {pt : Part} (h0 : ¬ pt = .health) (h1 : ¬ pt = .caps) (h2 : ¬ pt = .fabric) (h3 : ¬ pt = .replies) (h4 : ¬ pt = .log) (a₀ : State) (s : State) (n : Nat) (rising : Bool) (quarter : Nat) (late : Bool) : pt.same a₀ (State.capture s n rising quarter late) ↔ pt.same a₀ s := by
  unfold State.capture
  (repeat' split) <;> simp [h0, h1, h2, h3, h4, State.setCap_same, State.postCaptures_same]

theorem State.capEdge_same {pt : Part} (h0 : ¬ pt = .health) (h1 : ¬ pt = .tb) (h2 : ¬ pt = .caps) (h3 : ¬ pt = .fabric) (h4 : ¬ pt = .replies) (h5 : ¬ pt = .log) (a₀ : State) (s : State) (n : Nat) (rising : Bool) (quarter : Nat) : pt.same a₀ (State.capEdge s n rising quarter) ↔ pt.same a₀ s := by
  unfold State.capEdge
  (repeat' split) <;> simp [h0, h1, h2, h3, h4, h5, State.ppsEdge_same, State.setCap_same, State.capture_same]

theorem State.setOut_same {pt : Part} (h0 : ¬ pt = .outs) (a₀ : State) (s : State) (n : Nat) (f : TimeOut → TimeOut) : pt.same a₀ (State.setOut s n f) ↔ pt.same a₀ s := by
  unfold State.setOut
  (repeat' split) <;> simp [h0]

theorem State.pulseCommitted_same {pt : Part} (h0 : ¬ pt = .outs) (a₀ : State) (s : State) (n : Nat) : pt.same a₀ (State.pulseCommitted s n) ↔ pt.same a₀ s := by
  unfold State.pulseCommitted
  (repeat' split) <;> simp [h0, State.setOut_same]

theorem State.stepArm_same {pt : Part} (h0 : ¬ pt = .tb) (a₀ : State) (s : State) : pt.same a₀ (State.stepArm s).1 ↔ pt.same a₀ s := by
  unfold State.stepArm
  (repeat' split) <;> simp [h0]

theorem State.stepDisarm_same {pt : Part} (h0 : ¬ pt = .tb) (a₀ : State) (s : State) : pt.same a₀ (State.stepDisarm s).1 ↔ pt.same a₀ s := by
  unfold State.stepDisarm
  (repeat' split) <;> simp [h0]

theorem State.ppsTimeOfDay_same {pt : Part} (h0 : ¬ pt = .tb) (a₀ : State) (s : State) (v : Bytes) : pt.same a₀ (State.ppsTimeOfDay s v).1 ↔ pt.same a₀ s := by
  unfold State.ppsTimeOfDay
  simp; (repeat' split) <;> simp [h0]

theorem State.skipPulse_same {pt : Part} (h0 : ¬ pt = .outs) (h1 : ¬ pt = .log) (a₀ : State) (s : State) (n : Nat) (k : Nat) : pt.same a₀ (State.skipPulse s n k) ↔ pt.same a₀ s := by
  unfold State.skipPulse
  (repeat' split) <;> simp [h0, h1, State.setOut_same, State.logEv_same]

theorem State.pulseDue_same {pt : Part} (h0 : ¬ pt = .outs) (h1 : ¬ pt = .log) (h2 : ¬ pt = .out) (a₀ : State) (s : State) (n : Nat) : pt.same a₀ (State.pulseDue s n) ↔ pt.same a₀ s := by
  unfold State.pulseDue
  simp; (repeat' split) <;> simp [h0, h1, h2, State.skipPulse_same, State.setOut_same, State.emit_same]

theorem State.pulseEnd_same {pt : Part} (h0 : ¬ pt = .outs) (h1 : ¬ pt = .out) (a₀ : State) (s : State) (n : Nat) : pt.same a₀ (State.pulseEnd s n) ↔ pt.same a₀ s := by
  unfold State.pulseEnd
  (repeat' split) <;> simp [h0, h1, State.setOut_same, State.emit_same]

theorem State.qualify_same {pt : Part} (h0 : ¬ pt = .tb) (h1 : ¬ pt = .log) (a₀ : State) (s : State) (c : Nat) : pt.same a₀ (State.qualify s c) ↔ pt.same a₀ s := by
  unfold State.qualify
  (repeat' split) <;> simp [h0, h1, State.servo_same]

theorem State.refinBack_same {pt : Part} (h0 : ¬ pt = .tb) (h1 : ¬ pt = .log) (a₀ : State) (s : State) (clock : Nat) : pt.same a₀ (State.refinBack s clock) ↔ pt.same a₀ s := by
  unfold State.refinBack
  (repeat' split) <;> simp [h0, h1, State.rollBound_same, State.logEv_same]

theorem State.refinLost_same {pt : Part} (h0 : ¬ pt = .tb) (h1 : ¬ pt = .log) (a₀ : State) (s : State) : pt.same a₀ (State.refinLost s) ↔ pt.same a₀ s := by
  unfold State.refinLost
  (repeat' split) <;> simp [h0, h1, State.rollBound_same, State.logEv_same]

theorem State.takeStep_same {pt : Part} (h0 : ¬ pt = .track) (h1 : ¬ pt = .tb) (h2 : ¬ pt = .outs) (h3 : ¬ pt = .log) (a₀ : State) (s : State) : pt.same a₀ (State.takeStep s) ↔ pt.same a₀ s := by
  unfold State.takeStep
  (repeat' split) <;> simp [h0, h1, h2, h3, State.moveTime_same, State.logEv_same, State.stepMark_same]

theorem State.todDue_same {pt : Part} (h0 : ¬ pt = .outs) (h1 : ¬ pt = .out) (a₀ : State) (s : State) (n : Nat) : pt.same a₀ (State.todDue s n) ↔ pt.same a₀ s := by
  unfold State.todDue
  (repeat' split) <;> simp [h0, h1, State.emit_same, State.setOut_same]

end Sys2Proof.Machine
end

