-- ==== Sys2Proof/Laws/StopOps.lean ====
section
/-!
SUPPORT. What each operation of the Stop Bath can move: every part but those it names is as it was.
-/

namespace Sys2Proof.Machine

theorem State.refreshGo_same {pt : Part} (h0 : ¬ pt = .stop) (a₀ : State) (s : State) : pt.same a₀ (State.refreshGo s) ↔ pt.same a₀ s := by
  unfold State.refreshGo
  (repeat' split) <;> simp [h0]

theorem State.toNbr_same {pt : Part} (h0 : ¬ pt = .dict) (h1 : ¬ pt = .out) (a₀ : State) (s : State) (n : Nat) (index : Nat) (msg : Bytes) : pt.same a₀ (State.toNbr s n index msg) ↔ pt.same a₀ s := by
  unfold State.toNbr
  simp; (repeat' split) <;> simp [h0, h1, State.emit_same, State.setSession_same]

theorem State.sendNotices_same {pt : Part} (h0 : ¬ pt = .dict) (h1 : ¬ pt = .stop) (h2 : ¬ pt = .out) (a₀ : State) (s : State) (reason : Nat) : pt.same a₀ (State.sendNotices s reason) ↔ pt.same a₀ s := by
  unfold State.sendNotices
  (repeat' split) <;> simp [h0, h1, h2, State.toNbr_same]

theorem State.setLatch_same {pt : Part} (h0 : ¬ pt = .health) (h1 : ¬ pt = .dict) (h2 : ¬ pt = .stop) (h3 : ¬ pt = .out) (a₀ : State) (s : State) (l : Latch) (src : Nat) (reason : Nat) : pt.same a₀ (State.setLatch s l src reason) ↔ pt.same a₀ s := by
  unfold State.setLatch
  (repeat' split) <;> simp [h0, h1, h2, h3, State.refreshGo_same, State.count_same, State.sendNotices_same]

theorem State.resetLatch_same {pt : Part} (h0 : ¬ pt = .health) (h1 : ¬ pt = .dict) (h2 : ¬ pt = .stop) (h3 : ¬ pt = .out) (a₀ : State) (s : State) : pt.same a₀ (State.resetLatch s) ↔ pt.same a₀ s := by
  unfold State.resetLatch
  (repeat' split) <;> simp [h0, h1, h2, h3, State.sendNotices_same, State.count_same]

theorem State.answerWaiting_same {pt : Part} (h0 : ¬ pt = .dict) (h1 : ¬ pt = .stop) (h2 : ¬ pt = .out) (a₀ : State) (s : State) : pt.same a₀ (State.answerWaiting s) ↔ pt.same a₀ s := by
  unfold State.answerWaiting
  (repeat' split) <;> simp [h0, h1, h2, State.answer_same]

theorem State.applyStop_same {pt : Part} (h0 : ¬ pt = .health) (h1 : ¬ pt = .dict) (h2 : ¬ pt = .stop) (h3 : ¬ pt = .log) (h4 : ¬ pt = .out) (a₀ : State) (s : State) (v : Bytes) : pt.same a₀ (State.applyStop s v) ↔ pt.same a₀ s := by
  unfold State.applyStop
  (repeat' split) <;> simp [h0, h1, h2, h3, h4, State.setLatch_same, State.logEv_same]

theorem State.setIn_same {pt : Part} (h0 : ¬ pt = .stop) (a₀ : State) (s : State) (n : Nat) (f : StopIn → StopIn) : pt.same a₀ (State.setIn s n f) ↔ pt.same a₀ s := by
  unfold State.setIn
  (repeat' split) <;> simp [h0]

theorem State.siJudge_same {pt : Part} (h0 : ¬ pt = .health) (h1 : ¬ pt = .dict) (h2 : ¬ pt = .stop) (h3 : ¬ pt = .out) (a₀ : State) (s : State) (n : Nat) : pt.same a₀ (State.siJudge s n) ↔ pt.same a₀ s := by
  unfold State.siJudge
  (repeat' split) <;> simp [h0, h1, h2, h3, State.setIn_same, State.setLatch_same]

theorem State.cancelRelease_same {pt : Part} (h0 : ¬ pt = .stop) (a₀ : State) (s : State) : pt.same a₀ (State.cancelRelease s) ↔ pt.same a₀ s := by
  unfold State.cancelRelease
  (repeat' split) <;> simp [h0]

theorem State.heldTaken_same {pt : Part} (h0 : ¬ pt = .health) (h1 : ¬ pt = .dict) (h2 : ¬ pt = .stop) (h3 : ¬ pt = .out) (a₀ : State) (s : State) (before : StopBath) (h : Latch × Nat) : pt.same a₀ (State.heldTaken s before h) ↔ pt.same a₀ s := by
  unfold State.heldTaken
  (repeat' split) <;> simp [h0, h1, h2, h3, State.count_same, State.sendNotices_same]

theorem State.channelReturned_same {pt : Part} (h0 : ¬ pt = .health) (h1 : ¬ pt = .dict) (h2 : ¬ pt = .stop) (h3 : ¬ pt = .out) (a₀ : State) (s : State) (i : Island) : pt.same a₀ (State.channelReturned s i) ↔ pt.same a₀ s := by
  unfold State.channelReturned
  (repeat' split) <;> simp [h0, h1, h2, h3, State.answerWaiting_same, State.heldTaken_same, State.refreshGo_same]

theorem State.channelsDisagree_same {pt : Part} (h0 : ¬ pt = .health) (h1 : ¬ pt = .dict) (h2 : ¬ pt = .stop) (h3 : ¬ pt = .log) (h4 : ¬ pt = .out) (a₀ : State) (s : State) : pt.same a₀ (State.channelsDisagree s) ↔ pt.same a₀ s := by
  unfold State.channelsDisagree
  (repeat' split) <;> simp [h0, h1, h2, h3, h4, State.setLatch_same, State.logEv_same]

theorem State.setNbr_same {pt : Part} (h0 : ¬ pt = .comb) (a₀ : State) (s : State) (n : Nat) (f : Neighbour → Neighbour) : pt.same a₀ (State.setNbr s n f) ↔ pt.same a₀ s := by
  unfold State.setNbr
  (repeat' split) <;> simp [h0]

theorem State.stopCmd_same {pt : Part} (h0 : ¬ pt = .health) (h1 : ¬ pt = .dict) (h2 : ¬ pt = .stop) (h3 : ¬ pt = .log) (h4 : ¬ pt = .out) (a₀ : State) (s : State) (v : Bytes) (c : Caller) : pt.same a₀ (State.stopCmd s v c).1 ↔ pt.same a₀ s := by
  unfold State.stopCmd
  (repeat' split) <;> simp [h0, h1, h2, h3, h4, State.applyStop_same]

theorem State.releaseArmed_same {pt : Part} (h0 : ¬ pt = .stop) (h1 : ¬ pt = .free) (a₀ : State) (s : State) (v : Bytes) (priv : Nat) : pt.same a₀ (State.releaseArmed s v priv).1 ↔ pt.same a₀ s := by
  unfold State.releaseArmed
  (repeat' split) <;> simp [h0, h1, State.draw_same]

theorem State.releaseConfirmed_same {pt : Part} (h0 : ¬ pt = .stop) (a₀ : State) (s : State) (v : Bytes) (priv : Nat) : pt.same a₀ (State.releaseConfirmed s v priv).1 ↔ pt.same a₀ s := by
  unfold State.releaseConfirmed
  simp; (repeat' split) <;> simp [h0, State.refreshGo_same]

theorem State.stopNotice_same {pt : Part} (h0 : ¬ pt = .health) (h1 : ¬ pt = .dict) (h2 : ¬ pt = .stop) (h3 : ¬ pt = .log) (h4 : ¬ pt = .out) (a₀ : State) (s : State) (msg : Bytes) (c : Caller) : pt.same a₀ (State.stopNotice s msg c).1 ↔ pt.same a₀ s := by
  unfold State.stopNotice
  (repeat' split) <;> simp [h0, h1, h2, h3, h4, State.setLatch_same, State.logEv_same]

theorem State.repeatNotice_same {pt : Part} (h0 : ¬ pt = .dict) (h1 : ¬ pt = .stop) (h2 : ¬ pt = .out) (a₀ : State) (s : State) (n : Nat) : pt.same a₀ (State.repeatNotice s n) ↔ pt.same a₀ s := by
  unfold State.repeatNotice
  (repeat' split) <;> simp [h0, h1, h2, State.toNbr_same]

theorem State.sendVotes_same {pt : Part} (h0 : ¬ pt = .stop) (a₀ : State) (s : State) : pt.same a₀ (State.sendVotes s) ↔ pt.same a₀ s := by
  unfold State.sendVotes
  (repeat' split) <;> simp [h0]

theorem State.setSo_same {pt : Part} (h0 : ¬ pt = .stop) (a₀ : State) (s : State) (n : Nat) (f : StopOut → StopOut) : pt.same a₀ (State.setSo s n f) ↔ pt.same a₀ s := by
  unfold State.setSo
  (repeat' split) <;> simp [h0]

theorem State.siDebounced_same {pt : Part} (h0 : ¬ pt = .health) (h1 : ¬ pt = .dict) (h2 : ¬ pt = .stop) (h3 : ¬ pt = .out) (a₀ : State) (s : State) (n : Nat) (pin : Nat) : pt.same a₀ (State.siDebounced s n pin) ↔ pt.same a₀ s := by
  unfold State.siDebounced
  (repeat' split) <;> simp [h0, h1, h2, h3, State.setIn_same, State.siJudge_same]

theorem State.siDiscrepant_same {pt : Part} (h0 : ¬ pt = .health) (h1 : ¬ pt = .dict) (h2 : ¬ pt = .stop) (h3 : ¬ pt = .log) (h4 : ¬ pt = .out) (a₀ : State) (s : State) (n : Nat) : pt.same a₀ (State.siDiscrepant s n) ↔ pt.same a₀ s := by
  unfold State.siDiscrepant
  simp; (repeat' split) <;> simp [h0, h1, h2, h3, h4, State.logEv_same, State.setIn_same, State.siJudge_same]

theorem State.siPin_same {pt : Part} (h0 : ¬ pt = .stop) (a₀ : State) (s : State) (n : Nat) (pin : Nat) (level : Bool) : pt.same a₀ (State.siPin s n pin level) ↔ pt.same a₀ s := by
  unfold State.siPin
  (repeat' split) <;> simp [h0, State.setIn_same]

theorem State.soFaulted_same {pt : Part} (h0 : ¬ pt = .health) (h1 : ¬ pt = .dict) (h2 : ¬ pt = .stop) (h3 : ¬ pt = .log) (h4 : ¬ pt = .out) (a₀ : State) (s : State) (n : Nat) (pp : Bool) (nn : Bool) : pt.same a₀ (State.soFaulted s n pp nn) ↔ pt.same a₀ s := by
  unfold State.soFaulted
  (repeat' split) <;> simp [h0, h1, h2, h3, h4, State.setSo_same, State.setLatch_same, State.logEv_same]

theorem State.soPulseBegin_same {pt : Part} (h0 : ¬ pt = .stop) (a₀ : State) (s : State) (n : Nat) : pt.same a₀ (State.soPulseBegin s n) ↔ pt.same a₀ s := by
  unfold State.soPulseBegin
  (repeat' split) <;> simp [h0, State.setSo_same]

theorem State.soPulseJudge_same {pt : Part} (h0 : ¬ pt = .health) (h1 : ¬ pt = .dict) (h2 : ¬ pt = .stop) (h3 : ¬ pt = .log) (h4 : ¬ pt = .out) (a₀ : State) (s : State) (n : Nat) (pp : Bool) (nn : Bool) : pt.same a₀ (State.soPulseJudge s n pp nn) ↔ pt.same a₀ s := by
  unfold State.soPulseJudge
  (repeat' split) <;> simp [h0, h1, h2, h3, h4, State.setSo_same, State.setLatch_same, State.logEv_same]

theorem State.soRecovered_same {pt : Part} (h0 : ¬ pt = .stop) (a₀ : State) (s : State) (n : Nat) (pp : Bool) (nn : Bool) : pt.same a₀ (State.soRecovered s n pp nn) ↔ pt.same a₀ s := by
  unfold State.soRecovered
  (repeat' split) <;> simp [h0, State.setSo_same]

end Sys2Proof.Machine
end

