-- ==== Sys2Proof/Laws/CanOps.lean ====
section
/-!
SUPPORT. What each operation of the CAN ports can move: every part but those it names is as it was.
-/

namespace Sys2Proof.Machine

theorem State.endCancel_same {pt : Part} (h0 : ¬ pt = .dict) (h1 : ¬ pt = .out) (a₀ : State) (s : State) (n : Nat) (x : CanSend) (outcome : Nat) : pt.same a₀ (State.endCancel s n x outcome) ↔ pt.same a₀ s := by
  unfold State.endCancel
  (repeat' split) <;> simp [h0, h1, State.answer_same]

theorem State.setCan_same {pt : Part} (h0 : ¬ pt = .can) (a₀ : State) (s : State) (n : Nat) (f : CanPort → CanPort) : pt.same a₀ (State.setCan s n f) ↔ pt.same a₀ s := by
  unfold State.setCan
  (repeat' split) <;> simp [h0]

theorem State.endSend_same {pt : Part} (h0 : ¬ pt = .dict) (h1 : ¬ pt = .can) (h2 : ¬ pt = .out) (a₀ : State) (s : State) (n : Nat) (x : CanSend) (outcome : Nat) (stamp : Int × Nat) : pt.same a₀ (State.endSend s n x outcome stamp) ↔ pt.same a₀ s := by
  unfold State.endSend
  (repeat' split) <;> simp [h0, h1, h2, State.setCan_same, State.answer_same]

theorem State.endSendsOf_same {pt : Part} (h0 : ¬ pt = .dict) (h1 : ¬ pt = .can) (h2 : ¬ pt = .out) (a₀ : State) (s : State) (p : Caller → Bool) (outcome : Nat) : pt.same a₀ (State.endSendsOf s p outcome) ↔ pt.same a₀ s := by
  unfold State.endSendsOf
  rw [same_foldl]
  intro s n
  rw [same_foldl]
  intro s x
  rw [State.endCancel_same (by assumption) (by assumption), State.endSend_same (by assumption) (by assumption) (by assumption)]

theorem State.endSends_same {pt : Part} (h0 : ¬ pt = .dict) (h1 : ¬ pt = .can) (h2 : ¬ pt = .out) (a₀ : State) (s : State) (n : Nat) (outcome : Nat) : pt.same a₀ (State.endSends s n outcome) ↔ pt.same a₀ s := by
  unfold State.endSends
  (repeat' split) <;> simp [h0, h1, h2, State.endCancel_same, State.endSend_same]

theorem State.canResetPort_same {pt : Part} (h0 : ¬ pt = .dict) (h1 : ¬ pt = .can) (h2 : ¬ pt = .out) (a₀ : State) (s : State) (n : Nat) : pt.same a₀ (State.canResetPort s n) ↔ pt.same a₀ s := by
  unfold State.canResetPort
  (repeat' split) <;> simp [h0, h1, h2, State.setCan_same, State.endSends_same]

theorem State.canReset_same {pt : Part} (h0 : ¬ pt = .dict) (h1 : ¬ pt = .can) (h2 : ¬ pt = .out) (a₀ : State) (s : State) : pt.same a₀ (State.canReset s) ↔ pt.same a₀ s := by
  unfold State.canReset
  (repeat' split) <;> simp [h0, h1, h2, State.canResetPort_same]

theorem State.canSleepReq_same {pt : Part} (h0 : ¬ pt = .can) (a₀ : State) (s : State) (n : Nat) : pt.same a₀ (State.canSleepReq s n).1 ↔ pt.same a₀ s := by
  unfold State.canSleepReq
  (repeat' split) <;> simp [h0, State.setCan_same]

theorem State.canWake_same {pt : Part} (h0 : ¬ pt = .can) (h1 : ¬ pt = .log) (h2 : ¬ pt = .out) (a₀ : State) (s : State) (n : Nat) (cause : Nat) : pt.same a₀ (State.canWake s n cause) ↔ pt.same a₀ s := by
  unfold State.canWake
  (repeat' split) <;> simp [h0, h1, h2, State.logEv_same, State.emit_same, State.setCan_same]

theorem State.canWakeReq_same {pt : Part} (h0 : ¬ pt = .can) (h1 : ¬ pt = .log) (h2 : ¬ pt = .out) (a₀ : State) (s : State) (n : Nat) : pt.same a₀ (State.canWakeReq s n).1 ↔ pt.same a₀ s := by
  unfold State.canWakeReq
  (repeat' split) <;> simp [h0, h1, h2, State.canWake_same, State.setCan_same]

theorem State.bufferWritten_same {pt : Part} (h0 : ¬ pt = .can) (a₀ : State) (s : State) (n : Nat) (b : Nat) (old : Nat) : pt.same a₀ (State.bufferWritten s n b old) ↔ pt.same a₀ s := by
  unfold State.bufferWritten
  (repeat' split) <;> simp [h0, State.setCan_same]

theorem State.canNoAcked_same {pt : Part} (h0 : ¬ pt = .can) (h1 : ¬ pt = .log) (a₀ : State) (s : State) (n : Nat) : pt.same a₀ (State.canNoAcked s n) ↔ pt.same a₀ s := by
  unfold State.canNoAcked
  (repeat' split) <;> simp [h0, h1, State.setCan_same, State.logEv_same]

theorem State.canErrored_same {pt : Part} (h0 : ¬ pt = .can) (h1 : ¬ pt = .log) (a₀ : State) (s : State) (n : Nat) (ack : Bool) : pt.same a₀ (State.canErrored s n ack) ↔ pt.same a₀ s := by
  unfold State.canErrored
  (repeat' split) <;> simp [h0, h1, State.canNoAcked_same, State.setCan_same]

theorem State.sendTried_same {pt : Part} (h0 : ¬ pt = .dict) (h1 : ¬ pt = .can) (h2 : ¬ pt = .out) (a₀ : State) (s : State) (n : Nat) (x : CanSend) (stamp : Int × Nat) (ok : Bool) : pt.same a₀ (State.sendTried s n x stamp ok) ↔ pt.same a₀ s := by
  unfold State.sendTried
  (repeat' split) <;> simp [h0, h1, h2, State.endCancel_same, State.endSend_same, State.setCan_same]

theorem State.refTried_same {pt : Part} (h0 : ¬ pt = .can) (a₀ : State) (s : State) (n : Nat) (m : CanRefMsg) (stamp : Int × Nat) (ok : Bool) : pt.same a₀ (State.refTried s n m stamp ok) ↔ pt.same a₀ s := by
  unfold State.refTried
  (repeat' split) <;> simp [h0, State.setCan_same]

theorem State.canConfine_same {pt : Part} (h0 : ¬ pt = .health) (h1 : ¬ pt = .dict) (h2 : ¬ pt = .stop) (h3 : ¬ pt = .can) (h4 : ¬ pt = .log) (h5 : ¬ pt = .out) (a₀ : State) (s : State) (n : Nat) (was : Nat) : pt.same a₀ (State.canConfine s n was) ↔ pt.same a₀ s := by
  unfold State.canConfine
  (repeat' split) <;> simp [h0, h1, h2, h3, h4, h5, State.setCan_same, State.endSends_same, State.logEv_same, State.setLatch_same]

theorem State.attemptEnd_same {pt : Part} (h0 : ¬ pt = .health) (h1 : ¬ pt = .dict) (h2 : ¬ pt = .stop) (h3 : ¬ pt = .can) (h4 : ¬ pt = .log) (h5 : ¬ pt = .out) (a₀ : State) (s : State) (n : Nat) (b : Nat) (sof : Nat) (outcome : CanAttempt) : pt.same a₀ (State.attemptEnd s n b sof outcome) ↔ pt.same a₀ s := by
  unfold State.attemptEnd
  simp; (repeat' split) <;> simp [h0, h1, h2, h3, h4, h5, State.emit_same, State.setCan_same, State.canErrored_same, State.sendTried_same, State.refTried_same, State.canConfine_same]

theorem State.bufferAck_same {pt : Part} (h0 : ¬ pt = .can) (a₀ : State) (s : State) (n : Nat) (b : Nat) (seq : Nat) : pt.same a₀ (State.bufferAck s n b seq).1 ↔ pt.same a₀ s := by
  unfold State.bufferAck
  simp; (repeat' split) <;> simp [h0, State.setCan_same]

theorem State.canCancelReq_same {pt : Part} (h0 : ¬ pt = .dict) (h1 : ¬ pt = .can) (h2 : ¬ pt = .out) (a₀ : State) (s : State) (c : Caller) (req : Bytes) (trying : Bool) : pt.same a₀ (State.canCancelReq s c req trying).1 ↔ pt.same a₀ s := by
  unfold State.canCancelReq
  simp; (repeat' split) <;> simp [h0, h1, h2, State.setCan_same, State.endSend_same]

theorem State.canEdge_same {pt : Part} (h0 : ¬ pt = .can) (h1 : ¬ pt = .log) (h2 : ¬ pt = .out) (a₀ : State) (s : State) (n : Nat) (width : Nat) : pt.same a₀ (State.canEdge s n width) ↔ pt.same a₀ s := by
  unfold State.canEdge
  (repeat' split) <;> simp [h0, h1, h2, State.canWake_same]

theorem State.stopFrame_same {pt : Part} (h0 : ¬ pt = .health) (h1 : ¬ pt = .dict) (h2 : ¬ pt = .stop) (h3 : ¬ pt = .can) (h4 : ¬ pt = .log) (h5 : ¬ pt = .out) (a₀ : State) (s : State) (n : Nat) (f : CanFrame) : pt.same a₀ (State.stopFrame s n f) ↔ pt.same a₀ s := by
  unfold State.stopFrame
  (repeat' split) <;> simp [h0, h1, h2, h3, h4, h5, State.setLatch_same, State.logEv_same]

theorem State.fifoTake_same {pt : Part} (h0 : ¬ pt = .can) (h1 : ¬ pt = .log) (h2 : ¬ pt = .free) (a₀ : State) (s : State) (n : Nat) (i : Nat) (stamp : Int × Nat) (f : CanFrame) : pt.same a₀ (State.fifoTake s n i stamp f) ↔ pt.same a₀ s := by
  unfold State.fifoTake
  simp [h0, h1, h2, State.draw_same, State.setCan_same, State.logEv_same]

theorem State.placeFrame_same {pt : Part} (h0 : ¬ pt = .can) (h1 : ¬ pt = .log) (h2 : ¬ pt = .free) (a₀ : State) (s : State) (n : Nat) (stamp : Int × Nat) (f : CanFrame) : pt.same a₀ (State.placeFrame s n stamp f) ↔ pt.same a₀ s := by
  unfold State.placeFrame
  (repeat' split) <;> simp [h0, h1, h2, State.setCan_same, State.fifoTake_same]

theorem State.takeCanFrame_same {pt : Part} (h0 : ¬ pt = .health) (h1 : ¬ pt = .dict) (h2 : ¬ pt = .stop) (h3 : ¬ pt = .can) (h4 : ¬ pt = .log) (h5 : ¬ pt = .out) (h6 : ¬ pt = .free) (a₀ : State) (s : State) (n : Nat) (stamp : Int × Nat) (f : CanFrame) : pt.same a₀ (State.takeCanFrame s n stamp f) ↔ pt.same a₀ s := by
  unfold State.takeCanFrame
  (repeat' split) <;> simp [h0, h1, h2, h3, h4, h5, h6, State.count_same, State.setCan_same, State.stopFrame_same, State.placeFrame_same]

theorem State.canRxGood_same {pt : Part} (h0 : ¬ pt = .can) (h1 : ¬ pt = .free) (a₀ : State) (s : State) (n : Nat) : pt.same a₀ (State.canRxGood s n) ↔ pt.same a₀ s := by
  unfold State.canRxGood
  simp [h0, h1, State.setCan_same, State.draw_same]

theorem State.canFrameIn_same {pt : Part} (h0 : ¬ pt = .health) (h1 : ¬ pt = .dict) (h2 : ¬ pt = .stop) (h3 : ¬ pt = .can) (h4 : ¬ pt = .log) (h5 : ¬ pt = .out) (h6 : ¬ pt = .free) (a₀ : State) (s : State) (n : Nat) (sof : Nat) (f : CanFrame) : pt.same a₀ (State.canFrameIn s n sof f) ↔ pt.same a₀ s := by
  unfold State.canFrameIn
  (repeat' split) <;> simp [h0, h1, h2, h3, h4, h5, h6, State.takeCanFrame_same, State.canRxGood_same, State.canWake_same]

theorem State.canIntegrated_same {pt : Part} (h0 : ¬ pt = .can) (a₀ : State) (s : State) (n : Nat) : pt.same a₀ (State.canIntegrated s n) ↔ pt.same a₀ s := by
  unfold State.canIntegrated
  (repeat' split) <;> simp [h0, State.setCan_same]

theorem State.canPortCommitted_same {pt : Part} (h0 : ¬ pt = .dict) (h1 : ¬ pt = .can) (h2 : ¬ pt = .out) (a₀ : State) (s : State) (n : Nat) : pt.same a₀ (State.canPortCommitted s n) ↔ pt.same a₀ s := by
  unfold State.canPortCommitted
  (repeat' split) <;> simp [h0, h1, h2, State.setCan_same, State.endSends_same]

theorem State.canRecoverReq_same {pt : Part} (h0 : ¬ pt = .can) (a₀ : State) (s : State) (n : Nat) : pt.same a₀ (State.canRecoverReq s n).1 ↔ pt.same a₀ s := by
  unfold State.canRecoverReq
  (repeat' split) <;> simp [h0, State.setCan_same]

theorem State.canRecovered_same {pt : Part} (h0 : ¬ pt = .can) (a₀ : State) (s : State) (n : Nat) : pt.same a₀ (State.canRecovered s n) ↔ pt.same a₀ s := by
  unfold State.canRecovered
  (repeat' split) <;> simp [h0, State.setCan_same]

theorem State.canRestart_same {pt : Part} (h0 : ¬ pt = .dict) (h1 : ¬ pt = .can) (h2 : ¬ pt = .out) (a₀ : State) (s : State) : pt.same a₀ (State.canRestart s) ↔ pt.same a₀ s := by
  unfold State.canRestart
  (repeat' split) <;> simp [h0, h1, h2, State.endSends_same]

theorem State.canRxError_same {pt : Part} (h0 : ¬ pt = .health) (h1 : ¬ pt = .dict) (h2 : ¬ pt = .stop) (h3 : ¬ pt = .can) (h4 : ¬ pt = .log) (h5 : ¬ pt = .out) (a₀ : State) (s : State) (n : Nat) : pt.same a₀ (State.canRxError s n) ↔ pt.same a₀ s := by
  unfold State.canRxError
  (repeat' split) <;> simp [h0, h1, h2, h3, h4, h5, State.setCan_same, State.emit_same, State.canConfine_same]

theorem State.putSend_same {pt : Part} (h0 : ¬ pt = .can) (h1 : ¬ pt = .free) (a₀ : State) (s : State) (c : Caller) (n : Nat) (b : Nat) (f : CanFrame) : pt.same a₀ (State.putSend s c n b f) ↔ pt.same a₀ s := by
  unfold State.putSend
  simp [h0, h1, State.draw_same, State.setCan_same]

theorem State.canSendReq_same {pt : Part} (h0 : ¬ pt = .can) (h1 : ¬ pt = .free) (a₀ : State) (s : State) (c : Caller) (req : Bytes) : pt.same a₀ (State.canSendReq s c req).1 ↔ pt.same a₀ s := by
  unfold State.canSendReq
  simp; (repeat' split) <;> simp [h0, h1, State.putSend_same]

theorem State.canSleepIn_same {pt : Part} (h0 : ¬ pt = .dict) (h1 : ¬ pt = .can) (h2 : ¬ pt = .out) (a₀ : State) (s : State) (n : Nat) : pt.same a₀ (State.canSleepIn s n) ↔ pt.same a₀ s := by
  unfold State.canSleepIn
  (repeat' split) <;> simp [h0, h1, h2, State.endSends_same, State.emit_same, State.setCan_same]

theorem State.canStepped_same {pt : Part} (h0 : ¬ pt = .can) (a₀ : State) (s : State) : pt.same a₀ (State.canStepped s) ↔ pt.same a₀ s := by
  unfold State.canStepped
  (repeat' split) <;> simp [h0]

theorem State.canTmCommitted_same {pt : Part} (h0 : ¬ pt = .can) (a₀ : State) (s : State) : pt.same a₀ (State.canTmCommitted s) ↔ pt.same a₀ s := by
  unfold State.canTmCommitted
  (repeat' split) <;> simp [h0]

theorem State.canTx_same {pt : Part} (h0 : ¬ pt = .dict) (h1 : ¬ pt = .can) (h2 : ¬ pt = .out) (h3 : ¬ pt = .free) (a₀ : State) (s : State) (c : Caller) (req : Bytes) (trying : Bool) : pt.same a₀ (State.canTx s c req trying).1 ↔ pt.same a₀ s := by
  unfold State.canTx
  (repeat' split) <;> simp [h0, h1, h2, h3, State.canCancelReq_same, State.canSendReq_same]

theorem State.postFifo_same {pt : Part} (h0 : ¬ pt = .health) (h1 : ¬ pt = .can) (h2 : ¬ pt = .fabric) (h3 : ¬ pt = .replies) (h4 : ¬ pt = .log) (a₀ : State) (s : State) (n : Nat) (i : Nat) (q : Nat) (xs : Nat) : pt.same a₀ (State.postFifo s n i q xs) ↔ pt.same a₀ s := by
  induction xs generalizing s with
  | zero => rfl
  | succ n ih =>
    unfold State.postFifo
    split
    · rfl
    · split
      · rfl
      · rename_i e; rw [ih, State.setCan_same (by assumption)]; exact State.post?_same (by assumption) (by assumption) (by assumption) (by assumption) a₀ _ _ _ e

theorem State.fifoPost_same {pt : Part} (h0 : ¬ pt = .health) (h1 : ¬ pt = .can) (h2 : ¬ pt = .fabric) (h3 : ¬ pt = .replies) (h4 : ¬ pt = .log) (a₀ : State) (s : State) (n : Nat) (i : Nat) : pt.same a₀ (State.fifoPost s n i) ↔ pt.same a₀ s := by
  unfold State.fifoPost
  (repeat' split) <;> simp [h0, h1, h2, h3, h4, State.postFifo_same]

theorem State.tmPort_same {pt : Part} (h0 : ¬ pt = .can) (a₀ : State) (s : State) (k : Int) (n : Nat) : pt.same a₀ (State.tmPort s k n) ↔ pt.same a₀ s := by
  unfold State.tmPort
  (repeat' split) <;> simp [h0, State.setCan_same]

theorem State.tmBoundary_same {pt : Part} (h0 : ¬ pt = .can) (a₀ : State) (s : State) : pt.same a₀ (State.tmBoundary s) ↔ pt.same a₀ s := by
  unfold State.tmBoundary
  (repeat' split) <;> simp [h0, State.tmPort_same]

end Sys2Proof.Machine
end

