-- ==== Sys2Proof/Laws/NetOps.lean ====
section
/-!
SUPPORT. What each operation of Ethernet and PTP can move: every part but those it names is as it was.
-/

namespace Sys2Proof.Machine

theorem State.netReset_same {pt : Part} (h0 : ¬ pt = .tb) (h1 : ¬ pt = .net) (h2 : ¬ pt = .log) (a₀ : State) (s : State) : pt.same a₀ (State.netReset s) ↔ pt.same a₀ s := by
  unfold State.netReset
  (repeat' split) <;> simp [h0, h1, h2, State.sourceGone_same]

theorem State.ageOut_same {pt : Part} (h0 : ¬ pt = .net) (a₀ : State) (s : State) (mac : Nat) : pt.same a₀ (State.ageOut s mac) ↔ pt.same a₀ s := by
  unfold State.ageOut
  (repeat' split) <;> simp [h0]

theorem State.setEth_same {pt : Part} (h0 : ¬ pt = .net) (a₀ : State) (s : State) (n : Nat) (f : EthPort → EthPort) : pt.same a₀ (State.setEth s n f) ↔ pt.same a₀ s := by
  unfold State.setEth
  (repeat' split) <;> simp [h0]

theorem State.setPtp_same {pt : Part} (h0 : ¬ pt = .tb) (h1 : ¬ pt = .net) (h2 : ¬ pt = .log) (a₀ : State) (s : State) (n : Nat) (st : Nat) (parent : Option PtpMsg) : pt.same a₀ (State.setPtp s n st parent) ↔ pt.same a₀ s := by
  unfold State.setPtp
  (repeat' split) <;> simp [h0, h1, h2, State.setEth_same, State.sourceGone_same]

theorem State.decidePort_same {pt : Part} (h0 : ¬ pt = .tb) (h1 : ¬ pt = .net) (h2 : ¬ pt = .log) (a₀ : State) (s : State) (n : Nat) : pt.same a₀ (State.decidePort s n) ↔ pt.same a₀ s := by
  unfold State.decidePort
  simp; (repeat' split) <;> simp [h0, h1, h2, State.setPtp_same, State.setEth_same]

theorem State.decidePorts_same {pt : Part} (h0 : ¬ pt = .tb) (h1 : ¬ pt = .net) (h2 : ¬ pt = .log) (a₀ : State) (s : State) : pt.same a₀ (State.decidePorts s) ↔ pt.same a₀ s := by
  unfold State.decidePorts
  (repeat' split) <;> simp [h0, h1, h2, State.decidePort_same]

theorem State.announceIn_same {pt : Part} (h0 : ¬ pt = .tb) (h1 : ¬ pt = .net) (h2 : ¬ pt = .log) (a₀ : State) (s : State) (n : Nat) (m : PtpMsg) : pt.same a₀ (State.announceIn s n m) ↔ pt.same a₀ s := by
  unfold State.announceIn
  (repeat' split) <;> simp [h0, h1, h2, State.setEth_same, State.decidePorts_same]

theorem State.preMaster_same {pt : Part} (h0 : ¬ pt = .tb) (h1 : ¬ pt = .net) (h2 : ¬ pt = .log) (a₀ : State) (s : State) (n : Nat) : pt.same a₀ (State.preMaster s n) ↔ pt.same a₀ s := by
  unfold State.preMaster
  (repeat' split) <;> simp [h0, h1, h2, State.setPtp_same]

theorem State.enqueue_same {pt : Part} (h0 : ¬ pt = .net) (a₀ : State) (s : State) (n : Nat) (e : EgFrame) : pt.same a₀ (State.enqueue s n e) ↔ pt.same a₀ s := by
  unfold State.enqueue
  (repeat' split) <;> simp [h0, State.setEth_same]

theorem State.sendPtp_same {pt : Part} (h0 : ¬ pt = .net) (a₀ : State) (s : State) (n : Nat) (m : PtpMsg) (act : Depart) : pt.same a₀ (State.sendPtp s n m act) ↔ pt.same a₀ s := by
  unfold State.sendPtp
  (repeat' split) <;> simp [h0, State.enqueue_same]

theorem State.announceOut_same {pt : Part} (h0 : ¬ pt = .tb) (h1 : ¬ pt = .net) (h2 : ¬ pt = .log) (a₀ : State) (s : State) (n : Nat) : pt.same a₀ (State.announceOut s n) ↔ pt.same a₀ s := by
  unfold State.announceOut
  (repeat' split) <;> simp [h0, h1, h2, State.preMaster_same, State.setEth_same, State.sendPtp_same]

theorem State.announceTimeout_same {pt : Part} (h0 : ¬ pt = .tb) (h1 : ¬ pt = .net) (h2 : ¬ pt = .log) (a₀ : State) (s : State) (n : Nat) : pt.same a₀ (State.announceTimeout s n) ↔ pt.same a₀ s := by
  unfold State.announceTimeout
  (repeat' split) <;> simp [h0, h1, h2, State.setEth_same, State.setPtp_same]

theorem State.ptpInit_same {pt : Part} (h0 : ¬ pt = .tb) (h1 : ¬ pt = .net) (h2 : ¬ pt = .log) (a₀ : State) (s : State) (n : Nat) : pt.same a₀ (State.ptpInit s n) ↔ pt.same a₀ s := by
  unfold State.ptpInit
  (repeat' split) <;> simp [h0, h1, h2, State.setEth_same, State.sourceGone_same]

theorem State.setEthLink_same {pt : Part} (h0 : ¬ pt = .tb) (h1 : ¬ pt = .net) (h2 : ¬ pt = .log) (a₀ : State) (s : State) (n : Nat) (code : Nat) : pt.same a₀ (State.setEthLink s n code) ↔ pt.same a₀ s := by
  unfold State.setEthLink
  (repeat' split) <;> simp [h0, h1, h2, State.setEth_same, State.ptpInit_same]

theorem State.ethConfigured_same {pt : Part} (h0 : ¬ pt = .tb) (h1 : ¬ pt = .net) (h2 : ¬ pt = .log) (a₀ : State) (s : State) (n : Nat) (old : Bytes) : pt.same a₀ (State.ethConfigured s n old) ↔ pt.same a₀ s := by
  unfold State.ethConfigured
  (repeat' split) <;> simp [h0, h1, h2, State.setEthLink_same]

theorem State.ptpCommitted_same {pt : Part} (h0 : ¬ pt = .tb) (h1 : ¬ pt = .net) (h2 : ¬ pt = .log) (a₀ : State) (s : State) (old : List Bytes) : pt.same a₀ (State.ptpCommitted s old) ↔ pt.same a₀ s := by
  unfold State.ptpCommitted
  (repeat' split) <;> simp [h0, h1, h2, State.ptpInit_same]

theorem State.controlWord_same {pt : Part} (h0 : ¬ pt = .tb) (h1 : ¬ pt = .net) (h2 : ¬ pt = .log) (h3 : ¬ pt = .out) (a₀ : State) (s : State) (n : Nat) (w : Nat) : pt.same a₀ (State.controlWord s n w) ↔ pt.same a₀ s := by
  unfold State.controlWord
  (repeat' split) <;> simp [h0, h1, h2, h3, State.emit_same, State.setEth_same, State.setEthLink_same]

theorem State.delayReqIn_same {pt : Part} (h0 : ¬ pt = .net) (a₀ : State) (s : State) (n : Nat) (m : PtpMsg) : pt.same a₀ (State.delayReqIn s n m) ↔ pt.same a₀ s := by
  unfold State.delayReqIn
  (repeat' split) <;> simp [h0, State.sendPtp_same]

theorem State.delayReqOut_same {pt : Part} (h0 : ¬ pt = .net) (a₀ : State) (s : State) (n : Nat) : pt.same a₀ (State.delayReqOut s n) ↔ pt.same a₀ s := by
  unfold State.delayReqOut
  (repeat' split) <;> simp [h0, State.setEth_same, State.sendPtp_same]

theorem State.delayRespIn_same {pt : Part} (h0 : ¬ pt = .net) (a₀ : State) (s : State) (n : Nat) (m : PtpMsg) : pt.same a₀ (State.delayRespIn s n m) ↔ pt.same a₀ s := by
  unfold State.delayRespIn
  simp; (repeat' split) <;> simp [h0, State.setEth_same]

theorem State.depart_same {pt : Part} (h0 : ¬ pt = .net) (a₀ : State) (s : State) (n : Nat) (m : PtpMsg) (act : Depart) : pt.same a₀ (State.depart s n m act).1 ↔ pt.same a₀ s := by
  unfold State.depart
  (repeat' split) <;> simp [h0, State.sendPtp_same, State.setEth_same]

theorem State.ethOut_same {pt : Part} (h0 : ¬ pt = .out) (a₀ : State) (s : State) (n : Nat) (f : Bytes) : pt.same a₀ (State.ethOut s n f) ↔ pt.same a₀ s := by
  unfold State.ethOut
  (repeat' split) <;> simp [h0, State.emit_same]

theorem State.netRestart_same {pt : Part} (h0 : ¬ pt = .net) (a₀ : State) (s : State) : pt.same a₀ (State.netRestart s) ↔ pt.same a₀ s := by
  unfold State.netRestart
  (repeat' split) <;> simp [h0]

theorem State.learn_same {pt : Part} (h0 : ¬ pt = .net) (a₀ : State) (s : State) (mac : Nat) (n : Nat) : pt.same a₀ (State.learn s mac n) ↔ pt.same a₀ s := by
  unfold State.learn
  (repeat' split) <;> simp [h0]

theorem State.forward_same {pt : Part} (h0 : ¬ pt = .health) (h1 : ¬ pt = .net) (a₀ : State) (s : State) (n : Nat) (f : Bytes) : pt.same a₀ (State.forward s n f) ↔ pt.same a₀ s := by
  unfold State.forward
  (repeat' split) <;> simp [h0, h1, State.learn_same, State.count_same, State.setEth_same, State.enqueue_same]

theorem State.frameIn_same {pt : Part} (h0 : ¬ pt = .health) (h1 : ¬ pt = .net) (a₀ : State) (s : State) (n : Nat) (groups : Bytes) : pt.same a₀ (State.frameIn s n groups) ↔ pt.same a₀ s := by
  unfold State.frameIn
  (repeat' split) <;> simp [h0, h1, State.forward_same, State.setEth_same]

theorem State.uncorrected_same {pt : Part} (h0 : ¬ pt = .net) (a₀ : State) (s : State) : pt.same a₀ (State.uncorrected s) ↔ pt.same a₀ s := by
  unfold State.uncorrected
  (repeat' split) <;> simp [h0]

theorem State.holdResidence_same {pt : Part} (h0 : ¬ pt = .net) (a₀ : State) (s : State) (h : Residence) : pt.same a₀ (State.holdResidence s h) ↔ pt.same a₀ s := by
  unfold State.holdResidence
  (repeat' split) <;> simp [h0]

theorem State.residence_same {pt : Part} (h0 : ¬ pt = .net) (a₀ : State) (s : State) (n : Nat) (e : EgFrame) (m : PtpMsg) : pt.same a₀ (State.residence s n e m).1 ↔ pt.same a₀ s := by
  unfold State.residence
  simp; (repeat' split) <;> simp [h0, State.uncorrected_same, State.holdResidence_same]

theorem State.frameOut_same {pt : Part} (h0 : ¬ pt = .net) (h1 : ¬ pt = .out) (a₀ : State) (s : State) (n : Nat) : pt.same a₀ (State.frameOut s n) ↔ pt.same a₀ s := by
  unfold State.frameOut
  (repeat' split) <;> simp [h0, h1, State.setEth_same, State.ethOut_same, State.depart_same, State.residence_same]

theorem State.offerPtp_same {pt : Part} (h0 : ¬ pt = .tb) (h1 : ¬ pt = .net) (h2 : ¬ pt = .log) (a₀ : State) (s : State) (n : Nat) (leg : Int) : pt.same a₀ (State.offerPtp s n leg) ↔ pt.same a₀ s := by
  unfold State.offerPtp
  (repeat' split) <;> simp [h0, h1, h2, State.setEth_same, State.offset_same]

theorem State.pcsSync_same {pt : Part} (h0 : ¬ pt = .tb) (h1 : ¬ pt = .net) (h2 : ¬ pt = .log) (a₀ : State) (s : State) (n : Nat) (up : Bool) : pt.same a₀ (State.pcsSync s n up) ↔ pt.same a₀ s := by
  unfold State.pcsSync
  (repeat' split) <;> simp [h0, h1, h2, State.setEth_same, State.setEthLink_same]

theorem State.syncIn_same {pt : Part} (h0 : ¬ pt = .tb) (h1 : ¬ pt = .net) (h2 : ¬ pt = .log) (a₀ : State) (s : State) (n : Nat) (m : PtpMsg) : pt.same a₀ (State.syncIn s n m) ↔ pt.same a₀ s := by
  unfold State.syncIn
  simp [h0, h1, h2, State.setEth_same, State.offerPtp_same]; (repeat' split) <;> simp [h0, h1, h2, State.offerPtp_same]

theorem State.syncOut_same {pt : Part} (h0 : ¬ pt = .net) (a₀ : State) (s : State) (n : Nat) : pt.same a₀ (State.syncOut s n) ↔ pt.same a₀ s := by
  unfold State.syncOut
  (repeat' split) <;> simp [h0, State.setEth_same, State.sendPtp_same]

theorem State.syncTimeout_same {pt : Part} (h0 : ¬ pt = .tb) (h1 : ¬ pt = .net) (h2 : ¬ pt = .log) (a₀ : State) (s : State) (n : Nat) : pt.same a₀ (State.syncTimeout s n) ↔ pt.same a₀ s := by
  unfold State.syncTimeout
  (repeat' split) <;> simp [h0, h1, h2, State.sourceGone_same, State.setEth_same]

end Sys2Proof.Machine
end

