-- ==== Sys2Proof/Laws/KeyOps.lean ====
section
/-!
SUPPORT. What each operation of the Keyring can move: every part but those it names is as it was.
-/

namespace Sys2Proof.Machine

theorem returnShadow_same {pt : Part} (h0 : ¬ pt = .settings) (a₀ : State) (s : State) (commit : Nat) : pt.same a₀ (returnShadow s commit) ↔ pt.same a₀ s := by
  unfold returnShadow
  (repeat' split) <;> simp [h0, State.setVal_same]

theorem State.endHolds_same {pt : Part} (h0 : ¬ pt = .dict) (h1 : ¬ pt = .settings) (a₀ : State) (s : State) (e : Editor) : pt.same a₀ (State.endHolds s e) ↔ pt.same a₀ s := by
  unfold State.endHolds
  simp only []
  rw [same_foldl]
  · simp [h0, h1]
  · intro s x; simp [h1, returnShadow_same]

theorem State.endSession_same {pt : Part} (h0 : ¬ pt = .dict) (h1 : ¬ pt = .settings) (h2 : ¬ pt = .comb) (a₀ : State) (s : State) (i : Nat) : pt.same a₀ (State.endSession s i) ↔ pt.same a₀ s := by
  unfold State.endSession
  simp; (repeat' split) <;> simp [h0, h1, h2, State.endHolds_same, State.setNbr_same]

theorem State.dropKeyless_same {pt : Part} (h0 : ¬ pt = .dict) (h1 : ¬ pt = .radio) (h2 : ¬ pt = .out) (a₀ : State) (s : State) : pt.same a₀ (State.dropKeyless s) ↔ pt.same a₀ s := by
  unfold State.dropKeyless
  (repeat' split) <;> simp [h0, h1, h2, State.answer_same]

theorem State.withdrawKeys_same {pt : Part} (h0 : ¬ pt = .dict) (h1 : ¬ pt = .settings) (h2 : ¬ pt = .comb) (h3 : ¬ pt = .radio) (h4 : ¬ pt = .out) (a₀ : State) (s : State) : pt.same a₀ (State.withdrawKeys s) ↔ pt.same a₀ s := by
  unfold State.withdrawKeys
  (repeat' split) <;> simp [h0, h1, h2, h3, h4, State.dropKeyless_same, State.endSession_same, State.flushSession_same]

theorem State.putKey_same {pt : Part} (h0 : ¬ pt = .dict) (h1 : ¬ pt = .settings) (h2 : ¬ pt = .keys) (h3 : ¬ pt = .comb) (h4 : ¬ pt = .radio) (h5 : ¬ pt = .out) (a₀ : State) (s : State) (slot : Nat) (x : KeySlot) : pt.same a₀ (State.putKey s slot x) ↔ pt.same a₀ s := by
  unfold State.putKey
  (repeat' split) <;> simp [h0, h1, h2, h3, h4, h5, State.withdrawKeys_same]

theorem State.keyWritten_same {pt : Part} (h0 : ¬ pt = .dict) (h1 : ¬ pt = .settings) (h2 : ¬ pt = .keys) (h3 : ¬ pt = .comb) (h4 : ¬ pt = .radio) (h5 : ¬ pt = .out) (a₀ : State) (s : State) (c : Caller) (v : Bytes) : pt.same a₀ (State.keyWritten s c v).1 ↔ pt.same a₀ s := by
  unfold State.keyWritten
  (repeat' split) <;> simp [h0, h1, h2, h3, h4, h5, State.putKey_same, State.answer_same]

theorem State.keyErased_same {pt : Part} (h0 : ¬ pt = .dict) (h1 : ¬ pt = .settings) (h2 : ¬ pt = .keys) (h3 : ¬ pt = .comb) (h4 : ¬ pt = .radio) (h5 : ¬ pt = .out) (a₀ : State) (s : State) (c : Caller) (slot : Nat) : pt.same a₀ (State.keyErased s c slot).1 ↔ pt.same a₀ s := by
  unfold State.keyErased
  simp; (repeat' split) <;> simp [h0, h1, h2, h3, h4, h5, State.putKey_same, State.answer_same]

theorem State.keyInvalidated_same {pt : Part} (h0 : ¬ pt = .dict) (h1 : ¬ pt = .settings) (h2 : ¬ pt = .keys) (h3 : ¬ pt = .comb) (h4 : ¬ pt = .radio) (h5 : ¬ pt = .out) (a₀ : State) (s : State) (c : Caller) (slot : Nat) : pt.same a₀ (State.keyInvalidated s c slot).1 ↔ pt.same a₀ s := by
  unfold State.keyInvalidated
  simp; (repeat' split) <;> simp [h0, h1, h2, h3, h4, h5, State.putKey_same, State.answer_same]

theorem State.sealWith_same {pt : Part} (h0 : ¬ pt = .free) (a₀ : State) (s : State) (binding : Nat) (key : Bytes) (plain : Bytes) : pt.same a₀ (State.sealWith s binding key plain).1 ↔ pt.same a₀ s := by
  unfold State.sealWith
  (repeat' split) <;> simp [h0, State.drawBytes_same]

theorem State.sealOp_same {pt : Part} (h0 : ¬ pt = .free) (a₀ : State) (s : State) (binding : Nat) (data : Bytes) : pt.same a₀ (State.sealOp s binding data).1 ↔ pt.same a₀ s := by
  unfold State.sealOp
  (repeat' split) <;> simp [h0, State.sealWith_same]

theorem State.unsealOp_same {pt : Part} (a₀ : State) (s : State) (binding : Nat) (data : Bytes) : pt.same a₀ (State.unsealOp s binding data).1 ↔ pt.same a₀ s := by
  unfold State.unsealOp
  (repeat' split) <;> simp []

theorem State.forwardOp_same {pt : Part} (h0 : ¬ pt = .free) (a₀ : State) (s : State) (binding : Nat) (data : Bytes) : pt.same a₀ (State.forwardOp s binding data).1 ↔ pt.same a₀ s := by
  unfold State.forwardOp
  (repeat' split) <;> simp [h0, State.sealWith_same]

theorem State.sealPort_same {pt : Part} (h0 : ¬ pt = .free) (a₀ : State) (s : State) (c : Caller) (req : Bytes) : pt.same a₀ (State.sealPort s c req).1 ↔ pt.same a₀ s := by
  unfold State.sealPort
  simp; (repeat' split) <;> simp [h0, State.sealOp_same, State.unsealOp_same, State.forwardOp_same]

theorem State.keyReload_same {pt : Part} (h0 : ¬ pt = .dict) (h1 : ¬ pt = .settings) (h2 : ¬ pt = .keys) (h3 : ¬ pt = .comb) (h4 : ¬ pt = .radio) (h5 : ¬ pt = .out) (a₀ : State) (s : State) (slot : Nat) : pt.same a₀ (State.keyReload s slot) ↔ pt.same a₀ s := by
  unfold State.keyReload
  (repeat' split) <;> simp [h0, h1, h2, h3, h4, h5, State.answer?_same, State.keyInvalidated_same]

end Sys2Proof.Machine
end

