-- ==== Sys2Proof/Laws/CombStore.lean ====
section
/-!
SUPPORT. What each operation of the Comb store can move: every part but those it names is as it was.
-/

namespace Sys2Proof.Machine

theorem State.nearFull_same {pt : Part} (h0 : ¬ pt = .comb) (h1 : ¬ pt = .log) (a₀ : State) (s : State) : pt.same a₀ (State.nearFull s) ↔ pt.same a₀ s := by
  unfold State.nearFull
  (repeat' split) <;> simp [h0, h1, State.logEv_same]

theorem State.combSettled_same {pt : Part} (h0 : ¬ pt = .comb) (h1 : ¬ pt = .log) (a₀ : State) (s : State) : pt.same a₀ (State.combSettled s) ↔ pt.same a₀ s := by
  unfold State.combSettled
  (repeat' split) <;> simp [h0, h1, State.nearFull_same]

theorem State.blockExpire_same {pt : Part} (h0 : ¬ pt = .comb) (h1 : ¬ pt = .log) (a₀ : State) (s : State) (bucket : Nat) (slot : Nat) : pt.same a₀ (State.blockExpire s bucket slot) ↔ pt.same a₀ s := by
  unfold State.blockExpire
  (repeat' split) <;> simp [h0, h1, State.combSettled_same]

theorem State.pruneTracks_same {pt : Part} (h0 : ¬ pt = .comb) (a₀ : State) (s : State) : pt.same a₀ (State.pruneTracks s) ↔ pt.same a₀ s := by
  unfold State.pruneTracks
  (repeat' split) <;> simp [h0]

theorem State.blockSlot_same {pt : Part} (h0 : ¬ pt = .comb) (h1 : ¬ pt = .log) (a₀ : State) (s : State) (bucket : Nat) (slot : Nat) : pt.same a₀ (State.blockSlot s bucket slot) ↔ pt.same a₀ s := by
  unfold State.blockSlot
  (repeat' split) <;> simp [h0, h1, State.logEv_same, State.combSettled_same, State.pruneTracks_same]

theorem State.clearBlocked_same {pt : Part} (h0 : ¬ pt = .comb) (h1 : ¬ pt = .log) (a₀ : State) (s : State) : pt.same a₀ (State.clearBlocked s).1 ↔ pt.same a₀ s := by
  unfold State.clearBlocked
  (repeat' split) <;> simp [h0, h1, State.combSettled_same]

theorem State.retireDone_same {pt : Part} (h0 : ¬ pt = .comb) (h1 : ¬ pt = .log) (a₀ : State) (s : State) (g : Nat) : pt.same a₀ (State.retireDone s g) ↔ pt.same a₀ s := by
  unfold State.retireDone
  (repeat' split) <;> simp [h0, h1, State.combSettled_same, State.logEv_same]

theorem State.retireGroup_same {pt : Part} (h0 : ¬ pt = .comb) (h1 : ¬ pt = .log) (a₀ : State) (s : State) (g : Nat) : pt.same a₀ (State.retireGroup s g) ↔ pt.same a₀ s := by
  unfold State.retireGroup
  (repeat' split) <;> simp [h0, h1, State.combSettled_same]

theorem State.sweep_same {pt : Part} (h0 : ¬ pt = .comb) (h1 : ¬ pt = .log) (a₀ : State) (s : State) (bucket : Nat) : pt.same a₀ (State.sweep s bucket) ↔ pt.same a₀ s := by
  unfold State.sweep
  (repeat' split) <;> simp [h0, h1, State.combSettled_same, State.pruneTracks_same]

end Sys2Proof.Machine
end

