-- ==== Sys2Proof/Laws/CombOps.lean ====
section
/-!
SUPPORT. What each operation of Comb requests can move: every part but those it names is as it was.
-/

namespace Sys2Proof.Machine

theorem State.combAnswer_same {pt : Part} (h0 : ¬ pt = .dict) (h1 : ¬ pt = .fabric) (h2 : ¬ pt = .replies) (h3 : ¬ pt = .out) (a₀ : State) (s : State) (c : Caller) (out : Nat) (resp : Bytes) : pt.same a₀ (State.combAnswer s c out resp) ↔ pt.same a₀ s := by
  unfold State.combAnswer
  (repeat' split) <;> simp [h0, h1, h2, h3, State.answer_same]

theorem State.combDiscard_same {pt : Part} (h0 : ¬ pt = .dict) (h1 : ¬ pt = .fabric) (h2 : ¬ pt = .replies) (h3 : ¬ pt = .out) (a₀ : State) (s : State) (out : Nat) (r : CombReq) : pt.same a₀ (State.combDiscard s out r) ↔ pt.same a₀ s := by
  unfold State.combDiscard
  (repeat' split) <;> simp [h0, h1, h2, h3, State.combAnswer_same]

theorem State.noteLater_same {pt : Part} (h0 : ¬ pt = .comb) (a₀ : State) (s : State) (seq : Nat) (old : List Entry) : pt.same a₀ (State.noteLater s seq old) ↔ pt.same a₀ s := by
  unfold State.noteLater
  (repeat' split) <;> simp [h0]

theorem State.setFlight_same {pt : Part} (h0 : ¬ pt = .comb) (a₀ : State) (s : State) (seq : Nat) (f : Flight → Flight) : pt.same a₀ (State.setFlight s seq f) ↔ pt.same a₀ s := by
  unfold State.setFlight
  (repeat' split) <;> simp [h0]

theorem State.combReply_same {pt : Part} (h0 : ¬ pt = .health) (h1 : ¬ pt = .dict) (h2 : ¬ pt = .fabric) (h3 : ¬ pt = .replies) (h4 : ¬ pt = .out) (a₀ : State) (s : State) (r : CombReq) (seq : Nat) (v : Verdict) (tail : Bytes) : pt.same a₀ (State.combReply s r seq v tail) ↔ pt.same a₀ s := by
  unfold State.combReply
  (repeat' split) <;> simp [h0, h1, h2, h3, h4, State.combAnswer_same, State.count_same]

theorem State.endReq_same {pt : Part} (h0 : ¬ pt = .health) (h1 : ¬ pt = .dict) (h2 : ¬ pt = .comb) (h3 : ¬ pt = .fabric) (h4 : ¬ pt = .replies) (h5 : ¬ pt = .out) (a₀ : State) (s : State) (r : CombReq) (seq : Nat) (v : Verdict) (tail : Bytes) : pt.same a₀ (State.endReq s r seq v tail) ↔ pt.same a₀ s := by
  unfold State.endReq
  (repeat' split) <;> simp [h0, h1, h2, h3, h4, h5, State.combReply_same]

theorem State.seenBefore_same {pt : Part} (h0 : ¬ pt = .comb) (a₀ : State) (s : State) (f : Flight) : pt.same a₀ (State.seenBefore s f) ↔ pt.same a₀ s := by
  unfold State.seenBefore
  (repeat' split) <;> simp [h0]

theorem State.sendShorten_same {pt : Part} (h0 : ¬ pt = .dict) (h1 : ¬ pt = .out) (a₀ : State) (s : State) (c : Comb) (l : List Entry) : pt.same a₀ (State.sendShorten s c l) ↔ pt.same a₀ s := by
  unfold State.sendShorten
  (repeat' split) <;> simp [h0, h1, State.toNbr_same]

theorem State.release_same {pt : Part} (h0 : ¬ pt = .dict) (h1 : ¬ pt = .comb) (h2 : ¬ pt = .log) (h3 : ¬ pt = .out) (a₀ : State) (s : State) (r : Creq) (tacc : Nat) : pt.same a₀ (State.release s r tacc).1 ↔ pt.same a₀ s := by
  unfold State.release
  simp; (repeat' split) <;> simp [h0, h1, h2, h3, State.combSettled_same, State.pruneTracks_same, State.sendShorten_same]

theorem State.writeEntries_same {pt : Part} (h0 : ¬ pt = .comb) (h1 : ¬ pt = .log) (a₀ : State) (s : State) (d : Demand) (l : List Cov) : pt.same a₀ (State.writeEntries s d l) ↔ pt.same a₀ s := by
  unfold State.writeEntries
  (repeat' split) <;> simp [h0, h1, State.combSettled_same]

theorem State.forceArea_same {pt : Part} (h0 : ¬ pt = .dict) (h1 : ¬ pt = .comb) (h2 : ¬ pt = .log) (h3 : ¬ pt = .out) (a₀ : State) (s : State) (now : Nat) (l : List Cov) : pt.same a₀ (State.forceArea s now l).1 ↔ pt.same a₀ s := by
  unfold State.forceArea
  (repeat' split) <;> simp [h0, h1, h2, h3, State.pruneTracks_same, State.sendShorten_same, State.logEv_same]

theorem State.commitReq_same {pt : Part} (h0 : ¬ pt = .dict) (h1 : ¬ pt = .comb) (h2 : ¬ pt = .log) (h3 : ¬ pt = .out) (a₀ : State) (s : State) (r : Creq) (raw : Bytes) (f : Flight) (mirror : Nat) : pt.same a₀ (State.commitReq s r raw f mirror).1 ↔ pt.same a₀ s := by
  unfold State.commitReq
  (repeat' split) <;> simp [h0, h1, h2, h3, State.sendShorten_same, State.forceArea_same, State.combSettled_same]

theorem State.sendPrepares_same {pt : Part} (h0 : ¬ pt = .dict) (h1 : ¬ pt = .comb) (h2 : ¬ pt = .out) (a₀ : State) (s : State) (owner : Nat) (tag : Nat) (mirror : Nat) (seq : Nat) (parts : List (Nat × List Cov)) : pt.same a₀ (State.sendPrepares s owner tag mirror seq parts).1 ↔ pt.same a₀ s := by
  unfold State.sendPrepares
  rw [same_foldl_fst]
  intro z x
  simp [h0, h1, h2, State.toNbr_same]

theorem State.runClaim_same {pt : Part} (h0 : ¬ pt = .health) (h1 : ¬ pt = .dict) (h2 : ¬ pt = .comb) (h3 : ¬ pt = .fabric) (h4 : ¬ pt = .replies) (h5 : ¬ pt = .log) (h6 : ¬ pt = .out) (a₀ : State) (s : State) (r : CombReq) (f : Flight) : pt.same a₀ (State.runClaim s r f) ↔ pt.same a₀ s := by
  unfold State.runClaim
  (repeat' split) <;> simp [h0, h1, h2, h3, h4, h5, h6, State.endReq_same, State.writeEntries_same, State.commitReq_same, State.sendPrepares_same, State.setFlight_same]

theorem State.runReq_same {pt : Part} (h0 : ¬ pt = .health) (h1 : ¬ pt = .dict) (h2 : ¬ pt = .comb) (h3 : ¬ pt = .fabric) (h4 : ¬ pt = .replies) (h5 : ¬ pt = .log) (h6 : ¬ pt = .out) (a₀ : State) (s : State) (r : CombReq) (f : Flight) : pt.same a₀ (State.runReq s r f) ↔ pt.same a₀ s := by
  unfold State.runReq
  simp; (repeat' split) <;> simp [h0, h1, h2, h3, h4, h5, h6, State.endReq_same, State.release_same, State.runClaim_same]

theorem State.runTrim_same {pt : Part} (h0 : ¬ pt = .dict) (h1 : ¬ pt = .comb) (h2 : ¬ pt = .log) (h3 : ¬ pt = .out) (a₀ : State) (s : State) (t : TrimOp) (f : Flight) : pt.same a₀ (State.runTrim s t f) ↔ pt.same a₀ s := by
  unfold State.runTrim
  simp; (repeat' split) <;> simp [h0, h1, h2, h3, State.combSettled_same, State.pruneTracks_same, State.sendShorten_same]

end Sys2Proof.Machine
end

