-- ==== Sys2Proof/Laws/RegionOps.lean ====
section
/-!
SUPPORT. What each operation of regions and neighbours can move: every part but those it names is as it was.
-/

namespace Sys2Proof.Machine

theorem State.acceptOp_same {pt : Part} (h0 : ¬ pt = .health) (h1 : ¬ pt = .comb) (a₀ : State) (s : State) (op : FlightOp) (counted : Bool) : pt.same a₀ (State.acceptOp s op counted).1 ↔ pt.same a₀ s := by
  unfold State.acceptOp
  (repeat' split) <;> simp [h0, h1, State.count_same]

theorem State.acceptNext_same {pt : Part} (h0 : ¬ pt = .health) (h1 : ¬ pt = .comb) (a₀ : State) (s : State) : pt.same a₀ (State.acceptNext s) ↔ pt.same a₀ s := by
  unfold State.acceptNext
  (repeat' split) <;> simp [h0, h1, State.acceptOp_same]

theorem State.sendPhase_same {pt : Part} (h0 : ¬ pt = .dict) (h1 : ¬ pt = .comb) (h2 : ¬ pt = .out) (a₀ : State) (s : State) (n : Nat) (type : Nat) (exch : Nat) : pt.same a₀ (State.sendPhase s n type exch) ↔ pt.same a₀ s := by
  unfold State.sendPhase
  (repeat' split) <;> simp [h0, h1, h2, State.toNbr_same]

theorem State.exchangeDrop_same {pt : Part} (h0 : ¬ pt = .dict) (h1 : ¬ pt = .comb) (h2 : ¬ pt = .log) (h3 : ¬ pt = .out) (a₀ : State) (s : State) (f : Flight) (asked : List Asked) : pt.same a₀ (State.exchangeDrop s f asked) ↔ pt.same a₀ s := by
  unfold State.exchangeDrop
  (repeat' split) <;> simp [h0, h1, h2, h3, State.combSettled_same, State.noteLater_same, State.sendPhase_same]

theorem State.combEndFlight_same {pt : Part} (h0 : ¬ pt = .dict) (h1 : ¬ pt = .comb) (h2 : ¬ pt = .fabric) (h3 : ¬ pt = .replies) (h4 : ¬ pt = .log) (h5 : ¬ pt = .out) (a₀ : State) (s : State) (out : Nat) (f : Flight) : pt.same a₀ (State.combEndFlight s out f) ↔ pt.same a₀ s := by
  unfold State.combEndFlight
  (repeat' split) <;> simp [h0, h1, h2, h3, h4, h5, State.exchangeDrop_same, State.combDiscard_same, State.combAnswer_same, State.answer_same]

theorem State.combEnd_same {pt : Part} (h0 : ¬ pt = .dict) (h1 : ¬ pt = .comb) (h2 : ¬ pt = .fabric) (h3 : ¬ pt = .replies) (h4 : ¬ pt = .log) (h5 : ¬ pt = .out) (a₀ : State) (s : State) (p : Caller → Bool) (out : Nat) : pt.same a₀ (State.combEnd s p out) ↔ pt.same a₀ s := by
  unfold State.combEnd
  (repeat' split) <;> simp [h0, h1, h2, h3, h4, h5, State.combDiscard_same, State.combEndFlight_same]

theorem State.combDiscardAll_same {pt : Part} (h0 : ¬ pt = .dict) (h1 : ¬ pt = .comb) (h2 : ¬ pt = .fabric) (h3 : ¬ pt = .replies) (h4 : ¬ pt = .log) (h5 : ¬ pt = .out) (a₀ : State) (s : State) (out : Nat) : pt.same a₀ (State.combDiscardAll s out) ↔ pt.same a₀ s := by
  unfold State.combDiscardAll
  (repeat' split) <;> simp [h0, h1, h2, h3, h4, h5, State.combSettled_same, State.combDiscard_same, State.combAnswer_same, State.answer_same]

theorem State.combReset_same {pt : Part} (h0 : ¬ pt = .dict) (h1 : ¬ pt = .comb) (h2 : ¬ pt = .fabric) (h3 : ¬ pt = .replies) (h4 : ¬ pt = .log) (h5 : ¬ pt = .out) (a₀ : State) (s : State) : pt.same a₀ (State.combReset s) ↔ pt.same a₀ s := by
  unfold State.combReset
  (repeat' split) <;> simp [h0, h1, h2, h3, h4, h5, State.combDiscardAll_same]

theorem State.applyGroup_same {pt : Part} (h0 : ¬ pt = .dict) (h1 : ¬ pt = .settings) (a₀ : State) (s : State) (commit : Nat) : pt.same a₀ (State.applyGroup s commit) ↔ pt.same a₀ s := by
  unfold State.applyGroup
  simp only []
  rw [same_foldl]
  · simp [h0, h1]
  · intro s x; split <;> simp [h1, State.setVal_same]

theorem State.applyVals_same {pt : Part} (h0 : ¬ pt = .dict) (h1 : ¬ pt = .settings) (a₀ : State) (s : State) (commit : Nat) (vals : GroupVals) : pt.same a₀ (State.applyVals s commit vals) ↔ pt.same a₀ s := by
  unfold State.applyVals
  (repeat' split) <;> simp [h0, h1, State.applyGroup_same, State.setVal_same]

theorem State.clashEnded_same {pt : Part} (h0 : ¬ pt = .clash) (h1 : ¬ pt = .stop) (a₀ : State) (s : State) : pt.same a₀ (State.clashEnded s) ↔ pt.same a₀ s := by
  unfold State.clashEnded
  (repeat' split) <;> simp [h0, h1, State.refreshGo_same]

theorem State.clashHeard_same {pt : Part} (h0 : ¬ pt = .clash) (h1 : ¬ pt = .stop) (h2 : ¬ pt = .log) (a₀ : State) (s : State) : pt.same a₀ (State.clashHeard s) ↔ pt.same a₀ s := by
  unfold State.clashHeard
  (repeat' split) <;> simp [h0, h1, h2, State.refreshGo_same, State.logEv_same]

theorem State.clashSilent_same {pt : Part} (h0 : ¬ pt = .clash) (h1 : ¬ pt = .stop) (a₀ : State) (s : State) : pt.same a₀ (State.clashSilent s) ↔ pt.same a₀ s := by
  unfold State.clashSilent
  (repeat' split) <;> simp [h0, h1, State.clashEnded_same]

theorem State.prepareTag_same {pt : Part} (h0 : ¬ pt = .free) (a₀ : State) (s : State) (n : Nat) (ms : List Mirror) : pt.same a₀ (State.prepareTag s n ms).1 ↔ pt.same a₀ s := by
  unfold State.prepareTag
  (repeat' split) <;> simp [h0, State.draw_same]

theorem State.msgAnswer_same {pt : Part} (h0 : ¬ pt = .dict) (h1 : ¬ pt = .fabric) (h2 : ¬ pt = .replies) (h3 : ¬ pt = .out) (a₀ : State) (s : State) (r : CombReq) (owner : Nat) (tag : Nat) (seq : Nat) (v : Verdict) : pt.same a₀ (State.msgAnswer s r owner tag seq v) ↔ pt.same a₀ s := by
  unfold State.msgAnswer
  (repeat' split) <;> simp [h0, h1, h2, h3, State.combAnswer_same]

theorem State.runPrepare_same {pt : Part} (h0 : ¬ pt = .dict) (h1 : ¬ pt = .comb) (h2 : ¬ pt = .fabric) (h3 : ¬ pt = .replies) (h4 : ¬ pt = .log) (h5 : ¬ pt = .out) (h6 : ¬ pt = .free) (a₀ : State) (s : State) (n : Nat) (r : CombReq) (f : Flight) : pt.same a₀ (State.runPrepare s n r f) ↔ pt.same a₀ s := by
  unfold State.runPrepare
  (repeat' split) <;> simp [h0, h1, h2, h3, h4, h5, h6, State.prepareTag_same, State.combSettled_same, State.msgAnswer_same]

theorem State.runShorten_same {pt : Part} (h0 : ¬ pt = .dict) (h1 : ¬ pt = .comb) (h2 : ¬ pt = .fabric) (h3 : ¬ pt = .replies) (h4 : ¬ pt = .log) (h5 : ¬ pt = .out) (a₀ : State) (s : State) (n : Nat) (r : CombReq) (seq : Nat) : pt.same a₀ (State.runShorten s n r seq) ↔ pt.same a₀ s := by
  unfold State.runShorten
  (repeat' split) <;> simp [h0, h1, h2, h3, h4, h5, State.combSettled_same, State.msgAnswer_same]

theorem State.tryLive_same {pt : Part} (h0 : ¬ pt = .comb) (h1 : ¬ pt = .log) (a₀ : State) (s : State) (n : Nat) : pt.same a₀ (State.tryLive s n) ↔ pt.same a₀ s := by
  unfold State.tryLive
  (repeat' split) <;> simp [h0, h1, State.logEv_same, State.setNbr_same]

theorem State.runSync_same {pt : Part} (h0 : ¬ pt = .dict) (h1 : ¬ pt = .comb) (h2 : ¬ pt = .fabric) (h3 : ¬ pt = .replies) (h4 : ¬ pt = .log) (h5 : ¬ pt = .out) (a₀ : State) (s : State) (n : Nat) (r : CombReq) (f : Flight) : pt.same a₀ (State.runSync s n r f) ↔ pt.same a₀ s := by
  unfold State.runSync
  simp; (repeat' split) <;> simp [h0, h1, h2, h3, h4, h5, State.combSettled_same, State.setNbr_same, State.logEv_same, State.msgAnswer_same, State.tryLive_same]

theorem State.dropPrepared_same {pt : Part} (h0 : ¬ pt = .comb) (a₀ : State) (s : State) (p : Prepared) : pt.same a₀ (State.dropPrepared s p) ↔ pt.same a₀ s := by
  unfold State.dropPrepared
  (repeat' split) <;> simp [h0]

theorem State.runLateAbort_same {pt : Part} (h0 : ¬ pt = .dict) (h1 : ¬ pt = .comb) (h2 : ¬ pt = .fabric) (h3 : ¬ pt = .replies) (h4 : ¬ pt = .log) (h5 : ¬ pt = .out) (a₀ : State) (s : State) (n : Nat) (r : CombReq) (f : Flight) : pt.same a₀ (State.runLateAbort s n r f) ↔ pt.same a₀ s := by
  unfold State.runLateAbort
  simp; (repeat' split) <;> simp [h0, h1, h2, h3, h4, h5, State.msgAnswer_same, State.dropPrepared_same, State.combSettled_same]

theorem State.runSite_same {pt : Part} (h0 : ¬ pt = .dict) (h1 : ¬ pt = .settings) (h2 : ¬ pt = .comb) (h3 : ¬ pt = .log) (h4 : ¬ pt = .out) (a₀ : State) (s : State) (c : Caller) (vals : GroupVals) (seq : Nat) : pt.same a₀ (State.runSite s c vals seq) ↔ pt.same a₀ s := by
  unfold State.runSite
  (repeat' split) <;> simp [h0, h1, h2, h3, h4, State.setVal_same, State.applyVals_same, State.answer_same, State.logEv_same, State.combSettled_same]

theorem State.closeNbr_same {pt : Part} (h0 : ¬ pt = .dict) (h1 : ¬ pt = .settings) (h2 : ¬ pt = .comb) (h3 : ¬ pt = .out) (a₀ : State) (s : State) (n : Nat) : pt.same a₀ (State.closeNbr s n) ↔ pt.same a₀ s := by
  unfold State.closeNbr
  (repeat' split) <;> simp [h0, h1, h2, h3, State.endSession_same, State.sendClose_same, State.setNbr_same]

theorem State.helloNbr_same {pt : Part} (h0 : ¬ pt = .comb) (h1 : ¬ pt = .out) (h2 : ¬ pt = .free) (a₀ : State) (s : State) (n : Nat) : pt.same a₀ (State.helloNbr s n) ↔ pt.same a₀ s := by
  unfold State.helloNbr
  (repeat' split) <;> simp [h0, h1, h2, State.drawBytes_same, State.emit_same, State.setNbr_same]

theorem State.sendSync_same {pt : Part} (h0 : ¬ pt = .dict) (h1 : ¬ pt = .comb) (h2 : ¬ pt = .out) (a₀ : State) (s : State) (n : Nat) : pt.same a₀ (State.sendSync s n) ↔ pt.same a₀ s := by
  unfold State.sendSync
  (repeat' split) <;> simp [h0, h1, h2, State.toNbr_same, State.setNbr_same]

theorem State.enterSyncing_same {pt : Part} (h0 : ¬ pt = .dict) (h1 : ¬ pt = .comb) (h2 : ¬ pt = .out) (a₀ : State) (s : State) (n : Nat) : pt.same a₀ (State.enterSyncing s n) ↔ pt.same a₀ s := by
  unfold State.enterSyncing
  (repeat' split) <;> simp [h0, h1, h2, State.sendSync_same, State.setNbr_same]

theorem State.nbrCommitted_same {pt : Part} (h0 : ¬ pt = .dict) (h1 : ¬ pt = .settings) (h2 : ¬ pt = .comb) (h3 : ¬ pt = .out) (h4 : ¬ pt = .free) (a₀ : State) (s : State) (old : Bytes) (n : Nat) : pt.same a₀ (State.nbrCommitted s old n) ↔ pt.same a₀ s := by
  unfold State.nbrCommitted
  (repeat' split) <;> simp [h0, h1, h2, h3, h4, State.closeNbr_same, State.helloNbr_same, State.enterSyncing_same, State.setNbr_same]

theorem State.runRegion_same {pt : Part} (h0 : ¬ pt = .dict) (h1 : ¬ pt = .settings) (h2 : ¬ pt = .comb) (h3 : ¬ pt = .out) (h4 : ¬ pt = .free) (a₀ : State) (s : State) (c : Caller) (vals : GroupVals) (seq : Nat) : pt.same a₀ (State.runRegion s c vals seq) ↔ pt.same a₀ s := by
  unfold State.runRegion
  (repeat' split) <;> simp [h0, h1, h2, h3, h4, State.applyVals_same, State.setVal_same, State.nbrCommitted_same, State.answer_same]

theorem State.runFlight_same {pt : Part} (h0 : ¬ pt = .health) (h1 : ¬ pt = .dict) (h2 : ¬ pt = .settings) (h3 : ¬ pt = .comb) (h4 : ¬ pt = .fabric) (h5 : ¬ pt = .replies) (h6 : ¬ pt = .log) (h7 : ¬ pt = .out) (h8 : ¬ pt = .free) (a₀ : State) (s : State) (f : Flight) : pt.same a₀ (State.runFlight s f) ↔ pt.same a₀ s := by
  unfold State.runFlight
  (repeat' split) <;> simp [h0, h1, h2, h3, h4, h5, h6, h7, h8, State.runReq_same, State.runTrim_same, State.runPrepare_same, State.runShorten_same, State.runSync_same, State.runLateAbort_same, State.runSite_same, State.runRegion_same]

theorem State.tryFlight_same {pt : Part} (h0 : ¬ pt = .health) (h1 : ¬ pt = .dict) (h2 : ¬ pt = .settings) (h3 : ¬ pt = .comb) (h4 : ¬ pt = .fabric) (h5 : ¬ pt = .replies) (h6 : ¬ pt = .log) (h7 : ¬ pt = .out) (h8 : ¬ pt = .free) (a₀ : State) (s : State) (f : Flight) : pt.same a₀ (State.tryFlight s f) ↔ pt.same a₀ s := by
  unfold State.tryFlight
  (repeat' split) <;> simp [h0, h1, h2, h3, h4, h5, h6, h7, h8, State.setFlight_same, State.noteLater_same, State.runFlight_same]

theorem State.settle_same {pt : Part} (h0 : ¬ pt = .health) (h1 : ¬ pt = .dict) (h2 : ¬ pt = .settings) (h3 : ¬ pt = .comb) (h4 : ¬ pt = .fabric) (h5 : ¬ pt = .replies) (h6 : ¬ pt = .log) (h7 : ¬ pt = .out) (h8 : ¬ pt = .free) (a₀ : State) (s : State) (seq : Nat) : pt.same a₀ (State.settle s seq) ↔ pt.same a₀ s := by
  unfold State.settle
  rw [same_foldl]
  intro s x; split <;> simp [h0, h1, h2, h3, h4, h5, h6, h7, h8, State.tryFlight_same]

theorem State.internalOp_same {pt : Part} (h0 : ¬ pt = .health) (h1 : ¬ pt = .dict) (h2 : ¬ pt = .settings) (h3 : ¬ pt = .comb) (h4 : ¬ pt = .fabric) (h5 : ¬ pt = .replies) (h6 : ¬ pt = .log) (h7 : ¬ pt = .out) (h8 : ¬ pt = .free) (a₀ : State) (s : State) (op : FlightOp) : pt.same a₀ (State.internalOp s op) ↔ pt.same a₀ s := by
  unfold State.internalOp
  (repeat' split) <;> simp [h0, h1, h2, h3, h4, h5, h6, h7, h8, State.acceptOp_same, State.settle_same]

theorem State.combIntake_same {pt : Part} (h0 : ¬ pt = .health) (h1 : ¬ pt = .dict) (h2 : ¬ pt = .comb) (h3 : ¬ pt = .fabric) (h4 : ¬ pt = .replies) (h5 : ¬ pt = .out) (a₀ : State) (s : State) (c : Caller) (req : Bytes) : pt.same a₀ (State.combIntake s c req) ↔ pt.same a₀ s := by
  unfold State.combIntake
  (repeat' split) <;> simp [h0, h1, h2, h3, h4, h5, State.combReply_same]

theorem State.hbJudged_same {pt : Part} (h0 : ¬ pt = .dict) (h1 : ¬ pt = .comb) (h2 : ¬ pt = .out) (a₀ : State) (s : State) (n : Nat) (j : Int) (emptied : Bool) (eth : Bool) : pt.same a₀ (State.hbJudged s n j emptied eth) ↔ pt.same a₀ s := by
  unfold State.hbJudged
  (repeat' split) <;> simp [h0, h1, h2, State.setNbr_same, State.enterSyncing_same, State.sendSync_same]

theorem State.hbReceived_same {pt : Part} (h0 : ¬ pt = .dict) (h1 : ¬ pt = .comb) (h2 : ¬ pt = .log) (h3 : ¬ pt = .out) (a₀ : State) (s : State) (n : Nat) (body : Bytes) (eth : Bool) : pt.same a₀ (State.hbReceived s n body eth) ↔ pt.same a₀ s := by
  unfold State.hbReceived
  (repeat' split) <;> simp [h0, h1, h2, h3, State.logEv_same, State.setNbr_same, State.hbJudged_same]

theorem State.commitPrepared_same {pt : Part} (h0 : ¬ pt = .comb) (h1 : ¬ pt = .log) (a₀ : State) (s : State) (p : Prepared) : pt.same a₀ (State.commitPrepared s p) ↔ pt.same a₀ s := by
  unfold State.commitPrepared
  (repeat' split) <;> simp [h0, h1, State.combSettled_same, State.noteLater_same]

theorem State.runCommit_same {pt : Part} (h0 : ¬ pt = .dict) (h1 : ¬ pt = .comb) (h2 : ¬ pt = .fabric) (h3 : ¬ pt = .replies) (h4 : ¬ pt = .log) (h5 : ¬ pt = .out) (a₀ : State) (s : State) (n : Nat) (r : CombReq) : pt.same a₀ (State.runCommit s n r) ↔ pt.same a₀ s := by
  unfold State.runCommit
  (repeat' split) <;> simp [h0, h1, h2, h3, h4, h5, State.msgAnswer_same, State.commitPrepared_same, State.dropPrepared_same]

theorem State.runAbort_same {pt : Part} (h0 : ¬ pt = .dict) (h1 : ¬ pt = .comb) (h2 : ¬ pt = .fabric) (h3 : ¬ pt = .replies) (h4 : ¬ pt = .log) (h5 : ¬ pt = .out) (a₀ : State) (s : State) (n : Nat) (r : CombReq) : pt.same a₀ (State.runAbort s n r) ↔ pt.same a₀ s := by
  unfold State.runAbort
  (repeat' split) <;> simp [h0, h1, h2, h3, h4, h5, State.msgAnswer_same, State.combSettled_same, State.noteLater_same, State.dropPrepared_same]

theorem State.regionMsg_same {pt : Part} (h0 : ¬ pt = .health) (h1 : ¬ pt = .dict) (h2 : ¬ pt = .settings) (h3 : ¬ pt = .comb) (h4 : ¬ pt = .fabric) (h5 : ¬ pt = .replies) (h6 : ¬ pt = .log) (h7 : ¬ pt = .out) (h8 : ¬ pt = .free) (a₀ : State) (s : State) (n : Nat) (r : CombReq) : pt.same a₀ (State.regionMsg s n r) ↔ pt.same a₀ s := by
  unfold State.regionMsg
  generalize u r.req 0 1 = ty
  dsimp only
  split
  · rw [State.msgAnswer_same (by assumption) (by assumption) (by assumption) (by assumption)]
  · split
    · rw [State.msgAnswer_same (by assumption) (by assumption) (by assumption) (by assumption), State.hbReceived_same (by assumption) (by assumption) (by assumption) (by assumption)]
    · rw [State.runCommit_same (by assumption) (by assumption) (by assumption) (by assumption) (by assumption) (by assumption)]
    · split
      · split
        · split
          · rw [State.msgAnswer_same (by assumption) (by assumption) (by assumption) (by assumption)]
          · rw [State.internalOp_same (by assumption) (by assumption) (by assumption) (by assumption) (by assumption) (by assumption) (by assumption) (by assumption) (by assumption)]
        · rw [State.runAbort_same (by assumption) (by assumption) (by assumption) (by assumption) (by assumption) (by assumption)]
      · rw [State.runAbort_same (by assumption) (by assumption) (by assumption) (by assumption) (by assumption) (by assumption)]
    · split
      · rw [State.msgAnswer_same (by assumption) (by assumption) (by assumption) (by assumption)]
      · rw [State.internalOp_same (by assumption) (by assumption) (by assumption) (by assumption) (by assumption) (by assumption) (by assumption) (by assumption) (by assumption)]

theorem State.neighbourPort_same {pt : Part} (h0 : ¬ pt = .clash) (h1 : ¬ pt = .health) (h2 : ¬ pt = .dict) (h3 : ¬ pt = .settings) (h4 : ¬ pt = .comb) (h5 : ¬ pt = .stop) (h6 : ¬ pt = .fabric) (h7 : ¬ pt = .replies) (h8 : ¬ pt = .log) (h9 : ¬ pt = .out) (h10 : ¬ pt = .free) (a₀ : State) (s : State) (c : Caller) (msg : Bytes) : pt.same a₀ (State.neighbourPort s c msg) ↔ pt.same a₀ s := by
  unfold State.neighbourPort
  (repeat' split) <;> simp [h0, h1, h2, h3, h4, h5, h6, h7, h8, h9, h10, State.answer_same, State.clashHeard_same, State.msgAnswer_same, State.regionMsg_same]

theorem State.combReleased_same {pt : Part} (h0 : ¬ pt = .dict) (h1 : ¬ pt = .comb) (h2 : ¬ pt = .log) (h3 : ¬ pt = .out) (a₀ : State) (s : State) : pt.same a₀ (State.combReleased s) ↔ pt.same a₀ s := by
  unfold State.combReleased
  (repeat' split) <;> simp [h0, h1, h2, h3, State.retireDone_same, State.enterSyncing_same]

theorem State.combRestart_same {pt : Part} (h0 : ¬ pt = .dict) (h1 : ¬ pt = .comb) (h2 : ¬ pt = .fabric) (h3 : ¬ pt = .replies) (h4 : ¬ pt = .log) (h5 : ¬ pt = .out) (a₀ : State) (s : State) : pt.same a₀ (State.combRestart s) ↔ pt.same a₀ s := by
  unfold State.combRestart
  (repeat' split) <;> simp [h0, h1, h2, h3, h4, h5, State.combDiscardAll_same]

theorem State.issueTrim_same {pt : Part} (h0 : ¬ pt = .health) (h1 : ¬ pt = .comb) (a₀ : State) (s : State) (t : TrimOp) : pt.same a₀ (State.issueTrim s t) ↔ pt.same a₀ s := by
  unfold State.issueTrim
  (repeat' split) <;> simp [h0, h1, State.acceptOp_same]

theorem State.epochAge_same {pt : Part} (h0 : ¬ pt = .comb) (h1 : ¬ pt = .log) (a₀ : State) (s : State) : pt.same a₀ (State.epochAge s) ↔ pt.same a₀ s := by
  unfold State.epochAge
  (repeat' split) <;> simp [h0, h1, State.logEv_same]

theorem State.exchangeCommit_same {pt : Part} (h0 : ¬ pt = .health) (h1 : ¬ pt = .dict) (h2 : ¬ pt = .comb) (h3 : ¬ pt = .fabric) (h4 : ¬ pt = .replies) (h5 : ¬ pt = .log) (h6 : ¬ pt = .out) (a₀ : State) (s : State) (f : Flight) (r : CombReq) (asked : List Asked) (note : Nat) (ents : Nat) (mirror : Nat) : pt.same a₀ (State.exchangeCommit s f r asked note ents mirror) ↔ pt.same a₀ s := by
  unfold State.exchangeCommit
  (repeat' split) <;> simp [h0, h1, h2, h3, h4, h5, h6, State.commitReq_same, State.endReq_same, State.noteLater_same, State.sendPhase_same]

theorem State.exchangeFail_same {pt : Part} (h0 : ¬ pt = .health) (h1 : ¬ pt = .dict) (h2 : ¬ pt = .comb) (h3 : ¬ pt = .fabric) (h4 : ¬ pt = .replies) (h5 : ¬ pt = .log) (h6 : ¬ pt = .out) (a₀ : State) (s : State) (f : Flight) (r : CombReq) (asked : List Asked) (v : Verdict) : pt.same a₀ (State.exchangeFail s f r asked v) ↔ pt.same a₀ s := by
  unfold State.exchangeFail
  (repeat' split) <;> simp [h0, h1, h2, h3, h4, h5, h6, State.endReq_same, State.exchangeDrop_same]

theorem State.failWaiting_same {pt : Part} (h0 : ¬ pt = .health) (h1 : ¬ pt = .dict) (h2 : ¬ pt = .comb) (h3 : ¬ pt = .fabric) (h4 : ¬ pt = .replies) (h5 : ¬ pt = .log) (h6 : ¬ pt = .out) (a₀ : State) (s : State) (n : Nat) : pt.same a₀ (State.failWaiting s n) ↔ pt.same a₀ s := by
  unfold State.failWaiting
  (repeat' split) <;> simp [h0, h1, h2, h3, h4, h5, h6, State.exchangeFail_same]

theorem State.hbNumber_same {pt : Part} (h0 : ¬ pt = .comb) (a₀ : State) (s : State) (p : Int) : pt.same a₀ (State.hbNumber s p) ↔ pt.same a₀ s := by
  unfold State.hbNumber
  (repeat' split) <;> simp [h0]

theorem State.heartbeat_same {pt : Part} (h0 : ¬ pt = .comb) (a₀ : State) (s : State) (sendTime : Int) : pt.same a₀ (State.heartbeat s sendTime).1 ↔ pt.same a₀ s := by
  unfold State.heartbeat
  (repeat' split) <;> simp [h0, State.hbNumber_same]

theorem State.heartbeatTo_same {pt : Part} (h0 : ¬ pt = .dict) (h1 : ¬ pt = .comb) (h2 : ¬ pt = .out) (h3 : ¬ pt = .free) (a₀ : State) (s : State) (n : Nat) : pt.same a₀ (State.heartbeatTo s n) ↔ pt.same a₀ s := by
  unfold State.heartbeatTo
  (repeat' split) <;> simp [h0, h1, h2, h3, State.setNbr_same, State.toNbr_same, State.helloNbr_same]

theorem State.judgeExchange_same {pt : Part} (h0 : ¬ pt = .health) (h1 : ¬ pt = .dict) (h2 : ¬ pt = .comb) (h3 : ¬ pt = .fabric) (h4 : ¬ pt = .replies) (h5 : ¬ pt = .log) (h6 : ¬ pt = .out) (a₀ : State) (s : State) (x : Asking) (asked : List Asked) : pt.same a₀ (State.judgeExchange s x asked) ↔ pt.same a₀ s := by
  unfold State.judgeExchange
  (repeat' split) <;> simp [h0, h1, h2, h3, h4, h5, h6, State.exchangeCommit_same, State.exchangeFail_same]

theorem State.judgeRow_same {pt : Part} (h0 : ¬ pt = .health) (h1 : ¬ pt = .dict) (h2 : ¬ pt = .settings) (h3 : ¬ pt = .comb) (h4 : ¬ pt = .fabric) (h5 : ¬ pt = .replies) (h6 : ¬ pt = .log) (h7 : ¬ pt = .out) (h8 : ¬ pt = .free) (a₀ : State) (s : State) (op : Nat) (seq : Nat) : pt.same a₀ (State.judgeRow s op seq) ↔ pt.same a₀ s := by
  unfold State.judgeRow
  (repeat' split) <;> simp [h0, h1, h2, h3, h4, h5, h6, h7, h8, State.settle_same]

theorem State.loseNeighbour_same {pt : Part} (h0 : ¬ pt = .health) (h1 : ¬ pt = .dict) (h2 : ¬ pt = .comb) (h3 : ¬ pt = .fabric) (h4 : ¬ pt = .replies) (h5 : ¬ pt = .log) (h6 : ¬ pt = .out) (a₀ : State) (s : State) (n : Nat) : pt.same a₀ (State.loseNeighbour s n) ↔ pt.same a₀ s := by
  unfold State.loseNeighbour
  (repeat' split) <;> simp [h0, h1, h2, h3, h4, h5, h6, State.setNbr_same, State.failWaiting_same, State.logEv_same]

theorem State.nbrAnswered_same {pt : Part} (h0 : ¬ pt = .comb) (h1 : ¬ pt = .stop) (a₀ : State) (s : State) (n : Nat) (exch : Nat) : pt.same a₀ (State.nbrAnswered s n exch) ↔ pt.same a₀ s := by
  unfold State.nbrAnswered
  simp only []
  repeat' split
  all_goals simp [h0, h1]

theorem State.prepareAnswer_same {pt : Part} (h0 : ¬ pt = .health) (h1 : ¬ pt = .dict) (h2 : ¬ pt = .comb) (h3 : ¬ pt = .fabric) (h4 : ¬ pt = .replies) (h5 : ¬ pt = .log) (h6 : ¬ pt = .out) (a₀ : State) (s : State) (n : Nat) (exch : Nat) (resp : Bytes) : pt.same a₀ (State.prepareAnswer s n exch resp) ↔ pt.same a₀ s := by
  unfold State.prepareAnswer
  (repeat' split) <;> simp [h0, h1, h2, h3, h4, h5, h6, State.setFlight_same, State.judgeExchange_same]

theorem State.prepareTimeout_same {pt : Part} (h0 : ¬ pt = .health) (h1 : ¬ pt = .dict) (h2 : ¬ pt = .comb) (h3 : ¬ pt = .fabric) (h4 : ¬ pt = .replies) (h5 : ¬ pt = .log) (h6 : ¬ pt = .out) (a₀ : State) (s : State) (exch : Nat) : pt.same a₀ (State.prepareTimeout s exch) ↔ pt.same a₀ s := by
  unfold State.prepareTimeout
  (repeat' split) <;> simp [h0, h1, h2, h3, h4, h5, h6, State.exchangeFail_same]

theorem State.presume_same {pt : Part} (h0 : ¬ pt = .comb) (h1 : ¬ pt = .log) (a₀ : State) (s : State) (n : Nat) (exch : Nat) : pt.same a₀ (State.presume s n exch) ↔ pt.same a₀ s := by
  unfold State.presume
  (repeat' split) <;> simp [h0, h1, State.commitPrepared_same, State.logEv_same]

theorem State.repeatPhase_same {pt : Part} (h0 : ¬ pt = .dict) (h1 : ¬ pt = .comb) (h2 : ¬ pt = .out) (a₀ : State) (s : State) (n : Nat) (exch : Nat) : pt.same a₀ (State.repeatPhase s n exch) ↔ pt.same a₀ s := by
  unfold State.repeatPhase
  (repeat' split) <;> simp [h0, h1, h2, State.toNbr_same]

theorem State.resume_same {pt : Part} (h0 : ¬ pt = .health) (h1 : ¬ pt = .dict) (h2 : ¬ pt = .settings) (h3 : ¬ pt = .comb) (h4 : ¬ pt = .fabric) (h5 : ¬ pt = .replies) (h6 : ¬ pt = .log) (h7 : ¬ pt = .out) (h8 : ¬ pt = .free) (a₀ : State) (s : State) (seq : Nat) : pt.same a₀ (State.resume s seq) ↔ pt.same a₀ s := by
  unfold State.resume
  (repeat' split) <;> simp [h0, h1, h2, h3, h4, h5, h6, h7, h8, State.tryFlight_same]

theorem State.sendHeartbeats_same {pt : Part} (h0 : ¬ pt = .dict) (h1 : ¬ pt = .comb) (h2 : ¬ pt = .out) (h3 : ¬ pt = .free) (a₀ : State) (s : State) : pt.same a₀ (State.sendHeartbeats s) ↔ pt.same a₀ s := by
  unfold State.sendHeartbeats
  (repeat' split) <;> simp [h0, h1, h2, h3, State.hbNumber_same, State.heartbeatTo_same]

theorem State.syncAnswered_same {pt : Part} (h0 : ¬ pt = .comb) (h1 : ¬ pt = .log) (a₀ : State) (s : State) (n : Nat) : pt.same a₀ (State.syncAnswered s n) ↔ pt.same a₀ s := by
  unfold State.syncAnswered
  (repeat' split) <;> simp [h0, h1, State.tryLive_same, State.setNbr_same]

theorem State.trimRow_same {pt : Part} (h0 : ¬ pt = .health) (h1 : ¬ pt = .dict) (h2 : ¬ pt = .settings) (h3 : ¬ pt = .comb) (h4 : ¬ pt = .fabric) (h5 : ¬ pt = .replies) (h6 : ¬ pt = .log) (h7 : ¬ pt = .out) (h8 : ¬ pt = .free) (a₀ : State) (s : State) (seq : Nat) : pt.same a₀ (State.trimRow s seq) ↔ pt.same a₀ s := by
  unfold State.trimRow
  (repeat' split) <;> simp [h0, h1, h2, h3, h4, h5, h6, h7, h8, State.settle_same]

end Sys2Proof.Machine
end

