-- ==== Sys2Proof/Laws/ConfOps.lean ====
section
/-!
SUPPORT. What each operation of the Conformance monitor can move: every part but those it names is as it was.
-/

namespace Sys2Proof.Machine

theorem State.setConf_same {pt : Part} (h0 : ¬ pt = .conf) (a₀ : State) (s : State) (m : Nat) (f : ConfSlot → ConfSlot) : pt.same a₀ (State.setConf s m f) ↔ pt.same a₀ s := by
  unfold State.setConf
  (repeat' split) <;> simp [h0]

theorem State.setAcked_same {pt : Part} (h0 : ¬ pt = .conf) (a₀ : State) (s : State) (m : Nat) (mode : Nat) : pt.same a₀ (State.setAcked s m mode) ↔ pt.same a₀ s := by
  unfold State.setAcked
  (repeat' split) <;> simp [h0, State.setConf_same]

theorem State.startMonitor_same {pt : Part} (h0 : ¬ pt = .conf) (a₀ : State) (s : State) (m : Nat) : pt.same a₀ (State.startMonitor s m) ↔ pt.same a₀ s := by
  unfold State.startMonitor
  (repeat' split) <;> simp [h0, State.setConf_same]

theorem State.swarmAck_same {pt : Part} (h0 : ¬ pt = .conf) (a₀ : State) (s : State) (m : Nat) (mode : Nat) (instant : Int) : pt.same a₀ (State.swarmAck s m mode instant) ↔ pt.same a₀ s := by
  unfold State.swarmAck
  (repeat' split) <;> simp [h0, State.setAcked_same, State.setConf_same]

theorem State.stopMonitor_same {pt : Part} (h0 : ¬ pt = .conf) (a₀ : State) (s : State) (m : Nat) : pt.same a₀ (State.stopMonitor s m) ↔ pt.same a₀ s := by
  unfold State.stopMonitor
  (repeat' split) <;> simp [h0, State.setConf_same]

theorem State.act_same {pt : Part} (h0 : ¬ pt = .health) (h1 : ¬ pt = .dict) (h2 : ¬ pt = .stop) (h3 : ¬ pt = .log) (h4 : ¬ pt = .out) (a₀ : State) (s : State) (m : Nat) (action : Nat) (causes : Nat) : pt.same a₀ (State.act s m action causes) ↔ pt.same a₀ s := by
  unfold State.act
  (repeat' split) <;> simp [h0, h1, h2, h3, h4, State.logEv_same, State.setLatch_same]

theorem State.confReset_same {pt : Part} (h0 : ¬ pt = .conf) (a₀ : State) (s : State) (wide : Bool) : pt.same a₀ (State.confReset s wide) ↔ pt.same a₀ s := by
  unfold State.confReset
  (repeat' split) <;> simp [h0, State.startMonitor_same]

theorem State.swarmLost_same {pt : Part} (h0 : ¬ pt = .conf) (h1 : ¬ pt = .log) (a₀ : State) (s : State) : pt.same a₀ (State.swarmLost s) ↔ pt.same a₀ s := by
  unfold State.swarmLost
  (repeat' split) <;> simp [h0, h1, State.logEv_same]

theorem State.swarmCancel_same {pt : Part} (h0 : ¬ pt = .conf) (a₀ : State) (s : State) : pt.same a₀ (State.swarmCancel s).1 ↔ pt.same a₀ s := by
  unfold State.swarmCancel
  (repeat' split) <;> simp [h0]

theorem State.swarmNew_same {pt : Part} (h0 : ¬ pt = .conf) (a₀ : State) (s : State) (v : Bytes) : pt.same a₀ (State.swarmNew s v).1 ↔ pt.same a₀ s := by
  unfold State.swarmNew
  simp; (repeat' split) <;> simp [h0]

theorem State.swarmPort_same {pt : Part} (h0 : ¬ pt = .conf) (a₀ : State) (s : State) (v : Bytes) : pt.same a₀ (State.swarmPort s v).1 ↔ pt.same a₀ s := by
  unfold State.swarmPort
  simp; (repeat' split) <;> simp [h0, State.swarmCancel_same, State.swarmNew_same]

theorem State.evalRow_same {pt : Part} (h0 : ¬ pt = .conf) (a₀ : State) (s : State) (m : Nat) (row : Nat) (cond : Bool) : pt.same a₀ (State.evalRow s m row cond).1 ↔ pt.same a₀ s := by
  unfold State.evalRow
  (repeat' split) <;> simp [h0, State.setConf_same]

theorem State.evalRows_same {pt : Part} (h0 : ¬ pt = .health) (h1 : ¬ pt = .dict) (h2 : ¬ pt = .conf) (h3 : ¬ pt = .stop) (h4 : ¬ pt = .log) (h5 : ¬ pt = .out) (a₀ : State) (s : State) (m : Nat) (causes : Nat) (xs : List (Nat × Bool)) : pt.same a₀ (State.evalRows s m causes xs).1 ↔ pt.same a₀ s := by
  induction xs generalizing s with
  | nil => rfl
  | cons x t ih => obtain ⟨row, cond⟩ := x; unfold State.evalRows; simp only []; rw [ih]; simp [h0, h1, h2, h3, h4, h5, State.evalRow_same, State.act_same]

theorem State.verdict_same {pt : Part} (h0 : ¬ pt = .health) (h1 : ¬ pt = .conf) (h2 : ¬ pt = .fabric) (h3 : ¬ pt = .replies) (h4 : ¬ pt = .log) (a₀ : State) (s : State) (m : Nat) (action : Nat) (r : Record) : pt.same a₀ (State.verdict s m action r) ↔ pt.same a₀ s := by
  unfold State.verdict
  (repeat' split) <;> simp [h0, h1, h2, h3, h4, State.setConf_same, State.count_same, State.post_same]

theorem State.conclude_same {pt : Part} (h0 : ¬ pt = .health) (h1 : ¬ pt = .dict) (h2 : ¬ pt = .conf) (h3 : ¬ pt = .stop) (h4 : ¬ pt = .fabric) (h5 : ¬ pt = .replies) (h6 : ¬ pt = .log) (h7 : ¬ pt = .out) (a₀ : State) (s : State) (m : Nat) (rows : List (Nat × Bool)) (r : Record) : pt.same a₀ (State.conclude s m rows r) ↔ pt.same a₀ s := by
  unfold State.conclude
  (repeat' split) <;> simp [h0, h1, h2, h3, h4, h5, h6, h7, State.evalRows_same, State.verdict_same]

theorem State.firstPair_same {pt : Part} (h0 : ¬ pt = .conf) (a₀ : State) (s : State) (m : Nat) (a : PairPos) : pt.same a₀ (State.firstPair s m a).1 ↔ pt.same a₀ s := by
  unfold State.firstPair
  (repeat' split) <;> simp [h0, State.setConf_same]

theorem State.refreshAge_same {pt : Part} (h0 : ¬ pt = .conf) (a₀ : State) (s : State) (m : Nat) (kind : Nat) (t : Int) : pt.same a₀ (State.refreshAge s m kind t) ↔ pt.same a₀ s := by
  unfold State.refreshAge
  (repeat' split) <;> simp [h0, State.setConf_same]

theorem State.trimTracks_same {pt : Part} (h0 : ¬ pt = .health) (h1 : ¬ pt = .comb) (a₀ : State) (s : State) (m : Nat) (j : Judged) : pt.same a₀ (State.trimTracks s m j) ↔ pt.same a₀ s := by
  unfold State.trimTracks
  (repeat' split) <;> simp [h0, h1, State.issueTrim_same]

theorem State.reportZones_same {pt : Part} (h0 : ¬ pt = .stop) (a₀ : State) (s : State) (ms : List Nat) : pt.same a₀ (State.reportZones s ms) ↔ pt.same a₀ s := by
  unfold State.reportZones
  (repeat' split) <;> simp [h0, State.refreshGo_same]

theorem State.keepPos_same {pt : Part} (h0 : ¬ pt = .conf) (a₀ : State) (s : State) (m : Nat) : pt.same a₀ (State.keepPos s m) ↔ pt.same a₀ s := by
  unfold State.keepPos
  (repeat' split) <;> simp [h0, State.setConf_same]

theorem State.judgePos_same {pt : Part} (h0 : ¬ pt = .health) (h1 : ¬ pt = .dict) (h2 : ¬ pt = .comb) (h3 : ¬ pt = .conf) (h4 : ¬ pt = .stop) (h5 : ¬ pt = .fabric) (h6 : ¬ pt = .replies) (h7 : ¬ pt = .log) (h8 : ¬ pt = .out) (a₀ : State) (s : State) (m : Nat) (kind : Nat) (j : Judged) (rows : List (Nat × Bool)) (causes : Nat) (d : Nat) (b : Nat) : pt.same a₀ (State.judgePos s m kind j rows causes d b) ↔ pt.same a₀ s := by
  unfold State.judgePos
  (repeat' split) <;> simp [h0, h1, h2, h3, h4, h5, h6, h7, h8, State.setConf_same, State.refreshAge_same, State.conclude_same, State.trimTracks_same, State.reportZones_same, State.keepPos_same]

theorem State.judgeFix_same {pt : Part} (h0 : ¬ pt = .health) (h1 : ¬ pt = .dict) (h2 : ¬ pt = .comb) (h3 : ¬ pt = .conf) (h4 : ¬ pt = .stop) (h5 : ¬ pt = .fabric) (h6 : ¬ pt = .replies) (h7 : ¬ pt = .log) (h8 : ¬ pt = .out) (a₀ : State) (s : State) (m : Nat) (t : Int) (e : Int) (n : Int) (ee : Int) (nn : Int) (en : Int) : pt.same a₀ (State.judgeFix s m t e n ee nn en) ↔ pt.same a₀ s := by
  unfold State.judgeFix
  (repeat' split) <;> simp [h0, h1, h2, h3, h4, h5, h6, h7, h8, State.firstPair_same, State.judgePos_same]

theorem State.judgeReported_same {pt : Part} (h0 : ¬ pt = .health) (h1 : ¬ pt = .dict) (h2 : ¬ pt = .comb) (h3 : ¬ pt = .conf) (h4 : ¬ pt = .stop) (h5 : ¬ pt = .fabric) (h6 : ¬ pt = .replies) (h7 : ¬ pt = .log) (h8 : ¬ pt = .out) (a₀ : State) (s : State) (m : Nat) (b : RepPos) : pt.same a₀ (State.judgeReported s m b) ↔ pt.same a₀ s := by
  unfold State.judgeReported
  simp only []
  rw [State.judgePos_same (by assumption) (by assumption) (by assumption) (by assumption) (by assumption) (by assumption) (by assumption) (by assumption) (by assumption), State.setConf_same (by assumption)]

theorem State.judgeDeveloped_same {pt : Part} (h0 : ¬ pt = .health) (h1 : ¬ pt = .dict) (h2 : ¬ pt = .conf) (h3 : ¬ pt = .stop) (h4 : ¬ pt = .fabric) (h5 : ¬ pt = .replies) (h6 : ¬ pt = .log) (h7 : ¬ pt = .out) (a₀ : State) (s : State) (m : Nat) (t : Int) (pos : V3) (sigma : Nat) : pt.same a₀ (State.judgeDeveloped s m t pos sigma) ↔ pt.same a₀ s := by
  unfold State.judgeDeveloped
  (repeat' split) <;> simp [h0, h1, h2, h3, h4, h5, h6, h7, State.firstPair_same, State.refreshAge_same, State.reportZones_same, State.keepPos_same, State.conclude_same]

theorem State.judgeOp_same {pt : Part} (h0 : ¬ pt = .health) (h1 : ¬ pt = .dict) (h2 : ¬ pt = .comb) (h3 : ¬ pt = .conf) (h4 : ¬ pt = .stop) (h5 : ¬ pt = .fabric) (h6 : ¬ pt = .replies) (h7 : ¬ pt = .log) (h8 : ¬ pt = .out) (a₀ : State) (s : State) (m : Nat) (op : ConfOp) : pt.same a₀ (State.judgeOp s m op) ↔ pt.same a₀ s := by
  unfold State.judgeOp
  (repeat' split) <;> simp [h0, h1, h2, h3, h4, h5, h6, h7, h8, State.judgeFix_same, State.judgeReported_same, State.judgeDeveloped_same, State.conclude_same]

theorem State.outOfRange_same {pt : Part} (h0 : ¬ pt = .health) (h1 : ¬ pt = .conf) (h2 : ¬ pt = .fabric) (h3 : ¬ pt = .replies) (h4 : ¬ pt = .log) (a₀ : State) (s : State) (m : Nat) (kind : Nat) (t : Int) : pt.same a₀ (State.outOfRange s m kind t) ↔ pt.same a₀ s := by
  unfold State.outOfRange
  (repeat' split) <;> simp [h0, h1, h2, h3, h4, State.verdict_same]

theorem State.confRow_same {pt : Part} (h0 : ¬ pt = .health) (h1 : ¬ pt = .dict) (h2 : ¬ pt = .comb) (h3 : ¬ pt = .conf) (h4 : ¬ pt = .stop) (h5 : ¬ pt = .fabric) (h6 : ¬ pt = .replies) (h7 : ¬ pt = .log) (h8 : ¬ pt = .out) (a₀ : State) (s : State) (m : Nat) (kind : Nat) : pt.same a₀ (State.confRow s m kind) ↔ pt.same a₀ s := by
  unfold State.confRow
  (repeat' split) <;> simp [h0, h1, h2, h3, h4, h5, h6, h7, h8, State.judgeOp_same, State.outOfRange_same]

theorem State.issueConf_same {pt : Part} (h0 : ¬ pt = .conf) (h1 : ¬ pt = .out) (a₀ : State) (s : State) (m : Nat) (op : ConfOp) : pt.same a₀ (State.issueConf s m op) ↔ pt.same a₀ s := by
  unfold State.issueConf
  (repeat' split) <;> simp [h0, h1, State.emit_same]

theorem State.deviceRow_same {pt : Part} (h0 : ¬ pt = .health) (h1 : ¬ pt = .dict) (h2 : ¬ pt = .conf) (h3 : ¬ pt = .stop) (h4 : ¬ pt = .log) (h5 : ¬ pt = .out) (a₀ : State) (s : State) (row : Nat) (cond : Bool) : pt.same a₀ (State.deviceRow s row cond) ↔ pt.same a₀ s := by
  unfold State.deviceRow
  (repeat' split) <;> simp [h0, h1, h2, h3, h4, h5, State.logEv_same, State.setLatch_same]

theorem State.deviceTick_same {pt : Part} (h0 : ¬ pt = .health) (h1 : ¬ pt = .dict) (h2 : ¬ pt = .conf) (h3 : ¬ pt = .stop) (h4 : ¬ pt = .log) (h5 : ¬ pt = .out) (a₀ : State) (s : State) (baseOperating : Bool) : pt.same a₀ (State.deviceTick s baseOperating) ↔ pt.same a₀ s := by
  unfold State.deviceTick
  (repeat' split) <;> simp [h0, h1, h2, h3, h4, h5, State.deviceRow_same]

theorem State.freshSlot_same {pt : Part} (h0 : ¬ pt = .health) (h1 : ¬ pt = .dict) (h2 : ¬ pt = .conf) (h3 : ¬ pt = .stop) (h4 : ¬ pt = .fabric) (h5 : ¬ pt = .replies) (h6 : ¬ pt = .log) (h7 : ¬ pt = .out) (a₀ : State) (s : State) (m : Nat) : pt.same a₀ (State.freshSlot s m) ↔ pt.same a₀ s := by
  unfold State.freshSlot
  (repeat' split) <;> simp [h0, h1, h2, h3, h4, h5, h6, h7, State.evalRows_same, State.setConf_same, State.verdict_same]

theorem State.freshTick_same {pt : Part} (h0 : ¬ pt = .health) (h1 : ¬ pt = .dict) (h2 : ¬ pt = .conf) (h3 : ¬ pt = .stop) (h4 : ¬ pt = .fabric) (h5 : ¬ pt = .replies) (h6 : ¬ pt = .log) (h7 : ¬ pt = .out) (a₀ : State) (s : State) : pt.same a₀ (State.freshTick s) ↔ pt.same a₀ s := by
  unfold State.freshTick
  (repeat' split) <;> simp [h0, h1, h2, h3, h4, h5, h6, h7, State.freshSlot_same, State.reportZones_same]

theorem State.swarmInstant_same {pt : Part} (h0 : ¬ pt = .settings) (h1 : ¬ pt = .conf) (a₀ : State) (s : State) : pt.same a₀ (State.swarmInstant s) ↔ pt.same a₀ s := by
  unfold State.swarmInstant
  (repeat' split) <;> simp [h0, h1, State.setVal_same, State.setAcked_same]

theorem State.swarmDeadline_same {pt : Part} (h0 : ¬ pt = .health) (h1 : ¬ pt = .dict) (h2 : ¬ pt = .conf) (h3 : ¬ pt = .stop) (h4 : ¬ pt = .log) (h5 : ¬ pt = .out) (a₀ : State) (s : State) : pt.same a₀ (State.swarmDeadline s) ↔ pt.same a₀ s := by
  unfold State.swarmDeadline
  (repeat' split) <;> simp [h0, h1, h2, h3, h4, h5, State.logEv_same, State.evalRow_same, State.act_same]

end Sys2Proof.Machine
end

