-- ==== Sys2Proof/Laws/RadioOps.lean ====
section
/-!
SUPPORT. What each operation of the Radio can move: every part but those it names is as it was.
-/

namespace Sys2Proof.Machine

theorem State.setLink_same {pt : Part} (h0 : ¬ pt = .radio) (a₀ : State) (s : State) (m : Nat) (f : Link → Link) : pt.same a₀ (State.setLink s m f) ↔ pt.same a₀ s := by
  unfold State.setLink
  (repeat' split) <;> simp [h0]

theorem State.ackSent_same {pt : Part} (h0 : ¬ pt = .dict) (h1 : ¬ pt = .radio) (h2 : ¬ pt = .out) (a₀ : State) (s : State) (m : Nat) (l : Link) : pt.same a₀ (State.ackSent s m l) ↔ pt.same a₀ s := by
  unfold State.ackSent
  (repeat' split) <;> simp [h0, h1, h2, State.setLink_same, State.answer_same]

theorem State.takeSegment_same {pt : Part} (h0 : ¬ pt = .health) (h1 : ¬ pt = .radio) (h2 : ¬ pt = .fabric) (h3 : ¬ pt = .replies) (h4 : ¬ pt = .log) (a₀ : State) (s : State) (m : Nat) (b : Bytes) {s' : State} (h : s.takeSegment m b = some s') : pt.same a₀ s' ↔ pt.same a₀ s := by
  unfold State.takeSegment at h
  simp only [] at h
  repeat' split at h
  all_goals first
    | (cases h; simp [h1, State.setLink_same]; done)
    | (have e := State.post?_same (a₀ := a₀) (by assumption) (by assumption) (by assumption) (by assumption) _ _ _ h; rw [e]; simp [h1, State.setLink_same])

theorem State.takeSegmentsIn_same {pt : Part} (h0 : ¬ pt = .health) (h1 : ¬ pt = .radio) (h2 : ¬ pt = .fabric) (h3 : ¬ pt = .replies) (h4 : ¬ pt = .log) (a₀ : State) (s : State) (m : Nat) (xs : List (Nat × Bytes)) {s' : State} (h : s.takeSegmentsIn m xs = some s') : pt.same a₀ s' ↔ pt.same a₀ s := by
  induction xs generalizing s with
  | nil => cases h; rfl
  | cons x t ih =>
    obtain ⟨ty, b⟩ := x
    unfold State.takeSegmentsIn at h
    split at h
    · split at h
      · rename_i e; exact (ih _ h).trans (State.takeSegment_same (by assumption) (by assumption) (by assumption) (by assumption) (by assumption) a₀ _ _ _ e)
      · cases h
    · exact ih _ h

theorem State.tryConnect_same {pt : Part} (h0 : ¬ pt = .conf) (h1 : ¬ pt = .radio) (a₀ : State) (s : State) (m : Nat) (acks : List (Nat × Int)) : pt.same a₀ (State.tryConnect s m acks) ↔ pt.same a₀ s := by
  unfold State.tryConnect
  (repeat' split) <;> simp [h0, h1, State.setAcked_same, State.startMonitor_same, State.setLink_same]

theorem State.takeElems_same {pt : Part} (h0 : ¬ pt = .health) (h1 : ¬ pt = .conf) (h2 : ¬ pt = .radio) (h3 : ¬ pt = .fabric) (h4 : ¬ pt = .replies) (h5 : ¬ pt = .log) (a₀ : State) (s : State) (m : Nat) (es : List (Nat × Bytes)) : pt.same a₀ (State.takeElems s m es).1 ↔ pt.same a₀ s := by
  unfold State.takeElems
  split
  · rfl
  · rename_i e
    simp only []
    split <;> simp [h1, h2, State.tryConnect_same, State.swarmAck_same, State.takeSegmentsIn_same (by assumption) (by assumption) (by assumption) (by assumption) (by assumption) a₀ _ _ _ e]

theorem State.endLink_same {pt : Part} (h0 : ¬ pt = .dict) (h1 : ¬ pt = .conf) (h2 : ¬ pt = .stop) (h3 : ¬ pt = .radio) (h4 : ¬ pt = .log) (h5 : ¬ pt = .out) (a₀ : State) (s : State) (m : Nat) (cause : Nat) (reason : Option Nat) (a : Ans) : pt.same a₀ (State.endLink s m cause reason a) ↔ pt.same a₀ s := by
  unfold State.endLink
  split
  · rfl
  · simp only []; split <;> simp [h0, h1, h2, h3, h4, h5, State.answer_same, State.logEv_same, State.stopMonitor_same]

theorem State.acceptReply_same {pt : Part} (h0 : ¬ pt = .health) (h1 : ¬ pt = .dict) (h2 : ¬ pt = .conf) (h3 : ¬ pt = .stop) (h4 : ¬ pt = .radio) (h5 : ¬ pt = .fabric) (h6 : ¬ pt = .replies) (h7 : ¬ pt = .log) (h8 : ¬ pt = .out) (a₀ : State) (s : State) (m : Nat) (l : Link) (f : RadioFrame) (es : List (Nat × Bytes)) (rssi : Int) : pt.same a₀ (State.acceptReply s m l f es rssi) ↔ pt.same a₀ s := by
  unfold State.acceptReply
  (repeat' split) <;> simp [h0, h1, h2, h3, h4, h5, h6, h7, h8, State.setLink_same, State.ackSent_same, State.takeElems_same, State.endLink_same]

theorem State.endMessagesOf_same {pt : Part} (h0 : ¬ pt = .dict) (h1 : ¬ pt = .radio) (h2 : ¬ pt = .out) (a₀ : State) (s : State) (p : Caller → Bool) (a : Ans) : pt.same a₀ (State.endMessagesOf s p a) ↔ pt.same a₀ s := by
  unfold State.endMessagesOf
  (repeat' split) <;> simp [h0, h1, h2, State.answer_same]

theorem State.endMessages_same {pt : Part} (h0 : ¬ pt = .dict) (h1 : ¬ pt = .radio) (h2 : ¬ pt = .out) (a₀ : State) (s : State) (a : Ans) : pt.same a₀ (State.endMessages s a) ↔ pt.same a₀ s := by
  unfold State.endMessages
  (repeat' split) <;> simp [h0, h1, h2, State.answer_same]

theorem State.radioReset_same {pt : Part} (h0 : ¬ pt = .dict) (h1 : ¬ pt = .conf) (h2 : ¬ pt = .stop) (h3 : ¬ pt = .radio) (h4 : ¬ pt = .log) (h5 : ¬ pt = .out) (a₀ : State) (s : State) : pt.same a₀ (State.radioReset s) ↔ pt.same a₀ s := by
  unfold State.radioReset
  (repeat' split) <;> simp [h0, h1, h2, h3, h4, h5, State.endMessages_same, State.endLink_same]

theorem State.sendUpdate_same {pt : Part} (h0 : ¬ pt = .radio) (a₀ : State) (s : State) (m : Nat) (l : Link) (p : LinkPar) (chans : List Bytes) (instant : Nat) (offset : Nat) : pt.same a₀ (State.sendUpdate s m l p chans instant offset) ↔ pt.same a₀ s := by
  unfold State.sendUpdate
  (repeat' split) <;> simp [h0, State.setLink_same]

theorem State.remapLink_same {pt : Part} (h0 : ¬ pt = .radio) (a₀ : State) (s : State) (m : Nat) (l : Link) : pt.same a₀ (State.remapLink s m l) ↔ pt.same a₀ s := by
  unfold State.remapLink
  (repeat' split) <;> simp [h0, State.setLink_same, State.sendUpdate_same]

theorem State.applyUpdate_same {pt : Part} (h0 : ¬ pt = .radio) (a₀ : State) (s : State) (m : Nat) : pt.same a₀ (State.applyUpdate s m) ↔ pt.same a₀ s := by
  unfold State.applyUpdate
  (repeat' split) <;> simp [h0, State.setLink_same, State.remapLink_same]

theorem State.machineWrite_same {pt : Part} (h0 : ¬ pt = .dict) (h1 : ¬ pt = .settings) (h2 : ¬ pt = .conf) (h3 : ¬ pt = .stop) (h4 : ¬ pt = .radio) (h5 : ¬ pt = .log) (h6 : ¬ pt = .out) (a₀ : State) (s : State) (m : Nat) (id : Nat) : pt.same a₀ (State.machineWrite s m id).1 ↔ pt.same a₀ s := by
  unfold State.machineWrite
  (repeat' split) <;> simp [h0, h1, h2, h3, h4, h5, h6, State.setVal_same, State.endLink_same]

theorem State.listenWritten_same {pt : Part} (h0 : ¬ pt = .radio) (a₀ : State) (s : State) (n : Nat) (v : Bytes) : pt.same a₀ (State.listenWritten s n v) ↔ pt.same a₀ s := by
  unfold State.listenWritten
  (repeat' split) <;> simp [h0, State.setModem_same]

theorem State.transmit_same {pt : Part} (h0 : ¬ pt = .out) (a₀ : State) (s : State) (k : Nat) (chan : Nat) (a : Int) (ns : Nat) (f : RadioFrame) : pt.same a₀ (State.transmit s k chan a ns f) ↔ pt.same a₀ s := by
  unfold State.transmit
  (repeat' split) <;> simp [h0, State.emit_same, State.rfOn_same]

theorem State.broadcast_same {pt : Part} (h0 : ¬ pt = .health) (h1 : ¬ pt = .radio) (h2 : ¬ pt = .out) (a₀ : State) (s : State) (k : Nat) (ftype : Nat) (rate : Nat) (a : Int) (key : Bytes) (payload : Bytes) : pt.same a₀ (State.broadcast s k ftype rate a key payload) ↔ pt.same a₀ s := by
  unfold State.broadcast
  (repeat' split) <;> simp [h0, h1, h2, State.tuneTo_same, State.setModem_same, State.count_same, State.transmit_same]

theorem State.radioCommitted_same {pt : Part} (h0 : ¬ pt = .dict) (h1 : ¬ pt = .settings) (h2 : ¬ pt = .radio) (a₀ : State) (s : State) : pt.same a₀ (State.radioCommitted s) ↔ pt.same a₀ s := by
  unfold State.radioCommitted
  simp only [same_radio (by assumption : ¬ pt = .radio)]
  rw [same_foldl]
  · simp [h0, h1, State.applyGroup_same]
  · intro s x; (repeat' split) <;> simp [h2, State.remapLink_same]

theorem State.paramRequest_same {pt : Part} (h0 : ¬ pt = .radio) (a₀ : State) (s : State) (m : Nat) (v : Bytes) : pt.same a₀ (State.paramRequest s m v).1 ↔ pt.same a₀ s := by
  unfold State.paramRequest
  simp; (repeat' split) <;> simp [h0, State.sendUpdate_same]

theorem State.radioSend_same {pt : Part} (h0 : ¬ pt = .radio) (a₀ : State) (s : State) (c : Caller) (req : Bytes) : pt.same a₀ (State.radioSend s c req).1 ↔ pt.same a₀ s := by
  unfold State.radioSend
  simp; (repeat' split) <;> simp [h0, State.setLink_same]

theorem State.radioWaggle_same {pt : Part} (h0 : ¬ pt = .radio) (a₀ : State) (s : State) (c : Caller) (req : Bytes) : pt.same a₀ (State.radioWaggle s c req).1 ↔ pt.same a₀ s := by
  unfold State.radioWaggle
  simp; (repeat' split) <;> simp [h0, State.setModem_same]

theorem State.eventTune_same {pt : Part} (h0 : ¬ pt = .out) (a₀ : State) (s : State) (l : Link) (n : Nat) (a : Int) : pt.same a₀ (State.eventTune s l n a) ↔ pt.same a₀ s := by
  unfold State.eventTune
  (repeat' split) <;> simp [h0, State.tuneTo_same]

theorem State.radioRestart_same {pt : Part} (h0 : ¬ pt = .dict) (h1 : ¬ pt = .radio) (h2 : ¬ pt = .out) (a₀ : State) (s : State) : pt.same a₀ (State.radioRestart s) ↔ pt.same a₀ s := by
  unfold State.radioRestart
  (repeat' split) <;> simp [h0, h1, h2, State.endMessages_same]

theorem State.joinRespond_same {pt : Part} (h0 : ¬ pt = .out) (a₀ : State) (s : State) (k : Nat) (id : Nat) (counter : Nat) (key : Bytes) (plain : Bytes) : pt.same a₀ (State.joinRespond s k id counter key plain) ↔ pt.same a₀ s := by
  unfold State.joinRespond
  (repeat' split) <;> simp [h0, State.transmit_same]

theorem State.joinAccept_same {pt : Part} (h0 : ¬ pt = .dict) (h1 : ¬ pt = .conf) (h2 : ¬ pt = .stop) (h3 : ¬ pt = .radio) (h4 : ¬ pt = .log) (h5 : ¬ pt = .out) (h6 : ¬ pt = .free) (a₀ : State) (s : State) (k : Nat) (m : Nat) (id : Nat) (counter : Nat) (int : Nat) (len : Nat) (off : Nat) (key : Bytes) (mach : Bytes) : pt.same a₀ (State.joinAccept s k m id counter int len off key mach) ↔ pt.same a₀ s := by
  unfold State.joinAccept
  (repeat' split) <;> simp [h0, h1, h2, h3, h4, h5, h6, State.logEv_same, State.endLink_same, State.draw_same, State.drawBytes_same, State.joinRespond_same]

theorem State.joinOpen_same {pt : Part} (h0 : ¬ pt = .out) (a₀ : State) (s : State) (k : Nat) (a : Int) (bytes : Nat) : pt.same a₀ (State.joinOpen s k a bytes) ↔ pt.same a₀ s := by
  unfold State.joinOpen
  (repeat' split) <;> simp [h0, State.rfOn_same]

theorem State.micFail_same {pt : Part} (h0 : ¬ pt = .radio) (a₀ : State) (s : State) (m : Option Nat) : pt.same a₀ (State.micFail s m) ↔ pt.same a₀ s := by
  unfold State.micFail
  (repeat' split) <;> simp [h0, State.setLink_same]

theorem State.replayDrop_same {pt : Part} (h0 : ¬ pt = .radio) (a₀ : State) (s : State) (m : Option Nat) : pt.same a₀ (State.replayDrop s m) ↔ pt.same a₀ s := by
  unfold State.replayDrop
  (repeat' split) <;> simp [h0, State.setLink_same]

theorem State.joinRequest_same {pt : Part} (h0 : ¬ pt = .dict) (h1 : ¬ pt = .settings) (h2 : ¬ pt = .conf) (h3 : ¬ pt = .stop) (h4 : ¬ pt = .radio) (h5 : ¬ pt = .log) (h6 : ¬ pt = .out) (h7 : ¬ pt = .free) (a₀ : State) (s : State) (k : Nat) (f : RadioFrame) : pt.same a₀ (State.joinRequest s k f) ↔ pt.same a₀ s := by
  unfold State.joinRequest
  simp [h5, State.logEv_same]; (repeat' split) <;> simp [h0, h1, h2, h3, h4, h5, h6, h7, State.micFail_same, State.replayDrop_same, State.setVal_same, State.joinAccept_same, State.joinRespond_same]

theorem State.joinTimeout_same {pt : Part} (h0 : ¬ pt = .dict) (h1 : ¬ pt = .conf) (h2 : ¬ pt = .stop) (h3 : ¬ pt = .radio) (h4 : ¬ pt = .log) (h5 : ¬ pt = .out) (a₀ : State) (s : State) (m : Nat) : pt.same a₀ (State.joinTimeout s m) ↔ pt.same a₀ s := by
  unfold State.joinTimeout
  (repeat' split) <;> simp [h0, h1, h2, h3, h4, h5, State.endLink_same]

theorem State.sendFarewell_same {pt : Part} (h0 : ¬ pt = .health) (h1 : ¬ pt = .radio) (h2 : ¬ pt = .out) (a₀ : State) (s : State) (m : Nat) : pt.same a₀ (State.sendFarewell s m) ↔ pt.same a₀ s := by
  unfold State.sendFarewell
  simp; (repeat' split) <;> simp [h0, h1, h2, State.count_same, State.transmit_same, State.eventTune_same]

theorem State.missReply_same {pt : Part} (h0 : ¬ pt = .health) (h1 : ¬ pt = .radio) (a₀ : State) (s : State) (m : Nat) (l : Link) : pt.same a₀ (State.missReply s m l) ↔ pt.same a₀ s := by
  unfold State.missReply
  (repeat' split) <;> simp [h0, h1, State.count_same, State.setLink_same]

theorem State.takeStopFrame_same {pt : Part} (h0 : ¬ pt = .stop) (h1 : ¬ pt = .radio) (a₀ : State) (s : State) (m : Nat) (a : Nat) : pt.same a₀ (State.takeStopFrame s m a).1 ↔ pt.same a₀ s := by
  unfold State.takeStopFrame
  (repeat' split) <;> simp [h0, h1, State.setLink_same]

theorem State.sendEvent_same {pt : Part} (h0 : ¬ pt = .health) (h1 : ¬ pt = .stop) (h2 : ¬ pt = .radio) (h3 : ¬ pt = .out) (a₀ : State) (s : State) (m : Nat) (n : Nat) (l : Link) : pt.same a₀ (State.sendEvent s m n l) ↔ pt.same a₀ s := by
  unfold State.sendEvent
  simp; (repeat' split) <;> simp [h0, h1, h2, h3, State.takeStopFrame_same, State.setLink_same, State.transmit_same, State.eventTune_same, State.count_same, State.rfOn_same]

theorem State.linkEvent_same {pt : Part} (h0 : ¬ pt = .health) (h1 : ¬ pt = .dict) (h2 : ¬ pt = .conf) (h3 : ¬ pt = .stop) (h4 : ¬ pt = .radio) (h5 : ¬ pt = .log) (h6 : ¬ pt = .out) (a₀ : State) (s : State) (m : Nat) : pt.same a₀ (State.linkEvent s m) ↔ pt.same a₀ s := by
  unfold State.linkEvent
  simp; (repeat' split) <;> simp [h0, h1, h2, h3, h4, h5, h6, State.applyUpdate_same, State.sendFarewell_same, State.missReply_same, State.setLink_same, State.endLink_same, State.sendEvent_same]

theorem State.linkReply_same {pt : Part} (h0 : ¬ pt = .health) (h1 : ¬ pt = .dict) (h2 : ¬ pt = .conf) (h3 : ¬ pt = .stop) (h4 : ¬ pt = .radio) (h5 : ¬ pt = .fabric) (h6 : ¬ pt = .replies) (h7 : ¬ pt = .log) (h8 : ¬ pt = .out) (a₀ : State) (s : State) (m : Nat) (f : RadioFrame) (offset : Int) (rssi : Int) : pt.same a₀ (State.linkReply s m f offset rssi) ↔ pt.same a₀ s := by
  unfold State.linkReply
  (repeat' split) <;> simp [h0, h1, h2, h3, h4, h5, h6, h7, h8, State.micFail_same, State.replayDrop_same, State.acceptReply_same]

theorem State.nbrBeacon_same {pt : Part} (h0 : ¬ pt = .clash) (h1 : ¬ pt = .dict) (h2 : ¬ pt = .comb) (h3 : ¬ pt = .stop) (h4 : ¬ pt = .radio) (h5 : ¬ pt = .log) (h6 : ¬ pt = .out) (a₀ : State) (s : State) (k : Nat) (n : Nat) (f : RadioFrame) : pt.same a₀ (State.nbrBeacon s k n f) ↔ pt.same a₀ s := by
  unfold State.nbrBeacon
  (repeat' split) <;> simp [h0, h1, h2, h3, h4, h5, h6, State.micFail_same, State.replayDrop_same, State.clashHeard_same, State.hbReceived_same]

theorem State.replanModem_same {pt : Part} (h0 : ¬ pt = .radio) (a₀ : State) (s : State) (k : Nat) : pt.same a₀ (State.replanModem s k) ↔ pt.same a₀ s := by
  unfold State.replanModem
  (repeat' split) <;> simp [h0, State.setModem_same]

theorem State.sendBeacon_same {pt : Part} (h0 : ¬ pt = .health) (h1 : ¬ pt = .comb) (h2 : ¬ pt = .radio) (h3 : ¬ pt = .out) (a₀ : State) (s : State) (k : Nat) : pt.same a₀ (State.sendBeacon s k) ↔ pt.same a₀ s := by
  unfold State.sendBeacon
  (repeat' split) <;> simp [h0, h1, h2, h3, State.heartbeat_same, State.setModem_same, State.joinOpen_same, State.broadcast_same]

theorem State.waggleSent_same {pt : Part} (h0 : ¬ pt = .dict) (h1 : ¬ pt = .radio) (h2 : ¬ pt = .out) (a₀ : State) (s : State) (k : Nat) (id : Nat) : pt.same a₀ (State.waggleSent s k id) ↔ pt.same a₀ s := by
  unfold State.waggleSent
  simp [h1, State.setModem_same]; (repeat' split) <;> simp [h0, h1, h2, State.setModem_same, State.answer_same]

theorem State.sendWaggle_same {pt : Part} (h0 : ¬ pt = .health) (h1 : ¬ pt = .dict) (h2 : ¬ pt = .radio) (h3 : ¬ pt = .out) (a₀ : State) (s : State) (k : Nat) : pt.same a₀ (State.sendWaggle s k) ↔ pt.same a₀ s := by
  unfold State.sendWaggle
  (repeat' split) <;> simp [h0, h1, h2, h3, State.setModem_same, State.broadcast_same, State.waggleSent_same]

theorem State.superviseLink_same {pt : Part} (h0 : ¬ pt = .dict) (h1 : ¬ pt = .conf) (h2 : ¬ pt = .stop) (h3 : ¬ pt = .radio) (h4 : ¬ pt = .log) (h5 : ¬ pt = .out) (a₀ : State) (s : State) (m : Nat) : pt.same a₀ (State.superviseLink s m) ↔ pt.same a₀ s := by
  unfold State.superviseLink
  (repeat' split) <;> simp [h0, h1, h2, h3, h4, h5, State.endLink_same]

end Sys2Proof.Machine
end

