-- ==== Sys2Proof/Laws/TrackOps.lean ====
section
/-!
SUPPORT. What each operation of Tracking can move: every part but those it names is as it was.
-/

namespace Sys2Proof.Machine

theorem State.setTrack_same {pt : Part} (h0 : ¬ pt = .track) (a₀ : State) (s : State) (f : Tracking → Tracking) : pt.same a₀ (State.setTrack s f) ↔ pt.same a₀ s := by
  unfold State.setTrack
  (repeat' split) <;> simp [h0]

theorem State.trackReset_same {pt : Part} (h0 : ¬ pt = .track) (a₀ : State) (s : State) : pt.same a₀ (State.trackReset s) ↔ pt.same a₀ s := by
  unfold State.trackReset
  (repeat' split) <;> simp [h0, State.setTrack_same]

theorem State.setPort_same {pt : Part} (h0 : ¬ pt = .track) (a₀ : State) (s : State) (g : Nat) (f : GsPort → GsPort) : pt.same a₀ (State.setPort s g f) ↔ pt.same a₀ s := by
  unfold State.setPort
  (repeat' split) <;> simp [h0, State.setTrack_same]

theorem State.offsetTick_same {pt : Part} (h0 : ¬ pt = .track) (a₀ : State) (s : State) (g : Nat) (counter : Nat) : pt.same a₀ (State.offsetTick s g counter) ↔ pt.same a₀ s := by
  unfold State.offsetTick
  simp; (repeat' split) <;> simp [h0, State.setPort_same]

theorem State.jamJudge_same {pt : Part} (h0 : ¬ pt = .track) (h1 : ¬ pt = .log) (a₀ : State) (s : State) (g : Nat) (cond : Bool) : pt.same a₀ (State.jamJudge s g cond) ↔ pt.same a₀ s := by
  unfold State.jamJudge
  (repeat' split) <;> simp [h0, h1, State.setPort_same, State.logEv_same]

theorem State.agcUpdate_same {pt : Part} (h0 : ¬ pt = .track) (h1 : ¬ pt = .log) (h2 : ¬ pt = .free) (a₀ : State) (s : State) (g : Nat) (edges : List GsEdge) (counter : Nat) : pt.same a₀ (State.agcUpdate s g edges counter) ↔ pt.same a₀ s := by
  unfold State.agcUpdate
  (repeat' split) <;> simp [h0, h1, h2, State.offsetTick_same, State.setPort_same, State.jamJudge_same, State.draw_same, State.logEv_same]

theorem State.reshare_same {pt : Part} (h0 : ¬ pt = .track) (a₀ : State) (s : State) (g : Nat) (c : Nat) : pt.same a₀ (State.reshare s g c) ↔ pt.same a₀ s := by
  unfold State.reshare
  (repeat' split) <;> simp [h0, State.setTrack_same]

theorem State.reshareGroup_same {pt : Part} (h0 : ¬ pt = .track) (a₀ : State) (s : State) (g : Nat) : pt.same a₀ (State.reshareGroup s g) ↔ pt.same a₀ s := by
  unfold State.reshareGroup
  (repeat' split) <;> simp [h0, State.reshare_same]

theorem State.standbyEnter_same {pt : Part} (h0 : ¬ pt = .track) (a₀ : State) (s : State) : pt.same a₀ (State.standbyEnter s).1 ↔ pt.same a₀ s := by
  unfold State.standbyEnter
  (repeat' split) <;> simp [h0, State.reshareGroup_same, State.setTrack_same]

theorem State.standbyExit_same {pt : Part} (h0 : ¬ pt = .track) (h1 : ¬ pt = .dev) (a₀ : State) (s : State) : pt.same a₀ (State.standbyExit s).1 ↔ pt.same a₀ s := by
  unfold State.standbyExit
  (repeat' split) <;> simp [h0, h1, State.setTrack_same]

theorem State.rateWritten_same {pt : Part} (h0 : ¬ pt = .track) (a₀ : State) (s : State) : pt.same a₀ (State.rateWritten s) ↔ pt.same a₀ s := by
  unfold State.rateWritten
  (repeat' split) <;> simp [h0, State.setTrack_same]

theorem State.askAcquire_same {pt : Part} (h0 : ¬ pt = .dev) (a₀ : State) (s : State) (antenna : Nat) (x : Sig) : pt.same a₀ (State.askAcquire s antenna x) ↔ pt.same a₀ s := by
  unfold State.askAcquire
  (repeat' split) <;> simp [h0]

theorem State.setChan_same {pt : Part} (h0 : ¬ pt = .track) (a₀ : State) (s : State) (ch : Nat) (f : Chan → Chan) : pt.same a₀ (State.setChan s ch f) ↔ pt.same a₀ s := by
  unfold State.setChan
  (repeat' split) <;> simp [h0, State.setTrack_same]

theorem State.bumpJump_same {pt : Part} (h0 : ¬ pt = .track) (a₀ : State) (s : State) (ch : Nat) (corr : List Corr) : pt.same a₀ (State.bumpJump s ch corr) ↔ pt.same a₀ s := by
  unfold State.bumpJump
  (repeat' split) <;> simp [h0, State.setChan_same]

theorem State.clearPeak_same {pt : Part} (h0 : ¬ pt = .track) (a₀ : State) (s : State) (x : Sig) : pt.same a₀ (State.clearPeak s x) ↔ pt.same a₀ s := by
  unfold State.clearPeak
  (repeat' split) <;> simp [h0, State.setTrack_same]

theorem State.clockBack_same {pt : Part} (h0 : ¬ pt = .track) (h1 : ¬ pt = .log) (a₀ : State) (s : State) (g : Nat) : pt.same a₀ (State.clockBack s g) ↔ pt.same a₀ s := by
  unfold State.clockBack
  (repeat' split) <;> simp [h0, h1, State.logEv_same, State.setPort_same]

theorem State.trackCommitted_same {pt : Part} (h0 : ¬ pt = .track) (a₀ : State) (s : State) : pt.same a₀ (State.trackCommitted s) ↔ pt.same a₀ s := by
  unfold State.trackCommitted
  (repeat' split) <;> simp [h0, State.setTrack_same]

theorem State.clockLost_same {pt : Part} (h0 : ¬ pt = .track) (h1 : ¬ pt = .log) (a₀ : State) (s : State) (g : Nat) : pt.same a₀ (State.clockLost s g) ↔ pt.same a₀ s := by
  unfold State.clockLost
  (repeat' split) <;> simp [h0, h1, State.logEv_same, State.reshareGroup_same, State.setTrack_same, State.setPort_same]

theorem State.doaBand_same {pt : Part} (h0 : ¬ pt = .track) (h1 : ¬ pt = .log) (a₀ : State) (s : State) (band : Nat) (free : Nat) (phase : Nat → Chan → Int) (sight : Nat → Option V3) : pt.same a₀ (State.doaBand s band free phase sight) ↔ pt.same a₀ s := by
  unfold State.doaBand
  (repeat' split) <;> simp [h0, h1, State.setTrack_same, State.setChan_same, State.logEv_same]

theorem State.trackRestart_same {pt : Part} (h0 : ¬ pt = .track) (a₀ : State) (s : State) : pt.same a₀ (State.trackRestart s) ↔ pt.same a₀ s := by
  unfold State.trackRestart
  (repeat' split) <;> simp [h0, State.setTrack_same]

theorem State.trackPost_same {pt : Part} (h0 : ¬ pt = .health) (h1 : ¬ pt = .track) (h2 : ¬ pt = .fabric) (h3 : ¬ pt = .replies) (h4 : ¬ pt = .log) (a₀ : State) (s : State) (q : Nat) (b : Bytes) : pt.same a₀ (State.trackPost s q b) ↔ pt.same a₀ s := by
  unfold State.trackPost
  split
  · rename_i e; exact State.post?_same (by assumption) (by assumption) (by assumption) (by assumption) a₀ _ _ _ e
  · simp [h1, h4, State.logEv_same, State.setTrack_same]

theorem State.groupPacket_same {pt : Part} (h0 : ¬ pt = .health) (h1 : ¬ pt = .track) (h2 : ¬ pt = .fabric) (h3 : ¬ pt = .replies) (h4 : ¬ pt = .log) (a₀ : State) (s : State) (g : Nat) (nominal : Int) (first : Nat) (meas : Nat → ChanMeas) (pairs : List Pair) (step : Bool) : pt.same a₀ (State.groupPacket s g nominal first meas pairs step) ↔ pt.same a₀ s := by
  unfold State.groupPacket
  (repeat' split) <;> simp [h0, h1, h2, h3, h4, State.setChan_same, State.setTrack_same, State.trackPost_same]

theorem State.gsGap_same {pt : Part} (h0 : ¬ pt = .track) (a₀ : State) (s : State) (g : Nat) : pt.same a₀ (State.gsGap s g) ↔ pt.same a₀ s := by
  unfold State.gsGap
  (repeat' split) <;> simp [h0, State.setTrack_same, State.setPort_same]

theorem State.handover_same {pt : Part} (h0 : ¬ pt = .track) (a₀ : State) (s : State) (antenna : Nat) (f : Found) : pt.same a₀ (State.handover s antenna f) ↔ pt.same a₀ s := by
  unfold State.handover
  simp; (repeat' split) <;> simp [h0, State.reshare_same, State.setTrack_same]

theorem State.idleChan_same {pt : Part} (h0 : ¬ pt = .track) (a₀ : State) (s : State) (ch : Nat) : pt.same a₀ (State.idleChan s ch) ↔ pt.same a₀ s := by
  unfold State.idleChan
  (repeat' split) <;> simp [h0, State.setTrack_same]

theorem State.jamClear_same {pt : Part} (h0 : ¬ pt = .track) (a₀ : State) (s : State) (g : Nat) : pt.same a₀ (State.jamClear s g) ↔ pt.same a₀ s := by
  unfold State.jamClear
  (repeat' split) <;> simp [h0, State.setPort_same]

theorem State.lockStep_same {pt : Part} (h0 : ¬ pt = .track) (a₀ : State) (s : State) (ch : Nat) (o : LockObs) : pt.same a₀ (State.lockStep s ch o) ↔ pt.same a₀ s := by
  unfold State.lockStep
  (repeat' split) <;> simp [h0, State.setChan_same, State.reshare_same]

theorem State.loseChan_same {pt : Part} (h0 : ¬ pt = .track) (h1 : ¬ pt = .dev) (a₀ : State) (s : State) (ch : Nat) : pt.same a₀ (State.loseChan s ch) ↔ pt.same a₀ s := by
  unfold State.loseChan
  (repeat' split) <;> simp [h0, h1, State.reshare_same, State.askAcquire_same, State.idleChan_same]

theorem State.lockTimeout_same {pt : Part} (h0 : ¬ pt = .track) (h1 : ¬ pt = .dev) (a₀ : State) (s : State) (ch : Nat) (st : Lock) (limit : Nat) : pt.same a₀ (State.lockTimeout s ch st limit) ↔ pt.same a₀ s := by
  unfold State.lockTimeout
  (repeat' split) <;> simp [h0, h1, State.loseChan_same]

theorem State.navMessage_same {pt : Part} (h0 : ¬ pt = .health) (h1 : ¬ pt = .track) (h2 : ¬ pt = .tb) (h3 : ¬ pt = .fabric) (h4 : ¬ pt = .replies) (h5 : ¬ pt = .log) (a₀ : State) (s : State) (m : NavUnit) (news : NavNews) : pt.same a₀ (State.navMessage s m news) ↔ pt.same a₀ s := by
  unfold State.navMessage
  (repeat' split) <;> simp [h0, h1, h2, h3, h4, h5, State.setTrack_same, State.trackPost_same]

theorem State.trackApply_same {pt : Part} (h0 : ¬ pt = .track) (h1 : ¬ pt = .dev) (a₀ : State) (s : State) : pt.same a₀ (State.trackApply s) ↔ pt.same a₀ s := by
  unfold State.trackApply
  dsimp only
  rw [same_foldl _ _ _ _ fun s g => State.reshareGroup_same (by assumption) a₀ s g, State.setTrack_same (by assumption), same_foldl]
  intro s x
  split
  · rw [same_foldl a₀ _ (fun s (e : Nat × Chan) => s.loseChan e.1) _ fun s e => State.loseChan_same (by assumption) (by assumption) a₀ s e.1, State.setPort_same (by assumption)]
    split
    · rw [State.setPort_same (by assumption)]
    · rfl
  · rfl

theorem State.trackEpoch_same {pt : Part} (h0 : ¬ pt = .health) (h1 : ¬ pt = .track) (h2 : ¬ pt = .dev) (h3 : ¬ pt = .fabric) (h4 : ¬ pt = .replies) (h5 : ¬ pt = .log) (h6 : ¬ pt = .free) (a₀ : State) (s : State) (firsts : List Nat) (l : List ChanMeas) : pt.same a₀ (State.trackEpoch s firsts l) ↔ pt.same a₀ s := by
  unfold State.trackEpoch
  (repeat' split) <;> simp [h0, h1, h2, h3, h4, h5, h6, State.setTrack_same, State.trackApply_same, State.doaBand_same, State.groupPacket_same]

theorem State.watchDwell_same {pt : Part} (h0 : ¬ pt = .track) (h1 : ¬ pt = .log) (a₀ : State) (s : State) (ch : Nat) (power : Nat) : pt.same a₀ (State.watchDwell s ch power) ↔ pt.same a₀ s := by
  unfold State.watchDwell
  simp; (repeat' split) <;> simp [h0, h1, State.setTrack_same, State.logEv_same]

end Sys2Proof.Machine
end

