-- ==== Sys2Proof/Laws/DevOps.lean ====
section
/-!
SUPPORT. What each operation of the Developer can move: every part but those it names is as it was.
-/

namespace Sys2Proof.Machine

theorem State.setDev_same {pt : Part} (h0 : ¬ pt = .dev) (a₀ : State) (s : State) (f : Developer → Developer) : pt.same a₀ (State.setDev s f) ↔ pt.same a₀ s := by
  unfold State.setDev
  (repeat' split) <;> simp [h0]

theorem State.devReset_same {pt : Part} (h0 : ¬ pt = .dev) (a₀ : State) (s : State) : pt.same a₀ (State.devReset s) ↔ pt.same a₀ s := by
  unfold State.devReset
  (repeat' split) <;> simp [h0, State.setDev_same]

theorem State.devIslandReset_same {pt : Part} (h0 : ¬ pt = .dev) (a₀ : State) (s : State) : pt.same a₀ (State.devIslandReset s) ↔ pt.same a₀ s := by
  unfold State.devIslandReset
  (repeat' split) <;> simp [h0, State.setDev_same]

theorem State.devAnswer_same {pt : Part} (h0 : ¬ pt = .out) (a₀ : State) (s : State) (outcome : Nat) : pt.same a₀ (State.devAnswer s outcome) ↔ pt.same a₀ s := by
  unfold State.devAnswer
  (repeat' split) <;> simp [h0, State.emit_same]

theorem State.devRefuse_same {pt : Part} (h0 : ¬ pt = .dev) (h1 : ¬ pt = .out) (a₀ : State) (s : State) (outcome : Nat) : pt.same a₀ (State.devRefuse s outcome) ↔ pt.same a₀ s := by
  unfold State.devRefuse
  (repeat' split) <;> simp [h0, h1, State.devAnswer_same, State.setDev_same]

theorem State.devFailed_same {pt : Part} (h0 : ¬ pt = .dev) (h1 : ¬ pt = .out) (a₀ : State) (s : State) : pt.same a₀ (State.devFailed s) ↔ pt.same a₀ s := by
  unfold State.devFailed
  (repeat' split) <;> simp [h0, h1, State.setDev_same, State.devRefuse_same]

theorem State.devRelease_same {pt : Part} (h0 : ¬ pt = .dev) (a₀ : State) (s : State) : pt.same a₀ (State.devRelease s) ↔ pt.same a₀ s := by
  unfold State.devRelease
  (repeat' split) <;> simp [h0, State.setDev_same]

theorem State.devRestart_same {pt : Part} (h0 : ¬ pt = .dev) (a₀ : State) (s : State) : pt.same a₀ (State.devRestart s) ↔ pt.same a₀ s := by
  unfold State.devRestart
  (repeat' split) <;> simp [h0, State.setDev_same]

theorem State.devResult_same {pt : Part} (h0 : ¬ pt = .health) (h1 : ¬ pt = .dev) (h2 : ¬ pt = .conf) (h3 : ¬ pt = .fabric) (h4 : ¬ pt = .replies) (h5 : ¬ pt = .log) (h6 : ¬ pt = .out) (a₀ : State) (s : State) (slot : Nat) (sky : List SatEph) : pt.same a₀ (State.devResult s slot sky) ↔ pt.same a₀ s := by
  unfold State.devResult
  dsimp only
  repeat' split
  all_goals first
    | rfl
    | (have e := ‹State.post? _ _ _ = some _›
       rw [State.issueConf_same (by assumption) (by assumption), State.devAnswer_same (by assumption), State.setDev_same (by assumption)]
       exact State.post?_same (by assumption) (by assumption) (by assumption) (by assumption) a₀ _ _ _ e)

theorem State.exposureArrival_same {pt : Part} (h0 : ¬ pt = .dev) (h1 : ¬ pt = .out) (a₀ : State) (s : State) (pkt : Bytes) : pt.same a₀ (State.exposureArrival s pkt) ↔ pt.same a₀ s := by
  unfold State.exposureArrival
  simp; (repeat' split) <;> simp [h0, h1, State.devRefuse_same, State.setDev_same]

theorem State.spend_same {pt : Part} (h0 : ¬ pt = .health) (h1 : ¬ pt = .dev) (a₀ : State) (s : State) (own : Bool) (cost : Nat) {s' : State} (h : s.spend own cost = some s') : pt.same a₀ s' ↔ pt.same a₀ s := by
  unfold State.spend at h
  simp only [Option.map_eq_some_iff] at h
  obtain ⟨p, -, rfl⟩ := h
  simp [h0, h1, State.count_same, State.setDev_same]

theorem State.exposureStart_same {pt : Part} (h0 : ¬ pt = .health) (h1 : ¬ pt = .dev) (h2 : ¬ pt = .out) (a₀ : State) (s : State) (sky : List SkySignal) : pt.same a₀ (State.exposureStart s sky) ↔ pt.same a₀ s := by
  unfold State.exposureStart
  simp only []
  repeat' split
  all_goals first
    | (simp [h1, h2, State.setDev_same, State.devRefuse_same]; done)
    | (rename_i e _; simp [h1, State.setDev_same, State.spend_same (by assumption) (by assumption) a₀ _ _ _ e]; done)
    | (rename_i e; simp [h0, h1, h2, State.setDev_same, State.devRefuse_same, State.spend_same (by assumption) (by assumption) a₀ _ _ _ e]; done)

theorem State.ownDone_same {pt : Part} (h0 : ¬ pt = .track) (h1 : ¬ pt = .dev) (a₀ : State) (s : State) (cap : Snapshot) (sky : List SatEph) : pt.same a₀ (State.ownDone s cap sky) ↔ pt.same a₀ s := by
  unfold State.ownDone
  (repeat' split) <;> simp [h0, h1, State.setDev_same, State.handover_same]

theorem State.ownStart_same {pt : Part} (h0 : ¬ pt = .health) (h1 : ¬ pt = .dev) (a₀ : State) (s : State) : pt.same a₀ (State.ownStart s) ↔ pt.same a₀ s := by
  unfold State.ownStart
  split
  · rfl
  · split
    · rfl
    · split
      · rfl
      · extract_lets sigs cost p rest
        split
        · rfl
        · split
          · rfl
          · rename_i e
            extract_lets run
            rw [State.setDev_same (by assumption)]
            exact State.spend_same (by assumption) (by assumption) a₀ _ _ _ e

theorem State.reacquire_same {pt : Part} (h0 : ¬ pt = .dev) (a₀ : State) (s : State) (sky : List SkySignal) : pt.same a₀ (State.reacquire s sky) ↔ pt.same a₀ s := by
  unfold State.reacquire
  (repeat' split) <;> simp [h0, State.setDev_same]

theorem State.standbyExposure_same {pt : Part} (h0 : ¬ pt = .health) (h1 : ¬ pt = .dev) (a₀ : State) (s : State) : pt.same a₀ (State.standbyExposure s) ↔ pt.same a₀ s := by
  unfold State.standbyExposure
  dsimp only
  split
  · rfl
  · rw [State.setDev_same (by assumption)]
    generalize hg : s.spend true _ = o
    cases o with
    | none => rfl
    | some s' => exact State.spend_same (by assumption) (by assumption) a₀ _ _ _ hg

theorem State.standbyResult_same {pt : Part} (h0 : ¬ pt = .health) (h1 : ¬ pt = .dev) (h2 : ¬ pt = .tb) (h3 : ¬ pt = .log) (h4 : ¬ pt = .free) (a₀ : State) (s : State) (cap : Snapshot) (sky : List SatEph) : pt.same a₀ (State.standbyResult s cap sky) ↔ pt.same a₀ s := by
  unfold State.standbyResult
  split
  · rfl
  · rename_i x _
    simp only []
    split
    · rfl
    · rename_i s1 e
      have e' : pt.same a₀ s1 ↔ pt.same a₀ s := by
        split at e
        · cases e; rfl
        · exact State.spend_same (by assumption) (by assumption) a₀ _ _ _ e
      (repeat' split) <;> simp [h1, h2, h3, h4, State.draw_same, State.setDev_same, State.offset_same, State.logEv_same, e']

end Sys2Proof.Machine
end

