-- ==== Sys2Proof/Laws/BaseOps.lean ====
section
/-!
SUPPORT. What each operation of the base can move: every part but those it names is as it was.
-/

namespace Sys2Proof.Machine

theorem State.setBase_same {pt : Part} (h0 : ¬ pt = .base) (a₀ : State) (s : State) (f : Base → Base) : pt.same a₀ (State.setBase s f) ↔ pt.same a₀ s := by
  unfold State.setBase
  (repeat' split) <;> simp [h0]

theorem State.baseCommitted_same {pt : Part} (h0 : ¬ pt = .base) (a₀ : State) (s : State) : pt.same a₀ (State.baseCommitted s) ↔ pt.same a₀ s := by
  unfold State.baseCommitted
  (repeat' split) <;> simp [h0, State.setBase_same]

theorem State.withhold_same {pt : Part} (h0 : ¬ pt = .base) (a₀ : State) (s : State) (nominal : Int) : pt.same a₀ (State.withhold s nominal) ↔ pt.same a₀ s := by
  unfold State.withhold
  (repeat' split) <;> simp [h0, State.setBase_same]

theorem State.skipRedo_same {pt : Part} (h0 : ¬ pt = .base) (a₀ : State) (s : State) (nominal : Int) : pt.same a₀ (State.skipRedo s nominal) ↔ pt.same a₀ s := by
  unfold State.skipRedo
  (repeat' split) <;> simp [h0, State.setBase_same, State.withhold_same]

theorem State.setSurveyState_same {pt : Part} (h0 : ¬ pt = .settings) (a₀ : State) (s : State) (n : Nat) : pt.same a₀ (State.setSurveyState s n) ↔ pt.same a₀ s := by
  unfold State.setSurveyState
  (repeat' split) <;> simp [h0, State.setVal_same]

theorem State.surveyPoll_same {pt : Part} (h0 : ¬ pt = .settings) (h1 : ¬ pt = .base) (a₀ : State) (s : State) : pt.same a₀ (State.surveyPoll s) ↔ pt.same a₀ s := by
  unfold State.surveyPoll
  (repeat' split) <;> simp [h0, h1, State.setSurveyState_same, State.setBase_same]

theorem State.netSolve_same {pt : Part} (h0 : ¬ pt = .base) (a₀ : State) (s : State) (sky : List SatEph) (nominal : Int) (l : List Nat) (spp : Option V3) : pt.same a₀ (State.netSolve s sky nominal l spp) ↔ pt.same a₀ s := by
  unfold State.netSolve
  (repeat' split) <;> simp [h0, State.setBase_same]

theorem State.offerGnss_same {pt : Part} (h0 : ¬ pt = .tb) (h1 : ¬ pt = .log) (a₀ : State) (s : State) (clocks : List (Nat × Rat)) (fails : Nat) : pt.same a₀ (State.offerGnss s clocks fails) ↔ pt.same a₀ s := by
  unfold State.offerGnss
  (repeat' split) <;> simp [h0, h1, State.offset_same]

theorem State.baseTo_same {pt : Part} (h0 : ¬ pt = .base) (h1 : ¬ pt = .rover) (a₀ : State) (s : State) (st : Nat) : pt.same a₀ (State.baseTo s st) ↔ pt.same a₀ s := by
  unfold State.baseTo
  (repeat' split) <;> simp [h0, h1, State.setBase_same]

theorem State.suspectStep_same {pt : Part} (h0 : ¬ pt = .base) (a₀ : State) (s : State) (fails : Nat) : pt.same a₀ (State.suspectStep s fails) ↔ pt.same a₀ s := by
  unfold State.suspectStep
  (repeat' split) <;> simp [h0, State.setBase_same]

theorem State.baseJudge_same {pt : Part} (h0 : ¬ pt = .base) (h1 : ¬ pt = .rover) (h2 : ¬ pt = .log) (a₀ : State) (s : State) (fails : Nat) : pt.same a₀ (State.baseJudge s fails) ↔ pt.same a₀ s := by
  unfold State.baseJudge
  (repeat' split) <;> simp [h0, h1, h2, State.setBase_same, State.logEv_same, State.baseTo_same, State.suspectStep_same]

theorem State.deliver_same {pt : Part} (h0 : ¬ pt = .health) (h1 : ¬ pt = .base) (h2 : ¬ pt = .radio) (h3 : ¬ pt = .fabric) (h4 : ¬ pt = .replies) (h5 : ¬ pt = .log) (h6 : ¬ pt = .out) (a₀ : State) (s : State) (frames : List Bytes) : pt.same a₀ (State.deliver s frames) ↔ pt.same a₀ s := by
  unfold State.deliver
  (repeat' split) <;> simp [h0, h1, h2, h3, h4, h5, h6, State.setBase_same, State.setModem_same, State.emit_same, State.post_same]

theorem State.corrections_same {pt : Part} (h0 : ¬ pt = .health) (h1 : ¬ pt = .base) (h2 : ¬ pt = .radio) (h3 : ¬ pt = .fabric) (h4 : ¬ pt = .replies) (h5 : ¬ pt = .log) (h6 : ¬ pt = .out) (a₀ : State) (s : State) (nominal : Int) (l : List Nat) : pt.same a₀ (State.corrections s nominal l) ↔ pt.same a₀ s := by
  unfold State.corrections
  (repeat' split) <;> simp [h0, h1, h2, h3, h4, h5, h6, State.setBase_same, State.withhold_same, State.deliver_same]

theorem State.loadBase_same {pt : Part} (h0 : ¬ pt = .base) (a₀ : State) (s : State) : pt.same a₀ (State.loadBase s) ↔ pt.same a₀ s := by
  unfold State.loadBase
  (repeat' split) <;> simp [h0, State.setBase_same]

theorem State.baseStart_same {pt : Part} (h0 : ¬ pt = .base) (h1 : ¬ pt = .rover) (a₀ : State) (s : State) : pt.same a₀ (State.baseStart s) ↔ pt.same a₀ s := by
  unfold State.baseStart
  (repeat' split) <;> simp [h0, h1, State.baseTo_same, State.setBase_same]

theorem State.surveyEnd_same {pt : Part} (h0 : ¬ pt = .settings) (h1 : ¬ pt = .base) (h2 : ¬ pt = .rover) (a₀ : State) (s : State) (n : Nat) : pt.same a₀ (State.surveyEnd s n) ↔ pt.same a₀ s := by
  unfold State.surveyEnd
  (repeat' split) <;> simp [h0, h1, h2, State.baseStart_same, State.setSurveyState_same, State.setBase_same]

theorem State.surveyed_same {pt : Part} (h0 : ¬ pt = .settings) (h1 : ¬ pt = .base) (h2 : ¬ pt = .rover) (h3 : ¬ pt = .log) (a₀ : State) (s : State) (x : Survey) (sigma : Nat) : pt.same a₀ (State.surveyed s x sigma) ↔ pt.same a₀ s := by
  unfold State.surveyed
  (repeat' split) <;> simp [h0, h1, h2, h3, State.setVal_same, State.loadBase_same, State.logEv_same, State.surveyEnd_same]

theorem State.surveyEpoch_same {pt : Part} (h0 : ¬ pt = .settings) (h1 : ¬ pt = .base) (h2 : ¬ pt = .rover) (h3 : ¬ pt = .log) (a₀ : State) (s : State) (spp : Option V3) : pt.same a₀ (State.surveyEpoch s spp) ↔ pt.same a₀ s := by
  unfold State.surveyEpoch
  simp; (repeat' split) <;> simp [h0, h1, h2, h3, State.setBase_same, State.surveyed_same, State.logEv_same, State.surveyEnd_same]

theorem State.baseSolve_same {pt : Part} (h0 : ¬ pt = .health) (h1 : ¬ pt = .settings) (h2 : ¬ pt = .base) (h3 : ¬ pt = .rover) (h4 : ¬ pt = .radio) (h5 : ¬ pt = .tb) (h6 : ¬ pt = .fabric) (h7 : ¬ pt = .replies) (h8 : ¬ pt = .log) (h9 : ¬ pt = .out) (a₀ : State) (s : State) (nominal : Int) (sky : List SatEph) : pt.same a₀ (State.baseSolve s nominal sky) ↔ pt.same a₀ s := by
  unfold State.baseSolve
  (repeat' split) <;> simp [h0, h1, h2, h3, h4, h5, h6, h7, h8, h9, State.setBase_same, State.surveyPoll_same, State.netSolve_same, State.offerGnss_same, State.baseJudge_same, State.corrections_same, State.surveyEpoch_same]

theorem State.baseEpoch_same {pt : Part} (h0 : ¬ pt = .health) (h1 : ¬ pt = .settings) (h2 : ¬ pt = .base) (h3 : ¬ pt = .rover) (h4 : ¬ pt = .radio) (h5 : ¬ pt = .tb) (h6 : ¬ pt = .fabric) (h7 : ¬ pt = .replies) (h8 : ¬ pt = .log) (h9 : ¬ pt = .out) (a₀ : State) (s : State) (nominal : Int) (sky : List SatEph) : pt.same a₀ (State.baseEpoch s nominal sky) ↔ pt.same a₀ s := by
  unfold State.baseEpoch
  (repeat' split) <;> simp [h0, h1, h2, h3, h4, h5, h6, h7, h8, h9, State.skipRedo_same, State.setBase_same, State.baseSolve_same]

theorem State.baseNoTracking_same {pt : Part} (h0 : ¬ pt = .base) (h1 : ¬ pt = .rover) (h2 : ¬ pt = .log) (a₀ : State) (s : State) : pt.same a₀ (State.baseNoTracking s) ↔ pt.same a₀ s := by
  unfold State.baseNoTracking
  (repeat' split) <;> simp [h0, h1, h2, State.logEv_same, State.baseTo_same, State.setBase_same]

theorem State.baseNominal_same {pt : Part} (h0 : ¬ pt = .settings) (h1 : ¬ pt = .base) (h2 : ¬ pt = .rover) (a₀ : State) (s : State) : pt.same a₀ (State.baseNominal s) ↔ pt.same a₀ s := by
  unfold State.baseNominal
  (repeat' split) <;> simp [h0, h1, h2, State.baseStart_same, State.loadBase_same, State.setVal_same, State.setBase_same]

theorem State.baseReset_same {pt : Part} (h0 : ¬ pt = .settings) (h1 : ¬ pt = .base) (h2 : ¬ pt = .rover) (h3 : ¬ pt = .log) (a₀ : State) (s : State) : pt.same a₀ (State.baseReset s) ↔ pt.same a₀ s := by
  unfold State.baseReset
  (repeat' split) <;> simp [h0, h1, h2, h3, State.baseStart_same, State.loadBase_same, State.setBase_same, State.logEv_same, State.setSurveyState_same]

theorem State.surveyAbandon_same {pt : Part} (h0 : ¬ pt = .settings) (h1 : ¬ pt = .base) (h2 : ¬ pt = .rover) (a₀ : State) (s : State) : pt.same a₀ (State.surveyAbandon s).1 ↔ pt.same a₀ s := by
  unfold State.surveyAbandon
  (repeat' split) <;> simp [h0, h1, h2, State.surveyEnd_same]

theorem State.surveyStart_same {pt : Part} (h0 : ¬ pt = .settings) (h1 : ¬ pt = .base) (h2 : ¬ pt = .rover) (a₀ : State) (s : State) (net : Bool) : pt.same a₀ (State.surveyStart s net).1 ↔ pt.same a₀ s := by
  unfold State.surveyStart
  (repeat' split) <;> simp [h0, h1, h2, State.setSurveyState_same, State.baseTo_same, State.setBase_same]

theorem State.takeFrame_same {pt : Part} (h0 : ¬ pt = .base) (a₀ : State) (s : State) (b : Bytes) : pt.same a₀ (State.takeFrame s b) ↔ pt.same a₀ s := by
  unfold State.takeFrame
  (repeat' split) <;> simp [h0, State.setBase_same]

theorem State.netPort_same {pt : Part} (h0 : ¬ pt = .base) (a₀ : State) (s : State) (req : Bytes) : pt.same a₀ (State.netPort s req).1 ↔ pt.same a₀ s := by
  unfold State.netPort
  (repeat' split) <;> simp [h0, State.takeFrame_same, State.setBase_same]

end Sys2Proof.Machine
end

