-- ==== Sys2Proof/Laws/RoverOps.lean ====
section
/-!
SUPPORT. What each operation of rovers can move: every part but those it names is as it was.
-/

namespace Sys2Proof.Machine

theorem State.setRover_same {pt : Part} (h0 : ¬ pt = .rover) (a₀ : State) (s : State) (f : Rover → Rover) : pt.same a₀ (State.setRover s f) ↔ pt.same a₀ s := by
  unfold State.setRover
  (repeat' split) <;> simp [h0]

theorem State.roverResetAll_same {pt : Part} (h0 : ¬ pt = .rover) (a₀ : State) (s : State) : pt.same a₀ (State.roverResetAll s) ↔ pt.same a₀ s := by
  unfold State.roverResetAll
  (repeat' split) <;> simp [h0, State.setRover_same]

theorem State.roverRestart_same {pt : Part} (h0 : ¬ pt = .rover) (a₀ : State) (s : State) : pt.same a₀ (State.roverRestart s) ↔ pt.same a₀ s := by
  unfold State.roverRestart
  (repeat' split) <;> simp [h0, State.setRover_same]

theorem State.roverIslandReset_same {pt : Part} (h0 : ¬ pt = .rover) (a₀ : State) (s : State) : pt.same a₀ (State.roverIslandReset s) ↔ pt.same a₀ s := by
  unfold State.roverIslandReset
  (repeat' split) <;> simp [h0, State.roverRestart_same]

theorem State.refusedFix_same {pt : Part} (h0 : ¬ pt = .free) (a₀ : State) (s : State) (slot : Nat) (machine : Nat) (r : Bytes) (outcome : Nat) : pt.same a₀ (State.refusedFix s slot machine r outcome).1 ↔ pt.same a₀ s := by
  unfold State.refusedFix
  simp [h0, State.drawBytes_same]

theorem State.setRoverSlot_same {pt : Part} (h0 : ¬ pt = .rover) (a₀ : State) (s : State) (m : Nat) (f : RoverSlot → RoverSlot) : pt.same a₀ (State.setRoverSlot s m f) ↔ pt.same a₀ s := by
  unfold State.setRoverSlot
  (repeat' split) <;> simp [h0, State.setRover_same]

theorem State.postFix_same {pt : Part} (h0 : ¬ pt = .health) (h1 : ¬ pt = .rover) (h2 : ¬ pt = .fabric) (h3 : ¬ pt = .replies) (h4 : ¬ pt = .log) (a₀ : State) (s : State) (m : Nat) (b : Bytes) : pt.same a₀ (State.postFix s m b) ↔ pt.same a₀ s := by
  unfold State.postFix
  (repeat' split) <;> simp [h0, h1, h2, h3, h4, State.post_same, State.setRoverSlot_same]

theorem State.flushFixes_same {pt : Part} (h0 : ¬ pt = .health) (h1 : ¬ pt = .rover) (h2 : ¬ pt = .fabric) (h3 : ¬ pt = .replies) (h4 : ¬ pt = .log) (a₀ : State) (s : State) : pt.same a₀ (State.flushFixes s) ↔ pt.same a₀ s := by
  unfold State.flushFixes
  (repeat' split) <;> simp [h0, h1, h2, h3, h4, State.setRover_same, State.postFix_same]

theorem State.roverDrop_same {pt : Part} (h0 : ¬ pt = .health) (h1 : ¬ pt = .rover) (h2 : ¬ pt = .fabric) (h3 : ¬ pt = .replies) (h4 : ¬ pt = .log) (h5 : ¬ pt = .free) (a₀ : State) (s : State) (i : Nat) (x : RoverEpoch) (outcome : Nat) : pt.same a₀ (State.roverDrop s i x outcome) ↔ pt.same a₀ s := by
  unfold State.roverDrop
  simp [h0, h1, h2, h3, h4, h5, State.refusedFix_same, State.flushFixes_same, State.setRover_same]

theorem State.roverFailed_same {pt : Part} (h0 : ¬ pt = .health) (h1 : ¬ pt = .rover) (h2 : ¬ pt = .fabric) (h3 : ¬ pt = .replies) (h4 : ¬ pt = .log) (h5 : ¬ pt = .free) (a₀ : State) (s : State) : pt.same a₀ (State.roverFailed s) ↔ pt.same a₀ s := by
  unfold State.roverFailed
  rw [same_foldl]
  intro s x; (repeat' split) <;> simp [h0, h1, h2, h3, h4, h5, State.roverDrop_same]

theorem State.roverReset_same {pt : Part} (h0 : ¬ pt = .rover) (a₀ : State) (s : State) (m : Nat) : pt.same a₀ (State.roverReset s m).1 ↔ pt.same a₀ s := by
  unfold State.roverReset
  (repeat' split) <;> simp [h0, State.setRoverSlot_same]

theorem State.roverRefuse_same {pt : Part} (h0 : ¬ pt = .health) (h1 : ¬ pt = .rover) (h2 : ¬ pt = .fabric) (h3 : ¬ pt = .replies) (h4 : ¬ pt = .log) (h5 : ¬ pt = .free) (a₀ : State) (s : State) (slot : Nat) (machine : Nat) (arrival : Int) (r : Bytes) (outcome : Nat) : pt.same a₀ (State.roverRefuse s slot machine arrival r outcome) ↔ pt.same a₀ s := by
  unfold State.roverRefuse
  simp [h0, h1, h2, h3, h4, h5, State.refusedFix_same, State.flushFixes_same, State.setRover_same]

theorem State.obsArrival_same {pt : Part} (h0 : ¬ pt = .health) (h1 : ¬ pt = .rover) (h2 : ¬ pt = .conf) (h3 : ¬ pt = .fabric) (h4 : ¬ pt = .replies) (h5 : ¬ pt = .log) (h6 : ¬ pt = .out) (h7 : ¬ pt = .free) (a₀ : State) (s : State) (pkt : Bytes) : pt.same a₀ (State.obsArrival s pkt) ↔ pt.same a₀ s := by
  unfold State.obsArrival
  simp; (repeat' split) <;> simp [h0, h1, h2, h3, h4, h5, h6, h7, State.issueConf_same, State.roverRefuse_same, State.setRoverSlot_same, State.setRover_same]

theorem State.roverRelease_same {pt : Part} (h0 : ¬ pt = .rover) (a₀ : State) (s : State) : pt.same a₀ (State.roverRelease s) ↔ pt.same a₀ s := by
  unfold State.roverRelease
  (repeat' split) <;> simp [h0, State.setRover_same]

theorem State.roverDamage_same {pt : Part} (h0 : ¬ pt = .rover) (a₀ : State) (s : State) (m : Nat) : pt.same a₀ (State.roverDamage s m) ↔ pt.same a₀ s := by
  unfold State.roverDamage
  (repeat' split) <;> simp [h0, State.setRover_same]

theorem State.roverDone_same {pt : Part} (h0 : ¬ pt = .health) (h1 : ¬ pt = .rover) (h2 : ¬ pt = .conf) (h3 : ¬ pt = .fabric) (h4 : ¬ pt = .replies) (h5 : ¬ pt = .log) (h6 : ¬ pt = .out) (a₀ : State) (s : State) (slot : Nat) (sky : List SatEph) : pt.same a₀ (State.roverDone s slot sky) ↔ pt.same a₀ s := by
  unfold State.roverDone
  (repeat' split) <;> simp [h0, h1, h2, h3, h4, h5, h6, State.setRoverSlot_same, State.setRover_same, State.flushFixes_same, State.count_same, State.issueConf_same]

theorem State.roverStart_same {pt : Part} (h0 : ¬ pt = .health) (h1 : ¬ pt = .rover) (h2 : ¬ pt = .fabric) (h3 : ¬ pt = .replies) (h4 : ¬ pt = .log) (h5 : ¬ pt = .free) (a₀ : State) (s : State) : pt.same a₀ (State.roverStart s) ↔ pt.same a₀ s := by
  unfold State.roverStart
  (repeat' split) <;> simp [h0, h1, h2, h3, h4, h5, State.roverDrop_same, State.setRover_same]

end Sys2Proof.Machine
end

