-- ==== Sys2Proof/Laws/GroupOps.lean ====
section
/-!
SUPPORT. What each operation of stage groups can move: every part but those it names is as it was.
-/

namespace Sys2Proof.Machine

theorem State.groupCommit_same {pt : Part} (h0 : ¬ pt = .health) (h1 : ¬ pt = .dict) (h2 : ¬ pt = .settings) (h3 : ¬ pt = .comb) (h4 : ¬ pt = .track) (h5 : ¬ pt = .base) (h6 : ¬ pt = .radio) (h7 : ¬ pt = .tb) (h8 : ¬ pt = .outs) (h9 : ¬ pt = .net) (h10 : ¬ pt = .can) (h11 : ¬ pt = .fabric) (h12 : ¬ pt = .replies) (h13 : ¬ pt = .log) (h14 : ¬ pt = .out) (h15 : ¬ pt = .free) (a₀ : State) (s : State) (c : Nat) (who : Caller) : pt.same a₀ (State.groupCommit s c who).1 ↔ pt.same a₀ s := by
  unfold State.groupCommit
  (repeat' split) <;> simp [h0, h1, h2, h3, h4, h5, h6, h7, h8, h9, h10, h11, h12, h13, h14, h15, State.pulseCommitted_same, State.applyGroup_same, State.canPortCommitted_same, State.internalOp_same, State.trackCommitted_same, State.baseCommitted_same, State.radioCommitted_same, State.ptpCommitted_same, State.canTmCommitted_same]

theorem State.commitGroup_same {pt : Part} (h0 : ¬ pt = .health) (h1 : ¬ pt = .dict) (h2 : ¬ pt = .settings) (h3 : ¬ pt = .comb) (h4 : ¬ pt = .track) (h5 : ¬ pt = .base) (h6 : ¬ pt = .radio) (h7 : ¬ pt = .tb) (h8 : ¬ pt = .outs) (h9 : ¬ pt = .net) (h10 : ¬ pt = .can) (h11 : ¬ pt = .fabric) (h12 : ¬ pt = .replies) (h13 : ¬ pt = .log) (h14 : ¬ pt = .out) (h15 : ¬ pt = .free) (a₀ : State) (s : State) (c : Nat) (who : Caller) : pt.same a₀ (State.commitGroup s c who).1 ↔ pt.same a₀ s := by
  unfold State.commitGroup
  (repeat' split) <;> simp [h0, h1, h2, h3, h4, h5, h6, h7, h8, h9, h10, h11, h12, h13, h14, h15, State.groupCommit_same]

end Sys2Proof.Machine
end

