-- ==== Sys2Proof/Laws/BootOps.lean ====
section
/-!
SUPPORT. What each operation of boot and update can move: every part but those it names is as it was.
-/

namespace Sys2Proof.Machine

theorem State.setImg_same {pt : Part} (h0 : ¬ pt = .boot) (a₀ : State) (s : State) (i : Nat) (f : ImgSlot → ImgSlot) : pt.same a₀ (State.setImg s i f) ↔ pt.same a₀ s := by
  unfold State.setImg
  (repeat' split) <;> simp [h0]

theorem State.writeBoot_same {pt : Part} (h0 : ¬ pt = .boot) (a₀ : State) (s : State) : pt.same a₀ (State.writeBoot s) ↔ pt.same a₀ s := by
  unfold State.writeBoot
  (repeat' split) <;> simp [h0]

theorem State.nameTrial_same {pt : Part} (h0 : ¬ pt = .boot) (a₀ : State) (s : State) (slot : Nat) (attempts : Nat) (timeout : Nat) : pt.same a₀ (State.nameTrial s slot attempts timeout) ↔ pt.same a₀ s := by
  unfold State.nameTrial
  (repeat' split) <;> simp [h0, State.setImg_same, State.writeBoot_same]

theorem State.activated_same {pt : Part} (h0 : ¬ pt = .boot) (a₀ : State) (s : State) : pt.same a₀ (State.activated s) ↔ pt.same a₀ s := by
  unfold State.activated
  (repeat' split) <;> simp [h0, State.nameTrial_same]

theorem State.blocksWorn_same {pt : Part} (h0 : ¬ pt = .settings) (h1 : ¬ pt = .log) (a₀ : State) (s : State) (n : Nat) : pt.same a₀ (State.blocksWorn s n) ↔ pt.same a₀ s := by
  unfold State.blocksWorn
  (repeat' split) <;> simp [h0, h1, State.logEv_same]

theorem State.boantEnd_same {pt : Part} (h0 : ¬ pt = .boot) (h1 : ¬ pt = .out) (a₀ : State) (s : State) (port : Nat) (msg : Bytes) : pt.same a₀ (State.boantEnd s port msg).1 ↔ pt.same a₀ s := by
  unfold State.boantEnd
  simp; (repeat' split) <;> simp [h0, h1, State.emit_same, State.setImg_same, State.writeBoot_same, State.nameTrial_same]

theorem State.boantHeader_same {pt : Part} (h0 : ¬ pt = .boot) (h1 : ¬ pt = .out) (a₀ : State) (s : State) (port : Nat) (msg : Bytes) : pt.same a₀ (State.boantHeader s port msg) ↔ pt.same a₀ s := by
  unfold State.boantHeader
  simp; (repeat' split) <;> simp [h0, h1, State.emit_same, State.setImg_same, State.writeBoot_same]

theorem State.boantInfo_same {pt : Part} (h0 : ¬ pt = .out) (a₀ : State) (s : State) (port : Nat) (msg : Bytes) : pt.same a₀ (State.boantInfo s port msg) ↔ pt.same a₀ s := by
  unfold State.boantInfo
  (repeat' split) <;> simp [h0, State.emit_same]

theorem State.boantPayload_same {pt : Part} (h0 : ¬ pt = .boot) (h1 : ¬ pt = .out) (a₀ : State) (s : State) (port : Nat) (msg : Bytes) : pt.same a₀ (State.boantPayload s port msg) ↔ pt.same a₀ s := by
  unfold State.boantPayload
  (repeat' split) <;> simp [h0, h1, State.emit_same]

theorem State.boantResets_same {pt : Part} (h0 : ¬ pt = .out) (a₀ : State) (s : State) (port : Nat) (msg : Bytes) : pt.same a₀ (State.boantResets s port msg).1 ↔ pt.same a₀ s := by
  unfold State.boantResets
  (repeat' split) <;> simp [h0, State.emit_same]

theorem State.takeBoot_same {pt : Part} (h0 : ¬ pt = .settings) (h1 : ¬ pt = .boot) (a₀ : State) (s : State) (r : BootRecord) : pt.same a₀ (State.takeBoot s r) ↔ pt.same a₀ s := by
  unfold State.takeBoot
  (repeat' split) <;> simp [h0, h1]

theorem State.bootTorn_same {pt : Part} (h0 : ¬ pt = .settings) (h1 : ¬ pt = .boot) (a₀ : State) (s : State) : pt.same a₀ (State.bootTorn s) ↔ pt.same a₀ s := by
  unfold State.bootTorn
  simp; (repeat' split) <;> simp [h0, h1, State.takeBoot_same]

theorem State.updateBegin_same {pt : Part} (h0 : ¬ pt = .dict) (h1 : ¬ pt = .boot) (a₀ : State) (s : State) (c : Caller) (h : Bytes) : pt.same a₀ (State.updateBegin s c h).1 ↔ pt.same a₀ s := by
  unfold State.updateBegin
  simp only []
  split <;> simp [h0, h1, State.setImg_same, State.writeBoot_same]

theorem State.updateDone_same {pt : Part} (h0 : ¬ pt = .boot) (a₀ : State) (s : State) (x : Update) (data : Bytes) : pt.same a₀ (State.updateDone s x data).1 ↔ pt.same a₀ s := by
  unfold State.updateDone
  (repeat' split) <;> simp [h0, State.setImg_same, State.writeBoot_same]

theorem State.confirmTrial_same {pt : Part} (h0 : ¬ pt = .settings) (h1 : ¬ pt = .boot) (h2 : ¬ pt = .log) (a₀ : State) (s : State) : pt.same a₀ (State.confirmTrial s) ↔ pt.same a₀ s := by
  unfold State.confirmTrial
  split
  · rfl
  · simp [h0, h1, h2, State.setImg_same, State.logEv_same, State.writeBoot_same]

theorem State.rejectTrial_same {pt : Part} (h0 : ¬ pt = .settings) (h1 : ¬ pt = .boot) (h2 : ¬ pt = .log) (a₀ : State) (s : State) (why : RejectCause) : pt.same a₀ (State.rejectTrial s why) ↔ pt.same a₀ s := by
  unfold State.rejectTrial
  split
  · rfl
  · simp only []; simp [h0, h1, h2, State.setImg_same, State.logEv_same, State.writeBoot_same]

theorem State.defaultBank_same {pt : Part} (h0 : ¬ pt = .settings) (a₀ : State) (s : State) : pt.same a₀ (State.defaultBank s) ↔ pt.same a₀ s := by
  unfold State.defaultBank
  (repeat' split) <;> simp [h0]

theorem State.updateSpoiled_same {pt : Part} (h0 : ¬ pt = .boot) (a₀ : State) (s : State) : pt.same a₀ (State.updateSpoiled s) ↔ pt.same a₀ s := by
  unfold State.updateSpoiled
  (repeat' split) <;> simp [h0, State.setImg_same, State.writeBoot_same]

theorem State.enterBoant_same {pt : Part} (h0 : ¬ pt = .boot) (a₀ : State) (s : State) : pt.same a₀ (State.enterBoant s) ↔ pt.same a₀ s := by
  unfold State.enterBoant
  (repeat' split) <;> simp [h0]

theorem State.eraseBanks_same {pt : Part} (h0 : ¬ pt = .settings) (h1 : ¬ pt = .keys) (a₀ : State) (s : State) : pt.same a₀ (State.eraseBanks s) ↔ pt.same a₀ s := by
  unfold State.eraseBanks
  ((repeat' split) <;> (first | (simp; done) | (cases pt <;> simp_all [Part.same]; done)))

theorem State.putInForce_same {pt : Part} (h0 : ¬ pt = .cap) (h1 : ¬ pt = .settings) (a₀ : State) (s : State) : pt.same a₀ (State.putInForce s) ↔ pt.same a₀ s := by
  unfold State.putInForce
  ((repeat' split) <;> (first | (simp; done) | (cases pt <;> simp_all [Part.same]; done)))

theorem State.runSlot_same {pt : Part} (h0 : ¬ pt = .boot) (h1 : ¬ pt = .fabric) (h2 : ¬ pt = .replies) (h3 : ¬ pt = .log) (a₀ : State) (s : State) (i : Nat) : pt.same a₀ (State.runSlot s i) ↔ pt.same a₀ s := by
  unfold State.runSlot
  simp only []
  split <;> simp [h0, h1, h2, h3, State.logEv_same]

theorem State.slotFailed_same {pt : Part} (h0 : ¬ pt = .boot) (h1 : ¬ pt = .log) (a₀ : State) (s : State) (i : Nat) : pt.same a₀ (State.slotFailed s i) ↔ pt.same a₀ s := by
  unfold State.slotFailed
  (repeat' split) <;> simp [h0, h1, State.logEv_same, State.writeBoot_same, State.setImg_same]

theorem State.romSelect_same {pt : Part} (h0 : ¬ pt = .settings) (h1 : ¬ pt = .boot) (h2 : ¬ pt = .fabric) (h3 : ¬ pt = .replies) (h4 : ¬ pt = .log) (a₀ : State) (s : State) : pt.same a₀ (State.romSelect s).1 ↔ pt.same a₀ s := by
  unfold State.romSelect
  simp; (repeat' split) <;> simp [h0, h1, h2, h3, h4, State.enterBoant_same, State.runSlot_same, State.slotFailed_same, State.rejectTrial_same, State.writeBoot_same]

theorem State.takeBanks_same {pt : Part} (h0 : ¬ pt = .settings) (h1 : ¬ pt = .boot) (h2 : ¬ pt = .log) (a₀ : State) (s : State) : pt.same a₀ (State.takeBanks s) ↔ pt.same a₀ s := by
  unfold State.takeBanks
  (repeat' split) <;> simp [h0, h1, h2, State.writeBoot_same, State.logEv_same]

end Sys2Proof.Machine
end

