-- ==== Sys2Proof/Laws/ResetOps.lean ====
section
/-!
SUPPORT. What each operation of resets and islands can move: every part but those it names is as it was.
-/

namespace Sys2Proof.Machine

theorem State.recordSource_same {pt : Part} (h0 : ¬ pt = .resets) (a₀ : State) (s : State) (code : Nat) (reach : Nat) (island : Nat) : pt.same a₀ (State.recordSource s code reach island) ↔ pt.same a₀ s := by
  unfold State.recordSource
  (repeat' split) <;> simp [h0]

theorem State.sourcesGone_same {pt : Part} (h0 : ¬ pt = .tb) (h1 : ¬ pt = .log) (a₀ : State) (s : State) : pt.same a₀ (State.sourcesGone s) ↔ pt.same a₀ s := by
  unfold State.sourcesGone
  (repeat' split) <;> simp [h0, h1, State.sourceGone_same]

theorem State.aonReset_same {pt : Part} (h0 : ¬ pt = .islands) (h1 : ¬ pt = .health) (h2 : ¬ pt = .stop) (h3 : ¬ pt = .log) (a₀ : State) (s : State) : pt.same a₀ (State.aonReset s) ↔ pt.same a₀ s := by
  unfold State.aonReset
  ((repeat' split) <;> (first | (simp; done) | (cases pt <;> simp_all [Part.same]; done)))

theorem State.endKeyWaits_same {pt : Part} (h0 : ¬ pt = .dict) (h1 : ¬ pt = .keys) (h2 : ¬ pt = .out) (a₀ : State) (s : State) (p : Caller → Bool) (a : Ans) : pt.same a₀ (State.endKeyWaits s p a) ↔ pt.same a₀ s := by
  unfold State.endKeyWaits
  (repeat' split) <;> simp [h0, h1, h2, State.answer_same]

theorem State.endDictionary_same {pt : Part} (h0 : ¬ pt = .dict) (h1 : ¬ pt = .settings) (h2 : ¬ pt = .comb) (h3 : ¬ pt = .stop) (h4 : ¬ pt = .fabric) (h5 : ¬ pt = .replies) (a₀ : State) (s : State) : pt.same a₀ (State.endDictionary s) ↔ pt.same a₀ s := by
  unfold State.endDictionary
  simp [h0, h1, h2, h3, h4, h5, returnShadow_same]

theorem State.endEvents_same {pt : Part} (h0 : ¬ pt = .dict) (h1 : ¬ pt = .fabric) (h2 : ¬ pt = .replies) (h3 : ¬ pt = .out) (a₀ : State) (s : State) (p : Caller → Bool) (a : Ans) : pt.same a₀ (State.endEvents s p a) ↔ pt.same a₀ s := by
  unfold State.endEvents
  (repeat' split) <;> simp [h0, h1, h2, h3, State.answer_same]

theorem State.endThrough_same {pt : Part} (h0 : ¬ pt = .dict) (h1 : ¬ pt = .keys) (h2 : ¬ pt = .comb) (h3 : ¬ pt = .radio) (h4 : ¬ pt = .can) (h5 : ¬ pt = .fabric) (h6 : ¬ pt = .replies) (h7 : ¬ pt = .log) (h8 : ¬ pt = .out) (a₀ : State) (s : State) (i : Island) (out : Nat) : pt.same a₀ (State.endThrough s i out) ↔ pt.same a₀ s := by
  unfold State.endThrough
  (repeat' split) <;> simp [h0, h1, h2, h3, h4, h5, h6, h7, h8, State.endKeyWaits_same, State.combEnd_same, State.endEvents_same, State.endSendsOf_same, State.endMessagesOf_same]

theorem State.hartsReset_same {pt : Part} (h0 : ¬ pt = .fabric) (h1 : ¬ pt = .replies) (a₀ : State) (s : State) : pt.same a₀ (State.hartsReset s) ↔ pt.same a₀ s := by
  unfold State.hartsReset
  (repeat' split) <;> simp [h0, h1]

theorem State.fabricReset_same {pt : Part} (h0 : ¬ pt = .fabric) (h1 : ¬ pt = .replies) (h2 : ¬ pt = .out) (a₀ : State) (s : State) : pt.same a₀ (State.fabricReset s) ↔ pt.same a₀ s := by
  unfold State.fabricReset
  (repeat' split) <;> simp [h0, h1, h2, State.wakeAll_same]

theorem State.clearIsland_same {pt : Part} (h0 : ¬ pt = .islands) (h1 : ¬ pt = .health) (h2 : ¬ pt = .dict) (h3 : ¬ pt = .settings) (h4 : ¬ pt = .keys) (h5 : ¬ pt = .comb) (h6 : ¬ pt = .track) (h7 : ¬ pt = .dev) (h8 : ¬ pt = .base) (h9 : ¬ pt = .rover) (h10 : ¬ pt = .conf) (h11 : ¬ pt = .stop) (h12 : ¬ pt = .radio) (h13 : ¬ pt = .tb) (h14 : ¬ pt = .outs) (h15 : ¬ pt = .caps) (h16 : ¬ pt = .net) (h17 : ¬ pt = .can) (h18 : ¬ pt = .fabric) (h19 : ¬ pt = .replies) (h20 : ¬ pt = .dram) (h21 : ¬ pt = .log) (h22 : ¬ pt = .out) (a₀ : State) (s : State) (i : Island) (wide : Bool) : pt.same a₀ (State.clearIsland s i wide) ↔ pt.same a₀ s := by
  unfold State.clearIsland
  (repeat' split) <;> simp [h0, h1, h2, h3, h4, h5, h6, h7, h8, h9, h10, h11, h12, h13, h14, h15, h16, h17, h18, h19, h20, h21, h22, State.aonReset_same, State.endKeyWaits_same, State.endDictionary_same, State.endThrough_same, State.hartsReset_same, State.discardAll_same, State.fabricReset_same, State.roverResetAll_same, State.setDev_same, State.confReset_same, State.combReset_same, State.setBase_same, State.roverIslandReset_same, State.devReset_same, State.devIslandReset_same, State.trackReset_same, State.radioReset_same, State.canReset_same, State.netReset_same, State.timebaseReset_same]

theorem State.dropVolatile_same {pt : Part} (h0 : ¬ pt = .settings) (a₀ : State) (s : State) (i : Island) : pt.same a₀ (State.dropVolatile s i) ↔ pt.same a₀ s := by
  unfold State.dropVolatile
  (repeat' split) <;> simp [h0]

theorem State.endHoldsOf_same {pt : Part} (h0 : ¬ pt = .dict) (h1 : ¬ pt = .settings) (a₀ : State) (s : State) (i : Island) : pt.same a₀ (State.endHoldsOf s i) ↔ pt.same a₀ s := by
  unfold State.endHoldsOf
  simp only []
  rw [same_foldl]
  · simp [h0, h1]
  · intro s x; simp [h1, returnShadow_same]

theorem State.enterReset_same {pt : Part} (h0 : ¬ pt = .islands) (h1 : ¬ pt = .health) (h2 : ¬ pt = .dict) (h3 : ¬ pt = .settings) (h4 : ¬ pt = .keys) (h5 : ¬ pt = .comb) (h6 : ¬ pt = .track) (h7 : ¬ pt = .dev) (h8 : ¬ pt = .base) (h9 : ¬ pt = .rover) (h10 : ¬ pt = .conf) (h11 : ¬ pt = .stop) (h12 : ¬ pt = .radio) (h13 : ¬ pt = .tb) (h14 : ¬ pt = .outs) (h15 : ¬ pt = .caps) (h16 : ¬ pt = .net) (h17 : ¬ pt = .can) (h18 : ¬ pt = .fabric) (h19 : ¬ pt = .replies) (h20 : ¬ pt = .dram) (h21 : ¬ pt = .log) (h22 : ¬ pt = .out) (a₀ : State) (s : State) (reach : Nat) (i : Island) : pt.same a₀ (State.enterReset s reach i) ↔ pt.same a₀ s := by
  unfold State.enterReset
  (repeat' split) <;> simp [h0, h1, h2, h3, h4, h5, h6, h7, h8, h9, h10, h11, h12, h13, h14, h15, h16, h17, h18, h19, h20, h21, h22, State.dropVolatile_same, State.clearIsland_same, State.endHoldsOf_same, State.setIsl_same]

theorem State.reviveAon_same {pt : Part} (h0 : ¬ pt = .islands) (h1 : ¬ pt = .log) (a₀ : State) (s : State) : pt.same a₀ (State.reviveAon s) ↔ pt.same a₀ s := by
  unfold State.reviveAon
  (repeat' split) <;> simp [h0, h1, State.setIsl_same]

theorem State.zeroCounts_same {pt : Part} (h0 : ¬ pt = .comb) (h1 : ¬ pt = .track) (h2 : ¬ pt = .dev) (h3 : ¬ pt = .base) (h4 : ¬ pt = .rover) (h5 : ¬ pt = .conf) (h6 : ¬ pt = .radio) (h7 : ¬ pt = .net) (h8 : ¬ pt = .fabric) (h9 : ¬ pt = .replies) (a₀ : State) (s : State) : pt.same a₀ (State.zeroCounts s) ↔ pt.same a₀ s := by
  unfold State.zeroCounts
  ((repeat' split) <;> (first | (simp; done) | (cases pt <;> simp_all [Part.same]; done)))

theorem State.keepCounts_same {pt : Part} (h0 : ¬ pt = .comb) (h1 : ¬ pt = .track) (h2 : ¬ pt = .dev) (h3 : ¬ pt = .base) (h4 : ¬ pt = .rover) (h5 : ¬ pt = .conf) (h6 : ¬ pt = .radio) (h7 : ¬ pt = .net) (h8 : ¬ pt = .fabric) (h9 : ¬ pt = .replies) (a₀ : State) (s : State) (old : State) : pt.same a₀ (State.keepCounts s old) ↔ pt.same a₀ s := by
  unfold State.keepCounts
  ((repeat' split) <;> (first | (simp; done) | (cases pt <;> simp_all [Part.same]; done)))

theorem State.replan_same {pt : Part} (h0 : ¬ pt = .resets) (a₀ : State) (s : State) : pt.same a₀ (State.replan s) ↔ pt.same a₀ s := by
  unfold State.replan
  (repeat' split) <;> simp [h0]

theorem State.assertReset_same {pt : Part} (h0 : ¬ pt = .islands) (h1 : ¬ pt = .resets) (h2 : ¬ pt = .health) (h3 : ¬ pt = .dict) (h4 : ¬ pt = .settings) (h5 : ¬ pt = .keys) (h6 : ¬ pt = .comb) (h7 : ¬ pt = .track) (h8 : ¬ pt = .dev) (h9 : ¬ pt = .base) (h10 : ¬ pt = .rover) (h11 : ¬ pt = .conf) (h12 : ¬ pt = .stop) (h13 : ¬ pt = .radio) (h14 : ¬ pt = .tb) (h15 : ¬ pt = .outs) (h16 : ¬ pt = .caps) (h17 : ¬ pt = .net) (h18 : ¬ pt = .can) (h19 : ¬ pt = .fabric) (h20 : ¬ pt = .replies) (h21 : ¬ pt = .dram) (h22 : ¬ pt = .log) (h23 : ¬ pt = .out) (a₀ : State) (s : State) (code : Nat) (reach : Nat) (island : Nat) : pt.same a₀ (State.assertReset s code reach island) ↔ pt.same a₀ s := by
  unfold State.assertReset
  simp only []
  have hk : ∀ x y : State, pt.same a₀ (x.keepCounts y) ↔ pt.same a₀ x := fun x y => State.keepCounts_same (by assumption) (by assumption) (by assumption) (by assumption) (by assumption) (by assumption) (by assumption) (by assumption) (by assumption) (by assumption) a₀ x y
  (repeat' split) <;> simp [h0, h1, h2, h3, h4, h5, h6, h7, h8, h9, h10, h11, h12, h13, h14, h15, h16, h17, h18, h19, h20, h21, h22, h23, State.recordSource_same, State.sourcesGone_same, State.clearIsland_same, State.swarmLost_same, State.enterReset_same, State.reviveAon_same, State.zeroCounts_same, State.resetLatch_same, State.replan_same, hk]

theorem State.orderReset_same {pt : Part} (h0 : ¬ pt = .islands) (h1 : ¬ pt = .resets) (h2 : ¬ pt = .health) (h3 : ¬ pt = .dict) (h4 : ¬ pt = .settings) (h5 : ¬ pt = .keys) (h6 : ¬ pt = .comb) (h7 : ¬ pt = .track) (h8 : ¬ pt = .dev) (h9 : ¬ pt = .base) (h10 : ¬ pt = .rover) (h11 : ¬ pt = .conf) (h12 : ¬ pt = .stop) (h13 : ¬ pt = .radio) (h14 : ¬ pt = .tb) (h15 : ¬ pt = .outs) (h16 : ¬ pt = .caps) (h17 : ¬ pt = .net) (h18 : ¬ pt = .can) (h19 : ¬ pt = .fabric) (h20 : ¬ pt = .replies) (h21 : ¬ pt = .dram) (h22 : ¬ pt = .log) (h23 : ¬ pt = .out) (a₀ : State) (s : State) (code : Nat) (reach : Nat) (island : Nat) : pt.same a₀ (State.orderReset s code reach island) ↔ pt.same a₀ s := by
  unfold State.orderReset
  (repeat' split) <;> simp [h0, h1, h2, h3, h4, h5, h6, h7, h8, h9, h10, h11, h12, h13, h14, h15, h16, h17, h18, h19, h20, h21, h22, h23, State.flush_same, State.sendClose_same, State.assertReset_same]

theorem State.answerReset_same {pt : Part} (h0 : ¬ pt = .islands) (h1 : ¬ pt = .resets) (h2 : ¬ pt = .health) (h3 : ¬ pt = .dict) (h4 : ¬ pt = .settings) (h5 : ¬ pt = .keys) (h6 : ¬ pt = .comb) (h7 : ¬ pt = .track) (h8 : ¬ pt = .dev) (h9 : ¬ pt = .base) (h10 : ¬ pt = .rover) (h11 : ¬ pt = .conf) (h12 : ¬ pt = .stop) (h13 : ¬ pt = .radio) (h14 : ¬ pt = .tb) (h15 : ¬ pt = .outs) (h16 : ¬ pt = .caps) (h17 : ¬ pt = .net) (h18 : ¬ pt = .can) (h19 : ¬ pt = .fabric) (h20 : ¬ pt = .replies) (h21 : ¬ pt = .dram) (h22 : ¬ pt = .log) (h23 : ¬ pt = .out) (a₀ : State) (s : State) (c : Caller) (code : Nat) (reach : Nat) (island : Nat) : pt.same a₀ (State.answerReset s c code reach island).1 ↔ pt.same a₀ s := by
  unfold State.answerReset
  (repeat' split) <;> simp [h0, h1, h2, h3, h4, h5, h6, h7, h8, h9, h10, h11, h12, h13, h14, h15, h16, h17, h18, h19, h20, h21, h22, h23, State.orderReset_same, State.answer_same]

theorem State.activateUpdate_same {pt : Part} (h0 : ¬ pt = .islands) (h1 : ¬ pt = .resets) (h2 : ¬ pt = .health) (h3 : ¬ pt = .dict) (h4 : ¬ pt = .settings) (h5 : ¬ pt = .keys) (h6 : ¬ pt = .boot) (h7 : ¬ pt = .comb) (h8 : ¬ pt = .track) (h9 : ¬ pt = .dev) (h10 : ¬ pt = .base) (h11 : ¬ pt = .rover) (h12 : ¬ pt = .conf) (h13 : ¬ pt = .stop) (h14 : ¬ pt = .radio) (h15 : ¬ pt = .tb) (h16 : ¬ pt = .outs) (h17 : ¬ pt = .caps) (h18 : ¬ pt = .net) (h19 : ¬ pt = .can) (h20 : ¬ pt = .fabric) (h21 : ¬ pt = .replies) (h22 : ¬ pt = .dram) (h23 : ¬ pt = .log) (h24 : ¬ pt = .out) (a₀ : State) (s : State) (c : Caller) : pt.same a₀ (State.activateUpdate s c).1 ↔ pt.same a₀ s := by
  unfold State.activateUpdate
  (repeat' split) <;> simp [h0, h1, h2, h3, h4, h5, h6, h7, h8, h9, h10, h11, h12, h13, h14, h15, h16, h17, h18, h19, h20, h21, h22, h23, h24, State.answerReset_same, State.activated_same]

theorem State.boantFinishOp_same {pt : Part} (h0 : ¬ pt = .islands) (h1 : ¬ pt = .resets) (h2 : ¬ pt = .health) (h3 : ¬ pt = .dict) (h4 : ¬ pt = .settings) (h5 : ¬ pt = .keys) (h6 : ¬ pt = .boot) (h7 : ¬ pt = .comb) (h8 : ¬ pt = .track) (h9 : ¬ pt = .dev) (h10 : ¬ pt = .base) (h11 : ¬ pt = .rover) (h12 : ¬ pt = .conf) (h13 : ¬ pt = .stop) (h14 : ¬ pt = .radio) (h15 : ¬ pt = .tb) (h16 : ¬ pt = .outs) (h17 : ¬ pt = .caps) (h18 : ¬ pt = .net) (h19 : ¬ pt = .can) (h20 : ¬ pt = .fabric) (h21 : ¬ pt = .replies) (h22 : ¬ pt = .dram) (h23 : ¬ pt = .log) (h24 : ¬ pt = .out) (a₀ : State) (s : State) (port : Nat) (msg : Bytes) : pt.same a₀ (State.boantFinishOp s port msg) ↔ pt.same a₀ s := by
  unfold State.boantFinishOp
  (repeat' split) <;> simp [h0, h1, h2, h3, h4, h5, h6, h7, h8, h9, h10, h11, h12, h13, h14, h15, h16, h17, h18, h19, h20, h21, h22, h23, h24, State.boantEnd_same, State.assertReset_same]

theorem State.boantResetOp_same {pt : Part} (h0 : ¬ pt = .islands) (h1 : ¬ pt = .resets) (h2 : ¬ pt = .health) (h3 : ¬ pt = .dict) (h4 : ¬ pt = .settings) (h5 : ¬ pt = .keys) (h6 : ¬ pt = .comb) (h7 : ¬ pt = .track) (h8 : ¬ pt = .dev) (h9 : ¬ pt = .base) (h10 : ¬ pt = .rover) (h11 : ¬ pt = .conf) (h12 : ¬ pt = .stop) (h13 : ¬ pt = .radio) (h14 : ¬ pt = .tb) (h15 : ¬ pt = .outs) (h16 : ¬ pt = .caps) (h17 : ¬ pt = .net) (h18 : ¬ pt = .can) (h19 : ¬ pt = .fabric) (h20 : ¬ pt = .replies) (h21 : ¬ pt = .dram) (h22 : ¬ pt = .log) (h23 : ¬ pt = .out) (a₀ : State) (s : State) (port : Nat) (msg : Bytes) : pt.same a₀ (State.boantResetOp s port msg) ↔ pt.same a₀ s := by
  unfold State.boantResetOp
  (repeat' split) <;> simp [h0, h1, h2, h3, h4, h5, h6, h7, h8, h9, h10, h11, h12, h13, h14, h15, h16, h17, h18, h19, h20, h21, h22, h23, State.boantResets_same, State.assertReset_same]

theorem State.channelAReleased_same {pt : Part} (h0 : ¬ pt = .stop) (a₀ : State) (s : State) : pt.same a₀ (State.channelAReleased s) ↔ pt.same a₀ s := by
  unfold State.channelAReleased
  (repeat' split) <;> simp [h0, State.refreshGo_same]

theorem State.tryCarried_same {pt : Part} (h0 : ¬ pt = .health) (h1 : ¬ pt = .dict) (h2 : ¬ pt = .settings) (h3 : ¬ pt = .comb) (h4 : ¬ pt = .track) (h5 : ¬ pt = .base) (h6 : ¬ pt = .radio) (h7 : ¬ pt = .tb) (h8 : ¬ pt = .outs) (h9 : ¬ pt = .net) (h10 : ¬ pt = .can) (h11 : ¬ pt = .fabric) (h12 : ¬ pt = .replies) (h13 : ¬ pt = .log) (h14 : ¬ pt = .out) (h15 : ¬ pt = .free) (a₀ : State) (s : State) (c : Nat) : pt.same a₀ (State.tryCarried s c) ↔ pt.same a₀ s := by
  unfold State.tryCarried
  (repeat' split) <;> simp [h0, h1, h2, h3, h4, h5, h6, h7, h8, h9, h10, h11, h12, h13, h14, h15, State.groupCommit_same, State.logEv_same]

theorem State.tryAllCarried_same {pt : Part} (h0 : ¬ pt = .health) (h1 : ¬ pt = .dict) (h2 : ¬ pt = .settings) (h3 : ¬ pt = .comb) (h4 : ¬ pt = .track) (h5 : ¬ pt = .base) (h6 : ¬ pt = .radio) (h7 : ¬ pt = .tb) (h8 : ¬ pt = .outs) (h9 : ¬ pt = .net) (h10 : ¬ pt = .can) (h11 : ¬ pt = .fabric) (h12 : ¬ pt = .replies) (h13 : ¬ pt = .log) (h14 : ¬ pt = .out) (h15 : ¬ pt = .free) (a₀ : State) (s : State) : pt.same a₀ (State.tryAllCarried s) ↔ pt.same a₀ s := by
  unfold State.tryAllCarried
  (repeat' split) <;> simp [h0, h1, h2, h3, h4, h5, h6, h7, h8, h9, h10, h11, h12, h13, h14, h15, State.tryCarried_same]

theorem State.resetDone_same {pt : Part} (h0 : ¬ pt = .resets) (h1 : ¬ pt = .health) (h2 : ¬ pt = .dict) (h3 : ¬ pt = .settings) (h4 : ¬ pt = .comb) (h5 : ¬ pt = .track) (h6 : ¬ pt = .base) (h7 : ¬ pt = .radio) (h8 : ¬ pt = .tb) (h9 : ¬ pt = .outs) (h10 : ¬ pt = .net) (h11 : ¬ pt = .can) (h12 : ¬ pt = .fabric) (h13 : ¬ pt = .replies) (h14 : ¬ pt = .log) (h15 : ¬ pt = .out) (h16 : ¬ pt = .free) (a₀ : State) (s : State) : pt.same a₀ (State.resetDone s) ↔ pt.same a₀ s := by
  unfold State.resetDone
  (repeat' split) <;> simp [h0, h1, h2, h3, h4, h5, h6, h7, h8, h9, h10, h11, h12, h13, h14, h15, h16, State.tryAllCarried_same, State.logEv_same]

theorem State.failAction_same {pt : Part} (h0 : ¬ pt = .islands) (h1 : ¬ pt = .health) (h2 : ¬ pt = .dict) (h3 : ¬ pt = .settings) (h4 : ¬ pt = .keys) (h5 : ¬ pt = .comb) (h6 : ¬ pt = .track) (h7 : ¬ pt = .dev) (h8 : ¬ pt = .base) (h9 : ¬ pt = .rover) (h10 : ¬ pt = .conf) (h11 : ¬ pt = .stop) (h12 : ¬ pt = .radio) (h13 : ¬ pt = .tb) (h14 : ¬ pt = .outs) (h15 : ¬ pt = .caps) (h16 : ¬ pt = .net) (h17 : ¬ pt = .can) (h18 : ¬ pt = .fabric) (h19 : ¬ pt = .replies) (h20 : ¬ pt = .dram) (h21 : ¬ pt = .log) (h22 : ¬ pt = .out) (h23 : ¬ pt = .free) (a₀ : State) (s : State) (i : Island) : pt.same a₀ (State.failAction s i) ↔ pt.same a₀ s := by
  unfold State.failAction
  (repeat' split) <;> simp [h0, h1, h2, h3, h4, h5, h6, h7, h8, h9, h10, h11, h12, h13, h14, h15, h16, h17, h18, h19, h20, h21, h22, h23, State.setLatch_same, State.clearIsland_same, State.hartsReset_same, State.discardAll_same, State.roverFailed_same, State.devFailed_same, State.baseNoTracking_same]

theorem State.clockFails_same {pt : Part} (h0 : ¬ pt = .islands) (h1 : ¬ pt = .resets) (h2 : ¬ pt = .health) (h3 : ¬ pt = .dict) (h4 : ¬ pt = .settings) (h5 : ¬ pt = .keys) (h6 : ¬ pt = .comb) (h7 : ¬ pt = .track) (h8 : ¬ pt = .dev) (h9 : ¬ pt = .base) (h10 : ¬ pt = .rover) (h11 : ¬ pt = .conf) (h12 : ¬ pt = .stop) (h13 : ¬ pt = .radio) (h14 : ¬ pt = .tb) (h15 : ¬ pt = .outs) (h16 : ¬ pt = .caps) (h17 : ¬ pt = .net) (h18 : ¬ pt = .can) (h19 : ¬ pt = .fabric) (h20 : ¬ pt = .replies) (h21 : ¬ pt = .dram) (h22 : ¬ pt = .log) (h23 : ¬ pt = .out) (h24 : ¬ pt = .free) (a₀ : State) (s : State) (i : Island) : pt.same a₀ (State.clockFails s i) ↔ pt.same a₀ s := by
  unfold State.clockFails
  (repeat' split) <;> simp [h0, h1, h2, h3, h4, h5, h6, h7, h8, h9, h10, h11, h12, h13, h14, h15, h16, h17, h18, h19, h20, h21, h22, h23, h24, State.setIsl_same, State.resetDone_same, State.logEv_same, State.keepCounts_same, State.failAction_same]

theorem State.lifeWritten_same {pt : Part} (h0 : ¬ pt = .settings) (h1 : ¬ pt = .keys) (a₀ : State) (s : State) (goal : Lifecycle) : pt.same a₀ (State.lifeWritten s goal) ↔ pt.same a₀ s := by
  unfold State.lifeWritten
  ((repeat' split) <;> (first | (simp [h1]; done) | (cases pt <;> simp_all [Part.same]; done)))

theorem State.lifecycleCmd_same {pt : Part} (h0 : ¬ pt = .islands) (h1 : ¬ pt = .resets) (h2 : ¬ pt = .health) (h3 : ¬ pt = .dict) (h4 : ¬ pt = .settings) (h5 : ¬ pt = .keys) (h6 : ¬ pt = .comb) (h7 : ¬ pt = .track) (h8 : ¬ pt = .dev) (h9 : ¬ pt = .base) (h10 : ¬ pt = .rover) (h11 : ¬ pt = .conf) (h12 : ¬ pt = .stop) (h13 : ¬ pt = .radio) (h14 : ¬ pt = .tb) (h15 : ¬ pt = .outs) (h16 : ¬ pt = .caps) (h17 : ¬ pt = .net) (h18 : ¬ pt = .can) (h19 : ¬ pt = .fabric) (h20 : ¬ pt = .replies) (h21 : ¬ pt = .dram) (h22 : ¬ pt = .log) (h23 : ¬ pt = .out) (a₀ : State) (s : State) (c : Caller) (v : Bytes) : pt.same a₀ (State.lifecycleCmd s c v).1 ↔ pt.same a₀ s := by
  unfold State.lifecycleCmd
  simp; (repeat' split) <;> simp [h0, h1, h2, h3, h4, h5, h6, h7, h8, h9, h10, h11, h12, h13, h14, h15, h16, h17, h18, h19, h20, h21, h22, h23, State.answerReset_same, State.logEv_same, State.lifeWritten_same]

theorem State.confirmUpdate_same {pt : Part} (h0 : ¬ pt = .islands) (h1 : ¬ pt = .resets) (h2 : ¬ pt = .health) (h3 : ¬ pt = .dict) (h4 : ¬ pt = .settings) (h5 : ¬ pt = .keys) (h6 : ¬ pt = .boot) (h7 : ¬ pt = .comb) (h8 : ¬ pt = .track) (h9 : ¬ pt = .dev) (h10 : ¬ pt = .base) (h11 : ¬ pt = .rover) (h12 : ¬ pt = .conf) (h13 : ¬ pt = .stop) (h14 : ¬ pt = .radio) (h15 : ¬ pt = .tb) (h16 : ¬ pt = .outs) (h17 : ¬ pt = .caps) (h18 : ¬ pt = .net) (h19 : ¬ pt = .can) (h20 : ¬ pt = .fabric) (h21 : ¬ pt = .replies) (h22 : ¬ pt = .dram) (h23 : ¬ pt = .log) (h24 : ¬ pt = .out) (a₀ : State) (s : State) (c : Caller) (v : Nat) : pt.same a₀ (State.confirmUpdate s c v).1 ↔ pt.same a₀ s := by
  unfold State.confirmUpdate
  (repeat' split) <;> simp [h0, h1, h2, h3, h4, h5, h6, h7, h8, h9, h10, h11, h12, h13, h14, h15, h16, h17, h18, h19, h20, h21, h22, h23, h24, State.confirmTrial_same, State.answerReset_same, State.rejectTrial_same]

theorem State.resetSettings_same {pt : Part} (h0 : ¬ pt = .islands) (h1 : ¬ pt = .resets) (h2 : ¬ pt = .health) (h3 : ¬ pt = .dict) (h4 : ¬ pt = .settings) (h5 : ¬ pt = .keys) (h6 : ¬ pt = .comb) (h7 : ¬ pt = .track) (h8 : ¬ pt = .dev) (h9 : ¬ pt = .base) (h10 : ¬ pt = .rover) (h11 : ¬ pt = .conf) (h12 : ¬ pt = .stop) (h13 : ¬ pt = .radio) (h14 : ¬ pt = .tb) (h15 : ¬ pt = .outs) (h16 : ¬ pt = .caps) (h17 : ¬ pt = .net) (h18 : ¬ pt = .can) (h19 : ¬ pt = .fabric) (h20 : ¬ pt = .replies) (h21 : ¬ pt = .dram) (h22 : ¬ pt = .log) (h23 : ¬ pt = .out) (a₀ : State) (s : State) (c : Caller) : pt.same a₀ (State.resetSettings s c).1 ↔ pt.same a₀ s := by
  unfold State.resetSettings
  (repeat' split) <;> simp [h0, h1, h2, h3, h4, h5, h6, h7, h8, h9, h10, h11, h12, h13, h14, h15, h16, h17, h18, h19, h20, h21, h22, h23, State.answerReset_same, State.blocksWorn_same, State.defaultBank_same]

theorem State.enterBoantCmd_same {pt : Part} (h0 : ¬ pt = .islands) (h1 : ¬ pt = .resets) (h2 : ¬ pt = .health) (h3 : ¬ pt = .dict) (h4 : ¬ pt = .settings) (h5 : ¬ pt = .keys) (h6 : ¬ pt = .boot) (h7 : ¬ pt = .comb) (h8 : ¬ pt = .track) (h9 : ¬ pt = .dev) (h10 : ¬ pt = .base) (h11 : ¬ pt = .rover) (h12 : ¬ pt = .conf) (h13 : ¬ pt = .stop) (h14 : ¬ pt = .radio) (h15 : ¬ pt = .tb) (h16 : ¬ pt = .outs) (h17 : ¬ pt = .caps) (h18 : ¬ pt = .net) (h19 : ¬ pt = .can) (h20 : ¬ pt = .fabric) (h21 : ¬ pt = .replies) (h22 : ¬ pt = .dram) (h23 : ¬ pt = .log) (h24 : ¬ pt = .out) (a₀ : State) (s : State) (c : Caller) : pt.same a₀ (State.enterBoantCmd s c).1 ↔ pt.same a₀ s := by
  unfold State.enterBoantCmd
  (repeat' split) <;> simp [h0, h1, h2, h3, h4, h5, h6, h7, h8, h9, h10, h11, h12, h13, h14, h15, h16, h17, h18, h19, h20, h21, h22, h23, h24, State.answerReset_same]

theorem State.modemReset_same {pt : Part} (h0 : ¬ pt = .dict) (h1 : ¬ pt = .conf) (h2 : ¬ pt = .stop) (h3 : ¬ pt = .radio) (h4 : ¬ pt = .log) (h5 : ¬ pt = .out) (a₀ : State) (s : State) (k : Nat) : pt.same a₀ (State.modemReset s k) ↔ pt.same a₀ s := by
  unfold State.modemReset
  (repeat' split) <;> simp [h0, h1, h2, h3, h4, h5, State.endLink_same, State.setModem_same, State.answer_same]

theorem State.resetBlockOf_same {pt : Part} (h0 : ¬ pt = .dict) (h1 : ¬ pt = .track) (h2 : ¬ pt = .conf) (h3 : ¬ pt = .stop) (h4 : ¬ pt = .radio) (h5 : ¬ pt = .tb) (h6 : ¬ pt = .net) (h7 : ¬ pt = .can) (h8 : ¬ pt = .log) (h9 : ¬ pt = .out) (a₀ : State) (s : State) (island : Nat) (block : Nat) : pt.same a₀ (State.resetBlockOf s island block) ↔ pt.same a₀ s := by
  unfold State.resetBlockOf
  (repeat' split) <;> simp [h0, h1, h2, h3, h4, h5, h6, h7, h8, h9, State.setPort_same, State.setTrack_same, State.modemReset_same, State.setEth_same, State.ptpInit_same, State.canResetPort_same, State.logEv_same]

theorem State.resetCommand_same {pt : Part} (h0 : ¬ pt = .islands) (h1 : ¬ pt = .resets) (h2 : ¬ pt = .health) (h3 : ¬ pt = .dict) (h4 : ¬ pt = .settings) (h5 : ¬ pt = .keys) (h6 : ¬ pt = .comb) (h7 : ¬ pt = .track) (h8 : ¬ pt = .dev) (h9 : ¬ pt = .base) (h10 : ¬ pt = .rover) (h11 : ¬ pt = .conf) (h12 : ¬ pt = .stop) (h13 : ¬ pt = .radio) (h14 : ¬ pt = .tb) (h15 : ¬ pt = .outs) (h16 : ¬ pt = .caps) (h17 : ¬ pt = .net) (h18 : ¬ pt = .can) (h19 : ¬ pt = .fabric) (h20 : ¬ pt = .replies) (h21 : ¬ pt = .dram) (h22 : ¬ pt = .log) (h23 : ¬ pt = .out) (a₀ : State) (s : State) (c : Caller) (v : Bytes) : pt.same a₀ (State.resetCommand s c v).1 ↔ pt.same a₀ s := by
  unfold State.resetCommand
  simp; (repeat' split) <;> simp [h0, h1, h2, h3, h4, h5, h6, h7, h8, h9, h10, h11, h12, h13, h14, h15, h16, h17, h18, h19, h20, h21, h22, h23, State.resetBlockOf_same, State.answerReset_same]

theorem State.countFault_same {pt : Part} (h0 : ¬ pt = .health) (a₀ : State) (s : State) (i : Island) (c : FaultCause) : pt.same a₀ (State.countFault s i c) ↔ pt.same a₀ s := by
  unfold State.countFault
  (repeat' split) <;> simp [h0, State.count_same]

theorem State.debugRequest_same {pt : Part} (h0 : ¬ pt = .islands) (h1 : ¬ pt = .resets) (h2 : ¬ pt = .health) (h3 : ¬ pt = .dict) (h4 : ¬ pt = .settings) (h5 : ¬ pt = .keys) (h6 : ¬ pt = .comb) (h7 : ¬ pt = .track) (h8 : ¬ pt = .dev) (h9 : ¬ pt = .base) (h10 : ¬ pt = .rover) (h11 : ¬ pt = .conf) (h12 : ¬ pt = .stop) (h13 : ¬ pt = .radio) (h14 : ¬ pt = .tb) (h15 : ¬ pt = .outs) (h16 : ¬ pt = .caps) (h17 : ¬ pt = .net) (h18 : ¬ pt = .can) (h19 : ¬ pt = .fabric) (h20 : ¬ pt = .replies) (h21 : ¬ pt = .dram) (h22 : ¬ pt = .log) (h23 : ¬ pt = .out) (a₀ : State) (s : State) : pt.same a₀ (State.debugRequest s) ↔ pt.same a₀ s := by
  unfold State.debugRequest
  (repeat' split) <;> simp [h0, h1, h2, h3, h4, h5, h6, h7, h8, h9, h10, h11, h12, h13, h14, h15, h16, h17, h18, h19, h20, h21, h22, h23, State.assertReset_same]

theorem State.restartIsland_same {pt : Part} (h0 : ¬ pt = .health) (h1 : ¬ pt = .dict) (h2 : ¬ pt = .keys) (h3 : ¬ pt = .comb) (h4 : ¬ pt = .track) (h5 : ¬ pt = .dev) (h6 : ¬ pt = .rover) (h7 : ¬ pt = .stop) (h8 : ¬ pt = .radio) (h9 : ¬ pt = .net) (h10 : ¬ pt = .can) (h11 : ¬ pt = .fabric) (h12 : ¬ pt = .replies) (h13 : ¬ pt = .log) (h14 : ¬ pt = .out) (a₀ : State) (s : State) (i : Island) : pt.same a₀ (State.restartIsland s i) ↔ pt.same a₀ s := by
  unfold State.restartIsland
  (repeat' split) <;> simp [h0, h1, h2, h3, h4, h5, h6, h7, h8, h9, h10, h11, h12, h13, h14, State.cancelRelease_same, State.endKeyWaits_same, State.endThrough_same, State.hartsReset_same, State.discardAll_same, State.wakeAll_same, State.abandonOpen_same, State.combRestart_same, State.roverRestart_same, State.devRestart_same, State.trackRestart_same, State.radioRestart_same, State.canRestart_same, State.netRestart_same]

theorem State.faultIn_same {pt : Part} (h0 : ¬ pt = .islands) (h1 : ¬ pt = .health) (h2 : ¬ pt = .dict) (h3 : ¬ pt = .keys) (h4 : ¬ pt = .comb) (h5 : ¬ pt = .track) (h6 : ¬ pt = .dev) (h7 : ¬ pt = .rover) (h8 : ¬ pt = .stop) (h9 : ¬ pt = .radio) (h10 : ¬ pt = .net) (h11 : ¬ pt = .can) (h12 : ¬ pt = .fabric) (h13 : ¬ pt = .replies) (h14 : ¬ pt = .log) (h15 : ¬ pt = .out) (a₀ : State) (s : State) (i : Island) (c : FaultCause) : pt.same a₀ (State.faultIn s i c) ↔ pt.same a₀ s := by
  unfold State.faultIn
  (repeat' split) <;> simp [h0, h1, h2, h3, h4, h5, h6, h7, h8, h9, h10, h11, h12, h13, h14, h15, State.countFault_same, State.restartIsland_same, State.setIsl_same, State.logEv_same]

theorem State.inputsJudged_same {pt : Part} (h0 : ¬ pt = .health) (h1 : ¬ pt = .dict) (h2 : ¬ pt = .stop) (h3 : ¬ pt = .out) (a₀ : State) (s : State) : pt.same a₀ (State.inputsJudged s) ↔ pt.same a₀ s := by
  unfold State.inputsJudged
  (repeat' split) <;> simp [h0, h1, h2, h3, State.siJudge_same]

theorem State.islandFails_same {pt : Part} (h0 : ¬ pt = .islands) (h1 : ¬ pt = .health) (h2 : ¬ pt = .dict) (h3 : ¬ pt = .settings) (h4 : ¬ pt = .keys) (h5 : ¬ pt = .comb) (h6 : ¬ pt = .track) (h7 : ¬ pt = .dev) (h8 : ¬ pt = .base) (h9 : ¬ pt = .rover) (h10 : ¬ pt = .conf) (h11 : ¬ pt = .stop) (h12 : ¬ pt = .radio) (h13 : ¬ pt = .tb) (h14 : ¬ pt = .outs) (h15 : ¬ pt = .caps) (h16 : ¬ pt = .net) (h17 : ¬ pt = .can) (h18 : ¬ pt = .fabric) (h19 : ¬ pt = .replies) (h20 : ¬ pt = .dram) (h21 : ¬ pt = .log) (h22 : ¬ pt = .out) (h23 : ¬ pt = .free) (a₀ : State) (s : State) (i : Island) (c : FailCause) : pt.same a₀ (State.islandFails s i c) ↔ pt.same a₀ s := by
  unfold State.islandFails
  (repeat' split) <;> simp [h0, h1, h2, h3, h4, h5, h6, h7, h8, h9, h10, h11, h12, h13, h14, h15, h16, h17, h18, h19, h20, h21, h22, h23, State.setIsl_same, State.logEv_same, State.keepCounts_same, State.failAction_same]

theorem State.keysLoaded_same {pt : Part} (h0 : ¬ pt = .settings) (h1 : ¬ pt = .keys) (h2 : ¬ pt = .log) (a₀ : State) (s : State) : pt.same a₀ (State.keysLoaded s) ↔ pt.same a₀ s := by
  unfold State.keysLoaded
  (repeat' split) <;> simp [h0, h1, h2, State.eraseBanks_same, State.logEv_same]

theorem State.porRise_same {pt : Part} (h0 : ¬ pt = .islands) (h1 : ¬ pt = .resets) (h2 : ¬ pt = .health) (h3 : ¬ pt = .dict) (h4 : ¬ pt = .settings) (h5 : ¬ pt = .keys) (h6 : ¬ pt = .boot) (h7 : ¬ pt = .comb) (h8 : ¬ pt = .track) (h9 : ¬ pt = .dev) (h10 : ¬ pt = .base) (h11 : ¬ pt = .rover) (h12 : ¬ pt = .conf) (h13 : ¬ pt = .stop) (h14 : ¬ pt = .radio) (h15 : ¬ pt = .tb) (h16 : ¬ pt = .outs) (h17 : ¬ pt = .caps) (h18 : ¬ pt = .net) (h19 : ¬ pt = .can) (h20 : ¬ pt = .fabric) (h21 : ¬ pt = .replies) (h22 : ¬ pt = .dram) (h23 : ¬ pt = .log) (h24 : ¬ pt = .out) (a₀ : State) (s : State) (torn : Torn) : pt.same a₀ (State.porRise s torn) ↔ pt.same a₀ s := by
  unfold State.porRise
  simp [h0, h1, h2, h3, h4, h5, h7, h8, h9, h10, h11, h12, h13, h14, h15, h16, h17, h18, h19, h20, h21, h22, h23, h24, State.assertReset_same]; (repeat' split) <;> simp [h4, h5, h6, h23, State.bootTorn_same]

theorem State.startIsland_same {pt : Part} (h0 : ¬ pt = .resets) (h1 : ¬ pt = .dict) (h2 : ¬ pt = .settings) (h3 : ¬ pt = .keys) (h4 : ¬ pt = .boot) (h5 : ¬ pt = .comb) (h6 : ¬ pt = .track) (h7 : ¬ pt = .dev) (h8 : ¬ pt = .base) (h9 : ¬ pt = .rover) (h10 : ¬ pt = .conf) (h11 : ¬ pt = .stop) (h12 : ¬ pt = .radio) (h13 : ¬ pt = .tb) (h14 : ¬ pt = .outs) (h15 : ¬ pt = .caps) (h16 : ¬ pt = .net) (h17 : ¬ pt = .can) (h18 : ¬ pt = .fabric) (h19 : ¬ pt = .replies) (h20 : ¬ pt = .log) (h21 : ¬ pt = .out) (a₀ : State) (s : State) (i : Island) : pt.same a₀ (State.startIsland s i) ↔ pt.same a₀ s := by
  unfold State.startIsland
  ((repeat' split) <;> (first | (simp [h1, h2, h3, h5, h6, h7, h8, h9, h10, h11, h12, h13, h14, h15, h16, h17, h18, h19, h20, h21, State.keysLoaded_same, State.combReleased_same, State.confReset_same, State.combReset_same, State.roverRelease_same, State.baseReset_same, State.devRelease_same, State.trackReset_same, State.radioReset_same, State.canReset_same, State.netReset_same, State.channelAReleased_same, State.timebaseReset_same]; done) | (cases pt <;> simp_all [Part.same]; done)))

theorem State.romStep_same {pt : Part} (h0 : ¬ pt = .cap) (h1 : ¬ pt = .islands) (h2 : ¬ pt = .resets) (h3 : ¬ pt = .health) (h4 : ¬ pt = .dict) (h5 : ¬ pt = .settings) (h6 : ¬ pt = .keys) (h7 : ¬ pt = .boot) (h8 : ¬ pt = .comb) (h9 : ¬ pt = .track) (h10 : ¬ pt = .dev) (h11 : ¬ pt = .base) (h12 : ¬ pt = .rover) (h13 : ¬ pt = .conf) (h14 : ¬ pt = .stop) (h15 : ¬ pt = .radio) (h16 : ¬ pt = .tb) (h17 : ¬ pt = .outs) (h18 : ¬ pt = .caps) (h19 : ¬ pt = .net) (h20 : ¬ pt = .can) (h21 : ¬ pt = .fabric) (h22 : ¬ pt = .replies) (h23 : ¬ pt = .dram) (h24 : ¬ pt = .log) (h25 : ¬ pt = .out) (a₀ : State) (s : State) : pt.same a₀ (State.romStep s) ↔ pt.same a₀ s := by
  unfold State.romStep
  simp; (repeat' split) <;> simp [h0, h1, h2, h3, h4, h5, h6, h7, h8, h9, h10, h11, h12, h13, h14, h15, h16, h17, h18, h19, h20, h21, h22, h23, h24, h25, State.romSelect_same, State.assertReset_same, State.rejectTrial_same, State.replan_same, State.inputsJudged_same, State.takeBanks_same, State.putInForce_same, State.logEv_same]

theorem State.releaseRow_same {pt : Part} (h0 : ¬ pt = .cap) (h1 : ¬ pt = .islands) (h2 : ¬ pt = .resets) (h3 : ¬ pt = .health) (h4 : ¬ pt = .dict) (h5 : ¬ pt = .settings) (h6 : ¬ pt = .keys) (h7 : ¬ pt = .boot) (h8 : ¬ pt = .comb) (h9 : ¬ pt = .track) (h10 : ¬ pt = .dev) (h11 : ¬ pt = .base) (h12 : ¬ pt = .rover) (h13 : ¬ pt = .conf) (h14 : ¬ pt = .stop) (h15 : ¬ pt = .radio) (h16 : ¬ pt = .tb) (h17 : ¬ pt = .outs) (h18 : ¬ pt = .caps) (h19 : ¬ pt = .net) (h20 : ¬ pt = .can) (h21 : ¬ pt = .fabric) (h22 : ¬ pt = .replies) (h23 : ¬ pt = .dram) (h24 : ¬ pt = .log) (h25 : ¬ pt = .out) (h26 : ¬ pt = .free) (a₀ : State) (s : State) : pt.same a₀ (State.releaseRow s) ↔ pt.same a₀ s := by
  unfold State.releaseRow
  (repeat' split) <;> simp [h0, h1, h2, h3, h4, h5, h6, h7, h8, h9, h10, h11, h12, h13, h14, h15, h16, h17, h18, h19, h20, h21, h22, h23, h24, h25, h26, State.setIsl_same, State.keepCounts_same, State.startIsland_same, State.romStep_same, State.resetDone_same]

theorem State.releaseSource_same {pt : Part} (h0 : ¬ pt = .islands) (h1 : ¬ pt = .resets) (h2 : ¬ pt = .health) (h3 : ¬ pt = .dict) (h4 : ¬ pt = .stop) (h5 : ¬ pt = .out) (a₀ : State) (s : State) (code : Nat) : pt.same a₀ (State.releaseSource s code) ↔ pt.same a₀ s := by
  unfold State.releaseSource
  (repeat' split) <;> simp [h0, h1, h2, h3, h4, h5, State.inputsJudged_same, State.setIsl_same, State.replan_same]

theorem State.resetPinHigh_same {pt : Part} (h0 : ¬ pt = .islands) (h1 : ¬ pt = .resets) (h2 : ¬ pt = .health) (h3 : ¬ pt = .dict) (h4 : ¬ pt = .stop) (h5 : ¬ pt = .out) (a₀ : State) (s : State) : pt.same a₀ (State.resetPinHigh s) ↔ pt.same a₀ s := by
  unfold State.resetPinHigh
  (repeat' split) <;> simp [h0, h1, h2, h3, h4, h5, State.releaseSource_same]

theorem State.resetPinLow_same {pt : Part} (h0 : ¬ pt = .islands) (h1 : ¬ pt = .resets) (h2 : ¬ pt = .health) (h3 : ¬ pt = .dict) (h4 : ¬ pt = .settings) (h5 : ¬ pt = .keys) (h6 : ¬ pt = .comb) (h7 : ¬ pt = .track) (h8 : ¬ pt = .dev) (h9 : ¬ pt = .base) (h10 : ¬ pt = .rover) (h11 : ¬ pt = .conf) (h12 : ¬ pt = .stop) (h13 : ¬ pt = .radio) (h14 : ¬ pt = .tb) (h15 : ¬ pt = .outs) (h16 : ¬ pt = .caps) (h17 : ¬ pt = .net) (h18 : ¬ pt = .can) (h19 : ¬ pt = .fabric) (h20 : ¬ pt = .replies) (h21 : ¬ pt = .dram) (h22 : ¬ pt = .log) (h23 : ¬ pt = .out) (a₀ : State) (s : State) : pt.same a₀ (State.resetPinLow s) ↔ pt.same a₀ s := by
  unfold State.resetPinLow
  (repeat' split) <;> simp [h0, h1, h2, h3, h4, h5, h6, h7, h8, h9, h10, h11, h12, h13, h14, h15, h16, h17, h18, h19, h20, h21, h22, h23, State.assertReset_same]

theorem State.restartEnds_same {pt : Part} (h0 : ¬ pt = .islands) (h1 : ¬ pt = .health) (h2 : ¬ pt = .dict) (h3 : ¬ pt = .settings) (h4 : ¬ pt = .conf) (h5 : ¬ pt = .stop) (h6 : ¬ pt = .log) (h7 : ¬ pt = .out) (a₀ : State) (s : State) (i : Island) : pt.same a₀ (State.restartEnds s i) ↔ pt.same a₀ s := by
  unfold State.restartEnds
  (repeat' split) <;> simp [h0, h1, h2, h3, h4, h5, h6, h7, State.setIsl_same, State.swarmInstant_same, State.logEv_same, State.channelReturned_same]

theorem State.trialExpires_same {pt : Part} (h0 : ¬ pt = .islands) (h1 : ¬ pt = .resets) (h2 : ¬ pt = .health) (h3 : ¬ pt = .dict) (h4 : ¬ pt = .settings) (h5 : ¬ pt = .keys) (h6 : ¬ pt = .boot) (h7 : ¬ pt = .comb) (h8 : ¬ pt = .track) (h9 : ¬ pt = .dev) (h10 : ¬ pt = .base) (h11 : ¬ pt = .rover) (h12 : ¬ pt = .conf) (h13 : ¬ pt = .stop) (h14 : ¬ pt = .radio) (h15 : ¬ pt = .tb) (h16 : ¬ pt = .outs) (h17 : ¬ pt = .caps) (h18 : ¬ pt = .net) (h19 : ¬ pt = .can) (h20 : ¬ pt = .fabric) (h21 : ¬ pt = .replies) (h22 : ¬ pt = .dram) (h23 : ¬ pt = .log) (h24 : ¬ pt = .out) (a₀ : State) (s : State) : pt.same a₀ (State.trialExpires s) ↔ pt.same a₀ s := by
  unfold State.trialExpires
  (repeat' split) <;> simp [h0, h1, h2, h3, h4, h5, h6, h7, h8, h9, h10, h11, h12, h13, h14, h15, h16, h17, h18, h19, h20, h21, h22, h23, h24, State.orderReset_same, State.rejectTrial_same]

theorem State.watchdogExpires_same {pt : Part} (h0 : ¬ pt = .islands) (h1 : ¬ pt = .resets) (h2 : ¬ pt = .health) (h3 : ¬ pt = .dict) (h4 : ¬ pt = .settings) (h5 : ¬ pt = .keys) (h6 : ¬ pt = .comb) (h7 : ¬ pt = .track) (h8 : ¬ pt = .dev) (h9 : ¬ pt = .base) (h10 : ¬ pt = .rover) (h11 : ¬ pt = .conf) (h12 : ¬ pt = .stop) (h13 : ¬ pt = .radio) (h14 : ¬ pt = .tb) (h15 : ¬ pt = .outs) (h16 : ¬ pt = .caps) (h17 : ¬ pt = .net) (h18 : ¬ pt = .can) (h19 : ¬ pt = .fabric) (h20 : ¬ pt = .replies) (h21 : ¬ pt = .dram) (h22 : ¬ pt = .log) (h23 : ¬ pt = .out) (a₀ : State) (s : State) : pt.same a₀ (State.watchdogExpires s) ↔ pt.same a₀ s := by
  unfold State.watchdogExpires
  (repeat' split) <;> simp [h0, h1, h2, h3, h4, h5, h6, h7, h8, h9, h10, h11, h12, h13, h14, h15, h16, h17, h18, h19, h20, h21, h22, h23, State.assertReset_same, State.logEv_same]

theorem State.watchdogServed_same {pt : Part} (h0 : ¬ pt = .resets) (a₀ : State) (s : State) : pt.same a₀ (State.watchdogServed s) ↔ pt.same a₀ s := by
  unfold State.watchdogServed
  (repeat' split) <;> simp [h0]

theorem State.wipesDone_same {pt : Part} (h0 : ¬ pt = .islands) (h1 : ¬ pt = .resets) (h2 : ¬ pt = .health) (h3 : ¬ pt = .dict) (h4 : ¬ pt = .stop) (h5 : ¬ pt = .out) (a₀ : State) (s : State) (code : Nat) : pt.same a₀ (State.wipesDone s code) ↔ pt.same a₀ s := by
  unfold State.wipesDone
  (repeat' split) <;> simp [h0, h1, h2, h3, h4, h5, State.releaseSource_same]

end Sys2Proof.Machine
end

