-- ==== Sys2Proof/Laws/HealthOps.lean ====
section
/-!
SUPPORT. What each operation of health can move: every part but those it names is as it was.
-/

namespace Sys2Proof.Machine

theorem State.addSlack_same {pt : Part} (h0 : ¬ pt = .islands) (a₀ : State) (s : State) (i : Island) (x : Int) : pt.same a₀ (State.addSlack s i x) ↔ pt.same a₀ s := by
  unfold State.addSlack
  (repeat' split) <;> simp [h0, State.setIsl_same]

theorem State.counterCleared_same {pt : Part} (h0 : ¬ pt = .health) (a₀ : State) (s : State) (n : Nat) : pt.same a₀ (State.counterCleared s n) ↔ pt.same a₀ s := by
  unfold State.counterCleared
  (repeat' split) <;> simp [h0]

theorem State.budgetStep_same {pt : Part} (h0 : ¬ pt = .log) (a₀ : State) (s : State) (i : Island) : pt.same a₀ (State.budgetStep s i) ↔ pt.same a₀ s := by
  unfold State.budgetStep
  (repeat' split) <;> simp [h0, State.logEv_same]

theorem State.snapshotTaken_same {pt : Part} (h0 : ¬ pt = .health) (a₀ : State) (s : State) : pt.same a₀ (State.snapshotTaken s) ↔ pt.same a₀ s := by
  unfold State.snapshotTaken
  (repeat' split) <;> simp [h0]

theorem State.eccCounted_same {pt : Part} (h0 : ¬ pt = .islands) (h1 : ¬ pt = .health) (a₀ : State) (s : State) (i : Island) : pt.same a₀ (State.eccCounted s i) ↔ pt.same a₀ s := by
  unfold State.eccCounted
  (repeat' split) <;> simp [h0, h1, State.count_same, State.setIsl_same]

theorem State.latchUpset_same {pt : Part} (h0 : ¬ pt = .stop) (a₀ : State) (s : State) (i : Island) (copy : Nat) (l : Latch) (v : Nat) : pt.same a₀ (State.latchUpset s i copy l v) ↔ pt.same a₀ s := by
  unfold State.latchUpset
  (repeat' split) <;> simp [h0]

theorem State.corrected_same {pt : Part} (h0 : ¬ pt = .islands) (h1 : ¬ pt = .health) (h2 : ¬ pt = .comb) (h3 : ¬ pt = .stop) (h4 : ¬ pt = .tb) (a₀ : State) (s : State) (i : Island) (a : EccAt) : pt.same a₀ (State.corrected s i a) ↔ pt.same a₀ s := by
  unfold State.corrected
  (repeat' split) <;> simp [h0, h1, h2, h3, h4, State.eccCounted_same, State.latchUpset_same]

theorem State.descLost_same {pt : Part} (h0 : ¬ pt = .health) (h1 : ¬ pt = .fabric) (h2 : ¬ pt = .replies) (h3 : ¬ pt = .log) (a₀ : State) (s : State) (d : Nat) : pt.same a₀ (State.descLost s d) ↔ pt.same a₀ s := by
  unfold State.descLost
  simp [h1, h2]; (repeat' split) <;> simp [h0, h1, h2, h3, State.discardHart_same, State.post_same]

theorem State.keyLost_same {pt : Part} (h0 : ¬ pt = .keys) (a₀ : State) (s : State) (slot : Nat) : pt.same a₀ (State.keyLost s slot) ↔ pt.same a₀ s := by
  unfold State.keyLost
  (repeat' split) <;> simp [h0]

theorem State.marginAct_same {pt : Part} (h0 : ¬ pt = .islands) (h1 : ¬ pt = .health) (h2 : ¬ pt = .log) (a₀ : State) (s : State) (i : Island) : pt.same a₀ (State.marginAct s i) ↔ pt.same a₀ s := by
  unfold State.marginAct
  simp only []
  repeat' split
  all_goals simp [h0, h1, h2, State.count_same, State.logEv_same, State.setIsl_same]

theorem State.setTemps_same {pt : Part} (h0 : ¬ pt = .islands) (a₀ : State) (s : State) (temps : List Int) : pt.same a₀ (State.setTemps s temps) ↔ pt.same a₀ s := by
  unfold State.setTemps
  (repeat' split) <;> simp [h0]

theorem State.marginSampled_same {pt : Part} (h0 : ¬ pt = .islands) (h1 : ¬ pt = .health) (h2 : ¬ pt = .log) (a₀ : State) (s : State) (slacks : List Int) (temps : List Int) : pt.same a₀ (State.marginSampled s slacks temps) ↔ pt.same a₀ s := by
  unfold State.marginSampled
  simp only []
  split
  · rfl
  · rw [same_foldl]
    · rw [same_foldl]
      · simp [h0, State.setTemps_same]
      · intro s x; split <;> simp [h0, State.addSlack_same]
    · intro s x; split <;> simp [h0, h1, h2, State.marginAct_same]

theorem State.packetLost_same {pt : Part} (h0 : ¬ pt = .fabric) (h1 : ¬ pt = .replies) (h2 : ¬ pt = .log) (a₀ : State) (s : State) (q : Nat) (i : Nat) : pt.same a₀ (State.packetLost s q i) ↔ pt.same a₀ s := by
  unfold State.packetLost
  (repeat' split) <;> simp [h0, h1, h2, State.logEv_same, State.setPkts_same]

theorem State.pageFails_same {pt : Part} (h0 : ¬ pt = .health) (h1 : ¬ pt = .log) (a₀ : State) (s : State) (p : Nat) (unc : Bool) : pt.same a₀ (State.pageFails s p unc) ↔ pt.same a₀ s := by
  unfold State.pageFails
  (repeat' split) <;> simp [h0, h1, State.logEv_same]

theorem State.regionRetired_same {pt : Part} (h0 : ¬ pt = .islands) (h1 : ¬ pt = .health) (h2 : ¬ pt = .comb) (h3 : ¬ pt = .fabric) (h4 : ¬ pt = .replies) (h5 : ¬ pt = .log) (a₀ : State) (s : State) (i : Island) (n : Nat) : pt.same a₀ (State.regionRetired s i n) ↔ pt.same a₀ s := by
  unfold State.regionRetired
  (repeat' split) <;> simp [h0, h1, h2, h3, h4, h5, State.logEv_same, State.setIsl_same, State.retireDone_same, State.retireGroup_same, State.budgetStep_same]

theorem State.rowFails_same {pt : Part} (h0 : ¬ pt = .islands) (h1 : ¬ pt = .health) (h2 : ¬ pt = .dict) (h3 : ¬ pt = .keys) (h4 : ¬ pt = .comb) (h5 : ¬ pt = .track) (h6 : ¬ pt = .dev) (h7 : ¬ pt = .rover) (h8 : ¬ pt = .stop) (h9 : ¬ pt = .radio) (h10 : ¬ pt = .net) (h11 : ¬ pt = .can) (h12 : ¬ pt = .fabric) (h13 : ¬ pt = .replies) (h14 : ¬ pt = .log) (h15 : ¬ pt = .out) (a₀ : State) (s : State) (r : SramRow) (unc : Bool) : pt.same a₀ (State.rowFails s r unc) ↔ pt.same a₀ s := by
  unfold State.rowFails
  (repeat' split) <;> simp [h0, h1, h2, h3, h4, h5, h6, h7, h8, h9, h10, h11, h12, h13, h14, h15, State.regionRetired_same, State.faultIn_same]

theorem State.setTemp_same {pt : Part} (h0 : ¬ pt = .islands) (a₀ : State) (s : State) (i : Island) (temp : Int) : pt.same a₀ (State.setTemp s i temp) ↔ pt.same a₀ s := by
  unfold State.setTemp
  (repeat' split) <;> simp [h0, State.setIsl_same]

theorem State.stepSwitched_same {pt : Part} (h0 : ¬ pt = .islands) (h1 : ¬ pt = .log) (a₀ : State) (s : State) (i : Island) : pt.same a₀ (State.stepSwitched s i) ↔ pt.same a₀ s := by
  unfold State.stepSwitched
  (repeat' split) <;> simp [h0, h1, State.budgetStep_same, State.setIsl_same]

theorem State.storeError_same {pt : Part} (h0 : ¬ pt = .health) (h1 : ¬ pt = .dict) (h2 : ¬ pt = .keys) (h3 : ¬ pt = .comb) (h4 : ¬ pt = .rover) (h5 : ¬ pt = .conf) (h6 : ¬ pt = .stop) (h7 : ¬ pt = .radio) (h8 : ¬ pt = .fabric) (h9 : ¬ pt = .replies) (h10 : ¬ pt = .log) (h11 : ¬ pt = .out) (a₀ : State) (s : State) (x : StoreRef) : pt.same a₀ (State.storeError s x) ↔ pt.same a₀ s := by
  unfold State.storeError
  (repeat' split) <;> simp [h0, h1, h2, h3, h4, h5, h6, h7, h8, h9, h10, h11, State.blockSlot_same, State.roverDamage_same, State.packetLost_same, State.descLost_same, State.keyLost_same, State.endLink_same]

theorem State.tempAbove_same {pt : Part} (h0 : ¬ pt = .islands) (h1 : ¬ pt = .health) (h2 : ¬ pt = .log) (a₀ : State) (s : State) (i : Island) (temp : Int) : pt.same a₀ (State.tempAbove s i temp) ↔ pt.same a₀ s := by
  unfold State.tempAbove
  (repeat' split) <;> simp [h0, h1, h2, State.setTemp_same, State.logEv_same]

theorem State.tempBelow_same {pt : Part} (h0 : ¬ pt = .islands) (h1 : ¬ pt = .health) (a₀ : State) (s : State) (temps : List Int) : pt.same a₀ (State.tempBelow s temps) ↔ pt.same a₀ s := by
  unfold State.tempBelow
  (repeat' split) <;> simp [h0, h1, State.setTemps_same]

theorem State.tripReleased_same {pt : Part} (h0 : ¬ pt = .islands) (h1 : ¬ pt = .resets) (h2 : ¬ pt = .health) (h3 : ¬ pt = .dict) (h4 : ¬ pt = .stop) (h5 : ¬ pt = .out) (a₀ : State) (s : State) (temps : List Int) : pt.same a₀ (State.tripReleased s temps) ↔ pt.same a₀ s := by
  unfold State.tripReleased
  (repeat' split) <;> simp [h0, h1, h2, h3, h4, h5, State.setTemps_same, State.releaseSource_same]

theorem State.tripped_same {pt : Part} (h0 : ¬ pt = .islands) (h1 : ¬ pt = .resets) (h2 : ¬ pt = .health) (h3 : ¬ pt = .dict) (h4 : ¬ pt = .settings) (h5 : ¬ pt = .keys) (h6 : ¬ pt = .comb) (h7 : ¬ pt = .track) (h8 : ¬ pt = .dev) (h9 : ¬ pt = .base) (h10 : ¬ pt = .rover) (h11 : ¬ pt = .conf) (h12 : ¬ pt = .stop) (h13 : ¬ pt = .radio) (h14 : ¬ pt = .tb) (h15 : ¬ pt = .outs) (h16 : ¬ pt = .caps) (h17 : ¬ pt = .net) (h18 : ¬ pt = .can) (h19 : ¬ pt = .fabric) (h20 : ¬ pt = .replies) (h21 : ¬ pt = .dram) (h22 : ¬ pt = .log) (h23 : ¬ pt = .out) (a₀ : State) (s : State) (i : Island) (temp : Int) : pt.same a₀ (State.tripped s i temp) ↔ pt.same a₀ s := by
  unfold State.tripped
  (repeat' split) <;> simp [h0, h1, h2, h3, h4, h5, h6, h7, h8, h9, h10, h11, h12, h13, h14, h15, h16, h17, h18, h19, h20, h21, h22, h23, State.setTemp_same, State.assertReset_same]

theorem State.vreqMoved_same {pt : Part} (h0 : ¬ pt = .health) (a₀ : State) (s : State) : pt.same a₀ (State.vreqMoved s) ↔ pt.same a₀ s := by
  unfold State.vreqMoved
  (repeat' split) <;> simp [h0]

end Sys2Proof.Machine
end

