-- ==== Sys2Proof/Laws/Run.lean ====
section
/-!
SUPPORT. What each operation of how a command runs can move: every part but those it names is as it was.
-/

namespace Sys2Proof.Machine

theorem State.touch_same {pt : Part} (h0 : ¬ pt = .dict) (a₀ : State) (s : State) (k : Nat) : pt.same a₀ (State.touch s k) ↔ pt.same a₀ s := by
  unfold State.touch
  (repeat' split) <;> simp [h0]

theorem State.countGens_same {pt : Part} (h0 : ¬ pt = .dict) (a₀ : State) (s : State) : pt.same a₀ (State.countGens s) ↔ pt.same a₀ s := by
  unfold State.countGens
  (repeat' split) <;> simp [h0]

theorem State.stamp_same {pt : Part} (h0 : ¬ pt = .dict) (a₀ : State) (s : State) : pt.same a₀ (State.stamp s) ↔ pt.same a₀ s := by
  unfold State.stamp
  (repeat' split) <;> simp [h0, State.fillAll_same, State.countGens_same]

/-- What follows a command moves only generations, responses and replies. -/
theorem State.run_same {pt : Part} (h0 : ¬ pt = .now) (h1 : ¬ pt = .silicon) (h2 : ¬ pt = .pending) (h3 : ¬ pt = .dict) (h4 : ¬ pt = .out)
    (h5 : ¬ pt = .replies) (a₀ s : State) (t : Nat) (body : State → State) :
    pt.same a₀ (s.run t body) ↔ pt.same a₀ (body (s.advance t)) := by
  unfold State.run
  simp only []
  rw [same_now_silicon_pending h0 h1 h2, State.flush_same h3 h4 h5, State.stamp_same h3]

@[simp] theorem State.run_now (s : State) (t : Nat) (body : State → State) : (s.run t body).now = max s.now t := rfl
@[simp] theorem State.run_silicon (s : State) (t : Nat) (body : State → State) : (s.run t body).silicon = s.silicon := rfl
@[simp] theorem State.run_pending (s : State) (t : Nat) (body : State → State) : (s.run t body).pending = s.pending := rfl

end Sys2Proof.Machine
end

