-- ==== Sys2Proof/Laws/ImageOps.lean ====
section
/-!
SUPPORT. What each operation of configuration images can move: every part but those it names is as it was.
-/

namespace Sys2Proof.Machine

theorem State.exportImage_same {pt : Part} (h0 : ¬ pt = .settings) (h1 : ¬ pt = .free) (a₀ : State) (s : State) : pt.same a₀ (State.exportImage s) ↔ pt.same a₀ s := by
  unfold State.exportImage
  (repeat' split) <;> simp [h0, h1, State.setVal_same]

theorem State.importImage_same {pt : Part} (h0 : ¬ pt = .settings) (h1 : ¬ pt = .log) (a₀ : State) (s : State) (b : Bytes) : pt.same a₀ (State.importImage s b).1 ↔ pt.same a₀ s := by
  unfold State.importImage
  (repeat' split) <;> simp [h0, h1, State.blocksWorn_same]

end Sys2Proof.Machine
end

