-- ==== Sys2Proof/Laws/Dict.lean ====
section
/-!
SUPPORT. What each operation of the dictionary service can move: every part but those it names is as it was.
-/

namespace Sys2Proof.Machine

theorem State.unserved_same {pt : Part} (h0 : ¬ pt = .dict) (h1 : ¬ pt = .out) (a₀ : State) (s : State) (c : Caller) (f : InFlight) (a : Ans) : pt.same a₀ (State.unserved s c f a) ↔ pt.same a₀ s := by
  unfold State.unserved
  (repeat' split) <;> simp [h0, h1, State.onSession_same, State.answer_same]

theorem State.seenBy_same {pt : Part} (h0 : ¬ pt = .dict) (a₀ : State) (s : State) (c : Caller) (k : Nat) : pt.same a₀ (State.seenBy s c k) ↔ pt.same a₀ s := by
  unfold State.seenBy
  (repeat' split) <;> simp [h0]

theorem State.takeEvent_same {pt : Part} (h0 : ¬ pt = .fabric) (h1 : ¬ pt = .replies) (a₀ : State) (s : State) (tok : Nat) {e : AppletEvent} {s' : State} (h : s.takeEvent tok = some (e, s')) : pt.same a₀ s' ↔ pt.same a₀ s := by
  unfold State.takeEvent at h
  split at h
  · cases h; simp [h0, h1]
  · cases h

theorem State.appletAnswer_same {pt : Part} (h0 : ¬ pt = .dict) (h1 : ¬ pt = .settings) (h2 : ¬ pt = .fabric) (h3 : ¬ pt = .replies) (h4 : ¬ pt = .out) (h5 : ¬ pt = .free) (a₀ : State) (s : State) (tok : Nat) (outcome : Nat) (data : Bytes) : pt.same a₀ (State.appletAnswer s tok outcome data) ↔ pt.same a₀ s := by
  unfold State.appletAnswer
  split
  · rfl
  · rename_i e; have e := State.takeEvent_same (by assumption) (by assumption) a₀ _ _ e; simp only []; (repeat' split) <;> simp [h0, h1, h4, h5, State.draw_same, State.applyVals_same, State.answer_same, e]

theorem State.appletPost_same {pt : Part} (h0 : ¬ pt = .health) (h1 : ¬ pt = .fabric) (h2 : ¬ pt = .replies) (h3 : ¬ pt = .log) (a₀ : State) (s : State) (kind : Nat) (token : Nat) (k : Nat) (body : Bytes) : pt.same a₀ (State.appletPost s kind token k body) ↔ pt.same a₀ s := by
  unfold State.appletPost
  (repeat' split) <;> simp [h0, h1, h2, h3, State.post_same]

theorem State.appletAsk_same {pt : Part} (h0 : ¬ pt = .health) (h1 : ¬ pt = .fabric) (h2 : ¬ pt = .replies) (h3 : ¬ pt = .log) (a₀ : State) (s : State) (c : Caller) (kind : Nat) (k : Nat) (body : Bytes) : pt.same a₀ (State.appletAsk s c kind k body) ↔ pt.same a₀ s := by
  unfold State.appletAsk
  (repeat' split) <;> simp [h0, h1, h2, h3, State.appletPost_same]

theorem State.appletSilent_same {pt : Part} (h0 : ¬ pt = .dict) (h1 : ¬ pt = .fabric) (h2 : ¬ pt = .replies) (h3 : ¬ pt = .out) (a₀ : State) (s : State) (tok : Nat) : pt.same a₀ (State.appletSilent s tok) ↔ pt.same a₀ s := by
  unfold State.appletSilent
  split
  · rfl
  · rename_i e
    split
    · rw [State.answer_same (by assumption) (by assumption)]; exact State.takeEvent_same (by assumption) (by assumption) a₀ _ _ e
    · rfl

theorem State.appletWrite_same {pt : Part} (h0 : ¬ pt = .health) (h1 : ¬ pt = .settings) (h2 : ¬ pt = .fabric) (h3 : ¬ pt = .replies) (h4 : ¬ pt = .log) (a₀ : State) (s : State) (c : Caller) (idx : Nat) (sub : Nat) (v : Bytes) : pt.same a₀ (State.appletWrite s c idx sub v).1 ↔ pt.same a₀ s := by
  unfold State.appletWrite
  (repeat' split) <;> simp [h0, h1, h2, h3, h4, State.setVal_same, State.appletPost_same]

theorem State.storedAt_same {pt : Part} (h0 : ¬ pt = .clash) (h1 : ¬ pt = .health) (h2 : ¬ pt = .dict) (h3 : ¬ pt = .track) (h4 : ¬ pt = .stop) (h5 : ¬ pt = .radio) (h6 : ¬ pt = .tb) (h7 : ¬ pt = .net) (h8 : ¬ pt = .can) (h9 : ¬ pt = .log) (h10 : ¬ pt = .out) (a₀ : State) (s : State) (idx : Nat) (sub : Nat) (old : Bytes) (v : Bytes) : pt.same a₀ (State.storedAt s idx sub old v) ↔ pt.same a₀ s := by
  unfold State.storedAt
  (repeat' split) <;> simp [h0, h1, h2, h3, h4, h5, h6, h7, h8, h9, h10, State.bufferWritten_same, State.refreshGo_same, State.clashEnded_same, State.counterCleared_same, State.servo_same, State.slewRated_same, State.refinChosen_same, State.ethConfigured_same, State.listenWritten_same, State.rateWritten_same, State.siJudge_same]

theorem State.applyWrite_same {pt : Part} (h0 : ¬ pt = .clash) (h1 : ¬ pt = .health) (h2 : ¬ pt = .dict) (h3 : ¬ pt = .settings) (h4 : ¬ pt = .track) (h5 : ¬ pt = .dev) (h6 : ¬ pt = .conf) (h7 : ¬ pt = .stop) (h8 : ¬ pt = .radio) (h9 : ¬ pt = .tb) (h10 : ¬ pt = .net) (h11 : ¬ pt = .can) (h12 : ¬ pt = .log) (h13 : ¬ pt = .out) (a₀ : State) (s : State) (idx : Nat) (sub : Nat) (v : Bytes) : pt.same a₀ (State.applyWrite s idx sub v).1 ↔ pt.same a₀ s := by
  unfold State.applyWrite
  (repeat' split) <;> simp [h0, h1, h2, h3, h4, h5, h6, h7, h8, h9, h10, h11, h12, h13, State.standbyEnter_same, State.standbyExit_same, State.canSleepReq_same, State.canWakeReq_same, State.machineWrite_same, State.rollBound_same, State.slewMoved_same, State.storedAt_same, State.setVal_same]

theorem State.readFront_same {pt : Part} (h0 : ¬ pt = .settings) (h1 : ¬ pt = .free) (a₀ : State) (s : State) (c : Caller) (idx : Nat) (sub : Nat) (off : Nat) : pt.same a₀ (State.readFront s c idx sub off).1 ↔ pt.same a₀ s := by
  unfold State.readFront
  (repeat' split) <;> simp [h0, h1, State.exportImage_same]

theorem State.blockReadOp_same {pt : Part} (h0 : ¬ pt = .settings) (h1 : ¬ pt = .free) (a₀ : State) (s : State) (c : Caller) (idx : Nat) (sub : Nat) (off : Nat) (max : Nat) : pt.same a₀ (State.blockReadOp s c idx sub off max).1 ↔ pt.same a₀ s := by
  unfold State.blockReadOp
  have e := State.readFront_same (by assumption) (by assumption) a₀ s c idx sub off
  split <;> (rename_i h; rw [h] at e; exact e)

theorem State.canTxAny_same {pt : Part} (h0 : ¬ pt = .dict) (h1 : ¬ pt = .can) (h2 : ¬ pt = .out) (h3 : ¬ pt = .free) (a₀ : State) (s : State) (c : Caller) (req : Bytes) : pt.same a₀ (State.canTxAny s c req).1 ↔ pt.same a₀ s := by
  unfold State.canTxAny
  (repeat' split) <;> simp [h0, h1, h2, h3, State.canTx_same, State.draw_same]

theorem State.readOp_same {pt : Part} (h0 : ¬ pt = .settings) (h1 : ¬ pt = .free) (a₀ : State) (s : State) (c : Caller) (idx : Nat) (sub : Nat) (limited : Bool) : pt.same a₀ (State.readOp s c idx sub limited).1 ↔ pt.same a₀ s := by
  unfold State.readOp
  have e := State.readFront_same (by assumption) (by assumption) a₀ s c idx sub 0
  split <;> (rename_i h; rw [h] at e; exact e)

theorem State.commitAt_same {pt : Part} (h0 : ¬ pt = .health) (h1 : ¬ pt = .dict) (h2 : ¬ pt = .settings) (h3 : ¬ pt = .comb) (h4 : ¬ pt = .track) (h5 : ¬ pt = .base) (h6 : ¬ pt = .radio) (h7 : ¬ pt = .tb) (h8 : ¬ pt = .outs) (h9 : ¬ pt = .net) (h10 : ¬ pt = .can) (h11 : ¬ pt = .fabric) (h12 : ¬ pt = .replies) (h13 : ¬ pt = .log) (h14 : ¬ pt = .out) (h15 : ¬ pt = .free) (a₀ : State) (s : State) (c : Caller) (idx : Nat) : pt.same a₀ (State.commitAt s c idx).1 ↔ pt.same a₀ s := by
  unfold State.commitAt
  (repeat' split) <;> simp [h0, h1, h2, h3, h4, h5, h6, h7, h8, h9, h10, h11, h12, h13, h14, h15, State.appletAsk_same, State.commitGroup_same]

theorem State.notCarried_same {pt : Part} (h0 : ¬ pt = .settings) (a₀ : State) (s : State) (g : Nat) : pt.same a₀ (State.notCarried s g) ↔ pt.same a₀ s := by
  unfold State.notCarried
  (repeat' split) <;> simp [h0]

theorem State.takeHold_same {pt : Part} (h0 : ¬ pt = .dict) (a₀ : State) (s : State) (c : Caller) (g : Nat) : pt.same a₀ (State.takeHold s c g) ↔ pt.same a₀ s := by
  unfold State.takeHold
  (repeat' split) <;> simp [h0]

theorem State.machineCommand_same {pt : Part} (h0 : ¬ pt = .dict) (h1 : ¬ pt = .rover) (h2 : ¬ pt = .conf) (h3 : ¬ pt = .stop) (h4 : ¬ pt = .radio) (h5 : ¬ pt = .log) (h6 : ¬ pt = .out) (a₀ : State) (s : State) (m : Nat) (sub : Nat) (v : Bytes) : pt.same a₀ (State.machineCommand s m sub v).1 ↔ pt.same a₀ s := by
  unfold State.machineCommand
  (repeat' split) <;> simp [h0, h1, h2, h3, h4, h5, h6, State.roverReset_same, State.paramRequest_same, State.endLink_same]

theorem State.dropHold_same {pt : Part} (h0 : ¬ pt = .dict) (h1 : ¬ pt = .settings) (a₀ : State) (s : State) (g : Nat) : pt.same a₀ (State.dropHold s g) ↔ pt.same a₀ s := by
  unfold State.dropHold
  (repeat' split) <;> simp [h0, h1, returnShadow_same]

theorem State.discardOp_same {pt : Part} (h0 : ¬ pt = .dict) (h1 : ¬ pt = .settings) (a₀ : State) (s : State) (c : Caller) (r : ObjRow) (idx : Nat) : pt.same a₀ (State.discardOp s c r idx).1 ↔ pt.same a₀ s := by
  unfold State.discardOp
  (repeat' split) <;> simp [h0, h1, State.notCarried_same, State.dropHold_same]

theorem State.stageDiscardOp_same {pt : Part} (h0 : ¬ pt = .dict) (h1 : ¬ pt = .settings) (a₀ : State) (s : State) (c : Caller) (idx : Nat) : pt.same a₀ (State.stageDiscardOp s c idx).1 ↔ pt.same a₀ s := by
  unfold State.stageDiscardOp
  simp; (repeat' split) <;> simp [h0, h1, State.seenBy_same, State.discardOp_same]

theorem State.payloadOp_same {pt : Part} (h0 : ¬ pt = .boot) (a₀ : State) (s : State) (c : Caller) (v : Bytes) : pt.same a₀ (State.payloadOp s c v).1 ↔ pt.same a₀ s := by
  unfold State.payloadOp
  (repeat' split) <;> simp [h0, State.updateDone_same]

theorem State.command_same {pt : Part} (h0 : ¬ pt = .islands) (h1 : ¬ pt = .resets) (h2 : ¬ pt = .health) (h3 : ¬ pt = .dict) (h4 : ¬ pt = .settings) (h5 : ¬ pt = .keys) (h6 : ¬ pt = .boot) (h7 : ¬ pt = .comb) (h8 : ¬ pt = .track) (h9 : ¬ pt = .dev) (h10 : ¬ pt = .base) (h11 : ¬ pt = .rover) (h12 : ¬ pt = .conf) (h13 : ¬ pt = .stop) (h14 : ¬ pt = .radio) (h15 : ¬ pt = .tb) (h16 : ¬ pt = .outs) (h17 : ¬ pt = .caps) (h18 : ¬ pt = .net) (h19 : ¬ pt = .can) (h20 : ¬ pt = .fabric) (h21 : ¬ pt = .replies) (h22 : ¬ pt = .dram) (h23 : ¬ pt = .log) (h24 : ¬ pt = .out) (h25 : ¬ pt = .free) (a₀ : State) (s : State) (c : Caller) (idx : Nat) (sub : Nat) (v : Bytes) : pt.same a₀ (State.command s c idx sub v).1 ↔ pt.same a₀ s := by
  unfold State.command
  (repeat' split) <;> simp [h0, h1, h2, h3, h4, h5, h6, h7, h8, h9, h10, h11, h12, h13, h14, h15, h16, h17, h18, h19, h20, h21, h22, h23, h24, h25, State.machineCommand_same, State.canRecoverReq_same, State.bufferAck_same, State.stageDiscardOp_same, State.lifecycleCmd_same, State.keyWritten_same, State.keyErased_same, State.keyInvalidated_same, State.updateBegin_same, State.payloadOp_same, State.activateUpdate_same, State.confirmUpdate_same, State.resetSettings_same, State.importImage_same, State.enterBoantCmd_same, State.resetCommand_same, State.snapshotTaken_same, State.stepArm_same, State.stepDisarm_same, State.ppsTimeOfDay_same, State.surveyAbandon_same, State.surveyStart_same, State.clearBlocked_same, State.swarmPort_same, State.stopCmd_same, State.releaseArmed_same, State.releaseConfirmed_same]

theorem State.writeEffect_same {pt : Part} (h0 : ¬ pt = .clash) (h1 : ¬ pt = .islands) (h2 : ¬ pt = .resets) (h3 : ¬ pt = .health) (h4 : ¬ pt = .dict) (h5 : ¬ pt = .settings) (h6 : ¬ pt = .keys) (h7 : ¬ pt = .boot) (h8 : ¬ pt = .comb) (h9 : ¬ pt = .track) (h10 : ¬ pt = .dev) (h11 : ¬ pt = .base) (h12 : ¬ pt = .rover) (h13 : ¬ pt = .conf) (h14 : ¬ pt = .stop) (h15 : ¬ pt = .radio) (h16 : ¬ pt = .tb) (h17 : ¬ pt = .outs) (h18 : ¬ pt = .caps) (h19 : ¬ pt = .net) (h20 : ¬ pt = .can) (h21 : ¬ pt = .fabric) (h22 : ¬ pt = .replies) (h23 : ¬ pt = .dram) (h24 : ¬ pt = .log) (h25 : ¬ pt = .out) (h26 : ¬ pt = .free) (a₀ : State) (s : State) (c : Caller) (r : ObjRow) (idx : Nat) (sub : Nat) (v : Bytes) : pt.same a₀ (State.writeEffect s c r idx sub v).1 ↔ pt.same a₀ s := by
  unfold State.writeEffect
  simp; (repeat' split) <;> simp [h0, h1, h2, h3, h4, h5, h6, h7, h8, h9, h10, h11, h12, h13, h14, h15, h16, h17, h18, h19, h20, h21, h22, h23, h24, h25, h26, State.commitAt_same, State.notCarried_same, State.takeHold_same, State.appletWrite_same, State.setVal_same, State.command_same, State.applyWrite_same]

theorem State.writeOp_same {pt : Part} (h0 : ¬ pt = .clash) (h1 : ¬ pt = .islands) (h2 : ¬ pt = .resets) (h3 : ¬ pt = .health) (h4 : ¬ pt = .dict) (h5 : ¬ pt = .settings) (h6 : ¬ pt = .keys) (h7 : ¬ pt = .boot) (h8 : ¬ pt = .comb) (h9 : ¬ pt = .track) (h10 : ¬ pt = .dev) (h11 : ¬ pt = .base) (h12 : ¬ pt = .rover) (h13 : ¬ pt = .conf) (h14 : ¬ pt = .stop) (h15 : ¬ pt = .radio) (h16 : ¬ pt = .tb) (h17 : ¬ pt = .outs) (h18 : ¬ pt = .caps) (h19 : ¬ pt = .net) (h20 : ¬ pt = .can) (h21 : ¬ pt = .fabric) (h22 : ¬ pt = .replies) (h23 : ¬ pt = .dram) (h24 : ¬ pt = .log) (h25 : ¬ pt = .out) (h26 : ¬ pt = .free) (a₀ : State) (s : State) (c : Caller) (idx : Nat) (sub : Nat) (v : Bytes) : pt.same a₀ (State.writeOp s c idx sub v).1 ↔ pt.same a₀ s := by
  unfold State.writeOp
  split
  · rfl
  · split
    · rfl
    · dsimp only
      generalize hE : s.writeEffect c _ idx sub v = e
      have h : pt.same a₀ e.1 ↔ pt.same a₀ s := hE ▸ State.writeEffect_same (by assumption) (by assumption) (by assumption) (by assumption) (by assumption) (by assumption) (by assumption) (by assumption) (by assumption) (by assumption) (by assumption) (by assumption) (by assumption) (by assumption) (by assumption) (by assumption) (by assumption) (by assumption) (by assumption) (by assumption) (by assumption) (by assumption) (by assumption) (by assumption) (by assumption) (by assumption) (by assumption) a₀ s c _ idx sub v
      unfold State.behind
      (repeat' split) <;> first | exact h | rfl

theorem State.portOp_same {pt : Part} (h0 : ¬ pt = .clash) (h1 : ¬ pt = .health) (h2 : ¬ pt = .dict) (h3 : ¬ pt = .settings) (h4 : ¬ pt = .comb) (h5 : ¬ pt = .base) (h6 : ¬ pt = .stop) (h7 : ¬ pt = .radio) (h8 : ¬ pt = .can) (h9 : ¬ pt = .fabric) (h10 : ¬ pt = .replies) (h11 : ¬ pt = .log) (h12 : ¬ pt = .out) (h13 : ¬ pt = .free) (a₀ : State) (s : State) (c : Caller) (idx : Nat) (sub : Nat) (req : Bytes) : pt.same a₀ (State.portOp s c idx sub req).1 ↔ pt.same a₀ s := by
  unfold State.portOp
  (repeat' split) <;> simp [h0, h1, h2, h3, h4, h5, h6, h7, h8, h9, h10, h11, h12, h13, State.appletAsk_same, State.sealPort_same, State.canTxAny_same, State.radioSend_same, State.radioWaggle_same, State.netPort_same, State.combIntake_same, State.neighbourPort_same, State.stopNotice_same]

theorem State.commitOp_same {pt : Part} (h0 : ¬ pt = .health) (h1 : ¬ pt = .dict) (h2 : ¬ pt = .settings) (h3 : ¬ pt = .comb) (h4 : ¬ pt = .track) (h5 : ¬ pt = .base) (h6 : ¬ pt = .radio) (h7 : ¬ pt = .tb) (h8 : ¬ pt = .outs) (h9 : ¬ pt = .net) (h10 : ¬ pt = .can) (h11 : ¬ pt = .fabric) (h12 : ¬ pt = .replies) (h13 : ¬ pt = .log) (h14 : ¬ pt = .out) (h15 : ¬ pt = .free) (a₀ : State) (s : State) (c : Caller) (r : ObjRow) (idx : Nat) : pt.same a₀ (State.commitOp s c r idx).1 ↔ pt.same a₀ s := by
  unfold State.commitOp
  (repeat' split) <;> simp [h0, h1, h2, h3, h4, h5, h6, h7, h8, h9, h10, h11, h12, h13, h14, h15, State.commitAt_same]

theorem State.commitRec_same {pt : Part} (h0 : ¬ pt = .health) (h1 : ¬ pt = .dict) (h2 : ¬ pt = .settings) (h3 : ¬ pt = .comb) (h4 : ¬ pt = .track) (h5 : ¬ pt = .base) (h6 : ¬ pt = .radio) (h7 : ¬ pt = .tb) (h8 : ¬ pt = .outs) (h9 : ¬ pt = .net) (h10 : ¬ pt = .can) (h11 : ¬ pt = .fabric) (h12 : ¬ pt = .replies) (h13 : ¬ pt = .log) (h14 : ¬ pt = .out) (h15 : ¬ pt = .free) (a₀ : State) (s : State) (c : Caller) (idx : Nat) (sub : Nat) (param : Nat) : pt.same a₀ (State.commitRec s c idx sub param).1 ↔ pt.same a₀ s := by
  unfold State.commitRec
  (repeat' split) <;> simp [h0, h1, h2, h3, h4, h5, h6, h7, h8, h9, h10, h11, h12, h13, h14, h15, State.commitOp_same, State.discardOp_same]

theorem State.subscribeOp_same {pt : Part} (h0 : ¬ pt = .dict) (a₀ : State) (s : State) (c : Caller) (idx : Nat) (sub : Nat) (param : Nat) : pt.same a₀ (State.subscribeOp s c idx sub param).1 ↔ pt.same a₀ s := by
  unfold State.subscribeOp
  simp; (repeat' split) <;> simp [h0, State.onSession_same]

theorem State.notifyDue_same {pt : Part} (h0 : ¬ pt = .dict) (h1 : ¬ pt = .settings) (h2 : ¬ pt = .fabric) (h3 : ¬ pt = .replies) (h4 : ¬ pt = .free) (a₀ : State) (s : State) (i : Nat) (k : Nat) : pt.same a₀ (State.notifyDue s i k) ↔ pt.same a₀ s := by
  unfold State.notifyDue
  simp; (repeat' split) <;> simp [h0, h2, h3, State.countGens_same, State.setApplet_same, State.setSession_same]

theorem State.xferAbandon_same {pt : Part} (h0 : ¬ pt = .dict) (a₀ : State) (s : State) (i : Nat) (k : Nat) : pt.same a₀ (State.xferAbandon s i k) ↔ pt.same a₀ s := by
  unfold State.xferAbandon
  (repeat' split) <;> simp [h0, State.setApplet_same, State.setSession_same]

/-! ### Accesses: they move what their body moves, the dictionary service and what is sent -/

theorem State.inSession_same {pt : Part} (h0 : ¬ pt = .dict) (h1 : ¬ pt = .out) (a₀ s : State) (c : Caller) (x : Session) (f : InFlight)
    (body : State → State × Option Ans) (hb : ∀ y, pt.same a₀ (body y).1 ↔ pt.same a₀ y) :
    pt.same a₀ (s.inSession c x f body) ↔ pt.same a₀ s := by
  unfold State.inSession
  split
  · exact State.onSession_same h0 _ _ _ _
  · split
    · rfl
    · split
      · rw [State.onSession_same h0, State.seenBy_same h0]
      · simp only []
        rw [State.answer?_same h0 h1, hb, State.seenBy_same h0, State.touch_same h0, State.onSession_same h0]

theorem State.served_same {pt : Part} (h0 : ¬ pt = .dict) (h1 : ¬ pt = .out) (a₀ s : State) (c : Caller) (f : InFlight)
    (body : State → State × Option Ans) (hb : ∀ y, pt.same a₀ (body y).1 ↔ pt.same a₀ y) :
    pt.same a₀ (s.served c f body) ↔ pt.same a₀ s := by
  unfold State.served
  split
  · split
    · split
      · rfl
      · exact (State.inSession_same h0 h1 _ _ _ _ _ _ hb).trans (State.setSession_same h0 _ _ _ _)
    · rfl
  · exact State.inSession_same h0 h1 _ _ _ _ _ _ hb
  · rw [State.answer?_same h0 h1, hb, State.seenBy_same h0]
  · exact hb s

theorem State.access_same {pt : Part} (h0 : ¬ pt = .dict) (h1 : ¬ pt = .out) (a₀ s : State) (c : Caller) (opcode k off : Nat)
    (body : State → State × Option Ans) (hb : ∀ y, pt.same a₀ (body y).1 ↔ pt.same a₀ y) :
    pt.same a₀ (s.access c opcode k off body) ↔ pt.same a₀ s := by
  unfold State.access
  dsimp only
  split
  · exact State.unserved_same h0 h1 _ _ _ _ _
  · exact State.served_same h0 h1 _ _ _ _ _ hb

/-- What a gasket turns away moves nothing; the rest moves what the access moves. -/
theorem State.behind_same {pt : Part} (a₀ s : State) (r : ObjRow) (e : State × Option Ans) (h : pt.same a₀ e.1 ↔ pt.same a₀ s) :
    pt.same a₀ (s.behind r e).1 ↔ pt.same a₀ s := by
  unfold State.behind
  (repeat' split) <;> first | exact h | rfl

/-- A write to a wo object of the device's own moves what its command moves. -/
theorem State.writeBy_same {pt : Part} (h0 : ¬ pt = .dict) (h1 : ¬ pt = .out) (a₀ s : State) (c : Caller) (idx sub : Nat) (v : Bytes)
    (hb : ∀ (y : State) (r : ObjRow), y.rowAt idx sub = some r → (pt.same a₀ (y.writeEffect c r idx sub v).1 ↔ pt.same a₀ y)) :
    pt.same a₀ (s.writeBy c idx sub v) ↔ pt.same a₀ s := by
  refine State.access_same h0 h1 _ _ _ _ _ _ _ fun y => ?_
  unfold State.writeOp
  split
  · rfl
  · rename_i r hr
    have hrow : y.rowAt idx sub = some r := by
      unfold State.front at hr
      split at hr
      · cases hr
      · rename_i r' hr'
        simp only [] at hr
        repeat' split at hr
        all_goals first | (cases hr; exact hr'; done) | (cases hr; done)
    have e := hb y r hrow
    split
    · rfl
    · dsimp only
      (repeat' split) <;> first | exact e | exact State.behind_same _ _ _ _ e | rfl

/-- A request moves what its port moves. -/
theorem State.transactWith_same {pt : Part} (a₀ s : State) (c : Caller) (idx sub : Nat) (req : Bytes) (port : State → State × Option Ans)
    (hb : ∀ y, pt.same a₀ (port y).1 ↔ pt.same a₀ y) : pt.same a₀ (s.transactWith c idx sub req port).1 ↔ pt.same a₀ s := by
  unfold State.transactWith
  split
  · rfl
  · split
    · rfl
    · exact State.behind_same _ _ _ _ (hb s)

theorem State.transactBy_same {pt : Part} (h0 : ¬ pt = .dict) (h1 : ¬ pt = .out) (a₀ s : State) (c : Caller) (idx : Nat) (req : Bytes)
    (hb : ∀ y, pt.same a₀ (y.portOp c idx 0 req).1 ↔ pt.same a₀ y) : pt.same a₀ (s.transactBy c idx req) ↔ pt.same a₀ s :=
  State.access_same h0 h1 _ _ _ _ _ _ _ fun y => State.transactWith_same _ y c idx 0 req _ hb

end Sys2Proof.Machine
end

