-- ==== Sys2Proof/Laws/Access.lean ====
section
/-!
SUPPORT. What an access that R112 lets through does: the bookkeeping of its session, then its object's own effect, then its answer.
-/

namespace Sys2Proof.Machine

/-! ### The checks do not look at the bookkeeping of sessions -/

/-- A session without the bookkeeping of datagrams and accesses: its replay window, its last traffic and its operations in flight. -/
def Session.core (x : Session) : Session := { x with rxHigh := 0, rxSeen := [], last := 0, flight := [] }

/-- Two dictionary services that differ in the bookkeeping of accesses, in generations and in the instants of holds alone. -/
structure Dict.Alike (d e : Dict) : Prop where
  sess  : d.sessions.map (fun x => (x.1, x.2.core)) = e.sessions.map (fun x => (x.1, x.2.core))
  app   : d.applet.core = e.applet.core
  holds : d.holds.map (fun h => (h.commit, h.editor)) = e.holds.map (fun h => (h.commit, h.editor))

theorem Dict.Alike.refl (d : Dict) : d.Alike d := ⟨rfl, rfl, rfl⟩
theorem Dict.Alike.trans {a b c : Dict} (h : a.Alike b) (k : b.Alike c) : a.Alike c :=
  ⟨h.sess.trans k.sess, h.app.trans k.app, h.holds.trans k.holds⟩

theorem Tbl.get?_map {α β : Type} (t : Tbl α) (i : Nat) (f : α → β) :
    Tbl.get? (t.map fun e => (e.1, f e.2)) i = (Tbl.get? t i).map f := by
  induction t with
  | nil => rfl
  | cons x t ih =>
    simp only [List.map_cons, Tbl.get?]
    split
    · rfl
    · exact ih

theorem Dict.Alike.get {d e : Dict} (h : d.Alike e) (i : Nat) : (Tbl.get? d.sessions i).map Session.core = (Tbl.get? e.sessions i).map Session.core := by
  rw [← Tbl.get?_map, ← Tbl.get?_map, h.sess]

theorem Dict.Alike.count {d e : Dict} (h : d.Alike e) : d.sessions.length = e.sessions.length := by
  have := congrArg List.length h.sess
  simpa using this

/-- A field of a session that an access's bookkeeping leaves alone. -/
theorem Dict.Alike.field {α : Type} {d e : Dict} (h : d.Alike e) (i : Nat) (f : Session → α) (hf : ∀ x, f x.core = f x) :
    (Tbl.get? d.sessions i).map f = (Tbl.get? e.sessions i).map f := by
  have := congrArg (Option.map f) (h.get i)
  simp only [Option.map_map] at this
  have hc : f ∘ Session.core = f := funext hf
  rwa [hc] at this

theorem Dict.Alike.priv {d e : Dict} (h : d.Alike e) (i : Nat) : (Tbl.get? d.sessions i).map Session.priv = (Tbl.get? e.sessions i).map Session.priv :=
  h.field i Session.priv fun _ => rfl

/-- The editor of a group's hold. -/
theorem Dict.Alike.editor {d e : Dict} (h : d.Alike e) (g : Nat) :
    (d.holds.find? fun h => h.commit = g).map Hold.editor = (e.holds.find? fun h => h.commit = g).map Hold.editor := by
  have key : ∀ (l m : List Hold), l.map (fun h => (h.commit, h.editor)) = m.map (fun h => (h.commit, h.editor)) →
      (l.find? fun h => h.commit = g).map Hold.editor = (m.find? fun h => h.commit = g).map Hold.editor := by
    intro l
    induction l with
    | nil => intro m hm; cases m with
      | nil => rfl
      | cons _ _ => simp at hm
    | cons x l ih => intro m hm; cases m with
      | nil => simp at hm
      | cons y m =>
        simp only [List.map_cons, List.cons.injEq, Prod.mk.injEq] at hm
        simp only [List.find?_cons, hm.1.1]
        split
        · exact congrArg some hm.1.2
        · exact ih m hm.2
  exact key _ _ h.holds

theorem Tbl.get?_upd {α : Type} (t : Tbl α) (k i : Nat) (f : α → α) :
    Tbl.get? (Tbl.upd t k f) i = if i = k then (Tbl.get? t i).map f else Tbl.get? t i := by
  induction t with
  | nil => simp [Tbl.upd, Tbl.get?]
  | cons x t ih =>
    obtain ⟨j, v⟩ := x
    simp only [Tbl.upd, List.map_cons] at ih ⊢
    by_cases hj : j = k
    · subst hj
      by_cases hi : j = i
      · subst hi; simp [Tbl.get?]
      · have hi' : ¬ i = j := fun e => hi e.symm
        simp only [if_pos, Tbl.get?, if_neg hi, if_neg hi'] at ih ⊢; exact ih
    · by_cases hi : j = i
      · subst hi; simp [Tbl.get?, hj]
      · simp only [if_neg hj, Tbl.get?, if_neg hi] at ih ⊢; exact ih

/-- The state with another dictionary service. -/
def State.withDict (s : State) (d : Dict) : State := { s with dict := d }

variable {s : State} {d : Dict}

theorem State.privOf_dict (h : d.Alike s.dict) (c : Caller) : (s.withDict d).privOf c = s.privOf c := by
  cases c with
  | coil i r => show ((Tbl.get? d.sessions i).map Session.priv).getD 0 = _; rw [h.priv i]; rfl
  | usdo p n => rfl
  | applet a r => rfl
  | firmware => rfl

theorem State.holdOf_dict (h : d.Alike s.dict) (c : Caller) (g : Nat) :
    (s.withDict d).heldByOther c g = s.heldByOther c g := by
  have hk := h.editor g
  unfold State.heldByOther State.holdOf
  show (match d.holds.find? _ with | some h => decide (h.editor ≠ Editor.ofCaller c) | none => false) = _
  revert hk
  cases hd : d.holds.find? fun h => decide (h.commit = g) <;> cases hs : s.dict.holds.find? fun h => decide (h.commit = g) <;> simp
  intro e; rw [e]

/-- The checks of an access see of the dictionary service only the caller's privilege. -/
theorem State.front_withDict {c : Caller} (h : (s.withDict d).privOf c = s.privOf c) (op : Op) (idx sub : Nat) :
    (s.withDict d).front c op idx sub = s.front c op idx sub := by
  unfold State.front
  rw [h]
  rfl

/-- Nor do they see what a session keeps beside its privilege. -/
theorem State.front_session (h : d.Alike s.dict) (i r : Nat) {f : Session → Session} (hf : ∀ x, (f x).priv = x.priv) (op : Op) (idx sub : Nat) :
    ((s.withDict d).setSession i f).front (.coil i r) op idx sub = s.front (.coil i r) op idx sub := by
  have hp : (s.withDict { d with sessions := Tbl.upd d.sessions i f }).privOf (.coil i r) = s.privOf (.coil i r) := by
    show ((Tbl.get? (Tbl.upd d.sessions i f) i).map Session.priv).getD 0 = ((Tbl.get? s.dict.sessions i).map Session.priv).getD 0
    rw [Tbl.get?_upd, ← h.priv i]
    cases Tbl.get? d.sessions i <;> simp [hf]
  exact State.front_withDict hp op idx sub

theorem State.front_dict (h : d.Alike s.dict) (c : Caller) (op : Op) (idx sub : Nat) :
    (s.withDict d).front c op idx sub = s.front c op idx sub := by
  unfold State.front
  rw [State.privOf_dict h]
  rfl

theorem State.gasketOf_dict (s : State) (d : Dict) (r : ObjRow) : (s.withDict d).gasketOf r = s.gasketOf r := rfl
theorem State.valueCheck_dict (s : State) (d : Dict) (r : ObjRow) (idx sub : Nat) (v : Bytes) :
    (s.withDict d).valueCheck r idx sub v = s.valueCheck r idx sub v := rfl
theorem State.storesPersistent_dict (s : State) (d : Dict) (r : ObjRow) (idx sub : Nat) :
    (s.withDict d).storesPersistent r idx sub = s.storesPersistent r idx sub := rfl

/-! ### The bookkeeping -/

theorem Dict.alike_setSession (s : State) (i : Nat) (f : Session → Session) (hf : ∀ x, (f x).core = x.core) :
    (s.setSession i f).dict.Alike s.dict := by
  refine ⟨?_, rfl, rfl⟩
  show (Tbl.upd s.dict.sessions i f).map _ = _
  unfold Tbl.upd
  rw [List.map_map]
  refine List.map_congr_left fun x _ => ?_
  simp only [Function.comp]
  split
  · simp [hf]
  · rfl

theorem Dict.alike_touch (s : State) (k : Nat) : (s.touch k).dict.Alike s.dict := by
  unfold State.touch
  split
  · exact .refl _
  · exact ⟨rfl, rfl, rfl⟩

theorem Dict.alike_seenBy (s : State) (c : Caller) (k : Nat) : (s.seenBy c k).dict.Alike s.dict := by
  refine ⟨rfl, rfl, ?_⟩
  unfold State.seenBy
  simp only [List.map_map]
  refine List.map_congr_left fun h _ => ?_
  simp only [Function.comp]
  split <;> rfl

theorem State.dict_eta (s : State) : (s.withDict s.dict) = s := rfl

/-- Bookkeeping moves the dictionary service alone. -/
theorem State.seen_touched (s : State) (c : Caller) (k : Nat) :
    ∃ d : Dict, d.Alike s.dict ∧ (s.touch k).seenBy c k = s.withDict d := by
  refine ⟨((s.touch k).seenBy c k).dict, (Dict.alike_seenBy _ _ _).trans (Dict.alike_touch _ _), ?_⟩
  unfold State.seenBy State.touch
  split <;> rfl

/-- An access that passes check 1 runs its body once, on a state that differs in the dictionary service's bookkeeping alone, and the
answer goes to its caller. -/
theorem State.access_runs {c : Caller} {opcode k off : Nat} (h : s.admits c opcode k off = true) (body : State → State × Option Ans) :
    ∃ d : Dict, d.Alike s.dict ∧ s.access c opcode k off body = State.answer? (body (s.withDict d)) c := by
  simp only [State.admits, Bool.and_eq_true, Option.isNone_iff_eq_none] at h
  obtain ⟨hsv, h⟩ := h
  unfold State.access
  simp only [hsv]
  unfold State.served
  cases c with
  | coil i r =>
    simp only [Bool.and_eq_true] at h
    obtain ⟨hon, hx⟩ := h
    cases hg : Tbl.get? s.dict.sessions i with
    | none => rw [hg] at hx; cases hx
    | some x =>
      rw [hg] at hx
      simp only [Session.takes, Bool.and_eq_true, Bool.not_eq_true', decide_eq_true_eq, Option.isNone_iff_eq_none] at hx
      obtain ⟨hn, ⟨⟨hk, hf⟩, hl⟩, -⟩ := hx
      have hs : x.nbr.isSome = false := by rw [hn]; rfl
      have hl' : ¬ 32 ≤ x.flight.length := by omega
      simp only [hg, hon, hs, Bool.not_true, Bool.or_self, Bool.false_eq_true, if_false]
      unfold State.inSession
      simp only [hk, hf, Bool.false_eq_true, if_false, if_neg hl']
      obtain ⟨d, hd, e⟩ := State.seen_touched ((s.setSession i fun y => { y with last := s.now }).onSession (.coil i r) fun y =>
        { y with flight := y.flight ++ [{ req := Caller.req (.coil i r), opcode := opcode, key := k, offset := off }] }) (.coil i r) k
      refine ⟨d, ?_, ?_⟩
      · refine (hd.trans (Dict.alike_setSession _ _ _ ?_)).trans (Dict.alike_setSession s i _ ?_) <;> intro y <;> rfl
      · rw [e]; rfl
  | usdo p n => exact ⟨(s.seenBy (.usdo p n) k).dict, Dict.alike_seenBy _ _ _, rfl⟩
  | applet a r =>
    simp only [Session.takes, Bool.and_eq_true, Bool.not_eq_true', decide_eq_true_eq, Option.isNone_iff_eq_none] at h
    obtain ⟨⟨⟨hk, hf⟩, hl⟩, -⟩ := h
    have hl' : ¬ 32 ≤ s.dict.applet.flight.length := by omega
    unfold State.inSession
    simp only [hk, hf, Bool.false_eq_true, if_false, if_neg hl']
    obtain ⟨d, hd, e⟩ := State.seen_touched (s.onSession (.applet a r) fun y =>
      { y with flight := y.flight ++ [{ req := Caller.req (.applet a r), opcode := opcode, key := k, offset := off }] }) (.applet a r) k
    exact ⟨d, hd.trans ⟨rfl, rfl, rfl⟩, by rw [e]; rfl⟩
  | firmware =>
    refine ⟨s.dict, .refl _, ?_⟩
    show (body s).1 = State.answer? (body s) .firmware
    unfold State.answer?
    split <;> rfl

/-! ### Whole writes and requests -/

/-- A write that passes the checks of R112 has its object's own effect, whatever the bookkeeping of its session. -/
theorem State.writeOp_runs {c : Caller} {idx sub : Nat} {v : Bytes} (h : s.writes c idx sub v = true) :
    ∃ r : ObjRow, s.rowAt idx sub = some r ∧
      ∀ d : Dict, d.Alike s.dict → (s.withDict d).writeOp c idx sub v = (s.withDict d).writeEffect c r idx sub v := by
  simp only [State.writes, State.opens, Bool.and_eq_true] at h
  obtain ⟨⟨-, hg⟩, hw⟩ := h
  cases hf : s.front c .write idx sub with
  | error a => rw [hf] at hg; cases hg
  | ok r =>
    rw [hf] at hg hw
    simp only [Bool.and_eq_true, Bool.not_eq_true', Option.isNone_iff_eq_none] at hg hw
    obtain ⟨⟨⟨hl, hv⟩, hp⟩, hh⟩ := hw
    refine ⟨r, ?_, ?_⟩
    · unfold State.front at hf
      split at hf
      · cases hf
      · rename_i r' hr'
        simp only [] at hf
        repeat' split at hf
        all_goals first | (cases hf; exact hr') | cases hf
    · intro d hd
      unfold State.writeOp
      rw [State.front_dict hd, hf]
      simp only [State.valueCheck_dict, hl, hv, orElse, State.behind]
      have hp' : ((s.withDict d).settings.readOnly && (s.withDict d).storesPersistent r idx sub) = false := hp
      have hg' : (s.withDict d).gasketOf r = none := hg
      cases hk : r.heldGroup idx with
      | none => simp only [hp', hg', Bool.false_eq_true, if_false, ite_self]
      | some g =>
        rw [hk] at hh
        have hd' : (s.withDict d).heldByOther c g = false := by rw [State.holdOf_dict hd]; simpa using hh
        simp only [hd', hp', hg', Bool.false_eq_true, if_false, ite_self]

theorem State.writes_admits {c : Caller} {idx sub : Nat} {v : Bytes} (h : s.writes c idx sub v = true) :
    s.admits c 2 (key idx sub) 0 = true := by
  simp only [State.writes, State.opens, Bool.and_eq_true] at h
  exact h.1.1

/-- A whole write that passes the checks of R112 has its object's own effect. -/
theorem State.writeBy_runs {c : Caller} {idx sub : Nat} {v : Bytes} (h : s.writes c idx sub v = true) :
    ∃ (d : Dict) (r : ObjRow), d.Alike s.dict ∧ s.rowAt idx sub = some r ∧
      s.writeBy c idx sub v = State.answer? ((s.withDict d).writeEffect c r idx sub v) c := by
  obtain ⟨r, hr, he⟩ := State.writeOp_runs h
  obtain ⟨d, hd, e⟩ := State.access_runs (State.writes_admits h) fun s => s.writeOp c idx sub v
  exact ⟨d, r, hd, hr, by rw [State.writeBy, e, he d hd]⟩

/-- A request that passes the checks of R112 reaches its port. -/
theorem State.transactBy_runs {c : Caller} {idx : Nat} {req : Bytes} (h : s.requests c idx req = true) :
    ∃ d : Dict, d.Alike s.dict ∧ s.transactBy c idx req = State.answer? ((s.withDict d).portOp c idx 0 req) c := by
  simp only [State.requests, State.opens, Bool.and_eq_true] at h
  obtain ⟨⟨ha, hg⟩, hw⟩ := h
  cases hf : s.front c .transact idx 0 with
  | error a => rw [hf] at hg; cases hg
  | ok r =>
    rw [hf] at hg hw
    simp only [Option.isNone_iff_eq_none] at hg hw
    obtain ⟨d, hd, e⟩ := State.access_runs ha fun s => s.transactOp c idx 0 req
    refine ⟨d, hd, ?_⟩
    rw [State.transactBy, e]
    congr 1
    unfold State.transactOp State.transactWith State.behind
    rw [State.front_dict hd, hf]
    have hg' : (s.withDict d).gasketOf r = none := hg
    simp only [hw, hg']

/-! ### Field by field: what an answer, and what follows a command, leave as the effect made it -/

@[simp] theorem State.withDict_now (s : State) (d : Dict) : (s.withDict d).now = s.now := rfl
@[simp] theorem State.withDict_silicon (s : State) (d : Dict) : (s.withDict d).silicon = s.silicon := rfl
@[simp] theorem State.withDict_cap (s : State) (d : Dict) : (s.withDict d).cap = s.cap := rfl
@[simp] theorem State.withDict_clash (s : State) (d : Dict) : (s.withDict d).clash = s.clash := rfl
@[simp] theorem State.withDict_islands (s : State) (d : Dict) : (s.withDict d).islands = s.islands := rfl
@[simp] theorem State.withDict_resets (s : State) (d : Dict) : (s.withDict d).resets = s.resets := rfl
@[simp] theorem State.withDict_health (s : State) (d : Dict) : (s.withDict d).health = s.health := rfl
@[simp] theorem State.withDict_settings (s : State) (d : Dict) : (s.withDict d).settings = s.settings := rfl
@[simp] theorem State.withDict_keys (s : State) (d : Dict) : (s.withDict d).keys = s.keys := rfl
@[simp] theorem State.withDict_flash (s : State) (d : Dict) : (s.withDict d).flash = s.flash := rfl
@[simp] theorem State.withDict_boot (s : State) (d : Dict) : (s.withDict d).boot = s.boot := rfl
@[simp] theorem State.withDict_comb (s : State) (d : Dict) : (s.withDict d).comb = s.comb := rfl
@[simp] theorem State.withDict_track (s : State) (d : Dict) : (s.withDict d).track = s.track := rfl
@[simp] theorem State.withDict_dev (s : State) (d : Dict) : (s.withDict d).dev = s.dev := rfl
@[simp] theorem State.withDict_base (s : State) (d : Dict) : (s.withDict d).base = s.base := rfl
@[simp] theorem State.withDict_rover (s : State) (d : Dict) : (s.withDict d).rover = s.rover := rfl
@[simp] theorem State.withDict_conf (s : State) (d : Dict) : (s.withDict d).conf = s.conf := rfl
@[simp] theorem State.withDict_stop (s : State) (d : Dict) : (s.withDict d).stop = s.stop := rfl
@[simp] theorem State.withDict_radio (s : State) (d : Dict) : (s.withDict d).radio = s.radio := rfl
@[simp] theorem State.withDict_tb (s : State) (d : Dict) : (s.withDict d).tb = s.tb := rfl
@[simp] theorem State.withDict_outs (s : State) (d : Dict) : (s.withDict d).outs = s.outs := rfl
@[simp] theorem State.withDict_caps (s : State) (d : Dict) : (s.withDict d).caps = s.caps := rfl
@[simp] theorem State.withDict_net (s : State) (d : Dict) : (s.withDict d).net = s.net := rfl
@[simp] theorem State.withDict_can (s : State) (d : Dict) : (s.withDict d).can = s.can := rfl
@[simp] theorem State.withDict_fabric (s : State) (d : Dict) : (s.withDict d).fabric = s.fabric := rfl
@[simp] theorem State.withDict_dram (s : State) (d : Dict) : (s.withDict d).dram = s.dram := rfl
@[simp] theorem State.withDict_log (s : State) (d : Dict) : (s.withDict d).log = s.log := rfl
@[simp] theorem State.withDict_out (s : State) (d : Dict) : (s.withDict d).out = s.out := rfl
@[simp] theorem State.withDict_free (s : State) (d : Dict) : (s.withDict d).free = s.free := rfl
@[simp] theorem State.withDict_pending (s : State) (d : Dict) : (s.withDict d).pending = s.pending := rfl
@[simp] theorem State.withDict_dict (s : State) (d : Dict) : (s.withDict d).dict = d := rfl

@[simp] theorem State.answer?_now (r : State × Option Ans) (c : Caller) : (State.answer? r c).now = r.1.now :=
  (State.answer?_same (pt := .now) (by decide) (by decide) r.1 r c).mpr rfl
@[simp] theorem State.answer?_silicon (r : State × Option Ans) (c : Caller) : (State.answer? r c).silicon = r.1.silicon :=
  (State.answer?_same (pt := .silicon) (by decide) (by decide) r.1 r c).mpr rfl
@[simp] theorem State.answer?_cap (r : State × Option Ans) (c : Caller) : (State.answer? r c).cap = r.1.cap :=
  (State.answer?_same (pt := .cap) (by decide) (by decide) r.1 r c).mpr rfl
@[simp] theorem State.answer?_clash (r : State × Option Ans) (c : Caller) : (State.answer? r c).clash = r.1.clash :=
  (State.answer?_same (pt := .clash) (by decide) (by decide) r.1 r c).mpr rfl
@[simp] theorem State.answer?_islands (r : State × Option Ans) (c : Caller) : (State.answer? r c).islands = r.1.islands :=
  (State.answer?_same (pt := .islands) (by decide) (by decide) r.1 r c).mpr rfl
@[simp] theorem State.answer?_resets (r : State × Option Ans) (c : Caller) : (State.answer? r c).resets = r.1.resets :=
  (State.answer?_same (pt := .resets) (by decide) (by decide) r.1 r c).mpr rfl
@[simp] theorem State.answer?_health (r : State × Option Ans) (c : Caller) : (State.answer? r c).health = r.1.health :=
  (State.answer?_same (pt := .health) (by decide) (by decide) r.1 r c).mpr rfl
@[simp] theorem State.answer?_settings (r : State × Option Ans) (c : Caller) : (State.answer? r c).settings = r.1.settings :=
  (State.answer?_same (pt := .settings) (by decide) (by decide) r.1 r c).mpr rfl
@[simp] theorem State.answer?_keys (r : State × Option Ans) (c : Caller) : (State.answer? r c).keys = r.1.keys :=
  (State.answer?_same (pt := .keys) (by decide) (by decide) r.1 r c).mpr rfl
@[simp] theorem State.answer?_flash (r : State × Option Ans) (c : Caller) : (State.answer? r c).flash = r.1.flash :=
  (State.answer?_same (pt := .flash) (by decide) (by decide) r.1 r c).mpr rfl
@[simp] theorem State.answer?_boot (r : State × Option Ans) (c : Caller) : (State.answer? r c).boot = r.1.boot :=
  (State.answer?_same (pt := .boot) (by decide) (by decide) r.1 r c).mpr rfl
@[simp] theorem State.answer?_comb (r : State × Option Ans) (c : Caller) : (State.answer? r c).comb = r.1.comb :=
  (State.answer?_same (pt := .comb) (by decide) (by decide) r.1 r c).mpr rfl
@[simp] theorem State.answer?_track (r : State × Option Ans) (c : Caller) : (State.answer? r c).track = r.1.track :=
  (State.answer?_same (pt := .track) (by decide) (by decide) r.1 r c).mpr rfl
@[simp] theorem State.answer?_dev (r : State × Option Ans) (c : Caller) : (State.answer? r c).dev = r.1.dev :=
  (State.answer?_same (pt := .dev) (by decide) (by decide) r.1 r c).mpr rfl
@[simp] theorem State.answer?_base (r : State × Option Ans) (c : Caller) : (State.answer? r c).base = r.1.base :=
  (State.answer?_same (pt := .base) (by decide) (by decide) r.1 r c).mpr rfl
@[simp] theorem State.answer?_rover (r : State × Option Ans) (c : Caller) : (State.answer? r c).rover = r.1.rover :=
  (State.answer?_same (pt := .rover) (by decide) (by decide) r.1 r c).mpr rfl
@[simp] theorem State.answer?_conf (r : State × Option Ans) (c : Caller) : (State.answer? r c).conf = r.1.conf :=
  (State.answer?_same (pt := .conf) (by decide) (by decide) r.1 r c).mpr rfl
@[simp] theorem State.answer?_stop (r : State × Option Ans) (c : Caller) : (State.answer? r c).stop = r.1.stop :=
  (State.answer?_same (pt := .stop) (by decide) (by decide) r.1 r c).mpr rfl
@[simp] theorem State.answer?_radio (r : State × Option Ans) (c : Caller) : (State.answer? r c).radio = r.1.radio :=
  (State.answer?_same (pt := .radio) (by decide) (by decide) r.1 r c).mpr rfl
@[simp] theorem State.answer?_tb (r : State × Option Ans) (c : Caller) : (State.answer? r c).tb = r.1.tb :=
  (State.answer?_same (pt := .tb) (by decide) (by decide) r.1 r c).mpr rfl
@[simp] theorem State.answer?_outs (r : State × Option Ans) (c : Caller) : (State.answer? r c).outs = r.1.outs :=
  (State.answer?_same (pt := .outs) (by decide) (by decide) r.1 r c).mpr rfl
@[simp] theorem State.answer?_caps (r : State × Option Ans) (c : Caller) : (State.answer? r c).caps = r.1.caps :=
  (State.answer?_same (pt := .caps) (by decide) (by decide) r.1 r c).mpr rfl
@[simp] theorem State.answer?_net (r : State × Option Ans) (c : Caller) : (State.answer? r c).net = r.1.net :=
  (State.answer?_same (pt := .net) (by decide) (by decide) r.1 r c).mpr rfl
@[simp] theorem State.answer?_can (r : State × Option Ans) (c : Caller) : (State.answer? r c).can = r.1.can :=
  (State.answer?_same (pt := .can) (by decide) (by decide) r.1 r c).mpr rfl
@[simp] theorem State.answer?_log (r : State × Option Ans) (c : Caller) : (State.answer? r c).log = r.1.log :=
  (State.answer?_same (pt := .log) (by decide) (by decide) r.1 r c).mpr rfl
@[simp] theorem State.answer?_free (r : State × Option Ans) (c : Caller) : (State.answer? r c).free = r.1.free :=
  (State.answer?_same (pt := .free) (by decide) (by decide) r.1 r c).mpr rfl
@[simp] theorem State.answer?_pending (r : State × Option Ans) (c : Caller) : (State.answer? r c).pending = r.1.pending :=
  (State.answer?_same (pt := .pending) (by decide) (by decide) r.1 r c).mpr rfl
@[simp] theorem State.answer?_fabric (r : State × Option Ans) (c : Caller) : (State.answer? r c).fabric = r.1.fabric := by
  unfold State.answer? State.answer
  (repeat' split) <;> rfl
@[simp] theorem State.answer?_dram (r : State × Option Ans) (c : Caller) : (State.answer? r c).dram = r.1.dram :=
  (State.answer?_same (pt := .dram) (by decide) (by decide) r.1 r c).mpr rfl

@[simp] theorem State.run_cap (s : State) (t : Nat) (body : State → State) : (s.run t body).cap = (body (s.advance t)).cap :=
  (State.run_same (pt := .cap) (by decide) (by decide) (by decide) (by decide) (by decide) (by decide) (body (s.advance t)) s t body).mpr rfl
@[simp] theorem State.run_clash (s : State) (t : Nat) (body : State → State) : (s.run t body).clash = (body (s.advance t)).clash :=
  (State.run_same (pt := .clash) (by decide) (by decide) (by decide) (by decide) (by decide) (by decide) (body (s.advance t)) s t body).mpr rfl
@[simp] theorem State.run_islands (s : State) (t : Nat) (body : State → State) : (s.run t body).islands = (body (s.advance t)).islands :=
  (State.run_same (pt := .islands) (by decide) (by decide) (by decide) (by decide) (by decide) (by decide) (body (s.advance t)) s t body).mpr rfl
@[simp] theorem State.run_resets (s : State) (t : Nat) (body : State → State) : (s.run t body).resets = (body (s.advance t)).resets :=
  (State.run_same (pt := .resets) (by decide) (by decide) (by decide) (by decide) (by decide) (by decide) (body (s.advance t)) s t body).mpr rfl
@[simp] theorem State.run_health (s : State) (t : Nat) (body : State → State) : (s.run t body).health = (body (s.advance t)).health :=
  (State.run_same (pt := .health) (by decide) (by decide) (by decide) (by decide) (by decide) (by decide) (body (s.advance t)) s t body).mpr rfl
@[simp] theorem State.run_settings (s : State) (t : Nat) (body : State → State) : (s.run t body).settings = (body (s.advance t)).settings :=
  (State.run_same (pt := .settings) (by decide) (by decide) (by decide) (by decide) (by decide) (by decide) (body (s.advance t)) s t body).mpr rfl
@[simp] theorem State.run_keys (s : State) (t : Nat) (body : State → State) : (s.run t body).keys = (body (s.advance t)).keys :=
  (State.run_same (pt := .keys) (by decide) (by decide) (by decide) (by decide) (by decide) (by decide) (body (s.advance t)) s t body).mpr rfl
@[simp] theorem State.run_dram (s : State) (t : Nat) (body : State → State) : (s.run t body).dram = (body (s.advance t)).dram :=
  (State.run_same (pt := .dram) (by decide) (by decide) (by decide) (by decide) (by decide) (by decide) (body (s.advance t)) s t body).mpr rfl
@[simp] theorem State.run_flash (s : State) (t : Nat) (body : State → State) : (s.run t body).flash = (body (s.advance t)).flash :=
  (State.run_same (pt := .flash) (by decide) (by decide) (by decide) (by decide) (by decide) (by decide) (body (s.advance t)) s t body).mpr rfl
@[simp] theorem State.run_boot (s : State) (t : Nat) (body : State → State) : (s.run t body).boot = (body (s.advance t)).boot :=
  (State.run_same (pt := .boot) (by decide) (by decide) (by decide) (by decide) (by decide) (by decide) (body (s.advance t)) s t body).mpr rfl
@[simp] theorem State.run_comb (s : State) (t : Nat) (body : State → State) : (s.run t body).comb = (body (s.advance t)).comb :=
  (State.run_same (pt := .comb) (by decide) (by decide) (by decide) (by decide) (by decide) (by decide) (body (s.advance t)) s t body).mpr rfl
@[simp] theorem State.run_track (s : State) (t : Nat) (body : State → State) : (s.run t body).track = (body (s.advance t)).track :=
  (State.run_same (pt := .track) (by decide) (by decide) (by decide) (by decide) (by decide) (by decide) (body (s.advance t)) s t body).mpr rfl
@[simp] theorem State.run_dev (s : State) (t : Nat) (body : State → State) : (s.run t body).dev = (body (s.advance t)).dev :=
  (State.run_same (pt := .dev) (by decide) (by decide) (by decide) (by decide) (by decide) (by decide) (body (s.advance t)) s t body).mpr rfl
@[simp] theorem State.run_base (s : State) (t : Nat) (body : State → State) : (s.run t body).base = (body (s.advance t)).base :=
  (State.run_same (pt := .base) (by decide) (by decide) (by decide) (by decide) (by decide) (by decide) (body (s.advance t)) s t body).mpr rfl
@[simp] theorem State.run_rover (s : State) (t : Nat) (body : State → State) : (s.run t body).rover = (body (s.advance t)).rover :=
  (State.run_same (pt := .rover) (by decide) (by decide) (by decide) (by decide) (by decide) (by decide) (body (s.advance t)) s t body).mpr rfl
@[simp] theorem State.run_conf (s : State) (t : Nat) (body : State → State) : (s.run t body).conf = (body (s.advance t)).conf :=
  (State.run_same (pt := .conf) (by decide) (by decide) (by decide) (by decide) (by decide) (by decide) (body (s.advance t)) s t body).mpr rfl
@[simp] theorem State.run_stop (s : State) (t : Nat) (body : State → State) : (s.run t body).stop = (body (s.advance t)).stop :=
  (State.run_same (pt := .stop) (by decide) (by decide) (by decide) (by decide) (by decide) (by decide) (body (s.advance t)) s t body).mpr rfl
@[simp] theorem State.run_radio (s : State) (t : Nat) (body : State → State) : (s.run t body).radio = (body (s.advance t)).radio :=
  (State.run_same (pt := .radio) (by decide) (by decide) (by decide) (by decide) (by decide) (by decide) (body (s.advance t)) s t body).mpr rfl
@[simp] theorem State.run_tb (s : State) (t : Nat) (body : State → State) : (s.run t body).tb = (body (s.advance t)).tb :=
  (State.run_same (pt := .tb) (by decide) (by decide) (by decide) (by decide) (by decide) (by decide) (body (s.advance t)) s t body).mpr rfl
@[simp] theorem State.run_outs (s : State) (t : Nat) (body : State → State) : (s.run t body).outs = (body (s.advance t)).outs :=
  (State.run_same (pt := .outs) (by decide) (by decide) (by decide) (by decide) (by decide) (by decide) (body (s.advance t)) s t body).mpr rfl
@[simp] theorem State.run_caps (s : State) (t : Nat) (body : State → State) : (s.run t body).caps = (body (s.advance t)).caps :=
  (State.run_same (pt := .caps) (by decide) (by decide) (by decide) (by decide) (by decide) (by decide) (body (s.advance t)) s t body).mpr rfl
@[simp] theorem State.run_net (s : State) (t : Nat) (body : State → State) : (s.run t body).net = (body (s.advance t)).net :=
  (State.run_same (pt := .net) (by decide) (by decide) (by decide) (by decide) (by decide) (by decide) (body (s.advance t)) s t body).mpr rfl
@[simp] theorem State.run_can (s : State) (t : Nat) (body : State → State) : (s.run t body).can = (body (s.advance t)).can :=
  (State.run_same (pt := .can) (by decide) (by decide) (by decide) (by decide) (by decide) (by decide) (body (s.advance t)) s t body).mpr rfl
@[simp] theorem State.run_log (s : State) (t : Nat) (body : State → State) : (s.run t body).log = (body (s.advance t)).log :=
  (State.run_same (pt := .log) (by decide) (by decide) (by decide) (by decide) (by decide) (by decide) (body (s.advance t)) s t body).mpr rfl
@[simp] theorem State.run_free (s : State) (t : Nat) (body : State → State) : (s.run t body).free = (body (s.advance t)).free :=
  (State.run_same (pt := .free) (by decide) (by decide) (by decide) (by decide) (by decide) (by decide) (body (s.advance t)) s t body).mpr rfl
/-- The Fabric island, but for requests and replies of the applet partition. -/
theorem State.run_core (s : State) (t : Nat) (body : State → State) : (s.run t body).fabric.core = (body (s.advance t)).fabric.core :=
  (State.run_same (pt := .fabric) (by decide) (by decide) (by decide) (by decide) (by decide) (by decide) (body (s.advance t)) s t body).mpr rfl
@[simp] theorem State.run_brood (s : State) (t : Nat) (body : State → State) : (s.run t body).fabric.brood = (body (s.advance t)).fabric.brood := by
  have h := congrArg Fabric.brood (State.run_core s t body); exact h
@[simp] theorem State.run_readyNext (s : State) (t : Nat) (body : State → State) : (s.run t body).fabric.readyNext = (body (s.advance t)).fabric.readyNext := by
  have h := congrArg Fabric.readyNext (State.run_core s t body); exact h
@[simp] theorem State.run_harts (s : State) (t : Nat) (body : State → State) : (s.run t body).fabric.harts = (body (s.advance t)).fabric.harts := by
  have h := congrArg Fabric.harts (State.run_core s t body); exact h
@[simp] theorem State.run_fetchNext (s : State) (t : Nat) (body : State → State) : (s.run t body).fabric.fetchNext = (body (s.advance t)).fabric.fetchNext := by
  have h := congrArg Fabric.fetchNext (State.run_core s t body); exact h
@[simp] theorem State.run_queues (s : State) (t : Nat) (body : State → State) : (s.run t body).fabric.queues = (body (s.advance t)).fabric.queues := by
  have h := congrArg Fabric.queues (State.run_core s t body); exact h
@[simp] theorem State.run_pktNext (s : State) (t : Nat) (body : State → State) : (s.run t body).fabric.pktNext = (body (s.advance t)).fabric.pktNext := by
  have h := congrArg Fabric.pktNext (State.run_core s t body); exact h
@[simp] theorem State.run_stray (s : State) (t : Nat) (body : State → State) : (s.run t body).fabric.stray = (body (s.advance t)).fabric.stray := by
  have h := congrArg Fabric.stray (State.run_core s t body); exact h
@[simp] theorem State.run_lost (s : State) (t : Nat) (body : State → State) : (s.run t body).fabric.lost = (body (s.advance t)).fabric.lost := by
  have h := congrArg Fabric.lost (State.run_core s t body); exact h
@[simp] theorem State.run_appBase (s : State) (t : Nat) (body : State → State) : (s.run t body).fabric.appBase = (body (s.advance t)).fabric.appBase := by
  have h := congrArg Fabric.appBase (State.run_core s t body); exact h
@[simp] theorem State.run_appCount (s : State) (t : Nat) (body : State → State) : (s.run t body).fabric.appCount = (body (s.advance t)).fabric.appCount := by
  have h := congrArg Fabric.appCount (State.run_core s t body); exact h
@[simp] theorem State.run_bundle (s : State) (t : Nat) (body : State → State) : (s.run t body).fabric.bundle = (body (s.advance t)).fabric.bundle := by
  have h := congrArg Fabric.bundle (State.run_core s t body); exact h
@[simp] theorem State.run_events (s : State) (t : Nat) (body : State → State) : (s.run t body).fabric.events = (body (s.advance t)).fabric.events := by
  have h := congrArg Fabric.events (State.run_core s t body); exact h
@[simp] theorem State.run_tokenNext (s : State) (t : Nat) (body : State → State) : (s.run t body).fabric.tokenNext = (body (s.advance t)).fabric.tokenNext := by
  have h := congrArg Fabric.tokenNext (State.run_core s t body); exact h

/-! ### What was sent stays sent -/

theorem State.flushSession_out (s : State) (i : Nat) : ∃ l, (s.flushSession i).out = l ++ s.out := by
  unfold State.flushSession
  split
  · exact ⟨[], rfl⟩
  · exact ⟨_, rfl⟩

theorem State.flush_out (s : State) : ∃ l, s.flush.out = l ++ s.out := by
  have key : ∀ (l : Tbl Session) (x : State), ∃ o, (l.foldl (fun s e => s.flushSession e.1) x).out = o ++ x.out := by
    intro l
    induction l with
    | nil => intro x; exact ⟨[], rfl⟩
    | cons e l ih =>
      intro x
      obtain ⟨o, ho⟩ := ih (x.flushSession e.1)
      obtain ⟨o', ho'⟩ := x.flushSession_out e.1
      exact ⟨o ++ o', by rw [List.foldl_cons, ho, ho', List.append_assoc]⟩
  exact key s.dict.sessions s

theorem State.run_out (s : State) (t : Nat) (body : State → State) : ∃ l, (s.run t body).out = l ++ (body (s.advance t)).out := by
  obtain ⟨l, hl⟩ := State.flush_out (body (s.advance t)).stamp
  exact ⟨l, hl⟩

/-- What an effect sends has left when the command ends. -/
theorem State.run_sends {s : State} {t : Nat} {body : State → State} {o : Out} (h : o ∈ (body (s.advance t)).out) : o ∈ (s.run t body).out := by
  obtain ⟨l, hl⟩ := State.run_out s t body
  rw [hl]
  exact List.mem_append_right _ h

end Sys2Proof.Machine
end

