-- ==== Sys2Proof/Laws/Answers.lean ====
section
/-!
SUPPORT. Responses: every outbox is empty after a command, and the answer to a session's new request has been sent and is kept.
-/

namespace Sys2Proof.Machine

theorem Tbl.get?_mem {α : Type} {t : Tbl α} {k : Nat} {v : α} (h : Tbl.get? t k = some v) : (k, v) ∈ t := by
  induction t with
  | nil => cases h
  | cons x t ih =>
    obtain ⟨j, w⟩ := x
    simp only [Tbl.get?] at h
    split at h
    · rename_i e; subst e; cases h; exact List.mem_cons_self
    · exact List.mem_cons_of_mem _ (ih h)

/-! ### Outboxes -/

theorem State.flushSession_up (s : State) (i : Nat) (j : Island) : (s.flushSession i).up j = s.up j := by
  unfold State.flushSession
  split <;> rfl

theorem Tbl.upd_none {α : Type} {l : Tbl α} {i : Nat} (f : α → α) (h : Tbl.get? l i = none) : l = Tbl.upd l i f := by
  induction l with
  | nil => rfl
  | cons x l ih =>
    simp only [Tbl.get?] at h
    split at h
    · cases h
    · rename_i hne
      simp only [Tbl.upd, List.map_cons, if_neg hne]
      exact congrArg _ (ih h)

/-- While the Network island passes signals, the responses of a session leave; while it does not, they wait. -/
theorem State.flushSession_sessions (s : State) (i : Nat) :
    if s.up .network then ∃ g n, (s.flushSession i).dict.sessions = Tbl.upd s.dict.sessions i fun y => y.flushed g n
    else s.flushSession i = s := by
  unfold State.flushSession
  split
  · rename_i hu
    simp only [hu, if_true]
    split
    · rename_i h
      exact ⟨s.genOf, 0, Tbl.upd_none _ h⟩
    · exact ⟨_, _, rfl⟩
  · rename_i hu
    simp only [hu, Bool.false_eq_true, if_false]

theorem State.flushSession_mem {s : State} (hu : s.up .network = true) {i : Nat} {e : Nat × Session}
    (h : e ∈ (s.flushSession i).dict.sessions) :
    ∃ f ∈ s.dict.sessions, f.1 = e.1 ∧ (e.1 ≠ i → e = f) ∧ (e.1 = i → e.2.outbox = []) ∧ (f.2.outbox = [] → e.2.outbox = []) := by
  have hg := s.flushSession_sessions i
  rw [if_pos hu] at hg
  obtain ⟨g, n, hg⟩ := hg
  rw [hg] at h
  simp only [Tbl.upd, List.mem_map] at h
  obtain ⟨f, hf, rfl⟩ := h
  refine ⟨f, hf, ?_⟩
  split
  · rename_i hi; exact ⟨rfl, fun hne => absurd hi hne, fun _ => rfl, fun _ => rfl⟩
  · rename_i hi; exact ⟨rfl, fun _ => rfl, fun he => absurd he hi, fun hb => hb⟩

theorem State.flush_up (l : Tbl Session) (s : State) (j : Island) : (l.foldl (fun s e => s.flushSession e.1) s).up j = s.up j := by
  induction l generalizing s with
  | nil => rfl
  | cons x l ih => exact (ih _).trans (s.flushSession_up _ _)

/-- After the outboxes of the keys in `l` have left, the entry of every such key has an empty outbox. -/
theorem State.flush_keys (l : Tbl Session) (s : State) (hu : s.up .network = true) :
    ∀ e ∈ (l.foldl (fun s e => s.flushSession e.1) s).dict.sessions,
      (∃ f ∈ s.dict.sessions, f.1 = e.1 ∧ (f.2.outbox = [] → e.2.outbox = [])) ∧ ((∃ k ∈ l, k.1 = e.1) → e.2.outbox = []) := by
  induction l generalizing s with
  | nil => intro e he; exact ⟨⟨e, he, rfl, id⟩, fun ⟨k, hk, _⟩ => absurd hk (by simp)⟩
  | cons x l ih =>
    intro e he
    obtain ⟨⟨f, hf, h1, h2⟩, h3⟩ := ih (s.flushSession x.1) ((s.flushSession_up _ _).trans hu) e he
    obtain ⟨g, hg, k1, k2, k3, k4⟩ := State.flushSession_mem hu hf
    refine ⟨⟨g, hg, k1.trans h1, fun hb => h2 (k4 hb)⟩, ?_⟩
    rintro ⟨k, hk, hke⟩
    rcases List.mem_cons.mp hk with rfl | hk
    · exact h2 (k3 (h1.trans hke.symm))
    · exact h3 ⟨k, hk, hke⟩

/-- Every outbox is empty after a command, while the Network island passes signals (R132, R54). -/
theorem State.run_quiet (s : State) (t : Nat) (body : State → State) : (s.run t body).quiet := by
  refine ⟨?_, rfl⟩
  intro hu e he
  have hu' : (body (s.advance t)).stamp.up .network = true := by
    rw [← State.flush_up (body (s.advance t)).stamp.dict.sessions]
    exact hu
  obtain ⟨⟨f, hf, h1, -⟩, h2⟩ := State.flush_keys _ (body (s.advance t)).stamp hu' e he
  exact h2 ⟨f, hf, h1⟩

/-! ### The answer to a new request -/

/-- Of the responses that have left, the session keeps none to the request. -/
def Session.newTo (y : Session) (f : InFlight) : Prop := ({ y with outbox := [] } : Session).keptFor f = none

/-- Where one request of a session stands: its record waits to leave, or has left and is kept. -/
def Session.holds (y : Session) (f : InFlight) (b : Bytes) : Prop :=
  (y.outbox = [.built f true b] ∧ y.newTo f) ∨ (y.outbox = [] ∧ y.kept.length ≤ 64 ∧ y.keptFor f = some b)

theorem Session.newTo_of_empty {y : Session} {f : InFlight} (ho : y.outbox = []) (hk : y.keptFor f = none) : y.newTo f := by
  unfold Session.newTo Session.keptFor
  unfold Session.keptFor at hk
  rw [ho] at hk
  exact hk

/-- Waiting or sent, a record is the one the session answers the same request with. -/
theorem Session.holds_kept {y : Session} {f : InFlight} {b : Bytes} (h : y.holds f b) : y.keptFor f = some b := by
  rcases h with ⟨ho, -⟩ | ⟨-, -, h⟩
  · unfold Session.keptFor
    rw [ho]
    simp [OutRec.build]
  · exact h

theorem keepLast_length (l : List Kept) : (keepLast l).length ≤ 64 := by simp only [keepLast, List.length_drop]; omega

theorem keepLast_self {l : List Kept} (h : l.length ≤ 64) : keepLast l = l := by
  unfold keepLast
  rw [Nat.sub_eq_zero_of_le h, List.drop_zero]

theorem Session.flushed_holds {y : Session} {f : InFlight} {b : Bytes} (g : Nat → Nat) (n : Nat) (h : y.holds f b) :
    (y.flushed g n).holds f b := by
  refine .inr ⟨rfl, keepLast_length _, ?_⟩
  rcases h with ⟨ho, hk⟩ | ⟨ho, hl, hk⟩
  · simp only [Session.newTo, Session.keptFor, List.find?_nil, Option.map_eq_none_iff] at hk
    simp only [Session.flushed, ho, Session.keptFor, List.filterMap_cons, OutRec.kept, List.filterMap_nil, keepLast, List.find?_nil]
    have hd : ∀ k, (y.kept.drop k).find? (fun k => k.req = f.req && k.opcode = f.opcode && k.key = f.key && k.offset = f.offset) = none := by
      intro k
      rw [List.find?_eq_none] at hk ⊢
      exact fun x hx => hk x (List.mem_of_mem_drop hx)
    have hz : y.kept.length + [(⟨f.req, f.opcode, f.key, f.offset, b⟩ : Kept)].length - 64 - y.kept.length = 0 := by simp
    rw [List.length_append, List.drop_append, List.find?_append, hd, hz]
    simp
  · simp only [Session.flushed, ho, List.filterMap_nil, List.append_nil, keepLast_self hl, Session.keptFor] at hk ⊢
    exact hk

theorem State.flushSession_get (s : State) (i j : Nat) :
    ∃ e : Session → Session, (e = id ∨ ∃ g n, e = fun y => y.flushed g n) ∧
      Tbl.get? (s.flushSession j).dict.sessions i = (Tbl.get? s.dict.sessions i).map e := by
  have h := s.flushSession_sessions j
  split at h
  · obtain ⟨g, n, h⟩ := h
    rw [h, Tbl.get?_upd]
    split
    · exact ⟨_, .inr ⟨g, n, rfl⟩, rfl⟩
    · exact ⟨id, .inl rfl, by simp⟩
  · rw [h]
    exact ⟨id, .inl rfl, by simp⟩

theorem State.flush_holds (l : Tbl Session) (s : State) (i : Nat) {x : Session} {f : InFlight} {b : Bytes}
    (hx : Tbl.get? s.dict.sessions i = some x) (hh : x.holds f b) :
    ∃ y, Tbl.get? (l.foldl (fun s e => s.flushSession e.1) s).dict.sessions i = some y ∧ y.holds f b := by
  induction l generalizing s x with
  | nil => exact ⟨x, hx, hh⟩
  | cons e l ih =>
    obtain ⟨m, hm, he⟩ := s.flushSession_get i e.1
    rw [hx] at he
    rcases hm with rfl | ⟨g, n, rfl⟩
    · exact ih (s.flushSession e.1) he hh
    · exact ih (s.flushSession e.1) he (Session.flushed_holds g n hh)

/-- A record of a new request leaves with the command, or waits to leave, and its response is kept. -/
theorem State.run_built {s : State} {t i : Nat} {body : State → State} {x : Session} {f : InFlight} {b : (Nat → Nat) → Bytes}
    (hx : Tbl.get? (body (s.advance t)).dict.sessions i = some x)
    (ho : ∀ g, x.outbox.map (OutRec.fill g) = [.built f true (b g)]) (hk : x.newTo f) :
    ∃ y g, Tbl.get? (s.run t body).dict.sessions i = some y ∧ y.keptFor f = some (b g) := by
  let v := (body (s.advance t)).countGens
  have hv : Tbl.get? v.fillAll.dict.sessions i = some { x with outbox := x.outbox.map (OutRec.fill v.genOf) } := by
    refine (Tbl.get?_map v.dict.sessions i fun y : Session => { y with outbox := y.outbox.map (OutRec.fill v.genOf) }).trans ?_
    have : Tbl.get? v.dict.sessions i = some x := hx
    rw [this]; rfl
  obtain ⟨y, h1, h2⟩ := State.flush_holds v.fillAll.dict.sessions v.fillAll i (f := f) (b := b v.genOf) hv (.inl ⟨ho _, hk⟩)
  exact ⟨y, v.genOf, h1, Session.holds_kept h2⟩

/-- A record that answers a new request leaves with the command, or waits to leave, and its response is kept. -/
theorem State.run_answered {s : State} {t i : Nat} {body : State → State} {x : Session} {f : InFlight} {a : Ans}
    (hx : Tbl.get? (body (s.advance t)).dict.sessions i = some x) (ho : x.outbox = [.resp f a true]) (hk : x.newTo f) :
    (s.run t body).answered i f a := by
  obtain ⟨y, g, h1, h2⟩ := State.run_built (b := fun g => respRecord f a (g f.key)) hx (fun g => by simp [ho, OutRec.fill]) hk
  exact ⟨y, g f.key, h1, h2⟩

theorem State.setSession_get (s : State) (i j : Nat) (f : Session → Session) :
    Tbl.get? (s.setSession j f).dict.sessions i = if i = j then (Tbl.get? s.dict.sessions i).map f else Tbl.get? s.dict.sessions i :=
  Tbl.get?_upd _ _ _ _

/-- A field of a session that responses do not touch is after a command as its effect left it. -/
theorem State.run_field {α : Type} (f : Session → α) (h1 : ∀ x o, f { x with outbox := o } = f x) (h2 : ∀ x g n, f (x.flushed g n) = f x)
    (s : State) (t i : Nat) (body : State → State) :
    (Tbl.get? (s.run t body).dict.sessions i).map f = (Tbl.get? (body (s.advance t)).dict.sessions i).map f := by
  have hf (l : Tbl Session) (x : State) :
      (Tbl.get? (l.foldl (fun s e => s.flushSession e.1) x).dict.sessions i).map f = (Tbl.get? x.dict.sessions i).map f := by
    induction l generalizing x with
    | nil => rfl
    | cons e l ih =>
      rw [List.foldl_cons, ih]
      obtain ⟨m, hm, he⟩ := x.flushSession_get i e.1
      rw [he]
      rcases hm with rfl | ⟨g, n, rfl⟩ <;> cases Tbl.get? x.dict.sessions i <;> simp [h2]
  let v := (body (s.advance t)).countGens
  refine (hf v.fillAll.dict.sessions v.fillAll).trans ?_
  have hv : Tbl.get? v.fillAll.dict.sessions i = (Tbl.get? v.dict.sessions i).map fun y => { y with outbox := y.outbox.map (OutRec.fill v.genOf) } :=
    Tbl.get?_map v.dict.sessions i fun y : Session => ({ y with outbox := y.outbox.map (OutRec.fill v.genOf) } : Session)
  rw [hv]
  show _ = (Tbl.get? v.dict.sessions i).map f
  cases Tbl.get? v.dict.sessions i <;> simp [h1]

/-- Which sessions there are is after a command as its effect left it. -/
theorem State.run_none {s : State} {t i : Nat} {body : State → State} (h : Tbl.get? (body (s.advance t)).dict.sessions i = none) :
    Tbl.get? (s.run t body).dict.sessions i = none := by
  have := State.run_field (fun _ => ()) (fun _ _ => rfl) (fun _ _ _ => rfl) s t i body
  rw [h] at this
  simpa using this

/-- A request of a session that passes check 1, and whose effect leaves the session alone but for `g`, is answered. -/
theorem State.access_changes {s : State} {i r opcode k off : Nat} {body : State → State × Option Ans} {a : Ans}
    (h : s.admits (.coil i r) opcode k off = true) (g : Session → Session)
    (hg : ∀ y, (g y).outbox = y.outbox ∧ (g y).flight = y.flight ∧ (g y).kept = y.kept)
    (hb : ∀ d : Dict, d.Alike s.dict → Tbl.get? (body (s.withDict d)).1.dict.sessions i = (Tbl.get? d.sessions i).map g ∧
      (body (s.withDict d)).2 = some a) :
    ∃ x x₀ y : Session, Tbl.get? (s.access (.coil i r) opcode k off body).dict.sessions i = some x ∧
      x.outbox = [.resp { req := r, opcode := opcode, key := k, offset := off } a true] ∧
      x.newTo { req := r, opcode := opcode, key := k, offset := off } ∧
      Tbl.get? s.dict.sessions i = some x₀ ∧ y.core = x₀.core ∧ x.xfers = (g y).xfers ∧ x.subs = (g y).subs := by
  simp only [State.admits, Bool.and_eq_true, Option.isNone_iff_eq_none] at h
  obtain ⟨hsv, hon, hx⟩ := h
  cases hg0 : Tbl.get? s.dict.sessions i with
  | none => rw [hg0] at hx; cases hx
  | some x =>
    rw [hg0] at hx
    simp only [Session.takes, Bool.and_eq_true, Bool.not_eq_true', decide_eq_true_eq, Option.isNone_iff_eq_none] at hx
    obtain ⟨hn, ⟨⟨hk, hf⟩, hl⟩, he⟩ := hx
    have hs : x.nbr.isSome = false := by rw [hn]; rfl
    have hl' : ¬ 32 ≤ x.flight.length := by omega
    unfold State.access
    simp only [hsv]
    unfold State.served
    simp only [hg0, hon, hs, Bool.not_true, Bool.or_self, Bool.false_eq_true, if_false]
    unfold State.inSession
    simp only [hk, hf, Bool.false_eq_true, if_false, if_neg hl']
    obtain ⟨z, hz0⟩ : ∃ z, z = (s.setSession i fun y => { y with last := s.now }).onSession (.coil i r) fun y =>
      { y with flight := y.flight ++ [{ req := Caller.req (.coil i r), opcode := opcode, key := k, offset := off }] } := ⟨_, rfl⟩
    rw [← hz0]
    obtain ⟨d, hd, e⟩ := State.seen_touched z (.coil i r) k
    have hds : d.sessions = z.dict.sessions := by
      have h1 := congrArg (fun u : State => u.dict.sessions) e
      have h2 : ((z.touch k).seenBy (.coil i r) k).dict.sessions = z.dict.sessions := by
        show (z.touch k).dict.sessions = _
        unfold State.touch
        split <;> rfl
      exact h1.symm.trans h2
    have hda : d.Alike s.dict := by
      rw [hz0] at hd
      refine (hd.trans (Dict.alike_setSession _ _ _ ?_)).trans (Dict.alike_setSession s i _ ?_) <;> intro y <;> rfl
    obtain ⟨b1, b2⟩ := hb d hda
    have hz : Tbl.get? z.dict.sessions i = some { x with last := s.now, flight := x.flight ++ [{ req := r, opcode := opcode, key := k, offset := off }] } := by
      rw [hz0]
      unfold State.onSession
      simp only [State.setSession_get, hg0, Option.map_some, if_true, Caller.req]
    let y : Session := { x with last := s.now, flight := x.flight ++ [{ req := r, opcode := opcode, key := k, offset := off }] }
    have goal : Tbl.get? (State.answer? (body (s.withDict d)) (.coil i r)).dict.sessions i = some (Session.respond (g y) r a) := by
      unfold State.answer?
      simp only [b2, State.answer, State.setSession_get, b1, hds, hz, Option.map_some, if_true]
      rfl
    obtain ⟨g1, g2, g3⟩ := hg y
    have hfind : (g y).flight.find? (fun g => g.req = r) = some ⟨r, opcode, k, off⟩ := by
      rw [g2]
      show (x.flight ++ [(⟨r, opcode, k, off⟩ : InFlight)]).find? (fun g => g.req = r) = _
      rw [List.find?_append]
      have : x.flight.find? (fun g => decide (g.req = r)) = none := by
        rw [List.find?_eq_none]
        intro y hy
        rw [List.any_eq_false] at hf
        exact hf y hy
      rw [this]; simp
    have ez : z.withDict d = s.withDict d := by rw [hz0]; rfl
    rw [e, ez]
    refine ⟨_, x, y, goal, ?_, ?_, rfl, rfl, ?_, ?_⟩
    · unfold Session.respond
      rw [hfind]
      have : y.outbox = [] := by simpa using he
      simp [g1, this]
    · unfold Session.respond
      rw [hfind]
      have he' : x.outbox = [] := by simpa using he
      have hn := Session.newTo_of_empty he' hk
      unfold Session.newTo Session.keptFor at hn ⊢
      show Option.map _ ((g y).kept.find? _) = none
      rw [g3]
      exact hn
    · unfold Session.respond
      rw [hfind]
    · unfold Session.respond
      rw [hfind]

/-- A request of a session that passes check 1, and whose object's effect leaves the sessions alone, is answered. -/
theorem State.access_answers {s : State} {i r opcode k off : Nat} {body : State → State × Option Ans} {a : Ans}
    (h : s.admits (.coil i r) opcode k off = true)
    (hb : ∀ d : Dict, d.Alike s.dict → (body (s.withDict d)).1.dict.sessions = d.sessions ∧ (body (s.withDict d)).2 = some a) :
    ∃ x, Tbl.get? (s.access (.coil i r) opcode k off body).dict.sessions i = some x ∧
      x.outbox = [.resp { req := r, opcode := opcode, key := k, offset := off } a true] ∧
      x.newTo { req := r, opcode := opcode, key := k, offset := off } := by
  obtain ⟨x, -, -, h1, h2, h3, -⟩ := State.access_changes h (fun y => y) (fun _ => ⟨rfl, rfl, rfl⟩) fun d hd => by
    obtain ⟨k1, k2⟩ := hb d hd
    exact ⟨by rw [k1]; simp, k2⟩
  exact ⟨x, h1, h2, h3⟩

end Sys2Proof.Machine
end

