-- ==== Sys2Proof/Laws/Coil.lean ====
section
/-!
SUPPORT. What each operation of Coil datagrams can move: every part but those it names is as it was.
-/

namespace Sys2Proof.Machine

theorem State.coilClosed_same {pt : Part} (h0 : ¬ pt = .dict) (h1 : ¬ pt = .settings) (h2 : ¬ pt = .comb) (h3 : ¬ pt = .out) (a₀ : State) (s : State) (hdr : Bytes) (body : Sealed) : pt.same a₀ (State.coilClosed s hdr body) ↔ pt.same a₀ s := by
  unfold State.coilClosed
  (repeat' split) <;> simp [h0, h1, h2, h3, State.endSession_same, State.sendClose_same]

theorem State.coilIdle_same {pt : Part} (h0 : ¬ pt = .dict) (h1 : ¬ pt = .settings) (h2 : ¬ pt = .comb) (h3 : ¬ pt = .out) (a₀ : State) (s : State) (i : Nat) : pt.same a₀ (State.coilIdle s i) ↔ pt.same a₀ s := by
  unfold State.coilIdle
  (repeat' split) <;> simp [h0, h1, h2, h3, State.endSession_same, State.sendClose_same]

theorem State.hello_same {pt : Part} (h0 : ¬ pt = .dict) (h1 : ¬ pt = .log) (h2 : ¬ pt = .out) (h3 : ¬ pt = .free) (a₀ : State) (s : State) (raw : Bytes) : pt.same a₀ (State.hello s raw) ↔ pt.same a₀ s := by
  unfold State.hello
  (repeat' split) <;> simp [h0, h1, h2, h3, State.logEv_same, State.draw_same, State.drawBytes_same, State.emit_same]

theorem State.holdTimeout_same {pt : Part} (h0 : ¬ pt = .dict) (h1 : ¬ pt = .settings) (a₀ : State) (s : State) (g : Nat) : pt.same a₀ (State.holdTimeout s g) ↔ pt.same a₀ s := by
  unfold State.holdTimeout
  (repeat' split) <;> simp [h0, h1, State.dropHold_same]

theorem State.nbrOpen_same {pt : Part} (h0 : ¬ pt = .dict) (h1 : ¬ pt = .settings) (h2 : ¬ pt = .comb) (h3 : ¬ pt = .out) (a₀ : State) (s : State) (n : Nat) (raw : Bytes) : pt.same a₀ (State.nbrOpen s n raw) ↔ pt.same a₀ s := by
  unfold State.nbrOpen
  (repeat' split) <;> simp [h0, h1, h2, h3, State.endSession_same, State.setNbr_same, State.sendSync_same]

end Sys2Proof.Machine
end

