-- ==== Sys2Proof/Laws/DictCmds.lean ====
section
/-!
SUPPORT. What each operation of the dictionary rows can move: every part but those it names is as it was.
-/

namespace Sys2Proof.Machine

theorem State.usdoRead_same {pt : Part} (h0 : ¬ pt = .settings) (h1 : ¬ pt = .out) (h2 : ¬ pt = .free) (a₀ : State) (s : State) (port : Nat) (client : Nat) (idx : Nat) (sub : Nat) : pt.same a₀ (State.usdoRead s port client idx sub).1 ↔ pt.same a₀ s := by
  unfold State.usdoRead
  have h := State.readOp_same (by assumption) (by assumption) a₀ s (.usdo port client) idx sub false
  split <;> rename_i e <;> rw [e] at h
  · split
    · rw [State.emit_same (by assumption)]; exact h
    · exact h
  · exact h

theorem State.usdoWrite_same {pt : Part} (h0 : ¬ pt = .clash) (h1 : ¬ pt = .islands) (h2 : ¬ pt = .resets) (h3 : ¬ pt = .health) (h4 : ¬ pt = .dict) (h5 : ¬ pt = .settings) (h6 : ¬ pt = .keys) (h7 : ¬ pt = .boot) (h8 : ¬ pt = .comb) (h9 : ¬ pt = .track) (h10 : ¬ pt = .dev) (h11 : ¬ pt = .base) (h12 : ¬ pt = .rover) (h13 : ¬ pt = .conf) (h14 : ¬ pt = .stop) (h15 : ¬ pt = .radio) (h16 : ¬ pt = .tb) (h17 : ¬ pt = .outs) (h18 : ¬ pt = .caps) (h19 : ¬ pt = .net) (h20 : ¬ pt = .can) (h21 : ¬ pt = .fabric) (h22 : ¬ pt = .replies) (h23 : ¬ pt = .dram) (h24 : ¬ pt = .log) (h25 : ¬ pt = .out) (h26 : ¬ pt = .free) (a₀ : State) (s : State) (port : Nat) (client : Nat) (idx : Nat) (sub : Nat) (ty : CanType) (v : Bytes) : pt.same a₀ (State.usdoWrite s port client idx sub ty v).1 ↔ pt.same a₀ s := by
  unfold State.usdoWrite
  (repeat' split) <;> simp [h0, h1, h2, h3, h4, h5, h6, h7, h8, h9, h10, h11, h12, h13, h14, h15, h16, h17, h18, h19, h20, h21, h22, h23, h24, h25, h26, State.writeOp_same]

end Sys2Proof.Machine
end

