-- ==== Sys2Proof/Laws/Live.lean ====
section
/-!
SUPPORT. What the device gives an object to read does not depend on the dictionary service, where the object is none of the service's own.
-/

namespace Sys2Proof.Machine

theorem State.liveHealth_dict (s : State) (d : Dict) : State.liveHealth (s.withDict d) = State.liveHealth s := by
  have h0 : State.liveIsland (s.withDict d) = State.liveIsland s := rfl
  have h1 : State.blockIdle (s.withDict d) = State.blockIdle s := rfl
  funext idx sub
  unfold State.liveHealth
  rw [h0]
  rw [h1]
  simp only [State.withDict_resets, State.withDict_health, State.withDict_log]

theorem State.liveTime_dict (s : State) (d : Dict) : State.liveTime (s.withDict d) = State.liveTime s := by
  have h0 : State.timeOut (s.withDict d) = State.timeOut s := rfl
  have h1 : State.capIn (s.withDict d) = State.capIn s := rfl
  have h2 : State.time64 (s.withDict d) = State.time64 s := rfl
  have h3 : State.quality (s.withDict d) = State.quality s := rfl
  have h4 : State.errorBound (s.withDict d) = State.errorBound s := rfl
  have h5 : State.jumpPending (s.withDict d) = State.jumpPending s := rfl
  have h6 : State.utcAt (s.withDict d) = State.utcAt s := rfl
  funext idx sub
  unfold State.liveTime
  rw [h0]
  rw [h1]
  rw [h2]
  rw [h3]
  rw [h4]
  rw [h5]
  rw [h6]
  simp only [State.withDict_now, State.withDict_tb]
  (repeat' split) <;> first | rfl | simp_all

theorem State.liveEth_dict (s : State) (d : Dict) : State.liveEth (s.withDict d) = State.liveEth s := by
  have h0 : State.eth (s.withDict d) = State.eth s := rfl
  have h1 : State.macBase (s.withDict d) = State.macBase s := rfl
  have h2 : State.grandmaster (s.withDict d) = State.grandmaster s := rfl
  have h3 : State.clockClass (s.withDict d) = State.clockClass s := rfl
  funext idx sub
  unfold State.liveEth
  rw [h0]
  rw [h1]
  rw [h2]
  rw [h3]
  simp only [State.withDict_net]

theorem State.liveCan_dict (s : State) (d : Dict) : State.liveCan (s.withDict d) = State.liveCan s := by
  have h0 : State.canPort (s.withDict d) = State.canPort s := rfl
  funext idx sub
  unfold State.liveCan
  rw [h0]
  simp only [State.withDict_can]

theorem State.liveRadio_dict (s : State) (d : Dict) : State.liveRadio (s.withDict d) = State.liveRadio s := by
  have h0 : State.modemLinks (s.withDict d) = State.modemLinks s := rfl
  have h1 : State.airtime (s.withDict d) = State.airtime s := rfl
  have h2 : State.linkCap (s.withDict d) = State.linkCap s := rfl
  funext idx sub
  unfold State.liveRadio
  rw [h0]
  rw [h1]
  rw [h2]
  simp only [State.withDict_radio]

theorem State.liveTracking_dict (s : State) (d : Dict) : State.liveTracking (s.withDict d) = State.liveTracking s := by
  have h0 : State.port (s.withDict d) = State.port s := rfl
  have h1 : State.gsStatus (s.withDict d) = State.gsStatus s := rfl
  have h2 : State.trackLocked (s.withDict d) = State.trackLocked s := rfl
  have h3 : State.trackLatest (s.withDict d) = State.trackLatest s := rfl
  have h4 : State.devRate (s.withDict d) = State.devRate s := rfl
  have h5 : State.machineBudget (s.withDict d) = State.machineBudget s := rfl
  have h6 : State.agcPin (s.withDict d) = State.agcPin s := rfl
  funext idx sub
  unfold State.liveTracking
  rw [h0]
  rw [h1]
  rw [h2]
  rw [h3]
  rw [h4]
  rw [h5]
  rw [h6]
  simp only [State.withDict_track, State.withDict_dev]

theorem State.liveFixer_dict (s : State) (d : Dict) : State.liveFixer (s.withDict d) = State.liveFixer s := by
  have h0 : State.netState (s.withDict d) = State.netState s := rfl
  have h1 : State.roverRate (s.withDict d) = State.roverRate s := rfl
  funext idx
  unfold State.liveFixer
  rw [h0]
  rw [h1]
  simp only [State.withDict_base, State.withDict_rover]

theorem State.liveComb_dict (s : State) (d : Dict) : State.liveComb (s.withDict d) = State.liveComb s := by
  have h0 : State.ctime (s.withDict d) = State.ctime s := rfl
  have h1 : State.combCap (s.withDict d) = State.combCap s := rfl
  have h2 : State.combUsed (s.withDict d) = State.combUsed s := rfl
  have h3 : State.combLive (s.withDict d) = State.combLive s := rfl
  have h4 : State.bucketsFull (s.withDict d) = State.bucketsFull s := rfl
  have h5 : State.inFlight (s.withDict d) = State.inFlight s := rfl
  have h6 : State.ct (s.withDict d) = State.ct s := rfl
  have h7 : State.regionDigest (s.withDict d) = State.regionDigest s := rfl
  have h8 : State.nbr (s.withDict d) = State.nbr s := rfl
  funext idx sub
  unfold State.liveComb
  rw [h0]
  rw [h1]
  rw [h2]
  rw [h3]
  rw [h4]
  rw [h5]
  rw [h6]
  rw [h7]
  rw [h8]
  simp only [State.withDict_comb]

theorem State.liveStop_dict (s : State) (d : Dict) : State.liveStop (s.withDict d) = State.liveStop s := by
  have h0 : State.swarmUnacked (s.withDict d) = State.swarmUnacked s := rfl
  have h1 : State.armBytes (s.withDict d) = State.armBytes s := rfl
  have h2 : State.inService (s.withDict d) = State.inService s := rfl
  have h3 : State.inState (s.withDict d) = State.inState s := rfl
  have h4 : State.outState (s.withDict d) = State.outState s := rfl
  funext idx sub
  unfold State.liveStop
  rw [h0]
  rw [h1]
  rw [h2]
  rw [h3]
  rw [h4]
  simp only [State.withDict_conf, State.withDict_stop]

theorem State.liveFabric_dict (s : State) (d : Dict) : State.liveFabric (s.withDict d) = State.liveFabric s := by
  have h0 : State.readyTasks (s.withDict d) = State.readyTasks s := rfl
  funext idx sub
  unfold State.liveFabric
  rw [h0]
  simp only [State.withDict_fabric]

theorem State.liveMachine_dict (s : State) (d : Dict) : State.liveMachine (s.withDict d) = State.liveMachine s := by
  have h0 : State.liveTags (s.withDict d) = State.liveTags s := rfl
  have h1 : State.ct (s.withDict d) = State.ct s := rfl
  have h2 : State.roverSlot (s.withDict d) = State.roverSlot s := rfl
  have h3 : State.confSlot (s.withDict d) = State.confSlot s := rfl
  have h4 : State.liveLink (s.withDict d) = State.liveLink s := rfl
  funext idx sub
  unfold State.liveMachine
  rw [h0]
  rw [h1]
  rw [h2]
  rw [h3]
  rw [h4]
  simp only [State.withDict_comb, State.withDict_stop]

end Sys2Proof.Machine
end

