-- ==== Sys2Proof/Laws/Writes.lean ====
section
/-!
SUPPORT. Which effect a write has by the kind of its object: a commit, a shadow, a command or a stored value.
-/

namespace Sys2Proof.Machine

/-- Kinds of objects as a write meets them: 0 a commit object, 1 a shadow, 2 another wo object, 3 a stored value. -/
def ObjRow.kind (r : ObjRow) : Nat := if r.isCommit then 0 else if r.commit ≠ 0 && r.acc = 4 then 1 else if r.acc = 3 then 2 else 3

theorem State.row_device {s : State} {idx sub : Nat} {r : ObjRow} (h : s.rowAt idx sub = some r) (hi : idx < 0x6000 ∨ 0x7000 ≤ idx) :
    findObj idx sub = some r := by
  unfold State.rowAt at h
  rw [if_neg] at h
  · exact h
  · simp only [Bool.and_eq_true, decide_eq_true_eq]; omega

theorem not_applet {idx : Nat} (hi : idx < 0x6000 ∨ 0x7000 ≤ idx) : (decide (0x6000 ≤ idx) && decide (idx < 0x7000)) = false := by
  simp only [Bool.and_eq_false_iff, decide_eq_false_iff_not]; omega

theorem findObj_mem {idx sub : Nat} {r : ObjRow} (h : findObj idx sub = some r) : r ∈ objTable ∧ r.has idx sub = true :=
  ⟨List.mem_of_find?_eq_some h, List.find?_some (p := fun r : ObjRow => r.has idx sub) h⟩

variable {s : State} {c : Caller} {idx sub : Nat} {v : Bytes}

/-- The kind of an object a write may reach, where every row at its place is of one kind. -/
theorem kind_of {k : Nat} {r : ObjRow} (hk : ∀ r ∈ objTable, r.has idx sub = true → r.kind = k) (h : findObj idx sub = some r) : r.kind = k :=
  hk r (findObj_mem h).1 (findObj_mem h).2

theorem State.writeBy_commit (h : s.writes c idx sub v = true) (hi : idx < 0x6000 ∨ 0x7000 ≤ idx)
    (hk : ∀ r, findObj idx sub = some r → r.kind = 0) :
    ∃ d : Dict, d.Alike s.dict ∧ s.writeBy c idx sub v = State.answer? ((s.withDict d).commitGroup idx c) c := by
  obtain ⟨d, r, hd, hr, e⟩ := State.writeBy_runs h
  have hc := hk r (State.row_device hr hi)
  refine ⟨d, hd, ?_⟩
  rw [e]
  unfold ObjRow.kind at hc
  split at hc
  · rename_i h0
    unfold State.writeEffect State.commitAt
    simp only [h0, if_true, not_applet hi, Bool.false_eq_true, if_false]
  · (repeat' split at hc) <;> cases hc

theorem State.writeBy_shadow (h : s.writes c idx sub v = true) (hi : idx < 0x6000 ∨ 0x7000 ≤ idx)
    (hk : ∀ r, findObj idx sub = some r → r.kind = 1) :
    ∃ (d : Dict) (g : Nat), d.Alike s.dict ∧ s.writeBy c idx sub v
      = State.answer? (((((s.withDict d).takeHold c g).notCarried g).setVal (key idx sub) v), some (Ans.done [])) c := by
  obtain ⟨d, r, hd, hr, e⟩ := State.writeBy_runs h
  have hc := hk r (State.row_device hr hi)
  refine ⟨d, r.commitOf idx, hd, ?_⟩
  rw [e]
  unfold ObjRow.kind at hc
  split at hc
  · cases hc
  · rename_i h0
    split at hc
    · rename_i h1
      unfold State.writeEffect
      simp only [h0, h1, if_true, not_applet hi, Bool.false_eq_true, if_false]
    · split at hc <;> cases hc

theorem State.writeBy_command (h : s.writes c idx sub v = true) (hi : idx < 0x6000 ∨ 0x7000 ≤ idx)
    (hk : ∀ r, findObj idx sub = some r → r.kind = 2) :
    ∃ d : Dict, d.Alike s.dict ∧ s.writeBy c idx sub v = State.answer? ((s.withDict d).command c idx sub v) c := by
  obtain ⟨d, r, hd, hr, e⟩ := State.writeBy_runs h
  have hc := hk r (State.row_device hr hi)
  refine ⟨d, hd, ?_⟩
  rw [e]
  unfold ObjRow.kind at hc
  split at hc
  · cases hc
  · rename_i h0
    split at hc
    · cases hc
    · rename_i h1
      split at hc
      · rename_i h2
        unfold State.writeEffect
        rw [if_neg h0, if_neg h1]
        simp only [h2, if_true, not_applet hi, Bool.false_eq_true, if_false]
      · cases hc

theorem State.writeEffect_stored {r : ObjRow} (hc : r.kind = 3) (hi : idx < 0x6000 ∨ 0x7000 ≤ idx) (x : State) :
    x.writeEffect c r idx sub v = x.applyWrite idx sub v := by
  unfold ObjRow.kind at hc
  split at hc
  · cases hc
  · rename_i h0
    split at hc
    · cases hc
    · rename_i h1
      split at hc
      · cases hc
      · rename_i h2
        unfold State.writeEffect
        simp only [h0, h1, h2, if_false, not_applet hi, Bool.false_eq_true]

theorem State.writeBy_stored (h : s.writes c idx sub v = true) (hi : idx < 0x6000 ∨ 0x7000 ≤ idx)
    (hk : ∀ r, findObj idx sub = some r → r.kind = 3) :
    ∃ d : Dict, d.Alike s.dict ∧ s.writeBy c idx sub v = State.answer? ((s.withDict d).applyWrite idx sub v) c := by
  obtain ⟨d, r, hd, hr, e⟩ := State.writeBy_runs h
  exact ⟨d, hd, by rw [e, State.writeEffect_stored (hk r (State.row_device hr hi)) hi]⟩

/-- What a block refuses does not depend on the bookkeeping of sessions. -/
theorem State.blockCheck_dict (d : Dict) : (s.withDict d).blockCheck idx sub v = s.blockCheck idx sub v := by
  have h0 : State.bufferCheck (s.withDict d) = State.bufferCheck s := rfl
  have h1 : State.queueCfg (s.withDict d) = State.queueCfg s := rfl
  have h2 : State.ethConfigCheck (s.withDict d) = State.ethConfigCheck s := rfl
  have h3 : State.stopIdCheck (s.withDict d) = State.stopIdCheck s := rfl
  have h4 : State.listenCheck (s.withDict d) = State.listenCheck s := rfl
  have h5 : State.stoppedAll (s.withDict d) = State.stoppedAll s := rfl
  have h6 : (s.withDict d).stop.latch = s.stop.latch := rfl
  unfold State.blockCheck
  rw [h0, h1, h2, h3, h4, h5, h6]
  have h7 : (s.withDict d).fabric = s.fabric := rfl
  rw [h7]

/-! ### Reads -/

theorem State.updateOwner_dict {d : Dict} (h : d.Alike s.dict) : (s.withDict d).updateOwner = s.updateOwner := h.editor 0x1210

theorem State.updating_dict {d : Dict} (h : d.Alike s.dict) : (s.withDict d).updating = s.updating := by
  unfold State.updating
  rw [State.updateOwner_dict h]
  rfl

theorem State.updateState_dict {d : Dict} (h : d.Alike s.dict) : (s.withDict d).updateState = s.updateState := by
  have hp : (s.withDict d).payloadUnderWay = s.payloadUnderWay := by
    unfold State.payloadUnderWay
    rw [State.updateOwner_dict h]
    split
    · rename_i i _
      have := h.field i Session.xfers fun _ => rfl
      show (match Tbl.get? d.sessions i with | some x => x.xfers.any _ | none => false) = _
      revert this
      cases Tbl.get? d.sessions i <;> cases Tbl.get? s.dict.sessions i <;> simp
      intro e; rw [e]
    · have := congrArg Session.xfers h.app
      have hx : d.applet.xfers = s.dict.applet.xfers := this
      show d.applet.xfers.any _ = _
      rw [hx]
    · rfl
  unfold State.updateState
  rw [State.updating_dict h, hp]
  rfl

theorem State.slotState_dict {d : Dict} (h : d.Alike s.dict) (i : Nat) : (s.withDict d).slotState i = s.slotState i := by
  unfold State.slotState
  rw [State.updating_dict h]
  rfl

theorem State.live?_dict {d : Dict} (h : d.Alike s.dict) (idx sub : Nat) : (s.withDict d).live? idx sub = s.live? idx sub := by
  have hi : (s.withDict d).liveIdentity idx sub = s.liveIdentity idx sub := by
    unfold State.liveIdentity
    rw [State.slotState_dict h, State.updateState_dict h]
    have : (s.withDict d).dict.sessions.length = s.dict.sessions.length := h.count
    rw [this]
    split <;> rfl
  have ha (i : Nat) : (s.withDict d).dirApplet i = s.dirApplet i := rfl
  have hr (r : ObjRow) (i : Nat) : (s.withDict d).dirRow r i = s.dirRow r i := rfl
  have h1 : (s.withDict d).directory = s.directory := by
    unfold State.directory
    generalize span 0x1000 0x6400 = l
    simp only [ha, hr]
  unfold State.live?
  rw [hi, h1, State.liveHealth_dict, State.liveTime_dict, State.liveEth_dict, State.liveCan_dict, State.liveRadio_dict,
    State.liveTracking_dict, State.liveFixer_dict, State.liveComb_dict, State.liveStop_dict, State.liveFabric_dict, State.liveMachine_dict]

/-- What an object reads as does not depend on the bookkeeping of sessions. -/
theorem State.readVal_dict {d : Dict} (h : d.Alike s.dict) (idx sub : Nat) : (s.withDict d).readVal idx sub = s.readVal idx sub := by
  unfold State.readVal
  rw [State.live?_dict h]
  rfl

theorem State.readFront_runs {d : Dict} {opcode off : Nat} (h : s.reads c opcode idx sub off = true) (hd : d.Alike s.dict)
    (hx : idx ≠ 0x1230 ∨ off ≠ 0) : (s.withDict d).readFront c idx sub off = (s.withDict d, none) := by
  simp only [State.reads, Bool.and_eq_true] at h
  obtain ⟨-, h⟩ := h
  unfold State.readFront
  rw [State.front_dict hd]
  cases hf : s.front c .read idx sub with
  | error a => rw [hf] at h; cases h
  | ok r =>
    rw [hf] at h
    simp only [Bool.and_eq_true, Option.isNone_iff_eq_none] at h
    have hg : (s.withDict d).gasketOf r = none := h.1
    have hr : (s.withDict d).readRefusal idx = none := h.2
    simp only [hg, hr, orElse]
    rw [if_neg]
    simp only [Bool.and_eq_true, decide_eq_true_eq]
    omega

end Sys2Proof.Machine
end

