-- ==== Sys2Proof/Laws/Settings.lean ====
section
/-!
SUPPORT. Tables and settings: a read after a write, what a write leaves alone, and the rising order of keys.
-/

namespace Sys2Proof.Machine

/-! ### Tables -/

@[simp] theorem Tbl.get?_put {α : Type} (t : Tbl α) (k : Nat) (v : α) : Tbl.get? (Tbl.put t k v) k = some v := by
  induction t with
  | nil => simp [Tbl.put, Tbl.get?]
  | cons x t ih =>
    obtain ⟨j, w⟩ := x
    simp only [Tbl.put]
    split
    · simp [Tbl.get?]
    · split
      · simp [Tbl.get?]
      · rename_i h; simp only [Tbl.get?, if_neg (fun e : j = k => h e.symm)]; exact ih

theorem Tbl.get?_put_ne {α : Type} {t : Tbl α} {k j : Nat} {v : α} (h : j ≠ k) : Tbl.get? (Tbl.put t k v) j = Tbl.get? t j := by
  induction t with
  | nil => simp [Tbl.put, Tbl.get?, h.symm]
  | cons x t ih =>
    obtain ⟨i, w⟩ := x
    simp only [Tbl.put]
    split
    · simp [Tbl.get?, h.symm]
    · split
      · rename_i e; subst e; simp [Tbl.get?, h.symm]
      · simp only [Tbl.get?, ih]

@[simp] theorem Tbl.get?_del {α : Type} (t : Tbl α) (k : Nat) : Tbl.get? (Tbl.del t k) k = none := by
  induction t with
  | nil => rfl
  | cons x t ih =>
    obtain ⟨j, w⟩ := x
    simp only [Tbl.del]
    split
    · exact ih
    · rename_i h; simp only [Tbl.get?, if_neg h]; exact ih

theorem Tbl.get?_del_ne {α : Type} {t : Tbl α} {k j : Nat} (h : j ≠ k) : Tbl.get? (Tbl.del t k) j = Tbl.get? t j := by
  induction t with
  | nil => rfl
  | cons x t ih =>
    obtain ⟨i, w⟩ := x
    simp only [Tbl.del]
    split
    · rename_i e; subst e; rw [ih]; simp [Tbl.get?, h.symm]
    · simp only [Tbl.get?, ih]

theorem putCanon_get (t : Tbl Bytes) (k : Nat) (v d : Bytes) :
    (match Tbl.get? (putCanon t k v d) k with | some x => x | none => d) = v := by
  by_cases h : v = d
  · simp only [putCanon, if_pos h, Tbl.get?_del]; exact h.symm
  · simp only [putCanon, if_neg h, Tbl.get?_put]

theorem putCanon_get_ne {t : Tbl Bytes} {k j : Nat} {v d : Bytes} (h : j ≠ k) : Tbl.get? (putCanon t k v d) j = Tbl.get? t j := by
  unfold putCanon
  split
  · exact Tbl.get?_del_ne h
  · exact Tbl.get?_put_ne h

/-! ### Settings -/

@[simp] theorem Settings.bank_mapBank (g : Settings) (f : Bank → Bank) : (g.mapBank f).bank = f g.bank := by
  unfold Settings.mapBank Settings.bank
  split <;> simp_all

@[simp] theorem Settings.mapBank_vol (g : Settings) (f : Bank → Bank) : (g.mapBank f).vol = g.vol := by
  unfold Settings.mapBank; split <;> rfl
@[simp] theorem Settings.mapBank_records (g : Settings) (f : Bank → Bank) : (g.mapBank f).records = g.records := by
  unfold Settings.mapBank; split <;> rfl

/-- Whichever half takes the entry, the bank holds the values written. -/
@[simp] theorem Bank.write_values (b : Bank) (v : Tbl Bytes) (n : Nat) : (b.write v n).values = v := by
  unfold Bank.write; split <;> rfl

/-- A value is read as it was stored. -/
@[simp] theorem State.val_setVal (s : State) (k : Nat) (v : Bytes) : (s.setVal k v).val k = v := by
  show (match (s.settings.store k (s.persists k) v (s.dflt k)).find? k (s.persists k) with | some x => x | none => s.dflt k) = v
  unfold Settings.store Settings.find?
  by_cases hd : isDeviceRecord k = true
  · simp only [hd, if_true]; exact putCanon_get _ _ _ _
  · cases hp : s.persists k
    · simp only [hd, Bool.false_eq_true, if_false]; exact putCanon_get _ _ _ _
    · simp only [hd, Bool.false_eq_true, if_false, if_true, Settings.bank_mapBank, Bank.write_values]; exact putCanon_get _ _ _ _

/-- Storing a value leaves every other value alone. -/
theorem State.val_setVal_ne {s : State} {k j : Nat} {v : Bytes} (h : j ≠ k) : (s.setVal k v).val j = s.val j := by
  show (match (s.settings.store k (s.persists k) v (s.dflt k)).find? j (s.persists j) with | some x => x | none => s.dflt j)
    = (match s.settings.find? j (s.persists j) with | some x => x | none => s.dflt j)
  have : (s.settings.store k (s.persists k) v (s.dflt k)).find? j (s.persists j) = s.settings.find? j (s.persists j) := by
    unfold Settings.store Settings.find?
    cases hj : s.persists j <;> cases hk : s.persists k <;> by_cases h1 : isDeviceRecord j = true <;>
      by_cases h2 : isDeviceRecord k = true <;>
      simp only [h1, h2, Bool.false_eq_true, if_false, if_true, Settings.bank_mapBank, Bank.write_values, Settings.mapBank_vol, Settings.mapBank_records,
        putCanon_get_ne h] <;> rfl
  rw [this]

/-- Stored values rest on the settings and the applet bundle alone. -/
theorem State.val_congr {x y : State} (h2 : x.settings = y.settings) (h3 : x.fabric.core = y.fabric.core) (k : Nat) : x.val k = y.val k := by
  have hb (k : Nat) : x.bundleObj? k = y.bundleObj? k := by
    have h := congrArg Fabric.bundle h3
    have h : x.fabric.bundle = y.fabric.bundle := h
    unfold State.bundleObj?
    rw [h]
  unfold State.val State.persists State.dflt
  rw [h2, hb]

/-- What the Logbook makes of an event rests on the clock, the settings, the islands and the Logbook alone. -/
theorem State.logEv_congr {x y : State} (h1 : x.now = y.now) (h2 : x.settings = y.settings) (h3 : x.fabric = y.fabric)
    (h4 : x.islands = y.islands) (h5 : x.log = y.log) (e : Ev) (p : Bytes) : (x.logEv e p).log = (y.logEv e p).log := by
  have hb (k : Nat) : x.bundleObj? k = y.bundleObj? k := by unfold State.bundleObj?; rw [h3]
  have hv (k : Nat) : x.val k = y.val k := by
    unfold State.val State.persists State.dflt
    rw [h2, hb]
  have hc : x.cfg 0x1408 0 = y.cfg 0x1408 0 := by unfold State.cfg; rw [hv]
  have hu : x.up .aon = y.up .aon := by unfold State.up State.isl; rw [h4]
  unfold State.logEv State.offer
  rw [hc, hu, h1, h5]
  split
  · exact h5
  · split <;> rfl

/-! ### Lists of fixed length -/

@[simp] theorem modNth_length {α : Type} (l : List α) (i : Nat) (f : α → α) : (modNth l i f).length = l.length := by
  induction l generalizing i with
  | nil => rfl
  | cons a l ih => cases i <;> simp [modNth, ih]

theorem modNth_getD {α : Type} {l : List α} {i : Nat} (f : α → α) (d : α) (h : i < l.length) :
    (modNth l i f).getD i d = f (l.getD i d) := by
  induction l generalizing i with
  | nil => simp at h
  | cons a l ih =>
    cases i with
    | zero => rfl
    | succ i => simpa [modNth] using ih (by simpa using h)

theorem modNth_getD_ne {α : Type} {l : List α} {i j : Nat} (f : α → α) (d : α) (h : j ≠ i) :
    (modNth l i f).getD j d = l.getD j d := by
  induction l generalizing i j with
  | nil => rfl
  | cons a l ih =>
    cases i <;> cases j <;> simp_all [modNth]

end Sys2Proof.Machine
end

