-- ==== Sys2Proof/Laws/Frames.lean ====
section
/-!
SUPPORT. Frames of whole commands from frames of their effects.
-/

namespace Sys2Proof.Machine

@[simp] theorem State.advance_now (s : State) (t : Nat) : (s.advance t).now = max s.now t := by
  have h (x : State) : x.slewDone.now = x.now := State.slewDone_same (pt := .now) (by decide) x x |>.mpr rfl
  have k (x : State) (i j : Int) : (x.listensDue i j).now = x.now := State.listensDue_same (pt := .now) (by decide) x x i j |>.mpr rfl
  have c (x : State) (i j n : Nat) : (x.count i j n).now = x.now := State.count_same (pt := .now) (by decide) x x i j n |>.mpr rfl
  unfold State.advance
  extract_lets q r x n y
  rw [k]
  show (if _ then _ else _ : State).now = _
  split
  · rw [c, h]
  · rw [h]

@[simp] theorem State.advance_silicon (s : State) (t : Nat) : (s.advance t).silicon = s.silicon :=
  (State.advance_same (pt := .silicon) (by decide) (by decide) (by decide) (by decide) s s t).mpr rfl

@[simp] theorem State.advance_pending (s : State) (t : Nat) : (s.advance t).pending = s.pending :=
  (State.advance_same (pt := .pending) (by decide) (by decide) (by decide) (by decide) s s t).mpr rfl

/-- A command moves what its effect moves, and what follows every command. -/
theorem Only.run {ps : List Part} {s : State} {t : Nat} {body : State → State} (hp : ∀ p ∈ told, p ∈ ps)
    (h : Only ps (s.advance t) (body (s.advance t))) : Only ps (s.advance t) (s.run t body) := by
  intro p hn
  cases hnow : decide (p = .now)
  · cases hsil : decide (p = .silicon)
    · cases hpen : decide (p = .pending)
      · have hd : ¬ p = .dict := fun e => hn (hp _ (by rw [e]; decide))
        have ho : ¬ p = .out := fun e => hn (hp _ (by rw [e]; decide))
        have hr : ¬ p = .replies := fun e => hn (hp _ (by rw [e]; decide))
        exact (State.run_same (of_decide_eq_false hnow) (of_decide_eq_false hsil) (of_decide_eq_false hpen) hd ho hr _ s t body).mpr (h p hn)
      · rw [of_decide_eq_true hpen]; exact (State.run_pending s t body).trans (State.advance_pending s t).symm
    · rw [of_decide_eq_true hsil]; exact (State.run_silicon s t body).trans (State.advance_silicon s t).symm
  · rw [of_decide_eq_true hnow]; exact (State.run_now s t body).trans (State.advance_now s t).symm

theorem Only.answer? {ps : List Part} {a : State} {r : State × Option Ans} {c : Caller} (hp : ∀ p ∈ told, p ∈ ps)
    (h : Only ps a r.1) : Only ps a (State.answer? r c) := fun p hn =>
  (State.answer?_same (fun e => hn (hp _ (by rw [e]; decide))) (fun e => hn (hp _ (by rw [e]; decide))) a r c).mpr (h p hn)

theorem Only.withDict {ps : List Part} (a : State) (d : Dict) (hp : Part.dict ∈ ps) : Only ps a (a.withDict d) := by
  intro p hn
  cases p <;> first | rfl | exact ⟨rfl, rfl⟩ | exact absurd hp hn

/-- After a command the parts that its effect alone moves are as the effect left them. -/
theorem State.run_only (s : State) (t : Nat) (body : State → State) :
    Only (told ++ [.now, .silicon, .pending]) (body (s.advance t)) (s.run t body) := fun p hn =>
  (State.run_same (fun e => hn (by rw [e]; decide)) (fun e => hn (by rw [e]; decide)) (fun e => hn (by rw [e]; decide))
    (fun e => hn (by rw [e]; decide)) (fun e => hn (by rw [e]; decide)) (fun e => hn (by rw [e]; decide)) _ s t body).mpr (Part.same_refl _ _)

/-- What a write's effect does is what the write does. -/
theorem State.run_write {s : State} {t : Nat} {c : Caller} {idx sub : Nat} {v : Bytes} {r : State × Option Ans}
    (e : (s.advance t).writeBy c idx sub v = State.answer? r c) :
    Only (told ++ [.now, .silicon, .pending]) r.1 (s.run t fun s => s.writeBy c idx sub v) ∧
      ∀ ps : List Part, (∀ p ∈ told, p ∈ ps) → Only ps (s.advance t) r.1 →
        Only ps (s.advance t) (s.run t fun s => s.writeBy c idx sub v) := by
  constructor
  · refine Only.trans (Only.answer? (c := c) (by decide) (Only.refl _ r.1)) ?_
    rw [← e]
    exact State.run_only s t _
  · intro ps hp h
    refine Only.run hp ?_
    rw [e]
    exact Only.answer? hp h

/-- A command object: its effect is what `State.command` gives. -/
theorem State.run_command {s : State} {t : Nat} {c : Caller} {idx sub : Nat} {v : Bytes} (h : (s.advance t).writes c idx sub v = true)
    (hi : idx < 0x6000 ∨ 0x7000 ≤ idx) (hk : ∀ r, findObj idx sub = some r → r.kind = 2) :
    ∃ d : Dict, d.Alike (s.advance t).dict ∧
      Only (told ++ [.now, .silicon, .pending]) (((s.advance t).withDict d).command c idx sub v).1 (s.run t fun s => s.writeBy c idx sub v) ∧
      ∀ ps : List Part, (∀ p ∈ told, p ∈ ps) → Only ps (s.advance t) (((s.advance t).withDict d).command c idx sub v).1 →
        Only ps (s.advance t) (s.run t fun s => s.writeBy c idx sub v) := by
  obtain ⟨d, hd, e⟩ := State.writeBy_command h hi hk
  exact ⟨d, hd, State.run_write e⟩

/-- A commit object: its effect is what its group's commit gives. -/
theorem State.run_commit {s : State} {t : Nat} {c : Caller} {idx sub : Nat} {v : Bytes} (h : (s.advance t).writes c idx sub v = true)
    (hi : idx < 0x6000 ∨ 0x7000 ≤ idx) (hk : ∀ r, findObj idx sub = some r → r.kind = 0) :
    ∃ d : Dict, d.Alike (s.advance t).dict ∧
      Only (told ++ [.now, .silicon, .pending]) (((s.advance t).withDict d).commitGroup idx c).1 (s.run t fun s => s.writeBy c idx sub v) ∧
      ∀ ps : List Part, (∀ p ∈ told, p ∈ ps) → Only ps (s.advance t) (((s.advance t).withDict d).commitGroup idx c).1 →
        Only ps (s.advance t) (s.run t fun s => s.writeBy c idx sub v) := by
  obtain ⟨d, hd, e⟩ := State.writeBy_commit h hi hk
  exact ⟨d, hd, State.run_write e⟩

/-- A stored value: its effect is what `State.applyWrite` gives. -/
theorem State.run_stored {s : State} {t : Nat} {c : Caller} {idx sub : Nat} {v : Bytes} (h : (s.advance t).writes c idx sub v = true)
    (hi : idx < 0x6000 ∨ 0x7000 ≤ idx) (hk : ∀ r, findObj idx sub = some r → r.kind = 3) :
    ∃ d : Dict, d.Alike (s.advance t).dict ∧
      Only (told ++ [.now, .silicon, .pending]) (((s.advance t).withDict d).applyWrite idx sub v).1 (s.run t fun s => s.writeBy c idx sub v) ∧
      ∀ ps : List Part, (∀ p ∈ told, p ∈ ps) → Only ps (s.advance t) (((s.advance t).withDict d).applyWrite idx sub v).1 →
        Only ps (s.advance t) (s.run t fun s => s.writeBy c idx sub v) := by
  obtain ⟨d, hd, e⟩ := State.writeBy_stored h hi hk
  exact ⟨d, hd, State.run_write e⟩

/-- A request that reaches its port: its effect is what `State.portOp` gives. -/
theorem State.run_request {s : State} {t : Nat} {c : Caller} {idx : Nat} {req : Bytes} (h : (s.advance t).requests c idx req = true) :
    ∃ d : Dict, d.Alike (s.advance t).dict ∧
      Only (told ++ [.now, .silicon, .pending]) (((s.advance t).withDict d).portOp c idx 0 req).1 (s.run t fun s => s.transactBy c idx req) ∧
      ∀ ps : List Part, (∀ p ∈ told, p ∈ ps) → Only ps (s.advance t) (((s.advance t).withDict d).portOp c idx 0 req).1 →
        Only ps (s.advance t) (s.run t fun s => s.transactBy c idx req) := by
  obtain ⟨d, hd, e⟩ := State.transactBy_runs h
  refine ⟨d, hd, ?_, ?_⟩
  · refine Only.trans (Only.answer? (c := c) (by decide) (Only.refl _ _)) ?_
    rw [← e]
    exact State.run_only s t _
  · intro ps hp h
    refine Only.run hp ?_
    rw [e]
    exact Only.answer? hp h

end Sys2Proof.Machine
end

