-- ==== Sys2Proof/Laws/Groups.lean ====
section
/-!
SUPPORT. Stage groups: what a commit makes of the active values, and a discard of the shadows (R101, R102, R108, R109).
-/

namespace Sys2Proof.Machine

/-- Copies of values, one after another: each pair's first key takes the value of its second. -/
theorem copy_vals (l : List (Nat × Nat)) (x : State) (hn : (l.map Prod.fst).Nodup) (hd : ∀ m ∈ l, m.2 ∉ l.map Prod.fst) :
    let y := l.foldl (fun s m => s.setVal m.1 (s.val m.2)) x
    (∀ m ∈ l, y.val m.1 = x.val m.2) ∧ ∀ k, k ∉ l.map Prod.fst → y.val k = x.val k := by
  induction l generalizing x with
  | nil => exact ⟨fun m hm => absurd hm (by simp), fun _ _ => rfl⟩
  | cons p l ih =>
    simp only [List.map_cons, List.nodup_cons] at hn
    obtain ⟨hp, hn⟩ := hn
    obtain ⟨i1, i2⟩ := ih (x.setVal p.1 (x.val p.2)) hn fun m hm hc => hd m (List.mem_cons_of_mem _ hm) (by simp [hc])
    have hne : ∀ m ∈ p :: l, m.2 ≠ p.1 := fun m hm e => hd m hm (by simp [e])
    refine ⟨?_, ?_⟩
    · intro m hm
      rcases List.mem_cons.mp hm with rfl | hm'
      · exact (i2 _ hp).trans (State.val_setVal _ _ _)
      · exact (i1 m hm').trans (State.val_setVal_ne (hne m hm))
    · intro k hk
      simp only [List.map_cons, List.mem_cons, not_or] at hk
      exact (i2 k hk.2).trans (State.val_setVal_ne hk.1)

/-- What copies leave alone. -/
theorem copy_same (l : List (Nat × Nat)) (x : State) : Only [.settings] x (l.foldl (fun s m => s.setVal m.1 (s.val m.2)) x) := by
  induction l generalizing x with
  | nil => exact Only.refl _ _
  | cons p l ih =>
    refine Only.trans ?_ (ih _)
    intro q hq
    cases q <;> first | exact absurd (by decide) hq | rfl | exact ⟨rfl, rfl⟩

/-- The groups of the device: members have distinct keys, and shadows are not active values. -/
theorem memberKeys_ok : ∀ c ∈ commitIndices, ((memberKeys c).map Prod.snd).Nodup ∧ ((memberKeys c).map Prod.fst).Nodup ∧
    ∀ m ∈ memberKeys c, m.2 ≠ 0 ∧ m.1 ∉ (memberKeys c).map Prod.snd ∧ m.2 ∉ (memberKeys c).map Prod.fst := by decide

theorem commit_device : ∀ c ∈ commitIndices, c < 0x6000 := by decide

theorem State.groupKeys_device (s : State) {c : Nat} (h : c ∈ commitIndices) : s.groupKeys c = memberKeys c := by
  have := commit_device c h
  unfold State.groupKeys
  rw [if_neg]
  simp only [Bool.and_eq_true, decide_eq_true_eq]
  omega

/-- The state of which a commit copies the values. -/
theorem State.applyGroup_fold (s : State) {c : Nat} (h : c ∈ commitIndices) :
    ∃ (d : Dict) (l : List (Nat × Nat)), s.applyGroup c = ((memberKeys c).map fun m => (m.2, m.1)).foldl (fun s m => s.setVal m.1 (s.val m.2))
      { s with dict := d, settings := { s.settings with carried := l } } := by
  refine ⟨{ s.dict with holds := s.dict.holds.filter fun h => h.commit ≠ c }, s.settings.carried.filter fun x => x.1 ≠ c, ?_⟩
  unfold State.applyGroup
  simp only [State.groupKeys_device _ h, List.foldl_map]
  have hz : ∀ m ∈ memberKeys c, m.2 ≠ 0 := fun m hm => ((memberKeys_ok c h).2.2 m hm).1
  generalize memberKeys c = l at hz
  have key : ∀ x : State, l.foldl (fun s m => if m.2 = 0 then s else s.setVal m.2 (s.val m.1)) x
      = l.foldl (fun s m => s.setVal m.2 (s.val m.1)) x := by
    induction l with
    | nil => exact fun _ => rfl
    | cons p l ih =>
      intro x
      rw [List.foldl_cons, List.foldl_cons, if_neg (hz p (List.mem_cons_self))]
      exact ih (fun m hm => hz m (List.mem_cons_of_mem _ hm)) _
  exact key _

/-- A commit makes every shadow value active, and leaves every value that is not active in the group alone (R102). -/
theorem State.applyGroup_vals (s : State) {c : Nat} (h : c ∈ commitIndices) :
    (∀ m ∈ memberKeys c, (s.applyGroup c).val m.2 = s.val m.1) ∧
      ∀ k, k ∉ (memberKeys c).map Prod.snd → (s.applyGroup c).val k = s.val k := by
  obtain ⟨d, l, e⟩ := s.applyGroup_fold h
  obtain ⟨hn, -, hd⟩ := memberKeys_ok c h
  have hx (k : Nat) : ({ s with dict := d, settings := { s.settings with carried := l } } : State).val k = s.val k := rfl
  have hm : ((memberKeys c).map fun m => (m.2, m.1)).map Prod.fst = (memberKeys c).map Prod.snd := by rw [List.map_map]; rfl
  obtain ⟨k1, k2⟩ := copy_vals ((memberKeys c).map fun m => (m.2, m.1)) { s with dict := d, settings := { s.settings with carried := l } }
    (by rw [hm]; exact hn) (by
      intro p hp
      rw [hm]
      obtain ⟨m, hm', rfl⟩ := List.mem_map.mp hp
      exact (hd m hm').2.1)
  rw [← e] at k1 k2
  refine ⟨fun m hmem => (k1 (m.2, m.1) (List.mem_map.mpr ⟨m, hmem, rfl⟩)).trans (hx _), fun k hk => (k2 k (by rw [hm]; exact hk)).trans (hx k)⟩

theorem State.applyGroup_only (s : State) {c : Nat} (h : c ∈ commitIndices) : Only [.dict, .settings] s (s.applyGroup c) := by
  obtain ⟨d, l, e⟩ := s.applyGroup_fold h
  rw [e]
  refine Only.trans ?_ (Only.mono (copy_same _ _) (by decide))
  intro q hq
  cases q <;> first | exact absurd (by decide) hq | rfl | exact ⟨rfl, rfl⟩

/-- Whether a group's shadow set is valid does not depend on the bookkeeping of sessions. -/
theorem State.groupCheck_dict (s : State) (d : Dict) (c : Nat) : (s.withDict d).groupCheck c = s.groupCheck c := by
  have h0 : State.pulseCheck (s.withDict d) = State.pulseCheck s := rfl
  have h1 : State.canPortCheck (s.withDict d) = State.canPortCheck s := rfl
  have h2 : State.capCheck (s.withDict d) = State.capCheck s := rfl
  have h3 : State.siteCheck (s.withDict d) = State.siteCheck s := rfl
  have h4 : State.regionCheck (s.withDict d) = State.regionCheck s := rfl
  have h5 : State.trackCheck (s.withDict d) = State.trackCheck s := rfl
  have h6 : State.baseCheck (s.withDict d) = State.baseCheck s := rfl
  have h7 : State.policyCheck (s.withDict d) = State.policyCheck s := rfl
  have h8 : State.radioCheck (s.withDict d) = State.radioCheck s := rfl
  have h9 : State.ptpCheck (s.withDict d) = State.ptpCheck s := rfl
  have h10 : State.canTmCheck (s.withDict d) = State.canTmCheck s := rfl
  have h11 : State.cfg (s.withDict d) = State.cfg s := rfl
  have h12 : State.cfgB (s.withDict d) = State.cfgB s := rfl
  unfold State.groupCheck
  rw [h0, h1, h2, h3, h4, h5, h6, h7, h8, h9, h10, h11, h12]

/-- The commit of a group that is neither the Comb's nor the Radio's: the shadow set becomes active, and the answer is DONE. -/
theorem State.groupCommit_runs (s : State) {c : Nat} (h : c ∈ commitIndices) (h1 : c ≠ 0x4000) (h2 : c ≠ 0x4040) (h3 : c ≠ 0x2C00) (w : Caller) :
    (s.groupCommit c w).2 = some (Ans.done []) ∧ (s.groupCommit c w).1.settings = (s.applyGroup c).settings ∧
      (s.groupCommit c w).1.fabric.core = (s.applyGroup c).fabric.core ∧
      Only [.dict, .settings, .outs, .can, .out, .track, .base, .tb, .net, .log] s (s.groupCommit c w).1 := by
  have key : (s.groupCommit c w).2 = some (Ans.done []) ∧
      ∀ p : Part, p ∉ [Part.dict, .outs, .can, .out, .track, .base, .tb, .net, .log] → p.same (s.applyGroup c) (s.groupCommit c w).1 := by
    unfold State.groupCommit
    simp only []
    split
    · exact ⟨rfl, fun p hp => (State.pulseCommitted_same (by aesop) _ _ _).mpr (Part.same_refl _ _)⟩
    · split
      · exact ⟨rfl, fun p hp => (State.canPortCommitted_same (by aesop) (by aesop) (by aesop) _ _ _).mpr (Part.same_refl _ _)⟩
      · split
        · exact absurd rfl h1
        · exact absurd rfl h2
        · exact ⟨rfl, fun p hp => (State.trackCommitted_same (by aesop) _ _).mpr (Part.same_refl _ _)⟩
        · exact ⟨rfl, fun p hp => (State.baseCommitted_same (by aesop) _ _).mpr (Part.same_refl _ _)⟩
        · exact absurd rfl h3
        · exact ⟨rfl, fun p hp => (State.ptpCommitted_same (by aesop) (by aesop) (by aesop) _ _ _).mpr (Part.same_refl _ _)⟩
        · exact ⟨rfl, fun p hp => (State.canTmCommitted_same (by aesop) _ _).mpr (Part.same_refl _ _)⟩
        · exact ⟨rfl, fun p _ => Part.same_refl _ _⟩
  refine ⟨key.1, key.2 .settings (by decide), key.2 .fabric (by decide), ?_⟩
  intro p hp
  refine Part.same_trans (State.applyGroup_only s h p fun hm => hp ?_) (key.2 p fun hm => hp ?_)
  · simp only [List.mem_cons, List.not_mem_nil, or_false] at hm ⊢; tauto
  · simp only [List.mem_cons, List.not_mem_nil, or_false] at hm ⊢; tauto

/-- A commit that passes every check makes its group's shadow set active, and nothing else of the settings moves (R102). -/
theorem State.run_group {s : State} {t c : Nat} {w : Caller} {v : Bytes} (h : (s.advance t).writes w c 0 v = true) (hc : c ∈ commitIndices)
    (h1 : c ≠ 0x4000) (h2 : c ≠ 0x4040) (h3 : c ≠ 0x2C00) (hk : ∀ r, findObj c 0 = some r → r.kind = 0) (hg : (s.advance t).groupCheck c = none) :
    let u := s.run t fun s => s.writeBy w c 0 v
    (∀ m ∈ memberKeys c, u.val m.2 = (s.advance t).val m.1) ∧ (∀ k, k ∉ (memberKeys c).map Prod.snd → u.val k = (s.advance t).val k) ∧
      Only (told ++ [.settings, .outs, .can, .track, .base, .tb, .net, .log]) (s.advance t) u := by
  obtain ⟨d, -, k1, k2⟩ := State.run_commit h (.inl (commit_device c hc)) hk
  have e : ((s.advance t).withDict d).commitGroup c w = ((s.advance t).withDict d).groupCommit c w := by
    unfold State.commitGroup
    rw [State.groupCheck_dict, hg]
  rw [e] at k1 k2
  obtain ⟨-, g2, g3, g4⟩ := State.groupCommit_runs ((s.advance t).withDict d) hc h1 h2 h3 w
  obtain ⟨v1, v2⟩ := State.applyGroup_vals ((s.advance t).withDict d) hc
  have hv (k : Nat) : (s.run t fun s => s.writeBy w c 0 v).val k = (((s.advance t).withDict d).applyGroup c).val k :=
    State.val_congr ((k1 .settings (by decide)).trans g2) ((k1 .fabric (by decide)).trans g3) k
  refine ⟨fun m hm => (hv _).trans (v1 m hm), fun k hk => (hv k).trans (v2 k hk), k2 _ (by decide) ?_⟩
  exact Only.trans (Only.withDict _ _ (by decide)) (Only.mono g4 (by decide))

/-- A shadow returned to its active set reads as that (R108, R109). -/
theorem returnShadow_vals (s : State) {c : Nat} (h : c ∈ commitIndices) :
    (∀ m ∈ memberKeys c, (returnShadow s c).val m.1 = s.val m.2) ∧
      ∀ k, k ∉ (memberKeys c).map Prod.fst → (returnShadow s c).val k = s.val k := by
  obtain ⟨-, hn, hd⟩ := memberKeys_ok c h
  unfold returnShadow
  rw [State.groupKeys_device _ h]
  exact copy_vals _ s hn fun m hm => (hd m hm).2.2

theorem returnShadow_only (s : State) {c : Nat} (h : c ∈ commitIndices) : Only [.settings] s (returnShadow s c) := by
  unfold returnShadow
  rw [State.groupKeys_device _ h]
  exact copy_same _ s

end Sys2Proof.Machine
end

