-- ==== Sys2Proof/Laws/QueueOps.lean ====
section
/-!
SUPPORT. What each operation of the Dispatcher and queue windows can move: every part but those it names is as it was.
-/

namespace Sys2Proof.Machine

theorem State.removePkt_same {pt : Part} (h0 : ¬ pt = .fabric) (h1 : ¬ pt = .replies) (h2 : ¬ pt = .log) (a₀ : State) (s : State) (q : Nat) (i : Nat) : pt.same a₀ (State.removePkt s q i) ↔ pt.same a₀ s := by
  unfold State.removePkt
  (repeat' split) <;> simp [h0, h1, h2, State.setPkts_same]

theorem State.abandonOp_same {pt : Part} (h0 : ¬ pt = .fabric) (h1 : ¬ pt = .replies) (h2 : ¬ pt = .log) (a₀ : State) (s : State) (h : Nat) (q : Nat) : pt.same a₀ (State.abandonOp s h q) ↔ pt.same a₀ s := by
  unfold State.abandonOp
  (repeat' split) <;> simp [h0, h1, h2, State.removePkt_same]

theorem State.load_same {pt : Part} (h0 : ¬ pt = .out) (a₀ : State) (s : State) (h : Nat) (v : Nat) : pt.same a₀ (State.load s h v) ↔ pt.same a₀ s := by
  unfold State.load
  (repeat' split) <;> simp [h0, State.emit_same]

theorem State.setFabric_same {pt : Part} (h0 : ¬ pt = .fabric) (h1 : ¬ pt = .replies) (a₀ : State) (s : State) (f : Fabric → Fabric) : pt.same a₀ (State.setFabric s f) ↔ pt.same a₀ s := by
  unfold State.setFabric
  (repeat' split) <;> simp [h0, h1]

theorem State.closeOp_same {pt : Part} (h0 : ¬ pt = .health) (h1 : ¬ pt = .fabric) (h2 : ¬ pt = .replies) (h3 : ¬ pt = .log) (h4 : ¬ pt = .out) (a₀ : State) (s : State) (h : Nat) (q : Nat) : pt.same a₀ (State.closeOp s h q) ↔ pt.same a₀ s := by
  unfold State.closeOp
  (repeat' split) <;> simp [h0, h1, h2, h3, h4, State.load_same, State.removePkt_same, State.setFabric_same, State.count_same, State.setPkts_same]

theorem State.completeOp_same {pt : Part} (h0 : ¬ pt = .fabric) (h1 : ¬ pt = .replies) (h2 : ¬ pt = .log) (a₀ : State) (s : State) (h : Nat) (v : Nat) : pt.same a₀ (State.completeOp s h v) ↔ pt.same a₀ s := by
  unfold State.completeOp
  (repeat' split) <;> simp [h0, h1, h2, State.setFabric_same, State.completeHart_same]

theorem State.decrementOp_same {pt : Part} (h0 : ¬ pt = .fabric) (h1 : ¬ pt = .replies) (h2 : ¬ pt = .log) (a₀ : State) (s : State) (h : Nat) (v : Nat) : pt.same a₀ (State.decrementOp s h v) ↔ pt.same a₀ s := by
  unfold State.decrementOp
  (repeat' split) <;> simp [h0, h1, h2, State.decr_same]

theorem State.dropOp_same {pt : Part} (h0 : ¬ pt = .fabric) (h1 : ¬ pt = .replies) (a₀ : State) (s : State) (h : Nat) (q : Nat) : pt.same a₀ (State.dropOp s h q) ↔ pt.same a₀ s := by
  unfold State.dropOp
  simp; (repeat' split) <;> simp [h0, h1, State.setFabric_same]

theorem State.grant_same {pt : Part} (h0 : ¬ pt = .health) (h1 : ¬ pt = .fabric) (h2 : ¬ pt = .replies) (h3 : ¬ pt = .out) (a₀ : State) (s : State) (h : Nat) (d : Nat) (x : Desc) : pt.same a₀ (State.grant s h d x) ↔ pt.same a₀ s := by
  unfold State.grant
  (repeat' split) <;> simp [h0, h1, h2, h3, State.setFabric_same, State.load_same, State.count_same]

theorem State.wake_same {pt : Part} (h0 : ¬ pt = .fabric) (h1 : ¬ pt = .replies) (h2 : ¬ pt = .out) (a₀ : State) (s : State) (h : Nat) (code : Nat) : pt.same a₀ (State.wake s h code) ↔ pt.same a₀ s := by
  unfold State.wake
  (repeat' split) <;> simp [h0, h1, h2, State.load_same, State.setFabric_same]

theorem State.fetchReturn_same {pt : Part} (h0 : ¬ pt = .health) (h1 : ¬ pt = .fabric) (h2 : ¬ pt = .replies) (h3 : ¬ pt = .out) (a₀ : State) (s : State) (h : Nat) (code : Option Nat) : pt.same a₀ (State.fetchReturn s h code) ↔ pt.same a₀ s := by
  unfold State.fetchReturn
  (repeat' split) <;> simp [h0, h1, h2, h3, State.grant_same, State.wake_same]

theorem State.fetchExpires_same {pt : Part} (h0 : ¬ pt = .health) (h1 : ¬ pt = .fabric) (h2 : ¬ pt = .replies) (h3 : ¬ pt = .out) (a₀ : State) (s : State) (h : Nat) : pt.same a₀ (State.fetchExpires s h) ↔ pt.same a₀ s := by
  unfold State.fetchExpires
  simp; (repeat' split) <;> simp [h0, h1, h2, h3, State.fetchReturn_same]

theorem State.fetchOp_same {pt : Part} (h0 : ¬ pt = .fabric) (h1 : ¬ pt = .replies) (h2 : ¬ pt = .log) (h3 : ¬ pt = .out) (a₀ : State) (s : State) (h : Nat) (timeout : Nat) : pt.same a₀ (State.fetchOp s h timeout) ↔ pt.same a₀ s := by
  unfold State.fetchOp
  (repeat' split) <;> simp [h0, h1, h2, h3, State.load_same, State.completeHart_same, State.setFabric_same]

theorem State.peekOp_same {pt : Part} (h0 : ¬ pt = .fabric) (h1 : ¬ pt = .replies) (h2 : ¬ pt = .out) (a₀ : State) (s : State) (h : Nat) (idx : Nat) (high : Bool) : pt.same a₀ (State.peekOp s h idx high) ↔ pt.same a₀ s := by
  unfold State.peekOp
  simp; (repeat' split) <;> simp [h0, h1, h2, State.setFabric_same, State.load_same]

theorem State.openOp_same {pt : Part} (h0 : ¬ pt = .fabric) (h1 : ¬ pt = .replies) (h2 : ¬ pt = .out) (a₀ : State) (s : State) (h : Nat) (q : Nat) : pt.same a₀ (State.openOp s h q) ↔ pt.same a₀ s := by
  unfold State.openOp
  (repeat' split) <;> simp [h0, h1, h2, State.load_same, State.setFabric_same]

theorem State.popOp_same {pt : Part} (h0 : ¬ pt = .fabric) (h1 : ¬ pt = .replies) (h2 : ¬ pt = .out) (a₀ : State) (s : State) (h : Nat) (q : Nat) : pt.same a₀ (State.popOp s h q) ↔ pt.same a₀ s := by
  unfold State.popOp
  simp; (repeat' split) <;> simp [h0, h1, h2, State.load_same, State.setFabric_same]

theorem State.pushWord_same {pt : Part} (h0 : ¬ pt = .fabric) (h1 : ¬ pt = .replies) (a₀ : State) (s : State) (h : Nat) (q : Nat) (w : Nat) : pt.same a₀ (State.pushWord s h q w) ↔ pt.same a₀ s := by
  unfold State.pushWord
  (repeat' split) <;> simp [h0, h1, State.setFabric_same]

theorem State.pushOp_same {pt : Part} (h0 : ¬ pt = .fabric) (h1 : ¬ pt = .replies) (a₀ : State) (s : State) (h : Nat) (q : Nat) (words : List Nat) : pt.same a₀ (State.pushOp s h q words) ↔ pt.same a₀ s := by
  unfold State.pushOp
  (repeat' split) <;> simp [h0, h1, State.pushWord_same]

theorem State.reissueOp_same {pt : Part} (h0 : ¬ pt = .fabric) (h1 : ¬ pt = .replies) (h2 : ¬ pt = .out) (a₀ : State) (s : State) (h : Nat) (idx : Nat) : pt.same a₀ (State.reissueOp s h idx) ↔ pt.same a₀ s := by
  unfold State.reissueOp
  simp; (repeat' split) <;> simp [h0, h1, h2, State.setFabric_same, State.load_same]

theorem State.replyOp_same {pt : Part} (h0 : ¬ pt = .health) (h1 : ¬ pt = .fabric) (h2 : ¬ pt = .replies) (h3 : ¬ pt = .log) (a₀ : State) (s : State) (h : Nat) : pt.same a₀ (State.replyOp s h) ↔ pt.same a₀ s := by
  unfold State.replyOp
  simp; (repeat' split) <;> simp [h0, h1, h2, h3, State.setFabric_same, State.post_same, State.decr_same]

theorem State.submitOp_same {pt : Part} (h0 : ¬ pt = .fabric) (h1 : ¬ pt = .replies) (h2 : ¬ pt = .out) (a₀ : State) (s : State) (h : Nat) (idx : Nat) (lo : Nat) (hi : Nat) : pt.same a₀ (State.submitOp s h idx lo hi) ↔ pt.same a₀ s := by
  unfold State.submitOp
  simp; (repeat' split) <;> simp [h0, h1, h2, State.setFabric_same, State.load_same]

theorem State.tagOp_same {pt : Part} (h0 : ¬ pt = .fabric) (h1 : ¬ pt = .replies) (a₀ : State) (s : State) (h : Nat) (q : Nat) (v : Nat) : pt.same a₀ (State.tagOp s h q v) ↔ pt.same a₀ s := by
  unfold State.tagOp
  (repeat' split) <;> simp [h0, h1, State.setFabric_same]

end Sys2Proof.Machine
end

