-- ==== Sys2Proof/Laws/LogCmds.lean ====
section
/-!
SUPPORT. What each operation of the Logbook rows can move: every part but those it names is as it was.
-/

namespace Sys2Proof.Machine

theorem State.mirrorOp_same {pt : Part} (h0 : ¬ pt = .log) (a₀ : State) (s : State) (ok : Bool) : pt.same a₀ (State.mirrorOp s ok) ↔ pt.same a₀ s := by
  unfold State.mirrorOp
  (repeat' split) <;> simp [h0, State.logEv_same]

theorem State.offerEvent_same {pt : Part} (h0 : ¬ pt = .log) (a₀ : State) (s : State) (code : Nat) (sev : Nat) (island : Nat) (params : Bytes) : pt.same a₀ (State.offerEvent s code sev island params) ↔ pt.same a₀ s := by
  unfold State.offerEvent
  (repeat' split) <;> simp [h0, State.offer_same]

end Sys2Proof.Machine
end

