-- ==== Sys2Proof/Laws/Memory.lean ====
section
/-!
SUPPORT. Laws of memory: every operation keeps its one form, a byte reads as it was last written, and a write leaves every other byte. A
single upset of a threefold copy changes nothing that is read.
-/

namespace Sys2Proof.Machine

theorem Tbl.mem_put {α : Type} {t : Tbl α} {k : Nat} {v : α} {e : Nat × α} (h : e ∈ Tbl.put t k v) : e = (k, v) ∨ e ∈ t := by
  induction t with
  | nil => simpa [Tbl.put] using h
  | cons x t ih =>
    obtain ⟨j, w⟩ := x
    unfold Tbl.put at h
    split at h
    · simpa using h
    · split at h
      · rcases List.mem_cons.mp h with h | h
        · exact .inl h
        · exact .inr (List.mem_cons_of_mem _ h)
      · rcases List.mem_cons.mp h with h | h
        · exact .inr (by rw [h]; exact List.mem_cons_self)
        · exact (ih h).imp id (List.mem_cons_of_mem _)

theorem Tbl.mem_del {α : Type} {t : Tbl α} {k : Nat} {e : Nat × α} (h : e ∈ Tbl.del t k) : e ∈ t := by
  induction t with
  | nil => exact h
  | cons x t ih =>
    obtain ⟨j, w⟩ := x
    unfold Tbl.del at h
    split at h
    · exact List.mem_cons_of_mem _ (ih h)
    · rcases List.mem_cons.mp h with h | h
      · exact h ▸ List.mem_cons_self
      · exact List.mem_cons_of_mem _ (ih h)

theorem Tbl.rising_put {α : Type} {t : Tbl α} (k : Nat) (v : α) (h : (t.map Prod.fst).Pairwise (· < ·)) :
    ((Tbl.put t k v).map Prod.fst).Pairwise (· < ·) := by
  induction t with
  | nil => simp [Tbl.put]
  | cons x t ih =>
    obtain ⟨j, w⟩ := x
    simp only [List.map_cons, List.pairwise_cons] at h
    unfold Tbl.put
    split
    · rename_i hk
      simp only [List.map_cons, List.pairwise_cons, List.mem_cons, forall_eq_or_imp]
      exact ⟨⟨hk, fun a ha => Nat.lt_trans hk (h.1 a ha)⟩, h.1, h.2⟩
    · split
      · rename_i hk
        simp only [List.map_cons, List.pairwise_cons]
        exact ⟨by rw [hk]; exact h.1, h.2⟩
      · rename_i hk hk'
        simp only [List.map_cons, List.pairwise_cons]
        refine ⟨?_, ih h.2⟩
        intro a ha
        obtain ⟨e, he, rfl⟩ := List.mem_map.mp ha
        rcases Tbl.mem_put he with rfl | he
        · show j < k
          omega
        · exact h.1 _ (List.mem_map_of_mem he)

theorem Tbl.rising_del {α : Type} {t : Tbl α} (k : Nat) (h : (t.map Prod.fst).Pairwise (· < ·)) :
    ((Tbl.del t k).map Prod.fst).Pairwise (· < ·) := by
  induction t with
  | nil => exact h
  | cons x t ih =>
    obtain ⟨j, w⟩ := x
    simp only [List.map_cons, List.pairwise_cons] at h
    unfold Tbl.del
    split
    · exact ih h.2
    · simp only [List.map_cons, List.pairwise_cons]
      refine ⟨fun a ha => ?_, ih h.2⟩
      obtain ⟨e, he, rfl⟩ := List.mem_map.mp ha
      exact h.1 _ (List.mem_map_of_mem (Tbl.mem_del he))

/-- A memory with nothing listed is in its one form. -/
theorem Memory.wf_nil : Memory.wf [] := by simp [Memory.wf]

theorem Memory.wf_putByte {m : Memory} (a : Nat) (b : Byte) (h : m.wf) : (m.putByte a b).wf := by
  unfold Memory.putByte
  split
  · exact ⟨Tbl.rising_del a h.1, fun e he => h.2 e (Tbl.mem_del he)⟩
  · rename_i hb
    refine ⟨Tbl.rising_put a b h.1, fun e he => ?_⟩
    rcases Tbl.mem_put he with rfl | he
    · exact hb
    · exact h.2 e he

/-- Every write keeps the one form. -/
theorem Memory.wf_store {m : Memory} (a : Nat) (b : Bytes) (h : m.wf) : (m.store a b).wf := by
  induction b generalizing m a with
  | nil => exact h
  | cons x t ih => exact ih (a + 1) (Memory.wf_putByte a x h)

/-- A byte reads as it was last written. -/
@[simp] theorem Memory.byteAt_putByte (m : Memory) (a : Nat) (b : Byte) : (m.putByte a b).byteAt a = b := by
  unfold Memory.putByte Memory.byteAt Tbl.getD
  by_cases h : b = 0
  · rw [if_pos h, Tbl.get?_del]; exact h.symm
  · rw [if_neg h, Tbl.get?_put]

/-- A write of one byte leaves every other. -/
theorem Memory.byteAt_putByte_ne {m : Memory} {a i : Nat} {b : Byte} (h : i ≠ a) : (m.putByte a b).byteAt i = m.byteAt i := by
  unfold Memory.putByte Memory.byteAt Tbl.getD
  by_cases hb : b = 0
  · rw [if_pos hb, Tbl.get?_del_ne h]
  · rw [if_neg hb, Tbl.get?_put_ne h]

/-- A write leaves every byte outside the bytes written. -/
theorem Memory.byteAt_store_ne {m : Memory} {a i : Nat} {b : Bytes} (h : i < a ∨ a + b.length ≤ i) : (m.store a b).byteAt i = m.byteAt i := by
  induction b generalizing m a with
  | nil => rfl
  | cons x t ih =>
    rw [List.length_cons] at h
    exact (ih (by omega)).trans (Memory.byteAt_putByte_ne (by omega))

/-- The bytes written read back. -/
theorem Memory.byteAt_store {m : Memory} {a i : Nat} {b : Bytes} (h : i < b.length) : (m.store a b).byteAt (a + i) = b[i] := by
  induction b generalizing m a i with
  | nil => cases h
  | cons x t ih =>
    cases i with
    | zero =>
      show ((m.putByte a x).store (a + 1) t).byteAt a = x
      rw [Memory.byteAt_store_ne (.inl (by omega)), Memory.byteAt_putByte]
    | succ i =>
      have e : a + (i + 1) = a + 1 + i := by omega
      rw [e]
      exact ih (m := m.putByte a x) (a := a + 1) (Nat.lt_of_succ_lt_succ h)

/-- A load reads byte by byte. -/
theorem Memory.load_get {m : Memory} {a n i : Nat} (h : i < n) : (m.load a n)[i]? = some (m.byteAt (a + i)) := by
  induction n generalizing a i with
  | zero => cases h
  | succ n ih =>
    cases i with
    | zero => rfl
    | succ i =>
      have e : a + (i + 1) = a + 1 + i := by omega
      rw [e]
      exact ih (a := a + 1) (Nat.lt_of_succ_lt_succ h)

/-! ### Threefold copies -/

@[simp] theorem Triple.of_vote {α : Type} [DecidableEq α] (v : α) : (Triple.of v).vote = v := by simp [Triple.of, Triple.vote]

/-- A single upset changes nothing that is read (R49). -/
@[simp] theorem Triple.struck_vote {α : Type} [DecidableEq α] (t : Triple α) (k : Nat) (v : α) : (t.struck k v).vote = t.vote := by
  unfold Triple.struck Triple.corrected Triple.upset
  rw [Triple.of_vote]
  split <;> simp [Triple.of, Triple.vote]

end Sys2Proof.Machine
end

