-- ==== Sys2Proof/Laws/TimeCmds.lean ====
section
/-!
SUPPORT. What each operation of the time rows can move: every part but those it names is as it was.
-/

namespace Sys2Proof.Machine

theorem State.timeOffset_same {pt : Part} (h0 : ¬ pt = .tb) (h1 : ¬ pt = .log) (a₀ : State) (s : State) (src : Nat) (off : Int) (bound : Nat) : pt.same a₀ (State.timeOffset s src off bound) ↔ pt.same a₀ s := by
  unfold State.timeOffset
  (repeat' split) <;> simp [h0, h1, State.offset_same]

theorem State.timeStepped_same {pt : Part} (h0 : ¬ pt = .track) (h1 : ¬ pt = .tb) (h2 : ¬ pt = .outs) (h3 : ¬ pt = .can) (h4 : ¬ pt = .log) (a₀ : State) (s : State) : pt.same a₀ (State.timeStepped s) ↔ pt.same a₀ s := by
  unfold State.timeStepped
  (repeat' split) <;> simp [h0, h1, h2, h3, h4, State.takeStep_same, State.canStepped_same]

end Sys2Proof.Machine
end

