-- ==== Sys2Proof/Laws/Windows.lean ====
section
/-!
SUPPORT. What each operation of the accesses of harts can move: every part but those it names is as it was.
-/

namespace Sys2Proof.Machine

theorem State.accessFault_same {pt : Part} (h0 : ¬ pt = .out) (a₀ : State) (s : State) (h : Nat) (addr : Nat) : pt.same a₀ (State.accessFault s h addr) ↔ pt.same a₀ s := by
  unfold State.accessFault
  (repeat' split) <;> simp [h0, State.emit_same]

theorem State.dispatcherAccess_same {pt : Part} (h0 : ¬ pt = .fabric) (h1 : ¬ pt = .replies) (h2 : ¬ pt = .out) (a₀ : State) (s : State) (h : Nat) (off : Nat) (store : Option Nat) {s' : State} (h' : s.dispatcherAccess h off store = some s') : pt.same a₀ s' ↔ pt.same a₀ s := by
  unfold State.dispatcherAccess at h'
  dsimp only at h'
  repeat' split at h'
  all_goals first
    | (cases h'; done)
    | (cases h'; first | rfl | (simp [h0, h1, h2, State.setFabric_same, State.load_same]; done))

theorem State.gasketLoad_same {pt : Part} (h0 : ¬ pt = .out) (a₀ : State) (s : State) (h : Nat) (i : Island) (store : Option Nat) : pt.same a₀ (State.gasketLoad s h i store) ↔ pt.same a₀ s := by
  unfold State.gasketLoad
  (repeat' split) <;> simp [h0, State.load_same]

theorem State.queueAccess_same {pt : Part} (h0 : ¬ pt = .out) (a₀ : State) (s : State) (h : Nat) (q : Nat) (off : Nat) (store : Option Nat) {s' : State} (h' : s.queueAccess h q off store = some s') : pt.same a₀ s' ↔ pt.same a₀ s := by
  unfold State.queueAccess at h'
  repeat' split at h'
  all_goals first
    | (cases h'; done)
    | (cases h'; first | rfl | (simp [h0, State.load_same]; done))

theorem State.requestAccess_same {pt : Part} (h0 : ¬ pt = .fabric) (h1 : ¬ pt = .replies) (a₀ : State) (s : State) (h : Nat) (comb : Bool) (off : Nat) (size : Nat) (store : Option Nat) {s' : State} (h' : s.requestAccess h comb off size store = some s') : pt.same a₀ s' ↔ pt.same a₀ s := by
  unfold State.requestAccess at h'
  dsimp only at h'
  repeat' split at h'
  all_goals first
    | (cases h'; done)
    | (cases h'; first | rfl | (simp [h0, h1, State.setFabric_same]; done))

theorem State.logbookAccess_same {pt : Part} (h0 : ¬ pt = .log) (h1 : ¬ pt = .out) (a₀ : State) (s : State) (h : Nat) (off : Nat) (store : Option Nat) {s' : State} (h' : s.logbookAccess h off store = some s') : pt.same a₀ s' ↔ pt.same a₀ s := by
  unfold State.logbookAccess at h'
  dsimp only at h'
  repeat' split at h'
  all_goals first
    | (cases h'; done)
    | (cases h'; first | rfl | (simp [h0, h1, State.load_same]; done))

theorem State.memoryAccess_same {pt : Part} (h0 : ¬ pt = .fabric) (h1 : ¬ pt = .replies) (h2 : ¬ pt = .dram) (h3 : ¬ pt = .out) (a₀ : State) (s : State) (h : Nat) (shared : Bool) (a : HartAccess) : pt.same a₀ (State.memoryAccess s h shared a) ↔ pt.same a₀ s := by
  unfold State.memoryAccess
  (repeat' split) <;> simp [h0, h1, h2, h3, State.load_same, State.setFabric_same]

theorem State.hartAccess_same {pt : Part} (h0 : ¬ pt = .fabric) (h1 : ¬ pt = .replies) (h2 : ¬ pt = .dram) (h3 : ¬ pt = .log) (h4 : ¬ pt = .out) (a₀ : State) (s : State) (h : Nat) (a : HartAccess) : pt.same a₀ (State.hartAccess s h a) ↔ pt.same a₀ s := by
  unfold State.hartAccess
  dsimp only
  (repeat' split) <;> first
    | exact State.accessFault_same (by assumption) a₀ _ _ _
    | exact State.gasketLoad_same (by assumption) a₀ _ _ _ _
    | exact State.memoryAccess_same (by assumption) (by assumption) (by assumption) (by assumption) a₀ _ _ _ _
    | (rename_i e; first
        | exact State.dispatcherAccess_same (by assumption) (by assumption) (by assumption) a₀ _ _ _ _ e
        | exact State.queueAccess_same (by assumption) a₀ _ _ _ _ _ e
        | exact State.requestAccess_same (by assumption) (by assumption) a₀ _ _ _ _ _ _ e
        | exact State.logbookAccess_same (by assumption) (by assumption) a₀ _ _ _ _ e)

theorem State.look_same {pt : Part} (h0 : ¬ pt = .fabric) (h1 : ¬ pt = .replies) (h2 : ¬ pt = .dram) (h3 : ¬ pt = .log) (h4 : ¬ pt = .out) (a₀ : State) (s : State) (h n : Nat) (p : PeekAt) : pt.same a₀ (State.look s h n p) ↔ pt.same a₀ s := by
  unfold State.look
  (repeat' split) <;> simp [h0, h1, h2, h3, h4, State.peekOp_same, State.hartAccess_same, State.load_same]

end Sys2Proof.Machine
end

