-- ==== Sys2Proof/Laws/Step.lean ====
section
/-!
SUPPORT. What each operation of a step can move: every part but those it names is as it was.
-/

namespace Sys2Proof.Machine

theorem State.withFetchWord_same {pt : Part} (h0 : ¬ pt = .pending) (a₀ : State) (s : State) (nbits : Nat) (w : Nat) : pt.same a₀ (State.withFetchWord s nbits w) ↔ pt.same a₀ s := by
  unfold State.withFetchWord
  (repeat' split) <;> simp [h0]

end Sys2Proof.Machine
end

