-- ==== Sys2Proof/WellFormed.lean ====
section
/-!
DEFINITION. Well-formed commands: every operand that the device meets as a field of fixed width, or as the number of one of a fixed
count of things, lies in that range. The meanings do not rest on it: a command out of range is refused or has no effect.
-/

namespace Sys2Proof

/-- A number of one of n things. -/
def below (n x : Nat) : Bool := x < n
def isU16 (x : Nat) : Bool := x < 2 ^ 16
def isU32 (x : Nat) : Bool := x < 2 ^ 32
def isU64 (x : Nat) : Bool := x < 2 ^ 64
/-- An index of the dictionary and a subindex (R87). -/
def isIndex (x : Nat) : Bool := x < 2 ^ 16
def isSub (x : Nat) : Bool := x < 2 ^ 8
/-- One of the 16 harts (R763). -/
def isHart (x : Nat) : Bool := x < 16
/-- One of the 1,024 queues (R772). -/
def isQueue (x : Nat) : Bool := x < 1024
/-- A CAN node ID of a USDO client (R145). -/
def isNode (x : Nat) : Bool := 1 ≤ x && x ≤ 127
/-- A bucket of the Comb, in groups of 64 (Table 5.2, R202). -/
def isBucket (x : Nat) : Bool := x < 49152
/-- A time source of Table 13.1. -/
def isSource (x : Nat) : Bool := 1 ≤ x && x ≤ 4
/-- A clock at REFIN: 1 10 MHz, 2 25 MHz (R633). -/
def isClock (x : Nat) : Bool := 1 ≤ x && x ≤ 2
/-- An Ethernet address. -/
def isMac (x : Nat) : Bool := x < 2 ^ 48
/-- Params of an event (Table 20.1). -/
def isParams (b : Bytes) : Bool := b.length ≤ 40

def Caller.wf (c : Caller) : Bool :=
  match c with
  | .coil i r => isU32 i && isU16 r
  | .usdo p n => below 8 p && isNode n
  | .applet h r => isHart h && isU16 r
  | .firmware => true

/-- An identifier of 11 or 29 bits and a data length code (Table 15.4). -/
def CanFrame.wf (f : CanFrame) : Bool := f.id < (if f.ide then 2 ^ 29 else 2 ^ 11) && f.dlc < 16 && f.data.length ≤ 64

/-- A descriptor index, or an access of 1, 2, 4 or 8 bytes at a physical address. -/
def PeekAt.wf (n : Nat) (p : PeekAt) : Bool :=
  match p with
  | .half _ => isIndex n
  | .access size store => n < 2 ^ 56 && [1, 2, 4, 8].contains size && store.all isU64
  | .time => true

/-- A command whose operands all lie in their ranges. -/
def Instr.wf : Instr → Bool
  | .dictWrite _ c idx sub _ => Caller.wf c && isIndex idx && isSub sub
  | .coilHello _ _ => true
  | .coilData _ _ _ => true
  | .coilRead _ sid req idx sub => isU32 sid && isU16 req && isIndex idx && isSub sub
  | .coilWrite _ sid req idx sub _ => isU32 sid && isU16 req && isIndex idx && isSub sub
  | .blockRead _ sid req idx sub off max => isU32 sid && isU16 req && isIndex idx && isSub sub && isU32 off && isU32 max
  | .blockWrite _ sid req idx sub off total _ => isU32 sid && isU16 req && isIndex idx && isSub sub && isU32 off && isU32 total
  | .coilCommit _ sid req idx sub => isU32 sid && isU16 req && isIndex idx && isSub sub
  | .coilDiscard _ sid req idx sub => isU32 sid && isU16 req && isIndex idx && isSub sub
  | .transact _ sid req idx sub off total _ => isU32 sid && isU16 req && isIndex idx && isSub sub && isU32 off && isU32 total
  | .subscribe _ sid req idx sub param => isU32 sid && isU16 req && isIndex idx && isSub sub && isU32 param
  | .notify _ sid idx sub => isU32 sid && isIndex idx && isSub sub
  | .coilClose _ _ _ => true
  | .coilIdleTimeout _ sid => isU32 sid
  | .blockTransferAbandon _ sid idx sub => isU32 sid && isIndex idx && isSub sub
  | .stageHoldTimeout _ idx sub => isIndex idx && isSub sub
  | .stageDiscard _ c idx => Caller.wf c && isIndex idx
  | .usdoUpload _ port client _ idx sub => below 8 port && isNode client && isIndex idx && isSub sub
  | .usdoDownload _ port client _ idx sub _ => below 8 port && isNode client && isIndex idx && isSub sub
  | .capCommit _ c => Caller.wf c
  | .controllerIdClashEnd _ => true
  | .islandFault _ _ _ => true
  | .islandRestartEnd _ _ => true
  | .islandFailed _ _ _ => true
  | .islandWatchdogExpiry _ _ => true
  | .protectedStoreError _ _ => true
  | .correctedEccError _ _ _ => true
  | .siteCommit _ c => Caller.wf c
  | .combEpochAge _ => true
  | .combIntake _ c _ => Caller.wf c
  | .combAccept _ => true
  | .claim _ _ => true
  | .probe _ _ => true
  | .amend _ _ => true
  | .release _ _ => true
  | .area _ _ => true
  | .query _ _ => true
  | .combWaitResume _ _ => true
  | .combTrim _ _ => true
  | .combSweep _ bucket => isBucket bucket
  | .combBlocked _ bucket slot => isBucket bucket && below 32 slot
  | .combBlockExpiry _ bucket slot => isBucket bucket && below 32 slot
  | .combClearBlocked _ c => Caller.wf c
  | .combRetire _ group => below 768 group
  | .regionCommit _ c => Caller.wf c
  | .prepare _ c _ => Caller.wf c
  | .prepareAnswer _ n exch _ => below 12 n && isU32 exch
  | .prepareTimeout _ exch => isU32 exch
  | .commitAbortRepeat _ n exch => below 12 n && isU32 exch
  | .regionCommitMessage _ c _ => Caller.wf c
  | .regionAbort _ c _ => Caller.wf c
  | .combPresumed _ n exch => below 12 n && isU32 exch
  | .shorten _ c _ => Caller.wf c
  | .sync _ c _ => Caller.wf c
  | .syncAnswer _ n => below 12 n
  | .heartbeatSend _ => true
  | .regionHeartbeat _ c _ => Caller.wf c
  | .neighbourLost _ n => below 12 n
  | .trackEpoch _ meas => meas.firsts.length = 4
  | .navMessage _ m _ => below 8 m.system && isSub m.sat && below 32 m.signal && 1 ≤ m.bits.length && m.bits.length ≤ 2048
  | .channelLockTransition _ _ _ => true
  | .pullInTimeout _ _ => true
  | .coastTimeout _ _ => true
  | .watchDwell _ _ _ => true
  | .secondPeakClear _ _ _ _ => true
  | .agcUpdate _ port _ => below 4 port
  | .gsJamClear _ port => below 4 port
  | .gsClockLost _ port => below 4 port
  | .gsClockBack _ port => below 4 port
  | .gsGap _ port => below 4 port
  | .trackCommit _ c => Caller.wf c
  | .trackStandbyEnter _ c => Caller.wf c
  | .trackStandbyExit _ c => Caller.wf c
  | .devExposureArrival _ _ => true
  | .devExposureStart _ _ => true
  | .devResult _ slot _ => below 1024 slot
  | .devOwnSearchStart _ => true
  | .devOwnSearchDone _ _ => true
  | .devReacquireTick _ _ => true
  | .devStandbyExposure _ => true
  | .devStandbyResult _ _ => true
  | .baseEpoch _ _ => true
  | .baseCommit _ c => Caller.wf c
  | .surveyStartStandalone _ c => Caller.wf c
  | .surveyStartNetwork _ c => Caller.wf c
  | .surveyAbandon _ c => Caller.wf c
  | .baseNetPort _ c _ => Caller.wf c
  | .roverObsArrival _ _ => true
  | .roverEpochStart _ => true
  | .roverEpochDone _ slot _ => below 1024 slot
  | .roverReset _ c slot => Caller.wf c && below 1024 slot
  | .confFix _ slot => below 1024 slot
  | .confReported _ slot => below 1024 slot
  | .confDeveloped _ slot => below 1024 slot
  | .confResultNotice _ slot => below 1024 slot
  | .confFreshnessTick _ => true
  | .confDeviceTick _ => true
  | .policyCommit _ c => Caller.wf c
  | .swarmCommand _ c _ => Caller.wf c
  | .swarmCancel _ c _ => Caller.wf c
  | .swarmInstant _ => true
  | .swarmDeadline _ => true
  | .siPinChange _ input pin _ => below 4 input && below 2 pin
  | .siDebounceExpiry _ input pin => below 4 input && below 2 pin
  | .siDiscrepancy _ input => below 4 input
  | .soFault _ output _ _ => below 4 output
  | .soPulseTest _ output => below 4 output
  | .soPulseTestEnd _ output _ _ => below 4 output
  | .stopCommand _ c _ => Caller.wf c
  | .stopNeighbourNotice _ c _ => Caller.wf c
  | .stopNoticeRepeat _ n => below 12 n
  | .stopVote _ => true
  | .stopChannelDisagree _ => true
  | .releaseArm _ c _ => Caller.wf c
  | .releaseConfirm _ c _ => Caller.wf c
  | .linkEvent _ slot => below 1024 slot
  | .linkReplyReceived _ slot _ _ _ => below 1024 slot
  | .linkSupervisionTimeout _ slot => below 1024 slot
  | .linkJoinTimeout _ slot => below 1024 slot
  | .beaconSend _ modem => below 8 modem
  | .joinRequest _ modem _ => below 8 modem
  | .neighbourBeacon _ modem n _ => below 8 modem && below 12 n
  | .waggleSend _ modem => below 8 modem
  | .radioCommit _ c => Caller.wf c
  | .radioNeighbourListen _ c n _ => Caller.wf c && below 12 n
  | .linkParamRequest _ c slot _ => Caller.wf c && below 1024 slot
  | .linkUpdateInstant _ slot => below 1024 slot
  | .linkEnd _ c slot => Caller.wf c && below 1024 slot
  | .machineIdWrite _ c slot id => Caller.wf c && below 1024 slot && isU32 id
  | .radioSend _ c _ => Caller.wf c
  | .radioWaggle _ c _ => Caller.wf c
  | .refinLost _ => true
  | .refinBack _ clock => isClock clock
  | .timeOffset _ src _ _ => isSource src
  | .timeSourceQualified _ src => isSource src
  | .timeAcquired _ => true
  | .timeStepArm _ c => Caller.wf c
  | .timeStepDisarm _ c => Caller.wf c
  | .timeStep _ => true
  | .timePulse _ output => below 8 output
  | .timePulseEnd _ output => below 8 output
  | .timePulseCommit _ c output => Caller.wf c && below 8 output
  | .todMessage _ output => below 8 output
  | .timeCapture _ input _ quarter => below 4 input && below 4 quarter
  | .capturePostRetry _ input => below 4 input
  | .ppsTimeOfDay _ c _ => Caller.wf c
  | .ethFrameReceived _ port _ => below 4 port
  | .ethFrameSent _ port => below 4 port
  | .ethAddressAgeing _ mac => isMac mac
  | .ethPortConfig _ c port _ => Caller.wf c && below 4 port
  | .sgmiiControlWord _ port word => below 4 port && isU16 word
  | .ptpCommit _ c => Caller.wf c
  | .ptpSyncReceived _ port _ => below 4 port
  | .ptpAnnounceReceived _ port _ => below 4 port
  | .ptpAnnounceTimeout _ port => below 4 port
  | .ptpSyncTimeout _ port => below 4 port
  | .ptpAnnounceSend _ port => below 4 port
  | .ptpSyncSend _ port => below 4 port
  | .ptpDelayReqSend _ port => below 4 port
  | .ptpDelayReqReceived _ port _ => below 4 port
  | .ptpDelayRespReceived _ port _ => below 4 port
  | .canFrameReceived _ port _ frame => below 8 port && CanFrame.wf frame
  | .canSend _ c _ => Caller.wf c
  | .canCancel _ c _ _ => Caller.wf c
  | .canAttemptEnd _ port buf _ _ => below 8 port && below 129 buf
  | .canRecover _ c port => Caller.wf c && below 8 port
  | .canBusOffRecovered _ port => below 8 port
  | .canIntegrationDone _ port => below 8 port
  | .canPortCommit _ c port => Caller.wf c && below 8 port
  | .canTmCommit _ c => Caller.wf c
  | .canTmBoundary _ => true
  | .canSleep _ c port => Caller.wf c && below 8 port
  | .canSleepEntry _ port => below 8 port
  | .canWakeWrite _ c port => Caller.wf c && below 8 port
  | .canWakeEdge _ port _ => below 8 port
  | .canBufferAck _ c port buf seq => Caller.wf c && below 8 port && below 128 buf && isU16 seq
  | .canFifoPost _ port fifo => below 8 port && below 2 fifo
  | .fetch _ hart timeout => isHart hart && isU32 timeout
  | .fetchGrant _ hart _ => isHart hart
  | .fetchTimeout _ hart => isHart hart
  | .complete _ hart v => isHart hart && isU64 v
  | .decrement _ hart v => isHart hart && isU64 v
  | .submit _ hart idx lo hi => isHart hart && isIndex idx && isU64 lo && isU64 hi
  | .reissue _ hart idx => isHart hart && isIndex idx
  | .peekDescriptor _ hart n look => isHart hart && PeekAt.wf n look
  | .pop _ hart q => isHart hart && isQueue q
  | .queuePeek _ hart q => isHart hart && isQueue q
  | .push _ hart q words => isHart hart && isQueue q && words.all isU32
  | .queueOpen _ hart q => isHart hart && isQueue q
  | .tag _ hart q v => isHart hart && isQueue q && isU64 v
  | .close _ hart q => isHart hart && isQueue q
  | .closeAbandon _ hart q => isHart hart && isQueue q
  | .drop _ hart q => isHart hart && isQueue q
  | .requestWindowSubmit _ hart _ req reply => isHart hart && req.length ≤ 1536 && isU64 reply
  | .replyPost _ hart => isHart hart
  | .answer _ hart token outcome _ => isHart hart && isU16 token && below 256 outcome
  | .appletNoAnswer _ token => isU16 token
  | .keyWrite _ ask _ => Caller.wf ask.caller
  | .keyErase _ ask slot => Caller.wf ask.caller && below 256 slot
  | .keyInvalidate _ ask slot => Caller.wf ask.caller && below 256 slot
  | .keySlotReload _ slot => below 256 slot
  | .seal _ c _ => Caller.wf c
  | .unseal _ c _ => Caller.wf c
  | .forward _ c _ => Caller.wf c
  | .lifecycleProvision _ c _ => Caller.wf c
  | .lifecycleCommission _ c _ => Caller.wf c
  | .lifecycleDecommission _ c _ => Caller.wf c
  | .lifecycleScrap _ c _ => Caller.wf c
  | .updateHeader _ c _ => Caller.wf c
  | .updatePayload _ sid req off total _ => isU32 sid && isU16 req && isU32 off && isU32 total
  | .updateActivate _ c => Caller.wf c
  | .updateConfirm _ c => Caller.wf c
  | .updateReject _ c => Caller.wf c
  | .trialTimeout _ => true
  | .settingsReset _ ask => Caller.wf ask.caller
  | .configExport _ sid req off max => isU32 sid && isU16 req && isU32 off && isU32 max
  | .configImport _ ask _ => Caller.wf ask.caller
  | .configCommitRetry _ => true
  | .boantEnter _ c => Caller.wf c
  | .boantInfo _ port _ => below 4 port
  | .boantHeader _ port _ => below 4 port
  | .boantData _ port _ => below 4 port
  | .boantFinish _ port _ => below 4 port
  | .boantReset _ port _ => below 4 port
  | .por _ => true
  | .bor _ => true
  | .borRelease _ => true
  | .resetNLow _ => true
  | .resetNHigh _ => true
  | .globalWatchdog _ => true
  | .debugReset _ => true
  | .resetChip _ c => Caller.wf c
  | .resetSystem _ c => Caller.wf c
  | .resetIsland _ c island => Caller.wf c && below 12 island
  | .resetBlock _ c island block => Caller.wf c && below 12 island && below 256 block
  | .wipeComplete _ code => below 13 code
  | .releaseRow _ => true
  | .islandClockTimeout _ _ => true
  | .tempHigh _ _ _ => true
  | .thermalTrip _ _ _ => true
  | .thermalTripRelease _ _ => true
  | .marginSample _ _ _ => true
  | .islandStepChange _ _ => true
  | .vreqStep _ => true
  | .sramRowSpare _ _ _ => true
  | .lpddrPageRetire _ _ _ => true
  | .counterSelect _ c n v => Caller.wf c && below 64 n && isU32 v
  | .counterSnapshot _ c => Caller.wf c
  | .logEvent _ code sev island params => isU16 code && below 4 sev && below 12 island && isParams params
  | .logRecordWrite _ => true
  | .logRecordClose _ => true
  | .logMirrorWrite _ _ => true
  | .timeMark _ => true
  | .logQuery _ c _ => Caller.wf c
  | .logSeek _ hart seq => isHart hart && isU64 seq
  | .emit _ hart word params => isHart hart && isU64 word && isParams params
  | .globalWatchdogService _ => true
  | .tempHighClear _ _ => true
  | .timeSourceNotPresent _ src => isSource src
  | .pcsSyncChange _ port _ => below 4 port
  | .canErrorFrame _ port => below 8 port
  | .soFaultEnd _ output _ _ => below 4 output
  | .hyperperiodBoundary _ modem => below 8 modem
  | .bumpJump _ _ _ => true
  | .neighbourSessionOpen _ n _ => below 12 n
  | .neighbourAnswer _ n exch => below 12 n && isU32 exch

end Sys2Proof
end

