-- ==== Sys2Proof/Tests/Slice0.lean ====
section
/-!
SUPPORT. Tests: what the well-formedness of commands refuses, values of the spec's worked examples, and for every statement with
hypotheses a state and operands that meet them together, one conjunct for each of its clauses, in order.
-/

open Sys2Proof Sys2Proof.Machine

section Tests

set_option maxRecDepth 100000
set_option Elab.async false
set_option linter.unusedVariables false

/-! ### Well-formed commands -/

/-- A well-formed command. -/
theorem test_wf_complete : Instr.wf (.complete 3 5 7) = true := by decide
/-- One ill-formed command for each check. -/
theorem test_wf_below : Instr.wf (.timePulse 3 8) = false := by decide
theorem test_wf_u16 : Instr.wf (.sgmiiControlWord 3 0 65536) = false := by decide
theorem test_wf_u32 : Instr.wf (.blockWrite 3 5 7 0x1000 0 4294967296 8 []) = false := by decide
theorem test_wf_u64 : Instr.wf (.logSeek 3 5 (2 ^ 64)) = false := by decide
theorem test_wf_index : Instr.wf (.reissue 3 5 65536) = false := by decide
theorem test_wf_sub : Instr.wf (.coilRead 3 5 1 0x1000 256) = false := by decide
theorem test_wf_hart : Instr.wf (.complete 3 16 0) = false := by decide
theorem test_wf_queue : Instr.wf (.pop 3 5 1024) = false := by decide
theorem test_wf_node : Instr.wf (.usdoUpload 3 0 128 .unicast 0x1000 0) = false := by decide
theorem test_wf_node_zero : Instr.wf (.usdoUpload 3 0 0 .unicast 0x1000 0) = false := by decide
theorem test_wf_bucket : Instr.wf (.combSweep 3 49152) = false := by decide
theorem test_wf_source : Instr.wf (.timeSourceQualified 3 0) = false := by decide
theorem test_wf_clock : Instr.wf (.refinBack 3 3) = false := by decide
theorem test_wf_mac : Instr.wf (.ethAddressAgeing 3 (2 ^ 48)) = false := by decide
theorem test_wf_params : Instr.wf (.emit 3 5 0 (zeros 41)) = false := by decide
theorem test_wf_caller : Instr.wf (.combClearBlocked 3 (.applet 16 0)) = false := by decide
theorem test_wf_can_id : Instr.wf (.canFrameReceived 3 0 3 ⟨0x800, false, false, false, false, false, 2, [7, 8]⟩) = false := by decide
theorem test_wf_can_long : Instr.wf (.canFrameReceived 3 0 3 ⟨0x7FF, false, false, true, false, false, 16, []⟩) = false := by decide

/-- The opcode table gives no row any bits. -/
theorem test_decode_none : decodeTableWord 16 0x1234 = none := rfl

/-! ### Values of the spec's worked examples -/

/-- 04_site_frame_cells_time.md, the point's cell, its CELL32 and its bytes, and the centre. -/
theorem test_cell : cellOf 123456 44641 500 = (285, -53) ∧ cell32 285 (-53) = 0x011DFFCB ∧ leBytes 4 (cell32 285 (-53)) = [0xCB, 0xFF, 0x1D, 0x01]
    ∧ cellCentre 500 285 (-53) = (123409, 44750) := by decide +kernel

/-- 05_comb_claims.md, a hauler's track, steps 3 and 4, with T0 = 100,000. -/
theorem test_widening : widen 250 20 100000 ⟨46, -23, 108214, some 111704⟩ = (some ⟨46, -23, 107799, some 112189⟩, false)
    ∧ widen 250 20 100000 ⟨0, 0, 100000, some 101745⟩ = (some ⟨0, 0, 100000, some 102030⟩, true) := by decide +kernel

/-- 14_ethernet_ptp.md, a one-step Sync through a transparent clock, steps 3, 4 and 6. -/
theorem test_residence : 479215616 + psUnits 176500 + psUnits 45050 = 0x1D6DCCCD ∧ addCorrection 0x32000 0x1D6DCCCD = 0x1D70ECCD
    ∧ tailFor 0 0x32000 0x1D70ECCD = 0x15C5 := by decide +kernel

/-- The published check value of CRC-32C (R198). -/
theorem test_crc32c : crc32c [0x31, 0x32, 0x33, 0x34, 0x35, 0x36, 0x37, 0x38, 0x39] = 0xE3069283 := by decide +kernel

/-- An empty queue idles. -/
theorem test_step_idle : step State.reset = .next State.reset := rfl

/-! ### States and operands that the statements' hypotheses hold of -/

/-- A session of an administrator. -/
def demoSession : Session := { Session.fresh 4 0 2 0 with sid := 5 }
/-- The device after reset with one session, 5. -/
def demoCoil : State := { State.reset with dict := { Dict.reset with sessions := [(5, demoSession)] } }
namespace Wit
/-- A CLAIM of owner 7, tag 4: a disc of 100 mm at the origin of the site plane, held 5 s from CTIME 2000. -/
def claim (op : Nat) : Bytes :=
  [byte op, 0, 7, 0, 4, 0, 0, 1, 1, 0, 0, 0, 0x88, 0x13, 0, 0] ++ leBytes 8 2000 ++ [1, 0, 0, 0, 0, 0, 0, 0] ++ leBytes 4 100 ++ zeros 4
    ++ zeros 16
/-- An AREA of authority 1536, tag 4: a triangle of 500 mm, from CTIME 2000 for 5 s. -/
def area (op flags : Nat) : Bytes :=
  [byte op, byte flags, 0, 6, 4, 0, 0, 4, 1, 0, 0, 0, 0x88, 0x13, 0, 0] ++ leBytes 8 2000 ++ [3, 0, 0, 0, 0, 0, 0, 0]
    ++ leBytes 4 0 ++ leBytes 4 0 ++ leBytes 4 500 ++ leBytes 4 0 ++ leBytes 4 0 ++ leBytes 4 500
/-- A RELEASE of tag 4 of owner 7. -/
def release : Bytes := [4, 0, 7, 0, 4, 0, 0, 0] ++ zeros 24
/-- A QUERY of the cell at the origin. -/
def query : Bytes := [6, 0, 0, 0, 0, 0, 0, 0, 1, 0, 0, 0, 0, 0, 0, 0] ++ leBytes 8 2000 ++ zeros 12
/-- The values of an owner that an operation finds. -/
def pars : CombPars := ⟨250, 20, 200, 500⟩
/-- Operation 3, accepted at CTIME 1000. -/
def flight (op : FlightOp) (phase : OpPhase) : Flight := ⟨3, 1000, op, true, phase, pars, [], [], []⟩
/-- The Comb with a site frame and time, and one accepted request, which a session waits for. -/
def comb (f : Flight) (r : CombReq) : State :=
  let x : InFlight := ⟨Caller.req r.caller, 6, key 0x4020 0, 0⟩
  let s : State := { State.reset with now := 1000000000, dict := { Dict.reset with sessions := [(5, { demoSession with flight := [x] })] } }
  let s : State := { s with tb := { (Timebase.reset 0) with st := .locked, anchor := 0 } }
  (({ s with keys := { Keyring.reset with life := .commissioned, slots := [(4, { KeySlot.empty 0 with usage := 1, length := 256, st := .valid, material := zeros 32 })] }, comb := { Comb.reset with flight := [f], seqLast := f.seq } } : State).setVal (key 0x4007 0) [1])
def entry : Entry := ⟨0, 0, 7, 4, 1500, 9000, false, false, false, false, 0, 3, 0⟩
/-- The same with an entry and a track of owner 7, tag 4. -/
def claimed (f : Flight) (r : CombReq) : State :=
  let s := comb f r
  { s with comb := { s.comb with entries := [entry], tracks := [⟨7, 4, claim 1, 1000, none, 0⟩] } }
/-- A Comb with a site frame and time, and nothing in flight. -/
def calm : State :=
  { comb (flight (.site .firmware []) .judging) ⟨.coil 5 9, []⟩ with comb := Comb.reset }
/-- The triangle 0, 10 m, 10 m of a region, and one beside it. -/
def ownPoly : Bytes := leBytes 4 0 ++ leBytes 4 0 ++ leBytes 4 10000 ++ leBytes 4 0 ++ leBytes 4 0 ++ leBytes 4 10000
def nbrPoly : Bytes := leBytes 4 10000 ++ leBytes 4 0 ++ leBytes 4 10000 ++ leBytes 4 10000 ++ leBytes 4 0 ++ leBytes 4 10000
/-- Neighbour 6, whose sessions use key slot 4. -/
def nbrBytes : Bytes := [6, 0, 4, 0, 3, 0, 0, 0] ++ zeros 16 ++ nbrPoly
/-- A neighbour in force. -/
def joined : State :=
  ((calm.setVal (key 0x4046 1) nbrBytes).setVal (key 0x4045 0) ownPoly).setVal (key 0x4047 0) (leBytes 4 5000)
/-- A region message of neighbour 6. -/
def msg (type exch count : Nat) : Bytes := [byte type, 0, 6, 0] ++ leBytes 4 exch ++ leBytes 4 count ++ zeros 4
/-- A mirror record of machine 0, index 3, in the cell (3, 3) from CTIME 5000. -/
def mirror (dur : Nat) : Bytes := leBytes 4 (cell32 0 0) ++ [0, 0, 3, 0] ++ leBytes 5 5000 ++ leBytes 2 dur ++ [0]
end Wit
namespace Wit
def chan : Chan := ⟨⟨0, 5, 1⟩, 0, 0, [], .locked, 0, 0, 0, true, false, false, 450, [], 0, 0, false⟩
/-- Port GS0 clocked and enabled with its automatic gain, and one channel of L1 C/A on it. -/
def tracked (c : Chan) : State :=
  { calm with track := { Tracking.reset with ports := { GsPort.reset with clock := true } :: List.replicate 3 GsPort.reset,
                                             vals := { TrackVals.reset with gs := leBytes 8 (0x1080000000002100 + 2 ^ 58) :: List.replicate 3 gsDefault },
                                             chans := [(3, c)] } }
end Wit
namespace Wit
/-- An exposure record of L1: 1 ms of 4,092 one-bit I and Q samples, exposure 9. -/
def exposure : Bytes :=
  [1, 1, 0, 1, 9, 0, 0, 0] ++ leBytes 8 500000000 ++ leBytes 4 100 ++ leBytes 4 0 ++ leBytes 4 5000 ++ zeros 20 ++ leBytes 4 1000 ++ zeros 12 ++ zeros 1024
/-- As posted for slot 3, machine 77. -/
def exposurePkt : Bytes := leBytes 8 900000000 ++ [3, 0, 0, 0] ++ leBytes 4 77 ++ exposure
def sky (n : Nat) : List SkySignal := (List.range n).map fun i => ⟨0, i + 1, 1, 40, some 100, true⟩
/-- A search of nothing, of cost 5. -/
def search : ExpSearch := ⟨[], (1, 1), true, 100, 100, 100, 5⟩
/-- A capture without samples. -/
def dark : Snapshot := ⟨[], []⟩
def latent (x : Option ExpSearch) : Latent := ⟨3, 900000000, 77, exposure, x⟩
/-- The Developer with an exposure of a machine that holds its slot. -/
def waiting (x : Option ExpSearch) : State :=
  { calm with dev := { State.reset.dev with latents := [latent x] } }.setVal (key (0x7000 + 3) 1) (leBytes 4 77)
end Wit
namespace Wit
/-- A base in a state, with a reference set by a commit, whose Tracking has had the epoch of 1 s. -/
def base (st : Nat) : State :=
  ({ calm with base := { Base.reset with st := st }, track := { Tracking.reset with nominal := some 1000000000 } }.setVal (key 0x3609 0) [1])
/-- An observation record of one signal, obs_seq 9, t_rx 0.5 s. -/
def obsRec : Bytes :=
  [1, 0, 1, 0, 9, 0, 0, 0] ++ leBytes 8 500000000 ++ zeros 12 ++ leBytes 4 1000 ++ zeros 16 ++ leBytes 16 (1 * 2 ^ 112)
def obsPkt : Bytes := leBytes 8 900000000 ++ [3, 0, 0, 0] ++ leBytes 4 77 ++ obsRec
def epoch (p : EpochPhase) : RoverEpoch := ⟨3, 77, 900000000, obsRec, p⟩
/-- A rover epoch of a machine that holds its slot, with a base epoch at 0.5 s. -/
def rover (p : EpochPhase) : State :=
  ({ base 2 with rover := { Rover.reset with epochs := [epoch p] }, base := { Base.reset with st := 2, epochs := [⟨500000000, [], []⟩] } }.setVal (key 0x7003 1)
    (leBytes 4 77))
end Wit
namespace Wit
/-- The monitor with slot 3 monitored and operations waiting. -/
def monitored (ops : List (Nat × ConfOp)) : State :=
  { calm with conf := { Conf.reset with slots := [(3, { ConfSlot.reset with since := some 0, ages := [some 0, some 0, some 0] })], ops := ops } }
def reported : RepPos := ⟨900000000, 0, 0, 0, 0, 0, 100⟩
/-- A swarm command: mode 2 at 2 s, deadline 3 s. -/
def swarm : Bytes := [2] ++ zeros 7 ++ leBytes 8 2000000000 ++ leBytes 8 3000000000
def swarmed (applied : Bool) : State :=
  let s := monitored []
  { s with conf := { s.conf with swarm := some ⟨2, 2000000000, 3000000000, applied⟩, slots := s.conf.slots.map fun e => (e.1, { e.2 with ackAhead := some 2 }) } }
end Wit
namespace Wit
/-- Stop input 0 in equivalent mode on the all latch, and a pin of it low. -/
def stopIn (i : StopIn) : State :=
  ({ calm with stop := { StopBath.reset with ins := i :: List.replicate 3 StopIn.reset } }).setVal (key 0x4850 1) (leBytes 4 (1 * 2 ^ 30 + 1))
/-- Stop output 0 on the group 5 latch, enabled and pulsed. -/
def stopOut (o : StopOut) : State :=
  ({ calm with stop := { StopBath.reset with outs := o :: List.replicate 3 StopOut.reset } }).setVal (key 0x4852 1)
    (leBytes 4 (1 * 2 ^ 30 + 5 * 2 ^ 24 + 2 ^ 23 + 2 ^ 22 + 2 ^ 16))
/-- A device in service with every slot in go. -/
def going : State :=
  let ch : StopChan := StopChan.reset.latched ⟨0, [], [], []⟩
  ({ calm with stop := { StopBath.reset with a := ch, b := ch } } : State).refreshGo
end Wit
namespace Wit
/-- All stopped, and machine 5 besides. -/
def latched : StopBath :=
  let ch : StopChan := StopChan.reset.latched ⟨0x0800, [], [], [(5, 0x10)]⟩
  { StopBath.reset with a := ch, b := ch }
end Wit
namespace Wit
/-- Modem 0 on, hyperperiod 200 ms, with one channel map. -/
def modemBytes : Bytes :=
  [1, 7, 4, 15] ++ leBytes 2 400 ++ leBytes 2 200 ++ leBytes 2 0 ++ [0, 2, 14, 46] ++ leBytes 2 128 ++ leBytes 2 100 ++ [3, 0, 0, 0, 0, 0]
def linkPar : LinkPar := ⟨50, 400, 0, 0, 5, 20, 3, 128, 256, 7⟩
def link (st : LinkState) : Link :=
  { st := st, modem := 0, linkId := 77, first := 1015000000, base := 0, next := 0, params := linkPar.bytes, offset := 600, chans := [], pend := none, held := false,
    txCount := 0, rxHigh := 0, sn := false, nesn := false, sent := [], queue := [], linkKey := zeros 16, tokenKey := zeros 32, keyOk := true,
    joinSlot := 8, joinGen := 0, lastRx := 1000000000, awaiting := none, swarm := zeros 20, stopBody := [], partials := [], msgs := [], msgNext := 0,
    events := 0, noReply := 0, micFails := 0, replays := 0, rssi := -128 }
/-- A device with modem 0 on, beacon key in slot 6, waggle key in slot 7, join key in slot 8, machine 77 in slot 3, and links. -/
def radio (links : Tbl Link) : State :=
  let k := fun usage => { KeySlot.empty 0 with usage := usage, length := 256, st := .valid, material := zeros 32 }
  let s : State := { calm with keys := { Keyring.reset with life := .commissioned, slots := [(6, k 4), (7, k 3), (8, k 2)] },
                               radio := { Radio.reset with links := links, modems := { Modem.reset with value := modemBytes, waggle := some 100 } :: List.replicate 7 Modem.reset } }
  ((((s.setVal (key 0x2C0B 0) (leBytes 2 6)).setVal (key 0x2C0A 0) (leBytes 2 7)).setVal (key 0x2C09 0) (leBytes 2 8)).setVal (key 0x7003 1) (leBytes 4 77))
/-- A frame of the machine on that link. -/
def reply (flags counter : Nat) (plain : Bytes) : RadioFrame := devFrame 0x21 flags 77 counter 0 (zeros 16) plain
end Wit
namespace Wit
/-- The master of another clock, as its Announce, Sync or Delay_Resp says it. -/
def ptpMsg (mtype seqId : Nat) : PtpMsg :=
  ⟨mtype, 0, seqId, 0x112233FFFE445566 * 65536 + 1, 0, false, 999000000, 0, 0, 0, none, 100, 6, 0x21, 0x4E5D, 100, 0x112233FFFE445566, 0, 0x20, 37, true⟩
/-- A frame of `len` bytes without its FCS, tagged with priority 5. -/
def ethFrame (dst len : Nat) : Bytes := beBytes 6 dst ++ beBytes 6 0x0A0B0C0D0E0F ++ [0x81, 0, 0xA0, 0, 8, 0, 1, 2] ++ zeros (len - 20)
/-- Ports 0 and 1 enabled with links of 1 Gbit/s and PTP roles. -/
def eth (p0 p1 : EthPort) (role : Nat) : State :=
  let cfg : Bytes := [0, 0, 0, 0x20, 0x5F, 0, 0, 0x20]
  let ptp : Bytes := [0, 0, 0, 3, 0, 1, 0, byte (role * 32 + 4)]
  let s : State := { calm with net := { Net.reset with ports := [p0, p1, EthPort.reset 0 0, EthPort.reset 0 0] } }
  ((((s.setVal (key 0x2400 1) cfg).setVal (key 0x2400 2) cfg).setVal (key 0x2453 1) ptp).setVal (key 0x2453 2) ptp)
def linked (role st : Nat) : EthPort := { EthPort.reset role 0 with link := 3, pcs := true, ptp := st }
end Wit
namespace Wit
/-- Port CP0 in normal mode with FD, buffer 0 for receiving 0x123, buffer 1 for sending 0x321, FIFO 0 for all of 0x4xx. -/
def can (p : CanPort) : State :=
  let s : State := { calm with can := { Can.reset with ports := p :: List.replicate 7 (CanPort.reset 0) } }
  (((s.setVal (key 0x2820 3) (leBytes 4 (2 ^ 30 + 2 ^ 29 + 0x320000))).setVal (key 0x2900 1) (leBytes 8 (2 ^ 62 + 0x123 * 2 ^ 29 + 0x7FF))).setVal
    (key 0x2900 2) (leBytes 8 (2 ^ 63 + 0x321 * 2 ^ 29))).setVal (key 0x29C0 1) (leBytes 8 (2 ^ 62 + 0x400 * 2 ^ 29 + 0x700))
def canFrame (id : Nat) : CanFrame := ⟨id, false, false, false, false, false, 2, [7, 8]⟩
def canSend : CanSend := ⟨1, .firmware, 0, canFrame 0x321, 0, none⟩
end Wit
namespace Wit
/-- A task of the firmware partition. -/
def task (st : TaskState) (count : Nat) : Desc := { Desc.free false with st := st, count := count, entry := 3, prio := 2 }
/-- Hart 0 with a task or none, some descriptors, and queue 5 with packets. -/
def fabric (h : Hart) (brood : Tbl Desc) (pkts : List Pkt) : State :=
  ({ calm with fabric := { Fabric.reset with harts := h :: List.replicate 15 Hart.reset, brood := brood, queues := [(5, ⟨pkts, 0⟩)], pktNext := 9 } }).setVal
    (key 0x5100 5) (leBytes 8 (0xFFFF * 2 ^ 40))
def busy : Hart := { Hart.reset with task := some 7 }
def asking : Hart := { Hart.reset with fetch := some (5, 0), timeout := 10 }
end Wit
namespace Wit
def key32 : KeySlot := { KeySlot.empty 0 with usage := 1, length := 32, st := .valid, persistent := true, ceiling := 3, material := zeros 32 }
/-- A life-cycle state with one owner's key in slot 4. -/
def life (l : Lifecycle) : State := { calm with keys := { Keyring.reset with life := l, slots := [(4, key32)] } }
/-- The same after power-on, where every machine is stopped. -/
def lifeStopped (l : Lifecycle) : State := { life l with stop := StopBath.reset }
end Wit
namespace Wit
/-- An image header of a kind, its lengths and hashes. -/
def header (kind l0 l1 : Nat) (h0 h1 : Bytes) : Bytes :=
  ascii "DXIM" ++ [1, byte kind, 0, 0] ++ leBytes 4 7 ++ zeros 4 ++ leBytes 4 l0 ++ leBytes 4 l1 ++ zeros 8 ++ h0 ++ h1 ++ zeros 64 ++ zeros 96 ++ zeros 224
def bundleHeader : Bytes := header 2 2 0 (zeros 48) (zeros 48)
/-- Every machine stopped, session 5 of an administrator, and an update of its own begun. -/
def updating : State :=
  let s := { calm with stop := StopBath.reset, dict := { Dict.reset with sessions := [(5, demoSession)], holds := [⟨0x1210, .coil 5, 0⟩] } }
  { s with boot := { s.boot with update := some ⟨bundleHeader⟩ } }
/-- A trial of slot 1 that runs since 0. -/
def trialling : State :=
  let s := { calm with stop := StopBath.reset }
  let b := { s.boot with trial := some ⟨1, 1, 60⟩, booted := 1, running := some 0 }
  { s with boot := { b with imgs := modNth b.imgs 1 fun x => { x with st := .trial } } }
/-- In Boant. -/
def boant : State := let s := calm; { s with boot := { s.boot with boant := true, boantSlot := 1 } }
def boantMsg (op off : Nat) (d : Bytes) : Bytes := [byte op, 0, 9, 0] ++ leBytes 4 off ++ d
def twoSegs : Bytes := header 1 1 1 (Sha.sha384 [5]) (Sha.sha384 [6])
end Wit
namespace Wit
/-- The same with session 5 of an administrator's privilege. -/
def admin (s : State) : State := { s with dict := { s.dict with sessions := [(5, { demoSession with priv := 3 })] } }
end Wit
namespace Wit
/-- A qualified source that is `off` ns off, and four sources of which it is the second. -/
def source (off : Int) (dis : Bool) : TimeSrc :=
  { TimeSrc.none with present := true, qualified := true, disagree := dis, last := off, window := [(0, off * fineUnit)] }
def timeFrom (st : TimeState) (x : TimeSrc) : State :=
  { State.reset with tb := { Timebase.reset 0 with st := st, srcs := [TimeSrc.none, x, TimeSrc.none, TimeSrc.none] } }
/-- Output 0 pulses once a second for 1 ms in mode `m`, gated at quality `g`. -/
def pulsing (m g : Nat) (o : TimeOut) : State :=
  let s : State := { timeFrom .locked (source 0 false) with outs := o :: List.replicate 7 TimeOut.reset }
  s.setVal (key 0x2100 2) (zeros 8 ++ [0, 0, byte m, 0, byte g, 0, 0, 0] ++ leBytes 8 1000000000 ++ leBytes 4 1000000 ++ [0, 0, 0, 0])
/-- Capture 0 on, both edges. -/
def capturing : State := calm.setVal (key 0x2200 0) [7]
/-- USDO served on CAN port 0, which is on the bus. -/
def usdo : State := ((can (CanPort.reset 2)).setVal (key 0x2810 1) [1]).setVal (key 0x2812 0) [2]
end Wit

theorem test_wit_StepTakesFront :
    (let s : State := { State.reset with pending := [.por ⟨3, .none⟩] }
      let c : Instr := .por ⟨3, .none⟩
      let rest : List Instr := []
      s.pending = c :: rest)
    ∧ (let s : State := State.reset
      s.pending = []) := by
  refine ⟨?_, ?_⟩ <;> decide +kernel

theorem test_wit_ResetsLatchAll :
    (let s : State := Wit.lifeStopped .commissioned
      let t : Nat := 3
      let c : Caller := .firmware
      let v : Bytes := [2, 0, 0, 0]
      let a := s.advance t
      (v = [1, 0, 0, 0] ∨ v = [2, 0, 0, 0]) ∧ a.writes c 0x1301 0 v = true ∧ a.stoppedAll = true) := by decide +kernel

theorem test_wit_ControllerIdRange :
    (let s : State := Wit.calm
      let t : Nat := 0
      let sid : Nat := 5
      let req : Nat := 10
      let v : Bytes := [0, 0x40]
      let a := s.advance t
      a.opens (.coil sid req) .write 2 0x1005 0 = true ∧ v.length = 2 ∧ 16383 < u v 0 2)
    ∧ (let s : State := Wit.calm
      let t : Nat := 0
      let c : Caller := .firmware
      let v : Bytes := [0, 0x40]
      let a := s.advance t
      a.opens c .write 2 0x1005 0 = true ∧ v.length = 2 ∧ 16383 < u v 0 2)
    ∧ (let s : State := Wit.calm
      let t : Nat := 0
      let c : Caller := .firmware
      let v : Bytes := [0xFF, 0x3F]
      let a := s.advance t
      a.opens c .write 2 0x1005 0 = true ∧ v.length = 2 ∧ u v 0 2 ≤ 16383 ∧ a.settings.readOnly = false) := by
  refine ⟨?_, ?_, ?_⟩ <;> decide +kernel

theorem test_wit_CapBeyondSilicon :
    (let s : State := Wit.admin (({ Wit.calm with silicon := { Silicon.part with tier := 256 } }).setVal (key 0x1010 1) [0x82, 0, 0, 0])
      let t : Nat := 0
      let sid : Nat := 5
      let req : Nat := 10
      let r : ObjRow := (findObj 0x1010 0).get!
      let a := s.advance t
      let v := a.cfg 0x1010 1
      let beyond := bit v 7 && (decide (a.silicon.tier < capTier v) || (capService v && !a.silicon.sService) || (capPackageA v && !a.silicon.packageA))
      a.admits (.coil sid req) 5 (key 0x1010 0) 0 = true ∧ a.front (.coil sid req) .commit 0x1010 0 = .ok r ∧ a.gasketOf r = none ∧ a.heldByOther (.coil sid req) 0x1010 = false ∧ a.settings.readOnly = false ∧ beyond = true)
    ∧ (let s : State := Wit.admin (({ Wit.calm with silicon := { Silicon.part with tier := 256 } }).setVal (key 0x1010 1) [0x82, 0, 0, 0])
      let t : Nat := 0
      let c : Caller := .firmware
      let a := s.advance t
      let v := a.cfg 0x1010 1
      let beyond := bit v 7 && (decide (a.silicon.tier < capTier v) || (capService v && !a.silicon.sService) || (capPackageA v && !a.silicon.packageA))
      a.writes c 0x1010 0 [1] = true ∧ beyond = true) := by
  refine ⟨?_, ?_⟩ <;> decide +kernel

theorem test_wit_RefusedCommitKeeps :
    (let s : State := Wit.admin (({ Wit.calm with silicon := { Silicon.part with tier := 256 } }).setVal (key 0x1010 1) [0x82, 0, 0, 0])
      let t : Nat := 0
      let sid : Nat := 5
      let req : Nat := 10
      let idx : Nat := 0x1010
      let r : ObjRow := (findObj 0x1010 0).get!
      let x : Ans := Ans.bad 0x05100001
      let a := s.advance t
      idx ∈ commitIndices ∧ a.admits (.coil sid req) 5 (key idx 0) 0 = true ∧ a.front (.coil sid req) .commit idx 0 = .ok r ∧ a.gasketOf r = none ∧ a.heldByOther (.coil sid req) idx = false ∧ a.settings.readOnly = false ∧ a.groupCheck idx = some x)
    ∧ (let s : State := Wit.admin (({ Wit.calm with silicon := { Silicon.part with tier := 256 } }).setVal (key 0x1010 1) [0x82, 0, 0, 0])
      let t : Nat := 0
      let c : Caller := .firmware
      let idx : Nat := 0x1010
      let x : Ans := Ans.bad 0x05100001
      let a := s.advance t
      idx ∈ commitIndices ∧ a.writes c idx 0 [1] = true ∧ a.groupCheck idx = some x) := by
  refine ⟨?_, ?_⟩ <;> decide +kernel

theorem test_wit_ReadOnlySettings :
    (let s : State := { Wit.calm with settings := { Wit.calm.settings with readOnly := true } }
      let t : Nat := 0
      let sid : Nat := 5
      let req : Nat := 10
      let idx : Nat := 0x1005
      let sub : Nat := 0
      let v : Bytes := [4, 0]
      let r : ObjRow := (findObj 0x1005 0).get!
      let a := s.advance t
      a.admits (.coil sid req) 2 (key idx sub) 0 = true ∧ a.front (.coil sid req) .write idx sub = .ok r ∧ lengthCheck r v.length = none ∧ a.valueCheck r idx sub v = none ∧ a.blockRefuses (.coil sid req) r idx sub v = false ∧ ((∀ g, r.heldGroup idx = some g → a.heldByOther (.coil sid req) g = false)) ∧ v.length ≤ 1348 ∧ a.settings.readOnly = true ∧ a.storesPersistent r idx sub = true)
    ∧ (let s : State := { Wit.calm with settings := { Wit.calm.settings with readOnly := true } }
      let t : Nat := 0
      let sid : Nat := 5
      let req : Nat := 10
      let idx : Nat := 0x3002
      let r : ObjRow := (findObj 0x3002 0).get!
      let a := s.advance t
      a.admits (.coil sid req) 5 (key idx 0) 0 = true ∧ a.front (.coil sid req) .commit idx 0 = .ok r ∧ a.heldByOther (.coil sid req) idx = false ∧ a.settings.readOnly = true ∧ ((a.groupKeys idx).any fun m => a.persists m.1) = true) := by
  refine ⟨?_, ?_⟩ <;> decide +kernel

theorem test_wit_PowerCycleSeq :
    (let s : State := { State.reset with log := { Logbook.reset [] with mirror := [{ cycle := 4, count := 1, ev := ⟨0x1101, 3, 4, []⟩, mirrored := true, satur := false, synth := false, rep := 0, damaged := false }, { cycle := 7, count := 1, ev := ⟨0x1101, 3, 4, []⟩, mirrored := true, satur := false, synth := false, rep := 0, damaged := true }] } }
      let t : Nat := 3
      let k : Torn := .mirror
      let a := s.advance t
      let top (l : Logbook) : List Nat := (l.mirror.filter fun r => !r.damaged).map LogRec.cycle
      let m := if k = .mirror then a.log.torn else a.log
      s.sized) := by decide +kernel

theorem test_wit_LowSeverityEvents :
    (let s : State := Wit.calm.setVal (key 0x1408 0) [2]
      let e : LogEv := ⟨0x1101, 1, 4, []⟩
      e.sev < s.cfg 0x1408 0)
    ∧ (let s : State := Wit.calm.setVal (key 0x1408 0) [2]
      let t : Nat := 3
      let code : Nat := 0x1101
      let sev : Nat := 1
      let island : Nat := 4
      let params : Bytes := [1, 2]
      let a := s.advance t
      sev < a.cfg 0x1408 0)
    ∧ (let s : State := Wit.calm.setVal (key 0x1408 0) [2]
      let t : Nat := 0
      let h : Nat := 15
      let word : Nat := 0x8001 + 1 * 2 ^ 16 + 3 * 2 ^ 24
      let stage : Bytes := [1, 2, 3, 4]
      let a := s.advance t
      a.hartRuns h = true ∧ a.up .aon = true ∧ emitOk word = true ∧ bits word 16 3 < a.cfg 0x1408 0) := by
  refine ⟨?_, ?_, ?_⟩ <;> decide +kernel

theorem test_wit_ReadsAnswer :
    (let s : State := Wit.calm
      let t : Nat := 0
      let sid : Nat := 5
      let req : Nat := 10
      let idx : Nat := 0x1005
      let sub : Nat := 0
      let a := s.advance t
      a.reads (.coil sid req) 1 idx sub 0 = true ∧ idx ≠ 0x1230)
    ∧ (let s : State := Wit.calm
      let t : Nat := 0
      let sid : Nat := 5
      let req : Nat := 10
      let idx : Nat := 0x1001
      let sub : Nat := 0
      let off : Nat := 4
      let max : Nat := 1348
      let a := s.advance t
      a.reads (.coil sid req) 3 idx sub off = true ∧ (idx ≠ 0x1230 ∨ off ≠ 0) ∧ 1 ≤ max ∧ max ≤ 1348)
    ∧ (let s : State := Wit.usdo
      let t : Nat := 0
      let port : Nat := 0
      let client : Nat := 9
      let idx : Nat := 0x1005
      let sub : Nat := 0
      let a := s.advance t
      a.servesUsdo port = true ∧ a.canUp port = true ∧ a.reads (.usdo port client) 0 idx sub 0 = true ∧ idx ≠ 0x1230)
    ∧ (let s : State := Wit.usdo
      let t : Nat := 0
      let port : Nat := 0
      let client : Nat := 9
      let idx : Nat := 0x1005
      let sub : Nat := 0
      let kind : UsdoKind := .broadcast
      let a := s.advance t
      a.servesUsdo port = true ∧ a.canUp port = true ∧ a.up .compute = true ∧ kind ≠ .unicast)
    ∧ (let s : State := Wit.calm
      let t : Nat := 0
      let sid : Nat := 5
      let req : Nat := 10
      let idx : Nat := 0x1005
      let sub : Nat := 0
      let hdr : Bytes := [1, 3, 0, 0, 5, 0, 0, 0, 1, 0, 0, 0, 0, 0, 0, 0]
      let body : Sealed := { plain := [1, 0, 10, 0, 5, 16, 0, 0] ++ zeros 12, key := [], nonce := coilNonce [] 1, aad := hdr, intact := true }
      let a := s.advance t
      a.opened hdr body 3 = some sid ∧ a.reads (.coil sid req) 1 idx sub 0 = true ∧ idx ≠ 0x1230 ∧ (a.readVal idx sub).length ≤ 1348 ∧ records (body.plain.length / 20 + 1) body.plain
      = [{ opcode := 1, flags := 0, req := req, idx := idx, sub := sub, res := 0, offset := 0, param := 0, data := [] }])
    ∧ (let s : State := Wit.calm
      let t : Nat := 0
      let sid : Nat := 5
      let req : Nat := 10
      let idx : Nat := 0x1410
      let sub : Nat := 0
      let total : Nat := 12
      let data : Bytes := [1, 2, 3]
      let a := s.advance t
      a.admits (.coil sid req) 6 (key idx sub) 0 = true ∧ a.segmentCheck (.coil sid req) 6 idx sub total = none ∧ idx ≠ 0x1211 ∧ data.length < total ∧ data.length ≤ 1348)
    ∧ (let s : State := Wit.calm
      let t : Nat := 0
      let sid : Nat := 5
      let req : Nat := 10
      let data : Bytes := zeros 8 ++ [20, 0, 0, 1]
      let a := s.advance t
      a.requests (.coil sid req) 0x1410 data = true) := by
  refine ⟨?_, ?_, ?_, ?_, ?_, ?_, ?_⟩ <;> decide +kernel

theorem test_wit_WritesStore :
    (let s : State := Wit.calm
      let t : Nat := 0
      let c : Caller := .firmware
      let idx : Nat := 0x1005
      let sub : Nat := 0
      let v : Bytes := [7, 0]
      let r : ObjRow := (findObj 0x1005 0).getD default
      let a := s.advance t
      a.writes c idx sub v = true ∧ (idx < 0x6000 ∨ 0x7000 ≤ idx) ∧ findObj idx sub = some r ∧ r.isCommit = false ∧ r.acc = 2 ∧ idx ≠ 0x3000 ∧ ¬ (0x2820 ≤ idx ∧ idx < 0x2828 ∧ sub = 8) ∧ ¬ (0x7000 ≤ idx ∧ sub = 1) ∧ a.blockCheck idx sub v = none)
    ∧ (let s : State := Wit.calm
      let t : Nat := 0
      let c : Caller := .firmware
      let idx : Nat := 0x1010
      let sub : Nat := 1
      let v : Bytes := [0x80]
      let r : ObjRow := (findObj 0x1010 1).getD default
      let a := s.advance t
      a.writes c idx sub v = true ∧ (idx < 0x6000 ∨ 0x7000 ≤ idx) ∧ findObj idx sub = some r ∧ r.isCommit = false ∧ r.acc = 4 ∧ r.commit ≠ 0)
    ∧ (let s : State := Wit.calm
      let t : Nat := 0
      let sid : Nat := 5
      let req : Nat := 10
      let idx : Nat := 0x1005
      let sub : Nat := 0
      let v : Bytes := [7, 0]
      let r : ObjRow := (findObj 0x1005 0).getD default
      let a := s.advance t
      a.writes (.coil sid req) idx sub v = true ∧ (idx < 0x6000 ∨ 0x7000 ≤ idx) ∧ findObj idx sub = some r ∧ r.isCommit = false ∧ r.acc = 2 ∧ idx ≠ 0x3000 ∧ ¬ (0x2820 ≤ idx ∧ idx < 0x2828 ∧ sub = 8) ∧ ¬ (0x7000 ≤ idx ∧ sub = 1) ∧ a.blockCheck idx sub v = none ∧ v.length ≤ 1348)
    ∧ (let s : State := Wit.usdo
      let t : Nat := 0
      let port : Nat := 0
      let client : Nat := 9
      let idx : Nat := 0x1408
      let sub : Nat := 0
      let ty : CanType := .unsigned 8
      let v : Bytes := [1]
      let r : ObjRow := (findObj 0x1408 0).getD default
      let a := s.advance t
      a.servesUsdo port = true ∧ a.canUp port = true ∧ canTypeOf r.ty = ty ∧ a.writes (.usdo port client) idx sub v = true ∧ (idx < 0x6000 ∨ 0x7000 ≤ idx) ∧ findObj idx sub = some r ∧ r.isCommit = false ∧ r.acc = 2 ∧ idx ≠ 0x3000 ∧ ¬ (0x2820 ≤ idx ∧ idx < 0x2828 ∧ sub = 8) ∧ ¬ (0x7000 ≤ idx ∧ sub = 1) ∧ a.blockCheck idx sub v = none)
    ∧ (let s : State := Wit.calm
      let t : Nat := 0
      let sid : Nat := 5
      let req : Nat := 10
      let idx : Nat := 0x1005
      let sub : Nat := 0
      let total : Nat := 2
      let data : Bytes := [1]
      let a := s.advance t
      a.admits (.coil sid req) 4 (key idx sub) 0 = true ∧ a.segmentCheck (.coil sid req) 4 idx sub total = none ∧ idx ≠ 0x1211 ∧ data.length < total ∧ data.length ≤ 1348) := by
  refine ⟨?_, ?_, ?_, ?_, ?_⟩ <;> decide +kernel

theorem test_wit_StageGroups :
    (let s : State := Wit.calm
      let t : Nat := 0
      let w : Caller := .firmware
      let a := s.advance t
      a.writes w 0x1010 0 [1] = true ∧ a.groupCheck 0x1010 = none)
    ∧ (let s : State := Wit.calm
      let t : Nat := 0
      let w : Caller := .firmware
      let a := s.advance t
      a.writes w 0x3002 0 [1] = true ∧ a.groupCheck 0x3002 = none)
    ∧ (let s : State := Wit.calm.setVal (key 0x3601 1) (leBytes 8 63781370000)
      let t : Nat := 0
      let w : Caller := .firmware
      let a := s.advance t
      a.writes w 0x3600 0 [1] = true ∧ a.groupCheck 0x3600 = none)
    ∧ (let s : State := Wit.calm
      let t : Nat := 0
      let w : Caller := .firmware
      let a := s.advance t
      a.writes w 0x4800 0 [1] = true ∧ a.groupCheck 0x4800 = none)
    ∧ (let s : State := Wit.calm
      let t : Nat := 0
      let w : Caller := .firmware
      let a := s.advance t
      a.writes w 0x2440 0 [1] = true ∧ a.groupCheck 0x2440 = none)
    ∧ (let s : State := Wit.calm.setVal (key 0x2830 1) (zeros 8 ++ leBytes 4 1000 ++ zeros 4)
      let t : Nat := 0
      let w : Caller := .firmware
      let a := s.advance t
      a.writes w 0x2830 0 [1] = true ∧ a.groupCheck 0x2830 = none)
    ∧ (let s : State := Wit.can (CanPort.reset 0)
      let t : Nat := 0
      let port : Nat := 0
      let w : Caller := .firmware
      let a := s.advance t
      port < 8 ∧ a.writes w (0x2820 + port) 0 [1] = true ∧ a.groupCheck (0x2820 + port) = none)
    ∧ (let s : State := Wit.calm
      let t : Nat := 0
      let sid : Nat := 5
      let req : Nat := 10
      let idx : Nat := 0x3002
      let r : ObjRow := (findObj 0x3002 0).getD default
      let a := s.advance t
      a.admits (.coil sid req) 5 (key idx 0) 0 = true ∧ a.front (.coil sid req) .commit idx 0 = .ok r ∧ a.gasketOf r = none ∧ idx ∈ commitIndices ∧ idx ≠ 0x4000 ∧ idx ≠ 0x4040 ∧ idx ≠ 0x2C00 ∧ a.heldByOther (.coil sid req) idx = false ∧ a.settings.readOnly = false ∧ a.groupCheck idx = none)
    ∧ (let s : State := Wit.calm
      let t : Nat := 0
      let sid : Nat := 5
      let req : Nat := 10
      let idx : Nat := 0x3002
      let r : ObjRow := (findObj 0x3002 0).getD default
      let a := s.advance t
      a.admits (.coil sid req) 5 (key idx 0) 0 = true ∧ a.front (.coil sid req) .commit idx 0 = .ok r ∧ a.gasketOf r = none ∧ idx ∈ commitIndices ∧ a.heldByOther (.coil sid req) idx = false)
    ∧ (let s : State := Wit.calm
      let t : Nat := 0
      let w : Caller := .firmware
      let idx : Nat := 0x3002
      let r : ObjRow := (findObj 0x3002 0).getD default
      let a := s.advance t
      a.writes w 0x1021 0 (leBytes 2 idx) = true ∧ findObj idx 0 = some r ∧ idx ∈ commitIndices ∧ r.priv ≤ a.privOf w ∧ a.gasketOf r = none ∧ a.heldByOther w idx = false)
    ∧ (let h : Hold := ⟨0x3002, .coil 5, 0⟩
      let s : State := let r := Wit.calm; { r with dict := { r.dict with holds := [h] } }
      let t : Nat := 100000 * sec
      let idx : Nat := 0x3002
      let a := s.advance t
      idx ∈ commitIndices ∧ a.up .compute = true ∧ a.holdOf idx = some h ∧ h.last + a.cfg 0x1022 0 * sec ≤ a.now) := by
  refine ⟨?_, ?_, ?_, ?_, ?_, ?_, ?_, ?_, ?_, ?_, ?_⟩ <;> decide +kernel

theorem test_wit_Sessions :
    (let s : State := State.reset
      let t : Nat := 5
      let raw : Bytes := [1, 1] ++ zeros 6 ++ zeros 8 ++ [255, 0, 2, 0] ++ zeros 32
      let a := s.advance t
      let slot := u raw 16 2
      let priv := min (u raw 18 1) (a.keySlot slot).ceiling
      a.coilOn = true ∧ u raw 0 1 = 1 ∧ a.helloOk raw = true)
    ∧ (let s : State := State.reset
      let t : Nat := 5
      let raw : Bytes := [1, 1] ++ zeros 6 ++ zeros 8 ++ [1, 0, 2, 0] ++ zeros 32
      let a := s.advance t
      a.coilOn = true ∧ u raw 0 1 = 1 ∧ raw.length ≤ 1400 ∧ a.helloOk raw = false)
    ∧ (let s : State := demoCoil
      let t : Nat := 5
      let sid : Nat := 5
      let req : Nat := 7
      let idx : Nat := 0x1408
      let sub : Nat := 0
      let period : Nat := 0
      let onch : Bool := true
      let x : Session := demoSession
      let r : ObjRow := ((findObj 0x1408 0).getD default)
      let a := s.advance t
      a.admits (.coil sid req) 7 (key idx sub) 0 = true ∧ Tbl.get? a.dict.sessions sid = some x ∧ ((x.subOf (key idx sub)).isSome ∨ x.subs.length < 64) ∧ a.front (.coil sid req) .read idx sub = .ok r ∧ a.gasketOf r = none ∧ period < 65536 ∧ (10 ≤ period ∨ (period = 0 ∧ onch = true)))
    ∧ (let s : State := demoCoil
      let t : Nat := 5
      let sid : Nat := 5
      let req : Nat := 7
      let idx : Nat := 0x1408
      let sub : Nat := 0
      let period : Nat := 10
      let onch : Bool := false
      let x : Session := demoSession
      let r : ObjRow := ((findObj 0x1408 0).getD default)
      let a := s.advance t
      a.admits (.coil sid req) 7 (key idx sub) 0 = true ∧ Tbl.get? a.dict.sessions sid = some x ∧ ((x.subOf (key idx sub)).isSome ∨ x.subs.length < 64) ∧ a.front (.coil sid req) .read idx sub = .ok r ∧ a.gasketOf r = none ∧ period < 65536 ∧ (10 ≤ period ∨ (period = 0 ∧ onch = true)))
    ∧ (let x : Session := { demoSession with subs := [⟨key 0x1000 1, 9, 10, false, 3, 0, 0, true, 0, none⟩] }
      let s : State := { demoCoil with dict := { Dict.reset with sessions := [(5, x)] } }
      let t : Nat := 10 * ms
      let sid : Nat := 5
      let idx : Nat := 0x1000
      let sub : Nat := 1
      let y : Sub := ⟨key 0x1000 1, 9, 10, false, 3, 0, 0, true, 0, none⟩
      let a := s.advance t
      sid ≠ 0 ∧ a.up .compute = true ∧ Tbl.get? a.dict.sessions sid = some x ∧ x.subOf (key idx sub) = some y ∧ y.onChange = false ∧ y.last + y.period * ms ≤ a.now)
    ∧ (let s : State := demoCoil
      let t : Nat := 1
      let i : Nat := 5
      let hdr : Bytes := [1, 4, 0, 0, 5, 0, 0, 0, 1, 0, 0, 0, 0, 0, 0, 0]
      let body : Sealed := { plain := [], key := [], nonce := coilNonce [] 1, aad := hdr, intact := true }
      let x : Session := demoSession
      let a := s.advance t
      a.opened hdr body 4 = some i ∧ body.plain = [] ∧ Tbl.get? a.dict.sessions i = some x)
    ∧ (let s : State := demoCoil
      let t : Nat := 60 * sec
      let sid : Nat := 5
      let x : Session := demoSession
      let a := s.advance t
      a.up .compute = true ∧ Tbl.get? a.dict.sessions sid = some x ∧ x.nbr = none ∧ x.last + a.cfg 0x1032 0 * sec ≤ a.now)
    ∧ (let x : Session := { demoSession with xfers := [⟨4, key 0x1211 0, 100, [1], 0⟩] }
      let s : State := { demoCoil with dict := { Dict.reset with sessions := [(5, x)] } }
      let t : Nat := 10 * sec
      let sid : Nat := 5
      let idx : Nat := 0x1211
      let sub : Nat := 0
      let a := s.advance t
      sid ≠ 0 ∧ Tbl.get? a.dict.sessions sid = some x)
    ∧ (let s : State := { State.reset with clash := some ⟨0⟩ }
      let t : Nat := 600 * ms
      let x : Clash := ⟨0⟩
      let a := s.advance t
      a.clash = some x ∧ x.last + 3 * (a.cfg 0x4048 0 * ms) ≤ a.now) := by
  refine ⟨?_, ?_, ?_, ?_, ?_, ?_, ?_, ?_, ?_⟩ <;> decide +kernel

theorem test_wit_IslandFaults :
    (let s : State := State.reset
      let t : Nat := 3
      let i : Island := .comb
      let c : FaultCause := .ecc
      let a := s.advance t
      s.sized ∧ a.up i = true ∧ faultSeen i c = true)
    ∧ (let s : State := State.reset
      let t : Nat := 3
      let i : Island := .radio
      let c : FaultCause := .lockstep
      let a := s.advance t
      (a.up i = false ∨ faultSeen i c = false))
    ∧ (let s : State := State.reset
      let t : Nat := 3
      let i : Island := .aon
      let a := s.advance t
      s.sized ∧ a.up i = true)
    ∧ (let s : State := State.reset.setIsl .timebase fun x => { x with st := .restarting, since := 5, faults := [5] }
      let t : Nat := 40 * us
      let i : Island := .timebase
      let a := s.advance t
      s.sized ∧ (a.isl i).st = .restarting ∧ a.now ≤ (a.isl i).since + 40 * us ∧ (a.isl i).third = false)
    ∧ (let s : State := State.reset.setIsl .radio fun x => { x with st := .restarting, since := 5, faults := [5] }
      let t : Nat := 40 * us + 5
      let i : Island := .radio
      let c : FailCause := .restartLate
      let a := s.advance t
      s.sized ∧ (a.isl i).st = .restarting ∧ ((c = .restartLate ∧ (a.isl i).since + 40 * us ≤ a.now) ∨ c = .storeCheck ∨ (c = .thirdFault ∧ (a.isl i).third = true)))
    ∧ (let s : State := State.reset.setIsl .tracking fun x => { x with st := .restarting, since := 5, faults := [5, 4, 3], third := true }
      let t : Nat := 6
      let i : Island := .tracking
      let c : FailCause := .thirdFault
      let a := s.advance t
      s.sized ∧ (a.isl i).st = .restarting ∧ ((c = .restartLate ∧ (a.isl i).since + 40 * us ≤ a.now) ∨ c = .storeCheck ∨ (c = .thirdFault ∧ (a.isl i).third = true)))
    ∧ (let s : State := { State.reset with keys := { Keyring.reset with slots := [(4, { KeySlot.empty 1 with st := .valid })] } }
      let t : Nat := 3
      let slot : Nat := 4
      let x : KeySlot := { KeySlot.empty 1 with st := .valid }
      let a := s.advance t
      Tbl.get? a.keys.slots slot = some x ∧ x.st = .valid)
    ∧ (let s : State := State.reset
      let t : Nat := 3
      let m : Nat := 9
      let a := s.advance t
      m < a.tier ∧ a.up .memory = true)
    ∧ (let s : State := { State.reset with log := { State.reset.log with slots := [(0, default)] } }
      let t : Nat := 3
      let i : Nat := 0
      let r : LogRec := default
      let a := s.advance t
      a.up .aon = true ∧ Tbl.get? a.log.slots i = some r)
    ∧ (let s : State := { State.reset with fabric := { Fabric.reset with queues := [(3, { Queue.reset with pkts := [default] })] } }
      let t : Nat := 3
      let q : Nat := 3
      let i : Nat := 0
      let a := s.advance t
      q < 1024 ∧ i < (a.fabric.queue q).pkts.length ∧ a.up .fabric = true)
    ∧ (let s : State := { State.reset with fabric := { Fabric.reset with brood := [(3, { Desc.free false with st := .ready })] } }
      let t : Nat := 3
      let d : Nat := 3
      let a := s.advance t
      d < 65536 ∧ a.up .fabric = true)
    ∧ (let l : Link := { (default : Link) with st := .connected }
      let s : State := { State.reset with radio := { Radio.reset with links := [(3, l)] } }
      let t : Nat := 3
      let m : Nat := 3
      let a := s.advance t
      a.up .radio = true ∧ a.link? m = some l)
    ∧ (let s : State := State.reset
      let t : Nat := 3
      let b : Nat := 70
      let slot : Nat := 31
      let a := s.advance t
      b < a.buckets ∧ slot < 32 ∧ a.up .comb = true)
    ∧ (let s : State := State.reset
      let t : Nat := 3
      let i : Island := .network
      let a := s.advance t
      s.sized ∧ a.up i = true)
    ∧ (let s : State := State.reset
      let t : Nat := 3
      let b : Nat := 1
      let r : Nat := 2
      let i : Island := .network
      let a := s.advance t
      s.sized ∧ a.up i = true)
    ∧ (let s : State := State.reset
      let t : Nat := 3
      let p : Nat := 1
      let i : Island := .memory
      let a := s.advance t
      s.sized ∧ a.up i = true) := by
  refine ⟨?_, ?_, ?_, ?_, ?_, ?_, ?_, ?_, ?_, ?_, ?_, ?_, ?_, ?_, ?_, ?_⟩ <;> decide +kernel

theorem test_wit_CombJudgements :
    (let r : CombReq := ⟨.coil 5 9, Wit.claim 1⟩
      let f : Flight := Wit.flight (.request r) .judging
      let s : State := Wit.comb f r
      let t : Nat := 0
      let a := s.advance t
      let q := Creq.of r.req
      let j := a.judge q f 0
      let w := a.writeEntries (q.demand f) j.2
      a.turn f r = true ∧ q.op = 1 ∧ j.1.good = true ∧ a.nbrParts j.2 = [])
    ∧ (let op : Nat := 1
      let t : Nat := 0
      let r : CombReq := ⟨.coil 5 9, Wit.claim 1⟩
      let f : Flight := { Wit.flight (.request r) .judging with tacc := 10000000000 }
      let s : State := Wit.comb f r
      let c : Instr := Instr.claim 0 3
      let a := s.advance t
      let q := Creq.of r.req
      let j := a.judge q f 0
      a.turn f r = true ∧ (op, c) ∈ [(1, Instr.claim t f.seq), (3, Instr.amend t f.seq), (5, Instr.area t f.seq)] ∧ q.op = op ∧ j.1.good = false)
    ∧ (let op : Nat := 3
      let t : Nat := 0
      let r : CombReq := ⟨.coil 5 9, Wit.claim 3⟩
      let f : Flight := Wit.flight (.request r) .judging
      let s : State := Wit.comb f r
      let c : Instr := Instr.amend 0 3
      let a := s.advance t
      let q := Creq.of r.req
      let j := a.judge q f 0
      a.turn f r = true ∧ (op, c) ∈ [(1, Instr.claim t f.seq), (3, Instr.amend t f.seq), (5, Instr.area t f.seq)] ∧ q.op = op ∧ j.1.good = false)
    ∧ (let op : Nat := 5
      let t : Nat := 0
      let r : CombReq := ⟨.coil 5 9, Wit.area 5 0⟩
      let f : Flight := { Wit.flight (.request r) .judging with tacc := 10000000000 }
      let s : State := Wit.comb f r
      let c : Instr := Instr.area 0 3
      let a := s.advance t
      let q := Creq.of r.req
      let j := a.judge q f 0
      a.turn f r = true ∧ (op, c) ∈ [(1, Instr.claim t f.seq), (3, Instr.amend t f.seq), (5, Instr.area t f.seq)] ∧ q.op = op ∧ j.1.good = false)
    ∧ (let t : Nat := 0
      let r : CombReq := ⟨.coil 5 9, Wit.claim 2⟩
      let f : Flight := Wit.flight (.request r) .judging
      let s : State := Wit.comb f r
      let a := s.advance t
      let q := Creq.of r.req
      let p := (a.seenBefore f).probeVerdict q f
      a.turn f r = true ∧ q.op = 2)
    ∧ (let t : Nat := 0
      let r : CombReq := ⟨.coil 5 9, Wit.claim 3⟩
      let f : Flight := Wit.flight (.request r) .judging
      let s : State := Wit.claimed f r
      let a := s.advance t
      let q := Creq.of r.req
      let j := a.judge q f 0
      let w := a.writeEntries (q.demand f) j.2
      a.turn f r = true ∧ q.op = 3 ∧ j.1.good = true ∧ a.nbrParts j.2 = [])
    ∧ (let t : Nat := 0
      let r : CombReq := ⟨.coil 5 9, Wit.release⟩
      let f : Flight := Wit.flight (.request r) .judging
      let s : State := Wit.claimed f r
      let a := s.advance t
      let q := Creq.of r.req
      let x := a.comb.cutBy a.buckets f.tacc (fun e => e.owner = q.owner && (q.allTags || e.tag = q.tag) && e.live f.tacc) (Entry.cut (max q.base f.tacc))
      a.turn f r = true ∧ q.op = 4 ∧ a.earlyChecks q f.tacc 0 = none ∧ f.counted = true ∧ x.2.2 = none)
    ∧ (let t : Nat := 0
      let r : CombReq := ⟨.coil 5 9, Wit.area 5 0⟩
      let f : Flight := Wit.flight (.request r) .judging
      let s : State := Wit.comb f r
      let a := s.advance t
      let q := Creq.of r.req
      let j := a.judge q f 0
      let w := a.writeEntries (q.demand f) j.2
      a.turn f r = true ∧ q.op = 5 ∧ q.force = false ∧ j.1.good = true ∧ a.nbrParts j.2 = [])
    ∧ (let t : Nat := 0
      let r : CombReq := ⟨.coil 5 9, Wit.area 5 2⟩
      let f : Flight := Wit.flight (.request r) .judging
      let s : State := Wit.claimed f r
      let a := s.advance t
      let q := Creq.of r.req
      let j := a.judge q f 0
      let w := a.writeEntries (q.demand f) j.2
      let z := w.forceArea f.tacc ((w.comb.entries.filter fun e => e.seq = f.seq).map Entry.cov)
      a.turn f r = true ∧ q.op = 5 ∧ q.force = true ∧ j.1.good = true ∧ a.nbrParts j.2 = [])
    ∧ (let t : Nat := 0
      let r : CombReq := ⟨.coil 5 9, Wit.query⟩
      let f : Flight := Wit.flight (.request r) .judging
      let s : State := Wit.claimed f r
      let a := s.advance t
      let q := Creq.of r.req
      let es := (a.seenBefore f).comb.queryCell f.tacc q
      a.turn f r = true ∧ q.op = 6 ∧ a.earlyChecks q f.tacc 0 = none ∧ f.counted = true) := by
  refine ⟨?_, ?_, ?_, ?_, ?_, ?_, ?_, ?_, ?_, ?_⟩ <;> decide +kernel

theorem test_wit_CombStorage :
    (let s : State := Wit.comb (Wit.flight (.site .firmware []) .judging) ⟨.coil 5 9, []⟩
      let t : Nat := 0
      let w : Caller := .coil 5 11
      let req : Bytes := Wit.claim 1
      let a := s.advance t
      let q := (Creq.of req).intake
      a.requests w 0x4020 req = true ∧ a.intakeCheck w req = none)
    ∧ (let s : State := Wit.comb (Wit.flight (.site .firmware []) .judging) ⟨.coil 5 9, []⟩
      let t : Nat := 0
      let w : Caller := .coil 5 11
      let req : Bytes := (Wit.claim 1).set 2 255 |>.set 3 7
      let o : Nat := 0x21
      let a := s.advance t
      a.requests w 0x4020 req = true ∧ a.intakeCheck w req = some o)
    ∧ (let x : CombReq := ⟨.firmware, Wit.claim 1⟩
      let s : State := { State.reset with comb := { Comb.reset with intake := [[], [], [x], [], [], [], [], []] } }
      let t : Nat := 0
      let q : Nat := 2
      let rest : List CombReq := []
      let a := s.advance t
      a.up .comb = true ∧ q < 8 ∧ ((∀ p, p < q → a.comb.intake.getD p [] = [])) ∧ a.comb.intake.getD q [] = x :: rest)
    ∧ (let r : CombReq := ⟨.coil 5 9, Wit.claim 1⟩
      let f : Flight := Wit.flight (.request r) .waiting
      let s : State := Wit.comb f r
      let t : Nat := 0
      let a := s.advance t
      let q := Creq.of r.req
      let j := a.judge q f 0
      let w := a.writeEntries (q.demand f) j.2
      a.up .comb = true ∧ a.flightOf f.seq = some f ∧ f.phase = .waiting ∧ f.op = .request r ∧ a.mustWait f = false ∧ q.op = 1 ∧ j.1.good = true ∧ a.nbrParts j.2 = [])
    ∧ (let m : TrimOp := ⟨7, 4, 2500, 0, 0, 1, 0, 0, none⟩
      let f : Flight := Wit.flight (.trim m) .judging
      let s : State := Wit.claimed f ⟨.coil 5 9, []⟩
      let x : Track := ⟨7, 4, Wit.claim 1, 1000, none, 0⟩
      let t : Nat := 0
      let tau : Nat := 2780
      let a := s.advance t
      let r := Creq.of x.req
      let here := a.trimHere m (r.marginWith f.pars) r.footprint
      let ahead := (coverage a.pitch r.footprint (r.marginWith f.pars) tau (r.tEnd 0) (posesFrom (r.poses 0) tau)).map fun c => (c.q, c.r)
      let y := (a.comb.endFlight f.seq).cutBy a.buckets f.tacc
          (fun e => e.of m.owner m.tag && e.live f.tacc && !(here.contains (e.q, e.r) || ahead.contains (e.q, e.r))) (Entry.cut (m.f + f.pars.guard))
      a.up .comb = true ∧ a.flightOf f.seq = some f ∧ f.phase = .judging ∧ f.op = .trim m ∧ a.mustWait f = false ∧ (a.comb.flight.filter fun g => g.phase = .judging && (g.seq = f.seq || seqBefore g.seq f.seq)) = [f] ∧ a.comb.trackOf m.owner m.tag = some x ∧ trimProgress f.pars m x r = some tau ∧ y.2.2 = none)
    ∧ (let s : State := { State.reset with comb := { Comb.reset with entries := [Wit.entry] } }
      let t : Nat := 3
      let b : Nat := 3
      let slot : Nat := 0
      let a := s.advance t
      b < a.buckets ∧ slot < 32 ∧ a.up .comb = true)
    ∧ (let s : State := { State.reset with comb := { Comb.reset with blocked := [⟨3, 0, 0, false⟩] } }
      let t : Nat := 3
      let w : Caller := .firmware
      let a := s.advance t
      let c : Comb := { a.comb with blocked := [] }
      a.writes w 0x4035 0 [1] = true ∧ a.stoppedAll = true)
    ∧ (let s : State := Wit.going
      let t : Nat := 3
      let w : Caller := .firmware
      let a := s.advance t
      a.writes w 0x4035 0 [1] = true ∧ a.stoppedAll = false)
    ∧ (let s : State := { State.reset with comb := { Comb.reset with retiring := [0, 1] } }
      let t : Nat := 3
      let g : Nat := 0
      let a := s.advance t
      a.comb.retiring.contains g = true ∧ ((∀ e ∈ a.comb.entries, e.bucket / 64 = g → e.live a.ct = false)))
    ∧ (let s : State := { (Wit.comb (Wit.flight (.site .firmware []) .judging) ⟨.coil 5 9, []⟩) with now := 0xF000000000 * ms }
      let t : Nat := 0
      let c : Nat := 0xF000000000
      let a := s.advance t
      a.ctime = some c ∧ 0xF000000000 ≤ c ∧ ((∀ d, a.comb.ageAt = some d → d + 86400 * sec ≤ a.now)))
    ∧ (let s : State := ({ (Wit.comb (Wit.flight (.site .firmware []) .judging) ⟨.coil 5 9, []⟩) with comb := { Comb.reset with entries := [Wit.entry] } }.setVal (key 0x4001 1) (leBytes 8 63781370000))
      let t : Nat := 3
      let w : Caller := .firmware
      let a := s.advance t
      a.writes w 0x4000 0 [1] = true ∧ a.groupCheck 0x4000 = none ∧ a.up .comb = true ∧ a.comb.flight = [] ∧ a.comb.prepared = []) := by
  refine ⟨?_, ?_, ?_, ?_, ?_, ?_, ?_, ?_, ?_, ?_, ?_⟩ <;> decide +kernel

theorem test_wit_RegionPrepares :
    (let s : State := Wit.calm.setVal (key 0x4042 1) (Wit.nbrBytes) |>.setVal (key 0x4041 0) Wit.ownPoly
      let t : Nat := 3
      let w : Caller := .firmware
      let a := s.advance t
      s.sized ∧ a.writes w 0x4040 0 [1] = true ∧ a.groupCheck 0x4040 = none ∧ a.up .comb = true ∧ a.comb.flight = [] ∧ a.comb.prepared = [])
    ∧ (let s : State := Wit.joined
      let t : Nat := 0
      let n : Nat := 0
      let w : Caller := .coil 5 11
      let msg : Bytes := Wit.msg 2 9 1 ++ Wit.mirror 5000
      let m : Mirror := mirrorOf (Wit.mirror 5000)
      let ms : List Mirror := []
      let a := s.advance t
      let q := nextSeq a.comb.seqLast
      let f : Flight := ⟨q, a.ct, .message n ⟨w, msg⟩, false, .judging, a.parsOf (m.owner n), a.frozenNow, [], []⟩
      a.hears w msg n 2 = true ∧ (a.nbr n).mismatch = false ∧ a.comb.flight = [] ∧ a.comb.prepared = [] ∧ msgMirrors msg = m :: ms ∧ ((∀ x ∈ ms, x.owner n = m.owner n ∧ x.tag = m.tag)) ∧ (a.prepareVerdict f (m.owner n) m.tag (m :: ms)).good = true)
    ∧ (let x : Asking := ⟨Wit.flight (.request ⟨.coil 5 9, Wit.claim 1⟩) (.exchange [⟨0, 4, none⟩] 1000000000 0 1 2), ⟨.coil 5 9, Wit.claim 1⟩, [⟨0, 4, none⟩], 1000000000, 0, 1, 2⟩
      let s : State := { (Wit.comb x.f x.r) with comb := { Comb.reset with flight := [x.f], entries := [{ Wit.entry with seq := 3 }] } }
      let t : Nat := 0
      let n : Nat := 0
      let exch : Nat := 4
      let resp : Bytes := [0x82, 0]
      let a := s.advance t
      let q := Creq.of x.r.req
      let l := x.asked.map fun y => if y.nbr = n && y.exch = exch then { y with resp := some resp } else y
      a.asking (fun y => y.nbr = n && y.exch = exch && y.resp.isNone) = some x ∧ a.up .comb = true ∧ q.op = 1 ∧ l.all Asked.done = true ∧ a.now ≤ x.since + a.cfg 0x4036 0 * ms)
    ∧ (let x : Asking := ⟨Wit.flight (.request ⟨.coil 5 9, Wit.claim 1⟩) (.exchange [⟨0, 4, none⟩, ⟨1, 5, some [0x82, 0]⟩] 1000000000 0 1 2), ⟨.coil 5 9, Wit.claim 1⟩, [⟨0, 4, none⟩, ⟨1, 5, some [0x82, 0]⟩], 1000000000, 0, 1, 2⟩
      let s : State := { (Wit.comb x.f x.r) with comb := { Comb.reset with flight := [x.f], entries := [{ Wit.entry with seq := 3 }] } }
      let t : Nat := 1020000000
      let exch : Nat := 4
      let a := s.advance t
      a.asking (fun y => y.exch = exch && y.resp.isNone) = some x ∧ a.up .comb = true ∧ x.since + a.cfg 0x4036 0 * ms ≤ a.now)
    ∧ (let x : SentMsg := ⟨0, 4, [3], 0, 0⟩
      let s : State := { State.reset with comb := { Comb.reset with sent := [x], nbrs := ({ Neighbour.reset with session := some 5 } :: List.replicate 11 Neighbour.reset) } }
      let t : Nat := 2 * ms
      let n : Nat := 0
      let exch : Nat := 4
      let a := s.advance t
      x ∈ a.comb.sent ∧ x.nbr = n ∧ x.exch = exch ∧ a.now < x.since + a.cfg 0x4036 0 * ms ∧ x.last + 2 * ms ≤ a.now ∧ a.nbrOn n = true)
    ∧ (let p : Prepared := ⟨0, 9, 1024, 3, 4, 0, false⟩
      let s : State := { Wit.joined with comb := { Wit.joined.comb with prepared := [p], entries := [{ Wit.entry with owner := 1024, tag := 3, seq := 4 }] } }
      let t : Nat := 0
      let n : Nat := 0
      let w : Caller := .coil 5 11
      let msg : Bytes := Wit.msg 3 9 0
      let a := s.advance t
      a.hears w msg n 3 = true ∧ a.preparedOf n (u msg 4 4) = some p ∧ p.presumed = false)
    ∧ (let p : Prepared := ⟨0, 9, 1024, 3, 4, 0, false⟩
      let s : State := { Wit.joined with comb := { Wit.joined.comb with prepared := [p], entries := [{ Wit.entry with owner := 1024, tag := 3, seq := 4 }] } }
      let t : Nat := 0
      let n : Nat := 0
      let w : Caller := .coil 5 11
      let msg : Bytes := Wit.msg 4 9 0
      let a := s.advance t
      a.hears w msg n 4 = true ∧ a.preparedOf n (u msg 4 4) = some p ∧ p.presumed = false)
    ∧ (let p : Prepared := ⟨0, 9, 1024, 3, 4, 0, true⟩
      let s : State := { Wit.joined with comb := { Wit.joined.comb with prepared := [p], entries := [{ Wit.entry with owner := 1024, tag := 3 }] } }
      let t : Nat := 0
      let n : Nat := 0
      let w : Caller := .coil 5 11
      let msg : Bytes := Wit.msg 4 9 0
      let a := s.advance t
      let x := a.comb.cutBy a.buckets a.ct (fun e => e.of p.owner p.tag && e.live a.ct) (Entry.cut a.ct)
      a.hears w msg n 4 = true ∧ a.preparedOf n (u msg 4 4) = some p ∧ p.presumed = true ∧ a.comb.flight = [] ∧ a.comb.prepared = [p] ∧ x.2.2 = none)
    ∧ (let p : Prepared := ⟨0, 9, 1024, 3, 4, 0, false⟩
      let s : State := { State.reset with comb := { Comb.reset with prepared := [p], entries := [{ Wit.entry with owner := 1024, tag := 3, seq := 4 }] } }
      let t : Nat := 20 * ms
      let n : Nat := 0
      let exch : Nat := 9
      let a := s.advance t
      a.preparedOf n exch = some p ∧ p.presumed = false ∧ p.at_ + a.cfg 0x4036 0 * ms ≤ a.now) := by
  refine ⟨?_, ?_, ?_, ?_, ?_, ?_, ?_, ?_, ?_⟩ <;> decide +kernel

theorem test_wit_RegionMessages :
    (let s : State := { Wit.joined with comb := { Wit.joined.comb with entries := [{ Wit.entry with owner := 1024, tag := 3, start := 5000 }] } }
      let t : Nat := 0
      let n : Nat := 0
      let w : Caller := .coil 5 11
      let msg : Bytes := Wit.msg 5 0 1 ++ Wit.mirror 100
      let a := s.advance t
      a.hears w msg n 5 = true ∧ (a.nbr n).mismatch = false ∧ a.comb.flight = [] ∧ a.comb.prepared = [])
    ∧ (let s : State := { Wit.joined with comb := { Wit.joined.comb with nbrs := { Neighbour.reset with st := .syncing, ours := true } :: List.replicate 11 Neighbour.reset } }
      let t : Nat := 0
      let n : Nat := 0
      let w : Caller := .coil 5 11
      let msg : Bytes := (Wit.msg 6 0 1).set 1 3 ++ Wit.mirror 100
      let a := s.advance t
      let kept := if bit (u msg 1 1) 0 then a.comb.entries.filter fun e => !(1024 + 32 * n ≤ e.owner && e.owner < 1056 + 32 * n) else a.comb.entries
      let p := Comb.syncAll a.buckets a.ct { a.comb with entries := kept } false (mirrorEntries n 0 (msgMirrors msg))
      let live := bit (u msg 1 1) 1 && ((a.nbr n).st = .syncing || (a.nbr n).st = .radioOnly) && (a.nbr n).ours
      s.sized ∧ a.hears w msg n 6 = true ∧ (a.nbr n).mismatch = false ∧ a.comb.flight = [] ∧ a.comb.prepared = [] ∧ p.2.2 = none)
    ∧ (let s : State := { State.reset with comb := { Comb.reset with nbrs := { Neighbour.reset with st := .syncing, theirs := true, asked := true } :: List.replicate 11 Neighbour.reset } }
      let t : Nat := 3
      let n : Nat := 0
      let a := s.advance t
      let ours := (a.nbr n).ours || (a.nbr n).asked
      let live := ((a.nbr n).st = .syncing || (a.nbr n).st = .radioOnly) && (a.nbr n).theirs && ours
      s.sized ∧ n < 12)
    ∧ (let s : State := { Wit.joined with now := 2000000000, comb := { Wit.joined.comb with nbrs := { Neighbour.reset with session := some 5 } :: List.replicate 11 Neighbour.reset } }
      let t : Nat := 0
      let a := s.advance t
      let b := a.hbNumber a.hbNow
      s.sized ∧ a.up .comb = true ∧ a.time64 % a.hbPeriodNs ≤ 50000 ∧ a.comb.hbEth ≠ some a.hbNow)
    ∧ (let s : State := { Wit.joined with comb := { Wit.joined.comb with nbrs := { Neighbour.reset with st := .radioOnly } :: List.replicate 11 Neighbour.reset } }
      let t : Nat := 0
      let n : Nat := 0
      let w : Caller := .coil 5 11
      let msg : Bytes := Wit.msg 1 0 0 ++ leBytes 8 1000000000 ++ Wit.joined.siteDigestNow ++ Wit.joined.nbrDigest 0 ++ leBytes 2 (Wit.joined.cfg 0x4048 0) ++ [1, 0, 1, 0, 0, 0]
      let a := s.advance t
      let j := (si msg 16 8).fdiv a.hbPeriodNs
      s.sized ∧ a.hears w msg n 1 = true ∧ a.hbValid n (msg.drop 16) = true ∧ a.time64 < (j + 1) * a.hbPeriodNs + 10000000 ∧ (a.nbr n).st ≠ .lost ∧ ((bit (u msg 42 1) 1 = false ∨ (a.nbr n).st = .none)))
    ∧ (let s : State := { Wit.joined with now := 2000000000, comb := { Wit.joined.comb with nbrs := { Neighbour.reset with st := .live } :: List.replicate 11 Neighbour.reset } }
      let t : Nat := 0
      let n : Nat := 0
      let a := s.advance t
      s.sized ∧ n < 12 ∧ a.up .comb = true ∧ a.nbrPresent n = true ∧ (a.nbr n).st ≠ .none ∧ (a.nbr n).st ≠ .lost ∧ ((a.nbr n).lastHeard + 4) * a.hbPeriodNs + 10000000 ≤ a.time64)
    ∧ (let s : State := { State.reset with comb := { Comb.reset with sent := [⟨0, 4, [3], 0, 0⟩] } }
      let t : Nat := 3
      let n : Nat := 0
      let exch : Nat := 4
      let a := s.advance t
      exch ≠ 0)
    ∧ (let s : State := { State.reset with stop := { State.reset.stop with notices := [⟨0, [], 0, 0⟩] } }
      let t : Nat := 3
      let n : Nat := 0
      let i : Nat := 0
      let a := s.advance t
      a.stop.notices.findIdx? (fun x => x.nbr = n) = some i) := by
  refine ⟨?_, ?_, ?_, ?_, ?_, ?_, ?_, ?_⟩ <;> decide +kernel

theorem test_wit_TrackingChannels :
    (let s : State := Wit.tracked Wit.chan
      let t : Nat := 0
      let firsts : List Nat := []
      let meas : List ChanMeas := []
      let a := s.advance t
      a.epochDue = true ∧ a.track.due = false ∧ a.track.mode ≠ 1)
    ∧ (let s : State := { Wit.calm with track := { Tracking.reset with mode := 1 } }
      let t : Nat := 0
      let firsts : List Nat := []
      let meas : List ChanMeas := []
      let a := s.advance t
      a.epochDue = true ∧ a.track.due = false ∧ a.track.mode = 1)
    ∧ (let s : State := Wit.calm
      let t : Nat := 0
      let m : NavUnit := ⟨0, 0, 5, 1, true, false, [true, false, true]⟩
      let q : NavNews := ⟨some (1, 2, 3), some 7⟩
      let p : State := (({ Wit.calm with tb := { Wit.calm.tb with utc := some (1, 2, 3) }, track := { Tracking.reset with broadcast := [(0, 7)] } } : State).post? 17 (navBytes m)).getD Wit.calm
      let a := s.advance t
      let tb : Timebase := if m.passed && q.utc.isSome then { a.tb with utc := q.utc } else a.tb
      let br := (q.offset.filter fun _ => m.passed).elim a.track.broadcast (Tbl.put a.track.broadcast m.system)
      let b : State := { a with tb := tb, track := { a.track with broadcast := br } }
      a.up .tracking = true ∧ a.track.mode ≠ 1 ∧ b.post? (a.cfg 0x300D 0) (navBytes m) = some p)
    ∧ (let s : State := Wit.calm.setIsl .fabric fun x => { x with st := .restarting }
      let t : Nat := 0
      let m : NavUnit := ⟨0, 0, 5, 1, true, false, [true, false, true]⟩
      let q : NavNews := ⟨none, some 7⟩
      let a := s.advance t
      let tb : Timebase := if m.passed && q.utc.isSome then { a.tb with utc := q.utc } else a.tb
      let br := (q.offset.filter fun _ => m.passed).elim a.track.broadcast (Tbl.put a.track.broadcast m.system)
      let b : State := { a with tb := tb, track := { a.track with broadcast := br } }
      a.up .tracking = true ∧ a.track.mode ≠ 1 ∧ b.post? (a.cfg 0x300D 0) (navBytes m) = none)
    ∧ (let s : State := Wit.tracked Wit.chan
      let t : Nat := 0
      let ch : Nat := 3
      let o : LockObs := ⟨0, 0, 0, [], false, false, false⟩
      let a := s.advance t
      a.up .tracking = true ∧ a.feeds (ch / 288) = true)
    ∧ (let s : State := Wit.tracked { Wit.chan with st := .pullIn }
      let t : Nat := 0
      let ch : Nat := 3
      let c : Chan := { Wit.chan with st := .pullIn }
      let a := s.advance t
      a.up .tracking = true ∧ a.chan? ch = some c ∧ c.st = .pullIn ∧ c.since + 500 * ms ≤ a.now)
    ∧ (let s : State := Wit.tracked { Wit.chan with st := .coast }
      let t : Nat := 0
      let ch : Nat := 3
      let c : Chan := { Wit.chan with st := .coast }
      let a := s.advance t
      a.up .tracking = true ∧ a.chan? ch = some c ∧ c.st = .coast ∧ c.since + sec ≤ a.now)
    ∧ (let s : State := Wit.tracked Wit.chan
      let t : Nat := 0
      let ch : Nat := 0
      let power : Nat := 400
      let x : Sig := ⟨0, 5, 1⟩
      let offs : List Int := (((Wit.tracked Wit.chan).watchOf 0).getD default).2
      let k : Nat := 0
      let at_ : Nat := 0
      let a := s.advance t
      a.up .tracking = true ∧ a.watchOf ch = some (x, offs) ∧ offs ≠ [] ∧ Tbl.getD a.track.watch ch (0, Tbl.getD a.track.shared (16 * (ch / 288) + x.signal) 0) = (k, at_) ∧ at_ + 100 * ms ≤ a.now) := by
  refine ⟨?_, ?_, ?_, ?_, ?_, ?_, ?_, ?_⟩ <;> decide +kernel

theorem test_wit_TrackingPorts :
    (let s : State := Wit.tracked Wit.chan
      let t : Nat := 0
      let g : Nat := 0
      let counter : Nat := 0
      let edges : List GsEdge := [⟨true, 0x02#4⟩, ⟨true, 0x0F#4⟩, ⟨true, 0x00#4⟩]
      let a := s.advance t
      let n := gsCount (a.gsVal g) edges
      s.sized ∧ g < 4 ∧ a.up .tracking = true)
    ∧ (let s : State := { State.reset with track := { Tracking.reset with ports := { GsPort.reset with jam := true, quietAt := some 0 } :: List.replicate 3 GsPort.reset } }
      let t : Nat := 10 * sec
      let g : Nat := 0
      let q : Nat := 0
      let a := s.advance t
      s.sized ∧ g < 4 ∧ (a.port g).quietAt = some q ∧ q + 10 * sec ≤ a.now)
    ∧ (let s : State := Wit.tracked Wit.chan
      let t : Nat := 0
      let g : Nat := 0
      let a := s.advance t
      a.up .tracking = true ∧ (a.port g).clock = true)
    ∧ (let s : State := Wit.calm
      let t : Nat := 0
      let g : Nat := 3
      let a := s.advance t
      s.sized ∧ a.up .tracking = true ∧ g < 4 ∧ (a.port g).clock = false)
    ∧ (let s : State := Wit.tracked Wit.chan
      let t : Nat := 0
      let g : Nat := 0
      let a := s.advance t
      a.up .tracking = true ∧ a.feeds g = true)
    ∧ (let s : State := Wit.tracked Wit.chan
      let t : Nat := 0
      let w : Caller := .firmware
      let a := s.advance t
      a.writes w 0x3000 0 [1] = true ∧ a.stoppedAll = true)
    ∧ (let s : State := { (Wit.tracked Wit.chan) with stop := Wit.going.stop }
      let t : Nat := 0
      let w : Caller := .firmware
      let a := s.advance t
      a.writes w 0x3000 0 [1] = true ∧ a.stoppedAll = false)
    ∧ (let s : State := { State.reset with track := { Tracking.reset with mode := 1 } }
      let t : Nat := 0
      let w : Caller := .firmware
      let a := s.advance t
      a.writes w 0x3000 0 [0] = true ∧ a.track.mode ≠ 0)
    ∧ (let s : State := Wit.tracked Wit.chan
      let t : Nat := 0
      let ch : Nat := 3
      let corr : List Corr := []
      let a := s.advance t
      a.up .tracking = true)
    ∧ (let s : State := Wit.tracked Wit.chan
      let t : Nat := 0
      let ch : Nat := 3
      let corr : List Corr := [⟨[⟨0, 1, 1⟩, ⟨4, 5, 5⟩], none, 200, []⟩]
      let a := s.advance t
      a.up .tracking = true) := by
  refine ⟨?_, ?_, ?_, ?_, ?_, ?_, ?_, ?_, ?_, ?_⟩ <;> decide +kernel

theorem test_wit_DeveloperSearches :
    (let s : State := State.reset
      let t : Nat := 0
      let pkt : Bytes := Wit.exposurePkt
      let a := s.advance t
      let slot := u pkt 8 2 % 1024
      let r := pkt.drop 16
      a.up .compute = true ∧ a.sService = true ∧ slot < a.tier ∧ a.gone .developer = false ∧ exposureOk r = true ∧ (Tbl.getD a.dev.seqs slot []).contains (u r 4 2) = false ∧ a.dev.latents.length < a.latentMax)
    ∧ (let s : State := State.reset
      let t : Nat := 0
      let pkt : Bytes := Wit.exposurePkt.take 100
      let a := s.advance t
      let slot := u pkt 8 2 % 1024
      let r := pkt.drop 16
      a.up .compute = true ∧ (a.sService = false ∨ a.tier ≤ slot ∨ a.gone .developer = true ∨ exposureOk r = false
      ∨ (Tbl.getD a.dev.seqs slot []).contains (u r 4 2) = true ∨ a.latentMax ≤ a.dev.latents.length))
    ∧ (let s : State := Wit.waiting none
      let sky : List SkySignal := Wit.sky 6
      let x : Latent := Wit.latent none
      let t : Nat := 0
      let i : Nat := 0
      let p : State := (({ Wit.waiting none with dev := { (Wit.waiting none).dev with sky := Wit.sky 6 } } : State).spend false ((Wit.waiting none).expSearch Wit.exposure (Wit.sky 6)).cost).getD Wit.calm
      let a := s.advance t
      let b := ({ a with dev := { a.dev with sky := sky } } : State)
      let e := b.expSearch x.data sky
      a.up .developer = true ∧ a.dev.latents.findIdx? (fun x => x.started.isNone) = some i ∧ a.dev.latents[i]? = some x ∧ a.holderIs x.slot x.machine = true ∧ a.time64 ≤ x.arrival + (a.cfg 0x3402 0 * ms : Nat) ∧ a.timed = true ∧ 5 ≤ a.freshSignals sky ∧ e.cost ≤ a.machineBudget ∧ b.spend false e.cost = some p)
    ∧ (let s : State := Wit.waiting none
      let sky : List SkySignal := Wit.sky 4
      let x : Latent := Wit.latent none
      let t : Nat := 0
      let i : Nat := 0
      let a := s.advance t
      let b := ({ a with dev := { a.dev with sky := sky } } : State)
      a.up .developer = true ∧ a.dev.latents.findIdx? (fun x => x.started.isNone) = some i ∧ a.dev.latents[i]? = some x ∧ (b.spend false (b.expSearch x.data sky).cost).isSome = true ∧ (a.holderIs x.slot x.machine = false ∨ x.arrival + (a.cfg 0x3402 0 * ms : Nat) < a.time64 ∨ a.timed = false ∨ a.freshSignals sky < 5))
    ∧ (let e : ExpSearch := Wit.search
      let s : State := Wit.waiting (some e)
      let t : Nat := 0
      let slot : Nat := 3
      let i : Nat := 0
      let sky : List SatEph := []
      let x : Latent := Wit.latent (some e)
      let p : State := ((Wit.waiting (some e)).post? ((Wit.waiting none).cfg 0x3401 0) (resultRecord 4 3 77 9 500000000 false (1000, 100) none 5 100 none [])).getD Wit.calm
      let a := s.advance t
      let d := a.develop x e sky
      let st := devStatus d.1.length e.residualMax e.sigmaMax d.2
      a.up .developer = true ∧ a.dev.latents.findIdx? (fun x => x.slot = slot) = some i ∧ a.dev.latents[i]? = some x ∧ x.started = some e ∧ a.post? (a.cfg 0x3401 0) (resultRecord st x.slot x.machine (u x.data 4 2) (si x.data 8 8) (assisted x.data) (u x.data 48 4, u x.data 16 4)
      (d.2.bind fun f => a.priorOffset x.data f.ecef) e.cost e.residualMax d.2 d.1) = some p)
    ∧ (let s : State := { Wit.tracked Wit.chan with dev := { State.reset.dev with searches := [OwnSearch.new 0 .warm [⟨0, 7, 1⟩] [] 0] } }
      let t : Nat := 0
      let i : Nat := 0
      let x : OwnSearch := OwnSearch.new 0 .warm [⟨0, 7, 1⟩] [] 0
      let p : State := (({ Wit.tracked Wit.chan with dev := { State.reset.dev with searches := [OwnSearch.new 0 .warm [⟨0, 7, 1⟩] [] 0] } } : State).spend true ((Wit.tracked Wit.chan).ownCost .warm 1)).getD Wit.calm
      let a := s.advance t
      let sigs := if x.kind = .cold && x.sigs = [] then a.coldSigs x.antenna else x.sigs
      let cost := fun y : Sig => a.ownCost x.kind y.signal
      let q := takeCost cost a.ownBudget sigs
      let run : OwnSearch := { x with sigs := q.1, at_ := a.now, threshold := a.cfg 0x3404 0, freqUnc := a.cfg 0x3407 0, sure := a.ownSure x.kind }
      a.up .developer = true ∧ a.track.mode ≠ 1 ∧ a.dev.searches.findIdx? (fun x => a.feeds x.group) = some i ∧ a.dev.searches[i]? = some x ∧ q.1 ≠ [] ∧ a.spend true ((q.1.map cost).sum) = some p)
    ∧ (let x : OwnSearch := { OwnSearch.new 0 .warm [⟨0, 7, 1⟩] [] 0 with sure := true }
      let s : State := { Wit.tracked Wit.chan with dev := { State.reset.dev with running := [x] } }
      let t : Nat := 0
      let cap : Snapshot := Wit.dark
      let sky : List SatEph := []
      let rest : List OwnSearch := []
      let a := s.advance t
      let all := x.sigs.map fun y => searchSignal ((snapshotBand cap y.signal).take (4 * bandRate (bandOf y.signal))) y (a.ownPlan x sky y)
      let found := all.filter fun f => x.threshold ≤ f.ratio
      a.up .developer = true ∧ a.dev.running = x :: rest)
    ∧ (let s : State := Wit.tracked Wit.chan
      let t : Nat := 0
      let sky : List SkySignal := Wit.sky 3
      let a := s.advance t
      a.up .developer = true ∧ a.track.mode ≠ 1)
    ∧ (let s : State := { Wit.calm with track := { Tracking.reset with mode := 1 } }
      let t : Nat := 0
      let p : State := (({ Wit.calm with track := { Tracking.reset with mode := 1 } } : State).spend true 0).getD Wit.calm
      let a := s.advance t
      let per : Int := (a.cfg 0x3410 0 * ms : Nat)
      let k := a.time64.fdiv per
      let e := a.standbySearch
      a.up .developer = true ∧ a.track.mode = 1 ∧ a.dev.standby = none ∧ a.dev.period ≠ some k ∧ a.spend true e.cost = some p)
    ∧ (let s : State := { Wit.calm with track := { Tracking.reset with mode := 1 }, dev := { State.reset.dev with sky := Wit.sky 3, own := ⟨0, 1000000000⟩, machine := ⟨0, 1000000000⟩ } }
      let t : Nat := 0
      let a := s.advance t
      let per : Int := (a.cfg 0x3410 0 * ms : Nat)
      let k := a.time64.fdiv per
      let e := a.standbySearch
      a.up .developer = true ∧ a.track.mode = 1 ∧ a.dev.standby = none ∧ a.dev.period ≠ some k ∧ a.spend true e.cost = none)
    ∧ (let x : StandbyExp := ⟨0, 10, 20, Wit.search, true⟩
      let s : State := { Wit.calm with dev := { State.reset.dev with standby := some x } }
      let t : Nat := 0
      let cap : Snapshot := Wit.dark
      let sky : List SatEph := []
      let a := s.advance t
      let h := a.standbyHeard x cap sky
      let n := h.1.length
      let at_ := if a.base.survey.isNone && a.cfg 0x3609 0 ≠ 0 then a.base.ref else a.homePos
      let sol := if 5 ≤ n then snapshotSolve (v3m at_) (v3m at_) x.at_ false h.2 else none
      let fix := sol.map fun v => { devFix at_ x.at_ h.2.length v with tExp := x.at_ - a.gnssOffset (biasNs v.bias) }
      a.up .developer = true ∧ a.dev.standby = some x ∧ x.started = true) := by
  refine ⟨?_, ?_, ?_, ?_, ?_, ?_, ?_, ?_, ?_, ?_, ?_⟩ <;> decide +kernel

theorem test_wit_BaseStation :
    (let s : State := Wit.base 2
      let t : Nat := 0
      let nominal : Int := 1000000000
      let sky : List SatEph := []
      let a := s.advance t
      let l := a.baseSignals sky nominal
      let smooth := l.map (smoothStep a.smoothLimit a.base.smooth)
      let spps := ((((a.basePoint sky smooth).map fun p => (nominal, mV3 p.1)).toList ++ a.base.spps).filter fun p => nominal < p.1 + 10 * (sec : Int))
      let b : State := { a with base := { a.base with spps := spps } }
      let fails := b.baseChecks ((l.map fun r => (bits r 290 3, bits r 282 8)).eraseDups).length a.netRunNow
      a.up .fixer = true ∧ a.up .tracking = true ∧ a.track.mode ≠ 1 ∧ a.track.nominal = some nominal ∧ a.base.epochs.head?.map BaseEp.nominal ≠ some nominal ∧ a.base.netEpoch ≠ some nominal ∧ a.base.survey = none ∧ a.base.st = 2)
    ∧ (let s : State := Wit.base 4
      let t : Nat := 0
      let nominal : Int := 1000000000
      let sky : List SatEph := []
      let a := s.advance t
      let l := a.baseSignals sky nominal
      let smooth := l.map (smoothStep a.smoothLimit a.base.smooth)
      let spps := ((((a.basePoint sky smooth).map fun p => (nominal, mV3 p.1)).toList ++ a.base.spps).filter fun p => nominal < p.1 + 10 * (sec : Int))
      let b : State := { a with base := { a.base with spps := spps } }
      let fails := b.baseChecks ((l.map fun r => (bits r 290 3, bits r 282 8)).eraseDups).length a.netRunNow
      a.up .fixer = true ∧ a.up .tracking = true ∧ a.track.mode ≠ 1 ∧ a.track.nominal = some nominal ∧ a.base.epochs.head?.map BaseEp.nominal ≠ some nominal ∧ a.base.netEpoch ≠ some nominal ∧ a.base.survey = none ∧ a.base.st = 4)
    ∧ (let s : State := State.reset
      let t : Nat := 0
      let w : Caller := .firmware
      let a := s.advance t
      a.writes w 0x3620 0 [1] = true ∧ a.base.survey = none ∧ ((a.base.st ≠ 2 ∧ a.base.st ≠ 3) ∨ a.stoppedAll = true))
    ∧ (let s : State := { State.reset with base := { Base.reset with netAny := true, netAt := some 0, netSol := 3 } }
      let t : Nat := 0
      let w : Caller := .firmware
      let a := s.advance t
      a.writes w 0x3620 0 [2] = true ∧ a.base.survey = none ∧ ((a.base.st ≠ 2 ∧ a.base.st ≠ 3) ∨ a.stoppedAll = true) ∧ (a.netState = 2 ∨ a.netState = 3))
    ∧ (let s : State := { State.reset with base := { Base.reset with st := 1, survey := some (Survey.start true) } }
      let t : Nat := 0
      let w : Caller := .firmware
      let a := s.advance t
      a.writes w 0x3620 0 [0] = true ∧ a.base.survey.isSome = true)
    ∧ (let s : State := State.reset
      let t : Nat := 0
      let w : Caller := .firmware
      let req : Bytes := [0xD3, 0, 2, 0x3E, 0xD0, 1, 2, 3]
      let a := s.advance t
      let l := (rtcmFrames 512 req).map fun f => a.frameFault f.1 f.2
      a.requests w 0x3640 req = true)
    ∧ (let s : State := Wit.calm
      let t : Nat := 0
      let i : Nat := 5
      let r : Nat := 11
      let req : Bytes := [0xD3, 0, 2, 0x3E, 0xD0, 1, 2, 3]
      let a := s.advance t
      let l := (rtcmFrames 512 req).map fun f => a.frameFault f.1 f.2
      let first := ((rtcmFrames 512 req).find? fun f => a.frameFault f.1 f.2 ≠ 0).map fun f => ((f.2.map fun b => mbits b 0 12).getD 0, a.frameFault f.1 f.2)
      a.requests (.coil i r) 0x3640 req = true)
    ∧ (let s : State := (Wit.base 2).setVal (key 0x3800 0) [1]
      let t : Nat := 0
      let pkt : Bytes := Wit.obsPkt
      let a := s.advance t
      let slot := u pkt 8 2 % 1024
      let r := pkt.drop 16
      a.up .compute = true ∧ a.obsCheck slot r = none)
    ∧ (let s : State := Wit.base 2
      let t : Nat := 0
      let pkt : Bytes := Wit.obsPkt.take 60
      let o : Nat := 0x38
      let a := s.advance t
      a.up .compute = true ∧ a.obsCheck (u pkt 8 2 % 1024) (pkt.drop 16) = some o)
    ∧ (let s : State := Wit.rover .waiting
      let t : Nat := 0
      let i : Nat := 0
      let x : RoverEpoch := Wit.epoch .waiting
      let a := s.advance t
      let b := a.rover.budget.fill a.roverRate a.now
      let c := (if 49 ≤ u x.data 2 1 then 2 else 1) * 1000000000
      a.up .fixer = true ∧ a.rover.epochs.findIdx? (fun x => x.phase = .waiting) = some i ∧ a.rover.epochs[i]? = some x ∧ c ≤ b.level ∧ a.rover.flying < a.roverFlights ∧ ((∀ y ∈ a.rover.epochs, y.slot = x.slot → y.phase ≠ .flying)) ∧ a.holderIs x.slot x.machine = true ∧ a.time64 ≤ x.arrival + (a.cfg 0x3803 0 * ms : Nat) ∧ a.hasBase (si x.data 8 8) = true)
    ∧ (let s : State := { Wit.rover .waiting with base := Base.reset }
      let t : Nat := 0
      let i : Nat := 0
      let x : RoverEpoch := Wit.epoch .waiting
      let a := s.advance t
      let b := a.rover.budget.fill a.roverRate a.now
      a.up .fixer = true ∧ a.rover.epochs.findIdx? (fun x => x.phase = .waiting) = some i ∧ a.rover.epochs[i]? = some x ∧ (if 49 ≤ u x.data 2 1 then 2 else 1) * 1000000000 ≤ b.level ∧ a.rover.flying < a.roverFlights ∧ ((∀ y ∈ a.rover.epochs, y.slot = x.slot → y.phase ≠ .flying)) ∧ (a.holderIs x.slot x.machine = false ∨ x.arrival + (a.cfg 0x3803 0 * ms : Nat) < a.time64 ∨ a.hasBase (si x.data 8 8) = false))
    ∧ (let s : State := Wit.rover .flying
      let t : Nat := 0
      let slot : Nat := 3
      let i : Nat := 0
      let n : Nat := 1024
      let sky : List SatEph := []
      let x : RoverEpoch := Wit.epoch .flying
      let rest : List Nat := span 1025 63
      let a := s.advance t
      let r := a.roverInput x sky
      let o := r.2.2.epoch (if a.reinits x then none else (a.rover.block slot).map RoverBlock.filter) r.2.1 (a.base.st = 2) (decide (250000 ≤ a.track.baseLen2))
      a.up .fixer = true ∧ a.rover.epochs.findIdx? (fun x => x.slot = slot && x.phase = .flying) = some i ∧ a.rover.epochs[i]? = some x ∧ a.rover.spares = n :: rest)
    ∧ (let s : State := let r := Wit.rover .flying; { r with base := { r.base with st := 3 } }
      let t : Nat := 0
      let slot : Nat := 3
      let i : Nat := 0
      let sky : List SatEph := []
      let x : RoverEpoch := Wit.epoch .flying
      let a := s.advance t
      a.up .fixer = true ∧ a.rover.epochs.findIdx? (fun x => x.slot = slot && x.phase = .flying) = some i ∧ a.rover.epochs[i]? = some x ∧ a.base.st ≠ 2)
    ∧ (let s : State := State.reset
      let t : Nat := 0
      let slot : Nat := 5
      let w : Caller := .firmware
      let a := s.advance t
      slot < 1024 ∧ a.writes w (0x7000 + slot) 0x32 [1] = true) := by
  refine ⟨?_, ?_, ?_, ?_, ?_, ?_, ?_, ?_, ?_, ?_, ?_, ?_, ?_, ?_⟩ <;> decide +kernel

theorem test_wit_Conformance :
    (let s : State := Wit.monitored [(4, .notice true), (3, .fix 900000000 0 0 100 100 0 0)]
      let t : Nat := 0
      let m : Nat := 3
      let i : Nat := 1
      let tf : Int := 900000000
      let e : Int := 0
      let n : Int := 0
      let ee : Int := 100
      let nn : Int := 100
      let en : Int := 0
      let status : Nat := 0
      let a := s.advance t
      let var := lambdaOf ee nn en
      let p := (a.firstPair m ⟨0, tf, e, n, var, none⟩).2
      let x := a.excursion m ⟨tf, e, n, a.radiusOf var, a.headingFor m tf⟩
      let causes := p.2.1 ||| x.bits ||| (if x.fails then 1 else 0)
      a.up .comb = true ∧ a.conf.ops.findIdx? (fun y => y.1 = m) = some i ∧ a.conf.ops[i]? = some (m, .fix tf e n ee nn en status) ∧ a.monitored m = true ∧ a.timeOk 0 tf = true)
    ∧ (let s : State := Wit.monitored [(3, .reported Wit.reported)]
      let t : Nat := 0
      let m : Nat := 3
      let i : Nat := 0
      let b : RepPos := Wit.reported
      let a := s.advance t
      a.up .comb = true ∧ a.conf.ops.findIdx? (fun y => y.1 = m) = some i ∧ a.conf.ops[i]? = some (m, .reported b) ∧ a.monitored m = true ∧ a.timeOk 1 b.t = true)
    ∧ (let s : State := Wit.monitored [(3, .developed 900000000 (63781370000, 5, 5) 10 1)]
      let t : Nat := 0
      let m : Nat := 3
      let i : Nat := 0
      let tf : Int := 900000000
      let pos : V3 := (63781370000, 5, 5)
      let sg : Nat := 10
      let st : Nat := 1
      let a := s.advance t
      let p := a.planePoint pos
      let causes := (a.firstPair m ⟨2, tf, p.1, p.2, sg * sg * 1000000, none⟩).2.2.1
      a.up .comb = true ∧ a.conf.ops.findIdx? (fun y => y.1 = m) = some i ∧ a.conf.ops[i]? = some (m, .developed tf pos sg st) ∧ a.monitored m = true ∧ a.timeOk 2 tf = true)
    ∧ (let s : State := Wit.monitored [(3, .notice false)]
      let t : Nat := 0
      let m : Nat := 3
      let i : Nat := 0
      let fixed : Bool := false
      let a := s.advance t
      let causes := if fixed then 0 else 2 ^ 6
      a.up .comb = true ∧ a.conf.ops.findIdx? (fun y => y.1 = m) = some i ∧ a.conf.ops[i]? = some (m, .notice fixed) ∧ a.monitored m = true)
    ∧ (let s : State := Wit.monitored [(3, .reported { Wit.reported with t := 1100000000 })]
      let t : Nat := 0
      let m : Nat := 3
      let i : Nat := 0
      let kind : Nat := 1
      let c : Instr := .confReported t m
      let op : ConfOp := .reported { Wit.reported with t := 1100000000 }
      let tp : Int := 1100000000
      let a := s.advance t
      ((kind = 0 ∧ c = .confFix t m) ∨ (kind = 1 ∧ c = .confReported t m) ∨ (kind = 2 ∧ c = .confDeveloped t m)) ∧ a.up .comb = true ∧ a.conf.ops.findIdx? (fun y => y.1 = m) = some i ∧ a.conf.ops[i]? = some (m, op) ∧ op.kind = kind ∧ a.monitored m = true ∧ op.time = some tp ∧ (tp < a.time64 - a.staleLimit kind ∨ a.time64 + 50000000 < tp))
    ∧ (let s : State := Wit.monitored [(9, .notice true)]
      let t : Nat := 0
      let m : Nat := 9
      let i : Nat := 0
      let c : Instr := .confResultNotice t m
      let op : ConfOp := .notice true
      let a := s.advance t
      ((op.kind = 0 ∧ c = .confFix t m) ∨ (op.kind = 1 ∧ c = .confReported t m) ∨ (op.kind = 2 ∧ c = .confDeveloped t m)
      ∨ (op.kind = 4 ∧ c = .confResultNotice t m)) ∧ a.up .comb = true ∧ a.conf.ops.findIdx? (fun y => y.1 = m) = some i ∧ a.conf.ops[i]? = some (m, op) ∧ a.monitored m = false)
    ∧ (let x : ConfSlot := { ConfSlot.reset with since := some 0, ages := [some 1000000000, some 1000000000, some 1000000000] }
      let s : State := { Wit.calm with conf := { Conf.reset with slots := [(3, x)] } }
      let t : Nat := 0
      let m : Nat := 3
      let a := s.advance t
      a.up .comb = true ∧ a.conf.slots = [(m, x)] ∧ a.monitored m = true ∧ ((∀ k < 3, a.kindStale m k = false)))
    ∧ (let s : State := (Wit.monitored []).setVal (key 0x7003 0x42) (leBytes 1 1)
      let t : Nat := 1000000000000
      let m : Nat := 3
      let x : ConfSlot := { ConfSlot.reset with since := some 0, ages := [some 0, some 0, some 0] }
      let a := s.advance t
      let on := fun k => a.kindStale m k
      let causes := (if on 1 then 2 ^ 3 else 0) ||| (if on 0 then 2 ^ 4 else 0) ||| (if on 2 then 2 ^ 5 else 0)
      a.up .comb = true ∧ a.conf.slots = [(m, x)] ∧ a.monitored m = true ∧ on 0 || on 1 || on 2 ∧ x.staleAt = [none, none, none])
    ∧ (let s : State := (Wit.base 2).setVal (key 0x480C 0) [0]
      let t : Nat := 0
      let a := s.advance t
      a.up .comb = true ∧ a.cfg 0x480C 0 ≤ a.quality ∧ a.base.st = 2)
    ∧ (let s : State := (Wit.calm).setVal (key 0x4802 1) (zeros 36 ++ [4, 1, 0, 0])
      let t : Nat := 0
      let a := s.advance t
      let p := a.policy (a.cfg 0x4820 0) 9
      a.up .comb = true ∧ a.base.st ≠ 2 ∧ p.1 = 4 ∧ p.2 ≤ nth a.conf.rows 9 + 1 ∧ a.up .timebase = true)
    ∧ (let s : State := Wit.calm
      let t : Nat := 0
      let c : Caller := .firmware
      let v : Bytes := Wit.swarm
      let a := s.advance t
      let i := si v 8 8
      let d := si v 16 8
      a.writes c 0x4821 0 v = true ∧ a.conf.swarm = none ∧ u v 0 1 ≤ 7 ∧ allZero (slice v 1 7) = true ∧ a.time64 + (200 * ms : Nat) ≤ i ∧ i ≤ a.time64 + (3600 * sec : Nat) ∧ i ≤ d ∧ d ≤ i + (600 * sec : Nat))
    ∧ (let s : State := Wit.swarmed false
      let t : Nat := 0
      let c : Caller := .firmware
      let v : Bytes := Wit.swarm
      let a := s.advance t
      let i := si v 8 8
      let d := si v 16 8
      a.writes c 0x4821 0 v = true ∧ (a.conf.swarm.isSome = true ∨ i < a.time64 + (200 * ms : Nat) ∨ a.time64 + (3600 * sec : Nat) < i ∨ d < i ∨ i + (600 * sec : Nat) < d) ∧ u v 0 1 ≠ 0xFF)
    ∧ (let s : State := Wit.swarmed false
      let t : Nat := 0
      let c : Caller := .firmware
      let v : Bytes := zeros 24
      let x : Swarm := ⟨2, 2000000000, 3000000000, false⟩
      let a := s.advance t
      a.writes c 0x4821 0 (byte 0xFF :: v.drop 1) = true ∧ allZero (slice v 1 7) = true ∧ a.conf.swarm = some x ∧ a.time64 < x.instant)
    ∧ (let s : State := Wit.swarmed false
      let t : Nat := 2000000000
      let w : Swarm := ⟨2, 2000000000, 3000000000, false⟩
      let a := s.advance t
      a.up .comb = true ∧ a.conf.swarm = some w ∧ w.applied = false ∧ w.instant ≤ a.time64 ∧ w.mode < 256)
    ∧ (let s : State := Wit.swarmed true
      let t : Nat := 3000000000
      let w : Swarm := ⟨2, 2000000000, 3000000000, true⟩
      let a := s.advance t
      a.up .comb = true ∧ a.conf.swarm = some w ∧ w.applied = true ∧ w.deadline ≤ a.time64) := by
  refine ⟨?_, ?_, ?_, ?_, ?_, ?_, ?_, ?_, ?_, ?_, ?_, ?_, ?_, ?_, ?_⟩ <;> decide +kernel

theorem test_wit_StopBath :
    (let s : State := State.reset
      let t : Nat := 5 * us
      let n : Nat := 3
      let pin : Nat := 1
      let level : Bool := false
      let a := s.advance t
      let x := (a.stop.inp n).pin pin
      n < 4 ∧ pin < 2 ∧ a.stop.ins.length = 4 ∧ x.level ≠ level)
    ∧ (let s : State := Wit.stopIn ⟨⟨false, 10 * us, true, 3 * us⟩, ⟨true, 0, true, 0⟩, none, .none⟩
      let t : Nat := 11 * us
      let n : Nat := 0
      let pin : Nat := 0
      let level : Bool := true
      let a := s.advance t
      let x := (a.stop.inp n).pin pin
      n < 4 ∧ pin < 2 ∧ a.stop.ins.length = 4 ∧ x.level ≠ level)
    ∧ (let s : State := Wit.stopIn ⟨⟨false, 0, true, 0⟩, ⟨true, 0, true, 0⟩, none, .none⟩
      let t : Nat := 10 * sec
      let n : Nat := 0
      let pin : Nat := 0
      let a := s.advance t
      n < 4 ∧ pin < 2 ∧ a.stop.ins.length = 4 ∧ a.siHeld n pin = true ∧ a.up .timebase = true)
    ∧ (let s : State := Wit.stopIn ⟨⟨false, 0, false, 0⟩, ⟨true, 0, true, 0⟩, some 0, .none⟩
      let t : Nat := 10 * sec
      let n : Nat := 0
      let t0 : Nat := 0
      let a := s.advance t
      let c := a.siCfg n
      n < 4 ∧ a.stop.ins.length = 4 ∧ (a.stop.inp n).differ = some t0 ∧ (a.stop.inp n).lock = .none ∧ siMode c ≠ 0 ∧ t0 + siDiscrepancyTime c < a.now ∧ (a.stop.inp n).goA c ≠ (a.stop.inp n).goB c ∧ a.up .timebase = true)
    ∧ (let s : State := Wit.stopOut StopOut.reset
      let t : Nat := 0
      let n : Nat := 0
      let p : Bool := true
      let m : Bool := true
      let a := s.advance t
      let c := a.soCfg n
      n < 4 ∧ a.stop.outs.length = 4 ∧ soEnabled c = true ∧ soWrong (a.soDriving n) p m = true ∧ (a.stop.outp n).readback = false ∧ (a.stop.outp n).pulse = none ∧ a.up .timebase = true)
    ∧ (let s : State := Wit.stopOut StopOut.reset
      let t : Nat := 0
      let n : Nat := 0
      let a := s.advance t
      let c := a.soCfg n
      n < 4 ∧ a.stop.outs.length = 4 ∧ soEnabled c = true ∧ soPulsed c = true ∧ (a.stop.outp n).lastTest = none ∧ a.stop.outs.all (fun o => o.pulse.isNone) = true)
    ∧ (let s : State := Wit.stopOut ⟨false, false, some 0, some 0⟩
      let t : Nat := 0
      let n : Nat := 0
      let t0 : Nat := 0
      let p : Bool := true
      let m : Bool := true
      let a := s.advance t
      n < 4 ∧ a.stop.outs.length = 4 ∧ (a.stop.outp n).pulse = some t0 ∧ t0 + soWidth (a.soCfg n) ≤ a.now ∧ a.up .timebase = true)
    ∧ (let s : State := Wit.stopOut ⟨true, false, none, some 0⟩
      let t : Nat := 0
      let n : Nat := 0
      let p : Bool := true
      let m : Bool := false
      let a := s.advance t
      n < 4 ∧ a.stop.outs.length = 4 ∧ (a.stop.outp n).readback = true ∧ soWrong (a.soDriving n) p m = false)
    ∧ (let s : State := Wit.going
      let t : Nat := 0
      let c : Caller := .firmware
      let v : Bytes := [3, 0, 5, 0, 1, 2, 3, 4]
      let a := s.advance t
      a.writes c 0x4840 0 v = true ∧ u v 0 1 ≤ 3 ∧ u v 1 1 = 0 ∧ a.commandTargetOk (u v 0 1) (u v 2 2) = true ∧ a.up .timebase = true)
    ∧ (let s : State := Wit.joined
      let t : Nat := 0
      let n : Nat := 0
      let c : Caller := .coil 5 11
      let msg : Bytes := [6, 0, 1, 0, 9, 0, 0, 0] ++ leBytes 8 1000000000
      let a := s.advance t
      a.requests c 0x4862 msg = true ∧ a.nbrOfCaller c = some n ∧ msg.length = 16 ∧ u msg 0 2 = a.nbrId n ∧ u msg 2 1 ≤ 1 ∧ u msg 3 1 = 0 ∧ a.up .timebase = true)
    ∧ (let s : State := Wit.joined.setVal (key 0x4860 0) (leBytes 2 1)
      let t : Nat := 0
      let n : Nat := 0
      let c : Caller := .coil 5 11
      let msg : Bytes := [6, 0, 1, 0, 9, 0, 0, 0] ++ leBytes 8 1000000000
      let a := s.advance t
      a.requests c 0x4862 msg = true ∧ a.nbrOfCaller c = some n ∧ msg.length = 16 ∧ u msg 0 2 = a.nbrId n ∧ u msg 2 1 ≤ 1 ∧ u msg 3 1 = 0 ∧ a.up .timebase = true)
    ∧ (let x : StopNotice := ⟨0, zeros 16, 999999000, 999999000⟩
      let s : State := { Wit.joined with stop := { StopBath.reset with notices := [x] }, comb := { Wit.joined.comb with nbrs := { Neighbour.reset with st := .live, session := some 7 } :: List.replicate 11 Neighbour.reset } }
      let t : Nat := 1100 * ms
      let n : Nat := 0
      let a := s.advance t
      a.stop.notices = [x] ∧ x.nbr = n ∧ x.last + 2 * ms ≤ a.now ∧ a.now < x.since + 200 * ms ∧ (a.nbr n).session.isSome = true)
    ∧ (let s : State := Wit.going
      let t : Nat := 5
      let a := s.advance t
      a.up .timebase = true ∧ a.up .aon = true)
    ∧ (let s : State := { Wit.calm with stop := { StopBath.reset with a := { StopChan.reset with go := [1] }, disagree := some 5 } }
      let t : Nat := 0
      let t0 : Nat := 5
      let a := s.advance t
      a.stop.disagree = some t0 ∧ t0 + 40 * us < a.now ∧ a.stop.a.go ≠ a.stop.b.go ∧ a.up .timebase = true)
    ∧ (let s : State := { Wit.calm with stop := Wit.latched }
      let t : Nat := 0
      let c : Caller := .firmware
      let v : Bytes := [3, 0, 5, 0]
      let a := s.advance t
      a.writes c 0x4841 0 v = true ∧ a.releaseChecks (u v 0 1) (u v 1 1) (u v 2 2) (a.privOf c) = none)
    ∧ (let x : Arm := ⟨3, 5, 9, 0⟩
      let s : State := { Wit.calm with stop := { Wit.latched with arm := some x } }
      let t : Nat := 1000 * ms
      let c : Caller := .firmware
      let v : Bytes := [3, 0, 5, 0, 9, 0, 0, 0]
      let a := s.advance t
      a.writes c 0x4843 0 v = true ∧ a.releaseChecks (u v 0 1) (u v 1 1) (u v 2 2) (a.privOf c) = none ∧ a.stop.arm = some x ∧ x.scope = u v 0 1 ∧ x.target = u v 2 2 ∧ x.number = u v 4 4 ∧ x.at_ + a.cfg 0x4844 0 * ms ≤ a.now ∧ a.now ≤ x.at_ + a.cfg 0x4845 0 * sec ∧ a.up .timebase = true ∧ a.up .aon = true)
    ∧ (let s : State := { Wit.calm with stop := { Wit.latched with arm := some ⟨3, 5, 9, 0⟩ } }
      let t : Nat := 1000 * ms
      let c : Caller := .firmware
      let v : Bytes := [3, 0, 5, 0, 8, 0, 0, 0]
      let a := s.advance t
      a.writes c 0x4843 0 v = true ∧ ((a.releaseChecks (u v 0 1) (u v 1 1) (u v 2 2) (a.privOf c)).isSome = true ∨ (a.confirmChecks v).isSome = true)) := by
  refine ⟨?_, ?_, ?_, ?_, ?_, ?_, ?_, ?_, ?_, ?_, ?_, ?_, ?_, ?_, ?_, ?_, ?_⟩ <;> decide +kernel

theorem test_wit_LinkEvents :
    (let s : State := Wit.radio [(3, Wit.link .connected)]
      let t : Nat := 1015000000
      let m : Nat := 3
      let n : Nat := 0
      let l : Link := Wit.link .connected
      let a := s.advance t
      let x : Int := a.now - (a.radioTime - l.anchor n)
      let token := a.safelight m n x.toNat l
      let sent := l.refill (l.par.down - 28 - token.length)
      let plain := token ++ sent.sent.flatMap Elem.bytes
      let v := a.mvalNow l.modem
      let f := devFrame 0x11 (b2n l.sn + 2 * b2n l.nesn) l.linkId (l.txCount + 1) (n % 65536) l.linkKey plain
      let ns := frameNs v.half v.linkRate (28 + plain.length)
      let ch := l.par.channel n
      a.up .radio = true ∧ a.radio.farewells = [] ∧ a.link? m = some l ∧ l.pend = none ∧ a.eventNow l = some n ∧ l.keyOk = true ∧ l.txCount + 1 < 2 ^ 40 ∧ l.awaiting = none ∧ Tbl.get? a.stop.frames m = none)
    ∧ (let l : Link := { Wit.link .connected with awaiting := some 5 }
      let s : State := Wit.radio [(3, l)]
      let t : Nat := 0
      let m : Nat := 3
      let f : RadioFrame := Wit.reply 3 9 []
      let offset : Int := 16000
      let rssi : Int := -50
      let a := s.advance t
      let ifs : Int := tIfs (a.mvalNow l.modem).half
      let ack := bit f.flags 1 ≠ l.sn
      let new := bit f.flags 0 = l.nesn
      a.up .radio = true ∧ a.link? m = some l ∧ l.awaiting.isSome = true ∧ l.keyOk = true ∧ f.fcsGood = true ∧ f.ftype = 0x21 ∧ f.id = l.linkId ∧ ifs - 2000 ≤ offset ∧ offset ≤ ifs + 10000 ∧ micOk f l.linkKey = true ∧ l.rxHigh < f.counter ∧ f.body.plain = [] ∧ l.msgs = [])
    ∧ (let l : Link := { Wit.link .joining with awaiting := some 5 }
      let s : State := Wit.radio [(3, l)]
      let t : Nat := 0
      let m : Nat := 3
      let f : RadioFrame := Wit.reply 0 9 (elemBytes 4 (zeros 12))
      let offset : Int := 16000
      let rssi : Int := -50
      let a := s.advance t
      let ifs : Int := tIfs (a.mvalNow l.modem).half
      let fleet := a.cfg 0x4820 0
      a.up .radio = true ∧ a.link? m = some l ∧ l.awaiting.isSome = true ∧ l.keyOk = true ∧ f.fcsGood = true ∧ f.ftype = 0x21 ∧ f.id = l.linkId ∧ ifs - 2000 ≤ offset ∧ offset ≤ ifs + 10000 ∧ micOk f l.linkKey = true ∧ l.rxHigh < f.counter ∧ bit f.flags 1 = l.sn ∧ bit f.flags 0 = l.nesn ∧ l.st = .joining ∧ allZero l.swarm = true ∧ fleet < 256 ∧ f.body.plain = elemBytes 4 (byte fleet :: zeros 11))
    ∧ (let l : Link := { Wit.link .connected with awaiting := some 5, rxHigh := 9 }
      let s : State := Wit.radio [(3, l)]
      let t : Nat := 0
      let m : Nat := 3
      let f : RadioFrame := Wit.reply 3 9 []
      let offset : Int := 16000
      let rssi : Int := -50
      let a := s.advance t
      let ifs : Int := tIfs (a.mvalNow l.modem).half
      a.up .radio = true ∧ a.link? m = some l ∧ l.awaiting.isSome = true ∧ l.keyOk = true ∧ f.fcsGood = true ∧ f.ftype = 0x21 ∧ f.id = l.linkId ∧ ifs - 2000 ≤ offset ∧ offset ≤ ifs + 10000 ∧ ((micOk f l.linkKey = false ∨ f.counter ≤ l.rxHigh)))
    ∧ (let l : Link := { Wit.link .connected with awaiting := some 5, linkKey := zeros 15 }
      let s : State := Wit.radio [(3, l)]
      let t : Nat := 0
      let m : Nat := 3
      let f : RadioFrame := Wit.reply 3 9 []
      let offset : Int := 16000
      let rssi : Int := -50
      let a := s.advance t
      let ifs : Int := tIfs (a.mvalNow l.modem).half
      a.up .radio = true ∧ a.link? m = some l ∧ l.awaiting.isSome = true ∧ l.keyOk = true ∧ f.fcsGood = true ∧ f.ftype = 0x21 ∧ f.id = l.linkId ∧ ifs - 2000 ≤ offset ∧ offset ≤ ifs + 10000 ∧ ((micOk f l.linkKey = false ∨ f.counter ≤ l.rxHigh)))
    ∧ (let s : State := Wit.radio [(3, Wit.link .connected)]
      let t : Nat := 10 * sec
      let m : Nat := 3
      let l : Link := Wit.link .connected
      let a := s.advance t
      a.up .radio = true ∧ a.link? m = some l ∧ l.lastRx + l.par.sup * 10 * ms ≤ a.now)
    ∧ (let s : State := Wit.radio [(3, Wit.link .joining)]
      let t : Nat := 10 * sec
      let m : Nat := 3
      let l : Link := Wit.link .joining
      let a := s.advance t
      a.up .radio = true ∧ a.link? m = some l ∧ l.st = .joining ∧ l.anchor 8 ≤ a.radioTime)
    ∧ (let s : State := Wit.radio []
      let t : Nat := 0
      let k : Nat := 0
      let kb : Bytes := zeros 32
      let a := s.advance t
      let v := a.mvalNow k
      let x := a.recurAt v.bOffset (v.bPeriod * 20)
      let f := devFrame 0x31 0 (broadcastId a.controllerId k) ((a.modem k).counter + 1) 0 kb (a.beaconPayload k v [])
      a.keyFor (a.cfg 0x2C0B 0) 4 = some kb ∧ a.up .radio = true ∧ a.modemOn k = true ∧ k < a.radio.modems.length ∧ a.recurs v.bOffset (v.bPeriod * 20) = true ∧ v.hb = false)
    ∧ (let s : State := Wit.radio []
      let t : Nat := 0
      let k : Nat := 0
      let m : Nat := 3
      let int : Nat := 50
      let len : Nat := 7
      let off : Nat := 34
      let f : RadioFrame := devFrame 0x51 0 77 5 0 (joinKey (zeros 32) 77) (zeros 16 ++ [1, 0, 40, 0, 64, 0, 0, 0])
      let fleet : Bytes := zeros 32
      let a := s.advance t
      let p := f.body.plain
      a.up .radio = true ∧ a.modemOn k = true ∧ (a.mvalNow k).joinWin ≠ 0 ∧ f.fcsGood = true ∧ f.ftype = 0x51 ∧ a.gone .security = false ∧ a.keyFor (a.cfg 0x2C09 0) 2 = some fleet ∧ micOk f (joinKey fleet f.id) = true ∧ a.slotOf f.id = some m ∧ a.cfg (0x7000 + m) 2 < f.counter ∧ f.counter < 2 ^ 64 ∧ p.length = 24 ∧ 1 ≤ u p 16 2 ∧ u p 16 2 ≤ 500 ∧ u p 22 2 = 0 ∧ a.joinStatus k (a.mvalNow k) f.id (u p 18 2) (u p 20 2) = (0, m, int, len, off))
    ∧ (let s : State := Wit.radio []
      let t : Nat := 0
      let k : Nat := 0
      let f : RadioFrame := devFrame 0x51 0 0xFFFFFFFF 5 0 (joinKey (zeros 32) 0xFFFFFFFF) (zeros 16 ++ [1, 0, 40, 0, 64, 0, 0, 0])
      let fleet : Bytes := zeros 32
      let a := s.advance t
      let p := f.body.plain
      let x := a.joinStatus k (a.mvalNow k) f.id (u p 18 2) (u p 20 2)
      let r := devFrame 0x61 0 f.id f.counter 0 (joinKey fleet f.id) (1 :: zeros 75)
      a.up .radio = true ∧ a.modemOn k = true ∧ (a.mvalNow k).joinWin ≠ 0 ∧ f.fcsGood = true ∧ f.ftype = 0x51 ∧ a.gone .security = false ∧ a.keyFor (a.cfg 0x2C09 0) 2 = some fleet ∧ micOk f (joinKey fleet f.id) = true ∧ a.slotOf f.id = none ∧ p.length = 24 ∧ 1 ≤ u p 16 2 ∧ u p 16 2 ≤ 500 ∧ u p 22 2 = 0)
    ∧ (let s : State := (Wit.radio []).setVal (key 0x4046 1) Wit.nbrBytes |> fun s => { s with radio := { s.radio with modems := s.radio.modems.map fun m => { m with listens := [⟨0, 0, 900, 200⟩] } } }
      let t : Nat := 0
      let k : Nat := 0
      let n : Nat := 0
      let f : RadioFrame := devFrame 0x31 0 (broadcastId 6 2) 5 0 (zeros 32) (zeros 40)
      let kb : Bytes := zeros 32
      let w : ReplayWin := ⟨5, []⟩
      let a := s.advance t
      let p := framePayload f
      a.up .radio = true ∧ a.modemOn k = true ∧ (a.modem k).listens.any (fun l => l.nbr = n) = true ∧ a.nbrPresent n = true ∧ f.fcsGood = true ∧ f.ftype = 0x31 ∧ f.id = broadcastId (a.nbrId n) 2 ∧ a.keyFor (a.cfg 0x2C0B 0) 4 = some kb ∧ micOk f kb = true ∧ ReplayWin.take (Tbl.get? a.radio.wins f.id) f.counter = some w ∧ bit (u p 3 1) 1 = false)
    ∧ (let s : State := (Wit.radio []).setVal (key 0x4046 1) Wit.nbrBytes |> fun s => { s with radio := { s.radio with wins := [(broadcastId 6 2, ⟨5, []⟩)], modems := s.radio.modems.map fun m => { m with listens := [⟨0, 0, 900, 200⟩] } } }
      let t : Nat := 0
      let k : Nat := 0
      let n : Nat := 0
      let f : RadioFrame := devFrame 0x31 0 (broadcastId 6 2) 5 0 (zeros 32) (zeros 40)
      let kb : Bytes := zeros 32
      let a := s.advance t
      a.up .radio = true ∧ a.modemOn k = true ∧ (a.modem k).listens.any (fun l => l.nbr = n) = true ∧ a.nbrPresent n = true ∧ f.fcsGood = true ∧ f.ftype = 0x31 ∧ f.id = broadcastId (a.nbrId n) 2 ∧ a.keyFor (a.cfg 0x2C0B 0) 4 = some kb ∧ micOk f kb = true ∧ ReplayWin.take (Tbl.get? a.radio.wins f.id) f.counter = none)
    ∧ (let w : Swarm := ⟨2, 2000000000, 3000000000, false⟩
      let s : State := { Wit.radio [] with conf := { Conf.reset with swarm := some w } }
      let t : Nat := 1002500000
      let k : Nat := 0
      let off : Nat := 100
      let kb : Bytes := zeros 32
      let a := s.advance t
      let v := a.mvalNow k
      let f := devFrame 0x41 0 (broadcastId a.controllerId k) ((a.modem k).counter + 1) 0 kb (elemBytes 7 w.announce)
      a.keyFor (a.cfg 0x2C0A 0) 3 = some kb ∧ (a.modem k).waggle = some off ∧ a.up .radio = true ∧ a.modemOn k = true ∧ k < a.radio.modems.length ∧ v.wagInt ≠ 0 ∧ a.recurs off (v.wagInt * 20) = true ∧ 24 ≤ frameFit v.half v.wagRate (v.wagLen * unitNs - v.guardNs) - 28 ∧ a.conf.swarm = some w ∧ (a.modem k).rtcm = [] ∧ (a.modem k).msgs = []) := by
  refine ⟨?_, ?_, ?_, ?_, ?_, ?_, ?_, ?_, ?_, ?_, ?_, ?_, ?_⟩ <;> decide +kernel

theorem test_wit_RadioCommands :
    (let s : State := State.reset
      let t : Nat := 0
      let w : Caller := .firmware
      let a := s.advance t
      a.writes w 0x2C00 0 [1] = true ∧ a.groupCheck 0x2C00 = none ∧ a.radio.modems.length = 8)
    ∧ (let s : State := Wit.radio []
      let t : Nat := 0
      let n : Nat := 0
      let k : Nat := 0
      let w : Caller := .firmware
      let v : Bytes := [0, 1] ++ leBytes 2 900 ++ leBytes 2 200
      let a := s.advance t
      let others := fun (m : Modem) => m.listens.filter fun x => x.nbr ≠ n
      n < 12 ∧ a.writes w 0x2C13 (n + 1) v = true ∧ a.listenCheck n v = none ∧ a.radio.modems.length = 8 ∧ k < 8)
    ∧ (let s : State := Wit.radio []
      let t : Nat := 0
      let n : Nat := 0
      let k : Nat := 0
      let w : Caller := .firmware
      let v : Bytes := [0xFF, 0] ++ zeros 4
      let a := s.advance t
      let others := fun (m : Modem) => m.listens.filter fun x => x.nbr ≠ n
      n < 12 ∧ a.writes w 0x2C13 (n + 1) v = true ∧ a.listenCheck n v = none ∧ a.radio.modems.length = 8 ∧ k < 8)
    ∧ (let s : State := Wit.radio [(3, Wit.link .connected)]
      let t : Nat := 0
      let m : Nat := 3
      let w : Caller := .firmware
      let v : Bytes := leBytes 2 200 ++ leBytes 2 400 ++ [0, 0, 0, 20] ++ zeros 12
      let l : Link := Wit.link .connected
      let a := s.advance t
      let q := LinkPar.of v
      let mv := a.mvalNow l.modem
      let p := { l.par with int := q.int, sup := q.sup, lat := q.lat, len := q.len, up := mv.upMax q.len }
      let n := a.updateInstant l
      let off := offsetIn (l.anchor n) (q.int * 20)
      m < 1024 ∧ a.writes w (0x7000 + m) 0x54 v = true ∧ a.link? m = some l ∧ l.st = .connected ∧ l.pend = none ∧ l.held = false ∧ v.drop 5 = [0, 0, byte q.len] ++ zeros 12 ∧ mv.parOk p = true ∧ (400 ≤ q.int ∨ a.modemLinks l.modem ≤ 128) ∧ (a.resvsNow l.modem [m]).all (fun r => !(p.resv off).clash r) = true)
    ∧ (let x : LinkUpdate := ⟨9, { Wit.linkPar with int := 200 }.bytes, 700, []⟩
      let l : Link := { Wit.link .connected with pend := some x }
      let s : State := Wit.radio [(3, l)]
      let t : Nat := 10 * sec
      let m : Nat := 3
      let a := s.advance t
      a.link? m = some l ∧ l.pend = some x ∧ l.anchor x.instant ≤ a.radioTime ∧ l.held = false)
    ∧ (let s : State := Wit.radio [(3, Wit.link .connected)]
      let t : Nat := 0
      let m : Nat := 3
      let w : Caller := .firmware
      let l : Link := Wit.link .connected
      let a := s.advance t
      m < 1024 ∧ a.writes w (0x7000 + m) 0x55 [1] = true ∧ a.link? m = some l)
    ∧ (let s : State := Wit.radio [(3, Wit.link .connected)]
      let t : Nat := 0
      let m : Nat := 3
      let id : Nat := 0xFFFFFFFF
      let w : Caller := .firmware
      let a := s.advance t
      m < 1024 ∧ id < 2 ^ 32 ∧ a.writes w (0x7000 + m) 1 (leBytes 4 id) = true ∧ (id = 0xFFFFFFFF ∨ (∀ j < a.tier, j ≠ m → a.machineId j ≠ id)))
    ∧ (let s : State := Wit.radio []
      let t : Nat := 0
      let m : Nat := 4
      let j : Nat := 3
      let id : Nat := 77
      let w : Caller := .firmware
      let a := s.advance t
      m < 1024 ∧ j < a.tier ∧ j ≠ m ∧ id < 2 ^ 32 ∧ id ≠ 0xFFFFFFFF ∧ a.writes w (0x7000 + m) 1 (leBytes 4 id) = true ∧ a.machineId j = id)
    ∧ (let s : State := Wit.radio [(3, Wit.link .connected)]
      let t : Nat := 0
      let w : Caller := .firmware
      let req : Bytes := [3, 0, 0, 0, 1, 2, 3]
      let l : Link := Wit.link .connected
      let a := s.advance t
      let m := u req 0 2
      a.requests w 0x2C11 req = true ∧ 4 ≤ req.length ∧ req.length ≤ 4100 ∧ u req 2 2 = 0 ∧ m < a.tier ∧ m < 1024 ∧ a.link? m = some l ∧ l.st = .connected ∧ l.msgs.length < 4)
    ∧ (let s : State := Wit.radio []
      let t : Nat := 0
      let k : Nat := 0
      let w : Caller := .firmware
      let req : Bytes := [1, 2, 0, 0, 1, 2, 3]
      let a := s.advance t
      let mask := u req 0 1
      a.requests w 0x2C12 req = true ∧ 4 ≤ req.length ∧ req.length ≤ 1028 ∧ 1 ≤ u req 1 1 ∧ u req 1 1 ≤ 8 ∧ u req 2 2 = 0 ∧ a.radio.modems.length = 8 ∧ ((∀ j < 8, bit mask j = true → a.hasModem j = true)) ∧ ((∀ j < 8, (a.modem j).msgs.length < 16)) ∧ mask ≠ 0 ∧ k < 8)
    ∧ (let s : State := (Wit.radio []).setVal (key 0x2C04 1) Wit.modemBytes |> fun s => s.setModem 0 fun m => { m with replan := true }
      let t : Nat := 0
      let k : Nat := 0
      let a := s.advance t
      let b := a.cfgB 0x2C04 (k + 1)
      (a.modem k).replan = true ∧ a.up .radio = true ∧ a.hasModem k = true ∧ a.radio.modems.length = 8) := by
  refine ⟨?_, ?_, ?_, ?_, ?_, ?_, ?_, ?_, ?_, ?_, ?_⟩ <;> decide +kernel

theorem test_wit_TimeServo :
    (let s : State := { State.reset with tb := { Timebase.reset 0 with refin := true, refClock := 2 } }
      let t : Nat := 3
      let a := s.advance t
      a.tb.refin = true)
    ∧ (let s : State := State.reset.setVal (key 0x2015 0) [2]
      let t : Nat := 3
      let clock : Nat := 2
      let a := s.advance t
      a.tb.refin = false ∧ clock ≠ 0 ∧ clock = a.cfg 0x2015 0)
    ∧ (let s : State := State.reset
      let t : Nat := 3
      let src : Nat := 2
      let off : Int := 100
      let bound : Nat := 50
      let a := s.advance t
      a.sized ∧ a.up .timebase = true ∧ 1 ≤ src ∧ src ≤ 4 ∧ a.sourceReaches src = true ∧ ¬ (src = 1 ∧ a.base.st = 3))
    ∧ (let s : State := Wit.timeFrom .freerun { Wit.source 5 false with qualified := false }
      let t : Nat := 60 * sec
      let src : Nat := 2
      let a := s.advance t
      a.sized ∧ a.up .timebase = true ∧ 1 ≤ src ∧ src ≤ 4 ∧ (a.tb.src src).consistent a.now (a.cfg 0x2012 0) (a.cfg 0x2011 0) = true)
    ∧ (let s : State := Wit.timeFrom .locked (Wit.source 5 false)
      let t : Nat := 3
      let src : Nat := 2
      let a := s.advance t
      a.sized ∧ 1 ≤ src ∧ src ≤ 4)
    ∧ (let s : State := Wit.timeFrom .freerun (Wit.source (-1000000000) false)
      let t : Nat := 0
      let c : Nat := 2
      let a := s.advance t
      let off := a.tb.predict (a.tb.src c) a.now
      a.up .timebase = true ∧ a.tb.st = .freerun ∧ a.candidate = some c ∧ (a.time64 - off) % (1000000000 : Int) = 0)
    ∧ (let s : State := let b := Wit.timeFrom .holdJump (Wit.source 2000000 true); { b with tb := { b.tb with armed := true } }
      let t : Nat := 0
      let c : Nat := 2
      let a := s.advance t
      let off := a.tb.predict (a.tb.src c) a.now
      a.up .timebase = true ∧ a.tb.st = .holdJump ∧ a.tb.armed = true ∧ a.firstDisagree = some c ∧ a.time64 % (1000000000 : Int) < 2)
    ∧ (let s : State := let b := Wit.timeFrom .holdJump (Wit.source 2000000 true); { b with stop := StopBath.reset }
      let t : Nat := 0
      let c : Caller := .firmware
      let a := s.advance t
      a.writes c 0x2008 0 [1] = true ∧ a.tb.st = .holdJump ∧ a.stoppedAll = true)
    ∧ (let s : State := let b := Wit.timeFrom .holdJump (Wit.source 2000000 true); { b with tb := { b.tb with armed := true } }
      let t : Nat := 0
      let c : Caller := .firmware
      let a := s.advance t
      a.writes c 0x2008 0 [0] = true)
    ∧ (let s : State := Wit.calm.setVal (key 0x2018 0) [1]
      let t : Nat := 0
      let c : Caller := .firmware
      let v : Bytes := leBytes 8 1700000000000000000
      let a := s.advance t
      a.writes c 0x2019 0 v = true ∧ a.cfg 0x2018 0 ≠ 0xFF ∧ si v 0 8 % (1000000000 : Int) = 0) := by
  refine ⟨?_, ?_, ?_, ?_, ?_, ?_, ?_, ?_, ?_, ?_⟩ <;> decide +kernel

theorem test_wit_TimeOutputs :
    (let s : State := Wit.pulsing 1 0 { TimeOut.reset with floating := false }
      let t : Nat := 1000000000
      let n : Nat := 0
      let k : Nat := 1
      let a := s.advance t
      a.sized ∧ a.hasOut n = true ∧ a.up .timebase = true ∧ (a.timeOut n).floating = false ∧ (a.pulseVal n).mode = 1 ∧ (a.pulseVal n).pulseAt (a.timeOut n).k (a.tb.fine a.now) = some k ∧ (a.pulseVal n).gate ≤ a.quality ∧ (a.timeOut n).gapOk (a.pulseVal n) ((a.pulseVal n).edge k) = true)
    ∧ (let s : State := Wit.pulsing 1 255 { TimeOut.reset with floating := false }
      let t : Nat := 1000000000
      let n : Nat := 0
      let k : Nat := 1
      let a := s.advance t
      a.sized ∧ a.hasOut n = true ∧ a.up .timebase = true ∧ (a.timeOut n).floating = false ∧ (a.pulseVal n).mode = 1 ∧ (a.pulseVal n).pulseAt (a.timeOut n).k (a.tb.fine a.now) = some k ∧ a.quality < (a.pulseVal n).gate)
    ∧ (let s : State := Wit.pulsing 1 0 { TimeOut.reset with floating := false, pulse := some ⟨0, 1000000 * fineUnit, true⟩ }
      let l : Bool := true
      let t : Nat := 1000000
      let n : Nat := 0
      let k : Nat := 0
      let e : Int := 1000000 * fineUnit
      let a := s.advance t
      let rest := if (a.timeOut n).floating then none else if (a.pulseVal n).mode = 1 then some (a.pulseVal n).low else if (a.pulseVal n).mode = 2 then some true else none
      a.sized ∧ n < 8 ∧ (a.timeOut n).pulse = some ⟨k, e, l⟩ ∧ e ≤ a.tb.fine a.now)
    ∧ (let s : State := Wit.calm.setVal (key 0x2100 1) (zeros 10 ++ [1, 0, 0, 0, 0, 0] ++ leBytes 8 1000000000 ++ leBytes 4 1000000 ++ [0, 0, 0, 0])
      let t : Nat := 0
      let n : Nat := 0
      let c : Caller := .firmware
      let a := s.advance t
      a.writes c (0x2100 + n) 0 [1] = true ∧ n < 8 ∧ a.pulseCheck (a.cfgB (0x2100 + n) 1) = none)
    ∧ (let s : State := Wit.pulsing 2 0 { TimeOut.reset with floating := false }
      let t : Nat := 10000000
      let n : Nat := 0
      let a := s.advance t
      let q := a.time64.fdiv 1000000000
      a.sized ∧ a.hasOut n = true ∧ a.up .timebase = true ∧ (a.timeOut n).floating = false ∧ (a.pulseVal n).mode = 2 ∧ a.timed = true ∧ (a.pulseVal n).gate ≤ a.quality ∧ 10000000 ≤ a.time64 - q * 1000000000 ∧ (a.timeOut n).todSec ≠ some q)
    ∧ (let s : State := Wit.capturing
      let t : Nat := 5000
      let n : Nat := 0
      let quarter : Nat := 1
      let rising : Bool := true
      let a := s.advance t
      let r := a.capRecord n rising quarter (a.capIn n).miss false (a.capIn n).seq
      a.sized ∧ a.hasCap n = true ∧ a.up .timebase = true ∧ a.cfg 0x2018 0 ≠ n ∧ bit (a.cfg (0x2200 + n) 0) 2 = true ∧ bit (a.cfg (0x2200 + n) 0) (if rising then 0 else 1) = true ∧ ((∀ x, (a.capIn n).lastAt = some x → x + 400 ≤ 4 * a.now + quarter)))
    ∧ (let b : Bytes := zeros 16
      let s : State := let r := Wit.calm; { r with caps := { Capture.reset with buffer := [b] } :: List.replicate 3 Capture.reset }
      let t : Nat := 0
      let n : Nat := 0
      let v : State := let r := Wit.calm; (({ r with caps := { Capture.reset with buffer := [b] } :: List.replicate 3 Capture.reset }).advance 0 |> fun (a : State) => a.post? (a.cfg 0x2210 0) b).getD r
      let a := s.advance t
      a.sized ∧ n < 4 ∧ (a.capIn n).buffer = [b] ∧ a.post? (a.cfg 0x2210 0) b = some v) := by
  refine ⟨?_, ?_, ?_, ?_, ?_, ?_, ?_⟩ <;> decide +kernel

theorem test_wit_EthernetFrames :
    (let s : State := Wit.eth (Wit.linked 0 0) (Wit.linked 0 0) 0
      let t : Nat := 0
      let n : Nat := 0
      let f : Bytes := Wit.ethFrame 0x0011 100
      let groups : Bytes := onWire f
      let a := s.advance t
      let e : EgFrame := ⟨f, n, a.rxStamp n, .plain⟩
      let b := a.learn (ethSrc f) n
      a.net.ports.length = 4 ∧ a.up .network = true ∧ a.ethOn n = true ∧ a.accepted n groups = some f ∧ ((∀ m, ptpOf f = some m → a.terminates n m = false)))
    ∧ (let s : State := Wit.eth { Wit.linked 0 0 with link := 2 } (Wit.linked 0 0) 0
      let t : Nat := 0
      let n : Nat := 0
      let f : Bytes := Wit.ethFrame 0x0011 100
      let groups : Bytes := spread 10 (onWire f)
      let a := s.advance t
      let e : EgFrame := ⟨f, n, a.rxStamp n, .plain⟩
      let b := a.learn (ethSrc f) n
      a.net.ports.length = 4 ∧ a.up .network = true ∧ a.ethOn n = true ∧ a.accepted n groups = some f ∧ ((∀ m, ptpOf f = some m → a.terminates n m = false)))
    ∧ (let s : State := Wit.eth (Wit.linked 0 0) (Wit.linked 0 0) 0
      let t : Nat := 0
      let n : Nat := 0
      let groups : Bytes := onWire (Wit.ethFrame 0x0011 2000)
      let a := s.advance t
      let bad := (wholeFrame (everyNth (a.groupsPerByte n) 0 groups)).isNone
      a.net.ports.length = 4 ∧ a.up .network = true ∧ a.ethOn n = true ∧ a.accepted n groups = none)
    ∧ (let s : State := Wit.eth (Wit.linked 0 0) (Wit.linked 0 0) 0
      let t : Nat := 0
      let n : Nat := 0
      let groups : Bytes := [0x55, 0xD5, 1, 2, 3]
      let a := s.advance t
      let bad := (wholeFrame (everyNth (a.groupsPerByte n) 0 groups)).isNone
      a.net.ports.length = 4 ∧ a.up .network = true ∧ a.ethOn n = true ∧ a.accepted n groups = none)
    ∧ (let e : EgFrame := ⟨Wit.ethFrame 1 100, 1, 0, .plain⟩
      let s : State := Wit.eth { Wit.linked 0 0 with queues := [[⟨Wit.ethFrame 2 100, 1, 0, .plain⟩], [], [e], []] } (Wit.linked 0 0) 0
      let t : Nat := 0
      let n : Nat := 0
      let c : Nat := 2
      let a := s.advance t
      let k := a.groupsPerByte n
      a.net.ports.length = 4 ∧ a.up .network = true ∧ a.ethOn n = true ∧ nextFrame (a.eth n).queues = some (c, e) ∧ ptpOf e.frame = none)
    ∧ (let e : EgFrame := ⟨ptpFrame 5 (zeros 4) (zeros 16) (Wit.ptpMsg 0 4) 0, 1, 65536000, .plain⟩
      let m : PtpMsg := (ptpOf e.frame).getD (Wit.ptpMsg 0 4)
      let s : State := Wit.eth { Wit.linked 0 0 with queues := [[], [], [], [e]] } (Wit.linked 0 0) 2
      let t : Nat := 0
      let n : Nat := 0
      let c : Nat := 3
      let a := s.advance t
      let r := a.txStamp n - e.rx + if a.role n = 3 ∧ m.mtype = 0 then (a.eth e.ingress).peerDelay + ptpAsym (a.ptpVal e.ingress) else 0
      let k := a.groupsPerByte n
      a.net.ports.length = 4 ∧ a.up .network = true ∧ a.ethOn n = true ∧ nextFrame (a.eth n).queues = some (c, e) ∧ ptpOf e.frame = some m ∧ e.ingress < 4 ∧ a.role e.ingress = a.role n ∧ ((a.role n = 2 ∨ a.role n = 3)) ∧ isEvent m = true ∧ ¬(m.mtype = 0 ∧ m.twoStep = true) ∧ m.transport = 0)
    ∧ (let s : State := Wit.eth (Wit.linked 0 0) (Wit.linked 0 0) 0
      let t : Nat := 0
      let n : Nat := 0
      let w : Caller := .firmware
      let v : Bytes := [0, 0, 0, 0x20, 0x5F, 0, 0, 0x18]
      let a := s.advance t
      let old := a.ethVal n
      let new := leNat v
      n < 4 ∧ a.net.ports.length = 4 ∧ a.writes w 0x2400 (n + 1) v = true ∧ a.ethConfigCheck n v = none)
    ∧ (let s : State := Wit.eth (Wit.linked 0 0) (Wit.linked 0 0) 0
      let t : Nat := 0
      let n : Nat := 0
      let w : Caller := .firmware
      let v : Bytes := [0, 0, 0, 0x20, 0x5F, 0, 0, 0x20]
      let a := s.advance t
      let old := a.ethVal n
      let new := leNat v
      n < 4 ∧ a.net.ports.length = 4 ∧ a.writes w 0x2400 (n + 1) v = true ∧ a.ethConfigCheck n v = none)
    ∧ (let s : State := (Wit.eth (Wit.linked 0 0) (Wit.linked 0 0) 0).setVal (key 0x2400 1) [0, 0, 0, 0x20, 0x5F, 0, 0, 0x18]
      let t : Nat := 0
      let n : Nat := 0
      let w : Nat := 0x9801
      let a := s.advance t
      let v := a.ethVal n
      a.net.ports.length = 4 ∧ a.up .network = true ∧ a.hasEth n = true ∧ ethAuto v = true ∧ 1 ≤ ethMode v ∧ ethMode v ≤ 4 ∧ bit w 0 = true ∧ bits w 10 2 ≠ 3)
    ∧ (let s : State := Wit.eth (Wit.linked 1 6) (Wit.linked 0 0) 1
      let t : Nat := 0
      let n : Nat := 0
      let synced : Bool := false
      let a := s.advance t
      let v := a.ethVal n
      a.net.ports.length = 4 ∧ a.up .network = true ∧ a.hasEth n = true ∧ ethMode v ≠ 0 ∧ ((ethAuto v = false ∨ 4 < ethMode v))) := by
  refine ⟨?_, ?_, ?_, ?_, ?_, ?_, ?_, ?_, ?_, ?_⟩ <;> decide +kernel

theorem test_wit_PtpMessages :
    (let s : State := Wit.eth { Wit.linked 1 8 with parent := some (Wit.ptpMsg 11 1) } (Wit.linked 0 0) 1
      let t : Nat := 0
      let n : Nat := 0
      let m : PtpMsg := Wit.ptpMsg 0 4
      let a := s.advance t
      let p := a.eth n
      a.net.ports.length = 4 ∧ a.ptpRuns n = true ∧ ((p.ptp = 8 ∨ p.ptp = 9)) ∧ m.domain = a.ptpDomain ∧ p.parent.map PtpMsg.source = some m.source ∧ m.mtype = 0 ∧ m.twoStep = false)
    ∧ (let s : State := Wit.eth { Wit.linked 1 8 with parent := some (Wit.ptpMsg 11 1) } (Wit.linked 0 0) 1
      let t : Nat := 0
      let n : Nat := 0
      let m : PtpMsg := { Wit.ptpMsg 0 4 with twoStep := true }
      let a := s.advance t
      let p := a.eth n
      a.net.ports.length = 4 ∧ a.ptpRuns n = true ∧ ((p.ptp = 8 ∨ p.ptp = 9)) ∧ m.domain = a.ptpDomain ∧ p.parent.map PtpMsg.source = some m.source ∧ m.mtype = 0 ∧ m.twoStep = true)
    ∧ (let s : State := Wit.eth { Wit.linked 1 8 with parent := some (Wit.ptpMsg 11 1), twoStep := some (4, 65536000, 0) } (Wit.linked 0 0) 1
      let t : Nat := 0
      let n : Nat := 0
      let m : PtpMsg := Wit.ptpMsg 8 4
      let t2 : Int := 65536000
      let c : Int := 0
      let a := s.advance t
      let p := a.eth n
      a.net.ports.length = 4 ∧ a.ptpRuns n = true ∧ ((p.ptp = 8 ∨ p.ptp = 9)) ∧ m.domain = a.ptpDomain ∧ p.parent.map PtpMsg.source = some m.source ∧ m.mtype = 8 ∧ p.twoStep = some (m.seqId, t2, c))
    ∧ (let m : PtpMsg := Wit.ptpMsg 11 2
      let m0 : PtpMsg := Wit.ptpMsg 11 1
      let s : State := { (Wit.eth { Wit.linked 1 4 with foreign := [⟨m0, [5]⟩] } (EthPort.reset 1 0) 1) with tb := Timebase.reset 0 }
      let t : Nat := 0
      let n : Nat := 0
      let t1 : Nat := 5
      let a := s.advance t
      let p := a.eth n
      a.net.ports.length = 4 ∧ a.clockPorts = [n] ∧ a.ptpRuns n = true ∧ m.mtype = 11 ∧ m.domain = a.ptpDomain ∧ m.source / 65536 ≠ a.clockId ∧ p.ptp = 4 ∧ p.foreign = [⟨m0, [t1]⟩] ∧ m0.source = m.source ∧ a.now ≤ t1 + 4 * logInterval (ptpLogAnnounce (a.ptpVal n)) ∧ m.steps < 255 ∧ 128 ≤ (a.ownAnnounce n).clockClass ∧ 0 ≤ dsCmp (a.ownAnnounce n) m (a.portId n) (a.portId n))
    ∧ (let s : State := Wit.eth (Wit.linked 1 4) (EthPort.reset 1 0) 1
      let t : Nat := 0
      let n : Nat := 0
      let m : PtpMsg := Wit.ptpMsg 11 2
      let a := s.advance t
      let p := a.eth n
      a.net.ports.length = 4 ∧ a.ptpRuns n = true ∧ m.mtype = 11 ∧ m.domain = a.ptpDomain ∧ m.source / 65536 ≠ a.clockId ∧ p.foreign = [])
    ∧ (let s : State := Wit.eth (Wit.linked 1 4) (EthPort.reset 1 0) 1
      let t : Nat := 10 * sec
      let n : Nat := 0
      let a := s.advance t
      let p := a.eth n
      let v := a.ptpVal n
      a.net.ports.length = 4 ∧ a.ptpRuns n = true ∧ p.ptp ≠ 6 ∧ p.ptp ≠ 5 ∧ p.heard + ptpTimeout v * logInterval (ptpLogAnnounce v) ≤ a.now)
    ∧ (let s : State := Wit.eth { Wit.linked 1 9 with syncAt := some 5, parent := some (Wit.ptpMsg 11 1) } (EthPort.reset 1 0) 1
      let t : Nat := 10 * sec
      let n : Nat := 0
      let at_ : Nat := 5
      let a := s.advance t
      a.net.ports.length = 4 ∧ a.tb.srcs.length = 4 ∧ (a.eth n).syncAt = some at_ ∧ (a.eth n).ptp = 9 ∧ at_ + 3 * logInterval (ptpLogSync (a.ptpVal n)) ≤ a.now ∧ a.up .timebase = true)
    ∧ (let s : State := Wit.eth (Wit.linked 1 6) (EthPort.reset 1 0) 1
      let t : Nat := 0
      let n : Nat := 0
      let a := s.advance t
      let m := a.ownAnnounce n
      let f := a.ptpFrameOf n m
      a.net.ports.length = 4 ∧ a.ptpRuns n = true ∧ (a.eth n).ptp = 6 ∧ a.ebest = none)
    ∧ (let s : State := Wit.eth (Wit.linked 1 6) (EthPort.reset 1 0) 1
      let t : Nat := 0
      let n : Nat := 0
      let a := s.advance t
      let one := ptpOneStep (a.ptpVal n)
      let m := a.ptpMsg n 0 (a.eth n).seqSync (a.time64.fdiv 1000 * 1000) 0 (!one) 0
      let f := a.ptpFrameOf n m
      a.net.ports.length = 4 ∧ a.ptpRuns n = true ∧ (a.eth n).ptp = 6)
    ∧ (let s : State := Wit.eth (Wit.linked 1 8) (EthPort.reset 1 0) 1
      let t : Nat := 0
      let n : Nat := 0
      let a := s.advance t
      let p := a.eth n
      let peer := a.role n = 3 ∨ (a.role n = 1 ∧ a.p2p = true)
      let m := a.ptpMsg n (if peer then 2 else 1) p.seqReq 0 0 false 0
      let f := a.ptpFrameOf n m
      a.net.ports.length = 4 ∧ a.up .compute = true ∧ a.up .network = true ∧ a.ethOn n = true ∧ (peer ∨ (a.role n = 1 ∧ (p.ptp = 8 ∨ p.ptp = 9))))
    ∧ (let s : State := Wit.eth (Wit.linked 1 6) (EthPort.reset 1 0) 1
      let t : Nat := 0
      let n : Nat := 0
      let m : PtpMsg := Wit.ptpMsg 1 6
      let a := s.advance t
      let rx := a.rxStamp n
      let p := a.eth n
      let r := a.ptpMsg n 9 m.seqId (rx.fdiv 65536) (m.correction - rx % 65536) false m.source
      let f := a.ptpFrameOf n r
      a.net.ports.length = 4 ∧ a.ptpRuns n = true ∧ m.domain = a.ptpDomain ∧ m.mtype = 1 ∧ p.ptp = 6 ∧ a.p2p = false)
    ∧ (let s : State := Wit.eth { Wit.linked 1 9 with req := some (6, some 65000000), leg := some 1000 } (EthPort.reset 1 0) 1
      let t : Nat := 0
      let n : Nat := 0
      let m : PtpMsg := { Wit.ptpMsg 9 6 with requester := s.portId 0 }
      let t3 : Int := 65000000
      let leg : Int := 1000
      let a := s.advance t
      let p := a.eth n
      a.net.ports.length = 4 ∧ a.ptpRuns n = true ∧ m.domain = a.ptpDomain ∧ m.requester = a.portId n ∧ m.mtype = 9 ∧ p.req = some (m.seqId, some t3) ∧ p.leg = some leg)
    ∧ (let s : State := Wit.eth { Wit.linked 3 0 with peer := ⟨6, some 65000000, none⟩ } (EthPort.reset 1 0) 3
      let t : Nat := 0
      let n : Nat := 0
      let m : PtpMsg := { Wit.ptpMsg 3 6 with requester := s.portId 0 }
      let t1 : Int := 65000000
      let a := s.advance t
      let p := a.eth n
      a.net.ports.length = 4 ∧ a.up .compute = true ∧ a.up .network = true ∧ a.ethOn n = true ∧ m.domain = a.ptpDomain ∧ m.requester = a.portId n ∧ m.mtype = 3 ∧ m.twoStep = false ∧ p.peer.seqId = m.seqId ∧ p.peer.t1 = some t1) := by
  refine ⟨?_, ?_, ?_, ?_, ?_, ?_, ?_, ?_, ?_, ?_, ?_, ?_, ?_⟩ <;> decide +kernel

theorem test_wit_CanTraffic :
    (let s : State := Wit.can (CanPort.reset 2)
      let t : Nat := 0
      let n : Nat := 0
      let sof : Nat := 5
      let b : Nat := 0
      let f : CanFrame := Wit.canFrame 0x123
      let a := s.advance t
      let p := a.canPort n
      let x := canNorm f
      let st := a.sofStamp sof
      a.can.ports.length = 8 ∧ a.canUp n = true ∧ (x.fdf = false ∨ canFd (a.canVal n) = true) ∧ p.st = 2 ∧ p.recErrs ≤ 127 ∧ a.servesUsdo n = false ∧ canStopSource (a.canVal n) = false ∧ (a.written (0x2900 + n) 128).find? (fun b => bufMatches (a.bufVal n b) x) = some b)
    ∧ (let s : State := Wit.can (CanPort.reset 2)
      let t : Nat := 0
      let n : Nat := 0
      let sof : Nat := 5
      let i : Nat := 0
      let f : CanFrame := Wit.canFrame 0x456
      let a := s.advance t
      let p := a.canPort n
      let x := canNorm f
      let act := bits (a.filterVal n i) 62 2
      let q := p.fifos.getD (act - 1) CanFifo.reset
      a.can.ports.length = 8 ∧ a.canUp n = true ∧ (x.fdf = false ∨ canFd (a.canVal n) = true) ∧ p.st = 2 ∧ p.fifos.length = 2 ∧ a.servesUsdo n = false ∧ canStopSource (a.canVal n) = false ∧ (a.written (0x2900 + n) 128).find? (fun b => bufMatches (a.bufVal n b) x) = none ∧ (a.written (0x29C0 + n) 64).find? (fun i => filterMatches (a.filterVal n i) x) = some i ∧ (act = 1 ∨ act = 2) ∧ q.recs.length < 64)
    ∧ (let s : State := Wit.can (CanPort.reset 2)
      let t : Nat := 0
      let n : Nat := 0
      let sof : Nat := 5
      let f : CanFrame := Wit.canFrame 0x556
      let a := s.advance t
      let p := a.canPort n
      let x := canNorm f
      a.can.ports.length = 8 ∧ a.canUp n = true ∧ (x.fdf = false ∨ canFd (a.canVal n) = true) ∧ p.st = 2 ∧ p.recErrs ≤ 127 ∧ a.servesUsdo n = false ∧ canStopSource (a.canVal n) = false ∧ (a.written (0x2900 + n) 128).find? (fun b => bufMatches (a.bufVal n b) x) = none ∧ (a.written (0x29C0 + n) 64).find? (fun i => filterMatches (a.filterVal n i) x) = none)
    ∧ (let s : State := ((Wit.can (CanPort.reset 2)).setVal (key 0x2820 3) (leBytes 4 (2 ^ 30 + 2 ^ 29 + 2 ^ 26 + 0x320000))).setVal (key 0x2838 0) (leBytes 4 0x77)
      let t : Nat := 0
      let n : Nat := 0
      let sof : Nat := 5
      let f : CanFrame := ⟨0x77, false, false, false, false, false, 8, [3, 0, 5, 0, 0, 0, 0, 0]⟩
      let a := s.advance t
      let x := canNorm f
      let stopId := a.cfg 0x2838 0
      let good := x.rtr = false ∧ x.dlc = 8 ∧ u x.data 0 1 ≤ 3 ∧ u x.data 1 1 = 0 ∧ a.commandTargetOk (u x.data 0 1) (u x.data 2 2) = true
      a.can.ports.length = 8 ∧ a.canUp n = true ∧ (x.fdf = false ∨ canFd (a.canVal n) = true) ∧ (a.canPort n).st = 2 ∧ a.servesUsdo n = false ∧ canStopSource (a.canVal n) = true ∧ x.ide = bit stopId 31 ∧ x.id = bits stopId 0 29 ∧ a.up .timebase = true)
    ∧ (let s : State := ((Wit.can (CanPort.reset 2)).setVal (key 0x2820 3) (leBytes 4 (2 ^ 30 + 2 ^ 29 + 2 ^ 26 + 0x320000))).setVal (key 0x2838 0) (leBytes 4 0x77)
      let t : Nat := 0
      let n : Nat := 0
      let sof : Nat := 5
      let f : CanFrame := ⟨0x77, false, false, false, false, false, 7, [3, 0, 5, 0, 0, 0, 0]⟩
      let a := s.advance t
      let x := canNorm f
      let stopId := a.cfg 0x2838 0
      let good := x.rtr = false ∧ x.dlc = 8 ∧ u x.data 0 1 ≤ 3 ∧ u x.data 1 1 = 0 ∧ a.commandTargetOk (u x.data 0 1) (u x.data 2 2) = true
      a.can.ports.length = 8 ∧ a.canUp n = true ∧ (x.fdf = false ∨ canFd (a.canVal n) = true) ∧ (a.canPort n).st = 2 ∧ a.servesUsdo n = false ∧ canStopSource (a.canVal n) = true ∧ x.ide = bit stopId 31 ∧ x.id = bits stopId 0 29 ∧ a.up .timebase = true)
    ∧ (let s : State := Wit.can (CanPort.reset 2)
      let t : Nat := 0
      let w : Caller := .firmware
      let req : Bytes := [1, 0, 1, 0, 2, 0, 0, 0, 7, 8]
      let a := s.advance t
      let n := u req 1 1
      let b := u req 2 1
      let p := a.canPort n
      let f := a.txFrame n b req
      a.can.ports.length = 8 ∧ a.requests w 0x2840 req = true ∧ u req 0 1 = 1 ∧ txMalformed req = false ∧ (bit (u req 3 1) 0 = false ∨ canFd (a.canVal n) = true) ∧ a.canModeOf n = 1 ∧ p.st = 2 ∧ bufKind (a.bufVal n b) = 2 ∧ p.pend.any (fun x => x.buf = b) = false)
    ∧ (let x : CanSend := Wit.canSend
      let s : State := Wit.can { CanPort.reset 2 with pend := [x] }
      let t : Nat := 0
      let w : Caller := .firmware
      let req : Bytes := [2, 0, 1, 0, 0, 0, 0, 0]
      let trying : Bool := false
      let a := s.advance t
      let n := u req 1 1
      let b := u req 2 1
      let p := a.canPort n
      a.can.ports.length = 8 ∧ a.requests w 0x2840 req = true ∧ u req 0 1 = 2 ∧ txMalformed req = false ∧ a.hasCan n = true ∧ p.pend.find? (fun x => x.buf = b) = some x ∧ x.cancel = none)
    ∧ (let x : CanSend := Wit.canSend
      let s : State := Wit.can { CanPort.reset 2 with pend := [x] }
      let t : Nat := 0
      let w : Caller := .firmware
      let req : Bytes := [2, 0, 1, 0, 0, 0, 0, 0]
      let trying : Bool := true
      let a := s.advance t
      let n := u req 1 1
      let b := u req 2 1
      let p := a.canPort n
      a.can.ports.length = 8 ∧ a.requests w 0x2840 req = true ∧ u req 0 1 = 2 ∧ txMalformed req = false ∧ a.hasCan n = true ∧ p.pend.find? (fun x => x.buf = b) = some x ∧ x.cancel = none)
    ∧ (let x : CanSend := Wit.canSend
      let s : State := Wit.can { CanPort.reset 2 with pend := [x] }
      let t : Nat := 0
      let n : Nat := 0
      let b : Nat := 1
      let sof : Nat := 5
      let a := s.advance t
      let p := a.canPort n
      let st := a.sofStamp sof
      a.can.ports.length = 8 ∧ a.canUp n = true ∧ a.canModeOf n = 1 ∧ p.st = 2 ∧ p.tec < 256 ∧ p.first sof = some (b, x.frame) ∧ p.pend.find? (fun y => y.buf = b) = some x)
    ∧ (let x : CanSend := Wit.canSend
      let s : State := Wit.can { CanPort.reset 2 with pend := [x] }
      let t : Nat := 0
      let n : Nat := 0
      let b : Nat := 1
      let sof : Nat := 5
      let a := s.advance t
      let p := a.canPort n
      a.can.ports.length = 8 ∧ a.canUp n = true ∧ a.canModeOf n = 1 ∧ p.st = 2 ∧ p.tec < 256 ∧ p.first sof = some (b, x.frame) ∧ p.pend.find? (fun y => y.buf = b) = some x ∧ canOneShot (a.canVal n) = false ∧ x.cancel = none)
    ∧ (let x : CanSend := Wit.canSend
      let s : State := Wit.can { CanPort.reset 2 with pend := [x] }
      let t : Nat := 0
      let n : Nat := 0
      let b : Nat := 1
      let sof : Nat := 5
      let a := s.advance t
      let p := a.canPort n
      a.can.ports.length = 8 ∧ a.canUp n = true ∧ a.canModeOf n = 1 ∧ p.st = 2 ∧ p.tec < 256 ∧ p.first sof = some (b, x.frame) ∧ p.pend.find? (fun y => y.buf = b) = some x ∧ canOneShot (a.canVal n) = false ∧ x.cancel = none)
    ∧ (let x : CanSend := Wit.canSend
      let s : State := Wit.can { CanPort.reset 2 with pend := [x], tec := 250 }
      let t : Nat := 0
      let n : Nat := 0
      let b : Nat := 1
      let sof : Nat := 5
      let a := s.advance t
      let p := a.canPort n
      a.can.ports.length = 8 ∧ a.canUp n = true ∧ a.canModeOf n = 1 ∧ p.st = 2 ∧ p.tec < 256 ∧ p.first sof = some (b, x.frame) ∧ p.pend.find? (fun y => y.buf = b) = some x ∧ canOneShot (a.canVal n) = false ∧ x.cancel = none)
    ∧ (let x : CanRec := { CanRec.empty with seq := 4, fresh := true, frame := Wit.canFrame 0x123 }
      let s : State := Wit.can { CanPort.reset 2 with bufs := [(0, x)] }
      let t : Nat := 0
      let n : Nat := 0
      let b : Nat := 0
      let seq : Nat := 4
      let w : Caller := .firmware
      let a := s.advance t
      n < 8 ∧ b < 128 ∧ a.can.ports.length = 8 ∧ seq < 65536 ∧ a.writes w (0x2980 + n) (b + 1) (leBytes 2 seq) = true ∧ Tbl.get? (a.canPort n).bufs b = some x ∧ x.seq = seq)
    ∧ (let x : CanRec := { CanRec.empty with frame := Wit.canFrame 0x456 }
      let s : State := Wit.can { CanPort.reset 2 with fifos := [⟨[x], false, none⟩, CanFifo.reset] }
      let t : Nat := 0
      let n : Nat := 0
      let i : Nat := 0
      let a := s.advance t
      let p := a.canPort n
      let q := u (a.cfgB (0x2820 + n) 0x0A) (2 * i) 2
      let w := a.fabric.queue q
      let words := toWords (x.packet.length / 4 + 1) x.packet
      a.can.ports.length = 8 ∧ p.fifos.length = 2 ∧ a.up .network = true ∧ a.hasCan n = true ∧ i < 2 ∧ p.fifos.getD i CanFifo.reset = ⟨[x], false, none⟩ ∧ a.up .fabric = true ∧ a.hasBlocks q (pktBlocks words.length) = true ∧ w.pkts.countP (fun p => p.phase.isOpen) < 8)
    ∧ (let s : State := Wit.can (CanPort.reset 2)
      let t : Nat := 0
      let n : Nat := 0
      let a := s.advance t
      let p := a.canPort n
      a.can.ports.length = 8 ∧ a.canUp n = true ∧ p.st = 2 ∧ p.tec < 256) := by
  refine ⟨?_, ?_, ?_, ?_, ?_, ?_, ?_, ?_, ?_, ?_, ?_, ?_, ?_, ?_, ?_⟩ <;> decide +kernel

theorem test_wit_CanStates :
    (let s : State := Wit.can (CanPort.reset 4)
      let t : Nat := 0
      let n : Nat := 0
      let w : Caller := .firmware
      let a := s.advance t
      n < 8 ∧ a.can.ports.length = 8 ∧ a.writes w (0x2820 + n) 0x0B [1] = true ∧ (a.canPort n).st = 4)
    ∧ (let s : State := Wit.can { CanPort.reset 4 with recovering := true, tec := 256 }
      let t : Nat := 0
      let n : Nat := 0
      let a := s.advance t
      let p := a.canPort n
      a.can.ports.length = 8 ∧ a.canUp n = true ∧ p.st = 4 ∧ p.recovering = true)
    ∧ (let s : State := Wit.can (CanPort.reset 1)
      let t : Nat := 0
      let n : Nat := 0
      let a := s.advance t
      a.can.ports.length = 8 ∧ a.canUp n = true ∧ (a.canPort n).st = 1)
    ∧ (let s : State := (Wit.can (CanPort.reset 2)).setVal (key 0x2830 2) ([1, 0, 0, 0] ++ leBytes 4 0x100 ++ leBytes 4 10000 ++ zeros 4)
      let t : Nat := 0
      let n : Nat := 0
      let a := s.advance t
      let b := a.cfgB 0x2830 2
      let k := a.time64.fdiv (tmPeriod b * us : Nat)
      n < 8 ∧ a.can.ports.length = 8 ∧ a.up .network = true ∧ tmMask b = 2 ^ n ∧ a.can.lastK ≠ some k ∧ a.canUp n = true ∧ (a.canPort n).st ≠ 5 ∧ a.timed = true ∧ (a.canPort n).refMsg = none)
    ∧ (let s : State := Wit.can (CanPort.reset 2)
      let t : Nat := 0
      let n : Nat := 0
      let w : Caller := .firmware
      let a := s.advance t
      n < 8 ∧ a.can.ports.length = 8 ∧ a.writes w (0x2820 + n) 8 [1] = true ∧ canStopSource (a.canVal n) = false)
    ∧ (let s : State := Wit.can { CanPort.reset 2 with sleepReq := true, pend := [Wit.canSend] }
      let t : Nat := 0
      let n : Nat := 0
      let a := s.advance t
      let p := a.canPort n
      a.can.ports.length = 8 ∧ a.canUp n = true ∧ p.sleepReq = true ∧ p.st = 2)
    ∧ (let s : State := Wit.can { CanPort.reset 5 with sleepReq := true }
      let t : Nat := 0
      let n : Nat := 0
      let w : Caller := .firmware
      let a := s.advance t
      n < 8 ∧ a.can.ports.length = 8 ∧ a.writes w (0x2820 + n) 8 [0] = true)
    ∧ (let s : State := Wit.can { CanPort.reset 2 with sleepReq := true }
      let t : Nat := 0
      let n : Nat := 0
      let w : Caller := .firmware
      let a := s.advance t
      n < 8 ∧ a.can.ports.length = 8 ∧ a.writes w (0x2820 + n) 8 [0] = true)
    ∧ (let s : State := Wit.can (CanPort.reset 5)
      let t : Nat := 0
      let n : Nat := 0
      let width : Nat := 5000
      let a := s.advance t
      let p := a.canPort n
      a.can.ports.length = 8 ∧ a.canUp n = true ∧ p.st = 5 ∧ bit p.wakeCfg 63 = false ∧ 5 * us ≤ width) := by
  refine ⟨?_, ?_, ?_, ?_, ?_, ?_, ?_, ?_, ?_⟩ <;> decide +kernel

theorem test_wit_DispatcherTasks :
    (let s : State := Wit.fabric Hart.reset [] []
      let t : Nat := 0
      let h : Nat := 0
      let timeout : Nat := 10
      let a := s.advance t
      a.fabric.harts.length = 16 ∧ a.hartRuns h = true ∧ a.fabricOut = none ∧ (a.fabric.hart h).task = none ∧ timeout ≤ 1000000)
    ∧ (let s : State := Wit.fabric Wit.busy [(7, Wit.task .running 0)] []
      let t : Nat := 0
      let h : Nat := 0
      let timeout : Nat := 10
      let d : Nat := 7
      let a := s.advance t
      let x := a.fabric.desc d
      a.fabric.harts.length = 16 ∧ a.hartRuns h = true ∧ a.fabricOut = none ∧ (a.fabric.hart h).task = some d ∧ x.hasSucc = false ∧ x.rearm = false)
    ∧ (let s : State := Wit.fabric Wit.asking [(7, Wit.task .ready 0)] []
      let t : Nat := 0
      let h : Nat := 0
      let d : Nat := 7
      let x : Desc := Wit.task .ready 0
      let w : FetchWake := .grant
      let a := s.advance t
      a.fabric.harts.length = 16 ∧ a.hartRuns h = true ∧ a.fabricOut = none ∧ (a.fabric.hart h).fetch.isSome = true ∧ a.grantable h = some (d, x))
    ∧ (let s : State := Wit.fabric Wit.asking [] []
      let t : Nat := 0
      let h : Nat := 0
      let a := s.advance t
      a.fabric.harts.length = 16 ∧ a.hartRuns h = true ∧ a.fabricOut = none ∧ (a.fabric.hart h).fetch.isSome = true ∧ a.grantable h = none)
    ∧ (let s : State := Wit.fabric Wit.asking [] []
      let t : Nat := 0
      let h : Nat := 0
      let t0 : Nat := 5
      let n : Nat := 0
      let a := s.advance t
      a.fabric.harts.length = 16 ∧ a.hartRuns h = true ∧ a.fabricOut = none ∧ (a.fabric.hart h).fetch = some (t0, n) ∧ (a.fabric.hart h).timeout ≠ 0 ∧ t0 + (a.fabric.hart h).timeout * us ≤ a.now ∧ a.grantable h = none)
    ∧ (let s : State := Wit.fabric Wit.busy [(7, { Wit.task .running 0 with hasSucc := true, succ := 8 }), (8, Wit.task .waiting 1)] []
      let t : Nat := 0
      let h : Nat := 0
      let d : Nat := 7
      let c : Nat := 0
      let a := s.advance t
      let x := a.fabric.desc d
      let y := a.fabric.desc x.succ
      a.fabric.harts.length = 16 ∧ a.hartRuns h = true ∧ a.fabricOut = none ∧ (a.fabric.hart h).task = some d ∧ c < 256 ∧ reservedOutcome c = false ∧ x.hasSucc = true ∧ x.rearm = false ∧ x.succ ≠ d ∧ y.st = .waiting ∧ y.count = 1)
    ∧ (let s : State := Wit.fabric Wit.busy [(7, { Wit.task .running 0 with rearm := true, reload := 3, pending := 1 })] []
      let t : Nat := 0
      let h : Nat := 0
      let d : Nat := 7
      let c : Nat := 5
      let a := s.advance t
      let x := a.fabric.desc d
      a.fabric.harts.length = 16 ∧ a.hartRuns h = true ∧ a.fabricOut = none ∧ (a.fabric.hart h).task = some d ∧ c < 256 ∧ reservedOutcome c = true ∧ x.hasSucc = false ∧ x.rearm = true ∧ x.pending < x.reload)
    ∧ (let s : State := Wit.fabric Hart.reset [(8, Wit.task .waiting 1)] []
      let t : Nat := 0
      let h : Nat := 0
      let v : Nat := 8
      let a := s.advance t
      let d := v % 65536
      let x := a.fabric.desc d
      a.hartRuns h = true ∧ a.fabricOut = none ∧ a.fabric.isApplet d = hartApplet h ∧ x.st = .waiting)
    ∧ (let s : State := Wit.fabric Hart.reset [(8, Wit.task .running 0)] []
      let t : Nat := 0
      let h : Nat := 0
      let v : Nat := 8
      let a := s.advance t
      let d := v % 65536
      let x := a.fabric.desc d
      a.hartRuns h = true ∧ a.fabricOut = none ∧ a.fabric.isApplet d = hartApplet h)
    ∧ (let s : State := Wit.fabric Hart.reset [(8, { Wit.task .ready 0 with pending := 255 })] []
      let t : Nat := 0
      let h : Nat := 0
      let v : Nat := 8
      let a := s.advance t
      let d := v % 65536
      let x := a.fabric.desc d
      a.hartRuns h = true ∧ a.fabricOut = none ∧ a.fabric.isApplet d = hartApplet h)
    ∧ (let s : State := Wit.fabric Hart.reset [] []
      let t : Nat := 0
      let h : Nat := 0
      let v : Nat := 9
      let a := s.advance t
      let d := v % 65536
      let x := a.fabric.desc d
      a.hartRuns h = true ∧ a.fabricOut = none ∧ a.fabric.isApplet d = hartApplet h)
    ∧ (let s : State := Wit.fabric Hart.reset [] []
      let t : Nat := 0
      let h : Nat := 0
      let idx : Nat := 8
      let lo : Nat := 2 ^ 26
      let hi : Nat := 3
      let a := s.advance t
      let v := hi * 2 ^ 64 + lo
      a.fabric.harts.length = 16 ∧ a.hartRuns h = true ∧ a.fabricOut = none ∧ idx < 65536 ∧ lo < 2 ^ 64 ∧ hi < 2 ^ 64 ∧ a.fabric.badFormat (hartApplet h) idx v = false ∧ (((a.fabric.desc idx).st = .free ∨ (a.fabric.desc idx).st = .done ∨ (a.fabric.desc idx).st = .discarded)) ∧ 0 < bits v 64 16)
    ∧ (let s : State := Wit.fabric Hart.reset [] []
      let t : Nat := 0
      let h : Nat := 0
      let idx : Nat := 8
      let lo : Nat := 1
      let hi : Nat := 3
      let a := s.advance t
      let v := hi * 2 ^ 64 + lo
      a.fabric.harts.length = 16 ∧ a.hartRuns h = true ∧ a.fabricOut = none ∧ idx < 65536 ∧ lo < 2 ^ 64 ∧ hi < 2 ^ 64)
    ∧ (let s : State := Wit.fabric Hart.reset [(8, Wit.task .ready 0)] []
      let t : Nat := 0
      let h : Nat := 0
      let idx : Nat := 8
      let lo : Nat := 0
      let hi : Nat := 3
      let a := s.advance t
      let v := hi * 2 ^ 64 + lo
      a.fabric.harts.length = 16 ∧ a.hartRuns h = true ∧ a.fabricOut = none ∧ idx < 65536 ∧ lo < 2 ^ 64 ∧ hi < 2 ^ 64)
    ∧ (let s : State := Wit.fabric Hart.reset [(8, Wit.task .discarded 4)] []
      let t : Nat := 0
      let h : Nat := 0
      let idx : Nat := 8
      let a := s.advance t
      let x := a.fabric.desc idx
      a.fabric.harts.length = 16 ∧ a.hartRuns h = true ∧ a.fabricOut = none ∧ idx < 65536 ∧ a.fabric.isApplet idx = hartApplet h)
    ∧ (let s : State := Wit.fabric Hart.reset [] []
      let t : Nat := 0
      let h : Nat := 0
      let idx : Nat := 8
      let a := s.advance t
      let x := a.fabric.desc idx
      a.fabric.harts.length = 16 ∧ a.hartRuns h = true ∧ a.fabricOut = none ∧ idx < 65536 ∧ a.fabric.isApplet idx = hartApplet h)
    ∧ (let s : State := Wit.fabric Hart.reset [(8, Wit.task .discarded 4)] []
      let t : Nat := 0
      let h : Nat := 0
      let idx : Nat := 8
      let high : Bool := true
      let a := s.advance t
      let w := (a.fabric.desc idx).word
      a.hartRuns h = true ∧ a.fabricOut = none ∧ idx < 65536 ∧ a.fabric.isApplet idx = hartApplet h)
    ∧ (let s : State := Wit.fabric Hart.reset [] []
      let t : Nat := 0
      let h : Nat := 8
      let x : HartAccess := ⟨sramBase, 8, some 7⟩
      let a := s.advance t
      a.hartRuns h = true ∧ (a.hartPlace h x = .none ∨ accessFits x (a.hartPlace h x) = false))
    ∧ (let s : State := Wit.fabric Hart.reset [] []
      let t : Nat := 0
      let h : Nat := 8
      let x : HartAccess := ⟨0x40000008, 4, none⟩
      let a := s.advance t
      a.hartRuns h = true ∧ (a.hartPlace h x = .none ∨ accessFits x (a.hartPlace h x) = false))
    ∧ (let s : State := Wit.fabric Hart.reset [] []
      let t : Nat := 0
      let h : Nat := 0
      let v : Nat := 0x1234
      let x : HartAccess := ⟨sramBase + 8, 2, some 0x1234⟩
      let a := s.advance t
      a.hartRuns h = true ∧ a.hartPlace h x = .sram ∧ accessFits x .sram = true ∧ a.up .fabric = true ∧ x.store = some v)
    ∧ (let s : State := { Wit.fabric Hart.reset [] [] with dram := [(lpddrBase + 1, 5)] }
      let t : Nat := 0
      let h : Nat := 0
      let x : HartAccess := ⟨lpddrBase, 4, none⟩
      let a := s.advance t
      a.hartRuns h = true ∧ a.hartPlace h x = .lpddr ∧ accessFits x .lpddr = true ∧ a.up .memory = true ∧ x.store = none)
    ∧ (let s : State := Wit.fabric Hart.reset [] []
      let t : Nat := 77
      let h : Nat := 3
      let n : Nat := 0
      let a := s.advance t
      a.hartRuns h = true)
    ∧ (let s : State := Wit.fabric Hart.reset [] []
      let t : Nat := 0
      let h : Nat := 8
      let q : Nat := 5
      let v : Nat := 1
      let words : List Nat := [1]
      let a := s.advance t
      a.hartRuns h = true ∧ q < 1024 ∧ a.up .fabric = true ∧ hartApplet h = true) := by
  refine ⟨?_, ?_, ?_, ?_, ?_, ?_, ?_, ?_, ?_, ?_, ?_, ?_, ?_, ?_, ?_, ?_, ?_, ?_, ?_, ?_, ?_, ?_, ?_⟩ <;> decide +kernel

theorem test_wit_DispatcherQueues :
    (let p : Pkt := ⟨4, 6, [10, 11], .closed⟩
      let s : State := Wit.fabric Hart.reset [] [p]
      let t : Nat := 0
      let h : Nat := 0
      let q : Nat := 5
      let a := s.advance t
      let n := p.words.length
      let held := fun (p : Pkt) => match p.phase with
        | .held _ _ => true
        | _ => false
      a.hartRuns h = true ∧ q < 1024 ∧ a.fabricOut = none ∧ qReaderApplet (a.queueCfg q) = hartApplet h ∧ (a.fabric.queue q).pkts.find? held = none ∧ (poppables (a.fabric.queue q).pkts).head? = some p ∧ ((a.fabric.hart h).task.isNone = true ∨ a.fabric.holds h < 16) ∧ 1 ≤ n)
    ∧ (let p : Pkt := ⟨4, 6, [10, 11], .held 0 1⟩
      let s : State := Wit.fabric Hart.reset [] [p]
      let t : Nat := 0
      let h : Nat := 0
      let q : Nat := 5
      let k : Nat := 1
      let a := s.advance t
      let left := p.words.length - k - 1
      let held := fun (p : Pkt) => match p.phase with
        | .held _ _ => true
        | _ => false
      a.hartRuns h = true ∧ q < 1024 ∧ a.fabricOut = none ∧ qReaderApplet (a.queueCfg q) = hartApplet h ∧ (a.fabric.queue q).pkts.find? held = some p ∧ p.phase = .held h k)
    ∧ (let p : Pkt := ⟨4, 6, [10, 11], .held 0 0⟩
      let s : State := Wit.fabric Hart.reset [] [p]
      let t : Nat := 0
      let h : Nat := 0
      let q : Nat := 5
      let k : Nat := 0
      let a := s.advance t
      let left := p.words.length - k - 1
      let held := fun (p : Pkt) => match p.phase with
        | .held _ _ => true
        | _ => false
      a.hartRuns h = true ∧ q < 1024 ∧ a.fabricOut = none ∧ qReaderApplet (a.queueCfg q) = hartApplet h ∧ (a.fabric.queue q).pkts.find? held = some p ∧ p.phase = .held h k)
    ∧ (let s : State := Wit.fabric Hart.reset [] [⟨4, 6, [10, 11], .closed⟩]
      let t : Nat := 0
      let h : Nat := 0
      let q : Nat := 5
      let a := s.advance t
      a.hartRuns h = true ∧ q < 1024)
    ∧ (let p : Pkt := ⟨4, 6, [10, 11], .opened 0 false⟩
      let s : State := Wit.fabric Hart.reset [] [p]
      let t : Nat := 0
      let h : Nat := 0
      let q : Nat := 5
      let w : Nat := 77
      let a := s.advance t
      let n := p.words.length
      let more := pktBlocks (n + 1) - pktBlocks n
      a.hartRuns h = true ∧ q < 1024 ∧ a.fabricOut = none ∧ (hartApplet h = false ∨ a.mayWrite h q = true) ∧ a.fabric.openOf h q = some p ∧ p.phase = .opened h false)
    ∧ (let s : State := Wit.fabric Hart.reset [] [⟨4, 6, [10, 11], .closed⟩]
      let t : Nat := 0
      let h : Nat := 0
      let q : Nat := 5
      let a := s.advance t
      a.hartRuns h = true ∧ q < 1024 ∧ a.openOutcome h q = 0)
    ∧ (let s : State := Wit.fabric Hart.reset [] [⟨4, 6, [10, 11], .opened 0 false⟩]
      let t : Nat := 0
      let h : Nat := 0
      let q : Nat := 5
      let a := s.advance t
      a.hartRuns h = true ∧ q < 1024 ∧ a.openOutcome h q ≠ 0)
    ∧ (let p : Pkt := ⟨4, 6, [10, 11], .opened 0 false⟩
      let s : State := Wit.fabric Hart.reset [] [p]
      let t : Nat := 0
      let h : Nat := 0
      let q : Nat := 5
      let v : Nat := 3
      let a := s.advance t
      a.hartRuns h = true ∧ q < 1024 ∧ a.fabricOut = none ∧ (hartApplet h = false ∨ a.mayWrite h q = true) ∧ a.fabric.openOf h q = some p)
    ∧ (let p : Pkt := ⟨4, 6, [10, 11], .opened 0 false⟩
      let s : State := Wit.fabric Hart.reset [] [p]
      let t : Nat := 0
      let h : Nat := 0
      let q : Nat := 5
      let a := s.advance t
      a.hartRuns h = true ∧ q < 1024 ∧ a.fabricOut = none ∧ a.fabric.openOf h q = some p)
    ∧ (let p : Pkt := ⟨4, 6, [10, 11], .opened 0 true⟩
      let s : State := Wit.fabric Hart.reset [] [p]
      let t : Nat := 0
      let h : Nat := 0
      let q : Nat := 5
      let a := s.advance t
      a.hartRuns h = true ∧ q < 1024 ∧ a.fabricOut = none ∧ a.fabric.openOf h q = some p)
    ∧ (let p : Pkt := ⟨4, 6, [10, 11], .opened 0 true⟩
      let s : State := Wit.fabric Hart.reset [] [p]
      let t : Nat := 0
      let h : Nat := 0
      let q : Nat := 5
      let a := s.advance t
      a.hartRuns h = true ∧ q < 1024 ∧ a.fabricOut = none ∧ (hartApplet h = false ∨ a.mayWrite h q = true) ∧ a.fabric.openOf h q = some p)
    ∧ (let p : Pkt := ⟨4, 6, [10, 11], .held 0 0⟩
      let s : State := Wit.fabric Wit.busy [] [p]
      let t : Nat := 0
      let h : Nat := 0
      let q : Nat := 5
      let k : Nat := 0
      let a := s.advance t
      let mine := fun (p : Pkt) => match p.phase with
        | .held h' _ => decide (h' = h)
        | _ => false
      a.hartRuns h = true ∧ q < 1024 ∧ a.fabricOut = none ∧ (hartApplet h = false ∨ qReaderApplet (a.queueCfg q) = true) ∧ (a.fabric.queue q).pkts.find? mine = some p ∧ p.phase = .held h k) := by
  refine ⟨?_, ?_, ?_, ?_, ?_, ?_, ?_, ?_, ?_, ?_, ?_, ?_⟩ <;> decide +kernel

theorem test_wit_AppletExchanges :
    (let s : State := (Wit.fabric Hart.reset [] []).setVal (key 0x5100 5) (leBytes 8 (2 ^ 63 + 0xFFFF * 2 ^ 40)) |>.setVal (key 0x5013 0) [3]
      let t : Nat := 0
      let h : Nat := 8
      let reply : Nat := 5
      let req : Bytes := Wit.claim 1
      let a := s.advance t
      let q := (Creq.of req).intake
      8 ≤ h ∧ a.fabric.harts.length = 16 ∧ a.hartRuns h = true ∧ a.submitOutcome h true req reply = (0, true) ∧ a.intakeCheck (.applet h a.fabric.combId) req = none ∧ (a.comb.intake.getD q []).length < 64)
    ∧ (let s : State := Wit.fabric Hart.reset [] []
      let t : Nat := 0
      let h : Nat := 8
      let reply : Nat := 5
      let comb : Bool := false
      let req : Bytes := []
      let a := s.advance t
      8 ≤ h ∧ a.hartRuns h = true ∧ (a.submitOutcome h comb req reply).2 = false)
    ∧ (let r : AppletReply := ⟨8, 5, none, [1, 2, 3, 4, 5, 6, 7, 8]⟩
      let s : State := { Wit.fabric Hart.reset [] [] with fabric := { (Wit.fabric Hart.reset [] []).fabric with replies := [r] }, dict := Dict.reset }
      let t : Nat := 0
      let h : Nat := 8
      let a := s.advance t
      let words := toWords (r.data.length / 4 + 1) r.data
      let w := a.fabric.queue r.reply
      a.quiet ∧ a.fabric.replies = [r] ∧ r.hart = h ∧ r.notify = none ∧ a.up .fabric = true ∧ a.hasBlocks r.reply (pktBlocks words.length) = true ∧ w.pkts.countP (fun p => p.phase.isOpen) < 8)
    ∧ (let e : AppletEvent := ⟨4, 2, key 0x6000 1, .coil 5 9, 10, []⟩
      let s : State := { Wit.calm with fabric := { Fabric.reset with events := [e] }, dict := { Dict.reset with sessions := [(5, { demoSession with flight := [⟨9, 6, key 0x6000 1, 0⟩] })] } }
      let t : Nat := 0
      let h : Nat := 8
      let tok : Nat := 4
      let out : Nat := 0
      let data : Bytes := [1, 2]
      let a := s.advance t
      a.hartRuns h = true ∧ 8 ≤ h ∧ a.admits (.applet h 0) 10 (key 0 0) 0 = true ∧ a.fabric.events.find? (fun e => e.token = tok) = some e ∧ out ≤ 1 ∧ tok < 65536 ∧ data.length ≤ 1348)
    ∧ (let e : AppletEvent := ⟨4, 2, key 0x6000 1, .coil 5 9, 10, []⟩
      let s : State := { Wit.calm with fabric := { Fabric.reset with events := [e] }, dict := { Dict.reset with sessions := [(5, { demoSession with flight := [⟨9, 6, key 0x6000 1, 0⟩] })] } }
      let t : Nat := 0
      let tok : Nat := 4
      let a := s.advance t
      a.fabric.events.find? (fun e => e.token = tok) = some e ∧ e.due ≤ a.now) := by
  refine ⟨?_, ?_, ?_, ?_, ?_⟩ <;> decide +kernel

theorem test_wit_KeyringLifecycle :
    (let s : State := Wit.life .commissioned
      let t : Nat := 0
      let c : Caller := .firmware
      let ok : Bool := true
      let v : Bytes := [9, 1, 0, 0, 32, 0, 0, 0] ++ zeros 32
      let a := s.advance t
      let b := { a with flash := ⟨!ok, 0⟩ }
      a.writes c 0x1111 0 v = true ∧ b.keyWriteCheck v = none)
    ∧ (let s : State := Wit.life .commissioned
      let t : Nat := 0
      let c : Caller := .firmware
      let v : Bytes := [9, 1, 0, 0, 16, 0, 0, 0] ++ zeros 16
      let ok : Bool := true
      let x : Ans := Ans.bad 0x05110001
      let a := s.advance t
      let b := { a with flash := ⟨!ok, 0⟩ }
      a.writes c 0x1111 0 v = true ∧ b.keyWriteCheck v = some x)
    ∧ (let s : State := Wit.life .commissioned
      let t : Nat := 0
      let c : Caller := .firmware
      let v : Bytes := [9, 1, 0, 0, 32, 0, 0, 0] ++ zeros 32
      let ok : Bool := false
      let x : Ans := Ans.state 0x05110005
      let a := s.advance t
      let b := { a with flash := ⟨!ok, 0⟩ }
      a.writes c 0x1111 0 v = true ∧ b.keyWriteCheck v = some x)
    ∧ (let s : State := Wit.life .commissioned
      let t : Nat := 0
      let n : Nat := 4
      let c : Caller := .firmware
      let a := s.advance t
      a.writes c 0x1112 0 (leBytes 1 n) = true ∧ 1 ≤ n ∧ n ≤ 254 ∧ (a.keySlot n).st ≠ .empty ∧ (a.keySlot n).gen < 0xFFFF)
    ∧ (let s : State := Wit.life .commissioned
      let t : Nat := 0
      let n : Nat := 4
      let c : Caller := .firmware
      let a := s.advance t
      let x := a.keySlot n
      a.writes c 0x1113 0 (leBytes 1 n) = true ∧ 1 ≤ n ∧ n ≤ 254 ∧ x.st = .valid ∧ a.keyUsable n = true ∧ x.gen < 0xFFFF)
    ∧ (let s : State := Wit.life .commissioned
      let t : Nat := 0
      let n : Nat := 9
      let c : Caller := .firmware
      let ok : Bool := true
      let a := s.advance t
      ((a.writes c 0x1112 0 (leBytes 1 n) = true ∧ (a.keySlot n).st = .empty ∨ a.writes c 0x1113 0 (leBytes 1 n) = true ∧ a.keyState n = .invalid)) ∧ 1 ≤ n ∧ n ≤ 254)
    ∧ (let s : State := Wit.life .commissioned
      let t : Nat := 0
      let n : Nat := 4
      let c : Caller := .firmware
      let a := s.advance t
      1 ≤ n ∧ n ≤ 254 ∧ (a.keySlot n).gen < 0xFFFF)
    ∧ (let r : KeyRecord := { KeyRecord.blank with gen := 1, slots := [(4, Wit.key32)] }
      let s : State := { Wit.calm with keys := { Keyring.reset with recA := r, slots := [(4, { Wit.key32 with st := .damaged })] } }
      let t : Nat := 0
      let n : Nat := 4
      let a := s.advance t
      let x := a.keySlot n
      x.st = .damaged ∧ x.persistent = true ∧ a.up .security = true ∧ a.keys.winner = some r ∧ a.keys.waiting = [])
    ∧ (let s : State := Wit.calm.setVal (key 0x5013 0) [3]
      let t : Nat := 0
      let h : Nat := 8
      let r : Nat := 9
      let req : Bytes := [1, 1, 0, 0, 5, 6]
      let a := s.advance t
      let f : InFlight := ⟨r, 6, key 0x1114 0, 0⟩
      let q := byte 1 :: req.drop 1
      let ans := Ans.done (sealBlob 1 (sealKey 1 a.boot.m2) (fit 12 (Config.randBytes a.free)) (q.drop 4))
      a.requests (.applet h r) 0x1114 q = true ∧ u q 1 1 = 1 ∧ u q 2 2 = 0 ∧ q.length ≤ 1028 ∧ 4 ≤ q.length ∧ a.keys.scrapped = false)
    ∧ (let s : State := Wit.lifeStopped .blank
      let t : Nat := 0
      let n : Nat := 1
      let c : Caller := .firmware
      let v : Bytes := [1, 0, 0, 0] ++ s.silicon.serial.take 4
      let i : Instr := .lifecycleProvision t c v
      let goal : Lifecycle := .provisioned
      let a := s.advance t
      let old := a.keys.life
      (i = .lifecycleProvision t c v ∧ n = 1 ∧ goal = .provisioned ∧ (old = .blank ∨ old = .decommissioned)
      ∨ i = .lifecycleCommission t c v ∧ n = 2 ∧ goal = .commissioned ∧ old = .provisioned
      ∨ i = .lifecycleDecommission t c v ∧ n = 3 ∧ goal = .decommissioned ∧ (old = .provisioned ∨ old = .commissioned)
      ∨ i = .lifecycleScrap t c v ∧ n = 4 ∧ goal = .scrapped ∧ (old = .blank ∨ old = .decommissioned)) ∧ a.writes c 0x1101 0 (byte n :: v.drop 1) = true ∧ slice v 4 4 = a.silicon.serial.take 4 ∧ (old ≠ .commissioned ∨ a.stoppedAll = true) ∧ a.lifeCondition goal = true ∧ a.islands.length = 12)
    ∧ (let s : State := Wit.lifeStopped .provisioned
      let t : Nat := 0
      let n : Nat := 2
      let c : Caller := .firmware
      let v : Bytes := [1, 0, 0, 0] ++ s.silicon.serial.take 4
      let i : Instr := .lifecycleCommission t c v
      let goal : Lifecycle := .commissioned
      let a := s.advance t
      let old := a.keys.life
      (i = .lifecycleProvision t c v ∧ n = 1 ∧ goal = .provisioned ∧ (old = .blank ∨ old = .decommissioned)
      ∨ i = .lifecycleCommission t c v ∧ n = 2 ∧ goal = .commissioned ∧ old = .provisioned
      ∨ i = .lifecycleDecommission t c v ∧ n = 3 ∧ goal = .decommissioned ∧ (old = .provisioned ∨ old = .commissioned)
      ∨ i = .lifecycleScrap t c v ∧ n = 4 ∧ goal = .scrapped ∧ (old = .blank ∨ old = .decommissioned)) ∧ a.writes c 0x1101 0 (byte n :: v.drop 1) = true ∧ slice v 4 4 = a.silicon.serial.take 4 ∧ (old ≠ .commissioned ∨ a.stoppedAll = true) ∧ a.lifeCondition goal = true ∧ a.islands.length = 12)
    ∧ (let s : State := Wit.lifeStopped .commissioned
      let t : Nat := 0
      let n : Nat := 3
      let c : Caller := .firmware
      let v : Bytes := [1, 0, 0, 0] ++ s.silicon.serial.take 4
      let i : Instr := .lifecycleDecommission t c v
      let goal : Lifecycle := .decommissioned
      let a := s.advance t
      let old := a.keys.life
      (i = .lifecycleProvision t c v ∧ n = 1 ∧ goal = .provisioned ∧ (old = .blank ∨ old = .decommissioned)
      ∨ i = .lifecycleCommission t c v ∧ n = 2 ∧ goal = .commissioned ∧ old = .provisioned
      ∨ i = .lifecycleDecommission t c v ∧ n = 3 ∧ goal = .decommissioned ∧ (old = .provisioned ∨ old = .commissioned)
      ∨ i = .lifecycleScrap t c v ∧ n = 4 ∧ goal = .scrapped ∧ (old = .blank ∨ old = .decommissioned)) ∧ a.writes c 0x1101 0 (byte n :: v.drop 1) = true ∧ slice v 4 4 = a.silicon.serial.take 4 ∧ (old ≠ .commissioned ∨ a.stoppedAll = true) ∧ a.lifeCondition goal = true ∧ a.islands.length = 12)
    ∧ (let s : State := Wit.lifeStopped .decommissioned
      let t : Nat := 0
      let n : Nat := 4
      let c : Caller := .firmware
      let v : Bytes := [1, 0, 0, 0] ++ s.silicon.serial.take 4
      let i : Instr := .lifecycleScrap t c v
      let goal : Lifecycle := .scrapped
      let a := s.advance t
      let old := a.keys.life
      (i = .lifecycleProvision t c v ∧ n = 1 ∧ goal = .provisioned ∧ (old = .blank ∨ old = .decommissioned)
      ∨ i = .lifecycleCommission t c v ∧ n = 2 ∧ goal = .commissioned ∧ old = .provisioned
      ∨ i = .lifecycleDecommission t c v ∧ n = 3 ∧ goal = .decommissioned ∧ (old = .provisioned ∨ old = .commissioned)
      ∨ i = .lifecycleScrap t c v ∧ n = 4 ∧ goal = .scrapped ∧ (old = .blank ∨ old = .decommissioned)) ∧ a.writes c 0x1101 0 (byte n :: v.drop 1) = true ∧ slice v 4 4 = a.silicon.serial.take 4 ∧ (old ≠ .commissioned ∨ a.stoppedAll = true) ∧ a.lifeCondition goal = true ∧ a.islands.length = 12)
    ∧ (let s : State := Wit.lifeStopped .blank
      let t : Nat := 0
      let n : Nat := 2
      let c : Caller := .firmware
      let v : Bytes := [1, 0, 0, 0] ++ s.silicon.serial.take 4
      let i : Instr := .lifecycleCommission t c v
      let goal : Lifecycle := .commissioned
      let a := s.advance t
      (i = .lifecycleProvision t c v ∧ n = 1 ∧ goal = .provisioned ∨ i = .lifecycleCommission t c v ∧ n = 2 ∧ goal = .commissioned
      ∨ i = .lifecycleDecommission t c v ∧ n = 3 ∧ goal = .decommissioned ∨ i = .lifecycleScrap t c v ∧ n = 4 ∧ goal = .scrapped) ∧ a.writes c 0x1101 0 (byte n :: v.drop 1) = true ∧ (slice v 4 4 ≠ a.silicon.serial.take 4 ∨ lifeStep a.keys.life goal = false ∨ (a.keys.life = .commissioned ∧ a.stoppedAll = false)
      ∨ a.lifeCondition goal = false)) := by
  refine ⟨?_, ?_, ?_, ?_, ?_, ?_, ?_, ?_, ?_, ?_, ?_, ?_, ?_, ?_⟩ <;> decide +kernel

theorem test_wit_Updates :
    (let s : State := { Wit.calm with stop := StopBath.reset }
      let t : Nat := 0
      let c : Caller := .firmware
      let v : Bytes := Wit.bundleHeader
      let a := s.advance t
      a.boot.imgs.length = 2 ∧ a.boot.booted ≤ 1 ∧ a.writes c 0x1210 0 v = true ∧ hdrShapeOk v (a.keptLen (hdrKind v)) = true ∧ (hdrKind v = 2 ∨ a.boot.fuse ≤ hdrSecurity v) ∧ a.trialBooted = false ∧ (a.updateOwner = none ∨ a.updateOwner = some (Editor.ofCaller c)))
    ∧ (let s : State := { Wit.updating with stop := StopBath.reset }
      let t : Nat := 0
      let c : Caller := .firmware
      let v : Bytes := Wit.bundleHeader
      let a := s.advance t
      a.writes c 0x1210 0 v = true ∧ (hdrShapeOk v (a.keptLen (hdrKind v)) = false ∨ a.hdrSigned v = false ∨ (hdrKind v ≠ 2 ∧ hdrSecurity v < a.boot.fuse) ∨ a.trialBooted = true
      ∨ (∃ e, a.updateOwner = some e ∧ e ≠ Editor.ofCaller c)))
    ∧ (let s : State := Wit.updating
      let t : Nat := 0
      let sid : Nat := 5
      let req : Nat := 9
      let data : Bytes := [1, 2]
      let x : Update := ⟨Wit.bundleHeader⟩
      let a := s.advance t
      let img := a.stagedImage x.header data
      a.boot.imgs.length = 2 ∧ a.boot.booted ≤ 1 ∧ a.admits (.coil sid req) 4 (key 0x1211 0) 0 = true ∧ a.writes (.coil sid req) 0x1211 0 data = true ∧ a.updateOf (.coil sid) = some x ∧ data.length = hdrLen0 x.header + hdrLen1 x.header)
    ∧ (let s : State := Wit.updating
      let t : Nat := 0
      let sid : Nat := 5
      let req : Nat := 9
      let total : Nat := 2
      let data : Bytes := [1]
      let x : Update := ⟨Wit.bundleHeader⟩
      let a := s.advance t
      a.admits (.coil sid req) 4 (key 0x1211 0) 0 = true ∧ a.writes (.coil sid req) 0x1211 0 (zeros total) = true ∧ a.updateOf (.coil sid) = some x ∧ total = hdrLen0 x.header + hdrLen1 x.header ∧ data.length < total)
    ∧ (let s : State := Wit.updating
      let t : Nat := 0
      let sid : Nat := 5
      let req : Nat := 9
      let total : Nat := 2
      let data : Bytes := [1]
      let x : Update := ⟨Wit.bundleHeader⟩
      let a := s.advance t
      a.boot.imgs.length = 2 ∧ a.boot.booted ≤ 1 ∧ a.admits (.coil sid req) 4 (key 0x1211 0) 0 = true ∧ a.writes (.coil sid req) 0x1211 0 (zeros total) = true ∧ a.updateOf (.coil sid) = some x ∧ total = hdrLen0 x.header + hdrLen1 x.header ∧ data.length ≤ total)
    ∧ (let s : State := { Wit.updating with boot := { Wit.updating.boot with staged := some 1 } }
      let t : Nat := 0
      let i : Nat := 1
      let c : Caller := .firmware
      let a := s.advance t
      i < 2 ∧ a.boot.imgs.length = 2 ∧ a.writes c 0x1213 0 [1] = true ∧ a.boot.staged = some i ∧ a.stoppedAll = true)
    ∧ (let s : State := Wit.trialling
      let t : Nat := 0
      let c : Caller := .firmware
      let x : Trial := ⟨1, 1, 60⟩
      let a := s.advance t
      let v := hdrSecurity (a.imgSlot x.slot).header
      a.boot.imgs.length = 2 ∧ x.slot < 2 ∧ a.writes c 0x1214 0 [1] = true ∧ a.trialBooted = true ∧ a.boot.trial = some x)
    ∧ (let s : State := Wit.trialling
      let t : Nat := 0
      let c : Caller := .firmware
      let x : Trial := ⟨1, 1, 60⟩
      let a := s.advance t
      a.boot.imgs.length = 2 ∧ x.slot < 2 ∧ a.writes c 0x1214 0 [2] = true ∧ a.trialBooted = true ∧ a.boot.trial = some x)
    ∧ (let s : State := Wit.calm
      let t : Nat := 0
      let c : Caller := .firmware
      let a := s.advance t
      a.trialBooted = false)
    ∧ (let s : State := Wit.trialling
      let t : Nat := 100 * sec
      let t0 : Nat := 0
      let x : Trial := ⟨1, 1, 60⟩
      let a := s.advance t
      a.boot.imgs.length = 2 ∧ x.slot < 2 ∧ a.trialBooted = true ∧ a.boot.trial = some x ∧ a.boot.running = some t0 ∧ t0 + x.timeout * sec ≤ a.now) := by
  refine ⟨?_, ?_, ?_, ?_, ?_, ?_, ?_, ?_, ?_, ?_⟩ <;> decide +kernel

theorem test_wit_SettingsBoant :
    (let s : State := Wit.updating
      let t : Nat := 0
      let worn : Nat := 2000
      let c : Caller := .firmware
      let a := s.advance t
      a.writes c 0x1222 0 [1] = true ∧ a.stoppedAll = true)
    ∧ (let s : State := Wit.updating
      let t : Nat := 0
      let sid : Nat := 5
      let req : Nat := 9
      let max : Nat := 100
      let a := s.advance t
      a.reads (.coil sid req) 3 0x1230 0 0 = true)
    ∧ (let s : State := Wit.updating
      let t : Nat := 0
      let worn : Nat := 1
      let c : Caller := .firmware
      let v : Bytes := ascii "DXCF" ++ zeros 200
      let a := s.advance t
      let l := (imageEntries v).getD []
      a.writes c 0x1231 0 v = true)
    ∧ (let s : State := { State.reset with settings := { Settings.reset with carried := [(0x4800, 0)] } }
      let t : Nat := 10 * sec
      let t0 : Nat := 0
      let a := s.advance t
      a.settings.carried = [(0x4800, t0)] ∧ t0 + 10 * sec ≤ a.now ∧ a.groupCheck 0x4800 = none)
    ∧ (let s : State := { State.reset with settings := { Settings.reset with carried := [(0x4800, 0)] } } |>.setVal (key 0x4801 1) (9 :: zeros 39)
      let t : Nat := 10 * sec
      let t0 : Nat := 0
      let g : Nat := 0x4800
      let x : Ans := Ans.bad 0x05480001
      let a := s.advance t
      a.settings.carried = [(g, t0)] ∧ t0 + 10 * sec ≤ a.now ∧ a.groupCheck g = some x)
    ∧ (let s : State := Wit.updating
      let t : Nat := 0
      let c : Caller := .firmware
      let a := s.advance t
      a.writes c 0x1240 0 [1] = true ∧ a.stoppedAll = true)
    ∧ (let s : State := Wit.boant
      let t : Nat := 0
      let port : Nat := 0
      let msg : Bytes := Wit.boantMsg 1 0 []
      let a := s.advance t
      let life := if a.keys.scrapped then 4 else a.keys.life.code
      a.boantTakes port 1 msg = true ∧ a.boantRefusal port msg = none)
    ∧ (let s : State := Wit.boant
      let t : Nat := 0
      let port : Nat := 1
      let op : Nat := 3
      let o : Nat := 0x11
      let msg : Bytes := Wit.boantMsg 3 0 (zeros 57)
      let i : Instr := .boantData t port msg
      let a := s.advance t
      (op = 1 ∧ i = .boantInfo t port msg ∨ op = 2 ∧ i = .boantHeader t port msg ∨ op = 3 ∧ i = .boantData t port msg
      ∨ op = 4 ∧ i = .boantFinish t port msg ∨ op = 5 ∧ i = .boantReset t port msg) ∧ a.boantTakes port op msg = true ∧ a.boantRefusal port msg = some o)
    ∧ (let s : State := Wit.boant
      let t : Nat := 0
      let port : Nat := 0
      let msg : Bytes := Wit.boantMsg 2 0 (Wit.twoSegs.take 256)
      let a := s.advance t
      let d := msg.drop 8
      a.boantTakes port 2 msg = true ∧ a.boantRefusal port msg = none ∧ u msg 4 4 = 0 ∧ d.length < 512)
    ∧ (let s : State := { Wit.boant with boot := { Wit.boant.boot with boantHdr := Wit.twoSegs.take 256 } }
      let t : Nat := 0
      let port : Nat := 0
      let msg : Bytes := Wit.boantMsg 2 256 (Wit.twoSegs.drop 256)
      let a := s.advance t
      let h := a.boot.boantHdr ++ msg.drop 8
      let good := hdrKind h = 1 ∧ hdrShapeOk h 0 = true ∧ a.hdrSigned h = true ∧ a.boot.fuse ≤ hdrSecurity h
      a.boantTakes port 2 msg = true ∧ a.boantRefusal port msg = none ∧ u msg 4 4 = a.boot.boantHdr.length ∧ u msg 4 4 ≠ 0 ∧ a.boot.boantHdr.length < 512 ∧ h.length = 512 ∧ a.boot.boantSlot < a.boot.imgs.length)
    ∧ (let s : State := { Wit.boant with boot := { Wit.boant.boot with boantHdr := Wit.twoSegs, boantData := [5] } }
      let t : Nat := 0
      let port : Nat := 0
      let msg : Bytes := Wit.boantMsg 3 1 [6]
      let a := s.advance t
      let h := a.boot.boantHdr
      let d := msg.drop 8
      a.boantTakes port 3 msg = true ∧ a.boantRefusal port msg = none ∧ h.length = 512 ∧ u msg 4 4 = a.boot.boantData.length ∧ u msg 4 4 ≠ 0 ∧ a.boot.boantData.length + d.length ≤ hdrLen0 h + hdrLen1 h)
    ∧ (let s : State := { Wit.boant with boot := { Wit.boant.boot with boantHdr := Wit.twoSegs, boantData := [5, 6] } }
      let t : Nat := 0
      let port : Nat := 0
      let msg : Bytes := Wit.boantMsg 4 0 []
      let a := s.advance t
      let h := a.boot.boantHdr
      let d := a.boot.boantData
      let w := a.boot.boantSlot
      a.boantTakes port 4 msg = true ∧ a.boantRefusal port msg = none ∧ h.length = 512 ∧ d.length = hdrLen0 h + hdrLen1 h ∧ w < a.boot.imgs.length ∧ Sha.sha384 (d.take (hdrLen0 h)) = hdrHash0 h ∧ Sha.sha384 (d.drop (hdrLen0 h)) = hdrHash1 h)
    ∧ (let s : State := Wit.boant
      let t : Nat := 0
      let port : Nat := 0
      let msg : Bytes := Wit.boantMsg 5 0 []
      let a := s.advance t
      a.boantTakes port 5 msg = true ∧ a.boantRefusal port msg = none) := by
  refine ⟨?_, ?_, ?_, ?_, ?_, ?_, ?_, ?_, ?_, ?_, ?_, ?_, ?_⟩ <;> decide +kernel

theorem test_wit_ResetSources :
    (let s : State := Wit.calm
      let t : Nat := 3
      let torn : Torn := .none
      let a := s.advance t
      s.sized)
    ∧ (let s : State := Wit.calm
      let t : Nat := 3
      let torn : Torn := .mirror
      let a := s.advance t
      s.sized)
    ∧ (let s : State := Wit.calm
      let t : Nat := 3
      let a := s.advance t
      s.sized)
    ∧ (let s : State := Wit.calm.assertReset 1 0 0xFF
      let t : Nat := 3
      let a := s.advance t
      s.sized ∧ a.resets.asserted ≠ [] ∧ ((∀ x ∈ a.resets.asserted, x.code = 1)) ∧ (a.isl .aon).st = .inReset ∧ (a.isl .security).st = .inReset)
    ∧ (let s : State := Wit.calm
      let t : Nat := 3
      let a := s.advance t
      s.sized)
    ∧ (let s : State := Wit.calm
      let t : Nat := 3000 * sec
      let a := s.advance t
      s.sized ∧ (a.isl .compute).st ≠ .inReset ∧ a.boot.boant = false ∧ a.resets.watchdogAt + a.cfg 0x1303 0 * ms ≤ a.now)
    ∧ (let s : State := Wit.boant
      let t : Nat := 3000 * sec
      let a := s.advance t
      (a.now < a.resets.watchdogAt + a.cfg 0x1303 0 * ms ∨ (a.isl .compute).st = .inReset ∨ a.boot.boant = true))
    ∧ (let s : State := Wit.calm
      let t : Nat := 2000000000
      let a := s.advance t
      a.up .compute = true)
    ∧ (let s : State := Wit.calm.setVal (key 0x1304 0) [1]
      let t : Nat := 3
      let a := s.advance t
      s.sized ∧ a.cfg 0x1304 0 = 1)
    ∧ (let s : State := Wit.calm
      let t : Nat := 3
      let a := s.advance t
      a.cfg 0x1304 0 ≠ 1)
    ∧ (let s : State := Wit.calm.porRise .none
      let t : Nat := 1000000000 + ms
      let code : Nat := 0
      let a := s.advance t
      code ≠ 1 ∧ code ≠ 2 ∧ code ≠ 9 ∧ ((code = 0 → ∀ x ∈ a.resets.porAt.toList, x + ms ≤ a.now)))
    ∧ (let s : State := Wit.calm.assertReset 6 3 8
      let t : Nat := 1000000000
      let code : Nat := 6
      let a := s.advance t
      code ≠ 1 ∧ code ≠ 2 ∧ code ≠ 9 ∧ ((code = 0 → ∀ x ∈ a.resets.porAt.toList, x + ms ≤ a.now)))
    ∧ (let s : State := Wit.calm.porRise .none
      let t : Nat := 1000000000 + ms - 1
      let code : Nat := 0
      let a := s.advance t
      (code = 1 ∨ code = 2 ∨ code = 9 ∨ (code = 0 ∧ ∃ x ∈ a.resets.porAt.toList, a.now < x + ms)))
    ∧ (let s : State := { Wit.calm.assertReset 6 1 0 with resets := { (Wit.calm.assertReset 6 1 0).releaseSource 6 |>.resets with rowAt := 0 } }
      let t : Nat := 1000000000
      let l : List Island := [.security]
      let rest : List ReleaseStep := [.rom, .islands [.memory], .islands [.fabric], .islands [.compute], .islands [.timebase], .islands [.network, .tracking, .comb, .fixer, .developer, .radio], .appletHarts]
      let a := s.advance t
      s.sized ∧ a.resets.plan = .islands l :: rest)
    ∧ (let s : State := { Wit.calm with resets := { Wit.calm.resets with plan := [.appletHarts], record := some ⟨64, 6, 1, 0xFF, 0⟩ } }
      let t : Nat := 1000000000
      let c : Cause := ⟨64, 6, 1, 0xFF, 0⟩
      let a := s.advance t
      a.resets.plan = [.appletHarts] ∧ a.resets.asserted = [] ∧ a.resets.record = some c)
    ∧ (let s : State := { Wit.calm with resets := { Wit.calm.resets with plan := [.rom, .appletHarts], record := some ⟨64, 6, 1, 0xFF, 0⟩ } }
      let t : Nat := 1000000000
      let rest : List ReleaseStep := [.appletHarts]
      let a := s.advance t
      s.boot.imgs.length = 2 ∧ a.resets.plan = .rom :: rest ∧ rest ≠ [] ∧ a.boot.boantReq = false ∧ a.boot.trial = none ∧ a.slotOk a.boot.active = true)
    ∧ (let s : State := { Wit.calm.setIsl .radio fun x => { x with st := .inReset } with resets := { Wit.calm.resets with plan := [.islands [.radio], .appletHarts] } }
      let t : Nat := 1000000000
      let i : Island := .radio
      let l : List Island := [.radio]
      let rest : List ReleaseStep := [.appletHarts]
      let a := s.advance t
      s.sized ∧ a.resets.plan = .islands l :: rest ∧ i ∈ l ∧ a.resets.rowAt + 2 * ms ≤ a.now) := by
  refine ⟨?_, ?_, ?_, ?_, ?_, ?_, ?_, ?_, ?_, ?_, ?_, ?_, ?_, ?_, ?_, ?_, ?_⟩ <;> decide +kernel

theorem test_wit_ResetCommands :
    (let s : State := Wit.lifeStopped .commissioned
      let t : Nat := 3
      let c : Caller := .coil 5 10
      let a := s.advance t
      s.sized ∧ a.writes c 0x1301 0 [1, 0, 0, 0] = true ∧ a.stoppedAll = true)
    ∧ (let s : State := Wit.lifeStopped .commissioned
      let t : Nat := 3
      let c : Caller := .coil 5 10
      let a := s.advance t
      s.sized ∧ a.writes c 0x1301 0 [2, 0, 0, 0] = true ∧ a.stoppedAll = true)
    ∧ (let s : State := Wit.lifeStopped .commissioned
      let t : Nat := 3
      let c : Caller := .coil 5 10
      let i : Island := .tracking
      let a := s.advance t
      s.sized ∧ a.writes c 0x1301 0 [3, byte i.id, 0, 0] = true ∧ 5 ≤ i.id ∧ i.id ≤ 10 ∧ a.gone i = false ∧ a.stoppedAll = true ∧ (a.isl i).st ≠ .failed)
    ∧ (let s : State := Wit.going
      let t : Nat := 3
      let c : Caller := .firmware
      let island : Nat := 2
      let a := s.advance t
      ((a.writes c 0x1301 0 [byte island, 0, 0, 0] = true ∧ (island = 1 ∨ island = 2))) ∧ a.stoppedAll = false)
    ∧ (let s : State := Wit.tracked Wit.chan
      let t : Nat := 3
      let port : Nat := 0
      let c : Caller := .firmware
      let a := s.advance t
      a.writes c 0x1301 0 ([4, 8] ++ leBytes 2 port) = true ∧ port < 4 ∧ a.gone .tracking = false ∧ a.track.ports.length = 4)
    ∧ (let s : State := Wit.radio [(1, Wit.link .connected)]
      let t : Nat := 3
      let k : Nat := 2
      let c : Caller := .firmware
      let a := s.advance t
      s.sized ∧ a.writes c 0x1301 0 ([4, 9] ++ leBytes 2 k) = true ∧ a.hasModem k = true ∧ a.gone .radio = false)
    ∧ (let s : State := Wit.eth (Wit.linked 0 0) (Wit.linked 0 0) 1
      let t : Nat := 3
      let p : Nat := 0
      let c : Caller := .firmware
      let a := s.advance t
      s.sized ∧ a.writes c 0x1301 0 ([4, 10] ++ leBytes 2 p) = true ∧ p < 4 ∧ a.hasEth p = true ∧ a.gone .network = false)
    ∧ (let s : State := Wit.can (CanPort.reset 0)
      let t : Nat := 3
      let p : Nat := 1
      let c : Caller := .firmware
      let a := s.advance t
      s.sized ∧ a.writes c 0x1301 0 ([4, 10] ++ leBytes 2 (p + 4)) = true ∧ p < 8 ∧ a.hasCan p = true ∧ a.gone .network = false) := by
  refine ⟨?_, ?_, ?_, ?_, ?_, ?_, ?_, ?_⟩ <;> decide +kernel

theorem test_wit_MarginActions :
    (let s : State := State.reset
      let t : Nat := 3
      let i : Island := .network
      let temp : Int := 1251
      let a := s.advance t
      a.islands.length = 12 ∧ 1250 < temp ∧ a.health.tempHigh = false)
    ∧ (let s : State := State.reset
      let t : Nat := 3
      let i : Island := .network
      let temp : Int := 1250
      let a := s.advance t
      a.islands.length = 12 ∧ (temp ≤ 1250 ∨ a.health.tempHigh = true))
    ∧ (let s : State := { State.reset with health := { Health.reset with tempHigh := true } }
      let t : Nat := 3
      let temps : List Int := List.replicate 12 1199
      let a := s.advance t
      a.islands.length = 12 ∧ temps.length = 12)
    ∧ (let s : State := { State.reset with health := { Health.reset with tempHigh := true } }
      let t : Nat := 3
      let temps : List Int := List.replicate 12 1200
      let a := s.advance t
      a.islands.length = 12 ∧ temps.length = 12)
    ∧ (let s : State := Wit.calm
      let t : Nat := 3
      let i : Island := .comb
      let temp : Int := 1401
      let a := s.advance t
      s.sized ∧ 1400 < temp ∧ ((∀ x ∈ a.resets.asserted, x.code ≠ 9)))
    ∧ (let s : State := Wit.calm
      let t : Nat := 3
      let i : Island := .comb
      let temp : Int := 1400
      let a := s.advance t
      a.islands.length = 12 ∧ (temp ≤ 1400 ∨ (∃ x ∈ a.resets.asserted, x.code = 9)))
    ∧ (let s : State := Wit.calm.assertReset 9 1 0xFF
      let t : Nat := 3
      let temps : List Int := List.replicate 12 1150
      let a := s.advance t
      a.islands.length = 12 ∧ temps.length = 12)
    ∧ (let s : State := Wit.calm.assertReset 9 1 0xFF
      let t : Nat := 3
      let temps : List Int := List.replicate 12 1151
      let a := s.advance t
      a.islands.length = 12 ∧ temps.length = 12)
    ∧ (let s : State := State.reset
      let t : Nat := 3
      let i : Island := .network
      let x : Int := 39
      let temps : List Int := []
      let a := s.advance t
      a.islands.length = 12 ∧ a.up .aon = true ∧ i ≠ .aon ∧ a.up i = true ∧ ((∀ r ∈ a.islands, r.slack = [])) ∧ x < 40 ∧ a.health.volts < 850)
    ∧ (let s : State := { State.reset with health := { Health.reset with volts := 850 } }
      let t : Nat := 3
      let i : Island := .comb
      let x : Int := 39
      let temps : List Int := []
      let a := s.advance t
      let n := (a.isl i).stepTo.getD (a.isl i).step
      a.islands.length = 12 ∧ a.up .aon = true ∧ i ≠ .aon ∧ a.up i = true ∧ ((∀ r ∈ a.islands, r.slack = [])) ∧ x < 40 ∧ 850 ≤ a.health.volts ∧ n < floorStep i)
    ∧ (let s : State := { State.reset with health := { Health.reset with volts := 850 } }
      let t : Nat := 3
      let i : Island := .network
      let x : Int := 39
      let temps : List Int := []
      let a := s.advance t
      let n := (a.isl i).stepTo.getD (a.isl i).step
      a.islands.length = 12 ∧ a.up .aon = true ∧ i ≠ .aon ∧ a.up i = true ∧ ((∀ r ∈ a.islands, r.slack = [])) ∧ x < 40 ∧ 850 ≤ a.health.volts ∧ floorStep i ≤ n ∧ (a.isl i).endLogged = false)
    ∧ (let s : State := State.reset
      let t : Nat := 3
      let slacks : List Int := List.replicate 12 40
      let temps : List Int := List.replicate 12 400
      let a := s.advance t
      a.islands.length = 12 ∧ a.up .aon = true ∧ ((∀ x ∈ slacks, 40 ≤ x)) ∧ ((∀ r ∈ a.islands, ∀ e ∈ r.slack, 40 ≤ e.2)))
    ∧ (let s : State := State.reset.setIsl .developer fun x => { x with stepTo := some 1 }
      let t : Nat := 3
      let n : Nat := 1
      let i : Island := .developer
      let a := s.advance t
      a.islands.length = 12 ∧ (a.isl i).stepTo = some n ∧ a.up i = true)
    ∧ (let s : State := State.reset
      let t : Nat := 3
      let i : Island := .developer
      let a := s.advance t
      ((a.isl i).stepTo = none ∨ a.up i = false))
    ∧ (let s : State := { State.reset with health := { Health.reset with volts := 850, vreq := 30 } }
      let t : Nat := 2 * ms
      let a := s.advance t
      a.up .aon = true ∧ a.health.vreqAt + ms ≤ a.now ∧ a.health.vreq ≠ a.voltCode)
    ∧ (let s : State := { State.reset with health := { Health.reset with volts := 850, vreq := 30 } }
      let t : Nat := ms - 1
      let a := s.advance t
      (a.now < a.health.vreqAt + ms ∨ a.health.vreq = a.voltCode)) := by
  refine ⟨?_, ?_, ?_, ?_, ?_, ?_, ?_, ?_, ?_, ?_, ?_, ?_, ?_, ?_, ?_, ?_⟩ <;> decide +kernel

theorem test_wit_MemoryHealth :
    (let s : State := State.reset
      let t : Nat := 3
      let r : SramRow := ⟨.comb, 3, 67, 1⟩
      let a := s.advance t
      let b := r.island.id * 65536 + r.bank
      a.up r.island = true ∧ rowPlaced r = true ∧ r.island.id * 65536 + r.region ∉ a.health.retired ∧ Tbl.getD a.health.rowsUsed b 0 < 8)
    ∧ (let s : State := { State.reset with health := { Health.reset with rowsUsed := [(3 * 65536 + 2, 8)] } }
      let t : Nat := 3
      let r : SramRow := ⟨.fabric, 2, 3, 15⟩
      let a := s.advance t
      a.islands.length = 12 ∧ a.up r.island = true ∧ rowPlaced r = true ∧ r.island.id * 65536 + r.region ∉ a.health.retired ∧ 8 ≤ Tbl.getD a.health.rowsUsed (r.island.id * 65536 + r.bank) 0 ∧ r.region < a.regionsOf r.island)
    ∧ (let s : State := { State.reset with health := { Health.reset with rowsUsed := [(10 * 65536 + 2, 8)] } }
      let t : Nat := 3
      let r : SramRow := ⟨.network, 2, 3, 0⟩
      let a := s.advance t
      a.islands.length = 12 ∧ a.up r.island = true ∧ rowPlaced r = true ∧ r.island.id * 65536 + r.region ∉ a.health.retired ∧ 8 ≤ Tbl.getD a.health.rowsUsed (r.island.id * 65536 + r.bank) 0 ∧ a.regionsOf r.island ≤ r.region)
    ∧ (let s : State := State.reset
      let t : Nat := 3
      let r : SramRow := ⟨.network, 2, 3, 0⟩
      let a := s.advance t
      (a.up r.island = false ∨ rowPlaced r = false ∨ r.island.id * 65536 + r.region ∈ a.health.retired
      ∨ errorsAt a.health.rowErrs (rowKey r.island.id r.bank r.row) a.now < 4))
    ∧ (let s : State := { State.reset with health := { Health.reset with rowErrs := [(rowKey 5 2 3, [0, 0, 0, 0])] } }
      let t : Nat := 3
      let r : SramRow := ⟨.comb, 2, 3, 0⟩
      let a := s.advance t
      (a.up r.island = false ∨ rowPlaced r = false ∨ r.island.id * 65536 + r.region ∈ a.health.retired
      ∨ errorsAt a.health.rowErrs (rowKey r.island.id r.bank r.row) a.now < 4))
    ∧ (let s : State := State.reset
      let t : Nat := 3
      let p : Nat := 77
      let a := s.advance t
      a.up .memory = true ∧ p ∉ a.health.pages)
    ∧ (let s : State := State.reset
      let t : Nat := 3
      let p : Nat := 77
      let a := s.advance t
      (a.up .memory = false ∨ p ∈ a.health.pages ∨ errorsAt a.health.pageErrs p a.now < 4))
    ∧ (let s : State := { Wit.calm with health := { Health.reset with counters := List.replicate 64 5 } }
      let t : Nat := 0
      let n : Nat := 63
      let v : Nat := 0x00010003
      let c : Caller := .coil 5 10
      let a := s.advance t
      n < 64 ∧ v < 2 ^ 32 ∧ a.health.counters.length = 64 ∧ a.writes c 0x1330 (n + 1) (leBytes 4 v) = true)
    ∧ (let s : State := { Wit.calm with health := { Health.reset with counters := List.replicate 64 5 } }
      let t : Nat := 0
      let c : Caller := .coil 5 10
      let a := s.advance t
      a.writes c 0x1332 0 [1] = true) := by
  refine ⟨?_, ?_, ?_, ?_, ?_, ?_, ?_, ?_, ?_⟩ <;> decide +kernel

theorem test_wit_LogRecords :
    (let s : State := State.reset
      let t : Nat := 3
      let code : Nat := 0x1205
      let sev : Nat := 2
      let island : Nat := 2
      let params : Bytes := [1, 2]
      let a := s.advance t
      let e : LogEv := { code := code, sev := sev, island := island, params := params }
      eventListed code sev island = true ∧ a.passes island = true ∧ params.length ≤ 40 ∧ a.cfg 0x1408 0 ≤ sev ∧ a.up .aon = true ∧ (a.log.expire a.now).fold? e = none ∧ (a.log.expire a.now).staging.length < 64)
    ∧ (let r : LogRec := { cycle := 0, count := 1, ev := ⟨0x1205, 2, 2, [1, 2]⟩, mirrored := false, satur := false, synth := false, rep := 0, damaged := false }
      let s : State := { State.reset with log := { Logbook.reset [] with slots := [(0, r)], openRec := some (0, 5) } }
      let t : Nat := 5 + sec - 1
      let at_ : Nat := 5
      let slot : Nat := 0
      let a := s.advance t
      a.up .aon = true ∧ a.cfg 0x1408 0 ≤ r.ev.sev ∧ r.ev.code ≠ 0x1402 ∧ eventListed r.ev.code r.ev.sev r.ev.island = true ∧ a.passes r.ev.island = true ∧ r.ev.params.length ≤ 40 ∧ a.log.openRec = some (slot, at_) ∧ a.now < at_ + sec ∧ Tbl.get? a.log.slots slot = some r ∧ r.rep < 0xFFFFFFFE)
    ∧ (let s : State := { State.reset with log := { Logbook.reset [] with staging := List.replicate 64 (.event ⟨0x1100, 1, 4, []⟩) } }
      let t : Nat := 3
      let code : Nat := 0x1205
      let sev : Nat := 2
      let island : Nat := 2
      let params : Bytes := [1, 2]
      let a := s.advance t
      let e : LogEv := { code := code, sev := sev, island := island, params := params }
      eventListed code sev island = true ∧ a.passes island = true ∧ params.length ≤ 40 ∧ a.cfg 0x1408 0 ≤ sev ∧ a.up .aon = true ∧ (a.log.expire a.now).fold? e = none ∧ 64 ≤ (a.log.expire a.now).staging.length)
    ∧ (let s : State := Wit.calm.setVal (key 0x1408 0) [2]
      let t : Nat := 3
      let code : Nat := 0x1207
      let sev : Nat := 3
      let island : Nat := 4
      let params : Bytes := [1, 2]
      let a := s.advance t
      (sev < a.cfg 0x1408 0 ∨ eventListed code sev island = false ∨ a.passes island = false))
    ∧ (let s : State := State.reset.setIsl .aon fun x => { x with st := .restarting, since := 3 }
      let t : Nat := 3
      let code : Nat := 0x1205
      let sev : Nat := 2
      let island : Nat := 2
      let params : Bytes := [1, 2]
      let a := s.advance t
      eventListed code sev island = true ∧ a.passes island = true ∧ params.length ≤ 40 ∧ a.cfg 0x1408 0 ≤ sev ∧ a.up .aon = false)
    ∧ (let e : LogEv := ⟨0x1300, 1, 0, Cause.powerOn.bytes⟩
      let s : State := { State.reset with log := Logbook.reset [.event e] }
      let t : Nat := 3
      let i : Nat := 0
      let rest : List Staged := []
      let a := s.advance t
      let l := a.log.expire a.now
      a.up .aon = true ∧ l.staging = .event e :: rest ∧ l.fold? e = none ∧ l.losses = [] ∧ l.slotFor e.sev = some i ∧ l.openRec = none)
    ∧ (let e : LogEv := ⟨0x1300, 1, 0, [7]⟩
      let s : State := { State.reset with log := { Logbook.reset [.event e] with retired := List.range 16 } }
      let t : Nat := 3
      let rest : List Staged := []
      let a := s.advance t
      let l := a.log.expire a.now
      a.up .aon = true ∧ l.staging = .event e :: rest ∧ l.fold? e = none ∧ l.losses = [] ∧ l.slotFor e.sev = none ∧ l.openRec = none)
    ∧ (let s : State := { State.reset with log := { Logbook.reset [.lost 2] with losses := [⟨2, 3, 1⟩] } }
      let t : Nat := 3
      let i : Nat := 0
      let where_ : Nat := 2
      let n : Nat := 3
      let sev : Nat := 1
      let a := s.advance t
      let l := a.log.expire a.now
      let e : LogEv := { code := 0x1401, sev := max 2 sev, island := 0, params := leBytes 4 (min n 0xFFFFFFFF) ++ [byte sev, byte where_] }
      a.up .aon = true ∧ l.staging = [.lost where_] ∧ l.losses = [⟨where_, n, sev⟩] ∧ l.fold? e = none ∧ l.slotFor e.sev = some i ∧ l.openRec = none)
    ∧ (let r : LogRec := { cycle := 0, count := 1, ev := ⟨0x1204, 3, 2, [1, 2]⟩, mirrored := false, satur := false, synth := false, rep := 0, damaged := false }
      let s : State := { State.reset with log := { Logbook.reset [] with slots := [(0, r)], openRec := some (0, 5) } }
      let t : Nat := 5 + sec
      let at_ : Nat := 5
      let slot : Nat := 0
      let a := s.advance t
      a.up .aon = true ∧ a.log.openRec = some (slot, at_) ∧ at_ + sec ≤ a.now ∧ Tbl.get? a.log.slots slot = some r ∧ a.log.mirrorQ.length < 256)
    ∧ (let s : State := { State.reset with log := { Logbook.reset [] with openRec := some (0, 5) } }
      let t : Nat := 4 + sec
      let at_ : Nat := 5
      let slot : Nat := 0
      let a := s.advance t
      a.log.openRec = some (slot, at_) ∧ a.now < at_ + sec) := by
  refine ⟨?_, ?_, ?_, ?_, ?_, ?_, ?_, ?_, ?_, ?_⟩ <;> decide +kernel

theorem test_wit_LogReading :
    (let r : LogRec := { cycle := 0, count := 1, ev := ⟨0x1204, 3, 2, [1, 2]⟩, mirrored := false, satur := false, synth := false, rep := 0, damaged := false }
      let s : State := { State.reset with log := { Logbook.reset [] with slots := [(0, r)], mirrorQ := [r] } }
      let t : Nat := 5
      let rest : List LogRec := []
      let a := s.advance t
      a.up .aon = true ∧ a.up .security = true ∧ a.log.mirrorQ = r :: rest ∧ a.log.mirror.length < 1024 * a.log.ring)
    ∧ (let r : LogRec := { cycle := 0, count := 1, ev := ⟨0x1204, 3, 2, [1, 2]⟩, mirrored := false, satur := false, synth := false, rep := 0, damaged := false }
      let s : State := { State.reset with log := { Logbook.reset [] with slots := [(0, r)], mirrorQ := [r], spares := 0 } }
      let t : Nat := 5
      let rest : List LogRec := []
      let a := s.advance t
      a.up .aon = true ∧ a.up .security = true ∧ a.log.mirrorQ = r :: rest ∧ a.log.spares = 0 ∧ 2 ≤ a.log.ring ∧ a.log.mirror = [])
    ∧ (let s : State := State.reset
      let t : Nat := 5
      let ok : Bool := true
      let a := s.advance t
      (a.up .security = false ∨ a.log.mirrorQ = []))
    ∧ (let s : State := State.reset
      let t : Nat := 0
      let q : Int := 0
      let a := s.advance t
      a.markSecond = some q ∧ a.log.lastMark ≠ some q)
    ∧ (let s : State := State.reset
      let t : Nat := sec
      let a := s.advance t
      (a.markSecond = none ∨ a.log.lastMark = a.markSecond))
    ∧ (let s : State := Wit.calm
      let t : Nat := 0
      let i : Nat := 5
      let req : Nat := 10
      let v : Bytes := zeros 8 ++ [20, 0, 0, 1]
      let a := s.advance t
      let f : InFlight := ⟨req, 6, key 0x1410 0, 0⟩
      let rs := (a.log.sound (u v 11 1 = 1)).filter fun r => u v 0 8 ≤ r.seq && u v 10 1 ≤ r.ev.sev
      a.requests (.coil i req) 0x1410 v = true ∧ v.length = 12 ∧ u v 11 1 ≤ 1 ∧ 1 ≤ u v 8 2 ∧ u v 8 2 ≤ 20)
    ∧ (let s : State := Wit.calm
      let t : Nat := 0
      let i : Nat := 5
      let req : Nat := 10
      let v : Bytes := zeros 8 ++ [21, 0, 0, 1]
      let a := s.advance t
      let f : InFlight := ⟨req, 6, key 0x1410 0, 0⟩
      a.requests (.coil i req) 0x1410 v = true ∧ v.length = 12 ∧ (1 < u v 11 1 ∨ u v 8 2 = 0 ∨ 20 < u v 8 2))
    ∧ (let r : LogRec := { cycle := 0, count := 1, ev := ⟨0x1204, 3, 2, [1, 2]⟩, mirrored := false, satur := false, synth := false, rep := 0, damaged := false }
      let s : State := { Wit.calm with log := { Logbook.reset [] with slots := [(0, { r with count := 7 }), (4, r)] } }
      let t : Nat := 0
      let h : Nat := 8
      let seq : Nat := 1
      let slot : Nat := 4
      let a := s.advance t
      a.hartRuns h = true ∧ a.up .aon = true ∧ Tbl.get? a.log.slots slot = some r ∧ r.damaged = false ∧ seq ≤ r.seq ∧ ((∀ e ∈ a.log.slots, e.1 = slot ∨ e.2.seq < seq ∨ r.seq < e.2.seq)))
    ∧ (let s : State := Wit.calm
      let t : Nat := 0
      let h : Nat := 15
      let seq : Nat := 0
      let a := s.advance t
      a.hartRuns h = true ∧ a.up .aon = true ∧ ((∀ e ∈ a.log.slots, e.2.damaged = true ∨ e.2.seq < seq)))
    ∧ (let s : State := Wit.calm
      let t : Nat := 0
      let h : Nat := 15
      let word : Nat := 0x8001 + 2 * 2 ^ 16 + 3 * 2 ^ 24
      let stage : Bytes := [1, 2, 3, 4]
      let a := s.advance t
      let e : LogEv := { code := bits word 0 16, sev := bits word 16 3, island := 2, params := fit (bits word 24 6) stage }
      a.hartRuns h = true ∧ a.up .aon = true ∧ emitOk word = true ∧ a.cfg 0x1408 0 ≤ e.sev)
    ∧ (let s : State := Wit.calm
      let t : Nat := 0
      let h : Nat := 15
      let word : Nat := 0x7001 + 2 * 2 ^ 16 + 3 * 2 ^ 24
      let stage : Bytes := [1, 2, 3, 4]
      let a := s.advance t
      a.hartRuns h = true ∧ a.up .aon = true ∧ emitOk word = false) := by
  refine ⟨?_, ?_, ?_, ?_, ?_, ?_, ?_, ?_, ?_, ?_, ?_⟩ <;> decide +kernel

theorem test_wit_FrameCommands :
    (let s : State := Wit.calm
      let t : Nat := 0
      let c : Caller := .firmware
      let a := s.advance t
      a.writes c 0x3002 0 [1] = true)
    ∧ (let s : State := Wit.calm
      let t : Nat := 0
      let c : Caller := .firmware
      let a := s.advance t
      a.writes c 0x3600 0 [1] = true)
    ∧ (let s : State := Wit.calm
      let t : Nat := 0
      let c : Caller := .firmware
      let a := s.advance t
      a.writes c 0x4800 0 [1] = true)
    ∧ (let s : State := Wit.calm
      let t : Nat := 0
      let c : Caller := .firmware
      let a := s.advance t
      a.writes c 0x2440 0 [1] = true)
    ∧ (let s : State := Wit.calm
      let t : Nat := 0
      let c : Caller := .firmware
      let a := s.advance t
      a.writes c 0x2830 0 [1] = true)
    ∧ (let s : State := Wit.can (CanPort.reset 0)
      let t : Nat := 0
      let c : Caller := .firmware
      let n : Nat := 0
      let a := s.advance t
      a.writes c (0x2820 + n) 0 [1] = true ∧ n < 8)
    ∧ (let s : State := Wit.calm
      let t : Nat := 0
      let c : Caller := .firmware
      let a := s.advance t
      a.writes c 0x2C00 0 [1] = true)
    ∧ (let s : State := Wit.calm
      let t : Nat := 0
      let c : Caller := .firmware
      let a := s.advance t
      a.writes c 0x4000 0 [1] = true)
    ∧ (let s : State := Wit.calm
      let t : Nat := 0
      let c : Caller := .firmware
      let a := s.advance t
      a.writes c 0x4040 0 [1] = true)
    ∧ (let s : State := Wit.calm
      let t : Nat := 0
      let c : Caller := .firmware
      let n : Nat := 0
      let v : Nat := 0x00010003
      let a := s.advance t
      a.writes c 0x1330 (n + 1) (leBytes 4 v) = true)
    ∧ (let s : State := Wit.calm
      let t : Nat := 0
      let c : Caller := .firmware
      let a := s.advance t
      a.writes c 0x1332 0 [1] = true)
    ∧ (let s : State := Wit.going
      let t : Nat := 0
      let c : Caller := .firmware
      let b : Bytes := [3, 0, 5, 0, 1, 2, 3, 4]
      let a := s.advance t
      a.writes c 0x4840 0 b = true)
    ∧ (let s : State := Wit.radio [(3, Wit.link .connected)]
      let t : Nat := 0
      let c : Caller := .firmware
      let n : Nat := 3
      let a := s.advance t
      a.writes c (0x7000 + n) 0x55 [1] = true)
    ∧ (let s : State := Wit.eth (Wit.linked 0 0) (Wit.linked 0 0) 0
      let t : Nat := 0
      let c : Caller := .firmware
      let n : Nat := 0
      let b : Bytes := [0, 0, 0, 0x20, 0x5F, 0, 0, 0x18]
      let a := s.advance t
      a.writes c 0x2400 (n + 1) b = true)
    ∧ (let s : State := Wit.calm
      let t : Nat := 0
      let c : Caller := .firmware
      let n : Nat := 0
      let a := s.advance t
      a.writes c 0x1301 0 ([4, 8] ++ leBytes 2 n) = true) := by
  refine ⟨?_, ?_, ?_, ?_, ?_, ?_, ?_, ?_, ?_, ?_, ?_, ?_, ?_, ?_, ?_⟩ <;> decide +kernel

theorem test_wit_GnssConformanceComplete :
    (let s : State := Wit.tracked Wit.chan
      let t : Nat := 0
      let firsts : List Nat := []
      let meas : List ChanMeas := []
      let a := s.advance t
      a.epochDue = true ∧ a.track.mode ≠ 1)
    ∧ (let s : State := Wit.calm
      let t : Nat := 0
      let m : NavUnit := ⟨0, 0, 5, 1, true, false, [true, false, true]⟩
      let q : NavNews := ⟨some (1, 2, 3), some 7⟩
      let a := s.advance t
      a.up .tracking = true ∧ a.track.mode ≠ 1)
    ∧ (let s : State := Wit.tracked Wit.chan
      let t : Nat := 0
      let ch : Nat := 3
      let o : LockObs := ⟨0, 0, 0, [], false, false, false⟩
      let a := s.advance t
      a.up .tracking = true ∧ a.feeds (ch / 288) = true)
    ∧ (let s : State := Wit.tracked { Wit.chan with st := .pullIn }
      let t : Nat := 0
      let ch : Nat := 3
      let c : Chan := { Wit.chan with st := .pullIn }
      let a := s.advance t
      a.up .tracking = true ∧ a.chan? ch = some c ∧ c.st = .pullIn ∧ c.since + 500 * ms ≤ a.now)
    ∧ (let s : State := Wit.tracked { Wit.chan with st := .coast }
      let t : Nat := 0
      let ch : Nat := 3
      let c : Chan := { Wit.chan with st := .coast }
      let a := s.advance t
      a.up .tracking = true ∧ a.chan? ch = some c ∧ c.st = .coast ∧ c.since + sec ≤ a.now)
    ∧ (let s : State := let w := Wit.tracked Wit.chan; { w with track := { w.track with watch := [(0, (0, 0))] } }
      let t : Nat := 0
      let ch : Nat := 0
      let power : Nat := 400
      let x : Sig := ⟨0, 5, 1⟩
      let offs : List Int := (((Wit.tracked Wit.chan).watchOf 0).getD default).2
      let k : Nat := 0
      let at_ : Nat := 0
      let a := s.advance t
      a.up .tracking = true ∧ a.watchOf ch = some (x, offs) ∧ offs ≠ [] ∧ Tbl.get? a.track.watch ch = some (k, at_) ∧ at_ + 100 * ms ≤ a.now)
    ∧ (let s : State := { State.reset with track := { Tracking.reset with peaks := [(⟨0, 5, 1⟩, 0)] } }
      let t : Nat := 10 * sec
      let y : Nat := 0
      let z : Nat := 5
      let x : Nat := 1
      let at_ : Nat := 0
      let a := s.advance t
      at_ + 10 * sec ≤ a.now)
    ∧ (let s : State := Wit.tracked Wit.chan
      let t : Nat := 0
      let g : Nat := 0
      let counter : Nat := 0
      let edges : List GsEdge := [⟨true, 0x02#4⟩, ⟨true, 0x0F#4⟩, ⟨true, 0x00#4⟩]
      let a := s.advance t
      let n := gsCount (a.gsVal g) edges
      s.sized ∧ g < 4 ∧ a.up .tracking = true)
    ∧ (let s : State := { State.reset with track := { Tracking.reset with ports := { GsPort.reset with jam := true, quietAt := some 0 } :: List.replicate 3 GsPort.reset } }
      let t : Nat := 10 * sec
      let g : Nat := 0
      let q : Nat := 0
      let a := s.advance t
      s.sized ∧ g < 4 ∧ (a.port g).quietAt = some q ∧ q + 10 * sec ≤ a.now)
    ∧ (let s : State := Wit.tracked Wit.chan
      let t : Nat := 0
      let g : Nat := 0
      let a := s.advance t
      s.sized ∧ g < 4 ∧ a.up .tracking = true ∧ (a.port g).clock = true)
    ∧ (let s : State := Wit.calm
      let t : Nat := 0
      let g : Nat := 3
      let a := s.advance t
      s.sized ∧ g < 4 ∧ a.up .tracking = true ∧ (a.port g).clock = false)
    ∧ (let s : State := Wit.tracked Wit.chan
      let t : Nat := 0
      let g : Nat := 0
      let a := s.advance t
      s.sized ∧ g < 4 ∧ a.up .tracking = true ∧ a.feeds g = true)
    ∧ (let s : State := Wit.calm
      let t : Nat := 0
      let c : Caller := .firmware
      let a := s.advance t
      a.writes c 0x3002 0 [1] = true ∧ a.groupCheck 0x3002 = none)
    ∧ (let s : State := Wit.calm.setVal (key 0x3601 1) (leInt 8 63781370000)
      let t : Nat := 0
      let c : Caller := .firmware
      let a := s.advance t
      a.writes c 0x3600 0 [1] = true ∧ a.groupCheck 0x3600 = none)
    ∧ (let s : State := Wit.tracked Wit.chan
      let t : Nat := 0
      let c : Caller := .firmware
      let a := s.advance t
      a.writes c 0x3000 0 [1] = true ∧ a.stoppedAll = true)
    ∧ (let s : State := { State.reset with track := { Tracking.reset with mode := 1 } }
      let t : Nat := 0
      let c : Caller := .firmware
      let a := s.advance t
      a.writes c 0x3000 0 [0] = true ∧ a.track.mode ≠ 0)
    ∧ (let s : State := State.reset
      let t : Nat := 0
      let pkt : Bytes := Wit.exposurePkt
      let a := s.advance t
      a.up .compute = true ∧ a.sService = true ∧ u pkt 8 2 % 1024 < a.tier ∧ a.gone .developer = false ∧ exposureOk (pkt.drop 16) = true ∧ (Tbl.getD a.dev.seqs (u pkt 8 2 % 1024) []).contains (u (pkt.drop 16) 4 2) = false ∧ a.dev.latents.length < a.latentMax)
    ∧ (let s : State := Wit.waiting none
      let sky : List SkySignal := Wit.sky 6
      let x : Latent := Wit.latent none
      let t : Nat := 0
      let i : Nat := 0
      let a := s.advance t
      let b := ({ a with dev := { a.dev with sky := sky } } : State)
      let e := b.expSearch x.data sky
      a.up .developer = true ∧ a.dev.latents.findIdx? (fun x => x.started.isNone) = some i ∧ a.dev.latents[i]? = some x ∧ a.holderIs x.slot x.machine = true ∧ a.time64 ≤ x.arrival + (a.cfg 0x3402 0 * ms : Nat) ∧ a.timed = true ∧ 5 ≤ a.freshSignals sky ∧ e.cost ≤ a.machineBudget ∧ (b.spend false e.cost).isSome = true)
    ∧ (let e : ExpSearch := Wit.search
      let s : State := Wit.waiting (some e)
      let t : Nat := 0
      let slot : Nat := 3
      let i : Nat := 0
      let sky : List SatEph := []
      let x : Latent := Wit.latent (some e)
      let a := s.advance t
      a.up .developer = true ∧ a.dev.latents.findIdx? (fun x => x.slot = slot) = some i ∧ a.dev.latents[i]? = some x ∧ x.started = some e)
    ∧ (let s : State := { Wit.tracked Wit.chan with dev := { State.reset.dev with searches := [OwnSearch.new 0 .warm [⟨0, 7, 1⟩] [] 0] } }
      let t : Nat := 0
      let i : Nat := 0
      let x : OwnSearch := OwnSearch.new 0 .warm [⟨0, 7, 1⟩] [] 0
      let a := s.advance t
      let cost := fun y : Sig => a.ownCost x.kind y.signal
      let q := takeCost cost a.ownBudget (if x.kind = .cold && x.sigs = [] then a.coldSigs x.antenna else x.sigs)
      a.up .developer = true ∧ a.track.mode ≠ 1 ∧ a.dev.searches.findIdx? (fun x => a.feeds x.group) = some i ∧ a.dev.searches[i]? = some x ∧ q.1 ≠ [] ∧ (a.spend true ((q.1.map cost).sum)).isSome = true)
    ∧ (let x : OwnSearch := { OwnSearch.new 0 .warm [⟨0, 7, 1⟩] [] 0 with sure := true }
      let s : State := { Wit.tracked Wit.chan with dev := { State.reset.dev with running := [x] } }
      let t : Nat := 0
      let cap : Snapshot := Wit.dark
      let sky : List SatEph := []
      let rest : List OwnSearch := []
      let a := s.advance t
      a.up .developer = true ∧ a.dev.running = x :: rest)
    ∧ (let s : State := Wit.tracked Wit.chan
      let t : Nat := 0
      let sky : List SkySignal := Wit.sky 3
      let a := s.advance t
      a.up .developer = true ∧ a.track.mode ≠ 1)
    ∧ (let s : State := { Wit.calm with track := { Tracking.reset with mode := 1 } }
      let t : Nat := 0
      let a := s.advance t
      let per : Int := (a.cfg 0x3410 0 * ms : Nat)
      a.up .developer = true ∧ a.track.mode = 1 ∧ a.dev.standby = none ∧ a.dev.period ≠ some (a.time64.fdiv per))
    ∧ (let x : StandbyExp := ⟨0, 10, 20, Wit.search, true⟩
      let s : State := { Wit.calm with dev := { State.reset.dev with standby := some x } }
      let t : Nat := 0
      let cap : Snapshot := Wit.dark
      let sky : List SatEph := []
      let a := s.advance t
      a.up .developer = true ∧ a.dev.standby = some x ∧ x.started = true)
    ∧ (let s : State := Wit.base 2
      let t : Nat := 0
      let nominal : Int := 1000000000
      let sky : List SatEph := []
      let a := s.advance t
      a.up .fixer = true ∧ a.up .tracking = true ∧ a.track.mode ≠ 1 ∧ a.track.nominal = some nominal ∧ a.base.epochs.head?.map BaseEp.nominal ≠ some nominal ∧ a.base.netEpoch ≠ some nominal ∧ a.base.survey = none)
    ∧ (let s : State := State.reset
      let t : Nat := 0
      let c : Caller := .firmware
      let a := s.advance t
      a.writes c 0x3620 0 [1] = true ∧ a.base.survey = none ∧ ((a.base.st ≠ 2 ∧ a.base.st ≠ 3) ∨ a.stoppedAll = true))
    ∧ (let s : State := { State.reset with base := { Base.reset with netAny := true, netAt := some 0, netSol := 3 } }
      let t : Nat := 0
      let c : Caller := .firmware
      let a := s.advance t
      a.writes c 0x3620 0 [2] = true ∧ a.base.survey = none ∧ ((a.base.st ≠ 2 ∧ a.base.st ≠ 3) ∨ a.stoppedAll = true) ∧ (a.netState = 2 ∨ a.netState = 3))
    ∧ (let s : State := { State.reset with base := { Base.reset with st := 1, survey := some (Survey.start true) } }
      let t : Nat := 0
      let c : Caller := .firmware
      let a := s.advance t
      a.writes c 0x3620 0 [0] = true ∧ a.base.survey.isSome = true)
    ∧ (let s : State := State.reset
      let t : Nat := 0
      let c : Caller := .firmware
      let req : Bytes := [0xD3, 0, 2, 0x3E, 0xD0, 1, 2, 3]
      let a := s.advance t
      a.requests c 0x3640 req = true)
    ∧ (let s : State := (Wit.base 2).setVal (key 0x3800 0) [1]
      let t : Nat := 0
      let pkt : Bytes := Wit.obsPkt
      let a := s.advance t
      a.up .compute = true ∧ a.obsCheck (u pkt 8 2 % 1024) (pkt.drop 16) = none)
    ∧ (let s : State := Wit.rover .waiting
      let t : Nat := 0
      let i : Nat := 0
      let x : RoverEpoch := Wit.epoch .waiting
      let a := s.advance t
      a.up .fixer = true ∧ a.rover.epochs.findIdx? (fun x => x.phase = .waiting) = some i ∧ a.rover.epochs[i]? = some x ∧ (if 49 ≤ u x.data 2 1 then 2 else 1) * 1000000000 ≤ (a.rover.budget.fill a.roverRate a.now).level ∧ a.rover.flying < a.roverFlights ∧ ((∀ y ∈ a.rover.epochs, y.slot = x.slot → y.phase ≠ .flying)) ∧ a.holderIs x.slot x.machine = true ∧ a.time64 ≤ x.arrival + (a.cfg 0x3803 0 * ms : Nat) ∧ a.hasBase (si x.data 8 8) = true)
    ∧ (let s : State := Wit.rover .flying
      let t : Nat := 0
      let slot : Nat := 3
      let i : Nat := 0
      let n : Nat := 1024
      let sky : List SatEph := []
      let x : RoverEpoch := Wit.epoch .flying
      let rest : List Nat := span 1025 63
      let a := s.advance t
      a.up .fixer = true ∧ a.rover.epochs.findIdx? (fun x => x.slot = slot && x.phase = .flying) = some i ∧ a.rover.epochs[i]? = some x ∧ a.rover.spares = n :: rest)
    ∧ (let s : State := State.reset
      let t : Nat := 0
      let slot : Nat := 5
      let c : Caller := .firmware
      let a := s.advance t
      slot < 1024 ∧ a.writes c (0x7000 + slot) 0x32 [1] = true)
    ∧ (let s : State := Wit.monitored [(4, .notice true), (3, .fix 900000000 0 0 100 100 0 0)]
      let t : Nat := 0
      let m : Nat := 3
      let i : Nat := 1
      let tf : Int := 900000000
      let e : Int := 0
      let n : Int := 0
      let ee : Int := 100
      let nn : Int := 100
      let en : Int := 0
      let status : Nat := 0
      let a := s.advance t
      a.up .comb = true ∧ a.conf.ops.findIdx? (fun y => y.1 = m) = some i ∧ a.conf.ops[i]? = some (m, .fix tf e n ee nn en status) ∧ a.monitored m = true)
    ∧ (let s : State := Wit.monitored [(3, .reported Wit.reported)]
      let t : Nat := 0
      let m : Nat := 3
      let i : Nat := 0
      let b : RepPos := Wit.reported
      let a := s.advance t
      a.up .comb = true ∧ a.conf.ops.findIdx? (fun y => y.1 = m) = some i ∧ a.conf.ops[i]? = some (m, .reported b) ∧ a.monitored m = true)
    ∧ (let s : State := Wit.monitored [(3, .developed 900000000 (63781370000, 5, 5) 10 1)]
      let t : Nat := 0
      let m : Nat := 3
      let i : Nat := 0
      let tf : Int := 900000000
      let pos : V3 := (63781370000, 5, 5)
      let sg : Nat := 10
      let st : Nat := 1
      let a := s.advance t
      a.up .comb = true ∧ a.conf.ops.findIdx? (fun y => y.1 = m) = some i ∧ a.conf.ops[i]? = some (m, .developed tf pos sg st) ∧ a.monitored m = true)
    ∧ (let s : State := Wit.monitored [(3, .notice false)]
      let t : Nat := 0
      let m : Nat := 3
      let i : Nat := 0
      let fixed : Bool := false
      let a := s.advance t
      a.up .comb = true ∧ a.conf.ops.findIdx? (fun y => y.1 = m) = some i ∧ a.conf.ops[i]? = some (m, .notice fixed) ∧ a.monitored m = true)
    ∧ (let x : ConfSlot := { ConfSlot.reset with since := some 0, ages := [some 1000000000, some 1000000000, some 1000000000] }
      let s : State := { Wit.calm with conf := { Conf.reset with slots := [(3, x)] } }
      let t : Nat := 0
      let m : Nat := 3
      let a := s.advance t
      a.up .comb = true ∧ a.conf.slots = [(m, x)] ∧ a.monitored m = true ∧ ((∀ k < 3, a.kindStale m k = false)))
    ∧ (let s : State := (Wit.base 2).setVal (key 0x480C 0) [0]
      let t : Nat := 0
      let a := s.advance t
      a.up .comb = true ∧ a.cfg 0x480C 0 ≤ a.quality ∧ a.base.st = 2 ∧ a.conf.rows.length = 10)
    ∧ (let s : State := Wit.calm
      let t : Nat := 0
      let c : Caller := .firmware
      let a := s.advance t
      a.writes c 0x4800 0 [1] = true ∧ a.groupCheck 0x4800 = none)
    ∧ (let s : State := Wit.calm
      let t : Nat := 0
      let c : Caller := .firmware
      let v : Bytes := Wit.swarm
      let a := s.advance t
      a.writes c 0x4821 0 v = true ∧ a.conf.swarm = none ∧ u v 0 1 ≤ 7 ∧ allZero (slice v 1 7) = true ∧ a.time64 + (200 * ms : Nat) ≤ si v 8 8 ∧ si v 8 8 ≤ a.time64 + (3600 * sec : Nat) ∧ si v 8 8 ≤ si v 16 8 ∧ si v 16 8 ≤ si v 8 8 + (600 * sec : Nat))
    ∧ (let s : State := Wit.swarmed false
      let t : Nat := 0
      let c : Caller := .firmware
      let v : Bytes := zeros 24
      let x : Swarm := ⟨2, 2000000000, 3000000000, false⟩
      let a := s.advance t
      a.writes c 0x4821 0 (byte 0xFF :: v.drop 1) = true ∧ allZero (slice v 1 7) = true ∧ a.conf.swarm = some x ∧ a.time64 < x.instant)
    ∧ (let s : State := Wit.swarmed false
      let t : Nat := 2000000000
      let w : Swarm := ⟨2, 2000000000, 3000000000, false⟩
      let a := s.advance t
      a.up .comb = true ∧ a.conf.swarm = some w ∧ w.applied = false ∧ w.instant ≤ a.time64 ∧ w.mode < 256)
    ∧ (let s : State := Wit.swarmed true
      let t : Nat := 3000000000
      let w : Swarm := ⟨2, 2000000000, 3000000000, true⟩
      let a := s.advance t
      a.up .comb = true ∧ a.conf.swarm = some w ∧ w.applied = true ∧ w.deadline ≤ a.time64) := by
  refine ⟨?_, ?_, ?_, ?_, ?_, ?_, ?_, ?_, ?_, ?_, ?_, ?_, ?_, ?_, ?_, ?_, ?_, ?_, ?_, ?_, ?_, ?_, ?_, ?_, ?_, ?_, ?_, ?_, ?_, ?_, ?_, ?_, ?_, ?_, ?_, ?_, ?_, ?_, ?_, ?_, ?_, ?_, ?_, ?_⟩ <;> decide +kernel

/-- The tag of a seal has its length. -/
theorem fit_len (n : Nat) (b : Bytes) : (fit n b).length = n := by simp [fit, zeros]; omega

/-- A sealed empty text is its 32 bytes long. -/
theorem seal_empty_length (k : Bytes) : (sealBlob 1 k (zeros 12) []).length = 32 := by
  simp [sealBlob, gcmSeal, xorBytes, fit_len, zeros]

/-- A sealed empty text unseals under its key. -/
theorem unseal_seal_empty (k : Bytes) : unsealBlob 1 k (sealBlob 1 k (zeros 12) []) = some [] := by
  have h := fit_len 16 (Config.gcmTag k (zeros 12) ([1, byte 1, 0, 0] ++ zeros 12) [])
  simp only [unsealBlob, seal_empty_length]
  simp [sealBlob, gcmSeal, gcmOpen, xorBytes, zeros, slice, List.replicate] at h ⊢
  simp [h]

/-- A request is judged by its length alone. -/
theorem requests_of_length (s : State) (c : Caller) (i : Nat) (q r : Bytes) (h : q.length = r.length) : s.requests c i q = s.requests c i r := by
  unfold State.requests; rw [h]

/-- KeyringLifecycle, the clauses of unseal and forward. -/
theorem test_wit_KeyringLifecycle_unseal :
    ∃ (s : State) (h r : Nat) (req p : Bytes), let a := s.advance 0
      let q := byte 2 :: req.drop 1
      a.requests (.applet h r) 0x1114 q = true ∧ u q 1 1 = 1 ∧ u q 2 2 = 0 ∧ 4 ≤ q.length ∧ a.keys.scrapped = false
        ∧ unsealBlob 1 (sealKey 1 a.boot.m2) (q.drop 4) = some p :=
  let s := Wit.calm.setVal (key 0x5013 0) [3]
  ⟨s, 8, 9, [2, 1, 0, 0] ++ sealBlob 1 (sealKey 1 (s.advance 0).boot.m2) (zeros 12) [], [],
    (requests_of_length _ _ _ _ ([2, 1, 0, 0] ++ zeros 32) (by simp only [List.drop, List.length_cons, List.length_append, List.cons_append, seal_empty_length]; rfl)).trans (by decide +kernel),
    by simp [u, slice, leNat], by simp [u, slice, leNat], by simp, by decide +kernel, unseal_seal_empty _⟩

theorem test_wit_KeyringLifecycle_forward :
    ∃ (s : State) (h r : Nat) (req p m : Bytes), let a := s.advance 0
      let q := byte 3 :: req.drop 1
      a.requests (.applet h r) 0x1114 q = true ∧ u q 1 1 = 1 ∧ u q 2 2 = 0 ∧ 4 ≤ q.length ∧ a.keys.scrapped = false ∧ a.stagedMeasure 1 = some m
        ∧ unsealBlob 1 (sealKey 1 a.boot.m2) (q.drop 4) = some p :=
  let s0 := Wit.calm.setVal (key 0x5013 0) [3]
  let s : State := { s0 with boot := { s0.boot with staged := some 1, imgs := modNth s0.boot.imgs 1 fun x => { x with appHdr := [1] } } }
  ⟨s, 8, 9, [3, 1, 0, 0] ++ sealBlob 1 (sealKey 1 (s.advance 0).boot.m2) (zeros 12) [], [], _,
    (requests_of_length _ _ _ _ ([3, 1, 0, 0] ++ zeros 32) (by simp only [List.drop, List.length_cons, List.length_append, List.cons_append, seal_empty_length]; rfl)).trans (by decide +kernel),
    by simp [u, slice, leNat], by simp [u, slice, leNat], by simp, by decide +kernel,
    (Option.some_get (x := (s.advance 0).stagedMeasure 1) (by decide +kernel)).symm, unseal_seal_empty _⟩

/-- ResetsLatchAll, its first clause, at power-on; LatchesOnlyReleased and the two of every step, at commands of their own. -/
theorem test_wit_ResetsLatchAll_any :
    ∃ (s w : State) (c : Instr) (x : Asserted), exec c s = .next w ∧ x ∈ w.resets.asserted ∧ x ∉ s.resets.asserted ∧ x.reach ≤ 2 :=
  ⟨State.reset, _, .por ⟨3, .none⟩, ⟨0, 0, 0xFF⟩, rfl, by decide +kernel, by decide +kernel, by decide⟩

theorem test_wit_LatchesOnlyReleased :
    ∃ (s u : State) (c : Instr) (rest : List Instr), s.pending = c :: rest ∧ mayClearLatch c = false ∧ step s = .next u
      ∧ bit (s.stop.b.bits .all) 11 = true :=
  ⟨{ State.reset with pending := [.globalWatchdogService 3] }, _, _, [], rfl, rfl, rfl, by decide +kernel⟩

theorem test_wit_StepKeepsSized : ∃ s u : State, s.sized ∧ step s = .next u := ⟨State.reset, _, by decide +kernel, rfl⟩

theorem test_wit_StepKeepsCanonical : ∃ s u : State, s.canonical ∧ step s = .next u := ⟨State.reset, _, by decide +kernel, rfl⟩

/-- The fields of an ACCEPT of neighbour 6: session 9, slot 4, privilege 2. -/
def Wit.acceptHead : Bytes := [1, 2, 0, 0, 9, 0, 0, 0] ++ zeros 8 ++ [4, 0, 2, 0, 6, 0, 0, 0] ++ zeros 32

theorem accept_low (t : Bytes) : u (Wit.acceptHead ++ t) 0 1 = 1 ∧ u (Wit.acceptHead ++ t) 1 1 = 2 ∧ u (Wit.acceptHead ++ t) 2 2 = 0
    ∧ u (Wit.acceptHead ++ t) 8 8 = 0 ∧ u (Wit.acceptHead ++ t) 4 4 = 9 :=
  ⟨rfl, rfl, rfl, rfl, rfl⟩

theorem accept_high (t : Bytes) : u (Wit.acceptHead ++ t) 16 2 = 4 ∧ u (Wit.acceptHead ++ t) 18 1 = 2 ∧ u (Wit.acceptHead ++ t) 19 1 = 0
    ∧ u (Wit.acceptHead ++ t) 20 2 = 6 ∧ u (Wit.acceptHead ++ t) 22 2 = 0 :=
  ⟨rfl, rfl, rfl, rfl, rfl⟩

theorem accept_parts (t : Bytes) (h : t.length = 16) : (Wit.acceptHead ++ t).length = 72 ∧ slice (Wit.acceptHead ++ t) 24 32 = zeros 32
    ∧ (Wit.acceptHead ++ t).take 56 = Wit.acceptHead ∧ slice (Wit.acceptHead ++ t) 56 16 = t := by
  have h56 : Wit.acceptHead.length = 56 := rfl
  refine ⟨by rw [List.length_append, h, h56], rfl, rfl, ?_⟩
  rw [slice, ← h56, List.drop_left, ← h, List.take_length]

/-- A device that has asked its neighbour for a session. -/
def Wit.asked : State :=
  { Wit.joined with comb := { Wit.joined.comb with nbrs := { Neighbour.reset with nonce := zeros 32 } :: List.replicate 11 Neighbour.reset } }

/-- RegionMessages, the clause of a neighbour's ACCEPT: its confirmation is the tag that the keys give. -/
theorem test_wit_RegionMessages_accept :
    ∃ (s : State) (n : Nat) (raw : Bytes), let a := s.advance 0
      let slot := u (a.nbrEntry n) 2 2
      let d := coilKeys (a.keySlot slot).material (a.nbr n).nonce (slice raw 24 32) (u raw 4 4) slot (u raw 18 1)
      s.sized ∧ n < 12 ∧ (a.nbr n).nonce ≠ [] ∧ a.nbrPresent n = true ∧ (a.keyFor slot 1).isSome = true ∧ a.up .security = true ∧ a.up .network = true ∧ a.up .compute = true ∧
      a.boot.boant = false ∧ u raw 0 1 = 1 ∧ openHeader raw 2 = true ∧ raw.length = 72 ∧ u raw 4 4 ≠ 0 ∧ u raw 16 2 = slot ∧ u raw 18 1 ≤ 2 ∧
      u raw 19 1 = 0 ∧ u raw 20 2 = a.nbrId n ∧ u raw 22 2 = 0 ∧ slice raw 56 16 = acceptConfirm d (raw.take 56) := by
  generalize hd : coilKeys ((Wit.asked.advance 0).keySlot (u ((Wit.asked.advance 0).nbrEntry 0) 2 2)).material
    ((Wit.asked.advance 0).nbr 0).nonce (zeros 32) 9 (u ((Wit.asked.advance 0).nbrEntry 0) 2 2) 2 = d
  have hl : (acceptConfirm d Wit.acceptHead).length = 16 := fit_len _ _
  obtain ⟨b0, b1, b2, b8, b4⟩ := accept_low (acceptConfirm d Wit.acceptHead)
  obtain ⟨b16, b18, b19, b20, b22⟩ := accept_high (acceptConfirm d Wit.acceptHead)
  obtain ⟨n72, n24, n56, nt⟩ := accept_parts _ hl
  refine ⟨Wit.asked, 0, Wit.acceptHead ++ acceptConfirm d Wit.acceptHead, by decide +kernel, by decide, by decide +kernel, by decide +kernel, by decide +kernel, by decide +kernel,
    by decide +kernel, by decide +kernel, by decide +kernel, b0, by rw [openHeader, b1, b2, b8]; rfl, n72, by rw [b4]; decide, ?_, le_of_eq b18,
    b19, ?_, b22, ?_⟩
  · rw [b16]; decide +kernel
  · rw [b20]; decide +kernel
  · rw [n24, b4, b18, n56, nt, ← hd]

end Tests
end

section
/-!
SUPPORT. Accesses under R112: a write that passes every check is stored, and one that a check refuses moves nothing but generations and
responses, of which a session is sent the refusal (R143).
-/

namespace Sys2Proof.Machine

/-! ### Records of a session -/

/-- A WRITE record that fits a datagram is a write of its whole value. -/
theorem State.record_write (s : State) (i r idx sub : Nat) {v : Bytes} (hv : v.length ≤ readMax) :
    s.record (.coil i r) { opcode := 2, flags := 0, req := r, idx := idx, sub := sub, res := 0, offset := 0, param := 0, data := v }
      = s.writeBy (.coil i r) idx sub v := by
  unfold State.record
  rw [if_neg]
  · rfl
  · simp [Rec.malformed, Nat.not_lt.mpr hv]

/-- A COMMIT record with param 0x01 is always well-formed. -/
theorem State.record_commit (s : State) (i r idx sub : Nat) :
    s.record (.coil i r) { opcode := 5, flags := 0, req := r, idx := idx, sub := sub, res := 0, offset := 0, param := 1, data := [] }
      = s.access (.coil i r) 5 (key idx sub) 0 fun s => s.commitRec (.coil i r) idx sub 1 := by
  unfold State.record
  rw [if_neg]
  · rfl
  · simp [Rec.malformed]

/-! ### Writes that pass the checks -/

/-- Checks 2 to 6 let through what has a row alone. -/
theorem State.front_row {s : State} {c : Caller} {op : Op} {idx sub : Nat} {r : ObjRow} (h : s.front c op idx sub = .ok r) :
    s.rowAt idx sub = some r := by
  unfold State.front at h
  split at h
  · cases h
  · rename_i r' hr
    simp only [] at h
    repeat' split at h
    all_goals cases h
    exact hr

theorem State.opens_admits {s : State} {c : Caller} {op : Op} {opcode idx sub : Nat} (h : s.opens c op opcode idx sub = true) :
    s.admits c opcode (key idx sub) 0 = true := by
  rw [State.opens, Bool.and_eq_true] at h
  exact h.1

/-- An access that passes checks 1 to 6 with its gasket open has a row. -/
theorem State.opens_front {s : State} {c : Caller} {op : Op} {opcode idx sub : Nat} (h : s.opens c op opcode idx sub = true) :
    ∃ r, s.front c op idx sub = .ok r ∧ s.gasketOf r = none := by
  rw [State.opens, Bool.and_eq_true] at h
  obtain ⟨-, h⟩ := h
  cases hf : s.front c op idx sub with
  | error a => rw [hf] at h; cases h
  | ok r => rw [hf] at h; exact ⟨r, rfl, Option.isNone_iff_eq_none.mp h⟩

/-- A write outside the groups passes every check, where checks 7 and 8 pass its value and the settings can be written. -/
theorem State.writes_ungrouped {s : State} {c : Caller} {idx sub : Nat} {v : Bytes} (ho : s.opens c .write 2 idx sub = true)
    (hro : s.settings.readOnly = false) (hr : ∀ r, s.rowAt idx sub = some r →
      lengthCheck r v.length = none ∧ s.valueCheck r idx sub v = none ∧ r.heldGroup idx = none) : s.writes c idx sub v = true := by
  obtain ⟨r, hf, -⟩ := State.opens_front ho
  obtain ⟨hl, hv, hg⟩ := hr r (State.front_row hf)
  simp [State.writes, ho, hf, hl, hv, hg, hro]

/-- What the block of a stored object does as its value is stored moves no stored value. -/
theorem State.storedAt_only (s : State) (idx sub : Nat) (old v : Bytes) :
    Only [.clash, .health, .dict, .track, .stop, .radio, .tb, .net, .can, .log, .out] s (s.storedAt idx sub old v) := by
  intro p hp
  simp only [List.mem_cons, List.not_mem_nil, or_false, not_or] at hp
  obtain ⟨h0, h1, h2, h3, h4, h5, h6, h7, h8, h9, h10⟩ := hp
  exact (State.storedAt_same h0 h1 h2 h3 h4 h5 h6 h7 h8 h9 h10 s s idx sub old v).mpr (Part.same_refl _ _)

/-- Below 0x2000 a write that its block accepts stores its value, and no block's own effect moves it. -/
theorem State.val_applyWrite {s : State} {idx sub : Nat} {v : Bytes} (hi : idx < 0x2000) (hb : s.blockCheck idx sub v = none) :
    (s.applyWrite idx sub v).1.val (key idx sub) = v := by
  have e : (s.applyWrite idx sub v).1 = (s.setVal (key idx sub) v).storedAt idx sub (s.val (key idx sub)) v := by
    unfold State.applyWrite
    have h1 : idx ≠ 0x3000 := by omega
    have h2 : ¬ 0x2820 ≤ idx := by omega
    have h3 : ¬ 0x7000 ≤ idx := by omega
    have h4 : idx ≠ 0x2016 := by omega
    have h5 : idx ≠ 0x2017 := by omega
    have h6 : idx ≠ 0x2013 := by omega
    simp [h1, h2, h3, h4, h5, h6, hb]
  have ho := (s.setVal (key idx sub) v).storedAt_only idx sub (s.val (key idx sub)) v
  rw [e, State.val_congr (ho .settings (by decide)) (ho .fabric (by decide)), State.val_setVal]

/-- A write that passes every check is read back as it was written, where the object's block does not refuse it. -/
theorem State.run_write_val {s : State} {t : Nat} {c : Caller} {idx sub : Nat} {v : Bytes} (h : (s.advance t).writes c idx sub v = true)
    (hi : idx < 0x2000) (hk : ∀ r, findObj idx sub = some r → r.kind = 3) (hb : (s.advance t).blockCheck idx sub v = none) :
    (s.run t fun s => s.writeBy c idx sub v).val (key idx sub) = v := by
  obtain ⟨d, -, hu, -⟩ := State.run_stored h (.inl (by omega)) hk
  rw [State.val_congr (hu .settings (by decide)) (hu .fabric (by decide)), State.val_applyWrite hi (by rw [State.blockCheck_dict, hb])]

/-! ### Refusals -/

/-- A body answers `a` and does nothing, whatever the bookkeeping of sessions in `s`. -/
def State.Refuses (s : State) (body : State → State × Option Ans) (a : Ans) : Prop :=
  ∀ d : Dict, d.Alike s.dict → body (s.withDict d) = (s.withDict d, some a)

section
variable {s : State} {t opcode k off : Nat} {c : Caller} {a : Ans} {body : State → State × Option Ans}

/-- A refused access moves nothing but generations and responses. -/
theorem State.run_refused_only (h : (s.advance t).admits c opcode k off = true) (hb : (s.advance t).Refuses body a) :
    Only told (s.advance t) (s.run t fun s => s.access c opcode k off body) := by
  obtain ⟨d, hd, e⟩ := State.access_runs h body
  refine Only.run (fun _ hp => hp) ?_
  rw [e, hb d hd]
  exact Only.answer? (fun _ hp => hp) (Only.withDict _ d (by decide))

/-- A session is sent the refusal of its new request, and keeps it. -/
theorem State.run_refused_answered {i r : Nat} (h : (s.advance t).admits (.coil i r) opcode k off = true)
    (hb : (s.advance t).Refuses body a) :
    (s.run t fun s => s.access (.coil i r) opcode k off body).answered i ⟨r, opcode, k, off⟩ a := by
  obtain ⟨x, hx, ho, hn⟩ := State.access_answers h (body := body) (a := a) fun d hd => by rw [hb d hd]; exact ⟨rfl, rfl⟩
  exact State.run_answered hx ho hn

end

section
variable {s : State} {c : Caller} {idx sub : Nat} {v : Bytes} {r : ObjRow} {a : Ans}

/-- Check 7 or 8 refuses a value: the write does nothing. -/
theorem State.writeOp_refuses (hf : s.front c .write idx sub = .ok r) (hv : orElse (lengthCheck r v.length) (s.valueCheck r idx sub v) = some a) :
    s.Refuses (fun s => s.writeOp c idx sub v) a := by
  intro d hd
  simp only [State.writeOp, State.front_dict hd, hf, State.valueCheck_dict, hv]

/-- Check 11 refuses a shadow set: the commit does nothing (R103). -/
theorem State.commitGroup_refuses (ha : s.groupCheck idx = some a) : s.Refuses (fun s => s.commitGroup idx c) a := by
  intro d _
  simp only [State.commitGroup, State.groupCheck_dict, ha]

/-- A COMMIT record that passes the checks before is refused by check 11. -/
theorem State.commitRec_refuses (hi : idx < 0x6000) (hf : s.front c .commit idx sub = .ok r) (hg : s.gasketOf r = none)
    (hh : s.heldByOther c idx = false) (hr : s.settings.readOnly = false) (ha : s.groupCheck idx = some a) :
    s.Refuses (fun s => s.commitRec c idx sub 1) a := by
  intro d hd
  have hg' : (s.withDict d).gasketOf r = none := hg
  simp only [State.commitRec, State.front_dict hd, hf, if_true, State.commitOp, State.holdOf_dict hd, hh, Bool.false_eq_true, if_false,
    State.withDict_settings, hr, Bool.false_and, hg', State.commitAt, not_applet (.inl hi)]
  exact State.commitGroup_refuses ha d hd

/-- A write to a commit object that passes the checks before and whose group check 11 refuses moves nothing but generations and
responses. -/
theorem State.run_commit_refused {t : Nat} (h : (s.advance t).writes c idx sub v = true) (hi : idx < 0x6000)
    (hk : ∀ r, findObj idx sub = some r → r.kind = 0) (ha : (s.advance t).groupCheck idx = some a) :
    Only told (s.advance t) (s.run t fun s => s.writeBy c idx sub v) := by
  obtain ⟨d, hd, -, hp⟩ := State.run_commit h (.inl hi) hk
  refine hp told (fun _ hq => hq) ?_
  have e : ((s.advance t).withDict d).commitGroup idx c = ((s.advance t).withDict d, some a) := State.commitGroup_refuses ha d hd
  rw [e]
  exact Only.withDict _ d (by decide)

end

end Sys2Proof.Machine
end

section
/-!
PROOF. Chapter 1: the cap profile (R36) and ControllerId (R34).
-/

namespace Sys2Proof.Machine

/-! ### The cap profile -/

/-- CapProfileActive reads as the cap in force. -/
theorem State.readVal_capActive (s : State) : s.readVal 0x1011 0 = [byte s.cap] := rfl

theorem Only.readVal_capActive {ps : List Part} {a b : State} (h : Only ps a b) (hc : Part.cap ∉ ps) : b.readVal 0x1011 0 = a.readVal 0x1011 0 := by
  have e : b.cap = a.cap := h .cap hc
  rw [State.readVal_capActive, State.readVal_capActive, e]

/-- Whether a profile lies beyond the part's fused tier, service or package (R36). -/
def Silicon.below (x : Silicon) (v : Nat) : Bool :=
  bit v 7 && (decide (x.tier < capTier v) || (capService v && !x.sService) || (capPackageA v && !x.packageA))

theorem State.capCheck_beyond {s : State} (h : s.silicon.below (s.cfg 0x1010 1) = true) : s.groupCheck 0x1010 = some (Ans.bad 0x05100001) := by
  show s.capCheck = _
  exact if_pos h

theorem capCommit_kind : ∀ r ∈ objTable, r.has 0x1010 0 = true → r.kind = 0 := by decide +kernel

/-- Settles O10: check 11 refuses the profile, as a COMMIT record and as a write of 1 to CapCommit alike. -/
theorem capBeyondSilicon : Obligations.CapBeyondSilicon := by
  unfold Obligations.CapBeyondSilicon
  constructor
  · intro s t sid req r a v beyond hadm hfront hgasket hheld hro hbeyond
    have hr : a.Refuses (fun s => s.commitRec (.coil sid req) 0x1010 0 1) (Ans.bad 0x05100001) :=
      State.commitRec_refuses (by decide) hfront hgasket hheld hro (State.capCheck_beyond hbeyond)
    refine ⟨_, rfl, ?_⟩
    simp only [State.record_commit]
    have ho := State.run_refused_only hadm hr
    exact ⟨State.run_refused_answered hadm hr, ho.readVal_capActive (by decide), ho⟩
  · intro s t c a v beyond hw hbeyond
    have ho := State.run_commit_refused hw (by decide) (fun _ => kind_of capCommit_kind) (State.capCheck_beyond hbeyond)
    exact ⟨_, rfl, ho.readVal_capActive (by decide), ho⟩

/-! ### ControllerId -/

/-- A value as long as a field is that field. -/
theorem u_whole {v : Bytes} {n : Nat} (h : v.length = n) : u v 0 n = leNat v := by
  unfold u slice
  rw [List.drop_zero, List.take_of_length_le h.le]

/-- What checks 7 to 9 see of the row of ControllerId: a U16 in no group, at most 16,383. -/
theorem controllerId_row : ∀ r ∈ objTable, r.has 0x1005 0 = true →
    r.ty = 3 ∧ r.max = 2 ∧ r.chk = .range 0 16383 ∧ r.heldGroup 0x1005 = none := by decide +kernel

theorem controllerId_kind : ∀ r ∈ objTable, r.has 0x1005 0 = true → r.kind = 3 := by decide +kernel

section
variable {s : State} {c : Caller} {v : Bytes} {r : ObjRow}

/-- Check 7 passes two bytes. -/
theorem controllerId_length (hr : findObj 0x1005 0 = some r) (hv : v.length = 2) : lengthCheck r v.length = none := by
  obtain ⟨hty, hmax, -, -⟩ := controllerId_row r (findObj_mem hr).1 (findObj_mem hr).2
  simp [lengthCheck, hty, hmax, hv]

/-- Check 8 on ControllerId is its upper bound (R34). -/
theorem State.valueCheck_controllerId (s : State) (hr : findObj 0x1005 0 = some r) (hv : v.length = 2) :
    s.valueCheck r 0x1005 0 v = if 16383 < u v 0 2 then some Ans.high else none := by
  obtain ⟨hty, -, hchk, -⟩ := controllerId_row r (findObj_mem hr).1 (findObj_mem hr).2
  have htype : typeOk 3 v = true := rfl
  have hnum : tyNum 3 v = (leNat v : Int) := rfl
  have hlow : ¬ (leNat v : Int) < 0 := by omega
  have hhigh : (16383 : Int) < (leNat v : Int) ↔ 16383 < leNat v := by omega
  simp [State.valueCheck, hty, hchk, htype, hnum, inRange, hlow, hhigh, u_whole hv]

/-- A value above the bound is refused with VALUE_HIGH by any path. -/
theorem State.writeOp_controllerId_high (ho : s.opens c .write 2 0x1005 0 = true) (hv : v.length = 2) (hu : 16383 < u v 0 2) :
    s.Refuses (fun s => s.writeOp c 0x1005 0 v) Ans.high := by
  obtain ⟨r, hf, -⟩ := State.opens_front ho
  have hr := State.row_device (State.front_row hf) (.inl (by decide))
  refine State.writeOp_refuses hf ?_
  rw [controllerId_length hr hv, State.valueCheck_controllerId s hr hv, if_pos hu]
  rfl

/-- A value within the bound passes every check while the settings can be written. -/
theorem State.writes_controllerId (ho : s.opens c .write 2 0x1005 0 = true) (hv : v.length = 2) (hu : u v 0 2 ≤ 16383)
    (hro : s.settings.readOnly = false) : s.writes c 0x1005 0 v = true := by
  refine State.writes_ungrouped ho hro fun r hr => ?_
  have hr := State.row_device hr (.inl (by decide))
  obtain ⟨-, -, -, hheld⟩ := controllerId_row r (findObj_mem hr).1 (findObj_mem hr).2
  exact ⟨controllerId_length hr hv, by rw [State.valueCheck_controllerId s hr hv, if_neg hu.not_gt], hheld⟩

end

/-- Settles O9: check 8 refuses what lies above the bound; what lies within passes every check and is stored by its block. -/
theorem controllerIdRange : Obligations.ControllerIdRange := by
  unfold Obligations.ControllerIdRange
  refine ⟨?_, ?_, ?_⟩
  · intro s t sid req v a ho hv hu
    have hadm := State.opens_admits ho
    have hr := State.writeOp_controllerId_high ho hv hu
    refine ⟨_, rfl, ?_⟩
    simp only [State.record_write _ _ _ _ _ (v := v) (by rw [hv]; decide)]
    exact ⟨State.run_refused_answered hadm hr, State.run_refused_only hadm hr⟩
  · intro s t c v a ho hv hu
    exact ⟨_, rfl, State.run_refused_only (State.opens_admits ho) (State.writeOp_controllerId_high ho hv hu)⟩
  · intro s t c v a ho hv hu hro
    have hw := State.writes_controllerId ho hv hu hro
    refine ⟨_, rfl, ?_⟩
    show leNat _ = _
    rw [State.run_write_val hw (by decide) (fun _ => kind_of controllerId_kind) rfl, u_whole hv]

end Sys2Proof.Machine
end

section
/-!
SUPPORT. Check 10 of R112: what is refused while the settings bank is read-only (R96).
-/

namespace Sys2Proof.Machine

/-! ### Block refusals do not look at the bookkeeping of sessions -/

section
variable {s : State} {c : Caller} {idx sub : Nat} {v : Bytes} {r : ObjRow}

/-- TrackMode: entering standby. -/
theorem State.standbyEnter_answer_dict (s : State) (d : Dict) : (s.withDict d).standbyEnter.2 = s.standbyEnter.2 := by
  have hstop : (s.withDict d).stoppedAll = s.stoppedAll := rfl
  unfold State.standbyEnter
  rw [hstop]
  split <;> rfl

/-- TrackMode: leaving standby, which nothing refuses. -/
theorem State.standbyExit_answer (s : State) : s.standbyExit.2 = some (Ans.done []) := by
  unfold State.standbyExit
  split <;> rfl

/-- CanSleep: a request to sleep. -/
theorem State.canSleepReq_answer_dict (s : State) (d : Dict) (n : Nat) : ((s.withDict d).canSleepReq n).2 = (s.canSleepReq n).2 := by
  have hcan : (s.withDict d).canVal n = s.canVal n := rfl
  unfold State.canSleepReq
  rw [hcan]
  split <;> rfl

/-- CanSleep: a request to wake, which nothing refuses. -/
theorem State.canWakeReq_answer (s : State) (n : Nat) : (s.canWakeReq n).2 = some (Ans.done []) := by
  unfold State.canWakeReq
  split <;> rfl

/-- MachineId. -/
theorem State.machineWrite_answer_dict (s : State) (d : Dict) (m id : Nat) :
    ((s.withDict d).machineWrite m id).2 = (s.machineWrite m id).2 := by
  have htier : (s.withDict d).tier = s.tier := rfl
  have hid (j : Nat) : (s.withDict d).machineId j = s.machineId j := rfl
  unfold State.machineWrite
  simp only [htier, hid]
  split <;> rfl

/-- What the block of a stored object answers does not depend on the bookkeeping of sessions. -/
theorem State.applyWrite_answer_dict (s : State) (d : Dict) (idx sub : Nat) (v : Bytes) :
    ((s.withDict d).applyWrite idx sub v).2 = (s.applyWrite idx sub v).2 := by
  unfold State.applyWrite
  rw [State.blockCheck_dict]
  split
  · split
    · exact State.standbyEnter_answer_dict s d
    · rw [State.standbyExit_answer, State.standbyExit_answer]
  · split
    · split
      · exact State.canSleepReq_answer_dict s d _
      · rw [State.canWakeReq_answer, State.canWakeReq_answer]
    · split
      · exact State.machineWrite_answer_dict s d _ _
      · cases s.blockCheck idx sub v <;> rfl

/-- No command object of the device keeps a persistent value. -/
theorem persistent_kind : ∀ r ∈ objTable, r.isCommit = false → r.pers = true → r.kind ≠ 2 := by decide +kernel

/-- Of a shadow and of an applet's object every write is DONE. -/
theorem State.writeEffect_done (s : State) (hc : r.isCommit = false)
    (h : (r.commit ≠ 0 && r.acc = 4) = true ∨ (0x6000 ≤ idx ∧ idx < 0x7000)) :
    (s.writeEffect c r idx sub v).2 = some (Ans.done []) := by
  unfold State.writeEffect
  rw [if_neg (by rw [hc]; decide)]
  split
  · simp only []
    split <;> rfl
  · rename_i hs
    obtain ⟨h1, h2⟩ := h.resolve_left hs
    rw [if_pos (by simp [h1, h2])]
    rfl

/-- What the block of a persistent object answers does not depend on the bookkeeping of sessions. -/
theorem State.writeEffect_answer_dict (d : Dict) (hr : s.rowAt idx sub = some r) (hc : r.isCommit = false) (hp : r.pers = true) :
    ((s.withDict d).writeEffect c r idx sub v).2 = (s.writeEffect c r idx sub v).2 := by
  by_cases hdone : (r.commit ≠ 0 && r.acc = 4) = true ∨ (0x6000 ≤ idx ∧ idx < 0x7000)
  · rw [State.writeEffect_done _ hc hdone, State.writeEffect_done _ hc hdone]
  · obtain ⟨hshadow, happlet⟩ := not_or.mp hdone
    have hi : idx < 0x6000 ∨ 0x7000 ≤ idx := by omega
    have hk := persistent_kind r (findObj_mem (State.row_device hr hi)).1 hc hp
    have hstored : r.kind = 3 := by
      unfold ObjRow.kind at hk ⊢
      rw [if_neg (by rw [hc]; decide), if_neg hshadow] at hk ⊢
      split at hk
      · exact absurd rfl hk
      · rename_i hacc
        rw [if_neg hacc]
    rw [State.writeEffect_stored hstored hi, State.writeEffect_stored hstored hi, State.applyWrite_answer_dict]

/-- Whether check 8 finds a refusal at the block of a write that would store a persistent value does not depend on the bookkeeping of
sessions. -/
theorem State.blockRefuses_dict (d : Dict) (hr : s.rowAt idx sub = some r) (hs : s.storesPersistent r idx sub = true) :
    (s.withDict d).blockRefuses c r idx sub v = s.blockRefuses c r idx sub v := by
  unfold State.blockRefuses
  cases hc : r.isCommit with
  | true => simp only [Bool.not_true, Bool.false_and]
  | false =>
    have hp : r.pers = true := by simpa [State.storesPersistent, hc] using hs
    rw [State.writeEffect_answer_dict d hr hc hp]

/-! ### Check 10 -/

/-- A write that would store a persistent value and passes the checks before is refused while the bank is read-only (R96). -/
theorem State.writeOp_readOnly (hf : s.front c .write idx sub = .ok r) (hl : lengthCheck r v.length = none)
    (hv : s.valueCheck r idx sub v = none) (hb : s.blockRefuses c r idx sub v = false)
    (hh : ∀ g, r.heldGroup idx = some g → s.heldByOther c g = false) (hro : s.settings.readOnly = true)
    (hs : s.storesPersistent r idx sub = true) : s.Refuses (fun s => s.writeOp c idx sub v) Ans.readOnly := by
  intro d hd
  have hblock : (s.withDict d).blockRefuses c r idx sub v = false := by rw [State.blockRefuses_dict d (State.front_row hf) hs, hb]
  unfold State.blockRefuses at hblock
  have hheld (g : Nat) (hg : r.heldGroup idx = some g) : (s.withDict d).heldByOther c g = false := by rw [State.holdOf_dict hd, hh g hg]
  simp only [State.writeOp, State.front_dict hd, hf, State.valueCheck_dict, hl, hv, orElse, hblock, Bool.false_eq_true, if_false,
    State.withDict_settings, hro, State.storesPersistent_dict, hs, Bool.and_self, if_true]
  cases hg : r.heldGroup idx with
  | none => rfl
  | some g => simp only [hheld g hg, Bool.false_eq_true, if_false]

/-- A COMMIT record of a group with a persistent value that passes the checks before is refused while the bank is read-only (R96). -/
theorem State.commitRec_readOnly (hf : s.front c .commit idx sub = .ok r) (hh : s.heldByOther c idx = false)
    (hro : s.settings.readOnly = true) (hs : ((s.groupKeys idx).any fun m => s.persists m.1) = true) :
    s.Refuses (fun s => s.commitRec c idx sub 1) Ans.readOnly := by
  intro d hd
  have hs' : (((s.withDict d).groupKeys idx).any fun m => (s.withDict d).persists m.1) = true := hs
  simp only [State.commitRec, State.front_dict hd, hf, if_true, State.commitOp, State.holdOf_dict hd, hh, Bool.false_eq_true, if_false,
    State.withDict_settings, hro, Bool.true_and, hs']

end

end Sys2Proof.Machine
end

section
/-!
PROOF. Chapter 3: commits that fail validation (R103), and the read-only settings bank (R96).
-/

namespace Sys2Proof.Machine

/-- Where neither the settings nor the applet bundle may move, every stored value is as before. -/
theorem Only.val {ps : List Part} {a b : State} (h : Only ps a b) (hs : Part.settings ∉ ps) (hf : Part.fabric ∉ ps) (k : Nat) :
    b.val k = a.val k :=
  State.val_congr (h .settings hs) (h .fabric hf) k

theorem commitIndices_kind : ∀ c ∈ commitIndices, ∀ r ∈ objTable, r.has c 0 = true → r.kind = 0 := by decide +kernel

/-- Settles O11: check 11 refuses the shadow set before anything is copied, for a COMMIT record and for a write of 1 alike. -/
theorem refusedCommitKeeps : Obligations.RefusedCommitKeeps := by
  unfold Obligations.RefusedCommitKeeps
  constructor
  · intro s t sid req idx r x a hidx hadm hfront hgasket hheld hro hcheck
    have hr : a.Refuses (fun s => s.commitRec (.coil sid req) idx 0 1) x :=
      State.commitRec_refuses (commit_device idx hidx) hfront hgasket hheld hro hcheck
    refine ⟨_, rfl, ?_⟩
    simp only [State.record_commit]
    have ho := State.run_refused_only hadm hr
    exact ⟨State.run_refused_answered hadm hr, ho.val (by decide) (by decide), ho⟩
  · intro s t idx c x a hidx hw hcheck
    have ho := State.run_commit_refused hw (commit_device idx hidx) (fun _ => kind_of (commitIndices_kind idx hidx)) hcheck
    exact ⟨_, rfl, ho.val (by decide) (by decide), ho⟩

/-- Settles O12: check 10 comes before the block's effect, for a WRITE record and a COMMIT record alike. -/
theorem readOnlySettings : Obligations.ReadOnlySettings := by
  unfold Obligations.ReadOnlySettings
  constructor
  · intro s t sid req idx sub v r a hadm hfront hlen hval hblock hheld hsize hro hpers
    have hr := State.writeOp_readOnly hfront hlen hval hblock hheld hro hpers
    refine ⟨_, rfl, ?_⟩
    simp only [State.record_write _ _ _ _ _ hsize]
    exact ⟨State.run_refused_answered hadm hr, State.run_refused_only hadm hr⟩
  · intro s t sid req idx r a hadm hfront hheld hro hpers
    have hr := State.commitRec_readOnly hfront hheld hro hpers
    refine ⟨_, rfl, ?_⟩
    simp only [State.record_commit]
    exact ⟨State.run_refused_answered hadm hr, State.run_refused_only hadm hr⟩

end Sys2Proof.Machine
end

section
/-!
PROOF. Chapter 11: what every power-on, chip and system reset leaves. Source 11 stands in the all latch of both channels (R526), and no
session is open, so that nothing that follows in the same command can release it.
-/

namespace Sys2Proof.Machine

/-! ### Source 11 in the all latch -/

theorem bit_setBit (v i : Nat) : bit (setBit v i) i = true := by
  have h : Nat.testBit (v ||| 2 ^ i) i = true := by simp
  rw [Nat.testBit_eq_decide_div_mod_eq] at h
  exact h

/-- A source that a channel takes is in its latch. -/
theorem StopChan.bit_set_all (ch : StopChan) (src : Nat) : bit ((ch.set .all src).bits .all) src = true := by
  have h : (ch.set .all src).bits .all = setBit (ch.bits .all) src := by
    simp [StopChan.set, StopChan.put, StopChan.latched, StopChan.bits, StopChan.latches, StopLatches.put, StopLatches.bits]
  rw [h, bit_setBit]

/-- Both channels hold source 11 in the all latch, which a reset sets (R526). -/
def StopBath.resetLatched (b : StopBath) : Prop := bit (b.a.bits .all) 11 = true ∧ bit (b.b.bits .all) 11 = true

/-- What every part of a loop keeps, the loop keeps. -/
theorem State.foldl_iff {α : Type} {P : State → Prop} {f : State → α → State} (h : ∀ s x, P (f s x) ↔ P s) (l : List α) (s : State) :
    P (l.foldl f s) ↔ P s := by
  induction l generalizing s with
  | nil => rfl
  | cons x l ih => exact (ih _).trans (h s x)

theorem State.sendNotices_latched (s : State) (reason : Nat) : (s.sendNotices reason).stop.resetLatched ↔ s.stop.resetLatched := by
  unfold State.sendNotices
  simp only []
  split
  · rfl
  · refine State.foldl_iff (P := fun s => s.stop.resetLatched) (fun x n => ?_) _ _
    have h (y : State) (body : Bytes) : (y.toNbr n 0x4862 body).stop = y.stop :=
      (State.toNbr_same (pt := .stop) (by decide) (by decide) y y n _ body).mpr rfl
    rw [h]
    rfl

/-- A reset sets the all latch with source 11 in both channels, whatever they held (R526). -/
theorem State.resetLatch_latched (s : State) : s.resetLatch.stop.resetLatched := by
  have hset : bit ((s.stop.a.set .all 11).bits .all) 11 = true ∧ bit ((s.stop.b.set .all 11).bits .all) 11 = true :=
    ⟨StopChan.bit_set_all _ _, StopChan.bit_set_all _ _⟩
  have hcount (x : State) : (x.count 0x10 11 1).stop = x.stop := (State.count_same (pt := .stop) (by decide) x x _ _ _).mpr rfl
  unfold State.resetLatch
  simp only []
  split
  · exact hset
  · rw [State.sendNotices_latched, hcount]
    exact hset

/-! ### No session is open

A reset of system reach or wider ends every session (R129). What it clears afterwards only answers sessions that are still there. -/

/-- What leaves the dictionary service alone leaves its sessions. -/
theorem State.sessions_of_same {s u : State} (h : Part.dict.same s u) : u.dict.sessions = s.dict.sessions := congrArg Dict.sessions h

@[simp] theorem State.count_sessions (s : State) (source param n : Nat) : (s.count source param n).dict.sessions = s.dict.sessions :=
  State.sessions_of_same ((State.count_same (by decide) s s source param n).mpr (Part.same_refl _ _))

@[simp] theorem State.logEv_sessions (s : State) (ev : Ev) (params : Bytes) : (s.logEv ev params).dict.sessions = s.dict.sessions :=
  State.sessions_of_same ((State.logEv_same (by decide) s s ev params).mpr (Part.same_refl _ _))

@[simp] theorem State.setSession_noSessions (s : State) (i : Nat) (f : Session → Session) :
    (s.setSession i f).dict.sessions = [] ↔ s.dict.sessions = [] := List.map_eq_nil_iff

@[simp] theorem State.onSession_noSessions (s : State) (c : Caller) (f : Session → Session) :
    (s.onSession c f).dict.sessions = [] ↔ s.dict.sessions = [] := by
  cases c with
  | coil i r => exact State.setSession_noSessions s i f
  | usdo | applet | firmware => rfl

@[simp] theorem State.answer_noSessions (s : State) (c : Caller) (a : Ans) :
    (s.answer c a).dict.sessions = [] ↔ s.dict.sessions = [] := by
  cases c with
  | coil i r => exact State.setSession_noSessions s i _
  | usdo p n => simp only [State.answer]; split <;> rfl
  | applet | firmware => rfl

@[simp] theorem State.foldl_noSessions {α : Type} {f : State → α → State}
    (h : ∀ s x, (f s x).dict.sessions = [] ↔ s.dict.sessions = []) (l : List α) (s : State) :
    (l.foldl f s).dict.sessions = [] ↔ s.dict.sessions = [] :=
  State.foldl_iff (P := fun s => s.dict.sessions = []) h l s

@[simp] theorem State.toNbr_noSessions (s : State) (n index : Nat) (msg : Bytes) :
    (s.toNbr n index msg).dict.sessions = [] ↔ s.dict.sessions = [] := by
  unfold State.toNbr
  split
  · rfl
  · simp only []
    split
    · rfl
    · exact State.setSession_noSessions _ _ _

@[simp] theorem State.sendNotices_noSessions (s : State) (reason : Nat) :
    (s.sendNotices reason).dict.sessions = [] ↔ s.dict.sessions = [] := by
  unfold State.sendNotices
  simp only []
  split <;> simp

@[simp] theorem State.resetLatch_noSessions (s : State) : s.resetLatch.dict.sessions = [] ↔ s.dict.sessions = [] := by
  unfold State.resetLatch
  simp only []
  split <;> simp

@[simp] theorem State.endKeyWaits_noSessions (s : State) (p : Caller → Bool) (a : Ans) :
    (s.endKeyWaits p a).dict.sessions = [] ↔ s.dict.sessions = [] := by
  simp [State.endKeyWaits]

@[simp] theorem State.endEvents_noSessions (s : State) (p : Caller → Bool) (a : Ans) :
    (s.endEvents p a).dict.sessions = [] ↔ s.dict.sessions = [] := by
  simp [State.endEvents]

@[simp] theorem State.endMessagesOf_noSessions (s : State) (p : Caller → Bool) (a : Ans) :
    (s.endMessagesOf p a).dict.sessions = [] ↔ s.dict.sessions = [] := by
  simp [State.endMessagesOf]

@[simp] theorem State.endMessages_noSessions (s : State) (a : Ans) : (s.endMessages a).dict.sessions = [] ↔ s.dict.sessions = [] := by
  simp [State.endMessages]

@[simp] theorem State.endSend_noSessions (s : State) (n : Nat) (x : CanSend) (outcome : Nat) (stamp : Int × Nat) :
    (s.endSend n x outcome stamp).dict.sessions = [] ↔ s.dict.sessions = [] := by
  unfold State.endSend
  exact State.answer_noSessions _ _ _

@[simp] theorem State.endCancel_noSessions (s : State) (n : Nat) (x : CanSend) (outcome : Nat) :
    (s.endCancel n x outcome).dict.sessions = [] ↔ s.dict.sessions = [] := by
  unfold State.endCancel
  split <;> simp

@[simp] theorem State.endSendsOf_noSessions (s : State) (p : Caller → Bool) (outcome : Nat) :
    (s.endSendsOf p outcome).dict.sessions = [] ↔ s.dict.sessions = [] := by
  unfold State.endSendsOf
  simp

@[simp] theorem State.endSends_noSessions (s : State) (n outcome : Nat) :
    (s.endSends n outcome).dict.sessions = [] ↔ s.dict.sessions = [] := by
  unfold State.endSends
  simp

@[simp] theorem State.canReset_noSessions (s : State) : s.canReset.dict.sessions = [] ↔ s.dict.sessions = [] := by
  simp [State.canReset, State.canResetPort, State.setCan]

@[simp] theorem State.endLink_noSessions (s : State) (m cause : Nat) (reason : Option Nat) (a : Ans) :
    (s.endLink m cause reason a).dict.sessions = [] ↔ s.dict.sessions = [] := by
  have hmonitor (x : State) : (x.stopMonitor m).dict.sessions = x.dict.sessions :=
    State.sessions_of_same ((State.stopMonitor_same (by decide) x x m).mpr (Part.same_refl _ _))
  unfold State.endLink
  split
  · rfl
  · simp only []
    split <;> simp [hmonitor]

@[simp] theorem State.radioReset_noSessions (s : State) : s.radioReset.dict.sessions = [] ↔ s.dict.sessions = [] := by
  simp [State.radioReset]

/-! #### The Comb -/

@[simp] theorem State.combSettled_sessions (s : State) : s.combSettled.dict.sessions = s.dict.sessions :=
  State.sessions_of_same ((State.combSettled_same (by decide) (by decide) s s).mpr (Part.same_refl _ _))

@[simp] theorem State.noteLater_sessions (s : State) (seq : Nat) (old : List Entry) :
    (s.noteLater seq old).dict.sessions = s.dict.sessions :=
  State.sessions_of_same ((State.noteLater_same (by decide) s s seq old).mpr (Part.same_refl _ _))

@[simp] theorem State.combAnswer_noSessions (s : State) (c : Caller) (out : Nat) (resp : Bytes) :
    (s.combAnswer c out resp).dict.sessions = [] ↔ s.dict.sessions = [] := by
  cases c with
  | coil i r => exact State.answer_noSessions _ _ _
  | applet h r => simp only [State.combAnswer]; split <;> rfl
  | usdo | firmware => rfl

@[simp] theorem State.combDiscard_noSessions (s : State) (out : Nat) (r : CombReq) :
    (s.combDiscard out r).dict.sessions = [] ↔ s.dict.sessions = [] := State.combAnswer_noSessions _ _ _ _

@[simp] theorem State.exchangeDrop_noSessions (s : State) (f : Flight) (asked : List Asked) :
    (s.exchangeDrop f asked).dict.sessions = [] ↔ s.dict.sessions = [] := by
  simp [State.exchangeDrop, State.sendPhase]

@[simp] theorem State.combEndFlight_noSessions (s : State) (out : Nat) (f : Flight) :
    (s.combEndFlight out f).dict.sessions = [] ↔ s.dict.sessions = [] := by
  unfold State.combEndFlight
  simp only []
  split <;> simp

@[simp] theorem State.combEnd_noSessions (s : State) (p : Caller → Bool) (out : Nat) :
    (s.combEnd p out).dict.sessions = [] ↔ s.dict.sessions = [] := by
  simp [State.combEnd]

@[simp] theorem State.combReset_noSessions (s : State) : s.combReset.dict.sessions = [] ↔ s.dict.sessions = [] := by
  simp [State.combReset, State.combDiscardAll]

/-! #### Islands -/

@[simp] theorem State.endThrough_noSessions (s : State) (i : Island) (out : Nat) :
    (s.endThrough i out).dict.sessions = [] ↔ s.dict.sessions = [] := by
  simp [State.endThrough]

/-- A reset of the Compute island ends every session. -/
theorem State.clearCompute_noSessions (s : State) (wide : Bool) : (s.clearIsland .compute wide).dict.sessions = [] := rfl

/-- Clearing an island opens no session. -/
theorem State.clearIsland_noSessions (s : State) (i : Island) (wide : Bool) (h : s.dict.sessions = []) :
    (s.clearIsland i wide).dict.sessions = [] := by
  have hsame {x u : State} (hx : x.dict.sessions = []) (k : Part.dict.same x u) : u.dict.sessions = [] :=
    (State.sessions_of_same k).trans hx
  cases i with
  | compute => exact s.clearCompute_noSessions wide
  | aon | memory => exact h
  | security => exact (State.endKeyWaits_noSessions _ _ _).mpr h
  | radio => exact (State.radioReset_noSessions s).mpr h
  | fabric =>
    simp only [State.clearIsland, State.endThrough_noSessions]
    exact hsame h (by simp [State.fabricReset_same, Part.same_refl])
  | network =>
    simp only [State.clearIsland, State.endThrough_noSessions, State.canReset_noSessions]
    exact hsame h (by simp [State.netReset_same, Part.same_refl])
  | comb => exact hsame ((State.combReset_noSessions s).mpr h) (by simp [State.clearIsland, State.confReset_same, Part.same_refl])
  | fixer =>
    exact hsame h (by
      simp [State.clearIsland, State.setBase_same, State.roverResetAll_same, State.roverIslandReset_same, Part.same_refl])
  | developer => exact hsame h (by simp [State.clearIsland, State.devReset_same, State.devIslandReset_same, Part.same_refl])
  | tracking => exact hsame h (by simp [State.clearIsland, State.trackReset_same, Part.same_refl])
  | timebase => exact hsame h (by simp [State.clearIsland, State.timebaseReset_same, Part.same_refl])

@[simp] theorem State.endHoldsOf_noSessions (s : State) (i : Island) :
    (s.endHoldsOf i).dict.sessions = [] ↔ s.dict.sessions = [] := by
  have hshadow (x : State) (g : Nat) : (returnShadow x g).dict.sessions = x.dict.sessions :=
    State.sessions_of_same ((returnShadow_same (by decide) x x g).mpr (Part.same_refl _ _))
  simp [State.endHoldsOf, hshadow]

theorem State.enterReset_noSessions (s : State) (reach : Nat) (i : Island) (h : s.dict.sessions = []) :
    (s.enterReset reach i).dict.sessions = [] := by
  unfold State.enterReset
  simp only []
  split
  · exact h
  · exact State.clearIsland_noSessions _ _ _ ((State.endHoldsOf_noSessions s i).mpr h)

/-! ### Assertion -/

/-- What a reset of system reach or wider leaves: source 11 in the all latch of both channels (R526), and no session (R129). -/
def State.stoppedByReset (s : State) : Prop := s.stop.resetLatched ∧ s.dict.sessions = []

theorem State.replan_asserted (s : State) : s.replan.resets.asserted = s.resets.asserted := rfl

/-- An asserted source stands with those asserted before it. -/
theorem State.assertReset_asserted (s : State) (code reach island : Nat) :
    (s.assertReset code reach island).resets.asserted =
      (s.resets.asserted.filter fun y => y ≠ ⟨code, reach, island⟩) ++ [⟨code, reach, island⟩] := by
  let r := s.recordSource code reach island
  let x : State := { r with resets := { r.resets with asserted := (r.resets.asserted.filter fun y => y ≠ ⟨code, reach, island⟩) ++ [⟨code, reach, island⟩] } }
  unfold State.assertReset
  rw [State.replan_asserted]
  refine congrArg Resets.asserted (a₂ := x.resets) (?_ : Part.resets.same x _)
  have hkept (y : State) : Part.resets.same x (y.keepCounts s) ↔ Part.resets.same x y :=
    State.keepCounts_same (by decide) (by decide) (by decide) (by decide) (by decide) (by decide) (by decide) (by decide) (by decide)
      (by decide) x y s
  simp [State.clearIsland_same, State.swarmLost_same, State.sourcesGone_same, State.enterReset_same, State.zeroCounts_same,
    State.reviveAon_same, State.resetLatch_same, hkept]
  simp [x, r, Part.same]

theorem State.assertReset_noSessions (s : State) (code island : Nat) {reach : Nat} (hr : reach ≤ 2) :
    (s.assertReset code reach island).dict.sessions = [] := by
  have henter (l : List Island) (x : State) (hx : x.dict.sessions = []) :
      (l.foldl (fun s i => s.enterReset reach i) x).dict.sessions = [] := by
    induction l generalizing x with
    | nil => exact hx
    | cons i l ih => exact ih _ (State.enterReset_noSessions x reach i hx)
  have hgone (x : State) : x.sourcesGone.dict.sessions = x.dict.sessions :=
    State.sessions_of_same ((State.sourcesGone_same (by decide) (by decide) x x).mpr (Part.same_refl _ _))
  have hrevive (x : State) : x.reviveAon.dict.sessions = x.dict.sessions :=
    State.sessions_of_same ((State.reviveAon_same (by decide) (by decide) x x).mpr (Part.same_refl _ _))
  have hreplan (x : State) : x.replan.dict.sessions = x.dict.sessions := rfl
  have hzero (x : State) : x.zeroCounts.dict.sessions = x.dict.sessions := rfl
  have hkeep (x y : State) : (x.keepCounts y).dict.sessions = x.dict.sessions := rfl
  unfold State.assertReset
  simp only [hr, if_true, hreplan, State.resetLatch_noSessions]
  split
  · rw [hrevive, hzero]
    exact henter _ _ ((hgone _).trans (State.clearCompute_noSessions _ _))
  · rw [hkeep]
    exact henter _ _ ((hgone _).trans (State.clearCompute_noSessions _ _))

theorem State.assertReset_latched (s : State) (code island : Nat) {reach : Nat} (hr : reach ≤ 2) :
    (s.assertReset code reach island).stop.resetLatched := by
  unfold State.assertReset
  simp only [hr, if_true]
  exact State.resetLatch_latched _

end Sys2Proof.Machine
end

section
/-!
PROOF. Chapter 11: a command that asserts a source of power-on, chip or system reach leaves the all latch set with source 11 (R526).
-/

namespace Sys2Proof.Machine

/-- From `s` to `u` no source of system reach or wider came to be asserted, or `u` is as such a reset leaves it. -/
def State.Latches (s u : State) : Prop :=
  (∀ x ∈ u.resets.asserted, x.reach ≤ 2 → x ∈ s.resets.asserted) ∨ u.stoppedByReset

/-! ### Steps that assert nothing -/

theorem State.Latches.of_subset {s u : State} (h : ∀ x ∈ u.resets.asserted, x ∈ s.resets.asserted) : s.Latches u :=
  .inl fun x hx _ => h x hx

theorem State.Latches.of_asserted {s u : State} (h : u.resets.asserted = s.resets.asserted) : s.Latches u := .of_subset fun _ hx => h ▸ hx

theorem State.Latches.of_same {s u : State} (h : Part.resets.same s u) : s.Latches u := .of_asserted (congrArg Resets.asserted h)

theorem State.Latches.refl (s : State) : s.Latches s := .of_asserted rfl

/-- What went before asserted nothing. -/
theorem State.Latches.after {s t u : State} (h : ∀ x ∈ t.resets.asserted, x ∈ s.resets.asserted) (k : t.Latches u) : s.Latches u :=
  k.imp_left fun k x hx hr => h x (k x hx hr)

theorem State.Latches.after_same {s t u : State} (h : Part.resets.same s t) (k : t.Latches u) : s.Latches u :=
  k.after fun _ hx => congrArg Resets.asserted h ▸ hx

/-- An answer asserts nothing, moves no latch and opens no session. -/
theorem State.Latches.answer? {s : State} {r : State × Option Ans} (h : s.Latches r.1) (c : Caller) : s.Latches (State.answer? r c) := by
  refine h.imp (fun h x hx => h x (State.answer?_resets r c ▸ hx)) fun ⟨hlatch, hsess⟩ => ⟨?_, ?_⟩
  · rw [State.answer?_stop]
    exact hlatch
  · unfold State.answer?
    split
    · exact (State.answer_noSessions _ _ _).mpr hsess
    · exact hsess

/-! ### Assertion -/

theorem State.assertReset_latches (s : State) (code reach island : Nat) : s.Latches (s.assertReset code reach island) := by
  by_cases hr : reach ≤ 2
  · exact .inr ⟨s.assertReset_latched code island hr, s.assertReset_noSessions code island hr⟩
  · refine .inl fun x hx hxr => ?_
    rw [State.assertReset_asserted, List.mem_append, List.mem_singleton] at hx
    rcases hx with hx | rfl
    · exact (List.mem_filter.mp hx).1
    · exact absurd hxr hr

theorem State.orderReset_latches (s : State) (code reach island : Nat) : s.Latches (s.orderReset code reach island) := by
  refine (State.assertReset_latches _ code reach island).after_same ?_
  simp [State.flush_same, State.sendClose_same, Part.same_refl]

theorem State.answerReset_latches (s : State) (c : Caller) (code reach island : Nat) : s.Latches (s.answerReset c code reach island).1 :=
  (State.orderReset_latches _ code reach island).after_same ((State.answer_same (by decide) (by decide) s s c _).mpr (Part.same_refl _ _))

/-! ### Operations that may order a reset -/

theorem State.resetCommand_latches (s : State) (c : Caller) (v : Bytes) : s.Latches (s.resetCommand c v).1 := by
  unfold State.resetCommand
  simp only []
  split
  · exact .refl s
  · split
    · exact .of_same (by simp [State.resetBlockOf_same, Part.same_refl])
    · exact s.answerReset_latches c _ _ _

theorem State.activateUpdate_latches (s : State) (c : Caller) : s.Latches (s.activateUpdate c).1 := by
  unfold State.activateUpdate
  split
  · exact .refl s
  · exact (State.answerReset_latches _ c 7 1 0xFF).after_same (by simp [State.activated_same, Part.same_refl])

theorem State.confirmUpdate_latches (s : State) (c : Caller) (v : Nat) : s.Latches (s.confirmUpdate c v).1 := by
  unfold State.confirmUpdate
  split
  · exact .refl s
  · split
    · exact .of_same (by simp [State.confirmTrial_same, Part.same_refl])
    · exact (State.answerReset_latches _ c 7 1 0xFF).after_same (by simp [State.rejectTrial_same, Part.same_refl])

theorem State.resetSettings_latches (s : State) (c : Caller) : s.Latches (s.resetSettings c).1 := by
  unfold State.resetSettings
  split
  · exact .refl s
  · exact (State.answerReset_latches _ c 6 1 0xFF).after_same (by simp [State.blocksWorn_same, State.defaultBank_same, Part.same_refl])

theorem State.enterBoantCmd_latches (s : State) (c : Caller) : s.Latches (s.enterBoantCmd c).1 := by
  unfold State.enterBoantCmd
  split
  · exact .refl s
  · exact (State.answerReset_latches _ c 11 1 0xFF).after_same (by simp [Part.same_refl])

theorem State.lifecycleCmd_latches (s : State) (c : Caller) (v : Bytes) : s.Latches (s.lifecycleCmd c v).1 := by
  unfold State.lifecycleCmd
  simp only []
  split
  · exact .refl s
  · split
    · exact (State.answerReset_latches _ c 10 1 0xFF).after_same (by simp [State.logEv_same, State.lifeWritten_same, Part.same_refl])
    · exact .refl s

theorem State.trialExpires_latches (s : State) : s.Latches s.trialExpires := by
  unfold State.trialExpires
  split
  · split
    · exact (State.orderReset_latches _ 7 1 0xFF).after_same (by simp [State.rejectTrial_same, Part.same_refl])
    · exact .refl s
  · exact .refl s

theorem State.boantFinishOp_latches (s : State) (port : Nat) (msg : Bytes) : s.Latches (s.boantFinishOp port msg) := by
  have hsame : Part.resets.same s (s.boantEnd port msg).1 := by simp [State.boantEnd_same, Part.same_refl]
  unfold State.boantFinishOp
  simp only []
  split
  · exact (State.assertReset_latches _ 11 1 0xFF).after_same hsame
  · exact .of_same hsame

theorem State.boantResetOp_latches (s : State) (port : Nat) (msg : Bytes) : s.Latches (s.boantResetOp port msg) := by
  have hsame : Part.resets.same s (s.boantResets port msg).1 := by simp [State.boantResets_same, Part.same_refl]
  unfold State.boantResetOp
  simp only []
  split
  · exact (State.assertReset_latches _ 11 1 0xFF).after_same hsame
  · exact .of_same hsame

theorem State.watchdogExpires_latches (s : State) : s.Latches s.watchdogExpires := by
  unfold State.watchdogExpires
  split
  · exact (State.assertReset_latches _ 3 1 0xFF).after_same (by simp [State.logEv_same, Part.same_refl])
  · exact .refl s

theorem State.debugRequest_latches (s : State) : s.Latches s.debugRequest := by
  unfold State.debugRequest
  split
  · exact s.assertReset_latches 8 1 0xFF
  · exact .refl s

theorem State.tripped_latches (s : State) (i : Island) (temp : Int) : s.Latches (s.tripped i temp) := by
  have hsame : Part.resets.same s (s.setTemp i temp) := by simp [State.setTemp_same, Part.same_refl]
  unfold State.tripped
  simp only []
  split
  · exact (State.assertReset_latches _ 9 1 0xFF).after_same (by simp [hsame])
  · exact .of_same hsame

theorem State.porRise_latches (s : State) (torn : Torn) : s.Latches (s.porRise torn) := by
  have hboot : Part.resets.same s s.bootTorn := by simp [State.bootTorn_same, Part.same_refl]
  unfold State.porRise
  refine (State.assertReset_latches _ 0 0 0xFF).after fun x hx => ?_
  cases torn with
  | none | keyring | mirror => exact hx
  | boot => exact congrArg Resets.asserted hboot ▸ hx

theorem State.resetPinLow_latches (s : State) : s.Latches s.resetPinLow :=
  (State.assertReset_latches { s with resets := { s.resets with pinLow := some s.now } } 2 1 0xFF).after fun _ hx => hx

theorem State.porRise_latched (s : State) (torn : Torn) : (s.porRise torn).stop.resetLatched :=
  State.assertReset_latched _ 0 0xFF (by decide)

theorem State.resetPinLow_latched (s : State) : s.resetPinLow.stop.resetLatched := State.assertReset_latched _ 2 0xFF (by decide)

theorem State.logEv_resets (s : State) (ev : Ev) (params : Bytes) : (s.logEv ev params).resets = s.resets :=
  (State.logEv_same (pt := .resets) (by decide) s s ev params).mpr rfl

theorem State.tryAllCarried_resets (s : State) : s.tryAllCarried.resets = s.resets := by
  have h : Part.resets.same s s.tryAllCarried := by simp [State.tryAllCarried_same, Part.same_refl]
  exact h

theorem State.failAction_resets (s : State) (i : Island) : (s.failAction i).resets = s.resets := by
  have h : Part.resets.same s (s.failAction i) := by simp [State.failAction_same, Part.same_refl]
  exact h

/-! ### The release asserts nothing, but where the ROM rejects an image -/

theorem State.releaseSource_asserted (s : State) (code : Nat) : ∀ x ∈ (s.releaseSource code).resets.asserted, x ∈ s.resets.asserted := by
  unfold State.releaseSource
  split
  · exact fun _ hx => hx
  · extract_lets _ released woken planned
    have hwoken : Part.resets.same released woken := by
      simp only [woken]
      split <;> simp [State.inputsJudged_same, State.setIsl_same, Part.same_refl]
    have hasserted : woken.resets.asserted = released.resets.asserted := congrArg Resets.asserted hwoken
    intro x hx
    have hx : x ∈ released.resets.asserted := by
      rw [← hasserted]
      split at hx <;> exact hx
    exact (List.mem_filter.mp hx).1

theorem State.startIsland_asserted (s : State) (i : Island) : (s.startIsland i).resets.asserted = s.resets.asserted := by
  have hsame {u : State} (h : Part.resets.same s u) : u.resets.asserted = s.resets.asserted := congrArg Resets.asserted h
  cases i with
  | aon | memory | compute | fabric => rfl
  | security => exact hsame (by simp [State.startIsland, State.keysLoaded_same, Part.same_refl])
  | comb => exact hsame (by simp [State.startIsland, State.combReleased_same, State.confReset_same, State.combReset_same, Part.same_refl])
  | fixer => exact hsame (by simp [State.startIsland, State.roverRelease_same, State.baseReset_same, Part.same_refl])
  | developer => exact hsame (by simp [State.startIsland, State.devRelease_same, Part.same_refl])
  | tracking => exact hsame (by simp [State.startIsland, State.trackReset_same, Part.same_refl])
  | radio => exact hsame (by simp [State.startIsland, State.radioReset_same, Part.same_refl])
  | network => exact hsame (by simp [State.startIsland, State.canReset_same, State.netReset_same, Part.same_refl])
  | timebase => exact hsame (by simp [State.startIsland, State.channelAReleased_same, State.timebaseReset_same, Part.same_refl])

theorem State.romStep_latches (s : State) : s.Latches s.romStep := by
  have hselect : Part.resets.same s s.romSelect.1 := by simp [State.romSelect_same, Part.same_refl]
  unfold State.romStep
  simp only []
  split
  · exact (State.assertReset_latches _ 7 1 0xFF).after_same (by simp [State.rejectTrial_same, hselect])
  · split
    · exact (State.Latches.of_asserted rfl).after_same hselect
    · refine .of_same ?_
      (repeat' split) <;> simp [State.logEv_same, State.putInForce_same, State.inputsJudged_same, State.takeBanks_same, hselect]

theorem State.resetDone_asserted (s : State) : s.resetDone.resets.asserted = s.resets.asserted := by
  unfold State.resetDone
  split
  · rfl
  · simp only []
    split
    · rw [State.tryAllCarried_resets, State.logEv_resets]
    · rfl

/-- Where a source is asserted the release has not ended. -/
theorem State.resetDone_asserting {s : State} (h : s.resets.asserted ≠ []) : s.resetDone = s := by
  unfold State.resetDone
  split
  · rfl
  · simp [h]

theorem State.releaseRow_latches (s : State) : s.Latches s.releaseRow := by
  have hislands (l : List Island) (x : State) :
      (l.foldl (fun (s : State) i =>
        let s := s.setIsl i fun x => { x with st := .running }
        (s.startIsland i).keepCounts s) x).resets.asserted = x.resets.asserted := by
    induction l generalizing x with
    | nil => rfl
    | cons i l ih => exact (ih _).trans (State.startIsland_asserted _ i)
  unfold State.releaseRow
  split
  · exact .refl s
  · rename_i st rest _
    simp only []
    cases st with
    | islands l => exact .of_asserted ((State.resetDone_asserted _).trans (hislands l _))
    | appletHarts => exact .of_asserted (State.resetDone_asserted _)
    | rom =>
      let x : State := { s with resets := { s.resets with plan := rest, rowAt := s.now } }
      have hrom : s.Latches x.romStep := x.romStep_latches
      by_cases hnone : x.romStep.resets.asserted = []
      · refine .of_subset fun y hy => ?_
        rw [State.resetDone_asserted] at hy
        exact absurd (hnone ▸ hy) List.not_mem_nil
      · exact (State.resetDone_asserting hnone).symm ▸ hrom

theorem State.clockFails_asserted (s : State) (i : Island) : (s.clockFails i).resets.asserted = s.resets.asserted := by
  have hkeep (x y : State) : (x.keepCounts y).resets = x.resets := rfl
  unfold State.clockFails
  split
  · split
    · rw [State.resetDone_asserted, State.logEv_resets, hkeep, State.failAction_resets]
      rfl
    · rfl
  · rfl

theorem State.tripReleased_latches (s : State) (temps : List Int) : s.Latches (s.tripReleased temps) := by
  have hsame : Part.resets.same s (s.setTemps temps) := by simp [State.setTemps_same, Part.same_refl]
  unfold State.tripReleased
  simp only []
  split
  · exact (State.Latches.of_subset (State.releaseSource_asserted _ 9)).after_same hsame
  · exact .of_same hsame

theorem State.wipesDone_latches (s : State) (code : Nat) : s.Latches (s.wipesDone code) := by
  unfold State.wipesDone
  extract_lets early
  split
  · exact .refl s
  · exact .of_subset (s.releaseSource_asserted code)

theorem State.resetPinHigh_latches (s : State) : s.Latches s.resetPinHigh :=
  .of_subset (State.releaseSource_asserted { s with resets := { s.resets with pinLow := none } } 2)

theorem State.watchdogServed_latches (s : State) : s.Latches s.watchdogServed := by
  unfold State.watchdogServed
  split
  · exact .of_asserted rfl
  · exact .refl s

end Sys2Proof.Machine
end

section
/-!
PROOF. Chapter 3: an access asserts what the operation in it asserts, and of the records of a datagram none follows a reset that one
of them ordered, since its session has ended (R129).
-/

namespace Sys2Proof.Machine

/-! ### Operations on objects -/

/-- Six command objects can order a reset: the life cycle, the activation and the confirmation of an image, the reset of the settings,
the entry to Boant and ResetCommand. -/
theorem State.command_latches (s : State) (c : Caller) (idx sub : Nat) (v : Bytes) : s.Latches (s.command c idx sub v).1 := by
  unfold State.command
  (repeat' split)
  case h_2 => exact s.lifecycleCmd_latches c v
  case h_8 => exact s.activateUpdate_latches c
  case h_9 => exact s.confirmUpdate_latches c _
  case h_10 => exact s.resetSettings_latches c
  case h_12 => exact s.enterBoantCmd_latches c
  case h_13 => exact s.resetCommand_latches c v
  all_goals
    refine .of_same ?_
    simp [State.machineCommand_same, State.canRecoverReq_same, State.bufferAck_same, State.stageDiscardOp_same, State.keyWritten_same,
      State.keyErased_same, State.keyInvalidated_same, State.updateBegin_same, State.payloadOp_same, State.importImage_same,
      State.snapshotTaken_same, State.stepArm_same, State.stepDisarm_same, State.ppsTimeOfDay_same, State.surveyAbandon_same,
      State.surveyStart_same, State.clearBlocked_same, State.swarmPort_same, State.stopCmd_same, State.releaseArmed_same,
      State.releaseConfirmed_same, Part.same_refl]

theorem State.writeEffect_latches (s : State) (c : Caller) (r : ObjRow) (idx sub : Nat) (v : Bytes) :
    s.Latches (s.writeEffect c r idx sub v).1 := by
  unfold State.writeEffect
  extract_lets applet held
  split
  · exact .of_same (by simp [State.commitAt_same, Part.same_refl])
  · split
    · refine .of_same ?_
      split <;> simp [held, State.appletWrite_same, State.setVal_same, State.notCarried_same, State.takeHold_same, Part.same_refl]
    · split
      · exact .of_same (by simp [State.appletWrite_same, Part.same_refl])
      · split
        · exact s.command_latches c idx sub v
        · exact .of_same (by simp [State.applyWrite_same, Part.same_refl])

theorem State.behind_latches {s : State} {e : State × Option Ans} (r : ObjRow) (h : s.Latches e.1) : s.Latches (s.behind r e).1 := by
  unfold State.behind
  split
  · exact h
  · split
    · split
      · exact h
      · exact .refl s
    · exact .refl s

/-- A write asserts what its effect asserts, where it reaches it. -/
theorem State.writeOp_latches (s : State) (c : Caller) (idx sub : Nat) (v : Bytes) : s.Latches (s.writeOp c idx sub v).1 := by
  unfold State.writeOp
  split
  · exact .refl s
  · rename_i r _
    split
    · exact .refl s
    · have h := s.writeEffect_latches c r idx sub v
      extract_lets held e
      split
      · exact h
      · split
        · exact .refl s
        · split
          · exact .refl s
          · split
            · split
              · exact h
              · exact .refl s
            · exact State.behind_latches r h

theorem State.transactOp_latches (s : State) (c : Caller) (idx sub : Nat) (req : Bytes) : s.Latches (s.transactOp c idx sub req).1 :=
  .of_same ((State.transactWith_same s s c idx sub req _ fun y => by simp [State.portOp_same]).mpr (Part.same_refl _ _))

theorem State.segmentOp_latches (s : State) (c : Caller) (opcode idx sub off total : Nat) (data : Bytes) :
    s.Latches (s.segmentOp c opcode idx sub off total data).1 := by
  unfold State.segmentOp
  split
  · exact .refl s
  · extract_lets k y
    have hy : Part.resets.same s y := by simp [y, State.onSession_same, Part.same_refl]
    split
    · exact .of_same hy
    · split
      · refine .of_same (s := s) ?_
        split <;> simp [State.updateSpoiled_same, hy]
      · extract_lets whole f
        split
        · split
          · exact (y.transactOp_latches c idx sub whole).after_same hy
          · exact (y.writeOp_latches c idx sub whole).after_same hy
        · exact .of_same (by simp [State.onSession_same, hy])

theorem State.recOp_latches (s : State) (c : Caller) (q : Rec) : s.Latches (s.recOp c q).1 := by
  unfold State.recOp
  split
  · exact .of_same (by simp [State.readOp_same, Part.same_refl])
  · exact s.writeOp_latches c _ _ _
  · exact .of_same (by simp [State.blockReadOp_same, Part.same_refl])
  · exact s.segmentOp_latches c _ _ _ _ _ _
  · exact .of_same (by simp [State.commitRec_same, Part.same_refl])
  · exact s.segmentOp_latches c _ _ _ _ _ _
  · exact .of_same (by simp [State.subscribeOp_same, Part.same_refl])
  · exact .refl s

/-! ### Accesses -/

theorem State.inSession_latches (s : State) (c : Caller) (x : Session) (f : InFlight) {body : State → State × Option Ans}
    (hb : ∀ y : State, y.Latches (body y).1) : s.Latches (s.inSession c x f body) := by
  unfold State.inSession
  split
  · exact .of_same (by simp [State.onSession_same, Part.same_refl])
  · split
    · exact .refl s
    · split
      · exact .of_same (by simp [State.onSession_same, State.seenBy_same, Part.same_refl])
      · exact ((hb _).answer? c).after_same (by simp [State.seenBy_same, State.touch_same, State.onSession_same, Part.same_refl])

theorem State.served_latches (s : State) (c : Caller) (f : InFlight) {body : State → State × Option Ans}
    (hb : ∀ y : State, y.Latches (body y).1) : s.Latches (s.served c f body) := by
  unfold State.served
  cases c with
  | coil i r =>
    simp only []
    split
    · split
      · exact .refl s
      · exact (State.inSession_latches _ _ _ f hb).after_same (by simp [State.setSession_same, Part.same_refl])
    · exact .refl s
  | applet a r => exact s.inSession_latches _ _ f hb
  | usdo p n => exact ((hb _).answer? _).after_same (by simp [State.seenBy_same, Part.same_refl])
  | firmware => exact hb s

/-- An access asserts what its body asserts. -/
theorem State.access_latches (s : State) (c : Caller) (opcode k off : Nat) {body : State → State × Option Ans}
    (hb : ∀ y : State, y.Latches (body y).1) : s.Latches (s.access c opcode k off body) := by
  unfold State.access
  extract_lets f
  split
  · exact .of_same (by simp [State.unserved_same, Part.same_refl])
  · exact s.served_latches c f hb

theorem State.writeBy_latches (s : State) (c : Caller) (idx sub : Nat) (v : Bytes) : s.Latches (s.writeBy c idx sub v) :=
  s.access_latches c 2 _ 0 fun y => y.writeOp_latches c idx sub v

theorem State.transactBy_latches (s : State) (c : Caller) (idx : Nat) (req : Bytes) : s.Latches (s.transactBy c idx req) :=
  s.access_latches c 6 _ 0 fun y => y.transactOp_latches c idx 0 req

theorem State.refuseRec_latches (s : State) (c : Caller) (q : Rec) : s.Latches (s.refuseRec c q) := by
  unfold State.refuseRec
  split
  · exact .of_same (by simp [State.onSession_same, Part.same_refl])
  · exact .refl s

theorem State.record_latches (s : State) (c : Caller) (q : Rec) : s.Latches (s.record c q) := by
  unfold State.record
  split
  · exact s.refuseRec_latches c q
  · exact s.access_latches c _ _ _ fun y => y.recOp_latches c q

theorem State.takeAnswer_latches (s : State) (c : Caller) (q : Rec) : s.Latches (s.takeAnswer c q) := by
  unfold State.takeAnswer
  split
  · exact s.refuseRec_latches c q
  · exact s.access_latches c 10 _ _ fun y =>
      .of_same (s := y) (by simp [State.appletAnswer_same, Part.same_refl])

theorem State.windowRecord_latches (s : State) (c : Caller) (req : Bytes) : s.Latches (s.windowRecord c req) := by
  unfold State.windowRecord
  simp only []
  split
  · exact s.refuseRec_latches c _
  · split
    · exact s.takeAnswer_latches c _
    · exact s.record_latches c _

theorem State.windowSubmit_latches (s : State) (hart : Nat) (comb : Bool) (req : Bytes) (reply : Nat) :
    s.Latches (s.windowSubmit hart comb req reply) := by
  unfold State.windowSubmit
  split
  · exact .refl s
  · extract_lets w o f id q sent _ taken
    have hsent : Part.resets.same s sent := by simp [sent, State.emit_same, Part.same_refl]
    have htaken : Part.resets.same s taken := hsent
    split
    · exact .of_same hsent
    · split
      · exact .of_same (by simp [State.combIntake_same, htaken])
      · exact (State.windowRecord_latches taken _ req).after_same htaken

theorem State.usdoAccess_latches (s : State) (port client : Nat) (kind : UsdoKind) (k : Nat) {body : State → State × Option Ans}
    (hb : ∀ y : State, y.Latches (body y).1) : s.Latches (s.usdoAccess port client kind k body) := by
  unfold State.usdoAccess
  split
  · exact .refl s
  · cases kind with
    | unicast => exact s.access_latches _ _ _ _ hb
    | broadcast | routed => exact .of_same (by simp [State.emit_same, Part.same_refl])

theorem State.usdoWrite_latches (s : State) (port client idx sub : Nat) (ty : CanType) (v : Bytes) :
    s.Latches (s.usdoWrite port client idx sub ty v).1 := by
  unfold State.usdoWrite
  split
  · exact .refl s
  · split
    · exact s.writeOp_latches _ idx sub v
    · exact .refl s

/-! ### Datagrams -/

/-- Without a session a record of one moves no latch and opens no session. -/
theorem State.record_stopped {s : State} (h : s.stoppedByReset) (i r : Nat) (q : Rec) : (s.record (.coil i r) q).stoppedByReset := by
  obtain ⟨hlatch, hsess⟩ := h
  have hget : Tbl.get? s.dict.sessions i = none := by rw [hsess]; rfl
  unfold State.record State.refuseRec State.access State.unserved State.served
  simp only [hget]
  split
  · split
    · exact ⟨hlatch, (State.setSession_noSessions s i _).mpr hsess⟩
    · exact ⟨hlatch, hsess⟩
  · split <;> exact ⟨hlatch, hsess⟩

theorem State.stamp_stopped {s : State} (h : s.stoppedByReset) : s.stamp.stoppedByReset :=
  ⟨h.1, List.map_eq_nil_iff.mpr h.2⟩

theorem State.stamp_latches {s u : State} (h : s.Latches u) : s.Latches u.stamp :=
  h.imp id State.stamp_stopped

/-- Of the records of a datagram, none that follows a reset finds its session. -/
theorem State.records_latches {s : State} (i : Nat) (l : List Rec) (x : State) (h : s.Latches x) :
    s.Latches (l.foldl (fun s q => (s.record (.coil i q.req) q).stamp) x) := by
  induction l generalizing x with
  | nil => exact h
  | cons q l ih =>
    refine ih _ (State.stamp_latches ?_)
    rcases h with h | h
    · exact (x.record_latches (.coil i q.req) q).imp_left fun k y hy hr => h y (k y hy hr) hr
    · exact .inr (State.record_stopped h i q.req q)

theorem State.coilDatagram_latches (s : State) (hdr : Bytes) (body : Sealed) : s.Latches (s.coilDatagram hdr body) := by
  unfold State.coilDatagram
  split
  · exact .refl s
  · rename_i i _
    have hset (f : Session → Session) : s.Latches (s.setSession i f) := .of_asserted rfl
    simp only []
    split
    · exact hset _
    · exact State.records_latches i _ _ (hset _)

end Sys2Proof.Machine
end

section
/-!
PROOF. Chapter 11: every power-on, chip and system reset sets the all latch with source 11 in both channels (R526), shown command by
command.
-/

namespace Sys2Proof.Machine

/-! ### Every command -/

theorem State.Latches.guarded {s u : State} {p : Prop} [Decidable p] (h : s.Latches u) : s.Latches (if p then u else s) := by
  split
  · exact h
  · exact .refl s

theorem State.byHart_latches (s : State) (h : Nat) {body : State → State} (hb : ∀ y : State, y.Latches (body y)) :
    s.Latches (s.byHart h body) := .guarded (hb s)

theorem State.onQueue_latches (s : State) (h q : Nat) {body : State → State} (hb : ∀ y : State, y.Latches (body y)) :
    s.Latches (s.onQueue h q body) := .guarded (hb s)

theorem State.queueStore_latches (s : State) (h q off : Nat) (may : Bool) {body : State → State} (hb : ∀ y : State, y.Latches (body y)) :
    s.Latches (s.queueStore h q off may body) := by
  unfold State.queueStore
  split
  · exact .of_same (by simp [State.accessFault_same, Part.same_refl])
  · exact hb s

theorem State.withFlash_latches (s : State) (x : Flash) {body : State → State} (hb : ∀ y : State, y.Latches (body y)) :
    s.Latches (s.withFlash x body) := hb { s with flash := x }

/-- A command runs an effect that asserts no source of system reach or wider, or latches as R526 says. -/
theorem exec_latches (c : Instr) (s : State) : ∃ t body, exec c s = .next (s.run t body) ∧ ∀ a : State, a.Latches (body a) := by
  cases c with
  -- writes of whole values, among them every command that ends in a reset
  | dictWrite | stageDiscard | capCommit | siteCommit | combClearBlocked | regionCommit | trackCommit | trackStandbyEnter
  | trackStandbyExit | baseCommit | surveyStartStandalone | surveyStartNetwork | surveyAbandon | policyCommit | swarmCommand
  | swarmCancel | stopCommand | releaseArm | releaseConfirm | radioCommit | radioNeighbourListen | timeStepArm | timeStepDisarm
  | ppsTimeOfDay | ethPortConfig | ptpCommit | canTmCommit | lifecycleProvision | lifecycleCommission | lifecycleDecommission
  | lifecycleScrap | updateHeader | updateActivate | updateConfirm | updateReject | boantEnter | resetChip | resetSystem
  | resetIsland | resetBlock | counterSelect | counterSnapshot => exact ⟨_, _, rfl, fun a => a.writeBy_latches _ _ _ _⟩
  | roverReset | linkParamRequest | linkEnd | machineIdWrite | timePulseCommit | canRecover | canPortCommit | canSleep
  | canWakeWrite | canBufferAck => exact ⟨_, _, rfl, fun a => .guarded (a.writeBy_latches _ _ _ _)⟩
  | keyWrite | keyErase | keyInvalidate | settingsReset | configImport =>
    exact ⟨_, _, rfl, fun a => a.withFlash_latches _ fun y => y.writeBy_latches _ _ _ _⟩
  -- requests to ports
  | combIntake | prepare | regionCommitMessage | regionAbort | shorten | sync | regionHeartbeat | baseNetPort | stopNeighbourNotice
  | radioSend | radioWaggle | canSend | forward | logQuery =>
    exact ⟨_, _, rfl, fun a => a.transactBy_latches _ _ _⟩
  | canCancel t c req trying =>
    exact ⟨_, _, rfl, fun a => a.access_latches _ _ _ _ fun y =>
      .of_same ((State.transactWith_same y y c 0x2840 0 req _ fun z => by simp [State.canTx_same]).mpr (Part.same_refl _ _))⟩
  -- records, datagrams, windows and USDO
  | coilRead | coilWrite | blockRead | blockWrite | coilCommit | coilDiscard | transact | subscribe | configExport =>
    exact ⟨_, _, rfl, fun a => a.record_latches _ _⟩
  | updatePayload => exact ⟨_, _, rfl, fun a => a.withFlash_latches _ fun y => y.record_latches _ _⟩
  | coilData => exact ⟨_, _, rfl, fun a => a.coilDatagram_latches _ _⟩
  | requestWindowSubmit => exact ⟨_, _, rfl, fun a => a.byHart_latches _ fun y => y.windowSubmit_latches _ _ _ _⟩
  | answer => exact ⟨_, _, rfl, fun a => a.byHart_latches _ fun y => .guarded (y.takeAnswer_latches _ _)⟩
  | usdoUpload t port client kind idx sub =>
    exact ⟨_, _, rfl, fun a => a.usdoAccess_latches _ _ _ _ fun y => .of_same (by simp [State.usdoRead_same, Part.same_refl])⟩
  | usdoDownload => exact ⟨_, _, rfl, fun a => a.usdoAccess_latches _ _ _ _ fun y => y.usdoWrite_latches _ _ _ _ _ _⟩
  -- sources of their own, and the release
  | por up => exact ⟨_, _, rfl, fun a => a.porRise_latches up.torn⟩
  | bor => exact ⟨_, _, rfl, fun a => a.assertReset_latches 1 0 0xFF⟩
  | resetNLow => exact ⟨_, _, rfl, fun a => a.resetPinLow_latches⟩
  | globalWatchdog => exact ⟨_, _, rfl, fun a => a.watchdogExpires_latches⟩
  | debugReset => exact ⟨_, _, rfl, fun a => a.debugRequest_latches⟩
  | thermalTrip => exact ⟨_, _, rfl, fun a => a.tripped_latches _ _⟩
  | trialTimeout => exact ⟨_, _, rfl, fun a => a.trialExpires_latches⟩
  | boantFinish => exact ⟨_, _, rfl, fun a => a.boantFinishOp_latches _ _⟩
  | boantReset => exact ⟨_, _, rfl, fun a => a.boantResetOp_latches _ _⟩
  | borRelease => exact ⟨_, _, rfl, fun a => .of_subset (a.releaseSource_asserted 1)⟩
  | resetNHigh => exact ⟨_, _, rfl, fun a => a.resetPinHigh_latches⟩
  | thermalTripRelease => exact ⟨_, _, rfl, fun a => a.tripReleased_latches _⟩
  | wipeComplete => exact ⟨_, _, rfl, fun a => a.wipesDone_latches _⟩
  | releaseRow => exact ⟨_, _, rfl, fun a => a.releaseRow_latches⟩
  | islandClockTimeout t i => exact ⟨_, _, rfl, fun a => .of_asserted (a.clockFails_asserted i)⟩
  | globalWatchdogService => exact ⟨_, _, rfl, fun a => a.watchdogServed_latches⟩
  -- what never touches a reset, chapter by chapter
  | coilHello | notify | coilClose | coilIdleTimeout | blockTransferAbandon | stageHoldTimeout | controllerIdClashEnd =>
    exact ⟨_, _, rfl, fun a => .of_same (by
      simp [State.hello_same, State.notifyDue_same, State.coilClosed_same, State.coilIdle_same, State.xferAbandon_same,
        State.holdTimeout_same, State.clashSilent_same, Part.same_refl])⟩
  | islandFault | islandRestartEnd | islandFailed | islandWatchdogExpiry | protectedStoreError | correctedEccError =>
    exact ⟨_, _, rfl, fun a => .of_same (by
      simp [State.faultIn_same, State.restartEnds_same, State.islandFails_same, State.storeError_same, State.corrected_same,
        Part.same_refl])⟩
  | combEpochAge | combAccept | claim | probe | amend | release | area | query | combWaitResume | combTrim | combSweep | combBlocked
  | combBlockExpiry | combRetire =>
    exact ⟨_, _, rfl, fun a => .of_same (by
      simp [State.epochAge_same, State.acceptNext_same, State.judgeRow_same, State.resume_same, State.trimRow_same, State.sweep_same,
        State.blockSlot_same, State.blockExpire_same, State.retireDone_same, Part.same_refl])⟩
  | prepareAnswer | prepareTimeout | commitAbortRepeat | combPresumed | syncAnswer | heartbeatSend | neighbourLost
  | neighbourSessionOpen | neighbourAnswer =>
    exact ⟨_, _, rfl, fun a => .of_same (by
      simp [State.prepareAnswer_same, State.prepareTimeout_same, State.repeatPhase_same, State.presume_same, State.syncAnswered_same,
        State.sendHeartbeats_same, State.loseNeighbour_same, State.nbrOpen_same, State.nbrAnswered_same, Part.same_refl])⟩
  | trackEpoch | navMessage | channelLockTransition | pullInTimeout | coastTimeout | watchDwell | secondPeakClear | agcUpdate
  | gsJamClear | gsClockLost | gsClockBack | gsGap | bumpJump =>
    exact ⟨_, _, rfl, fun a => .of_same (by
      simp [State.trackEpoch_same, State.navMessage_same, State.lockStep_same, State.lockTimeout_same, State.watchDwell_same,
        State.clearPeak_same, State.agcUpdate_same, State.jamClear_same, State.clockLost_same, State.clockBack_same, State.gsGap_same,
        State.bumpJump_same, Part.same_refl])⟩
  | devExposureArrival | devExposureStart | devResult | devOwnSearchStart | devOwnSearchDone | devReacquireTick | devStandbyExposure
  | devStandbyResult =>
    exact ⟨_, _, rfl, fun a => .of_same (by
      simp [State.exposureArrival_same, State.exposureStart_same, State.devResult_same, State.ownStart_same, State.ownDone_same,
        State.reacquire_same, State.standbyExposure_same, State.standbyResult_same, Part.same_refl])⟩
  | baseEpoch | roverObsArrival | roverEpochStart | roverEpochDone =>
    exact ⟨_, _, rfl, fun a => .of_same (by
      simp [State.baseEpoch_same, State.obsArrival_same, State.roverStart_same, State.roverDone_same, Part.same_refl])⟩
  | confFix | confReported | confDeveloped | confResultNotice | confFreshnessTick | confDeviceTick | swarmInstant | swarmDeadline =>
    exact ⟨_, _, rfl, fun a => .of_same (by
      simp [State.confRow_same, State.freshTick_same, State.deviceTick_same, State.swarmInstant_same, State.swarmDeadline_same,
        Part.same_refl])⟩
  | siPinChange | siDebounceExpiry | siDiscrepancy | soFault | soPulseTest | soPulseTestEnd | soFaultEnd | stopNoticeRepeat | stopVote
  | stopChannelDisagree =>
    exact ⟨_, _, rfl, fun a => .of_same (by
      simp [State.siPin_same, State.siDebounced_same, State.siDiscrepant_same, State.soFaulted_same, State.soPulseBegin_same,
        State.soPulseJudge_same, State.soRecovered_same, State.repeatNotice_same, State.sendVotes_same, State.channelsDisagree_same,
        Part.same_refl])⟩
  | linkEvent | linkReplyReceived | linkSupervisionTimeout | linkJoinTimeout | beaconSend | joinRequest | neighbourBeacon | waggleSend
  | linkUpdateInstant | hyperperiodBoundary =>
    exact ⟨_, _, rfl, fun a => .of_same (by
      simp [State.linkEvent_same, State.linkReply_same, State.superviseLink_same, State.joinTimeout_same, State.sendBeacon_same,
        State.joinRequest_same, State.nbrBeacon_same, State.sendWaggle_same, State.applyUpdate_same, State.replanModem_same,
        Part.same_refl])⟩
  | refinLost | refinBack | timeOffset | timeSourceQualified | timeSourceNotPresent | timeAcquired | timeStep | timePulse | timePulseEnd
  | todMessage | timeCapture | capturePostRetry =>
    exact ⟨_, _, rfl, fun a => .of_same (by
      simp [State.refinLost_same, State.refinBack_same, State.timeOffset_same, State.qualify_same, State.sourceGone_same,
        State.acquire_same, State.timeStepped_same, State.pulseDue_same, State.pulseEnd_same, State.todDue_same, State.capEdge_same,
        State.postCaptures_same, Part.same_refl])⟩
  | ethFrameReceived | ethFrameSent | ethAddressAgeing | sgmiiControlWord | pcsSyncChange | ptpSyncReceived | ptpAnnounceReceived
  | ptpAnnounceTimeout | ptpSyncTimeout | ptpAnnounceSend | ptpSyncSend | ptpDelayReqSend | ptpDelayReqReceived
  | ptpDelayRespReceived =>
    exact ⟨_, _, rfl, fun a => .of_same (by
      simp [State.frameIn_same, State.frameOut_same, State.ageOut_same, State.controlWord_same, State.pcsSync_same, State.syncIn_same,
        State.announceIn_same, State.announceTimeout_same, State.syncTimeout_same, State.announceOut_same, State.syncOut_same,
        State.delayReqOut_same, State.delayReqIn_same, State.delayRespIn_same, Part.same_refl])⟩
  | canFrameReceived | canAttemptEnd | canBusOffRecovered | canIntegrationDone | canTmBoundary | canSleepEntry | canWakeEdge
  | canFifoPost | canErrorFrame =>
    exact ⟨_, _, rfl, fun a => .of_same (by
      simp [State.canFrameIn_same, State.attemptEnd_same, State.canRecovered_same, State.canIntegrated_same, State.tmBoundary_same,
        State.canSleepIn_same, State.canEdge_same, State.fifoPost_same, State.canRxError_same, Part.same_refl])⟩
  | fetch | fetchGrant | fetchTimeout | complete | decrement | submit | reissue | peekDescriptor =>
    exact ⟨_, _, rfl, fun a => a.byHart_latches _ fun y => .of_same (by
      simp [State.fetchOp_same, State.fetchReturn_same, State.fetchExpires_same, State.completeOp_same, State.decrementOp_same,
        State.submitOp_same, State.reissueOp_same, State.look_same, Part.same_refl])⟩
  | pop | queuePeek | queueOpen | close =>
    exact ⟨_, _, rfl, fun a => a.onQueue_latches _ _ fun y => .of_same (by
      simp [State.popOp_same, State.load_same, State.openOp_same, State.closeOp_same, Part.same_refl])⟩
  | push | tag | closeAbandon | drop =>
    exact ⟨_, _, rfl, fun a => a.onQueue_latches _ _ fun y => y.queueStore_latches _ _ _ _ fun z => .of_same (by
      simp [State.pushOp_same, State.tagOp_same, State.abandonOp_same, State.dropOp_same, Part.same_refl])⟩
  | replyPost | appletNoAnswer =>
    exact ⟨_, _, rfl, fun a => .of_same (by simp [State.replyOp_same, State.appletSilent_same, Part.same_refl])⟩
  | keySlotReload | configCommitRetry | boantInfo | boantHeader | boantData =>
    exact ⟨_, _, rfl, fun a => .of_same (by
      simp [State.keyReload_same, State.retryCarried_same, State.boantInfo_same, State.boantHeader_same, State.boantPayload_same,
        Part.same_refl])⟩
  | tempHigh | tempHighClear | marginSample | islandStepChange | vreqStep | sramRowSpare | lpddrPageRetire =>
    exact ⟨_, _, rfl, fun a => .of_same (by
      simp [State.tempAbove_same, State.tempBelow_same, State.marginSampled_same, State.stepSwitched_same, State.vreqMoved_same,
        State.rowFails_same, State.pageFails_same, Part.same_refl])⟩
  | logEvent | logRecordWrite | logRecordClose | logMirrorWrite | timeMark | logSeek | emit =>
    exact ⟨_, _, rfl, fun a => .of_same (by
      simp [State.offerEvent_same, State.logWriteNext_same, State.mirrorOp_same, State.timeMarkDue_same, State.emitApplet_same,
        Part.same_refl])⟩
  -- the requests to seal and to unseal a message: the two names left are commands of Lean, so no alternative can be headed by them
  | _ => exact ⟨_, _, rfl, fun a => a.transactBy_latches _ _ _⟩

/-! ### The commands that always reset -/

theorem State.run_latched {s : State} {t : Nat} {body : State → State} (h : (body (s.advance t)).stop.resetLatched) :
    (s.run t body).stop.resetLatched := by
  rw [State.run_stop]
  exact h

theorem State.advance_resets (s : State) (t : Nat) : (s.advance t).resets = s.resets :=
  (State.advance_same (pt := .resets) (by decide) (by decide) (by decide) (by decide) s s t).mpr rfl

theorem resetCommand_kind : ∀ r ∈ objTable, r.has 0x1301 0 = true → r.kind = 2 := by decide +kernel

/-- An accepted ResetCommand whose target is not a block answers, then orders the reset of its reach (R870, R871). -/
theorem State.resetCommand_of_ok {s : State} {c : Caller} {v : Bytes} (htarget : s.resetTargetOk v = true) (hstop : s.stoppedAll = true)
    (hblock : u v 0 1 ≠ 4) : s.resetCommand c v = s.answerReset c 6 (u v 0 1) (u v 1 1) := by
  simp [State.resetCommand, firstFail, htarget, hstop, hblock]

theorem State.answerReset_latched (s : State) (c : Caller) (code island : Nat) {reach : Nat} (hr : reach ≤ 2) :
    (s.answerReset c code reach island).1.stop.resetLatched :=
  State.assertReset_latched _ code island hr

/-- ResetCommand of the chip or of the system latches the stop when the stop of scope all stands. -/
theorem State.resetCommand_latched {s : State} (c : Caller) {v : Bytes} (hv : v = [1, 0, 0, 0] ∨ v = [2, 0, 0, 0])
    (hstop : s.stoppedAll = true) : (s.resetCommand c v).1.stop.resetLatched := by
  have hreach : u v 0 1 = 1 ∨ u v 0 1 = 2 := by
    rcases hv with rfl | rfl
    · exact .inl (by decide)
    · exact .inr (by decide)
  have htarget : s.resetTargetOk v = true := by
    rcases hreach with h | h <;> simp [State.resetTargetOk, h]
  rw [State.resetCommand_of_ok htarget hstop (by omega)]
  exact s.answerReset_latched c 6 _ (by omega)

/-- The write of a chip or system reset to ResetCommand, where it passes the checks. -/
theorem State.run_resetCommand_latched {s : State} {t : Nat} {c : Caller} {v : Bytes} (hv : v = [1, 0, 0, 0] ∨ v = [2, 0, 0, 0])
    (hw : (s.advance t).writes c 0x1301 0 v = true) (hstop : (s.advance t).stoppedAll = true) :
    (s.run t fun a => a.writeBy c 0x1301 0 v).stop.resetLatched := by
  obtain ⟨d, -, honly, -⟩ := State.run_command hw (.inl (by decide)) fun _ => kind_of resetCommand_kind
  have hsame : (s.run t fun a => a.writeBy c 0x1301 0 v).stop = (((s.advance t).withDict d).resetCommand c v).1.stop :=
    honly .stop (by decide)
  rw [hsame]
  exact State.resetCommand_latched c hv hstop

/-- Settles O8: a command's effect asserts no source of system reach or wider, or it ends in a reset that latches. -/
theorem resetsLatchAll : Obligations.ResetsLatchAll := by
  unfold Obligations.ResetsLatchAll
  refine ⟨?_, ?_, ?_⟩
  · intro s w c x hexec hx hnew hreach
    obtain ⟨t, body, he, hbody⟩ := exec_latches c s
    obtain rfl : s.run t body = w := by
      rw [he] at hexec
      injection hexec
    rw [State.run_resets] at hx
    rcases hbody (s.advance t) with h | h
    · rw [← State.advance_resets s t] at hnew
      exact absurd (h x hx hreach) hnew
    · exact State.run_latched h.1
  · intro s t k
    exact ⟨⟨_, rfl, State.run_latched (State.porRise_latched _ k)⟩,
      ⟨_, rfl, State.run_latched (State.assertReset_latched _ 1 0xFF (by decide))⟩,
      ⟨_, rfl, State.run_latched (State.resetPinLow_latched _)⟩⟩
  · intro s t c v a hv hw hstop
    refine ⟨s.run t fun a => a.writeBy c 0x1301 0 v, ?_, State.run_resetCommand_latched hv hw hstop⟩
    rcases hv with rfl | rfl
    · rw [if_pos rfl]
      rfl
    · rw [if_neg (by decide)]
      rfl

end Sys2Proof.Machine
end

section
/-!
SUPPORT. What numbers the records of the Logbook: of all that moves the Logbook, power-on and the writer alone move the power cycle and
the count of seq (R906). Events offered, and the losses that a restart reports, leave them, and the mirror.
-/

namespace Sys2Proof.Machine

/-! ### The Logbook -/

/-- The power cycle and the count of the next record, and the mirror from which power-on takes the next power cycle. -/
def Logbook.numbering (l : Logbook) : Nat × Nat × List LogRec := (l.cycle, l.count, l.mirror)

theorem Logbook.lose_numbering (l : Logbook) (wher sev : Nat) : (l.lose wher sev).numbering = l.numbering := rfl

theorem Logbook.close_numbering (l : Logbook) : l.close.numbering = l.numbering := by
  unfold Logbook.close
  dsimp only
  (repeat' split) <;> rfl

theorem Logbook.expire_numbering (l : Logbook) (now : Nat) : (l.expire now).numbering = l.numbering := by
  unfold Logbook.expire
  split
  · split
    · exact l.close_numbering
    · rfl
  · rfl

theorem Logbook.fold?_numbering {l m : Logbook} {e : LogEv} (h : l.fold? e = some m) : m.numbering = l.numbering := by
  unfold Logbook.fold? at h
  (repeat' split at h) <;> cases h
  rfl

/-- An event that is offered folds, is staged, or is lost: it is numbered when the writer takes it. -/
theorem Logbook.offer_numbering (l : Logbook) (now : Nat) (e : LogEv) : (l.offer now e).numbering = l.numbering := by
  have hexpire := l.expire_numbering now
  unfold Logbook.offer
  dsimp only
  split
  · rename_i m hm
    exact (Logbook.fold?_numbering hm).trans hexpire
  · split <;> exact hexpire

theorem Logbook.foldl_numbering {α : Type} {f : Logbook → α → Logbook} (h : ∀ l x, (f l x).numbering = l.numbering) (xs : List α)
    (l : Logbook) : (xs.foldl f l).numbering = l.numbering := by
  induction xs generalizing l with
  | nil => rfl
  | cons x xs ih => exact (ih _).trans (h l x)

theorem Logbook.afterRestart_numbering (l : Logbook) : l.afterRestart.numbering = l.numbering :=
  Logbook.foldl_numbering (l := { l with staging := [] }) (fun _ x => by cases x <;> rfl) l.staging

/-! ### The power cycle that power-on starts -/

/-- The power cycles of the mirror's undamaged records. -/
def soundCycles (mirror : List LogRec) : List Nat := (mirror.filter fun r => !r.damaged).map LogRec.cycle

/-- One more than the highest of them, or 0 with none (R906). -/
def nextPowerCycle (mirror : List LogRec) : Nat := ((soundCycles mirror).max?.map (· + 1)).getD 0

theorem soundCycles_cons (r : LogRec) (mirror : List LogRec) :
    soundCycles (r :: mirror) = if r.damaged then soundCycles mirror else r.cycle :: soundCycles mirror := by
  cases h : r.damaged <;> simp [soundCycles, h]

/-- The walk over the mirror finds the highest sound power cycle. -/
theorem foldl_max_soundCycles (mirror : List LogRec) (top : Option Nat) :
    mirror.foldl (fun m r => if r.damaged then m else some (max (m.getD 0) r.cycle)) top = (top.toList ++ soundCycles mirror).max? := by
  induction mirror generalizing top with
  | nil => cases top <;> simp [soundCycles]
  | cons r mirror ih =>
    rw [List.foldl_cons, ih, soundCycles_cons]
    split
    · rfl
    · cases top with
      | none => simp
      | some a => rfl

theorem Logbook.afterPower_numbering (l : Logbook) : l.afterPower.numbering = (nextPowerCycle l.mirror, 1, l.mirror) := by
  have htop := foldl_max_soundCycles l.mirror none
  rw [Option.toList_none, List.nil_append] at htop
  unfold Logbook.afterPower nextPowerCycle
  rw [← htop]
  generalize l.mirror.foldl _ none = top
  cases top <;> rfl

theorem nextPowerCycle_empty {mirror : List LogRec} (h : soundCycles mirror = []) : nextPowerCycle mirror = 0 := by
  simp [nextPowerCycle, h]

/-- It lies above every sound record's, by one above the highest. -/
theorem nextPowerCycle_above {mirror : List LogRec} {x : Nat} (hx : x ∈ soundCycles mirror) :
    x < nextPowerCycle mirror ∧ ((∀ y ∈ soundCycles mirror, y ≤ x) → nextPowerCycle mirror = x + 1) := by
  obtain ⟨top, htop⟩ : ∃ top, (soundCycles mirror).max? = some top := Option.isSome_iff_exists.mp (List.isSome_max?_of_mem hx)
  obtain ⟨hmem, hle⟩ := List.max?_eq_some_iff.mp htop
  have hnext : nextPowerCycle mirror = top + 1 := by simp [nextPowerCycle, htop]
  rw [hnext]
  refine ⟨Nat.lt_succ_of_le (hle x hx), fun hmax => ?_⟩
  rw [Nat.le_antisymm (hmax top hmem) (hle x hx)]

/-! ### The state -/

/-- The Logbook is that of a state with this numbering. In this form the laws of what each operation can move rewrite it too. -/
abbrev State.NumberedAs (s : State) (num : Nat × Nat × List LogRec) : Prop := ∃ a : State, a.log.numbering = num ∧ Part.log.same a s

variable {num : Nat × Nat × List LogRec}

theorem State.numberedAs_iff {s : State} : s.NumberedAs num ↔ s.log.numbering = num :=
  ⟨fun ⟨_, ha, h⟩ => (congrArg Logbook.numbering h).trans ha, fun h => ⟨s, h, Part.same_refl _ _⟩⟩

/-- What leaves the Logbook alone leaves its numbering. -/
theorem State.numberedAs_of_same {s u : State} (h : Part.log.same s u) : u.NumberedAs num ↔ s.NumberedAs num := by
  have hlog : u.log = s.log := h
  rw [State.numberedAs_iff, State.numberedAs_iff, hlog]

theorem State.withLog_numbered {s : State} {l : Logbook} (h : l.numbering = s.log.numbering) :
    State.NumberedAs { s with log := l } num ↔ s.NumberedAs num := by
  rw [State.numberedAs_iff, State.numberedAs_iff, ← h]

@[simp] theorem State.foldl_numbered {α : Type} {f : State → α → State} (h : ∀ s x, (f s x).NumberedAs num ↔ s.NumberedAs num)
    (l : List α) (s : State) : (l.foldl f s).NumberedAs num ↔ s.NumberedAs num :=
  State.foldl_iff (P := fun s => s.NumberedAs num) h l s

@[simp] theorem State.repeat_numbered {f : State → State} (h : ∀ s, (f s).NumberedAs num ↔ s.NumberedAs num) (n : Nat) (s : State) :
    (Nat.repeat f n s).NumberedAs num ↔ s.NumberedAs num := by
  induction n with
  | zero => rfl
  | succ n ih => exact (h _).trans ih

@[simp] theorem State.ite_numbered {c : Prop} [Decidable c] {x y : State} :
    (∃ a : State, a.log.numbering = num ∧ if c then Part.log.same a x else Part.log.same a y)
      ↔ if c then x.NumberedAs num else y.NumberedAs num := by
  split <;> rfl

@[simp] theorem State.offer_numbered (s : State) (e : LogEv) : (s.offer e).NumberedAs num ↔ s.NumberedAs num := by
  unfold State.offer
  split
  · rfl
  · split
    · exact State.withLog_numbered (s.log.offer_numbering _ e)
    · exact State.withLog_numbered (s.log.lose_numbering 2 e.sev)

@[simp] theorem State.logEv_numbered (s : State) (ev : Ev) (params : Bytes) : (s.logEv ev params).NumberedAs num ↔ s.NumberedAs num :=
  State.offer_numbered _ _

/-! ### Queues -/

@[simp] theorem State.decr_numbered (s : State) (d : Nat) : (s.decr d).NumberedAs num ↔ s.NumberedAs num := by
  unfold State.decr
  dsimp only
  (repeat' split) <;> simp [State.NumberedAs]

@[simp] theorem State.decrN_numbered (s : State) (d n : Nat) : (s.decrN d n).NumberedAs num ↔ s.NumberedAs num := by
  induction n generalizing s with
  | zero => rfl
  | succ n ih => exact (ih _).trans (s.decr_numbered d)

@[simp] theorem State.setPkts_numbered (s : State) (q : Nat) (pkts : List Pkt) :
    (s.setPkts q pkts).NumberedAs num ↔ s.NumberedAs num := by
  unfold State.setPkts
  dsimp only
  (repeat' split) <;> simp [State.NumberedAs]

theorem State.post?_numbered {s s' : State} {q : Nat} {data : Bytes} (h : s.post? q data = some s') :
    s'.NumberedAs num ↔ s.NumberedAs num := by
  unfold State.post? at h
  dsimp only at h
  split at h
  · cases h
    simp [State.NumberedAs, State.count_same]
  · cases h

@[simp] theorem State.post_numbered (s : State) (q : Nat) (data : Bytes) : (s.post q data).NumberedAs num ↔ s.NumberedAs num := by
  unfold State.post
  cases h : s.post? q data with
  | none => rfl
  | some s' => exact State.post?_numbered h

@[simp] theorem State.discardHart_numbered (s : State) (h outcome : Nat) :
    (s.discardHart h outcome).NumberedAs num ↔ s.NumberedAs num := by
  unfold State.discardHart
  dsimp only
  (repeat' split) <;> simp [State.NumberedAs]

@[simp] theorem State.discardAll_numbered (s : State) (outcome : Nat) : (s.discardAll outcome).NumberedAs num ↔ s.NumberedAs num := by
  simp [State.discardAll, State.NumberedAs]

/-! ### Time and Ethernet -/

@[simp] theorem State.markDisagree_numbered (s : State) : s.markDisagree.NumberedAs num ↔ s.NumberedAs num := by
  simp [State.markDisagree, State.NumberedAs]

@[simp] theorem State.enterHold_numbered (s : State) (jump : Bool) : (s.enterHold jump).NumberedAs num ↔ s.NumberedAs num := by
  unfold State.enterHold
  dsimp only
  (repeat' split) <;> simp [State.NumberedAs]

@[simp] theorem State.servo_numbered (s : State) : s.servo.NumberedAs num ↔ s.NumberedAs num := by
  unfold State.servo
  dsimp only
  (repeat' split) <;> simp [State.NumberedAs, State.enterSlew_same]

@[simp] theorem State.sourceGone_numbered (s : State) (c : Nat) : (s.sourceGone c).NumberedAs num ↔ s.NumberedAs num := by
  unfold State.sourceGone
  dsimp only
  (repeat' split) <;> simp [State.NumberedAs]

@[simp] theorem State.netReset_numbered (s : State) : s.netReset.NumberedAs num ↔ s.NumberedAs num := by
  unfold State.netReset
  dsimp only
  (repeat' split) <;> simp [State.NumberedAs]

@[simp] theorem State.ptpInit_numbered (s : State) (n : Nat) : (s.ptpInit n).NumberedAs num ↔ s.NumberedAs num := by
  unfold State.ptpInit
  dsimp only
  (repeat' split) <;> simp [State.NumberedAs, State.setEth_same]

@[simp] theorem State.ptpCommitted_numbered (s : State) (old : List Bytes) : (s.ptpCommitted old).NumberedAs num ↔ s.NumberedAs num := by
  simp [State.ptpCommitted, State.NumberedAs]

/-! ### The Comb: requests -/

@[simp] theorem State.nearFull_numbered (s : State) : s.nearFull.NumberedAs num ↔ s.NumberedAs num := by
  unfold State.nearFull
  dsimp only
  (repeat' split) <;> simp [State.NumberedAs]

@[simp] theorem State.combSettled_numbered (s : State) : s.combSettled.NumberedAs num ↔ s.NumberedAs num := by
  simp [State.combSettled, State.NumberedAs]

@[simp] theorem State.retireDone_numbered (s : State) (g : Nat) : (s.retireDone g).NumberedAs num ↔ s.NumberedAs num := by
  unfold State.retireDone
  dsimp only
  (repeat' split) <;> simp [State.NumberedAs]

@[simp] theorem State.release_numbered (s : State) (r : Creq) (tacc : Nat) : (s.release r tacc).1.NumberedAs num ↔ s.NumberedAs num := by
  unfold State.release
  dsimp only
  (repeat' split) <;> simp [State.NumberedAs, State.pruneTracks_same, State.sendShorten_same]

@[simp] theorem State.writeEntries_numbered (s : State) (d : Demand) (l : List Cov) :
    (s.writeEntries d l).NumberedAs num ↔ s.NumberedAs num := by
  simp [State.writeEntries, State.NumberedAs]

@[simp] theorem State.forceArea_numbered (s : State) (now : Nat) (l : List Cov) :
    (s.forceArea now l).1.NumberedAs num ↔ s.NumberedAs num := by
  simp [State.forceArea, State.NumberedAs, State.pruneTracks_same, State.sendShorten_same]

@[simp] theorem State.commitReq_numbered (s : State) (r : Creq) (raw : Bytes) (f : Flight) (mirror : Nat) :
    (s.commitReq r raw f mirror).1.NumberedAs num ↔ s.NumberedAs num := by
  unfold State.commitReq
  dsimp only
  (repeat' split) <;> simp [State.NumberedAs, State.sendShorten_same]

@[simp] theorem State.runClaim_numbered (s : State) (r : CombReq) (f : Flight) : (s.runClaim r f).NumberedAs num ↔ s.NumberedAs num := by
  unfold State.runClaim
  dsimp only
  (repeat' split) <;> simp [State.NumberedAs, State.endReq_same, State.sendPrepares_same, State.setFlight_same]

@[simp] theorem State.runReq_numbered (s : State) (r : CombReq) (f : Flight) : (s.runReq r f).NumberedAs num ↔ s.NumberedAs num := by
  unfold State.runReq
  dsimp only
  (repeat' split) <;> simp [State.NumberedAs, State.endReq_same]

@[simp] theorem State.runTrim_numbered (s : State) (t : TrimOp) (f : Flight) : (s.runTrim t f).NumberedAs num ↔ s.NumberedAs num := by
  unfold State.runTrim
  dsimp only
  (repeat' split) <;> simp [State.NumberedAs, State.pruneTracks_same, State.sendShorten_same]

/-! ### The Comb: regions and operations of its own -/

@[simp] theorem State.exchangeDrop_numbered (s : State) (f : Flight) (asked : List Asked) :
    (s.exchangeDrop f asked).NumberedAs num ↔ s.NumberedAs num := by
  simp [State.exchangeDrop, State.NumberedAs, State.noteLater_same, State.sendPhase_same]

@[simp] theorem State.combEndFlight_numbered (s : State) (out : Nat) (f : Flight) :
    (s.combEndFlight out f).NumberedAs num ↔ s.NumberedAs num := by
  unfold State.combEndFlight
  dsimp only
  (repeat' split) <;> simp [State.NumberedAs, State.combDiscard_same, State.combAnswer_same, State.answer_same]

@[simp] theorem State.combEnd_numbered (s : State) (p : Caller → Bool) (out : Nat) :
    (s.combEnd p out).NumberedAs num ↔ s.NumberedAs num := by
  simp [State.combEnd, State.NumberedAs, State.combDiscard_same]

@[simp] theorem State.combDiscardAll_numbered (s : State) (out : Nat) : (s.combDiscardAll out).NumberedAs num ↔ s.NumberedAs num := by
  unfold State.combDiscardAll
  dsimp only
  (repeat' split) <;> simp [State.NumberedAs, State.combDiscard_same, State.combAnswer_same, State.answer_same]

@[simp] theorem State.combReset_numbered (s : State) : s.combReset.NumberedAs num ↔ s.NumberedAs num := by
  simp [State.combReset, State.NumberedAs]

@[simp] theorem State.runPrepare_numbered (s : State) (n : Nat) (r : CombReq) (f : Flight) :
    (s.runPrepare n r f).NumberedAs num ↔ s.NumberedAs num := by
  unfold State.runPrepare
  dsimp only
  (repeat' split) <;> simp [State.NumberedAs, State.prepareTag_same, State.msgAnswer_same]

@[simp] theorem State.runShorten_numbered (s : State) (n : Nat) (r : CombReq) (seq : Nat) :
    (s.runShorten n r seq).NumberedAs num ↔ s.NumberedAs num := by
  simp [State.runShorten, State.NumberedAs, State.msgAnswer_same]

@[simp] theorem State.tryLive_numbered (s : State) (n : Nat) : (s.tryLive n).NumberedAs num ↔ s.NumberedAs num := by
  unfold State.tryLive
  dsimp only
  (repeat' split) <;> simp [State.NumberedAs, State.setNbr_same]

@[simp] theorem State.runSync_numbered (s : State) (n : Nat) (r : CombReq) (f : Flight) :
    (s.runSync n r f).NumberedAs num ↔ s.NumberedAs num := by
  unfold State.runSync
  dsimp only
  (repeat' split) <;> simp [State.NumberedAs, State.setNbr_same, State.msgAnswer_same]

@[simp] theorem State.runLateAbort_numbered (s : State) (n : Nat) (r : CombReq) (f : Flight) :
    (s.runLateAbort n r f).NumberedAs num ↔ s.NumberedAs num := by
  unfold State.runLateAbort
  dsimp only
  (repeat' split) <;> simp [State.NumberedAs, State.msgAnswer_same, State.dropPrepared_same]

@[simp] theorem State.runSite_numbered (s : State) (c : Caller) (vals : GroupVals) (seq : Nat) :
    (s.runSite c vals seq).NumberedAs num ↔ s.NumberedAs num := by
  simp [State.runSite, State.NumberedAs, State.setVal_same, State.applyVals_same, State.answer_same]

@[simp] theorem State.runFlight_numbered (s : State) (f : Flight) : (s.runFlight f).NumberedAs num ↔ s.NumberedAs num := by
  unfold State.runFlight
  (repeat' split) <;> simp [State.NumberedAs, State.runRegion_same]

@[simp] theorem State.tryFlight_numbered (s : State) (f : Flight) : (s.tryFlight f).NumberedAs num ↔ s.NumberedAs num := by
  unfold State.tryFlight
  dsimp only
  (repeat' split) <;> simp [State.NumberedAs, State.setFlight_same, State.noteLater_same]

@[simp] theorem State.settle_numbered (s : State) (seq : Nat) : (s.settle seq).NumberedAs num ↔ s.NumberedAs num :=
  State.foldl_numbered (fun x f => by split <;> simp) _ s

@[simp] theorem State.internalOp_numbered (s : State) (op : FlightOp) : (s.internalOp op).NumberedAs num ↔ s.NumberedAs num := by
  simp [State.internalOp, State.NumberedAs, State.acceptOp_same]

@[simp] theorem State.combReleased_numbered (s : State) : s.combReleased.NumberedAs num ↔ s.NumberedAs num := by
  simp [State.combReleased, State.NumberedAs, State.enterSyncing_same]

@[simp] theorem State.swarmLost_numbered (s : State) : s.swarmLost.NumberedAs num ↔ s.NumberedAs num := by
  unfold State.swarmLost
  dsimp only
  (repeat' split) <;> simp [State.NumberedAs]

/-! ### Radio, base station and rover -/

@[simp] theorem State.endLink_numbered (s : State) (m cause : Nat) (reason : Option Nat) (a : Ans) :
    (s.endLink m cause reason a).NumberedAs num ↔ s.NumberedAs num := by
  unfold State.endLink
  dsimp only
  (repeat' split) <;> simp [State.NumberedAs, State.answer_same, State.stopMonitor_same]

@[simp] theorem State.radioReset_numbered (s : State) : s.radioReset.NumberedAs num ↔ s.NumberedAs num := by
  simp [State.radioReset, State.NumberedAs, State.endMessages_same]

@[simp] theorem State.baseNoTracking_numbered (s : State) : s.baseNoTracking.NumberedAs num ↔ s.NumberedAs num := by
  unfold State.baseNoTracking
  (repeat' split) <;> simp [State.NumberedAs, State.baseTo_same, State.setBase_same]

@[simp] theorem State.baseReset_numbered (s : State) : s.baseReset.NumberedAs num ↔ s.NumberedAs num := by
  unfold State.baseReset
  dsimp only
  (repeat' split) <;> simp [State.NumberedAs, State.baseStart_same, State.loadBase_same, State.setBase_same, State.setSurveyState_same]

@[simp] theorem State.postFix_numbered (s : State) (m : Nat) (b : Bytes) : (s.postFix m b).NumberedAs num ↔ s.NumberedAs num := by
  simp [State.postFix, State.NumberedAs, State.setRoverSlot_same]

@[simp] theorem State.flushFixes_numbered (s : State) : s.flushFixes.NumberedAs num ↔ s.NumberedAs num := by
  simp [State.flushFixes, State.NumberedAs, State.setRover_same]

@[simp] theorem State.roverDrop_numbered (s : State) (i : Nat) (x : RoverEpoch) (outcome : Nat) :
    (s.roverDrop i x outcome).NumberedAs num ↔ s.NumberedAs num := by
  simp [State.roverDrop, State.NumberedAs, State.refusedFix_same, State.setRover_same]

@[simp] theorem State.roverFailed_numbered (s : State) : s.roverFailed.NumberedAs num ↔ s.NumberedAs num :=
  State.foldl_numbered (fun x i => by (repeat' split) <;> simp) _ s

/-! ### Stage groups and boot -/

@[simp] theorem State.groupCommit_numbered (s : State) (c : Nat) (who : Caller) :
    (s.groupCommit c who).1.NumberedAs num ↔ s.NumberedAs num := by
  unfold State.groupCommit
  dsimp only
  (repeat' split) <;> simp [State.NumberedAs, State.pulseCommitted_same, State.applyGroup_same, State.canPortCommitted_same,
    State.trackCommitted_same, State.baseCommitted_same, State.radioCommitted_same, State.canTmCommitted_same]

@[simp] theorem State.rejectTrial_numbered (s : State) (why : RejectCause) : (s.rejectTrial why).NumberedAs num ↔ s.NumberedAs num := by
  unfold State.rejectTrial
  dsimp only
  (repeat' split) <;> simp [State.NumberedAs, State.setImg_same, State.writeBoot_same]

@[simp] theorem State.runSlot_numbered (s : State) (i : Nat) : (s.runSlot i).NumberedAs num ↔ s.NumberedAs num := by
  unfold State.runSlot
  dsimp only
  (repeat' split) <;> simp [State.NumberedAs]

@[simp] theorem State.slotFailed_numbered (s : State) (i : Nat) : (s.slotFailed i).NumberedAs num ↔ s.NumberedAs num := by
  simp [State.slotFailed, State.NumberedAs, State.writeBoot_same, State.setImg_same]

@[simp] theorem State.romSelect_numbered (s : State) : s.romSelect.1.NumberedAs num ↔ s.NumberedAs num := by
  unfold State.romSelect
  dsimp only
  (repeat' split) <;> simp [State.NumberedAs, State.enterBoant_same, State.writeBoot_same]

@[simp] theorem State.takeBanks_numbered (s : State) : s.takeBanks.NumberedAs num ↔ s.NumberedAs num := by
  unfold State.takeBanks
  dsimp only
  (repeat' split) <;> simp [State.NumberedAs, State.writeBoot_same]

@[simp] theorem State.keysLoaded_numbered (s : State) : s.keysLoaded.NumberedAs num ↔ s.NumberedAs num := by
  unfold State.keysLoaded
  dsimp only
  (repeat' split) <;> simp [State.NumberedAs, State.eraseBanks_same]

end Sys2Proof.Machine
end

section
/-!
SUPPORT. What a reset does to the numbering of the Logbook: nothing, unless it clears the Always-on island, which is what power-on alone
does (R906, Table 19.1).
-/

namespace Sys2Proof.Machine

variable {num : Nat × Nat × List LogRec}

/-! ### Islands -/

@[simp] theorem State.sourcesGone_numbered (s : State) : s.sourcesGone.NumberedAs num ↔ s.NumberedAs num := by
  simp [State.sourcesGone, State.NumberedAs]

@[simp] theorem State.endThrough_numbered (s : State) (i : Island) (out : Nat) :
    (s.endThrough i out).NumberedAs num ↔ s.NumberedAs num := by
  unfold State.endThrough
  dsimp only
  (repeat' split) <;> simp [State.NumberedAs, State.endKeyWaits_same, State.endEvents_same, State.endSendsOf_same, State.endMessagesOf_same]

@[simp] theorem State.reviveAon_numbered (s : State) : s.reviveAon.NumberedAs num ↔ s.NumberedAs num := by
  unfold State.reviveAon
  split
  · exact State.withLog_numbered s.log.afterRestart_numbering
  · rfl

/-- The Always-on island's reset starts a new power cycle. -/
theorem State.aonReset_numbered (s : State) {cycle count : Nat} {mirror : List LogRec} (h : s.NumberedAs (cycle, count, mirror)) :
    s.aonReset.NumberedAs (nextPowerCycle mirror, 1, mirror) := by
  have hmirror : s.log.mirror = mirror := congrArg (fun n => n.2.2) (State.numberedAs_iff.mp h)
  rw [State.numberedAs_iff, ← hmirror]
  exact s.log.afterPower_numbering

theorem State.clearIsland_numbered (s : State) {i : Island} (wide : Bool) (hi : i ≠ .aon) :
    (s.clearIsland i wide).NumberedAs num ↔ s.NumberedAs num := by
  unfold State.clearIsland
  cases i with
  | aon => exact absurd rfl hi
  | fixer | developer =>
    cases wide <;> simp [State.NumberedAs, State.setBase_same, State.roverResetAll_same, State.roverIslandReset_same, State.devReset_same,
      State.devIslandReset_same]
  | _ =>
    simp [State.NumberedAs, State.endKeyWaits_same, State.endDictionary_same, State.hartsReset_same, State.fabricReset_same,
      State.roverResetAll_same, State.setDev_same, State.confReset_same, State.trackReset_same, State.canReset_same,
      State.timebaseReset_same]

theorem State.enterReset_numbered (s : State) (reach : Nat) {i : Island} (hi : i ≠ .aon) :
    (s.enterReset reach i).NumberedAs num ↔ s.NumberedAs num := by
  unfold State.enterReset
  dsimp only
  split
  · rfl
  · simp [State.NumberedAs, State.setIsl_same, State.dropVolatile_same, State.clearIsland_numbered _ _ hi, State.endHoldsOf_same]

/-- Power-on clears the Always-on island whatever state it is in. -/
theorem State.enterReset_aon_power (s : State) {cycle count : Nat} {mirror : List LogRec} (h : s.NumberedAs (cycle, count, mirror)) :
    (s.enterReset 0 .aon).NumberedAs (nextPowerCycle mirror, 1, mirror) := by
  have hcleared : (s.endHoldsOf .aon).aonReset.NumberedAs (nextPowerCycle mirror, 1, mirror) :=
    State.aonReset_numbered _ ((State.numberedAs_of_same (by simp [State.endHoldsOf_same, Part.same_refl])).mpr h)
  unfold State.enterReset
  refine (State.numberedAs_of_same ?_).mpr hcleared
  simp [State.setIsl_same, State.dropVolatile_same, State.clearIsland, Part.same_refl]

theorem State.enterResets_numbered (reach : Nat) {l : List Island} (hl : .aon ∉ l) (s : State) :
    (l.foldl (fun s i => s.enterReset reach i) s).NumberedAs num ↔ s.NumberedAs num := by
  induction l generalizing s with
  | nil => rfl
  | cons i l ih =>
    have hi : i ≠ .aon := fun e => hl (e ▸ List.mem_cons_self)
    exact (ih (fun h => hl (List.mem_cons_of_mem i h)) _).trans (s.enterReset_numbered reach hi)

/-! ### Assertion -/

/-- The state in which the islands of a reset's reach enter reset: the source is recorded, and for a reset of system reach or wider the
Compute island is cleared before the others. -/
def State.assertBegun (s : State) (code reach island : Nat) : State :=
  let s := s.recordSource code reach island
  let x : Asserted := { code := code, reach := reach, island := island }
  let s : State := { s with resets := { s.resets with asserted := (s.resets.asserted.filter fun y => y ≠ x) ++ [x] } }
  if reach ≤ 2 then (s.swarmLost.clearIsland .compute true).sourcesGone else s

theorem State.assertBegun_numbered (s : State) (code reach island : Nat) :
    (s.assertBegun code reach island).NumberedAs num ↔ s.NumberedAs num := by
  have hcompute (x : State) : (x.clearIsland .compute true).NumberedAs num ↔ x.NumberedAs num := x.clearIsland_numbered true (by decide)
  unfold State.assertBegun
  dsimp only
  split <;> simp [State.NumberedAs, State.recordSource_same, hcompute]

/-- Of what a reset does, the islands that enter it alone can number anew. -/
theorem State.assertReset_numbered_iff (s : State) (code reach island : Nat) :
    (s.assertReset code reach island).NumberedAs num ↔
      ((reachIslands reach island).foldl (fun s i => s.enterReset reach i) (s.assertBegun code reach island)).NumberedAs num := by
  unfold State.assertReset State.assertBegun
  dsimp only
  (repeat' split) <;> simp [State.NumberedAs, State.keepCounts_same, State.zeroCounts_same, State.resetLatch_same, State.replan_same]

/-- A reset whose reach leaves the Always-on island out leaves the numbering. -/
theorem State.assertReset_numbered (s : State) (code : Nat) {reach island : Nat} (h : .aon ∉ reachIslands reach island) :
    (s.assertReset code reach island).NumberedAs num ↔ s.NumberedAs num := by
  rw [State.assertReset_numbered_iff, State.enterResets_numbered reach h, State.assertBegun_numbered]

/-- A reset of power-on reach starts a new power cycle. -/
theorem State.assertReset_power (s : State) (code island : Nat) {cycle count : Nat} {mirror : List LogRec}
    (h : s.NumberedAs (cycle, count, mirror)) : (s.assertReset code 0 island).NumberedAs (nextPowerCycle mirror, 1, mirror) := by
  have hislands : reachIslands 0 island = .aon :: Island.all.tail := rfl
  rw [State.assertReset_numbered_iff, hislands, List.foldl_cons, State.enterResets_numbered 0 (by decide)]
  exact State.enterReset_aon_power _ ((State.assertBegun_numbered s code 0 island).mpr h)

/-- A chip reset reaches every island but the Always-on island. -/
@[simp] theorem State.assertReset_chip_numbered (s : State) (code island : Nat) :
    (s.assertReset code 1 island).NumberedAs num ↔ s.NumberedAs num :=
  s.assertReset_numbered code (by simp [reachIslands])

/-! ### Release -/

@[simp] theorem State.tryCarried_numbered (s : State) (c : Nat) : (s.tryCarried c).NumberedAs num ↔ s.NumberedAs num := by
  unfold State.tryCarried
  dsimp only
  (repeat' split) <;> simp [State.NumberedAs]

@[simp] theorem State.tryAllCarried_numbered (s : State) : s.tryAllCarried.NumberedAs num ↔ s.NumberedAs num := by
  simp [State.tryAllCarried, State.NumberedAs]

@[simp] theorem State.resetDone_numbered (s : State) : s.resetDone.NumberedAs num ↔ s.NumberedAs num := by
  unfold State.resetDone
  dsimp only
  (repeat' split) <;> simp [State.NumberedAs]

@[simp] theorem State.startIsland_numbered (s : State) (i : Island) : (s.startIsland i).NumberedAs num ↔ s.NumberedAs num := by
  cases i with
  | aon | memory | compute | fabric => exact Iff.rfl
  | _ =>
    simp [State.NumberedAs, State.startIsland, State.confReset_same, State.roverRelease_same, State.devRelease_same,
      State.trackReset_same, State.canReset_same, State.channelAReleased_same, State.timebaseReset_same]

@[simp] theorem State.romStep_numbered (s : State) : s.romStep.NumberedAs num ↔ s.NumberedAs num := by
  unfold State.romStep
  dsimp only
  (repeat' split) <;> simp [State.NumberedAs, State.replan_same, State.inputsJudged_same, State.putInForce_same]

@[simp] theorem State.releaseRow_numbered (s : State) : s.releaseRow.NumberedAs num ↔ s.NumberedAs num := by
  unfold State.releaseRow
  dsimp only
  (repeat' split) <;> simp [State.NumberedAs, State.setIsl_same, State.keepCounts_same]

@[simp] theorem State.failAction_numbered (s : State) (i : Island) : (s.failAction i).NumberedAs num ↔ s.NumberedAs num := by
  have hclear (x : State) {i : Island} (hi : i ≠ .aon) : (x.clearIsland i true).NumberedAs num ↔ x.NumberedAs num :=
    x.clearIsland_numbered true hi
  cases i <;> simp [State.NumberedAs, State.failAction, State.setLatch_same, State.hartsReset_same, State.devFailed_same, hclear]

@[simp] theorem State.clockFails_numbered (s : State) (i : Island) : (s.clockFails i).NumberedAs num ↔ s.NumberedAs num := by
  unfold State.clockFails
  dsimp only
  (repeat' split) <;> simp [State.NumberedAs, State.setIsl_same, State.keepCounts_same]

end Sys2Proof.Machine
end

section
/-!
PROOF. Chapter 20: power-on starts a new power cycle of seq, and no narrower reset changes it (R906).
-/

namespace Sys2Proof.Machine

variable {num : Nat × Nat × List LogRec}

/-! ### Sources of their own -/

theorem State.resetPinLow_numbered (s : State) : s.resetPinLow.NumberedAs num ↔ s.NumberedAs num :=
  (State.assertReset_chip_numbered _ 2 0xFF).trans (State.numberedAs_of_same rfl)

theorem State.watchdogExpires_numbered (s : State) : s.watchdogExpires.NumberedAs num ↔ s.NumberedAs num := by
  unfold State.watchdogExpires
  split <;> simp

theorem State.debugRequest_numbered (s : State) : s.debugRequest.NumberedAs num ↔ s.NumberedAs num := by
  unfold State.debugRequest
  split <;> simp

theorem State.tripped_numbered (s : State) (i : Island) (temp : Int) : (s.tripped i temp).NumberedAs num ↔ s.NumberedAs num := by
  unfold State.tripped
  dsimp only
  split <;> simp [State.NumberedAs, State.setTemp_same]

/-! ### ResetCommand -/

theorem State.orderReset_numbered (s : State) (code : Nat) {reach island : Nat} (h : .aon ∉ reachIslands reach island) :
    (s.orderReset code reach island).NumberedAs num ↔ s.NumberedAs num := by
  unfold State.orderReset
  dsimp only
  rw [State.assertReset_numbered _ code h]
  split <;> simp [State.NumberedAs, State.flush_same, State.sendClose_same]

theorem State.answerReset_numbered (s : State) (c : Caller) (code : Nat) {reach island : Nat} (h : .aon ∉ reachIslands reach island) :
    (s.answerReset c code reach island).1.NumberedAs num ↔ s.NumberedAs num :=
  (State.orderReset_numbered _ code h).trans (State.numberedAs_of_same (by simp [State.answer_same, Part.same_refl]))

theorem State.modemReset_numbered (s : State) (k : Nat) : (s.modemReset k).NumberedAs num ↔ s.NumberedAs num := by
  simp [State.modemReset, State.NumberedAs, State.setModem_same, State.answer_same]

theorem State.resetBlockOf_numbered (s : State) (island block : Nat) :
    (s.resetBlockOf island block).NumberedAs num ↔ s.NumberedAs num := by
  unfold State.resetBlockOf
  dsimp only
  (repeat' split) <;>
    simp [State.NumberedAs, State.setPort_same, State.setTrack_same, State.modemReset_numbered, State.setEth_same, State.canResetPort_same]

theorem Island.ofId_ne_aon {n : Nat} (h : 5 ≤ n) : Island.ofId n ≠ some .aon := by
  unfold Island.ofId
  split
  case h_1 => omega
  all_goals simp

/-- What ResetCommand names wider than a block leaves the Always-on island out (Table 19.3). -/
theorem State.resetTargetOk_not_aon {s : State} {v : Bytes} (h : s.resetTargetOk v = true) (hblock : u v 0 1 ≠ 4) :
    .aon ∉ reachIslands (u v 0 1) (u v 1 1) := by
  unfold State.resetTargetOk at h
  split at h
  case h_1 hreach | h_2 hreach => simp [hreach, reachIslands]
  case h_3 hreach =>
    simp only [Bool.and_eq_true, decide_eq_true_eq] at h
    obtain ⟨⟨hlow, -⟩, -⟩ := h
    simpa [hreach, reachIslands] using Island.ofId_ne_aon hlow
  case h_4 hreach => exact absurd hreach hblock
  case h_5 => cases h

theorem State.resetCommand_numbered (s : State) (c : Caller) (v : Bytes) :
    (s.resetCommand c v).1.NumberedAs num ↔ s.NumberedAs num := by
  by_cases htarget : s.resetTargetOk v = true
  · unfold State.resetCommand
    dsimp only
    split
    · rfl
    · split
      · exact s.resetBlockOf_numbered _ _
      · rename_i hblock
        exact s.answerReset_numbered c 6 (State.resetTargetOk_not_aon htarget hblock)
  · simp [State.resetCommand, firstFail, htarget]

/-! ### Accesses: they number as their body does -/

section
variable {body : State → State × Option Ans} (hb : ∀ y, (body y).1.NumberedAs num ↔ y.NumberedAs num)
include hb

theorem State.inSession_numbered (s : State) (c : Caller) (x : Session) (f : InFlight) :
    (s.inSession c x f body).NumberedAs num ↔ s.NumberedAs num := by
  unfold State.inSession
  dsimp only
  (repeat' split) <;> simp [State.NumberedAs, State.onSession_same, State.seenBy_same, State.answer?_same, State.touch_same, hb]

theorem State.served_numbered (s : State) (c : Caller) (f : InFlight) : (s.served c f body).NumberedAs num ↔ s.NumberedAs num := by
  unfold State.served
  cases c with
  | coil i r =>
    dsimp only
    (repeat' split) <;> simp [State.NumberedAs, State.inSession_numbered hb, State.setSession_same]
  | applet h r => exact State.inSession_numbered hb s _ _ f
  | usdo p n => simp [State.NumberedAs, State.answer?_same, State.seenBy_same, hb]
  | firmware => exact hb s

theorem State.access_numbered (s : State) (c : Caller) (opcode k off : Nat) :
    (s.access c opcode k off body).NumberedAs num ↔ s.NumberedAs num := by
  unfold State.access
  dsimp only
  split
  · exact State.numberedAs_of_same (by simp [State.unserved_same, Part.same_refl])
  · exact State.served_numbered hb s c _

end

theorem State.behind_numbered {s : State} {e : State × Option Ans} (r : ObjRow) (h : e.1.NumberedAs num ↔ s.NumberedAs num) :
    (s.behind r e).1.NumberedAs num ↔ s.NumberedAs num := by
  unfold State.behind
  split
  · exact h
  · split
    · split
      · exact h
      · rfl
    · rfl

/-- ResetCommand is a command object, whose effect is ResetCommand's own. -/
theorem State.writeEffect_resetCommand {s : State} {r : ObjRow} (h : s.rowAt 0x1301 0 = some r) (c : Caller) (v : Bytes) :
    s.writeEffect c r 0x1301 0 v = s.resetCommand c v := by
  have hkind := kind_of resetCommand_kind (State.row_device h (.inl (by decide)))
  unfold ObjRow.kind at hkind
  unfold State.writeEffect
  split at hkind
  · cases hkind
  · rename_i hcommit
    split at hkind
    · cases hkind
    · split at hkind
      · rename_i hwo
        simp [hcommit, hwo, State.command]
      · cases hkind

theorem State.writeOp_resetCommand_numbered (s : State) (c : Caller) (v : Bytes) :
    (s.writeOp c 0x1301 0 v).1.NumberedAs num ↔ s.NumberedAs num := by
  unfold State.writeOp
  split
  · rfl
  · rename_i r hfront
    have heffect : (s.writeEffect c r 0x1301 0 v).1.NumberedAs num ↔ s.NumberedAs num := by
      rw [State.writeEffect_resetCommand (State.front_row hfront)]
      exact s.resetCommand_numbered c v
    split
    · rfl
    · extract_lets held e
      split
      · exact heffect
      · split
        · rfl
        · split
          · rfl
          · split
            · split
              · exact heffect
              · rfl
            · exact State.behind_numbered r heffect

theorem State.writeBy_resetCommand_numbered (s : State) (c : Caller) (v : Bytes) :
    (s.writeBy c 0x1301 0 v).NumberedAs num ↔ s.NumberedAs num :=
  State.access_numbered (fun y => y.writeOp_resetCommand_numbered c v) s c 2 _ 0

/-! ### Commands -/

/-- A command whose effect leaves the numbering leaves power cycle and count as they were. -/
theorem State.run_keeps_seq {s : State} {t : Nat} {body : State → State}
    (h : (body (s.advance t)).NumberedAs s.log.numbering ↔ (s.advance t).NumberedAs s.log.numbering) :
    (s.run t body).log.cycle = s.log.cycle ∧ (s.run t body).log.count = s.log.count := by
  have hadvance : (s.advance t).NumberedAs s.log.numbering :=
    (State.numberedAs_of_same (by simp [State.advance_same, Part.same_refl])).mpr (State.numberedAs_iff.mpr rfl)
  have hnum := State.numberedAs_iff.mp (h.mpr hadvance)
  rw [State.run_log]
  exact ⟨congrArg Prod.fst hnum, congrArg (fun n => n.2.1) hnum⟩

/-- A command whose effect is power-on's starts the power cycle above those of the mirror, at count 1. -/
theorem State.run_power_seq {s : State} {t : Nat} {body : State → State} {mirror : List LogRec}
    (h : (body (s.advance t)).NumberedAs (nextPowerCycle mirror, 1, mirror)) :
    (s.run t body).log.count = 1 ∧ (soundCycles mirror = [] → (s.run t body).log.cycle = 0)
      ∧ ∀ x ∈ soundCycles mirror, x < (s.run t body).log.cycle
        ∧ ((∀ y ∈ soundCycles mirror, y ≤ x) → (s.run t body).log.cycle = x + 1) := by
  have hnum := State.numberedAs_iff.mp h
  have hcycle : (body (s.advance t)).log.cycle = nextPowerCycle mirror := congrArg Prod.fst hnum
  rw [State.run_log, hcycle]
  exact ⟨congrArg (fun n => n.2.1) hnum, nextPowerCycle_empty, fun _ => nextPowerCycle_above⟩

/-- Power-on reads the mirror as the loss of power left it. -/
theorem State.porRise_numbered (s : State) (torn : Torn) :
    (s.porRise torn).NumberedAs (nextPowerCycle (if torn = .mirror then s.log.torn else s.log).mirror, 1,
      (if torn = .mirror then s.log.torn else s.log).mirror) := by
  have hboot : s.bootTorn.log = s.log := (State.bootTorn_same (pt := .log) (by decide) (by decide) s s).mpr rfl
  unfold State.porRise
  refine State.assertReset_power (cycle := s.log.cycle) (count := s.log.count) _ 0 0xFF (State.numberedAs_iff.mpr ?_)
  cases torn with
  | none | keyring | mirror => rfl
  | boot => exact congrArg Logbook.numbering hboot

/-- Settles O13: the reset of the Always-on island alone numbers anew, and power-on alone reaches that island. -/
theorem powerCycleSeq : Obligations.PowerCycleSeq := by
  unfold Obligations.PowerCycleSeq
  refine ⟨?_, ?_, ?_⟩
  · intro s t k a top m _
    have hbor : (a.assertReset 1 0 0xFF).NumberedAs (nextPowerCycle a.log.mirror, 1, a.log.mirror) :=
      State.assertReset_power a 1 0xFF (State.numberedAs_iff.mpr rfl)
    exact ⟨⟨_, rfl, State.run_power_seq (a.porRise_numbered k)⟩, ⟨_, rfl, State.run_power_seq hbor⟩⟩
  · intro s t code i temp l
    exact ⟨⟨_, rfl, State.run_keeps_seq (State.resetPinLow_numbered _)⟩,
      ⟨_, rfl, State.run_keeps_seq (State.numberedAs_of_same (by simp [State.resetPinHigh_same, Part.same_refl]))⟩,
      ⟨_, rfl, State.run_keeps_seq (State.watchdogExpires_numbered _)⟩,
      ⟨_, rfl, State.run_keeps_seq (State.debugRequest_numbered _)⟩,
      ⟨_, rfl, State.run_keeps_seq (State.tripped_numbered _ i temp)⟩,
      ⟨_, rfl, State.run_keeps_seq (State.numberedAs_of_same (by simp [State.tripReleased_same, Part.same_refl]))⟩,
      ⟨_, rfl, State.run_keeps_seq (State.numberedAs_of_same (by simp [State.wipesDone_same, Part.same_refl]))⟩,
      ⟨_, rfl, State.run_keeps_seq (State.releaseRow_numbered _)⟩,
      ⟨_, rfl, State.run_keeps_seq (State.clockFails_numbered _ i)⟩⟩
  · intro s t island block c
    exact ⟨⟨_, rfl, State.run_keeps_seq (State.writeBy_resetCommand_numbered _ c _)⟩,
      ⟨_, rfl, State.run_keeps_seq (State.writeBy_resetCommand_numbered _ c _)⟩,
      ⟨_, rfl, State.run_keeps_seq (State.writeBy_resetCommand_numbered _ c _)⟩,
      ⟨_, rfl, State.run_keeps_seq (State.writeBy_resetCommand_numbered _ c _)⟩⟩

end Sys2Proof.Machine
end

section
/-!
PROOF. Chapter 20: an event below LogMinSeverity is neither recorded nor counted (R907).
-/

namespace Sys2Proof.Machine

/-- An event below LogMinSeverity is not taken. -/
theorem State.offer_below {s : State} {e : LogEv} (h : e.sev < s.cfg 0x1408 0) : s.offer e = s := if_pos h

theorem State.offerEvent_below {s : State} {code sev island : Nat} {params : Bytes} (h : sev < s.cfg 0x1408 0) :
    s.offerEvent code sev island params = s := by
  unfold State.offerEvent
  split
  · exact State.offer_below h
  · rfl

/-- Of an applet's event below LogMinSeverity nothing stays but the staged bytes. -/
theorem State.emitApplet_below {s : State} (h : Nat) {word : Nat} (stage : Bytes) (hok : emitOk word = true)
    (hsev : bits word 16 3 < s.cfg 0x1408 0) :
    s.emitApplet h word stage = { s with log := s.log.setWin h fun x => { x with stage := fit 40 stage } } := by
  unfold State.emitApplet
  dsimp only
  rw [if_pos hok]
  exact State.offer_below hsev

/-- Settles O14: the severity is judged before the event is folded, staged or counted. -/
theorem lowSeverityEvents : Obligations.LowSeverityEvents := by
  unfold Obligations.LowSeverityEvents
  refine ⟨fun s e h => State.offer_below h, ?_, ?_⟩
  · intro s t code sev island params a hsev
    refine ⟨_, rfl, Only.run (fun p hp => hp) ?_⟩
    rw [State.offerEvent_below hsev]
    exact Only.refl told a
  · intro s t h word stage a hruns hup hok hsev
    have heffect : (if a.hartRuns h && a.up .aon then a.emitApplet h word stage else a)
        = { a with log := a.log.setWin h fun x => { x with stage := fit 40 stage } } := by
      rw [if_pos (by rw [hruns, hup]; rfl), State.emitApplet_below h stage hok hsev]
    refine ⟨_, rfl, ?_, Only.run (fun p hp => List.mem_append_left _ hp) ?_⟩
    · rw [State.run_log]
      exact congrArg State.log heffect
    · rw [heffect]
      intro p hp
      have hlog : ¬ p = .log := fun e => hp (by rw [e]; decide)
      exact (same_log hlog a a _).mpr (Part.same_refl p a)

end Sys2Proof.Machine
end

section
set_option Elab.async false
/-!
PROOF. Tier 1: what a step runs and what the state after reset holds; and that every command completes (log entries 1, 4, 8, 9).
-/

namespace Sys2Proof.Machine

/-- Settles O1: a step takes the command at the front of the queue, by the definition of `step`. -/
theorem stepTakesFront : Obligations.StepTakesFront := by
  unfold Obligations.StepTakesFront
  constructor
  · intro s c rest h
    simp only [step, h]
  · intro s h
    simp only [step, h]

theorem State.reset_sized : State.reset.sized := by decide +kernel

theorem State.reset_canonical : State.reset.canonical := by decide +kernel

/-- Settles O2: the state after reset is sized and canonical, and nothing waits in it. -/
theorem resetInvariants : Obligations.ResetInvariants :=
  ⟨State.reset_sized, State.reset_canonical, by decide +kernel, rfl⟩

theorem State.reset_up (i : Island) : State.reset.up i = true := by
  cases i <;> decide +kernel

/-- No object has a stored value after reset, so each reads as its default. -/
theorem State.reset_val (k : Nat) : State.reset.val k = State.reset.dflt k := by
  have hnone : State.reset.settings.find? k (State.reset.persists k) = none := by
    unfold Settings.find?
    split
    · rfl
    · split <;> rfl
  unfold State.val
  rw [hnone]

/-- Settles O3: the values of the state after reset, and no object with a stored value. -/
theorem resetLeaves : Obligations.ResetLeaves :=
  ⟨State.reset_up, by decide +kernel, by decide +kernel, rfl, rfl, rfl, rfl, rfl, rfl, rfl, rfl, rfl, rfl, State.reset_val⟩

/-- Settles O4: every meaning is a run, which keeps silicon and queue and sends what waits. -/
theorem commandsComplete : Obligations.CommandsComplete := by
  unfold Obligations.CommandsComplete
  intro s c
  obtain ⟨t, body, he, -⟩ := exec_latches c s
  exact ⟨s.run t body, he, Nat.le_max_left _ _, rfl, rfl, State.run_quiet s t body⟩

end Sys2Proof.Machine
end

section
set_option Elab.async false
/-!
PROOF. What each command leaves unchanged: the frames of its operations, one law per operation.
-/

namespace Sys2Proof.Machine

/-- A command moves nothing but what its effect moves. -/
theorem Yields.frame {ps : List Part} {s : State} {t : Nat} {body : State → State} (hp : ∀ p ∈ told, p ∈ ps)
    (h : ∀ (a : State) (p : Part), p ∉ ps → p.same a (body a)) : Yields (.next (s.run t body)) fun w => Only ps (s.advance t) w :=
  .next (.run hp (h _))

/-! ### Guards of commands -/

section
variable {p : Part} {a : State}

theorem State.usdoAccess_same (hd : ¬ p = .dict) (ho : ¬ p = .out) (s : State) (port client : Nat) (kind : UsdoKind) (k : Nat)
    (body : State → State × Option Ans) (hb : ∀ y, p.same a (body y).1 ↔ p.same a y) :
    p.same a (s.usdoAccess port client kind k body) ↔ p.same a s := by
  unfold State.usdoAccess
  split
  · rfl
  · cases kind with
    | unicast => exact State.access_same hd ho a s _ _ _ _ body hb
    | broadcast | routed => exact State.emit_same ho a s _

theorem State.transactCancel_same (hd : ¬ p = .dict) (ho : ¬ p = .out) (hc : ¬ p = .can) (hf : ¬ p = .free) (s : State) (c : Caller)
    (req : Bytes) (trying : Bool) : p.same a (s.transactCancel c req trying) ↔ p.same a s :=
  State.access_same hd ho a s _ _ _ _ _ fun y => State.transactWith_same a y c 0x2840 0 req _ fun z => State.canTx_same hd hc ho hf a z c req trying

theorem State.takeAnswer_same (hd : ¬ p = .dict) (ho : ¬ p = .out) (hs : ¬ p = .settings) (hf : ¬ p = .fabric) (hr : ¬ p = .replies)
    (hx : ¬ p = .free) (s : State) (c : Caller) (q : Rec) : p.same a (s.takeAnswer c q) ↔ p.same a s := by
  unfold State.takeAnswer
  split
  · unfold State.refuseRec
    split
    · exact State.onSession_same hd a s _ _
    · rfl
  · exact State.access_same hd ho a s _ _ _ _ _ fun y => State.appletAnswer_same hd hs hf hr ho hx a y _ _ _
end

/-! ### The frames -/

/-- Settles O50, by the law of each operation about the parts it does not move. -/
theorem frameTime : Obligations.FrameTime := by
  unfold Obligations.FrameTime
  refine ⟨?_, ?_, ?_, ?_, ?_, ?_, ?_, ?_, ?_, ?_, ?_, ?_⟩
  all_goals
    intros
    refine .frame (by decide) fun a p hp => ?_
    simp only [told, List.cons_append, List.nil_append, List.mem_cons, List.not_mem_nil, or_false, not_or] at hp
    simp [hp, State.refinLost_same, State.refinBack_same, State.timeOffset_same, State.qualify_same, State.sourceGone_same,
      State.acquire_same, State.timeStepped_same, State.pulseDue_same, State.pulseEnd_same, State.todDue_same, State.capEdge_same,
      State.postCaptures_same, Part.same_refl]

/-- Settles O51, by the law of each operation about the parts it does not move. -/
theorem frameGnss : Obligations.FrameGnss := by
  unfold Obligations.FrameGnss
  refine ⟨?_, ?_, ?_, ?_, ?_, ?_, ?_, ?_, ?_, ?_, ?_, ?_, ?_, ?_, ?_, ?_, ?_, ?_, ?_, ?_, ?_, ?_, ?_, ?_, ?_, ?_⟩
  all_goals
    intros
    refine .frame (by decide) fun a p hp => ?_
    simp only [told, List.cons_append, List.nil_append, List.mem_cons, List.not_mem_nil, or_false, not_or] at hp
    simp [hp, State.trackEpoch_same, State.navMessage_same, State.lockStep_same, State.clearPeak_same, State.jamClear_same,
      State.gsGap_same, State.bumpJump_same, State.lockTimeout_same, State.ownDone_same, State.watchDwell_same, State.clockLost_same,
      State.clockBack_same, State.agcUpdate_same, State.exposureArrival_same, State.reacquire_same, State.exposureStart_same,
      State.ownStart_same, State.standbyExposure_same, State.devResult_same, State.standbyResult_same, State.baseEpoch_same,
      State.transactBy_same, State.obsArrival_same, State.roverStart_same, State.roverDone_same, State.portOp_same, Part.same_refl]

/-- Settles O52, by the law of each operation about the parts it does not move. -/
theorem frameComb : Obligations.FrameComb := by
  unfold Obligations.FrameComb
  refine ⟨?_, ?_, ?_, ?_, ?_, ?_, ?_, ?_, ?_, ?_, ?_, ?_, ?_, ?_, ?_, ?_, ?_, ?_, ?_, ?_, ?_, ?_, ?_, ?_, ?_, ?_, ?_, ?_, ?_, ?_⟩
  all_goals
    intros
    refine .frame (by decide) fun a p hp => ?_
    simp only [told, List.cons_append, List.nil_append, List.mem_cons, List.not_mem_nil, or_false, not_or] at hp
    simp [hp, State.epochAge_same, State.sweep_same, State.blockSlot_same, State.blockExpire_same, State.retireDone_same,
      State.presume_same, State.syncAnswered_same, State.transactBy_same, State.acceptNext_same, State.judgeRow_same, State.resume_same,
      State.trimRow_same, State.prepareAnswer_same, State.prepareTimeout_same, State.loseNeighbour_same, State.repeatPhase_same,
      State.sendHeartbeats_same, State.nbrOpen_same, State.nbrAnswered_same, State.portOp_same, Part.same_refl]

/-- Settles O53, by the law of each operation about the parts it does not move. -/
theorem frameConfStop : Obligations.FrameConfStop := by
  unfold Obligations.FrameConfStop
  refine ⟨?_, ?_, ?_, ?_, ?_, ?_, ?_, ?_, ?_, ?_, ?_, ?_, ?_, ?_, ?_, ?_, ?_, ?_, ?_⟩
  all_goals
    intros
    refine .frame (by decide) fun a p hp => ?_
    simp only [told, List.cons_append, List.nil_append, List.mem_cons, List.not_mem_nil, or_false, not_or] at hp
    simp [hp, State.confRow_same, State.freshTick_same, State.deviceTick_same, State.swarmDeadline_same, State.swarmInstant_same,
      State.siPin_same, State.soPulseBegin_same, State.soRecovered_same, State.repeatNotice_same, State.sendVotes_same,
      State.siDebounced_same, State.siDiscrepant_same, State.soFaulted_same, State.soPulseJudge_same, State.channelsDisagree_same,
      State.transactBy_same, State.portOp_same, Part.same_refl]

/-- Settles O54, by the law of each operation about the parts it does not move. -/
theorem frameRadio : Obligations.FrameRadio := by
  unfold Obligations.FrameRadio
  refine ⟨?_, ?_, ?_, ?_, ?_, ?_, ?_, ?_, ?_, ?_, ?_, ?_⟩
  all_goals
    intros
    refine .frame (by decide) fun a p hp => ?_
    simp only [told, List.cons_append, List.nil_append, List.mem_cons, List.not_mem_nil, or_false, not_or] at hp
    simp [hp, State.linkEvent_same, State.linkReply_same, State.superviseLink_same, State.joinTimeout_same, State.sendBeacon_same,
      State.joinRequest_same, State.nbrBeacon_same, State.sendWaggle_same, State.applyUpdate_same, State.replanModem_same,
      State.transactBy_same, State.portOp_same, Part.same_refl]

/-- Settles O55, by the law of each operation about the parts it does not move. -/
theorem frameNetCan : Obligations.FrameNetCan := by
  unfold Obligations.FrameNetCan
  refine ⟨?_, ?_, ?_, ?_, ?_, ?_, ?_, ?_, ?_, ?_, ?_, ?_, ?_, ?_, ?_, ?_, ?_, ?_, ?_, ?_, ?_, ?_, ?_, ?_, ?_⟩
  all_goals
    intros
    refine .frame (by decide) fun a p hp => ?_
    simp only [told, List.cons_append, List.nil_append, List.mem_cons, List.not_mem_nil, or_false, not_or] at hp
    simp [hp, State.frameIn_same, State.frameOut_same, State.ageOut_same, State.syncOut_same, State.delayReqOut_same,
      State.delayReqIn_same, State.delayRespIn_same, State.controlWord_same, State.pcsSync_same, State.syncIn_same,
      State.announceIn_same, State.announceTimeout_same, State.syncTimeout_same, State.announceOut_same, State.canFrameIn_same,
      State.transactBy_same, State.transactCancel_same, State.attemptEnd_same, State.canRxError_same, State.canRecovered_same,
      State.canIntegrated_same, State.tmBoundary_same, State.canSleepIn_same, State.canEdge_same, State.fifoPost_same, State.portOp_same,
      Part.same_refl]

/-- Settles O56, by the law of each operation about the parts it does not move. -/
theorem frameFabric : Obligations.FrameFabric := by
  unfold Obligations.FrameFabric
  refine ⟨?_, ?_, ?_, ?_, ?_, ?_, ?_, ?_, ?_, ?_, ?_, ?_, ?_, ?_, ?_, ?_, ?_, ?_, ?_⟩
  all_goals
    intros
    refine .frame (by decide) fun a p hp => ?_
    simp only [told, List.cons_append, List.nil_append, List.mem_cons, List.not_mem_nil, or_false, not_or] at hp
    simp [hp, State.byHart, State.fetchOp_same, State.completeOp_same, State.decrementOp_same, State.onQueue, State.queueStore,
      State.abandonOp_same, State.fetchReturn_same, State.fetchExpires_same, State.submitOp_same, State.reissueOp_same, State.popOp_same,
      State.pushOp_same, State.openOp_same, State.tagOp_same, State.dropOp_same, State.appletSilent_same, State.look_same,
      State.load_same, State.closeOp_same, State.replyOp_same, State.takeAnswer_same, State.accessFault_same, Part.same_refl]

/-- Settles O57, by the law of each operation about the parts it does not move. -/
theorem frameHealthLog : Obligations.FrameHealthLog := by
  unfold Obligations.FrameHealthLog
  refine ⟨?_, ?_, ?_, ?_, ?_, ?_, ?_, ?_, ?_, ?_, ?_, ?_, ?_, ?_, ?_, ?_, ?_, ?_, ?_, ?_, ?_, ?_, ?_, ?_, ?_⟩
  all_goals
    intros
    refine .frame (by decide) fun a p hp => ?_
    simp only [told, List.cons_append, List.nil_append, List.mem_cons, List.not_mem_nil, or_false, not_or] at hp
    simp [hp, State.tempAbove_same, State.marginSampled_same, State.tempBelow_same, State.tripReleased_same, State.releaseSource_same,
      State.resetPinHigh_same, State.wipesDone_same, State.stepSwitched_same, State.vreqMoved_same, State.rowFails_same,
      State.faultIn_same, State.pageFails_same, State.logWriteNext_same, State.offerEvent_same, State.mirrorOp_same,
      State.timeMarkDue_same, State.emitApplet_same, State.transactBy_same, State.restartEnds_same, State.storeError_same,
      State.corrected_same, State.watchdogServed_same, State.portOp_same, Part.same_refl]

/-- Settles O58, by the law of each operation about the parts it does not move. -/
theorem frameDictKeysBoot : Obligations.FrameDictKeysBoot := by
  unfold Obligations.FrameDictKeysBoot
  refine ⟨?_, ?_, ?_, ?_, ?_, ?_, ?_, ?_, ?_, ?_, ?_, ?_, ?_, ?_, ?_, ?_⟩
  all_goals
    intros
    refine .frame (by decide) fun a p hp => ?_
    simp only [told, List.cons_append, List.nil_append, List.mem_cons, List.not_mem_nil, or_false, not_or] at hp
    simp [hp, State.hello_same, State.notifyDue_same, State.coilClosed_same, State.coilIdle_same, State.xferAbandon_same,
      State.boantInfo_same, State.holdTimeout_same, State.usdoAccess_same, State.usdoRead_same, State.clashSilent_same,
      State.keyReload_same, State.transactBy_same, State.retryCarried_same, State.boantHeader_same, State.boantPayload_same,
      State.portOp_same, Part.same_refl]

end Sys2Proof.Machine
end

section
set_option Elab.async false
/-!
PROOF. Frames of writes that pass the checks: a commit object moves what its group's commit moves, a command object what its command moves,
and a stored value its place in the settings and what its block does with it.
-/

namespace Sys2Proof.Machine

/-! ### Kinds of objects over ranges of indices -/

/-- The kind of an object, where every row that meets a range of indices and subindices is of one kind. -/
theorem kind_within {lo hi slo shi k : Nat}
    (hk : ∀ r ∈ objTable, r.idx < hi → lo < r.idx + r.nIdx → r.sub < shi → slo < r.sub + r.nSub → r.kind = k) {idx sub : Nat}
    (hlo : lo ≤ idx) (hhi : idx < hi) (hslo : slo ≤ sub) (hshi : sub < shi) {r : ObjRow} (h : findObj idx sub = some r) : r.kind = k := by
  obtain ⟨hm, hh⟩ := findObj_mem h
  simp only [ObjRow.has, ObjRow.hasIdx, Bool.and_eq_true, decide_eq_true_eq] at hh
  exact hk r hm (by omega) (by omega) (by omega) (by omega)

/-- The kind of an object, where every row at an index with subindices from one on is of one kind. -/
theorem kind_from {idx slo k : Nat} (hk : ∀ r ∈ objTable, r.idx ≤ idx → idx < r.idx + r.nIdx → slo < r.sub + r.nSub → r.kind = k) {sub : Nat}
    (hslo : slo ≤ sub) {r : ObjRow} (h : findObj idx sub = some r) : r.kind = k := by
  obtain ⟨hm, hh⟩ := findObj_mem h
  simp only [ObjRow.has, ObjRow.hasIdx, Bool.and_eq_true, decide_eq_true_eq] at hh
  exact hk r hm (by omega) (by omega) (by omega)

/-! ### Frames of the three kinds -/

section
variable {ps : List Part} {s : State} {t : Nat} {c : Caller} {idx sub : Nat} {v : Bytes}

theorem Yields.commitFrame (h : (s.advance t).writes c idx sub v = true) (hi : idx < 0x6000) (hk : ∀ r, findObj idx sub = some r → r.kind = 0)
    (hp : ∀ p ∈ told, p ∈ ps) (hf : ∀ (x : State) (p : Part), p ∉ ps → p.same x (x.groupCommit idx c).1) :
    Yields (.next (s.run t fun s => s.writeBy c idx sub v)) fun w => Only ps (s.advance t) w := by
  obtain ⟨d, -, -, h2⟩ := State.run_commit h (.inl hi) hk
  refine .next (h2 ps hp (Only.trans (Only.withDict _ d (hp _ (by decide))) fun p hn => ?_))
  unfold State.commitGroup
  split
  · exact Part.same_refl p _
  · exact hf _ p hn

theorem Yields.commandFrame (h : (s.advance t).writes c idx sub v = true) (hi : idx < 0x6000 ∨ 0x7000 ≤ idx)
    (hk : ∀ r, findObj idx sub = some r → r.kind = 2)
    (hp : ∀ p ∈ told, p ∈ ps) (hf : ∀ (x : State) (p : Part), p ∉ ps → p.same x (x.command c idx sub v).1) :
    Yields (.next (s.run t fun s => s.writeBy c idx sub v)) fun w => Only ps (s.advance t) w := by
  obtain ⟨d, -, -, h2⟩ := State.run_command h hi hk
  exact .next (h2 ps hp (Only.trans (Only.withDict _ d (hp _ (by decide))) fun p hn => hf _ p hn))

theorem Yields.storedFrame (h : (s.advance t).writes c idx sub v = true) (hi : idx < 0x6000 ∨ 0x7000 ≤ idx)
    (hk : ∀ r, findObj idx sub = some r → r.kind = 3)
    (hp : ∀ p ∈ told, p ∈ ps) (hf : ∀ (x : State) (p : Part), p ∉ ps → p.same x (x.applyWrite idx sub v).1) :
    Yields (.next (s.run t fun s => s.writeBy c idx sub v)) fun w => Only ps (s.advance t) w := by
  obtain ⟨d, -, -, h2⟩ := State.run_stored h hi hk
  exact .next (h2 ps hp (Only.trans (Only.withDict _ d (hp _ (by decide))) fun p hn => hf _ p hn))

end

/-! ### Rows of the dictionary -/

theorem commit_kind {idx : Nat} (h : idx ∈ commitIndices) {r : ObjRow} (hr : findObj idx 0 = some r) : r.kind = 0 :=
  kind_of (commitIndices_kind idx h) hr

theorem counter_kind {n : Nat} {r : ObjRow} (hr : findObj 0x1330 (n + 1) = some r) : r.kind = 3 :=
  kind_from (slo := 1) (by decide +kernel) (by omega) hr

theorem ethConfig_kind {n : Nat} {r : ObjRow} (hr : findObj 0x2400 (n + 1) = some r) : r.kind = 3 :=
  kind_from (slo := 1) (by decide +kernel) (by omega) hr

theorem linkEnd_kind {n : Nat} (hn : n < 1024) {r : ObjRow} (hr : findObj (0x7000 + n) 0x55 = some r) : r.kind = 2 :=
  kind_within (lo := 0x7000) (hi := 0x7400) (slo := 0x55) (shi := 0x56) (by decide +kernel) (by omega) (by omega) (by omega) (by omega) hr

theorem snapshot_kind {r : ObjRow} (hr : findObj 0x1332 0 = some r) : r.kind = 2 := kind_of (by decide +kernel) hr

theorem stop_kind {r : ObjRow} (hr : findObj 0x4840 0 = some r) : r.kind = 2 := kind_of (by decide +kernel) hr

/-- The reset of a sample port moves the Tracking island's state, and the Logbook. -/
theorem State.resetPort_same {p : Part} (hp : ¬ p = .dict ∧ ¬ p = .out ∧ ¬ p = .replies ∧ ¬ p = .track ∧ ¬ p = .log) (x : State) (c : Caller)
    {v : Bytes} (h4 : u v 0 1 = 4) (h8 : u v 1 1 = 8) : p.same x (x.resetCommand c v).1 := by
  have hb : p.same x (x.resetBlockOf 8 (u v 2 2)) := by
    simp [State.resetBlockOf, hp, State.setTrack_same, State.setPort_same, State.logEv_same, Part.same_refl]
  unfold State.resetCommand
  simp only [h4, h8, if_true]
  split
  · exact Part.same_refl p x
  · exact hb

/-- Settles O59: a commit moves what its group's commit moves, a command what its operation moves, a stored value its block. -/
theorem frameCommands : Obligations.FrameCommands := by
  unfold Obligations.FrameCommands
  refine ⟨?_, ?_, ?_, ?_, ?_, ?_, ?_, ?_, ?_, ?_, ?_, ?_, ?_, ?_, ?_⟩
  case refine_14 =>
    intro s t c n b a h
    refine .storedFrame h (.inl (by decide)) (fun _ => ethConfig_kind) (by decide) fun x p hp => ?_
    simp only [told, List.cons_append, List.nil_append, List.mem_cons, List.not_mem_nil, or_false, not_or] at hp
    unfold State.applyWrite
    rw [if_neg (by decide), if_neg (by simp), if_neg (by simp)]
    split
    · exact Part.same_refl p x
    · simp [hp, State.storedAt, State.ethConfigured_same, State.setVal_same, Part.same_refl]
  case refine_10 =>
    intro s t c n v a h
    refine .storedFrame h (.inl (by decide)) (fun _ => counter_kind) (by decide) fun x p hp => ?_
    simp only [told, List.cons_append, List.nil_append, List.mem_cons, List.not_mem_nil, or_false, not_or] at hp
    unfold State.applyWrite
    rw [if_neg (by decide), if_neg (by simp), if_neg (by simp)]
    split
    · exact Part.same_refl p x
    · simp [hp, State.storedAt, State.counterCleared_same, State.setVal_same, Part.same_refl]
  case refine_13 =>
    intro s t c n a h
    by_cases hn : n < 1024
    · have hw := Yields.commandFrame (ps := told ++ [.conf, .stop, .radio, .log]) h (.inr (by omega)) (fun _ => linkEnd_kind hn) (by decide)
        fun x p hp => by
          simp only [told, List.cons_append, List.nil_append, List.mem_cons, List.not_mem_nil, or_false, not_or] at hp
          simp [State.command, State.machineCommand, hp, State.endLink_same, Part.same_refl]
      show Yields (execLinkEnd t c n s) _
      unfold execLinkEnd
      simpa only [if_pos hn] using hw
    · exact .frame (by decide) fun x p _ => by simp [hn, Part.same_refl]
  case refine_6 =>
    intro s t c n a h hn
    have hi : 0x2820 + n ∈ commitIndices := by interval_cases n <;> decide
    have hw := Yields.commitFrame (ps := told ++ [.settings, .can]) h (by omega) (fun _ => commit_kind hi) (by decide) fun x p hp => by
      simp only [told, List.cons_append, List.nil_append, List.mem_cons, List.not_mem_nil, or_false, not_or] at hp
      have h1 : ¬ 0x2820 + n < 0x2108 := by omega
      have h2 : 0x2820 + n < 0x2828 := by omega
      simp [State.groupCommit, h1, h2, hp, State.canPortCommitted_same, State.applyGroup_same, Part.same_refl]
    show Yields (execCanPortCommit t c n s) _
    unfold execCanPortCommit
    simpa only [if_pos hn] using hw
  case refine_15 =>
    intro s t c n a h
    refine .commandFrame h (.inl (by decide)) (fun _ => kind_of resetCommand_kind) (by decide) fun x p hp => ?_
    simp only [told, List.cons_append, List.nil_append, List.mem_cons, List.not_mem_nil, or_false, not_or] at hp
    exact State.resetPort_same hp x c (v := [4, 8] ++ leBytes 2 n) rfl rfl
  case refine_11 =>
    intro s t c a h
    refine .commandFrame h (.inl (by decide)) (fun _ => snapshot_kind) (by decide) fun x p hp => ?_
    simp only [told, List.cons_append, List.nil_append, List.mem_cons, List.not_mem_nil, or_false, not_or] at hp
    simp [State.command, hp, State.snapshotTaken_same, Part.same_refl]
  case refine_12 =>
    intro s t c b a h
    refine .commandFrame h (.inl (by decide)) (fun _ => stop_kind) (by decide) fun x p hp => ?_
    simp only [told, List.cons_append, List.nil_append, List.mem_cons, List.not_mem_nil, or_false, not_or] at hp
    simp [State.command, hp, State.stopCmd_same, Part.same_refl]
  all_goals
    intro s t c a h
    refine .commitFrame h (by decide) (fun _ => commit_kind (by decide)) (by decide) fun x p hp => ?_
    simp only [told, List.cons_append, List.nil_append, List.mem_cons, List.not_mem_nil, or_false, not_or] at hp
    simp [State.groupCommit, hp, State.trackCommitted_same, State.baseCommitted_same, State.ptpCommitted_same, State.canTmCommitted_same,
      State.radioCommitted_same, State.internalOp_same, State.applyGroup_same, Part.same_refl]

end Sys2Proof.Machine
end

section
set_option Elab.async false
/-!
PROOF. Field by field: what an event of the device and a count leave; bits, tables and frames.
-/

namespace Sys2Proof.Machine

/-! ### The device's own events -/

/-- An event moves the Logbook alone. -/
theorem State.logEv_eq (s : State) (ev : Ev) (p : Bytes) : s.logEv ev p = { s with log := (s.logEv ev p).log } := by
  unfold State.logEv State.offer
  repeat' split
  all_goals rfl

theorem State.logEv_can (s : State) (ev : Ev) (p : Bytes) : (s.logEv ev p).can = s.can := by rw [s.logEv_eq]
theorem State.logEv_out (s : State) (ev : Ev) (p : Bytes) : (s.logEv ev p).out = s.out := by rw [s.logEv_eq]
theorem State.logEv_health (s : State) (ev : Ev) (p : Bytes) : (s.logEv ev p).health = s.health := by rw [s.logEv_eq]
theorem State.logEv_tb (s : State) (ev : Ev) (p : Bytes) : (s.logEv ev p).tb = s.tb := by rw [s.logEv_eq]
theorem State.logEv_now (s : State) (ev : Ev) (p : Bytes) : (s.logEv ev p).now = s.now := by rw [s.logEv_eq]
theorem State.logEv_outs (s : State) (ev : Ev) (p : Bytes) : (s.logEv ev p).outs = s.outs := by rw [s.logEv_eq]
theorem State.logEv_settings (s : State) (ev : Ev) (p : Bytes) : (s.logEv ev p).settings = s.settings := by rw [s.logEv_eq]
theorem State.logEv_fabric (s : State) (ev : Ev) (p : Bytes) : (s.logEv ev p).fabric = s.fabric := by rw [s.logEv_eq]
theorem State.logEv_islands (s : State) (ev : Ev) (p : Bytes) : (s.logEv ev p).islands = s.islands := by rw [s.logEv_eq]

/-- A count moves the counters alone. -/
theorem State.count_eq (s : State) (source param n : Nat) : s.count source param n = { s with health := (s.count source param n).health } := by
  unfold State.count
  split <;> rfl

theorem State.count_health (s : State) (source param n : Nat) : ∃ l, (s.count source param n).health = { s.health with counters := l } := by
  unfold State.count
  split
  · exact ⟨_, rfl⟩
  · exact ⟨_, rfl⟩

/-! ### Bits -/

theorem bit_or (v w i : Nat) : bit (v ||| w) i = (bit v i || bit w i) := by
  have hb (n : Nat) : bit n i = n.testBit i := by rw [Nat.testBit_eq_decide_div_mod_eq]; rfl
  rw [hb, hb, hb, Nat.testBit_or]

theorem setBit_ne_zero (v i : Nat) : setBit v i ≠ 0 := by
  have : bit (setBit v i) i = true := bit_setBit v i
  intro e
  simp [e, bit] at this

/-- A number is read back from its bytes. -/
theorem leNat_leBytes (n v : Nat) : leNat (leBytes n v) = v % 256 ^ n := by
  induction n generalizing v with
  | zero => simp [leBytes, leNat, Nat.mod_one]
  | succ n ih =>
    show (byte v).toNat + 256 * leNat (leBytes n (v / 256)) = _
    rw [ih, Nat.pow_succ', Nat.mod_mul, byte, BitVec.toNat_ofNat]

/-! ### Tables -/

theorem Tbl.getD_put {α : Type} (t : Tbl α) (k : Nat) (v d : α) : Tbl.getD (Tbl.put t k v) k d = v := by
  unfold Tbl.getD
  rw [Tbl.get?_put]

theorem Tbl.getD_put_ne {α : Type} {t : Tbl α} {k j : Nat} {v d : α} (h : j ≠ k) : Tbl.getD (Tbl.put t k v) j d = Tbl.getD t j d := by
  unfold Tbl.getD
  rw [Tbl.get?_put_ne h]

/-! ### Frames -/

/-- A part outside a list is none of the list's. -/
theorem Part.ne_of_notMem {p q : Part} {ps : List Part} (h : p ∉ ps) (hq : q ∈ ps) : ¬ p = q := fun e => h (e ▸ hq)

/-- What an operation leaves beside the parts of a list, the states before and after it differ in no more than the list. -/
theorem Only.step {ps : List Part} {a x y : State} (h : Only ps a x) (k : ∀ p, p ∉ ps → (p.same a y ↔ p.same a x)) : Only ps a y :=
  fun p hn => (k p hn).mpr (h p hn)

section
variable {ps : List Part} {a x : State} (h : Only ps a x)
include h

theorem Only.tb (hp : Part.tb ∈ ps) (b : Timebase) : Only ps a { x with tb := b } := h.step fun _ hn => same_tb (Part.ne_of_notMem hn hp) ..
theorem Only.can (hp : Part.can ∈ ps) (b : Can) : Only ps a { x with can := b } := h.step fun _ hn => same_can (Part.ne_of_notMem hn hp) ..
theorem Only.health (hp : Part.health ∈ ps) (b : Health) : Only ps a { x with health := b } := h.step fun _ hn => same_health (Part.ne_of_notMem hn hp) ..

end

end Sys2Proof.Machine
end

section
set_option Elab.async false
/-!
PROOF. Queues: what a packet that is posted leaves in them.
-/

namespace Sys2Proof.Machine

/-! ### Decrements leave the queues alone -/

theorem Fabric.setDesc_queues (f : Fabric) (d : Nat) (x : Desc) : (f.setDesc d x).queues = f.queues := rfl

theorem Fabric.enter_queues (f : Fabric) (d : Nat) (x : Desc) : (f.enter d x).queues = f.queues := by
  unfold Fabric.enter
  split <;> rfl

theorem Fabric.decr_queues (f : Fabric) (d : Nat) : (f.decr d).1.queues = f.queues := by
  unfold Fabric.decr
  extract_lets x
  split
  · exact Fabric.enter_queues _ _ _
  · split <;> rfl
  · split <;> rfl
  · rfl
  · rfl
  · rfl

theorem State.decr_queues (s : State) (d : Nat) : (s.decr d).fabric.queues = s.fabric.queues := by
  unfold State.decr
  extract_lets r x
  split
  · rw [State.logEv_fabric]
    exact Fabric.decr_queues _ _
  · exact Fabric.decr_queues _ _

theorem State.decrN_queues (s : State) (d n : Nat) : (s.decrN d n).fabric.queues = s.fabric.queues := by
  induction n generalizing s with
  | zero => rfl
  | succ n ih => exact (ih _).trans (State.decr_queues s d)

/-! ### Packets -/

/-- A queue whose packets are replaced. -/
theorem State.setPkts_queues (s : State) (q : Nat) (pkts : List Pkt) :
    (s.setPkts q pkts).fabric.queues = Tbl.put s.fabric.queues q { s.fabric.queue q with pkts := pkts } := by
  unfold State.setPkts
  extract_lets old was fresh x
  split
  · exact State.decrN_queues _ _ _
  · rfl

theorem State.count_fabric (s : State) (i j n : Nat) : (s.count i j n).fabric = s.fabric := by rw [State.count_eq]

theorem Fabric.queue_of_put {f g : Fabric} {q : Nat} {x : Queue} (h : f.queues = Tbl.put g.queues q x) : f.queue q = x := by
  unfold Fabric.queue
  rw [h, Tbl.getD_put]

theorem Fabric.queue_of_put_ne {f g : Fabric} {q j : Nat} {x : Queue} (h : f.queues = Tbl.put g.queues q x) (hj : j ≠ q) : f.queue j = g.queue j := by
  unfold Fabric.queue
  rw [h, Tbl.getD_put_ne hj]

theorem State.setPkts_pkts (s : State) (q : Nat) (pkts : List Pkt) : ((s.setPkts q pkts).fabric.queue q).pkts = pkts := by
  rw [Fabric.queue_of_put (State.setPkts_queues s q pkts)]

/-- The packet that an engine posts. -/
def State.posted (s : State) (data : Bytes) : Pkt := ⟨s.fabric.pktNext, 0, toWords (data.length / 4 + 1) data, .closed⟩

/-- What a post that succeeds leaves in the queues. -/
theorem State.post?_queues {s v : State} {q : Nat} {data : Bytes} (h : s.post? q data = some v) :
    v.fabric.queues = Tbl.put s.fabric.queues q { s.fabric.queue q with pkts := (s.fabric.queue q).pkts ++ [s.posted data] } := by
  unfold State.post? at h
  extract_lets words p x at h
  split at h
  · cases h
    rw [State.count_fabric]
    exact State.setPkts_queues _ _ _
  · cases h

theorem State.post?_pkts {s v : State} {q : Nat} {data : Bytes} (h : s.post? q data = some v) :
    (v.fabric.queue q).pkts = (s.fabric.queue q).pkts ++ [s.posted data] := by
  rw [Fabric.queue_of_put (State.post?_queues h)]

/-- A post succeeds where the Fabric runs and the queue has room. -/
theorem State.post?_isSome {s : State} {q : Nat} {data : Bytes} (hu : s.up .fabric = true)
    (hb : s.hasBlocks q (pktBlocks (toWords (data.length / 4 + 1) data).length) = true)
    (ho : (s.fabric.queue q).pkts.countP (fun p => p.phase.isOpen) < 8) : ∃ v, s.post? q data = some v := by
  unfold State.post?
  extract_lets words p x
  rw [if_pos (by rw [hu, show s.hasBlocks q (pktBlocks words.length) = true from hb, show decide _ = true from decide_eq_true ho]; rfl)]
  exact ⟨_, rfl⟩

end Sys2Proof.Machine
end

section
set_option Elab.async false
/-!
PROOF. O32: REFIN, time sources, the acquisition step and the armed step.
-/

namespace Sys2Proof.Machine

/-! ### What the servo leaves of the sources -/

/-- What a source last delivered, and whether it is present and qualified. -/
def TimeSrc.reading (x : TimeSrc) : Bool × Bool × Int × Nat := (x.present, x.qualified, x.last, x.lastAt)

/-- Each source's reading. -/
def Timebase.readings (b : Timebase) : List (Bool × Bool × Int × Nat) := b.srcs.map TimeSrc.reading

theorem Timebase.src_reading {b d : Timebase} (h : b.readings = d.readings) (c : Nat) : (b.src c).reading = (d.src c).reading := by
  have (x : Timebase) : (x.src c).reading = x.readings.getD (c - 1) TimeSrc.none.reading := (List.getD_map ..).symm
  rw [this, this, h]

theorem State.repeat_tb (n : Nat) (s : State) (ev : Ev) (p : Bytes) : (Nat.repeat (fun s : State => s.logEv ev p) n s).tb = s.tb := by
  induction n with
  | zero => rfl
  | succ n ih => rw [Nat.repeat, State.logEv_tb, ih]

theorem State.markDisagree_readings (s : State) : s.markDisagree.tb.readings = s.tb.readings := by
  unfold State.markDisagree
  rw [State.repeat_tb]
  show List.map _ (List.map _ _) = _
  rw [List.map_map]
  rfl

theorem State.enterSlew_readings (s : State) (c : Nat) : (s.enterSlew c).tb.readings = s.tb.readings := rfl

theorem State.enterHold_readings (s : State) (j : Bool) : (s.enterHold j).tb.readings = s.tb.readings := by
  unfold State.enterHold
  extract_lets e b d x
  split
  · rw [State.logEv_tb]; rfl
  · rfl

/-- The servo moves neither what a source last delivered nor whether it is present and qualified. -/
theorem State.servo_readings (s : State) : s.servo.tb.readings = s.tb.readings := by
  unfold State.servo
  extract_lets m cand jump
  rw [show s.tb.readings = m.tb.readings from s.markDisagree_readings.symm]
  clear_value m cand jump
  split <;> (repeat' split) <;> first | rfl | exact m.enterHold_readings _ | exact (congrArg Timebase.readings (State.logEv_tb ..)).trans rfl

theorem State.steer_readings (s : State) (c : Nat) (off : Int) : (s.steer c off).tb.readings = s.tb.readings := by
  unfold State.steer
  split <;> rfl

theorem Timebase.setSrc_src {b : Timebase} {c : Nat} (h : b.srcs.length = 4) (h1 : 1 ≤ c) (h4 : c ≤ 4) (f : TimeSrc → TimeSrc) :
    (b.setSrc c f).src c = f (b.src c) := modNth_getD f TimeSrc.none (by omega)

/-! ### Steps -/

/-- TIME64 of a count taken at the instant itself. -/
theorem Timebase.time64_anchor (b : Timebase) (t : Nat) (h : b.anchor = t) : b.time64 t = b.phase.fdiv fineUnit := by
  unfold Timebase.time64 Timebase.fine
  rw [h]
  simp

/-- The count taken anew is the count. -/
theorem Timebase.rebase_time64 (b : Timebase) (t : Nat) (r : Int) : (b.rebase t r).time64 t = b.time64 t := by
  refine (Timebase.time64_anchor _ t rfl).trans ?_
  show Int.fdiv (Triple.of (b.fine t)).vote _ = _
  rw [Triple.of_vote]
  rfl

theorem State.moveTime_time64 (s : State) (d : Int) : (s.moveTime d).time64 = s.time64 + d := by
  have h : (s.moveTime d).time64 = (s.tb.fine s.now + d * fineUnit).fdiv fineUnit := by
    refine (Timebase.time64_anchor (s.moveTime d).tb s.now rfl).trans ?_
    show Int.fdiv (Triple.of _).vote _ = _
    rw [Triple.of_vote]
  rw [h, Int.add_mul_fdiv_right _ _ (by decide)]
  rfl

theorem State.stepMark_eq (s : State) : s.stepMark = { s with log := s.stepMark.log } := by
  unfold State.stepMark State.timeMark
  rw [s.logEv_eq]

/-- TIME64 rests on the count as the Timebase holds it. -/
theorem State.time64_count {x y : State} (ha : x.tb.anchor = y.tb.anchor) (hc : x.tb.count = y.tb.count) (hr : x.tb.rate = y.tb.rate)
    (hn : x.now = y.now) : x.time64 = y.time64 := by
  unfold State.time64 Timebase.time64 Timebase.fine Timebase.phase
  rw [ha, hc, hr, hn]

/-- The step from FREERUN: the source's time, with every output driven. -/
theorem State.acquire_takes {s : State} {c : Nat} (hu : s.up .timebase = true) (hf : s.tb.st = .freerun) (hc : s.candidate = some c)
    (hz : (s.time64 - s.tb.predict (s.tb.src c) s.now) % (1000000000 : Int) = 0) :
    s.acquire.tb.st = .locked ∧ s.acquire.tb.source = c ∧ s.acquire.time64 = s.time64 - s.tb.predict (s.tb.src c) s.now ∧
      ∀ o ∈ s.acquire.outs, o.floating = false := by
  have hif : (s.tb.st = .freerun && s.up .timebase && (s.time64 - s.tb.predict (s.tb.src c) s.now) % (sec : Int) = 0) = true := by
    simp only [hu, hf, decide_true, Bool.and_true, Bool.true_and, decide_eq_true_eq]; exact hz
  unfold State.acquire
  simp only [hc, hif, if_true]
  rw [State.stepMark_eq, State.logEv_eq]
  refine ⟨rfl, rfl, (State.moveTime_time64 s _).trans rfl, fun o ho => ?_⟩
  obtain ⟨x, -, rfl⟩ := List.mem_map.mp ho
  rfl

theorem State.takeStep_takes {s : State} {c : Nat} (hu : s.up .timebase = true) (hf : s.tb.st = .holdJump) (ha : s.tb.armed = true)
    (hc : s.firstDisagree = some c) (hz : s.time64 % (1000000000 : Int) < 2) :
    s.takeStep.tb.st = .locked ∧ s.takeStep.tb.source = c ∧ s.takeStep.tb.armed = false ∧
      s.takeStep.time64 = s.time64 - s.tb.predict (s.tb.src c) s.now := by
  have hif : (s.tb.st = .holdJump && s.tb.armed && s.up .timebase && s.time64 % (sec : Int) < 2) = true := by
    simp only [hu, hf, ha, decide_true, Bool.and_true, Bool.true_and, decide_eq_true_eq]; exact hz
  unfold State.takeStep
  rw [hc]
  dsimp -zeta only
  rw [if_pos hif]
  extract_lets off before had m b x y z
  rw [z.stepMark_eq]
  have htb : z.tb = x.tb ∧ z.now = x.now := by
    show (if _ then _ else _ : State).tb = _ ∧ (if _ then _ else _ : State).now = _
    split
    · exact ⟨(State.logEv_tb ..).trans (State.logEv_tb ..), (State.logEv_now ..).trans (State.logEv_now ..)⟩
    · exact ⟨State.logEv_tb .., State.logEv_now ..⟩
  have ht : z.time64 = m.time64 := by
    refine (State.time64_count (y := x) ?_ ?_ ?_ htb.2).trans (Timebase.rebase_time64 m.tb m.now s.tb.freq)
    all_goals rw [htb.1]
  refine ⟨congrArg Timebase.st htb.1, congrArg Timebase.source htb.1, congrArg Timebase.armed htb.1, ?_⟩
  exact ht.trans (State.moveTime_time64 s _)

/-! ### O32 -/

section
variable (s : State) (t : Nat)

theorem refinLost_yields (h : (s.advance t).tb.refin = true) : Yields (exec (.refinLost t) s) fun u =>
    u.tb.refin = false ∧ u.tb.refClock = 0 ∧ u.log = ((s.advance t).logEv .refinLost []).log := by
  refine .next ?_
  rw [State.run_tb, State.run_log]
  generalize s.advance t = a at *
  simp only [State.refinLost, h, if_true, State.logEv_tb]
  refine ⟨trivial, rfl, ?_⟩
  apply State.logEv_congr <;> rfl

theorem refinBack_yields {clock : Nat} (h : (s.advance t).tb.refin = false) (h0 : clock ≠ 0) (hc : clock = (s.advance t).cfg 0x2015 0) :
    Yields (exec (.refinBack t clock) s) fun u =>
      u.tb.refin = true ∧ u.tb.refClock = clock ∧ u.log = ((s.advance t).logEv .refinBack []).log := by
  refine .next ?_
  rw [State.run_tb, State.run_log]
  generalize s.advance t = a at *
  have hif : (!a.rollBound.tb.refin && clock ≠ 0 && clock = a.rollBound.cfg 0x2015 0) = true := by
    rw [show a.rollBound.tb.refin = a.tb.refin from rfl, show a.rollBound.cfg 0x2015 0 = a.cfg 0x2015 0 from rfl, h, ← hc]
    simp [h0]
  simp only [State.refinBack, hif, if_true, State.logEv_tb]
  refine ⟨trivial, trivial, ?_⟩
  apply State.logEv_congr <;> rfl

theorem timeOffset_yields {src : Nat} {off : Int} {bound : Nat} (hs : (s.advance t).sized) (hu : (s.advance t).up .timebase = true) (h1 : 1 ≤ src)
    (h4 : src ≤ 4) (hr : (s.advance t).sourceReaches src = true) (hb : ¬ (src = 1 ∧ (s.advance t).base.st = 3)) :
    Yields (exec (.timeOffset t src off bound) s) fun u =>
      (u.tb.src src).present = true ∧ (u.tb.src src).last = off ∧ (u.tb.src src).lastAt = u.now := by
  refine .next ?_
  rw [State.run_tb, State.run_now, ← State.advance_now]
  generalize s.advance t = a at *
  obtain ⟨-, -, -, -, -, -, -, -, -, -, -, hlen, -⟩ := hs
  have hif : (a.up .timebase && a.sourceReaches src && 1 ≤ src && src ≤ 4) = true := by simp [hu, hr, h1, h4]
  have hb' : ¬ (decide (src = 1) && decide (a.base.st = 3)) = true := by simpa using hb
  unfold State.timeOffset State.offset
  rw [if_neg hb', if_pos hif]
  have h := Timebase.src_reading ((State.steer_readings _ src off).trans (State.servo_readings
    { a with tb := a.tb.take src a.now off bound (a.cfg 0x2012 0) (a.cfg 0x2011 0) })) src
  rw [show (a.tb.take src a.now off bound (a.cfg 0x2012 0) (a.cfg 0x2011 0)).src src = _ from Timebase.setSrc_src hlen h1 h4 _] at h
  simp only [TimeSrc.reading, Prod.mk.injEq] at h
  exact ⟨h.1, h.2.2.1, h.2.2.2⟩

theorem timeSourceQualified_yields {src : Nat} (hs : (s.advance t).sized) (hu : (s.advance t).up .timebase = true) (h1 : 1 ≤ src)
    (h4 : src ≤ 4)
    (hc : ((s.advance t).tb.src src).consistent (s.advance t).now ((s.advance t).cfg 0x2012 0) ((s.advance t).cfg 0x2011 0) = true) :
    Yields (exec (.timeSourceQualified t src) s) fun u => (u.tb.src src).qualified = true := by
  refine .next ?_
  rw [State.run_tb]
  generalize s.advance t = a at *
  obtain ⟨-, -, -, -, -, -, -, -, -, -, -, hlen, -⟩ := hs
  unfold State.qualify
  rw [if_pos (by simp [hu, hc])]
  have h := Timebase.src_reading (State.servo_readings { a with tb := a.tb.setSrc src fun x => { x with qualified := true } }) src
  rw [show (a.tb.setSrc src fun x => { x with qualified := true }).src src = _ from Timebase.setSrc_src hlen h1 h4 _] at h
  exact congrArg (fun r => r.2.1) h

theorem timeSourceNotPresent_yields {src : Nat} (hs : (s.advance t).sized) (h1 : 1 ≤ src) (h4 : src ≤ 4) :
    Yields (exec (.timeSourceNotPresent t src) s) fun u => (u.tb.src src).present = false ∧ (u.tb.src src).qualified = false := by
  refine .next ?_
  rw [State.run_tb]
  generalize s.advance t = a at *
  obtain ⟨-, -, -, -, -, -, -, -, -, -, -, hlen, -⟩ := hs
  unfold State.sourceGone
  rw [if_pos (by simp [h1, h4])]
  have h := Timebase.src_reading (State.servo_readings
    { a with tb := a.tb.setSrc src fun x => { TimeSrc.none with last := x.last, lastAt := x.lastAt } }) src
  rw [show (a.tb.setSrc src fun x => { TimeSrc.none with last := x.last, lastAt := x.lastAt }).src src = _ from
    Timebase.setSrc_src hlen h1 h4 _] at h
  exact ⟨congrArg (fun r => r.1) h, congrArg (fun r => r.2.1) h⟩

theorem timeAcquired_yields {c : Nat} (hu : (s.advance t).up .timebase = true) (hf : (s.advance t).tb.st = .freerun)
    (hc : (s.advance t).candidate = some c)
    (hz : ((s.advance t).time64 - (s.advance t).tb.predict ((s.advance t).tb.src c) (s.advance t).now) % (1000000000 : Int) = 0) :
    Yields (exec (.timeAcquired t) s) fun u =>
      u.tb.st = .locked ∧ u.tb.source = c
        ∧ u.time64 = (s.advance t).time64 - (s.advance t).tb.predict ((s.advance t).tb.src c) (s.advance t).now ∧ ∀ o ∈ u.outs, o.floating = false := by
  refine .next ?_
  obtain ⟨h1, h2, h3, h4⟩ := State.acquire_takes hu hf hc hz
  have hn : (s.advance t).acquire.now = (s.advance t).now :=
    (State.acquire_same (pt := .now) (by decide) (by decide) (by decide) (by decide) _ _).mpr rfl
  rw [State.run_tb, State.run_outs, State.time64, State.run_tb, State.run_now, ← State.advance_now, ← hn]
  exact ⟨h1, h2, h3.trans (by rw [hn]), h4⟩

theorem timeStep_yields {c : Nat} (hu : (s.advance t).up .timebase = true) (hf : (s.advance t).tb.st = .holdJump)
    (ha : (s.advance t).tb.armed = true) (hc : (s.advance t).firstDisagree = some c) (hz : (s.advance t).time64 % (1000000000 : Int) < 2) :
    Yields (exec (.timeStep t) s) fun u =>
      u.tb.st = .locked ∧ u.tb.source = c ∧ u.tb.armed = false
        ∧ u.time64 = (s.advance t).time64 - (s.advance t).tb.predict ((s.advance t).tb.src c) (s.advance t).now := by
  refine .next ?_
  obtain ⟨h1, h2, h3, h4⟩ := State.takeStep_takes hu hf ha hc hz
  have hn : (s.advance t).takeStep.now = (s.advance t).now :=
    (State.takeStep_same (pt := .now) (by decide) (by decide) (by decide) (by decide) _ _).mpr rfl
  have hb : (s.advance t).timeStepped.tb = (s.advance t).takeStep.tb := by
    unfold State.timeStepped
    extract_lets x
    split
    · exact (State.canStepped_same (pt := .tb) (by decide) _ _).mpr rfl
    · rfl
  rw [State.run_tb, State.time64, State.run_tb, State.run_now, ← State.advance_now, ← hn, hb]
  exact ⟨h1, h2, h3, h4.trans (by rw [hn])⟩

variable (c : Caller)

theorem timeStepArm_yields (hw : (s.advance t).writes c 0x2008 0 [1] = true) (hf : (s.advance t).tb.st = .holdJump)
    (ha : (s.advance t).stoppedAll = true) :
    Yields (exec (.timeStepArm t c) s) fun u => u.tb = { (s.advance t).tb with armed := true } ∧ Only (told ++ [Part.tb]) (s.advance t) u := by
  obtain ⟨d, -, h1, h2⟩ := State.run_command hw (by decide) fun r => kind_of (by decide +kernel)
  generalize s.advance t = a at *
  have e : ((a.withDict d).command c 0x2008 0 [1]).1 = { a.withDict d with tb := { a.tb with armed := true } } := by
    show ((a.withDict d).stepArm).1 = _
    unfold State.stepArm
    rw [if_neg (fun h => h hf), if_neg (by rw [show (a.withDict d).stoppedAll = true from ha]; decide)]
    rfl
  rw [e] at h1 h2
  exact .next ⟨h1 .tb (by decide), h2 _ (by decide) ((Only.withDict a d (by decide)).tb (by decide) _)⟩

theorem timeStepDisarm_yields (hw : (s.advance t).writes c 0x2008 0 [0] = true) :
    Yields (exec (.timeStepDisarm t c) s) fun u => u.tb = { (s.advance t).tb with armed := false } ∧ Only (told ++ [Part.tb]) (s.advance t) u := by
  obtain ⟨d, -, h1, h2⟩ := State.run_command hw (by decide) fun r => kind_of (by decide +kernel)
  generalize s.advance t = a at *
  exact .next ⟨h1 .tb (by decide), h2 _ (by decide) ((Only.withDict a d (by decide)).tb (by decide) _)⟩

theorem ppsTimeOfDay_yields {v : Bytes} (hw : (s.advance t).writes c 0x2019 0 v = true) (hc : (s.advance t).cfg 0x2018 0 ≠ 0xFF)
    (hz : si v 0 8 % (1000000000 : Int) = 0) :
    Yields (exec (.ppsTimeOfDay t c v) s) fun u =>
      u.tb = { (s.advance t).tb with ppsTod := some (si v 0 8, (s.advance t).now) } ∧ Only (told ++ [Part.tb]) (s.advance t) u := by
  obtain ⟨d, -, h1, h2⟩ := State.run_command hw (by decide) fun r => kind_of (by decide +kernel)
  generalize s.advance t = a at *
  have e : ((a.withDict d).command c 0x2019 0 v).1 = { a.withDict d with tb := { a.tb with ppsTod := some (si v 0 8, a.now) } } := by
    show ((a.withDict d).ppsTimeOfDay v).1 = _
    unfold State.ppsTimeOfDay
    extract_lets y
    rw [if_neg]
    · rfl
    · rw [show (a.withDict d).cfg 0x2018 0 = a.cfg 0x2018 0 from rfl]
      simp only [Bool.or_eq_true, decide_eq_true_eq, not_or]
      exact ⟨hc, not_not.mpr hz⟩
  rw [e] at h1 h2
  exact .next ⟨h1 .tb (by decide), h2 _ (by decide) ((Only.withDict a d (by decide)).tb (by decide) _)⟩

end

/-- Settles O32. -/
theorem timeServo : Obligations.TimeServo :=
  ⟨refinLost_yields, fun s t _ => refinBack_yields s t, fun s t _ _ _ => timeOffset_yields s t, fun s t _ => timeSourceQualified_yields s t,
    fun s t _ => timeSourceNotPresent_yields s t, fun s t _ => timeAcquired_yields s t, fun s t _ => timeStep_yields s t, timeStepArm_yields,
    timeStepDisarm_yields, fun s t c _ => ppsTimeOfDay_yields s t c⟩

end Sys2Proof.Machine
end

section
set_option Elab.async false
/-!
PROOF. The CAN ports: what an update of one port leaves of the others, and what the operations on pending sends leave of a port.
-/

namespace Sys2Proof.Machine

/-! ### One port -/

theorem State.canPort_setCan {s : State} {n : Nat} (h : n < s.can.ports.length) (f : CanPort → CanPort) :
    (s.setCan n f).canPort n = f (s.canPort n) := modNth_getD f _ h

theorem State.canPort_setCan_ne {s : State} {n k : Nat} (h : k ≠ n) (f : CanPort → CanPort) : (s.setCan n f).canPort k = s.canPort k :=
  modNth_getD_ne f _ h

theorem State.canPort_of_can {x y : State} (h : x.can = y.can) (n : Nat) : x.canPort n = y.canPort n := by
  unfold State.canPort
  rw [h]

theorem State.setCan_length (s : State) (n : Nat) (f : CanPort → CanPort) : (s.setCan n f).can.ports.length = s.can.ports.length :=
  modNth_length _ _ _

theorem State.hasCan_lt {s : State} {n : Nat} (h : s.hasCan n = true) : n < 8 := by
  simp only [State.hasCan, Bool.and_eq_true, decide_eq_true_eq] at h
  exact h.1

theorem State.canModeOf_has {s : State} {n : Nat} (h : s.canModeOf n ≠ 0) : s.hasCan n = true := by
  unfold State.canModeOf at h
  split at h
  · rename_i hc
    simp only [Bool.and_eq_true] at hc
    exact hc.1
  · exact absurd rfl h

theorem State.canUp_mode {s : State} {n : Nat} (h : s.canUp n = true) : s.canModeOf n ≠ 0 := by
  simp only [State.canUp, Bool.and_eq_true, decide_eq_true_eq] at h
  exact h.2

/-- A port whose controller runs is one of the eight. -/
theorem State.canUp_lt {s : State} {n : Nat} (h : s.canUp n = true) : n < 8 := State.hasCan_lt (State.canModeOf_has (State.canUp_mode h))

/-- A command of a port yields what its run makes of the port, and what it leaves. -/
theorem State.run_canPort (s : State) (t n : Nat) (body : State → State) : (s.run t body).canPort n = (body (s.advance t)).canPort n :=
  State.canPort_of_can (State.run_can s t body) n

/-! ### Answers -/

theorem State.answer_can (s : State) (c : Caller) (a : Ans) : (s.answer c a).can = s.can :=
  (State.answer_same (pt := .can) (by decide) (by decide) s s c a).mpr rfl

theorem State.endCancel_can (s : State) (n : Nat) (x : CanSend) (o : Nat) : (s.endCancel n x o).can = s.can :=
  (State.endCancel_same (pt := .can) (by decide) (by decide) s s n x o).mpr rfl

/-! ### Ends of sends -/

/-- What the end of a send makes of its port. -/
def CanPort.ended (p : CanPort) (x : CanSend) (outcome : Nat) (stamp : Int × Nat) : CanPort :=
  let r := p.buf x.buf
  let r := if outcome = 0 then { r with time := stamp.1, frac := stamp.2 } else r
  { p.setBuf x.buf { r with outcome := outcome } with pend := p.pend.filter fun y => y.buf ≠ x.buf }

theorem State.endSend_can (s : State) (n : Nat) (x : CanSend) (o : Nat) (st : Int × Nat) :
    (s.endSend n x o st).can = (s.setCan n fun p => p.ended x o st).can := State.answer_can _ _ _

/-- What is left of a port when its pending sends, in order, have ended. -/
def CanPort.endedAll (p : CanPort) (outcome : Nat) (l : List CanSend) : CanPort := l.foldl (fun p x => p.ended x outcome (0, 0)) p

theorem State.endSends_fold {s : State} {n : Nat} (h : n < s.can.ports.length) (o : Nat) (g : CanSend → Nat) (l : List CanSend) :
    let v := l.foldl (fun s x => (s.endSend n x o (0, 0)).endCancel n x (g x)) s
    v.canPort n = (s.canPort n).endedAll o l ∧ (∀ k, k ≠ n → v.canPort k = s.canPort k) ∧ v.can.ports.length = s.can.ports.length := by
  induction l generalizing s with
  | nil => exact ⟨rfl, fun _ _ => rfl, rfl⟩
  | cons x l ih =>
    have hc : ((s.endSend n x o (0, 0)).endCancel n x (g x)).can = (s.setCan n fun p => p.ended x o (0, 0)).can :=
      (State.endCancel_can ..).trans (State.endSend_can ..)
    have hl : ((s.endSend n x o (0, 0)).endCancel n x (g x)).can.ports.length = s.can.ports.length := by rw [hc]; exact State.setCan_length ..
    obtain ⟨h1, h2, h3⟩ := ih (s := (s.endSend n x o (0, 0)).endCancel n x (g x)) (by rw [hl]; exact h)
    refine ⟨h1.trans ?_, fun k hk => (h2 k hk).trans ?_, h3.trans hl⟩
    · rw [State.canPort_of_can hc, State.canPort_setCan h]; rfl
    · rw [State.canPort_of_can hc, State.canPort_setCan_ne hk]

theorem State.endSends_canPort {s : State} {n : Nat} (h : n < s.can.ports.length) (o : Nat) :
    (s.endSends n o).canPort n = (s.canPort n).endedAll o (s.canPort n).pend := (State.endSends_fold h o _ _).1

theorem State.endSends_canPort_ne {s : State} {n k : Nat} (h : n < s.can.ports.length) (hk : k ≠ n) (o : Nat) :
    (s.endSends n o).canPort k = s.canPort k := (State.endSends_fold h o _ _).2.1 k hk

theorem CanPort.endedAll_eq (p : CanPort) (o : Nat) (l : List CanSend) :
    p.endedAll o l = { p with bufs := (p.endedAll o l).bufs, pend := p.pend.filter fun y => l.all fun x => decide (y.buf ≠ x.buf) } := by
  induction l generalizing p with
  | nil => simp [CanPort.endedAll]
  | cons x l ih =>
    show CanPort.endedAll (p.ended x o (0, 0)) o l = _
    rw [ih]
    simp only [CanPort.ended, CanPort.setBuf, List.filter_filter, List.all_cons, Bool.and_comm]
    rfl

theorem CanPort.endedAll_st (p : CanPort) (o : Nat) (l : List CanSend) : (p.endedAll o l).st = p.st := by rw [CanPort.endedAll_eq]
theorem CanPort.endedAll_tec (p : CanPort) (o : Nat) (l : List CanSend) : (p.endedAll o l).tec = p.tec := by rw [CanPort.endedAll_eq]
theorem CanPort.endedAll_errs (p : CanPort) (o : Nat) (l : List CanSend) : (p.endedAll o l).errs = p.errs := by rw [CanPort.endedAll_eq]
theorem CanPort.endedAll_recovering (p : CanPort) (o : Nat) (l : List CanSend) : (p.endedAll o l).recovering = p.recovering := by
  rw [CanPort.endedAll_eq]

/-- Every pending send of the port has ended. -/
theorem CanPort.endedAll_pend (p : CanPort) (o : Nat) : (p.endedAll o p.pend).pend = [] := by
  rw [CanPort.endedAll_eq]
  refine List.filter_eq_nil_iff.mpr fun y hy h => ?_
  simp only [List.all_eq_true, decide_eq_true_eq] at h
  exact h y hy rfl

/-! ### What was sent stays sent -/

theorem State.answer_sends {s : State} {o : Out} (h : o ∈ s.out) (c : Caller) (a : Ans) : o ∈ (s.answer c a).out := by
  unfold State.answer
  cases c with
  | usdo p n =>
    dsimp only
    split
    · exact List.mem_cons_of_mem _ h
    · exact h
  | coil i r => exact h
  | applet i r => exact h
  | firmware => exact h

theorem State.endCancel_sends {s : State} {o : Out} (h : o ∈ s.out) (n : Nat) (x : CanSend) (k : Nat) : o ∈ (s.endCancel n x k).out := by
  unfold State.endCancel
  split
  · exact State.answer_sends h _ _
  · exact h

theorem State.endSend_sends {s : State} {o : Out} (h : o ∈ s.out) (n : Nat) (x : CanSend) (k : Nat) (st : Int × Nat) :
    o ∈ (s.endSend n x k st).out := State.answer_sends (s := s.setCan n _) h _ _

theorem State.endSends_sends {s : State} {o : Out} (h : o ∈ s.out) {n k : Nat} : o ∈ (s.endSends n k).out := by
  unfold State.endSends
  generalize (s.canPort n).pend = l
  induction l generalizing s with
  | nil => exact h
  | cons x l ih => exact ih (State.endCancel_sends (State.endSend_sends h _ _ _ _) _ _ _)

end Sys2Proof.Machine
end

section
set_option Elab.async false
/-!
PROOF. O37: recovery, integration, sleep, wake and the time master of the CAN ports.
-/

namespace Sys2Proof.Machine

/-! ### The objects of a port -/

theorem canRecover_kind {n : Nat} (hn : n < 8) {r : ObjRow} (hr : findObj (0x2820 + n) 0x0B = some r) : r.kind = 2 :=
  kind_within (lo := 0x2820) (hi := 0x2828) (slo := 0x0B) (shi := 0x0C) (by decide +kernel) (by omega) (by omega) (by omega) (by omega) hr

theorem canSleep_kind {n : Nat} (hn : n < 8) {r : ObjRow} (hr : findObj (0x2820 + n) 8 = some r) : r.kind = 3 :=
  kind_within (lo := 0x2820) (hi := 0x2828) (slo := 8) (shi := 9) (by decide +kernel) (by omega) (by omega) (by omega) (by omega) hr

/-- A write to CanRecover is a request to recover. -/
theorem State.command_canRecover (a : State) (w : Caller) {n : Nat} (hn : n < 8) : a.command w (0x2820 + n) 0x0B [1] = a.canRecoverReq n := by
  unfold State.command
  rw [if_neg (by omega), if_pos (by simp; omega), Nat.add_sub_cancel_left]

/-- A write to CanSleep is a request to sleep, or to wake. -/
theorem State.applyWrite_canSleep (a : State) {n : Nat} (hn : n < 8) (v : Bytes) :
    a.applyWrite (0x2820 + n) 8 v = if leNat v = 1 then a.canSleepReq n else a.canWakeReq n := by
  unfold State.applyWrite
  rw [if_neg (by omega), if_pos (by simp; omega), Nat.add_sub_cancel_left]

/-! ### Waking -/

theorem State.canWake_canPort {s : State} {n : Nat} (h : n < s.can.ports.length) (cause : Nat) :
    (s.canWake n cause).canPort n = { s.canPort n with st := 1, sleepReq := false, refSent := none } := by
  unfold State.canWake
  rw [State.canPort_of_can (State.logEv_can ..)]
  exact State.canPort_setCan h _

theorem State.canWake_log (s : State) (n cause : Nat) : (s.canWake n cause).log = (s.logEv .canWake [byte cause]).log := by
  unfold State.canWake
  apply State.logEv_congr <;> rfl

/-! ### Sleep -/

/-- A port asleep: its sends have ended, and its transceiver stands by. -/
theorem State.canSleepIn_sleeps {a : State} {n : Nat} (hl : a.can.ports.length = 8) (hu : a.canUp n = true) (hr : (a.canPort n).sleepReq = true)
    (hst : (a.canPort n).st = 2) :
    (a.canSleepIn n).canPort n = ({ a.canPort n with st := 5, wakeCfg := a.cfg (0x2820 + n) 9 } : CanPort).endedAll 0x19 (a.canPort n).pend ∧
      Out.canStb n (!bit (a.cfg (0x2820 + n) 9) 63) ∈ (a.canSleepIn n).out := by
  have hn : n < a.can.ports.length := by have := State.canUp_lt hu; omega
  unfold State.canSleepIn
  rw [if_neg (by simp [hu, hr, hst])]
  generalize a.cfg (0x2820 + n) 9 = w
  refine ⟨?_, State.endSends_sends (List.mem_cons_self ..)⟩
  rw [State.endSends_canPort (by rw [show (State.emit _ _).can = (State.setCan _ _ _).can from rfl, State.setCan_length]; exact hn),
    show (State.emit _ _).canPort n = (State.setCan _ _ _).canPort n from rfl, State.canPort_setCan hn]

/-! ### The time master -/

/-- The mask names one port. -/
theorem filter_bit_two_pow {n : Nat} (hn : n < 8) : (List.range 8).filter (fun j => bit (2 ^ n) j) = [n] := by
  interval_cases n <;> decide

/-- The state with the boundary last passed. -/
def State.passed (s : State) (k : Int) : State := { s with can := { s.can with lastK := some k } }

/-- A boundary that one port is named for, with no reference message waiting in it. -/
theorem State.tmBoundary_one {a : State} {n : Nat} (hn : n < 8) (hu : a.up .network = true) (hm : tmMask (a.cfgB 0x2830 2) = 2 ^ n)
    (hk : a.can.lastK ≠ some (a.time64.fdiv (tmPeriod (a.cfgB 0x2830 2) * us : Nat))) (hc : a.canUp n = true) (hst : (a.canPort n).st ≠ 5)
    (ht : a.timed = true) (hr : (a.canPort n).refMsg = none) :
    a.tmBoundary = (a.passed (a.time64.fdiv (tmPeriod (a.cfgB 0x2830 2) * us : Nat))).setCan n fun p =>
      { p with refMsg := some (a.refMessage n (a.time64.fdiv (tmPeriod (a.cfgB 0x2830 2) * us : Nat))) } := by
  have h0 : ¬ (!a.up .network || tmMask (a.cfgB 0x2830 2) = 0) = true := by rw [hm]; simp [hu]
  have h1 (k : Int) : ¬ ((a.passed k).canPort n).refMsg.isSome = true := by
    rw [show ((a.passed k).canPort n).refMsg = (a.canPort n).refMsg from rfl, hr]; decide
  have h2 (k : Int) : ¬ (!(a.passed k).canUp n || ((a.passed k).canPort n).st = 5 || !(a.passed k).timed) = true := by
    rw [show (a.passed k).canUp n = a.canUp n from rfl, show (a.passed k).canPort n = a.canPort n from rfl,
      show (a.passed k).timed = a.timed from rfl, hc, ht]
    simp [hst]
  unfold State.tmBoundary
  extract_lets b k x
  rw [if_neg h0, if_neg hk, hm, filter_bit_two_pow hn]
  show (a.passed k).tmPort k n = _
  unfold State.tmPort
  rw [if_neg (h1 k), if_neg (h2 k)]
  rfl

/-- What such a boundary leaves. -/
theorem State.tmBoundary_marks {a : State} {n : Nat} (hn : n < 8) (hl : a.can.ports.length = 8) (hu : a.up .network = true)
    (hm : tmMask (a.cfgB 0x2830 2) = 2 ^ n) (hk : a.can.lastK ≠ some (a.time64.fdiv (tmPeriod (a.cfgB 0x2830 2) * us : Nat)))
    (hc : a.canUp n = true) (hst : (a.canPort n).st ≠ 5) (ht : a.timed = true) (hr : (a.canPort n).refMsg = none) :
    a.tmBoundary.canPort n =
        { a.canPort n with refMsg := some (a.refMessage n (a.time64.fdiv (tmPeriod (a.cfgB 0x2830 2) * us : Nat))) } ∧
      a.tmBoundary.can.lastK = some (a.time64.fdiv (tmPeriod (a.cfgB 0x2830 2) * us : Nat)) ∧ a.tmBoundary.can.skipped = a.can.skipped ∧
      ∀ j, j ≠ n → a.tmBoundary.canPort j = a.canPort j := by
  rw [State.tmBoundary_one hn hu hm hk hc hst ht hr]
  generalize a.time64.fdiv (tmPeriod (a.cfgB 0x2830 2) * us : Nat) = k
  exact ⟨State.canPort_setCan (s := a.passed k) (hl.symm ▸ hn) _, rfl, rfl, fun j hj => State.canPort_setCan_ne (s := a.passed k) hj _⟩

/-! ### O37 -/

section
variable (s : State) (t n : Nat)

theorem canRecover_yields (w : Caller) (hn : n < 8) (hl : (s.advance t).can.ports.length = 8)
    (hw : (s.advance t).writes w (0x2820 + n) 0x0B [1] = true) (hst : ((s.advance t).canPort n).st = 4) :
    Yields (exec (.canRecover t w n) s) fun v =>
      v.canPort n = { (s.advance t).canPort n with recovering := true } ∧ Only (told ++ [Part.can]) (s.advance t) v := by
  obtain ⟨d, -, h1, h2⟩ := State.run_command hw (by omega) fun r => canRecover_kind hn
  show Yields (.next (s.run t fun s => if n < 8 then _ else s)) _
  simp only [if_pos hn]
  generalize s.advance t = a at *
  have e : (((a.withDict d).command w (0x2820 + n) 0x0B [1]).1) = (a.withDict d).setCan n fun p => { p with recovering := true } := by
    rw [State.command_canRecover _ _ hn]
    unfold State.canRecoverReq
    rw [if_neg (fun h => h hst)]
  rw [e] at h1 h2
  refine .next ⟨?_, h2 _ (by decide) ((Only.withDict a d (by decide)).step fun p hp => State.setCan_same (Part.ne_of_notMem hp (by decide)) ..)⟩
  exact (State.canPort_of_can (h1 .can (by decide)) n).trans (State.canPort_setCan (show n < a.can.ports.length by omega) _)

theorem canBusOffRecovered_yields (hl : (s.advance t).can.ports.length = 8) (hu : (s.advance t).canUp n = true)
    (hst : ((s.advance t).canPort n).st = 4) (hr : ((s.advance t).canPort n).recovering = true) :
    Yields (exec (.canBusOffRecovered t n) s) fun v =>
      v.canPort n = { (s.advance t).canPort n with st := 2, recovering := false, tec := 0, recErrs := 0 } ∧
        Only (told ++ [Part.can]) (s.advance t) v := by
  refine .next ⟨?_, Only.run (by decide) ((Only.refl _ _).step fun p hp => State.canRecovered_same (Part.ne_of_notMem hp (by decide)) ..)⟩
  rw [State.run_canPort]
  unfold State.canRecovered
  rw [if_pos (by simp [hu, hst, hr])]
  exact State.canPort_setCan (by have := State.canUp_lt hu; omega) _

theorem canIntegrationDone_yields (hl : (s.advance t).can.ports.length = 8) (hu : (s.advance t).canUp n = true)
    (hst : ((s.advance t).canPort n).st = 1) :
    Yields (exec (.canIntegrationDone t n) s) fun v =>
      v.canPort n = { (s.advance t).canPort n with st := 2 } ∧ Only (told ++ [Part.can]) (s.advance t) v := by
  refine .next ⟨?_, Only.run (by decide) ((Only.refl _ _).step fun p hp => State.canIntegrated_same (Part.ne_of_notMem hp (by decide)) ..)⟩
  rw [State.run_canPort]
  unfold State.canIntegrated
  rw [if_pos (by simp [hu, hst])]
  exact State.canPort_setCan (by have := State.canUp_lt hu; omega) _

theorem canSleep_yields (w : Caller) (hn : n < 8) (hl : (s.advance t).can.ports.length = 8)
    (hw : (s.advance t).writes w (0x2820 + n) 8 [1] = true) (hc : canStopSource ((s.advance t).canVal n) = false) :
    Yields (exec (.canSleep t w n) s) fun v =>
      v.canPort n = { (s.advance t).canPort n with sleepReq := true } ∧ Only (told ++ [Part.can]) (s.advance t) v := by
  obtain ⟨d, -, h1, h2⟩ := State.run_stored hw (by omega) fun r => canSleep_kind hn
  show Yields (.next (s.run t fun s => if n < 8 then _ else s)) _
  simp only [if_pos hn]
  generalize s.advance t = a at *
  have e : (((a.withDict d).applyWrite (0x2820 + n) 8 [1]).1) = (a.withDict d).setCan n fun p => { p with sleepReq := true } := by
    rw [State.applyWrite_canSleep _ hn, if_pos (by decide)]
    unfold State.canSleepReq
    rw [if_neg (by rw [show (a.withDict d).canVal n = a.canVal n from rfl, hc]; decide)]
  rw [e] at h1 h2
  refine .next ⟨?_, h2 _ (by decide) ((Only.withDict a d (by decide)).step fun p hp => State.setCan_same (Part.ne_of_notMem hp (by decide)) ..)⟩
  exact (State.canPort_of_can (h1 .can (by decide)) n).trans (State.canPort_setCan (show n < a.can.ports.length by omega) _)

theorem canSleepEntry_yields (hl : (s.advance t).can.ports.length = 8) (hu : (s.advance t).canUp n = true)
    (hr : ((s.advance t).canPort n).sleepReq = true) (hst : ((s.advance t).canPort n).st = 2) :
    Yields (exec (.canSleepEntry t n) s) fun v =>
      (v.canPort n).st = 5 ∧ (v.canPort n).pend = [] ∧ (v.canPort n).wakeCfg = (s.advance t).cfg (0x2820 + n) 9
        ∧ (v.canPort n).fifos = ((s.advance t).canPort n).fifos
        ∧ Out.canStb n (!bit ((s.advance t).cfg (0x2820 + n) 9) 63) ∈ v.out ∧ Only (told ++ [Part.can]) (s.advance t) v := by
  obtain ⟨hp, ho⟩ := State.canSleepIn_sleeps hl hu hr hst
  refine .next ?_
  rw [State.run_canPort, hp]
  refine ⟨?_, CanPort.endedAll_pend _ _, ?_, ?_, State.run_sends ho,
    Only.run (by decide) ((Only.refl _ _).step fun p hp =>
      State.canSleepIn_same (Part.ne_of_notMem hp (by decide)) (Part.ne_of_notMem hp (by decide)) (Part.ne_of_notMem hp (by decide)) ..)⟩
  all_goals rw [CanPort.endedAll_eq]

theorem canWakeWrite_yields (w : Caller) (hn : n < 8) (hl : (s.advance t).can.ports.length = 8)
    (hw : (s.advance t).writes w (0x2820 + n) 8 [0] = true) :
    Yields (exec (.canWakeWrite t w n) s) fun v =>
      (v.canPort n).sleepReq = false ∧ (v.canPort n).st = (if ((s.advance t).canPort n).st = 5 then 1 else ((s.advance t).canPort n).st)
        ∧ v.log = (if ((s.advance t).canPort n).st = 5 then (s.advance t).logEv .canWake [2] else s.advance t).log
        ∧ Only (told ++ [Part.can, Part.log]) (s.advance t) v := by
  obtain ⟨d, -, h1, h2⟩ := State.run_stored hw (by omega) fun r => canSleep_kind hn
  show Yields (.next (s.run t fun s => if n < 8 then _ else s)) _
  simp only [if_pos hn]
  generalize s.advance t = a at *
  rw [State.applyWrite_canSleep _ hn, if_neg (by decide)] at h1 h2
  have hn' : n < (a.withDict d).can.ports.length := by show n < a.can.ports.length; omega
  have hp := State.canPort_of_can (h1 .can (by decide)) n
  have hg : State.log _ = State.log _ := h1 .log (by decide)
  have hs : Only (told ++ [Part.can, Part.log]) a ((a.withDict d).canWakeReq n).1 := (Only.withDict a d (by decide)).step fun p hp =>
    State.canWakeReq_same (Part.ne_of_notMem hp (by decide)) (Part.ne_of_notMem hp (by decide)) (Part.ne_of_notMem hp (by decide)) ..
  refine .next ?_
  rw [hp, hg]
  refine ⟨?_, ?_, ?_, h2 _ (by decide) hs⟩ <;> (unfold State.canWakeReq; rw [show (a.withDict d).canPort n = a.canPort n from rfl]; split)
  · rw [State.canWake_canPort hn']
  · rw [State.canPort_setCan hn']
  · rw [State.canWake_canPort hn']
  · rw [State.canPort_setCan hn']
    rfl
  · rw [State.canWake_log]
    apply State.logEv_congr <;> rfl
  · rfl


theorem canWakeEdge_yields (width : Nat) (hl : (s.advance t).can.ports.length = 8) (hu : (s.advance t).canUp n = true)
    (hst : ((s.advance t).canPort n).st = 5) (hb : bit ((s.advance t).canPort n).wakeCfg 63 = false) (hwd : 5 * us ≤ width) :
    Yields (exec (.canWakeEdge t n width) s) fun v =>
      v.canPort n = { (s.advance t).canPort n with st := 1, sleepReq := false, refSent := none }
        ∧ v.log = ((s.advance t).logEv .canWake [0]).log ∧ Out.canStb n false ∈ v.out ∧ Only (told ++ [Part.can, Part.log]) (s.advance t) v := by
  have hn : n < (s.advance t).can.ports.length := by have := State.canUp_lt hu; omega
  have e : (s.advance t).canEdge n width = (s.advance t).canWake n 0 := by
    unfold State.canEdge
    rw [if_pos (by simp [hu, hst, hb, hwd])]
  refine .next ?_
  rw [State.run_canPort, State.run_log, e]
  refine ⟨State.canWake_canPort hn _, State.canWake_log .., State.run_sends ?_, Only.run (by decide) ((Only.refl _ _).step fun p hp =>
    State.canEdge_same (Part.ne_of_notMem hp (by decide)) (Part.ne_of_notMem hp (by decide)) (Part.ne_of_notMem hp (by decide)) ..)⟩
  rw [e, State.canWake, State.logEv_out]
  exact List.mem_cons_self ..

theorem canTmBoundary_yields {k : Int} (hkk : k = (s.advance t).time64.fdiv (tmPeriod ((s.advance t).cfgB 0x2830 2) * us : Nat)) (hn : n < 8)
    (hl : (s.advance t).can.ports.length = 8) (hu : (s.advance t).up .network = true) (hm : tmMask ((s.advance t).cfgB 0x2830 2) = 2 ^ n)
    (hk : (s.advance t).can.lastK ≠ some k) (hc : (s.advance t).canUp n = true) (hst : ((s.advance t).canPort n).st ≠ 5)
    (ht : (s.advance t).timed = true) (hr : ((s.advance t).canPort n).refMsg = none) :
    Yields (exec (.canTmBoundary t) s) fun v =>
      v.canPort n = { (s.advance t).canPort n with refMsg := some ((s.advance t).refMessage n k) } ∧ v.can.lastK = some k
        ∧ v.can.skipped = (s.advance t).can.skipped ∧ (∀ j < 8, j ≠ n → v.canPort j = (s.advance t).canPort j)
        ∧ Only (told ++ [Part.can]) (s.advance t) v := by
  subst hkk
  obtain ⟨h1, h2, h3, h4⟩ := State.tmBoundary_marks hn hl hu hm hk hc hst ht hr
  refine .next ⟨(State.run_canPort ..).trans h1, (congrArg Can.lastK (State.run_can ..)).trans h2, (congrArg Can.skipped (State.run_can ..)).trans h3,
    fun j _ hj => (State.run_canPort ..).trans (h4 j hj),
    Only.run (by decide) ((Only.refl _ _).step fun p hp => State.tmBoundary_same (Part.ne_of_notMem hp (by decide)) ..)⟩

end

/-- Settles O37. -/
theorem canStates : Obligations.CanStates :=
  ⟨canRecover_yields, canBusOffRecovered_yields, canIntegrationDone_yields,
    fun s t n => canTmBoundary_yields s t n rfl, canSleep_yields, canSleepEntry_yields,
    canWakeWrite_yields, canWakeEdge_yields⟩


end Sys2Proof.Machine
end

section
set_option Elab.async false
/-!
PROOF. The Stop Bath: a source that a channel takes is in its latch, and in the two channels' latch together.
-/

namespace Sys2Proof.Machine

/-! ### One channel -/

theorem StopLatches.bits_put_setBit (x : StopLatches) (l : Latch) (src : Nat) :
    (x.put l (setBit (x.bits l) src)).bits l = setBit (x.bits l) src := by
  have hp (t : Tbl Nat) (k v : Nat) : Tbl.getD (putBits t k (setBit v src)) k 0 = setBit v src := by
    unfold putBits
    rw [if_neg (setBit_ne_zero v src), Tbl.getD_put]
  cases l
  · rfl
  all_goals exact hp _ _ _

theorem StopChan.bit_set (ch : StopChan) (l : Latch) (src : Nat) : bit ((ch.set l src).bits l) src = true := by
  have h : (ch.set l src).bits l = setBit (ch.bits l) src :=
    (congrArg (StopLatches.bits · l) (Triple.of_vote (ch.latches.put l (setBit (ch.bits l) src)))).trans (ch.latches.bits_put_setBit l src)
  rw [h, bit_setBit]

theorem StopChan.takeSource_running (ch : StopChan) (l : Latch) (src : Nat) : ch.takeSource .running l src = ch.set l src := rfl

theorem StopChan.regoing_bits (ch : StopChan) (go : List Nat) (l : Latch) : (ch.regoing go).bits l = ch.bits l := rfl

/-! ### Both channels -/

theorem StopBath.bit_latch (b : StopBath) (l : Latch) (i : Nat) : bit (b.latch l) i = (bit (b.a.bits l) i || bit (b.b.bits l) i) := bit_or _ _ _

/-- The latches of both channels, whatever else the Stop Bath holds. -/
def StopBath.chans (b : StopBath) : StopLatches × StopLatches := (b.a.latches, b.b.latches)

theorem StopBath.latch_of_chans {b d : StopBath} (h : b.chans = d.chans) (l : Latch) : b.latch l = d.latch l := by
  simp only [StopBath.chans, Prod.mk.injEq] at h
  show b.a.latches.bits l ||| b.b.latches.bits l = d.a.latches.bits l ||| d.b.latches.bits l
  rw [h.1, h.2]

theorem State.refreshGo_chans (s : State) : s.refreshGo.stop.chans = s.stop.chans := by
  unfold State.refreshGo
  extract_lets old a b st new frames differ dis
  show (a.latches, b.latches) = _
  have ha : a.latches = s.stop.a.latches := by show (if _ then _ else _ : StopChan).latches = _; split <;> rfl
  have hb : b.latches = s.stop.b.latches := by show (if _ then _ else _ : StopChan).latches = _; split <;> rfl
  rw [ha, hb]
  rfl

theorem State.count_stop (s : State) (i j n : Nat) : (s.count i j n).stop = s.stop := by rw [State.count_eq]

theorem State.sendNotices_chans (s : State) (reason : Nat) : (s.sendNotices reason).stop.chans = s.stop.chans := by
  unfold State.sendNotices
  extract_lets mode body
  split
  · rfl
  · suffices h : ∀ (l : List Nat) (x : State), (l.foldl (fun (s : State) n =>
        ({ s with stop := { s.stop with notices := s.stop.notices ++ [{ nbr := n, body := body, since := s.now, last := s.now }] } } : State).toNbr
          n 0x4862 body) x).stop.chans = x.stop.chans from h _ s
    intro l
    induction l with
    | nil => exact fun _ => rfl
    | cons n l ih =>
      intro x
      refine (ih _).trans ?_
      rw [show (State.toNbr _ n 0x4862 body).stop = _ from (State.toNbr_same (pt := .stop) (by decide) (by decide) _ _ n _ body).mpr rfl]
      rfl

/-- What a source makes of the latches. -/
theorem State.setLatch_chans (s : State) (l : Latch) (src reason : Nat) : (s.setLatch l src reason).stop.chans =
    ((s.stop.a.takeSource (s.isl .timebase).st l src).latches, (s.stop.b.takeSource (s.isl .aon).st l src).latches) := by
  unfold State.setLatch
  extract_lets had a b st x y z
  have hy : y.stop.chans = (a.latches, b.latches) := x.refreshGo_chans
  have hz : z.stop.chans = (a.latches, b.latches) := by
    rw [← hy]
    show (if _ then _ else _ : State).stop.chans = _
    split
    · rw [State.count_stop]
    · rfl
  split
  · rw [State.sendNotices_chans, hz]
  · exact hz

/-- A source latches where the Timebase runs. -/
theorem State.setLatch_bit {s : State} (h : s.up .timebase = true) (l : Latch) (src reason : Nat) :
    bit ((s.setLatch l src reason).stop.latch l) src = true := by
  have hc := s.setLatch_chans l src reason
  simp only [StopBath.chans, Prod.mk.injEq] at hc
  have ht : (s.isl .timebase).st = .running := of_decide_eq_true h
  rw [StopBath.bit_latch, Bool.or_eq_true]
  left
  show bit ((s.setLatch l src reason).stop.a.latches.bits l) src = true
  rw [hc.1, ht]
  exact StopChan.bit_set _ l src

end Sys2Proof.Machine
end

section
set_option Elab.async false
/-!
PROOF. O36: frames received and sent, buffers, FIFOs and errors of the CAN ports.
-/

namespace Sys2Proof.Machine

/-! ### Buffers -/

theorem CanPort.buf_setBuf (p : CanPort) (b : Nat) (r : CanRec) : (p.setBuf b r).buf b = r := Tbl.getD_put ..

/-! ### Reception -/

/-- A frame received without error is counted, and lowers the receive error counter. -/
def State.rxCounted (s : State) (n : Nat) : State :=
  ((s.canRxGood n).setCan n fun p => { p with rx := wrap 64 (p.rx + 1) }).count 0x0E n 1

theorem State.setCan_setCan (s : State) (n : Nat) (f g : CanPort → CanPort) : ((s.setCan n f).setCan n g) = s.setCan n fun p => g (f p) := by
  have h (l : List CanPort) (n : Nat) : modNth (modNth l n f) n g = modNth l n fun p => g (f p) := by
    induction l generalizing n with
    | nil => rfl
    | cons a l ih =>
      cases n with
      | zero => rfl
      | succ n => exact congrArg (a :: ·) (ih n)
  exact congrArg (fun ports => ({ s with can := { s.can with ports := ports } } : State)) (h _ _)

/-- Which parts it moves. -/
theorem State.rxCounted_eq (s : State) (n : Nat) :
    s.rxCounted n = { s with can := (s.rxCounted n).can, free := (s.rxCounted n).free, health := (s.rxCounted n).health } := by
  unfold State.rxCounted
  rw [State.count_eq]
  unfold State.canRxGood
  split <;> rfl

theorem State.setCan_congr {s : State} {n : Nat} {f g : CanPort → CanPort} (h : n < s.can.ports.length) (hfg : f (s.canPort n) = g (s.canPort n)) :
    s.setCan n f = s.setCan n g := by
  have key (l : List CanPort) (d : CanPort) (n : Nat) (h : n < l.length) (hfg : f (l.getD n d) = g (l.getD n d)) : modNth l n f = modNth l n g := by
    induction l generalizing n with
    | nil => rfl
    | cons a l ih =>
      cases n with
      | zero => exact congrArg (· :: l) hfg
      | succ n => exact congrArg (a :: ·) (ih n (Nat.lt_of_succ_lt_succ h) hfg)
  exact congrArg (fun ports => ({ s with can := { s.can with ports := ports } } : State)) (key _ _ _ h hfg)

theorem State.rxCounted_can {s : State} {n : Nat} (h : n < s.can.ports.length) : ∃ e, ((s.canPort n).recErrs ≤ 127 → e = (s.canPort n).recErrs - 1) ∧
    (s.rxCounted n).can = (s.setCan n fun p => { p with recErrs := e, rx := wrap 64 (p.rx + 1) }).can := by
  unfold State.rxCounted
  rw [State.count_eq]
  unfold State.canRxGood
  split
  · refine ⟨_, fun _ => rfl, ?_⟩
    show (State.setCan _ n _).can = _
    rw [State.setCan_setCan, State.setCan_congr h]
    rfl
  · refine ⟨119 + s.draw.2 % 9, fun h => absurd h ‹_›, ?_⟩
    show (State.setCan _ n _).can = _
    rw [State.setCan_setCan]
    rfl

/-- A port on the bus takes a frame in the form that it may have. -/
theorem State.canFrameIn_taken {a : State} {n : Nat} {f : CanFrame} (sof : Nat) (hu : a.canUp n = true)
    (hf : (canNorm f).fdf = false ∨ canFd (a.canVal n) = true) (hst : (a.canPort n).st = 2) :
    a.canFrameIn n sof f = (a.canRxGood n).takeCanFrame n (a.sofStamp sof) (canNorm f) := by
  unfold State.canFrameIn
  extract_lets x p
  rw [if_neg, if_pos hst]
  rw [hu]
  rcases hf with h | h <;> simp [x, h]

section
variable {a : State} {n : Nat} (hl : a.can.ports.length = 8) (hu : a.canUp n = true)
include hl hu

theorem State.rxCounted_st : ((a.rxCounted n).canPort n).st = (a.canPort n).st := by
  have hn : n < a.can.ports.length := by have := State.canUp_lt hu; omega
  obtain ⟨e, -, h⟩ := State.rxCounted_can hn
  rw [State.canPort_of_can h, State.canPort_setCan hn]

theorem State.rxCounted_servesUsdo : (a.rxCounted n).servesUsdo n = a.servesUsdo n := by
  unfold State.servesUsdo
  rw [State.rxCounted_st hl hu, State.rxCounted_eq]
  rfl

/-- A frame that is neither USDO's nor a stop frame goes to its place. -/
theorem State.takeCanFrame_plain (hs : a.servesUsdo n = false) (hc : canStopSource (a.canVal n) = false) (st : Int × Nat) (x : CanFrame) :
    (a.canRxGood n).takeCanFrame n st x = (a.rxCounted n).placeFrame n st x := by
  have h1 : ¬ ((a.rxCounted n).servesUsdo n && !x.ide && x.id = 0x600 + (a.rxCounted n).cfg 0x2811 0) = true := by
    rw [State.rxCounted_servesUsdo hl hu, hs]; simp
  have h2 (i : Nat) : ¬ (canStopSource ((a.rxCounted n).canVal n) && x.ide = bit i 31 && x.id = bits i 0 29) = true := by
    rw [show (a.rxCounted n).canVal n = a.canVal n by rw [State.rxCounted_eq]; rfl, hc]; simp
  unfold State.takeCanFrame
  exact (if_neg h1).trans (congrArg (State.placeFrame · n st x) (if_neg (h2 _)))

theorem State.takeCanFrame_stop (hs : a.servesUsdo n = false) (hc : canStopSource (a.canVal n) = true) (st : Int × Nat) {x : CanFrame}
    (h1 : x.ide = bit (a.cfg 0x2838 0) 31) (h2 : x.id = bits (a.cfg 0x2838 0) 0 29) :
    (a.canRxGood n).takeCanFrame n st x = ((a.rxCounted n).stopFrame n x).placeFrame n st x := by
  have h0 : ¬ ((a.rxCounted n).servesUsdo n && !x.ide && x.id = 0x600 + (a.rxCounted n).cfg 0x2811 0) = true := by
    rw [State.rxCounted_servesUsdo hl hu, hs]; simp
  have hid : (canStopSource ((a.rxCounted n).canVal n) && x.ide = bit ((a.rxCounted n).cfg 0x2838 0) 31 && x.id = bits ((a.rxCounted n).cfg 0x2838 0) 0 29)
      = true := by
    rw [show (a.rxCounted n).canVal n = a.canVal n by rw [State.rxCounted_eq]; rfl,
      show (a.rxCounted n).cfg 0x2838 0 = a.cfg 0x2838 0 by rw [State.rxCounted_eq]; rfl, hc, ← h1, ← h2]
    simp
  unfold State.takeCanFrame
  exact (if_neg h0).trans (congrArg (State.placeFrame · n st x) (if_pos hid))

omit hl hu in
theorem State.placeFrame_rxCounted (st : Int × Nat) (x : CanFrame) : (a.rxCounted n).placeFrame n st x =
    match (a.written (0x2900 + n) 128).find? fun b => bufMatches (a.bufVal n b) x with
    | some b => (a.rxCounted n).setCan n fun p => p.take b st x
    | none =>
      match (a.written (0x29C0 + n) 64).find? fun i => filterMatches (a.filterVal n i) x with
      | some i =>
        if bits (a.filterVal n i) 62 2 = 3 then a.rxCounted n else (a.rxCounted n).fifoTake n (bits (a.filterVal n i) 62 2 - 1) st x
      | none => (a.rxCounted n).setCan n fun p => { p with drops := wrap 64 (p.drops + 1) } := by
  unfold State.placeFrame
  rw [show (a.rxCounted n).written = a.written by rw [State.rxCounted_eq]; rfl, show (a.rxCounted n).bufVal = a.bufVal by rw [State.rxCounted_eq]; rfl,
    show (a.rxCounted n).filterVal = a.filterVal by rw [State.rxCounted_eq]; rfl] <;> rfl

omit hl hu in
theorem State.rxCounted_canPort_ne {k : Nat} (hn : n < a.can.ports.length) (hk : k ≠ n) : (a.rxCounted n).canPort k = a.canPort k := by
  obtain ⟨e, -, h⟩ := State.rxCounted_can hn
  rw [State.canPort_of_can h, State.canPort_setCan_ne hk]

end

/-! ### Frames received -/

section
variable {a : State} {n sof : Nat} {f : CanFrame} (hl : a.can.ports.length = 8) (hu : a.canUp n = true)
  (hf : (canNorm f).fdf = false ∨ canFd (a.canVal n) = true) (hst : (a.canPort n).st = 2) (hs : a.servesUsdo n = false)
include hl hu hf hst hs

theorem State.canFrameIn_buffer {b : Nat} (hr : (a.canPort n).recErrs ≤ 127) (hc : canStopSource (a.canVal n) = false)
    (hb : (a.written (0x2900 + n) 128).find? (fun b => bufMatches (a.bufVal n b) (canNorm f)) = some b) :
    (a.canFrameIn n sof f).canPort n =
        (({ a.canPort n with recErrs := (a.canPort n).recErrs - 1, rx := wrap 64 ((a.canPort n).rx + 1) } : CanPort).take b (a.sofStamp sof) (canNorm f)) ∧
      ∀ k, k ≠ n → (a.canFrameIn n sof f).canPort k = a.canPort k := by
  have hn : n < a.can.ports.length := by have := State.canUp_lt hu; omega
  obtain ⟨e, he, hcan⟩ := State.rxCounted_can hn
  rw [State.canFrameIn_taken sof hu hf hst, State.takeCanFrame_plain hl hu hs hc, State.placeFrame_rxCounted, hb]
  refine ⟨?_, fun k hk => ?_⟩
  · rw [State.canPort_setCan (by rw [hcan, State.setCan_length]; exact hn), State.canPort_of_can hcan, State.canPort_setCan hn, he hr]
  · rw [State.canPort_setCan_ne hk, State.rxCounted_canPort_ne hn hk]

theorem State.canFrameIn_fifo {i : Nat} (hc : canStopSource (a.canVal n) = false) (hq : (a.canPort n).fifos.length = 2)
    (hb : (a.written (0x2900 + n) 128).find? (fun b => bufMatches (a.bufVal n b) (canNorm f)) = none)
    (hi : (a.written (0x29C0 + n) 64).find? (fun i => filterMatches (a.filterVal n i) (canNorm f)) = some i)
    (ha : bits (a.filterVal n i) 62 2 = 1 ∨ bits (a.filterVal n i) 62 2 = 2)
    (h64 : ((a.canPort n).fifos.getD (bits (a.filterVal n i) 62 2 - 1) CanFifo.reset).recs.length < 64) :
    ∃ r, (((a.canFrameIn n sof f).canPort n).fifos.getD (bits (a.filterVal n i) 62 2 - 1) CanFifo.reset).recs =
        ((a.canPort n).fifos.getD (bits (a.filterVal n i) 62 2 - 1) CanFifo.reset).recs ++ [r] ∧ r.frame = canNorm f ∧
      (r.time, r.frac) = a.sofStamp sof ∧ r.overrun = ((a.canPort n).fifos.getD (bits (a.filterVal n i) 62 2 - 1) CanFifo.reset).lost ∧
      ((a.canFrameIn n sof f).canPort n).bufs = (a.canPort n).bufs ∧ ((a.canFrameIn n sof f).canPort n).drops = (a.canPort n).drops := by
  have hn : n < a.can.ports.length := by have := State.canUp_lt hu; omega
  obtain ⟨e, he, hcan⟩ := State.rxCounted_can hn
  have hp : (a.rxCounted n).canPort n = { a.canPort n with recErrs := e, rx := wrap 64 ((a.canPort n).rx + 1) } := by
    rw [State.canPort_of_can hcan, State.canPort_setCan hn]
  have hn' : n < (a.rxCounted n).can.ports.length := by rw [hcan, State.setCan_length]; exact hn
  rw [State.canFrameIn_taken sof hu hf hst, State.takeCanFrame_plain hl hu hs hc, State.placeFrame_rxCounted, hb, hi]
  dsimp only
  rw [if_neg (by omega)]
  generalize bits (a.filterVal n i) 62 2 = act at *
  unfold State.fifoTake
  rw [hp]
  dsimp only
  rw [if_pos h64, State.canPort_setCan (s := State.draw _ |>.1) hn', show ((a.rxCounted n).draw.1).canPort n = (a.rxCounted n).canPort n from rfl, hp]
  exact ⟨_, by rw [modNth_getD _ _ (show act - 1 < (a.canPort n).fifos.length by omega)], rfl, rfl, rfl, rfl, rfl⟩

theorem State.canFrameIn_dropped (hr : (a.canPort n).recErrs ≤ 127) (hc : canStopSource (a.canVal n) = false)
    (hb : (a.written (0x2900 + n) 128).find? (fun b => bufMatches (a.bufVal n b) (canNorm f)) = none)
    (hi : (a.written (0x29C0 + n) 64).find? (fun i => filterMatches (a.filterVal n i) (canNorm f)) = none) :
    (a.canFrameIn n sof f).canPort n = { a.canPort n with rx := wrap 64 ((a.canPort n).rx + 1), recErrs := (a.canPort n).recErrs - 1, drops := wrap 64 ((a.canPort n).drops + 1) } ∧
      Only (told ++ [Part.can, Part.health]) a (a.canFrameIn n sof f) := by
  have hn : n < a.can.ports.length := by have := State.canUp_lt hu; omega
  obtain ⟨e, he, hcan⟩ := State.rxCounted_can hn
  rw [State.canFrameIn_taken sof hu hf hst, State.takeCanFrame_plain hl hu hs hc, State.placeFrame_rxCounted, hb, hi]
  refine ⟨?_, ?_⟩
  · rw [State.canPort_setCan (by rw [hcan, State.setCan_length]; exact hn), State.canPort_of_can hcan, State.canPort_setCan hn, he hr]
  · have hfree : (a.rxCounted n).free = a.free := by
      unfold State.rxCounted
      rw [State.count_eq]
      unfold State.canRxGood
      rw [if_pos hr]
      rfl
    refine Only.step (x := a.rxCounted n) ?_ fun p hp => State.setCan_same (Part.ne_of_notMem hp (by decide)) ..
    rw [State.rxCounted_eq, hfree]
    exact ((Only.refl _ a).can (by decide) (a.rxCounted n).can).health (by decide) (a.rxCounted n).health

/-- A good frame with CanStopId latches its target, any other with it the all latch. -/
theorem State.canFrameIn_stop (hc : canStopSource (a.canVal n) = true) (h1 : (canNorm f).ide = bit (a.cfg 0x2838 0) 31)
    (h2 : (canNorm f).id = bits (a.cfg 0x2838 0) 0 29) :
    (a.canFrameIn n sof f).stop = ((a.rxCounted n).stopFrame n (canNorm f)).stop ∧
      (a.canFrameIn n sof f).can.badStops = ((a.rxCounted n).stopFrame n (canNorm f)).can.badStops := by
  rw [State.canFrameIn_taken sof hu hf hst, State.takeCanFrame_stop hl hu hs hc _ h1 h2]
  generalize (a.rxCounted n).stopFrame n (canNorm f) = x
  refine ⟨(State.placeFrame_same (pt := .stop) (by decide) (by decide) (by decide) _ _ _ _ _).mpr rfl, ?_⟩
  unfold State.placeFrame
  split
  · rfl
  · split
    · extract_lets act
      split
      · rfl
      · unfold State.fifoTake
        extract_lets q log sn y
        split
        · rfl
        · split
          · exact (congrArg Can.badStops (State.logEv_can ..)).trans rfl
          · rfl
    · rfl

end

theorem State.stopFrame_good {s : State} {n : Nat} {f : CanFrame} (hu : s.up .timebase = true) (hg : f.rtr = false ∧ f.dlc = 8 ∧ u f.data 0 1 ≤ 3 ∧
    u f.data 1 1 = 0 ∧ s.commandTargetOk (u f.data 0 1) (u f.data 2 2) = true) :
    bit ((s.stopFrame n f).stop.latch (latchOf (u f.data 0 1) (u f.data 2 2))) 5 = true ∧ (s.stopFrame n f).can.badStops = s.can.badStops := by
  obtain ⟨h1, h2, h3, h4, h5⟩ := hg
  unfold State.stopFrame
  extract_lets scope target log x y
  rw [if_pos (by simp [h1, h2, h3, h4, scope, target, h5])]
  refine ⟨State.setLatch_bit (by rw [State.logEv_eq]; exact hu) _ _ _, congrArg Can.badStops ?_⟩
  exact ((State.setLatch_same (pt := .can) (by decide) (by decide) (by decide) (by decide) _ _ _ _ _).mpr rfl).trans (State.logEv_can ..)

theorem State.stopFrame_bad {s : State} {n : Nat} {f : CanFrame} (hu : s.up .timebase = true) (hg : ¬ (f.rtr = false ∧ f.dlc = 8 ∧ u f.data 0 1 ≤ 3 ∧
    u f.data 1 1 = 0 ∧ s.commandTargetOk (u f.data 0 1) (u f.data 2 2) = true)) :
    bit ((s.stopFrame n f).stop.latch .all) 5 = true ∧ (s.stopFrame n f).can.badStops = wrap 32 (s.can.badStops + 1) := by
  unfold State.stopFrame
  extract_lets scope target log st x y
  have hy : y.can = x.can ∧ y.islands = x.islands := by
    show (if _ then _ else _ : State).can = _ ∧ (if _ then _ else _ : State).islands = _
    split
    · exact ⟨State.logEv_can .., State.logEv_islands ..⟩
    · exact ⟨rfl, rfl⟩
  rw [if_neg (by simpa [scope, target, and_assoc] using hg)]
  refine ⟨State.setLatch_bit (by unfold State.up State.isl; rw [hy.2]; exact hu) _ _ _, (congrArg Can.badStops ?_).trans (b := x.can.badStops) rfl⟩
  exact ((State.setLatch_same (pt := .can) (by decide) (by decide) (by decide) (by decide) _ _ _ _ _).mpr rfl).trans hy.1

/-! ### Attempts -/

theorem State.canConfine_low {s : State} {n : Nat} (ht : (s.canPort n).tec < 256) (was : Nat) :
    (s.canConfine n was).can = s.can ∧ (s.canConfine n was).out = s.out := by
  unfold State.canConfine
  extract_lets p v y z
  rw [if_neg (by simp only [Bool.and_eq_true, decide_eq_true_eq, not_and]; intro _; exact Nat.not_le.mpr ht)]
  split
  · exact ⟨State.logEv_can .., State.logEv_out ..⟩
  · exact ⟨rfl, rfl⟩

/-- Bus-off: the sends end, and the port recovers of itself where its configuration says so. -/
theorem State.canConfine_high {s : State} {n : Nat} (hn : n < s.can.ports.length) (hst : (s.canPort n).st = 2) (ht : 256 ≤ (s.canPort n).tec) (was : Nat) :
    (s.canConfine n was).canPort n =
      ({ s.canPort n with st := 4, recovering := canAutoRecover (s.canVal n) } : CanPort).endedAll 0x17 (s.canPort n).pend := by
  unfold State.canConfine
  extract_lets p v y z
  rw [if_pos (by simp [p, hst, ht])]
  have hz : z.canPort n = _ := State.endSends_canPort (s := y.logEv .canBusOff []) (n := n) (by
    rw [State.logEv_can]
    exact (State.setCan_length ..).symm ▸ hn) 0x17
  rw [State.canPort_of_can (State.logEv_can ..), State.canPort_setCan hn] at hz
  split
  · rw [State.canPort_of_can ((State.setLatch_same (pt := .can) (by decide) (by decide) (by decide) (by decide) _ _ _ _ _).mpr rfl)]
    exact hz
  · exact hz

/-- What an attempt that fails leaves of a send that is neither one-shot nor to be cancelled. -/
def CanPort.retried (p : CanPort) (x : CanSend) : CanPort :=
  { p with pend := p.pend.map fun y => if y.buf = x.buf then { x with attempts := min 65535 (x.attempts + 1) } else y }

theorem State.sendTried_retried {s : State} {n : Nat} {x : CanSend} (h1 : canOneShot (s.canVal n) = false) (hc : x.cancel = none) (stamp : Int × Nat) :
    s.sendTried n x stamp false = s.setCan n fun p => p.retried x := by
  unfold State.sendTried
  extract_lets y
  rw [if_neg Bool.false_ne_true, if_neg (by rw [h1]; exact Bool.false_ne_true), if_neg (by simp [y, hc])]
  rfl

theorem State.sendTried_sent_can (s : State) (n : Nat) (x : CanSend) (stamp : Int × Nat) :
    (s.sendTried n x stamp true).can = (s.setCan n fun p => p.ended x 0 stamp).can := by
  unfold State.sendTried
  rw [if_pos rfl, State.endCancel_can, State.endSend_can]
  rfl

theorem State.sendTried_sends {s : State} {o : Out} (h : o ∈ s.out) (n : Nat) (x : CanSend) (stamp : Int × Nat) : o ∈ (s.sendTried n x stamp true).out := by
  unfold State.sendTried
  rw [if_pos rfl]
  exact State.endCancel_sends (State.endSend_sends h _ _ _ _) _ _ _

section
variable {a : State} {n b sof : Nat} {x : CanSend} (hu : a.canUp n = true) (hm : a.canModeOf n = 1)
  (hst : (a.canPort n).st = 2) (hf : (a.canPort n).first sof = some (b, x.frame)) (hp : (a.canPort n).pend.find? (fun y => y.buf = b) = some x)
include hu hm hst hf hp

/-- The attempt of a pending send, up to what it does to the counters. -/
theorem State.attemptEnd_eq (o : CanAttempt) : a.attemptEnd n b sof o =
    ((match o with
      | .success => (a.setCan n fun p => { p with tx := wrap 64 (p.tx + 1), tec := p.tec - 1, noAck := 0, lonely := false }).emit (.can n x.frame)
      | .lostArbitration => a
      | .ackError => a.canErrored n true
      | .otherError => a.canErrored n false).sendTried n x (a.sofStamp sof) (o = CanAttempt.success)).canConfine n (a.canPort n).code := by
  unfold State.attemptEnd
  extract_lets p stamp ok was
  rw [if_neg (by simp [p, hu, hm, hst, CanPort.onBus]), show p.first sof = _ from hf]
  dsimp -zeta only
  rw [if_neg (fun h => h rfl)]
  extract_lets y z
  have hz : z = y.sendTried n x stamp ok := by simp only [z, p, hp]
  rw [hz] <;> rfl

variable (hl : a.can.ports.length = 8) (ht : (a.canPort n).tec < 256)
include hl ht

theorem State.attemptEnd_success : Out.can n x.frame ∈ (a.attemptEnd n b sof .success).out ∧
    (a.attemptEnd n b sof .success).canPort n =
      ({ a.canPort n with tx := wrap 64 ((a.canPort n).tx + 1), tec := (a.canPort n).tec - 1, noAck := 0, lonely := false } : CanPort).ended x 0
        (a.sofStamp sof) := by
  have hn : n < a.can.ports.length := by have := State.canUp_lt hu; omega
  rw [State.attemptEnd_eq hu hm hst hf hp]
  rw [show decide (CanAttempt.success = CanAttempt.success) = true from rfl]
  dsimp only
  have hport := State.canPort_of_can (State.sendTried_sent_can
    ((a.setCan n fun p => { p with tx := wrap 64 (p.tx + 1), tec := p.tec - 1, noAck := 0, lonely := false }).emit (.can n x.frame)) n x (a.sofStamp sof)) n
  rw [State.canPort_setCan (by show n < (State.setCan _ _ _).can.ports.length; rw [State.setCan_length]; exact hn),
    show (State.emit _ _).canPort n = (State.setCan _ _ _).canPort n from rfl, State.canPort_setCan hn] at hport
  have hlow := fun was => State.canConfine_low (s := State.sendTried _ n x (a.sofStamp sof) true) (n := n) (by
    rw [hport]
    show (a.canPort n).tec - 1 < 256
    omega) was
  rw [(hlow _).2, State.canPort_of_can (hlow _).1, hport]
  exact ⟨State.sendTried_sends (List.mem_cons_self ..) _ _ _, rfl⟩

theorem State.attemptEnd_lost (h1 : canOneShot (a.canVal n) = false) (hc : x.cancel = none) :
    (a.attemptEnd n b sof .lostArbitration).canPort n = (a.canPort n).retried x := by
  have hn : n < a.can.ports.length := by have := State.canUp_lt hu; omega
  have hport : (a.setCan n fun p => p.retried x).canPort n = (a.canPort n).retried x := State.canPort_setCan hn _
  rw [State.attemptEnd_eq hu hm hst hf hp]
  dsimp only
  rw [show decide (CanAttempt.lostArbitration = .success) = false from rfl, State.sendTried_retried h1 hc,
    State.canPort_of_can (State.canConfine_low (by rw [hport]; exact ht) _).1, hport]

theorem State.attemptEnd_error (h1 : canOneShot (a.canVal n) = false) (hc : x.cancel = none) :
    let p := ({ a.canPort n with errs := wrap 64 ((a.canPort n).errs + 1), tec := (a.canPort n).tec + 8 } : CanPort).retried x
    (a.attemptEnd n b sof .otherError).canPort n = if (a.canPort n).tec + 8 < 256 then p else
      ({ p with st := 4, recovering := canAutoRecover (a.canVal n) } : CanPort).endedAll 0x17 p.pend := by
  have hn : n < a.can.ports.length := by have := State.canUp_lt hu; omega
  intro p
  have e : (a.canErrored n false).sendTried n x (a.sofStamp sof) false =
      (a.setCan n fun p => { p with errs := wrap 64 (p.errs + 1), tec := p.tec + 8 }).setCan n fun p => p.retried x :=
    State.sendTried_retried (s := a.canErrored n false) h1 hc _
  have hn' : n < (a.setCan n fun p => { p with errs := wrap 64 (p.errs + 1), tec := p.tec + 8 }).can.ports.length := by
    rw [State.setCan_length]; exact hn
  have hport : ((a.canErrored n false).sendTried n x (a.sofStamp sof) false).canPort n = p := by
    rw [e, State.canPort_setCan hn', State.canPort_setCan hn]
  rw [State.attemptEnd_eq hu hm hst hf hp]
  dsimp only
  rw [show decide (CanAttempt.otherError = .success) = false from rfl]
  split
  · rename_i hlow
    rw [State.canPort_of_can (State.canConfine_low (by rw [hport]; exact hlow) _).1, hport]
  · rename_i hhigh
    rw [State.canConfine_high (by rw [e, State.setCan_length]; exact hn') (by rw [hport]; exact hst) (by rw [hport]; exact Nat.not_lt.mp hhigh), hport, e]
    rfl

end

/-! ### Requests -/

/-- A request to cancel reaches the port. -/
theorem State.transactCancel_runs {s : State} {c : Caller} {req : Bytes} (h : s.requests c 0x2840 req = true) (trying : Bool) :
    ∃ d : Dict, d.Alike s.dict ∧ s.transactCancel c req trying = State.answer? ((s.withDict d).canTx c req trying) c := by
  simp only [State.requests, State.opens, Bool.and_eq_true] at h
  obtain ⟨⟨ha, hg⟩, hw⟩ := h
  cases hf : s.front c .transact 0x2840 0 with
  | error a => rw [hf] at hg; cases hg
  | ok r =>
    rw [hf] at hg hw
    simp only [Option.isNone_iff_eq_none] at hg hw
    obtain ⟨d, hd, e⟩ := State.access_runs ha fun s => s.transactWith c 0x2840 0 req fun s => s.canTx c req trying
    refine ⟨d, hd, ?_⟩
    rw [State.transactCancel, e]
    congr 1
    unfold State.transactWith State.behind
    rw [State.front_dict hd, hf]
    have hg' : (s.withDict d).gasketOf r = none := hg
    simp only [hw, hg']

theorem txMalformed_port {req : Bytes} (h : txMalformed req = false) : u req 1 1 < 8 := by
  unfold txMalformed at h
  simp only [Bool.or_eq_false_iff, decide_eq_false_iff_not] at h
  omega

theorem State.canSendReq_puts {s : State} {c : Caller} {req : Bytes} (hm : txMalformed req = false)
    (hf : bit (u req 3 1) 0 = false ∨ canFd (s.canVal (u req 1 1)) = true) (hmode : s.canModeOf (u req 1 1) = 1) (hst : (s.canPort (u req 1 1)).st = 2)
    (hk : bufKind (s.bufVal (u req 1 1) (u req 2 1)) = 2) (hp : (s.canPort (u req 1 1)).pend.any (fun x => x.buf = u req 2 1) = false) :
    (s.canSendReq c req).1 = s.putSend c (u req 1 1) (u req 2 1) (s.txFrame (u req 1 1) (u req 2 1) req) := by
  have hh : s.hasCan (u req 1 1) = true := State.canModeOf_has (by rw [hmode]; decide)
  unfold State.canSendReq
  extract_lets n b no
  rw [if_neg (by rw [hm]; exact Bool.false_ne_true), if_neg (by simp [n, hh]), if_neg (by rcases hf with h | h <;> simp [n, h]),
    if_neg (by simp [n, hmode, hst, CanPort.onBus]), if_neg (by simp [n, b, hk]), if_neg (by rw [show s.canPort n = s.canPort (u req 1 1) from rfl, hp]; exact Bool.false_ne_true)]

theorem State.putSend_port {s : State} {n : Nat} (h : n < s.can.ports.length) (c : Caller) (b : Nat) (f : CanFrame) :
    ((s.putSend c n b f).canPort n).pend = (s.canPort n).pend ++ [⟨b, c, s.now, f, 0, none⟩] ∧
      (((s.putSend c n b f).canPort n).buf b).frame = f ∧
      (((s.putSend c n b f).canPort n).buf b).seq = wrap 16 (((s.canPort n).buf b).seq + 1) ∧
      ∀ k, k ≠ n → (s.putSend c n b f).canPort k = s.canPort k := by
  have hp : (s.putSend c n b f).canPort n = _ := State.canPort_setCan (s := s.draw.1) h _
  refine ⟨by rw [hp]; rfl, ?_, ?_, fun k hk => State.canPort_setCan_ne (s := s.draw.1) hk _⟩
  all_goals
    rw [hp]
    refine (congrArg _ (CanPort.buf_setBuf ..)).trans rfl

theorem State.canCancelReq_waits {s : State} {c : Caller} {req : Bytes} {x : CanSend} (hl : s.can.ports.length = 8) (hm : txMalformed req = false)
    (hh : s.hasCan (u req 1 1) = true) (hf : (s.canPort (u req 1 1)).pend.find? (fun x => x.buf = u req 2 1) = some x) (hc : x.cancel = none)
    (trying : Bool) : let v := (s.canCancelReq c req trying).1
    (v.canPort (u req 1 1)).pend = (if trying then (s.canPort (u req 1 1)).pend.map (fun y => if y.buf = u req 2 1 then { y with cancel := some c } else y)
        else (s.canPort (u req 1 1)).pend.filter fun y => y.buf ≠ u req 2 1) ∧
      ((v.canPort (u req 1 1)).buf (u req 2 1)).outcome = (if trying then ((s.canPort (u req 1 1)).buf (u req 2 1)).outcome else 0x1C) := by
  have hn : u req 1 1 < s.can.ports.length := by have := txMalformed_port hm; omega
  have hb : x.buf = u req 2 1 := by simpa using List.find?_some hf
  intro v
  have hv : v = if trying then s.setCan (u req 1 1) fun p => { p with pend := p.pend.map fun y => if y.buf = u req 2 1 then { y with cancel := some c } else y }
      else s.endSend (u req 1 1) x 0x1C (0, 0) := by
    show (State.canCancelReq s c req trying).1 = _
    unfold State.canCancelReq
    extract_lets n b no
    rw [if_neg (by rw [hm]; exact Bool.false_ne_true), if_neg (by simp [n, hh]), show (s.canPort n).pend.find? (fun x => x.buf = b) = _ from hf]
    dsimp only
    rw [if_neg (by simp [hc])]
    cases trying <;> rfl
  cases trying
  · simp only [Bool.false_eq_true, if_false] at hv ⊢
    rw [hv, State.canPort_of_can (State.endSend_can ..), State.canPort_setCan hn, CanPort.ended, hb]
    exact ⟨rfl, congrArg CanRec.outcome (CanPort.buf_setBuf ..)⟩
  · simp only [if_true] at hv ⊢
    rw [hv, State.canPort_setCan hn]
    exact ⟨rfl, rfl⟩

/-- An acknowledged buffer. -/
theorem State.bufferAck_eq {s : State} {n b : Nat} {x : CanRec} (hx : Tbl.get? (s.canPort n).bufs b = some x) :
    (s.bufferAck n b x.seq).1 = s.setCan n fun p => if Tbl.has p.bufs b then p.setBuf b { x with fresh := false, overrun := false } else p := by
  have hb : (s.canPort n).buf b = x := by
    unfold CanPort.buf Tbl.getD
    rw [hx]
  unfold State.bufferAck
  rw [hb]
  exact congrArg Prod.fst (if_neg fun h => h rfl)

theorem State.canRxError_counts {s : State} {n : Nat} (hl : s.can.ports.length = 8) (hu : s.canUp n = true) (hst : (s.canPort n).st = 2)
    (ht : (s.canPort n).tec < 256) :
    (s.canRxError n).canPort n = { s.canPort n with errs := wrap 64 ((s.canPort n).errs + 1), recErrs := min 65535 ((s.canPort n).recErrs + 1) } ∧
      (s.canModeOf n = 1 → Out.canError n ∈ (s.canRxError n).out) ∧ Only (told ++ [Part.can, Part.log]) s (s.canRxError n) := by
  have hn : n < s.can.ports.length := by have := State.canUp_lt hu; omega
  unfold State.canRxError
  extract_lets p was x y
  rw [if_neg (by simp [p, hu, hst, CanPort.onBus])]
  have hx : x.canPort n = _ := State.canPort_setCan hn _
  have hy : y.canPort n = x.canPort n := by
    show (if _ then _ else _ : State).canPort n = _
    split <;> rfl
  have hlow := State.canConfine_low (s := y) (n := n) (by rw [hy, hx]; exact ht) was
  have hform : y.canConfine n was = y ∨ y.canConfine n was = y.logEv .canErrorPassive [] := by
    unfold State.canConfine
    extract_lets q v z w
    rw [if_neg (by simp only [Bool.and_eq_true, decide_eq_true_eq, not_and]; intro _; show ¬ 256 ≤ (y.canPort n).tec; rw [hy, hx]; exact Nat.not_le.mpr ht)]
    split
    · exact .inr rfl
    · exact .inl rfl
  have hyo : Only (told ++ [Part.can, Part.log]) s y := by
    have hx : Only (told ++ [Part.can, Part.log]) s x := (Only.refl _ s).step fun p hp => State.setCan_same (Part.ne_of_notMem hp (by decide)) ..
    show Only _ s (if _ then _ else _)
    split
    · exact hx.step fun p hp => State.emit_same (Part.ne_of_notMem hp (by decide)) ..
    · exact hx
  refine ⟨by rw [State.canPort_of_can hlow.1, hy, hx], fun hm => ?_, ?_⟩
  · rw [hlow.2]
    show _ ∈ (if _ then _ else _ : State).out
    rw [if_pos (show x.canModeOf n = 1 from hm)]
    exact List.mem_cons_self ..
  · rcases hform with h | h <;> rw [h]
    · exact hyo
    · exact hyo.step fun p hp => State.logEv_same (Part.ne_of_notMem hp (by decide)) ..

/-! ### FIFOs -/

theorem State.postFifo_one {s v : State} {n i q : Nat} {x : CanRec} (hn : n < s.can.ports.length) (hq : (s.canPort n).fifos.length = 2) (hi : i < 2)
    (hf : (s.canPort n).fifos.getD i CanFifo.reset = ⟨[x], false, none⟩) (hp : s.post? q x.packet = some v) (k : Nat) :
    s.postFifo n i q (k + 2) = v.setCan n fun p => { p with fifos := modNth p.fifos i fun f => { f with recs := f.recs.drop 1 } } := by
  have hv : v.can = s.can := (State.post?_same (pt := .can) (by decide) (by decide) (by decide) (by decide) s s q _ hp).mpr rfl
  have hport : ((v.setCan n fun p => { p with fifos := modNth p.fifos i fun f => { f with recs := f.recs.drop 1 } }).canPort n).fifos.getD i CanFifo.reset
      = ⟨[], false, none⟩ := by
    rw [State.canPort_setCan (by rw [hv]; exact hn), State.canPort_of_can hv]
    show (modNth _ i _).getD i _ = _
    rw [modNth_getD _ _ (by omega), hf]
    rfl
  unfold State.postFifo
  rw [hf]
  dsimp only
  rw [hp]
  dsimp only
  unfold State.postFifo
  rw [hport]

/-! ### O36 -/

section
variable (s : State) (t n : Nat)

theorem canReceived_buffer (sof b : Nat) (f : CanFrame) (hl : (s.advance t).can.ports.length = 8) (hu : (s.advance t).canUp n = true)
    (hf : (canNorm f).fdf = false ∨ canFd ((s.advance t).canVal n) = true) (hst : ((s.advance t).canPort n).st = 2)
    (hr : ((s.advance t).canPort n).recErrs ≤ 127) (hs : (s.advance t).servesUsdo n = false) (hc : canStopSource ((s.advance t).canVal n) = false)
    (hb : ((s.advance t).written (0x2900 + n) 128).find? (fun b => bufMatches ((s.advance t).bufVal n b) (canNorm f)) = some b) :
    Yields (exec (.canFrameReceived t n sof f) s) fun v =>
      (v.canPort n).buf b = ⟨((s.advance t).sofStamp sof).1, ((s.advance t).sofStamp sof).2, wrap 16 ((((s.advance t).canPort n).buf b).seq + 1), canNorm f, true,
          (((s.advance t).canPort n).buf b).overrun || (((s.advance t).canPort n).buf b).fresh, 0⟩
        ∧ (v.canPort n).rx = wrap 64 (((s.advance t).canPort n).rx + 1) ∧ (v.canPort n).recErrs = ((s.advance t).canPort n).recErrs - 1
        ∧ (v.canPort n).fifos = ((s.advance t).canPort n).fifos ∧ (∀ k < 8, k ≠ n → v.canPort k = (s.advance t).canPort k) := by
  obtain ⟨h1, h2⟩ := State.canFrameIn_buffer (sof := sof) hl hu hf hst hs hr hc hb
  refine .next ?_
  rw [State.run_canPort, h1]
  refine ⟨?_, ?_, ?_, ?_, fun k _ hk => (State.run_canPort ..).trans (h2 k hk)⟩ <;> generalize s.advance t = a
  · exact CanPort.buf_setBuf ..
  all_goals rfl

theorem canReceived_fifo (sof i : Nat) (f : CanFrame) {act : Nat} (hact : act = bits ((s.advance t).filterVal n i) 62 2)
    (hl : (s.advance t).can.ports.length = 8) (hu : (s.advance t).canUp n = true)
    (hf : (canNorm f).fdf = false ∨ canFd ((s.advance t).canVal n) = true) (hst : ((s.advance t).canPort n).st = 2)
    (hq : ((s.advance t).canPort n).fifos.length = 2) (hs : (s.advance t).servesUsdo n = false) (hc : canStopSource ((s.advance t).canVal n) = false)
    (hb : ((s.advance t).written (0x2900 + n) 128).find? (fun b => bufMatches ((s.advance t).bufVal n b) (canNorm f)) = none)
    (hi : ((s.advance t).written (0x29C0 + n) 64).find? (fun i => filterMatches ((s.advance t).filterVal n i) (canNorm f)) = some i)
    (ha : act = 1 ∨ act = 2) (h64 : (((s.advance t).canPort n).fifos.getD (act - 1) CanFifo.reset).recs.length < 64) :
    Yields (exec (.canFrameReceived t n sof f) s) fun v =>
      ∃ r, ((v.canPort n).fifos.getD (act - 1) CanFifo.reset).recs = (((s.advance t).canPort n).fifos.getD (act - 1) CanFifo.reset).recs ++ [r]
        ∧ r.frame = canNorm f ∧ (r.time, r.frac) = (s.advance t).sofStamp sof
        ∧ r.overrun = (((s.advance t).canPort n).fifos.getD (act - 1) CanFifo.reset).lost ∧ (v.canPort n).bufs = ((s.advance t).canPort n).bufs
        ∧ (v.canPort n).drops = ((s.advance t).canPort n).drops := by
  subst hact
  refine .next ?_
  rw [State.run_canPort]
  exact State.canFrameIn_fifo hl hu hf hst hs hc hq hb hi ha h64

theorem canReceived_dropped (sof : Nat) (f : CanFrame) (hl : (s.advance t).can.ports.length = 8) (hu : (s.advance t).canUp n = true)
    (hf : (canNorm f).fdf = false ∨ canFd ((s.advance t).canVal n) = true) (hst : ((s.advance t).canPort n).st = 2)
    (hr : ((s.advance t).canPort n).recErrs ≤ 127) (hs : (s.advance t).servesUsdo n = false) (hc : canStopSource ((s.advance t).canVal n) = false)
    (hb : ((s.advance t).written (0x2900 + n) 128).find? (fun b => bufMatches ((s.advance t).bufVal n b) (canNorm f)) = none)
    (hi : ((s.advance t).written (0x29C0 + n) 64).find? (fun i => filterMatches ((s.advance t).filterVal n i) (canNorm f)) = none) :
    Yields (exec (.canFrameReceived t n sof f) s) fun v =>
      v.canPort n =
          { (s.advance t).canPort n with
            rx := wrap 64 (((s.advance t).canPort n).rx + 1), recErrs := ((s.advance t).canPort n).recErrs - 1,
            drops := wrap 64 (((s.advance t).canPort n).drops + 1) } ∧ Only (told ++ [Part.can, Part.health]) (s.advance t) v := by
  obtain ⟨h1, h2⟩ := State.canFrameIn_dropped (sof := sof) hl hu hf hst hs hr hc hb hi
  exact .next ⟨(State.run_canPort ..).trans h1, Only.run (by decide) h2⟩

theorem canReceived_stop (sof : Nat) (f : CanFrame) (hl : (s.advance t).can.ports.length = 8) (hu : (s.advance t).canUp n = true)
    (hf : (canNorm f).fdf = false ∨ canFd ((s.advance t).canVal n) = true) (hst : ((s.advance t).canPort n).st = 2)
    (hs : (s.advance t).servesUsdo n = false) (hc : canStopSource ((s.advance t).canVal n) = true)
    (h1 : (canNorm f).ide = bit ((s.advance t).cfg 0x2838 0) 31) (h2 : (canNorm f).id = bits ((s.advance t).cfg 0x2838 0) 0 29)
    (ht : (s.advance t).up .timebase = true) :
    Yields (exec (.canFrameReceived t n sof f) s) fun v =>
      (((canNorm f).rtr = false ∧ (canNorm f).dlc = 8 ∧ u (canNorm f).data 0 1 ≤ 3 ∧ u (canNorm f).data 1 1 = 0
          ∧ (s.advance t).commandTargetOk (u (canNorm f).data 0 1) (u (canNorm f).data 2 2) = true) →
        bit (v.stop.latch (latchOf (u (canNorm f).data 0 1) (u (canNorm f).data 2 2))) 5 = true ∧ v.can.badStops = (s.advance t).can.badStops)
      ∧ (¬((canNorm f).rtr = false ∧ (canNorm f).dlc = 8 ∧ u (canNorm f).data 0 1 ≤ 3 ∧ u (canNorm f).data 1 1 = 0
          ∧ (s.advance t).commandTargetOk (u (canNorm f).data 0 1) (u (canNorm f).data 2 2) = true) →
        bit (v.stop.latch .all) 5 = true ∧ v.can.badStops = wrap 32 ((s.advance t).can.badStops + 1)) := by
  refine .next ?_
  rw [State.run_stop, State.run_can]
  generalize s.advance t = a at *
  obtain ⟨hstop, hbad⟩ := State.canFrameIn_stop (sof := sof) hl hu hf hst hs hc h1 h2
  have hn : n < a.can.ports.length := by have := State.canUp_lt hu; omega
  obtain ⟨e, -, hcan⟩ := State.rxCounted_can hn
  have hb0 : (a.rxCounted n).can.badStops = a.can.badStops := (congrArg Can.badStops hcan).trans rfl
  have hup : (a.rxCounted n).up .timebase = true := by rw [State.rxCounted_eq]; exact ht
  have hok : (a.rxCounted n).commandTargetOk = a.commandTargetOk := by rw [State.rxCounted_eq]; rfl
  rw [hstop, hbad, ← hok, ← hb0]
  exact ⟨State.stopFrame_good hup, State.stopFrame_bad hup⟩

theorem canSend_yields (w : Caller) (req : Bytes) (hl : (s.advance t).can.ports.length = 8) (hr : (s.advance t).requests w 0x2840 req = true)
    (hop : u req 0 1 = 1) (hm : txMalformed req = false) (hf : bit (u req 3 1) 0 = false ∨ canFd ((s.advance t).canVal (u req 1 1)) = true)
    (hmode : (s.advance t).canModeOf (u req 1 1) = 1) (hst : ((s.advance t).canPort (u req 1 1)).st = 2)
    (hk : bufKind ((s.advance t).bufVal (u req 1 1) (u req 2 1)) = 2)
    (hp : ((s.advance t).canPort (u req 1 1)).pend.any (fun x => x.buf = u req 2 1) = false) :
    Yields (exec (.canSend t w req) s) fun v =>
      (v.canPort (u req 1 1)).pend = ((s.advance t).canPort (u req 1 1)).pend ++
          [⟨u req 2 1, w, (s.advance t).now, (s.advance t).txFrame (u req 1 1) (u req 2 1) req, 0, none⟩]
        ∧ ((v.canPort (u req 1 1)).buf (u req 2 1)).frame = (s.advance t).txFrame (u req 1 1) (u req 2 1) req
        ∧ ((v.canPort (u req 1 1)).buf (u req 2 1)).seq = wrap 16 ((((s.advance t).canPort (u req 1 1)).buf (u req 2 1)).seq + 1)
        ∧ (∀ k < 8, k ≠ u req 1 1 → v.canPort k = (s.advance t).canPort k) ∧ Only (told ++ [Part.can, Part.free]) (s.advance t) v := by
  obtain ⟨d, -, h1, h2⟩ := State.run_request hr
  generalize s.advance t = a at *
  have e : ((a.withDict d).portOp w 0x2840 0 req).1 =
      ((a.withDict d).draw.1).putSend w (u req 1 1) (u req 2 1) (a.txFrame (u req 1 1) (u req 2 1) req) := by
    show (((a.withDict d).draw.1).canTx w req _).1 = _
    unfold State.canTx
    rw [if_neg (by omega)]
    exact State.canSendReq_puts (s := (a.withDict d).draw.1) hm hf hmode hst hk hp
  rw [e] at h1 h2
  have hn : u req 1 1 < ((a.withDict d).draw.1).can.ports.length := by have := txMalformed_port hm; show u req 1 1 < a.can.ports.length; omega
  obtain ⟨p1, p2, p3, p4⟩ := State.putSend_port hn w (u req 2 1) (a.txFrame (u req 1 1) (u req 2 1) req)
  have hc (k : Nat) := State.canPort_of_can (h1 .can (by decide)) k
  refine .next ?_
  rw [hc]
  refine ⟨p1, p2, p3, fun k _ hk => (hc k).trans (p4 k hk), h2 _ (by decide) ?_⟩
  refine (Only.withDict a d (by decide)).step fun p hp => ?_
  rw [State.putSend_same (Part.ne_of_notMem hp (by decide)) (Part.ne_of_notMem hp (by decide))]
  exact State.draw_same (Part.ne_of_notMem hp (by decide)) ..

theorem canCancel_yields (w : Caller) (req : Bytes) (x : CanSend) (trying : Bool) (hl : (s.advance t).can.ports.length = 8)
    (hr : (s.advance t).requests w 0x2840 req = true) (hop : u req 0 1 = 2) (hm : txMalformed req = false)
    (hh : (s.advance t).hasCan (u req 1 1) = true)
    (hf : ((s.advance t).canPort (u req 1 1)).pend.find? (fun x => x.buf = u req 2 1) = some x) (hc : x.cancel = none) :
    Yields (exec (.canCancel t w req trying) s) fun v =>
      (v.canPort (u req 1 1)).pend =
          (if trying then ((s.advance t).canPort (u req 1 1)).pend.map (fun y => if y.buf = u req 2 1 then { y with cancel := some w } else y)
          else ((s.advance t).canPort (u req 1 1)).pend.filter fun y => y.buf ≠ u req 2 1)
        ∧ ((v.canPort (u req 1 1)).buf (u req 2 1)).outcome =
          (if trying then (((s.advance t).canPort (u req 1 1)).buf (u req 2 1)).outcome else 0x1C)
        ∧ Only (told ++ [Part.can]) (s.advance t) v := by
  obtain ⟨d, -, e⟩ := State.transactCancel_runs hr trying
  rw [show ((s.advance t).withDict d).canTx w req trying = ((s.advance t).withDict d).canCancelReq w req trying from if_pos hop] at e
  refine .next ?_
  rw [State.run_canPort, e]
  have hcan (r : State × Option Ans) : (State.answer? r w).canPort (u req 1 1) = r.1.canPort (u req 1 1) :=
    State.canPort_of_can (State.answer?_can ..) _
  rw [hcan]
  obtain ⟨p1, p2⟩ := State.canCancelReq_waits (s := (s.advance t).withDict d) (c := w) hl hm hh hf hc trying
  refine ⟨p1, p2, Only.run (by decide) ?_⟩
  rw [e]
  refine Only.answer? (by decide) ((Only.withDict _ d (by decide)).step fun p hp => ?_)
  exact State.canCancelReq_same (Part.ne_of_notMem hp (by decide)) (Part.ne_of_notMem hp (by decide)) (Part.ne_of_notMem hp (by decide)) ..

section
variable (b sof : Nat) (x : CanSend) (hl : (s.advance t).can.ports.length = 8) (hu : (s.advance t).canUp n = true)
  (hm : (s.advance t).canModeOf n = 1) (hst : ((s.advance t).canPort n).st = 2) (ht : ((s.advance t).canPort n).tec < 256)
  (hf : ((s.advance t).canPort n).first sof = some (b, x.frame)) (hp : ((s.advance t).canPort n).pend.find? (fun y => y.buf = b) = some x)
include hl hu hm hst ht hf hp

theorem canAttemptEnd_success : Yields (exec (.canAttemptEnd t n b sof .success) s) fun v =>
    Out.can n x.frame ∈ v.out ∧ (v.canPort n).pend = ((s.advance t).canPort n).pend.filter (fun y => y.buf ≠ b)
      ∧ (v.canPort n).tx = wrap 64 (((s.advance t).canPort n).tx + 1)
      ∧ (v.canPort n).tec = ((s.advance t).canPort n).tec - 1 ∧ (v.canPort n).noAck = 0 ∧ (v.canPort n).lonely = false
      ∧ (v.canPort n).buf b =
        { ((s.advance t).canPort n).buf b with time := ((s.advance t).sofStamp sof).1, frac := ((s.advance t).sofStamp sof).2, outcome := 0 } := by
  have hb : x.buf = b := by simpa using List.find?_some hp
  obtain ⟨h1, h2⟩ := State.attemptEnd_success hu hm hst hf hp hl ht
  refine .next ?_
  rw [State.run_canPort, h2, CanPort.ended, hb]
  refine ⟨State.run_sends h1, ?_⟩
  generalize s.advance t = a
  exact ⟨rfl, rfl, rfl, rfl, rfl, CanPort.buf_setBuf ..⟩

theorem canAttemptEnd_lost (h1 : canOneShot ((s.advance t).canVal n) = false) (hc : x.cancel = none) :
    Yields (exec (.canAttemptEnd t n b sof .lostArbitration) s) fun v =>
      (v.canPort n).pend = ((s.advance t).canPort n).pend.map (fun y => if y.buf = b then { x with attempts := min 65535 (x.attempts + 1) } else y)
        ∧ (v.canPort n).tec = ((s.advance t).canPort n).tec ∧ (v.canPort n).errs = ((s.advance t).canPort n).errs ∧ (v.canPort n).st = 2 := by
  have hb : x.buf = b := by simpa using List.find?_some hp
  refine .next ?_
  rw [State.run_canPort, State.attemptEnd_lost hu hm hst hf hp hl ht h1 hc, CanPort.retried, hb]
  exact ⟨rfl, rfl, rfl, hst⟩

theorem canAttemptEnd_error (h1 : canOneShot ((s.advance t).canVal n) = false) (hc : x.cancel = none) :
    Yields (exec (.canAttemptEnd t n b sof .otherError) s) fun v =>
      (v.canPort n).tec = ((s.advance t).canPort n).tec + 8 ∧ (v.canPort n).errs = wrap 64 (((s.advance t).canPort n).errs + 1)
        ∧ (((s.advance t).canPort n).tec + 8 < 256 → (v.canPort n).st = 2 ∧ (v.canPort n).pend.length = ((s.advance t).canPort n).pend.length)
        ∧ (256 ≤ ((s.advance t).canPort n).tec + 8 → (v.canPort n).st = 4 ∧ (v.canPort n).pend = []
          ∧ (v.canPort n).recovering = canAutoRecover ((s.advance t).canVal n)) := by
  refine .next ?_
  rw [State.run_canPort, State.attemptEnd_error hu hm hst hf hp hl ht h1 hc]
  generalize s.advance t = a at *
  split
  · rename_i hlow
    exact ⟨rfl, rfl, fun _ => ⟨hst, List.length_map _⟩, fun h => absurd hlow (Nat.not_lt.mpr h)⟩
  · rename_i hhigh
    exact ⟨CanPort.endedAll_tec .., CanPort.endedAll_errs .., fun h => absurd h hhigh, fun _ =>
      ⟨CanPort.endedAll_st .., CanPort.endedAll_pend .., CanPort.endedAll_recovering ..⟩⟩

end

theorem canBufferAck_yields (b seq : Nat) (w : Caller) (x : CanRec) (hn : n < 8) (hb : b < 128) (hl : (s.advance t).can.ports.length = 8)
    (hq : seq < 65536) (hw : (s.advance t).writes w (0x2980 + n) (b + 1) (leBytes 2 seq) = true)
    (hx : Tbl.get? ((s.advance t).canPort n).bufs b = some x) (hs : x.seq = seq) :
    Yields (exec (.canBufferAck t w n b seq) s) fun v =>
      (v.canPort n).buf b = { x with fresh := false, overrun := false } ∧ (v.canPort n).fifos = ((s.advance t).canPort n).fifos
        ∧ Only (told ++ [Part.can]) (s.advance t) v := by
  obtain ⟨d, -, h1, h2⟩ := State.run_command hw (.inl (by omega)) fun r hr =>
    kind_within (lo := 0x2980) (hi := 0x2988) (slo := 1) (shi := 129) (by decide +kernel) (by omega) (by omega) (by omega) (by omega) hr
  show Yields (.next (s.run t fun s => if n < 8 then _ else s)) _
  simp only [if_pos hn]
  generalize s.advance t = a at *
  have e : (((a.withDict d).command w (0x2980 + n) (b + 1) (leBytes 2 seq)).1) = ((a.withDict d).bufferAck n b x.seq).1 := by
    unfold State.command
    rw [if_neg (by omega), if_neg (by simp only [Bool.and_eq_true, decide_eq_true_eq]; omega), if_pos (by simp only [Bool.and_eq_true, decide_eq_true_eq]; omega),
      Nat.add_sub_cancel_left, Nat.add_sub_cancel, leNat_leBytes, Nat.mod_eq_of_lt (show seq < 256 ^ 2 from hq), hs]
  rw [e] at h1 h2
  refine .next ?_
  rw [State.canPort_of_can (h1 .can (by decide)), State.bufferAck_eq (s := a.withDict d) hx,
    State.canPort_setCan (s := a.withDict d) (show n < a.can.ports.length by omega), show (a.withDict d).canPort n = a.canPort n from rfl]
  rw [if_pos (show Tbl.has (a.canPort n).bufs b = true by unfold Tbl.has; rw [hx]; rfl)]
  exact ⟨CanPort.buf_setBuf .., rfl, h2 _ (by decide) ((Only.withDict a d (by decide)).step fun p hp => State.bufferAck_same (Part.ne_of_notMem hp (by decide)) ..)⟩

theorem canFifoPost_yields (i : Nat) (x : CanRec) {q : Nat} (hqq : q = u ((s.advance t).cfgB (0x2820 + n) 0x0A) (2 * i) 2)
    (hl : (s.advance t).can.ports.length = 8) (hq : ((s.advance t).canPort n).fifos.length = 2) (hu : (s.advance t).up .network = true)
    (hh : (s.advance t).hasCan n = true) (hi : i < 2) (hf : ((s.advance t).canPort n).fifos.getD i CanFifo.reset = ⟨[x], false, none⟩)
    (hfu : (s.advance t).up .fabric = true) (hb : (s.advance t).hasBlocks q (pktBlocks (toWords (x.packet.length / 4 + 1) x.packet).length) = true)
    (ho : ((s.advance t).fabric.queue q).pkts.countP (fun p => p.phase.isOpen) < 8) :
    Yields (exec (.canFifoPost t n i) s) fun v =>
      (v.canPort n).fifos.getD i CanFifo.reset = ⟨[], false, none⟩
        ∧ (v.fabric.queue q).pkts = ((s.advance t).fabric.queue q).pkts ++
          [⟨(s.advance t).fabric.pktNext, 0, toWords (x.packet.length / 4 + 1) x.packet, .closed⟩]
        ∧ Only (told ++ [Part.can, Part.fabric, Part.health, Part.log]) (s.advance t) v := by
  have hn : n < (s.advance t).can.ports.length := by have := State.hasCan_lt hh; omega
  obtain ⟨v, hv⟩ := State.post?_isSome hfu hb ho
  have e : (s.advance t).fifoPost n i = v.setCan n fun p => { p with fifos := modNth p.fifos i fun f => { f with recs := f.recs.drop 1 } } := by
    unfold State.fifoPost
    rw [if_neg (by simp only [hu, hh, Bool.not_true, Bool.false_or, Bool.or_self, decide_eq_true_eq]; omega), ← hqq]
    exact State.postFifo_one hn hq hi hf hv 62
  have hc : v.can = (s.advance t).can := (State.post?_same (pt := .can) (by decide) (by decide) (by decide) (by decide) _ _ q _ hv).mpr rfl
  refine .next ⟨?_, ?_, Only.run (by decide) ((Only.refl _ _).step fun p hp => State.fifoPost_same (Part.ne_of_notMem hp (by decide))
    (Part.ne_of_notMem hp (by decide)) (Part.ne_of_notMem hp (by decide)) (Part.ne_of_notMem hp (by decide)) (Part.ne_of_notMem hp (by decide)) ..)⟩
  · rw [State.run_canPort, e, State.canPort_setCan (by rw [hc]; exact hn), State.canPort_of_can hc]
    show (modNth _ i _).getD i _ = _
    rw [modNth_getD _ _ (by omega), hf]
    rfl
  · have hq' : (s.run t fun s => s.fifoPost n i).fabric.queues = v.fabric.queues := by rw [State.run_queues, e]; rfl
    rw [show ((s.run t fun s => s.fifoPost n i).fabric.queue q) = v.fabric.queue q by unfold Fabric.queue; rw [hq']]
    exact State.post?_pkts hv

theorem canErrorFrame_yields (hl : (s.advance t).can.ports.length = 8) (hu : (s.advance t).canUp n = true) (hst : ((s.advance t).canPort n).st = 2)
    (ht : ((s.advance t).canPort n).tec < 256) :
    Yields (exec (.canErrorFrame t n) s) fun v =>
      v.canPort n =
          { (s.advance t).canPort n with
            errs := wrap 64 (((s.advance t).canPort n).errs + 1), recErrs := min 65535 (((s.advance t).canPort n).recErrs + 1) }
        ∧ ((s.advance t).canModeOf n = 1 → Out.canError n ∈ v.out) ∧ Only (told ++ [Part.can, Part.log]) (s.advance t) v := by
  obtain ⟨h1, h2, h3⟩ := State.canRxError_counts hl hu hst ht
  exact .next ⟨(State.run_canPort ..).trans h1, fun hm => State.run_sends (h2 hm), Only.run (by decide) h3⟩

end

/-- Settles O36. -/
theorem canTraffic : Obligations.CanTraffic :=
  ⟨canReceived_buffer, fun s t n sof i f => canReceived_fifo s t n sof i f rfl, canReceived_dropped, canReceived_stop, canSend_yields, canCancel_yields,
    canAttemptEnd_success, canAttemptEnd_lost, canAttemptEnd_error, canBufferAck_yields, fun s t n i x => canFifoPost_yields s t n i x rfl, canErrorFrame_yields⟩

end Sys2Proof.Machine
end

section
set_option Elab.async false
/-!
PROOF. O47 fails: CounterSelect's own check of its sources (Table 19.12) comes after the checks that `State.writes` stands for.
-/

namespace Sys2Proof.Machine

/-- A CounterSelect value that names no source of Table 19.12. -/
def noCounterSource : Nat := 0xFF0000

/-- The write passes the checks 1 to 10 in the state after reset. -/
theorem writes_noCounterSource : (State.reset.advance 0).writes .firmware 0x1330 1 (leBytes 4 noCounterSource) = true := by decide +kernel

/-- The counter's block refuses it, and the object keeps its default. -/
theorem run_noCounterSource :
    (State.reset.run 0 fun s => s.writeBy .firmware 0x1330 1 (leBytes 4 noCounterSource)).cfg 0x1330 1 = 0 := by decide +kernel

/-- Refutes O47: from the state after reset the firmware writes a value to CounterSelect that names no source (Table 19.12); the write
passes the checks of the dictionary, the counter's block refuses it, and the object does not take the value. -/
theorem not_memoryHealth : ¬ Obligations.MemoryHealth := by
  rintro ⟨-, -, -, -, -, -, hselect, -⟩
  obtain ⟨w, hw, hcfg, -⟩ := hselect State.reset 0 0 noCounterSource .firmware (by decide) (by decide) (by decide +kernel) writes_noCounterSource
  cases hw
  exact absurd (hcfg.symm.trans run_noCounterSource) (by decide)

end Sys2Proof.Machine
end

section
set_option Elab.async false
/-!
PROOF. Islands: what an update of one island's record leaves of the others, and the parts that a run reads back.
-/

namespace Sys2Proof.Machine

/-! ### One island -/

theorem island_id_lt (i : Island) : i.id < 12 := by cases i <;> decide

theorem island_id_inj {i j : Island} (h : i.id = j.id) : i = j := by cases i <;> cases j <;> first | rfl | exact absurd h (by decide)

theorem State.isl_setIsl {s : State} (h : s.islands.length = 12) (i : Island) (f : IslandRec → IslandRec) : (s.setIsl i f).isl i = f (s.isl i) :=
  modNth_getD f _ (h.symm ▸ island_id_lt i)

theorem State.isl_setIsl_ne {i j : Island} (s : State) (h : j ≠ i) (f : IslandRec → IslandRec) : (s.setIsl i f).isl j = s.isl j :=
  modNth_getD_ne f _ fun e => h (island_id_inj e)

theorem State.isl_of_islands {x y : State} (h : x.islands = y.islands) (i : Island) : x.isl i = y.isl i := by
  unfold State.isl
  rw [h]

theorem State.up_of_islands {x y : State} (h : x.islands = y.islands) (i : Island) : x.up i = y.up i := by
  unfold State.up
  rw [State.isl_of_islands h]

theorem State.setIsl_length (s : State) (i : Island) (f : IslandRec → IslandRec) : (s.setIsl i f).islands.length = s.islands.length :=
  modNth_length _ _ _

/-- Every record of the list keeps what the update of one island keeps. -/
theorem modNth_forall {α : Type} {P : α → Prop} {l : List α} {f : α → α} (h : ∀ x ∈ l, P x) (hf : ∀ x, P x → P (f x)) (n : Nat) :
    ∀ x ∈ modNth l n f, P x := by
  induction l generalizing n with
  | nil => exact fun x hx => absurd hx List.not_mem_nil
  | cons a l ih =>
    cases n with
    | zero =>
      intro x hx
      rcases List.mem_cons.mp hx with rfl | hx
      · exact hf _ (h _ (List.mem_cons_self ..))
      · exact h _ (List.mem_cons_of_mem _ hx)
    | succ n =>
      intro x hx
      rcases List.mem_cons.mp hx with rfl | hx
      · exact h _ (List.mem_cons_self ..)
      · exact ih (fun y hy => h y (List.mem_cons_of_mem _ hy)) n x hx

theorem modNth_map {α β : Type} (g : α → β) {l : List α} {f : α → α} (hf : ∀ x, g (f x) = g x) (n : Nat) : (modNth l n f).map g = l.map g := by
  induction l generalizing n with
  | nil => rfl
  | cons a l ih =>
    cases n with
    | zero => exact congrArg (· :: _) (hf a)
    | succ n => exact congrArg (_ :: ·) (ih n)

theorem State.isl_mem {s : State} (h : s.islands.length = 12) (i : Island) : s.isl i ∈ s.islands := by
  have hi : i.id < s.islands.length := h.symm ▸ island_id_lt i
  unfold State.isl
  rw [List.getD_eq_getElem _ _ hi]
  exact List.getElem_mem hi

theorem State.isl_mapIslands {s : State} (h : s.islands.length = 12) (f : IslandRec → IslandRec) (i : Island) :
    ({ s with islands := s.islands.map f } : State).isl i = f (s.isl i) := by
  have hi : i.id < s.islands.length := h.symm ▸ island_id_lt i
  unfold State.isl
  rw [List.getD_eq_getElem _ _ (by simpa using hi), List.getElem_map, List.getD_eq_getElem _ _ hi]

/-- The islands of which one alone has a property. -/
theorem filter_island_one {p : Island → Bool} {i : Island} (h : p i = true) (hne : ∀ j, j ≠ i → p j = false) : Island.all.filter p = [i] := by
  have e : p = fun j => decide (j = i) := by
    funext j
    by_cases hj : j = i
    · subst hj
      simpa using h
    · simpa [hj] using hne j hj
  rw [e]
  cases i <;> decide

theorem Island.mem_all (i : Island) : i ∈ Island.all := by cases i <;> decide

/-! ### What a run reads back -/

theorem State.run_isl (s : State) (t : Nat) (body : State → State) (i : Island) : (s.run t body).isl i = (body (s.advance t)).isl i :=
  State.isl_of_islands (State.run_islands s t body) i

/-- Events of the device rest, of the islands, on whether Always-on runs alone. -/
theorem State.logEv_log_congr {x y : State} (h1 : x.now = y.now) (h2 : x.settings = y.settings) (h3 : x.fabric = y.fabric)
    (h4 : x.up .aon = y.up .aon) (h5 : x.log = y.log) (e : Ev) (p : Bytes) : (x.logEv e p).log = (y.logEv e p).log := by
  have hb (k : Nat) : x.bundleObj? k = y.bundleObj? k := by unfold State.bundleObj?; rw [h3]
  have hc : x.cfg 0x1408 0 = y.cfg 0x1408 0 := by
    unfold State.cfg State.val State.persists State.dflt
    rw [h2, hb]
  unfold State.logEv State.offer
  rw [hc, h4, h1, h5]
  split
  · exact h5
  · split <;> rfl

theorem State.logEv_log_islands {x y : State} (h : x = { y with islands := x.islands }) (hu : x.up .aon = y.up .aon) (e : Ev) (p : Bytes) :
    (x.logEv e p).log = (y.logEv e p).log := by
  have h1 : x.now = y.now := by rw [h]
  have h2 : x.settings = y.settings := by rw [h]
  have h3 : x.fabric = y.fabric := by rw [h]
  have h4 : x.log = y.log := by rw [h]
  exact State.logEv_log_congr h1 h2 h3 hu h4 e p

end Sys2Proof.Machine
end

section
set_option Elab.async false
/-!
PROOF. What a reset does to the records of the islands in its reach, and to the count of thermal trips.
-/

namespace Sys2Proof.Machine

/-! ### Clearing an island -/

/-- Clearing an island other than Always-on leaves every island's record. -/
theorem State.clearIsland_islands {i : Island} (h : i ≠ .aon) (s : State) (wide : Bool) : (s.clearIsland i wide).islands = s.islands := by
  have key : Part.islands.same s (s.clearIsland i wide) := by
    unfold State.clearIsland
    cases i with
    | aon => exact absurd rfl h
    | memory => rfl
    | fixer | developer =>
      dsimp only
      split <;> simp [State.setBase_same, State.roverResetAll_same, State.roverIslandReset_same, State.devReset_same, State.devIslandReset_same,
        Part.same_refl]
    | _ =>
      simp [State.endKeyWaits_same, State.endDictionary_same, State.endThrough_same, State.hartsReset_same, State.discardAll_same,
        State.fabricReset_same, State.roverResetAll_same, State.setDev_same, State.confReset_same, State.combReset_same, State.trackReset_same,
        State.radioReset_same, State.netReset_same, State.canReset_same, State.timebaseReset_same, Part.same_refl]
  exact key

theorem State.count_trips (s : State) (c p n : Nat) : (s.count c p n).health.trips = s.health.trips := by
  obtain ⟨l, h⟩ := State.count_health s c p n
  rw [h]

theorem State.post_trips (s : State) (q : Nat) (data : Bytes) : (s.post q data).health.trips = s.health.trips := by
  unfold State.post
  cases h : s.post? q data with
  | none => rfl
  | some x =>
    show x.health.trips = _
    unfold State.post? at h
    extract_lets words p f z at h
    split at h
    · cases h
      have hp : Part.health.same z (z.setPkts q ((z.fabric.queue q).pkts ++ [p])) :=
        (State.setPkts_same (by decide) (by decide) (by decide) z z q _).mpr (Part.same_refl _ _)
      exact (State.count_trips (z.setPkts q ((z.fabric.queue q).pkts ++ [p])) 0x0B q 1).trans (congrArg Health.trips hp)
    · cases h

theorem State.discardAll_trips (s : State) (outcome : Nat) : (s.discardAll outcome).health.trips = s.health.trips := by
  have hone (s : State) (h : Nat) : (s.discardHart h outcome).health.trips = s.health.trips := by
    unfold State.discardHart
    split
    · rfl
    · exact State.post_trips ..
  unfold State.discardAll
  induction List.range 16 generalizing s with
  | nil => rfl
  | cons h l ih => exact (ih _).trans (hone s h)

theorem State.clearIsland_trips {i : Island} (h : i ≠ .aon) (s : State) (wide : Bool) : (s.clearIsland i wide).health.trips = s.health.trips := by
  have hs {x u : State} (k : Part.health.same x u) : u.health.trips = x.health.trips := congrArg Health.trips k
  unfold State.clearIsland
  cases i with
  | aon => exact absurd rfl h
  | memory => rfl
  | compute =>
    exact (hs ((State.endDictionary_same (by decide) (by decide) (by decide) (by decide) (by decide) (by decide) _ _).mpr
      ((State.endThrough_same (by decide) (by decide) (by decide) (by decide) (by decide) (by decide) (by decide) (by decide) (by decide)
        (s.discardAll 0x41) _ _ _).mpr ((State.hartsReset_same (by decide) (by decide) _ _).mpr (Part.same_refl _ _))))).trans
      (State.discardAll_trips ..)
  | fixer | developer =>
    refine hs ?_
    dsimp only
    split <;> simp [State.setBase_same, State.roverResetAll_same, State.roverIslandReset_same, State.devReset_same, State.devIslandReset_same,
      Part.same_refl]
  | _ =>
    refine hs ?_
    simp [State.endKeyWaits_same, State.endThrough_same,
      State.fabricReset_same, State.confReset_same, State.combReset_same, State.trackReset_same,
      State.radioReset_same, State.netReset_same, State.canReset_same, State.timebaseReset_same, Part.same_refl]

/-! ### Entering reset -/

/-- What an island enters reset from: its holds ended, its memory cleared, its volatile values dropped. -/
def State.emptied (s : State) (reach : Nat) (i : Island) : State := ((s.endHoldsOf i).clearIsland i (decide (reach ≤ 2))).dropVolatile i

theorem State.emptied_islands {i : Island} (h : i ≠ .aon) (s : State) (reach : Nat) : (s.emptied reach i).islands = s.islands := by
  have h1 : Part.islands.same s (s.endHoldsOf i) := (State.endHoldsOf_same (by decide) (by decide) _ _ _).mpr (Part.same_refl _ _)
  have h2 : Part.islands.same _ (s.emptied reach i) := (State.dropVolatile_same (by decide) _ _ i).mpr (Part.same_refl _ _)
  exact (h2 : _ = _).trans ((State.clearIsland_islands h ..).trans h1)

theorem State.emptied_trips {i : Island} (h : i ≠ .aon) (s : State) (reach : Nat) : (s.emptied reach i).health.trips = s.health.trips := by
  have h1 : Part.health.same s (s.endHoldsOf i) := (State.endHoldsOf_same (by decide) (by decide) _ _ _).mpr (Part.same_refl _ _)
  have h2 : Part.health.same _ (s.emptied reach i) := (State.dropVolatile_same (by decide) _ _ i).mpr (Part.same_refl _ _)
  exact (congrArg Health.trips h2 : _).trans ((State.clearIsland_trips h ..).trans (congrArg Health.trips h1))

/-- The record of an island that enters reset. -/
def IslandRec.entered (x : IslandRec) (reach : Nat) : IslandRec :=
  if (x.st = .inReset && 1 ≤ reach) || (x.st = .failed && 2 ≤ reach) then x
  else { x with st := .inReset, stepTo := none, restarts := if reach ≤ 1 then 0 else x.restarts }

theorem State.enterReset_trips {i : Island} (h : i ≠ .aon) (s : State) (reach : Nat) : (s.enterReset reach i).health.trips = s.health.trips := by
  unfold State.enterReset
  extract_lets st x
  split
  · rfl
  · exact State.emptied_trips h s reach

theorem State.enterReset_length {i : Island} (h : i ≠ .aon) (s : State) (reach : Nat) : (s.enterReset reach i).islands.length = s.islands.length := by
  unfold State.enterReset
  extract_lets st x
  split
  · rfl
  · exact (State.setIsl_length ..).trans (congrArg List.length (State.emptied_islands h s reach))

theorem State.enterReset_isl {s : State} (hl : s.islands.length = 12) {i : Island} (h : i ≠ .aon) (reach : Nat) (j : Island) :
    (s.enterReset reach i).isl j = if j = i then (s.isl i).entered reach else s.isl j := by
  have hx := State.emptied_islands h s reach
  unfold State.enterReset IslandRec.entered
  extract_lets st x
  split
  · split
    · next e => rw [e]
    · rfl
  · by_cases e : j = i
    · subst e
      rw [if_pos rfl]
      exact (State.isl_setIsl (s := s.emptied reach j) (hx ▸ hl) j _).trans (by rw [State.isl_of_islands hx])
    · rw [if_neg e]
      exact (State.isl_setIsl_ne (s.emptied reach i) e _).trans (State.isl_of_islands hx j)

theorem IslandRec.entered_entered (x : IslandRec) {reach : Nat} (h : 1 ≤ reach) : (x.entered reach).entered reach = x.entered reach := by
  have h' (e : ¬(x.entered reach).st = .inReset) : x.entered reach = x := by
    unfold IslandRec.entered at e ⊢
    split
    · rfl
    · next c => exact absurd (by rw [if_neg c]) e
  by_cases e : (x.entered reach).st = .inReset
  · exact if_pos (by simp [e, h])
  · rw [h' e, h' e]

/-- All islands of a reach enter reset, each once. -/
theorem State.enterResets_isl {reach : Nat} (hr : 1 ≤ reach) (l : List Island) (hl : ∀ i ∈ l, i ≠ .aon) {s : State} (hs : s.islands.length = 12) :
    let z := l.foldl (fun s i => s.enterReset reach i) s
    z.islands.length = 12 ∧ z.health.trips = s.health.trips ∧ ∀ j, z.isl j = if j ∈ l then (s.isl j).entered reach else s.isl j := by
  induction l generalizing s with
  | nil => exact ⟨hs, rfl, fun j => rfl⟩
  | cons i l ih =>
    have hi := hl i (List.mem_cons_self ..)
    obtain ⟨h1, h2, h3⟩ := ih (fun k hk => hl k (List.mem_cons_of_mem _ hk)) ((State.enterReset_length hi s reach).trans hs)
    refine ⟨h1, h2.trans (State.enterReset_trips hi s reach), fun j => ?_⟩
    refine (h3 j).trans ?_
    rw [State.enterReset_isl hs hi]
    by_cases e : j = i
    · subst e
      simp only [if_true, List.mem_cons_self]
      split
      · exact IslandRec.entered_entered _ hr
      · rfl
    · simp [e]

/-! ### What else a reset is made of -/

theorem State.resetLatch_trips (s : State) : s.resetLatch.health.trips = s.health.trips := by
  unfold State.resetLatch
  dsimp only
  split
  · rfl
  · exact (congrArg Health.trips ((State.sendNotices_same (pt := .health) (by decide) (by decide) (by decide) _ _ _).mpr (Part.same_refl _ _) : _ = _)).trans
      (State.count_trips _ _ _ _)

theorem State.reviveAon_isl {s : State} {j : Island} (h : j ≠ .aon) : s.reviveAon.isl j = s.isl j := by
  unfold State.reviveAon
  split
  · exact State.isl_setIsl_ne s h _
  · rfl

/-- The state in which the islands of a reset's reach enter reset. -/
def State.asserting (s : State) (code reach island : Nat) : State :=
  let s := s.recordSource code reach island
  let x : Asserted := { code := code, reach := reach, island := island }
  let s : State := { s with resets := { s.resets with asserted := (s.resets.asserted.filter fun y => y ≠ x) ++ [x] } }
  if reach ≤ 2 then (s.swarmLost.clearIsland .compute true).sourcesGone else s

theorem State.asserting_islands (s : State) (code reach island : Nat) : (s.asserting code reach island).islands = s.islands := by
  unfold State.asserting
  extract_lets y x f z
  have hy : z.islands = s.islands := rfl
  split
  · have h1 : z.swarmLost.islands = z.islands := ((State.swarmLost_same (pt := .islands) (by decide) (by decide) z z).mpr (Part.same_refl _ _) : _)
    exact ((State.sourcesGone_same (pt := .islands) (by decide) (by decide) _ _).mpr (Part.same_refl _ _) : _ = _).trans
      ((State.clearIsland_islands (by decide) _ _).trans (h1.trans hy))
  · exact hy

theorem State.asserting_trips (s : State) (code reach island : Nat) : (s.asserting code reach island).health.trips = s.health.trips := by
  unfold State.asserting
  extract_lets y x f z
  have hy : z.health = s.health := rfl
  split
  · have h1 : z.swarmLost.health = z.health := ((State.swarmLost_same (pt := .health) (by decide) (by decide) z z).mpr (Part.same_refl _ _) : _)
    exact (congrArg Health.trips ((State.sourcesGone_same (pt := .health) (by decide) (by decide) _ _).mpr (Part.same_refl _ _) : _ = _)).trans
      ((State.clearIsland_trips (by decide) _ _).trans (congrArg Health.trips (h1.trans hy)))
  · exact congrArg Health.trips hy

/-- A chip or system reset, and every island of its reach but Always-on. -/
theorem State.assertReset_isl {s : State} (hl : s.islands.length = 12) (code island : Nat) {reach : Nat} (h1 : 1 ≤ reach) (h2 : reach ≤ 2) {j : Island}
    (hj : j ≠ .aon) :
    (s.assertReset code reach island).isl j = if j ∈ reachIslands reach island then (s.isl j).entered reach else s.isl j := by
  have hm : ∀ i ∈ reachIslands reach island, i ≠ .aon := by
    intro i hi
    obtain rfl | rfl : reach = 1 ∨ reach = 2 := by omega
    · exact of_decide_eq_true (List.mem_filter.mp hi).2
    · exact of_decide_eq_true (Bool.and_eq_true_iff.mp (List.mem_filter.mp hi).2).1
  obtain ⟨-, -, h5⟩ := State.enterResets_isl h1 _ hm ((congrArg List.length (s.asserting_islands code reach island)).trans hl)
  have key : (s.assertReset code reach island).isl j = ((reachIslands reach island).foldl (fun s i => s.enterReset reach i)
      (s.asserting code reach island)).isl j := by
    unfold State.assertReset
    extract_lets y0 y x f g
    show State.isl (if reach ≤ 2 then _ else _) j = _
    rw [if_pos h2]
    refine (State.isl_of_islands ((State.resetLatch_same (pt := .islands) (by decide) (by decide) (by decide) (by decide) _ _).mpr (Part.same_refl _ _) : _ = _)
      j).trans ?_
    have hk (x : State) : State.isl (if reach ≤ 1 then x.zeroCounts.reviveAon else x.keepCounts s) j = x.isl j := by
      split
      · exact State.reviveAon_isl hj
      · rfl
    exact hk _
  rw [key, h5, State.isl_of_islands (s.asserting_islands code reach island)]

theorem State.assertReset_trips {s : State} (hl : s.islands.length = 12) (code island : Nat) {reach : Nat} (h1 : 1 ≤ reach) (h2 : reach ≤ 2) :
    (s.assertReset code reach island).health.trips = s.health.trips := by
  have hm : ∀ i ∈ reachIslands reach island, i ≠ .aon := by
    intro i hi
    obtain rfl | rfl : reach = 1 ∨ reach = 2 := by omega
    · exact of_decide_eq_true (List.mem_filter.mp hi).2
    · exact of_decide_eq_true (Bool.and_eq_true_iff.mp (List.mem_filter.mp hi).2).1
  obtain ⟨-, h4, -⟩ := State.enterResets_isl h1 _ hm ((congrArg List.length (s.asserting_islands code reach island)).trans hl)
  refine Eq.trans ?_ (h4.trans (s.asserting_trips code reach island))
  unfold State.assertReset
  extract_lets y0 y x f g
  show Health.trips (State.health (if reach ≤ 2 then _ else _)) = _
  rw [if_pos h2]
  refine (State.resetLatch_trips _).trans ?_
  have hk (x : State) : (if reach ≤ 1 then x.zeroCounts.reviveAon else x.keepCounts s).health.trips = x.health.trips := by
    split
    · exact congrArg Health.trips ((State.reviveAon_same (pt := .health) (by decide) (by decide) _ _).mpr (Part.same_refl _ _) : _ = _)
    · rfl
  exact hk _

end Sys2Proof.Machine
end

section
set_option Elab.async false
/-!
PROOF. O46: temperatures, the thermal trip, the margin planner, steps and VREQ.
-/

namespace Sys2Proof.Machine

/-! ### Temperatures -/

theorem State.setTemp_up (s : State) (h : s.islands.length = 12) (i j : Island) (temp : Int) : (s.setTemp i temp).up j = s.up j := by
  unfold State.up State.setTemp
  by_cases e : j = i
  · subst e
    rw [State.isl_setIsl h]
  · rw [State.isl_setIsl_ne s e]

/-- The sensors' readings are the islands' temperatures. -/
theorem State.setTemps_temps {s : State} {temps : List Int} (h : s.islands.length = temps.length) :
    (s.setTemps temps).islands.map (·.temp) = temps := by
  show List.map _ (s.islands.mapIdx fun i x => { x with temp := temps.getD i x.temp }) = temps
  refine List.ext_getElem (by simp [h]) fun i h1 h2 => ?_
  simp [List.getElem?_eq_getElem h2]

theorem State.setTemps_all {s : State} {temps : List Int} (h : s.islands.length = temps.length) (p : Int → Bool) :
    ((s.setTemps temps).islands.all fun x => p x.temp) = temps.all p := by
  conv_rhs => rw [← State.setTemps_temps h, List.all_map]
  rfl

theorem State.tempAbove_quiet {s : State} {i : Island} {temp : Int} (h : temp ≤ 1250 ∨ s.health.tempHigh = true) :
    s.tempAbove i temp = s.setTemp i temp := by
  unfold State.tempAbove
  refine if_neg fun hif => ?_
  simp only [Bool.and_eq_true, decide_eq_true_eq, Bool.not_eq_true'] at hif
  rcases h with h | h
  · omega
  · exact absurd (h.symm.trans hif.2) (by decide)

theorem State.tempAbove_logged {s : State} {i : Island} {temp : Int} (h : 1250 < temp) (hh : s.health.tempHigh = false) :
    s.tempAbove i temp = ({ s.setTemp i temp with health := { s.health with tempHigh := true } } : State).logEv .tempHigh [] := by
  unfold State.tempAbove
  exact if_pos (by rw [show (s.setTemp i temp).health = s.health from rfl, hh]; simp [h])

theorem State.setTemp_temp {s : State} (h : s.islands.length = 12) (i : Island) (temp : Int) : ((s.setTemp i temp).isl i).temp = temp := by
  rw [State.setTemp, State.isl_setIsl h]

/-! ### The trip -/

theorem State.tripped_quiet {s : State} {i : Island} {temp : Int} (h : temp ≤ 1400 ∨ ∃ x ∈ s.resets.asserted, x.code = 9) :
    s.tripped i temp = s.setTemp i temp := by
  unfold State.tripped
  refine if_neg fun hif => ?_
  simp only [Bool.and_eq_true, decide_eq_true_eq, Bool.not_eq_true', List.any_eq_false] at hif
  rcases h with h | ⟨x, hx, h⟩
  · omega
  · exact hif.2 x hx h

/-! ### Steps -/

theorem State.budgetStep_islands (s : State) (i : Island) : (s.budgetStep i).islands = s.islands := by
  unfold State.budgetStep
  split
  · exact State.logEv_islands ..
  · rfl

theorem State.stepSwitched_stays {s : State} {i : Island} (h : (s.isl i).stepTo = none ∨ s.up i = false) : s.stepSwitched i = s := by
  unfold State.stepSwitched
  split
  · rfl
  · rename_i n hn
    rcases h with h | h
    · exact absurd (h.symm.trans hn) (by simp)
    · rw [if_neg (by rw [h]; exact Bool.false_ne_true)]

theorem State.stepSwitched_islands {s : State} {i : Island} {n : Nat} (h : (s.isl i).stepTo = some n) (hu : s.up i = true) :
    (s.stepSwitched i).islands = (s.setIsl i fun x => { x with step := n, stepTo := none }).islands := by
  unfold State.stepSwitched
  rw [h]
  dsimp only
  rw [if_pos hu, State.budgetStep_islands]

/-! ### VREQ -/

theorem State.vreqMoved_stays {s : State} (h : s.now < s.health.vreqAt + ms ∨ s.health.vreq = s.voltCode) : s.vreqMoved = s := by
  unfold State.vreqMoved
  refine if_neg fun hif => ?_
  simp only [Bool.and_eq_true, decide_eq_true_eq] at hif
  omega

theorem State.vreqMoved_moves {s : State} (hu : s.up .aon = true) (ht : s.health.vreqAt + ms ≤ s.now) (hv : s.health.vreq ≠ s.voltCode) :
    s.vreqMoved =
      { s with
        health := { s.health with vreq := if s.health.vreq < s.voltCode then s.health.vreq + 1 else s.health.vreq - 1, vreqAt := s.now } } := by
  unfold State.vreqMoved
  exact if_pos (by simp [hu, ht, hv])

/-! ### The margin planner -/

/-- The record of an island after a sample of its own, where it gets one. -/
def State.slacked (s : State) (j : Island) (x : Option Int) : IslandRec :=
  match x with
  | some x => if j = .aon || !s.up j then s.isl j else { s.isl j with slack := (s.now, x) :: recentSlack s.now (s.isl j).slack }
  | none => s.isl j

/-- An island's sample, where there is one, joins its window. -/
def State.sampled (s : State) (i : Island) : Option Int → State
  | some x => s.addSlack i x
  | none => s

/-- Samples join the windows of the islands of a list. -/
def State.addSlacks (s : State) (f : Island → Option Int) (l : List Island) : State := l.foldl (fun s i => s.sampled i (f i)) s

theorem State.sampled_eq (s : State) (i : Island) (x : Option Int) : s.sampled i x = { s with islands := (s.sampled i x).islands } := by
  cases x with
  | none => rfl
  | some x =>
    unfold State.sampled State.addSlack
    dsimp only
    split <;> rfl

theorem State.sampled_length (s : State) (i : Island) (x : Option Int) : (s.sampled i x).islands.length = s.islands.length := by
  cases x with
  | none => rfl
  | some x =>
    unfold State.sampled State.addSlack
    dsimp only
    split
    · rfl
    · exact State.setIsl_length ..

theorem State.sampled_isl {s : State} (h : s.islands.length = 12) (i : Island) (x : Option Int) :
    (s.sampled i x).isl i = s.slacked i x ∧ ∀ j, j ≠ i → (s.sampled i x).isl j = s.isl j := by
  cases x with
  | none => exact ⟨rfl, fun _ _ => rfl⟩
  | some x =>
    unfold State.sampled State.addSlack State.slacked
    dsimp only
    split
    · exact ⟨rfl, fun _ _ => rfl⟩
    · exact ⟨State.isl_setIsl h i _, fun j hj => State.isl_setIsl_ne s hj _⟩

theorem State.slacked_congr {s v : State} {j : Island} (h : v.isl j = s.isl j) (hn : v.now = s.now) (x : Option Int) : v.slacked j x = s.slacked j x := by
  unfold State.slacked State.up
  rw [h, hn]

/-- Of three states, each may differ from the one before in its islands alone. -/
theorem State.islands_trans {x y z : State} (h : z = { y with islands := z.islands }) (k : y = { x with islands := y.islands }) :
    z = { x with islands := z.islands } :=
  h.trans ((congrArg (fun y : State => ({ y with islands := z.islands } : State)) k).trans rfl)

/-- What samples leave: the window of each island of the list that has one. -/
theorem State.addSlacks_spec (f : Island → Option Int) {l : List Island} (hl : l.Nodup) {s : State} (h : s.islands.length = 12) :
    let z := s.addSlacks f l
    z = { s with islands := z.islands } ∧ z.islands.length = 12 ∧ (∀ j ∈ l, z.isl j = s.slacked j (f j)) ∧ ∀ j, j ∉ l → z.isl j = s.isl j := by
  induction l generalizing s with
  | nil => exact ⟨rfl, h, fun j hj => absurd hj List.not_mem_nil, fun _ _ => rfl⟩
  | cons i l ih =>
    obtain ⟨hi, hl⟩ := List.nodup_cons.mp hl
    obtain ⟨h1, h2⟩ := State.sampled_isl h i (f i)
    obtain ⟨e, hlen, hin, hout⟩ := ih hl (s := s.sampled i (f i)) ((State.sampled_length ..).trans h)
    refine ⟨?_, hlen, fun j hj => ?_, fun j hj => ?_⟩
    · exact State.islands_trans e (State.sampled_eq ..)
    · rcases List.mem_cons.mp hj with rfl | hj
      · exact (hout j hi).trans h1
      · have hne : j ≠ i := fun e => hi (e ▸ hj)
        exact (hin j hj).trans (State.slacked_congr (h2 j hne) (by rw [State.sampled_eq]) _)
    · obtain ⟨hne, hj⟩ := not_or.mp fun h => hj (List.mem_cons.mpr h)
      exact (hout j hj).trans (h2 j hne)

theorem Island.nodup_all : Island.all.Nodup := by decide

/-- The planner's part of a sample. -/
theorem State.marginSampled_eq {s : State} (h : s.up .aon = true) (slacks temps : List Int) :
    s.marginSampled slacks temps = (Island.all.filter ((s.setTemps temps).addSlacks (fun i => slacks[i.id]?) Island.all).needsMargin).foldl
      (fun s i => if s.needsMargin i then s.marginAct i else s) ((s.setTemps temps).addSlacks (fun i => slacks[i.id]?) Island.all) := by
  unfold State.marginSampled
  rw [if_neg (by rw [h]; decide)]
  rfl

theorem State.setTemps_isl {s : State} (h : s.islands.length = 12) (temps : List Int) (j : Island) :
    (s.setTemps temps).isl j = { s.isl j with temp := temps.getD j.id (s.isl j).temp } := by
  have hj : j.id < s.islands.length := h.symm ▸ island_id_lt j
  show (s.islands.mapIdx fun i x => { x with temp := temps.getD i x.temp }).getD j.id IslandRec.reset = _
  rw [List.getD_eq_getElem _ _ (by simpa using hj), List.getElem_mapIdx]
  unfold State.isl
  rw [List.getD_eq_getElem _ _ hj]

theorem State.setTemps_length (s : State) (temps : List Int) : (s.setTemps temps).islands.length = s.islands.length := List.length_mapIdx

theorem State.setTemps_up {s : State} (h : s.islands.length = 12) (temps : List Int) (j : Island) : (s.setTemps temps).up j = s.up j := by
  unfold State.up
  rw [State.setTemps_isl h]

/-- The slacks of one island below, and of the others at, the limit of the planner. -/
def oneSlack (i : Island) (x : Int) : List Int := (List.replicate 12 40).set i.id x

theorem oneSlack_get (i j : Island) (x : Int) : (oneSlack i x)[j.id]? = some (if j = i then x else 40) := by
  unfold oneSlack
  rw [List.getElem?_set]
  by_cases e : j = i
  · subst e
    simp [island_id_lt]
  · have hne : i.id ≠ j.id := fun h => e (island_id_inj h).symm
    have hj : j.id < 12 := island_id_lt j
    rw [if_neg hne, List.getElem?_replicate, if_pos hj, if_neg e]

section
variable {a : State} {i : Island} {x : Int} (temps : List Int) (hl : a.islands.length = 12)

/-- The state in which the planner judges. -/
def State.judged (a : State) (slacks temps : List Int) : State := (a.setTemps temps).addSlacks (fun i => slacks[i.id]?) Island.all

include hl in
theorem State.judged_spec (slacks : List Int) : let z := a.judged slacks temps
    z = { a with islands := z.islands } ∧ z.islands.length = 12 ∧ ∀ j, z.isl j = (a.setTemps temps).slacked j slacks[j.id]? := by
  obtain ⟨h1, h2, h3, -⟩ := State.addSlacks_spec (fun i => slacks[i.id]?) Island.nodup_all ((a.setTemps_length temps).trans hl)
  exact ⟨h1.trans rfl, h2, fun j => h3 j (Island.mem_all j)⟩

/-- What a sample leaves of an island but its temperature and window. -/
def IslandRec.kept (r : IslandRec) : IslandRec := { r with temp := 0, slack := [] }

include hl in
theorem State.judged_kept (slacks : List Int) (j : Island) : ((a.judged slacks temps).isl j).kept = (a.isl j).kept := by
  rw [(State.judged_spec temps hl slacks).2.2 j]
  unfold State.slacked
  split
  · split <;> rw [State.setTemps_isl hl] <;> rfl
  · rw [State.setTemps_isl hl]
    rfl

include hl in
theorem State.judged_up (slacks : List Int) (j : Island) : (a.judged slacks temps).up j = a.up j := by
  unfold State.up
  rw [show ((a.judged slacks temps).isl j).st = (a.isl j).st from
    (congrArg IslandRec.st (State.judged_kept temps hl slacks j) : ((a.judged slacks temps).isl j).kept.st = (a.isl j).kept.st)]

variable (hs : ∀ r ∈ a.islands, r.slack = [])
include hl hs

theorem State.judged_slack (j : Island) : ((a.judged (oneSlack i x) temps).isl j).slack =
    if j = .aon || !a.up j then [] else [(a.now, if j = i then x else 40)] := by
  have hj : (a.isl j).slack = [] := hs _ (State.isl_mem hl j)
  rw [(State.judged_spec temps hl _).2.2 j, oneSlack_get]
  unfold State.slacked
  dsimp only
  rw [State.setTemps_up hl, State.setTemps_isl hl]
  split
  · exact hj
  · show (_, _) :: recentSlack _ (a.isl j).slack = _
    rw [hj]
    rfl

/-- The planner acts for the one island below the limit. -/
theorem State.judged_one (hi : i ≠ .aon) (hu : a.up i = true) (hx : x < 40) :
    Island.all.filter (a.judged (oneSlack i x) temps).needsMargin = [i] := by
  have hnow : (a.judged (oneSlack i x) temps).now = a.now := (congrArg State.now (State.judged_spec temps hl (oneSlack i x)).1).trans rfl
  refine filter_island_one ?_ fun j hj => ?_ <;> unfold State.needsMargin <;> rw [State.judged_slack temps hl hs, State.judged_up temps hl, hnow]
  · simp [hi, hu, worstSlack, hx]
  · cases hju : a.up j
    · simp
    · by_cases hja : j = .aon
      · simp [hja]
      · simp [hja, hj, worstSlack]

theorem State.marginSampled_one (haon : a.up .aon = true) (hi : i ≠ .aon) (hu : a.up i = true) (hx : x < 40) :
    a.marginSampled (oneSlack i x) temps = (a.judged (oneSlack i x) temps).marginAct i := by
  rw [State.marginSampled_eq haon]
  show (Island.all.filter (a.judged (oneSlack i x) temps).needsMargin).foldl _ (a.judged (oneSlack i x) temps) = _
  have h := State.judged_one temps hl hs hi hu hx
  rw [h]
  have hn : (a.judged (oneSlack i x) temps).needsMargin i = true :=
    (List.mem_filter.mp (h ▸ List.mem_singleton_self i : i ∈ Island.all.filter _)).2
  exact if_pos hn

end

theorem worstSlack_ge {l : List (Nat × Int)} {e : Nat × Int} (h : ∀ x ∈ e :: l, 40 ≤ x.2) : 40 ≤ worstSlack (e :: l) := by
  induction l generalizing e with
  | nil => exact h e (List.mem_cons_self ..)
  | cons f l ih =>
    have h1 := h e (List.mem_cons_self ..)
    have h2 := ih (e := f) fun x hx => h x (List.mem_cons_of_mem _ hx)
    show 40 ≤ min e.2 (worstSlack (f :: l))
    omega

/-- With no slack below the limit the planner does nothing. -/
theorem State.marginSampled_ample {a : State} {slacks temps : List Int} (hl : a.islands.length = 12) (haon : a.up .aon = true)
    (hx : ∀ x ∈ slacks, 40 ≤ x) (hs : ∀ r ∈ a.islands, ∀ e ∈ r.slack, 40 ≤ e.2) : a.marginSampled slacks temps = a.judged slacks temps := by
  obtain ⟨hz, -, hisl⟩ := State.judged_spec temps hl slacks
  have hslack (j : Island) : ∀ e ∈ ((a.judged slacks temps).isl j).slack, 40 ≤ e.2 := by
    have hj : ∀ e ∈ (((a.setTemps temps).isl j).slack), 40 ≤ e.2 := by
      intro e he
      rw [State.setTemps_isl hl] at he
      exact hs (a.isl j) (State.isl_mem hl j) e he
    rw [hisl j]
    unfold State.slacked
    split
    · rename_i x hget
      split
      · exact hj
      · intro e he
        rcases List.mem_cons.mp he with rfl | he
        · exact hx _ (List.mem_of_getElem? hget)
        · exact hj e (List.mem_filter.mp he).1
    · exact hj
  have hn : Island.all.filter (a.judged slacks temps).needsMargin = [] := by
    refine List.filter_eq_nil_iff.mpr fun j _ h => ?_
    have hj := hslack j
    unfold State.needsMargin at h
    cases hl : ((a.judged slacks temps).isl j).slack with
    | nil => rw [hl] at h; simp at h
    | cons e l =>
      rw [hl] at h hj
      have h1 := hj e (List.mem_cons_self ..)
      have h2 := worstSlack_ge hj
      simp only [Bool.and_eq_true, Bool.or_eq_true, decide_eq_true_eq] at h
      omega
  rw [State.marginSampled_eq haon]
  show (Island.all.filter (a.judged slacks temps).needsMargin).foldl _ (a.judged slacks temps) = _
  rw [hn]
  rfl

theorem State.map_islands_congr {α : Type} {x y : State} {g : IslandRec → α} (hx : x.islands.length = 12) (hy : y.islands.length = 12)
    (h : ∀ j, g (x.isl j) = g (y.isl j)) : x.islands.map g = y.islands.map g := by
  refine List.ext_getElem (by simp [hx, hy]) fun n h1 h2 => ?_
  have hn : n < 12 := by simpa [hx] using h1
  obtain ⟨j, hj⟩ : ∃ j : Island, j.id = n := by
    have : ∀ n < 12, ∃ j ∈ Island.all, j.id = n := by decide
    obtain ⟨j, -, hj⟩ := this n hn
    exact ⟨j, hj⟩
  have := h j
  unfold State.isl at this
  rw [hj, List.getD_eq_getElem _ _ (by omega), List.getD_eq_getElem _ _ (by omega)] at this
  simpa using this

/-! ### What the planner does -/

theorem State.marginAct_volts {z : State} (hv : z.health.volts < 850) (i : Island) :
    z.marginAct i = (({ z with
      health := { z.health with volts := z.health.volts + 5, marginV := decide (z.health.volts + 5 = 850) },
      islands := z.islands.map fun x => { x with slack := [] } } : State).logEv .marginVoltage []).count 0x14 0 1 := by
  unfold State.marginAct
  exact if_pos hv

theorem State.marginAct_step {z : State} {i : Island} (hl : z.islands.length = 12) (hv : 850 ≤ z.health.volts)
    (hn : (z.isl i).stepTo.getD (z.isl i).step < floorStep i) :
    (z.marginAct i).isl i = { z.isl i with stepTo := some ((z.isl i).stepTo.getD (z.isl i).step + 1), slack := [] } ∧
      (z.marginAct i).health.marginS = true ∧ (z.marginAct i).health.volts = z.health.volts := by
  unfold State.marginAct
  extract_lets h n isl hv' x y cap
  rw [if_neg (Nat.not_lt.mpr hv), if_pos hn]
  obtain ⟨l, hc⟩ := State.count_health (y.logEv .marginStep ([byte i.id, byte (n + 1)] ++ leBytes 4 cap)) 0x14 0 1
  rw [hc, State.logEv_health, State.isl_of_islands (show (State.count _ 0x14 0 1).islands = y.islands by rw [State.count_eq, State.logEv_eq])]
  exact ⟨State.isl_setIsl (s := x) hl i _, rfl, rfl⟩

theorem State.marginAct_end {z : State} {i : Island} (hl : z.islands.length = 12) (hv : 850 ≤ z.health.volts)
    (hn : floorStep i ≤ (z.isl i).stepTo.getD (z.isl i).step) (he : (z.isl i).endLogged = false) :
    (z.marginAct i).isl i = { z.isl i with endLogged := true } ∧ (z.marginAct i).health.marginEnd = true ∧
      (z.marginAct i).health.volts = z.health.volts ∧ (z.marginAct i).log = (z.logEv .endOfMargin [byte i.id]).log := by
  unfold State.marginAct
  extract_lets h n isl hv' x y cap w
  rw [if_neg (Nat.not_lt.mpr hv), if_neg (Nat.not_lt.mpr hn), if_neg (by rw [he]; decide)]
  obtain ⟨l, hc⟩ := State.count_health ((w.setIsl i fun x => { x with endLogged := true }).logEv .endOfMargin [byte i.id]) 0x14 0 1
  rw [hc, State.logEv_health, State.isl_of_islands (show (State.count _ 0x14 0 1).islands = (State.setIsl _ _ _).islands by rw [State.count_eq, State.logEv_eq])]
  have hi := State.isl_setIsl (s := w) hl i fun x => { x with endLogged := true }
  refine ⟨hi, rfl, rfl, ?_⟩
  have hup : (w.setIsl i fun x => { x with endLogged := true }).up .aon = z.up .aon := by
    unfold State.up
    by_cases e : i = .aon
    · subst e
      rw [hi]
      rfl
    · rw [State.isl_setIsl_ne _ (Ne.symm e)]
      rfl
  rw [State.count_eq]
  apply State.logEv_log_congr <;> first | exact hup | rfl

/-! ### O46: temperatures, steps and VREQ -/

section
variable (s : State) (t : Nat) {a : State} (ha : s.advance t = a)
include ha

theorem tempHigh_logged (i : Island) (temp : Int) : a.islands.length = 12 → 1250 < temp → a.health.tempHigh = false →
    Yields (exec (.tempHigh t i temp) s) fun w =>
      (w.isl i).temp = temp ∧ w.health = { a.health with tempHigh := true } ∧ w.log = (a.logEv .tempHigh []).log
      ∧ Only (told ++ [Part.islands, Part.health, Part.log]) a w := by
  intro hl ht hh
  have e := State.tempAbove_logged (i := i) ht hh
  refine .next ⟨?_, ?_, ?_, ?_⟩
  · rw [State.run_isl, ha, e, State.isl_of_islands (State.logEv_islands ..)]
    exact State.setTemp_temp hl i temp
  · rw [State.run_health, ha, e, State.logEv_eq]
  · rw [State.run_log, ha, e]
    have hup := a.setTemp_up hl i .aon temp
    apply State.logEv_log_congr <;> first | exact hup | rfl
  · rw [← ha]
    exact Only.run (by decide) ((Only.refl _ _).step fun p hp => State.tempAbove_same (Part.ne_of_notMem hp (by decide)) (Part.ne_of_notMem hp (by decide))
      (Part.ne_of_notMem hp (by decide)) ..)

theorem tempHigh_quiet (i : Island) (temp : Int) : a.islands.length = 12 → temp ≤ 1250 ∨ a.health.tempHigh = true →
    Yields (exec (.tempHigh t i temp) s) fun w => (w.isl i).temp = temp ∧ Only (told ++ [Part.islands]) a w := by
  intro hl h
  have e : a.tempAbove i temp = _ := State.tempAbove_quiet h
  refine .next ⟨?_, ?_⟩
  · rw [State.run_isl, ha, e]
    exact State.setTemp_temp hl i temp
  · subst ha
    refine Only.run (by decide) ?_
    rw [e]
    exact (Only.refl _ _).step fun p hp => State.setIsl_same (Part.ne_of_notMem hp (by decide)) ..

theorem tempHighClear_yields (temps : List Int) : a.islands.length = 12 → temps.length = 12 →
    Yields (exec (.tempHighClear t temps) s) fun w =>
      w.health = { a.health with tempHigh := a.health.tempHigh && !(temps.all fun x => x < 1200) } ∧ w.islands.map (·.temp) = temps
      ∧ Only (told ++ [Part.islands, Part.health]) a w := by
  intro hl ht
  have hall := State.setTemps_all (hl.trans ht.symm) fun x => decide (x < 1200)
  refine .next ⟨?_, ?_, ?_⟩
  · rw [State.run_health, ha]
    unfold State.tempBelow
    extract_lets y
    rw [← hall]
    split
    · rename_i h
      rw [h, Bool.not_true, Bool.and_false]
      rfl
    · rename_i h
      rw [Bool.not_eq_true] at h
      rw [h, Bool.not_false, Bool.and_true]
      rfl
  · rw [State.run_islands, ha]
    unfold State.tempBelow
    extract_lets y
    refine Eq.trans (congrArg _ ?_) (State.setTemps_temps (hl.trans ht.symm))
    split <;> rfl
  · rw [← ha]
    exact Only.run (by decide) ((Only.refl _ _).step fun p hp => State.tempBelow_same (Part.ne_of_notMem hp (by decide))
      (Part.ne_of_notMem hp (by decide)) ..)

theorem thermalTrip_quiet (i : Island) (temp : Int) : a.islands.length = 12 → temp ≤ 1400 ∨ (∃ x ∈ a.resets.asserted, x.code = 9) →
    Yields (exec (.thermalTrip t i temp) s) fun w => (w.isl i).temp = temp ∧ Only (told ++ [Part.islands]) a w := by
  intro hl h
  have e : a.tripped i temp = _ := State.tripped_quiet h
  refine .next ⟨?_, ?_⟩
  · rw [State.run_isl, ha, e]
    exact State.setTemp_temp hl i temp
  · subst ha
    refine Only.run (by decide) ?_
    rw [e]
    exact (Only.refl _ _).step fun p hp => State.setIsl_same (Part.ne_of_notMem hp (by decide)) ..

theorem islandStepChange_switches (n : Nat) (i : Island) : a.islands.length = 12 → (a.isl i).stepTo = some n → a.up i = true →
    Yields (exec (.islandStepChange t i) s) fun w =>
      w.isl i = { a.isl i with step := n, stepTo := none } ∧ (∀ j, j ≠ i → w.isl j = a.isl j) ∧ Only (told ++ [Part.islands, Part.log]) a w := by
  intro hl hn hu
  have e := State.isl_of_islands (State.stepSwitched_islands hn hu)
  refine .next ⟨?_, fun j hj => ?_, ?_⟩
  · rw [State.run_isl, ha, e, State.isl_setIsl hl]
  · rw [State.run_isl, ha, e, State.isl_setIsl_ne _ hj]
  · rw [← ha]
    exact Only.run (by decide) ((Only.refl _ _).step fun p hp => State.stepSwitched_same (Part.ne_of_notMem hp (by decide))
      (Part.ne_of_notMem hp (by decide)) ..)

theorem islandStepChange_stays (i : Island) : (a.isl i).stepTo = none ∨ a.up i = false →
    Yields (exec (.islandStepChange t i) s) fun w => Only told a w := by
  intro h
  subst ha
  refine .next (Only.run (fun _ h => h) ?_)
  rw [State.stepSwitched_stays h]
  exact Only.refl _ _

theorem vreqStep_moves : a.up .aon = true → a.health.vreqAt + ms ≤ a.now → a.health.vreq ≠ a.voltCode →
    Yields (exec (.vreqStep t) s) fun w =>
      w.health = { a.health with vreq := if a.health.vreq < a.voltCode then a.health.vreq + 1 else a.health.vreq - 1, vreqAt := a.now }
      ∧ Only (told ++ [Part.health]) a w := by
  intro hu ht hv
  refine .next ⟨?_, ?_⟩
  · rw [State.run_health, ha, State.vreqMoved_moves hu ht hv]
  · rw [← ha]
    exact Only.run (by decide) ((Only.refl _ _).step fun p hp => State.vreqMoved_same (Part.ne_of_notMem hp (by decide)) ..)

theorem vreqStep_stays : a.now < a.health.vreqAt + ms ∨ a.health.vreq = a.voltCode → Yields (exec (.vreqStep t) s) fun w => Only told a w := by
  intro h
  subst ha
  refine .next (Only.run (fun _ h => h) ?_)
  rw [State.vreqMoved_stays h]
  exact Only.refl _ _

end

/-! ### O46: the planner -/

section
variable (s : State) (t : Nat) {a : State} (ha : s.advance t = a)
include ha

theorem marginSample_only (slacks temps : List Int) (w : State) (hw : w = s.run t fun s => s.marginSampled slacks temps) :
    Only (told ++ [Part.islands, Part.health, Part.log]) a w := by
  rw [hw, ← ha]
  exact Only.run (by decide) ((Only.refl _ _).step fun p hp => State.marginSampled_same (Part.ne_of_notMem hp (by decide))
    (Part.ne_of_notMem hp (by decide)) (Part.ne_of_notMem hp (by decide)) ..)

section
variable (i : Island) (x : Int) (temps : List Int) (hl : a.islands.length = 12) (haon : a.up .aon = true) (hi : i ≠ .aon) (hu : a.up i = true)
  (hs : ∀ r ∈ a.islands, r.slack = []) (hx : x < 40)
include hl haon hi hu hs hx

theorem marginSample_volts : a.health.volts < 850 →
    Yields (exec (.marginSample t ((List.replicate 12 40).set i.id x) temps) s) fun w =>
      w.health.volts = a.health.volts + 5 ∧ w.health.marginV = decide (a.health.volts + 5 = 850) ∧ (∀ r ∈ w.islands, r.slack = [])
      ∧ w.log = (a.logEv .marginVoltage []).log ∧ Only (told ++ [Part.islands, Part.health, Part.log]) a w := by
  intro hv
  obtain ⟨hz, hzl, -⟩ := State.judged_spec temps hl (oneSlack i x)
  have hup := State.judged_up temps hl (oneSlack i x) .aon
  have e : a.marginSampled ((List.replicate 12 40).set i.id x) temps = _ := (State.marginSampled_one temps hl hs haon hi hu hx).trans
    (State.marginAct_volts (by rw [hz]; exact hv) i)
  generalize a.judged (oneSlack i x) temps = z at *
  obtain ⟨l, hc⟩ := State.count_health (({ z with
      health := { z.health with volts := z.health.volts + 5, marginV := decide (z.health.volts + 5 = 850) },
      islands := z.islands.map fun x => { x with slack := [] } } : State).logEv .marginVoltage []) 0x14 0 1
  have hzh : z.health = a.health := (congrArg State.health hz).trans rfl
  refine .next ⟨?_, ?_, ?_, ?_, marginSample_only s t ha _ _ _ rfl⟩
  · rw [State.run_health, ha, e, hc, State.logEv_health, ← hzh]
  · rw [State.run_health, ha, e, hc, State.logEv_health, ← hzh]
  · rw [State.run_islands, ha, e, State.count_eq, State.logEv_eq]
    intro r hr
    obtain ⟨y, -, rfl⟩ := List.mem_map.mp hr
    rfl
  · rw [State.run_log, ha, e, State.count_eq, ← State.logEv_log_islands hz hup]
    have hmap : ({ z with
        health := { z.health with volts := z.health.volts + 5, marginV := decide (z.health.volts + 5 = 850) },
        islands := z.islands.map fun x => { x with slack := [] } } : State).up .aon = z.up .aon := by
      unfold State.up
      rw [State.isl_mapIslands (s := { z with
        health := { z.health with volts := z.health.volts + 5, marginV := decide (z.health.volts + 5 = 850) } }) hzl]
      rfl
    apply State.logEv_log_congr <;> first | exact hmap | rfl

theorem marginSample_step {n : Nat} (hn : n = (a.isl i).stepTo.getD (a.isl i).step) : 850 ≤ a.health.volts → n < floorStep i →
    Yields (exec (.marginSample t ((List.replicate 12 40).set i.id x) temps) s) fun w =>
      (w.isl i).stepTo = some (n + 1) ∧ (w.isl i).step = (a.isl i).step ∧ (w.isl i).slack = [] ∧ w.health.marginS = true
      ∧ w.health.volts = a.health.volts ∧ Only (told ++ [Part.islands, Part.health, Part.log]) a w := by
  intro hv hf
  obtain ⟨hz, hzl, -⟩ := State.judged_spec temps hl (oneSlack i x)
  have hk := State.judged_kept temps hl (oneSlack i x) i
  have e : a.marginSampled ((List.replicate 12 40).set i.id x) temps = _ := State.marginSampled_one temps hl hs haon hi hu hx
  generalize a.judged (oneSlack i x) temps = z at *
  have hzh : z.health = a.health := (congrArg State.health hz).trans rfl
  have hto : (z.isl i).stepTo = (a.isl i).stepTo := (congrArg IslandRec.stepTo hk : _)
  have hst : (z.isl i).step = (a.isl i).step := (congrArg IslandRec.step hk : _)
  have hzn : (z.isl i).stepTo.getD (z.isl i).step = n := by rw [hto, hst, hn]
  obtain ⟨h1, h2, h3⟩ := State.marginAct_step hzl (by rw [hzh]; exact hv) (by rw [hzn]; exact hf)
  refine .next ?_
  rw [State.run_isl, State.run_health, ha]
  rw [e, h1, h2, h3, hzn, hzh]
  exact ⟨rfl, hst, rfl, rfl, rfl, marginSample_only s t ha _ _ _ rfl⟩

theorem marginSample_end {n : Nat} (hn : n = (a.isl i).stepTo.getD (a.isl i).step) : 850 ≤ a.health.volts → floorStep i ≤ n →
    (a.isl i).endLogged = false →
    Yields (exec (.marginSample t ((List.replicate 12 40).set i.id x) temps) s) fun w =>
      w.health.marginEnd = true ∧ (w.isl i).endLogged = true ∧ (w.isl i).stepTo = (a.isl i).stepTo ∧ w.health.volts = a.health.volts
      ∧ w.log = (a.logEv .endOfMargin [byte i.id]).log ∧ Only (told ++ [Part.islands, Part.health, Part.log]) a w := by
  intro hv hf he
  obtain ⟨hz, hzl, -⟩ := State.judged_spec temps hl (oneSlack i x)
  have hk := State.judged_kept temps hl (oneSlack i x) i
  have hup := State.judged_up temps hl (oneSlack i x) .aon
  have e : a.marginSampled ((List.replicate 12 40).set i.id x) temps = _ := State.marginSampled_one temps hl hs haon hi hu hx
  generalize a.judged (oneSlack i x) temps = z at *
  have hzh : z.health = a.health := (congrArg State.health hz).trans rfl
  have hto : (z.isl i).stepTo = (a.isl i).stepTo := (congrArg IslandRec.stepTo hk : _)
  have hst : (z.isl i).step = (a.isl i).step := (congrArg IslandRec.step hk : _)
  have hze : (z.isl i).endLogged = (a.isl i).endLogged := (congrArg IslandRec.endLogged hk : _)
  have hzn : (z.isl i).stepTo.getD (z.isl i).step = n := by rw [hto, hst, hn]
  obtain ⟨h1, h2, h3, h4⟩ := State.marginAct_end hzl (by rw [hzh]; exact hv) (by rw [hzn]; exact hf) (hze.trans he)
  refine .next ?_
  rw [State.run_isl, State.run_health, State.run_log, ha, e, h1, h2, h3, h4, hzh, State.logEv_log_islands hz hup]
  exact ⟨rfl, rfl, hto, rfl, rfl, marginSample_only s t ha _ _ _ rfl⟩

end

theorem marginSample_ample (slacks temps : List Int) : a.islands.length = 12 → a.up .aon = true → (∀ x ∈ slacks, 40 ≤ x) →
    (∀ r ∈ a.islands, ∀ e ∈ r.slack, 40 ≤ e.2) →
    Yields (exec (.marginSample t slacks temps) s) fun w => Only (told ++ [Part.islands]) a w ∧ w.islands.map (·.stepTo) = a.islands.map (·.stepTo) := by
  intro hl haon hx hs
  have e := State.marginSampled_ample (temps := temps) hl haon hx hs
  obtain ⟨hz, hzl, -⟩ := State.judged_spec temps hl slacks
  refine .next ⟨?_, ?_⟩
  · subst ha
    refine Only.run (by decide) ?_
    rw [e, hz]
    exact (Only.refl _ _).step fun p hp => same_islands (Part.ne_of_notMem hp (by decide)) ..
  · rw [State.run_islands, ha, e]
    refine State.map_islands_congr hzl hl fun j => ?_
    exact (congrArg IslandRec.stepTo (State.judged_kept temps hl slacks j) : _)

end

/-! ### The thermal trip -/

/-- An island that enters a chip reset is in reset. -/
theorem IslandRec.entered_st (x : IslandRec) : (x.entered 1).st = .inReset := by
  unfold IslandRec.entered
  split
  · next h => simpa using h
  · rfl

theorem mem_reachIslands_one {j : Island} (h : j ≠ .aon) : j ∈ reachIslands 1 0xFF :=
  List.mem_filter.mpr ⟨Island.mem_all j, decide_eq_true h⟩

theorem State.any_code {s : State} {c : Nat} (h : ∀ x ∈ s.resets.asserted, x.code ≠ c) : (s.resets.asserted.any fun x => x.code = c) = false :=
  List.any_eq_false.mpr fun x hx => by simpa using h x hx

theorem State.tripped_trips {a : State} (hl : a.islands.length = 12) (i : Island) {temp : Int} (ht : 1400 < temp)
    (hn : ∀ x ∈ a.resets.asserted, x.code ≠ 9) :
    ⟨9, 1, 0xFF⟩ ∈ (a.tripped i temp).resets.asserted ∧ (a.tripped i temp).health.trips = wrap 32 (a.health.trips + 1) ∧
      ∀ j, j ≠ .aon → ((a.tripped i temp).isl j).st = .inReset := by
  let z : State := { a.setTemp i temp with health := { a.health with trips := wrap 32 (a.health.trips + 1) } }
  have hz : z.islands.length = 12 := (State.setIsl_length ..).trans hl
  have e : a.tripped i temp = z.assertReset 9 1 0xFF := by
    unfold State.tripped
    refine if_pos ?_
    simp [ht, State.any_code (s := a.setTemp i temp) hn]
  rw [e]
  refine ⟨?_, State.assertReset_trips hz _ _ (by decide) (by decide), fun j hj => ?_⟩
  · rw [State.assertReset_asserted]
    exact List.mem_append_right _ (List.mem_singleton_self _)
  · rw [State.assertReset_isl hz _ _ (by decide) (by decide) hj, if_pos (mem_reachIslands_one hj)]
    exact IslandRec.entered_st _

/-! ### The release of the trip -/

theorem State.releaseSource_filters (s : State) (c : Nat) : (s.releaseSource c).resets.asserted = s.resets.asserted.filter fun x => x.code ≠ c := by
  unfold State.releaseSource
  split
  · next h =>
    symm
    refine List.filter_eq_self.mpr fun x hx => ?_
    have h' : (s.resets.asserted.any fun x => x.code = c) = false := by simpa using h
    simpa using List.any_eq_false.mp h' x hx
  · have h1 (x : State) : (State.replan (if (x.isl .aon).st = .inReset && !x.held? .aon then
        (x.setIsl .aon fun r => { r with st := .running }).inputsJudged else x)).resets.asserted = x.resets.asserted := by
      split
      · rw [State.replan_asserted]
        exact congrArg Resets.asserted ((State.inputsJudged_same (pt := .resets) (by decide) (by decide) (by decide) (by decide) _ _).mpr
          (Part.same_refl _ _) : _ = _)
      · rfl
    have h2 (x : State) (b : Bool) : (if b then { x with health := { x.health with vreq := x.voltCode, vreqAt := x.now } } else x : State).resets =
        x.resets := by
      cases b <;> rfl
    exact (congrArg Resets.asserted (h2 _ _)).trans (h1 _)

theorem State.tripReleased_asserted {a : State} {temps : List Int} (hl : a.islands.length = 12) (ht : temps.length = 12) :
    (a.tripReleased temps).resets.asserted =
      if temps.all (fun x => x ≤ 1150) then a.resets.asserted.filter (fun x => x.code ≠ 9) else a.resets.asserted := by
  unfold State.tripReleased
  dsimp only
  rw [State.setTemps_all (hl.trans ht.symm) fun x => decide (x ≤ 1150)]
  split
  · exact State.releaseSource_filters ..
  · rfl

section
variable (s : State) (t : Nat) {a : State} (ha : s.advance t = a)
include ha

theorem thermalTrip_trips (i : Island) (temp : Int) : s.sized → 1400 < temp → (∀ x ∈ a.resets.asserted, x.code ≠ 9) →
    Yields (exec (.thermalTrip t i temp) s) fun w =>
      Asserted.mk 9 1 0xFF ∈ w.resets.asserted ∧ w.health.trips = wrap 32 (a.health.trips + 1) ∧ ∀ j, j ≠ .aon → (w.isl j).st = .inReset := by
  intro hs ht hn
  have hl : a.islands.length = 12 := by
    have h : Part.islands.same s (s.advance t) := (State.advance_same (by decide) (by decide) (by decide) (by decide) _ _ _).mpr (Part.same_refl _ _)
    rw [← ha]
    exact (congrArg List.length h).trans hs.1
  refine .next ?_
  rw [State.run_resets, State.run_health, ha]
  obtain ⟨h1, h2, h3⟩ := State.tripped_trips hl i ht hn
  exact ⟨h1, h2, fun j hj => by rw [State.run_isl, ha]; exact h3 j hj⟩

theorem thermalTripRelease_releases (temps : List Int) : a.islands.length = 12 → temps.length = 12 →
    Yields (exec (.thermalTripRelease t temps) s) fun w =>
      w.resets.asserted = (if temps.all (fun x => x ≤ 1150) then a.resets.asserted.filter (fun x => x.code ≠ 9) else a.resets.asserted)
      ∧ Only (told ++ [Part.islands, Part.resets, Part.health, Part.stop]) a w := by
  intro hl ht
  refine .next ⟨?_, ?_⟩
  · rw [State.run_resets, ha]
    exact State.tripReleased_asserted hl ht
  · rw [← ha]
    exact Only.run (by decide) ((Only.refl _ _).step fun p hp => State.tripReleased_same (Part.ne_of_notMem hp (by decide))
      (Part.ne_of_notMem hp (by decide)) (Part.ne_of_notMem hp (by decide)) (Part.ne_of_notMem hp (by decide)) (Part.ne_of_notMem hp (by decide)) 
      (Part.ne_of_notMem hp (by decide)) ..)

end

/-- Settles O46: each clause by what its operation of chapter 19 does at the state it finds. -/
theorem marginActions : Obligations.MarginActions :=
  ⟨fun s t => tempHigh_logged s t rfl, fun s t => tempHigh_quiet s t rfl, fun s t => tempHighClear_yields s t rfl,
    fun s t => thermalTrip_trips s t rfl, fun s t => thermalTrip_quiet s t rfl, fun s t => thermalTripRelease_releases s t rfl,
    fun s t => marginSample_volts s t rfl, fun s t i x temps h1 h2 h3 h4 h5 h6 => marginSample_step s t rfl i x temps h1 h2 h3 h4 h5 h6 rfl,
    fun s t i x temps h1 h2 h3 h4 h5 h6 => marginSample_end s t rfl i x temps h1 h2 h3 h4 h5 h6 rfl,
    fun s t => marginSample_ample s t rfl,
    fun s t n i => islandStepChange_switches s t rfl n i, fun s t => islandStepChange_stays s t rfl, fun s t => vreqStep_moves s t rfl,
    fun s t => vreqStep_stays s t rfl⟩

end Sys2Proof.Machine
end

section
set_option Elab.async false
/-!
PROOF. The Ethernet ports: what an update of one port leaves of the others, and the class of the device's own frames.
-/

namespace Sys2Proof.Machine

/-! ### One port -/

theorem State.eth_setEth {s : State} {n : Nat} (h : n < s.net.ports.length) (f : EthPort → EthPort) : (s.setEth n f).eth n = f (s.eth n) :=
  modNth_getD f _ h

theorem State.eth_setEth_ne {s : State} {n k : Nat} (h : k ≠ n) (f : EthPort → EthPort) : (s.setEth n f).eth k = s.eth k := modNth_getD_ne f _ h

theorem State.eth_of_net {x y : State} (h : x.net = y.net) (n : Nat) : x.eth n = y.eth n := by
  unfold State.eth
  rw [h]

theorem State.setEth_length (s : State) (n : Nat) (f : EthPort → EthPort) : (s.setEth n f).net.ports.length = s.net.ports.length := modNth_length _ _ _

theorem State.hasEth_lt {s : State} {n : Nat} (h : s.hasEth n = true) : n < 4 := by
  simp only [State.hasEth, Bool.and_eq_true, decide_eq_true_eq] at h
  exact h.1

theorem State.ethOn_lt {s : State} {n : Nat} (h : s.ethOn n = true) : n < 4 := by
  simp only [State.ethOn, Bool.and_eq_true] at h
  exact State.hasEth_lt h.1.1

theorem State.ptpRuns_iff {s : State} {n : Nat} :
    s.ptpRuns n = true ↔ s.up .compute = true ∧ s.up .network = true ∧ s.role n = 1 ∧ s.ethOn n = true := by
  simp only [State.ptpRuns, Bool.and_eq_true, decide_eq_true_eq, and_assoc]

theorem State.ptpRuns_lt {s : State} {n : Nat} (h : s.ptpRuns n = true) : n < 4 := State.ethOn_lt (State.ptpRuns_iff.mp h).2.2.2

theorem State.run_eth (s : State) (t n : Nat) (body : State → State) : (s.run t body).eth n = (body (s.advance t)).eth n :=
  State.eth_of_net (State.run_net s t body) n

/-! ### Sources -/

theorem State.sourceGone_net (s : State) (c : Nat) : (s.sourceGone c).net = s.net := (State.sourceGone_same (pt := .net) (by decide) (by decide) s s c).mpr rfl
theorem State.sourceGone_out (s : State) (c : Nat) : (s.sourceGone c).out = s.out := (State.sourceGone_same (pt := .out) (by decide) (by decide) s s c).mpr rfl
theorem State.offset_net (s : State) (c : Nat) (off : Int) (bound : Nat) : (s.offset c off bound).net = s.net :=
  (State.offset_same (pt := .net) (by decide) (by decide) s s c off bound).mpr rfl

theorem State.ite_net {c : Prop} [Decidable c] {x y : State} (h : x.net = y.net) : (if c then x else y).net = y.net := by
  split
  · exact h
  · rfl

theorem State.ite_out {c : Prop} [Decidable c] {x y : State} (h : x.out = y.out) : (if c then x else y).out = y.out := by
  split
  · exact h
  · rfl

/-! ### The class of a frame of the device -/

/-- A field of a frame that stands after the bytes before it. -/
theorem ube_field {pre mid post : Bytes} {off n : Nat} (h : pre.length = off) (hn : mid.length = n) : ube (pre ++ (mid ++ post)) off n = beNat mid := by
  subst h hn
  unfold ube slice
  rw [List.drop_left, List.take_left]

theorem beBytes_length (n v : Nat) : (beBytes n v).length = n := by
  have h : (leBytes n v).length = n := by
    induction n generalizing v with
    | zero => rfl
    | succ n ih => exact congrArg (· + 1) (ih _)
  rw [beBytes, List.length_reverse, h]

theorem fit_length (n : Nat) (b : Bytes) : (fit n b).length = n := by
  simp [fit, zeros]
  omega

/-- The addresses of a frame, before its type. -/
def ethAddresses (mac : Nat) (m : PtpMsg) : Bytes := beBytes 6 (ptpDest m.transport (isPeer m)) ++ beBytes 6 mac

theorem ethAddresses_length (mac : Nat) (m : PtpMsg) : (ethAddresses mac m).length = 12 := by
  rw [ethAddresses, List.length_append, beBytes_length, beBytes_length]

/-- What stands behind the addresses of a frame: its type and its payload. -/
structure FrameParts (b : Bytes) (ty : Nat) (x : Bytes) : Prop where
  split : ∃ h t : Bytes, h.length = 12 ∧ t.length = 2 ∧ beNat t = ty ∧ b = h ++ (t ++ x)

theorem FrameParts.padded {b h t z : Bytes} {ty : Nat} (hb : b = h ++ (t ++ z)) (hh : h.length = 12) (ht : t.length = 2) (hty : beNat t = ty)
    (pad : Bytes) : FrameParts (b ++ pad) ty (z ++ pad) :=
  ⟨h, t, hh, ht, hty, by rw [hb, List.append_assoc, List.append_assoc]⟩

section
variable {b x : Bytes} {ty : Nat} (h : FrameParts b ty x) (ht : ty ≠ 0x8100)
include h

theorem FrameParts.ube_type : ube b 12 2 = ty := by
  obtain ⟨a, t, ha, hl, rfl, rfl⟩ := h.split
  exact ube_field ha hl

theorem FrameParts.ube_payload (off n : Nat) : ube b (14 + off) n = ube x off n := by
  obtain ⟨a, t, ha, hl, -, rfl⟩ := h.split
  unfold ube slice
  rw [← List.append_assoc, ← List.drop_drop, List.drop_left' (by simp [ha, hl])]

include ht

theorem FrameParts.untagged : ethTagged b = false := by
  unfold ethTagged
  rw [h.ube_type]
  exact decide_eq_false ht

theorem FrameParts.ethTagPcp : ethTagPcp b = none := by
  unfold Machine.ethTagPcp
  rw [h.untagged ht]
  rfl

theorem FrameParts.ethAt : ethAt b = 14 := by
  unfold Machine.ethAt
  rw [h.untagged ht]
  rfl

theorem FrameParts.ethType : ethType b = ty := by
  unfold Machine.ethType
  rw [h.ethAt ht]
  exact h.ube_type

end

/-- The type of a frame of the device by transport. -/
def ptpType : Nat → Nat
  | 0 => 0x88F7
  | 1 => 0x0800
  | _ => 0x86DD

theorem byte_mod {n : Nat} (h : n < 16) : (byte n).toNat % 16 = n := by
  simp [byte]
  omega

theorem beNat_byte {n : Nat} (h : n < 16) : beNat [byte n] % 16 = n := byte_mod h

/-- The UDP port of a message. -/
def ptpPort (m : PtpMsg) : Nat := if isEvent m then 319 else 320

theorem ptpPort_field (m : PtpMsg) : beNat (beBytes 2 (ptpPort m)) = ptpPort m := by
  unfold ptpPort
  split <;> decide

theorem ptpPort_event (m : PtpMsg) : decide (ptpPort m = 319) = isEvent m := by
  unfold ptpPort
  cases isEvent m <;> decide

/-- The fields of an IPv4 packet with a UDP datagram that R673 looks at. -/
theorem ip4_fields {n c a d p : Bytes} (hn : n.length = 2) (hc : c.length = 2) (ha : a.length = 4) (hd : d.length = 4) (hp : p.length = 2) (ttl : Byte)
    (y : Bytes) : ∀ z, z = patch ([0x45, 0] ++ n ++ zeros 4 ++ [ttl, 17, 0, 0] ++ a ++ d) 10 c ++ (p ++ p ++ y) →
    24 ≤ z.length ∧ ube z 0 1 = 0x45 ∧ ube z 9 1 = 17 ∧ ube z 22 2 = beNat p := by
  rintro z rfl
  match n, c, a, d, p with
  | [_, _], [_, _], [_, _, _, _], [_, _, _, _], [_, _] => exact ⟨by simp [patch, zeros], rfl, rfl, rfl⟩

/-- The fields of an IPv6 packet with a UDP datagram that R673 looks at. -/
theorem ip6_fields {n c a d p q : Bytes} (hn : n.length = 2) (hc : c.length = 2) (ha : a.length = 16) (hd : d.length = 16) (hp : p.length = 2)
    (hq : q.length = 2) (ttl : Byte) (y : Bytes) :
    ∀ z, z = [0x60, 0, 0, 0] ++ n ++ [17, ttl] ++ a ++ d ++ patch (p ++ p ++ q ++ y) 6 c → 44 ≤ z.length ∧ ube z 6 1 = 17 ∧ ube z 42 2 = beNat p := by
  rintro z rfl
  match n, c, a, d, p, q with
  | [_, _], [_, _], [_, _, _, _, _, _, _, _, _, _, _, _, _, _, _, _], [_, _, _, _, _, _, _, _, _, _, _, _, _, _, _, _], [_, _], [_, _] => exact ⟨by simp [patch], rfl, rfl⟩

theorem ube_append {x y : Bytes} {off n : Nat} (h : off + n ≤ x.length) : ube (x ++ y) off n = ube x off n := by
  unfold ube slice
  rw [List.drop_append_of_le_length (by omega), List.take_append_of_le_length (by simp; omega)]

section
variable (mac : Nat) {ip4 ip6 : Bytes} {m : PtpMsg} (l : Int)

theorem ptpFrame_eth (hm : m.mtype < 16) (h : m.transport = 0) :
    ∃ x, FrameParts (ptpFrame mac ip4 ip6 m l) 0x88F7 x ∧ ube x 0 1 % 16 = m.mtype := by
  refine ⟨ptpBytes m l ++ zeros (60 - (ethAddresses mac m ++ [0x88, 0xF7] ++ ptpBytes m l).length),
    ⟨ethAddresses mac m, [0x88, 0xF7], ethAddresses_length mac m, rfl, by decide, ?_⟩, beNat_byte hm⟩
  unfold ptpFrame
  rw [h]
  simp only [ethAddresses, h, List.append_assoc]

theorem ptpFrame_ip4 (h4 : ip4.length = 4) (h : m.transport = 1) :
    ∃ x, FrameParts (ptpFrame mac ip4 ip6 m l) 0x0800 x ∧ ube x 0 1 = 0x45 ∧ ube x 9 1 = 17 ∧ ube x 22 2 = ptpPort m := by
  unfold ptpFrame
  extract_lets x head port ttl udp ip x' udp' sum b
  have hb : b = head ++ ([0x08, 0x00] ++ (patch ip 10 (beBytes 2 (inetSum ip)) ++ udp)) := by
    simp only [b, h, List.append_assoc]
  obtain ⟨hl, e1, e2, e3⟩ := ip4_fields (n := beBytes 2 (20 + udp.length)) (c := beBytes 2 (inetSum ip)) (a := ip4) (d := ptpDest4 (isPeer m)) (p := port)
    (beBytes_length ..) (beBytes_length ..) h4 (by cases isPeer m <;> rfl) (beBytes_length ..) ttl (beBytes 2 (8 + x.length) ++ [0, 0] ++ x)
    (patch ip 10 (beBytes 2 (inetSum ip)) ++ udp) (by simp only [udp, ip, List.append_assoc])
  exact ⟨_, .padded hb (ethAddresses_length mac m) rfl (by decide) _,
    (ube_append (by omega)).trans e1, (ube_append (by omega)).trans e2, (ube_append (by omega)).trans (e3.trans (ptpPort_field m))⟩

theorem ptpFrame_ip6 (h6 : ip6.length = 16) (h0 : m.transport ≠ 0) (h1 : m.transport ≠ 1) :
    ∃ x, FrameParts (ptpFrame mac ip4 ip6 m l) 0x86DD x ∧ ube x 6 1 = 17 ∧ ube x 42 2 = ptpPort m := by
  unfold ptpFrame
  extract_lets x head port ttl udp ip x' udp' sum b
  have hb : b = head ++ ([0x86, 0xDD] ++ ([0x60, 0, 0, 0] ++ beBytes 2 udp'.length ++ [17, ttl] ++ ip6 ++ ptpDest6 (isPeer m) ++
      patch udp' 6 (beBytes 2 (if sum = 0 then 0xFFFF else sum)))) := by
    unfold b
    split
    · next e => exact absurd e h0
    · next e => exact absurd e h1
    · simp only [List.append_assoc, List.cons_append, List.nil_append]
  have hd : (ptpDest6 (isPeer m)).length = 16 := by cases isPeer m <;> rfl
  obtain ⟨hl, e1, e2⟩ := ip6_fields (n := beBytes 2 udp'.length) (c := beBytes 2 (if sum = 0 then 0xFFFF else sum)) (p := port)
    (q := beBytes 2 (8 + x'.length)) (beBytes_length ..) (beBytes_length ..) h6 hd (beBytes_length ..) (beBytes_length ..) ttl ([0, 0] ++ x')
    ([0x60, 0, 0, 0] ++ beBytes 2 udp'.length ++ [17, ttl] ++ ip6 ++ ptpDest6 (isPeer m) ++ patch udp' 6 (beBytes 2 (if sum = 0 then 0xFFFF else sum))) (by
      rw [← List.append_assoc (port ++ port ++ beBytes 2 (8 + x'.length))])
  exact ⟨_, .padded hb (ethAddresses_length mac m) rfl (by decide) _,
    (ube_append (by omega)).trans e1, (ube_append (by omega)).trans (e2.trans (ptpPort_field m))⟩

/-- The device's frames are of class 3 where their message is an event message, and carry no tag. -/
theorem ptpFrame_class (h4 : ip4.length = 4) (h6 : ip6.length = 16) (hm : m.mtype < 16) :
    isEventFrame (ptpFrame mac ip4 ip6 m l) = isEvent m ∧ Machine.ethTagPcp (ptpFrame mac ip4 ip6 m l) = none := by
  by_cases h0 : m.transport = 0
  · obtain ⟨x, hf, hx⟩ := ptpFrame_eth mac (ip4 := ip4) (ip6 := ip6) l hm h0
    refine ⟨?_, hf.ethTagPcp (by decide)⟩
    unfold isEventFrame udpAt isEvent
    rw [hf.ethType (by decide), hf.ethAt (by decide), hf.ube_payload 0 1, hx]
    simp
  · by_cases h1 : m.transport = 1
    · obtain ⟨x, hf, hx, hp, hq⟩ := ptpFrame_ip4 mac (ip6 := ip6) l h4 h1
      refine ⟨?_, hf.ethTagPcp (by decide)⟩
      unfold isEventFrame udpAt
      rw [hf.ethType (by decide), hf.ethAt (by decide)]
      simp [hf.ube_payload 9 1, hf.ube_payload 0 1, hf.ube_payload 22 2, hx, hp, hq, ptpPort_event]
    · obtain ⟨x, hf, hp, hq⟩ := ptpFrame_ip6 mac (ip4 := ip4) l h6 h0 h1
      refine ⟨?_, hf.ethTagPcp (by decide)⟩
      unfold isEventFrame udpAt
      rw [hf.ethType (by decide), hf.ethAt (by decide)]
      simp [hf.ube_payload 6 1, hf.ube_payload 42 2, hp, hq, ptpPort_event]

end

/-- An own message is queued by its kind: an event message in class 3, another in class 0. -/
theorem State.sendPtp_eq (s : State) (n : Nat) {m : PtpMsg} (hm : m.mtype < 16) (act : Depart) :
    s.sendPtp n m act = s.setEth n fun p => { p with queues := modNth p.queues (if isEvent m then 3 else 0) (· ++ [⟨s.ptpFrameOf n m, 4, 0, act⟩]) } := by
  have h4 : s.ip4.length = 4 := fit_length ..
  have h6 : s.ip6.length = 16 := by
    unfold State.ip6
    extract_lets g
    split
    · simp [State.linkLocal, zeros, beBytes_length]
    · exact fit_length ..
  obtain ⟨h1, h2⟩ := ptpFrame_class ((s.macBase + 1 + n) % 2 ^ 48) (s.ptpLogInt n m.mtype) (m := m) h4 h6 hm
  have hc : s.classOf 4 (s.ptpFrameOf n m) = if isEvent m then 3 else 0 := by
    unfold State.classOf State.ptpFrameOf
    rw [h1, h2]
    cases isEvent m <;> simp
  unfold State.sendPtp State.enqueue
  dsimp only
  rw [hc]

end Sys2Proof.Machine
end

section
set_option Elab.async false
/-!
PROOF. O34: frames through the switch, learnt addresses and link states of the Ethernet ports.
-/

namespace Sys2Proof.Machine

/-! ### Links -/

/-- What INITIALIZING makes of a port. -/
def EthPort.inited (p : EthPort) (role now : Nat) : EthPort :=
  { p with ptp := if role = 1 then 1 else 0, since := now, foreign := [], parent := none, syncAt := none, twoStep := none, leg := none, req := none }

/-- What a new link code makes of a port. -/
def EthPort.linked (p : EthPort) (code role now : Nat) : EthPort :=
  if p.link ≠ 0 ∧ code = 0 then ({ p with link := code } : EthPort).inited role now else { p with link := code }

theorem EthPort.linked_link (p : EthPort) (code role now : Nat) : (p.linked code role now).link = code := by
  unfold EthPort.linked
  split <;> rfl

theorem State.ptpInit_net (s : State) (n : Nat) : (s.ptpInit n).net = (s.setEth n fun p => p.inited (s.role n) s.now).net := by
  unfold State.ptpInit
  extract_lets was role now x
  exact State.ite_net (State.sourceGone_net x 2)

theorem State.setEthLink_eth {s : State} {n : Nat} (h : n < s.net.ports.length) (code : Nat) :
    (s.setEthLink n code).eth n = (s.eth n).linked code (s.role n) s.now := by
  have hx : (s.setEth n fun p => { p with link := code }).eth n = { s.eth n with link := code } := State.eth_setEth h _
  have hl : n < (s.setEth n fun p => { p with link := code }).net.ports.length := (State.setEth_length ..).symm ▸ h
  unfold State.setEthLink EthPort.linked
  extract_lets was x
  by_cases hc : (s.eth n).link ≠ 0 ∧ code = 0
  · rw [if_pos (by simpa [was] using hc), if_pos hc]
    refine (State.eth_of_net (State.ptpInit_net ..) n).trans ?_
    rw [State.eth_setEth hl, hx]
    rfl
  · rw [if_neg (by simpa [was] using hc), if_neg hc]
    exact hx

theorem State.setEthLink_eth_ne {s : State} {n k : Nat} (h : k ≠ n) (code : Nat) : (s.setEthLink n code).eth k = s.eth k := by
  unfold State.setEthLink
  extract_lets was x
  split
  · refine (State.eth_of_net (State.ptpInit_net ..) k).trans ?_
    rw [State.eth_setEth_ne h]
    exact State.eth_setEth_ne h _
  · exact State.eth_setEth_ne h _

theorem State.setEthLink_length (s : State) (n code : Nat) : (s.setEthLink n code).net.ports.length = s.net.ports.length := by
  unfold State.setEthLink
  extract_lets was x
  split
  · rw [State.ptpInit_net, State.setEth_length]
    exact State.setEth_length ..
  · exact State.setEth_length ..

theorem State.setEthLink_out (s : State) (n code : Nat) : (s.setEthLink n code).out = s.out :=
  (State.setEthLink_same (pt := .out) (by decide) (by decide) (by decide) s s n code).mpr rfl

/-! ### Forwarding -/

/-- A frame put in the queues of several ports, each once. -/
theorem State.enqueues_spec (e : EgFrame) {l : List Nat} (hn : l.Nodup) {s : State} (hl : s.net.ports.length = 4) (h4 : ∀ k ∈ l, k < 4) :
    let v := l.foldl (fun s k => s.enqueue k e) s
    v.net.macs = s.net.macs ∧ ∀ k, v.eth k = if k ∈ l then
      { s.eth k with queues := modNth (s.eth k).queues (s.classOf e.ingress e.frame) (· ++ [e]) } else s.eth k := by
  induction l generalizing s with
  | nil => exact ⟨rfl, fun k => rfl⟩
  | cons j l ih =>
    obtain ⟨hj, hn'⟩ := List.nodup_cons.mp hn
    obtain ⟨h1, h2⟩ := ih hn' (s := s.enqueue j e) ((State.setEth_length ..).trans hl) fun k hk => h4 k (List.mem_cons_of_mem _ hk)
    refine ⟨h1, fun k => (h2 k).trans ?_⟩
    rw [show (s.enqueue j e).classOf = s.classOf from rfl]
    have hjl : j < s.net.ports.length := hl ▸ h4 j (List.mem_cons_self ..)
    by_cases hk : k = j
    · subst hk
      rw [if_neg hj, if_pos (List.mem_cons_self ..)]
      exact State.eth_setEth hjl _
    · rw [show (s.enqueue j e).eth k = s.eth k from State.eth_setEth_ne hk _]
      simp [hk]

theorem State.routes_sub {s : State} {n dst k : Nat} (h : k ∈ s.routes n dst) : k < 4 ∧ k ≠ n := by
  have ho {k : Nat} (h : k ∈ (List.range 4).filter fun m => m ≠ n && s.ethOn m) : k < 4 ∧ k ≠ n := by
    obtain ⟨h1, h2⟩ := List.mem_filter.mp h
    simp only [Bool.and_eq_true, decide_eq_true_eq] at h2
    exact ⟨List.mem_range.mp h1, h2.1⟩
  unfold State.routes at h
  extract_lets others at h
  split at h
  · exact ho h
  · split at h
    · exact absurd h List.not_mem_nil
    · split at h
      · exact ho (List.mem_of_mem_filter h)
      · exact ho h

theorem State.routes_nodup (s : State) (n dst : Nat) : (s.routes n dst).Nodup := by
  have ho : ((List.range 4).filter fun m => m ≠ n && s.ethOn m).Nodup := List.nodup_range.filter _
  unfold State.routes
  extract_lets others
  split
  · exact ho
  · split
    · exact List.nodup_nil
    · split
      · exact ho.filter _
      · exact ho

/-- The state in which a port's frame is forwarded: it is counted and learnt from. -/
def State.received (a : State) (n : Nat) (f : Bytes) : State :=
  ((a.setEth n fun p => { p with rx := wrap 64 (p.rx + 1) }).count 0x0F n 1).learn (ethSrc f) n

theorem State.received_eq (a : State) (n : Nat) (f : Bytes) : ∃ h, a.received n f =
    { (a.learn (ethSrc f) n) with
      net := { (a.setEth n fun p => { p with rx := wrap 64 (p.rx + 1) }).net with macs := (a.learn (ethSrc f) n).net.macs }, health := h } := by
  refine ⟨((a.setEth n fun p => { p with rx := wrap 64 (p.rx + 1) }).count 0x0F n 1).health, ?_⟩
  unfold State.received
  rw [State.count_eq]
  rfl

section
variable {a : State} {n : Nat} (hl : a.net.ports.length = 4) (hn : n < 4) (f : Bytes)
include hl hn

theorem State.received_eth (k : Nat) : (a.received n f).eth k = if k = n then { a.eth n with rx := wrap 64 ((a.eth n).rx + 1) } else a.eth k := by
  obtain ⟨h, e⟩ := a.received_eq n f
  rw [e]
  have hx (k : Nat) : ({ (a.learn (ethSrc f) n) with
      net := { (a.setEth n fun p => { p with rx := wrap 64 (p.rx + 1) }).net with macs := (a.learn (ethSrc f) n).net.macs }, health := h } : State).eth k =
        (a.setEth n fun p => { p with rx := wrap 64 (p.rx + 1) }).eth k := rfl
  rw [hx]
  split
  · next hk =>
    subst hk
    exact State.eth_setEth (hl.symm ▸ hn) _
  · next hk => exact State.eth_setEth_ne hk _

theorem State.received_routes : (a.received n f).routes n (ethDst f) = (a.learn (ethSrc f) n).routes n (ethDst f) := by
  have hon (k : Nat) (hk : k ≠ n) : (a.received n f).ethOn k = (a.learn (ethSrc f) n).ethOn k := by
    have hk' : (a.received n f).eth k = (a.learn (ethSrc f) n).eth k := (State.received_eth hl hn f k).trans (if_neg hk)
    obtain ⟨h, e⟩ := a.received_eq n f
    unfold State.ethOn
    rw [hk', e]
    rfl
  have ho : ((List.range 4).filter fun k => k ≠ n && (a.received n f).ethOn k) =
      (List.range 4).filter fun k => k ≠ n && (a.learn (ethSrc f) n).ethOn k := by
    refine List.filter_congr fun k _ => ?_
    by_cases hk : k = n
    · simp [hk]
    · rw [hon k hk]
  have ht : (a.received n f).macTable = (a.learn (ethSrc f) n).macTable := by
    obtain ⟨h, e⟩ := a.received_eq n f
    rw [e]
    rfl
  have hm : (a.received n f).macBase = (a.learn (ethSrc f) n).macBase := by
    obtain ⟨h, e⟩ := a.received_eq n f
    rw [e]
    rfl
  unfold State.routes
  rw [ho, ht, hm]

theorem State.frameIn_forwards {groups : Bytes} (hu : a.up .network = true) (ho : a.ethOn n = true) (ha : a.accepted n groups = some f)
    (ht : ∀ m, ptpOf f = some m → a.terminates n m = false) :
    let v := a.frameIn n groups
    let b := a.learn (ethSrc f) n
    v.net.macs = b.net.macs ∧ (v.eth n).rx = wrap 64 ((a.eth n).rx + 1) ∧ (v.eth n).drop = (a.eth n).drop
      ∧ ∀ k < 4, (v.eth k).queues = if k ∈ b.routes n (ethDst f) then modNth (a.eth k).queues (a.classOf n f) (· ++ [⟨f, n, a.rxStamp n, .plain⟩])
        else (a.eth k).queues := by
  let e : EgFrame := ⟨f, n, a.rxStamp n, .plain⟩
  have hlen : (a.received n f).net.ports.length = 4 := by
    obtain ⟨h, e⟩ := a.received_eq n f
    rw [e]
    exact (State.setEth_length ..).trans hl
  have hcls : (a.received n f).classOf n f = a.classOf n f := by
    obtain ⟨h, e⟩ := a.received_eq n f
    rw [e]
    rfl
  have hterm : (match ptpOf f with | some m => (a.received n f).terminates n m | none => false) = false := by
    cases hm : ptpOf f with
    | none => rfl
    | some m =>
      refine Eq.trans ?_ (ht m hm)
      obtain ⟨h, e⟩ := a.received_eq n f
      rw [e]
      rfl
  have hv : a.frameIn n groups = ((a.received n f).routes n (ethDst f)).foldl (fun s k => s.enqueue k e) (a.received n f) := by
    unfold State.frameIn
    rw [if_neg (by simp [hu, ho]), ha]
    show a.forward n f = _
    unfold State.forward
    exact if_neg (by rw [Bool.not_eq_true]; exact hterm)
  obtain ⟨h1, h2⟩ := State.enqueues_spec e ((a.received n f).routes_nodup n (ethDst f)) hlen fun k hk => (State.routes_sub hk).1
  have hnot : n ∉ (a.received n f).routes n (ethDst f) := fun h => (State.routes_sub h).2 rfl
  dsimp only
  rw [hv]
  refine ⟨h1.trans ?_, ?_, ?_, fun k hk => ?_⟩
  · obtain ⟨h, e⟩ := a.received_eq n f
    rw [e]
  · rw [h2, if_neg hnot, State.received_eth hl hn, if_pos rfl]
  · rw [h2, if_neg hnot, State.received_eth hl hn, if_pos rfl]
  · rw [h2, hcls, State.received_routes hl hn]
    have hq : ((a.received n f).eth k).queues = (a.eth k).queues := by
      rw [State.received_eth hl hn]
      split
      · next h => rw [h]
      · rfl
    split
    · rw [hq]
    · exact hq

end

/-! ### Sending -/

theorem State.ethOut_net (s : State) (n : Nat) (f : Bytes) : (s.ethOut n f).net = s.net := rfl

/-- The port whose next frame leaves. -/
def EthPort.popped (p : EthPort) (c : Nat) : EthPort := { p with queues := modNth p.queues c (·.drop 1), tx := wrap 64 (p.tx + 1) }

section
variable {a : State} {n c : Nat} {e : EgFrame} (hu : a.up .network = true) (ho : a.ethOn n = true)
  (hq : nextFrame (a.eth n).queues = some (c, e))
include hu ho hq

theorem State.frameOut_plain (hm : ptpOf e.frame = none) : a.frameOut n = (a.setEth n fun p => p.popped c).ethOut n e.frame := by
  unfold State.frameOut
  rw [if_neg (by simp [hu, ho]), hq]
  show (match ptpOf e.frame with | none => _ | some m => _) = _
  rw [hm]
  rfl

theorem State.frameOut_ptp {m : PtpMsg} (hm : ptpOf e.frame = some m) (hi : e.ingress < 4) :
    a.frameOut n = (((a.setEth n fun p => p.popped c).residence n e m).1).ethOut n (frameWith e.frame ((a.setEth n fun p => p.popped c).residence n e m).2) := by
  unfold State.frameOut
  rw [if_neg (by simp [hu, ho]), hq]
  show (match ptpOf e.frame with | none => _ | some m => _) = _
  rw [hm]
  dsimp only
  rw [if_neg (by omega)]
  rfl

end

/-- A residence that is corrected in the event message itself. -/
theorem State.residence_corrects {s : State} {n : Nat} {e : EgFrame} {m : PtpMsg} (hi : e.ingress < 4) (hr : s.role e.ingress = s.role n)
    (hn : s.role n = 2 ∨ s.role n = 3) (hm : isEvent m = true) (h2 : ¬(m.mtype = 0 ∧ m.twoStep = true)) (h0 : m.transport = 0) :
    s.residence n e m = (s, { m with correction := (addCorrection m.correction
      (s.txStamp n - e.rx + if s.role n = 3 ∧ m.mtype = 0 then (s.eth e.ingress).peerDelay + ptpAsym (s.ptpVal e.ingress) else 0)) }) := by
  have hx : s.crosses e.ingress n = true := by simpa [State.crosses, hi, hr] using hn
  unfold State.residence
  rw [if_neg (by simp [hx])]
  extract_lets add r
  rw [if_neg (by simp [h0]), if_neg (by simpa using h2), if_pos hm]
  unfold setCorrection
  rw [h0]
  simp [r, add]

/-! ### Link states -/

/-- What a PHY's control word makes of a port beside its link. -/
def EthPort.controlled (p : EthPort) (w : Nat) : EthPort :=
  { p with speed := bits w 10 2 + 1, err := if bit w 12 then p.err else wrap 64 (p.err + 1) }

theorem EthPort.linked_kept {α : Type} (g : EthPort → α) (hg : ∀ (p : EthPort) role now, g (p.inited role now) = g p)
    (hl : ∀ (p : EthPort) c, g { p with link := c } = g p) (p : EthPort) (code role now : Nat) : g (p.linked code role now) = g p := by
  unfold EthPort.linked
  split
  · exact (hg ..).trans (hl ..)
  · exact hl ..

section
variable {a : State} {n w : Nat} (hl : a.net.ports.length = 4) (hu : a.up .network = true) (hh : a.hasEth n = true)
include hl hu hh

/-- A control word that is taken is acknowledged, and the link follows it. -/
theorem State.controlWord_takes (ha : ethAuto (a.ethVal n) = true)
    (h1 : 1 ≤ ethMode (a.ethVal n)) (h4 : ethMode (a.ethVal n) ≤ 4) (h0 : bit w 0 = true) (hs : bits w 10 2 ≠ 3) :
    let u := a.controlWord n w
    Out.sgmii n 0x4001 ∈ u.out ∧ (u.eth n).link = (if bit w 15 && bit w 12 then linkCode (ethMode (a.ethVal n)) (bits w 10 2 + 1) else 0)
      ∧ (u.eth n).speed = bits w 10 2 + 1 ∧ (u.eth n).err = (if bit w 12 then (a.eth n).err else wrap 64 ((a.eth n).err + 1))
      ∧ ∀ k < 4, k ≠ n → u.eth k = a.eth k := by
  let x := (a.emit (.sgmii n 0x4001)).setEth n fun p => p.controlled w
  let code := if bit w 15 && bit w 12 then linkCode (ethMode (a.ethVal n)) (bits w 10 2 + 1) else 0
  have e : a.controlWord n w = x.setEthLink n code := by
    unfold State.controlWord
    extract_lets v mode y speed z
    refine if_neg ?_
    have h5 : ¬ ethMode v = 0 := by show ¬ ethMode (a.ethVal n) = 0; omega
    have h6 : ¬ 4 < ethMode v := Nat.not_lt.mpr h4
    simp [hu, hh, h0, hs, mode, h5, h6, show ethAuto v = true from ha]
  have hn : n < a.net.ports.length := hl.symm ▸ State.hasEth_lt hh
  have hx : x.eth n = (a.eth n).controlled w := State.eth_setEth (s := a.emit (.sgmii n 0x4001)) hn _
  have hv := State.setEthLink_eth (s := x) (n := n) ((State.setEth_length ..).symm ▸ hn) code
  rw [hx] at hv
  dsimp only
  rw [e, hv]
  refine ⟨?_, EthPort.linked_link .., EthPort.linked_kept EthPort.speed (fun _ _ _ => rfl) (fun _ _ => rfl) ..,
    EthPort.linked_kept EthPort.err (fun _ _ _ => rfl) (fun _ _ => rfl) .., fun k _ hk => (State.setEthLink_eth_ne hk _).trans (State.eth_setEth_ne hk _)⟩
  rw [State.setEthLink_out]
  exact List.mem_cons_self ..

/-- A change of synchronisation that moves the link. -/
theorem State.pcsSync_moves (synced : Bool) (hm : ethMode (a.ethVal n) ≠ 0) (ha : ethAuto (a.ethVal n) = false ∨ 4 < ethMode (a.ethVal n)) :
    let u := a.pcsSync n synced
    (u.eth n).pcs = synced ∧ (u.eth n).link = (if synced then linkCode (ethMode (a.ethVal n)) (a.eth n).speed else 0)
      ∧ (synced = false → (a.eth n).link ≠ 0 → (u.eth n).foreign = [] ∧ (u.eth n).parent = none ∧ (u.eth n).ptp = (if a.role n = 1 then 1 else 0)) := by
  let x := a.setEth n fun p => { p with pcs := synced }
  have hn : n < a.net.ports.length := hl.symm ▸ State.hasEth_lt hh
  have hx : x.eth n = { a.eth n with pcs := synced } := State.eth_setEth hn _
  let code := if synced then linkCode (ethMode (a.ethVal n)) (x.eth n).speed else 0
  have e : a.pcsSync n synced = x.setEthLink n code := by
    unfold State.pcsSync
    extract_lets v y
    rw [if_neg (by simp [hu, hh]), if_neg]
    simp only [Bool.or_eq_true, Bool.and_eq_true, decide_eq_true_eq, v]
    rcases ha with ha | ha
    · simp [hm, ha]
    · omega
  have hv := State.setEthLink_eth (s := x) (n := n) ((State.setEth_length ..).symm ▸ hn) code
  dsimp only
  rw [e, hv]
  refine ⟨?_, ?_, fun hs hk => ?_⟩
  · rw [EthPort.linked_kept EthPort.pcs (fun _ _ _ => rfl) (fun _ _ => rfl), hx]
  · rw [EthPort.linked_link]
    show (if synced then linkCode _ (x.eth n).speed else 0) = _
    rw [hx]
  · have hc : (x.eth n).link ≠ 0 ∧ code = 0 := by
      rw [hx]
      exact ⟨hk, if_neg (by rw [hs]; decide)⟩
    unfold EthPort.linked
    rw [if_pos hc]
    exact ⟨rfl, rfl, rfl⟩

end

/-- A written port value: what the links do. -/
theorem State.ethConfigured_spec {a : State} {n : Nat} (hl : a.net.ports.length = 4) (hn : n < 4) (old : Bytes) :
    let u := a.ethConfigured n old
    (ethMode (leNat old) = ethMode (a.ethVal n) → ethAuto (leNat old) = ethAuto (a.ethVal n) → u.net = a.net)
      ∧ (ethMode (leNat old) ≠ ethMode (a.ethVal n) ∨ ethAuto (leNat old) ≠ ethAuto (a.ethVal n) → ethAuto (a.ethVal n) = true ∨ (a.eth n).pcs = false →
          ethMode (a.ethVal n) ≤ 4 → (u.eth n).link = 0)
      ∧ ∀ k < 4, k ≠ n → u.eth k = a.eth k := by
  have hn' : n < a.net.ports.length := hl.symm ▸ hn
  unfold State.ethConfigured
  extract_lets o v x u
  by_cases hm : ethMode o = ethMode v ∧ ethAuto o = ethAuto v
  · have hu : u = a := if_pos (by simpa using hm)
    rw [hu]
    exact ⟨fun _ _ => rfl, fun h => absurd hm (by rintro ⟨h1, h2⟩; exact h.elim (fun g => g h1) fun g => g h2), fun _ _ _ => rfl⟩
  · have hu : u = if (x.eth n).pcs && ethMode v ≠ 0 && !(ethAuto v && ethMode v ≤ 4) then x.setEthLink n (linkCode (ethMode v) (x.eth n).speed) else x :=
      if_neg (by simpa using hm)
    rw [hu]
    have hx := State.setEthLink_eth hn' 0
    refine ⟨fun h1 h2 => absurd ⟨h1, h2⟩ hm, fun _ h1 h2 => ?_, fun k _ hk => ?_⟩
    · have hp : (x.eth n).pcs = (a.eth n).pcs := by
        rw [show x.eth n = _ from hx, EthPort.linked_kept EthPort.pcs (fun _ _ _ => rfl) (fun _ _ => rfl)]
      rw [if_neg (by
        rw [hp]
        rcases h1 with h1 | h1
        · simp [show ethAuto v = true from h1, show ethMode v ≤ 4 from h2]
        · simp [h1]), show x.eth n = _ from hx]
      exact EthPort.linked_link ..
    · split
      · exact (State.setEthLink_eth_ne hk _).trans (State.setEthLink_eth_ne hk _)
      · exact State.setEthLink_eth_ne hk _

/-! ### The commands -/

section
variable (s : State) (t n : Nat) {a : State} (ha : s.advance t = a)
include ha

theorem ethFrameReceived_forwards (groups f : Bytes) : a.net.ports.length = 4 → a.up .network = true → a.ethOn n = true → a.accepted n groups = some f →
    (∀ m, ptpOf f = some m → a.terminates n m = false) →
    Yields (exec (.ethFrameReceived t n groups) s) fun v =>
      v.net.macs = (a.learn (ethSrc f) n).net.macs ∧ (v.eth n).rx = wrap 64 ((a.eth n).rx + 1) ∧ (v.eth n).drop = (a.eth n).drop
      ∧ (∀ k < 4, (v.eth k).queues = if k ∈ (a.learn (ethSrc f) n).routes n (ethDst f) then
          modNth (a.eth k).queues (a.classOf n f) (· ++ [⟨f, n, a.rxStamp n, .plain⟩]) else (a.eth k).queues) := by
  intro hl hu ho hacc ht
  obtain ⟨h1, h2, h3, h4⟩ := State.frameIn_forwards hl (State.ethOn_lt ho) f hu ho hacc ht
  refine .next ?_
  have hnet := State.run_net s t fun s => s.frameIn n groups
  rw [ha] at hnet
  rw [hnet, State.eth_of_net hnet]
  exact ⟨h1, h2, h3, fun k hk => (congrArg EthPort.queues (State.eth_of_net hnet k)).trans (h4 k hk)⟩

theorem ethFrameReceived_drops (groups : Bytes) {bad : Bool} (hb : bad = (wholeFrame (everyNth (a.groupsPerByte n) 0 groups)).isNone) :
    a.net.ports.length = 4 → a.up .network = true → a.ethOn n = true → a.accepted n groups = none →
    Yields (exec (.ethFrameReceived t n groups) s) fun v =>
      v.eth n = { a.eth n with drop := wrap 64 ((a.eth n).drop + 1), err := if bad then wrap 64 ((a.eth n).err + 1) else (a.eth n).err }
      ∧ (∀ k < 4, k ≠ n → v.eth k = a.eth k) ∧ v.net.macs = a.net.macs ∧ Only (told ++ [Part.net]) a v := by
  intro hl hu ho hacc
  have e : a.frameIn n groups = a.setEth n fun p =>
      { p with drop := wrap 64 (p.drop + 1), err := if bad then wrap 64 (p.err + 1) else p.err } := by
    unfold State.frameIn
    rw [if_neg (by simp [hu, ho]), hacc, hb]
  refine .next ?_
  have hnet := State.run_net s t fun s => s.frameIn n groups
  rw [ha, e] at hnet
  refine ⟨?_, fun k _ hk => ?_, ?_, ?_⟩
  · rw [State.eth_of_net hnet]
    exact State.eth_setEth (hl.symm ▸ State.ethOn_lt ho) _
  · rw [State.eth_of_net hnet]
    exact State.eth_setEth_ne hk _
  · rw [hnet]
    rfl
  · subst ha
    refine Only.run (by decide) ?_
    rw [e]
    exact (Only.refl _ _).step fun p hp => State.setEth_same (Part.ne_of_notMem hp (by decide)) ..

theorem ethFrameSent_plain (c : Nat) (e : EgFrame) {k : Nat} (hk : k = a.groupsPerByte n) :
    a.net.ports.length = 4 → a.up .network = true → a.ethOn n = true → nextFrame (a.eth n).queues = some (c, e) → ptpOf e.frame = none →
    Yields (exec (.ethFrameSent t n) s) fun v =>
      Out.eth n (spread k (onWire e.frame)) (k * idleGroups) ∈ v.out
      ∧ v.eth n = { a.eth n with queues := modNth (a.eth n).queues c (·.drop 1), tx := wrap 64 ((a.eth n).tx + 1) }
      ∧ (∀ k < 4, k ≠ n → v.eth k = a.eth k) ∧ Only (told ++ [Part.net]) a v := by
  intro hl hu ho hq hm
  have hn : n < a.net.ports.length := hl.symm ▸ State.ethOn_lt ho
  have hg : (a.setEth n fun p => p.popped c).groupsPerByte n = k := by
    rw [hk]
    unfold State.groupsPerByte
    rw [State.eth_setEth hn]
    rfl
  have e' := State.frameOut_plain hu ho hq hm
  have hnet := State.run_net s t fun s => s.frameOut n
  rw [ha, e', State.ethOut_net] at hnet
  refine .next ⟨State.run_sends ?_, ?_, fun k _ hk => ?_, ?_⟩
  · rw [ha, e', State.ethOut, hg]
    exact List.mem_cons_self ..
  · rw [State.eth_of_net hnet]
    exact State.eth_setEth hn _
  · rw [State.eth_of_net hnet]
    exact State.eth_setEth_ne hk _
  · rw [← ha]
    exact Only.run (by decide) ((Only.refl _ _).step fun p hp => State.frameOut_same (Part.ne_of_notMem hp (by decide)) (Part.ne_of_notMem hp (by decide)) ..)

theorem ethFrameSent_corrects (c : Nat) (e : EgFrame) (m : PtpMsg) {r : Int} {k : Nat}
    (hr : r = a.txStamp n - e.rx + if a.role n = 3 ∧ m.mtype = 0 then (a.eth e.ingress).peerDelay + ptpAsym (a.ptpVal e.ingress) else 0)
    (hk : k = a.groupsPerByte n) :
    a.net.ports.length = 4 → a.up .network = true → a.ethOn n = true → nextFrame (a.eth n).queues = some (c, e) → ptpOf e.frame = some m →
    e.ingress < 4 → a.role e.ingress = a.role n → (a.role n = 2 ∨ a.role n = 3) → isEvent m = true → ¬(m.mtype = 0 ∧ m.twoStep = true) →
    m.transport = 0 →
    Yields (exec (.ethFrameSent t n) s) fun v =>
      Out.eth n (spread k (onWire (frameWith e.frame { m with correction := addCorrection m.correction r }))) (k * idleGroups) ∈ v.out
      ∧ (v.eth n).queues = modNth (a.eth n).queues c (·.drop 1) ∧ v.net.held = a.net.held := by
  intro hl hu ho hq hm hi hrole hn23 hev h2 h0
  have hn : n < a.net.ports.length := hl.symm ▸ State.ethOn_lt ho
  let x := a.setEth n fun p => p.popped c
  have hxn : x.eth n = (a.eth n).popped c := State.eth_setEth hn _
  have hxi : (x.eth e.ingress).peerDelay = (a.eth e.ingress).peerDelay := by
    by_cases h : e.ingress = n
    · rw [h, hxn]
      rfl
    · rw [show x.eth e.ingress = _ from State.eth_setEth_ne h _]
  have hg : x.groupsPerByte n = k := by
    rw [hk]
    unfold State.groupsPerByte
    rw [hxn]
    rfl
  have hs : x.txStamp n = a.txStamp n := by
    unfold State.txStamp
    rw [hxn]
    rfl
  have e' := State.frameOut_ptp hu ho hq hm hi
  rw [State.residence_corrects hi (s := x) hrole hn23 hev h2 h0, hs, hxi] at e'
  have e' : a.frameOut n = x.ethOut n (frameWith e.frame { m with correction := addCorrection m.correction r }) := hr ▸ e'
  have hnet := State.run_net s t fun s => s.frameOut n
  rw [ha, e', State.ethOut_net] at hnet
  refine .next ⟨State.run_sends ?_, ?_, ?_⟩
  · rw [ha, e', State.ethOut, hg]
    exact List.mem_cons_self ..
  · rw [State.eth_of_net hnet, hxn]
    rfl
  · rw [hnet]
    rfl

theorem ethAddressAgeing_filters (mac : Nat) : Yields (exec (.ethAddressAgeing t mac) s) fun v =>
    v.net = { a.net with macs := a.net.macs.filter fun x => x.mac ≠ mac || a.now < x.at_ + a.cfg 0x2406 0 * sec } ∧ Only (told ++ [Part.net]) a v := by
  refine .next ⟨?_, ?_⟩
  · rw [State.run_net, ha]
    rfl
  · rw [← ha]
    exact Only.run (by decide) ((Only.refl _ _).step fun p hp => State.ageOut_same (Part.ne_of_notMem hp (by decide)) ..)

theorem ethPortConfig_applies (w : Caller) (v : Bytes) {old new : Nat} (hold : old = a.ethVal n) (hnew : new = leNat v) :
    n < 4 → a.net.ports.length = 4 → a.writes w 0x2400 (n + 1) v = true → a.ethConfigCheck n v = none →
    Yields (exec (.ethPortConfig t w n v) s) fun u =>
      u.val (key 0x2400 (n + 1)) = v
      ∧ (ethMode old = ethMode new → ethAuto old = ethAuto new → u.net = a.net)
      ∧ (ethMode old ≠ ethMode new ∨ ethAuto old ≠ ethAuto new → ethAuto new = true ∨ (a.eth n).pcs = false → ethMode new ≤ 4 → (u.eth n).link = 0)
      ∧ (∀ k < 4, k ≠ n → u.eth k = a.eth k) := by
  intro hn hl hw hc
  subst ha
  obtain ⟨d, -, h1, -⟩ := State.run_stored hw (by omega) fun r => ethConfig_kind
  generalize s.advance t = a at *
  let x := (a.withDict d).setVal (key 0x2400 (n + 1)) v
  have e : ((a.withDict d).applyWrite 0x2400 (n + 1) v).1 = x.ethConfigured n (a.val (key 0x2400 (n + 1))) := by
    have hb : (a.withDict d).blockCheck 0x2400 (n + 1) v = none := (State.blockCheck_dict ..).trans hc
    unfold State.applyWrite
    rw [hb]
    rfl
  have hx : x.ethVal n = new := by
    rw [hnew]
    exact congrArg leNat (State.val_setVal ..)
  obtain ⟨h2, h3, h4⟩ := State.ethConfigured_spec (a := x) hl hn (a.val (key 0x2400 (n + 1)))
  rw [e] at h1
  rw [hx, show leNat (a.val (key 0x2400 (n + 1))) = old from hold.symm] at h2 h3
  have hnet := h1 .net (by decide)
  have hset : Part.settings.same x (x.ethConfigured n (a.val (key 0x2400 (n + 1)))) := (State.ethConfigured_same (by decide) (by decide) (by decide) x x n (a.val (key 0x2400 (n + 1)))).mpr rfl
  have hfab : Part.fabric.same x (x.ethConfigured n (a.val (key 0x2400 (n + 1)))) := (State.ethConfigured_same (by decide) (by decide) (by decide) x x n (a.val (key 0x2400 (n + 1)))).mpr rfl
  refine .next ⟨?_, fun m1 m2 => hnet.trans (h2 m1 m2), fun m1 m2 m3 => ?_, fun k hk hkn => ?_⟩
  · refine (State.val_congr ((h1 .settings (by decide) : _ = _).trans hset) ((h1 .fabric (by decide) : _ = _).trans hfab) _).trans ?_
    exact State.val_setVal ..
  · exact (congrArg EthPort.link (State.eth_of_net hnet n)).trans (h3 m1 m2 m3)
  · exact (State.eth_of_net hnet k).trans (h4 k hk hkn)

theorem sgmiiControlWord_takes (w : Nat) {v : Nat} (hv : v = a.ethVal n) :
    a.net.ports.length = 4 → a.up .network = true → a.hasEth n = true → ethAuto v = true → 1 ≤ ethMode v → ethMode v ≤ 4 →
    bit w 0 = true → bits w 10 2 ≠ 3 →
    Yields (exec (.sgmiiControlWord t n w) s) fun u =>
      Out.sgmii n 0x4001 ∈ u.out ∧ (u.eth n).link = (if bit w 15 && bit w 12 then linkCode (ethMode v) (bits w 10 2 + 1) else 0)
      ∧ (u.eth n).speed = bits w 10 2 + 1 ∧ (u.eth n).err = (if bit w 12 then (a.eth n).err else wrap 64 ((a.eth n).err + 1))
      ∧ (∀ k < 4, k ≠ n → u.eth k = a.eth k) := by
  subst hv
  intro hl hu hh h1 h2 h3 h4 h5
  obtain ⟨g1, g2, g3, g4, g5⟩ := State.controlWord_takes hl hu hh h1 h2 h3 h4 h5
  have hnet := State.run_net s t fun s => s.controlWord n w
  rw [ha] at hnet
  refine .next ⟨State.run_sends (ha ▸ g1), ?_, ?_, ?_, fun k hk hkn => (State.eth_of_net hnet k).trans (g5 k hk hkn)⟩
  all_goals rw [State.eth_of_net hnet]
  exacts [g2, g3, g4]

theorem pcsSyncChange_moves (synced : Bool) {v : Nat} (hv : v = a.ethVal n) :
    a.net.ports.length = 4 → a.up .network = true → a.hasEth n = true → ethMode v ≠ 0 → (ethAuto v = false ∨ 4 < ethMode v) →
    Yields (exec (.pcsSyncChange t n synced) s) fun u =>
      (u.eth n).pcs = synced ∧ (u.eth n).link = (if synced then linkCode (ethMode v) (a.eth n).speed else 0)
      ∧ (synced = false → (a.eth n).link ≠ 0 → (u.eth n).foreign = [] ∧ (u.eth n).parent = none ∧ (u.eth n).ptp = (if a.role n = 1 then 1 else 0)) := by
  subst hv
  intro hl hu hh h1 h2
  refine .next ?_
  have hnet := State.run_net s t fun s => s.pcsSync n synced
  rw [ha] at hnet
  rw [State.eth_of_net hnet]
  exact State.pcsSync_moves hl hu hh synced h1 h2

end

/-- Settles O34: each clause by what its operation of chapter 14 does to the ports. -/
theorem ethernetFrames : Obligations.EthernetFrames :=
  ⟨fun s t n groups f => ethFrameReceived_forwards s t n rfl groups f, fun s t n groups => ethFrameReceived_drops s t n rfl groups rfl,
    fun s t n c e => ethFrameSent_plain s t n rfl c e rfl, fun s t n c e m => ethFrameSent_corrects s t n rfl c e m rfl rfl,
    fun s t => ethAddressAgeing_filters s t rfl, fun s t n w v => ethPortConfig_applies s t n rfl w v rfl rfl,
    fun s t n w => sgmiiControlWord_takes s t n rfl w rfl, fun s t n synced => pcsSyncChange_moves s t n rfl synced rfl⟩

end Sys2Proof.Machine
end

section
set_option Elab.async false
/-!
PROOF. O35: PTP messages sent, received and timed out.
-/

namespace Sys2Proof.Machine

/-! ### The port's state -/

/-- A port that offers an offset. -/
def EthPort.offered (p : EthPort) (leg : Int) (now : Nat) : EthPort := { p with leg := some leg, ptp := 9, syncAt := some now, twoStep := none }

theorem State.offerPtp_net (s : State) (n : Nat) (leg : Int) :
    (s.offerPtp n leg).net = { (s.setEth n fun p => p.offered leg s.now).net with offset := leg - s.pathDelay n } := by
  unfold State.offerPtp
  exact State.offset_net ..

/-- A port that enters a state. -/
def EthPort.entered (p : EthPort) (st : Nat) (parent : Option PtpMsg) (now : Nat) : EthPort :=
  if p.ptp = st ∧ p.parent.map PtpMsg.source = parent.map PtpMsg.source then { p with parent := parent }
  else { p with ptp := st, since := now, parent := parent, twoStep := none, leg := none }

theorem State.setPtp_eth {s : State} {n : Nat} (h : n < s.net.ports.length) (st : Nat) (parent : Option PtpMsg) :
    (s.setPtp n st parent).eth n = (s.eth n).entered st parent s.now := by
  unfold State.setPtp
  extract_lets p same now x
  refine (State.eth_of_net (State.ite_net (State.sourceGone_net x 2)) n).trans ((State.eth_setEth h _).trans ?_)
  unfold EthPort.entered
  by_cases hs : (s.eth n).ptp = st ∧ (s.eth n).parent.map PtpMsg.source = parent.map PtpMsg.source
  · rw [if_pos hs, if_pos (show same = true by simpa [same, p] using hs)]
  · rw [if_neg hs, if_neg (show ¬ same = true by simpa [same, p] using hs)]

theorem EthPort.entered_ptp (p : EthPort) (st : Nat) (parent : Option PtpMsg) (now : Nat) : (p.entered st parent now).ptp = st := by
  unfold EthPort.entered
  split
  · next h => exact h.1
  · rfl

theorem EthPort.entered_parent (p : EthPort) (st : Nat) (parent : Option PtpMsg) (now : Nat) : (p.entered st parent now).parent = parent := by
  unfold EthPort.entered
  split <;> rfl

theorem EthPort.entered_foreign (p : EthPort) (st : Nat) (parent : Option PtpMsg) (now : Nat) : (p.entered st parent now).foreign = p.foreign := by
  unfold EthPort.entered
  split <;> rfl

/-! ### Syncs -/

section
variable {a : State} {n : Nat} {m : PtpMsg} (hr : a.ptpRuns n = true) (hp : (a.eth n).ptp = 8 ∨ (a.eth n).ptp = 9) (hd : m.domain = a.ptpDomain)
  (hs : (a.eth n).parent.map PtpMsg.source = some m.source)
include hr hp hd hs

theorem State.syncIn_heard : a.syncIn n m = if m.mtype = 0 then
      if m.twoStep then a.setEth n fun p => { p with twoStep := some (m.seqId, a.rxStamp n, m.correction) }
      else a.offerPtp n (a.rxStamp n - m.stamp * 65536 - m.correction)
    else if m.mtype = 8 then
      match (a.eth n).twoStep with
      | some (q, t2, c) => if q = m.seqId then a.offerPtp n (t2 - m.stamp * 65536 - c - m.correction) else a
      | none => a
    else a := by
  unfold State.syncIn
  refine if_neg ?_
  simp only [Bool.or_eq_true, Bool.and_eq_true, Bool.not_eq_true', decide_eq_true_eq, hr, hd, hs]
  simp
  omega

end

/-! ### Announces -/

theorem State.announceIn_heard {a : State} {n : Nat} {m : PtpMsg} (hr : a.ptpRuns n = true) (ht : m.mtype = 11) (hd : m.domain = a.ptpDomain)
    (hc : m.source / 65536 ≠ a.clockId) : a.announceIn n m = State.decidePorts (a.setEth n fun p =>
      { p with foreign := (p.foreign.filter fun x => x.msg.source ≠ m.source).take 15 ++ [match p.foreign.find? fun f => f.msg.source = m.source with
        | some f => { msg := m, times := (a.now :: f.times).take 4 }
        | none => { msg := m, times := [a.now] }] }) := by
  unfold State.announceIn
  exact if_neg (by simp [hr, ht, hd, hc])

/-- What no update of a port's record moves stands in every port. -/
theorem State.setEth_kept {α : Type} (g : EthPort → α) {f : EthPort → EthPort} (hf : ∀ p, g (f p) = g p) (s : State) (k n : Nat) :
    g ((s.setEth k f).eth n) = g (s.eth n) := by
  have hmap : ∀ (l : List EthPort) (k : Nat), (modNth l k f).map g = l.map g := by
    intro l
    induction l with
    | nil => exact fun _ => rfl
    | cons a l ih =>
      intro k
      cases k with
      | zero => exact congrArg (· :: _) (hf a)
      | succ k => exact congrArg (_ :: ·) (ih k)
  have hget (l : List EthPort) : g (l.getD n (EthPort.reset 0 0)) = (l.map g).getD n (g (EthPort.reset 0 0)) := by
    rw [List.getD_eq_getElem?_getD, List.getD_eq_getElem?_getD, List.getElem?_map]
    cases l[n]? <;> rfl
  show g ((modNth s.net.ports k f).getD n _) = g (s.net.ports.getD n _)
  rw [hget, hget, hmap]

theorem State.setPtp_foreign (s : State) (k st : Nat) (parent : Option PtpMsg) (n : Nat) : ((s.setPtp k st parent).eth n).foreign = (s.eth n).foreign := by
  unfold State.setPtp
  extract_lets p same now x
  refine (congrArg EthPort.foreign (State.eth_of_net (State.ite_net (State.sourceGone_net x 2)) n)).trans (State.setEth_kept EthPort.foreign (fun p => ?_) s k n)
  split <;> rfl

theorem State.decidePort_foreign (s : State) (k n : Nat) : ((s.decidePort k).eth n).foreign = (s.eth n).foreign := by
  unfold State.decidePort
  extract_lets slaveOnly own best er st master slave
  have hm (w : Nat) : ((master w).eth n).foreign = (s.eth n).foreign := by
    unfold master
    repeat' split
    · exact State.setPtp_foreign ..
    · rfl
    · exact State.setPtp_foreign ..
    · rfl
    · exact (State.setEth_kept EthPort.foreign (fun p => rfl) (s.setPtp k 5 none) k n (f := fun p => { p with until_ := s.now + w })).trans
        (State.setPtp_foreign ..)
  have hs (m : PtpMsg) : ((slave m).eth n).foreign = (s.eth n).foreign := by
    unfold slave
    repeat' split
    all_goals exact State.setPtp_foreign ..
  have hp (st : Nat) (p : Option PtpMsg) : ((s.setPtp k st p).eth n).foreign = (s.eth n).foreign := State.setPtp_foreign ..
  clear_value master slave best er st own
  repeat' split
  all_goals first | rfl | exact hm _ | exact hs _ | exact hp _ _

theorem State.decidePorts_foreign (s : State) (n : Nat) : (s.decidePorts.eth n).foreign = (s.eth n).foreign := by
  unfold State.decidePorts
  generalize s.clockPorts = l
  induction l generalizing s with
  | nil => rfl
  | cons k l ih => exact (ih _).trans (State.decidePort_foreign s k n)

/-! ### The commands -/

section
variable (s : State) (t n : Nat) (m : PtpMsg) {a : State} (ha : s.advance t = a) (hl : a.net.ports.length = 4)

/-- The port that offers an offset, and the offset. -/
theorem State.offerPtp_run {n : Nat} (hn : n < 4) (hl : a.net.ports.length = 4) {body : State → State} {leg : Int} (e : body a = a.offerPtp n leg) (ha : s.advance t = a) :
    (s.run t body).net.offset = leg - a.pathDelay n ∧ (s.run t body).eth n = (a.eth n).offered leg a.now := by
  have hnet := State.run_net s t body
  rw [ha, e, State.offerPtp_net] at hnet
  refine ⟨congrArg Net.offset hnet, ?_⟩
  exact (congrArg (fun x : Net => x.ports.getD n (EthPort.reset 0 0)) hnet).trans (State.eth_setEth (s := a) (hl.symm ▸ hn) fun p => p.offered leg a.now)

/-- What a run yields that updates one port alone. -/
theorem State.run_setEth {n : Nat} (hn : n < 4) (hl : a.net.ports.length = 4) {body : State → State} {f : EthPort → EthPort} (e : body a = a.setEth n f)
    (ha : s.advance t = a) : (s.run t body).eth n = f (a.eth n) ∧ Only (told ++ [Part.net]) a (s.run t body) := by
  refine ⟨?_, ?_⟩
  · rw [State.run_eth, ha, e]
    exact State.eth_setEth (hl.symm ▸ hn) _
  · subst ha
    refine Only.run (by decide) ?_
    rw [e]
    exact (Only.refl _ _).step fun p hp => State.setEth_same (Part.ne_of_notMem hp (by decide)) ..

theorem State.setEth_setEth (s : State) (n : Nat) (f g : EthPort → EthPort) : (s.setEth n f).setEth n g = s.setEth n fun p => g (f p) := by
  have h : ∀ (l : List EthPort) (n : Nat), modNth (modNth l n f) n g = modNth l n fun p => g (f p) := by
    intro l
    induction l with
    | nil => exact fun _ => rfl
    | cons a l ih =>
      intro n
      cases n with
      | zero => rfl
      | succ n => exact congrArg (a :: ·) (ih n)
  unfold State.setEth
  rw [h]

section
variable {p : EthPort} (hpe : p = a.eth n)
include ha hl hpe

theorem ptpSyncReceived_oneStep : a.ptpRuns n = true → (p.ptp = 8 ∨ p.ptp = 9) → m.domain = a.ptpDomain → p.parent.map PtpMsg.source = some m.source →
    m.mtype = 0 → m.twoStep = false →
    Yields (exec (.ptpSyncReceived t n m) s) fun v =>
      v.net.offset = a.rxStamp n - m.stamp * 65536 - m.correction - a.pathDelay n ∧ (v.eth n).ptp = 9 ∧ (v.eth n).syncAt = some a.now := by
  subst hpe
  intro hr hp hd hs ht h2
  obtain ⟨h3, h4⟩ := State.offerPtp_run s t (State.ptpRuns_lt hr) hl (body := fun s => s.syncIn n m)
    ((State.syncIn_heard hr hp hd hs).trans ((if_pos ht).trans (if_neg (by rw [h2]; decide)))) ha
  exact .next ⟨h3, congrArg EthPort.ptp h4, congrArg EthPort.syncAt h4⟩

theorem ptpSyncReceived_twoStep : a.ptpRuns n = true → (p.ptp = 8 ∨ p.ptp = 9) → m.domain = a.ptpDomain → p.parent.map PtpMsg.source = some m.source →
    m.mtype = 0 → m.twoStep = true →
    Yields (exec (.ptpSyncReceived t n m) s) fun v =>
      v.eth n = { p with twoStep := some (m.seqId, a.rxStamp n, m.correction) } ∧ Only (told ++ [Part.net]) a v := by
  subst hpe
  intro hr hp hd hs ht h2
  have e := (State.syncIn_heard hr hp hd hs).trans ((if_pos ht).trans (if_pos h2))
  obtain ⟨h1, h2⟩ := State.run_setEth s t (State.ptpRuns_lt hr) hl (body := fun s => s.syncIn n m) e ha
  exact .next ⟨h1, h2⟩

theorem ptpSyncReceived_followUp (t2 c : Int) : a.ptpRuns n = true → (p.ptp = 8 ∨ p.ptp = 9) → m.domain = a.ptpDomain →
    p.parent.map PtpMsg.source = some m.source → m.mtype = 8 → p.twoStep = some (m.seqId, t2, c) →
    Yields (exec (.ptpSyncReceived t n m) s) fun v =>
      v.net.offset = t2 - m.stamp * 65536 - c - m.correction - a.pathDelay n ∧ (v.eth n).ptp = 9 ∧ (v.eth n).twoStep = none := by
  subst hpe
  intro hr hp hd hs ht h2
  obtain ⟨h3, h4⟩ := State.offerPtp_run s t (leg := t2 - m.stamp * 65536 - c - m.correction) (State.ptpRuns_lt hr) hl (body := fun s => s.syncIn n m) (by
    rw [State.syncIn_heard hr hp hd hs, if_neg (by omega), if_pos ht, h2]
    exact if_pos rfl) ha
  exact .next ⟨h3, congrArg EthPort.ptp h4, congrArg EthPort.twoStep h4⟩

theorem ptpAnnounceReceived_first : a.ptpRuns n = true → m.mtype = 11 → m.domain = a.ptpDomain → m.source / 65536 ≠ a.clockId → p.foreign = [] →
    Yields (exec (.ptpAnnounceReceived t n m) s) fun v => (v.eth n).foreign = [⟨m, [a.now]⟩] := by
  subst hpe
  intro hr ht hd hc hf
  refine .next ?_
  rw [State.run_eth, ha, State.announceIn_heard hr ht hd hc, State.decidePorts_foreign, State.eth_setEth (hl.symm ▸ State.ptpRuns_lt hr), hf]
  rfl

end

/-- A port with one master heard twice, on which alone the instance decides. -/
theorem State.decidePorts_follows {x : State} {f : Foreign} (hcl : x.clockPorts = [n]) (hf : (x.eth n).foreign = [f])
    (hq : f.qualified (logInterval (ptpLogAnnounce (x.ptpVal n))) x.now = true) (hst : (x.eth n).ptp = 4) (hc : 128 ≤ (x.ownAnnounce n).clockClass)
    (hd : 0 ≤ dsCmp (x.ownAnnounce n) f.msg (x.portId n) (x.portId n)) : x.decidePorts = x.setPtp n 8 (some f.msg) := by
  have her : x.erbest n = some f.msg := by
    unfold State.erbest
    rw [hf]
    simp [hq]
  have heb : x.ebest = some (n, f.msg) := by
    unfold State.ebest
    rw [hcl]
    simp [her]
  unfold State.decidePorts
  rw [hcl]
  show x.decidePort n = _
  unfold State.decidePort
  rw [her, heb, hst]
  dsimp only
  rw [if_neg (by omega), if_neg (by omega), if_pos rfl]
  rfl

include ha hl

theorem ptpAnnounceReceived_follows (t1 : Nat) (m0 : PtpMsg) {p : EthPort} (hpe : p = a.eth n) :
    a.clockPorts = [n] → a.ptpRuns n = true → m.mtype = 11 → m.domain = a.ptpDomain → m.source / 65536 ≠ a.clockId →
    p.ptp = 4 → p.foreign = [⟨m0, [t1]⟩] → m0.source = m.source → a.now ≤ t1 + 4 * logInterval (ptpLogAnnounce (a.ptpVal n)) → m.steps < 255 →
    128 ≤ (a.ownAnnounce n).clockClass → 0 ≤ dsCmp (a.ownAnnounce n) m (a.portId n) (a.portId n) →
    Yields (exec (.ptpAnnounceReceived t n m) s) fun v =>
      (v.eth n).ptp = 8 ∧ (v.eth n).parent = some m ∧ (v.eth n).foreign = [⟨m, [a.now, t1]⟩] := by
  subst hpe
  intro hcl hr ht hd hc h4 hf h0 hnow hst hcc hds
  have hn : n < a.net.ports.length := hl.symm ▸ State.ptpRuns_lt hr
  let f : EthPort → EthPort := fun p =>
      { p with foreign := (p.foreign.filter fun x => x.msg.source ≠ m.source).take 15 ++ [match p.foreign.find? fun f => f.msg.source = m.source with
        | some f => { msg := m, times := (a.now :: f.times).take 4 }
        | none => { msg := m, times := [a.now] }] }
  have e : a.announceIn n m = (a.setEth n f).decidePorts := State.announceIn_heard hr ht hd hc
  have hx : (a.setEth n f).eth n = { a.eth n with foreign := [⟨m, [a.now, t1]⟩] } := by
    rw [State.eth_setEth hn]
    simp [f, hf, h0]
  have hon (k : Nat) : (a.setEth n f).ethOn k = a.ethOn k := by
    have := State.setEth_kept EthPort.link (f := f) (fun _ => rfl) a n k
    unfold State.ethOn
    rw [this]
    rfl
  have hcl' : (a.setEth n f).clockPorts = [n] := by
    rw [← hcl]
    unfold State.clockPorts
    exact List.filter_congr fun k _ => by rw [hon]; rfl
  have hown : (a.setEth n f).ownAnnounce n = a.ownAnnounce n := by
    unfold State.ownAnnounce
    rw [hx]
    rfl
  have hq : Foreign.qualified ⟨m, [a.now, t1]⟩ (logInterval (ptpLogAnnounce ((a.setEth n f).ptpVal n))) (a.setEth n f).now = true := by
    unfold Foreign.qualified
    rw [show (a.setEth n f).ptpVal = a.ptpVal from rfl, show (a.setEth n f).now = a.now from rfl]
    simp [hst, hnow]
  have hdec := State.decidePorts_follows n hcl' (congrArg EthPort.foreign hx) hq ((congrArg EthPort.ptp hx).trans h4) (hown.symm ▸ hcc) (hown.symm ▸ hds)
  refine .next ?_
  rw [State.run_eth, ha, e, hdec, State.setPtp_eth ((State.setEth_length ..).symm ▸ hn), EthPort.entered_ptp, EthPort.entered_parent, EthPort.entered_foreign, hx]
  exact ⟨rfl, rfl, rfl⟩

theorem ptpAnnounceTimeout_resets {p : EthPort} (hpe : p = a.eth n) {v : Nat} (hv : v = a.ptpVal n) :
    a.ptpRuns n = true → p.ptp ≠ 6 → p.ptp ≠ 5 → p.heard + ptpTimeout v * logInterval (ptpLogAnnounce v) ≤ a.now →
    Yields (exec (.ptpAnnounceTimeout t n) s) fun u =>
      (u.eth n).ptp = (if a.cfg 0x2456 0 = 1 then 4 else 6) ∧ (u.eth n).foreign = [] ∧ (u.eth n).parent = none := by
  subst hpe hv
  intro hr h6 h5 ht
  have hn : n < a.net.ports.length := hl.symm ▸ State.ptpRuns_lt hr
  let x := a.setEth n fun p => { p with foreign := [] }
  have e : a.announceTimeout n = x.setPtp n (if a.cfg 0x2456 0 = 1 then 4 else 6) none := by
    unfold State.announceTimeout
    exact if_neg (by simp [hr, h6, h5, ht])
  refine .next ?_
  rw [State.run_eth, ha, e, State.setPtp_eth ((State.setEth_length ..).symm ▸ hn), EthPort.entered_ptp, EthPort.entered_parent, EthPort.entered_foreign,
    State.eth_setEth hn]
  exact ⟨rfl, rfl, rfl⟩

theorem ptpAnnounceSend_sends {f : Bytes} (hf : f = a.ptpFrameOf n (a.ownAnnounce n)) : a.ptpRuns n = true → (a.eth n).ptp = 6 → a.ebest = none →
    Yields (exec (.ptpAnnounceSend t n) s) fun v =>
      v.eth n = { a.eth n with queues := modNth (a.eth n).queues 0 (· ++ [⟨f, 4, 0, .plain⟩]), seqAnn := ((a.eth n).seqAnn + 1) % 65536 }
      ∧ Only (told ++ [Part.net]) a v := by
  intro hr h6 hb
  have hp : a.preMaster n = a := by
    unfold State.preMaster
    exact if_neg (by simp [h6])
  have e : a.announceOut n = (a.sendPtp n (a.ownAnnounce n) .plain).setEth n fun p => { p with seqAnn := (p.seqAnn + 1) % 65536 } := by
    unfold State.announceOut
    rw [if_neg (by simp [hr])]
    dsimp only
    rw [hp, if_neg (by simp [h6]), hb]
  rw [State.sendPtp_eq a n (show (a.ownAnnounce n).mtype < 16 from (by decide : 11 < 16)), State.setEth_setEth] at e
  rw [hf]
  obtain ⟨h1, h2⟩ := State.run_setEth s t (State.ptpRuns_lt hr) hl (body := fun s => s.announceOut n) e ha
  exact .next ⟨h1, h2⟩

theorem ptpSyncSend_sends {one : Bool} (ho : one = ptpOneStep (a.ptpVal n)) {m : PtpMsg}
    (hm : m = a.ptpMsg n 0 (a.eth n).seqSync (a.time64.fdiv 1000 * 1000) 0 (!one) 0) {f : Bytes} (hf : f = a.ptpFrameOf n m) :
    a.ptpRuns n = true → (a.eth n).ptp = 6 →
    Yields (exec (.ptpSyncSend t n) s) fun v =>
      v.eth n = { a.eth n with queues := modNth (a.eth n).queues 3 (· ++ [⟨f, 4, 0, if one then .syncOne else .syncTwo⟩]),
                               seqSync := ((a.eth n).seqSync + 1) % 65536 } ∧ Only (told ++ [Part.net]) a v := by
  subst ho hm hf
  intro hr h6
  have e : a.syncOut n = (a.sendPtp n (a.ptpMsg n 0 (a.eth n).seqSync (a.time64.fdiv 1000 * 1000) 0 (!ptpOneStep (a.ptpVal n)) 0)
      (if ptpOneStep (a.ptpVal n) then .syncOne else .syncTwo)).setEth n fun p => { p with seqSync := (p.seqSync + 1) % 65536 } := by
    unfold State.syncOut
    exact if_neg (by simp [hr, h6])
  rw [State.sendPtp_eq a n (by dsimp only [State.ptpMsg]; decide), State.setEth_setEth] at e
  obtain ⟨h1, h2⟩ := State.run_setEth s t (State.ptpRuns_lt hr) hl (body := fun s => s.syncOut n) e ha
  exact .next ⟨h1, h2⟩

theorem ptpDelayReqSend_sends {p : EthPort} (hpe : p = a.eth n) {peer : Prop} (hpeer : peer = (a.role n = 3 ∨ (a.role n = 1 ∧ a.p2p = true)))
    [Decidable peer] {m : PtpMsg} (hm : m = a.ptpMsg n (if peer then 2 else 1) p.seqReq 0 0 false 0) {f : Bytes} (hf : f = a.ptpFrameOf n m) :
    a.up .compute = true → a.up .network = true → a.ethOn n = true → peer ∨ (a.role n = 1 ∧ (p.ptp = 8 ∨ p.ptp = 9)) →
    Yields (exec (.ptpDelayReqSend t n) s) fun v =>
      (v.eth n).queues = modNth p.queues 3 (· ++ [⟨f, 4, 0, if peer then .pdelayReq else .delayReq⟩]) ∧ (v.eth n).seqReq = (p.seqReq + 1) % 65536
      ∧ (peer → (v.eth n).peer = ⟨p.seqReq, none, none⟩) ∧ (¬peer → (v.eth n).req = some (p.seqReq, none)) ∧ Only (told ++ [Part.net]) a v := by
  subst hpe hm hf
  intro hc hu ho hor
  have hn := State.ethOn_lt ho
  have hdo : ¬ (!a.up .compute || !a.up .network || !a.ethOn n) = true := by simp [hc, hu, ho]
  by_cases h : peer
  · have e : a.delayReqOut n = (a.sendPtp n (a.ptpMsg n 2 (a.eth n).seqReq 0 0 false 0) .pdelayReq).setEth n fun p =>
        { p with seqReq := ((a.eth n).seqReq + 1) % 65536, peer := { seqId := (a.eth n).seqReq, t1 := none, resp := none } } := by
      unfold State.delayReqOut
      exact (if_neg hdo).trans (if_pos (by rw [hpeer] at h; simpa using h))
    rw [State.sendPtp_eq a n (by dsimp only [State.ptpMsg]; decide), State.setEth_setEth] at e
    obtain ⟨h1, h2⟩ := State.run_setEth s t hn hl (body := fun s => s.delayReqOut n) e ha
    refine .next ?_
    rw [if_pos h, if_pos h, h1]
    exact ⟨rfl, rfl, fun _ => rfl, fun g => absurd h g, h2⟩
  · have hr := hor.resolve_left h
    have e : a.delayReqOut n = (a.sendPtp n (a.ptpMsg n 1 (a.eth n).seqReq 0 0 false 0) .delayReq).setEth n fun p =>
        { p with seqReq := ((a.eth n).seqReq + 1) % 65536, req := some ((a.eth n).seqReq, none) } := by
      unfold State.delayReqOut
      exact (if_neg hdo).trans ((if_neg (by rw [hpeer] at h; simpa using h)).trans (if_pos (by simpa using hr)))
    rw [State.sendPtp_eq a n (by dsimp only [State.ptpMsg]; decide), State.setEth_setEth] at e
    obtain ⟨h1, h2⟩ := State.run_setEth s t hn hl (body := fun s => s.delayReqOut n) e ha
    refine .next ?_
    rw [if_neg h, if_neg h, h1]
    exact ⟨rfl, rfl, fun g => absurd g h, fun _ => rfl, h2⟩

theorem ptpDelayReqReceived_answers {p : EthPort} (hpe : p = a.eth n) {rx : Int} (hrx : rx = a.rxStamp n) {r : PtpMsg}
    (hr : r = a.ptpMsg n 9 m.seqId (rx.fdiv 65536) (m.correction - rx % 65536) false m.source) {f : Bytes} (hf : f = a.ptpFrameOf n r) :
    a.ptpRuns n = true → m.domain = a.ptpDomain → m.mtype = 1 → p.ptp = 6 → a.p2p = false →
    Yields (exec (.ptpDelayReqReceived t n m) s) fun v =>
      v.eth n = { p with queues := modNth p.queues 0 (· ++ [⟨f, 4, 0, .plain⟩]) } ∧ Only (told ++ [Part.net]) a v := by
  subst hpe hrx hr hf
  intro hr hd ht h6 hp
  obtain ⟨hc, hu, hrole, ho⟩ := State.ptpRuns_iff.mp hr
  have e : a.delayReqIn n m = a.sendPtp n (a.ptpMsg n 9 m.seqId ((a.rxStamp n).fdiv 65536) (m.correction - a.rxStamp n % 65536) false m.source) .plain := by
    unfold State.delayReqIn
    exact (if_neg (by simp [hc, hu, ho, hd])).trans ((if_pos ht).trans (if_pos (by simp [hrole, h6, hp])))
  rw [State.sendPtp_eq a n (by dsimp only [State.ptpMsg]; decide)] at e
  obtain ⟨h1, h2⟩ := State.run_setEth s t (State.ptpRuns_lt hr) hl (body := fun s => s.delayReqIn n m) e ha
  exact .next ⟨h1, h2⟩

theorem ptpDelayRespReceived_path {p : EthPort} (hpe : p = a.eth n) (t3 leg : Int) : a.ptpRuns n = true → m.domain = a.ptpDomain → m.requester = a.portId n →
    m.mtype = 9 → p.req = some (m.seqId, some t3) → p.leg = some leg →
    Yields (exec (.ptpDelayRespReceived t n m) s) fun v =>
      v.net.meanPath = roundDiv (leg + (m.stamp * 65536 - t3 - m.correction)) 2 ∧ v.eth n = { p with req := none } ∧ Only (told ++ [Part.net]) a v := by
  subst hpe
  intro hr hd hq ht hreq hleg
  obtain ⟨hc, hu, hrole, ho⟩ := State.ptpRuns_iff.mp hr
  let x := a.setEth n fun p => { p with req := none }
  have e : a.delayRespIn n m = { x with net := { x.net with meanPath := roundDiv (leg + (m.stamp * 65536 - t3 - m.correction)) 2 } } := by
    unfold State.delayRespIn
    rw [if_neg (by simp [hc, hu, ho, hd, hq]), ht, hreq, hleg]
    exact if_pos (by simp [hrole])
  have hnet := State.run_net s t fun s => s.delayRespIn n m
  rw [ha, e] at hnet
  refine .next ⟨congrArg Net.meanPath hnet, ?_, ?_⟩
  · exact (congrArg (fun x : Net => x.ports.getD n (EthPort.reset 0 0)) hnet).trans (State.eth_setEth (s := a) (hl.symm ▸ State.ptpRuns_lt hr) _)
  · rw [← ha]
    exact Only.run (by decide) ((Only.refl _ _).step fun p hp => State.delayRespIn_same (Part.ne_of_notMem hp (by decide)) ..)

theorem ptpDelayRespReceived_peer {p : EthPort} (hpe : p = a.eth n) (t1 : Int) : a.up .compute = true → a.up .network = true → a.ethOn n = true →
    m.domain = a.ptpDomain → m.requester = a.portId n → m.mtype = 3 → m.twoStep = false → p.peer.seqId = m.seqId → p.peer.t1 = some t1 →
    Yields (exec (.ptpDelayRespReceived t n m) s) fun v =>
      v.eth n = { p with peerDelay := roundDiv (a.rxStamp n - t1 - m.correction) 2 } ∧ Only (told ++ [Part.net]) a v := by
  subst hpe
  intro hc hu ho hd hq ht h2 hs h1
  have e : a.delayRespIn n m = a.setEth n fun p => { p with peerDelay := roundDiv (a.rxStamp n - t1 - m.correction) 2 } := by
    unfold State.delayRespIn
    rw [if_neg (by simp [hc, hu, ho, hd, hq]), ht]
    show (if (a.eth n).peer.seqId ≠ m.seqId then _ else _) = _
    rw [if_neg (fun h => h hs), if_neg (by rw [h2]; decide), h1]
  obtain ⟨h1, h2⟩ := State.run_setEth s t (State.ethOn_lt ho) hl (body := fun s => s.delayRespIn n m) e ha
  exact .next ⟨h1, h2⟩

end

/-! ### The silence of a master -/

/-- A source that is gone is neither present nor qualified. -/
theorem State.sourceGone_src {s : State} (hl : s.tb.srcs.length = 4) {c : Nat} (h1 : 1 ≤ c) (h4 : c ≤ 4) :
    ((s.sourceGone c).tb.src c).present = false ∧ ((s.sourceGone c).tb.src c).qualified = false := by
  unfold State.sourceGone
  rw [if_pos (by simp [h1, h4])]
  have h := Timebase.src_reading (State.servo_readings
    { s with tb := s.tb.setSrc c fun x => { TimeSrc.none with last := x.last, lastAt := x.lastAt } }) c
  rw [show (s.tb.setSrc c fun x => { TimeSrc.none with last := x.last, lastAt := x.lastAt }).src c = _ from Timebase.setSrc_src hl h1 h4 _] at h
  exact ⟨congrArg (fun r => r.1) h, congrArg (fun r => r.2.1) h⟩

section
variable (s : State) (t n at_ : Nat) {a : State} (ha : s.advance t = a)
include ha

theorem ptpSyncTimeout_leaves : a.net.ports.length = 4 → a.tb.srcs.length = 4 → (a.eth n).syncAt = some at_ → (a.eth n).ptp = 9 →
    at_ + 3 * logInterval (ptpLogSync (a.ptpVal n)) ≤ a.now → a.up .timebase = true →
    Yields (exec (.ptpSyncTimeout t n) s) fun u => (u.eth n).syncAt = none ∧ (u.tb.src 2).qualified = false ∧ (u.tb.src 2).present = false := by
  intro hl hs hat h9 ht hu
  have e : a.syncTimeout n = (a.setEth n fun p => { p with syncAt := none }).sourceGone 2 := by
    unfold State.syncTimeout
    rw [hat]
    exact if_pos (by simp [h9, ht])
  obtain ⟨h1, h2⟩ := State.sourceGone_src (s := a.setEth n fun p => { p with syncAt := none }) hs (c := 2) (by decide) (by decide)
  refine .next ?_
  rw [State.run_eth, State.run_tb, ha, e, State.eth_of_net (State.sourceGone_net ..)]
  have hn : n < a.net.ports.length := by
    refine Nat.lt_of_not_le fun hge => ?_
    have hr : a.eth n = EthPort.reset 0 0 := List.getD_eq_default _ _ hge
    rw [hr] at h9
    exact absurd h9 (by decide)
  exact ⟨congrArg EthPort.syncAt (State.eth_setEth hn _), h2, h1⟩

end

/-- Settles O35: each clause by what its operation of chapter 14 makes of the port. -/
theorem ptpMessages : Obligations.PtpMessages :=
  ⟨fun s t n m hl => ptpSyncReceived_oneStep s t n m rfl hl rfl, fun s t n m hl => ptpSyncReceived_twoStep s t n m rfl hl rfl,
    fun s t n m t2 c hl => ptpSyncReceived_followUp s t n m rfl hl rfl t2 c,
    fun s t n t1 m m0 hl => ptpAnnounceReceived_follows s t n m rfl hl t1 m0 rfl, fun s t n m hl => ptpAnnounceReceived_first s t n m rfl hl rfl,
    fun s t n hl => ptpAnnounceTimeout_resets s t n rfl hl rfl rfl, fun s t n at_ => ptpSyncTimeout_leaves s t n at_ rfl,
    fun s t n hl => ptpAnnounceSend_sends s t n rfl hl rfl, fun s t n hl => ptpSyncSend_sends s t n rfl hl rfl rfl rfl,
    fun s t n hl => ptpDelayReqSend_sends s t n rfl hl rfl rfl rfl rfl, fun s t n m hl => ptpDelayReqReceived_answers s t n m rfl hl rfl rfl rfl rfl,
    fun s t n m t3 leg hl => ptpDelayRespReceived_path s t n m rfl hl rfl t3 leg, fun s t n m t1 hl => ptpDelayRespReceived_peer s t n m rfl hl rfl t1⟩

end Sys2Proof.Machine
end

section
set_option Elab.async false
/-!
PROOF. O49 fails: where a worn block shrinks the ring, EV_LOG_MIRROR_WORN is offered to the Logbook (R920), and the offer first closes an
open record of 1 s or more (R909), which then joins the mirror's queue (R918).
-/

namespace Sys2Proof.Machine

/-- A record of an error, open in slot 0 since the start, and another that waits for the mirror. -/
def errorRec (count : Nat) : LogRec :=
  { cycle := 0, count := count, ev := { code := 0x1403, sev := 3, island := 0, params := [] }, mirrored := false, satur := false, synth := false,
    rep := 0, damaged := false }

/-- A Logbook without a spare block, with an empty mirror of two blocks, one record that waits for it and one that is open. -/
def wornLog : Logbook :=
  { Logbook.reset [] with slots := [(0, errorRec 2)], openRec := some (0, 0), mirrorQ := [errorRec 1], ring := 2, spares := 0 }

def wornState : State := { State.reset with log := wornLog }

/-- Two seconds later: the islands run, and the Logbook is as it was. -/
theorem wornState_ready : (wornState.advance (2 * sec)).up .aon = true ∧ (wornState.advance (2 * sec)).up .security = true ∧
    (wornState.advance (2 * sec)).log = wornLog := by decide +kernel

/-- The record that was open now waits for the mirror. -/
theorem wornState_waits : (wornState.run (2 * sec) fun s => s.mirrorOp false).log.mirrorQ = [errorRec 2] := by decide +kernel

/-- Refutes O49: a mirror block wears out while a record of severity error is open for more than 1 s. The event of the worn block closes that
record, so that the mirror's queue afterwards holds it and not only the rest of what waited. -/
theorem not_logReading : ¬ Obligations.LogReading := by
  rintro ⟨-, hworn, -⟩
  obtain ⟨haon, hsec, hlog⟩ := wornState_ready
  obtain ⟨w, hw, -, -, hq, -⟩ := hworn wornState (2 * sec) (errorRec 1) [] haon hsec (by rw [hlog]; rfl) (by rw [hlog]; rfl) (by rw [hlog]; decide)
    (by rw [hlog]; rfl)
  cases hw
  exact absurd (hq.symm.trans wornState_waits) (by decide)

end Sys2Proof.Machine
end

section
set_option Elab.async false
/-!
PROOF. O48: events folded, staged, lost, written and closed.
-/

namespace Sys2Proof.Machine

/-! ### The Logbook -/

theorem Logbook.close_none {l : Logbook} (h : l.openRec = none) : l.close = l := by
  unfold Logbook.close
  rw [h]

/-- The close of a record that the mirror's queue has room for. -/
theorem Logbook.close_some {l : Logbook} {slot at_ : Nat} {r : LogRec} (h : l.openRec = some (slot, at_)) (hr : Tbl.get? l.slots slot = some r)
    (hq : l.mirrorQ.length < 256) : l.close = { l with openRec := none, mirrorQ := if 3 ≤ r.ev.sev then l.mirrorQ ++ [r] else l.mirrorQ } := by
  unfold Logbook.close
  rw [h]
  dsimp only
  rw [hr]
  dsimp only
  by_cases h3 : 3 ≤ r.ev.sev
  · rw [if_neg (by omega), if_pos hq, if_pos h3]
  · rw [if_pos (by omega), if_neg h3]

theorem Logbook.expire_young {l : Logbook} {slot at_ now : Nat} (h : l.openRec = some (slot, at_)) (ht : now < at_ + sec) : l.expire now = l := by
  unfold Logbook.expire
  rw [h]
  exact if_neg (Nat.not_le.mpr ht)

theorem Logbook.expire_old {l : Logbook} {slot at_ now : Nat} (h : l.openRec = some (slot, at_)) (ht : at_ + sec ≤ now) : l.expire now = l.close := by
  unfold Logbook.expire
  rw [h]
  exact if_pos ht

theorem Logbook.close_count (l : Logbook) : l.close.count = l.count := by
  unfold Logbook.close
  split
  · rfl
  · dsimp only
    repeat' split
    all_goals rfl

theorem Logbook.expire_count (l : Logbook) (now : Nat) : (l.expire now).count = l.count := by
  unfold Logbook.expire
  repeat' split
  · exact l.close_count
  · rfl
  · rfl

/-- An event that equals the open record's folds into it. -/
theorem Logbook.fold?_open {l : Logbook} {slot at_ : Nat} {r : LogRec} (h : l.openRec = some (slot, at_)) (hr : Tbl.get? l.slots slot = some r)
    (hc : r.ev.code ≠ 0x1402) (hrep : r.rep < 0xFFFFFFFE) : l.fold? r.ev = some { l with slots := Tbl.put l.slots slot { r with rep := r.rep + 1 } } := by
  have h1 : min (r.rep + 1) 0xFFFFFFFF = r.rep + 1 := by omega
  have h2 : decide (r.rep + 1 ≥ 0xFFFFFFFF) = false := decide_eq_false (by omega)
  unfold Logbook.fold?
  rw [h]
  dsimp only
  rw [hr]
  dsimp only
  rw [if_pos (by simp [folds, hc]), h1, h2, Bool.or_false]

theorem Logbook.offer_of_fold {l l' : Logbook} {now : Nat} {e : LogEv} (h : (l.expire now).fold? e = some l') : l.offer now e = l' := by
  unfold Logbook.offer
  dsimp only
  rw [h]

theorem Logbook.offer_staged {l : Logbook} {now : Nat} {e : LogEv} (h : (l.expire now).fold? e = none) (hs : (l.expire now).staging.length < 64) :
    l.offer now e = { l.expire now with staging := (l.expire now).staging ++ [.event e] } := by
  unfold Logbook.offer
  dsimp only
  rw [h]
  exact if_pos hs

theorem Logbook.offer_lost {l : Logbook} {now : Nat} {e : LogEv} (h : (l.expire now).fold? e = none) (hs : 64 ≤ (l.expire now).staging.length) :
    l.offer now e = (l.expire now).lose 0 e.sev := by
  unfold Logbook.offer
  dsimp only
  rw [h]
  exact if_neg (Nat.not_lt.mpr hs)

/-- Whether an event folds rests on the records alone. -/
theorem Logbook.fold?_none {x y : Logbook} {e : LogEv} (ho : x.openRec = y.openRec) (hs : x.slots = y.slots) (h : y.fold? e = none) : x.fold? e = none := by
  unfold Logbook.fold? at h ⊢
  rw [ho, hs]
  split at h
  · rfl
  · split at h
    · rfl
    · split at h
      · exact absurd h (by simp)
      · next hf => exact if_neg hf

theorem Logbook.slotFor_congr {x y : Logbook} (hs : x.slots = y.slots) (hr : x.retired = y.retired) (sev : Nat) : x.slotFor sev = y.slotFor sev := by
  have hf : ∀ (fuel : Nat) (t : Tbl LogRec) (i : Nat), freeFrom x fuel t i = freeFrom y fuel t i := by
    intro fuel
    induction fuel with
    | zero => exact fun _ _ => rfl
    | succ fuel ih =>
      intro t i
      unfold freeFrom
      simp only [ih, hr]
  unfold Logbook.slotFor Logbook.freeSlot
  rw [hf, hs]

/-! ### Offers -/

section
variable {a : State}

theorem State.offerEvent_offered {code sev island : Nat} {params : Bytes} (hl : eventListed code sev island = true) (hp : a.passes island = true)
    (hn : params.length ≤ 40) (hs : a.cfg 0x1408 0 ≤ sev) (hu : a.up .aon = true) :
    a.offerEvent code sev island params = { a with log := a.log.offer a.now ⟨code, sev, island, params⟩ } := by
  unfold State.offerEvent State.offer
  rw [if_pos (by simp [hl, hp, hn]), if_neg (Nat.not_lt.mpr hs), if_pos hu]

theorem State.offerEvent_gasket {code sev island : Nat} {params : Bytes} (hl : eventListed code sev island = true) (hp : a.passes island = true)
    (hn : params.length ≤ 40) (hs : a.cfg 0x1408 0 ≤ sev) (hu : a.up .aon = false) :
    a.offerEvent code sev island params = { a with log := a.log.lose 2 sev } := by
  unfold State.offerEvent State.offer
  rw [if_pos (by simp [hl, hp, hn]), if_neg (Nat.not_lt.mpr hs), if_neg (by simp [hu])]

theorem State.offerEvent_quiet {code sev island : Nat} {params : Bytes} (h : sev < a.cfg 0x1408 0 ∨ eventListed code sev island = false ∨ a.passes island = false) :
    a.offerEvent code sev island params = a := by
  unfold State.offerEvent
  rcases h with h | h | h
  · unfold State.offer
    rw [if_pos h, ite_self]
  · rw [h]
    rfl
  · rw [h, Bool.and_false]
    rfl

end

/-! ### The writer -/

section
variable {l : Logbook} {now : Nat}

/-- What the write of a distinct event makes of the Logbook when no record is open. -/
theorem Logbook.write_slot {e : LogEv} {i : Nat} (hi : l.slotFor e.sev = some i) (ho : l.openRec = none) (synth : Bool) :
    l.write now e synth = { l with
      slots := Tbl.put l.slots i { cycle := l.cycle, count := l.count, ev := e, mirrored := false, satur := false, synth := synth, rep := 0, damaged := false },
      openRec := some (i, now), count := l.count + 1, latest := l.cycle * 2 ^ 48 + l.count } := by
  unfold Logbook.write
  rw [hi]
  dsimp only
  rw [Logbook.close_none ho]
  rfl

theorem Logbook.write_dropped {e : LogEv} (hi : l.slotFor e.sev = none) (synth : Bool) :
    l.write now e synth = { l with dropped := wrap 32 (l.dropped + 1) } := by
  unfold Logbook.write
  rw [hi]

/-- The Logbook with what is left of its staging queue. -/
def Logbook.left (l : Logbook) (rest : List Staged) : Logbook := { l with staging := rest }

theorem Logbook.left_slotFor (l : Logbook) (rest : List Staged) (sev : Nat) : (l.left rest).slotFor sev = l.slotFor sev :=
  Logbook.slotFor_congr (x := l.left rest) (y := l) rfl rfl sev

/-- The Logbook with the losses staged that it still has. -/
def Logbook.restaged (l : Logbook) : Logbook := { l with staging := stageLosses l.staging l.losses }

/-- The writer takes an event that does not fold. -/
theorem Logbook.writeNext_event {e : LogEv} {rest : List Staged} (hs : (l.expire now).staging = .event e :: rest) (hf : (l.expire now).fold? e = none) :
    l.writeNext now = (((l.expire now).left rest).write now e false).restaged := by
  have hf' : ((l.expire now).left rest).fold? e = none := Logbook.fold?_none (y := l.expire now) rfl rfl hf
  unfold Logbook.writeNext
  dsimp only
  rw [hs]
  dsimp only [Logbook.resolve]
  rw [show ({ l.expire now with staging := rest } : Logbook) = (l.expire now).left rest from rfl, hf']
  rfl

/-- The writer takes the report of a place's losses. -/
theorem Logbook.writeNext_losses {w n sev : Nat} (hs : (l.expire now).staging = [.lost w]) (hl : (l.expire now).losses = [⟨w, n, sev⟩])
    (hf : (l.expire now).fold? { code := 0x1401, sev := max 2 sev, island := 0, params := leBytes 4 (min n 0xFFFFFFFF) ++ [byte sev, byte w] } = none) :
    l.writeNext now = (({ (l.expire now).left [] with losses := [] } : Logbook).write now
      { code := 0x1401, sev := max 2 sev, island := 0, params := leBytes 4 (min n 0xFFFFFFFF) ++ [byte sev, byte w] } true).restaged := by
  generalize hz : l.expire now = z at *
  have hf' : ({ z.left [] with losses := [] } : Logbook).fold?
      { code := 0x1401, sev := max 2 sev, island := 0, params := leBytes 4 (min n 0xFFFFFFFF) ++ [byte sev, byte w] } = none := Logbook.fold?_none (y := z) rfl rfl hf
  have hr : (z.left []).resolve (.lost w) = ({ z.left [] with losses := [] }, some
      ({ code := 0x1401, sev := max 2 sev, island := 0, params := leBytes 4 (min n 0xFFFFFFFF) ++ [byte sev, byte w] }, true)) := by
    unfold Logbook.resolve
    rw [show (z.left []).losses = [⟨w, n, sev⟩] from hl]
    simp
  unfold Logbook.writeNext
  dsimp only
  rw [hz, hs]
  dsimp only
  rw [show ({ z with staging := [] } : Logbook) = z.left [] from rfl, hr]
  dsimp only
  rw [hf']
  rfl

end

/-! ### The commands -/

section
variable (s : State) (t : Nat) {a : State} (ha : s.advance t = a)
include ha

/-- What a run yields that moves the Logbook alone. -/
theorem State.run_log_only {body : State → State} {l : Logbook} (e : body a = { a with log := l }) :
    (s.run t body).log = l ∧ Only (told ++ [Part.log]) a (s.run t body) := by
  refine ⟨?_, ?_⟩
  · rw [State.run_log, ha, e]
  · subst ha
    refine Only.run (by decide) ?_
    rw [e]
    exact (Only.refl _ _).step fun p hp => same_log (Part.ne_of_notMem hp (by decide)) ..

theorem State.run_still {body : State → State} (e : body a = a) : Only told a (s.run t body) := by
  subst ha
  refine Only.run (by decide) ?_
  rw [e]
  exact Only.refl _ _

section
variable (code sev island : Nat) (params : Bytes) {e : LogEv} (he : e = { code := code, sev := sev, island := island, params := params })
include he

theorem logEvent_staged : eventListed code sev island = true → a.passes island = true → params.length ≤ 40 → a.cfg 0x1408 0 ≤ sev → a.up .aon = true →
    (a.log.expire a.now).fold? e = none → (a.log.expire a.now).staging.length < 64 →
    Yields (exec (.logEvent t code sev island params) s) fun w =>
      w.log = { a.log.expire a.now with staging := (a.log.expire a.now).staging ++ [.event e] } ∧ Only (told ++ [Part.log]) a w := by
  subst he
  intro hl hp hn hs hu hf hst
  exact .next (State.run_log_only s t ha ((State.offerEvent_offered hl hp hn hs hu).trans (by rw [Logbook.offer_staged hf hst])))

theorem logEvent_lost : eventListed code sev island = true → a.passes island = true → params.length ≤ 40 → a.cfg 0x1408 0 ≤ sev → a.up .aon = true →
    (a.log.expire a.now).fold? e = none → 64 ≤ (a.log.expire a.now).staging.length →
    Yields (exec (.logEvent t code sev island params) s) fun w =>
      w.log.lostAll = (a.log.expire a.now).lostAll + 1 ∧ w.log.staging = (a.log.expire a.now).staging
      ∧ w.log.losses = addLoss (a.log.expire a.now).losses 0 sev ∧ Only (told ++ [Part.log]) a w := by
  subst he
  intro hl hp hn hs hu hf hst
  obtain ⟨h1, h2⟩ := State.run_log_only s t (body := fun s => s.offerEvent code sev island params) ha
    ((State.offerEvent_offered hl hp hn hs hu).trans (by rw [Logbook.offer_lost hf hst]))
  refine .next ?_
  rw [h1]
  exact ⟨rfl, rfl, rfl, h2⟩

end

theorem logEvent_folds (at_ slot : Nat) (r : LogRec) : a.up .aon = true → a.cfg 0x1408 0 ≤ r.ev.sev → r.ev.code ≠ 0x1402 →
    eventListed r.ev.code r.ev.sev r.ev.island = true → a.passes r.ev.island = true → r.ev.params.length ≤ 40 → a.log.openRec = some (slot, at_) →
    a.now < at_ + sec → Tbl.get? a.log.slots slot = some r → r.rep < 0xFFFFFFFE →
    Yields (exec (.logEvent t r.ev.code r.ev.sev r.ev.island r.ev.params) s) fun w =>
      w.log = { a.log with slots := Tbl.put a.log.slots slot { r with rep := r.rep + 1 } } ∧ Only (told ++ [Part.log]) a w := by
  intro hu hs hc hl hp hn ho ht hr hrep
  refine .next (State.run_log_only s t ha ((State.offerEvent_offered hl hp hn hs hu).trans ?_))
  rw [Logbook.offer_of_fold (by rw [Logbook.expire_young ho ht]; exact Logbook.fold?_open ho hr hc hrep)]

theorem logEvent_quiet (code sev island : Nat) (params : Bytes) : sev < a.cfg 0x1408 0 ∨ eventListed code sev island = false ∨ a.passes island = false →
    Yields (exec (.logEvent t code sev island params) s) fun w => Only told a w :=
  fun h => .next (State.run_still s t ha (State.offerEvent_quiet h))

theorem logEvent_gasket (code sev island : Nat) (params : Bytes) : eventListed code sev island = true → a.passes island = true → params.length ≤ 40 →
    a.cfg 0x1408 0 ≤ sev → a.up .aon = false →
    Yields (exec (.logEvent t code sev island params) s) fun w => w.log = { a.log with losses := addLoss a.log.losses 2 sev } ∧ Only (told ++ [Part.log]) a w :=
  fun hl hp hn hs hu => .next (State.run_log_only s t ha (State.offerEvent_gasket hl hp hn hs hu))

theorem State.run_writeNext (hu : a.up .aon = true) :
    (s.run t fun s => if s.up .aon then s.logWriteNext else s).log = a.log.writeNext a.now := by
  rw [State.run_log, ha, if_pos hu]
  unfold State.logWriteNext
  dsimp only
  split
  · rw [State.count_eq]
  · rfl

theorem State.run_writeNext_only : Only (told ++ [Part.health, Part.log]) a (s.run t fun s => if s.up .aon then s.logWriteNext else s) := by
  rw [← ha]
  refine Only.run (by decide) ((Only.refl _ _).step fun p hp => ?_)
  split
  · exact State.logWriteNext_same (Part.ne_of_notMem hp (by decide)) (Part.ne_of_notMem hp (by decide)) ..
  · rfl

theorem logRecordWrite_writes (i : Nat) (e : LogEv) (rest : List Staged) {l : Logbook} (hle : l = a.log.expire a.now) : a.up .aon = true →
    l.staging = .event e :: rest → l.fold? e = none → l.losses = [] → l.slotFor e.sev = some i → l.openRec = none →
    Yields (exec (.logRecordWrite t) s) fun w =>
      w.log = { l with
        staging := rest,
        slots := Tbl.put l.slots i { cycle := l.cycle, count := l.count, ev := e, mirrored := false, satur := false, synth := false, rep := 0, damaged := false },
        openRec := some (i, a.now), count := l.count + 1, latest := l.cycle * 2 ^ 48 + l.count }
      ∧ Only (told ++ [Part.health, Part.log]) a w := by
  intro hu hs hf hlo hi ho
  subst hle
  have e1 := Logbook.writeNext_event hs hf
  rw [Logbook.write_slot ((Logbook.left_slotFor _ rest _).trans hi) ho] at e1
  refine .next ⟨?_, State.run_writeNext_only s t ha⟩
  rw [State.run_writeNext s t ha hu, e1]
  unfold Logbook.restaged Logbook.left
  dsimp only
  rw [hlo]
  rfl

theorem logRecordWrite_drops (e : LogEv) (rest : List Staged) {l : Logbook} (hle : l = a.log.expire a.now) : a.up .aon = true →
    l.staging = .event e :: rest → l.fold? e = none → l.losses = [] → l.slotFor e.sev = none → l.openRec = none →
    Yields (exec (.logRecordWrite t) s) fun w =>
      w.log = { l with staging := rest, dropped := wrap 32 (l.dropped + 1) } ∧ Only (told ++ [Part.log]) a w := by
  intro hu hs hf hlo hi ho
  subst hle
  have e1 := Logbook.writeNext_event hs hf
  rw [Logbook.write_dropped ((Logbook.left_slotFor _ rest _).trans hi)] at e1
  have e2 : a.log.writeNext a.now = { a.log.expire a.now with staging := rest, dropped := wrap 32 ((a.log.expire a.now).dropped + 1) } := by
    rw [e1]
    unfold Logbook.restaged Logbook.left
    dsimp only
    rw [hlo]
    rfl
  have hc : (a.log.writeNext a.now).count = a.log.count := by
    rw [e2]
    exact a.log.expire_count a.now
  refine .next (State.run_log_only s t ha ?_)
  rw [if_pos hu]
  unfold State.logWriteNext
  dsimp only
  rw [if_neg (fun h => h hc), e2]

theorem logRecordWrite_reports (i wher n sev : Nat) {l : Logbook} (hle : l = a.log.expire a.now) {e : LogEv}
    (hee : e = { code := 0x1401, sev := max 2 sev, island := 0, params := leBytes 4 (min n 0xFFFFFFFF) ++ [byte sev, byte wher] }) : a.up .aon = true →
    l.staging = [.lost wher] → l.losses = [⟨wher, n, sev⟩] → l.fold? e = none → l.slotFor e.sev = some i → l.openRec = none →
    Yields (exec (.logRecordWrite t) s) fun w =>
      Tbl.get? w.log.slots i = some { cycle := l.cycle, count := l.count, ev := e, mirrored := false, satur := false, synth := true, rep := 0, damaged := false }
      ∧ w.log.staging = [] ∧ w.log.losses = [] ∧ Only (told ++ [Part.health, Part.log]) a w := by
  subst hle
  intro hu hs hlo hf hi ho
  have e1 := Logbook.writeNext_losses hs hlo (hee ▸ hf)
  rw [← hee] at e1
  have hi' := (Logbook.slotFor_congr (x := { (a.log.expire a.now).left [] with losses := [] }) (y := a.log.expire a.now) rfl rfl e.sev).trans hi
  rw [Logbook.write_slot hi' ho] at e1
  refine .next ?_
  rw [State.run_writeNext s t ha hu, e1]
  exact ⟨Tbl.get?_put _ _ _, rfl, rfl, State.run_writeNext_only s t ha⟩

theorem logRecordClose_closes (at_ slot : Nat) (r : LogRec) : a.up .aon = true → a.log.openRec = some (slot, at_) → at_ + sec ≤ a.now →
    Tbl.get? a.log.slots slot = some r → a.log.mirrorQ.length < 256 →
    Yields (exec (.logRecordClose t) s) fun w =>
      w.log = { a.log with openRec := none, mirrorQ := if 3 ≤ r.ev.sev then a.log.mirrorQ ++ [r] else a.log.mirrorQ }
      ∧ Only (told ++ [Part.log]) a w := by
  intro hu ho ht hr hq
  refine .next (State.run_log_only s t ha ?_)
  rw [if_pos hu, Logbook.expire_old ho ht, Logbook.close_some ho hr hq]

theorem logRecordClose_waits (at_ slot : Nat) : a.log.openRec = some (slot, at_) → a.now < at_ + sec →
    Yields (exec (.logRecordClose t) s) fun w => Only told a w := by
  intro ho ht
  refine .next (State.run_still s t ha ?_)
  rw [Logbook.expire_young ho ht, ite_self]

end

/-- Settles O48: each clause by what the offer, the writer or the close makes of the Logbook. -/
theorem logRecords : Obligations.LogRecords :=
  ⟨fun s t c sev i p => logEvent_staged s t rfl c sev i p rfl, fun s t at_ slot r => logEvent_folds s t rfl at_ slot r,
    fun s t c sev i p => logEvent_lost s t rfl c sev i p rfl, fun s t => logEvent_quiet s t rfl, fun s t => logEvent_gasket s t rfl,
    fun s t i e rest => logRecordWrite_writes s t rfl i e rest rfl, fun s t e rest => logRecordWrite_drops s t rfl e rest rfl,
    fun s t i w n sev => logRecordWrite_reports s t rfl i w n sev rfl rfl, fun s t => logRecordClose_closes s t rfl, fun s t => logRecordClose_waits s t rfl⟩

end Sys2Proof.Machine
end

section
set_option Elab.async false
/-!
PROOF. O38 fails: a store of a hart to shared SRAM leaves the rest of the Fabric as it was, but the responses of the applet partition that wait
as the store arrives leave with it, and each becomes a reply that waits in the Fabric (R790).
-/

namespace Sys2Proof.Machine

/-- A response of the applet partition to its request 7 waits, and the Fabric still holds the request. -/
def waitingResponse : State :=
  { State.reset with
    dict := { State.reset.dict with applet := { State.reset.dict.applet with outbox := [.again 7 []] } }
    fabric := { State.reset.fabric with reqs := [⟨8, 7, false, 0, none⟩] } }

/-- A store of 8 bytes to the first address of shared SRAM. -/
def sramStore : HartAccess := ⟨sramBase, 8, some 7⟩

theorem waitingResponse_ready : (waitingResponse.advance 0).hartRuns 0 = true ∧ (waitingResponse.advance 0).hartPlace 0 sramStore = .sram ∧
    accessFits sramStore .sram = true ∧ (waitingResponse.advance 0).up .fabric = true ∧ (waitingResponse.advance 0).fabric.replies = [] := by
  decide +kernel

/-- After the store the response waits as a reply. -/
theorem waitingResponse_replies :
    (waitingResponse.run 0 fun s => s.byHart 0 fun s => s.look 0 sramStore.addr (.access sramStore.size sramStore.store)).fabric.replies =
      [⟨8, 0, none, []⟩] := by
  decide +kernel

/-- Refutes O38: a hart stores to shared SRAM while a response of the applet partition waits to leave. It leaves with the store, so that the Fabric
afterwards holds a reply that it did not hold before. -/
theorem not_dispatcherTasks : ¬ Obligations.DispatcherTasks := by
  rintro ⟨-, -, -, -, -, -, -, -, -, -, -, -, -, -, hstore, -⟩
  obtain ⟨h1, h2, h3, h4, h5⟩ := waitingResponse_ready
  obtain ⟨w, hw, hf, -⟩ := hstore waitingResponse 0 0 7 sramStore h1 h2 h3 h4 rfl
  cases hw
  have hr := congrArg Fabric.replies hf
  exact absurd ((waitingResponse_replies.symm.trans hr).trans h5) (by decide)

end Sys2Proof.Machine
end

section
set_option Elab.async false
/-!
PROOF. O39: queue windows.
-/

namespace Sys2Proof.Machine

theorem Fabric.queue_setQueue (f : Fabric) (q : Nat) (x : Queue) : (f.setQueue q x).queue q = x := Fabric.queue_of_put rfl

/-- The packets of a queue as the next phase of one of them leaves them. -/
theorem Fabric.pkts_setPhase (f : Fabric) (q i : Nat) (ph : Option PktPhase) : ((f.setPhase q i ph).queue q).pkts =
    match ph with
    | some p => mapPkt (f.queue q).pkts i fun y => { y with phase := p }
    | none => (f.queue q).pkts.filter fun y => y.id ≠ i := by
  unfold Fabric.setPhase
  rw [Fabric.queue_setQueue] <;> cases ph <;> rfl

/-- A packet of a hart's task goes with the task, and one of a hart without a task at once. -/
theorem Fabric.pkts_ended (f : Fabric) (h q i : Nat) : ((f.setPhase q i (if (f.hart h).task.isSome then some (.unfreed h) else none)).queue q).pkts =
    if (f.hart h).task.isSome then mapPkt (f.queue q).pkts i fun y => { y with phase := .unfreed h }
    else (f.queue q).pkts.filter fun y => y.id ≠ i := by
  rw [Fabric.pkts_setPhase]
  cases (f.hart h).task.isSome <;> rfl

/-- Whether a packet is held by a hart. -/
def PktPhase.isHeld : PktPhase → Bool
  | .held _ _ => true
  | _ => false

/-- Whether a packet is held by this hart. -/
def PktPhase.heldNowBy (h : Nat) : PktPhase → Bool
  | .held h' _ => decide (h' = h)
  | _ => false

section
variable {a : State} {h q : Nat}

/-- A POP of a queue of whose packets none is held gives the length word of the head. -/
theorem State.popOf_head {p : Pkt} (hf : a.fabricOut = none) (hq : qReaderApplet (a.queueCfg q) = hartApplet h)
    (hn : ((a.fabric.queue q).pkts.find? fun p => p.phase.isHeld) = none) (hp : (poppables (a.fabric.queue q).pkts).head? = some p)
    (hh : (a.fabric.hart h).task.isNone = true ∨ a.fabric.holds h < 16) (h1 : 1 ≤ p.words.length) :
    a.popOf h q = (popWord false true p.words.length p.lengthWord, some (p.id, some (.held h 0))) := by
  have hk : ¬ ((a.fabric.hart h).task.isSome && decide (16 ≤ a.fabric.holds h)) = true := by
    rcases hh with e | e
    · simp [Option.isNone_iff_eq_none.mp e]
    · simp; omega
  have h0 : ¬ p.words.length = 0 := by omega
  unfold State.popOf
  rw [hf]
  dsimp only
  rw [if_neg (not_not.mpr hq)]
  split
  · next y hy => cases hn.symm.trans hy
  · rw [hp]
    dsimp only
    rw [if_neg hk, if_neg h0, decide_eq_false h0]

/-- A POP of a queue whose head the hart holds gives the packet's next word. -/
theorem State.popOf_held {p : Pkt} {k : Nat} (hf : a.fabricOut = none) (hq : qReaderApplet (a.queueCfg q) = hartApplet h)
    (hp : ((a.fabric.queue q).pkts.find? fun p => p.phase.isHeld) = some p) (hk : p.phase = .held h k) :
    a.popOf h q = (popWord (p.words.length - k - 1 = 0) false (p.words.length - k - 1) (nth p.words k),
      some (p.id, if p.words.length - k - 1 = 0 then if (a.fabric.hart h).task.isSome then some (.unfreed h) else none else some (.held h (k + 1)))) := by
  unfold State.popOf
  rw [hf]
  dsimp only
  rw [if_neg (not_not.mpr hq)]
  split
  · next y hy =>
    cases hp.symm.trans hy
    rw [hk]
    dsimp only
    rw [if_neg (not_not.mpr rfl)]
  · next hy => cases hp.symm.trans hy

theorem State.popOp_some {w i : Nat} {ph : Option PktPhase} (e : a.popOf h q = (w, some (i, ph))) :
    a.popOp h q = (a.load h w).setFabric fun f => f.setPhase q i ph := by
  unfold State.popOp
  rw [e]

theorem Only.load_told (a : State) (h w : Nat) : Only told a (a.load h w) :=
  (Only.refl _ _).step fun _ hn => State.load_same (Part.ne_of_notMem hn (by decide)) ..

/-- A word joins a packet that is open, or marks it. -/
theorem State.pushWord_open {p : Pkt} {w : Nat} (ho : a.fabric.openOf h q = some p) (hp : p.phase = .opened h false) :
    ((a.pushWord h q w).fabric.queue q).pkts = mapPkt (a.fabric.queue q).pkts p.id fun y =>
      if p.words.length < 65535 ∧ (pktBlocks (p.words.length + 1) - pktBlocks p.words.length = 0 ∨
        a.hasBlocks q (pktBlocks (p.words.length + 1) - pktBlocks p.words.length) = true) then { y with words := y.words ++ [w % 2 ^ 32] }
      else { y with phase := .opened h true } := by
  unfold State.pushWord
  rw [ho]
  dsimp only
  refine (congrArg Queue.pkts (Fabric.queue_setQueue _ _ _)).trans ?_
  rw [hp]
  simp only [Bool.and_eq_true, Bool.or_eq_true, decide_eq_true_eq]

theorem State.openOp_opened (ho : a.openOutcome h q = 0) : a.openOp h q = (a.load h 0).setFabric fun f =>
    { f.setQueue q { a.fabric.queue q with pkts := (a.fabric.queue q).pkts ++ [⟨a.fabric.pktNext, 0, [], .opened h false⟩] } with pktNext := f.pktNext + 1 } := by
  unfold State.openOp
  rw [ho]
  rfl

theorem State.openOp_refused (ho : a.openOutcome h q ≠ 0) : a.openOp h q = a.load h (a.openOutcome h q) := by
  unfold State.openOp
  exact if_neg ho

end

/-- A store to a register of a window that the hart's partition may use. -/
theorem State.queueStore_may {a : State} {h q off : Nat} {may : Bool} {body : State → State} (hm : hartApplet h = false ∨ may = true) :
    a.queueStore h q off may body = body a := by
  refine if_neg ?_
  rcases hm with e | e <;> simp [e]

theorem Only.load_setFabric (a : State) (h w : Nat) (f : Fabric → Fabric) : Only (told ++ [Part.fabric]) a ((a.load h w).setFabric f) :=
  ((Only.refl _ _).step fun _ hn => State.load_same (Part.ne_of_notMem hn (by decide)) ..).step fun _ hn =>
    State.setFabric_same (Part.ne_of_notMem hn (by decide)) (Part.ne_of_notMem hn (by decide)) ..

theorem State.pkts_removePkt (a : State) (q i : Nat) : ((a.removePkt q i).fabric.queue q).pkts = (a.fabric.queue q).pkts.filter fun y => y.id ≠ i :=
  State.setPkts_pkts ..

section
variable (s : State) (t : Nat) {a : State} (ha : s.advance t = a) {h q : Nat} (hr : a.hartRuns h = true) (hq : q < 1024)
include ha hr hq

/-- What an access to a queue's window leaves, for a hart that runs. -/
theorem State.run_onQueue (body : State → State) {x : State} (hx : body a = x) :
    (s.run t fun s => s.onQueue h q body).fabric.queue = x.fabric.queue ∧ (s.run t fun s => s.onQueue h q body).fabric.pktNext = x.fabric.pktNext ∧
      (∀ o ∈ x.out, o ∈ (s.run t fun s => s.onQueue h q body).out) ∧
      ∀ ps : List Part, (∀ p ∈ told, p ∈ ps) → Only ps a x → Only ps a (s.run t fun s => s.onQueue h q body) := by
  have e : (s.advance t).onQueue h q body = x := by
    rw [ha]
    exact (if_pos (by simp [hr, hq])).trans hx
  refine ⟨?_, ?_, fun o ho => State.run_sends (body := fun s => s.onQueue h q body) (by rw [e]; exact ho), fun ps hp hx => ?_⟩
  · funext j
    unfold Fabric.queue
    rw [State.run_queues, e]
  · rw [State.run_pktNext, e]
  · rw [← ha]
    refine Only.run hp ?_
    rw [e, ha]
    exact hx

section
variable {p : Pkt} (hf : a.fabricOut = none)
include hf

/-- POP. -/
theorem State.pop_head (hc : qReaderApplet (a.queueCfg q) = hartApplet h)
    (hn : ((a.fabric.queue q).pkts.find? fun p => p.phase.isHeld) = none) (hp : (poppables (a.fabric.queue q).pkts).head? = some p)
    (hh : (a.fabric.hart h).task.isNone = true ∨ a.fabric.holds h < 16) (h1 : 1 ≤ p.words.length) :
    Yields (exec (.pop t h q) s) fun v =>
      Out.hart h (popWord false true p.words.length p.lengthWord) ∈ v.out
      ∧ (v.fabric.queue q).pkts = mapPkt (a.fabric.queue q).pkts p.id (fun y => { y with phase := .held h 0 }) ∧ Only (told ++ [Part.fabric]) a v := by
  obtain ⟨hqu, -, hout, honly⟩ := State.run_onQueue s t ha hr hq (fun s => s.popOp h q) (State.popOp_some (State.popOf_head hf hc hn hp hh h1))
  refine ⟨_, rfl, hout _ List.mem_cons_self, ?_, honly _ (by decide) (Only.load_setFabric _ _ _ _)⟩
  rw [hqu]
  exact Fabric.pkts_setPhase ..

theorem State.pop_held {k left : Nat} (hl : left = p.words.length - k - 1) (hc : qReaderApplet (a.queueCfg q) = hartApplet h)
    (hp : ((a.fabric.queue q).pkts.find? fun p => p.phase.isHeld) = some p) (hk : p.phase = .held h k) :
    Yields (exec (.pop t h q) s) fun v =>
      Out.hart h (popWord (left = 0) false left (nth p.words k)) ∈ v.out
      ∧ (v.fabric.queue q).pkts = (if 0 < left then mapPkt (a.fabric.queue q).pkts p.id fun y => { y with phase := .held h (k + 1) }
          else if (a.fabric.hart h).task.isSome then mapPkt (a.fabric.queue q).pkts p.id fun y => { y with phase := .unfreed h }
          else (a.fabric.queue q).pkts.filter fun y => y.id ≠ p.id) := by
  obtain ⟨hqu, -, hout, -⟩ := State.run_onQueue s t ha hr hq (fun s => s.popOp h q) (State.popOp_some (State.popOf_held hf hc hp hk))
  rw [← hl] at hqu hout
  refine ⟨_, rfl, hout _ List.mem_cons_self, ?_⟩
  rw [hqu]
  by_cases h0 : left = 0
  · rw [if_pos h0, if_neg (show ¬ 0 < left by omega)]
    exact Fabric.pkts_ended ..
  · rw [if_neg h0, if_pos (show 0 < left by omega)]
    exact Fabric.pkts_setPhase ..

/-- PUSH and TAG. -/
theorem State.push_word {n more w : Nat} (hn : n = p.words.length) (hm : more = pktBlocks (n + 1) - pktBlocks n)
    (hw : hartApplet h = false ∨ a.mayWrite h q = true) (ho : a.fabric.openOf h q = some p) (hp : p.phase = .opened h false) :
    Yields (exec (.push t h q [w]) s) fun v =>
      (v.fabric.queue q).pkts = mapPkt (a.fabric.queue q).pkts p.id fun y =>
        if n < 65535 ∧ (more = 0 ∨ a.hasBlocks q more = true) then { y with words := y.words ++ [w % 2 ^ 32] } else { y with phase := .opened h true } := by
  subst hm hn
  have e : a.pushOp h q [w] = a.pushWord h q w := if_neg (by simp [hf])
  obtain ⟨hqu, -⟩ := State.run_onQueue s t ha hr hq (fun s => s.queueStore h q 0x10 (s.mayWrite h q) fun s => s.pushOp h q [w])
    ((State.queueStore_may hw).trans e)
  refine ⟨_, rfl, (congrArg Queue.pkts (congrFun hqu q)).trans ?_⟩
  exact State.pushWord_open ho hp

theorem State.tag_open {v : Nat} (hw : hartApplet h = false ∨ a.mayWrite h q = true) (ho : a.fabric.openOf h q = some p) :
    Yields (exec (.tag t h q v) s) fun u =>
      (u.fabric.queue q).pkts = mapPkt (a.fabric.queue q).pkts p.id (fun y => { y with tag := v % 65536 }) ∧ Only (told ++ [Part.fabric]) a u := by
  have e : a.tagOp h q v = a.setFabric fun f =>
      f.setQueue q { a.fabric.queue q with pkts := mapPkt (a.fabric.queue q).pkts p.id fun y => { y with tag := v % 65536 } } := by
    unfold State.tagOp
    rw [ho]
    exact if_neg (by simp [hf])
  obtain ⟨hqu, -, -, honly⟩ := State.run_onQueue s t ha hr hq (fun s => s.queueStore h q 0x20 (s.mayWrite h q) fun s => s.tagOp h q v)
    ((State.queueStore_may hw).trans e)
  refine ⟨_, rfl, ?_, honly _ (by decide) ((Only.refl _ _).step fun _ hn =>
    State.setFabric_same (Part.ne_of_notMem hn (by decide)) (Part.ne_of_notMem hn (by decide)) ..)⟩
  rw [hqu]
  exact congrArg Queue.pkts (Fabric.queue_setQueue ..)

/-- CLOSE. -/
theorem State.close_whole (ho : a.fabric.openOf h q = some p) (hp : p.overflowed = false) : Out.hart h 0 ∈ (s.run t fun s => s.onQueue h q fun s => s.closeOp h q).out ∧
    ((s.run t fun s => s.onQueue h q fun s => s.closeOp h q).fabric.queue q).pkts =
      mapPkt (a.fabric.queue q).pkts p.id fun y => { y with phase := .closed } := by
  have e : a.closeOp h q = ((a.load h 0).setPkts q (mapPkt (a.fabric.queue q).pkts p.id fun y => { y with phase := .closed })).count 0x0B q 1 := by
    unfold State.closeOp
    rw [hf, ho]
    exact if_neg (by simp [hp])
  obtain ⟨hqu, -, hout, -⟩ := State.run_onQueue s t ha hr hq (fun s => s.closeOp h q) e
  refine ⟨hout _ ?_, ?_⟩
  · rw [State.count_eq]
    show _ ∈ (State.setPkts _ _ _).out
    rw [(State.setPkts_same (pt := .out) (by decide) (by decide) (by decide) (a.load h 0) _ _ _).mpr rfl]
    exact List.mem_cons_self
  · rw [hqu, State.count_fabric]
    exact State.setPkts_pkts ..

theorem State.close_overflowed (ho : a.fabric.openOf h q = some p) (hp : p.overflowed = true) :
    Out.hart h 0x50 ∈ (s.run t fun s => s.onQueue h q fun s => s.closeOp h q).out ∧
    ((s.run t fun s => s.onQueue h q fun s => s.closeOp h q).fabric.queue q).pkts = (a.fabric.queue q).pkts.filter (fun y => y.id ≠ p.id) ∧
    ((s.run t fun s => s.onQueue h q fun s => s.closeOp h q).fabric.queue q).drops = wrap 32 ((a.fabric.queue q).drops + 1) := by
  obtain ⟨y, hy⟩ : ∃ y, y = (a.load h 0x50).setFabric fun f => f.setQueue q { f.queue q with drops := wrap 32 ((f.queue q).drops + 1) } := ⟨_, rfl⟩
  have hyq : y.fabric.queue q = { a.fabric.queue q with drops := wrap 32 ((a.fabric.queue q).drops + 1) } := by
    rw [hy]
    exact Fabric.queue_setQueue ..
  have e : a.closeOp h q = y.removePkt q p.id := by
    unfold State.closeOp
    rw [hf, ho, hy]
    exact if_pos hp
  obtain ⟨hqu, -, hout, -⟩ := State.run_onQueue s t ha hr hq (fun s => s.closeOp h q) e
  refine ⟨hout _ ?_, ?_, ?_⟩
  · unfold State.removePkt
    rw [(State.setPkts_same (pt := .out) (by decide) (by decide) (by decide) y _ _ _).mpr rfl, hy]
    exact List.mem_cons_self
  · rw [hqu, State.pkts_removePkt, hyq]
  · rw [hqu]
    unfold State.removePkt
    rw [Fabric.queue_of_put (State.setPkts_queues ..), hyq]

/-- A store to CLOSE, and DROP. -/
theorem State.closeAbandon_open (hw : hartApplet h = false ∨ a.mayWrite h q = true) (ho : a.fabric.openOf h q = some p) :
    Yields (exec (.closeAbandon t h q) s) fun v => (v.fabric.queue q).pkts = (a.fabric.queue q).pkts.filter fun y => y.id ≠ p.id := by
  have e : a.abandonOp h q = a.removePkt q p.id := by
    unfold State.abandonOp
    rw [hf, ho]
  obtain ⟨hqu, -⟩ := State.run_onQueue s t ha hr hq (fun s => s.queueStore h q 0x28 (s.mayWrite h q) fun s => s.abandonOp h q)
    ((State.queueStore_may hw).trans e)
  refine ⟨_, rfl, (congrArg Queue.pkts (congrFun hqu q)).trans ?_⟩
  exact State.pkts_removePkt ..

theorem State.drop_held (hw : hartApplet h = false ∨ qReaderApplet (a.queueCfg q) = true)
    (hp : ((a.fabric.queue q).pkts.find? fun p => p.phase.heldNowBy h) = some p) :
    Yields (exec (.drop t h q) s) fun v =>
      (v.fabric.queue q).pkts = (if (a.fabric.hart h).task.isSome then mapPkt (a.fabric.queue q).pkts p.id fun y => { y with phase := .unfreed h }
        else (a.fabric.queue q).pkts.filter fun y => y.id ≠ p.id) ∧ Only (told ++ [Part.fabric]) a v := by
  have e : a.dropOp h q = a.setFabric fun f => f.setPhase q p.id (if (f.hart h).task.isSome then some (.unfreed h) else none) := by
    unfold State.dropOp
    extract_lets held
    rw [hf, show held = some p from hp]
  obtain ⟨hqu, -, -, honly⟩ := State.run_onQueue s t ha hr hq (fun s => s.queueStore h q 0x30 (qReaderApplet (s.queueCfg q)) fun s => s.dropOp h q)
    ((State.queueStore_may hw).trans e)
  refine ⟨_, rfl, ?_, honly _ (by decide) ((Only.refl _ _).step fun _ hn =>
    State.setFabric_same (Part.ne_of_notMem hn (by decide)) (Part.ne_of_notMem hn (by decide)) ..)⟩
  rw [hqu]
  exact Fabric.pkts_ended ..

end

/-- PEEK and OPEN. -/
theorem State.queuePeek_load : Yields (exec (.queuePeek t h q) s) fun v => Out.hart h (a.popOf h q).1 ∈ v.out ∧ Only told a v := by
  obtain ⟨-, -, hout, honly⟩ := State.run_onQueue s t ha hr hq (fun s => s.load h (s.popOf h q).1) rfl
  exact ⟨_, rfl, hout _ List.mem_cons_self, honly _ (fun _ h => h) (Only.load_told _ _ _)⟩

theorem State.queueOpen_opened (ho : a.openOutcome h q = 0) :
    Yields (exec (.queueOpen t h q) s) fun v =>
      (v.fabric.queue q).pkts = (a.fabric.queue q).pkts ++ [⟨a.fabric.pktNext, 0, [], .opened h false⟩] ∧ v.fabric.pktNext = a.fabric.pktNext + 1
      ∧ Out.hart h 0 ∈ v.out ∧ Only (told ++ [Part.fabric]) a v := by
  obtain ⟨hqu, hnext, hout, honly⟩ := State.run_onQueue s t ha hr hq (fun s => s.openOp h q) (State.openOp_opened ho)
  refine ⟨_, rfl, ?_, hnext, hout _ List.mem_cons_self, honly _ (by decide) (Only.load_setFabric _ _ _ _)⟩
  rw [hqu]
  exact congrArg Queue.pkts (Fabric.queue_setQueue ..)

theorem State.queueOpen_refused (ho : a.openOutcome h q ≠ 0) :
    Yields (exec (.queueOpen t h q) s) fun v => Out.hart h (a.openOutcome h q) ∈ v.out ∧ Only told a v := by
  obtain ⟨-, -, hout, honly⟩ := State.run_onQueue s t ha hr hq (fun s => s.openOp h q) (State.openOp_refused ho)
  exact ⟨_, rfl, hout _ List.mem_cons_self, honly _ (fun _ h => h) (Only.load_told _ _ _)⟩

end

/-- Settles O39: each window's access is one operation on the packets of its queue. -/
theorem dispatcherQueues : Obligations.DispatcherQueues :=
  ⟨fun s t h q p h1 h2 h3 h4 h5 h6 h7 h8 => State.pop_head s t rfl h1 h2 h3 h4 h5 h6 h7 h8,
   fun s t h q k p h1 h2 h3 h4 h5 h6 => State.pop_held s t rfl h1 h2 h3 rfl h4 h5 h6,
   fun s t h q h1 h2 => State.queuePeek_load s t rfl h1 h2,
   fun s t h q w p h1 h2 h3 h4 h5 h6 => State.push_word s t rfl h1 h2 h3 rfl rfl h4 h5 h6,
   fun s t h q h1 h2 h3 => State.queueOpen_opened s t rfl h1 h2 h3,
   fun s t h q h1 h2 h3 => State.queueOpen_refused s t rfl h1 h2 h3,
   fun s t h q v p h1 h2 h3 h4 h5 => State.tag_open s t rfl h1 h2 h3 h4 h5,
   fun s t h q p h1 h2 h3 h4 => ⟨_, rfl, State.close_whole s t rfl h1 h2 h3 h4, State.close_overflowed s t rfl h1 h2 h3 h4⟩,
   fun s t h q p h1 h2 h3 h4 h5 => State.closeAbandon_open s t rfl h1 h2 h3 h4 h5,
   fun s t h q k p h1 h2 h3 h4 h5 h6 => State.drop_held s t rfl h1 h2 h3 h4 h5⟩

end Sys2Proof.Machine
end

section
set_option Elab.async false
/-!
PROOF. O19: faults, restarts and failures of islands; errors in protected stores.
-/

namespace Sys2Proof.Machine

/-! ### What an island's fault, return and failure leave of the islands -/

section
variable {a : State} {i : Island}

theorem State.setIsl_islands_congr {x y : State} (h : x.islands = y.islands) (i : Island) (f : IslandRec → IslandRec) :
    (x.setIsl i f).islands = (y.setIsl i f).islands := by
  show modNth x.islands _ _ = modNth y.islands _ _
  rw [h]

/-- The record of an island that restarts for a fault. -/
def State.faulted (a : State) (i : Island) (c : FaultCause) (x : IslandRec) : IslandRec :=
  { x with st := .restarting, since := a.now, restarts := wrap 32 (x.restarts + 1), faults := a.now :: a.recentFaults i,
           cause := faultCode c, third := decide (2 ≤ (a.recentFaults i).length) }

theorem State.logEv_aon_islands (x : State) (i : Island) (ev : Ev) (p : Bytes) : (if i = .aon then x else x.logEv ev p).islands = x.islands := by
  split
  · rfl
  · exact x.logEv_islands ev p

/-- The state in which a faulty island restarts: the fault counted, and what was in flight ended. -/
def State.ended (a : State) (i : Island) (c : FaultCause) : State := (a.countFault i c).restartIsland i

theorem State.ended_islands (a : State) (i : Island) (c : FaultCause) : (a.ended i c).islands = a.islands :=
  ((State.restartIsland_same (pt := .islands) (by decide) (by decide) (by decide) (by decide) (by decide) (by decide) (by decide) (by decide) (by decide)
    (by decide) (by decide) (by decide) (by decide) (by decide) (by decide) a _ i).mpr
    ((State.countFault_same (pt := .islands) (by decide) a a i c).mpr rfl))

theorem State.ended_now (a : State) (i : Island) (c : FaultCause) : (a.ended i c).now = a.now :=
  ((State.restartIsland_same (pt := .now) (by decide) (by decide) (by decide) (by decide) (by decide) (by decide) (by decide) (by decide) (by decide)
    (by decide) (by decide) (by decide) (by decide) (by decide) (by decide) a _ i).mpr
    ((State.countFault_same (pt := .now) (by decide) a a i c).mpr rfl))

theorem State.faultIn_islands {c : FaultCause} (hu : a.up i = true) (hs : faultSeen i c = true) :
    (a.faultIn i c).islands = (a.setIsl i (a.faulted i c)).islands := by
  have e : a.faultIn i c = if i = .aon then (a.ended i c).setIsl i fun x => { x with
        st := .restarting, since := (a.ended i c).now, restarts := wrap 32 (x.restarts + 1),
        faults := (a.countFault i c).now :: (a.countFault i c).recentFaults i, cause := faultCode c,
        third := decide (3 ≤ ((a.countFault i c).now :: (a.countFault i c).recentFaults i).length) }
      else ((a.ended i c).setIsl i fun x => { x with
        st := .restarting, since := (a.ended i c).now, restarts := wrap 32 (x.restarts + 1),
        faults := (a.countFault i c).now :: (a.countFault i c).recentFaults i, cause := faultCode c,
        third := decide (3 ≤ ((a.countFault i c).now :: (a.countFault i c).recentFaults i).length) }).logEv .islandRestart [byte i.id, byte (faultCode c)] :=
    if_neg (by simp [hu, hs])
  have hi : (a.countFault i c).islands = a.islands := (State.countFault_same (pt := .islands) (by decide) a a i c).mpr rfl
  have hn : (a.countFault i c).now = a.now := (State.countFault_same (pt := .now) (by decide) a a i c).mpr rfl
  have hr : (a.countFault i c).recentFaults i = a.recentFaults i := by
    unfold State.recentFaults
    rw [State.isl_of_islands hi, hn]
  rw [e, State.logEv_aon_islands, hr, hn, State.ended_now, State.setIsl_islands_congr (State.ended_islands a i c)]
  have h3 : decide (3 ≤ (a.now :: a.recentFaults i).length) = decide (2 ≤ (a.recentFaults i).length) := decide_eq_decide.mpr (by simp)
  rw [h3]
  rfl

/-- Only the island's record moves. -/
theorem State.setIsl_alone {x : State} (hl : a.islands.length = 12) {f : IslandRec → IslandRec} (h : x.islands = (a.setIsl i f).islands) :
    x.isl i = f (a.isl i) ∧ ∀ j, j ≠ i → x.isl j = a.isl j :=
  ⟨(State.isl_of_islands h i).trans (State.isl_setIsl hl i f), fun j hj => (State.isl_of_islands h j).trans (State.isl_setIsl_ne a hj f)⟩

theorem State.restartEnds_islands (hst : (a.isl i).st = .restarting) (ht : a.now ≤ (a.isl i).since + 40 * us) (h3 : (a.isl i).third = false) :
    (a.restartEnds i).islands = (a.setIsl i fun x => { x with st := .running, back := a.now }).islands := by
  have hc : ((a.isl i).st = .restarting && a.now ≤ (a.isl i).since + 40 * us && !(a.isl i).third) = true := by simp [hst, ht, h3]
  unfold State.restartEnds
  extract_lets x now y
  rw [if_pos hc]
  cases i <;> dsimp only
  case comb => exact (State.swarmInstant_same (pt := .islands) (by decide) (by decide) y y).mpr rfl
  case aon => exact (State.logEv_islands _ _ _).trans ((State.channelReturned_same (pt := .islands) (by decide) (by decide) (by decide) (by decide) y _ _).mpr rfl)
  case timebase => exact (State.channelReturned_same (pt := .islands) (by decide) (by decide) (by decide) (by decide) y _ _).mpr rfl

theorem State.failAction_islands (a : State) (i : Island) : (a.failAction i).islands = a.islands := by
  have hlatch (x : State) : (x.setLatch .all 9 0).islands = x.islands :=
    (State.setLatch_same (pt := .islands) (by decide) (by decide) (by decide) (by decide) x x _ _ _).mpr rfl
  unfold State.failAction
  cases i <;> dsimp only
  case aon => exact hlatch a
  case security => exact State.clearIsland_islands (by decide) a true
  case compute =>
    exact (hlatch _).trans ((State.hartsReset_same (pt := .islands) (by decide) (by decide) a _).mpr
      ((State.discardAll_same (pt := .islands) (by decide) (by decide) (by decide) (by decide) a a _).mpr rfl))
  case fixer =>
    exact (State.clearIsland_islands (by decide) _ true).trans
      ((State.roverFailed_same (pt := .islands) (by decide) (by decide) (by decide) (by decide) (by decide) (by decide) a a).mpr rfl)
  case developer =>
    exact ((State.devFailed_same (pt := .islands) (by decide) (by decide) (a.clearIsland .developer true) _).mpr rfl).trans
      (State.clearIsland_islands (by decide) a true)
  case tracking =>
    exact ((State.baseNoTracking_same (pt := .islands) (by decide) (by decide) (by decide) (a.clearIsland .tracking true) _).mpr rfl).trans
      (State.clearIsland_islands (by decide) a true)
  all_goals exact (hlatch _).trans (State.clearIsland_islands (by decide) a true)

theorem State.islandFails_islands {c : FailCause} (h : a.failDue i c = true) :
    (a.islandFails i c).islands = (a.setIsl i fun x => { x with st := .failed, stepTo := none }).islands := by
  unfold State.islandFails
  rw [if_pos h]
  exact (State.logEv_islands _ _ _).trans (State.failAction_islands _ i)

/-- A corrected error is counted in its island's record. -/
theorem State.eccCounted_islands (a : State) (i : Island) :
    (a.eccCounted i).islands = (a.setIsl i fun x => { x with ecc := wrap 32 (x.ecc + 1) }).islands := by
  unfold State.eccCounted
  rw [State.count_eq]

theorem State.eccCounted_errs (a : State) (i : Island) : (a.eccCounted i).health.rowErrs = a.health.rowErrs ∧ (a.eccCounted i).health.pageErrs = a.health.pageErrs := by
  obtain ⟨l, h⟩ := State.count_health (a.setIsl i fun x => { x with ecc := wrap 32 (x.ecc + 1) }) 0x01 i.id 1
  unfold State.eccCounted
  rw [h]
  exact ⟨rfl, rfl⟩

end

/-! ### Errors in protected stores -/

section
variable {a : State}

theorem State.packetLost_drops {q i : Nat} (hq : q < 1024) (hi : i < (a.fabric.queue q).pkts.length) (hu : a.up .fabric = true) :
    (a.packetLost q i).fabric.queue q =
      { a.fabric.queue q with drops := wrap 32 ((a.fabric.queue q).drops + 1), pkts := (a.fabric.queue q).pkts.eraseIdx i } := by
  obtain ⟨y, hy⟩ : ∃ y : State, y = { a with fabric := a.fabric.setQueue q { a.fabric.queue q with drops := wrap 32 ((a.fabric.queue q).drops + 1) } } :=
    ⟨_, rfl⟩
  have hyq : y.fabric.queue q = { a.fabric.queue q with drops := wrap 32 ((a.fabric.queue q).drops + 1) } := by
    rw [hy]
    exact Fabric.queue_of_put rfl
  have e : a.packetLost q i = (y.setPkts q ((a.fabric.queue q).pkts.eraseIdx i)).logEv .queueDrop (leBytes 2 q) := by
    rw [hy]
    exact if_pos (by simp [hq, hi, hu])
  rw [e, State.logEv_fabric, Fabric.queue_of_put (State.setPkts_queues ..), hyq]

theorem State.descLost_free {d : Nat} (hd : d < 65536) (hu : a.up .fabric = true) : ∃ x, (a.descLost d).fabric.desc d = { Desc.free x with outcome := 0x40 } := by
  unfold State.descLost
  extract_lets x y
  rw [if_neg (by simp [hu, hd])]
  exact ⟨x.applet, Tbl.getD_put ..⟩

theorem State.endLink_gone {m cause : Nat} {reason : Option Nat} {n : Ans} {l : Link} (hl : a.link? m = some l) :
    (a.endLink m cause reason n).link? m = none ∧ (a.endLink m cause reason n).radio.ended = wrap 32 (a.radio.ended + 1) := by
  have hmsgs (l : List DownMsg) (s : State) : (l.foldl (fun s x => s.answer x.caller n) s).radio = s.radio := by
    induction l generalizing s with
    | nil => rfl
    | cons x l ih => exact (ih _).trans ((State.answer_same (pt := .radio) (by decide) (by decide) s s _ _).mpr rfl)
  have key : ∃ f, (a.endLink m cause reason n).radio =
      { a.radio with links := Tbl.del a.radio.links m, ended := wrap 32 (a.radio.ended + 1), farewells := f } := by
    unfold State.endLink
    rw [hl]
    dsimp only
    split
    · exact ⟨_, ((State.logEv_same (pt := .radio) (by decide) (State.stopMonitor _ m) _ _ _).mpr rfl).trans
        (((State.stopMonitor_same (pt := .radio) (by decide) _ _ m).mpr rfl).trans (hmsgs _ _))⟩
    · exact ⟨_, hmsgs _ _⟩
  obtain ⟨f, h⟩ := key
  unfold State.link?
  rw [h]
  exact ⟨Tbl.get?_del _ _, rfl⟩

/-- Neither the flags of open buckets nor the fill touch what the Comb holds. -/
theorem State.combSettled_held (a : State) : a.combSettled.comb.blocked = a.comb.blocked ∧ a.combSettled.comb.entries = a.comb.entries := by
  have hlog (s : State) (e : Ev) : (s.logEv e []).comb = s.comb := by rw [s.logEv_eq]
  unfold State.combSettled State.nearFull
  split
  · rw [hlog]
    exact ⟨rfl, rfl⟩
  · split
    · rw [hlog]
      exact ⟨rfl, rfl⟩
    · exact ⟨rfl, rfl⟩

theorem State.blockSlot_held {b slot : Nat} (hb : b < a.buckets) (hs : slot < 32) (hu : a.up .comb = true) :
    { bucket := b, slot := slot, detect := a.ct, open_ := a.comb.openIn.vote.contains b : Blocked } ∈ (a.blockSlot b slot).comb.blocked
      ∧ ∀ e ∈ (a.blockSlot b slot).comb.entries, ¬ (e.bucket = b ∧ e.slot = slot) := by
  have hc : (b < a.buckets && slot < 32 && a.up .comb) = true := by simp [hb, hs, hu]
  unfold State.blockSlot
  rw [if_pos hc]
  extract_lets c flag es bl x
  rw [show (State.logEv (State.combSettled (State.pruneTracks _)) _ _).comb = (State.combSettled (State.pruneTracks _)).comb by rw [State.logEv_eq],
    (State.combSettled_held _).1, (State.combSettled_held _).2]
  refine ⟨List.mem_append_right _ List.mem_cons_self, fun e he => ?_⟩
  have he : e ∈ es := he
  simp only [es, List.mem_filter, Bool.not_eq_true', Bool.and_eq_false_imp, decide_eq_true_eq, decide_eq_false_iff_not] at he
  exact fun ⟨h1, h2⟩ => he.2 h1 h2

end

section
variable (s : State) (t : Nat) {a : State} (ha : s.advance t = a)
include ha

theorem State.advance_islands (hs : s.sized) : a.islands.length = 12 := by
  have h : (s.advance t).islands = s.islands := (State.advance_same (pt := .islands) (by decide) (by decide) (by decide) (by decide) s s t).mpr rfl
  rw [← ha, h]
  exact hs.1

/-- One island's record moves in a run, and no other. -/
theorem State.run_setIsl {i : Island} {body : State → State} {f : IslandRec → IslandRec} (hs : s.sized) (h : (body a).islands = (a.setIsl i f).islands) :
    (s.run t body).isl i = f (a.isl i) ∧ ∀ j, j ≠ i → (s.run t body).isl j = a.isl j :=
  State.setIsl_alone (State.advance_islands s t ha hs) (by rw [State.run_islands, ha, h])

theorem State.fault_restarts {i : Island} {c : FaultCause} (hs : s.sized) (hu : a.up i = true) (hc : faultSeen i c = true) :
    (s.run t fun s => s.faultIn i c).isl i = { a.isl i with
      st := .restarting, since := a.now, restarts := wrap 32 ((a.isl i).restarts + 1), faults := a.now :: a.recentFaults i,
      cause := faultCode c, third := decide (2 ≤ (a.recentFaults i).length) }
    ∧ ∀ j, j ≠ i → (s.run t fun s => s.faultIn i c).isl j = a.isl j :=
  State.run_setIsl s t ha hs (f := a.faulted i c) (body := fun s => s.faultIn i c) (State.faultIn_islands hu hc)

theorem State.islandFault_ignored {i : Island} {c : FaultCause} (h : a.up i = false ∨ faultSeen i c = false) :
    Only told a (s.run t fun s => s.faultIn i c) := by
  have e : a.faultIn i c = a := if_pos (by rcases h with e | e <;> simp [e])
  subst ha
  refine Only.run (fun _ h => h) ?_
  rw [e]
  exact Only.refl _ _

theorem State.islandRestartEnd_runs {i : Island} (hs : s.sized) (hst : (a.isl i).st = .restarting) (ht : a.now ≤ (a.isl i).since + 40 * us)
    (h3 : (a.isl i).third = false) :
    Yields (exec (.islandRestartEnd t i) s) fun u => u.isl i = { a.isl i with st := .running, back := a.now } ∧ ∀ j, j ≠ i → u.isl j = a.isl j :=
  .next (State.run_setIsl s t ha hs (f := fun x => { x with st := .running, back := a.now }) (body := fun s => s.restartEnds i)
    (State.restartEnds_islands hst ht h3))

theorem State.islandFailed_fails {i : Island} {c : FailCause} (hs : s.sized) (hst : (a.isl i).st = .restarting)
    (hc : (c = .restartLate ∧ (a.isl i).since + 40 * us ≤ a.now) ∨ c = .storeCheck ∨ (c = .thirdFault ∧ (a.isl i).third = true)) :
    Yields (exec (.islandFailed t i c) s) fun u => (u.isl i).st = .failed ∧ ∀ j, j ≠ i → u.isl j = a.isl j := by
  have hd : a.failDue i c = true := by
    unfold State.failDue
    rcases hc with ⟨rfl, h⟩ | rfl | ⟨rfl, h⟩
    · simp [hst, h]
    · simp [hst]
    · simp [hst, h]
  obtain ⟨h1, h2⟩ := State.run_setIsl s t ha hs (body := fun s => s.islandFails i c) (State.islandFails_islands hd)
  exact ⟨_, rfl, congrArg IslandRec.st h1, h2⟩

theorem State.keySlot_damaged {slot : Nat} {x : KeySlot} (hx : Tbl.get? a.keys.slots slot = some x) (hv : x.st = .valid) :
    Yields (exec (.protectedStoreError t (.keySlot slot)) s) fun u =>
      Tbl.get? u.keys.slots slot = some { x with st := .damaged } ∧ Only (told ++ [Part.keys]) a u := by
  have e : a.keyLost slot = { a with keys := { a.keys with slots := Tbl.put a.keys.slots slot { x with st := .damaged } } } := by
    unfold State.keyLost
    rw [hx]
    exact if_pos hv
  refine ⟨_, rfl, ?_, ?_⟩
  · rw [State.run_keys, ha, show a.storeError (.keySlot slot) = a.keyLost slot from rfl, e]
    exact Tbl.get?_put ..
  · rw [← ha]
    exact Only.run (by decide) ((Only.refl _ _).step fun p hp => State.keyLost_same (Part.ne_of_notMem hp (by decide)) ..)

theorem State.roverState_damaged {m : Nat} (hm : m < a.tier) (hu : a.up .memory = true) :
    Yields (exec (.protectedStoreError t (.roverState m)) s) fun u =>
      u.rover = { a.rover with blocks := Tbl.upd a.rover.blocks (a.rover.pointer m) fun b => { b with damaged := true } } ∧ Only (told ++ [Part.rover]) a u := by
  have e : a.storeError (.roverState m) = a.roverDamage m := if_pos (by simp [hm, hu])
  refine ⟨_, rfl, ?_, ?_⟩
  · rw [State.run_rover, ha, e]
    rfl
  · subst ha
    refine Only.run (by decide) ?_
    rw [e]
    exact (Only.refl _ _).step fun p hp => State.roverDamage_same (Part.ne_of_notMem hp (by decide)) ..

theorem State.logRecord_damaged {i : Nat} {r : LogRec} (hu : a.up .aon = true) (hr : Tbl.get? a.log.slots i = some r) :
    Yields (exec (.protectedStoreError t (.logRecord i)) s) fun u =>
      Tbl.get? u.log.slots i = some { r with damaged := true } ∧ Only (told ++ [Part.log]) a u := by
  have e : a.storeError (.logRecord i) = { a with log := { a.log with slots := Tbl.upd a.log.slots i fun r => { r with damaged := true } } } :=
    if_pos (by simp [hu, hr])
  refine ⟨_, rfl, ?_, ?_⟩
  · rw [State.run_log, ha, e]
    show Tbl.get? (Tbl.upd a.log.slots i fun r => { r with damaged := true }) i = _
    rw [Tbl.get?_upd, if_pos rfl, hr]
    rfl
  · subst ha
    refine Only.run (by decide) ?_
    rw [e]
    exact (Only.refl _ _).step fun p hp => same_log (Part.ne_of_notMem hp (by decide)) ..

theorem State.queuePacket_dropped {q i : Nat} (hq : q < 1024) (hi : i < (a.fabric.queue q).pkts.length) (hu : a.up .fabric = true) :
    Yields (exec (.protectedStoreError t (.queuePacket q i)) s) fun u =>
      (u.fabric.queue q).drops = wrap 32 ((a.fabric.queue q).drops + 1) ∧ (u.fabric.queue q).pkts = (a.fabric.queue q).pkts.eraseIdx i := by
  have h : (s.run t fun s => s.storeError (.queuePacket q i)).fabric.queue q = (a.packetLost q i).fabric.queue q := by
    unfold Fabric.queue
    rw [State.run_queues, ha]
    rfl
  rw [State.packetLost_drops hq hi hu] at h
  exact ⟨_, rfl, congrArg Queue.drops h, congrArg Queue.pkts h⟩

theorem State.brood_freed {d : Nat} (hd : d < 65536) (hu : a.up .fabric = true) :
    Yields (exec (.protectedStoreError t (.brood d)) s) fun u => (u.fabric.desc d).st = .free ∧ (u.fabric.desc d).outcome = 0x40 := by
  obtain ⟨x, hx⟩ := State.descLost_free hd hu
  have h : (s.run t fun s => s.storeError (.brood d)).fabric.desc d = (a.descLost d).fabric.desc d := by
    unfold Fabric.desc Fabric.isApplet
    rw [State.run_brood, State.run_appBase, State.run_appCount, ha]
    rfl
  rw [hx] at h
  exact ⟨_, rfl, congrArg Desc.st h, congrArg Desc.outcome h⟩

theorem State.linkEntry_ends {m : Nat} {l : Link} (hu : a.up .radio = true) (hl : a.link? m = some l) :
    Yields (exec (.protectedStoreError t (.linkEntry m)) s) fun u => u.link? m = none ∧ u.radio.ended = wrap 32 (a.radio.ended + 1) := by
  have e : a.storeError (.linkEntry m) = a.endLink m 6 none (Ans.send 0x16) := if_pos hu
  refine .next ?_
  unfold State.link?
  rw [State.run_radio, ha, e]
  exact State.endLink_gone hl

theorem State.combBucket_blocked {b slot : Nat} (hb : b < a.buckets) (hs : slot < 32) (hu : a.up .comb = true) :
    Yields (exec (.protectedStoreError t (.combBucket b slot)) s) fun u =>
      { bucket := b, slot := slot, detect := a.ct, open_ := a.comb.openIn.vote.contains b : Blocked } ∈ u.comb.blocked
      ∧ ∀ e ∈ u.comb.entries, ¬ (e.bucket = b ∧ e.slot = slot) := by
  refine .next ?_
  rw [State.run_comb, ha]
  exact State.blockSlot_held hb hs hu

/-! ### Corrected errors -/

section
variable {i : Island} (hs : s.sized) (hu : a.up i = true)
include hs hu

theorem State.corrected_elsewhere : Yields (exec (.correctedEccError t i .elsewhere) s) fun u =>
    u.isl i = { a.isl i with ecc := wrap 32 ((a.isl i).ecc + 1) } ∧ (∀ j, j ≠ i → u.isl j = a.isl j)
    ∧ u.health.rowErrs = a.health.rowErrs ∧ u.health.pageErrs = a.health.pageErrs := by
  have e : a.corrected i .elsewhere = a.eccCounted i := if_neg (by simp [hu])
  obtain ⟨h1, h2⟩ := State.run_setIsl s t ha hs (body := fun s => s.corrected i .elsewhere) ((congrArg _ e).trans (State.eccCounted_islands a i))
  refine ⟨_, rfl, h1, h2, ?_⟩
  rw [State.run_health, ha, e]
  exact State.eccCounted_errs a i

theorem State.corrected_row {b r : Nat} : Yields (exec (.correctedEccError t i (.row b r)) s) fun u =>
    (u.isl i).ecc = wrap 32 ((a.isl i).ecc + 1) ∧ (∀ j, j ≠ i → u.isl j = a.isl j)
    ∧ Tbl.get? u.health.rowErrs (rowKey i.id b r) = some (a.now :: (Tbl.getD a.health.rowErrs (rowKey i.id b r) []).filter fun e => a.now < e + 86400 * sec) := by
  have e : a.corrected i (.row b r) = State.eccCounted { a with health := { a.health with rowErrs := withError a.health.rowErrs (rowKey i.id b r) a.now } } i :=
    if_neg (by simp [hu])
  obtain ⟨h1, h2⟩ := State.run_setIsl s t ha hs (body := fun s => s.corrected i (.row b r)) ((congrArg _ e).trans (State.eccCounted_islands _ i))
  refine ⟨_, rfl, congrArg IslandRec.ecc h1, h2, ?_⟩
  rw [State.run_health, ha, e, (State.eccCounted_errs _ i).1]
  exact Tbl.get?_put ..

theorem State.corrected_page {p : Nat} : Yields (exec (.correctedEccError t i (.page p)) s) fun u =>
    (u.isl i).ecc = wrap 32 ((a.isl i).ecc + 1) ∧ (∀ j, j ≠ i → u.isl j = a.isl j)
    ∧ Tbl.get? u.health.pageErrs p = some (a.now :: (Tbl.getD a.health.pageErrs p []).filter fun e => a.now < e + 86400 * sec) := by
  have e : a.corrected i (.page p) = State.eccCounted { a with health := { a.health with pageErrs := withError a.health.pageErrs p a.now } } i :=
    if_neg (by simp [hu])
  obtain ⟨h1, h2⟩ := State.run_setIsl s t ha hs (body := fun s => s.corrected i (.page p)) ((congrArg _ e).trans (State.eccCounted_islands _ i))
  refine ⟨_, rfl, congrArg IslandRec.ecc h1, h2, ?_⟩
  rw [State.run_health, ha, e, (State.eccCounted_errs _ i).2]
  exact Tbl.get?_put ..

end

end

/-- Settles O19: beside its own record, which a fault, a return, a failure or a corrected error writes, an island's step leaves every island's. -/
theorem islandFaults : Obligations.IslandFaults :=
  ⟨fun s t _ _ h1 h2 h3 => ⟨_, rfl, State.fault_restarts s t rfl h1 h2 h3⟩,
   fun s t _ _ h => ⟨_, rfl, State.islandFault_ignored s t rfl h⟩,
   fun s t _ h1 h2 => ⟨_, rfl, State.fault_restarts s t rfl h1 h2 rfl⟩,
   fun s t _ h1 h2 h3 h4 => State.islandRestartEnd_runs s t rfl h1 h2 h3 h4,
   fun s t _ _ h1 h2 h3 => State.islandFailed_fails s t rfl h1 h2 h3,
   fun s t _ _ h1 h2 => State.keySlot_damaged s t rfl h1 h2,
   fun s t _ h1 h2 => State.roverState_damaged s t rfl h1 h2,
   fun s t _ _ h1 h2 => State.logRecord_damaged s t rfl h1 h2,
   fun s t _ _ h1 h2 h3 => State.queuePacket_dropped s t rfl h1 h2 h3,
   fun s t _ h1 h2 => State.brood_freed s t rfl h1 h2,
   fun s t _ _ h1 h2 => State.linkEntry_ends s t rfl h1 h2,
   fun s t _ _ h1 h2 h3 => State.combBucket_blocked s t rfl h1 h2 h3,
   fun s t _ h1 h2 => State.corrected_elsewhere s t rfl h1 h2,
   fun s t _ _ _ h1 h2 => State.corrected_row s t rfl h1 h2,
   fun s t _ _ h1 h2 => State.corrected_page s t rfl h1 h2⟩

end Sys2Proof.Machine
end

section
set_option Elab.async false
/-!
PROOF. O17 fails: StageDiscard of the group of CapCommit, which needs Custodian, is answered ABSENT while the Security island has failed
(Table 2.9), and the shadow stays.
-/

namespace Sys2Proof.Machine

/-- The Security island has failed, and the shadow of the cap profile holds another value than the active set. -/
def capShadowHeld : State :=
  ({ State.reset with islands := modNth State.reset.islands Island.security.id fun x => { x with st := .failed } } : State).setVal (key 0x1010 1) [0x80]

theorem capShadowHeld_ready : let a := capShadowHeld.advance 0
    a.writes .firmware 0x1021 0 (leBytes 2 0x1010) = true ∧ (findObj 0x1010 0).any (fun r => decide (r.priv ≤ a.privOf .firmware) && (a.gasketOf r).isNone) = true ∧
      a.heldByOther .firmware 0x1010 = false ∧ a.val (key 0x1011 0) = [0] := by
  decide +kernel

/-- After the discard the shadow still holds its value. -/
theorem capShadowHeld_stays :
    (capShadowHeld.run 0 fun s => s.writeBy .firmware 0x1021 0 (leBytes 2 0x1010)).val (key 0x1010 1) = [0x80] := by
  decide +kernel

/-- Refutes O17: the firmware discards the shadow of the cap profile while the Security island has failed. No gasket before CapCommit's own island
is closed, and nobody else holds the group, but the group needs Custodian: StageDiscard is answered ABSENT, and the shadow keeps its value. -/
theorem not_stageGroups : ¬ Obligations.StageGroups := by
  rintro ⟨-, -, -, -, -, -, -, -, -, hdiscard, -⟩
  obtain ⟨hw, hr, hh, hv⟩ := capShadowHeld_ready
  cases hf : findObj 0x1010 0 with
  | none => rw [hf] at hr; cases hr
  | some r =>
    rw [hf] at hr
    simp only [Option.any_some, Bool.and_eq_true, decide_eq_true_eq, Option.isNone_iff_eq_none] at hr
    obtain ⟨v, hv', hm, -⟩ := hdiscard capShadowHeld 0 0x1010 .firmware r hw hf (by decide) hr.1 hr.2 hh
    cases hv'
    have h := hm (key 0x1010 1, key 0x1011 0) (by decide)
    exact absurd ((capShadowHeld_stays.symm.trans h).trans hv) (by decide)

end Sys2Proof.Machine
end

section
set_option Elab.async false
/-!
PROOF. O26: machine exposures, own searches and standby exposures of the Developer.
-/

namespace Sys2Proof.Machine

/-! ### Machine exposures -/

/-- An exposure of the device as it waits. -/
def Latent.arrived (pkt : Bytes) : Latent := ⟨u pkt 8 2 % 1024, si pkt 0 8, u pkt 12 4, pkt.drop 16, none⟩

/-- The last numbers of the machines' exposures after one more. -/
def State.seqsNoted (a : State) (pkt : Bytes) : Tbl (List Nat) :=
  let slot := u pkt 8 2 % 1024
  Tbl.put a.dev.seqs slot ((u (pkt.drop 16) 4 2 :: Tbl.getD a.dev.seqs slot []).take 16)

/-- The state with the sky that a start is given. -/
def State.sighted (a : State) (sky : List SkySignal) : State := { a with dev := { a.dev with sky := sky } }

theorem State.arrivalCheck_none {a : State} {slot : Nat} {r : Bytes} (h1 : a.sService = true) (h2 : slot < a.tier) (h3 : a.gone .developer = false)
    (h4 : exposureOk r = true) (h5 : (Tbl.getD a.dev.seqs slot []).contains (u r 4 2) = false) (h6 : a.dev.latents.length < a.latentMax) :
    a.arrivalCheck slot r = none := by
  unfold State.arrivalCheck
  rw [if_neg (by simp [h1, h3]; omega), if_neg (by simp [h4]), if_neg (by rw [h5]; decide), if_neg (by omega)]

theorem State.arrivalCheck_some {a : State} {slot : Nat} {r : Bytes} (h : a.sService = false ∨ a.tier ≤ slot ∨ a.gone .developer = true ∨
    exposureOk r = false ∨ (Tbl.getD a.dev.seqs slot []).contains (u r 4 2) = true ∨ a.latentMax ≤ a.dev.latents.length) :
    ∃ o, a.arrivalCheck slot r = some o := by
  unfold State.arrivalCheck
  split
  · exact ⟨_, rfl⟩
  · next h1 =>
    split
    · exact ⟨_, rfl⟩
    · next h2 =>
      split
      · exact ⟨_, rfl⟩
      · next h3 =>
        refine ⟨_, if_pos ?_⟩
        simp at h1 h2 h3
        obtain ⟨⟨h4, h5⟩, h6⟩ := h1
        rcases h with h | h | h | h | h | h
        · exact absurd (h4.symm.trans h) (by decide)
        · omega
        · exact absurd (h6.symm.trans h) (by decide)
        · exact absurd (h2.symm.trans h) (by decide)
        · exact absurd (by simpa using h) h3
        · exact h

theorem State.startCheck_none {a : State} {x : Latent} {sky : List SkySignal} {c : Nat} (h1 : a.holderIs x.slot x.machine = true)
    (h2 : a.time64 ≤ x.arrival + (a.cfg 0x3402 0 * ms : Nat)) (h3 : a.timed = true) (h4 : 5 ≤ a.freshSignals sky) (h5 : c ≤ a.machineBudget) :
    a.startCheck x sky c = none := by
  unfold State.startCheck
  rw [if_neg (by simp [h1]), if_neg (by omega), if_neg (by simp [h3]; omega), if_neg (by omega)]

theorem State.startCheck_some {a : State} {x : Latent} {sky : List SkySignal} (h : a.holderIs x.slot x.machine = false ∨
    x.arrival + (a.cfg 0x3402 0 * ms : Nat) < a.time64 ∨ a.timed = false ∨ a.freshSignals sky < 5) (c : Nat) : ∃ o, a.startCheck x sky c = some o := by
  unfold State.startCheck
  split
  · exact ⟨_, rfl⟩
  · next h1 =>
    split
    · exact ⟨_, rfl⟩
    · next h2 =>
      refine ⟨_, if_pos ?_⟩
      simp only [Bool.not_eq_true', Bool.not_eq_false] at h1
      rcases h with h | h | h | h
      · exact absurd (h1.symm.trans h) (by decide)
      · exact absurd h h2
      · simp [h]
      · simp [h]

section
variable {s : State} {t : Nat} {a : State} (ha : s.advance t = a)
include ha

theorem exposure_admitted {pkt : Bytes} (hc : a.up .compute = true) (h : a.arrivalCheck (u pkt 8 2 % 1024) (pkt.drop 16) = none) :
    Yields (exec (.devExposureArrival t pkt) s) fun v =>
      v.dev = { a.dev with latents := a.dev.latents ++ [Latent.arrived pkt], seqs := a.seqsNoted pkt }
      ∧ Only (told ++ [Part.dev]) a v := by
  refine .next ⟨?_, ?_⟩
  · rw [State.run_dev, ha, State.exposureArrival]
    simp only [hc, h]
    rfl
  · rw [← ha]
    exact Only.run (by decide) ((Only.refl _ _).step fun p hp =>
      State.exposureArrival_same (Part.ne_of_notMem hp (by decide)) (Part.ne_of_notMem hp (by decide)) ..)

theorem exposure_refused {pkt : Bytes} {o : Nat} (hc : a.up .compute = true) (h : a.arrivalCheck (u pkt 8 2 % 1024) (pkt.drop 16) = some o) :
    Yields (exec (.devExposureArrival t pkt) s) fun v =>
      v.dev = { a.dev with refused := wrap 32 (a.dev.refused + 1) } ∧ Only (told ++ [Part.dev]) a v
      ∧ ∃ o, a.arrivalCheck (u pkt 8 2 % 1024) (pkt.drop 16) = some o ∧ Out.engine Island.developer.id o ∈ v.out := by
  have e : a.exposureArrival pkt = a.devRefuse o := by
    unfold State.exposureArrival
    simp [hc, h]
  refine .next ⟨?_, ?_, o, h, ?_⟩
  · rw [State.run_dev, ha, e]
    rfl
  · rw [← ha]
    exact Only.run (by decide) ((Only.refl _ _).step fun p hp =>
      State.exposureArrival_same (Part.ne_of_notMem hp (by decide)) (Part.ne_of_notMem hp (by decide)) ..)
  · refine State.run_sends ?_
    rw [ha, e]
    exact List.mem_cons_self ..

section
variable {i : Nat} {sky : List SkySignal} {x : Latent} (hu : a.up .developer = true)
  (hi : a.dev.latents.findIdx? (fun x => x.started.isNone) = some i) (hx : a.dev.latents[i]? = some x)
include hu hi hx

omit ha in
/-- The first waiting exposure, where the budget holds its cost. -/
theorem State.exposureStart_eq {p : State} (hp : (a.sighted sky).spend false ((a.sighted sky).expSearch x.data sky).cost = some p) :
    a.exposureStart sky = match a.startCheck x sky ((a.sighted sky).expSearch x.data sky).cost with
      | some o => ((a.sighted sky).setDev fun d => { d with latents := d.latents.eraseIdx i }).devRefuse o
      | none => p.setDev fun d => { d with latents := d.latents.set i { x with started := some ((a.sighted sky).expSearch x.data sky) } } := by
  have hi' : (a.sighted sky).dev.latents.findIdx? (fun x => x.started.isNone) = some i := hi
  have hx' : (a.sighted sky).dev.latents[i]? = some x := hx
  have hu' : (a.sighted sky).up .developer = true := hu
  unfold State.exposureStart
  rw [show (a.setDev fun d => { d with sky := sky }) = a.sighted sky from rfl]
  simp only [hi', hx', hu', hp, Bool.not_true, Bool.false_eq_true, if_false]
  rw [show (a.sighted sky).startCheck x sky = a.startCheck x sky from rfl]
  split <;> simp_all

theorem exposure_starts {p : State} (hs : a.startCheck x sky ((a.sighted sky).expSearch x.data sky).cost = none)
    (hp : (a.sighted sky).spend false ((a.sighted sky).expSearch x.data sky).cost = some p) :
    Yields (exec (.devExposureStart t sky) s) fun v =>
      v.dev = { p.dev with latents := a.dev.latents.set i { x with started := some ((a.sighted sky).expSearch x.data sky) } } ∧
      Only (told ++ [Part.dev, Part.health]) a v := by
  have hl : p.dev.latents = a.dev.latents := by
    obtain ⟨q, -, rfl⟩ := Option.map_eq_some_iff.mp hp
    rw [State.count_eq]
    rfl
  refine .next ⟨?_, ?_⟩
  · rw [State.run_dev, ha, State.exposureStart_eq hu hi hx hp, hs, ← hl]
    rfl
  · rw [← ha]
    exact Only.run (by decide) ((Only.refl _ _).step fun p hp => State.exposureStart_same (Part.ne_of_notMem hp (by decide))
      (Part.ne_of_notMem hp (by decide)) (Part.ne_of_notMem hp (by decide)) ..)

theorem exposure_start_refused {o : Nat} (hs : a.startCheck x sky ((a.sighted sky).expSearch x.data sky).cost = some o)
    (hp : ((a.sighted sky).spend false ((a.sighted sky).expSearch x.data sky).cost).isSome = true) :
    Yields (exec (.devExposureStart t sky) s) fun v =>
      v.dev = { a.dev with sky := sky, latents := a.dev.latents.eraseIdx i, refused := wrap 32 (a.dev.refused + 1) } ∧
      Only (told ++ [Part.dev]) a v := by
  obtain ⟨q, hq⟩ := Option.isSome_iff_exists.mp hp
  have e := State.exposureStart_eq hu hi hx hq
  rw [hs] at e
  refine .next ⟨?_, ?_⟩
  · rw [State.run_dev, ha, e]
    rfl
  · subst ha
    refine Only.run (by decide) ?_
    rw [e]
    exact (Only.refl _ _).step fun p hp => (State.devRefuse_same (Part.ne_of_notMem hp (by decide)) (Part.ne_of_notMem hp (by decide)) _ _ o).trans
      (State.setDev_same (Part.ne_of_notMem hp (by decide)) _ (State.sighted _ sky) _ |>.trans (same_dev (Part.ne_of_notMem hp (by decide)) ..))

end

/-- A development that the result queue takes. -/
theorem exposure_developed {p : State} {slot i : Nat} {sky : List SatEph} {x : Latent} {e : ExpSearch}
    (hu : a.up .developer = true) (hi : a.dev.latents.findIdx? (fun x => x.slot = slot) = some i) (hx : a.dev.latents[i]? = some x)
    (he : x.started = some e)
    (hp : a.post? (a.cfg 0x3401 0) (resultRecord (devStatus (a.develop x e sky).1.length e.residualMax e.sigmaMax (a.develop x e sky).2) x.slot x.machine
      (u x.data 4 2) (si x.data 8 8) (assisted x.data) (u x.data 48 4, u x.data 16 4)
      ((a.develop x e sky).2.bind fun f => a.priorOffset x.data f.ecef) e.cost e.residualMax (a.develop x e sky).2 (a.develop x e sky).1) = some p) :
    Yields (exec (.devResult t slot sky) s) fun v =>
      v.dev = { a.dev with latents := a.dev.latents.eraseIdx i, developed := wrap 32 (a.dev.developed + 1) } ∧ v.fabric.core = p.fabric.core := by
  have hd : p.dev = a.dev := (State.post?_same (pt := .dev) (by decide) (by decide) (by decide) (by decide) a a _ _ hp).mpr rfl
  have hissue (y : State) (op : ConfOp) : (y.issueConf slot op).dev = y.dev ∧ (y.issueConf slot op).fabric = y.fabric := by
    unfold State.issueConf
    split <;> exact ⟨rfl, rfl⟩
  have key : (a.devResult slot sky).dev = { p.dev with latents := p.dev.latents.eraseIdx i, developed := wrap 32 (p.dev.developed + 1) } ∧
      (a.devResult slot sky).fabric = p.fabric := by
    unfold State.devResult
    simp only [hi, hx, he, hu, hp, Bool.not_true, Bool.false_eq_true, if_false]
    split
    · exact ⟨(hissue _ _).1, (hissue _ _).2⟩
    · exact ⟨(hissue _ _).1, (hissue _ _).2⟩
  refine .next ⟨?_, ?_⟩
  · rw [State.run_dev, ha, key.1, hd]
  · rw [State.run_core, ha, key.2]

/-! ### Own searches -/

theorem ownSearch_starts {p : State} {i : Nat} {x : OwnSearch} {sigs : List Sig} {q : List Sig × List Sig}
    (hs : sigs = if x.kind = .cold && x.sigs = [] then a.coldSigs x.antenna else x.sigs)
    (hq : q = takeCost (fun y : Sig => a.ownCost x.kind y.signal) a.ownBudget sigs) (hu : a.up .developer = true) (hm : a.track.mode ≠ 1)
    (hi : a.dev.searches.findIdx? (fun x => a.feeds x.group) = some i) (hx : a.dev.searches[i]? = some x) (hn : q.1 ≠ [])
    (hp : a.spend true ((q.1.map fun y : Sig => a.ownCost x.kind y.signal).sum) = some p) :
    Yields (exec (.devOwnSearchStart t) s) fun v =>
      v.dev = { p.dev with
        running := a.dev.running ++
          [{ x with sigs := q.1, at_ := a.now, threshold := a.cfg 0x3404 0, freqUnc := a.cfg 0x3407 0, sure := a.ownSure x.kind }],
        searches := if q.2 = [] then a.dev.searches.eraseIdx i else a.dev.searches.set i { x with sigs := q.2 } }
      ∧ Only (told ++ [Part.dev, Part.health]) a v := by
  have e : a.ownStart = p.setDev fun d => { d with
      searches := if q.2 = [] then a.dev.searches.eraseIdx i else a.dev.searches.set i { x with sigs := q.2 },
      running := d.running ++ [{ x with sigs := q.1, at_ := p.now, threshold := p.cfg 0x3404 0, freqUnc := p.cfg 0x3407 0, sure := p.ownSure x.kind }] } := by
    unfold State.ownStart
    subst hs hq
    simp only [hu, hm, hi, hx, hn, hp, Bool.not_true, Bool.false_or, decide_false, Bool.false_eq_true, if_false]
  have hl : (p.setDev fun d => { d with
      searches := if q.2 = [] then a.dev.searches.eraseIdx i else a.dev.searches.set i { x with sigs := q.2 },
      running := d.running ++ [{ x with sigs := q.1, at_ := p.now, threshold := p.cfg 0x3404 0, freqUnc := p.cfg 0x3407 0, sure := p.ownSure x.kind }] }).dev
      = { p.dev with
        running := a.dev.running ++
          [{ x with sigs := q.1, at_ := a.now, threshold := a.cfg 0x3404 0, freqUnc := a.cfg 0x3407 0, sure := a.ownSure x.kind }],
        searches := if q.2 = [] then a.dev.searches.eraseIdx i else a.dev.searches.set i { x with sigs := q.2 } } := by
    obtain ⟨r, -, rfl⟩ := Option.map_eq_some_iff.mp hp
    rw [State.count_eq]
    rfl
  refine .next ⟨?_, ?_⟩
  · rw [State.run_dev, ha, e, hl]
  · rw [← ha]
    exact Only.run (by decide) ((Only.refl _ _).step fun p hp => State.ownStart_same (Part.ne_of_notMem hp (by decide))
      (Part.ne_of_notMem hp (by decide)) ..)

/-- What a part of an own search finds in the samples it took. -/
def State.ownFound (a : State) (x : OwnSearch) (cap : Snapshot) (sky : List SatEph) : List Found :=
  (x.sigs.map fun y => searchSignal ((snapshotBand cap y.signal).take (4 * bandRate (bandOf y.signal))) y (a.ownPlan x sky y)).filter
    fun f => x.threshold ≤ f.ratio

theorem ownSearch_done {cap : Snapshot} {sky : List SatEph} {x : OwnSearch} {rest : List OwnSearch} (hu : a.up .developer = true)
    (hr : a.dev.running = x :: rest) :
    Yields (exec (.devOwnSearchDone t ⟨cap, sky⟩) s) fun v =>
      v.dev = { a.dev with running := rest, searches := a.dev.searches ++ a.nextSearches x (a.ownFound x cap sky) } ∧
      Only (told ++ [Part.dev, Part.track]) a v := by
  have hand (g : State → Found → Found) (l : List Found) (b : State) : (l.foldl (fun s f => s.handover x.antenna (g s f)) b).dev = b.dev := by
    induction l generalizing b with
    | nil => rfl
    | cons f l ih => exact (ih _).trans ((State.handover_same (pt := .dev) (by decide) b b _ _).mpr rfl)
  refine .next ⟨?_, ?_⟩
  · rw [State.run_dev, ha, State.ownDone, hr]
    simp only [hu, Bool.not_true, Bool.false_eq_true, if_false]
    exact hand (fun s f => { f with codePhase := laterPhase f (s.now - x.at_) }) _ _
  · rw [← ha]
    exact Only.run (by decide) ((Only.refl _ _).step fun p hp => State.ownDone_same (Part.ne_of_notMem hp (by decide))
      (Part.ne_of_notMem hp (by decide)) ..)

/-- The signal of a satellite in view. -/
def skySig (y : SkySignal) : Sig := ⟨y.system, y.sat, y.signal⟩

theorem reacquires {sky : List SkySignal} (hu : a.up .developer = true) (hm : a.track.mode ≠ 1) :
    Yields (exec (.devReacquireTick t sky) s) fun v =>
      v.dev.sky = sky ∧ a.dev.searches <+: v.dev.searches ∧ Only (told ++ [Part.dev]) a v
      ∧ ∀ y ∈ sky, isSignal y.signal = true → 0 < allotCount (a.allotOf (groupOf 0 y.signal)) y.signal →
          a.track.holder (groupOf 0 y.signal) (skySig y) = none → ∃ q ∈ v.dev.searches, q.antenna = 0 ∧ (skySig y) ∈ q.sigs := by
  refine .next ?_
  rw [State.run_dev, ha]
  have honly : Only (told ++ [Part.dev]) a (s.run t fun s => s.reacquire sky) := by
    rw [← ha]
    exact Only.run (by decide) ((Only.refl _ _).step fun p hp => State.reacquire_same (Part.ne_of_notMem hp (by decide)) ..)
  unfold State.reacquire
  extract_lets b asked sigs want wa wb mk warm cold
  have hb : ¬ (!b.up .developer || decide (b.track.mode = 1)) = true := by
    show ¬ (!a.up .developer || decide (a.track.mode = 1)) = true
    simp [hu, hm]
  rw [if_neg hb]
  refine ⟨rfl, ?_, honly, ?_⟩
  · show a.dev.searches <+: a.dev.searches ++ _ ++ _ ++ _
    rw [List.append_assoc, List.append_assoc]
    exact List.prefix_append ..
  · intro y hy h1 h2 h3
    show ∃ q ∈ a.dev.searches ++ mk 0 .warm warm ++ mk 0 .cold cold ++ mk 1 .second wb, _
    by_cases hask : (0, skySig y) ∈ asked
    · obtain ⟨q, hq, hyq⟩ := List.mem_flatMap.mp hask
      obtain ⟨z, hz, e⟩ := List.mem_map.mp hyq
      obtain ⟨h0, rfl⟩ := Prod.mk.inj e
      exact ⟨q, by simp [show q ∈ a.dev.searches from hq], h0, hz⟩
    · have hmk (k : SearchKind) (l : List Sig) (h : (skySig y) ∈ l) : ∃ q ∈ mk 0 k l, q.antenna = 0 ∧ (skySig y) ∈ q.sigs :=
        ⟨OwnSearch.new 0 k l [] 0, by simp [mk, List.ne_nil_of_mem h], rfl, h⟩
      have hw : (skySig y) ∈ wa := by
        refine List.mem_filter.mpr ⟨List.mem_map.mpr ⟨y, hy, rfl⟩, ?_⟩
        have h3' : b.track.holder (groupOf 0 (skySig y).signal) (skySig y) = none := h3
        have h2' : 0 < allotCount (b.allotOf (groupOf 0 (skySig y).signal)) (skySig y).signal := h2
        have h1' : isSignal (skySig y).signal = true := h1
        simp [want, h1', h2', h3', hask]
      by_cases hk : b.searchKind (skySig y) = .warm
      · obtain ⟨q, hq, h⟩ := hmk .warm warm (List.mem_filter.mpr ⟨hw, by simpa using hk⟩)
        exact ⟨q, by simp [hq], h⟩
      · obtain ⟨q, hq, h⟩ := hmk .cold cold (List.mem_filter.mpr ⟨hw, by simpa using hk⟩)
        exact ⟨q, by simp [hq], h⟩

/-! ### Standby exposures -/

section
variable {k : Int} (hk : k = a.time64.fdiv (a.cfg 0x3410 0 * ms : Nat)) (hu : a.up .developer = true) (hm : a.track.mode = 1)
  (hs : a.dev.standby = none) (hp : a.dev.period ≠ some k)
include hk hu hm hs hp

omit ha in
theorem State.standbyExposure_eq : a.standbyExposure = ((a.spend true a.standbySearch.cost).getD a).setDev fun d =>
    { d with period := some k, standby := some ⟨k * (a.cfg 0x3410 0 * ms : Nat), a.now, a.cfg 0x3411 0, a.standbySearch, (a.spend true a.standbySearch.cost).isSome⟩ } := by
  subst hk
  unfold State.standbyExposure
  exact if_neg (by rw [hu, hm, hs, decide_eq_false hp]; decide)

theorem standby_taken {p : State} (h : a.spend true a.standbySearch.cost = some p) :
    Yields (exec (.devStandbyExposure t) s) fun v =>
      v.dev = { p.dev with period := some k, standby := some ⟨k * (a.cfg 0x3410 0 * ms : Nat), a.now, a.cfg 0x3411 0, a.standbySearch, true⟩ } ∧
      Only (told ++ [Part.dev, Part.health]) a v := by
  refine .next ⟨?_, ?_⟩
  · rw [State.run_dev, ha, State.standbyExposure_eq hk hu hm hs hp, h]
    rfl
  · rw [← ha]
    exact Only.run (by decide) ((Only.refl _ _).step fun p hp => State.standbyExposure_same (Part.ne_of_notMem hp (by decide))
      (Part.ne_of_notMem hp (by decide)) ..)

theorem standby_waits (h : a.spend true a.standbySearch.cost = none) :
    Yields (exec (.devStandbyExposure t) s) fun v =>
      v.dev = { a.dev with period := some k, standby := some ⟨k * (a.cfg 0x3410 0 * ms : Nat), a.now, a.cfg 0x3411 0, a.standbySearch, false⟩ } ∧
      Only (told ++ [Part.dev]) a v := by
  have e := State.standbyExposure_eq hk hu hm hs hp
  rw [h] at e
  refine .next ⟨?_, ?_⟩
  · rw [State.run_dev, ha, e]
    rfl
  · subst ha
    refine Only.run (by decide) ?_
    rw [e]
    exact (Only.refl _ _).step fun p hp => State.setDev_same (Part.ne_of_notMem hp (by decide)) ..

end

/-- The result record of a standby exposure. -/
def State.standbyRecord (a : State) (x : StandbyExp) (det : List Found) (fix : Option DevFix) : Bytes :=
  resultRecord (devStatus det.length x.search.residualMax x.search.sigmaMax fix) 0xFFFF 0 (Config.rand a.free % 65536) x.at_ false (0, 0) none
    x.search.cost x.search.residualMax fix det

theorem standby_developed {cap : Snapshot} {sky : List SatEph} {x : StandbyExp} {at_ : V3} {sol : Option Solved} {fix : Option DevFix}
    {h : List Found × Heard} (hh : h = a.standbyHeard x cap sky)
    (hat : at_ = if a.base.survey.isNone && a.cfg 0x3609 0 ≠ 0 then a.base.ref else a.homePos)
    (hsol : sol = if 5 ≤ h.1.length then snapshotSolve (v3m at_) (v3m at_) x.at_ false h.2 else none)
    (hfix : fix = sol.map fun v => { devFix at_ x.at_ h.2.length v with tExp := x.at_ - a.gnssOffset (biasNs v.bias) })
    (hu : a.up .developer = true) (hs : a.dev.standby = some x) (hx : x.started = true) :
    Yields (exec (.devStandbyResult t ⟨cap, sky⟩) s) fun v =>
      v.dev.standby = none ∧ v.dev.found = h.1 ∧ v.dev.foundAt = x.taken ∧ v.free = a.free + 1 ∧ v.dev.result = a.standbyRecord x h.1 fix := by
  have hoff (y : State) (n : Int) : (y.offset 4 n 0).dev = y.dev ∧ (y.offset 4 n 0).free = y.free :=
    ⟨(State.offset_same (pt := .dev) (by decide) (by decide) y y 4 n 0).mpr rfl, (State.offset_same (pt := .free) (by decide) (by decide) y y 4 n 0).mpr rfl⟩
  have key (w : State) (hw : a.standbyResult cap sky = w) : (∃ k, w.dev = { a.dev with
        standby := none, result := a.standbyRecord x h.1 fix, found := h.1, foundAt := x.taken, flags := k }) ∧ w.free = a.free + 1 := by
    rw [State.standbyResult, hs] at hw
    simp -zeta only at hw
    rw [hx, hu] at hw
    simp -zeta only [if_true, Bool.not_true, Bool.false_eq_true, if_false] at hw
    extract_lets go h' n held at' sol' fix' bias at hw
    have hf : fix = fix' := by subst hat hsol hfix hh; rfl
    rw [hf, hh]
    rw [show go = some a from rfl] at hw
    simp -zeta only at hw
    extract_lets r y z at hw
    have hz : z.dev = y.dev ∧ z.free = y.free := by
      clear_value bias
      cases bias with
      | some b => exact hoff _ _
      | none => exact ⟨rfl, rfl⟩
    clear_value fix' held
    split at hw
    · next f _ _ =>
      extract_lets far w' at hw
      subst hw
      have hd : (if far = true then w'.logEv .devStandbyPosition [] else w').dev = w'.dev ∧
          (if far = true then w'.logEv .devStandbyPosition [] else w').free = w'.free := by
        split
        · rw [State.logEv_eq]
          exact ⟨rfl, rfl⟩
        · exact ⟨rfl, rfl⟩
      exact ⟨⟨b2n far, hd.1.trans (congrArg (fun d : Developer => { d with flags := b2n far }) hz.1)⟩, hd.2.trans hz.2⟩
    · subst hw
      exact ⟨⟨a.dev.flags, hz.1⟩, hz.2⟩
  obtain ⟨⟨k, h1⟩, h2⟩ := key _ rfl
  refine .next ?_
  rw [State.run_dev, State.run_free, ha]
  dsimp only
  rw [h1, h2]
  exact ⟨rfl, rfl, rfl, rfl, rfl⟩

end

/-- Settles O26: a case for each clause, from what the Developer's operation does there. -/
theorem developerSearches : Obligations.DeveloperSearches := by
  unfold Obligations.DeveloperSearches
  refine ⟨fun s t pkt hc h1 h2 h3 h4 h5 h6 => exposure_admitted rfl hc (State.arrivalCheck_none h1 h2 h3 h4 h5 h6), fun s t pkt hc h => ?_,
    fun s p t i sky x hu hi hx h1 h2 h3 h4 h5 hp => exposure_starts rfl hu hi hx (State.startCheck_none h1 h2 h3 h4 h5) hp,
    fun s t i sky x hu hi hx hp h => ?_, fun s p t slot i sky x e hu hi hx he hp => exposure_developed rfl hu hi hx he hp,
    fun s p t i x hu hm hi hx hn hp => ownSearch_starts rfl rfl rfl hu hm hi hx hn hp,
    fun s t cap sky x rest hu hr => ownSearch_done rfl hu hr, fun s t sky hu hm => reacquires rfl hu hm,
    fun s p t hu hm hs hk hp => standby_taken rfl rfl hu hm hs hk hp, fun s t hu hm hs hk hp => standby_waits rfl rfl hu hm hs hk hp,
    fun s t cap sky x hu hs hx => standby_developed rfl rfl rfl rfl rfl hu hs hx⟩
  · obtain ⟨o, ho⟩ := State.arrivalCheck_some h
    exact exposure_refused rfl hc ho
  · obtain ⟨o, ho⟩ := State.startCheck_some (a := s.advance t) (x := x) (sky := sky) h _
    exact exposure_start_refused rfl hu hi hx ho hp

end Sys2Proof.Machine
end

section
set_option Elab.async false
/-!
PROOF. O25: gain control, jamming, sample clocks, gaps, standby and jumps of the sample ports.
-/

namespace Sys2Proof.Machine

/-! ### One port, one channel -/

theorem State.port_setPort {s : State} {g : Nat} (h : g < s.track.ports.length) (f : GsPort → GsPort) : (s.setPort g f).port g = f (s.port g) :=
  modNth_getD f _ h

theorem State.port_setPort_ne {s : State} {g k : Nat} (h : k ≠ g) (f : GsPort → GsPort) : (s.setPort g f).port k = s.port k := modNth_getD_ne f _ h

theorem State.port_of_track {x y : State} (h : x.track = y.track) (g : Nat) : x.port g = y.port g := by
  unfold State.port
  rw [h]

theorem State.chan_of_track {x y : State} (h : x.track = y.track) (ch : Nat) : x.chan? ch = y.chan? ch := by
  unfold State.chan?
  rw [h]

theorem State.chan_setChan (s : State) (ch : Nat) (f : Chan → Chan) : (s.setChan ch f).chan? ch = (s.chan? ch).map f :=
  (Tbl.get?_upd ..).trans (if_pos rfl)

theorem State.chan_setChan_ne (s : State) {ch k : Nat} (h : k ≠ ch) (f : Chan → Chan) : (s.setChan ch f).chan? k = s.chan? k :=
  (Tbl.get?_upd ..).trans (if_neg h)

theorem State.run_port (s : State) (t g : Nat) (body : State → State) : (s.run t body).port g = (body (s.advance t)).port g :=
  State.port_of_track (State.run_track s t body) g

theorem State.run_chan (s : State) (t ch : Nat) (body : State → State) : (s.run t body).chan? ch = (body (s.advance t)).chan? ch :=
  State.chan_of_track (State.run_track s t body) ch

/-- A port whose clock runs is one of the four. -/
theorem State.port_lt {s : State} {g : Nat} (h : (s.port g).clock = true) : g < s.track.ports.length := by
  by_contra hn
  have : (s.port g).clock = false := by
    unfold State.port
    rw [List.getD_eq_default _ _ (by omega)]
    rfl
  exact absurd (this.symm.trans h) (by decide)

theorem State.logEv_track (s : State) (ev : Ev) (p : Bytes) : (s.logEv ev p).track = s.track := by rw [s.logEv_eq]

/-- Events of the device rest on nothing of the tracker. -/
theorem State.setTrack_logEv (s : State) (f : Tracking → Tracking) (ev : Ev) : ((s.setTrack f).logEv ev []).log = (s.logEv ev []).log :=
  State.logEv_log_congr (x := s.setTrack f) (y := s) rfl rfl rfl rfl rfl ev []

/-- The entry of a table whose values change by key. -/
theorem Tbl.get?_mapKey {α : Type} (t : Tbl α) (i : Nat) (f : Nat → α → α) : Tbl.get? (t.map fun e => (e.1, f e.1 e.2)) i = (Tbl.get? t i).map (f i) := by
  induction t with
  | nil => rfl
  | cons x t ih =>
    simp only [List.map_cons, Tbl.get?]
    split
    · next h => rw [h]; rfl
    · exact ih

/-- Sharing anew moves what the watch channels do, and nothing else. -/
def State.reshares (a b : State) : Prop := ∃ w sh, b = a.setTrack fun t => { t with watch := w, shared := sh }

theorem State.reshareGroup_reshares (a : State) (g : Nat) : a.reshares (a.reshareGroup g) := by
  unfold State.reshareGroup
  have key (l : List Nat) : ∀ b, a.reshares b → a.reshares (l.foldl (fun s c => s.reshare g c) b) := by
    induction l with
    | nil => exact fun b h => h
    | cons c l ih =>
      rintro b ⟨w, sh, rfl⟩
      exact ih _ ⟨_, _, rfl⟩
  exact key _ _ ⟨a.track.watch, a.track.shared, rfl⟩

theorem State.reshares.trans {a b c : State} (h : a.reshares b) (k : b.reshares c) : a.reshares c := by
  obtain ⟨w, sh, rfl⟩ := h
  obtain ⟨w', sh', rfl⟩ := k
  exact ⟨w', sh', rfl⟩

/-! ### Gain control -/

section
variable {a : State} {g : Nat} (hg : g < a.track.ports.length)
include hg

theorem State.offsetTick_port (c : Nat) : ∃ o m, (a.offsetTick g c).port g = { a.port g with offset := o, mark := m } := by
  unfold State.offsetTick
  dsimp only
  repeat' split
  · exact ⟨_, _, rfl⟩
  · exact ⟨_, _, State.port_setPort hg _⟩
  · exact ⟨_, _, rfl⟩
  · exact ⟨_, _, State.port_setPort hg _⟩

theorem State.jamJudge_port (c : Bool) : ∃ q j, (a.jamJudge g c).port g = { a.port g with quietAt := q, jam := j } := by
  unfold State.jamJudge
  dsimp only
  split
  · exact ⟨_, _, (State.port_of_track (State.logEv_track ..) g).trans (State.port_setPort hg _)⟩
  · exact ⟨_, _, State.port_setPort hg _⟩

end

/-- A change that leaves every port but one, and the number of ports. -/
def State.portsKeep (g : Nat) (a b : State) : Prop := b.track.ports.length = a.track.ports.length ∧ ∀ k, k ≠ g → b.port k = a.port k

theorem State.portsKeep.trans {g : Nat} {a b c : State} (h : State.portsKeep g a b) (k : State.portsKeep g b c) : State.portsKeep g a c :=
  ⟨k.1.trans h.1, fun i hi => (k.2 i hi).trans (h.2 i hi)⟩

theorem State.portsKeep_same {g : Nat} {a b : State} (h : b.track = a.track) : State.portsKeep g a b :=
  ⟨by rw [h], fun k _ => State.port_of_track h k⟩

theorem State.setPort_keep (a : State) (g : Nat) (f : GsPort → GsPort) : State.portsKeep g a (a.setPort g f) :=
  ⟨modNth_length _ _ _, fun _ h => State.port_setPort_ne h f⟩

theorem State.offsetTick_keep (a : State) (g c : Nat) : State.portsKeep g a (a.offsetTick g c) := by
  unfold State.offsetTick
  dsimp only
  repeat' split
  · exact State.portsKeep_same rfl
  · exact State.setPort_keep ..
  · exact State.portsKeep_same rfl
  · exact State.setPort_keep ..

theorem State.jamJudge_keep (a : State) (g : Nat) (c : Bool) : State.portsKeep g a (a.jamJudge g c) := by
  unfold State.jamJudge
  dsimp only
  split
  · exact (State.setPort_keep a g _).trans (State.portsKeep_same (State.logEv_track ..))
  · exact State.setPort_keep ..

/-- The share of large samples in thousandths. -/
def largeShare (n : Nat × Nat) : Nat := if n.2 = 0 then 0 else (1000 * n.1 + n.2 / 2) / n.2

/-- The gain's duty after an update. -/
def State.agcDuty (a : State) (g : Nat) (n : Nat × Nat) : Nat :=
  if a.gsAuto g then nextDuty (a.port g).duty n.1 n.2 (gsTarget (a.gsVal g)) (Config.rand a.free) else (a.port g).duty

/-- What the update counts, before the gain moves. -/
def State.agcCounted (a : State) (g : Nat) (n : Nat × Nat) (counter : Nat) : State :=
  (a.setPort g fun p => { p with share := largeShare n }).offsetTick g counter

theorem State.agcCounted_eq (a : State) (g : Nat) (n : Nat × Nat) (counter : Nat) : ∃ l, a.agcCounted g n counter = a.setTrack fun t => { t with ports := l } := by
  unfold State.agcCounted State.offsetTick
  dsimp only
  repeat' split
  all_goals exact ⟨_, rfl⟩

theorem State.agcCounted_keep (a : State) (g : Nat) (n : Nat × Nat) (counter : Nat) : State.portsKeep g a (a.agcCounted g n counter) :=
  (State.setPort_keep ..).trans (State.offsetTick_keep ..)

theorem State.agcCounted_port {a : State} {g : Nat} (hg : g < a.track.ports.length) (n : Nat × Nat) (counter : Nat) :
    ∃ o m, (a.agcCounted g n counter).port g = { a.port g with
      share := largeShare n, offset := o, mark := m } := by
  unfold State.agcCounted
  obtain ⟨o, m, h⟩ := State.offsetTick_port (a := a.setPort g fun p => { p with share := largeShare n })
    (by rw [(State.setPort_keep a g _).1]; exact hg) counter
  exact ⟨o, m, h.trans (by rw [State.port_setPort hg])⟩

theorem State.agcCounted_auto {a : State} {g : Nat} (hg : g < a.track.ports.length) (n : Nat × Nat) (counter : Nat) :
    (a.agcCounted g n counter).gsAuto g = a.gsAuto g := by
  obtain ⟨o, m, h⟩ := State.agcCounted_port hg n counter
  obtain ⟨l, e⟩ := a.agcCounted_eq g n counter
  unfold State.gsAuto State.feeds
  rw [h]
  rw [e]
  rfl

/-- What a part of an update keeps of the state before it: the other ports, and of its own the share and the gain's duty. -/
structure State.gainKept (g share duty : Nat) (a b : State) : Prop where
  keep  : State.portsKeep g a b
  share : (b.port g).share = share
  duty  : (b.port g).duty = duty

section
variable {g share duty : Nat} {a b : State} (hg : g < a.track.ports.length) (h : State.gainKept g share duty a b)
include hg h

theorem State.gainKept.set {f : GsPort → GsPort} {d : Nat} (hs : (f (b.port g)).share = (b.port g).share) (hd : (f (b.port g)).duty = d) :
    State.gainKept g share d a (b.setPort g f) := by
  have hb : g < b.track.ports.length := h.keep.1.symm ▸ hg
  exact ⟨h.keep.trans (State.setPort_keep ..), by rw [State.port_setPort hb, hs, h.share], by rw [State.port_setPort hb, hd]⟩

omit hg in
theorem State.gainKept.logEv (ev : Ev) : State.gainKept g share duty a (b.logEv ev []) :=
  ⟨h.keep.trans (State.portsKeep_same (State.logEv_track ..)), by rw [State.port_of_track (State.logEv_track ..), h.share],
    by rw [State.port_of_track (State.logEv_track ..), h.duty]⟩

theorem State.gainKept.judge (c : Bool) : State.gainKept g share duty a (b.jamJudge g c) := by
  obtain ⟨q, j, e⟩ := State.jamJudge_port (h.keep.1.symm ▸ hg : g < b.track.ports.length) c
  exact ⟨h.keep.trans (State.jamJudge_keep ..), by rw [e]; exact h.share, by rw [e]; exact h.duty⟩

end

/-- What an update makes of its port and leaves of the others. -/
theorem State.agcUpdate_ports {a : State} {g : Nat} (hg : g < a.track.ports.length) (hu : a.up .tracking = true) (edges : List GsEdge) (counter : Nat)
    {n : Nat × Nat} (hn : gsCount (a.gsVal g) edges = n) :
    State.gainKept g (largeShare n) (a.agcDuty g n) a (a.agcUpdate g edges counter) := by
  have ha := State.agcCounted_auto hg n counter
  obtain ⟨o, m, hp⟩ := State.agcCounted_port hg n counter
  obtain ⟨l, he⟩ := a.agcCounted_eq g n counter
  have hc : State.gainKept g (largeShare n) (a.port g).duty a (a.agcCounted g n counter) := ⟨a.agcCounted_keep .., by rw [hp], by rw [hp]⟩
  have e : a.agcUpdate g edges counter = _ := if_neg (by rw [hu]; decide)
  extract_lets v n' b target at e
  obtain rfl : n' = n := hn
  rw [e, State.agcDuty]
  by_cases hauto : a.gsAuto g = true
  · rw [if_pos hauto, if_neg (by rw [show b.gsAuto g = a.gsAuto g from ha, hauto]; decide)]
    simp -zeta only [State.draw]
    extract_lets p duty duties limit highAt x y
    have hx : State.gainKept g (largeShare n') duty a x := State.gainKept.set (b := b.draw.1) hg ⟨hc.keep, hc.share, hc.duty⟩ rfl rfl
    have hy : State.gainKept g (largeShare n') duty a y := by
      unfold y
      split
      · exact hx.logEv _
      · exact hx
    have hd : p.duty = (a.port g).duty := (congrArg GsPort.duty hp : (b.port g).duty = _)
    have hf : b.free = a.free := by rw [show b = _ from he]; rfl
    rw [← hd, ← hf]
    exact hy.judge hg _
  · rw [if_neg hauto, if_pos (by rw [show b.gsAuto g = a.gsAuto g from ha]; simpa using hauto)]
    exact (hc.set hg rfl (by rw [hp])).judge hg _

/-! ### The clauses -/

section
variable {s : State} {t : Nat} {a : State} (ha : s.advance t = a)
include ha

theorem advance_ports (hs : s.sized) : a.track.ports.length = 4 := by
  obtain ⟨-, -, -, -, -, h, -⟩ := hs
  rw [← ha, show (s.advance t).track = s.track from
    (State.advance_same (pt := .track) (by decide) (by decide) (by decide) (by decide) s s t).mpr rfl, h]

theorem agc_updates {g counter : Nat} {edges : List GsEdge} (hs : s.sized) (hg : g < 4) (hu : a.up .tracking = true) :
    Yields (exec (.agcUpdate t g ⟨edges, counter⟩) s) fun u =>
      (u.port g).share = largeShare (gsCount (a.gsVal g) edges) ∧ (∀ k < 4, k ≠ g → u.port k = a.port k) ∧
      (u.port g).duty = a.agcDuty g (gsCount (a.gsVal g) edges) := by
  have h := State.agcUpdate_ports ((advance_ports ha hs).symm ▸ hg) hu edges counter rfl
  refine .next ⟨?_, fun k _ hk => ?_, ?_⟩
  · rw [State.run_port, ha]; exact h.share
  · rw [State.run_port, ha]; exact h.keep.2 k hk
  · rw [State.run_port, ha]; exact h.duty

theorem jamming_ends {g q : Nat} (hs : s.sized) (hg : g < 4) (hq : (a.port g).quietAt = some q) (hn : q + 10 * sec ≤ a.now) :
    Yields (exec (.gsJamClear t g) s) fun u => u.port g = { a.port g with jam := false } ∧ Only (told ++ [Part.track]) a u := by
  refine .next ⟨?_, ?_⟩
  · rw [State.run_port, ha, State.jamClear, State.port_setPort ((advance_ports ha hs).symm ▸ hg)]
    split
    · next q' hq' =>
      obtain rfl := Option.some.inj (hq.symm.trans hq')
      exact if_pos hn
    · next hq' => cases hq.symm.trans hq'
  · rw [← ha]
    exact Only.run (by decide) ((Only.refl _ _).step fun p hp => State.jamClear_same (Part.ne_of_notMem hp (by decide)) ..)

theorem clock_lost {g : Nat} (hu : a.up .tracking = true) (hc : (a.port g).clock = true) :
    Yields (exec (.gsClockLost t g) s) fun u =>
      u.port g = { a.port g with clock := false, mark := none }
      ∧ (∀ ch < 1152, u.chan? ch = (a.chan? ch).map fun c => if ch / 288 = g && tracks c then coastChan c a.now else c)
      ∧ u.log = (a.logEv .gsClockLost []).log ∧ Only (told ++ [Part.track, Part.log]) a u := by
  let chans := a.track.chans.map fun e => if e.1 / 288 = g && tracks e.2 then (e.1, coastChan e.2 a.now) else e
  let b := (a.setPort g fun p => { p with clock := false, mark := none }).setTrack fun t => { t with chans := chans }
  obtain ⟨w, sh, hb⟩ := b.reshareGroup_reshares g
  have e : a.clockLost g = (b.reshareGroup g).logEv .gsClockLost [] := if_neg (by rw [hu, hc]; decide)
  rw [hb] at e
  refine .next ⟨?_, fun ch _ => ?_, ?_, ?_⟩
  · rw [State.run_port, ha, e, State.port_of_track (State.logEv_track ..)]
    exact State.port_setPort (State.port_lt hc) _
  · rw [State.run_chan, ha, e, State.chan_of_track (State.logEv_track ..)]
    refine Eq.trans ?_ (Tbl.get?_mapKey a.track.chans ch fun k c => if k / 288 = g && tracks c then coastChan c a.now else c)
    show Tbl.get? chans ch = _
    congr 1
    refine List.map_congr_left fun x _ => ?_
    split <;> rfl
  · rw [State.run_log, ha, e]
    exact ((State.setTrack_logEv b _ _).trans (State.setTrack_logEv _ _ _)).trans (State.setTrack_logEv _ _ _)
  · rw [← ha]
    exact Only.run (by decide) ((Only.refl _ _).step fun p hp =>
      State.clockLost_same (Part.ne_of_notMem hp (by decide)) (Part.ne_of_notMem hp (by decide)) ..)

theorem clock_returns {g : Nat} (hs : s.sized) (hu : a.up .tracking = true) (hg : g < 4) (hc : (a.port g).clock = false) :
    Yields (exec (.gsClockBack t g) s) fun u =>
      u.port g = { a.port g with clock := true } ∧ u.log = (a.logEv .gsClockBack []).log ∧ Only (told ++ [Part.track, Part.log]) a u := by
  have e : a.clockBack g = (a.setPort g fun p => { p with clock := true }).logEv .gsClockBack [] :=
    if_neg (by rw [hu, hc, decide_eq_false (by omega)]; decide)
  refine .next ⟨?_, ?_, ?_⟩
  · rw [State.run_port, ha, e, State.port_of_track (State.logEv_track ..)]
    exact State.port_setPort ((advance_ports ha hs).symm ▸ hg) _
  · rw [State.run_log, ha, e]
    exact State.setTrack_logEv _ _ _
  · rw [← ha]
    exact Only.run (by decide) ((Only.refl _ _).step fun p hp =>
      State.clockBack_same (Part.ne_of_notMem hp (by decide)) (Part.ne_of_notMem hp (by decide)) ..)

theorem gap_taken {g : Nat} (hu : a.up .tracking = true) (hf : a.feeds g = true) :
    Yields (exec (.gsGap t g) s) fun u =>
      u.port g = { a.port g with gaps := wrap 32 ((a.port g).gaps + 1), gap := true }
      ∧ (∀ ch < 1152, u.chan? ch = (a.chan? ch).map fun c => if ch / 288 = g then
          { c with coasted := true, slips := if c.st = .phase ∨ c.st = .locked then (c.slips + 1) % 16 else c.slips } else c)
      ∧ Only (told ++ [Part.track]) a u := by
  have e : a.gsGap g = _ := if_neg (by rw [hu, hf]; decide)
  have hc : (a.port g).clock = true := (Bool.and_eq_true _ _ |>.mp hf).2
  refine .next ⟨?_, fun ch _ => ?_, ?_⟩
  · rw [State.run_port, ha, e]
    exact State.port_setPort (State.port_lt hc) _
  · rw [State.run_chan, ha, e]
    refine Eq.trans ?_ (Tbl.get?_mapKey a.track.chans ch fun k c => if k / 288 = g then
      { c with coasted := true, slips := if c.st = .phase ∨ c.st = .locked then (c.slips + 1) % 16 else c.slips } else c)
    show Tbl.get? (a.track.chans.map _) ch = _
    congr 1
    refine List.map_congr_left fun x _ => ?_
    split
    · by_cases h : x.2.st = .phase ∨ x.2.st = .locked
      · simp [h, slip]
      · simp [h]
    · rfl
  · rw [← ha]
    exact Only.run (by decide) ((Only.refl _ _).step fun p hp => State.gsGap_same (Part.ne_of_notMem hp (by decide)) ..)

theorem jump_taken {ch : Nat} {corr : List Corr} (hu : a.up .tracking = true) :
    Yields (exec (.bumpJump t ch corr) s) fun u =>
      u.chan? ch = (a.chan? ch).map (fun c => (bumpSide a.tapSpacing (a.takeCorr c corr).corr).elim (a.takeCorr c corr) fun side =>
        { slip (a.takeCorr c corr) with
          code := ((c.code + side * (Config.sidePeak c.sig.signal : Nat)) % (codePeriod c.sig.signal * 2 ^ 28 : Nat)).toNat, corr := [] })
      ∧ (∀ k < 1152, k ≠ ch → u.chan? k = a.chan? k) ∧ Only (told ++ [Part.track]) a u := by
  have e : a.bumpJump ch corr = _ := if_pos hu
  refine .next ⟨?_, fun k _ hk => ?_, ?_⟩
  · rw [State.run_chan, ha, e]
    refine (State.chan_setChan a ch _).trans ?_
    congr 1
    funext c
    dsimp only
    cases bumpSide a.tapSpacing (a.takeCorr c corr).corr <;> rfl
  · rw [State.run_chan, ha, e]
    exact State.chan_setChan_ne a hk _
  · rw [← ha]
    exact Only.run (by decide) ((Only.refl _ _).step fun p hp => State.bumpJump_same (Part.ne_of_notMem hp (by decide)) ..)

/-! ### Standby -/

section
variable {w : Caller} (hw : a.writes w 0x3000 0 [1] = true)
include hw

theorem standby_entered (h : a.stoppedAll = true) :
    Yields (exec (.trackStandbyEnter t w) s) fun u =>
      u.track = { a.track with mode := 1, chans := [], watch := u.track.watch, shared := u.track.shared } ∧ Only (told ++ [Part.track]) a u := by
  subst ha
  obtain ⟨d, -, h1, h2⟩ := State.run_stored hw (by decide) fun r => kind_of (by decide +kernel)
  generalize s.advance t = a at *
  have e : ((a.withDict d).applyWrite 0x3000 0 [1]).1 = (List.range 4).foldl State.reshareGroup
      ((a.withDict d).setTrack fun t => { t with mode := 1, chans := [] }) := by
    show ((a.withDict d).standbyEnter).1 = _
    unfold State.standbyEnter
    rw [if_neg (by rw [show (a.withDict d).stoppedAll = true from h]; decide)]
  have key (l : List Nat) : ∀ b : State, b.reshares (l.foldl State.reshareGroup b) := by
    induction l with
    | nil => exact fun b => ⟨b.track.watch, b.track.shared, rfl⟩
    | cons g l ih => exact fun b => (b.reshareGroup_reshares g).trans (ih _)
  obtain ⟨wt, sh, hk⟩ := key (List.range 4) ((a.withDict d).setTrack fun t => { t with mode := 1, chans := [] })
  rw [e, hk] at h1 h2
  refine .next ⟨?_, h2 _ (by decide) ?_⟩
  · have ht : (s.run t fun s => s.writeBy w 0x3000 0 [1]).track = _ := h1 .track (by decide)
    show (s.run t fun s => s.writeBy w 0x3000 0 [1]).track = _
    rw [ht]
    rfl
  · exact (Only.withDict a d (by decide)).step fun p hp => (State.setTrack_same (Part.ne_of_notMem hp (by decide)) ..).trans
      (State.setTrack_same (Part.ne_of_notMem hp (by decide)) ..)

theorem standby_refused (h : a.stoppedAll = false) : Yields (exec (.trackStandbyEnter t w) s) fun u => Only told a u := by
  subst ha
  obtain ⟨d, -, h1, h2⟩ := State.run_stored hw (by decide) fun r => kind_of (by decide +kernel)
  generalize s.advance t = a at *
  have e : ((a.withDict d).applyWrite 0x3000 0 [1]).1 = a.withDict d := by
    show ((a.withDict d).standbyEnter).1 = _
    unfold State.standbyEnter
    rw [if_pos (by rw [show (a.withDict d).stoppedAll = false from h]; decide)]
  rw [e] at h2
  exact .next (h2 _ (by decide) (Only.withDict a d (by decide)))

end

theorem standby_left {w : Caller} (hw : a.writes w 0x3000 0 [0] = true) (h : a.track.mode ≠ 0) :
    Yields (exec (.trackStandbyExit t w) s) fun u =>
      u.track = { a.track with mode := 0 }
      ∧ u.dev.searches = a.dev.searches ++ [if a.dev.found = [] then OwnSearch.new 0 .cold [] [] 0 else OwnSearch.new 0 .assisted (a.dev.found.map foundSig) a.dev.found a.dev.foundAt]
      ∧ Only (told ++ [Part.track, Part.dev]) a u := by
  subst ha
  obtain ⟨d, -, h1, h2⟩ := State.run_stored hw (by decide) fun r => kind_of (by decide +kernel)
  have hst : ((s.advance t).withDict d).applyWrite 0x3000 0 [0] = ((s.advance t).withDict d).standbyExit := rfl
  rw [hst] at h1 h2
  have hd : Only (told ++ [Part.track, Part.dev]) (s.advance t) ((s.advance t).withDict d).standbyExit.1 :=
    (Only.withDict _ d (by decide)).step fun p hp => State.standbyExit_same (Part.ne_of_notMem hp (by decide)) (Part.ne_of_notMem hp (by decide)) ..
  refine .next ⟨?_, ?_, h2 _ (by decide) hd⟩
  · refine (h1 .track (by decide)).trans ?_
    unfold State.standbyExit
    rw [if_neg (show ¬ ((s.advance t).withDict d).track.mode = 0 from h)]
    rfl
  · refine (congrArg Developer.searches (h1 .dev (by decide))).trans ?_
    unfold State.standbyExit
    rw [if_neg (show ¬ ((s.advance t).withDict d).track.mode = 0 from h)]
    show (s.advance t).dev.searches ++ [if (s.advance t).dev.found.map foundSig = [] then _ else _] = _
    rw [if_congr List.map_eq_nil_iff rfl rfl]
    rfl

end

/-- Settles O25. -/
theorem trackingPorts : Obligations.TrackingPorts :=
  ⟨fun _ _ _ _ _ hs hg hu => agc_updates rfl hs hg hu, fun _ _ _ _ hs hg hq hn => jamming_ends rfl hs hg hq hn,
    fun _ _ _ hu hc => clock_lost rfl hu hc, fun _ _ _ hs hu hg hc => clock_returns rfl hs hu hg hc, fun _ _ _ hu hf => gap_taken rfl hu hf,
    fun _ _ _ hw h => standby_entered rfl hw h, fun _ _ _ hw h => standby_refused rfl hw h, fun _ _ _ hw h => standby_left rfl hw h,
    fun _ _ _ _ hu => jump_taken rfl hu⟩

end Sys2Proof.Machine
end

section
set_option Elab.async false
/-!
PROOF. O22 fails: where a committed region group ends the session to a changed neighbour, the shadows that the session held return to their
active values, and a bundle object whose key is a region object's overwrites what the commit made active. No clause says that the keys of
bundle objects are the applet's.
-/

namespace Sys2Proof.Machine

/-- A bundle object of a stage group, under the key of the region polygon. -/
def polygonObj : AppletObj :=
  { key := key 0x4045 0, type := 17, access := 4, priv := 0, persistent := false, grouped := true, port := false, maxSize := 128, commit := 0x6000 }

/-- An empty shadow of the region group, a neighbour in the active group with a session that holds the applet's group, and an active value of the
bundle object. -/
def regionHeld : State :=
  let s := (State.reset.setVal (key 0x4046 1) [1]).setVal (key 0x4045 0 + 2 ^ 24) [1]
  let s := s.setNbr 0 fun x => { x with session := some 5 }
  { s with dict := { s.dict with holds := [{ commit := 0x6000, editor := .coil 5, last := 0 }] }, fabric := { s.fabric with bundle := some [polygonObj] } }

theorem regionHeld_ready : let a := regionHeld.advance 0
    regionHeld.sized ∧ a.writes .firmware 0x4040 0 [1] = true ∧ a.groupCheck 0x4040 = none ∧ a.up .comb = true ∧ a.comb.flight = [] ∧
      a.comb.prepared = [] ∧ a.val (key 0x4041 0) = [] := by
  decide +kernel

theorem regionHeld_overwritten : (regionHeld.run 0 fun s => s.writeBy .firmware 0x4040 0 [1]).val (key 0x4045 0) = [1] := by
  decide +kernel

/-- Refutes O22: the firmware commits a region group without polygons. The close of the session to the neighbour that is no longer there returns the
shadow of the bundle object, whose key is the active polygon's. -/
theorem not_regionPrepares : ¬ Obligations.RegionPrepares := by
  rintro ⟨hcommit, -⟩
  obtain ⟨hs, hw, hg, hu, hf, hp, hv⟩ := regionHeld_ready
  obtain ⟨v, hv', hm, -⟩ := hcommit regionHeld 0 .firmware hs hw hg hu hf hp
  cases hv'
  have h := hm (key 0x4041 0, key 0x4045 0) (by decide)
  exact absurd ((regionHeld_overwritten.symm.trans h).trans hv) (by decide)

end Sys2Proof.Machine
end

section
set_option Elab.async false
/-!
PROOF. O30 fails: a beacon's airtime follows the length of the site frame digest that its payload carries, and no clause says that the stored
digest has 8 bytes.
-/

namespace Sys2Proof.Machine

/-- A modem that sends a beacon every 0.5 ms, on channel 0. -/
def beaconValue : Bytes := [1, 0, 0, 12, 2, 0, 1, 0] ++ zeros 20

/-- A modem whose beacon falls due, with a beacon key, and a site frame digest of no bytes. -/
def beaconDue : State :=
  let k : KeySlot := { KeySlot.empty 0 with usage := 4, length := 256, st := .valid, material := zeros 32 }
  let s : State := { State.reset with keys := { Keyring.reset with slots := [(6, k)] },
                                      radio := { Radio.reset with modems := { Modem.reset with value := beaconValue } :: List.replicate 7 Modem.reset } }
  (s.setVal (key 0x2C0B 0) (leBytes 2 6)).setVal (key 0x4009 0) []

theorem beaconDue_ready : let a := beaconDue.advance 0
    a.keyFor (a.cfg 0x2C0B 0) 4 = some (zeros 32) ∧ a.up .radio = true ∧ a.modemOn 0 = true ∧ 0 < a.radio.modems.length ∧
      a.recurs (a.mvalNow 0).bOffset ((a.mvalNow 0).bPeriod * 20) = true ∧ (a.mvalNow 0).hb = false := by
  decide +kernel

/-- No transmission of the beacon ends at the instant that 68 bytes take. -/
theorem beaconDue_ends : let a := beaconDue.advance 0
    let v := a.mvalNow 0
    let x := a.recurAt v.bOffset (v.bPeriod * 20)
    ∀ o ∈ (beaconDue.run 0 fun s => s.sendBeacon 0).out, o ≠ Out.enable 0 true (x - 2000) (x + frameNs v.half 0 68 + 1000) := by
  decide +kernel

/-- Refutes O30: the beacon of `beaconDue` has 60 bytes, and the clause says the transmitter's enable ends with the 68th. -/
theorem not_linkEvents : ¬ Obligations.LinkEvents := by
  rintro ⟨-, -, -, -, -, -, hbeacon, -⟩
  obtain ⟨hk, hu, ho, hl, hr, hh⟩ := beaconDue_ready
  obtain ⟨u, hu', -, he, -⟩ := hbeacon beaconDue 0 0 (zeros 32) hk hu ho hl hr hh
  cases hu'
  exact beaconDue_ends _ he rfl

end Sys2Proof.Machine
end

section
set_option Elab.async false
/-!
PROOF. O43 fails: a BLOCK_READ of ConfigExport that asks for no bytes is a malformed record (R950), which makes no image, and its clause does
not ask for 1 to 1,348 bytes, as the clause of every other BLOCK_READ does (O15).
-/

namespace Sys2Proof.Machine

/-- A device with one session, 5, in which nothing waits. -/
def exporter : State :=
  { State.reset with dict := { Dict.reset with sessions := [(5, { (default : Session) with sid := 5, priv := 3 })] } }

theorem exporter_reads : (exporter.advance 0).reads (.coil 5 9) 3 0x1230 0 0 = true := by
  decide +kernel

/-- No image is made: no random value is taken. -/
theorem exporter_free :
    (exporter.run 0 fun s => s.record (.coil 5 9)
      { opcode := 3, flags := 0, req := 9, idx := 0x1230, sub := 0, res := 0, offset := 0, param := 0, data := [] }).free
      ≠ (exporter.advance 0).free + 1 := by
  decide +kernel

/-- Refutes O43: a BLOCK_READ of ConfigExport from offset 0 of 0 bytes. -/
theorem not_settingsBoant : ¬ Obligations.SettingsBoant := by
  rintro ⟨-, hexport, -⟩
  obtain ⟨u, hu, hfree, -⟩ := hexport exporter 0 5 9 0 exporter_reads
  cases hu
  exact exporter_free hfree

end Sys2Proof.Machine
end

section
set_option Elab.async false
/-!
PROOF. O42 fails: a record carries at most 1,348 bytes, and one with more is malformed (R950) and keeps nothing; the clause of the first segment of
an image bounds the segment by the image's length alone.
-/

namespace Sys2Proof.Machine

/-- A device with one session, 5, which owns an update of an image of 1,350 bytes. -/
def receiving : State :=
  { State.reset with
    dict := { Dict.reset with sessions := [(5, { (default : Session) with sid := 5, priv := 3 })],
                              holds := [{ commit := 0x1210, editor := .coil 5, last := 0 }] }
    boot := { State.reset.boot with update := some ⟨zeros 16 ++ leBytes 4 1350 ++ zeros 492⟩ } }

theorem receiving_ready : let a := receiving.advance 0
    a.admits (.coil 5 9) 4 (key 0x1211 0) 0 = true ∧ a.writes (.coil 5 9) 0x1211 0 (zeros 1350) = true ∧
      a.updateOf (.coil 5) = some ⟨zeros 16 ++ leBytes 4 1350 ++ zeros 492⟩ := by
  decide +kernel

/-- A segment of UpdatePayload is a BLOCK_WRITE record of its bytes. -/
theorem exec_updatePayload (s : State) (t sid req off total : Nat) (b : Bytes) (ok : Bool) :
    exec (.updatePayload t sid req off total ⟨b, ok⟩) s = .next (s.run t fun s => s.withFlash { fails := !ok, worn := 0 } fun s => s.record (.coil sid req)
      { opcode := 4, flags := 0, req := req, idx := 0x1211, sub := 0, res := 0, offset := off, param := total, data := b }) := rfl

/-- The session keeps no part of a segment of 1,349 bytes. -/
theorem receiving_keeps_nothing :
    ((Tbl.get? (receiving.run 0 fun s => s.withFlash { fails := !true, worn := 0 } fun s => s.record (.coil 5 9)
      { opcode := 4, flags := 0, req := 9, idx := 0x1211, sub := 0, res := 0, offset := 0, param := 1350, data := zeros 1349 }).dict.sessions 5).bind
        fun y => y.xferOf (key 0x1211 0)) = none := by
  decide +kernel

/-- Refutes O42: a first segment of 1,349 of an image's 1,350 bytes. -/
theorem not_updates : ¬ Obligations.Updates := by
  rintro ⟨-, -, -, hsegment, -⟩
  obtain ⟨ha, hw, hu⟩ := receiving_ready
  have hlen : (zeros 1349).length < 1350 := by simp only [zeros, List.length_replicate]; omega
  obtain ⟨u, hu', -, y, hy, hx⟩ := hsegment receiving 0 5 9 1350 (zeros 1349) _ ha hw hu (by decide +kernel) hlen
  rw [exec_updatePayload] at hu'
  cases hu'
  have hnone := receiving_keeps_nothing
  rw [hy, Option.bind_some, hx] at hnone
  cases hnone

end Sys2Proof.Machine
end

section
set_option Elab.async false
/-!
PROOF. O44 fails: the shadows of stage groups are persistent, and a reset that ends an editor's hold returns them to their active values (R108),
which writes the settings bank in use. The clause of POR says that both banks stay.
-/

namespace Sys2Proof.Machine

/-- The firmware holds the policy group, of whose shadow the first row is not its active value. -/
def policyHeld : State :=
  ({ State.reset with dict := { Dict.reset with holds := [{ commit := 0x4800, editor := .firmware, last := 0 }] } } : State).setVal (key 0x4801 1) [1]

theorem policyHeld_sized : policyHeld.sized ∧ (Tbl.get? policyHeld.settings.bank0.values (key 0x4801 1)).isSome = true := by
  decide +kernel

/-- A power-on reset whose flash records are whole. -/
theorem exec_por (s : State) (t : Nat) (torn : Torn) : exec (.por ⟨t, torn⟩) s = .next (s.run t fun s => s.porRise torn) := rfl

/-- At power-on the shadow's entry leaves the bank. -/
theorem policyHeld_por :
    (Tbl.get? (policyHeld.run 0 fun s => s.porRise .none).settings.bank0.values (key 0x4801 1)).isSome = false := by
  decide +kernel

/-- Refutes O44: a power-on reset while the firmware holds the policy group. -/
theorem not_resetSources : ¬ Obligations.ResetSources := by
  rintro ⟨hpor, -⟩
  obtain ⟨hs, hb⟩ := policyHeld_sized
  obtain ⟨u, hu, -, -, -, -, -, -, -, -, -, hbank, -⟩ := hpor policyHeld 0 .none hs
  rw [exec_por] at hu
  cases hu
  have h := policyHeld_por
  rw [hbank] at h
  exact absurd (hb.symm.trans h) (by decide)

end Sys2Proof.Machine
end

section
set_option Elab.async false
/-!
PROOF. O31: radio commits, parameter requests, link ends, machine IDs and sends.
-/

namespace Sys2Proof.Machine

/-! ### Modems and links -/

theorem State.modem_setModem {s : State} {k : Nat} (h : k < s.radio.modems.length) (f : Modem → Modem) : (s.setModem k f).modem k = f (s.modem k) :=
  modNth_getD f _ h

theorem State.modem_setModem_ne {k j : Nat} (s : State) (h : j ≠ k) (f : Modem → Modem) : (s.setModem k f).modem j = s.modem j := modNth_getD_ne f _ h

theorem State.modem_of_radio {x y : State} (h : x.radio = y.radio) (k : Nat) : x.modem k = y.modem k := by
  unfold State.modem
  rw [h]

theorem State.setModem_length (s : State) (k : Nat) (f : Modem → Modem) : (s.setModem k f).radio.modems.length = s.radio.modems.length :=
  modNth_length _ _ _

theorem State.modem_mapModems {s : State} {k : Nat} (h : k < s.radio.modems.length) (f : Modem → Modem) :
    ({ s with radio := { s.radio with modems := s.radio.modems.map f } } : State).modem k = f (s.modem k) := by
  unfold State.modem
  rw [List.getD_eq_getElem _ _ (by simpa using h), List.getElem_map, List.getD_eq_getElem _ _ h]

theorem State.link?_setLink {s : State} {m : Nat} {l : Link} (h : s.link? m = some l) (f : Link → Link) : (s.setLink m f).link? m = some (f l) := by
  have h' : Tbl.get? s.radio.links m = some l := h
  unfold State.link? State.setLink
  rw [Tbl.get?_upd, if_pos rfl, h', Option.map_some]

theorem State.link?_of_radio {x y : State} (h : x.radio = y.radio) (m : Nat) : x.link? m = y.link? m := by
  unfold State.link?
  rw [h]

/-! ### The end of a link -/

theorem State.answers_same {pt : Part} (h0 : ¬ pt = .dict) (h1 : ¬ pt = .out) {α : Type} (l : List α) (f : α → Caller) (g : α → Ans) (s : State) :
    pt.same s (l.foldl (fun s x => s.answer (f x) (g x)) s) := by
  induction l generalizing s with
  | nil => exact Part.same_refl _ _
  | cons x l ih => exact Part.same_trans ((State.answer_same h0 h1 s s _ _).mpr (Part.same_refl _ _)) (ih _)

theorem State.answers_fabric {α : Type} (l : List α) (f : α → Caller) (g : α → Ans) (s : State) :
    (l.foldl (fun s x => s.answer (f x) (g x)) s).fabric = s.fabric := by
  induction l generalizing s with
  | nil => rfl
  | cons x l ih => exact (ih _).trans (State.answer?_fabric (s, some (g x)) (f x))

/-- A state whose link of a slot is gone, with the farewells it leaves. -/
def State.unlinked (s : State) (m : Nat) (fw : List (Nat × Nat × Link)) : State :=
  { s with radio := { s.radio with links := Tbl.del s.radio.links m, ended := wrap 32 (s.radio.ended + 1), farewells := s.radio.farewells ++ fw }
           stop := { s.stop with frames := Tbl.del s.stop.frames m } }

/-- The messages of a link end. -/
def State.endMsgs (s : State) (l : Link) (a : Ans) : State := l.msgs.foldl (fun s x => s.answer x.caller a) s

theorem State.endMsgs_same {pt : Part} (h0 : ¬ pt = .dict) (h1 : ¬ pt = .out) (s : State) (l : Link) (a : Ans) : pt.same s (s.endMsgs l a) :=
  State.answers_same h0 h1 _ _ _ _

theorem State.endMsgs_settings (s : State) (l : Link) (a : Ans) : (s.endMsgs l a).settings = s.settings :=
  State.endMsgs_same (pt := .settings) (by decide) (by decide) ..
theorem State.endMsgs_radio (s : State) (l : Link) (a : Ans) : (s.endMsgs l a).radio = s.radio :=
  State.endMsgs_same (pt := .radio) (by decide) (by decide) ..
theorem State.endMsgs_islands (s : State) (l : Link) (a : Ans) : (s.endMsgs l a).islands = s.islands :=
  State.endMsgs_same (pt := .islands) (by decide) (by decide) ..
theorem State.endMsgs_now (s : State) (l : Link) (a : Ans) : (s.endMsgs l a).now = s.now :=
  State.endMsgs_same (pt := .now) (by decide) (by decide) ..
theorem State.endMsgs_log (s : State) (l : Link) (a : Ans) : (s.endMsgs l a).log = s.log :=
  State.endMsgs_same (pt := .log) (by decide) (by decide) ..
theorem State.endMsgs_fabric (s : State) (l : Link) (a : Ans) : (s.endMsgs l a).fabric = s.fabric := State.answers_fabric ..

section
variable {s : State} {m : Nat} {l : Link} (h : s.link? m = some l) (cause r : Nat) (a : Ans)
include h

theorem State.endLink_eq : s.endLink m cause (some r) a =
    if l.st = .connected then (((s.unlinked m [(m, r, l)]).endMsgs l a).stopMonitor m).logEv .linkEnd [byte cause]
    else (s.unlinked m [(m, r, l)]).endMsgs l a := by
  unfold State.endLink
  rw [h]
  rfl

theorem State.endLink_radio : (s.endLink m cause (some r) a).radio = (s.unlinked m [(m, r, l)]).radio := by
  have hx := State.endMsgs_radio (s.unlinked m [(m, r, l)]) l a
  rw [State.endLink_eq h]
  split
  · rw [State.logEv_eq]
    exact hx
  · exact hx

theorem State.endLink_removes : (s.endLink m cause (some r) a).link? m = none :=
  (State.link?_of_radio (State.endLink_radio h cause r a) m).trans (Tbl.get?_del _ _)

theorem State.endLink_connected (hc : l.st = .connected) :
    ((s.endLink m cause (some r) a).confSlot m).since = none ∧ (s.endLink m cause (some r) a).log = (s.logEv .linkEnd [byte cause]).log := by
  have hi := State.endMsgs_islands (s.unlinked m [(m, r, l)]) l a
  rw [State.endLink_eq h, if_pos hc]
  constructor
  · rw [State.logEv_eq]
    unfold State.confSlot State.stopMonitor State.setConf
    rw [Tbl.getD_put]
  · exact State.logEv_log_congr (x := ((s.unlinked m [(m, r, l)]).endMsgs l a).stopMonitor m) (y := s) (State.endMsgs_now ..) (State.endMsgs_settings ..) (State.endMsgs_fabric ..) (State.up_of_islands hi _)
      (State.endMsgs_log ..) _ _

end

/-- The end of a link leaves every stored value. -/
theorem State.endLink_val (s : State) (m cause : Nat) (r : Option Nat) (a : Ans) (k : Nat) : (s.endLink m cause r a).val k = s.val k := by
  have h := fun (pt : Part) h0 h1 h2 h3 h4 h5 => (State.endLink_same (pt := pt) h0 h1 h2 h3 h4 h5 s s m cause r a).mpr (Part.same_refl _ _)
  exact State.val_congr (h .settings (by decide) (by decide) (by decide) (by decide) (by decide) (by decide))
    (h .fabric (by decide) (by decide) (by decide) (by decide) (by decide) (by decide)) k

theorem State.endLink_none (s : State) (m cause r : Nat) (a : Ans) : (s.endLink m cause (some r) a).link? m = none := by
  cases h : s.link? m with
  | none => unfold State.endLink; rw [h]; exact h
  | some l => exact State.endLink_removes h cause r a

/-! ### The radio group -/

theorem Radio.replanned_modem {s x : State} (h : x.radio.modems = s.radio.modems) {k : Nat} (hk : k < s.radio.modems.length) :
    ({ x with radio := { x.radio with modems := x.radio.modems.map fun m => { m with replan := true } } } : State).modem k =
      { s.modem k with replan := true } := by
  rw [State.modem_mapModems (h.symm ▸ hk)]
  unfold State.modem
  rw [h]

/-- The modems, the settings and the applet bundle: what an UPDATE of a link leaves. -/
def State.plans (s : State) : List Modem × Settings × Fabric := (s.radio.modems, s.settings, s.fabric)

theorem State.remapLink_plans (s : State) (m : Nat) (l : Link) : (s.remapLink m l).plans = s.plans := by
  unfold State.remapLink
  split <;> rfl

theorem State.foldl_plans {α : Type} {f : State → α → State} (h : ∀ s x, (f s x).plans = s.plans) (l : List α) (s : State) :
    (l.foldl f s).plans = s.plans := by
  induction l generalizing s with
  | nil => rfl
  | cons x l ih => exact (ih _).trans (h _ _)

theorem State.radioCommitted_eq (s : State) : ∃ x : State, x.plans = (s.applyGroup 0x2C00).plans ∧
    s.radioCommitted = { x with radio := { x.radio with modems := x.radio.modems.map fun m => { m with replan := true } } } := by
  refine ⟨_, ?_, rfl⟩
  refine State.foldl_plans (fun y e => ?_) _ _
  dsimp only
  split
  · split
    · exact State.remapLink_plans ..
    · rfl
  · rfl

/-- A radio commit: the values of the group become active, and every modem is planned anew. -/
theorem State.radioCommitted_plans {s : State} (h : s.radio.modems.length = 8) :
    (∀ k, s.radioCommitted.val k = (s.applyGroup 0x2C00).val k) ∧ ∀ k < 8, s.radioCommitted.modem k = { s.modem k with replan := true } := by
  obtain ⟨x, hx, e⟩ := s.radioCommitted_eq
  simp only [State.plans, Prod.mk.injEq] at hx
  obtain ⟨hm, hset, hf⟩ := hx
  have hr : (s.applyGroup 0x2C00).radio = s.radio := State.applyGroup_only s (by decide) .radio (by decide)
  rw [hr] at hm
  rw [e]
  refine ⟨State.val_congr hset (congrArg Fabric.core hf), fun k hk => ?_⟩
  rw [State.modem_mapModems (by rw [hm]; omega)]
  unfold State.modem
  rw [hm]

theorem radioCommit_yields (s : State) (t : Nat) (w : Caller) (hw : (s.advance t).writes w 0x2C00 0 [1] = true)
    (hg : (s.advance t).groupCheck 0x2C00 = none) (hl : (s.advance t).radio.modems.length = 8) :
    Yields (exec (.radioCommit t w) s) fun u =>
      (∀ m ∈ memberKeys 0x2C00, u.val m.2 = (s.advance t).val m.1) ∧
        (∀ k, k ∉ (memberKeys 0x2C00).map Prod.snd → u.val k = (s.advance t).val k) ∧
        (∀ k < 8, (u.modem k).replan = true ∧ (u.modem k).value = ((s.advance t).modem k).value) := by
  obtain ⟨d, -, h1, -⟩ := State.run_commit hw (.inl (by decide)) fun _ => commit_kind (by decide)
  have e : ((s.advance t).withDict d).commitGroup 0x2C00 w = (((s.advance t).withDict d).radioCommitted, some (Ans.done [])) := by
    unfold State.commitGroup
    rw [State.groupCheck_dict, hg]
    rfl
  rw [e] at h1
  obtain ⟨hv, hm⟩ := State.radioCommitted_plans (s := (s.advance t).withDict d) hl
  obtain ⟨v1, v2⟩ := State.applyGroup_vals ((s.advance t).withDict d) (c := 0x2C00) (by decide)
  have hval (k : Nat) := (State.val_congr (h1 .settings (by decide)) (h1 .fabric (by decide)) k).trans (hv k)
  have hmod (k : Nat) (hk : k < 8) := (State.modem_of_radio (h1 .radio (by decide)) k).trans (hm k hk)
  exact .next ⟨fun m h => (hval _).trans (v1 m h), fun k h => (hval _).trans (v2 k h), fun k hk => by rw [hmod k hk]; exact ⟨rfl, rfl⟩⟩

/-! ### Listens and boundaries -/

theorem State.listenCheck_modem {s : State} {n : Nat} {v : Bytes} (h : s.listenCheck n v = none) : u v 0 1 = 0xFF ∨ u v 0 1 < 8 := by
  by_contra hk
  unfold State.listenCheck at h
  simp only [not_or] at hk
  rw [if_neg hk.1, if_neg (by simp [hk.2])] at h
  simp [firstFail, hk.2] at h

theorem State.listenWritten_listens {s : State} {n k : Nat} {v : Bytes} (hv : u v 0 1 = 0xFF ∨ u v 0 1 < 8) (hl : s.radio.modems.length = 8) (hk : k < 8) :
    ((s.listenWritten n v).modem k).listens = ((s.modem k).listens.filter fun x => x.nbr ≠ n) ++
      (if u v 0 1 = k then [⟨n, u v 1 1, u v 2 2, u v 4 2⟩] else []) := by
  unfold State.listenWritten
  extract_lets r x j
  have hx : x.modem k = { s.modem k with listens := (s.modem k).listens.filter fun x => x.nbr ≠ n } := State.modem_mapModems (by omega) _
  have hj : j = 0xFF ∨ j < 8 := hv
  split
  · next h => rw [hx, if_neg (by show ¬ j = k; omega), List.append_nil]
  · have hlen : j < x.radio.modems.length := by
      show j < (s.radio.modems.map _).length
      rw [List.length_map]
      omega
    by_cases hjk : j = k
    · subst hjk
      rw [State.modem_setModem hlen, hx, if_pos rfl]
    · rw [State.modem_setModem_ne _ (Ne.symm hjk), hx, if_neg hjk, List.append_nil]

theorem radioNeighbourListen_yields (s : State) (t n k : Nat) (w : Caller) (v : Bytes) (hn : n < 12)
    (hw : (s.advance t).writes w 0x2C13 (n + 1) v = true) (hc : (s.advance t).listenCheck n v = none)
    (hl : (s.advance t).radio.modems.length = 8) (hk : k < 8) :
    Yields (exec (.radioNeighbourListen t w n v) s) fun z =>
      (z.modem k).listens = (((s.advance t).modem k).listens.filter fun x => x.nbr ≠ n) ++ (if u v 0 1 = k then [⟨n, u v 1 1, u v 2 2, u v 4 2⟩] else []) ∧
        z.val (key 0x2C13 (n + 1)) = v ∧ Only (told ++ [Part.radio, Part.settings]) (s.advance t) z := by
  obtain ⟨d, -, h1, h2⟩ := State.run_stored hw (.inl (by decide)) fun r => kind_from (slo := 1) (by decide +kernel) (by omega)
  generalize s.advance t = a at *
  have e : (((a.withDict d).applyWrite 0x2C13 (n + 1) v).1) = ((a.withDict d).setVal (key 0x2C13 (n + 1)) v).listenWritten n v := by
    have hb : (a.withDict d).blockCheck 0x2C13 (n + 1) v = none := hc
    unfold State.applyWrite
    rw [if_neg (by decide), if_neg (by simp), if_neg (by simp), hb]
    rfl
  rw [e] at h1 h2
  have hset : (((a.withDict d).setVal (key 0x2C13 (n + 1)) v).listenWritten n v).settings = ((a.withDict d).setVal (key 0x2C13 (n + 1)) v).settings :=
    (State.listenWritten_same (pt := .settings) (by decide) _ _ n v).mpr rfl
  have hfab : (((a.withDict d).setVal (key 0x2C13 (n + 1)) v).listenWritten n v).fabric.core = ((a.withDict d).setVal (key 0x2C13 (n + 1)) v).fabric.core :=
    (State.listenWritten_same (pt := .fabric) (by decide) _ _ n v).mpr rfl
  refine .next ⟨?_, ?_, h2 _ (by decide) ?_⟩
  · rw [State.modem_of_radio (h1 .radio (by decide)) k]
    exact State.listenWritten_listens (s := (a.withDict d).setVal (key 0x2C13 (n + 1)) v) (State.listenCheck_modem hc) hl hk
  · exact (State.val_congr (h1 .settings (by decide)) (h1 .fabric (by decide)) _).trans ((State.val_congr hset hfab _).trans (State.val_setVal ..))
  · refine ((Only.withDict a d (by decide)).step fun p hp => ?_)
    rw [State.listenWritten_same (Part.ne_of_notMem hp (by decide)), State.setVal_same (Part.ne_of_notMem hp (by decide))]

theorem hyperperiodBoundary_yields (s : State) (t k : Nat) (hr : ((s.advance t).modem k).replan = true) (hu : (s.advance t).up .radio = true)
    (hm : (s.advance t).hasModem k = true) (hl : (s.advance t).radio.modems.length = 8) :
    let b := (s.advance t).cfgB 0x2C04 (k + 1)
    Yields (exec (.hyperperiodBoundary t k) s) fun u =>
      u.modem k = { (s.advance t).modem k with
          value := b, waggle := (s.advance t).wagglePlace k (Mval.of b), entry := (s.advance t).cfgB 0x2C02 ((Mval.of b).bChan + 1), replan := false } ∧
        (∀ j < 8, j ≠ k → u.modem j = (s.advance t).modem j) ∧ Only (told ++ [Part.radio]) (s.advance t) u := by
  intro b
  have hk : k < (s.advance t).radio.modems.length := by
    simp only [State.hasModem, Bool.and_eq_true, decide_eq_true_eq] at hm
    omega
  have e : (s.advance t).replanModem k = (s.advance t).setModem k fun m =>
      { m with value := b, waggle := (s.advance t).wagglePlace k (Mval.of b), entry := (s.advance t).cfgB 0x2C02 ((Mval.of b).bChan + 1), replan := false } := by
    unfold State.replanModem
    rw [if_pos (by simp [hr, hu, hm])]
  have hrad (j : Nat) : (s.run t fun s => s.replanModem k).modem j = ((s.advance t).replanModem k).modem j :=
    State.modem_of_radio (State.run_radio ..) j
  refine .next ⟨?_, fun j _ hj => ?_, Only.run (by decide) ((Only.refl _ _).step fun p hp => State.replanModem_same (Part.ne_of_notMem hp (by decide)) ..)⟩
  · rw [hrad, e]
    exact State.modem_setModem hk _
  · rw [hrad, e]
    exact State.modem_setModem_ne _ hj _

/-! ### Parameter requests and updates -/

/-- A block of LinkParamRequest whose fields from the sixth byte on are zero but for the reservation length. -/
theorem linkPar_zero {v : Bytes} (h : v.drop 5 = [0, 0, byte (LinkPar.of v).len] ++ zeros 12) :
    (LinkPar.of v).miss = 0 ∧ (LinkPar.of v).hop = 0 ∧ (LinkPar.of v).map = 0 ∧ (LinkPar.of v).down = 0 ∧ (LinkPar.of v).up = 0 ∧
      (LinkPar.of v).rate = 0 ∧ u v 19 1 = 0 := by
  have hs (k n : Nat) (hk : 5 ≤ k) : u v k n = u (v.drop 5) (k - 5) n := by
    unfold u slice
    rw [List.drop_drop, Nat.add_sub_cancel' hk]
  generalize (LinkPar.of v).len = x at h
  simp only [LinkPar.of, hs _ _ (show 5 ≤ 5 by omega), hs _ _ (show 5 ≤ 6 by omega), hs _ _ (show 5 ≤ 8 by omega), hs _ _ (show 5 ≤ 14 by omega),
    hs _ _ (show 5 ≤ 16 by omega), hs _ _ (show 5 ≤ 18 by omega), hs _ _ (show 5 ≤ 19 by omega), h]
  refine ⟨rfl, rfl, rfl, rfl, rfl, rfl, rfl⟩

theorem State.paramRequest_accepted {s : State} {m : Nat} {v : Bytes} {l : Link}
    (hl : s.link? m = some l) (hc : l.st = .connected) (hp : l.pend = none) (hh : l.held = false) (hz : v.drop 5 = [0, 0, byte (LinkPar.of v).len] ++ zeros 12) :
    let q := LinkPar.of v
    let mv := s.mvalNow l.modem
    let p := { l.par with int := q.int, sup := q.sup, lat := q.lat, len := q.len, up := mv.upMax q.len }
    let off := offsetIn (l.anchor (s.updateInstant l)) (q.int * 20)
    mv.parOk p = true → 400 ≤ q.int ∨ s.modemLinks l.modem ≤ 128 → (s.resvsNow l.modem [m]).all (fun r => !(p.resv off).clash r) = true →
    (s.paramRequest m v).1 = s.sendUpdate m l p l.chans (s.updateInstant l) off := by
  intro q mv p off hok hcap hfree
  obtain ⟨z1, z2, z3, z4, z5, z6, z7⟩ := linkPar_zero hz
  have hcap' : (decide (400 ≤ q.int) || decide (s.modemLinks l.modem ≤ 128)) = true := by simpa using hcap
  unfold State.paramRequest
  rw [hl]
  dsimp only
  simp only [z1, z2, z3, z4, z5, z6, z7, hc, hp, hh]
  rw [show (mv.parOk _) = true from hok, hcap', hfree]
  rfl

theorem linkParamRequest_yields (s : State) (t m : Nat) (w : Caller) (v : Bytes) (l : Link) :
    let a := s.advance t
    let q := LinkPar.of v
    let mv := a.mvalNow l.modem
    let p := { l.par with int := q.int, sup := q.sup, lat := q.lat, len := q.len, up := mv.upMax q.len }
    let n := a.updateInstant l
    let off := offsetIn (l.anchor n) (q.int * 20)
    m < 1024 → a.writes w (0x7000 + m) 0x54 v = true → a.link? m = some l → l.st = .connected → l.pend = none → l.held = false →
    v.drop 5 = [0, 0, byte q.len] ++ zeros 12 → mv.parOk p = true → 400 ≤ q.int ∨ a.modemLinks l.modem ≤ 128 →
    (a.resvsNow l.modem [m]).all (fun r => !(p.resv off).clash r) = true →
    Yields (exec (.linkParamRequest t w m v) s) fun u =>
      u.link? m = some { l with pend := some ⟨n, p.bytes, off, l.chans⟩, queue := l.queue ++ [⟨3, leBytes 2 n ++ p.bytes, none⟩] }
      ∧ Only (told ++ [Part.radio]) a u := by
  intro a q mv p n off hm hw hl hc hp hh hz hok hcap hfree
  obtain ⟨d, -, h1, h2⟩ := State.run_command hw (.inr (by omega)) fun r =>
    kind_within (lo := 0x7000) (hi := 0x7400) (slo := 0x54) (shi := 0x55) (by decide +kernel) (by omega) (by omega) (by omega) (by omega)
  have e : ((a.withDict d).command w (0x7000 + m) 0x54 v).1 = (a.withDict d).sendUpdate m l p l.chans n off := by
    unfold State.command
    rw [if_pos (by omega), Nat.add_sub_cancel_left]
    have key := State.paramRequest_accepted (s := a.withDict d) hl hc hp hh hz
    dsimp only at key
    rw [show (a.withDict d).mvalNow l.modem = a.mvalNow l.modem from rfl, show (a.withDict d).updateInstant l = a.updateInstant l from rfl,
      show (a.withDict d).modemLinks l.modem = a.modemLinks l.modem from rfl, show (a.withDict d).resvsNow l.modem [m] = a.resvsNow l.modem [m] from rfl] at key
    exact key hok hcap hfree
  rw [e] at h1 h2
  show Yields (.next (s.run t fun s => if m < 1024 then _ else s)) _
  simp only [if_pos hm]
  refine .next ⟨(State.link?_of_radio (h1 .radio (by decide)) m).trans (State.link?_setLink (s := a.withDict d) hl _), h2 _ (by decide) ?_⟩
  exact (Only.withDict a d (by decide)).step fun p hp => State.sendUpdate_same (Part.ne_of_notMem hp (by decide)) ..

theorem linkUpdateInstant_yields (s : State) (t m : Nat) (l : Link) (x : LinkUpdate) (hl : (s.advance t).link? m = some l) (hp : l.pend = some x)
    (hi : l.anchor x.instant ≤ (s.advance t).radioTime) (hh : l.held = false) :
    Yields (exec (.linkUpdateInstant t m) s) fun u =>
      u.link? m = some { l with first := l.anchor x.instant, base := x.instant, params := x.params, offset := x.offset, chans := x.chans, pend := none } ∧
        Only (told ++ [Part.radio]) (s.advance t) u := by
  have e : (s.advance t).applyUpdate m = (s.advance t).setLink m fun _ =>
      { l with first := l.anchor x.instant, base := x.instant, params := x.params, offset := x.offset, chans := x.chans, pend := none } := by
    unfold State.applyUpdate
    rw [hl]
    dsimp only
    rw [hp]
    dsimp only
    rw [if_neg (by omega), hh]
    rfl
  refine .next ⟨?_, Only.run (by decide) ((Only.refl _ _).step fun p hp => State.applyUpdate_same (Part.ne_of_notMem hp (by decide)) ..)⟩
  have hr : (s.run t fun s => s.applyUpdate m).link? m = ((s.advance t).applyUpdate m).link? m := State.link?_of_radio (State.run_radio ..) m
  exact hr.trans ((congrArg (State.link? · m) e).trans (State.link?_setLink hl _))

theorem linkEnd_yields (s : State) (t m : Nat) (w : Caller) (l : Link) (hm : m < 1024) (hw : (s.advance t).writes w (0x7000 + m) 0x55 [1] = true)
    (hl : (s.advance t).link? m = some l) :
    Yields (exec (.linkEnd t w m) s) fun u =>
      u.link? m = none ∧ u.radio.farewells = (s.advance t).radio.farewells ++ [(m, 0, l)] ∧ u.radio.ended = wrap 32 ((s.advance t).radio.ended + 1)
      ∧ (l.st = .connected → (u.confSlot m).since = none ∧ u.log = ((s.advance t).logEv .linkEnd [2]).log) := by
  obtain ⟨d, -, h1, -⟩ := State.run_command hw (.inr (by omega)) fun r =>
    kind_within (lo := 0x7000) (hi := 0x7400) (slo := 0x55) (shi := 0x56) (by decide +kernel) (by omega) (by omega) (by omega) (by omega)
  generalize s.advance t = a at *
  have e : ((a.withDict d).command w (0x7000 + m) 0x55 [1]).1 = (a.withDict d).endLink m 2 (some 0) (Ans.send 0x16) := by
    unfold State.command
    rw [if_pos (by omega), Nat.add_sub_cancel_left]
    rfl
  rw [e] at h1
  show Yields (.next (s.run t fun s => if m < 1024 then _ else s)) _
  simp only [if_pos hm]
  have hl' : (a.withDict d).link? m = some l := hl
  have hr : _ = _ := (h1 .radio (by decide)).trans (State.endLink_radio hl' 2 0 (Ans.send 0x16))
  refine .next ⟨(State.link?_of_radio hr m).trans (Tbl.get?_del _ _), congrArg Radio.farewells hr, congrArg Radio.ended hr, fun hc => ?_⟩
  obtain ⟨c1, c2⟩ := State.endLink_connected hl' 2 0 (Ans.send 0x16) hc
  refine ⟨?_, ((h1 .log (by decide)).trans c2).trans (State.logEv_log_congr (x := a.withDict d) (y := a) rfl rfl rfl rfl rfl .linkEnd [2])⟩
  have hconf : _ = _ := h1 .conf (by decide)
  unfold State.confSlot at c1 ⊢
  rw [hconf]
  exact c1

/-! ### Machine IDs -/

theorem machineId_kind {m : Nat} (hm : m < 1024) {r : ObjRow} (h : findObj (0x7000 + m) 1 = some r) : r.kind = 3 :=
  kind_within (lo := 0x7000) (hi := 0x7400) (slo := 1) (shi := 2) (by decide +kernel) (by omega) (by omega) (by omega) (by omega) h

theorem State.applyWrite_machineId (s : State) (m : Nat) {id : Nat} (hid : id < 2 ^ 32) :
    s.applyWrite (0x7000 + m) 1 (leBytes 4 id) = s.machineWrite m id := by
  unfold State.applyWrite
  rw [if_neg (by omega), if_neg (by simp), if_pos (by simp), Nat.add_sub_cancel_left, leNat_leBytes, Nat.mod_eq_of_lt (by omega)]

/-- Another slot of the variant holds the value. -/
def State.idTaken (s : State) (m id : Nat) : Bool := id ≠ 0xFFFFFFFF && (List.range s.tier).any fun j => j ≠ m && s.machineId j = id

theorem State.machineWrite_free {s : State} {m id : Nat} (h : s.idTaken m id = false) :
    (s.machineWrite m id).1 = (s.endLink m 3 (some 0) (Ans.send 0x16)).setVal (key (0x7000 + m) 1) (leBytes 4 id) := by
  unfold State.machineWrite
  rw [if_neg (by rw [show (_ && _ : Bool) = s.idTaken m id from rfl, h]; decide)]

theorem machineIdWrite_yields (s : State) (t m id : Nat) (w : Caller) (hm : m < 1024) (hid : id < 2 ^ 32)
    (hw : (s.advance t).writes w (0x7000 + m) 1 (leBytes 4 id) = true)
    (hf : id = 0xFFFFFFFF ∨ ∀ j < (s.advance t).tier, j ≠ m → (s.advance t).machineId j ≠ id) :
    Yields (exec (.machineIdWrite t w m id) s) fun u =>
      u.machineId m = id ∧ u.link? m = none ∧ (∀ j < 1024, j ≠ m → u.machineId j = (s.advance t).machineId j) := by
  obtain ⟨d, -, h1, -⟩ := State.run_stored hw (.inr (by omega)) fun r => machineId_kind hm
  generalize s.advance t = a at *
  have hfree : (a.withDict d).idTaken m id = false := by
    unfold State.idTaken
    rcases hf with rfl | hf
    · rfl
    · refine Bool.and_eq_false_imp.mpr fun _ => List.any_eq_false.mpr fun j hj => ?_
      have := hf j (List.mem_range.mp hj)
      rw [Bool.and_eq_true, decide_eq_true_eq, decide_eq_true_eq]
      exact fun h => this h.1 h.2
  rw [State.applyWrite_machineId _ _ hid, State.machineWrite_free hfree] at h1
  show Yields (.next (s.run t fun s => if m < 1024 then _ else s)) _
  simp only [if_pos hm]
  have hv := State.val_congr (h1 .settings (by decide)) (h1 .fabric (by decide))
  refine .next ⟨?_, ?_, fun j _ hj => ?_⟩
  · unfold State.machineId State.mach State.cfg
    rw [hv, State.val_setVal, leNat_leBytes, Nat.mod_eq_of_lt (by omega)]
  · exact (State.link?_of_radio (h1 .radio (by decide)) m).trans (State.endLink_none ..)
  · unfold State.machineId State.mach State.cfg
    rw [hv, State.val_setVal_ne (by unfold key; omega), State.endLink_val]
    rfl

theorem machineIdWrite_refused (s : State) (t m j id : Nat) (w : Caller) (hm : m < 1024) (hj : j < (s.advance t).tier) (hne : j ≠ m) (hid : id < 2 ^ 32)
    (hb : id ≠ 0xFFFFFFFF) (hw : (s.advance t).writes w (0x7000 + m) 1 (leBytes 4 id) = true) (hi : (s.advance t).machineId j = id) :
    Yields (exec (.machineIdWrite t w m id) s) fun u => Only told (s.advance t) u := by
  obtain ⟨d, -, -, h2⟩ := State.run_stored hw (.inr (by omega)) fun r => machineId_kind hm
  generalize s.advance t = a at *
  have htaken : (a.withDict d).idTaken m id = true := by
    refine Bool.and_eq_true_iff.mpr ⟨decide_eq_true hb, List.any_eq_true.mpr ⟨j, List.mem_range.mpr hj, ?_⟩⟩
    exact Bool.and_eq_true_iff.mpr ⟨decide_eq_true hne, decide_eq_true hi⟩
  have e : ((a.withDict d).machineWrite m id).1 = a.withDict d := by
    unfold State.machineWrite
    unfold State.idTaken at htaken
    rw [if_pos htaken]
  rw [State.applyWrite_machineId _ _ hid, e] at h2
  show Yields (.next (s.run t fun s => if m < 1024 then _ else s)) _
  simp only [if_pos hm]
  exact .next (h2 _ (by decide) (Only.withDict a d (by decide)))

/-! ### Ports -/

theorem radioSend_yields (s : State) (t : Nat) (w : Caller) (req : Bytes) (l : Link) (hw : (s.advance t).requests w 0x2C11 req = true)
    (h4 : 4 ≤ req.length) (hlen : req.length ≤ 4100) (hz : u req 2 2 = 0) (ht : u req 0 2 < (s.advance t).tier) (hm : u req 0 2 < 1024)
    (hl : (s.advance t).link? (u req 0 2) = some l) (hc : l.st = .connected) (hq : l.msgs.length < 4) :
    Yields (exec (.radioSend t w req) s) fun v =>
      v.link? (u req 0 2) = some { l with msgs := l.msgs ++ [⟨l.msgNext, w, req.drop 4, 0, false⟩], msgNext := wrap 16 (l.msgNext + 1) } ∧
        Only (told ++ [Part.radio]) (s.advance t) v := by
  obtain ⟨d, -, h1, h2⟩ := State.run_request hw
  generalize s.advance t = a at *
  have hl' : (a.withDict d).link? (u req 0 2) = some l := hl
  have ht' : u req 0 2 < (a.withDict d).tier := ht
  have e : ((a.withDict d).portOp w 0x2C11 0 req).1 = (a.withDict d).setLink (u req 0 2) fun x =>
      { x with msgs := x.msgs ++ [⟨l.msgNext, w, req.drop 4, 0, false⟩], msgNext := wrap 16 (x.msgNext + 1) } := by
    show ((a.withDict d).radioSend w req).1 = _
    unfold State.radioSend
    extract_lets m
    rw [if_neg (by simp [hz]; omega), hl']
    dsimp only
    rw [if_neg (by simp [hc]; exact ht'), if_neg (by omega)]
  rw [e] at h1 h2
  refine .next ⟨(State.link?_of_radio (h1 .radio (by decide)) _).trans (State.link?_setLink hl' _), h2 _ (by decide) ?_⟩
  exact (Only.withDict a d (by decide)).step fun p hp => State.setLink_same (Part.ne_of_notMem hp (by decide)) ..

/-- A message added to some of the modems. -/
theorem State.addMsgs_modem (x : Nat × Nat) (l : List Nat) (hd : l.Nodup) {s : State} {k : Nat} (hl : ∀ j ∈ l, j < s.radio.modems.length) :
    ((l.foldl (fun s k => s.setModem k fun m => { m with msgs := m.msgs ++ [x] }) s).modem k).msgs =
      (s.modem k).msgs ++ if k ∈ l then [x] else [] := by
  induction l generalizing s with
  | nil => simp
  | cons j l ih =>
    obtain ⟨hj, hd⟩ := List.nodup_cons.mp hd
    rw [List.foldl_cons, ih hd fun i hi => (s.setModem_length j _).symm ▸ hl i (List.mem_cons_of_mem _ hi)]
    by_cases hk : k = j
    · subst hk
      rw [State.modem_setModem (hl k List.mem_cons_self), if_neg hj, if_pos List.mem_cons_self, List.append_nil]
    · rw [State.modem_setModem_ne _ hk]
      simp [hk]

theorem State.addMsgs_waggles (x : Nat × Nat) (l : List Nat) (s : State) :
    (l.foldl (fun s k => s.setModem k fun m => { m with msgs := m.msgs ++ [x] }) s).radio.waggles = s.radio.waggles ∧
      (l.foldl (fun s k => s.setModem k fun m => { m with msgs := m.msgs ++ [x] }) s).radio.waggleNext = s.radio.waggleNext := by
  induction l generalizing s with
  | nil => exact ⟨rfl, rfl⟩
  | cons j l ih => exact ih (s.setModem j _)

theorem radioWaggle_yields (s : State) (t k : Nat) (w : Caller) (req : Bytes) (hw : (s.advance t).requests w 0x2C12 req = true)
    (h4 : 4 ≤ req.length) (hlen : req.length ≤ 1028) (hr1 : 1 ≤ u req 1 1) (hr8 : u req 1 1 ≤ 8) (hz : u req 2 2 = 0)
    (hl : (s.advance t).radio.modems.length = 8) (hm : ∀ j < 8, bit (u req 0 1) j = true → (s.advance t).hasModem j = true)
    (hq : ∀ j < 8, ((s.advance t).modem j).msgs.length < 16) (h0 : u req 0 1 ≠ 0) (hk : k < 8) :
    Yields (exec (.radioWaggle t w req) s) fun v =>
      (v.modem k).msgs = ((s.advance t).modem k).msgs ++ (if bit (u req 0 1) k then [((s.advance t).radio.waggleNext, u req 1 1)] else []) ∧
        Tbl.get? v.radio.waggles (s.advance t).radio.waggleNext = some ⟨w, req.drop 4⟩ ∧
        v.radio.waggleNext = (s.advance t).radio.waggleNext + 1 ∧ Only (told ++ [Part.radio]) (s.advance t) v := by
  obtain ⟨d, -, h1, h2⟩ := State.run_request hw
  generalize s.advance t = a at *
  let ks := (List.range 8).filter fun k => bit (u req 0 1) k
  let b : State := { a.withDict d with radio := { a.radio with
    waggles := Tbl.put a.radio.waggles a.radio.waggleNext ⟨w, req.drop 4⟩, waggleNext := a.radio.waggleNext + 1 } }
  have hks {j : Nat} : j ∈ ks ↔ j < 8 ∧ bit (u req 0 1) j = true := by simp [ks]
  have hne : ks ≠ [] := by
    intro hnil
    have hlt : u req 0 1 < 256 := by
      unfold u slice
      match List.take 1 (List.drop 0 req), List.length_take_le 1 (List.drop 0 req) with
      | [], _ => decide
      | [x], _ => simpa [leNat] using x.isLt
    have hz (j : Nat) (hj : j < 8) : (u req 0 1).testBit j = false := by
      have : ¬ bit (u req 0 1) j = true := fun hb => List.ne_nil_of_mem (hks.mpr ⟨hj, hb⟩) hnil
      simpa [bit, Nat.testBit_eq_decide_div_mod_eq] using this
    refine h0 (Nat.eq_of_testBit_eq fun j => ?_)
    rw [Nat.zero_testBit]
    by_cases hj : j < 8
    · exact hz j hj
    · exact Nat.testBit_lt_two_pow (lt_of_lt_of_le hlt (Nat.pow_le_pow_right (n := 2) (by decide) (show 8 ≤ j by omega)))
  have e : ((a.withDict d).portOp w 0x2C12 0 req).1 = ks.foldl (fun s k => s.setModem k fun m => { m with msgs := m.msgs ++ [(a.radio.waggleNext, u req 1 1)] }) b := by
    show ((a.withDict d).radioWaggle w req).1 = _
    unfold State.radioWaggle
    extract_lets mask rep ks' id r
    rw [if_neg (by simp [hz]; omega), if_neg, if_neg, if_neg hne]
    · rfl
    · simp only [Bool.not_eq_true, List.any_eq_false, decide_eq_false_iff_not]
      intro j hj
      have := hq j (hks.mp hj).1
      show ¬ 16 ≤ (a.modem j).msgs.length
      omega
    · simp only [Bool.not_eq_true, List.any_eq_false, Bool.not_eq_false']
      exact fun j hj => hm j (hks.mp hj).1 (hks.mp hj).2
  rw [e] at h1 h2
  have hr := h1 .radio (by decide)
  obtain ⟨w1, w2⟩ := State.addMsgs_waggles (a.radio.waggleNext, u req 1 1) ks b
  refine .next ⟨?_, ?_, (congrArg Radio.waggleNext hr).trans w2, h2 _ (by decide) ?_⟩
  · rw [State.modem_of_radio hr k, State.addMsgs_modem _ _ (List.nodup_range.filter _) fun j hj => ?_]
    · simp only [List.mem_filter, List.mem_range, hk, true_and]
      rfl
    · show j < a.radio.modems.length
      have := (hks.mp hj).1
      omega
  · rw [(congrArg Radio.waggles hr).trans w1]
    exact Tbl.get?_put ..
  · rw [← e]
    exact (Only.withDict a d (by decide)).step fun p hp => State.radioWaggle_same (Part.ne_of_notMem hp (by decide)) ..

/-- Settles O31. -/
theorem radioCommands : Obligations.RadioCommands :=
  ⟨radioCommit_yields, radioNeighbourListen_yields, linkParamRequest_yields, linkUpdateInstant_yields, linkEnd_yields, machineIdWrite_yields,
    machineIdWrite_refused, radioSend_yields, radioWaggle_yields, hyperperiodBoundary_yields⟩

end Sys2Proof.Machine
end

section
set_option Elab.async false
/-!
PROOF. Chapter 3: reads and requests of the dictionary service, and the answer each is given (R90, R127, R132, R133, R146).
-/

namespace Sys2Proof.Machine

variable {s : State} {c : Caller} {idx sub off max i req : Nat}

/-! ### Reads that pass the checks -/

/-- What a READ answers for an object that reads as `v` (Table 3.7). -/
def Ans.read (limited : Bool) (v : Bytes) : Ans := if limited && readMax < v.length then Ans.tooLarge else Ans.value v v.length

/-- What a BLOCK_READ answers for an object that reads as `v` (R133). -/
def Ans.block (off max : Nat) (v : Bytes) : Ans := if v.length < off then Ans.high else Ans.value (slice v off max) v.length

theorem State.readOp_answers {opcode : Nat} (limited : Bool) (h : s.reads c opcode idx sub 0 = true) (hx : idx ≠ 0x1230) :
    s.Refuses (fun s => s.readOp c idx sub limited) (Ans.read limited (s.readVal idx sub)) := by
  intro d hd
  simp only [State.readOp, State.readFront_runs h hd (.inl hx), State.readVal_dict hd]
  rfl

theorem State.blockReadOp_answers {opcode : Nat} (h : s.reads c opcode idx sub off = true) (hx : idx ≠ 0x1230 ∨ off ≠ 0) :
    s.Refuses (fun s => s.blockReadOp c idx sub off max) (Ans.block off max (s.readVal idx sub)) := by
  intro d hd
  simp only [State.blockReadOp, State.readFront_runs h hd hx, State.readVal_dict hd]
  rfl

theorem State.reads_admits {opcode : Nat} (h : s.reads c opcode idx sub off = true) : s.admits c opcode (key idx sub) off = true := by
  rw [State.reads, Bool.and_eq_true] at h
  exact h.1

/-- A READ record is always well-formed. -/
theorem State.record_read (s : State) (i req idx sub : Nat) :
    s.record (.coil i req) { opcode := 1, flags := 0, req := req, idx := idx, sub := sub, res := 0, offset := 0, param := 0, data := [] }
      = s.access (.coil i req) 1 (key idx sub) 0 fun s => s.readOp (.coil i req) idx sub true := by
  unfold State.record
  rw [if_neg]
  · rfl
  · simp [Rec.malformed]

/-- A BLOCK_READ record is well-formed that asks for 1 to 1,348 bytes. -/
theorem State.record_blockRead (s : State) (i req idx sub off : Nat) (h1 : 1 ≤ max) (h2 : max ≤ readMax) :
    s.record (.coil i req) { opcode := 3, flags := 0, req := req, idx := idx, sub := sub, res := 0, offset := off, param := max, data := [] }
      = s.access (.coil i req) 3 (key idx sub) off fun s => s.blockReadOp (.coil i req) idx sub off max := by
  unfold State.record
  rw [if_neg]
  · rfl
  · simp [Rec.malformed]; omega

/-! ### USDO uploads (R146) -/

theorem State.usdoRead_runs {port client : Nat} (h : s.reads (.usdo port client) 0 idx sub 0 = true) (hx : idx ≠ 0x1230) {d : Dict}
    (hd : d.Alike s.dict) :
    (s.withDict d).usdoRead port client idx sub
      = ((s.withDict d).emit (.usdoUp port client (s.usdoType idx sub) (s.readVal idx sub)), none) := by
  simp only [State.usdoRead, State.readOp_answers false h hx d hd]
  rfl

theorem State.usdoAccess_unicast {port client : Nat} (h1 : s.servesUsdo port = true) (h2 : s.canUp port = true) (k : Nat)
    (body : State → State × Option Ans) : s.usdoAccess port client .unicast k body = s.access (.usdo port client) 0 k 0 body := by
  simp [State.usdoAccess, h1, h2]

theorem State.usdoAccess_other {port client : Nat} {kind : UsdoKind} (h1 : s.servesUsdo port = true) (h2 : s.canUp port = true)
    (hk : kind ≠ .unicast) (k : Nat) (body : State → State × Option Ans) :
    s.usdoAccess port client kind k body = s.emit (.usdo port client 0x06010000 []) := by
  cases kind
  case unicast => exact absurd rfl hk
  all_goals simp [State.usdoAccess, h1, h2]

/-! ### A record in a datagram -/

/-- A datagram that R127 accepts leaves the session's responses and operations as they were. -/
theorem State.admits_accepted {opcode k : Nat} (h : s.admits (.coil i req) opcode k off = true) (q now : Nat) :
    (s.setSession i fun x => x.accepted q now).admits (.coil i req) opcode k off = true := by
  simp only [State.admits, Bool.and_eq_true] at h ⊢
  obtain ⟨h1, h2, h3⟩ := h
  refine ⟨h1, h2, ?_⟩
  rw [State.setSession_get, if_pos rfl]
  cases hx : Tbl.get? s.dict.sessions i with
  | none => rw [hx] at h3; cases h3
  | some x => rw [hx] at h3; exact h3

theorem State.admits_server {opcode k : Nat} (h : s.admits (.coil i req) opcode k off = true) : s.hostOf i = false := by
  simp only [State.admits, Bool.and_eq_true] at h
  obtain ⟨-, -, h⟩ := h
  unfold State.hostOf
  cases hx : Tbl.get? s.dict.sessions i with
  | none => rfl
  | some x =>
    rw [hx] at h
    simp only [Bool.and_eq_true, Option.isNone_iff_eq_none] at h
    show x.nbr.isSome = false
    rw [h.1]
    rfl

/-- A state whose dictionary service differs in bookkeeping alone reads the same. -/
theorem State.Refuses.withDict {body : State → State × Option Ans} {a : Ans} (h : s.Refuses body a) {d : Dict} (hd : d.Alike s.dict) :
    (s.withDict d).Refuses body a := fun e he => h e (he.trans hd)

theorem State.stamp_get {v : State} {x : Session} (h : Tbl.get? v.dict.sessions i = some x) :
    ∃ g : Nat → Nat, Tbl.get? v.stamp.dict.sessions i = some { x with outbox := x.outbox.map (OutRec.fill g) } := by
  have hm : Tbl.get? v.stamp.dict.sessions i
      = (Tbl.get? v.dict.sessions i).map fun y => { y with outbox := y.outbox.map (OutRec.fill v.countGens.genOf) } :=
    Tbl.get?_map v.dict.sessions i fun y : Session => ({ y with outbox := y.outbox.map (OutRec.fill v.countGens.genOf) } : Session)
  exact ⟨v.countGens.genOf, by rw [hm, h, Option.map_some]⟩

/-- A datagram of one record to a session that this device serves is that record, after R127. -/
theorem State.coilDatagram_one {hdr : Bytes} {body : Sealed} {q : Rec} (ho : s.opened hdr body 3 = some i)
    (hr : records (body.plain.length / 20 + 1) body.plain = [q])
    (hh : (s.setSession i fun x => x.accepted (u hdr 8 8) s.now).hostOf i = false) :
    s.coilDatagram hdr body = ((s.setSession i fun x => x.accepted (u hdr 8 8) s.now).record (.coil i q.req) q).stamp := by
  unfold State.coilDatagram
  simp only [ho]
  rw [if_neg (by rw [hh]; decide), hr, List.foldl_cons, List.foldl_nil]

/-- The record of an access in a datagram waits to leave, with the generation of that instant. -/
theorem State.datagram_session {hdr : Bytes} {body : Sealed} {q : Rec} {f : State → State × Option Ans} {a : Ans}
    (ho : s.opened hdr body 3 = some i) (hr : records (body.plain.length / 20 + 1) body.plain = [q])
    (ha : s.admits (.coil i q.req) q.opcode (key q.idx q.sub) q.offset = true)
    (hq : ∀ x : State, x.record (.coil i q.req) q = x.access (.coil i q.req) q.opcode (key q.idx q.sub) q.offset f) (hf : s.Refuses f a) :
    ∃ x g, Tbl.get? (s.coilDatagram hdr body).dict.sessions i = some x ∧
      x.outbox = [.built ⟨q.req, q.opcode, key q.idx q.sub, q.offset⟩ true (respRecord ⟨q.req, q.opcode, key q.idx q.sub, q.offset⟩ a g)] ∧
      x.newTo ⟨q.req, q.opcode, key q.idx q.sub, q.offset⟩ := by
  have hw := State.admits_accepted ha (u hdr 8 8) s.now
  rw [State.coilDatagram_one ho hr (State.admits_server hw), hq]
  have hwf : (s.setSession i fun x => x.accepted (u hdr 8 8) s.now).Refuses f a := hf.withDict (Dict.alike_setSession _ _ _ fun _ => rfl)
  obtain ⟨x, hx, hxo, hxn⟩ := State.access_answers hw (body := f) (a := a) fun d hd => by rw [hwf d hd]; exact ⟨rfl, rfl⟩
  obtain ⟨g, hg⟩ := State.stamp_get hx
  refine ⟨_, g (key q.idx q.sub), hg, ?_, hxn⟩
  rw [hxo]
  rfl

/-- The one record of a datagram is answered as it is when it comes alone. -/
theorem State.run_datagram {t : Nat} {hdr : Bytes} {body : Sealed} {q : Rec} {f : State → State × Option Ans} {a : Ans}
    (ho : (s.advance t).opened hdr body 3 = some i) (hr : records (body.plain.length / 20 + 1) body.plain = [q])
    (ha : (s.advance t).admits (.coil i q.req) q.opcode (key q.idx q.sub) q.offset = true)
    (hq : ∀ x : State, x.record (.coil i q.req) q = x.access (.coil i q.req) q.opcode (key q.idx q.sub) q.offset f)
    (hf : (s.advance t).Refuses f a) :
    (s.run t fun s => s.coilDatagram hdr body).answered i ⟨q.req, q.opcode, key q.idx q.sub, q.offset⟩ a := by
  obtain ⟨x, g, hx, hxo, hxn⟩ := State.datagram_session ho hr ha hq hf
  obtain ⟨y, -, h1, h2⟩ := State.run_built (body := fun s => s.coilDatagram hdr body)
    (b := fun _ => respRecord ⟨q.req, q.opcode, key q.idx q.sub, q.offset⟩ a g) hx (fun _ => by rw [hxo]; rfl) hxn
  exact ⟨y, g, h1, h2⟩

/-! ### Segments of a TRANSACT (R133, R134) -/

/-- The session has the transfer `f` in place of the one of its object. -/
def Session.keepXfer (f : Xfer) (x : Session) : Session := { x.dropXfer f.key with xfers := (x.dropXfer f.key).xfers ++ [f] }

theorem Session.keepXfer_xferOf (f : Xfer) (x : Session) : (x.keepXfer f).xferOf f.key = some f := by
  have h : (x.xfers.filter fun g => decide (g.key ≠ f.key)).find? (fun g => decide (g.key = f.key)) = none := by
    rw [List.find?_eq_none]
    intro g hg
    simpa using (List.mem_filter.mp hg).2
  show (x.xfers.filter _ ++ [f]).find? _ = some f
  rw [List.find?_append, h]
  simp

/-- The first segment of a transfer takes no place that another had. -/
theorem Session.place_first (x : Session) (opcode k : Nat) {total len : Nat} (h : len ≤ total) : x.place opcode k 0 total len = .ok [] := by
  simp [Session.place, Nat.not_lt.mpr h]

/-- Checks 2 to 7 of a segment do not see a partial transfer. -/
theorem State.segmentCheck_dropXfer {d : Dict} (hd : d.Alike s.dict) (k opcode total : Nat) (hi : idx ≠ 0x1211) :
    ((s.withDict d).setSession i fun x => x.dropXfer k).segmentCheck (.coil i req) opcode idx sub total
      = s.segmentCheck (.coil i req) opcode idx sub total := by
  unfold State.segmentCheck
  rw [State.front_session hd i req (f := fun x => x.dropXfer k) fun _ => rfl]
  simp only [if_neg hi]

variable {total : Nat} {data : Bytes}

/-- A session that an access finds is there whatever its bookkeeping. -/
theorem State.admits_session {opcode k : Nat} (h : s.admits (.coil i req) opcode k off = true) {d : Dict} (hd : d.Alike s.dict) :
    ∃ x, Tbl.get? d.sessions i = some x := by
  simp only [State.admits, Bool.and_eq_true] at h
  obtain ⟨-, -, h⟩ := h
  have hg := hd.get i
  cases hx : Tbl.get? d.sessions i with
  | some x => exact ⟨x, rfl⟩
  | none =>
    rw [hx] at hg
    cases hy : Tbl.get? s.dict.sessions i with
    | none => rw [hy] at h; cases h
    | some y => rw [hy] at hg; cases hg

/-- The first segment of a transfer, short of its total, is kept and noted. -/
theorem State.segmentOp_partial {opcode : Nat} (ha : s.admits (.coil i req) opcode (key idx sub) 0 = true)
    (hc : s.segmentCheck (.coil i req) opcode idx sub total = none) (hi : idx ≠ 0x1211) (hl : data.length < total) {d : Dict}
    (hd : d.Alike s.dict) :
    (s.withDict d).segmentOp (.coil i req) opcode idx sub 0 total data
      = (((s.withDict d).setSession i fun x => x.dropXfer (key idx sub)).setSession i fun x =>
          { x with xfers := x.xfers ++ [{ opcode := opcode, key := key idx sub, total := total, data := data, last := s.now }] },
        some Ans.note) := by
  obtain ⟨x, hx⟩ := State.admits_session ha hd
  have hs : (s.withDict d).sessionOf (.coil i req) = some x := hx
  have hne : ¬ data.length = total := Nat.ne_of_lt hl
  unfold State.segmentOp
  simp only [hs, x.place_first opcode (key idx sub) (Nat.le_of_lt hl), State.onSession, State.segmentCheck_dropXfer hd _ opcode total hi, hc,
    List.nil_append, if_neg hne]
  rfl

/-- The one segment of a whole request is the request, its partial transfer dropped. -/
theorem State.segmentOp_whole (ha : s.admits (.coil i req) 6 (key idx sub) 0 = true)
    (hc : s.segmentCheck (.coil i req) 6 idx sub data.length = none) (hi : idx ≠ 0x1211) {d : Dict} (hd : d.Alike s.dict) :
    (s.withDict d).segmentOp (.coil i req) 6 idx sub 0 data.length data
      = ((s.withDict d).setSession i fun x => x.dropXfer (key idx sub)).transactOp (.coil i req) idx sub data := by
  obtain ⟨x, hx⟩ := State.admits_session ha hd
  have hs : (s.withDict d).sessionOf (.coil i req) = some x := hx
  unfold State.segmentOp
  simp only [hs, x.place_first 6 (key idx sub) (Nat.le_refl _), State.onSession, State.segmentCheck_dropXfer hd _ 6 _ hi, hc,
    List.nil_append, if_true]

/-- A TRANSACT record of one segment is well-formed that carries at most 1,348 bytes. -/
theorem State.record_transact (s : State) (i req idx sub total : Nat) (hl : data.length ≤ readMax) :
    s.record (.coil i req) { opcode := 6, flags := 0, req := req, idx := idx, sub := sub, res := 0, offset := 0, param := total, data := data }
      = s.access (.coil i req) 6 (key idx sub) 0 fun s => s.segmentOp (.coil i req) 6 idx sub 0 total data := by
  unfold State.record
  rw [if_neg]
  · rfl
  · simp [Rec.malformed, Nat.not_lt.mpr hl]

theorem Only.setSession {ps : List Part} {a x : State} (hp : Part.dict ∈ ps) (h : Only ps a x) (i : Nat) (f : Session → Session) :
    Only ps a (x.setSession i f) := h.trans (Only.withDict x _ hp)

/-- The first segment of a transfer is noted, and the session keeps it until the next. -/
theorem State.run_segment {t opcode : Nat} {q : Rec} (ha : (s.advance t).admits (.coil i req) opcode (key idx sub) 0 = true)
    (hq : ∀ x : State, x.record (.coil i req) q
      = x.access (.coil i req) opcode (key idx sub) 0 fun s => s.segmentOp (.coil i req) opcode idx sub 0 total data)
    (hc : (s.advance t).segmentCheck (.coil i req) opcode idx sub total = none) (hi : idx ≠ 0x1211) (hl : data.length < total) :
    let f : Xfer := { opcode := opcode, key := key idx sub, total := total, data := data, last := (s.advance t).now }
    let u := s.run t fun s => s.record (.coil i req) q
    u.answered i ⟨req, opcode, key idx sub, 0⟩ Ans.note ∧ (∃ x, Tbl.get? u.dict.sessions i = some x ∧ x.xferOf (key idx sub) = some f)
      ∧ Only told (s.advance t) u := by
  intro f u
  have eb (d : Dict) (hd : d.Alike (s.advance t).dict) := State.segmentOp_partial ha hc hi hl hd
  obtain ⟨x, -, y, hx, hxo, hxn, -, -, hxf, -⟩ := State.access_changes ha (a := Ans.note)
    (body := fun s => s.segmentOp (.coil i req) opcode idx sub 0 total data) (Session.keepXfer f) (fun _ => ⟨rfl, rfl, rfl⟩) fun d hd => by
      simp only [eb d hd, State.setSession_get, if_true, Option.map_map, and_true]
      rfl
  rw [← hq] at hx
  refine ⟨State.run_answered hx hxo hxn, ?_, ?_⟩
  · have hf := State.run_field Session.xfers (fun _ _ => rfl) (fun _ _ _ => rfl) s t i fun s => s.record (.coil i req) q
    rw [hx, Option.map_some, Option.map_eq_some_iff] at hf
    obtain ⟨z, hz, hzf⟩ := hf
    refine ⟨z, hz, ?_⟩
    unfold Session.xferOf
    rw [hzf, hxf]
    exact y.keepXfer_xferOf f
  · refine Only.run (fun _ hp => hp) ?_
    rw [hq]
    obtain ⟨d, hd, e⟩ := State.access_runs ha fun s => s.segmentOp (.coil i req) opcode idx sub 0 total data
    rw [e, eb d hd]
    exact Only.answer? (fun _ hp => hp) (Only.setSession (by decide) (Only.setSession (by decide) (Only.withDict _ d (by decide)) _ _) _ _)

/-! ### LogQuery -/

/-- Check 7 lets no value through that is longer than its object's maximum. -/
theorem lengthCheck_max {r : ObjRow} {n : Nat} (h : lengthCheck r n = none) : n ≤ r.max := by
  unfold lengthCheck at h
  split at h
  · split at h
    · omega
    · cases h
  · split at h
    · cases h
    · split at h
      · cases h
      · omega

theorem logQuery_max : ∀ r ∈ objTable, r.has 0x1410 0 = true → r.max = 12 := by decide +kernel

/-- A request that passes the checks has the row its length was checked against. -/
theorem State.requests_row (h : s.requests c idx data = true) :
    ∃ r, s.front c .transact idx 0 = .ok r ∧ s.gasketOf r = none ∧ lengthCheck r data.length = none := by
  rw [State.requests, Bool.and_eq_true] at h
  obtain ⟨ho, h⟩ := h
  obtain ⟨r, hf, hg⟩ := State.opens_front ho
  rw [hf] at h
  exact ⟨r, hf, hg, Option.isNone_iff_eq_none.mp h⟩

theorem State.requests_admits (h : s.requests c idx data = true) : s.admits c 6 (key idx 0) 0 = true := by
  rw [State.requests, Bool.and_eq_true] at h
  exact State.opens_admits h.1

/-- LogQuery is answered with the records it asks for, whatever session asks. -/
theorem State.logQuery_transact (h : s.requests (.coil i req) 0x1410 data = true) (f : Session → Session) (hf : ∀ x, (f x).priv = x.priv)
    {d : Dict} (hd : d.Alike s.dict) :
    ((s.withDict d).setSession i f).transactOp (.coil i req) 0x1410 0 data = ((s.withDict d).setSession i f, some (s.logQuery data)) := by
  obtain ⟨r, hr, hg, hl⟩ := State.requests_row h
  have hg' : ((s.withDict d).setSession i f).gasketOf r = none := hg
  simp only [State.transactOp, State.transactWith, State.front_session hd i req hf, hr, hl, State.behind, hg']
  rfl

/-- A LogQuery of one segment is answered with the records it asks for. -/
theorem State.run_logQuery {t : Nat} (h : (s.advance t).requests (.coil i req) 0x1410 data = true) :
    let u := s.run t fun s => s.record (.coil i req)
      { opcode := 6, flags := 0, req := req, idx := 0x1410, sub := 0, res := 0, offset := 0, param := data.length, data := data }
    u.answered i ⟨req, 6, key 0x1410 0, 0⟩ ((s.advance t).logQuery data) ∧ Only told (s.advance t) u := by
  intro u
  have ha := State.requests_admits h
  obtain ⟨r, hr, -, hl⟩ := State.requests_row h
  have hm : data.length ≤ readMax := by
    have h12 := logQuery_max r (findObj_mem (State.row_device (State.front_row hr) (.inl (by decide)))).1
      (findObj_mem (State.row_device (State.front_row hr) (.inl (by decide)))).2
    have := lengthCheck_max hl
    have : readMax = 1348 := rfl
    omega
  have hc : (s.advance t).segmentCheck (.coil i req) 6 0x1410 0 data.length = none := by
    simp [State.segmentCheck, hr, hl, orElse]
  have eb (d : Dict) (hd : d.Alike (s.advance t).dict) :
      ((s.advance t).withDict d).segmentOp (.coil i req) 6 0x1410 0 0 data.length data
        = (((s.advance t).withDict d).setSession i fun x => x.dropXfer (key 0x1410 0), some ((s.advance t).logQuery data)) := by
    rw [State.segmentOp_whole ha hc (by decide) hd, State.logQuery_transact h (fun x => x.dropXfer (key 0x1410 0)) (fun _ => rfl) hd]
  obtain ⟨x, -, -, hx, hxo, hxn, -⟩ := State.access_changes ha (a := (s.advance t).logQuery data)
    (body := fun s => s.segmentOp (.coil i req) 6 0x1410 0 0 data.length data) (fun x => x.dropXfer (key 0x1410 0))
    (fun _ => ⟨rfl, rfl, rfl⟩) fun d hd => by simp only [eb d hd, State.setSession_get, if_true, and_true]; rfl
  rw [← State.record_transact _ i req 0x1410 0 data.length hm] at hx
  refine ⟨State.run_answered hx hxo hxn, Only.run (fun _ hp => hp) ?_⟩
  rw [State.record_transact _ i req 0x1410 0 data.length hm]
  obtain ⟨d, hd, e⟩ := State.access_runs ha fun s => s.segmentOp (.coil i req) 6 0x1410 0 0 data.length data
  rw [e, eb d hd]
  exact Only.answer? (fun _ hp => hp) (Only.setSession (by decide) (Only.withDict _ d (by decide)) _ _)

/-- Settles O15: an access that passes the checks reads its object and leaves all but the session's bookkeeping. -/
theorem readsAnswer : Obligations.ReadsAnswer := by
  unfold Obligations.ReadsAnswer
  refine ⟨?_, ?_, ?_, ?_, ?_, ?_, ?_⟩
  · intro s t sid req idx sub a h hx
    have hr := State.readOp_answers true h hx
    refine ⟨_, rfl, ?_⟩
    simp only [State.record_read]
    have ha := State.run_refused_answered (State.reads_admits h) hr
    simp only [Ans.read, Bool.true_and, decide_eq_true_eq] at ha
    exact ⟨ha, State.run_refused_only (State.reads_admits h) hr⟩
  · intro s t sid req idx sub off max a h hx h1 h2
    have hr := State.blockReadOp_answers (max := max) h hx
    refine ⟨_, rfl, ?_⟩
    simp only [State.record_blockRead _ sid req idx sub off h1 h2]
    exact ⟨State.run_refused_answered (State.reads_admits h) hr, State.run_refused_only (State.reads_admits h) hr⟩
  · intro s t port client idx sub a hsv hup h hx
    obtain ⟨d, hd, e⟩ := State.access_runs (State.reads_admits h) fun s => s.usdoRead port client idx sub
    have e' : a.usdoAccess port client .unicast (key idx sub) (fun s => s.usdoRead port client idx sub)
        = (a.withDict d).emit (.usdoUp port client (a.usdoType idx sub) (a.readVal idx sub)) := by
      rw [State.usdoAccess_unicast hsv hup, e, State.usdoRead_runs h hx hd]
      rfl
    refine ⟨_, rfl, State.run_sends ?_, Only.run (fun _ hp => hp) ?_⟩
    · rw [e']
      exact List.mem_cons_self
    · rw [e']
      exact (Only.withDict a d (by decide)).step fun p hp => State.emit_same (Part.ne_of_notMem hp (by decide)) ..
  · intro s t port client idx sub kind a hsv hup _ hk
    refine ⟨_, rfl, State.run_sends ?_, Only.run (fun _ hp => hp) ?_⟩
    · rw [State.usdoAccess_other hsv hup hk]
      exact List.mem_cons_self
    · rw [State.usdoAccess_other hsv hup hk]
      exact (Only.refl _ _).step fun p hp => State.emit_same (Part.ne_of_notMem hp (by decide)) ..
  · intro s t sid req idx sub hdr body a ho h hx hl hrec
    have hr := State.readOp_answers true h hx
    have e : Ans.read true (a.readVal idx sub) = Ans.value (a.readVal idx sub) (a.readVal idx sub).length :=
      if_neg (by rw [Bool.true_and, decide_eq_true_eq]; exact Nat.not_lt.mpr hl)
    rw [e] at hr
    exact ⟨_, rfl, State.run_datagram ho hrec (State.reads_admits h) (fun x => State.record_read x sid req idx sub) hr⟩
  · intro s t sid req idx sub total data a ha hc hi hl hm
    exact ⟨_, rfl, State.run_segment ha (fun x => State.record_transact x sid req idx sub total hm) hc hi hl⟩
  · intro s t sid req data a h
    exact ⟨_, rfl, State.run_logQuery h⟩

end Sys2Proof.Machine
end

section
set_option Elab.async false
/-!
PROOF. Chapter 3: writes that pass the checks of R112, by every path (R89, R112, R132, R134, R146).
-/

namespace Sys2Proof.Machine

variable {s : State} {c : Caller} {idx sub i req : Nat} {v : Bytes}

/-! ### An access of a session, whatever its object does to the session's counters -/

/-- What of a session an answer rests on: its responses waiting, its operations in flight, and its responses kept. -/
def Session.talk (x : Session) : List OutRec × List InFlight × List Kept := (x.outbox, x.flight, x.kept)

/-- A session waits for the answer to one new operation. -/
structure Session.Asked (x : Session) (f : InFlight) : Prop where
  outbox : x.outbox = []
  flight : x.flight.find? (fun g => decide (g.req = f.req)) = some f
  new : x.newTo f

theorem Session.Asked.of_talk {x y : Session} {f : InFlight} (h : x.Asked f) (e : y.talk = x.talk) : y.Asked f := by
  simp only [Session.talk, Prod.mk.injEq] at e
  obtain ⟨e1, e2, e3⟩ := e
  have hn := h.new
  exact ⟨e1.trans h.outbox, by rw [e2]; exact h.flight, by
    unfold Session.newTo Session.keptFor at hn ⊢
    rw [e3]
    exact hn⟩

/-- Where an access of a session passes check 1, its body runs on a state that differs in bookkeeping alone, in which the session waits
for the answer. -/
theorem State.access_entry {opcode k off : Nat} (h : s.admits (.coil i req) opcode k off = true) :
    ∃ (d : Dict) (x y : Session), d.Alike s.dict ∧ Tbl.get? s.dict.sessions i = some x ∧ Tbl.get? d.sessions i = some y ∧ y.core = x.core ∧
      y.Asked ⟨req, opcode, k, off⟩ ∧
      ∀ body, s.access (.coil i req) opcode k off body = State.answer? (body (s.withDict d)) (.coil i req) := by
  simp only [State.admits, Bool.and_eq_true, Option.isNone_iff_eq_none] at h
  obtain ⟨hsv, hon, hx⟩ := h
  cases hg0 : Tbl.get? s.dict.sessions i with
  | none => rw [hg0] at hx; cases hx
  | some x =>
    rw [hg0] at hx
    simp only [Session.takes, Bool.and_eq_true, Bool.not_eq_true', decide_eq_true_eq, Option.isNone_iff_eq_none] at hx
    obtain ⟨hn, ⟨⟨hk, hf⟩, hl⟩, he⟩ := hx
    have hs : x.nbr.isSome = false := by rw [hn]; rfl
    have hl' : ¬ 32 ≤ x.flight.length := Nat.not_le.mpr hl
    let f : InFlight := ⟨req, opcode, k, off⟩
    let z := (s.setSession i fun y => { y with last := s.now }).onSession (.coil i req) fun y => { y with flight := y.flight ++ [f] }
    obtain ⟨d, hd, e⟩ := State.seen_touched z (.coil i req) k
    have hds : d.sessions = z.dict.sessions := by
      have h1 := congrArg (fun u : State => u.dict.sessions) e
      have h2 : ((z.touch k).seenBy (.coil i req) k).dict.sessions = z.dict.sessions := by
        show (z.touch k).dict.sessions = _
        unfold State.touch
        split <;> rfl
      exact h1.symm.trans h2
    have hda : d.Alike s.dict := (hd.trans (Dict.alike_setSession _ _ _ fun _ => rfl)).trans (Dict.alike_setSession s i _ fun _ => rfl)
    have he' : x.outbox = [] := by simpa using he
    refine ⟨d, x, { x with last := s.now, flight := x.flight ++ [f] }, hda, rfl, ?_, rfl, ⟨he', ?_, ?_⟩, fun body => ?_⟩
    · rw [hds]
      simp only [z, State.onSession, State.setSession_get, hg0, Option.map_some, if_true]
    · show (x.flight ++ [f]).find? _ = _
      have hno : x.flight.find? (fun g => decide (g.req = req)) = none := by
        rw [List.find?_eq_none]
        intro y hy
        rw [List.any_eq_false] at hf
        exact hf y hy
      rw [List.find?_append, hno]
      simp [f]
    · exact Session.newTo_of_empty (y := x) he' hk
    · unfold State.access
      simp only [hsv]
      unfold State.served
      simp only [hg0, hon, hs, Bool.not_true, Bool.or_self, Bool.false_eq_true, if_false]
      unfold State.inSession
      simp only [show x.keptFor { req := Caller.req (.coil i req), opcode := opcode, key := k, offset := off } = none from hk, hf,
        Bool.false_eq_true, if_false, if_neg hl']
      exact congrArg (fun w => State.answer? (body w) (.coil i req)) e

/-- The answer to a session that waits for it is the one response that waits to leave. -/
theorem State.answer_asked {a : Ans} {f : InFlight} {x : Session} (hx : Tbl.get? s.dict.sessions i = some x) (h : x.Asked f) :
    ∃ y, Tbl.get? (s.answer (.coil i f.req) a).dict.sessions i = some y ∧ y.outbox = [.resp f a true] ∧ y.newTo f := by
  refine ⟨x.respond f.req a, ?_, ?_, ?_⟩
  · show Tbl.get? (s.setSession i _).dict.sessions i = _
    rw [State.setSession_get, if_pos rfl, hx, Option.map_some]
  · unfold Session.respond
    rw [h.flight]
    simp [h.outbox]
  · have hn := h.new
    unfold Session.respond
    rw [h.flight]
    exact hn

/-- An access that passes check 1 is answered where its body answers and leaves what the session says alone. -/
theorem State.access_talks {opcode k off : Nat} {body : State → State × Option Ans} {a : Ans}
    (h : s.admits (.coil i req) opcode k off = true)
    (hb : ∀ d : Dict, d.Alike s.dict →
      (Tbl.get? (body (s.withDict d)).1.dict.sessions i).map Session.talk = (Tbl.get? d.sessions i).map Session.talk ∧
        (body (s.withDict d)).2 = some a) :
    ∃ x, Tbl.get? (s.access (.coil i req) opcode k off body).dict.sessions i = some x ∧
      x.outbox = [.resp ⟨req, opcode, k, off⟩ a true] ∧ x.newTo ⟨req, opcode, k, off⟩ := by
  obtain ⟨d, -, y, hd, -, hy, -, hasked, e⟩ := State.access_entry h
  obtain ⟨h1, h2⟩ := hb d hd
  rw [hy, Option.map_some, Option.map_eq_some_iff] at h1
  obtain ⟨z, hz, hzt⟩ := h1
  rw [e body]
  unfold State.answer?
  simp only [h2]
  exact State.answer_asked hz (hasked.of_talk hzt)

/-! ### What storing a value leaves of sessions -/

/-- What the sessions of `s` say is what those of `u` say. -/
def State.Talks (s u : State) : Prop := ∀ i, (Tbl.get? u.dict.sessions i).map Session.talk = (Tbl.get? s.dict.sessions i).map Session.talk

theorem State.Talks.refl (s : State) : s.Talks s := fun _ => rfl
theorem State.Talks.trans {s u w : State} (h : s.Talks u) (k : u.Talks w) : s.Talks w := fun i => (k i).trans (h i)
theorem State.Talks.of_dict {s u : State} (h : Part.dict.same s u) : s.Talks u := fun _ => by rw [State.sessions_of_same h]

theorem State.Talks.setSession (s : State) (i : Nat) {f : Session → Session} (hf : ∀ x, (f x).talk = x.talk) : s.Talks (s.setSession i f) := by
  intro j
  rw [State.setSession_get]
  split
  · cases Tbl.get? s.dict.sessions j with
    | none => rfl
    | some x => exact congrArg some (hf x)
  · rfl

theorem State.toNbr_talks (s : State) (n index : Nat) (msg : Bytes) : s.Talks (s.toNbr n index msg) := by
  unfold State.toNbr
  split
  · exact .refl s
  · rename_i i _
    extract_lets w
    split
    · exact .refl s
    · exact State.Talks.setSession w i fun _ => rfl

theorem State.sendNotices_talks (s : State) (reason : Nat) : s.Talks (s.sendNotices reason) := by
  have hf : ∀ (l : List Nat) (f : State → Nat → State), (∀ (x : State) (n : Nat), x.Talks (f x n)) → ∀ x : State, x.Talks (l.foldl f x) := by
    intro l f hf
    induction l with
    | nil => exact fun x => .refl x
    | cons n l ih => exact fun x => (hf x n).trans (ih _)
  unfold State.sendNotices
  extract_lets mode body
  split
  · exact .refl s
  · refine hf _ _ (fun x n => ?_) s
    extract_lets q st w
    exact State.toNbr_talks w _ _ _

theorem State.setLatch_talks (s : State) (l : Latch) (src reason : Nat) : s.Talks (s.setLatch l src reason) := by
  unfold State.setLatch
  extract_lets had a b st w x y
  have hy : s.Talks y := by
    have hx : s.Talks x := .of_dict ((State.refreshGo_same (by decide) s w).mpr (same_stop (by decide) s s _ |>.mpr (Part.same_refl _ s)))
    have hyx : x.Talks y := by
      simp only [y]
      split
      · exact .of_dict ((State.count_same (by decide) x x _ _ _).mpr (Part.same_refl _ x))
      · exact .refl x
    exact hx.trans hyx
  split
  · exact hy.trans (State.sendNotices_talks y reason)
  · exact hy

theorem State.siJudge_talks (s : State) (n : Nat) : s.Talks (s.siJudge n) := by
  unfold State.siJudge
  extract_lets cc w
  split
  · exact State.setLatch_talks w _ _ _
  · exact .refl s

/-- What the block of a stored object does says nothing to a session. -/
theorem State.storedAt_talks (s : State) (idx sub : Nat) (old : Bytes) (v : Bytes) : s.Talks (s.storedAt idx sub old v) := by
  unfold State.storedAt
  split
  · exact .of_dict ((State.bufferWritten_same (by decide) s s _ _ _).mpr (Part.same_refl _ s))
  · split
    · split
      · exact .of_dict ((State.refreshGo_same (by decide) s s).mpr (Part.same_refl _ s))
      · exact .refl s
    · split
      case h_1 =>
        split
        · exact .refl s
        · exact .of_dict ((State.clashEnded_same (by decide) (by decide) s s).mpr (Part.same_refl _ s))
      case h_2 => exact .of_dict ((State.counterCleared_same (by decide) s s _).mpr (Part.same_refl _ s))
      case h_3 | h_4 | h_5 => exact .of_dict ((State.servo_same (by decide) (by decide) s s).mpr (Part.same_refl _ s))
      case h_6 => exact .of_dict ((State.slewRated_same (by decide) s s).mpr (Part.same_refl _ s))
      case h_7 => exact .of_dict ((State.refinChosen_same (by decide) s s _).mpr (Part.same_refl _ s))
      case h_8 => exact .of_dict ((State.ethConfigured_same (by decide) (by decide) (by decide) s s _ _).mpr (Part.same_refl _ s))
      case h_9 => exact .of_dict ((State.listenWritten_same (by decide) s s _ _).mpr (Part.same_refl _ s))
      case h_10 => exact .of_dict ((State.rateWritten_same (by decide) s s).mpr (Part.same_refl _ s))
      case h_11 => exact State.siJudge_talks s _
      case h_12 | h_13 => exact .of_dict ((State.refreshGo_same (by decide) s s).mpr (Part.same_refl _ s))
      case h_14 => exact .refl s

/-! ### Plain objects -/

/-- The object has no action of its own as it is written, and its block takes the value. -/
structure State.Stores (s : State) (idx sub : Nat) (v : Bytes) : Prop where
  mode : idx ≠ 0x3000
  sleep : ¬ (0x2820 ≤ idx ∧ idx < 0x2828 ∧ sub = 8)
  machine : ¬ (0x7000 ≤ idx ∧ sub = 1)
  block : s.blockCheck idx sub v = none

/-- What a bound of time does as its object is written (R632). -/
def State.beforeStore (s : State) (idx : Nat) : State := if idx = 0x2016 ∨ idx = 0x2017 then s.rollBound else if idx = 0x2013 then s.slewMoved else s

theorem State.beforeStore_same (s : State) (idx : Nat) {p : Part} (hp : ¬ p = .tb) : p.same s (s.beforeStore idx) := by
  unfold State.beforeStore
  split
  · exact (State.rollBound_same hp s s).mpr (Part.same_refl _ s)
  · split
    · exact (State.slewMoved_same hp s s).mpr (Part.same_refl _ s)
    · exact Part.same_refl _ s

theorem State.applyWrite_stores (h : s.Stores idx sub v) :
    s.applyWrite idx sub v = (((s.beforeStore idx).setVal (key idx sub) v).storedAt idx sub (s.val (key idx sub)) v, some (Ans.done [])) := by
  obtain ⟨h1, h2, h3, h4⟩ := h
  unfold State.applyWrite
  have h2' : ¬ (decide (0x2820 ≤ idx) && decide (idx < 0x2828) && decide (sub = 8)) = true := by simpa [and_assoc] using h2
  have h3' : ¬ (decide (0x7000 ≤ idx) && decide (sub = 1)) = true := by simpa using h3
  rw [if_neg h1, if_neg h2', if_neg h3']
  simp only [h4, State.beforeStore, Bool.or_eq_true, decide_eq_true_eq]

theorem State.Stores.withDict (h : s.Stores idx sub v) (d : Dict) : (s.withDict d).Stores idx sub v :=
  ⟨h.mode, h.sleep, h.machine, by rw [State.blockCheck_dict]; exact h.block⟩

/-- A stored value reads back, every other object keeps its own, no island moves, and no session is told anything. -/
theorem State.applyWrite_effect (h : s.Stores idx sub v) :
    (s.applyWrite idx sub v).1.cfgB idx sub = v ∧ (∀ k, k ≠ key idx sub → (s.applyWrite idx sub v).1.val k = s.val k) ∧
      s.Talks (s.applyWrite idx sub v).1 ∧ Part.islands.same s (s.applyWrite idx sub v).1 := by
  rw [State.applyWrite_stores h]
  let w := (s.beforeStore idx).setVal (key idx sub) v
  have ho := w.storedAt_only idx sub (s.val (key idx sub)) v
  have hv (k : Nat) : (w.storedAt idx sub (s.val (key idx sub)) v).val k = w.val k :=
    State.val_congr (ho .settings (by decide)) (ho .fabric (by decide)) k
  refine ⟨(hv _).trans (State.val_setVal _ _ _), fun k hk => ?_, ?_, ?_⟩
  · refine (hv k).trans ((State.val_setVal_ne hk).trans ?_)
    exact State.val_congr (s.beforeStore_same idx (p := .settings) (by decide)) (s.beforeStore_same idx (p := .fabric) (by decide)) k
  · exact (State.Talks.of_dict (s.beforeStore_same idx (by decide))).trans (w.storedAt_talks idx sub _ v)
  · exact Part.same_trans (s.beforeStore_same idx (p := .islands) (by decide)) (ho .islands (by decide))

theorem ObjRow.stored_kind {r : ObjRow} (h1 : r.isCommit = false) (h2 : r.acc = 2) : r.kind = 3 := by simp [ObjRow.kind, h1, h2]
theorem ObjRow.shadow_kind {r : ObjRow} (h1 : r.isCommit = false) (h2 : r.acc = 4) (h3 : r.commit ≠ 0) : r.kind = 1 := by
  simp [ObjRow.kind, h1, h2, h3]

/-- A write to a plain object stores its value and leaves every other, by any path. -/
theorem State.run_stores {t : Nat} {r : ObjRow} (h : (s.advance t).writes c idx sub v = true) (hi : idx < 0x6000 ∨ 0x7000 ≤ idx)
    (hf : findObj idx sub = some r) (hk : r.kind = 3) (hs : (s.advance t).Stores idx sub v) :
    (s.run t fun s => s.writeBy c idx sub v).cfgB idx sub = v ∧
      ∀ k, k ≠ key idx sub → (s.run t fun s => s.writeBy c idx sub v).val k = (s.advance t).val k := by
  obtain ⟨d, -, h1, -⟩ := State.run_stored h hi fun r' hr => by rw [hf] at hr; cases hr; exact hk
  obtain ⟨e1, e2, -⟩ := State.applyWrite_effect (hs.withDict d)
  have hv := State.val_congr (h1 .settings (by decide)) (h1 .fabric (by decide))
  exact ⟨(hv _).trans e1, fun k hk => (hv k).trans (e2 k hk)⟩

/-- A write that passes the checks has its object's own effect whatever the bookkeeping, where the object is plain. -/
theorem State.writeOp_stores {r : ObjRow} (h : s.writes c idx sub v = true) (hi : idx < 0x6000 ∨ 0x7000 ≤ idx) (hf : findObj idx sub = some r)
    (hk : r.kind = 3) {d : Dict} (hd : d.Alike s.dict) : (s.withDict d).writeOp c idx sub v = (s.withDict d).applyWrite idx sub v := by
  obtain ⟨r', hr, e⟩ := State.writeOp_runs h
  have hrr : r' = r := Option.some.inj ((State.row_device hr hi).symm.trans hf)
  rw [e d hd, hrr, State.writeEffect_stored hk hi]

/-- The writer is answered DONE. -/
theorem State.run_stores_answered {t : Nat} {r : ObjRow} (h : (s.advance t).writes (.coil i req) idx sub v = true)
    (hi : idx < 0x6000 ∨ 0x7000 ≤ idx) (hf : findObj idx sub = some r) (hk : r.kind = 3) (hs : (s.advance t).Stores idx sub v) :
    (s.run t fun s => s.writeBy (.coil i req) idx sub v).answered i ⟨req, 2, key idx sub, 0⟩ (Ans.done []) := by
  obtain ⟨x, hx, ho, hn⟩ := State.access_talks (State.writes_admits h) (a := Ans.done []) (body := fun s => s.writeOp (.coil i req) idx sub v)
    fun d hd => by
      obtain ⟨-, -, ht, -⟩ := State.applyWrite_effect (hs.withDict d)
      rw [State.writeOp_stores h hi hf hk hd]
      exact ⟨ht i, congrArg Prod.snd (State.applyWrite_stores (hs.withDict d))⟩
  exact State.run_answered hx ho hn

/-! ### Shadows -/

theorem Only.takeHold {ps : List Part} {a x : State} (hp : Part.dict ∈ ps) (h : Only ps a x) (c : Caller) (g : Nat) :
    Only ps a (x.takeHold c g) := by
  unfold State.takeHold
  split
  · exact h
  · exact h.trans (Only.withDict x _ hp)

/-- A write to a shadow stores it, makes the writer the editor, and does nothing else (R107). -/
theorem State.run_shadow {t : Nat} {r : ObjRow} (h : (s.advance t).writes c idx sub v = true) (hi : idx < 0x6000 ∨ 0x7000 ≤ idx)
    (hf : findObj idx sub = some r) (hk : r.kind = 1) :
    let u := s.run t fun s => s.writeBy c idx sub v
    u.cfgB idx sub = v ∧ (∀ k, k ≠ key idx sub → u.val k = (s.advance t).val k) ∧ Only (told ++ [Part.settings]) (s.advance t) u := by
  obtain ⟨d, g, -, e⟩ := State.writeBy_shadow h hi fun r' hr => by rw [hf] at hr; cases hr; exact hk
  obtain ⟨h1, h2⟩ := State.run_write e
  let w := (((s.advance t).withDict d).takeHold c g).notCarried g
  have hw : Only (told ++ [Part.settings]) (s.advance t) w := by
    refine (Only.takeHold (by decide) (Only.withDict _ d (by decide)) c g).step fun p hp => ?_
    exact same_settings (Part.ne_of_notMem hp (by decide)) ..
  have hwv (k : Nat) : w.val k = (s.advance t).val k := by
    show (((s.advance t).withDict d).takeHold c g).val k = _
    have ht : Only told ((s.advance t)) (((s.advance t).withDict d).takeHold c g) :=
      Only.takeHold (by decide) (Only.withDict _ d (by decide)) c g
    exact State.val_congr (ht .settings (by decide)) (ht .fabric (by decide)) k
  have hv := State.val_congr (h1 .settings (by decide)) (h1 .fabric (by decide))
  refine ⟨(hv _).trans (State.val_setVal _ _ _), fun k hk => ?_, h2 _ (by decide) ?_⟩
  · exact (hv k).trans ((State.val_setVal_ne hk).trans (hwv k))
  · exact hw.step fun p hp => State.setVal_same (Part.ne_of_notMem hp (by decide)) ..

/-! ### USDO downloads (R146) -/

theorem State.usdoAccess_write {port client : Nat} {ty : CanType} {r : ObjRow} (h1 : s.servesUsdo port = true) (h2 : s.canUp port = true)
    (ht : canTypeOf r.ty = ty) (h : s.writes (.usdo port client) idx sub v = true) (hi : idx < 0x6000 ∨ 0x7000 ≤ idx)
    (hf : findObj idx sub = some r) (hk : r.kind = 3) :
    ∃ d : Dict, s.usdoAccess port client .unicast (key idx sub) (fun s => s.usdoWrite port client idx sub ty v)
      = State.answer? ((s.withDict d).applyWrite idx sub v) (.usdo port client) := by
  have hop := h
  simp only [State.writes, Bool.and_eq_true] at hop
  obtain ⟨r', hr', hg⟩ := State.opens_front hop.1
  have hrr : r' = r := Option.some.inj ((State.row_device (State.front_row hr') hi).symm.trans hf)
  have hadm : s.admits (.usdo port client) 0 (key idx sub) 0 = true := by
    have := State.writes_admits h
    simpa only [State.admits] using this
  obtain ⟨d, hd, e⟩ := State.access_runs hadm fun s => s.usdoWrite port client idx sub ty v
  refine ⟨d, ?_⟩
  rw [State.usdoAccess_unicast h1 h2, e]
  unfold State.usdoWrite
  rw [State.front_dict hd, hr', hrr]
  simp only [ht, if_true, State.writeOp_stores h hi hf hk hd]

/-- Settles O16: a write that passes the checks stores its value and no other, and its caller is answered. -/
theorem writesStore : Obligations.WritesStore := by
  unfold Obligations.WritesStore
  refine ⟨?_, ?_, ?_, ?_, ?_⟩
  · intro s t idx sub c v r a h hi hf hc ha h1 h2 h3 h4
    exact ⟨_, rfl, State.run_stores h hi hf (ObjRow.stored_kind hc ha) ⟨h1, h2, h3, h4⟩⟩
  · intro s t idx sub c v r a h hi hf hc ha hg
    exact ⟨_, rfl, State.run_shadow h hi hf (ObjRow.shadow_kind hc ha hg)⟩
  · intro s t sid req idx sub v r a h hi hf hc ha h1 h2 h3 h4 hl
    refine ⟨_, rfl, ?_⟩
    simp only [State.record_write _ sid req idx sub hl]
    have hk := ObjRow.stored_kind hc ha
    obtain ⟨e1, e2⟩ := State.run_stores h hi hf hk ⟨h1, h2, h3, h4⟩
    exact ⟨e1, e2, State.run_stores_answered h hi hf hk ⟨h1, h2, h3, h4⟩⟩
  · intro s t port client idx sub ty v r a hsv hup ht h hi hf hc ha h1 h2 h3 h4
    have hs : a.Stores idx sub v := ⟨h1, h2, h3, h4⟩
    obtain ⟨d, e⟩ := State.usdoAccess_write hsv hup ht h hi hf (ObjRow.stored_kind hc ha)
    obtain ⟨e1, e2, -, e4⟩ := State.applyWrite_effect (hs.withDict d)
    have hu : Only (told ++ [.now, .silicon, .pending]) ((a.withDict d).applyWrite idx sub v).1
        (s.run t fun s => s.usdoAccess port client .unicast (key idx sub) fun s => s.usdoWrite port client idx sub ty v) := by
      refine Only.trans (Only.answer? (c := .usdo port client) (by decide) (Only.refl _ _)) ?_
      rw [← e]
      exact State.run_only s t _
    have hv := State.val_congr (hu .settings (by decide)) (hu .fabric (by decide))
    refine ⟨_, rfl, (hv _).trans e1, fun k hk => (hv k).trans (e2 k hk), State.run_sends ?_⟩
    have hn : ((a.withDict d).applyWrite idx sub v).1.up .network = true := by
      have hisl : ((a.withDict d).applyWrite idx sub v).1.islands = a.islands := e4
      have : a.up .network = true := by
        rw [State.canUp, Bool.and_eq_true] at hup
        exact hup.1
      unfold State.up State.isl at this ⊢
      rw [hisl]
      exact this
    show Out.usdo port client 0 [] ∈ (a.usdoAccess port client .unicast (key idx sub) fun s => s.usdoWrite port client idx sub ty v).out
    rw [e]
    have ea : ((a.withDict d).applyWrite idx sub v).2 = some (Ans.done []) := congrArg Prod.snd (State.applyWrite_stores (hs.withDict d))
    unfold State.answer?
    simp only [ea, State.answer, hn, if_true]
    exact List.mem_cons_self
  · intro s t sid req idx sub total data a ha hc hi hl hm
    exact ⟨_, rfl, State.run_segment ha (fun x => by
      unfold State.record
      rw [if_neg]
      · rfl
      · simp [Rec.malformed, readMax, Nat.not_lt.mpr hm]) hc hi hl⟩

end Sys2Proof.Machine
end

section
set_option Elab.async false
/-!
PROOF. Chapter 3: Coil sessions opened, followed, closed and ended (R119, R129, R130, R136, R139, R141), and the end of a clash (R46).
-/

namespace Sys2Proof.Machine

variable {s : State} {i req : Nat}

/-! ### Opening (R119, R120) -/

/-- A free session identifier is not zero. -/
theorem State.freeSid_pos (s : State) (fuel n : Nat) (h : 1 ≤ n ∨ 1 ≤ fuel) : 1 ≤ s.freeSid fuel n := by
  induction fuel generalizing n with
  | zero =>
    rcases h with h | h
    · exact h
    · omega
  | succ fuel ih =>
    rw [State.freeSid]
    split
    · exact ih _ (.inl (by omega))
    · omega

/-- The keys an accepted HELLO agrees on (R122). -/
def State.helloKeys (s : State) (raw nonce : Bytes) (sid : Nat) : Bytes :=
  coilKeys (s.keySlot (u raw 16 2)).material (slice raw 20 32) nonce sid (u raw 16 2) (min (u raw 18 1) (s.keySlot (u raw 16 2)).ceiling)

/-- The session that an accepted HELLO opens. -/
def State.helloSession (s : State) (raw nonce : Bytes) (sid : Nat) : Session :=
  { Session.fresh (u raw 16 2) (s.keySlot (u raw 16 2)).gen (min (u raw 18 1) (s.keySlot (u raw 16 2)).ceiling) s.now with
    sid := sid, keyIn := hostKey (s.helloKeys raw nonce sid), keyOut := devKey (s.helloKeys raw nonce sid),
    ivIn := hostIv (s.helloKeys raw nonce sid), ivOut := devIv (s.helloKeys raw nonce sid) }

/-- The ACCEPT that answers a HELLO (R121). -/
def State.helloAccept (s : State) (raw nonce : Bytes) (sid : Nat) : Bytes :=
  let head := acceptHead sid (u raw 16 2) (min (u raw 18 1) (s.keySlot (u raw 16 2)).ceiling) s.controllerId nonce
  head ++ acceptConfirm (s.helloKeys raw nonce sid) head

/-- An accepted HELLO opens a session under fresh numbers and sends an ACCEPT. -/
theorem State.hello_accepted {raw : Bytes} (h1 : s.coilOn = true) (h2 : u raw 0 1 = 1) (h3 : s.helloOk raw = true) :
    ∃ (sid : Nat) (nonce : Bytes), 1 ≤ sid ∧
      s.hello raw = (({ s with free := s.free + 2 } : State).withDict
        { s.dict with sessions := Tbl.put s.dict.sessions sid (s.helloSession raw nonce sid) }).emit (.accept (s.helloAccept raw nonce sid)) := by
  have hl : ¬ 1400 < raw.length := by
    simp only [State.helloOk, Bool.and_eq_true, decide_eq_true_eq] at h3
    omega
  refine ⟨s.draw.1.freeSid 32 s.draw.2, (s.draw.1.drawBytes 32).2, State.freeSid_pos _ _ _ (.inr (by decide)), ?_⟩
  unfold State.hello
  rw [if_neg (by simp [h1, h2, hl]), if_neg (by simp [h3])]
  rfl

theorem State.logEv_dict (s : State) (ev : Ev) (p : Bytes) : (s.logEv ev p).dict = s.dict :=
  (State.logEv_same (pt := .dict) (by decide) s s ev p).mpr rfl

/-- A refused HELLO is counted and logged. -/
theorem State.hello_refused {raw : Bytes} (h1 : s.coilOn = true) (h2 : u raw 0 1 = 1) (hl : raw.length ≤ 1400) (h3 : s.helloOk raw = false) :
    s.hello raw = (s.withDict { s.dict with refused := wrap 32 (s.dict.refused + 1) }).logEv .coilRefused [] := by
  unfold State.hello
  rw [if_neg (by simp [h1, h2, hl]), if_pos (by simp [h3])]
  rfl

/-- The event does not see the dictionary service. -/
theorem State.logEv_withDict (s : State) (d : Dict) (ev : Ev) (p : Bytes) : ((s.withDict d).logEv ev p).log = (s.logEv ev p).log :=
  State.logEv_log_congr (x := s.withDict d) (y := s) rfl rfl rfl rfl rfl ev p

theorem State.hello_refused_effect {raw : Bytes} (h1 : s.coilOn = true) (h2 : u raw 0 1 = 1) (hl : raw.length ≤ 1400)
    (h3 : s.helloOk raw = false) :
    (s.hello raw).dict.refused = wrap 32 (s.dict.refused + 1) ∧ (s.hello raw).log = (s.logEv .coilRefused []).log ∧
      Only (told ++ [Part.log]) s (s.hello raw) := by
  rw [State.hello_refused h1 h2 hl h3]
  refine ⟨by rw [State.logEv_dict]; rfl, State.logEv_withDict s _ _ _, ?_⟩
  exact (Only.withDict s _ (by decide)).step fun p hp => State.logEv_same (Part.ne_of_notMem hp (by decide)) ..

/-! ### Subscriptions (R139 to R141) -/

/-- The session follows an object by this subscription alone. -/
def Session.follow (y : Sub) (x : Session) : Session := let x := x.dropSub y.key; { x with subs := x.subs ++ [y] }

theorem Session.follow_subOf (x : Session) (y : Sub) : (x.follow y).subOf y.key = some y := by
  have h : (x.subs.filter fun z => decide (z.key ≠ y.key)).find? (fun z => decide (z.key = y.key)) = none := by
    rw [List.find?_eq_none]
    intro g hg
    simpa using (List.mem_filter.mp hg).2
  show (x.subs.filter _ ++ [y]).find? _ = some y
  rw [List.find?_append, h]
  simp

/-- The subscription of an object's key is replaced by one of the same key. -/
theorem Session.subOf_map {x : Session} {k : Nat} {y z : Sub} (h : x.subOf k = some y) (hz : z.key = k) :
    (x.subs.map fun w => if w.key = k then z else w).find? (fun w => decide (w.key = k)) = some z := by
  unfold Session.subOf at h
  generalize x.subs = l at h
  induction l with
  | nil => cases h
  | cons w l ih =>
    rw [List.map_cons, List.find?_cons]
    rw [List.find?_cons] at h
    by_cases hw : w.key = k
    · simp [hw, hz]
    · simp only [hw, decide_false, if_false] at h ⊢
      exact ih h

/-- A SUBSCRIBE that passes the checks makes its session follow the object, and is answered DONE. -/
theorem State.subscribeOp_follows {d : Dict} {x y : Session} {r : ObjRow} {idx sub period : Nat} {onch : Bool} (hd : d.Alike s.dict)
    (hx : Tbl.get? s.dict.sessions i = some x) (hy : Tbl.get? d.sessions i = some y) (hyx : y.core = x.core)
    (hs : (x.subOf (key idx sub)).isSome ∨ x.subs.length < 64) (hf : s.front (.coil i req) .read idx sub = .ok r)
    (hg : s.gasketOf r = none) (hp : period < 65536) (hq : 10 ≤ period ∨ (period = 0 ∧ onch = true)) :
    ∃ z : Sub, z.key = key idx sub ∧ (z.req, z.period, z.onChange, z.count, z.last) = (req, period, onch, 0, s.now) ∧
      (s.withDict d).subscribeOp (.coil i req) idx sub (period + 65536 * onch.toNat)
        = ((s.withDict d).setSession i (Session.follow z), some (Ans.done [])) := by
  have e1 : (period + 65536 * onch.toNat) % 65536 = period := by omega
  have e2 : bit (period + 65536 * onch.toNat) 16 = onch := by
    have h0 : period / 65536 = 0 := Nat.div_eq_of_lt hp
    cases onch <;> simp [bit, h0, Nat.add_div_of_dvd_left]
  have hsub : y.subs = x.subs := by
    have := congrArg Session.subs hyx
    exact this
  have hn : s.sessionOf (.coil i req) = some x := hx
  have hdn : (s.withDict d).sessionOf (.coil i req) = some y := hy
  have hg' : (s.withDict d).gasketOf r = none := hg
  refine ⟨{ key := key idx sub, req := req, period := period, onChange := onch, count := 0, last := s.now,
            gen := (s.withDict d).genOf (key idx sub), readable := true, turns := (s.withDict d).turnsOf (key idx sub), reply := none }, rfl, rfl, ?_⟩
  unfold State.subscribeOp
  simp only [hdn, e1, e2]
  rw [if_neg, if_neg, State.front_dict hd, hf]
  · simp only [hg']
    rw [if_neg]
    · rfl
    · simp only [Bool.and_eq_true, decide_eq_true_eq]; omega
  · simp only [Session.subOf, hsub, Bool.and_eq_true, Option.isNone_iff_eq_none, decide_eq_true_eq, not_and, not_le] at hs ⊢
    intro hno
    rw [hno] at hs
    simpa using hs
  · rcases hq with hq | ⟨-, hq⟩
    · simp; omega
    · simp [hq]

/-- A SUBSCRIBE record's period and mark fit its param. -/
theorem State.record_subscribe (s : State) (i req idx sub : Nat) {param : Nat} (h : param < 2 ^ 17) :
    s.record (.coil i req) { opcode := 7, flags := 0, req := req, idx := idx, sub := sub, res := 0, offset := 0, param := param, data := [] }
      = s.access (.coil i req) 7 (key idx sub) 0 fun s => s.subscribeOp (.coil i req) idx sub param := by
  unfold State.record
  rw [if_neg]
  · rfl
  · simp [Rec.malformed]; omega

/-- The subscription of an object as a session has it. -/
def State.subAt (s : State) (i k : Nat) : Option Sub := (Tbl.get? s.dict.sessions i).bind fun x => x.subOf k

theorem State.run_subAt (s : State) (t i k : Nat) (body : State → State) : (s.run t body).subAt i k = (body (s.advance t)).subAt i k := by
  have h := State.run_field Session.subs (fun _ _ => rfl) (fun _ _ _ => rfl) s t i body
  unfold State.subAt Session.subOf
  revert h
  cases Tbl.get? (s.run t body).dict.sessions i <;> cases Tbl.get? (body (s.advance t)).dict.sessions i <;> simp
  intro h
  rw [h]

theorem State.answer_subAt (s : State) (c : Caller) (a : Ans) (i k : Nat) : (s.answer c a).subAt i k = s.subAt i k := by
  have hr : ∀ (x : Session) (r : Nat), (x.respond r a).subs = x.subs := by
    intro x r
    unfold Session.respond
    split <;> rfl
  cases c with
  | coil j r =>
    show (Tbl.get? (s.setSession j fun x => x.respond r a).dict.sessions i).bind _ = _
    rw [State.setSession_get]
    split
    · unfold State.subAt
      cases Tbl.get? s.dict.sessions i with
      | none => rfl
      | some x => exact congrArg (List.find? _) (hr x r)
    · rfl
  | applet h r => rfl
  | usdo p n => unfold State.answer; simp only []; split <;> rfl
  | firmware => rfl

theorem State.subAt_map {α : Type} {k : Nat} {z : Sub} {f : Sub → α} {v : α} (h : s.subAt i k = some z) (hf : f z = v) :
    ((Tbl.get? s.dict.sessions i).bind fun x => (x.subOf k).map f) = some v := by
  unfold State.subAt at h
  cases hx : Tbl.get? s.dict.sessions i with
  | none => rw [hx] at h; cases h
  | some x =>
    rw [hx, Option.bind_some] at h
    rw [Option.bind_some, h, Option.map_some, hf]

/-- A SUBSCRIBE that passes the checks is answered DONE, and the session follows the object from now on (R139, R140). -/
theorem State.run_subscribe {t idx sub period : Nat} {onch : Bool} {x : Session} {r : ObjRow}
    (ha : (s.advance t).admits (.coil i req) 7 (key idx sub) 0 = true) (hx : Tbl.get? (s.advance t).dict.sessions i = some x)
    (hs : (x.subOf (key idx sub)).isSome ∨ x.subs.length < 64) (hf : (s.advance t).front (.coil i req) .read idx sub = .ok r)
    (hg : (s.advance t).gasketOf r = none) (hp : period < 65536) (hq : 10 ≤ period ∨ (period = 0 ∧ onch = true)) :
    let u := s.run t fun s => s.record (.coil i req) ⟨7, 0, req, idx, sub, 0, 0, period + 65536 * onch.toNat, []⟩
    u.answered i ⟨req, 7, key idx sub, 0⟩ (Ans.done [])
      ∧ ((Tbl.get? u.dict.sessions i).bind fun y => (y.subOf (key idx sub)).map fun z => (z.req, z.period, z.onChange, z.count, z.last))
        = some (req, period, onch, 0, (s.advance t).now) ∧ Only told (s.advance t) u := by
  intro u
  obtain ⟨d, x', y, hd, hx', hy, hyx, hasked, e⟩ := State.access_entry ha
  have hxx : x' = x := Option.some.inj (hx'.symm.trans hx)
  rw [hxx] at hyx
  obtain ⟨z, hz, hzf, eb⟩ := State.subscribeOp_follows hd hx hy hyx hs hf hg hp hq
  have hm : period + 65536 * onch.toNat < 2 ^ 17 := by cases onch <;> simp <;> omega
  have er : (s.advance t).record (.coil i req) ⟨7, 0, req, idx, sub, 0, 0, period + 65536 * onch.toNat, []⟩
      = State.answer? (((s.advance t).withDict d).setSession i (Session.follow z), some (Ans.done [])) (.coil i req) := by
    rw [State.record_subscribe _ _ _ _ _ hm, e, eb]
  have hw : Tbl.get? (((s.advance t).withDict d).setSession i (Session.follow z)).dict.sessions i = some (y.follow z) := by
    rw [State.setSession_get, if_pos rfl]
    show (Tbl.get? d.sessions i).map _ = _
    rw [hy, Option.map_some]
  obtain ⟨w, hw1, hw2, hw3⟩ := State.answer_asked (a := Ans.done []) hw (hasked.of_talk (y := y.follow z) rfl)
  refine ⟨?_, ?_, Only.run (by decide) ?_⟩
  · refine State.run_answered (x := w) ?_ hw2 hw3
    rw [er]
    exact hw1
  · have hsub := State.run_subAt s t i (key idx sub) fun s => s.record (.coil i req) ⟨7, 0, req, idx, sub, 0, 0, period + 65536 * onch.toNat, []⟩
    have hsz : (((s.advance t).withDict d).setSession i (Session.follow z)).subAt i (key idx sub) = some z := by
      unfold State.subAt
      rw [hw, Option.bind_some, ← hz]
      exact y.follow_subOf z
    rw [er] at hsub
    exact State.subAt_map (hsub.trans ((State.answer_subAt _ _ _ _ _).trans hsz)) hzf
  · rw [er]
    exact Only.answer? (by decide) (Only.setSession (by decide) (Only.withDict _ d (by decide)) i _)

/-- How many HELLOs were refused is after a command as its effect left it. -/
theorem State.run_refused (s : State) (t : Nat) (body : State → State) : (s.run t body).dict.refused = (body (s.advance t)).dict.refused := by
  have hf : ∀ (l : Tbl Session) (x : State), (l.foldl (fun s e => s.flushSession e.1) x).dict.refused = x.dict.refused := by
    intro l
    induction l with
    | nil => exact fun _ => rfl
    | cons e l ih =>
      intro x
      rw [List.foldl_cons, ih]
      unfold State.flushSession
      split <;> rfl
  exact hf _ _

/-! ### NOTIFY (R141) -/

/-- A periodic subscription of a session that is due sends its NOTIFY: it counts it, and notes the instant. -/
theorem State.notifyDue_periodic {k : Nat} {x : Session} {y : Sub} (hi : i ≠ 0) (hc : s.up .compute = true)
    (hx : Tbl.get? s.dict.sessions i = some x) (hy : x.subOf k = some y) (ho : y.onChange = false) (hl : y.last + y.period * ms ≤ s.now) :
    ∃ (z : Sub) (o : OutRec), z.key = k ∧ (z.req, z.period, z.count, z.last) = (y.req, y.period, wrap 32 (y.count + 1), s.now) ∧
      s.notifyDue i k = s.countGens.setSession i fun x =>
        { x with subs := x.subs.map (fun w => if w.key = k then z else w), outbox := x.outbox ++ [o] } := by
  have hk : y.key = k := by
    unfold Session.subOf at hy
    simpa using List.find?_some hy
  have hx' : Tbl.get? s.countGens.dict.sessions i = some x := hx
  let a := ((s.countGens.readOp (.coil i y.req) (k / 256) (k % 256) true).2).getD Ans.absent
  have hc' : s.countGens.up .compute = true := hc
  have hdue : y.due s.countGens.now (s.countGens.genOf k) (s.countGens.turnsOf k) a.ok = true := by
    unfold Sub.due
    rw [ho]
    simpa using (show y.last + y.period * ms ≤ s.countGens.now from hl)
  refine ⟨{ y with count := wrap 32 (y.count + 1), last := s.now, gen := s.countGens.genOf k, readable := a.ok, turns := s.countGens.turnsOf k },
    .built { req := y.req, opcode := 8, key := k, offset := 0 } false
      (respRecord { req := y.req, opcode := 8, key := k, offset := 0 } { a with total := wrap 32 (y.count + 1) } (s.countGens.genOf k)),
    hk, rfl, ?_⟩
  unfold State.notifyDue
  simp only [if_neg hi, hx', hy]
  rw [if_neg (by rw [hc', Bool.not_true, Bool.false_or]; exact fun h => by rw [hdue] at h; cases h)]
  rfl

/-! ### The end of a session (R129, R130) -/

/-- The end of a session leaves every other. -/
theorem State.endSession_sessions (s : State) (i : Nat) : (s.endSession i).dict.sessions = Tbl.del s.dict.sessions i := by
  have hr : ∀ (l : List Hold) (x : State), (l.foldl (fun s h => returnShadow s h.commit) x).dict.sessions = x.dict.sessions := by
    intro l
    induction l with
    | nil => exact fun _ => rfl
    | cons h l ih =>
      intro x
      rw [List.foldl_cons, ih]
      exact State.sessions_of_same ((returnShadow_same (by decide) x x h.commit).mpr (Part.same_refl _ x))
  have he : ∀ x : State, (x.endHolds (.coil i)).dict.sessions = x.dict.sessions := fun x => hr _ _
  unfold State.endSession
  simp only []
  split
  · split
    · exact he _
    · exact he _
  · exact he _

theorem State.endSession_out (s : State) (i : Nat) : (s.endSession i).out = s.out :=
  (State.endSession_same (pt := .out) (by decide) (by decide) (by decide) s s i).mpr rfl

theorem State.endSession_only (s : State) (i : Nat) : Only (told ++ [Part.settings, Part.comb]) s (s.endSession i) := fun _ hp =>
  (State.endSession_same (Part.ne_of_notMem hp (by decide)) (Part.ne_of_notMem hp (by decide)) (Part.ne_of_notMem hp (by decide)) s s i).mpr
    (Part.same_refl _ s)

/-- A session closed by this device: it is sent a CLOSE, and ends. -/
theorem State.run_closed {t : Nat} {x : Session} {body : State → State}
    (hx : Tbl.get? (s.advance t).dict.sessions i = some x) (hb : body (s.advance t) = ((s.advance t).sendClose i).endSession i) :
    ((s.advance t).up .network = true → Out.close i (x.txSeq + 1) (x.datagram 4 (x.txSeq + 1) []) ∈ (s.run t body).out) ∧
      Tbl.get? (s.run t body).dict.sessions i = none ∧ Only (told ++ [Part.settings, Part.comb]) (s.advance t) (s.run t body) := by
  refine ⟨fun hu => State.run_sends ?_, State.run_none ?_, Only.run (by decide) ?_⟩
  · rw [hb, State.endSession_out]
    unfold State.sendClose
    simp only [hu, if_true, hx]
    exact List.mem_cons_self
  · rw [hb, State.endSession_sessions]
    exact Tbl.get?_del _ _
  · rw [hb]
    refine Only.trans ?_ (State.endSession_only _ i)
    exact (Only.refl _ _).step fun p hp => State.sendClose_same (Part.ne_of_notMem hp (by decide)) (Part.ne_of_notMem hp (by decide)) ..

theorem State.opened_hears {hdr : Bytes} {body : Sealed} {type : Nat} (h : s.opened hdr body type = some i) : s.coilHears = true := by
  unfold State.opened at h
  split at h
  · rename_i hc
    simp only [Bool.and_eq_true] at hc
    exact hc.1.1.1.1.1
  · cases h

theorem State.coilHears_network (h : s.coilHears = true) : s.up .network = true := by
  simp only [State.coilHears, Bool.and_eq_true] at h
  exact h.1.2

/-- A CLOSE from the far end: a host's is answered by one, and the session ends. -/
theorem State.coilClosed_ends {hdr : Bytes} {body : Sealed} {x : Session} (ho : s.opened hdr body 4 = some i) (hp : body.plain = [])
    (hx : Tbl.get? s.dict.sessions i = some x) :
    s.coilClosed hdr body = if x.nbr.isSome then s.endSession i else (s.sendClose i).endSession i := by
  have hh : s.hostOf i = x.nbr.isSome := by
    unfold State.hostOf
    rw [hx]
  unfold State.coilClosed
  simp only [ho, hp, ne_eq, not_true_eq_false, if_false, hh]

theorem State.run_coilClose {t : Nat} {hdr : Bytes} {body : Sealed} {x : Session} (ho : (s.advance t).opened hdr body 4 = some i)
    (hp : body.plain = []) (hx : Tbl.get? (s.advance t).dict.sessions i = some x) :
    let u := s.run t fun s => s.coilClosed hdr body
    (x.nbr = none → Out.close i (x.txSeq + 1) (x.datagram 4 (x.txSeq + 1) []) ∈ u.out) ∧ Tbl.get? u.dict.sessions i = none ∧
      Only (told ++ [Part.settings, Part.comb]) (s.advance t) u := by
  intro u
  have e := State.coilClosed_ends ho hp hx
  cases hn : x.nbr with
  | none =>
    rw [hn] at e
    obtain ⟨h1, h2, h3⟩ := State.run_closed (body := fun s => s.coilClosed hdr body) hx e
    exact ⟨fun _ => h1 (State.coilHears_network (State.opened_hears ho)), h2, h3⟩
  | some n =>
    rw [hn] at e
    have e' : (s.advance t).coilClosed hdr body = (s.advance t).endSession i := e
    refine ⟨fun h => (nomatch h), State.run_none ?_, Only.run (by decide) ?_⟩
    · rw [e', State.endSession_sessions]
      exact Tbl.get?_del _ _
    · rw [e']
      exact State.endSession_only _ i

/-- Settles O18. -/
theorem sessions : Obligations.Sessions := by
  unfold Obligations.Sessions
  refine ⟨?_, ?_, ?_, ?_, ?_, ?_, ?_, ?_⟩
  · intro s t raw a slot priv h1 h2 h3
    obtain ⟨sid, nonce, hp, e⟩ := State.hello_accepted h1 h2 h3
    have hf := State.run_field (fun x => (x.slot, x.priv, x.keyIn, x.ivIn, x.keyOut, x.ivOut)) (fun _ _ => rfl) (fun _ _ _ => rfl) s t sid
      fun s => s.hello raw
    have hg : Tbl.get? (a.hello raw).dict.sessions sid = some (a.helloSession raw nonce sid) := by
      rw [e]
      exact Tbl.get?_put _ _ _
    rw [hg, Option.map_some, Option.map_eq_some_iff] at hf
    obtain ⟨x, hx, hxf⟩ := hf
    simp only [Prod.mk.injEq] at hxf
    obtain ⟨x1, x2, x3, x4, x5, x6⟩ := hxf
    refine ⟨_, rfl, sid, nonce, x, hp, State.run_sends ?_, hx, x1, x2, x3, x4, x5, x6, Only.run (by decide) ?_⟩
    · rw [e]
      exact List.mem_cons_self
    · rw [e]
      refine Only.step ?_ fun p hp => State.emit_same (Part.ne_of_notMem hp (by decide)) ..
      refine Only.trans ?_ (Only.withDict _ _ (by decide))
      exact (Only.refl _ _).step fun p hp => same_free (Part.ne_of_notMem hp (by decide)) ..
  · intro s t raw a h1 h2 hl h3
    obtain ⟨e1, e2, e3⟩ := State.hello_refused_effect h1 h2 hl h3
    exact ⟨_, rfl, (State.run_refused s t _).trans e1, (State.run_log s t _).trans e2, Only.run (by decide) e3⟩
  · intro s t sid req idx sub period onch x r a ha hx hs hf hg hp hq
    exact ⟨_, rfl, State.run_subscribe ha hx hs hf hg hp hq⟩
  · intro s t sid idx sub x y a hi hc hx hy ho hl
    obtain ⟨z, o, hz, hzf, e⟩ := State.notifyDue_periodic hi hc hx hy ho hl
    refine ⟨_, rfl, Only.run (by decide) ?_, ?_⟩
    · rw [e]
      exact Only.setSession (by decide) (Only.withDict a _ (by decide)) sid _
    · have hsub := State.run_subAt s t sid (key idx sub) fun s => s.notifyDue sid (key idx sub)
      rw [e] at hsub
      refine State.subAt_map (hsub.trans ?_) hzf
      have hx' : Tbl.get? a.countGens.dict.sessions sid = some x := hx
      unfold State.subAt
      rw [State.setSession_get, if_pos rfl, hx', Option.map_some, Option.bind_some]
      exact Session.subOf_map hy hz
  · intro s t i hdr body x a ho hp hx
    exact ⟨_, rfl, State.run_coilClose ho hp hx⟩
  · intro s t sid x a hc hx hn hl
    have e : a.coilIdle sid = (a.sendClose sid).endSession sid := by
      unfold State.coilIdle
      simp only [hx]
      rw [if_pos (by simp [hc, hn, hl])]
    exact ⟨_, rfl, State.run_closed hx e⟩
  · intro s t sid idx sub x a hi hx
    have e : a.xferAbandon sid (key idx sub) = a.setSession sid fun x => x.abandon (key idx sub) a.now := if_neg hi
    refine ⟨_, rfl, ?_, Only.run (by decide) ?_⟩
    · rw [State.run_field Session.xfers (fun _ _ => rfl) (fun _ _ _ => rfl), e, State.setSession_get, if_pos rfl, hx]
      rfl
    · rw [e]
      exact Only.setSession (by decide) (Only.refl _ _) sid _
  · intro s t x a hc hl
    have e : a.clashSilent = a.clashEnded := by
      unfold State.clashSilent
      simp only [hc, hl, if_true]
    refine ⟨_, rfl, ?_, Only.run (by decide) ?_⟩
    · rw [State.run_clash, e]
      exact (State.refreshGo_same (pt := .clash) (by decide) { a with clash := none } { a with clash := none }).mpr rfl
    · rw [e]
      exact (Only.refl _ _).step fun p hp => State.clashEnded_same (Part.ne_of_notMem hp (by decide)) (Part.ne_of_notMem hp (by decide)) ..

end Sys2Proof.Machine
end

section
set_option Elab.async false
/-!
PROOF. Chapter 17: keys written, erased, invalidated and reloaded, sealing, and the life cycle (R808, R812, R813, R816, R819, R820,
R822, R829).
-/

namespace Sys2Proof.Machine

variable {s : State} {c : Caller} {t : Nat} {v : Bytes}

/-! ### Answers of the applet partition -/

/-- Where an access of the applet partition passes check 1, its body runs on a state that differs in bookkeeping alone, in which the
partition waits for the answer. -/
theorem State.applet_entry {h r opcode k off : Nat} (ha : s.admits (.applet h r) opcode k off = true) :
    ∃ d : Dict, d.Alike s.dict ∧ d.applet.Asked ⟨r, opcode, k, off⟩ ∧
      ∀ body, s.access (.applet h r) opcode k off body = State.answer? (body (s.withDict d)) (.applet h r) := by
  simp only [State.admits, Bool.and_eq_true, Option.isNone_iff_eq_none, Session.takes, Bool.not_eq_true', decide_eq_true_eq] at ha
  obtain ⟨hsv, ⟨⟨hk, hf⟩, hl⟩, he⟩ := ha
  have hl' : ¬ 32 ≤ s.dict.applet.flight.length := Nat.not_le.mpr hl
  have he' : s.dict.applet.outbox = [] := by simpa using he
  let f : InFlight := ⟨r, opcode, k, off⟩
  let z := s.onSession (.applet h r) fun y => { y with flight := y.flight ++ [f] }
  obtain ⟨d, hd, e⟩ := State.seen_touched z (.applet h r) k
  have hda : d.applet = z.dict.applet := by
    have h1 := congrArg (fun u : State => u.dict.applet) e
    have h2 : ((z.touch k).seenBy (.applet h r) k).dict.applet = z.dict.applet := by
      show (z.touch k).dict.applet = _
      unfold State.touch
      split <;> rfl
    exact h1.symm.trans h2
  refine ⟨d, hd.trans ⟨rfl, rfl, rfl⟩, ?_, fun body => ?_⟩
  · rw [hda]
    refine ⟨he', ?_, Session.newTo_of_empty (y := s.dict.applet) he' hk⟩
    have hno : s.dict.applet.flight.find? (fun g => decide (g.req = r)) = none := by
      rw [List.find?_eq_none]
      intro y hy
      rw [List.any_eq_false] at hf
      exact hf y hy
    show (s.dict.applet.flight ++ [f]).find? _ = _
    rw [List.find?_append, hno]
    simp [f]
  · unfold State.access
    simp only [hsv]
    unfold State.served
    simp only []
    unfold State.inSession
    simp only [show s.dict.applet.keptFor { req := Caller.req (.applet h r), opcode := opcode, key := k, offset := off } = none from hk, hf,
      Bool.false_eq_true, if_false, if_neg hl']
    exact congrArg (fun w => State.answer? (body w) (.applet h r)) e

/-- Asked, the partition's response is the one that waits to leave once it is answered. -/
theorem Session.Asked.responds {x : Session} {f : InFlight} (h : x.Asked f) (a : Ans) :
    (x.respond f.req a).outbox = [.resp f a true] ∧ (x.respond f.req a).newTo f := by
  have hn := h.new
  unfold Session.respond
  rw [h.flight]
  exact ⟨by simp [h.outbox], hn⟩

/-- The response of the applet partition to a new request leaves with the command, and is kept. -/
theorem State.run_applet {body : State → State} {f : InFlight} {a : Ans}
    (ho : (body (s.advance t)).dict.applet.outbox = [.resp f a true]) (hn : (body (s.advance t)).dict.applet.newTo f) :
    ∃ g, (s.run t body).dict.applet.keptFor f = some (respRecord f a g) := by
  have hf : ∀ (l : Tbl Session) (x : State), (l.foldl (fun s e => s.flushSession e.1) x).dict.applet = x.dict.applet := by
    intro l
    induction l with
    | nil => exact fun _ => rfl
    | cons e l ih =>
      intro x
      rw [List.foldl_cons, ih]
      unfold State.flushSession
      split <;> rfl
  let w := (body (s.advance t)).countGens
  let y : Session := { w.dict.applet with outbox := w.dict.applet.outbox.map (OutRec.fill w.genOf) }
  have hy : y.holds f (respRecord f a (w.genOf f.key)) := by
    refine .inl ⟨?_, hn⟩
    show (body (s.advance t)).dict.applet.outbox.map _ = _
    rw [ho]
    rfl
  let z := w.fillAll.dict.sessions.foldl (fun s e => s.flushSession e.1) w.fillAll
  have hz : (s.run t body).dict.applet = z.dict.applet.flushed z.genOf 0 := rfl
  refine ⟨w.genOf f.key, ?_⟩
  rw [hz, hf]
  exact Session.holds_kept (Session.flushed_holds _ _ hy)

/-! ### The flash as a command finds it -/

/-- The state in which the flash behaves so. -/
def State.onFlash (s : State) (x : Flash) : State := { s with flash := x }

theorem State.withFlash_eq (s : State) (x : Flash) (body : State → State) : s.withFlash x body = (body (s.onFlash x)).onFlash s.flash := rfl

/-- No check of a write sees how the flash behaves. -/
theorem State.onFlash_writes (s : State) (x : Flash) (c : Caller) (idx sub : Nat) (v : Bytes) :
    (s.onFlash x).writes c idx sub v = s.writes c idx sub v := rfl

theorem Only.withFlash {x : Flash} {body : State → State} (h : Only told (s.onFlash x) (body (s.onFlash x))) :
    Only told s (s.withFlash x body) := by
  intro p hp
  rw [State.withFlash_eq]
  by_cases hf : p = .flash
  · subst hf
    rfl
  · exact (same_flash hf s (body (s.onFlash x)) s.flash).mpr (Part.same_trans ((same_flash hf s s x).mpr (Part.same_refl _ s)) (h p hp))

/-- A command that its checks refuse does nothing, whatever the flash does. -/
theorem State.run_flash_refused {x : Flash} {idx : Nat} {a : Ans} (h : (s.advance t).writes c idx 0 v = true) (hi : idx < 0x6000)
    (hk : ∀ r, findObj idx 0 = some r → r.kind = 2) (ha : ((s.advance t).onFlash x).Refuses (fun s => s.command c idx 0 v) a) :
    Only told (s.advance t) (s.run t fun s => s.withFlash x fun s => s.writeBy c idx 0 v) := by
  refine Only.run (fun _ hp => hp) (Only.withFlash ?_)
  generalize s.advance t = b at *
  rw [← State.onFlash_writes b x] at h
  generalize b.onFlash x = b at *
  obtain ⟨d, hd, e⟩ := State.writeBy_command h (.inl hi) hk
  have hr : (b.withDict d).command c idx 0 v = (b.withDict d, some a) := ha d hd
  rw [e, hr]
  exact Only.answer? (fun _ hp => hp) (Only.withDict _ d (by decide))

/-- The keys after a command are those its effect makes. -/
theorem State.run_flash_keys {x : Flash} {idx : Nat} (h : (s.advance t).writes c idx 0 v = true) (hi : idx < 0x6000)
    (hk : ∀ r, findObj idx 0 = some r → r.kind = 2) :
    ∃ d : Dict, (s.run t fun s => s.withFlash x fun s => s.writeBy c idx 0 v).keys
      = ((((s.advance t).onFlash x).withDict d).command c idx 0 v).1.keys := by
  rw [State.run_keys, State.withFlash_eq]
  generalize s.advance t = b at *
  rw [← State.onFlash_writes b x] at h
  obtain ⟨d, -, e⟩ := State.writeBy_command h (.inl hi) hk
  refine ⟨d, ?_⟩
  rw [← State.answer?_keys _ c, ← e]
  rfl

/-! ### Slots -/

/-- A changed slot is written to the record that does not win. -/
theorem State.putKey_keys (s : State) (n : Nat) (x : KeySlot) :
    (s.putKey n x).keys = ({ s.keys with slots := Tbl.put s.keys.slots n x } : Keyring).persist := by
  let z : State := { s with keys := { s.keys with slots := Tbl.put s.keys.slots n x } }
  have h : z.withdrawKeys.keys = z.keys :=
    (State.withdrawKeys_same (pt := .keys) (by decide) (by decide) (by decide) (by decide) (by decide) z z).mpr rfl
  show z.withdrawKeys.keys.persist = _
  rw [h]

theorem State.answer_keys (s : State) (c : Caller) (a : Ans) : (s.answer c a).keys = s.keys :=
  (State.answer_same (pt := .keys) (by decide) (by decide) s s c a).mpr rfl

theorem State.answered_putKey (s : State) (c : Caller) (a : Ans) (n : Nat) (x : KeySlot) :
    ((s.answer c a).putKey n x).keys = ({ s.keys with slots := Tbl.put s.keys.slots n x } : Keyring).persist := by
  rw [State.putKey_keys, State.answer_keys]

theorem keyWrite_kind : ∀ r ∈ objTable, r.has 0x1111 0 = true → r.kind = 2 := by decide +kernel
theorem keyErase_kind : ∀ r ∈ objTable, r.has 0x1112 0 = true → r.kind = 2 := by decide +kernel
theorem keyInvalidate_kind : ∀ r ∈ objTable, r.has 0x1113 0 = true → r.kind = 2 := by decide +kernel
theorem lifecycle_kind : ∀ r ∈ objTable, r.has 0x1101 0 = true → r.kind = 2 := by decide +kernel

theorem leNat_byte {n : Nat} (h : n ≤ 254) : leNat (leBytes 1 n) = n := by
  simp only [leBytes, leNat, byte, BitVec.toNat_ofNat]
  omega

theorem State.keyWritten_refused {a : Ans} (h : s.keyWriteCheck v = some a) : s.keyWritten c v = (s, some a) := by
  unfold State.keyWritten
  rw [h]

theorem State.keyWritten_made (h : s.keyWriteCheck v = none) :
    (s.keyWritten c v).1.keys = ({ s.keys with slots := Tbl.put s.keys.slots (u v 0 1) (s.keyMade v) } : Keyring).persist := by
  unfold State.keyWritten
  rw [h]
  exact s.answered_putKey c _ _ _

variable {n : Nat}

theorem State.keyEndCheck_passes (h1 : 1 ≤ n) (h2 : n ≤ 254) (hg : (s.keySlot n).gen < 0xFFFF) (hf : s.flash.fails = false) : s.keyEndCheck n = none := by
  simp [State.keyEndCheck, firstFail, h1, h2, hg, hf]

/-- A slot whose record cannot be written does not change. -/
theorem State.keyEndCheck_flash (h1 : 1 ≤ n) (h2 : n ≤ 254) (hg : (s.keySlot n).gen < 0xFFFF) (hf : s.flash.fails = true) :
    s.keyEndCheck n = some (Ans.state 0x05110005) := by
  simp [State.keyEndCheck, firstFail, h1, h2, hg, hf]

theorem State.keyErased_empty (h1 : 1 ≤ n) (h2 : n ≤ 254) (h : (s.keySlot n).st = .empty) : s.keyErased c n = (s, some (Ans.done [])) := by
  simp [State.keyErased, h1, h2, h]

theorem State.keyErased_refused {a : Ans} (h : (s.keySlot n).st ≠ .empty) (ha : s.keyEndCheck n = some a) : s.keyErased c n = (s, some a) := by
  simp [State.keyErased, h, ha]

theorem State.keyErased_erases (h : (s.keySlot n).st ≠ .empty) (ha : s.keyEndCheck n = none) :
    (s.keyErased c n).1.keys = ({ s.keys with slots := Tbl.put s.keys.slots n (KeySlot.empty ((s.keySlot n).gen + 1)) } : Keyring).persist := by
  have e : s.keyErased c n = ((s.answer c (Ans.done [])).putKey n (KeySlot.empty ((s.keySlot n).gen + 1)), none) := by
    simp [State.keyErased, h, ha]
  rw [e]
  exact s.answered_putKey c _ _ _

theorem State.keyInvalidated_invalid (h1 : 1 ≤ n) (h2 : n ≤ 254) (h : s.keyState n = .invalid) : s.keyInvalidated c n = (s, some (Ans.done [])) := by
  simp [State.keyInvalidated, h1, h2, h]

theorem State.keyInvalidated_refused {a : Ans} (h : s.keyState n = .valid) (ha : s.keyEndCheck n = some a) :
    s.keyInvalidated c n = (s, some a) := by
  simp [State.keyInvalidated, h, ha]

/-- The slot that a KeyInvalidate makes. -/
def KeySlot.invalidated (x : KeySlot) : KeySlot := { x with st := .invalid, gen := x.gen + 1 }

theorem State.keyInvalidated_invalidates (h : (s.keySlot n).st = .valid) (hu : s.keyUsable n = true) (ha : s.keyEndCheck n = none) :
    (s.keyInvalidated c n).1.keys = ({ s.keys with slots := Tbl.put s.keys.slots n (s.keySlot n).invalidated } : Keyring).persist := by
  have hs : s.keyState n = .valid := by simp [State.keyState, h, hu]
  have e : s.keyInvalidated c n
      = ((s.answer c (Ans.done [])).putKey n (s.keySlot n).invalidated, none) := by
    simp [State.keyInvalidated, KeySlot.invalidated, hs, ha, h]
  rw [e]
  exact s.answered_putKey c _ _ _

theorem State.command_keyWrite (s : State) (c : Caller) (v : Bytes) : s.command c 0x1111 0 v = s.keyWritten c v := rfl
theorem State.command_keyErase (s : State) (c : Caller) (h : n ≤ 254) : s.command c 0x1112 0 (leBytes 1 n) = s.keyErased c n :=
  congrArg (s.keyErased c) (leNat_byte h)
theorem State.command_keyInvalidate (s : State) (c : Caller) (h : n ≤ 254) : s.command c 0x1113 0 (leBytes 1 n) = s.keyInvalidated c n :=
  congrArg (s.keyInvalidated c) (leNat_byte h)

theorem State.run_keyWrite {x : Flash} (hw : (s.advance t).writes c 0x1111 0 v = true) (hc : ((s.advance t).onFlash x).keyWriteCheck v = none) :
    (s.run t fun s => s.withFlash x fun s => s.writeBy c 0x1111 0 v).keys
      = ({ (s.advance t).keys with slots := Tbl.put (s.advance t).keys.slots (u v 0 1) ((s.advance t).keyMade v) } : Keyring).persist := by
  obtain ⟨d, e⟩ := State.run_flash_keys (x := x) hw (by decide) fun r => kind_of keyWrite_kind
  rw [e, State.command_keyWrite]
  generalize s.advance t = a at *
  exact State.keyWritten_made (s := (a.onFlash x).withDict d) hc

theorem State.run_keyWrite_refused {x : Flash} {a : Ans} (hw : (s.advance t).writes c 0x1111 0 v = true)
    (hc : ((s.advance t).onFlash x).keyWriteCheck v = some a) :
    Only told (s.advance t) (s.run t fun s => s.withFlash x fun s => s.writeBy c 0x1111 0 v) := by
  refine State.run_flash_refused (a := a) hw (by decide) (fun r => kind_of keyWrite_kind) fun d _ => ?_
  generalize s.advance t = b at *
  exact State.keyWritten_refused (s := (b.onFlash x).withDict d) hc

theorem State.run_keyErase {x : Flash} (hw : (s.advance t).writes c 0x1112 0 (leBytes 1 n) = true) (h1 : 1 ≤ n) (h2 : n ≤ 254)
    (hs : ((s.advance t).keySlot n).st ≠ .empty) (hg : ((s.advance t).keySlot n).gen < 0xFFFF) (hf : x.fails = false) :
    (s.run t fun s => s.withFlash x fun s => s.writeBy c 0x1112 0 (leBytes 1 n)).keys
      = ({ (s.advance t).keys with slots := Tbl.put (s.advance t).keys.slots n (KeySlot.empty (((s.advance t).keySlot n).gen + 1)) } : Keyring).persist := by
  obtain ⟨d, e⟩ := State.run_flash_keys (x := x) hw (by decide) fun r => kind_of keyErase_kind
  rw [e, State.command_keyErase _ _ h2]
  generalize s.advance t = a at *
  exact State.keyErased_erases (s := (a.onFlash x).withDict d) hs (State.keyEndCheck_passes h1 h2 hg hf)

theorem State.run_keyInvalidate {x : Flash} (hw : (s.advance t).writes c 0x1113 0 (leBytes 1 n) = true) (h1 : 1 ≤ n) (h2 : n ≤ 254)
    (hs : ((s.advance t).keySlot n).st = .valid) (hu : (s.advance t).keyUsable n = true) (hg : ((s.advance t).keySlot n).gen < 0xFFFF)
    (hf : x.fails = false) :
    (s.run t fun s => s.withFlash x fun s => s.writeBy c 0x1113 0 (leBytes 1 n)).keys
      = ({ (s.advance t).keys with slots := Tbl.put (s.advance t).keys.slots n ((s.advance t).keySlot n).invalidated } : Keyring).persist := by
  obtain ⟨d, e⟩ := State.run_flash_keys (x := x) hw (by decide) fun r => kind_of keyInvalidate_kind
  rw [e, State.command_keyInvalidate _ _ h2]
  generalize s.advance t = a at *
  exact State.keyInvalidated_invalidates (s := (a.onFlash x).withDict d) hs hu (State.keyEndCheck_passes h1 h2 hg hf)

/-- An erase that has nothing to erase, or whose record cannot be written, does nothing. -/
theorem State.keyErase_refuses (h1 : 1 ≤ n) (h2 : n ≤ 254) (h : (s.keySlot n).st = .empty ∨ (s.keySlot n).gen < 0xFFFF ∧ s.flash.fails = true) :
    ∃ a, s.Refuses (fun s => s.command c 0x1112 0 (leBytes 1 n)) a := by
  by_cases he : (s.keySlot n).st = .empty
  · exact ⟨_, fun d _ => (State.command_keyErase _ _ h2).trans (State.keyErased_empty (s := s.withDict d) h1 h2 he)⟩
  · obtain ⟨hg, hf⟩ := h.resolve_left he
    exact ⟨_, fun d _ => (State.command_keyErase _ _ h2).trans
      (State.keyErased_refused (s := s.withDict d) he (State.keyEndCheck_flash h1 h2 hg hf))⟩

theorem State.keyInvalidate_refuses (h1 : 1 ≤ n) (h2 : n ≤ 254)
    (h : s.keyState n = .invalid ∨ s.keyState n = .valid ∧ (s.keySlot n).gen < 0xFFFF ∧ s.flash.fails = true) :
    ∃ a, s.Refuses (fun s => s.command c 0x1113 0 (leBytes 1 n)) a := by
  by_cases he : s.keyState n = .invalid
  · exact ⟨_, fun d _ => (State.command_keyInvalidate _ _ h2).trans (State.keyInvalidated_invalid (s := s.withDict d) h1 h2 he)⟩
  · obtain ⟨hs, hg, hf⟩ := h.resolve_left he
    exact ⟨_, fun d _ => (State.command_keyInvalidate _ _ h2).trans
      (State.keyInvalidated_refused (s := s.withDict d) hs (State.keyEndCheck_flash h1 h2 hg hf))⟩

theorem State.onFlash_keySlot (s : State) (x : Flash) (n : Nat) : (s.onFlash x).keySlot n = s.keySlot n := rfl
theorem State.onFlash_keyState (s : State) (x : Flash) (n : Nat) : (s.onFlash x).keyState n = s.keyState n := rfl

theorem State.run_keyErase_nothing {x : Flash} (hw : (s.advance t).writes c 0x1112 0 (leBytes 1 n) = true) (h1 : 1 ≤ n) (h2 : n ≤ 254)
    (h : ((s.advance t).keySlot n).st = .empty ∨ ((s.advance t).keySlot n).gen < 0xFFFF ∧ x.fails = true) :
    Only told (s.advance t) (s.run t fun s => s.withFlash x fun s => s.writeBy c 0x1112 0 (leBytes 1 n)) := by
  rw [← State.onFlash_keySlot _ x] at h
  obtain ⟨a, ha⟩ := State.keyErase_refuses (c := c) h1 h2 h
  exact State.run_flash_refused hw (by decide) (fun r => kind_of keyErase_kind) ha

theorem State.run_keyInvalidate_nothing {x : Flash} (hw : (s.advance t).writes c 0x1113 0 (leBytes 1 n) = true) (h1 : 1 ≤ n) (h2 : n ≤ 254)
    (h : (s.advance t).keyState n = .invalid ∨ (s.advance t).keyState n = .valid ∧ ((s.advance t).keySlot n).gen < 0xFFFF ∧ x.fails = true) :
    Only told (s.advance t) (s.run t fun s => s.withFlash x fun s => s.writeBy c 0x1113 0 (leBytes 1 n)) := by
  rw [← State.onFlash_keySlot _ x, ← State.onFlash_keyState _ x] at h
  obtain ⟨a, ha⟩ := State.keyInvalidate_refuses (c := c) h1 h2 h
  exact State.run_flash_refused hw (by decide) (fun r => kind_of keyInvalidate_kind) ha

/-- The reload of a damaged slot that no KeyInvalidate waits for takes the winning record's slot (R816). -/
theorem State.keyReload_reloads {r : KeyRecord} (h1 : (s.keySlot n).st = .damaged) (h2 : (s.keySlot n).persistent = true)
    (h3 : s.up .security = true) (h4 : s.keys.winner = some r) (h5 : s.keys.waiting = []) :
    s.keyReload n = { s with keys := { s.keys with slots := Tbl.put s.keys.slots n (Tbl.getD r.slots n (KeySlot.empty (s.keySlot n).gen)) } } := by
  unfold State.keyReload
  simp only [h4, h1, h2, h3, decide_true, Bool.and_true, if_true, h5, List.filter_nil, List.foldl_nil]

/-! ### Sealing (R817 to R820) -/

theorem u_head (b : Byte) (l : Bytes) : u (b :: l) 0 1 = b.toNat := by simp [u, slice, leNat]

theorem u_byte {n : Nat} (h : n < 256) (l : Bytes) : u (byte n :: l) 0 1 = n := by
  rw [u_head, byte, BitVec.toNat_ofNat]
  exact Nat.mod_eq_of_lt h

/-- An applet's well-formed request to KeySealPort under binding 1. -/
structure SealAsk (s : State) (q : Bytes) : Prop where
  binding : u q 1 1 = 1
  reserved : u q 2 2 = 0
  long : 4 ≤ q.length
  live : s.keys.scrapped = false

theorem State.sealPort_op {h r : Nat} {q : Bytes} (ha : SealAsk s q) (h1 : u q 0 1 ≠ 0) (h3 : u q 0 1 ≤ 3) :
    s.sealPort (.applet h r) q = if u q 0 1 = 1 then s.sealOp 1 (q.drop 4) else if u q 0 1 = 2 then s.unsealOp 1 (q.drop 4)
      else s.forwardOp 1 (q.drop 4) := by
  obtain ⟨hb, hr, hl, hs⟩ := ha
  unfold State.sealPort
  have hl' : ¬ q.length < 4 := Nat.not_lt.mpr hl
  have h3' : ¬ 3 < u q 0 1 := Nat.not_lt.mpr h3
  simp [hb, hr, hl', hs, h1, h3', sealCaller]

/-- A request of an applet that its port answers is answered, and its answer kept. -/
theorem State.run_applet_request {h r idx : Nat} {q : Bytes} {a : Ans} (hq : (s.advance t).requests (.applet h r) idx q = true)
    (hp : ∀ d : Dict, d.Alike (s.advance t).dict → (((s.advance t).withDict d).portOp (.applet h r) idx 0 q).1.dict = d ∧
      (((s.advance t).withDict d).portOp (.applet h r) idx 0 q).2 = some a) :
    ∃ g, (s.run t fun s => s.transactBy (.applet h r) idx q).dict.applet.keptFor ⟨r, 6, key idx 0, 0⟩
      = some (respRecord ⟨r, 6, key idx 0, 0⟩ a g) := by
  obtain ⟨d, hd, hasked, e⟩ := State.applet_entry (State.requests_admits hq)
  obtain ⟨r', hr', hg, hl⟩ := State.requests_row hq
  obtain ⟨h1, h2⟩ := hp d hd
  have et : (s.advance t).transactBy (.applet h r) idx q
      = (((s.advance t).withDict d).portOp (.applet h r) idx 0 q).1.setApplet fun x => x.respond r a := by
    have eo : ((s.advance t).withDict d).transactOp (.applet h r) idx 0 q = ((s.advance t).withDict d).portOp (.applet h r) idx 0 q := by
      have hg' : ((s.advance t).withDict d).gasketOf r' = none := hg
      simp only [State.transactOp, State.transactWith, State.front_dict hd, hr', hl, State.behind, hg']
    rw [State.transactBy, e, eo]
    unfold State.answer?
    rw [h2]
    rfl
  obtain ⟨ho, hn⟩ := hasked.responds a
  refine State.run_applet (body := fun s => s.transactBy (.applet h r) idx q) ?_ ?_
  · rw [et]
    show (Session.respond _ r a).outbox = _
    rw [h1]
    exact ho
  · rw [et]
    show (Session.respond _ r a).newTo _
    rw [h1]
    exact hn

theorem State.portOp_seal (s : State) (c : Caller) (q : Bytes) : s.portOp c 0x1114 0 q = s.sealPort c q := rfl

theorem SealAsk.withDict {q : Bytes} (h : SealAsk s q) (d : Dict) : SealAsk (s.withDict d) q := ⟨h.binding, h.reserved, h.long, h.live⟩

/-- SEAL answers the data sealed under the measurement and a fresh IV. -/
theorem State.sealPort_seals {h r : Nat} {q : Bytes} (ha : SealAsk s q) (ho : u q 0 1 = 1) (hl : q.length ≤ 1028) :
    s.sealPort (.applet h r) q = ({ s with free := s.free + 1 },
      some (Ans.done (sealBlob 1 (sealKey 1 s.boot.m2) (fit 12 (Config.randBytes s.free)) (q.drop 4)))) := by
  rw [State.sealPort_op ha (by omega) (by omega), if_pos ho]
  unfold State.sealOp
  rw [if_neg (by rw [List.length_drop]; omega)]
  rfl

theorem State.sealPort_unseals {h r : Nat} {q p : Bytes} (ha : SealAsk s q) (ho : u q 0 1 = 2)
    (hp : unsealBlob 1 (sealKey 1 s.boot.m2) (q.drop 4) = some p) : s.sealPort (.applet h r) q = (s, some (Ans.done p)) := by
  rw [State.sealPort_op ha (by omega) (by omega), if_neg (by omega), if_pos ho]
  have hm : s.measurement 1 = s.boot.m2 := rfl
  unfold State.unsealOp
  rw [hm, hp]

/-- FORWARD answers the data sealed under the staged measurement and a fresh IV. -/
theorem State.sealPort_forwards {h r : Nat} {q p m : Bytes} (ha : SealAsk s q) (ho : u q 0 1 = 3) (hm : s.stagedMeasure 1 = some m)
    (hp : unsealBlob 1 (sealKey 1 s.boot.m2) (q.drop 4) = some p) :
    s.sealPort (.applet h r) q = ({ s with free := s.free + 1 },
      some (Ans.done (sealBlob 1 (sealKey 1 m) (fit 12 (Config.randBytes s.free)) p))) := by
  rw [State.sealPort_op ha (by omega) (by omega), if_neg (by omega), if_neg (by omega)]
  have hm2 : s.measurement 1 = s.boot.m2 := rfl
  unfold State.forwardOp
  rw [hm]
  simp only [hm2, hp]
  rfl

/-- A request that draws a fresh number moves what it is told and that number. -/
theorem State.run_drawn {h r : Nat} {q : Bytes} {a : Ans} (hq : (s.advance t).requests (.applet h r) 0x1114 q = true)
    (hp : ∀ d : Dict, ((s.advance t).withDict d).sealPort (.applet h r) q
      = ({ (s.advance t).withDict d with free := (s.advance t).free + 1 }, some a)) :
    let w := s.run t fun s => s.transactBy (.applet h r) 0x1114 q
    w.free = (s.advance t).free + 1 ∧ (∃ g, w.dict.applet.keptFor ⟨r, 6, key 0x1114 0, 0⟩ = some (respRecord ⟨r, 6, key 0x1114 0, 0⟩ a g))
      ∧ Only (told ++ [Part.free]) (s.advance t) w := by
  obtain ⟨d, -, h1, h2⟩ := State.run_request hq
  rw [State.portOp_seal, hp d] at h1 h2
  refine ⟨h1 .free (by decide), State.run_applet_request hq fun d _ => ?_, h2 _ (by decide) ?_⟩
  · rw [State.portOp_seal, hp d]
    exact ⟨rfl, rfl⟩
  · exact (Only.withDict _ d (by decide)).step fun p hp => same_free (Part.ne_of_notMem hp (by decide)) ..

/-- A request answered without a fresh number moves what it is told alone. -/
theorem State.run_undrawn {h r : Nat} {q : Bytes} {a : Ans} (hq : (s.advance t).requests (.applet h r) 0x1114 q = true)
    (hp : ∀ d : Dict, ((s.advance t).withDict d).sealPort (.applet h r) q = ((s.advance t).withDict d, some a)) :
    let w := s.run t fun s => s.transactBy (.applet h r) 0x1114 q
    (∃ g, w.dict.applet.keptFor ⟨r, 6, key 0x1114 0, 0⟩ = some (respRecord ⟨r, 6, key 0x1114 0, 0⟩ a g)) ∧ Only told (s.advance t) w := by
  obtain ⟨d, -, -, h2⟩ := State.run_request hq
  rw [State.portOp_seal, hp d] at h2
  refine ⟨State.run_applet_request hq fun d _ => ?_, h2 _ (by decide) (Only.withDict _ d (by decide))⟩
  rw [State.portOp_seal, hp d]
  exact ⟨rfl, rfl⟩

/-! ### What a reset leaves of the keys -/

/-- The Keyring but for the KeyInvalidates that wait. -/
def Keyring.still (k : Keyring) : Keyring := { k with waiting := [] }

theorem State.endKeyWaits_still (s : State) (p : Caller → Bool) (a : Ans) : (s.endKeyWaits p a).keys.still = s.keys.still := by
  have hf : ∀ (l : List (Nat × Caller)) (x : State), (l.foldl (fun s x => s.answer x.2 a) x).keys = x.keys := by
    intro l
    induction l with
    | nil => exact fun _ => rfl
    | cons e l ih => exact fun x => (ih _).trans (x.answer_keys _ _)
  unfold State.endKeyWaits
  extract_lets w k z
  rw [hf]
  rfl

theorem State.still_of_same {x u : State} (h : Part.keys.same x u) : u.keys.still = x.keys.still := congrArg Keyring.still h

theorem State.endThrough_still (s : State) (i : Island) (out : Nat) : (s.endThrough i out).keys.still = s.keys.still := by
  unfold State.endThrough
  extract_lets a p w z
  have h1 : w.keys.still = s.keys.still :=
    (State.endKeyWaits_still _ _ _).trans
      (State.still_of_same ((State.combEnd_same (by decide) (by decide) (by decide) (by decide) (by decide) (by decide) s s p out).mpr (Part.same_refl _ _)))
  refine Eq.trans (State.still_of_same (x := w) ?_) h1
  simp [z, State.endEvents_same, State.endSendsOf_same, State.endMessagesOf_same, Part.same_refl]

theorem State.clearIsland_still (s : State) (i : Island) (b : Bool) : (s.clearIsland i b).keys.still = s.keys.still := by
  unfold State.clearIsland
  cases i with
  | security => exact State.endKeyWaits_still _ _ _
  | compute =>
    refine (State.still_of_same ((State.endDictionary_same (by decide) (by decide) (by decide) (by decide) (by decide) (by decide) _ _).mpr
      (Part.same_refl _ _))).trans ((State.endThrough_still _ _ _).trans (State.still_of_same ?_))
    simp [State.hartsReset_same, State.discardAll_same, Part.same_refl]
  | fabric => exact (State.endThrough_still _ _ _).trans (State.still_of_same (by simp [State.fabricReset_same, Part.same_refl]))
  | network => exact (State.endThrough_still _ _ _).trans (State.still_of_same (by simp [State.netReset_same, State.canReset_same, Part.same_refl]))
  | fixer | developer =>
    refine State.still_of_same ?_
    dsimp only
    split <;> simp [State.setBase_same, State.roverResetAll_same, State.roverIslandReset_same, State.devReset_same, State.devIslandReset_same,
      Part.same_refl]
  | _ =>
    refine State.still_of_same ?_
    simp [State.aonReset_same, State.confReset_same, State.combReset_same, State.trackReset_same, State.radioReset_same,
      State.timebaseReset_same, State.setDev_same, State.roverResetAll_same, Part.same_refl]

theorem State.enterReset_still (s : State) (reach : Nat) (i : Island) : (s.enterReset reach i).keys.still = s.keys.still := by
  unfold State.enterReset
  extract_lets st x
  split
  · rfl
  · refine (State.still_of_same (x := (s.endHoldsOf i).clearIsland i (decide (reach ≤ 2))) ?_).trans
      ((State.clearIsland_still _ _ _).trans
        (State.still_of_same ((State.endHoldsOf_same (by decide) (by decide) s s i).mpr (Part.same_refl _ _))))
    simp [x, State.setIsl_same, State.dropVolatile_same, Part.same_refl]

theorem State.enterResets_still (reach : Nat) (l : List Island) (s : State) :
    (l.foldl (fun s i => s.enterReset reach i) s).keys.still = s.keys.still := by
  induction l generalizing s with
  | nil => rfl
  | cons i l ih => exact (ih _).trans (s.enterReset_still reach i)

theorem State.asserting_still (s : State) (code reach island : Nat) : (s.asserting code reach island).keys.still = s.keys.still := by
  unfold State.asserting
  extract_lets y x f z
  have hz : z.keys = s.keys := rfl
  split
  · refine (State.still_of_same ((State.sourcesGone_same (by decide) (by decide) _ _).mpr (Part.same_refl _ _))).trans
      ((State.clearIsland_still _ _ _).trans ((State.still_of_same
        ((State.swarmLost_same (by decide) (by decide) z z).mpr (Part.same_refl _ _))).trans (congrArg Keyring.still hz)))
  · rfl

/-- A reset ends the KeyInvalidates that wait, and moves no slot and no life-cycle state. -/
theorem State.assertReset_still (s : State) (code reach island : Nat) : (s.assertReset code reach island).keys.still = s.keys.still := by
  have hw := (State.enterResets_still reach (reachIslands reach island) (s.asserting code reach island)).trans (State.asserting_still s code reach island)
  have hk (x : State) : State.keys (if reach ≤ 1 then x.zeroCounts.reviveAon else x.keepCounts s) = x.keys := by
    have h : Part.keys.same x (if reach ≤ 1 then x.zeroCounts.reviveAon else x.keepCounts s) := by
      split <;> simp [State.zeroCounts_same, State.reviveAon_same, State.keepCounts_same, Part.same_refl]
    exact h
  unfold State.assertReset
  extract_lets y0 y x f g
  show Keyring.still (State.keys (if reach ≤ 2 then _ else _)) = _
  split
  · exact (State.still_of_same ((State.resetLatch_same (pt := .keys) (by decide) (by decide) (by decide) (by decide) _ _).mpr
      (Part.same_refl _ _))).trans ((congrArg Keyring.still (hk _)).trans hw)
  · exact (congrArg Keyring.still (hk _)).trans hw

/-- What leaves before an ordered reset moves nothing but responses. -/
theorem State.orderReset_from (s : State) (code reach island : Nat) :
    ∃ x : State, Only told s x ∧ s.orderReset code reach island = x.assertReset code reach island := by
  have hf : ∀ (l : Tbl Session) (x : State), Only told x (l.foldl (fun s e => s.sendClose e.1) x) := by
    intro l
    induction l with
    | nil => exact fun x => Only.refl _ x
    | cons e l ih =>
      intro x
      exact ((Only.refl _ x).step fun p hp => State.sendClose_same (Part.ne_of_notMem hp (by decide)) (Part.ne_of_notMem hp (by decide)) ..).trans (ih _)
  have h0 : Only told s s.flush := (Only.refl _ s).step fun p hp => State.flush_same (Part.ne_of_notMem hp (by decide))
    (Part.ne_of_notMem hp (by decide)) (Part.ne_of_notMem hp (by decide)) ..
  by_cases hr : reach ≤ 2
  · refine ⟨_, h0.trans (hf s.flush.dict.sessions s.flush), ?_⟩
    unfold State.orderReset
    simp only [if_pos hr]
  · refine ⟨_, h0, ?_⟩
    unfold State.orderReset
    simp only [if_neg hr]

/-! ### The life cycle (R822 to R829) -/

/-- A LifecycleCommand that Table 17.8 permits: its target's code, the serial, the step and its conditions. -/
structure LifeAsk (s : State) (v : Bytes) (goal : Lifecycle) : Prop where
  target : Lifecycle.ofCode (u v 0 1) = some goal
  serial : slice v 4 4 = s.silicon.serial.take 4
  step : lifeStep s.keys.life goal = true
  stopped : s.keys.life ≠ .commissioned ∨ s.stoppedAll = true
  condition : s.lifeCondition goal = true

theorem LifeAsk.withDict {goal : Lifecycle} (h : LifeAsk s v goal) (d : Dict) : LifeAsk (s.withDict d) v goal :=
  ⟨h.target, h.serial, h.step, h.stopped, h.condition⟩

theorem State.lifecycleCmd_permitted {goal : Lifecycle} (h : LifeAsk s v goal) :
    s.lifecycleCmd c v = ((s.lifeWritten goal).logEv .lifecycle [byte s.keys.life.code, byte goal.code]).answerReset c 10 1 0xFF := by
  obtain ⟨h1, h2, h3, h4, h5⟩ := h
  unfold State.lifecycleCmd
  simp only [h1, h2, h3, h5, firstFail, decide_true, if_true]
  rw [if_pos (by simpa using h4)]

/-- A list of checks one of which fails refuses. -/
theorem firstFail_some {l : List (Bool × Ans)} (h : ∃ p ∈ l, p.1 = false) : ∃ a, firstFail l = some a := by
  induction l with
  | nil => obtain ⟨p, hp, -⟩ := h; cases hp
  | cons q l ih =>
    obtain ⟨p, hp, hf⟩ := h
    rw [firstFail]
    split
    · next hq =>
      rcases List.mem_cons.mp hp with rfl | hp
      · rw [hf] at hq; cases hq
      · exact ih ⟨p, hp, hf⟩
    · exact ⟨_, rfl⟩

theorem State.lifecycleCmd_refused {goal : Lifecycle} (ht : Lifecycle.ofCode (u v 0 1) = some goal)
    (h : slice v 4 4 ≠ s.silicon.serial.take 4 ∨ lifeStep s.keys.life goal = false ∨ (s.keys.life = .commissioned ∧ s.stoppedAll = false)
      ∨ s.lifeCondition goal = false) : ∃ a, s.lifecycleCmd c v = (s, some a) := by
  obtain ⟨a, e⟩ : ∃ a, firstFail [(decide (slice v 4 4 = s.silicon.serial.take 4), Ans.bad 0x05110011), (lifeStep s.keys.life goal, Ans.bad 0x05110010),
      (decide (s.keys.life ≠ .commissioned) || s.stoppedAll, Ans.state 0x05110013), (s.lifeCondition goal, Ans.state 0x05110012)] = some a := by
    refine firstFail_some ?_
    rcases h with h | h | ⟨h1, h2⟩ | h
    · exact ⟨_, .head _, by simpa using h⟩
    · exact ⟨_, .tail _ (.head _), h⟩
    · exact ⟨_, .tail _ (.tail _ (.head _)), by simp [h1, h2]⟩
    · exact ⟨_, .tail _ (.tail _ (.tail _ (.head _))), h⟩
  refine ⟨a, ?_⟩
  unfold State.lifecycleCmd
  simp only [ht, e]

/-- What a permitted transition makes of the keys. -/
theorem State.lifeWritten_keys (s : State) (goal : Lifecycle) :
    (s.lifeWritten goal).keys.life = goal ∧ (goal = .decommissioned ∨ goal = .scrapped → (s.lifeWritten goal).keys.slots = []) ∧
      (goal = .decommissioned → (s.lifeWritten goal).keys.eraseDue = true) ∧
      (goal = .scrapped → (s.lifeWritten goal).keys.scrapFuse = true ∧ (s.lifeWritten goal).keys.rootGone = true) := by
  have hp (k : Keyring) : k.persist.life = k.life ∧ k.persist.slots = k.slots ∧ k.persist.eraseDue = k.eraseDue ∧
      k.persist.scrapFuse = k.scrapFuse ∧ k.persist.rootGone = k.rootGone := by
    unfold Keyring.persist
    extract_lets r
    split <;> exact ⟨rfl, rfl, rfl, rfl, rfl⟩
  unfold State.lifeWritten
  cases goal <;> simp [hp]

/-- What a state shows of a life-cycle transition and the chip reset that follows it. -/
def State.Transited (w : State) (goal : Lifecycle) : Prop :=
  w.keys.life = goal ∧ Asserted.mk 10 1 0xFF ∈ w.resets.asserted ∧ (∀ j, j ≠ .aon → (w.isl j).st = .inReset)
    ∧ (goal = .decommissioned ∨ goal = .scrapped → w.keys.slots = []) ∧ (goal = .decommissioned → w.keys.eraseDue = true)
    ∧ (goal = .scrapped → w.keys.scrapFuse = true ∧ w.keys.rootGone = true)

theorem State.Transited.of_only {ps : List Part} {x w : State} {goal : Lifecycle} (h : x.Transited goal) (ho : Only ps x w)
    (h1 : Part.keys ∉ ps) (h2 : Part.resets ∉ ps) (h3 : Part.islands ∉ ps) : w.Transited goal := by
  have e1 : w.keys = x.keys := ho .keys h1
  have e2 : w.resets = x.resets := ho .resets h2
  have e3 : w.islands = x.islands := ho .islands h3
  unfold State.Transited State.isl at h ⊢
  rw [e1, e2, e3]
  exact h

/-- The state in which the life cycle is written and logged, and the command answered. -/
def State.lifeAnswered (s : State) (c : Caller) (goal : Lifecycle) : State :=
  ((s.lifeWritten goal).logEv .lifecycle [byte s.keys.life.code, byte goal.code]).answer c (Ans.done [])

theorem State.lifeAnswered_keys (s : State) (c : Caller) (goal : Lifecycle) : (s.lifeAnswered c goal).keys = (s.lifeWritten goal).keys :=
  (State.answer_keys _ c _).trans ((State.logEv_same (pt := .keys) (by decide) _ _ _ _).mpr (Part.same_refl _ (s.lifeWritten goal)))

theorem State.lifeAnswered_islands (s : State) (c : Caller) (goal : Lifecycle) : (s.lifeAnswered c goal).islands = s.islands := by
  have h : Part.islands.same s (s.lifeAnswered c goal) := by
    simp [State.lifeAnswered, State.answer_same, State.logEv_same, State.lifeWritten_same, Part.same_refl]
  exact h

/-- A permitted transition writes its state and resets the chip. -/
theorem State.lifecycleCmd_transits {goal : Lifecycle} (ha : LifeAsk s v goal) (hl : s.islands.length = 12) :
    (s.lifecycleCmd c v).1.Transited goal := by
  rw [State.lifecycleCmd_permitted ha]
  show ((s.lifeAnswered c goal).orderReset 10 1 0xFF).Transited goal
  obtain ⟨x, hx, ex⟩ := (s.lifeAnswered c goal).orderReset_from 10 1 0xFF
  have hxk : x.keys = (s.lifeAnswered c goal).keys := hx .keys (by decide)
  have hxi : x.islands = (s.lifeAnswered c goal).islands := hx .islands (by decide)
  rw [ex]
  have hk := x.assertReset_still 10 1 0xFF
  rw [hxk, State.lifeAnswered_keys] at hk
  obtain ⟨k1, k2, k3, k4⟩ := s.lifeWritten_keys goal
  refine ⟨(congrArg Keyring.life hk).trans k1, ?_, fun j hj => ?_, fun hg => (congrArg Keyring.slots hk).trans (k2 hg),
    fun hg => (congrArg Keyring.eraseDue hk).trans (k3 hg),
    fun hg => ⟨(congrArg Keyring.scrapFuse hk).trans (k4 hg).1, (congrArg Keyring.rootGone hk).trans (k4 hg).2⟩⟩
  · rw [State.assertReset_asserted]
    exact List.mem_append_right _ (List.mem_singleton_self _)
  · have hxl : x.islands.length = 12 := by rw [hxi, State.lifeAnswered_islands, hl]
    rw [State.assertReset_isl hxl _ _ (by decide) (by decide) hj, if_pos (mem_reachIslands_one hj)]
    exact IslandRec.entered_st _

theorem State.command_lifecycle (s : State) (c : Caller) (v : Bytes) : s.command c 0x1101 0 v = s.lifecycleCmd c v := rfl

theorem State.run_lifecycle {goal : Lifecycle} (hw : (s.advance t).writes c 0x1101 0 v = true) (ha : LifeAsk (s.advance t) v goal)
    (hl : (s.advance t).islands.length = 12) : (s.run t fun s => s.writeBy c 0x1101 0 v).Transited goal := by
  obtain ⟨d, -, h1, -⟩ := State.run_command hw (.inl (by decide)) fun r => kind_of lifecycle_kind
  rw [State.command_lifecycle] at h1
  exact (State.lifecycleCmd_transits (ha.withDict d) hl).of_only h1 (by decide) (by decide) (by decide)

/-- A transition that Table 17.8 does not permit is refused. -/
theorem State.run_lifecycle_refused {goal : Lifecycle} (hw : (s.advance t).writes c 0x1101 0 v = true)
    (ht : Lifecycle.ofCode (u v 0 1) = some goal)
    (h : slice v 4 4 ≠ (s.advance t).silicon.serial.take 4 ∨ lifeStep (s.advance t).keys.life goal = false
      ∨ ((s.advance t).keys.life = .commissioned ∧ (s.advance t).stoppedAll = false) ∨ (s.advance t).lifeCondition goal = false) :
    Only told (s.advance t) (s.run t fun s => s.writeBy c 0x1101 0 v) := by
  obtain ⟨d, -, -, h2⟩ := State.run_command hw (.inl (by decide)) fun r => kind_of lifecycle_kind
  obtain ⟨a, ha⟩ := State.lifecycleCmd_refused (s := (s.advance t).withDict d) (c := c) ht h
  rw [State.command_lifecycle, ha] at h2
  exact h2 _ (by decide) (Only.withDict _ d (by decide))

theorem slice_head (b : Byte) (v : Bytes) : slice (b :: v.drop 1) 4 4 = slice v 4 4 := by simp [slice]

/-- The four life-cycle commands write LifecycleCommand with their targets' codes. -/
theorem exec_lifecycle {i : Instr} {goal : Lifecycle}
    (h : i = .lifecycleProvision t c v ∧ n = 1 ∧ goal = .provisioned ∨ i = .lifecycleCommission t c v ∧ n = 2 ∧ goal = .commissioned
      ∨ i = .lifecycleDecommission t c v ∧ n = 3 ∧ goal = .decommissioned ∨ i = .lifecycleScrap t c v ∧ n = 4 ∧ goal = .scrapped) :
    exec i s = .next (s.run t fun s => s.writeBy c 0x1101 0 (byte n :: v.drop 1)) ∧ Lifecycle.ofCode (u (byte n :: v.drop 1) 0 1) = some goal := by
  rcases h with ⟨rfl, rfl, rfl⟩ | ⟨rfl, rfl, rfl⟩ | ⟨rfl, rfl, rfl⟩ | ⟨rfl, rfl, rfl⟩ <;> exact ⟨rfl, rfl⟩

/-! ### The obligation -/

/-- Settles O41. -/
theorem keyringLifecycle : Obligations.KeyringLifecycle := by
  unfold Obligations.KeyringLifecycle
  refine ⟨?_, ?_, ?_, ?_, ?_, ?_, ?_, ?_, ?_, ?_, ?_, ?_⟩
  · intro s t c v ok a b hw hc
    exact ⟨_, rfl, State.run_keyWrite hw hc⟩
  · intro s t c v ok x a b hw hc
    exact ⟨_, rfl, State.run_keyWrite_refused hw hc⟩
  · intro s t n c a hw h1 h2 hs hg
    exact ⟨_, rfl, State.run_keyErase hw h1 h2 hs hg rfl⟩
  · intro s t n c a x hw h1 h2 hs hu hg
    exact ⟨_, rfl, State.run_keyInvalidate hw h1 h2 hs hu hg rfl⟩
  · intro s t n c ok a hw h1 h2
    by_cases he : (a.keySlot n).st = .empty
    · have hwe : a.writes c 0x1112 0 (leBytes 1 n) = true := by
        rcases hw with ⟨hw, -⟩ | ⟨-, hi⟩
        · exact hw
        · simp [State.keyState, he] at hi
      rw [if_pos he]
      exact ⟨_, rfl, State.run_keyErase_nothing hwe h1 h2 (.inl he)⟩
    · obtain ⟨hwi, hi⟩ : a.writes c 0x1113 0 (leBytes 1 n) = true ∧ a.keyState n = .invalid := hw.resolve_left fun h => he h.2
      rw [if_neg he]
      exact ⟨_, rfl, State.run_keyInvalidate_nothing hwi h1 h2 (.inl hi)⟩
  · intro s t n c a h1 h2 hg
    exact ⟨fun hw hs => ⟨_, rfl, State.run_keyErase_nothing hw h1 h2 (.inr ⟨hg, rfl⟩)⟩,
      fun hw hs => ⟨_, rfl, State.run_keyInvalidate_nothing hw h1 h2 (.inr ⟨hs, hg, rfl⟩)⟩⟩
  · intro s t n r a x h1 h2 h3 h4 h5
    have e := State.keyReload_reloads h1 h2 h3 h4 h5
    refine ⟨_, rfl, ?_, Only.run (by decide) ?_⟩
    · rw [State.run_keys, e]
    · rw [e]
      exact (Only.refl _ _).step fun p hp => same_keys (Part.ne_of_notMem hp (by decide)) ..
  · intro s t h r req a f q ans hq hb hr hl h4 hs
    have ho : u (byte 1 :: req.drop 1) 0 1 = 1 := u_byte (n := 1) (by decide) _
    exact ⟨_, rfl, State.run_drawn hq fun d => State.sealPort_seals (SealAsk.withDict ⟨hb, hr, h4, hs⟩ d) ho hl⟩
  · intro s t h r req p a f q hq hb hr h4 hs hp
    have ho : u (byte 2 :: req.drop 1) 0 1 = 2 := u_byte (n := 2) (by decide) _
    exact ⟨_, rfl, State.run_undrawn hq fun d => State.sealPort_unseals (SealAsk.withDict ⟨hb, hr, h4, hs⟩ d) ho hp⟩
  · intro s t h r req p m a f q ans hq hb hr h4 hs hm hp
    have ho : u (byte 3 :: req.drop 1) 0 1 = 3 := u_byte (n := 3) (by decide) _
    exact ⟨_, rfl, State.run_drawn hq fun d => State.sealPort_forwards (SealAsk.withDict ⟨hb, hr, h4, hs⟩ d) ho hm hp⟩
  · intro s t n c v i goal a old hi hw hs ho hc hl
    obtain ⟨e, ht⟩ := exec_lifecycle (s := s) (hi.imp (fun ⟨h1, h2, h3, _⟩ => ⟨h1, h2, h3⟩)
      (.imp (fun ⟨h1, h2, h3, _⟩ => ⟨h1, h2, h3⟩) (.imp (fun ⟨h1, h2, h3, _⟩ => ⟨h1, h2, h3⟩) fun ⟨h1, h2, h3, _⟩ => ⟨h1, h2, h3⟩)))
    have hstep : lifeStep a.keys.life goal = true := by
      rcases hi with ⟨-, -, hg, ho | ho⟩ | ⟨-, -, hg, ho⟩ | ⟨-, -, hg, ho | ho⟩ | ⟨-, -, hg, ho | ho⟩ <;>
        exact (congrArg₂ lifeStep ho hg).trans rfl
    exact ⟨_, e, State.run_lifecycle hw ⟨ht, (slice_head _ v).trans hs, hstep, ho, hc⟩ hl⟩
  · intro s t n c v i goal a hi hw h
    obtain ⟨e, ht⟩ := exec_lifecycle (s := s) hi
    refine ⟨_, e, State.run_lifecycle_refused hw ht ?_⟩
    rw [slice_head]
    exact h

end Sys2Proof.Machine
end

section
set_option Elab.async false
/-!
PROOF. Chapter 9: base epochs, surveys and the reference network (R414, R427, R440).
-/

namespace Sys2Proof.Machine

variable {s : State} {nominal : Int} {sky : List SatEph} {t : Nat} {c : Caller}

/-! ### A base epoch, step by step -/

theorem State.netSolve_other (h : s.base.netEpoch ≠ some nominal) (l : List Nat) (spp : Option V3) : s.netSolve sky nominal l spp = s := by
  unfold State.netSolve
  split
  · rfl
  · rw [if_pos (by simp [h])]

theorem State.surveyPoll_none (h : s.base.survey = none) : s.surveyPoll = s := by
  unfold State.surveyPoll
  rw [h]

theorem State.surveyEpoch_none (h : s.base.survey = none) (spp : Option V3) : s.surveyEpoch spp = s := by
  unfold State.surveyEpoch
  rw [h]

/-- What a batch of corrections does not touch of the base. -/
def Base.judged (b : Base) : List BaseEp × List Smooth × List (Int × V3) × Nat × Nat × Nat × Option Survey × Nat :=
  (b.epochs, b.smooth, b.spps, b.netRun, b.cause, b.st, b.survey, b.clean)

theorem State.withhold_judged (s : State) (n : Int) : (s.withhold n).base.judged = s.base.judged := by
  unfold State.withhold
  split <;> rfl

theorem State.post_base (s : State) (q : Nat) (data : Bytes) : (s.post q data).base = s.base :=
  (State.post_same (pt := .base) (by decide) (by decide) (by decide) (by decide) s s q data).mpr rfl

/-- A fold keeps what each of its steps keeps. -/
theorem foldl_keeps {α β : Type} (f : State → α) (g : State → β → State) (h : ∀ x b, f (g x b) = f x) (l : List β) (x : State) :
    f (l.foldl g x) = f x := by
  induction l generalizing x with
  | nil => rfl
  | cons b l ih => exact (ih _).trans (h x b)

/-- A batch that goes out counts the batches it supersedes, and moves nothing else of the base. -/
theorem State.deliver_judged (s : State) (frames : List Bytes) : (s.deliver frames).base.judged = s.base.judged := by
  unfold State.deliver
  extract_lets whole x y
  rw [State.post_base]
  have hy : y.base = x.base := by
    refine foldl_keeps State.base _ (fun z n => ?_) _ x
    dsimp only
    split <;> rfl
  rw [hy]
  simp only [x]
  split
  · refine foldl_keeps (fun z => z.base.judged) _ (fun z k => ?_) _ s
    show Base.judged (State.base (if _ then _ else _)) = _
    split
    · split <;> rfl
    · rfl
  · rfl

theorem State.corrections_judged (s : State) (nominal : Int) (l : List Nat) : (s.corrections nominal l).base.judged = s.base.judged := by
  unfold State.corrections
  extract_lets locks x due frames y
  split
  · rfl
  · split
    · exact State.withhold_judged x nominal
    · split
      · rfl
      · exact State.deliver_judged _ frames

/-- An epoch that a restart discarded is counted, and nothing else moves. -/
theorem State.skipRedo_eq (s : State) (n : Int) : ∃ (w : Nat) (r : Option Int), s.skipRedo n = s.setBase fun b => { b with withheld := w, redo := r } := by
  unfold State.skipRedo
  split
  · split
    · unfold State.withhold
      split
      · exact ⟨_, _, rfl⟩
      · exact ⟨_, _, rfl⟩
    · exact ⟨s.base.withheld, s.base.redo, rfl⟩
  · exact ⟨s.base.withheld, s.base.redo, rfl⟩

/-- The signals of an epoch, smoothed. -/
def State.epochSmooth (s : State) (nominal : Int) (sky : List SatEph) : List Smooth :=
  (s.baseSignals sky nominal).map (smoothStep s.smoothLimit s.base.smooth)

/-- The single-point positions of the last 10 s, with this epoch's. -/
def State.epochSpps (s : State) (nominal : Int) (sky : List SatEph) : List (Int × V3) :=
  (((s.basePoint sky (s.epochSmooth nominal sky)).map fun p => (nominal, mV3 p.1)).toList ++ s.base.spps).filter
    fun p => nominal < p.1 + 10 * (sec : Int)

/-- The state in which an epoch's signals and position are taken and its checks are to be judged. -/
def State.epochTaken (s : State) (nominal : Int) (sky : List SatEph) : State :=
  s.setBase fun b => { b with
    smooth := s.epochSmooth nominal sky, redo := none, spps := s.epochSpps nominal sky, netRun := s.netRunNow
    epochs := ({ nominal := nominal, a := s.baseSignals sky nominal, b := s.baseRecs 1 nominal } :: b.epochs).take 512 }

/-- The checks of Table 9.3 that fail at an epoch. -/
def State.epochFails (s : State) (nominal : Int) (sky : List SatEph) : Nat :=
  (s.setBase fun b => { b with spps := s.epochSpps nominal sky }).baseChecks
    (((s.baseSignals sky nominal).map fun r => (bits r 290 3, bits r 282 8)).eraseDups).length s.netRunNow

theorem State.setBase_setBase (s : State) (f g : Base → Base) : (s.setBase f).setBase g = s.setBase fun b => g (f b) := rfl

/-- Without a survey and without network MSMs of the epoch, the epoch's checks judge it, and its corrections follow. -/
theorem State.baseSolve_eq (h1 : s.base.netEpoch ≠ some nominal) (h2 : s.base.survey = none) :
    ∃ clocks, s.baseSolve nominal sky = ((((s.epochTaken nominal sky).baseJudge (s.epochFails nominal sky)).offerGnss clocks
      (s.epochFails nominal sky)).surveyEpoch ((s.basePoint sky (s.epochSmooth nominal sky)).map fun p => mV3 p.1)).corrections nominal
        (s.baseSignals sky nominal) := by
  refine ⟨((s.basePoint sky (s.epochSmooth nominal sky)).map Prod.snd).getD [], ?_⟩
  unfold State.baseSolve
  extract_lets l smooth x point spp recent y z sats run fails w v
  have hz : z = y := by
    have e1 : y.netSolve sky nominal l spp = y := State.netSolve_other (s := y) h1 l spp
    show (y.netSolve sky nominal l spp).surveyPoll = y
    rw [e1]
    exact State.surveyPoll_none (s := y) h2
  have hrun : run = s.netRunNow := by
    simp only [run, hz]
    rfl
  have hp : point = s.basePoint sky (s.epochSmooth nominal sky) := rfl
  have hr : recent.filter (fun p => nominal < p.1 + 10 * (sec : Int)) = s.epochSpps nominal sky := by
    simp only [recent, spp, hp]
    unfold State.epochSpps
    cases s.basePoint sky (s.epochSmooth nominal sky) <;> rfl
  have hy : y = s.setBase fun b =>
      { b with
        smooth := s.epochSmooth nominal sky, redo := none, spps := s.epochSpps nominal sky
        epochs := ({ nominal := nominal, a := s.baseSignals sky nominal, b := s.baseRecs 1 nominal } :: b.epochs).take 512 } := by
    have hb : x.baseRecs 1 nominal = s.baseRecs 1 nominal := rfl
    simp only [y]
    rw [hr, hb]
    exact State.setBase_setBase s _ _
  have hw : w = s.epochTaken nominal sky := by
    simp only [w, hz, hrun, hy, State.setBase_setBase, State.epochTaken]
  have hf : fails = s.epochFails nominal sky := by
    simp only [fails, hz, hrun, hy]
    rfl
  simp only [v, hw, hf, spp, hp]
  rfl

/-- A base epoch whose packets have arrived is solved. -/
theorem State.baseEpoch_solves (h1 : s.up .fixer = true) (h2 : s.up .tracking = true) (h3 : s.track.mode ≠ 1)
    (h4 : s.track.nominal = some nominal) (h5 : s.base.epochs.head?.map BaseEp.nominal ≠ some nominal) :
    s.baseEpoch nominal sky = (s.skipRedo nominal).baseSolve nominal sky := by
  obtain ⟨w, r, e⟩ := s.skipRedo_eq nominal
  have hu : (s.skipRedo nominal).up .fixer = true := by rw [e]; exact h1
  have hh : ((s.skipRedo nominal).base.epochs.head?.map BaseEp.nominal) ≠ some nominal := by rw [e]; exact h5
  unfold State.baseEpoch
  rw [if_neg (by simp [h2, h3]), h4]
  simp only []
  rw [if_neg (by simp [hh]), if_neg (by simp [hu])]

theorem State.offerGnss_base (s : State) (clocks : List (Nat × Rat)) (fails : Nat) : (s.offerGnss clocks fails).base = s.base :=
  (State.offerGnss_same (pt := .base) (by decide) (by decide) s s clocks fails).mpr rfl

/-- Without a survey, what the base keeps of an epoch is what its judgement leaves. -/
theorem State.baseSolve_judged (h1 : s.base.netEpoch ≠ some nominal) (h2 : s.base.survey = none)
    (h3 : ((s.epochTaken nominal sky).baseJudge (s.epochFails nominal sky)).base.survey = none) :
    (s.baseSolve nominal sky).base.judged = ((s.epochTaken nominal sky).baseJudge (s.epochFails nominal sky)).base.judged := by
  obtain ⟨clocks, e⟩ := State.baseSolve_eq (sky := sky) h1 h2
  rw [e, State.corrections_judged, State.surveyEpoch_none (by rw [State.offerGnss_base]; exact h3), State.offerGnss_base]

theorem State.logEv_base (s : State) (ev : Ev) (p : Bytes) : (s.logEv ev p).base = s.base :=
  (State.logEv_same (pt := .base) (by decide) s s ev p).mpr rfl

theorem State.baseTo_base (s : State) (n : Nat) : (s.baseTo n).base = { s.base with st := n } := by
  unfold State.baseTo
  extract_lets x
  split <;> rfl

/-- An OPERATING base goes on where no check fails, and is SUSPECT where one does. -/
theorem State.baseJudge_operating (h : s.base.st = 2) (f : Nat) :
    (s.baseJudge f).base.judged = { s.base with cause := f, st := if f = 0 then 2 else 3 }.judged := by
  unfold State.baseJudge
  rw [h]
  simp only []
  by_cases hf : f = 0
  · subst hf
    rw [if_pos rfl, if_pos rfl]
    simp only [State.setBase, Base.judged, h]
  · rw [if_neg hf, if_neg hf]
    rw [State.logEv_base, State.baseTo_base]
    rfl

/-- A STARTING base is OPERATING after ten clean epochs with time. -/
theorem State.baseJudge_starting (h : s.base.st = 4) (f : Nat) :
    (s.baseJudge f).base.judged = { s.base with
      cause := f, clean := if f = 0 then min 10 (s.base.clean + 1) else 0
      st := if f = 0 ∧ 9 ≤ s.base.clean ∧ s.timed = true then 2 else 4 }.judged := by
  let clean := if f = 0 then min 10 (s.base.clean + 1) else 0
  have e : s.baseJudge f = if s.timed && decide (10 ≤ clean)
      then (s.setBase fun b => { b with cause := f, clean := clean }).setBase fun b => { b with st := 2, first := true }
      else s.setBase fun b => { b with cause := f, clean := clean } := by
    unfold State.baseJudge
    rw [h]
    rfl
  have hc : (s.timed && decide (10 ≤ clean)) = true ↔ f = 0 ∧ 9 ≤ s.base.clean ∧ s.timed = true := by
    simp only [clean, Bool.and_eq_true, decide_eq_true_eq]
    by_cases hf : f = 0
    · simp only [hf, if_true, true_and]
      constructor
      · rintro ⟨h1, h2⟩; exact ⟨by omega, h1⟩
      · rintro ⟨h1, h2⟩; exact ⟨h2, by omega⟩
    · simp [hf]
  rw [e]
  by_cases hk : f = 0 ∧ 9 ≤ s.base.clean ∧ s.timed = true
  · rw [if_pos hk, if_pos (hc.mpr hk)]
    rfl
  · rw [if_neg hk, if_neg (fun e => hk (hc.mp e))]
    simp only [clean, State.setBase, Base.judged, h]

section
variable (h1 : s.up .fixer = true) (h2 : s.up .tracking = true) (h3 : s.track.mode ≠ 1) (h4 : s.track.nominal = some nominal)
  (h5 : s.base.epochs.head?.map BaseEp.nominal ≠ some nominal) (h6 : s.base.netEpoch ≠ some nominal) (h7 : s.base.survey = none)
include h1 h2 h3 h4 h5 h6 h7

/-- What an epoch of an OPERATING base leaves of it. -/
theorem State.baseEpoch_operating (h8 : s.base.st = 2) :
    (s.baseEpoch nominal sky).base.judged = { (s.epochTaken nominal sky).base with
      cause := s.epochFails nominal sky, st := if s.epochFails nominal sky = 0 then 2 else 3 }.judged := by
  obtain ⟨w, r, e⟩ := s.skipRedo_eq nominal
  rw [State.baseEpoch_solves h1 h2 h3 h4 h5, e]
  have hj := State.baseJudge_operating (s := (s.setBase fun b => { b with withheld := w, redo := r }).epochTaken nominal sky) h8
    (s.epochFails nominal sky)
  refine (State.baseSolve_judged (s := s.setBase fun b => { b with withheld := w, redo := r }) h6 h7 ?_).trans hj
  exact (congrArg (fun j => j.2.2.2.2.2.2.1) hj).trans h7

/-- What an epoch of a STARTING base leaves of it. -/
theorem State.baseEpoch_starting (h8 : s.base.st = 4) :
    (s.baseEpoch nominal sky).base.judged = { (s.epochTaken nominal sky).base with
      cause := s.epochFails nominal sky, clean := if s.epochFails nominal sky = 0 then min 10 (s.base.clean + 1) else 0
      st := if s.epochFails nominal sky = 0 ∧ 9 ≤ s.base.clean ∧ s.timed = true then 2 else 4 }.judged := by
  obtain ⟨w, r, e⟩ := s.skipRedo_eq nominal
  rw [State.baseEpoch_solves h1 h2 h3 h4 h5, e]
  have hj := State.baseJudge_starting (s := (s.setBase fun b => { b with withheld := w, redo := r }).epochTaken nominal sky) h8
    (s.epochFails nominal sky)
  refine (State.baseSolve_judged (s := s.setBase fun b => { b with withheld := w, redo := r }) h6 h7 ?_).trans hj
  exact (congrArg (fun j => j.2.2.2.2.2.2.1) hj).trans h7

end

/-! ### Surveys (R414, R424) -/

theorem State.setSurveyState_val (s : State) (n : Nat) : (s.setSurveyState n).val (key 0x3625 0) = [byte n] := State.val_setVal _ _ _

/-- A survey that may start does (R414, R415). -/
theorem State.surveyStart_starts {net : Bool} (h1 : s.base.survey = none) (h2 : (s.base.st ≠ 2 ∧ s.base.st ≠ 3) ∨ s.stoppedAll = true)
    (h3 : net = true → s.netState = 2 ∨ s.netState = 3) :
    s.surveyStart net = (((s.setBase fun b => { b with survey := some (Survey.start net), clean := 0 }).baseTo 1).setSurveyState 1,
      some (Ans.done [])) := by
  have e1 : (!((decide (s.base.st = 2) || decide (s.base.st = 3)) && !s.stoppedAll)) = true := by
    rcases h2 with ⟨a, b⟩ | h
    · simp [a, b]
    · simp [h]
  have e2 : (!net || decide (s.netState = 2) || decide (s.netState = 3)) = true := by
    cases net
    · rfl
    · rcases h3 rfl with h | h <;> simp [h]
  unfold State.surveyStart
  rw [h1]
  simp only [firstFail, e1, e2, Option.isNone_none, if_true]

/-- What a survey's start or end moves: the base, the rover's held integers, and BaseSurveyState. -/
theorem State.survey_only (s : State) (f : Base → Base) (n m : Nat) :
    Only [Part.base, Part.rover, Part.settings] s (((s.setBase f).baseTo n).setSurveyState m) := by
  refine Only.step (x := (s.setBase f).baseTo n) ?_ fun p hp => State.setVal_same (Part.ne_of_notMem hp (by decide)) ..
  refine Only.step (x := s.setBase f) ?_ fun p hp => State.baseTo_same (Part.ne_of_notMem hp (by decide)) (Part.ne_of_notMem hp (by decide)) ..
  exact (Only.refl _ s).step fun p hp => State.setBase_same (Part.ne_of_notMem hp (by decide)) ..

theorem surveyStart_kind : ∀ r ∈ objTable, r.has 0x3620 0 = true → r.kind = 2 := by decide +kernel

/-- A survey's start by a write of 1 or 2. -/
theorem State.run_surveyStart {v : Bytes} {net : Bool} (hw : (s.advance t).writes c 0x3620 0 v = true) (hv : leNat v ≠ 0)
    (hn : decide (leNat v = 2) = net)
    (h1 : (s.advance t).base.survey = none) (h2 : ((s.advance t).base.st ≠ 2 ∧ (s.advance t).base.st ≠ 3) ∨ (s.advance t).stoppedAll = true)
    (h3 : net = true → (s.advance t).netState = 2 ∨ (s.advance t).netState = 3) :
    let u := s.run t fun s => s.writeBy c 0x3620 0 v
    u.base = { (s.advance t).base with st := 1, survey := some (Survey.start net), clean := 0 } ∧ u.val (key 0x3625 0) = [1]
      ∧ Only (told ++ [Part.base, Part.rover, Part.settings]) (s.advance t) u := by
  obtain ⟨d, -, k1, k2⟩ := State.run_command hw (.inl (by decide)) fun r => kind_of surveyStart_kind
  have e1 : ((s.advance t).withDict d).command c 0x3620 0 v
      = if leNat v = 0 then ((s.advance t).withDict d).surveyAbandon else ((s.advance t).withDict d).surveyStart (leNat v = 2) := rfl
  rw [e1, if_neg hv, hn] at k1 k2
  generalize s.advance t = a at *
  have e2 := State.surveyStart_starts (s := a.withDict d) h1 h2 h3
  rw [e2] at k1 k2
  refine ⟨?_, ?_, k2 _ (by decide) ?_⟩
  · exact (k1 .base (by decide) : _ = _).trans (State.baseTo_base _ 1)
  · exact (State.val_congr (k1 .settings (by decide)) (k1 .fabric (by decide)) _).trans (State.setSurveyState_val _ 1)
  · exact (Only.withDict a d (by decide)).trans (Only.mono (State.survey_only _ _ 1 1) (by decide))

/-- The end of a survey leaves a base without a reference, or a STARTING one (R424). -/
theorem State.surveyEnd_eq (s : State) (n : Nat) :
    (s.surveyEnd n).base = { s.base with st := if s.refSource = 0 then 0 else 4, survey := none, clean := 0, passAt := List.replicate 5 none } ∧
      (s.surveyEnd n).val (key 0x3625 0) = [byte n] ∧ Only [Part.base, Part.rover, Part.settings] s (s.surveyEnd n) := by
  let x := (s.setBase fun b => { b with survey := none }).setSurveyState n
  have hr : (x.setBase fun b => { b with clean := 0, passAt := List.replicate 5 none }).refSource = s.refSource := by
    have : x.val (key 0x3609 0) = s.val (key 0x3609 0) := State.val_setVal_ne (by decide)
    show leNat (x.val (key 0x3609 0)) = _
    rw [this]
    rfl
  have e : s.surveyEnd n = (x.setBase fun b => { b with clean := 0, passAt := List.replicate 5 none }).baseTo (if s.refSource = 0 then 0 else 4) := by
    rw [← hr]
    rfl
  rw [e]
  refine ⟨State.baseTo_base _ _, ?_, ?_⟩
  · have hb : ∀ (y : State) (k : Nat), (y.baseTo k).settings = y.settings ∧ (y.baseTo k).fabric.core = y.fabric.core := fun y k =>
      ⟨(State.baseTo_same (pt := .settings) (by decide) (by decide) y y k).mpr rfl,
        (State.baseTo_same (pt := .fabric) (by decide) (by decide) y y k).mpr rfl⟩
    exact (State.val_congr (hb _ _).1 (hb _ _).2 _).trans (State.setSurveyState_val _ n)
  · refine Only.step (x := x.setBase _) ?_ fun p hp => State.baseTo_same (Part.ne_of_notMem hp (by decide)) (Part.ne_of_notMem hp (by decide)) ..
    refine Only.step (x := x) ?_ fun p hp => State.setBase_same (Part.ne_of_notMem hp (by decide)) ..
    refine Only.step (x := s.setBase fun b => { b with survey := none }) ?_ fun p hp => State.setVal_same (Part.ne_of_notMem hp (by decide)) ..
    exact (Only.refl _ s).step fun p hp => State.setBase_same (Part.ne_of_notMem hp (by decide)) ..

theorem State.run_surveyAbandon {v : Bytes} (hw : (s.advance t).writes c 0x3620 0 v = true) (hv : leNat v = 0)
    (h1 : (s.advance t).base.survey.isSome = true) :
    let u := s.run t fun s => s.writeBy c 0x3620 0 v
    u.base = { (s.advance t).base with
        st := if (s.advance t).refSource = 0 then 0 else 4, survey := none, clean := 0, passAt := List.replicate 5 none }
      ∧ u.val (key 0x3625 0) = [0] ∧ Only (told ++ [Part.base, Part.rover, Part.settings]) (s.advance t) u := by
  obtain ⟨d, -, k1, k2⟩ := State.run_command hw (.inl (by decide)) fun r => kind_of surveyStart_kind
  have e1 : ((s.advance t).withDict d).command c 0x3620 0 v
      = if leNat v = 0 then ((s.advance t).withDict d).surveyAbandon else ((s.advance t).withDict d).surveyStart (leNat v = 2) := rfl
  rw [e1, if_pos hv] at k1 k2
  generalize s.advance t = a at *
  have e2 : ((a.withDict d).surveyAbandon).1 = (a.withDict d).surveyEnd 0 := by
    unfold State.surveyAbandon
    exact if_pos h1
  rw [e2] at k1 k2
  obtain ⟨b1, b2, b3⟩ := (a.withDict d).surveyEnd_eq 0
  refine ⟨(k1 .base (by decide) : _ = _).trans b1, ?_, k2 _ (by decide) ?_⟩
  · exact (State.val_congr (k1 .settings (by decide)) (k1 .fabric (by decide)) _).trans b2
  · exact (Only.withDict a d (by decide)).trans (Only.mono b3 (by decide))

/-! ### Frames of a reference network (R438 to R440) -/

theorem State.takeFrame_eq (s : State) (b : Bytes) : ∃ f : Base → Base, s.takeFrame b = s.setBase f ∧ (f s.base).netAny = true ∧
    (f s.base).netBad = s.base.netBad := by
  unfold State.takeFrame
  refine ⟨_, rfl, ?_, ?_⟩
  all_goals
    dsimp only
    split
    · rfl
    · split <;> rfl

/-- Accepted frames are the base's alone: some frame accepted makes the network heard. -/
theorem State.takeFrames_eq (l : List ((Bool × Option Bytes) × Nat)) (s : State) :
    ∃ b : Base, l.foldl (fun s x => s.takeFrame (x.1.2.getD [])) s = { s with base := b } ∧ b.netAny = (s.base.netAny || !l.isEmpty) ∧
      b.netBad = s.base.netBad := by
  induction l generalizing s with
  | nil => exact ⟨s.base, rfl, by simp, rfl⟩
  | cons x l ih =>
    obtain ⟨f, hf, h1, h2⟩ := s.takeFrame_eq (x.1.2.getD [])
    obtain ⟨b, e, k1, k2⟩ := ih (s.takeFrame (x.1.2.getD []))
    rw [hf] at k1 k2
    refine ⟨b, ?_, ?_, k2.trans h2⟩
    · rw [List.foldl_cons, e, hf]
      rfl
    · rw [k1]
      show ((f s.base).netAny || _) = _
      rw [h1]
      simp

/-- The faults of the frames of a request. -/
def State.faults (s : State) (req : Bytes) : List Nat := (rtcmFrames 512 req).map fun f => s.frameFault f.1 f.2

/-- The first frame that is skipped: its message number and why. -/
def State.firstFault (s : State) (req : Bytes) : Option (Nat × Nat) :=
  ((rtcmFrames 512 req).find? fun f => s.frameFault f.1 f.2 ≠ 0).map fun f => ((f.2.map fun b => mbits b 0 12).getD 0, s.frameFault f.1 f.2)

/-- What BaseNetPort answers. -/
def State.netAnswer (s : State) (req : Bytes) : Ans :=
  ⟨if (s.faults req).all (· = 0) then 0 else 1, 0,
    leBytes 2 ((s.faults req).filter fun x => x = 0).length ++ leBytes 2 ((s.faults req).filter fun x => x ≠ 0).length
      ++ leBytes 2 (((s.firstFault req).getD (0, 0)).1) ++ [byte ((s.firstFault req).getD (0, 0)).2, 0], 0⟩

theorem filter_faults (l : List (Bool × Option Bytes)) (g : Bool × Option Bytes → Nat) (p : Nat → Bool) :
    ((l.map fun f => (f, g f)).filter fun x => p x.2).length = ((l.map g).filter p).length := by
  induction l with
  | nil => rfl
  | cons f l ih =>
    simp only [List.map_cons, List.filter_cons]
    split <;> simp [ih]

theorem any_faults (l : List (Bool × Option Bytes)) (g : Bool × Option Bytes → Nat) :
    (!((l.map fun f => (f, g f)).filter fun x => decide (x.2 = 0)).isEmpty) = (l.map g).any (fun x => decide (x = 0)) := by
  induction l with
  | nil => rfl
  | cons f l ih =>
    simp only [List.map_cons, List.filter_cons, List.any_cons]
    split
    · next h => simp [h]
    · next h => simpa [h] using ih

/-- The first of the frames that are skipped. -/
theorem first_fault (l : List (Bool × Option Bytes)) (g : Bool × Option Bytes → Nat) :
    (match (l.map fun f => (f, g f)).filter fun x => decide (x.2 ≠ 0) with
      | [] => (0, 0)
      | x :: _ => (match x.1.2 with
        | some b => mbits b 0 12
        | none => 0, x.2)) =
      (((l.find? fun f => decide (g f ≠ 0)).map fun f => ((f.2.map fun b => mbits b 0 12).getD 0, g f)).getD (0, 0) : Nat × Nat) := by
  induction l with
  | nil => rfl
  | cons f l ih =>
    rw [List.map_cons]
    by_cases h : g f = 0
    · rw [List.filter_cons_of_neg (by simpa using h), List.find?_cons_of_neg (by simpa using h)]
      exact ih
    · rw [List.filter_cons_of_pos (by simpa using h), List.find?_cons_of_pos (by simpa using h)]
      obtain ⟨x, y⟩ := f
      cases y <;> rfl

theorem State.netPort_effect (s : State) (req : Bytes) :
    (s.netPort req).2 = some (s.netAnswer req) ∧ ∃ b : Base, (s.netPort req).1 = { s with base := b } ∧
      b.netBad = wrap 32 (s.base.netBad + ((s.faults req).filter fun x => x ≠ 0).length) ∧
      b.netAny = (s.base.netAny || (s.faults req).any (· = 0)) := by
  unfold State.netPort
  extract_lets l good bad x y first d
  have hg : good.length = ((s.faults req).filter fun x => x = 0).length :=
    filter_faults (rtcmFrames 512 req) (fun f => s.frameFault f.1 f.2) fun x => decide (x = 0)
  have hb : bad.length = ((s.faults req).filter fun x => x ≠ 0).length :=
    filter_faults (rtcmFrames 512 req) (fun f => s.frameFault f.1 f.2) fun x => decide (x ≠ 0)
  have hf : first = (s.firstFault req).getD (0, 0) := first_fault (rtcmFrames 512 req) fun f => s.frameFault f.1 f.2
  have ho : (if bad = [] then 0 else 1) = if (s.faults req).all (· = 0) then 0 else 1 := by
    have h0 : bad = [] ↔ (s.faults req).all (· = 0) = true := by
      rw [← List.length_eq_zero_iff, hb, List.length_eq_zero_iff, List.filter_eq_nil_iff, List.all_eq_true]
      simp
    by_cases h : bad = []
    · rw [if_pos h, if_pos (h0.mp h)]
    · rw [if_neg h, if_neg (fun e => h (h0.mpr e))]
  refine ⟨?_, ?_⟩
  · show some ({ Ans.done d with outcome := if bad = [] then 0 else 1 } : Ans) = _
    simp only [ho, Ans.done, d, hg, hb, hf]
    rfl
  · obtain ⟨b, e, h1, h2⟩ := State.takeFrames_eq good s
    refine ⟨{ b with netBad := wrap 32 (b.netBad + bad.length) }, ?_, ?_, ?_⟩
    · show y = _
      simp only [y, x, e]
      rfl
    · show wrap 32 (b.netBad + bad.length) = _
      rw [h2, hb]
    · show b.netAny = _
      rw [h1, any_faults]
      rfl

end Sys2Proof.Machine
end

section
set_option Elab.async false
/-!
PROOF. Chapter 10: observation records, rover epochs and their fixes (R454, R458, R467, R469), and the base station's obligation.
-/

namespace Sys2Proof.Machine

variable {s : State} {t : Nat} {c : Caller}

/-! ### A port's answer to a Coil session -/

/-- A request of a session that its port answers is answered. -/
theorem State.run_coil_request {i r idx : Nat} {q : Bytes} {a : Ans} (hq : (s.advance t).requests (.coil i r) idx q = true)
    (hp : ∀ d : Dict, d.Alike (s.advance t).dict → (((s.advance t).withDict d).portOp (.coil i r) idx 0 q).1.dict = d ∧
      (((s.advance t).withDict d).portOp (.coil i r) idx 0 q).2 = some a) :
    (s.run t fun s => s.transactBy (.coil i r) idx q).answered i ⟨r, 6, key idx 0, 0⟩ a := by
  obtain ⟨r', hr', hg, hl⟩ := State.requests_row hq
  obtain ⟨x, hx, hxo, hxn⟩ := State.access_answers (State.requests_admits hq) (a := a)
    (body := fun s => s.transactOp (.coil i r) idx 0 q) fun d hd => by
      have hg' : ((s.advance t).withDict d).gasketOf r' = none := hg
      have e : ((s.advance t).withDict d).transactOp (.coil i r) idx 0 q = ((s.advance t).withDict d).portOp (.coil i r) idx 0 q := by
        simp only [State.transactOp, State.transactWith, State.front_dict hd, hr', hl, State.behind, hg']
      rw [e, (hp d hd).1]
      exact ⟨rfl, (hp d hd).2⟩
  exact State.run_answered (body := fun s => s.transactBy (.coil i r) idx q) hx hxo hxn

theorem State.run_netPort {w : Caller} {req : Bytes} (hw : (s.advance t).requests w 0x3640 req = true) :
    let v := s.run t fun s => s.transactBy w 0x3640 req
    v.base.netBad = wrap 32 ((s.advance t).base.netBad + (((s.advance t).faults req).filter fun x => x ≠ 0).length) ∧
      v.base.netAny = ((s.advance t).base.netAny || ((s.advance t).faults req).any (· = 0)) ∧ Only (told ++ [Part.base]) (s.advance t) v := by
  obtain ⟨d, -, h1, h2⟩ := State.run_request hw
  generalize s.advance t = a at *
  obtain ⟨-, b, e, k1, k2⟩ := (a.withDict d).netPort_effect req
  have ep : ((a.withDict d).portOp w 0x3640 0 req).1 = { a.withDict d with base := b } := e
  rw [ep] at h1 h2
  refine ⟨?_, ?_, h2 _ (by decide) ?_⟩
  · exact (congrArg Base.netBad (h1 .base (by decide) : _ = _)).trans k1
  · exact (congrArg Base.netAny (h1 .base (by decide) : _ = _)).trans k2
  · exact (Only.withDict a d (by decide)).step fun p hp => State.setBase_same (Part.ne_of_notMem hp (by decide)) _ _ fun _ => b

theorem State.run_netPort_answered {i r : Nat} {req : Bytes} (hw : (s.advance t).requests (.coil i r) 0x3640 req = true) :
    (s.run t fun s => s.transactBy (.coil i r) 0x3640 req).answered i ⟨r, 6, key 0x3640 0, 0⟩ ((s.advance t).netAnswer req) := by
  refine State.run_coil_request hw fun d _ => ?_
  generalize s.advance t = a at *
  obtain ⟨e1, b, e2, -, -⟩ := (a.withDict d).netPort_effect req
  have ep : (a.withDict d).portOp (.coil i r) 0x3640 0 req = (a.withDict d).netPort req := rfl
  rw [ep, e1, e2]
  exact ⟨rfl, rfl⟩

/-! ### Fix records leave (R481) -/

/-- What fix records do not touch of the rover. -/
def Rover.lasting (r : Rover) : Tbl RoverBlock × Tbl Nat × List Nat × Bucket × Nat × Nat × Nat :=
  (r.blocks, r.table, r.spares, r.budget, r.solved, r.reinits, r.refused)

/-- What a fix record does not touch of its slot. -/
def RoverSlot.lasting (x : RoverSlot) : Option (Nat × Int) × Bool × Nat := (x.last, x.again, x.fixed)

/-- A state that differs from another, of the rover, in fix records that left alone. -/
structure State.Flushes (s x : State) : Prop where
  rover : x.rover.lasting = s.rover.lasting
  slots : ∀ k, (x.roverSlot k).lasting = (s.roverSlot k).lasting
  pending : x.rover.pending = s.rover.pending
  flying : x.rover.flying = s.rover.flying

theorem State.Flushes.trans {x y : State} (h : s.Flushes x) (k : x.Flushes y) : s.Flushes y :=
  ⟨k.rover.trans h.rover, fun n => (k.slots n).trans (h.slots n), k.pending.trans h.pending, k.flying.trans h.flying⟩

theorem State.post_rover (s : State) (q : Nat) (data : Bytes) : (s.post q data).rover = s.rover :=
  (State.post_same (pt := .rover) (by decide) (by decide) (by decide) (by decide) s s q data).mpr rfl

theorem State.roverSlot_setRoverSlot (s : State) (m : Nat) (f : RoverSlot → RoverSlot) :
    (s.setRoverSlot m f).roverSlot m = f (s.roverSlot m) := Tbl.getD_put _ _ _ _

theorem State.roverSlot_setRoverSlot_ne (s : State) {m k : Nat} (f : RoverSlot → RoverSlot) (h : k ≠ m) :
    (s.setRoverSlot m f).roverSlot k = s.roverSlot k := Tbl.getD_put_ne h

theorem State.postFix_flushes (s : State) (m : Nat) (b : Bytes) : s.Flushes (s.postFix m b) := by
  have e : (s.postFix m b).rover = (s.setRoverSlot m fun x => { x with fix := b }).rover := State.post_rover _ _ _
  refine ⟨by rw [e]; rfl, fun k => ?_, by rw [e]; rfl, by rw [e]; rfl⟩
  have es : (s.postFix m b).roverSlot k = (s.setRoverSlot m fun x => { x with fix := b }).roverSlot k := by
    unfold State.roverSlot
    rw [e]
  rw [es]
  by_cases h : k = m
  · rw [h, State.roverSlot_setRoverSlot]
    rfl
  · rw [State.roverSlot_setRoverSlot_ne s _ h]

/-- No epoch leaves before it has ended. -/
theorem splitEnded_countP {p : RoverEpoch → Bool} (hp : ∀ x b, x.phase = .ended b → p x = false) (l : List RoverEpoch) (held : List Nat) :
    (splitEnded l held).2.countP p = l.countP p := by
  induction l generalizing held with
  | nil => rfl
  | cons x l ih =>
    unfold splitEnded
    split
    · next b hx =>
      have h0 : p x = false := hp x b hx
      split <;> simp [h0, ih]
    · simp [List.countP_cons, ih]

theorem State.flushFixes_flushes (s : State) : s.Flushes s.flushFixes := by
  unfold State.flushFixes
  extract_lets r x
  have h : s.Flushes x := ⟨rfl, fun _ => rfl, splitEnded_countP (fun y b hy => by simp [hy]) _ _,
    splitEnded_countP (fun y b hy => by simp [hy]) _ _⟩
  generalize r.1 = l
  generalize x = y at h
  induction l generalizing y with
  | nil => exact h
  | cons p l ih => exact ih _ (h.trans (State.postFix_flushes y p.1 p.2))

/-! ### Refusals (R454, R459) -/

/-- A record refused at its arrival is counted, and no other epoch moves. -/
theorem State.roverRefuse_effect (s : State) (slot machine : Nat) (arrival : Int) (r : Bytes) (o : Nat) :
    let x := s.roverRefuse slot machine arrival r o
    x.rover.refused = wrap 32 (s.rover.refused + 1) ∧ x.rover.pending = s.rover.pending ∧ x.rover.flying = s.rover.flying ∧
      ∀ k, (x.roverSlot k).last = (s.roverSlot k).last := by
  unfold State.roverRefuse
  rcases hd : s.refusedFix slot machine r o with ⟨y, b⟩
  have hy : y.rover = s.rover := congrArg (fun p => p.1.rover) hd.symm
  have hf := State.flushFixes_flushes (y.setRover fun v => { v with
    epochs := v.epochs ++ [{ slot := slot, machine := machine, arrival := arrival, data := r, phase := .ended b }]
    refused := wrap 32 (v.refused + 1) })
  have hr : y.roverSlot = s.roverSlot := by
    unfold State.roverSlot
    rw [hy]
  refine ⟨?_, ?_, ?_, fun k => ?_⟩
  · exact (congrArg (fun z => z.2.2.2.2.2.2) hf.rover).trans (congrArg (fun v : Rover => wrap 32 (v.refused + 1)) hy)
  · refine hf.pending.trans ?_
    rw [← hy]
    simp [State.setRover, Rover.pending]
  · refine hf.flying.trans ?_
    rw [← hy]
    simp [State.setRover, Rover.flying]
  · exact (congrArg Prod.fst (hf.slots k)).trans (congrArg RoverSlot.last (congrFun hr k))

/-- An epoch that ends in place leaves the count of its phase. -/
theorem countP_end {p : RoverEpoch → Bool} {l : List RoverEpoch} {i : Nat} {x y : RoverEpoch} (hx : l[i]? = some x) (hp : p x = true)
    (hy : p y = false) : (l.set i y).countP p = l.countP p - 1 := by
  obtain ⟨hi, e⟩ := List.getElem?_eq_some_iff.mp hx
  rw [List.countP_set hi, e, if_pos hp, hy]
  simp

/-- A waiting record that is refused is counted, and waits no more. -/
theorem State.roverDrop_effect {i : Nat} {x : RoverEpoch} (hx : s.rover.epochs[i]? = some x) (hw : x.phase = .waiting) (o : Nat) :
    let y := s.roverDrop i x o
    y.rover.refused = wrap 32 (s.rover.refused + 1) ∧ y.rover.budget = s.rover.budget ∧ y.rover.pending = s.rover.pending - 1 := by
  unfold State.roverDrop
  rcases hd : s.refusedFix x.slot x.machine x.data o with ⟨y, b⟩
  have hy : y.rover = s.rover := congrArg (fun p => p.1.rover) hd.symm
  have hf := State.flushFixes_flushes (y.setRover fun v => { v with
    epochs := v.epochs.set i { x with phase := .ended b }, refused := wrap 32 (v.refused + 1) })
  refine ⟨?_, ?_, ?_⟩
  · exact (congrArg (fun z => z.2.2.2.2.2.2) hf.rover).trans (congrArg (fun v : Rover => wrap 32 (v.refused + 1)) hy)
  · exact (congrArg (fun z => z.2.2.2.1) hf.rover).trans (congrArg Rover.budget hy)
  · refine hf.pending.trans ?_
    show List.countP _ (y.rover.epochs.set i _) = _
    rw [hy]
    exact countP_end hx (by simp [hw]) (by simp)

/-! ### Arrival (R453, R454) -/

theorem State.issueConf_rover (s : State) (m : Nat) (op : ConfOp) : (s.issueConf m op).rover = s.rover :=
  (State.issueConf_same (pt := .rover) (by decide) (by decide) s s m op).mpr rfl

/-- A record that arrives at a running Compute island, with the position it reports given to the Conformance checker or not. -/
theorem State.obsArrival_eq (hu : s.up .compute = true) (pkt : Bytes) :
    ∃ y : State, y.rover = s.rover ∧ y.obsCheck (u pkt 8 2 % 1024) (pkt.drop 16) = s.obsCheck (u pkt 8 2 % 1024) (pkt.drop 16) ∧
      Only (told ++ [Part.conf]) s y ∧
      s.obsArrival pkt = match s.obsCheck (u pkt 8 2 % 1024) (pkt.drop 16) with
        | some o => y.roverRefuse (u pkt 8 2 % 1024) (u pkt 12 4) (si pkt 0 8) (pkt.drop 16) o
        | none => (y.setRoverSlot (u pkt 8 2 % 1024) fun x => { x with last := some (u (pkt.drop 16) 4 2, si (pkt.drop 16) 8 8) }).setRover fun v =>
          { v with epochs := v.epochs ++ [⟨u pkt 8 2 % 1024, u pkt 12 4, si pkt 0 8, pkt.drop 16, .waiting⟩] } := by
  have hi (op : ConfOp) : (s.issueConf (u pkt 8 2 % 1024) op).obsCheck (u pkt 8 2 % 1024) (pkt.drop 16)
      = s.obsCheck (u pkt 8 2 % 1024) (pkt.drop 16) := by
    unfold State.issueConf
    split <;> rfl
  unfold State.obsArrival
  rw [if_neg (by simp [hu])]
  split
  · refine ⟨s.issueConf (u pkt 8 2 % 1024) (.reported (reportedOf (pkt.drop 16))), State.issueConf_rover _ _ _, hi _, ?_, ?_⟩
    · exact (Only.refl _ s).step fun p hp => State.issueConf_same (Part.ne_of_notMem hp (by decide)) (Part.ne_of_notMem hp (by decide)) ..
    · rw [← hi] <;> rfl
  · exact ⟨s, rfl, rfl, Only.refl _ s, rfl⟩

section
variable {pkt : Bytes}

theorem State.run_obsArrival_taken (hu : (s.advance t).up .compute = true)
    (hc : (s.advance t).obsCheck (u pkt 8 2 % 1024) (pkt.drop 16) = none) :
    let v := s.run t fun s => s.obsArrival pkt
    v.rover.epochs = (s.advance t).rover.epochs ++ [⟨u pkt 8 2 % 1024, u pkt 12 4, si pkt 0 8, pkt.drop 16, .waiting⟩]
      ∧ v.roverSlot (u pkt 8 2 % 1024) = { (s.advance t).roverSlot (u pkt 8 2 % 1024) with last := some (u (pkt.drop 16) 4 2, si (pkt.drop 16) 8 8) }
      ∧ v.rover.refused = (s.advance t).rover.refused ∧ Only (told ++ [Part.rover, Part.conf]) (s.advance t) v := by
  obtain ⟨y, hr, -, ho, e⟩ := State.obsArrival_eq hu pkt
  rw [hc] at e
  have hs : y.roverSlot = (s.advance t).roverSlot := by
    unfold State.roverSlot
    rw [hr]
  have key : ∀ v : State, v.rover = ((s.advance t).obsArrival pkt).rover →
      v.rover.epochs = (s.advance t).rover.epochs ++ [⟨u pkt 8 2 % 1024, u pkt 12 4, si pkt 0 8, pkt.drop 16, .waiting⟩]
      ∧ v.roverSlot (u pkt 8 2 % 1024) = { (s.advance t).roverSlot (u pkt 8 2 % 1024) with last := some (u (pkt.drop 16) 4 2, si (pkt.drop 16) 8 8) }
      ∧ v.rover.refused = (s.advance t).rover.refused := by
    intro v hv
    unfold State.roverSlot
    rw [hv, e, ← hr]
    exact ⟨rfl, Tbl.getD_put _ _ _ _, rfl⟩
  obtain ⟨k1, k2, k3⟩ := key (s.run t fun s => s.obsArrival pkt) (State.run_rover ..)
  refine ⟨k1, k2, k3, Only.run (by decide) ?_⟩
  rw [e]
  refine Only.step (x := y.setRoverSlot _ _) ?_ fun p hp => State.setRover_same (Part.ne_of_notMem hp (by decide)) ..
  refine Only.step (x := y) (Only.mono ho (by decide)) fun p hp => State.setRoverSlot_same (Part.ne_of_notMem hp (by decide)) ..

theorem State.run_obsArrival_refused {o : Nat} (hu : (s.advance t).up .compute = true)
    (hc : (s.advance t).obsCheck (u pkt 8 2 % 1024) (pkt.drop 16) = some o) :
    let v := s.run t fun s => s.obsArrival pkt
    v.rover.refused = wrap 32 ((s.advance t).rover.refused + 1) ∧ v.rover.pending = (s.advance t).rover.pending
      ∧ v.rover.flying = (s.advance t).rover.flying ∧ ∀ k, (v.roverSlot k).last = ((s.advance t).roverSlot k).last := by
  obtain ⟨y, hr, -, -, e⟩ := State.obsArrival_eq hu pkt
  rw [hc] at e
  obtain ⟨h1, h2, h3, h4⟩ := y.roverRefuse_effect (u pkt 8 2 % 1024) (u pkt 12 4) (si pkt 0 8) (pkt.drop 16) o
  rw [← show _ = y.roverRefuse _ _ _ _ _ from e, hr] at h1 h2 h3
  have hv : (s.run t fun s => s.obsArrival pkt).rover = ((s.advance t).obsArrival pkt).rover := State.run_rover ..
  have hs : y.roverSlot = (s.advance t).roverSlot := by
    unfold State.roverSlot
    rw [hr]
  have hk : (s.run t fun s => s.obsArrival pkt).roverSlot = ((s.advance t).obsArrival pkt).roverSlot := by
    unfold State.roverSlot
    rw [hv]
  intro v
  simp only [v, hv, hk, ← hs]
  refine ⟨h1, h2, h3, fun k => ?_⟩
  rw [e]
  exact h4 k

end

/-! ### Start (R456 to R460) -/

section
variable {i : Nat} {x : RoverEpoch}

theorem phase_of_find {l : List RoverEpoch} {p : RoverEpoch → Bool} (h : l.findIdx? p = some i) (hx : l[i]? = some x) : p x = true := by
  obtain ⟨hi, hp, -⟩ := List.findIdx?_eq_some_iff_getElem.mp h
  rw [← (List.getElem?_eq_some_iff.mp hx).2]
  exact hp

variable (h1 : s.up .fixer = true) (h2 : s.rover.epochs.findIdx? (fun x => x.phase = .waiting) = some i) (h3 : s.rover.epochs[i]? = some x)
  (h4 : (if 49 ≤ u x.data 2 1 then 2 else 1) * 1000000000 ≤ (s.rover.budget.fill s.roverRate s.now).level)
  (h5 : s.rover.flying < s.roverFlights) (h6 : ∀ y ∈ s.rover.epochs, y.slot = x.slot → y.phase ≠ .flying)
include h1 h2 h3 h4 h5 h6

/-- The first waiting epoch, when it is its turn, is judged by its start checks. -/
theorem State.roverStart_turn : s.roverStart =
    if !s.holderIs x.slot x.machine then s.roverDrop i x 0x3A
    else if x.arrival + (s.cfg 0x3803 0 * ms : Nat) < s.time64 then s.roverDrop i x 0x3B
    else if !s.hasBase (si x.data 8 8) then s.roverDrop i x 0x3C
    else s.setRover fun v => { v with
      epochs := v.epochs.set i { x with phase := .flying }
      budget := { s.rover.budget.fill s.roverRate s.now with
        level := (s.rover.budget.fill s.roverRate s.now).level - (if 49 ≤ u x.data 2 1 then 2 else 1) * 1000000000 } } := by
  have hany : s.rover.epochs.any (fun y => decide (y.slot = x.slot) && decide (y.phase = .flying)) = false := by
    rw [List.any_eq_false]
    intro y hy
    simpa using h6 y hy
  unfold State.roverStart
  rw [h2]
  dsimp only
  rw [h3]
  dsimp only
  rw [if_neg (by simp only [h1, hany, Bool.not_true, Bool.false_or, Bool.or_false, Bool.or_eq_true, decide_eq_true_eq]; omega)]

theorem State.roverStart_starts (h7 : s.holderIs x.slot x.machine = true) (h8 : s.time64 ≤ x.arrival + (s.cfg 0x3803 0 * ms : Nat))
    (h9 : s.hasBase (si x.data 8 8) = true) : s.roverStart = s.setRover fun v => { v with
      epochs := v.epochs.set i { x with phase := .flying }
      budget := { s.rover.budget.fill s.roverRate s.now with
        level := (s.rover.budget.fill s.roverRate s.now).level - (if 49 ≤ u x.data 2 1 then 2 else 1) * 1000000000 } } := by
  rw [State.roverStart_turn h1 h2 h3 h4 h5 h6, if_neg (by simp [h7]), if_neg (by omega), if_neg (by simp [h9])]

theorem State.roverStart_drops (h7 : s.holderIs x.slot x.machine = false ∨ x.arrival + (s.cfg 0x3803 0 * ms : Nat) < s.time64 ∨
    s.hasBase (si x.data 8 8) = false) : ∃ o, s.roverStart = s.roverDrop i x o := by
  rw [State.roverStart_turn h1 h2 h3 h4 h5 h6]
  by_cases k1 : s.holderIs x.slot x.machine = false
  · exact ⟨0x3A, if_pos (by simp [k1])⟩
  · rw [if_neg (by simpa using k1)]
    by_cases k2 : x.arrival + (s.cfg 0x3803 0 * ms : Nat) < s.time64
    · exact ⟨0x3B, if_pos k2⟩
    · rw [if_neg k2]
      exact ⟨0x3C, if_pos (by simpa using (h7.resolve_left k1).resolve_left k2)⟩

end

/-! ### An epoch ends (R461 to R485) -/

section
variable {slot i n : Nat} {sky : List SatEph} {x : RoverEpoch}

/-- What the filter makes of an epoch. -/
def State.epochOut (s : State) (slot : Nat) (x : RoverEpoch) (sky : List SatEph) : EpochOut :=
  (s.roverInput x sky).2.2.epoch (if s.reinits x then none else (s.rover.block slot).map RoverBlock.filter) (s.roverInput x sky).2.1
    (s.base.st = 2) (decide (250000 ≤ s.track.baseLen2))

/-- The state block of an epoch's end. -/
def State.epochBlock (s : State) (slot : Nat) (x : RoverEpoch) (sky : List SatEph) : RoverBlock :=
  ⟨x.machine, si x.data 8 8, u x.data 4 2, wrap 32 (((s.rover.block slot).map RoverBlock.gen).getD 0 + 1), (s.epochOut slot x sky).status,
    false, (s.epochOut slot x sky).filter⟩

/-- An epoch's end, before its fix record leaves. -/
def State.epochEnds (s : State) (slot i : Nat) (x : RoverEpoch) (sky : List SatEph) (fix : Bytes) : State :=
  (s.setRoverSlot slot fun r => { r with
    again := false, fixed := (if s.reinits x then 0 else r.fixed) + b2n ((s.epochOut slot x sky).status = 3) }).setRover fun r =>
      { r.swap slot (s.epochBlock slot x sky) with
        epochs := r.epochs.set i { x with phase := .ended fix }, solved := wrap 32 (r.solved + 1)
        reinits := wrap 32 (r.reinits + b2n (s.reinits x)) }

theorem State.count_rover (s : State) (a b n : Nat) : (s.count a b n).rover = s.rover :=
  (State.count_same (pt := .rover) (by decide) s s a b n).mpr rfl

/-- A completed epoch ends, and fix records that it held back leave. -/
theorem State.roverDone_flushes (h1 : s.up .fixer = true)
    (h2 : s.rover.epochs.findIdx? (fun x => x.slot = slot && x.phase = .flying) = some i) (h3 : s.rover.epochs[i]? = some x) :
    ∃ fix, (s.epochEnds slot i x sky fix).Flushes (s.roverDone slot sky) := by
  have hf (y z : State) (h : z.rover = y.rover) : y.Flushes z.flushFixes := by
    have := z.flushFixes_flushes
    have hs : z.roverSlot = y.roverSlot := by
      unfold State.roverSlot
      rw [h]
    exact ⟨h ▸ this.rover, fun k => hs ▸ this.slots k, h ▸ this.pending, h ▸ this.flying⟩
  have hi (y z : State) (m : Nat) (op : ConfOp) (h : y.Flushes z) : y.Flushes (z.issueConf m op) := by
    have hr := z.issueConf_rover m op
    have hs : (z.issueConf m op).roverSlot = z.roverSlot := by
      unfold State.roverSlot
      rw [hr]
    exact ⟨hr ▸ h.rover, fun k => hs ▸ h.slots k, hr ▸ h.pending, hr ▸ h.flying⟩
  unfold State.roverDone
  rw [h2]
  dsimp only
  rw [h3]
  dsimp only
  rw [if_neg (by simp [h1])]
  rcases hr : s.roverInput x sky with ⟨off, start, f⟩
  have ho : s.epochOut slot x sky = f.epoch (if s.reinits x then none else (s.rover.block slot).map RoverBlock.filter) start (s.base.st = 2)
      (decide (250000 ≤ s.track.baseLen2)) := by
    unfold State.epochOut
    rw [hr]
  dsimp only
  rw [← ho]
  refine ⟨(s.solvedFix x off f (s.reinits x) (s.base.st = 2) (s.epochOut slot x sky)).bytes, ?_⟩
  have hc := hf _ _ (State.count_rover (s.epochEnds slot i x sky
    (s.solvedFix x off f (s.reinits x) (s.base.st = 2) (s.epochOut slot x sky)).bytes) 8 0 1)
  unfold State.epochEnds State.epochBlock at *
  generalize s.epochOut slot x sky = o at *
  by_cases hst : 2 ≤ o.status
  · rw [if_pos hst]
    exact hi _ _ _ _ hc
  · rw [if_neg hst]
    exact hc

theorem State.epochEnds_flying (h2 : s.rover.epochs.findIdx? (fun x => x.slot = slot && x.phase = .flying) = some i)
    (h3 : s.rover.epochs[i]? = some x) (fix : Bytes) : (s.epochEnds slot i x sky fix).rover.flying = s.rover.flying - 1 := by
  have hp := phase_of_find h2 h3
  simp only [Bool.and_eq_true, decide_eq_true_eq] at hp
  exact countP_end h3 (by simp [hp.2]) (by simp)

theorem State.epochEnds_slot (s : State) (slot i : Nat) (x : RoverEpoch) (sky : List SatEph) (fix : Bytes) :
    (s.epochEnds slot i x sky fix).roverSlot slot = { s.roverSlot slot with
      again := false, fixed := (if s.reinits x then 0 else (s.roverSlot slot).fixed) + b2n ((s.epochOut slot x sky).status = 3) } := by
  have e : (s.epochEnds slot i x sky fix).rover.slots = (s.setRoverSlot slot fun r => { r with
    again := false, fixed := (if s.reinits x then 0 else r.fixed) + b2n ((s.epochOut slot x sky).status = 3) }).rover.slots := by
    show (Rover.swap _ _ _).slots = _
    unfold Rover.swap
    split <;> rfl
  unfold State.roverSlot
  rw [e]
  exact Tbl.getD_put _ _ _ _

/-- The new state block of an epoch's end is the slot's, and the block it leaves is spare (R469). -/
theorem State.epochEnds_swap {rest : List Nat} (h : s.rover.spares = n :: rest) (fix : Bytes) :
    (s.epochEnds slot i x sky fix).rover.pointer slot = n ∧ (s.epochEnds slot i x sky fix).rover.spares = rest ++ [s.rover.pointer slot] ∧
      (s.epochEnds slot i x sky fix).rover.block slot = some (s.epochBlock slot x sky) := by
  let r := (s.setRoverSlot slot fun r => { r with
    again := false, fixed := (if s.reinits x then 0 else r.fixed) + b2n ((s.epochOut slot x sky).status = 3) }).rover
  have e : r.swap slot (s.epochBlock slot x sky) = { r with
      blocks := Tbl.put r.blocks n (s.epochBlock slot x sky), table := Tbl.put r.table slot n, spares := rest ++ [r.pointer slot] } := by
    unfold Rover.swap
    rw [show r.spares = n :: rest from h]
  have hp : (s.epochEnds slot i x sky fix).rover.pointer slot = n := by
    show Tbl.getD (r.swap slot _).table slot slot = n
    rw [e]
    exact Tbl.getD_put _ _ _ _
  refine ⟨hp, ?_, ?_⟩
  · show (r.swap slot _).spares = _
    rw [e]
    rfl
  · unfold Rover.block
    rw [hp]
    show Tbl.get? (r.swap slot _).blocks n = _
    rw [e]
    exact Tbl.get?_put _ _ _

/-- What an epoch's end leaves of the rover solver. -/
theorem State.roverDone_effect (h1 : s.up .fixer = true)
    (h2 : s.rover.epochs.findIdx? (fun x => x.slot = slot && x.phase = .flying) = some i) (h3 : s.rover.epochs[i]? = some x) :
    let v := s.roverDone slot sky
    v.rover.solved = wrap 32 (s.rover.solved + 1) ∧ v.rover.reinits = wrap 32 (s.rover.reinits + b2n (s.reinits x)) ∧
      v.rover.flying = s.rover.flying - 1 ∧ (v.roverSlot slot).again = false ∧
      (v.roverSlot slot).fixed = (if s.reinits x then 0 else (s.roverSlot slot).fixed) + b2n ((s.epochOut slot x sky).status = 3) ∧
      ∀ n rest, s.rover.spares = n :: rest → v.rover.pointer slot = n ∧ v.rover.spares = rest ++ [s.rover.pointer slot] ∧
        v.rover.block slot = some (s.epochBlock slot x sky) := by
  obtain ⟨fix, hr, hs, -, hf⟩ := State.roverDone_flushes (sky := sky) h1 h2 h3
  have hs := hs slot
  rw [State.epochEnds_slot] at hs
  simp only [Rover.lasting, Prod.mk.injEq] at hr
  obtain ⟨rb, rt, rs, -, r1, r2, -⟩ := hr
  simp only [RoverSlot.lasting, Prod.mk.injEq] at hs
  obtain ⟨-, s1, s2⟩ := hs
  refine ⟨r1, r2, hf.trans (State.epochEnds_flying h2 h3 fix), s1, s2, fun n rest h => ?_⟩
  obtain ⟨k1, k2, k3⟩ := State.epochEnds_swap (i := i) (x := x) (slot := slot) (sky := sky) h fix
  unfold Rover.block Rover.pointer at *
  rw [rt, rb, rs]
  exact ⟨k1, k2, k3⟩

/-- Without an OPERATING base no ambiguity is held. -/
theorem Work.held_hold_nil (w : Work) : (w.hold []).held = [] := by
  unfold Work.held
  rw [List.filterMap_eq_nil_iff]
  rintro ⟨j, k⟩ hk
  simp only [Work.hold, List.mapIdx_mapIdx, List.mem_mapIdx] at hk
  obtain ⟨m, hm, e⟩ := hk
  cases hs : w.states[m] with
  | amb => simp only [hs, Function.comp] at e; cases e; rfl
  | ion => simp only [hs, Function.comp] at e; cases e; rfl

theorem FilterIn.epoch_floats (f : FilterIn) (old : Option Filter) (start : Vec) (long : Bool) : (f.epoch old start false long).found.held = [] := by
  unfold FilterIn.epoch
  extract_lets was tracks w0 l x0 sigma w1 w2 w3 tight ab limit kept cut v w4 e
  have hw : w3.held = [] := Work.held_hold_nil w2
  have hk : kept = false := by simp [kept, hw]
  show v.held = []
  simp [v, hk, Validated.none]

theorem State.epochOut_floats (h : s.base.st ≠ 2) : (s.epochOut slot x sky).status ≠ 3 := by
  have e : (s.epochOut slot x sky).found.held = [] := by
    unfold State.epochOut
    rw [decide_eq_false h]
    exact FilterIn.epoch_floats _ _ _ _
  unfold EpochOut.status
  rw [if_pos e]
  split <;> decide

end

/-! ### RoverReset (R467) -/

theorem State.run_roverReset {slot : Nat} (h0 : slot < 1024) (hw : (s.advance t).writes c (0x7000 + slot) 0x32 [1] = true) :
    let u := s.run t fun s => s.writeBy c (0x7000 + slot) 0x32 [1]
    u.roverSlot slot = { (s.advance t).roverSlot slot with again := true } ∧
      (∀ k < 1024, k ≠ slot → u.roverSlot k = (s.advance t).roverSlot k) ∧ Only (told ++ [Part.rover]) (s.advance t) u := by
  obtain ⟨d, -, k1, k2⟩ := State.run_command hw (.inr (by omega)) fun r =>
    kind_within (lo := 0x7000) (hi := 0x7400) (slo := 0x32) (shi := 0x33) (by decide +kernel) (by omega) (by omega) (by omega) (by omega)
  generalize s.advance t = a at *
  have e : ((a.withDict d).command c (0x7000 + slot) 0x32 [1]).1 = (a.withDict d).setRoverSlot slot fun x => { x with again := true } := by
    unfold State.command
    rw [if_pos (by omega), Nat.add_sub_cancel_left]
    rfl
  rw [e] at k1 k2
  have hs (k : Nat) : (s.run t fun s => s.writeBy c (0x7000 + slot) 0x32 [1]).roverSlot k
      = (a.setRoverSlot slot fun x => { x with again := true }).roverSlot k :=
    congrArg (fun r => Tbl.getD (Rover.slots r) k RoverSlot.reset) (k1 .rover (by decide) : _ = _)
  refine ⟨(hs slot).trans (State.roverSlot_setRoverSlot _ _ _), fun k _ hk => (hs k).trans (State.roverSlot_setRoverSlot_ne _ _ hk),
    k2 _ (by decide) ?_⟩
  exact (Only.withDict a d (by decide)).step fun p hp => State.setRoverSlot_same (Part.ne_of_notMem hp (by decide)) ..

/-! ### The obligation -/

theorem b2n_decide (p : Prop) [Decidable p] : b2n (decide p) = (decide p).toNat := by
  by_cases h : p <;> simp [h, b2n]

theorem roverEpochDone_yields (s : State) (t slot i n : Nat) (sky : List SatEph) (x : RoverEpoch) (rest : List Nat)
    (h1 : (s.advance t).up .fixer = true)
    (h2 : (s.advance t).rover.epochs.findIdx? (fun x => x.slot = slot && x.phase = .flying) = some i)
    (h3 : (s.advance t).rover.epochs[i]? = some x) (h4 : (s.advance t).rover.spares = n :: rest) :
    Yields (exec (.roverEpochDone t slot sky) s) fun v =>
      v.rover.solved = wrap 32 ((s.advance t).rover.solved + 1)
      ∧ v.rover.reinits = wrap 32 ((s.advance t).rover.reinits + ((s.advance t).reinits x).toNat)
      ∧ v.rover.flying = (s.advance t).rover.flying - 1 ∧ (v.roverSlot slot).again = false
      ∧ (v.roverSlot slot).fixed = (if (s.advance t).reinits x then 0 else ((s.advance t).roverSlot slot).fixed)
          + (decide (((s.advance t).epochOut slot x sky).status = 3)).toNat
      ∧ v.rover.pointer slot = n ∧ v.rover.spares = rest ++ [(s.advance t).rover.pointer slot]
      ∧ v.rover.block slot = some ((s.advance t).epochBlock slot x sky) := by
  refine ⟨_, rfl, ?_⟩
  dsimp only
  have hr : (s.run t fun s => s.roverDone slot sky).rover = ((s.advance t).roverDone slot sky).rover := State.run_rover ..
  obtain ⟨k1, k2, k3, k4, k5, k6⟩ := State.roverDone_effect (sky := sky) h1 h2 h3
  have hb : b2n ((s.advance t).reinits x) = ((s.advance t).reinits x).toNat := by cases (s.advance t).reinits x <;> rfl
  rw [hb] at k2
  rw [b2n_decide] at k5
  unfold State.roverSlot at k4 k5 ⊢
  rw [hr]
  exact ⟨k1, k2, k3, k4, k5, k6 n rest h4⟩

theorem roverEpochDone_floats (s : State) (t slot i : Nat) (sky : List SatEph) (x : RoverEpoch)
    (h1 : (s.advance t).up .fixer = true)
    (h2 : (s.advance t).rover.epochs.findIdx? (fun x => x.slot = slot && x.phase = .flying) = some i)
    (h3 : (s.advance t).rover.epochs[i]? = some x) (h4 : (s.advance t).base.st ≠ 2) :
    Yields (exec (.roverEpochDone t slot sky) s) fun z =>
      (z.roverSlot slot).fixed = (if (s.advance t).reinits x then 0 else ((s.advance t).roverSlot slot).fixed)
        ∧ z.rover.flying = (s.advance t).rover.flying - 1 := by
  refine ⟨_, rfl, ?_⟩
  dsimp only
  have hr : (s.run t fun s => s.roverDone slot sky).rover = ((s.advance t).roverDone slot sky).rover := State.run_rover ..
  obtain ⟨-, -, k3, -, k5, -⟩ := State.roverDone_effect (sky := sky) h1 h2 h3
  rw [decide_eq_false (State.epochOut_floats h4)] at k5
  unfold State.roverSlot at k5 ⊢
  rw [hr]
  exact ⟨k5, k3⟩

theorem roverEpochStart_starts (s : State) (t i : Nat) (x : RoverEpoch) (h1 : (s.advance t).up .fixer = true)
    (h2 : (s.advance t).rover.epochs.findIdx? (fun x => x.phase = .waiting) = some i) (h3 : (s.advance t).rover.epochs[i]? = some x)
    (h4 : (if 49 ≤ u x.data 2 1 then 2 else 1) * 1000000000 ≤ ((s.advance t).rover.budget.fill (s.advance t).roverRate (s.advance t).now).level)
    (h5 : (s.advance t).rover.flying < (s.advance t).roverFlights)
    (h6 : ∀ y ∈ (s.advance t).rover.epochs, y.slot = x.slot → y.phase ≠ .flying) (h7 : (s.advance t).holderIs x.slot x.machine = true)
    (h8 : (s.advance t).time64 ≤ x.arrival + ((s.advance t).cfg 0x3803 0 * ms : Nat)) (h9 : (s.advance t).hasBase (si x.data 8 8) = true) :
    Yields (exec (.roverEpochStart t) s) fun v =>
      v.rover = { (s.advance t).rover with
        epochs := (s.advance t).rover.epochs.set i { x with phase := .flying }
        budget := { (s.advance t).rover.budget.fill (s.advance t).roverRate (s.advance t).now with
          level := ((s.advance t).rover.budget.fill (s.advance t).roverRate (s.advance t).now).level
            - (if 49 ≤ u x.data 2 1 then 2 else 1) * 1000000000 } }
      ∧ Only (told ++ [Part.rover]) (s.advance t) v := by
  have e := State.roverStart_starts h1 h2 h3 h4 h5 h6 h7 h8 h9
  refine ⟨_, rfl, (State.run_rover ..).trans (congrArg State.rover e), Only.run (by decide) ?_⟩
  rw [e]
  exact (Only.refl _ _).step fun p hp => State.setRover_same (Part.ne_of_notMem hp (by decide)) ..

theorem roverEpochStart_drops (s : State) (t i : Nat) (x : RoverEpoch) (h1 : (s.advance t).up .fixer = true)
    (h2 : (s.advance t).rover.epochs.findIdx? (fun x => x.phase = .waiting) = some i) (h3 : (s.advance t).rover.epochs[i]? = some x)
    (h4 : (if 49 ≤ u x.data 2 1 then 2 else 1) * 1000000000 ≤ ((s.advance t).rover.budget.fill (s.advance t).roverRate (s.advance t).now).level)
    (h5 : (s.advance t).rover.flying < (s.advance t).roverFlights)
    (h6 : ∀ y ∈ (s.advance t).rover.epochs, y.slot = x.slot → y.phase ≠ .flying)
    (h7 : (s.advance t).holderIs x.slot x.machine = false ∨ x.arrival + ((s.advance t).cfg 0x3803 0 * ms : Nat) < (s.advance t).time64 ∨
      (s.advance t).hasBase (si x.data 8 8) = false) :
    Yields (exec (.roverEpochStart t) s) fun v =>
      v.rover.refused = wrap 32 ((s.advance t).rover.refused + 1) ∧ v.rover.budget = (s.advance t).rover.budget
        ∧ v.rover.pending = (s.advance t).rover.pending - 1 := by
  obtain ⟨o, e⟩ := State.roverStart_drops h1 h2 h3 h4 h5 h6 h7
  have hw := phase_of_find h2 h3
  have hr : (s.run t fun s => s.roverStart).rover = ((s.advance t).roverStart).rover := State.run_rover ..
  refine ⟨_, rfl, ?_⟩
  dsimp only
  rw [hr, e]
  exact State.roverDrop_effect h3 (of_decide_eq_true hw) o

theorem State.epochTaken_base (s : State) (nominal : Int) (sky : List SatEph) : (s.epochTaken nominal sky).base = { s.base with
    smooth := s.epochSmooth nominal sky, redo := none, spps := s.epochSpps nominal sky, netRun := s.netRunNow
    epochs := ({ nominal := nominal, a := s.baseSignals sky nominal, b := s.baseRecs 1 nominal } :: s.base.epochs).take 512 } := rfl

theorem baseEpoch_yields_operating (s a : State) (t : Nat) (ha : s.advance t = a) (nominal : Int) (sky : List SatEph) (h1 : a.up .fixer = true)
    (h2 : a.up .tracking = true) (h3 : a.track.mode ≠ 1) (h4 : a.track.nominal = some nominal)
    (h5 : a.base.epochs.head?.map BaseEp.nominal ≠ some nominal) (h6 : a.base.netEpoch ≠ some nominal)
    (h7 : a.base.survey = none) (h8 : a.base.st = 2) :
    Yields (exec (.baseEpoch t ⟨nominal, sky⟩) s) fun u =>
      u.base.epochs = (⟨nominal, a.baseSignals sky nominal, a.baseRecs 1 nominal⟩ :: a.base.epochs).take 512
      ∧ u.base.smooth = a.epochSmooth nominal sky ∧ u.base.spps = a.epochSpps nominal sky
      ∧ u.base.netRun = a.netRunNow ∧ u.base.cause = a.epochFails nominal sky
      ∧ u.base.st = (if a.epochFails nominal sky = 0 then 2 else 3) ∧ u.base.survey = none := by
  subst ha
  refine ⟨_, rfl, ?_⟩
  dsimp only
  have hb : (s.run t fun s => s.baseEpoch nominal sky).base = ((s.advance t).baseEpoch nominal sky).base := State.run_base ..
  have h := State.baseEpoch_operating (sky := sky) h1 h2 h3 h4 h5 h6 h7 h8
  simp only [Base.judged, Prod.mk.injEq, State.epochTaken_base] at h
  obtain ⟨e1, e2, e3, e4, e5, e6, e7, -⟩ := h
  rw [hb]
  exact ⟨e1, e2, e3, e4, e5, e6, e7.trans h7⟩

theorem baseEpoch_yields_starting (s a : State) (t : Nat) (ha : s.advance t = a) (nominal : Int) (sky : List SatEph) (h1 : a.up .fixer = true)
    (h2 : a.up .tracking = true) (h3 : a.track.mode ≠ 1) (h4 : a.track.nominal = some nominal)
    (h5 : a.base.epochs.head?.map BaseEp.nominal ≠ some nominal) (h6 : a.base.netEpoch ≠ some nominal)
    (h7 : a.base.survey = none) (h8 : a.base.st = 4) :
    Yields (exec (.baseEpoch t ⟨nominal, sky⟩) s) fun u =>
      u.base.epochs = (⟨nominal, a.baseSignals sky nominal, a.baseRecs 1 nominal⟩ :: a.base.epochs).take 512
      ∧ u.base.cause = a.epochFails nominal sky
      ∧ u.base.clean = (if a.epochFails nominal sky = 0 then min 10 (a.base.clean + 1) else 0)
      ∧ u.base.st = (if a.epochFails nominal sky = 0 ∧ 9 ≤ a.base.clean ∧ a.timed = true then 2 else 4) := by
  subst ha
  refine ⟨_, rfl, ?_⟩
  dsimp only
  have hb : (s.run t fun s => s.baseEpoch nominal sky).base = ((s.advance t).baseEpoch nominal sky).base := State.run_base ..
  have h := State.baseEpoch_starting (sky := sky) h1 h2 h3 h4 h5 h6 h7 h8
  simp only [Base.judged, Prod.mk.injEq, State.epochTaken_base] at h
  obtain ⟨e1, -, -, -, e5, e6, -, e8⟩ := h
  rw [hb]
  exact ⟨e1, e5, e8, e6⟩

theorem surveyStartStandalone_yields (s : State) (t : Nat) (w : Caller)
    (hw : (s.advance t).writes w 0x3620 0 [1] = true) (h1 : (s.advance t).base.survey = none)
    (h2 : ((s.advance t).base.st ≠ 2 ∧ (s.advance t).base.st ≠ 3) ∨ (s.advance t).stoppedAll = true) :
    Yields (exec (.surveyStartStandalone t w) s) fun u =>
      u.base = { (s.advance t).base with st := 1, survey := some (Survey.start false), clean := 0 } ∧ u.val (key 0x3625 0) = [1]
        ∧ Only (told ++ [Part.base, Part.rover, Part.settings]) (s.advance t) u :=
  ⟨_, rfl, State.run_surveyStart hw (by decide) rfl h1 h2 fun h => absurd h (by decide)⟩

theorem surveyStartNetwork_yields (s : State) (t : Nat) (w : Caller)
    (hw : (s.advance t).writes w 0x3620 0 [2] = true) (h1 : (s.advance t).base.survey = none)
    (h2 : ((s.advance t).base.st ≠ 2 ∧ (s.advance t).base.st ≠ 3) ∨ (s.advance t).stoppedAll = true)
    (h3 : (s.advance t).netState = 2 ∨ (s.advance t).netState = 3) :
    Yields (exec (.surveyStartNetwork t w) s) fun u =>
      u.base = { (s.advance t).base with st := 1, survey := some (Survey.start true), clean := 0 } ∧ u.val (key 0x3625 0) = [1]
        ∧ Only (told ++ [Part.base, Part.rover, Part.settings]) (s.advance t) u :=
  ⟨_, rfl, State.run_surveyStart hw (by decide) rfl h1 h2 fun _ => h3⟩

theorem surveyAbandon_yields (s : State) (t : Nat) (w : Caller)
    (hw : (s.advance t).writes w 0x3620 0 [0] = true) (h1 : (s.advance t).base.survey.isSome = true) :
    Yields (exec (.surveyAbandon t w) s) fun u =>
      u.base = { (s.advance t).base with
          st := if (s.advance t).refSource = 0 then 0 else 4, survey := none, clean := 0, passAt := List.replicate 5 none }
        ∧ u.val (key 0x3625 0) = [0] ∧ Only (told ++ [Part.base, Part.rover, Part.settings]) (s.advance t) u :=
  ⟨_, rfl, State.run_surveyAbandon hw (by decide) h1⟩

/-- Settles O27: a base epoch is judged by its checks, and an observation record ends in one fix record of its slot's order. -/
theorem baseStation : Obligations.BaseStation := by
  unfold Obligations.BaseStation
  refine ⟨?_, ?_, ?_, ?_, ?_, ?_, ?_, ?_, ?_, ?_, ?_, ?_, ?_, ?_⟩
  · intro s t nominal sky a l smooth spps b fails h1 h2 h3 h4 h5 h6 h7 h8
    exact baseEpoch_yields_operating s a t rfl nominal sky h1 h2 h3 h4 h5 h6 h7 h8
  · intro s t nominal sky a l smooth spps b fails h1 h2 h3 h4 h5 h6 h7 h8
    exact baseEpoch_yields_starting s a t rfl nominal sky h1 h2 h3 h4 h5 h6 h7 h8
  · intro s t w a hw h1 h2
    exact surveyStartStandalone_yields s t w hw h1 h2
  · intro s t w a hw h1 h2 h3
    exact surveyStartNetwork_yields s t w hw h1 h2 h3
  · intro s t w a hw h1
    exact surveyAbandon_yields s t w hw h1
  · intro s t w req a l hw
    exact ⟨_, rfl, State.run_netPort hw⟩
  · intro s t i r req a l first hw
    exact ⟨_, rfl, State.run_netPort_answered hw⟩
  · intro s t pkt a slot r hu hc
    exact ⟨_, rfl, State.run_obsArrival_taken hu hc⟩
  · intro s t o pkt a hu hc
    obtain ⟨h1, h2, h3, h4⟩ := State.run_obsArrival_refused hu hc
    exact ⟨_, rfl, h1, h2, h3, fun k _ => h4 k⟩
  · intro s t i x a b c h1 h2 h3 h4 h5 h6 h7 h8 h9
    exact roverEpochStart_starts s t i x h1 h2 h3 h4 h5 h6 h7 h8 h9
  · intro s t i x a b h1 h2 h3 h4 h5 h6 h7
    exact roverEpochStart_drops s t i x h1 h2 h3 h4 h5 h6 h7
  · intro s t slot i n sky x rest a r o h1 h2 h3 h4
    exact roverEpochDone_yields s t slot i n sky x rest h1 h2 h3 h4
  · intro s t slot i sky x a h1 h2 h3 h4
    exact roverEpochDone_floats s t slot i sky x h1 h2 h3 h4
  · intro s t slot w a h0 hw
    refine ⟨_, rfl, ?_⟩
    show State.roverSlot (s.run t fun s => if slot < 1024 then _ else s) slot = _ ∧ _
    simp only [if_pos h0]
    exact State.run_roverReset h0 hw

end Sys2Proof.Machine
end

section
set_option Elab.async false
/-!
PROOF. Chapters 5 and 6: requests of the Comb are judged when it is their turn (R221, R228 to R236).
-/

namespace Sys2Proof.Machine

variable {s : State} {t : Nat}

/-! ### What settling, counting and sending leave of the Comb -/

/-- After entries changed, the open flags and the mark of a nearly full Comb may differ, and the Logbook. -/
theorem State.combSettled_eq (s : State) : ∃ (b : Bool) (l : Logbook),
    s.combSettled = { s with comb := { s.comb with openIn := Triple.of s.comb.openBuckets, nearFull := b }, log := l } := by
  let x : State := { s with comb := { s.comb with openIn := Triple.of s.comb.openBuckets } }
  have h (b : Bool) (ev : Ev) : ({ x with comb := { x.comb with nearFull := b } } : State).logEv ev []
      = { s with comb := { s.comb with openIn := Triple.of s.comb.openBuckets, nearFull := b }
                 log := (({ x with comb := { x.comb with nearFull := b } } : State).logEv ev []).log } := State.logEv_eq _ _ _
  show ∃ b l, x.nearFull = _
  unfold State.nearFull
  split
  · exact ⟨_, _, h true _⟩
  · split
    · exact ⟨_, _, h false _⟩
    · exact ⟨s.comb.nearFull, s.log, rfl⟩

/-- The entries, tracks and operations of the Comb are left as they were, and so is what sessions say. -/
structure State.CombStill (s u : State) : Prop where
  entries : u.comb.entries = s.comb.entries
  tracks : u.comb.tracks = s.comb.tracks
  flight : u.comb.flight = s.comb.flight
  talks : s.Talks u

theorem State.CombStill.refl (s : State) : s.CombStill s := ⟨rfl, rfl, rfl, .refl s⟩

theorem State.CombStill.trans {s u w : State} (h : s.CombStill u) (k : u.CombStill w) : s.CombStill w :=
  ⟨k.entries.trans h.entries, k.tracks.trans h.tracks, k.flight.trans h.flight, h.talks.trans k.talks⟩

/-- What moves neither the Comb nor what sessions say. -/
theorem State.CombStill.of_comb {s u : State} (h : u.comb = s.comb) (k : s.Talks u) : s.CombStill u :=
  ⟨congrArg Comb.entries h, congrArg Comb.tracks h, congrArg Comb.flight h, k⟩

theorem State.Talks.withComb (s : State) (c : Comb) : s.Talks { s with comb := c } := fun _ => rfl

theorem State.combSettled_still (s : State) : s.CombStill s.combSettled := by
  obtain ⟨b, l, e⟩ := s.combSettled_eq
  rw [e]
  exact ⟨rfl, rfl, rfl, fun _ => rfl⟩

theorem State.logEv_still (s : State) (ev : Ev) (p : Bytes) : s.CombStill (s.logEv ev p) := by
  rw [s.logEv_eq]
  exact ⟨rfl, rfl, rfl, fun _ => rfl⟩

theorem State.toNbr_comb (s : State) (n idx : Nat) (msg : Bytes) : (s.toNbr n idx msg).comb = s.comb :=
  (State.toNbr_same (pt := .comb) (by decide) (by decide) s s n idx msg).mpr rfl

theorem State.toNbr_still (s : State) (n idx : Nat) (msg : Bytes) : s.CombStill (s.toNbr n idx msg) :=
  .of_comb (s.toNbr_comb n idx msg) (s.toNbr_talks n idx msg)

/-- A fold of steps that leave the Comb leaves it. -/
theorem foldl_still {α : Type} {g : State → α → State} (h : ∀ (x : State) b, x.CombStill (g x b)) (l : List α) (s : State) : s.CombStill (l.foldl g s) := by
  induction l generalizing s with
  | nil => exact .refl s
  | cons b l ih => exact (h s b).trans (ih _)

theorem State.sendShorten_still (s : State) (c : Comb) (l : List Entry) : s.CombStill (s.sendShorten c l) := by
  unfold State.sendShorten
  refine foldl_still (fun x n => ?_) _ s
  dsimp only
  split
  · exact .refl x
  · exact x.toNbr_still _ _ _

theorem State.forceArea_talks (s : State) (now : Nat) (l : List Cov) : s.Talks (s.forceArea now l).1 := by
  unfold State.forceArea
  extract_lets r owners y
  have h1 : s.Talks y := (State.sendShorten_still ({ s with comb := r.1 } : State) s.comb r.2.1).talks
  exact h1.trans (foldl_still (fun x o => x.logEv_still _ _) _ y).talks

/-- Operation `seq` noted for those that look earlier: they keep their numbers. -/
theorem State.noteLater_eq (s : State) (seq : Nat) (old : List Entry) :
    ∃ fl : List Flight, s.noteLater seq old = { s with comb := { s.comb with flight := fl } } ∧ fl.map Flight.seq = s.comb.flight.map Flight.seq := by
  unfold State.noteLater
  split
  · refine ⟨_, rfl, ?_⟩
    rw [List.map_map]
    refine List.map_congr_left fun f _ => ?_
    dsimp only [Function.comp]
    split <;> rfl
  · exact ⟨s.comb.flight, rfl, rfl⟩

/-! ### A request ends -/

theorem State.combReply_comb (s : State) (r : CombReq) (seq : Nat) (v : Verdict) (tail : Bytes) : (s.combReply r seq v tail).comb = s.comb :=
  (State.combReply_same (pt := .comb) (by decide) (by decide) (by decide) (by decide) (by decide) s s r seq v tail).mpr rfl

theorem State.endReq_comb (s : State) (r : CombReq) (seq : Nat) (v : Verdict) (tail : Bytes) : (s.endReq r seq v tail).comb = s.comb.endFlight seq :=
  State.combReply_comb _ _ _ _ _

/-- The answer of the Comb to a request. -/
def CombReq.answer (r : CombReq) (seq : Nat) (v : Verdict) (tail : Bytes) : Ans :=
  ⟨v.out, combAbort v.out, combResp (Creq.of r.req).op (Creq.of r.req).owner (Creq.of r.req).tag (Creq.of r.req).ref seq v ++ tail, 0⟩

/-- A session that waits for the end of its request is answered. -/
theorem State.endReq_answers {x : State} (hx : s.Talks x) (r : CombReq) (seq : Nat) (v : Verdict) (tail : Bytes) {i : Nat} {f : InFlight}
    (hc : r.caller = .coil i f.req) (hw : s.awaits i f = true) :
    ∃ y, Tbl.get? (x.endReq r seq v tail).dict.sessions i = some y ∧ y.outbox = [.resp f (r.answer seq v tail) true] ∧ y.newTo f := by
  unfold State.awaits at hw
  cases hs : Tbl.get? s.dict.sessions i with
  | none => rw [hs] at hw; cases hw
  | some w =>
    rw [hs] at hw
    simp only [Bool.and_eq_true, decide_eq_true_eq, List.isEmpty_iff, Option.isNone_iff_eq_none] at hw
    obtain ⟨⟨hf, ho⟩, hk⟩ := hw
    have hasked : w.Asked f := ⟨ho, hf, Session.newTo_of_empty ho hk⟩
    have ht := hx i
    rw [hs, Option.map_some, Option.map_eq_some_iff] at ht
    obtain ⟨y, hy, hyt⟩ := ht
    have hz : Tbl.get? (({ x with comb := x.comb.endFlight seq } : State).count 0x07 v.out 1).dict.sessions i = some y := by
      rw [State.count_sessions]
      exact hy
    unfold State.endReq State.combReply State.combAnswer
    rw [hc]
    exact State.answer_asked hz (hasked.of_talk hyt)

/-- The row of a request's judgement ends it on the state `x` with a verdict. -/
structure State.Ends (s : State) (op : Nat) (f : Flight) (r : CombReq) (x : State) (v : Verdict) (tail : Bytes) : Prop where
  row : s.judgeRow op f.seq = (x.endReq r f.seq v tail).noteLater f.seq s.comb.entries
  talks : s.Talks x

/-- A request that ends is in flight no more and is answered; the Comb keeps the entries and tracks of `x`. -/
theorem State.run_body_ended {a x : State} (ha : s.advance t = a) {r : CombReq} {seq : Nat} {v : Verdict} {tail : Bytes} {es : List Entry}
    {body : State → State} (hb : body a = (x.endReq r seq v tail).noteLater seq es) (hx : a.Talks x) :
    let u := s.run t body
    u.comb.entries = x.comb.entries ∧ u.comb.tracks = x.comb.tracks ∧ u.flightOf seq = none ∧ a.replied r.caller (r.answer seq v tail) u := by
  subst ha
  obtain ⟨fl, e, hfl⟩ := (x.endReq r seq v tail).noteLater_eq seq es
  have hc : (s.run t body).comb = { x.comb.endFlight seq with flight := fl } := by
    rw [State.run_comb, hb, e]
    show ({ (x.endReq r seq v tail).comb with flight := fl } : Comb) = _
    rw [State.endReq_comb]
  rw [State.endReq_comb] at hfl
  refine ⟨by rw [hc]; rfl, by rw [hc]; rfl, ?_, fun i f hi hw => ?_⟩
  · unfold State.flightOf
    rw [hc, List.find?_eq_none]
    intro g hg
    have hm : g.seq ∈ (x.comb.endFlight seq).flight.map Flight.seq := hfl ▸ List.mem_map_of_mem hg
    obtain ⟨k, hk, hks⟩ := List.mem_map.mp hm
    have hne : k.seq ≠ seq := by simpa using (List.mem_filter.mp hk).2
    simpa [← hks] using hne
  · obtain ⟨y, hy, ho, hn⟩ := State.endReq_answers hx r seq v tail hi hw
    refine State.run_answered (x := y) ?_ ho hn
    rw [hb, e]
    exact hy

theorem State.run_ended {a x : State} (ha : s.advance t = a) {op : Nat} {f : Flight} {r : CombReq} {v : Verdict} {tail : Bytes}
    (h : a.Ends op f r x v tail) :
    let u := s.run t fun s => s.judgeRow op f.seq
    u.comb.entries = x.comb.entries ∧ u.comb.tracks = x.comb.tracks ∧ u.flightOf f.seq = none ∧ a.replied r.caller (r.answer f.seq v tail) u :=
  State.run_body_ended (body := fun s => s.judgeRow op f.seq) ha h.row h.talks

/-! ### The turn of a request -/

section
variable {f : Flight} {r : CombReq}

/-- When it is a request's turn, its judgement is carried out. -/
theorem State.turn_judged (h : s.turn f r = true) : s.judgeRow (Creq.of r.req).op f.seq = (s.runReq r f).noteLater f.seq s.comb.entries := by
  simp only [State.turn, Bool.and_eq_true, decide_eq_true_eq, Bool.not_eq_true'] at h
  obtain ⟨⟨⟨⟨⟨hup, hf⟩, hp⟩, ho⟩, hm⟩, hl⟩ := h
  have hs : s.settle f.seq = (s.runReq r f).noteLater f.seq s.comb.entries := by
    unfold State.settle
    rw [hl, List.foldl_cons, List.foldl_nil, hf]
    dsimp only
    unfold State.tryFlight State.runFlight
    rw [hm, ho]
    rfl
  unfold State.judgeRow
  rw [hf]
  dsimp only
  rw [ho]
  dsimp only
  rw [if_pos (by simp [Creq.of, hp, hup])]
  exact hs

/-- The commit point: entries become committed and the track stands. -/
def State.commits (s : State) (q : Creq) (raw : Bytes) (f : Flight) (mirror : Nat) : State :=
  ({ s with comb := { s.comb.commitSeq f.seq with
    tracks := (s.comb.commitSeq f.seq).tracks.filter (fun x => !(x.owner = q.owner && x.tag = q.tag)) ++ [q.track raw f.tacc mirror] } } :
      State).combSettled

theorem State.commits_effect (s : State) (q : Creq) (raw : Bytes) (f : Flight) (mirror : Nat) :
    (s.commits q raw f mirror).comb.entries = (s.comb.commitSeq f.seq).entries ∧ q.track raw f.tacc mirror ∈ (s.commits q raw f mirror).comb.tracks ∧
      s.Talks (s.commits q raw f mirror) := by
  have h := State.combSettled_still ({ s with comb := { s.comb.commitSeq f.seq with
    tracks := (s.comb.commitSeq f.seq).tracks.filter (fun x => !(x.owner = q.owner && x.tag = q.tag)) ++ [q.track raw f.tacc mirror] } } : State)
  refine ⟨h.entries, ?_, h.talks⟩
  unfold State.commits
  rw [h.tracks]
  exact List.mem_append_right _ List.mem_cons_self

/-- A request that ends at its commit point. -/
theorem State.run_committed {a y : State} (ha : s.advance t = a) {op mirror : Nat} {v : Verdict} {tail : Bytes}
    (h : a.Ends op f r (y.commits (Creq.of r.req) r.req f mirror) v tail) :
    let u := s.run t fun s => s.judgeRow op f.seq
    u.comb.entries = (y.comb.commitSeq f.seq).entries ∧ (Creq.of r.req).track r.req f.tacc mirror ∈ u.comb.tracks ∧ u.flightOf f.seq = none ∧
      a.replied r.caller (r.answer f.seq v tail) u := by
  obtain ⟨h1, h2, h3, h4⟩ := State.run_ended ha h
  obtain ⟨c1, c2, -⟩ := y.commits_effect (Creq.of r.req) r.req f mirror
  rw [← h2] at c2
  exact ⟨h1.trans c1, c2, h3, h4⟩

theorem State.commitReq_claim {q : Creq} (h3 : q.op ≠ 3) (h5 : q.op ≠ 5 ∨ q.force = false) (s : State) (raw : Bytes) (f : Flight) (mirror : Nat) :
    s.commitReq q raw f mirror = (s.commits q raw f mirror, 0, 0) := by
  have h : (decide (q.op = 5) && q.force) = false := by rcases h5 with h | h <;> simp [h]
  unfold State.commitReq
  simp only [if_neg h3, h, Bool.false_eq_true, if_false]
  rfl

theorem State.commitReq_amend {q : Creq} (h3 : q.op = 3) (s : State) (raw : Bytes) (f : Flight) (mirror : Nat) :
    (s.commitReq q raw f mirror).1 = (({ s with comb := { s.comb with entries := s.comb.entries.filter fun e => !(e.of q.owner q.tag && e.seq = 0) } } :
      State).sendShorten s.comb (s.comb.amended q f)).commits q raw f mirror := by
  unfold State.commitReq
  simp only [h3, if_true, Nat.reduceEqDiff, decide_false, Bool.false_and, Bool.false_eq_true, if_false]
  rfl

theorem State.commitReq_force {q : Creq} (h5 : q.op = 5) (hf : q.force = true) (s : State) (raw : Bytes) (f : Flight) (mirror : Nat) :
    (s.commitReq q raw f mirror).1 = (s.forceArea f.tacc ((s.comb.entries.filter fun e => e.seq = f.seq).map Entry.cov)).1.commits q raw f mirror := by
  unfold State.commitReq
  simp only [h5, hf, Nat.reduceEqDiff, if_false, decide_true, Bool.true_and, if_true]
  rfl

/-- The entries of a granted request are written tentative. -/
def State.granted (s : State) (f : Flight) (r : CombReq) : State :=
  s.writeEntries ((Creq.of r.req).demand f) (s.judge (Creq.of r.req) f 0).2

/-- The mirror index of a request's track. -/
def State.mirrorNow (s : State) (f : Flight) (r : CombReq) : Nat := s.comb.mirrorFor f.tacc (Creq.of r.req).owner (Creq.of r.req).tag

/-- A claim, amendment or area that its judgement grants, with no neighbour to ask, is written, committed and answered. -/
theorem State.runClaim_good (hj : (s.judge (Creq.of r.req) f 0).1.good = true) (hn : s.nbrParts (s.judge (Creq.of r.req) f 0).2 = []) :
    s.runClaim r f = ((s.granted f r).commitReq (Creq.of r.req) r.req f (s.mirrorNow f r)).1.endReq r f.seq
      (Verdict.ok ((s.judge (Creq.of r.req) f 0).1.note + ((s.granted f r).commitReq (Creq.of r.req) r.req f (s.mirrorNow f r)).2.1)
        (s.judge (Creq.of r.req) f 0).1.ents ((s.granted f r).commitReq (Creq.of r.req) r.req f (s.mirrorNow f r)).2.2) [] := by
  unfold State.runClaim State.granted State.mirrorNow
  dsimp only
  rw [if_neg (by rw [hj]; decide), if_neg (by rw [hn]; exact Bool.false_ne_true), if_pos hn]

theorem State.runClaim_bad (hj : (s.judge (Creq.of r.req) f 0).1.good = false) :
    s.runClaim r f = s.endReq r f.seq (s.judge (Creq.of r.req) f 0).1 [] := by
  unfold State.runClaim
  dsimp only
  rw [hj]
  rfl

theorem State.runReq_claim (h : (Creq.of r.req).op = 1 ∨ (Creq.of r.req).op = 3 ∨ (Creq.of r.req).op = 5) : s.runReq r f = s.runClaim r f := by
  unfold State.runReq
  rcases h with h | h | h <;> simp only [h]

theorem State.writeEntries_talks (s : State) (d : Demand) (l : List Cov) : s.Talks (s.writeEntries d l) :=
  (State.combSettled_still ({ s with comb := (s.comb.placeAll s.buckets d.now (entriesOf d.owner d.tag d.seq d.trim l)).1 } : State)).talks

theorem combAbort_ok (note ents aux : Nat) : combAbort (Verdict.ok note ents aux).out = 0 := by
  unfold combAbort Verdict.ok Verdict.no
  refine if_pos ?_
  dsimp only
  split <;> decide

/-- A request that its turn finds granted by the Comb alone. -/
structure State.Grants (s : State) (f : Flight) (r : CombReq) : Prop where
  turn : s.turn f r = true
  good : (s.judge (Creq.of r.req) f 0).1.good = true
  alone : s.nbrParts (s.judge (Creq.of r.req) f 0).2 = []

/-- A granted request ends on the state its commit point leaves. -/
theorem State.Grants.ends (h : s.Grants f r) (ho : (Creq.of r.req).op = 1 ∨ (Creq.of r.req).op = 3 ∨ (Creq.of r.req).op = 5) {y : State}
    (hy : ((s.granted f r).commitReq (Creq.of r.req) r.req f (s.mirrorNow f r)).1 = y.commits (Creq.of r.req) r.req f (s.mirrorNow f r))
    (ht : (s.granted f r).Talks y) :
    s.Ends (Creq.of r.req).op f r (y.commits (Creq.of r.req) r.req f (s.mirrorNow f r))
      (Verdict.ok ((s.judge (Creq.of r.req) f 0).1.note + ((s.granted f r).commitReq (Creq.of r.req) r.req f (s.mirrorNow f r)).2.1)
        (s.judge (Creq.of r.req) f 0).1.ents ((s.granted f r).commitReq (Creq.of r.req) r.req f (s.mirrorNow f r)).2.2) [] := by
  refine ⟨?_, ((s.writeEntries_talks _ _).trans ht).trans (y.commits_effect _ _ _ _).2.2⟩
  rw [State.turn_judged h.turn, State.runReq_claim ho, State.runClaim_good h.good h.alone, ← hy]

/-- A CLAIM, or an AREA without force. -/
theorem State.Grants.plain (h : s.Grants f r) (h1 : (Creq.of r.req).op = 1 ∨ ((Creq.of r.req).op = 5 ∧ (Creq.of r.req).force = false)) :
    s.Ends (Creq.of r.req).op f r ((s.granted f r).commits (Creq.of r.req) r.req f (s.mirrorNow f r))
      (Verdict.ok (s.judge (Creq.of r.req) f 0).1.note (s.judge (Creq.of r.req) f 0).1.ents 0) [] := by
  have e := State.commitReq_claim (q := Creq.of r.req) (by omega) (by rcases h1 with h1 | ⟨-, h1⟩ <;> simp [h1]) (s.granted f r) r.req f (s.mirrorNow f r)
  have hend := h.ends (by omega) (congrArg Prod.fst e) (.refl _)
  rw [e] at hend
  exact hend

/-- The old entries of an amended tag are gone. -/
def State.withoutOld (s : State) (r : CombReq) : Comb :=
  { s.comb with entries := s.comb.entries.filter fun e => !(e.of (Creq.of r.req).owner (Creq.of r.req).tag && e.seq = 0) }

theorem State.Grants.amend (h : s.Grants f r) (h3 : (Creq.of r.req).op = 3) :
    ∃ (y : State) (v : Verdict), y.comb.entries = ((s.granted f r).withoutOld r).entries ∧
      s.Ends 3 f r (y.commits (Creq.of r.req) r.req f (s.mirrorNow f r)) v [] := by
  have hs := State.sendShorten_still ({ s.granted f r with comb := (s.granted f r).withoutOld r } : State) (s.granted f r).comb
    ((s.granted f r).comb.amended (Creq.of r.req) f)
  have hend := h.ends (by omega) (State.commitReq_amend h3 (s.granted f r) r.req f _) ((State.Talks.withComb _ _).trans hs.talks)
  rw [h3] at hend
  exact ⟨_, _, hs.entries, hend⟩

theorem State.Grants.forced (h : s.Grants f r) (h5 : (Creq.of r.req).op = 5) (hf : (Creq.of r.req).force = true) :
    ∃ v, s.Ends 5 f r (((s.granted f r).forceArea f.tacc (((s.granted f r).comb.entries.filter fun e => e.seq = f.seq).map Entry.cov)).1.commits
      (Creq.of r.req) r.req f (s.mirrorNow f r)) v [] := by
  have hend := h.ends (by omega) (State.commitReq_force h5 hf (s.granted f r) r.req f _) (State.forceArea_talks _ _ _)
  rw [h5] at hend
  exact ⟨_, hend⟩

theorem State.turn_refused {op : Nat} (h : s.turn f r = true) (ho : (Creq.of r.req).op = op) (hop : op = 1 ∨ op = 3 ∨ op = 5)
    (hj : (s.judge (Creq.of r.req) f 0).1.good = false) : s.Ends op f r s (s.judge (Creq.of r.req) f 0).1 [] := by
  subst ho
  exact ⟨by rw [State.turn_judged h, State.runReq_claim hop, State.runClaim_bad hj], .refl s⟩

theorem State.turn_probe (h : s.turn f r = true) (ho : (Creq.of r.req).op = 2) :
    s.Ends 2 f r s ((s.seenBefore f).probeVerdict (Creq.of r.req) f) [] := by
  have e : s.runReq r f = s.endReq r f.seq ((s.seenBefore f).probeVerdict (Creq.of r.req) f) [] := by
    unfold State.runReq
    simp only [ho]
  have hb := State.turn_judged h
  rw [e, ho] at hb
  exact ⟨hb, .refl s⟩

/-- The entries a QUERY finds. -/
def State.found (s : State) (f : Flight) (r : CombReq) : List Entry := (s.seenBefore f).comb.queryCell f.tacc (Creq.of r.req)

theorem State.turn_query (h : s.turn f r = true) (ho : (Creq.of r.req).op = 6) (he : s.earlyChecks (Creq.of r.req) f.tacc 0 = none)
    (hc : f.counted = true) :
    s.Ends 6 f r s (Verdict.ok (if 32 < (s.found f r).length then 16 else 0) (min 32 (s.found f r).length) 0)
      (((s.found f r).take 32).flatMap Entry.bytes) := by
  have e : s.runReq r f = s.endReq r f.seq (Verdict.ok (if 32 < (s.found f r).length then 16 else 0) (min 32 (s.found f r).length) 0)
      (((s.found f r).take 32).flatMap Entry.bytes) := by
    unfold State.runReq
    simp only [ho, he, hc, Bool.not_true, Bool.false_eq_true, if_false]
    rfl
  have hb := State.turn_judged h
  rw [e, ho] at hb
  exact ⟨hb, .refl s⟩

/-- What a RELEASE cuts. -/
def State.cutOf (s : State) (f : Flight) (r : CombReq) : Comb × List Entry × Option Entry :=
  s.comb.cutBy s.buckets f.tacc
    (fun e => e.owner = (Creq.of r.req).owner && ((Creq.of r.req).allTags || e.tag = (Creq.of r.req).tag) && e.live f.tacc)
    (Entry.cut (max (Creq.of r.req).base f.tacc))

theorem State.turn_release (h : s.turn f r = true) (ho : (Creq.of r.req).op = 4) (he : s.earlyChecks (Creq.of r.req) f.tacc 0 = none)
    (hc : f.counted = true) (hx : (s.cutOf f r).2.2 = none) :
    ∃ x, x.comb.entries = (s.cutOf f r).1.entries ∧ s.Ends 4 f r x (Verdict.ok 0 (s.cutOf f r).2.1.length 0) [] := by
  let w : State := { s with comb := (s.cutOf f r).1 }
  have hy := w.sendShorten_still s.comb (s.cutOf f r).2.1
  generalize hyd : w.sendShorten s.comb (s.cutOf f r).2.1 = y at hy
  have hr : s.release (Creq.of r.req) f.tacc = (y.pruneTracks.combSettled, .ok (s.cutOf f r).2.1.length) := by
    unfold State.release
    rw [show s.comb.cutBy _ _ _ _ = s.cutOf f r from rfl]
    simp only [hx]
    rw [← hyd]
  have hz := y.pruneTracks.combSettled_still
  refine ⟨y.pruneTracks.combSettled, hz.entries.trans hy.entries, ?_, ?_⟩
  · rw [← ho, State.turn_judged h]
    unfold State.runReq
    simp only [ho, he, hc, Bool.not_true, Bool.false_eq_true, if_false, hr]
  · exact ((State.Talks.withComb s _).trans hy.talks).trans ((State.Talks.withComb y _).trans hz.talks)

end

/-- The answers of the statement are those of the model. -/
theorem CombReq.answer_ok (r : CombReq) (seq note ents aux : Nat) (tail : Bytes) {op : Nat} (ho : (Creq.of r.req).op = op) :
    r.answer seq (Verdict.ok note ents aux) tail = ⟨(Verdict.ok note ents aux).out, 0,
      combResp op (Creq.of r.req).owner (Creq.of r.req).tag (Creq.of r.req).ref seq (Verdict.ok note ents aux) ++ tail, 0⟩ := by
  unfold CombReq.answer
  rw [combAbort_ok, ho]

theorem CombReq.answer_nil (r : CombReq) (seq : Nat) (v : Verdict) {op : Nat} (ho : (Creq.of r.req).op = op) :
    r.answer seq v [] = ⟨v.out, combAbort v.out,
      combResp op (Creq.of r.req).owner (Creq.of r.req).tag (Creq.of r.req).ref seq v, 0⟩ := by
  unfold CombReq.answer
  rw [List.append_nil, ho]

/-- A QUERY that finds more than 32 entries is answered DONE_NOTE. -/
theorem queryOut (n ents aux : Nat) : (Verdict.ok (if 32 < n then 16 else 0) ents aux).out = if n ≤ 32 then 0 else 1 := by
  by_cases h : 32 < n
  · rw [if_pos h, if_neg (by omega)]
    rfl
  · rw [if_neg h, if_pos (by omega)]
    rfl

theorem Comb.commitSeq_entries {c d : Comb} (h : c.entries = d.entries) (seq : Nat) : (c.commitSeq seq).entries = (d.commitSeq seq).entries := by
  unfold Comb.commitSeq
  rw [h]

/-- The commands that judge a CLAIM, an AMEND and an AREA. -/
theorem claimRow {t op seq : Nat} {c : Instr} (h : (op, c) ∈ [(1, Instr.claim t seq), (3, Instr.amend t seq), (5, Instr.area t seq)]) (s : State) :
    (op = 1 ∨ op = 3 ∨ op = 5) ∧ exec c s = .next (s.run t fun s => s.judgeRow op seq) := by
  simp only [List.mem_cons, Prod.mk.injEq, List.not_mem_nil, or_false] at h
  rcases h with ⟨rfl, rfl⟩ | ⟨rfl, rfl⟩ | ⟨rfl, rfl⟩
  · exact ⟨.inl rfl, rfl⟩
  · exact ⟨.inr (.inl rfl), rfl⟩
  · exact ⟨.inr (.inr rfl), rfl⟩

/-- Settles O20: a request's turn carries out its judgement, whose end is its commit point and its answer. -/
theorem combJudgements : Obligations.CombJudgements := by
  unfold Obligations.CombJudgements
  refine ⟨?_, ?_, ?_, ?_, ?_, ?_, ?_, ?_⟩
  · intro s t f r a q j w ht ho hj hn
    have ha : s.advance t = a := rfl
    clear_value a
    have h : a.Grants f r := ⟨ht, hj, hn⟩
    have hend := h.plain (.inl ho)
    rw [ho] at hend
    obtain ⟨h1, h2, h3, h4⟩ := State.run_committed ha hend
    rw [CombReq.answer_ok r _ _ _ _ _ ho, List.append_nil] at h4
    exact ⟨_, rfl, h1, h2, h3, h4⟩
  · intro s t op f r c a q j ht hm ho hj
    have ha : s.advance t = a := rfl
    clear_value a
    obtain ⟨hop, e⟩ := claimRow hm s
    have h := State.run_ended ha (State.turn_refused ht ho hop hj)
    rw [CombReq.answer_nil r _ _ ho] at h
    rw [e]
    exact .next h
  · intro s t f r a q p ht ho
    have ha : s.advance t = a := rfl
    clear_value a
    have h := State.run_ended ha (State.turn_probe ht ho)
    rw [CombReq.answer_nil r _ _ ho] at h
    exact ⟨_, rfl, h⟩
  · intro s t f r a q j w ht ho hj hn
    have ha : s.advance t = a := rfl
    clear_value a
    have h : a.Grants f r := ⟨ht, hj, hn⟩
    obtain ⟨y, v, hy, hend⟩ := h.amend ho
    have hw : a.granted f r = w := rfl
    clear_value w
    unfold State.withoutOld at hy
    rw [hw] at hy
    obtain ⟨h1, h2, h3, -⟩ := State.run_committed ha hend
    exact ⟨_, rfl, h1.trans (Comb.commitSeq_entries hy f.seq), h2, h3⟩
  · intro s t f r a q x ht ho he hc hx
    have ha : s.advance t = a := rfl
    clear_value a
    obtain ⟨y, hy, hend⟩ := State.turn_release ht ho he hc hx
    obtain ⟨h1, -, h3, h4⟩ := State.run_ended ha hend
    rw [CombReq.answer_ok r _ _ _ _ _ ho, List.append_nil] at h4
    exact ⟨_, rfl, h1.trans hy, h3, h4⟩
  · intro s t f r a q j w ht ho hf hj hn
    have ha : s.advance t = a := rfl
    clear_value a
    have h : a.Grants f r := ⟨ht, hj, hn⟩
    have hend := h.plain (.inr ⟨ho, hf⟩)
    rw [ho] at hend
    obtain ⟨h1, h2, h3, -⟩ := State.run_committed ha hend
    exact ⟨_, rfl, h1, h2, h3⟩
  · intro s t f r a q j w z ht ho hf hj hn
    have ha : s.advance t = a := rfl
    clear_value a
    have h : a.Grants f r := ⟨ht, hj, hn⟩
    obtain ⟨v, hend⟩ := h.forced ho hf
    obtain ⟨h1, h2, h3, -⟩ := State.run_committed ha hend
    exact ⟨_, rfl, h1, h2, h3⟩
  · intro s t f r a q es ht ho he hc
    have ha : s.advance t = a := rfl
    clear_value a
    obtain ⟨h1, h2, h3, h4⟩ := State.run_ended ha (State.turn_query ht ho he hc)
    rw [CombReq.answer_ok r _ _ _ _ _ ho, queryOut] at h4
    exact ⟨_, rfl, h1, h2, h3, h4⟩

end Sys2Proof.Machine
end

section
set_option Elab.async false
/-!
PROOF. Chapters 4 to 6: intake, acceptance and the stores of the Comb, and the site commit that empties it (R183, R190, R240, R253 to R257, R311 to
R316).
-/

namespace Sys2Proof.Machine

variable {s : State} {t : Nat} {c : Caller}

/-! ### Intake and acceptance -/

theorem State.intakeCheck_dict {d : Dict} (h : d.Alike s.dict) (c : Caller) (req : Bytes) : (s.withDict d).intakeCheck c req = s.intakeCheck c req := by
  unfold State.intakeCheck
  rw [State.privOf_dict h]
  rfl

/-- The Comb with a request taken in. -/
def Comb.takesIn (c : Comb) (x : CombReq) : Comb :=
  if (c.intake.getD (Creq.of x.req).intake []).length < 64 then { c with intake := modNth c.intake (Creq.of x.req).intake (· ++ [x]) }
  else { c with outside := c.outside ++ [x] }

theorem State.combIntake_taken {req : Bytes} (h : s.intakeCheck c req = none) : s.combIntake c req = { s with comb := s.comb.takesIn ⟨c, req⟩ } := by
  unfold State.combIntake Comb.takesIn
  rw [h]
  dsimp only
  split <;> rfl

theorem State.run_combIntake_taken {req : Bytes} (hw : (s.advance t).requests c 0x4020 req = true) (hi : (s.advance t).intakeCheck c req = none) :
    let v := s.run t fun s => s.transactBy c 0x4020 req
    v.comb = (s.advance t).comb.takesIn ⟨c, req⟩ ∧ Only (told ++ [Part.comb]) (s.advance t) v := by
  obtain ⟨d, hd, h1, h2⟩ := State.run_request hw
  generalize s.advance t = a at *
  have e : ((a.withDict d).portOp c 0x4020 0 req).1 = { a.withDict d with comb := a.comb.takesIn ⟨c, req⟩ } :=
    State.combIntake_taken ((State.intakeCheck_dict hd c req).trans hi)
  rw [e] at h1 h2
  refine ⟨h1 .comb (by decide), h2 _ (by decide) ?_⟩
  exact (Only.withDict a d (by decide)).step fun p hp => same_comb (Part.ne_of_notMem hp (by decide)) ..

/-- A refused request moves counters, sessions and the applet's replies. -/
theorem State.combReply_only (s : State) (r : CombReq) (seq : Nat) (v : Verdict) (tail : Bytes) :
    Only (told ++ [Part.health]) s (s.combReply r seq v tail) := by
  refine Only.trans (b := s.count 0x07 v.out 1) ?_ ?_
  · exact (Only.refl _ s).step fun p hp => State.count_same (Part.ne_of_notMem hp (by decide)) ..
  · unfold State.combReply State.combAnswer
    generalize s.count 0x07 v.out 1 = y
    cases r.caller with
    | applet h q =>
      dsimp only
      split
      · exact Only.refl _ y
      · intro p hp
        cases p <;> first | rfl | exact absurd (by decide) hp
    | coil i q => exact (Only.refl _ y).step fun p hp => State.answer_same (Part.ne_of_notMem hp (by decide)) (Part.ne_of_notMem hp (by decide)) ..
    | usdo p n => exact Only.refl _ y
    | firmware => exact Only.refl _ y

theorem State.run_combIntake_refused {req : Bytes} {o : Nat} (hw : (s.advance t).requests c 0x4020 req = true)
    (hi : (s.advance t).intakeCheck c req = some o) :
    let v := s.run t fun s => s.transactBy c 0x4020 req
    v.comb = (s.advance t).comb ∧ Only (told ++ [Part.health]) (s.advance t) v := by
  obtain ⟨d, hd, h1, h2⟩ := State.run_request hw
  generalize s.advance t = a at *
  have e : ((a.withDict d).portOp c 0x4020 0 req).1 = (a.withDict d).combReply ⟨c, req⟩ 0
      { Verdict.no o with aux := if (Creq.of req).op = 2 then 0xFFFF else 0 } [] := by
    show (a.withDict d).combIntake c req = _
    unfold State.combIntake
    rw [State.intakeCheck_dict hd, hi]
  rw [e] at h1 h2
  have ho := h2 (told ++ [Part.health]) (by decide) ((Only.withDict a d (by decide)).trans (State.combReply_only _ _ _ _ _))
  exact ⟨ho .comb (by decide), ho⟩

theorem Comb.refill_keeps (c : Comb) (q : Nat) : (c.refill q).flight = c.flight ∧ (c.refill q).entries = c.entries ∧
    (c.refill q).seqLast = c.seqLast ∧ (c.refill q).nbrs = c.nbrs := by
  unfold Comb.refill
  split
  · split <;> exact ⟨rfl, rfl, rfl, rfl⟩
  · exact ⟨rfl, rfl, rfl, rfl⟩

/-- The head of the lowest queue that holds a request is accepted (R256, R257). -/
theorem State.acceptNext_takes {q : Nat} {x : CombReq} {rest : List CombReq} (hq : q < 8) (h0 : ∀ p, p < q → s.comb.intake.getD p [] = [])
    (h1 : s.comb.intake.getD q [] = x :: rest) :
    s.acceptNext.comb.flight = s.comb.flight ++ [⟨nextSeq s.comb.seqLast, s.ct, .request x, decide (s.inFlight < s.flightLimit), .judging,
        s.parsOf (FlightOp.request x).owner, s.frozenNow, [], []⟩] ∧
      s.acceptNext.comb.seqLast = nextSeq s.comb.seqLast ∧
      s.acceptNext.comb.intake = (({ s.comb with intake := modNth s.comb.intake q fun _ => rest } : Comb).refill q).intake ∧
      s.acceptNext.comb.entries = s.comb.entries ∧ Only [Part.comb, Part.health] s s.acceptNext := by
  have hfind : (List.range 8).find? (fun q => decide ((s.comb.intake.getD q []) ≠ [])) = some q := by
    rw [List.find?_range_eq_some]
    exact ⟨by rw [h1]; rfl, List.mem_range.mpr hq, fun j hj => by rw [h0 j hj]; rfl⟩
  let y : Comb := ({ s.comb with intake := modNth s.comb.intake q fun _ => rest } : Comb).refill q
  have e : s.acceptNext = (({ s with comb := y } : State).acceptOp (.request x) (({ s with comb := y } : State).inFlight < ({ s with comb := y } : State).flightLimit)).1 := by
    unfold State.acceptNext
    rw [hfind]
    dsimp only
    rw [h1]
  obtain ⟨k1, k2, k3, k4⟩ := Comb.refill_keeps ({ s.comb with intake := modNth s.comb.intake q fun _ => rest } : Comb) q
  have hfl : y.flight = s.comb.flight := k1
  have hin : ({ s with comb := y } : State).inFlight = s.inFlight := by
    unfold State.inFlight
    rw [show ({ s with comb := y } : State).comb.flight = s.comb.flight from hfl]
  have hfr : ({ s with comb := y } : State).frozenNow = s.frozenNow := by
    unfold State.frozenNow State.frozen State.nbr
    rw [show ({ s with comb := y } : State).comb.nbrs = s.comb.nbrs from k4]
    rfl
  have hc (z : State) : (z.count 0x06 0 1).comb = z.comb := (State.count_same (pt := .comb) (by decide) z z _ _ _).mpr rfl
  rw [e]
  unfold State.acceptOp
  simp only [hc, hin, hfr]
  refine ⟨?_, ?_, rfl, k2, ?_⟩
  · rw [show ({ s with comb := y } : State).comb.flight = s.comb.flight from hfl,
      show ({ s with comb := y } : State).comb.seqLast = s.comb.seqLast from k3]
    rfl
  · exact congrArg nextSeq k3
  · refine Only.step (x := _) ?_ fun p hp => State.count_same (Part.ne_of_notMem hp (by decide)) ..
    exact (Only.refl _ s).step fun p hp => same_comb (Part.ne_of_notMem hp (by decide)) ..

/-! ### A request that waited -/

/-- A request that nothing makes wait any more is judged (R264). -/
theorem State.resume_judged {f : Flight} {r : CombReq} (hu : s.up .comb = true) (hf : s.flightOf f.seq = some f) (hp : f.phase = .waiting)
    (ho : f.op = .request r) (hm : s.mustWait f = false) : s.resume f.seq = (s.runReq r f).noteLater f.seq s.comb.entries := by
  unfold State.resume
  rw [hf]
  dsimp only
  rw [if_pos (by simp [hp, hu])]
  unfold State.tryFlight State.runFlight
  rw [hm, ho]
  rfl

/-- A CLAIM granted by the Comb alone ends at its commit point. -/
theorem State.runReq_granted {f : Flight} {r : CombReq} (h1 : (Creq.of r.req).op = 1) (hj : (s.judge (Creq.of r.req) f 0).1.good = true)
    (hn : s.nbrParts (s.judge (Creq.of r.req) f 0).2 = []) :
    ∃ v, s.runReq r f = ((s.granted f r).commits (Creq.of r.req) r.req f (s.mirrorNow f r)).endReq r f.seq v [] := by
  have e := State.commitReq_claim (q := Creq.of r.req) (by omega) (.inl (by omega)) (s.granted f r) r.req f (s.mirrorNow f r)
  rw [State.runReq_claim (.inl h1), State.runClaim_good hj hn, e]
  exact ⟨_, rfl⟩

/-! ### Trims (R242, R244) -/

theorem Comb.place_flight {c c' : Comb} {n now : Nat} {e : Entry} (h : c.place n now e = some c') : c'.flight = c.flight := by
  unfold Comb.place at h
  split at h
  · cases h
  · obtain ⟨i, -, rfl⟩ := Option.map_eq_some_iff.mp h
    rfl

theorem Comb.placeAll_flight (n now : Nat) (c : Comb) (l : List Entry) : (c.placeAll n now l).1.flight = c.flight := by
  induction l generalizing c with
  | nil => rfl
  | cons e l ih =>
    unfold Comb.placeAll
    split
    · next c' h => exact (ih c').trans (Comb.place_flight h)
    · rfl

theorem Comb.cutBy_flight (c : Comb) (n now : Nat) (sel : Entry → Bool) (f : Entry → List Entry) : (c.cutBy n now sel f).1.flight = c.flight :=
  Comb.placeAll_flight ..

/-- An operation that has left is not found. -/
theorem State.flightOf_none {x : State} {seq : Nat} (h : x.comb.flight.map Flight.seq = (s.comb.endFlight seq).flight.map Flight.seq) :
    x.flightOf seq = none := by
  unfold State.flightOf
  rw [List.find?_eq_none]
  intro g hg
  have hm : g.seq ∈ (s.comb.endFlight seq).flight.map Flight.seq := h ▸ List.mem_map_of_mem hg
  obtain ⟨k, hk, hks⟩ := List.mem_map.mp hm
  have hne : k.seq ≠ seq := by simpa using (List.mem_filter.mp hk).2
  simpa [← hks] using hne

/-- What a trim cuts. -/
def State.trimCut (s : State) (f : Flight) (m : TrimOp) (r : Creq) (tau : Nat) : Comb × List Entry × Option Entry :=
  (s.comb.endFlight f.seq).cutBy s.buckets f.tacc
    (fun e => e.of m.owner m.tag && e.live f.tacc && !((s.trimHere m (r.marginWith f.pars) r.footprint).contains (e.q, e.r) ||
      ((coverage s.pitch r.footprint (r.marginWith f.pars) tau (r.tEnd 0) (posesFrom (r.poses 0) tau)).map fun c => (c.q, c.r)).contains (e.q, e.r)))
    (Entry.cut (m.f + f.pars.guard))

/-- The track's progress is noted, and the neighbours are told what the trim cut. -/
def State.trimStands (s : State) (f : Flight) (m : TrimOp) (r : Creq) (tau : Nat) : State :=
  ({ s with comb := { (s.trimCut f m r tau).1 with
    tracks := s.comb.tracks.map fun y => if y.owner = m.owner && y.tag = m.tag then { y with tau := some tau } else y } } : State).sendShorten
      (s.comb.endFlight f.seq) (s.trimCut f m r tau).2.1

theorem State.trimRow_cuts {f : Flight} {m : TrimOp} {x : Track} {tau : Nat} (hu : s.up .comb = true) (hf : s.flightOf f.seq = some f)
    (hp : f.phase = .judging) (ho : f.op = .trim m) (hm : s.mustWait f = false)
    (hl : (s.comb.flight.filter fun g => g.phase = .judging && (g.seq = f.seq || seqBefore g.seq f.seq)) = [f])
    (hx : s.comb.trackOf m.owner m.tag = some x) (ht : trimProgress f.pars m x (Creq.of x.req) = some tau)
    (hc : (s.trimCut f m (Creq.of x.req) tau).2.2 = none) :
    (s.trimRow f.seq).comb.entries = (s.trimCut f m (Creq.of x.req) tau).1.entries ∧ (s.trimRow f.seq).flightOf f.seq = none := by
  have e1 : s.trimRow f.seq = (s.runTrim m f).noteLater f.seq s.comb.entries := by
    unfold State.trimRow
    rw [hf]
    dsimp only
    rw [ho]
    dsimp only
    rw [if_pos (by simp [hp, hu])]
    unfold State.settle
    rw [hl, List.foldl_cons, List.foldl_nil, hf]
    dsimp only
    unfold State.tryFlight State.runFlight
    rw [hm, ho]
    rfl
  have e2 : s.runTrim m f = (s.trimStands f m (Creq.of x.req) tau).pruneTracks.combSettled := by
    have hx' : ({ s with comb := s.comb.endFlight f.seq } : State).comb.trackOf m.owner m.tag = some x := hx
    unfold State.runTrim
    dsimp only
    rw [hx']
    dsimp only
    rw [ht]
    dsimp only
    refine (if_neg fun h => ?_).trans rfl
    have h' : (s.trimCut f m (Creq.of x.req) tau).2.2.isSome = true := h
    rw [hc] at h'
    cases h'
  have hz := State.sendShorten_still ({ s with comb := { (s.trimCut f m (Creq.of x.req) tau).1 with
    tracks := s.comb.tracks.map fun y => if y.owner = m.owner && y.tag = m.tag then { y with tau := some tau } else y } } : State)
    (s.comb.endFlight f.seq) (s.trimCut f m (Creq.of x.req) tau).2.1
  obtain ⟨fl, e3, hfl⟩ := (s.runTrim m f).noteLater_eq f.seq s.comb.entries
  have hs := (s.trimStands f m (Creq.of x.req) tau).pruneTracks.combSettled_still
  rw [e1, e3]
  rw [e2] at hfl ⊢
  refine ⟨hs.entries.trans hz.entries, State.flightOf_none (s := s) (hfl.trans ?_)⟩
  rw [hs.flight]
  exact congrArg (List.map Flight.seq) (hz.flight.trans (Comb.cutBy_flight ..))

/-! ### The stores -/

theorem State.sweep_reclaims (s : State) (b : Nat) :
    (s.sweep b).comb.entries = (s.comb.entries.filter fun e => e.bucket ≠ b || e.live (s.comb.reapAt s.ct)) ∧
      (s.sweep b).comb.blocked = (s.comb.blocked.filter fun x => x.bucket ≠ b || x.holds (s.comb.reapAt s.ct)) := by
  obtain ⟨n, l, e⟩ := ({ s with comb := s.comb.reclaim s.ct b } : State).pruneTracks.combSettled_eq
  unfold State.sweep
  rw [e]
  exact ⟨rfl, rfl⟩

theorem State.logEv_comb (s : State) (ev : Ev) (p : Bytes) : (s.logEv ev p).comb = s.comb := by rw [s.logEv_eq]

theorem State.blockSlot_blocks {b slot : Nat} (h1 : b < s.buckets) (h2 : slot < 32) (h3 : s.up .comb = true) :
    (s.blockSlot b slot).comb.blocked = (s.comb.blocked.filter fun x => !(x.bucket = b && x.slot = slot)) ++
        [⟨b, slot, s.ct, s.comb.openIn.vote.contains b⟩] ∧
      (s.blockSlot b slot).comb.entries = s.comb.entries.filter fun e => !(e.bucket = b && e.slot = slot) := by
  let y : State := { s with comb := { s.comb with
    entries := s.comb.entries.filter fun e => !(e.bucket = b && e.slot = slot)
    blocked := (s.comb.blocked.filter fun x => !(x.bucket = b && x.slot = slot)) ++ [⟨b, slot, s.ct, s.comb.openIn.vote.contains b⟩] } }
  have e : s.blockSlot b slot = (y.pruneTracks.combSettled).logEv .combBlocked (leBytes 4 b) := by
    unfold State.blockSlot
    rw [if_pos (by simp [h1, h2, h3])]
  obtain ⟨n, l, es⟩ := y.pruneTracks.combSettled_eq
  rw [e, State.logEv_comb, es]
  exact ⟨rfl, rfl⟩

/-- A settled Comb: its open flags follow its entries. -/
theorem State.combSettled_comb (s : State) (c : Comb) :
    ({ s with comb := c } : State).combSettled.comb =
        { c with openIn := Triple.of c.openBuckets, nearFull := ({ s with comb := c } : State).combSettled.comb.nearFull } ∧
      Only [Part.comb, Part.log] s ({ s with comb := c } : State).combSettled := by
  obtain ⟨n, l, e⟩ := ({ s with comb := c } : State).combSettled_eq
  rw [e]
  refine ⟨rfl, ?_⟩
  intro p hp
  cases p <;> first | rfl | exact ⟨rfl, rfl⟩ | exact absurd (by decide) hp

theorem State.retireDone_retires {g : Nat} (h1 : s.comb.retiring.contains g = true) (h2 : ∀ e ∈ s.comb.entries, e.bucket / 64 = g → e.live s.ct = false) :
    (s.retireDone g).comb.retired = s.comb.retired ++ [g] ∧ (s.retireDone g).comb.retiring = s.comb.retiring.filter (· ≠ g) ∧
      (s.retireDone g).comb.entries = (s.comb.entries.filter fun e => e.bucket / 64 ≠ g) ∧
      (s.retireDone g).comb.blocked = s.comb.blocked.filter fun b => b.bucket / 64 ≠ g := by
  have h0 : (s.comb.entries.any fun e => decide (e.bucket / 64 = g) && e.live s.ct) = false := by
    rw [List.any_eq_false]
    intro e he
    by_cases hb : e.bucket / 64 = g
    · simp [h2 e he hb]
    · simp [hb]
  let y : State := { s with comb := { s.comb with
    retiring := s.comb.retiring.filter (· ≠ g), retired := s.comb.retired ++ [g]
    entries := s.comb.entries.filter (fun e => e.bucket / 64 ≠ g), blocked := s.comb.blocked.filter (fun b => b.bucket / 64 ≠ g) } }
  have e : s.retireDone g = (y.logEv .combRetire (leBytes 4 y.combCap)).combSettled := by
    unfold State.retireDone
    dsimp only
    rw [if_pos (by rw [h1, h0]; rfl)]
  obtain ⟨n, l, es⟩ := (y.logEv .combRetire (leBytes 4 y.combCap)).combSettled_eq
  rw [e, es]
  simp only [State.logEv_comb]
  exact ⟨rfl, rfl, rfl, rfl⟩

theorem State.epochAge_logs {n : Nat} (h1 : s.ctime = some n) (h2 : 0xF000000000 ≤ n) (h3 : ∀ d, s.comb.ageAt = some d → d + 86400 * sec ≤ s.now) :
    s.epochAge = ({ s with comb := { s.comb with ageAt := some s.now } } : State).logEv .combEpochAge [] := by
  unfold State.epochAge
  rw [h1]
  dsimp only
  cases ha : s.comb.ageAt with
  | none => rw [if_pos (by simpa using h2)]
  | some d => rw [if_pos (by simpa using ⟨h2, h3 d ha⟩)]

/-! ### An operation that finds the Comb empty of operations -/

/-- An operation as the Comb accepts it. -/
def State.acceptedOp (s : State) (op : FlightOp) : Flight :=
  ⟨nextSeq s.comb.seqLast, s.ct, op, false, .judging, s.parsOf op.owner, s.frozenNow, [], []⟩

/-- The state that has accepted it. -/
def State.accepting (s : State) (op : FlightOp) : State := (s.acceptOp op false).1

theorem State.accepting_eq (s : State) (op : FlightOp) : ∃ h : Health, s.accepting op = { s with
    comb := { s.comb with seqLast := nextSeq s.comb.seqLast, flight := s.comb.flight ++ [s.acceptedOp op] }, health := h } := by
  exact ⟨_, State.count_eq _ 0x06 0 1⟩

/-- An operation alone in flight waits for none. -/
theorem State.mustWait_alone {f : Flight} (h1 : s.comb.flight = [f]) (h2 : s.comb.prepared = []) : s.mustWait f = false := by
  have hb : s.comb.flight.filter (fun e => seqBefore e.seq f.seq) = [] := by
    rw [h1]
    simp [seqBefore]
  unfold State.mustWait State.tight
  simp only [hb, h2]
  simp

/-- An operation that is accepted while none is in flight is carried out at once. -/
theorem State.internalOp_alone (h1 : s.comb.flight = []) (h2 : s.comb.prepared = []) (op : FlightOp) :
    s.internalOp op = ((s.accepting op).runFlight (s.acceptedOp op)).noteLater (s.acceptedOp op).seq s.comb.entries := by
  obtain ⟨h, e⟩ := s.accepting_eq op
  have hfl : (s.accepting op).comb.flight = [s.acceptedOp op] := by rw [e, h1]; rfl
  have hpr : (s.accepting op).comb.prepared = [] := by rw [e]; exact h2
  have hen : (s.accepting op).comb.entries = s.comb.entries := by rw [e]
  have hm := State.mustWait_alone hfl hpr
  show (s.accepting op).settle (s.acceptedOp op).seq = _
  unfold State.settle
  rw [hfl]
  simp only [List.filter_cons, List.filter_nil]
  rw [if_pos (by simp [State.acceptedOp]), List.foldl_cons, List.foldl_nil]
  unfold State.flightOf
  rw [hfl]
  simp only [List.find?_cons, decide_true]
  unfold State.tryFlight
  rw [hm, hen]
  rfl

/-! ### The site commit (R190, R191) -/

/-- Values stored as they stand change none. -/
theorem setVals_same (l : List (Nat × Nat × Bytes)) (s x : State) (h : ∀ v ∈ l, v.2.2 = s.val v.1) (hx : ∀ k, x.val k = s.val k) :
    ∀ k, (l.foldl (fun (s : State) v => s.setVal v.1 v.2.2) x).val k = s.val k := by
  induction l generalizing x with
  | nil => exact hx
  | cons v l ih =>
    refine ih _ (fun w hw => h w (List.mem_cons_of_mem _ hw)) fun k => ?_
    by_cases hk : k = v.1
    · rw [hk, State.val_setVal]
      exact h v List.mem_cons_self
    · rw [State.val_setVal_ne hk]
      exact hx k

theorem State.applyVals_shadow (s : State) {c : Nat} (h : c ∈ commitIndices) :
    (∀ m ∈ memberKeys c, (s.applyVals c (s.shadowVals c)).val m.2 = s.val m.1) ∧
      ∀ k, k ∉ (memberKeys c).map Prod.snd → (s.applyVals c (s.shadowVals c)).val k = s.val k := by
  have hv : ∀ k, ((s.shadowVals c).foldl (fun (s : State) v => s.setVal v.1 v.2.2) s).val k = s.val k := by
    refine setVals_same _ s s (fun v hv => ?_) fun _ => rfl
    obtain ⟨m, -, hm⟩ := List.mem_filterMap.mp hv
    split at hm
    · cases hm
    · cases hm
      rfl
  obtain ⟨k1, k2⟩ := State.applyGroup_vals ((s.shadowVals c).foldl (fun (s : State) v => s.setVal v.1 v.2.2) s) h
  exact ⟨fun m hm => (k1 m hm).trans (hv _), fun k hk => (k2 k hk).trans (hv k)⟩

theorem State.setVal_comb (s : State) (k : Nat) (v : Bytes) : (s.setVal k v).comb = s.comb := rfl

theorem setVals_comb (l : List (Nat × Nat × Bytes)) (x : State) : (l.foldl (fun (s : State) v => s.setVal v.1 v.2.2) x).comb = x.comb := by
  induction l generalizing x with
  | nil => rfl
  | cons v l ih => exact ih _

theorem State.applyVals_comb (s : State) (c : Nat) (vals : GroupVals) : (s.applyVals c vals).comb = s.comb :=
  ((State.applyGroup_same (pt := .comb) (by decide) (by decide) _ _ c).mpr rfl : _ = _).trans (setVals_comb vals s)

/-- SiteFrameDigest covers the active frame alone. -/
theorem State.siteDigest_setVal (s : State) {k : Nat} (v : Bytes) (h : k = key 0x4007 0 ∨ k = key 0x4008 1 ∨ k = key 0x4008 2 ∨ k = key 0x4008 3 ∨
    k = key 0x4009 0) : (s.setVal k v).siteDigest = s.siteDigest := by
  have hne : ∀ j ∈ [key 0x4004 1, key 0x4004 2, key 0x4004 3, key 0x4005 0, key 0x4006 0], j ≠ k := by
    rcases h with rfl | rfl | rfl | rfl | rfl <;> decide
  unfold State.siteDigest State.cfgB
  rw [State.val_setVal_ne (hne _ (by simp)), State.val_setVal_ne (hne _ (by simp)), State.val_setVal_ne (hne _ (by simp)),
    State.val_setVal_ne (hne _ (by simp)), State.val_setVal_ne (hne _ (by simp))]

/-- The values of the site beside its group. -/
def siteKeys : List Nat := [key 0x4007 0, key 0x4008 1, key 0x4008 2, key 0x4008 3, key 0x4009 0]

theorem siteKeys_own : ∀ m ∈ memberKeys 0x4000, m.2 ∉ siteKeys := by decide

/-- The frame's values become active, and the values of the site beside its group are stored. -/
def State.siteStored (g : State) : State :=
  let z := g.setVal (key 0x4007 0) [1]
  let o := geodetic z.siteOrigin.1 z.siteOrigin.2.1 z.siteOrigin.2.2
  let y := ((z.setVal (key 0x4008 1) (leBytes 8 o.1.bits64)).setVal (key 0x4008 2) (leBytes 8 o.2.1.bits64)).setVal (key 0x4008 3)
    (leBytes 8 o.2.2.bits64)
  y.setVal (key 0x4009 0) y.siteDigest

theorem State.siteStored_val (g : State) {k : Nat} (h : k ∉ siteKeys) : g.siteStored.val k = g.val k := by
  simp only [siteKeys, List.mem_cons, List.not_mem_nil, or_false, not_or] at h
  obtain ⟨h1, h2, h3, h4, h5⟩ := h
  unfold State.siteStored
  extract_lets z o y
  rw [State.val_setVal_ne h5, State.val_setVal_ne h4, State.val_setVal_ne h3, State.val_setVal_ne h2, State.val_setVal_ne h1]

theorem State.siteStored_state (g : State) : g.siteStored.val (key 0x4007 0) = [1] := by
  unfold State.siteStored
  extract_lets z o y
  rw [State.val_setVal_ne (by decide), State.val_setVal_ne (by decide), State.val_setVal_ne (by decide), State.val_setVal_ne (by decide),
    State.val_setVal]

theorem State.siteStored_digest (g : State) : g.siteStored.val (key 0x4009 0) = g.siteStored.siteDigest := by
  unfold State.siteStored
  extract_lets z o y
  rw [State.val_setVal, State.siteDigest_setVal y _ (by simp)]

theorem State.siteStored_comb (g : State) : g.siteStored.comb = g.comb := by
  unfold State.siteStored
  extract_lets z o y
  rw [State.setVal_comb, State.setVal_comb, State.setVal_comb, State.setVal_comb, State.setVal_comb]

/-- The Comb emptied for a new frame. -/
def State.combEmptied (s : State) (seq : Nat) : State :=
  { s with comb := { s.comb.endFlight seq with
    entries := [], tracks := [], prepared := [], emptied := true, nbrs := s.comb.nbrs.map fun x => { x with emptied := true } } }

/-- The end of a site commit: the Comb is settled, the event logged and the caller answered. -/
def State.siteEnds (z : State) (w : Caller) : State := ((z.combSettled).logEv .siteFrame z.siteDigest).answer w (Ans.done [])

theorem State.siteEnds_val (z : State) (w : Caller) (k : Nat) : (z.siteEnds w).val k = z.val k := by
  obtain ⟨b, l, hb⟩ := z.combSettled_eq
  have h1 : ((z.combSettled).logEv .siteFrame z.siteDigest).settings = z.settings := by rw [State.logEv_settings, hb]
  have h2 : ((z.combSettled).logEv .siteFrame z.siteDigest).fabric = z.fabric := by rw [State.logEv_fabric, hb]
  refine State.val_congr ?_ ?_ k
  · exact ((State.answer_same (pt := .settings) (by decide) (by decide) _ _ w _).mpr rfl : _ = _).trans h1
  · exact ((State.answer_same (pt := .fabric) (by decide) (by decide) _ _ w _).mpr rfl : _ = _).trans (congrArg Fabric.core h2)

theorem State.siteEnds_comb (z : State) (w : Caller) : ∃ b, (z.siteEnds w).comb = { z.comb with openIn := Triple.of z.comb.openBuckets, nearFull := b } := by
  obtain ⟨b, l, hb⟩ := z.combSettled_eq
  refine ⟨b, ?_⟩
  have h : ((z.combSettled).logEv .siteFrame z.siteDigest).comb = _ := (State.logEv_comb _ _ _).trans (congrArg State.comb hb)
  exact ((State.answer_same (pt := .comb) (by decide) (by decide) _ _ w _).mpr rfl : _ = _).trans h

theorem State.runSite_eq (s : State) (w : Caller) (vals : GroupVals) (seq : Nat) :
    s.runSite w vals seq = ((((s.combEmptied seq).applyVals 0x4000 vals).siteStored).siteEnds w) := rfl

theorem State.siteDigest_congr {x y : State} (h : ∀ k, x.val k = y.val k) : x.siteDigest = y.siteDigest := by
  unfold State.siteDigest State.cfgB
  simp only [h]

theorem State.shadowVals_congr {x y : State} (h : ∀ k, x.val k = y.val k) {c : Nat} (hc : c ∈ commitIndices) : x.shadowVals c = y.shadowVals c := by
  unfold State.shadowVals
  rw [State.groupKeys_device _ hc, State.groupKeys_device _ hc]
  simp only [h]

theorem State.combEmptied_val (s : State) (seq k : Nat) : (s.combEmptied seq).val k = s.val k := rfl

/-- The site commit empties the Comb, and its values become active. -/
theorem State.runSite_effect {x : State} (hv : ∀ k, x.val k = s.val k) (w : Caller) (seq : Nat) :
    let u := x.runSite w (s.shadowVals 0x4000) seq
    u.comb.entries = [] ∧ u.comb.tracks = [] ∧ u.comb.emptied = true ∧ u.siteState = 1 ∧
      (∀ m ∈ memberKeys 0x4000, u.val m.2 = s.val m.1) ∧ u.cfgB 0x4009 0 = u.siteDigest := by
  rw [State.runSite_eq, ← State.shadowVals_congr hv (by decide)]
  have hgv := (State.applyVals_shadow (x.combEmptied seq) (c := 0x4000) (by decide)).1
  rw [State.shadowVals_congr (x.combEmptied_val seq) (by decide)] at hgv
  have hgc := State.applyVals_comb (x.combEmptied seq) 0x4000 (x.shadowVals 0x4000)
  generalize (x.combEmptied seq).applyVals 0x4000 (x.shadowVals 0x4000) = g at *
  obtain ⟨b, hc⟩ := g.siteStored.siteEnds_comb w
  rw [g.siteStored_comb, hgc] at hc
  have hval := g.siteStored.siteEnds_val w
  refine ⟨by rw [hc]; rfl, by rw [hc]; rfl, by rw [hc]; rfl, ?_, fun m hm => ?_, ?_⟩
  · unfold State.siteState State.cfg
    rw [hval, g.siteStored_state]
    decide
  · rw [hval, g.siteStored_val (siteKeys_own m hm), hgv m hm]
    exact hv m.1
  · unfold State.cfgB
    rw [State.siteDigest_congr hval, hval, g.siteStored_digest]

theorem State.run_siteCommit {w : Caller} (hw : (s.advance t).writes w 0x4000 0 [1] = true) (hg : (s.advance t).groupCheck 0x4000 = none)
    (hf : (s.advance t).comb.flight = []) (hp : (s.advance t).comb.prepared = []) :
    let u := s.run t fun s => s.writeBy w 0x4000 0 [1]
    u.comb.entries = [] ∧ u.comb.tracks = [] ∧ u.comb.emptied = true ∧ u.siteState = 1 ∧
      (∀ m ∈ memberKeys 0x4000, u.val m.2 = (s.advance t).val m.1) ∧ u.cfgB 0x4009 0 = u.siteDigest := by
  obtain ⟨d, -, h1, -⟩ := State.run_commit hw (.inl (by decide)) fun _ => commit_kind (by decide)
  generalize s.advance t = a at *
  let b := a.withDict d
  have e : (b.commitGroup 0x4000 w).1 = b.internalOp (.site w (b.shadowVals 0x4000)) := by
    unfold State.commitGroup
    rw [show b.groupCheck 0x4000 = none from (State.groupCheck_dict a d _).trans hg]
    rfl
  rw [e, State.internalOp_alone (s := b) hf hp] at h1
  obtain ⟨hh, ea⟩ := b.accepting_eq (.site w (b.shadowVals 0x4000))
  obtain ⟨fl, en, -⟩ := ((b.accepting (.site w (b.shadowVals 0x4000))).runFlight (b.acceptedOp (.site w (b.shadowVals 0x4000)))).noteLater_eq
    (b.acceptedOp (.site w (b.shadowVals 0x4000))).seq b.comb.entries
  rw [en] at h1
  have hv : ∀ k, (b.accepting (.site w (b.shadowVals 0x4000))).val k = b.val k := by
    rw [ea]
    exact fun _ => rfl
  have h := State.runSite_effect hv w (b.acceptedOp (.site w (b.shadowVals 0x4000))).seq
  rw [show (b.accepting (.site w (b.shadowVals 0x4000))).runFlight (b.acceptedOp (.site w (b.shadowVals 0x4000)))
    = (b.accepting (.site w (b.shadowVals 0x4000))).runSite w (b.shadowVals 0x4000) (b.acceptedOp (.site w (b.shadowVals 0x4000))).seq from rfl] at h1
  generalize (b.accepting (.site w (b.shadowVals 0x4000))).runSite w (b.shadowVals 0x4000) (b.acceptedOp (.site w (b.shadowVals 0x4000))).seq = z at *
  intro u
  have hc : u.comb = { z.comb with flight := fl } := h1 .comb (by decide)
  have hval (k : Nat) : u.val k = z.val k := State.val_congr (h1 .settings (by decide)) (h1 .fabric (by decide)) k
  obtain ⟨k1, k2, k3, k4, k5, k6⟩ := h
  have hd : u.siteDigest = z.siteDigest := by
    unfold State.siteDigest State.cfgB
    simp only [hval]
  refine ⟨by rw [hc]; exact k1, by rw [hc]; exact k2, by rw [hc]; exact k3, (congrArg leNat (hval _)).trans k4, fun m hm => (hval _).trans (k5 m hm), ?_⟩
  rw [hd]
  exact (hval _).trans k6

/-! ### The obligation -/

theorem clearBlocked_kind : ∀ r ∈ objTable, r.has 0x4035 0 = true → r.kind = 2 := by decide +kernel

theorem State.run_clearBlocked {w : Caller} (hw : (s.advance t).writes w 0x4035 0 [1] = true) (h : (s.advance t).stoppedAll = true) :
    let u := s.run t fun s => s.writeBy w 0x4035 0 [1]
    u.comb = { (s.advance t).comb with
        blocked := [], openIn := Triple.of ({ (s.advance t).comb with blocked := [] } : Comb).openBuckets, nearFull := u.comb.nearFull } ∧
      Only (told ++ [Part.comb, Part.log]) (s.advance t) u := by
  obtain ⟨d, -, h1, h2⟩ := State.run_command hw (.inl (by decide)) fun r => kind_of clearBlocked_kind
  generalize s.advance t = a at *
  have e : ((a.withDict d).command w 0x4035 0 [1]).1
      = ({ a.withDict d with comb := { a.comb with blocked := [] } } : State).combSettled := by
    show ((a.withDict d).clearBlocked).1 = _
    unfold State.clearBlocked
    rw [if_pos (show (a.withDict d).stoppedAll = true from h)]
    rfl
  rw [e] at h1 h2
  obtain ⟨k1, k2⟩ := State.combSettled_comb (a.withDict d) { a.comb with blocked := [] }
  intro u
  have hc : u.comb = _ := h1 .comb (by decide)
  refine ⟨?_, h2 _ (by decide) ((Only.withDict a d (by decide)).trans (Only.mono k2 (by decide)))⟩
  rw [hc]
  exact k1

theorem State.run_clearBlocked_refused {w : Caller} (hw : (s.advance t).writes w 0x4035 0 [1] = true) (h : (s.advance t).stoppedAll = false) :
    Only told (s.advance t) (s.run t fun s => s.writeBy w 0x4035 0 [1]) := by
  obtain ⟨d, -, -, h2⟩ := State.run_command hw (.inl (by decide)) fun r => kind_of clearBlocked_kind
  generalize s.advance t = a at *
  have e : ((a.withDict d).command w 0x4035 0 [1]).1 = a.withDict d := by
    show ((a.withDict d).clearBlocked).1 = _
    unfold State.clearBlocked
    rw [if_neg (by rw [show (a.withDict d).stoppedAll = false from h]; decide)]
  rw [e] at h2
  exact h2 _ (by decide) (Only.withDict a d (by decide))

theorem State.epochAge_effect {n : Nat} (h1 : s.ctime = some n) (h2 : 0xF000000000 ≤ n)
    (h3 : ∀ d, s.comb.ageAt = some d → d + 86400 * sec ≤ s.now) :
    s.epochAge.comb = { s.comb with ageAt := some s.now } ∧ s.epochAge.log = (s.logEv .combEpochAge []).log ∧ Only [Part.comb, Part.log] s s.epochAge := by
  rw [State.epochAge_logs h1 h2 h3]
  refine ⟨State.logEv_comb _ _ _, State.logEv_log_congr (x := { s with comb := { s.comb with ageAt := some s.now } }) (y := s) rfl rfl rfl rfl rfl _ _, ?_⟩
  refine Only.step (x := { s with comb := { s.comb with ageAt := some s.now } }) ?_ fun p hp => State.logEv_same (Part.ne_of_notMem hp (by decide)) ..
  exact (Only.refl _ s).step fun p hp => same_comb (Part.ne_of_notMem hp (by decide)) ..

theorem State.run_epochAge {a : State} (ha : s.advance t = a) {n : Nat} (h1 : a.ctime = some n) (h2 : 0xF000000000 ≤ n)
    (h3 : ∀ d, a.comb.ageAt = some d → d + 86400 * sec ≤ a.now) :
    let u := s.run t fun s => s.epochAge
    u.comb = { a.comb with ageAt := some a.now } ∧ u.log = (a.logEv .combEpochAge []).log ∧ Only (told ++ [Part.comb, Part.log]) a u := by
  subst ha
  obtain ⟨k1, k2, k3⟩ := State.epochAge_effect h1 h2 h3
  exact ⟨(State.run_comb ..).trans k1, (State.run_log ..).trans k2, Only.run (by decide) (Only.mono k3 (by decide))⟩

theorem State.run_combSettled {a : State} (ha : s.advance t = a) {c : Comb} {body : State → State}
    (hb : body a = ({ a with comb := c } : State).combSettled) :
    let u := s.run t body
    u.comb = { c with openIn := Triple.of c.openBuckets, nearFull := u.comb.nearFull } ∧ Only (told ++ [Part.comb, Part.log]) a u := by
  subst ha
  obtain ⟨k1, k2⟩ := (s.advance t).combSettled_comb c
  refine ⟨?_, Only.run (by decide) (hb ▸ Only.mono k2 (by decide))⟩
  rw [State.run_comb, hb]
  exact k1

theorem State.run_combAccept {a : State} (ha : s.advance t = a) {q : Nat} {x : CombReq} {rest : List CombReq} (hu : a.up .comb = true) (hq : q < 8)
    (h0 : ∀ p, p < q → a.comb.intake.getD p [] = []) (h1 : a.comb.intake.getD q [] = x :: rest) :
    let v := s.run t fun s => if s.up .comb then s.acceptNext else s
    v.comb.flight = a.comb.flight ++ [⟨nextSeq a.comb.seqLast, a.ct, .request x, decide (a.inFlight < a.flightLimit), .judging,
        a.parsOf (FlightOp.request x).owner, a.frozenNow, [], []⟩] ∧
      v.comb.seqLast = nextSeq a.comb.seqLast ∧
      v.comb.intake = (({ a.comb with intake := modNth a.comb.intake q fun _ => rest } : Comb).refill q).intake ∧
      v.comb.entries = a.comb.entries ∧ Only (told ++ [Part.comb, Part.health]) a v := by
  subst ha
  obtain ⟨k1, k2, k3, k4, k5⟩ := State.acceptNext_takes hq h0 h1
  have hb : (if (s.advance t).up .comb then (s.advance t).acceptNext else s.advance t) = (s.advance t).acceptNext := if_pos hu
  have hc : (s.run t fun s => if s.up .comb then s.acceptNext else s).comb = ((s.advance t).acceptNext).comb :=
    (State.run_comb ..).trans (congrArg State.comb hb)
  have ho : Only (told ++ [Part.comb, Part.health]) (s.advance t) (if (s.advance t).up .comb then (s.advance t).acceptNext else s.advance t) := by
    rw [hb]
    exact Only.mono k5 (by decide)
  intro v
  simp only [v, hc]
  exact ⟨k1, k2, k3, k4, Only.run (by decide) ho⟩

/-- Settles O21: the Comb's stores move as their rules say, and a site commit that finds it idle empties it. -/
theorem combStorage : Obligations.CombStorage := by
  unfold Obligations.CombStorage
  refine ⟨?_, ?_, ?_, ?_, ?_, ?_, ?_, ?_, ?_, ?_, ?_, ?_, ?_⟩
  · intro s t w req a q hw hi
    exact ⟨_, rfl, State.run_combIntake_taken hw hi⟩
  · intro s t w req o a hw hi
    exact ⟨_, rfl, State.run_combIntake_refused hw hi⟩
  · intro s t q x rest a hu hq h0 h1
    exact ⟨_, rfl, State.run_combAccept (a := a) rfl hu hq h0 h1⟩
  · intro s t f r a q j w hu hf hp ho hm h1 hj hn
    have ha : s.advance t = a := rfl
    clear_value a
    obtain ⟨v, e⟩ := State.runReq_granted h1 hj hn
    have hb : a.resume f.seq = _ := (State.resume_judged hu hf hp ho hm).trans (congrArg (fun x => State.noteLater x f.seq a.comb.entries) e)
    obtain ⟨c1, c2, c3⟩ := (a.granted f r).commits_effect q r.req f (a.mirrorNow f r)
    obtain ⟨k1, k2, k3, -⟩ := State.run_body_ended (body := fun s => s.resume f.seq) ha hb ((State.writeEntries_talks _ _ _).trans c3)
    rw [← k2] at c2
    exact ⟨_, rfl, k1.trans c1, c2, k3⟩
  · intro s t f m x tau a r here ahead y hu hf hp ho hm hl hx ht hc
    have ha : s.advance t = a := rfl
    clear_value a
    obtain ⟨k1, k2⟩ := State.trimRow_cuts hu hf hp ho hm hl hx ht hc
    subst ha
    have hcb : (s.run t fun s => s.trimRow f.seq).comb = ((s.advance t).trimRow f.seq).comb := State.run_comb ..
    refine ⟨_, rfl, (congrArg Comb.entries hcb).trans k1, ?_⟩
    unfold State.flightOf at k2 ⊢
    rw [hcb]
    exact k2
  · intro s t b a
    obtain ⟨k1, k2⟩ := (s.advance t).sweep_reclaims b
    have hc : (s.run t fun s => s.sweep b).comb = ((s.advance t).sweep b).comb := State.run_comb ..
    exact ⟨_, rfl, (congrArg Comb.entries hc).trans k1, (congrArg Comb.blocked hc).trans k2⟩
  · intro s t b slot a h1 h2 h3
    obtain ⟨k1, k2⟩ := State.blockSlot_blocks (s := s.advance t) h1 h2 h3
    have hc : (s.run t fun s => s.blockSlot b slot).comb = ((s.advance t).blockSlot b slot).comb := State.run_comb ..
    exact ⟨_, rfl, (congrArg Comb.blocked hc).trans k1, (congrArg Comb.entries hc).trans k2⟩
  · intro s t b slot a c
    exact ⟨_, rfl, State.run_combSettled (a := a) rfl rfl⟩
  · intro s t w a c hw h
    exact ⟨_, rfl, State.run_clearBlocked hw h⟩
  · intro s t w a hw h
    exact ⟨_, rfl, State.run_clearBlocked_refused hw h⟩
  · intro s t g a h1 h2
    obtain ⟨k1, k2, k3, k4⟩ := State.retireDone_retires (s := s.advance t) h1 h2
    have hc : (s.run t fun s => s.retireDone g).comb = ((s.advance t).retireDone g).comb := State.run_comb ..
    refine ⟨_, rfl, ?_⟩
    dsimp only
    rw [hc]
    exact ⟨k1, k2, k3, k4⟩
  · intro s t c a h1 h2 h3
    exact ⟨_, rfl, State.run_epochAge (a := a) rfl h1 h2 h3⟩
  · intro s t w a hw hg hu hf hp
    exact ⟨_, rfl, State.run_siteCommit hw hg hf hp⟩

end Sys2Proof.Machine
end

section
set_option Elab.async false
/-!
PROOF. Chapter 6: the messages between region neighbours that are not PREPAREs, their heartbeats, losses and sessions (R283, R288, R293, R298,
R299, R301, R306, R308, R542).
-/

namespace Sys2Proof.Machine

variable {s x : State} {t n k : Nat} {w : Caller} {msg : Bytes}

/-! ### Neighbours -/

theorem State.nbr_setNbr (h : s.comb.nbrs.length = 12) (hn : n < 12) (f : Neighbour → Neighbour) : (s.setNbr n f).nbr n = f (s.nbr n) :=
  modNth_getD f _ (h ▸ hn)

theorem State.nbr_setNbr_ne (h : k ≠ n) (f : Neighbour → Neighbour) : (s.setNbr n f).nbr k = s.nbr k := modNth_getD_ne f _ h

theorem State.setNbr_sized (n : Nat) (f : Neighbour → Neighbour) : (s.setNbr n f).comb.nbrs.length = s.comb.nbrs.length := modNth_length _ _ _

theorem State.nbr_of_nbrs (h : x.comb.nbrs = s.comb.nbrs) (k : Nat) : x.nbr k = s.nbr k := by
  unfold State.nbr
  rw [h]

theorem State.sized_nbrs (h : s.sized) : (s.advance t).comb.nbrs.length = 12 :=
  (congrArg (fun c : Comb => c.nbrs.length) ((State.advance_same (pt := .comb) (by decide) (by decide) (by decide) (by decide) s s t).mpr rfl : _ = _)).trans
    h.2.2.2.2.1

theorem foldl_comb {α : Type} {g : State → α → State} (h : ∀ (x : State) b, (g x b).comb = x.comb) (l : List α) (s : State) : (l.foldl g s).comb = s.comb := by
  induction l generalizing s with
  | nil => rfl
  | cons b l ih => exact (ih _).trans (h s b)

theorem State.msgAnswer_comb (s : State) (r : CombReq) (owner tag seq : Nat) (v : Verdict) : (s.msgAnswer r owner tag seq v).comb = s.comb :=
  (State.msgAnswer_same (pt := .comb) (by decide) (by decide) (by decide) (by decide) s s r owner tag seq v).mpr rfl

/-- A SYNC that is sent marks its neighbour asked, and no more. -/
theorem State.sendSync_comb (s : State) (n : Nat) :
    (s.sendSync n).comb = s.comb ∨ (s.sendSync n).comb = (s.setNbr n fun x => { x with asked := true }).comb := by
  unfold State.sendSync
  split
  · exact .inl rfl
  · exact .inr (foldl_comb (fun x m => x.toNbr_comb n 0x4050 m) _ _)

/-- Whether neighbour n is to become live. -/
def Neighbour.ready (y : Neighbour) : Bool := (y.st = .syncing || y.st = .radioOnly) && y.theirs && y.ours

theorem State.tryLive_comb (s : State) (n : Nat) : (s.tryLive n).comb = if (s.nbr n).ready then
    (s.setNbr n fun y => { y with st := .live, theirs := false, ours := false, asked := false }).comb else s.comb := by
  unfold State.tryLive
  show (if (s.nbr n).ready = true then _ else _ : State).comb = _
  split
  · exact State.logEv_comb _ _ _
  · rfl

/-- What becomes of neighbour n, and that no other moves. -/
theorem State.tryLive_nbr (h : s.comb.nbrs.length = 12) (hn : n < 12) :
    (s.tryLive n).nbr n = (if (s.nbr n).ready then { s.nbr n with st := .live, theirs := false, ours := false, asked := false } else s.nbr n) ∧
      (∀ k, k ≠ n → (s.tryLive n).nbr k = s.nbr k) ∧ (s.tryLive n).comb.entries = s.comb.entries ∧ (s.tryLive n).comb.flight = s.comb.flight := by
  have e := s.tryLive_comb n
  by_cases hr : (s.nbr n).ready = true
  · rw [if_pos hr] at e ⊢
    refine ⟨(State.nbr_of_nbrs (congrArg Comb.nbrs e) n).trans (State.nbr_setNbr h hn _), fun k hk => ?_, by rw [e]; rfl, by rw [e]; rfl⟩
    exact (State.nbr_of_nbrs (congrArg Comb.nbrs e) k).trans (State.nbr_setNbr_ne hk _)
  · rw [if_neg hr] at e ⊢
    exact ⟨State.nbr_of_nbrs (congrArg Comb.nbrs e) n, fun k _ => State.nbr_of_nbrs (congrArg Comb.nbrs e) k, by rw [e], by rw [e]⟩

/-! ### A region message arrives -/

theorem State.nbrOfCaller_dict {d : Dict} (h : d.Alike s.dict) (c : Caller) : (s.withDict d).nbrOfCaller c = s.nbrOfCaller c := by
  cases c with
  | coil i r =>
    have hf := h.field i (fun x => (x.nbr, x.slot)) fun _ => rfl
    unfold State.nbrOfCaller
    dsimp only
    rw [show (s.withDict d).dict = d from rfl]
    cases h1 : Tbl.get? d.sessions i with
    | none =>
      rw [h1] at hf
      cases h2 : Tbl.get? s.dict.sessions i with
      | none => rfl
      | some y => rw [h2] at hf; cases hf
    | some z =>
      rw [h1] at hf
      cases h2 : Tbl.get? s.dict.sessions i with
      | none => rw [h2] at hf; cases hf
      | some y =>
        rw [h2] at hf
        obtain ⟨e1, e2⟩ := Prod.mk.inj (Option.some.inj hf)
        dsimp only at e1 e2 ⊢
        rw [e1, e2]
        rfl
  | usdo p m => rfl
  | applet p m => rfl
  | firmware => rfl

theorem State.nbrOfCaller_lt {c : Caller} (h : s.nbrOfCaller c = some n) : n < 12 := by
  unfold State.nbrOfCaller at h
  split at h
  · split at h
    · split at h
      · cases h
      · exact List.mem_range.mp (List.mem_of_find?_eq_some h)
    · cases h
  · cases h
  · cases h
  · cases h

theorem State.hears_lt {type : Nat} (h : s.hears w msg n type = true) : n < 12 := by
  unfold State.hears at h
  simp only [Bool.and_eq_true, decide_eq_true_eq] at h
  exact State.nbrOfCaller_lt h.1.1.1.1.2

/-- A message heard from a neighbour is a region message of it (R294, R295). -/
theorem State.run_heard {a : State} (ha : s.advance t = a) {type : Nat} (h : a.hears w msg n type = true) :
    ∃ d : Dict, d.Alike a.dict ∧ (s.run t fun s => s.transactBy w 0x4050 msg).comb = ((a.withDict d).regionMsg n ⟨w, msg⟩).comb ∧ u msg 0 1 = type := by
  subst ha
  unfold State.hears at h
  simp only [Bool.and_eq_true, decide_eq_true_eq] at h
  obtain ⟨⟨⟨⟨⟨hw, hc⟩, hi⟩, ho⟩, hm⟩, ht⟩ := h
  obtain ⟨d, hd, h1, -⟩ := State.run_request hw
  refine ⟨d, hd, ?_, ht⟩
  generalize s.advance t = a at *
  have e : (((a.withDict d).portOp w 0x4050 0 msg).1) = (a.withDict d).regionMsg n ⟨w, msg⟩ := by
    show (a.withDict d).neighbourPort w msg = _
    unfold State.neighbourPort
    rw [State.nbrOfCaller_dict hd, hc]
    dsimp only
    have ho' : u msg 2 2 ≠ (a.withDict d).controllerId := ho
    have hi' : u msg 2 2 = (a.withDict d).nbrId n := hi
    simp only [ho', hi'.symm, hm, decide_false, Bool.and_false, Bool.false_eq_true, if_false, ne_eq, not_true, Bool.not_true, Bool.or_false]
  rw [e] at h1
  exact h1 .comb (by decide)

/-- A message of claims, of a neighbour with the same site frame, is an operation of the internal path. -/
theorem State.regionMsg_internal {r : CombReq} {ty : Nat} (ht : u r.req 0 1 = ty) (h5 : ty = 5 ∨ ty = 6) (hm : (s.nbr n).mismatch = false)
    (hf : s.comb.flight = []) (hp : s.comb.prepared = []) : s.regionMsg n r = s.internalOp (.message n r) := by
  have hb : s.internalInFlight = 0 := by
    unfold State.internalInFlight
    rw [hf, hp]
    rfl
  unfold State.regionMsg
  rw [hm, hb, ht]
  obtain rfl | rfl := h5 <;> rfl

/-- What a run of the internal path's operation alone leaves: entries, neighbours, and no operation where it leaves none. -/
theorem State.internalOp_leaves (hf : s.comb.flight = []) (hp : s.comb.prepared = []) (op : FlightOp) : ∃ (h : Health) (f : Flight),
    let y : State := { s with comb := { s.comb with seqLast := f.seq, flight := [f] }, health := h }
    f.op = op ∧ f.tacc = s.ct ∧ ∃ fl, (s.internalOp op).comb = { (y.runFlight f).comb with flight := fl } ∧
      ((y.runFlight f).comb.flight = [] → fl = []) := by
  obtain ⟨h, e⟩ := s.accepting_eq op
  rw [hf] at e
  obtain ⟨fl, e1, e2⟩ := ((s.accepting op).runFlight (s.acceptedOp op)).noteLater_eq (s.acceptedOp op).seq s.comb.entries
  refine ⟨h, s.acceptedOp op, rfl, rfl, fl, ?_, fun hz => ?_⟩
  · rw [State.internalOp_alone hf hp, e1, e]
    rfl
  · rw [e] at e2
    have e3 : fl.map Flight.seq = [] := e2.trans (congrArg (List.map Flight.seq) hz)
    exact List.map_eq_nil_iff.mp e3

theorem State.runFlight_shorten {f : Flight} {r : CombReq} (ho : f.op = .message n r) (ht : u r.req 0 1 = 5) : s.runFlight f = s.runShorten n r f.seq := by
  unfold State.runFlight
  rw [ho]
  dsimp only
  rw [ht]
  rfl

theorem State.runFlight_sync {f : Flight} {r : CombReq} (ho : f.op = .message n r) (ht : u r.req 0 1 = 6) : s.runFlight f = s.runSync n r f := by
  unfold State.runFlight
  rw [ho]
  dsimp only
  rw [ht]
  rfl

theorem Comb.endFlight_alone (c : Comb) (f : Flight) : (({ c with flight := [f] } : Comb).endFlight f.seq) = { c with flight := [] } := by
  unfold Comb.endFlight
  simp

/-! ### SHORTEN (R288) -/

theorem State.run_shorten {a : State} (ha : s.advance t = a) (h : a.hears w msg n 5 = true) (hm : (a.nbr n).mismatch = false)
    (hf : a.comb.flight = []) (hp : a.comb.prepared = []) : let v := s.run t fun s => s.transactBy w 0x4050 msg
    v.comb.entries = (msgMirrors msg).foldl (fun es m => es.flatMap (m.shorten n)) a.comb.entries ∧ v.comb.flight = [] := by
  obtain ⟨d, -, e, ht⟩ := State.run_heard ha h
  rw [State.regionMsg_internal (s := a.withDict d) ht (.inl rfl) hm hf hp] at e
  obtain ⟨hh, f, ho, -, fl, ec, ef⟩ := State.internalOp_leaves (s := a.withDict d) hf hp (.message n ⟨w, msg⟩)
  rw [State.runFlight_shorten ho ht] at ec ef
  have hs (y : State) (hy : y.comb.flight = [f]) : (y.runShorten n ⟨w, msg⟩ f.seq).comb.entries
      = (msgMirrors msg).foldl (fun es m => es.flatMap (m.shorten n)) y.comb.entries ∧ (y.runShorten n ⟨w, msg⟩ f.seq).comb.flight = [] := by
    unfold State.runShorten
    dsimp only
    rw [State.msgAnswer_comb]
    have k := State.combSettled_still ({ y with comb := { (y.comb.endFlight f.seq) with
      entries := (msgMirrors msg).foldl (fun es m => es.flatMap (m.shorten n)) y.comb.entries } } : State)
    refine ⟨k.entries, k.flight.trans ?_⟩
    show y.comb.flight.filter _ = []
    rw [hy]
    simp
  obtain ⟨k1, k2⟩ := hs { a.withDict d with comb := { a.comb with seqLast := f.seq, flight := [f] }, health := hh } rfl
  intro v
  have hv : v.comb = _ := e.trans ec
  rw [hv]
  exact ⟨k1, ef k2⟩

/-! ### SYNC (R306 to R308) -/

theorem Comb.place_seq (c : Comb) (n now q : Nat) (e : Entry) :
    ({ c with seqLast := q } : Comb).place n now e = (c.place n now e).map fun x => { x with seqLast := q } := by
  unfold Comb.place
  rw [show ({ c with seqLast := q } : Comb).pickBucket n now e.q e.r = c.pickBucket n now e.q e.r from rfl]
  cases c.pickBucket n now e.q e.r with
  | none => rfl
  | some b =>
    dsimp only
    rw [show (({ c with seqLast := q } : Comb).reclaim now b).freeSlot now b = (c.reclaim now b).freeSlot now b from rfl]
    cases (c.reclaim now b).freeSlot now b <;> rfl

theorem Comb.syncAll_seq (n now q : Nat) (l : List Entry) (c : Comb) (clash : Bool) : Comb.syncAll n now { c with seqLast := q } clash l =
    ({ (Comb.syncAll n now c clash l).1 with seqLast := q }, (Comb.syncAll n now c clash l).2) := by
  induction l generalizing c clash with
  | nil => rfl
  | cons e l ih =>
    unfold Comb.syncAll
    rw [Comb.place_seq]
    cases c.place n now e with
    | none => rfl
    | some c' => exact ih c' _

theorem Comb.place_nbrs {c c' : Comb} {n now : Nat} {e : Entry} (h : c.place n now e = some c') : c'.nbrs = c.nbrs := by
  unfold Comb.place at h
  split at h
  · cases h
  · obtain ⟨i, -, rfl⟩ := Option.map_eq_some_iff.mp h
    rfl

theorem Comb.syncAll_keeps (n now : Nat) (l : List Entry) (c : Comb) (clash : Bool) :
    (Comb.syncAll n now c clash l).1.flight = c.flight ∧ (Comb.syncAll n now c clash l).1.nbrs = c.nbrs := by
  induction l generalizing c clash with
  | nil => exact ⟨rfl, rfl⟩
  | cons e l ih =>
    unfold Comb.syncAll
    dsimp only
    cases h : c.place n now e with
    | none => exact ⟨rfl, rfl⟩
    | some c' => exact ⟨(ih c' _).1.trans (Comb.place_flight h), (ih c' _).2.trans (Comb.place_nbrs h)⟩

theorem State.logIf_comb (s : State) (b : Bool) (ev : Ev) (p : Bytes) : (if b = true then s.logEv ev p else s).comb = s.comb := by
  split
  · exact State.logEv_comb _ _ _
  · rfl

theorem State.combSettled_nbrs (s : State) : s.combSettled.comb.nbrs = s.comb.nbrs := by
  obtain ⟨b, l, e⟩ := s.combSettled_eq
  rw [e]

/-- The Comb as a SYNC begins: one flagged first ends the mirrors of its neighbour. -/
def Comb.syncKept (c : Comb) (n : Nat) (msg : Bytes) : Comb :=
  { c with entries := if bit (u msg 1 1) 0 then c.entries.filter fun e => !(1024 + 32 * n ≤ e.owner && e.owner < 1056 + 32 * n) else c.entries }

/-- The records of a SYNC as they are written. -/
def State.syncPlaces (s : State) (n now : Nat) (msg : Bytes) : Comb × Bool × Option Entry :=
  Comb.syncAll s.buckets now (s.comb.syncKept n msg) false (mirrorEntries n 0 (msgMirrors msg))

/-- The Comb once a SYNC's records stand, with the conflicts noted at its neighbour. -/
def State.syncStands (s : State) (n now seq : Nat) (msg : Bytes) : State :=
  let y : State := { s with comb := s.comb.endFlight seq }
  let p := y.syncPlaces n now msg
  let was := if bit (u msg 1 1) 0 then false else (y.nbr n).conflict
  let z := (({ y with comb := p.1 } : State).combSettled).setNbr n fun x => { x with conflict := was || p.2.1 }
  if p.2.1 && !was then z.logEv .combSyncConflict [] else z

theorem State.runSync_done {f : Flight} (h : (({ s with comb := s.comb.endFlight f.seq } : State).syncPlaces n f.tacc msg).2.2 = none) :
    (s.runSync n ⟨w, msg⟩ f).comb = (if bit (u msg 1 1) 1 then ((s.syncStands n f.tacc f.seq msg).setNbr n fun x => { x with theirs := true }).tryLive n
      else s.syncStands n f.tacc f.seq msg).comb := by
  have h' : _ = _ := h
  unfold State.syncPlaces at h'
  unfold State.runSync
  dsimp only at h' ⊢
  split
  · next e he => exact absurd (he.symm.trans h') (by simp)
  · exact State.msgAnswer_comb _ _ _ _ _ _

theorem State.syncStands_effect {seq now : Nat} (h12 : s.comb.nbrs.length = 12) (hn : n < 12) :
    let p := ({ s with comb := s.comb.endFlight seq } : State).syncPlaces n now msg
    let z := s.syncStands n now seq msg
    z.comb.entries = p.1.entries ∧ z.comb.flight = (s.comb.endFlight seq).flight ∧ z.comb.nbrs.length = 12 ∧
      ∃ b, z.nbr n = { s.nbr n with conflict := b } := by
  intro p z
  obtain ⟨k1, k2⟩ := Comb.syncAll_keeps s.buckets now (mirrorEntries n 0 (msgMirrors msg)) ((s.comb.endFlight seq).syncKept n msg) false
  have j1 : p.1.flight = (s.comb.endFlight seq).flight := k1
  let y : State := { s with comb := p.1 }
  have hye : y.comb = p.1 := rfl
  have hst := y.combSettled_still
  have hnb : y.combSettled.comb.nbrs = s.comb.nbrs := y.combSettled_nbrs.trans k2
  obtain ⟨b, hb⟩ : ∃ b, z.comb = (y.combSettled.setNbr n fun x => { x with conflict := b }).comb := ⟨_, State.logIf_comb _ _ _ _⟩
  clear_value z y
  refine ⟨by rw [hb]; exact hst.entries.trans (congrArg Comb.entries hye),
    by rw [hb]; exact (hst.flight.trans (congrArg Comb.flight hye)).trans j1, by rw [hb, State.setNbr_sized, hnb]; exact h12, b, ?_⟩
  rw [State.nbr_of_nbrs (congrArg Comb.nbrs hb), State.nbr_setNbr (by rw [hnb]; exact h12) hn, State.nbr_of_nbrs hnb]

/-- The end of a SYNC: its neighbour's own is complete where it is flagged last, and both make it live. -/
theorem State.runSync_effect {f : Flight} (h12 : s.comb.nbrs.length = 12) (hn : n < 12) (hfl : s.comb.flight = [f])
    (h : (({ s with comb := s.comb.endFlight f.seq } : State).syncPlaces n f.tacc msg).2.2 = none) :
    let live := bit (u msg 1 1) 1 && ((s.nbr n).st = .syncing || (s.nbr n).st = .radioOnly) && (s.nbr n).ours
    let c := (s.runSync n ⟨w, msg⟩ f).comb
    c.entries = (({ s with comb := s.comb.endFlight f.seq } : State).syncPlaces n f.tacc msg).1.entries ∧ c.flight = [] ∧
      (c.nbrs.getD n Neighbour.reset).st = (if live then .live else (s.nbr n).st) ∧
      (c.nbrs.getD n Neighbour.reset).theirs = (if bit (u msg 1 1) 1 then !live else (s.nbr n).theirs) := by
  intro live c
  have e0 : (s.comb.endFlight f.seq).flight = [] := by
    show s.comb.flight.filter _ = []
    rw [hfl]
    simp
  obtain ⟨k1, k2, k3, b, k4⟩ := State.syncStands_effect (msg := msg) (seq := f.seq) (now := f.tacc) h12 hn
  have hc : c = _ := State.runSync_done h
  clear_value c
  generalize s.syncStands n f.tacc f.seq msg = z at *
  rw [e0] at k2
  cases hl : bit (u msg 1 1) 1 with
  | false =>
    rw [hl] at hc
    rw [if_neg (by decide)] at hc
    subst hc
    have hz : z.comb.nbrs.getD n Neighbour.reset = { s.nbr n with conflict := b } := k4
    refine ⟨k1, k2, ?_, ?_⟩
    · rw [hz]
      simp [live, hl]
    · rw [hz]
      rfl
  | true =>
    rw [hl] at hc
    rw [if_pos rfl] at hc
    obtain ⟨j1, -, j3, j4⟩ := State.tryLive_nbr (s := z.setNbr n fun x => { x with theirs := true }) (by rw [State.setNbr_sized]; exact k3) hn
    rw [State.nbr_setNbr k3 hn, k4] at j1
    subst hc
    have hz : ((z.setNbr n fun x => { x with theirs := true }).tryLive n).comb.nbrs.getD n Neighbour.reset = _ := j1
    have hr : ({ s.nbr n with conflict := b, theirs := true } : Neighbour).ready = live := by
      simp [live, hl, Neighbour.ready]
    refine ⟨j3.trans k1, j4.trans k2, ?_, ?_⟩
    · rw [hz, hr]
      split <;> rfl
    · rw [hz, hr]
      cases live <;> rfl

theorem State.run_sync {a : State} (ha : s.advance t = a) (h12 : a.comb.nbrs.length = 12) (h : a.hears w msg n 6 = true) (hm : (a.nbr n).mismatch = false)
    (hf : a.comb.flight = []) (hp : a.comb.prepared = []) (hq : (a.syncPlaces n a.ct msg).2.2 = none) :
    let live := bit (u msg 1 1) 1 && ((a.nbr n).st = .syncing || (a.nbr n).st = .radioOnly) && (a.nbr n).ours
    let v := s.run t fun s => s.transactBy w 0x4050 msg
    v.comb.entries = (a.syncPlaces n a.ct msg).1.entries ∧ v.comb.flight = [] ∧ (v.nbr n).st = (if live then .live else (a.nbr n).st) ∧
      (v.nbr n).theirs = (if bit (u msg 1 1) 1 then !live else (a.nbr n).theirs) := by
  have hn := State.hears_lt h
  obtain ⟨d, -, e, ht⟩ := State.run_heard ha h
  rw [State.regionMsg_internal (s := a.withDict d) ht (.inr rfl) hm hf hp] at e
  obtain ⟨hh, f, ho, hat, fl, ec, ef⟩ := State.internalOp_leaves (s := a.withDict d) hf hp (.message n ⟨w, msg⟩)
  let y : State := { a.withDict d with comb := { a.comb with seqLast := f.seq, flight := [f] }, health := hh }
  have er : y.runFlight f = y.runSync n ⟨w, msg⟩ f := State.runFlight_sync ho ht
  have hat' : f.tacc = a.ct := hat
  have hpl : ({ y with comb := y.comb.endFlight f.seq } : State).syncPlaces n f.tacc msg
      = ({ (a.syncPlaces n a.ct msg).1 with seqLast := f.seq }, (a.syncPlaces n a.ct msg).2) := by
    rw [hat']
    unfold State.syncPlaces
    rw [show y.comb.endFlight f.seq = { a.comb with seqLast := f.seq } from
      (Comb.endFlight_alone { a.comb with seqLast := f.seq } f).trans (by rw [← hf])]
    exact Comb.syncAll_seq a.buckets a.ct f.seq _ (a.comb.syncKept n msg) false
  obtain ⟨k1, k2, k3, k4⟩ := State.runSync_effect (s := y) (w := w) (f := f) (msg := msg) h12 hn rfl (by rw [hpl]; exact hq)
  intro live v
  have hv : v.comb = { (y.runSync n ⟨w, msg⟩ f).comb with flight := fl } := e.trans (by rw [← er]; exact ec)
  have hvn : v.nbr n = (y.runSync n ⟨w, msg⟩ f).comb.nbrs.getD n Neighbour.reset := by
    unfold State.nbr
    rw [hv]
  refine ⟨?_, ?_, ?_, ?_⟩
  · rw [hv]
    exact k1.trans (by rw [hpl])
  · rw [hv]
    exact ef ((congrArg (fun x : State => x.comb.flight) er).trans k2)
  · rw [hvn]
    exact k3
  · rw [hvn]
    exact k4

/-- The answer to the SYNC flagged last (R308). -/
theorem State.syncAnswered_effect (h12 : s.comb.nbrs.length = 12) (hn : n < 12) :
    let ours := (s.nbr n).ours || (s.nbr n).asked
    let live := ((s.nbr n).st = .syncing || (s.nbr n).st = .radioOnly) && (s.nbr n).theirs && ours
    let v := s.syncAnswered n
    (v.nbr n).st = (if live then .live else (s.nbr n).st) ∧ (v.nbr n).ours = (ours && !live) ∧ ∀ k, k < 12 → k ≠ n → v.nbr k = s.nbr k := by
  intro ours live v
  obtain ⟨k1, k2, -, -⟩ := State.tryLive_nbr (s := s.setNbr n fun x => { x with ours := x.ours || x.asked }) (by rw [State.setNbr_sized]; exact h12) hn
  rw [State.nbr_setNbr h12 hn] at k1
  have hr : ({ s.nbr n with ours := (s.nbr n).ours || (s.nbr n).asked } : Neighbour).ready = live := rfl
  refine ⟨?_, ?_, fun k _ hk => (k2 k hk).trans (State.nbr_setNbr_ne hk _)⟩
  · rw [show v.nbr n = _ from k1, hr]
    split <;> rfl
  · rw [show v.nbr n = _ from k1, hr]
    cases live
    · exact (Bool.and_true _).symm
    · exact (Bool.and_false _).symm

/-! ### Heartbeats sent (R298) -/

/-- A message to a neighbour moves what its session counts, and is sent where the session can carry it. -/
theorem State.toNbr_sends (s : State) (n idx : Nat) (msg : Bytes) : ∃ (d : Dict) (o : List Out), s.toNbr n idx msg = { s with dict := d, out := o } ∧
    (∀ m ∈ s.out, m ∈ o) ∧ (s.nbrOn n = true → Out.nbr n idx msg ∈ o) := by
  unfold State.toNbr
  cases hon : s.nbrOn n with
  | false => exact ⟨s.dict, s.out, rfl, fun _ h => h, fun h => absurd h (by decide)⟩
  | true =>
    cases hi : (s.nbr n).session with
    | none =>
      unfold State.nbrOn at hon
      rw [hi] at hon
      exact absurd hon (by simp)
    | some i =>
      rw [if_pos rfl]
      dsimp only
      split
      · exact ⟨s.dict, _, rfl, fun _ h => List.mem_cons_of_mem _ h, fun _ => List.mem_cons_self⟩
      · exact ⟨_, _, rfl, fun _ h => List.mem_append_right _ (List.mem_cons_of_mem _ h), fun _ => List.mem_append_right _ List.mem_cons_self⟩

/-- The HEARTBEAT as neighbour n is sent it. -/
def State.hbMsg (s : State) (n : Nat) : Bytes := s.regionHeader 1 0 0 0 ++ s.hbBody s.time64 (s.nbr n).emptied

theorem State.heartbeatTo_effect (h12 : s.comb.nbrs.length = 12) (hn : n < 12) : ∃ (nb : List Neighbour) (d : Dict) (o : List Out) (f : Nat),
    s.heartbeatTo n = { s with comb := { s.comb with nbrs := nb }, dict := d, out := o, free := f } ∧ nb.length = 12 ∧
      (∀ k, k ≠ n → nb.getD k Neighbour.reset = s.nbr k) ∧ (∀ m ∈ s.out, m ∈ o) ∧
      (s.nbrOn n = true → (nb.getD n Neighbour.reset).emptied = false ∧ Out.nbr n 0x4050 (s.hbMsg n) ∈ o) := by
  unfold State.heartbeatTo
  by_cases hon : s.nbrOn n = true
  · rw [if_pos hon]
    obtain ⟨d, o, e, h1, h2⟩ := s.toNbr_sends n 0x4050 (s.hbMsg n)
    refine ⟨modNth s.comb.nbrs n fun x => { x with emptied := false }, d, o, s.free, ?_, by rw [modNth_length]; exact h12,
      fun k hk => modNth_getD_ne _ _ hk, h1, fun _ => ⟨?_, h2 hon⟩⟩
    · exact congrArg (fun y : State => y.setNbr n fun x => { x with emptied := false }) e
    · rw [modNth_getD _ _ (h12 ▸ hn)]
  · rw [if_neg hon]
    unfold State.helloNbr
    split
    · exact ⟨modNth s.comb.nbrs n _, s.dict, _, _, rfl, by rw [modNth_length]; exact h12, fun k hk => modNth_getD_ne _ _ hk,
        fun _ h => List.mem_cons_of_mem _ h, fun h => absurd h hon⟩
    · exact ⟨s.comb.nbrs, s.dict, s.out, s.free, rfl, h12, fun _ _ => rfl, fun _ h => h, fun h => absurd h hon⟩

theorem State.heartbeatsTo_effect {l : List Nat} (hl : l.Nodup) (hlt : ∀ n ∈ l, n < 12) (h12 : s.comb.nbrs.length = 12) :
    ∃ (nb : List Neighbour) (d : Dict) (o : List Out) (f : Nat),
      l.foldl (fun s n => s.heartbeatTo n) s = { s with comb := { s.comb with nbrs := nb }, dict := d, out := o, free := f } ∧
      (∀ k, k ∉ l → nb.getD k Neighbour.reset = s.nbr k) ∧ (∀ m ∈ s.out, m ∈ o) ∧
      ∀ n ∈ l, s.nbrOn n = true → (nb.getD n Neighbour.reset).emptied = false ∧ Out.nbr n 0x4050 (s.hbMsg n) ∈ o := by
  induction l generalizing s with
  | nil => exact ⟨s.comb.nbrs, s.dict, s.out, s.free, rfl, fun _ _ => rfl, fun _ h => h, fun _ h => absurd h List.not_mem_nil⟩
  | cons n l ih =>
    obtain ⟨hnl, hl⟩ := List.nodup_cons.mp hl
    obtain ⟨nb, d, o, f, e, k1, k2, k3, k4⟩ := State.heartbeatTo_effect h12 (hlt n List.mem_cons_self)
    let y : State := { s with comb := { s.comb with nbrs := nb }, dict := d, out := o, free := f }
    obtain ⟨nb', d', o', f', e', j1, j2, j3⟩ := ih (s := y) hl (fun m hm => hlt m (List.mem_cons_of_mem _ hm)) k1
    refine ⟨nb', d', o', f', ?_, fun k hk => ?_, fun m hm => j2 m (k3 m hm), fun m hm hon => ?_⟩
    · rw [List.foldl_cons, e]
      exact e'
    · exact (j1 k fun h => hk (List.mem_cons_of_mem _ h)).trans (k2 k fun h => hk (h ▸ List.mem_cons_self))
    · rcases List.mem_cons.mp hm with rfl | hm
      · obtain ⟨i1, i2⟩ := k4 hon
        exact ⟨(congrArg Neighbour.emptied (j1 m hnl)).trans i1, j2 _ i2⟩
      · have hne : m ≠ n := fun h => hnl (h ▸ hm)
        have hy : y.nbr m = s.nbr m := k2 m hne
        have ho : y.nbrOn m = s.nbrOn m := congrArg (fun z : Neighbour => z.session.isSome && s.up .network && s.up .compute) hy
        have hb : y.hbMsg m = s.hbMsg m := congrArg (fun z : Neighbour => s.regionHeader 1 0 0 0 ++ s.hbBody s.time64 z.emptied) hy
        rw [← hb]
        exact j3 m hm (ho.trans hon)

theorem State.hbNumber_eq (s : State) (p : Int) : s.hbNumber p = { s with comb := { s.comb with
    hbPeriod := some p, hbSeq := if s.comb.hbPeriod = some p then s.comb.hbSeq else (s.comb.hbSeq + 1) % 2 ^ 32 } } := by
  unfold State.hbNumber
  split
  · next h => rw [← h]
  · rfl

/-- The state in which the HEARTBEATs of the present period are sent. -/
def State.hbReady (s : State) : State := { s.hbNumber s.hbNow with comb := { (s.hbNumber s.hbNow).comb with hbEth := some s.hbNow } }

theorem State.sendHeartbeats_sends (h1 : s.up .comb = true) (h2 : s.time64 % s.hbPeriodNs ≤ 50000) (h3 : s.comb.hbEth ≠ some s.hbNow) :
    s.sendHeartbeats = s.hbReady.nbrs.foldl (fun s n => s.heartbeatTo n) s.hbReady := by
  unfold State.sendHeartbeats
  dsimp only
  rw [if_pos (by simp [h1, h2, h3])]
  rfl

theorem State.run_heartbeatSend {a : State} (ha : s.advance t = a) (h12 : a.comb.nbrs.length = 12) (h1 : a.up .comb = true)
    (h2 : a.time64 % a.hbPeriodNs ≤ 50000) (h3 : a.comb.hbEth ≠ some a.hbNow) : let v := s.run t fun s => s.sendHeartbeats
    v.comb.hbEth = some a.hbNow ∧ v.comb.hbPeriod = some a.hbNow ∧
      v.comb.hbSeq = (if a.comb.hbPeriod = some a.hbNow then a.comb.hbSeq else (a.comb.hbSeq + 1) % 2 ^ 32) ∧ v.comb.entries = a.comb.entries ∧
      (∀ n ∈ a.nbrs, a.nbrOn n = true → (v.nbr n).emptied = false ∧
        Out.nbr n 0x4050 (a.regionHeader 1 0 0 0 ++ (a.hbNumber a.hbNow).hbBody a.time64 (a.nbr n).emptied) ∈ v.out) ∧
      Only (told ++ [Part.comb, Part.free]) a v := by
  subst ha
  have hb := State.sendHeartbeats_sends h1 h2 h3
  generalize ha : s.advance t = a at *
  have e0 : a.hbReady = { a with comb := { a.comb with
      hbPeriod := some a.hbNow, hbSeq := if a.comb.hbPeriod = some a.hbNow then a.comb.hbSeq else (a.comb.hbSeq + 1) % 2 ^ 32, hbEth := some a.hbNow } } := by
    unfold State.hbReady
    rw [State.hbNumber_eq]
  have e1 : (a.hbNumber a.hbNow).hbBody a.time64 = a.hbReady.hbBody a.time64 := rfl
  rw [e1]
  have en : a.hbReady.nbrs = a.nbrs := by rw [e0]; rfl
  have eo (n : Nat) : a.hbReady.nbrOn n = a.nbrOn n := by rw [e0]; rfl
  have em (n : Nat) : a.hbReady.hbMsg n = a.regionHeader 1 0 0 0 ++ a.hbReady.hbBody a.time64 (a.nbr n).emptied := by rw [e0]; rfl
  have el : a.hbReady.comb.nbrs.length = 12 := by rw [e0]; exact h12
  obtain ⟨nb, d, o, f, e, -, -, k3⟩ := State.heartbeatsTo_effect (s := a.hbReady) (l := a.hbReady.nbrs) (List.nodup_range.filter _)
    (fun n hn => List.mem_range.mp (List.mem_filter.mp hn).1) el
  rw [e] at hb
  rw [en] at k3
  intro v
  have hc : v.comb = { a.hbReady.comb with nbrs := nb } := (State.run_comb s t _).trans (by rw [ha, hb])
  have hout : ∀ m ∈ o, m ∈ v.out := fun m hm => State.run_sends (by rw [ha, hb]; exact hm)
  refine ⟨by rw [hc, e0], by rw [hc, e0], by rw [hc, e0], by rw [hc, e0], fun n hn hon => ?_, ?_⟩
  · obtain ⟨i1, i2⟩ := k3 n hn ((eo n).trans hon)
    rw [em] at i2
    refine ⟨?_, hout _ i2⟩
    unfold State.nbr
    rw [hc]
    exact i1
  · rw [← ha]
    refine Only.run (by decide) ?_
    rw [ha, hb, e0]
    intro p hp
    cases p <;> first | rfl | exact ⟨rfl, rfl⟩ | exact absurd (by decide) hp

/-! ### Heartbeats heard (R299) -/

theorem radioOnlyFor_heard (l : List (Int × Bool)) (j : Int) : radioOnlyFor (countHeard l j true) j = false := by
  have h : (j, false) ∉ countHeard l j true := by
    unfold countHeard
    split
    · intro hm
      obtain ⟨x, -, hx⟩ := List.mem_map.mp hm
      by_cases hj : x.1 = j
      · rw [if_pos hj, Bool.or_true] at hx
        cases hx
      · rw [if_neg hj] at hx
        exact hj (by rw [hx])
    · next hn =>
      intro hm
      rcases List.mem_cons.mp (List.mem_of_mem_take hm) with hx | hx
      · cases hx
      · exact hn (List.any_eq_true.mpr ⟨_, hx, by simp⟩)
  unfold radioOnlyFor
  simp [h]

/-- A heartbeat over Ethernet of a neighbour that is not lost asks for a SYNC at most. -/
theorem State.hbJudged_comb {j : Int} {e : Bool} (h1 : (s.nbr n).st ≠ .lost) (h2 : e = false ∨ (s.nbr n).st = .none)
    (h3 : radioOnlyFor (s.nbr n).heard j = false) :
    (s.hbJudged n j e true).comb = s.comb ∨ (s.hbJudged n j e true).comb = (s.setNbr n fun x => { x with asked := true }).comb := by
  unfold State.hbJudged
  dsimp only
  rw [if_neg (by rcases h2 with h | h <;> simp [h, h1]), if_neg (by simp [h3])]
  split
  · exact State.sendSync_comb s n
  · exact .inl rfl

theorem State.hbReceived_effect {body : Bytes} (h12 : s.comb.nbrs.length = 12) (hn : n < 12) (hv : s.hbValid n body = true)
    (ht : s.time64 < ((si body 0 8).fdiv s.hbPeriodNs + 1) * s.hbPeriodNs + 10000000) (hl : (s.nbr n).st ≠ .lost)
    (he : bit (u body 26 1) 1 = false ∨ (s.nbr n).st = .none) : let v := s.hbReceived n body true
    (v.nbr n).heard = countHeard (s.nbr n).heard ((si body 0 8).fdiv s.hbPeriodNs) true ∧ (v.nbr n).mismatch = false ∧
      (v.nbr n).st = (s.nbr n).st ∧ v.comb.entries = s.comb.entries := by
  let j := (si body 0 8).fdiv s.hbPeriodNs
  let y := s.setNbr n fun x => { x with mismatch := false }
  let z := y.setNbr n fun x => { x with heard := countHeard x.heard j true }
  have hm : slice body 8 8 = s.siteDigestNow := by
    unfold State.hbValid at hv
    simp only [Bool.and_eq_true, decide_eq_true_eq] at hv
    exact hv.1.1.1.1
  have e : s.hbReceived n body true = z.hbJudged n j (bit (u body 26 1) 1) true := by
    have hv' : y.hbValid n body = true := hv
    have ht' : y.time64 < (j + 1) * y.hbPeriodNs + 10000000 := ht
    unfold State.hbReceived
    simp only [hm, ne_eq, not_true, decide_false, Bool.false_and, Bool.false_eq_true, if_false]
    exact if_pos (by rw [hv', decide_eq_true ht']; rfl)
  have hy : y.comb.nbrs.length = 12 := (State.setNbr_sized n _).trans h12
  have hz : z.comb.nbrs.length = 12 := (State.setNbr_sized n _).trans hy
  have hzn : z.nbr n = { s.nbr n with mismatch := false, heard := countHeard (s.nbr n).heard j true } :=
    (State.nbr_setNbr hy hn _).trans (by rw [State.nbr_setNbr h12 hn])
  have hze : z.comb.entries = s.comb.entries := rfl
  have hc := State.hbJudged_comb (s := z) (n := n) (j := j) (e := bit (u body 26 1) 1) (by rw [hzn]; exact hl) (by rw [hzn]; exact he)
    (by rw [hzn]; exact radioOnlyFor_heard _ _)
  intro v
  have hv : v = _ := e
  clear_value z v
  subst hv
  rcases hc with h | h
  · rw [State.nbr_of_nbrs (congrArg Comb.nbrs h), hzn, h]
    exact ⟨rfl, rfl, rfl, hze⟩
  · rw [State.nbr_of_nbrs (congrArg Comb.nbrs h), State.nbr_setNbr hz hn, hzn, h]
    exact ⟨rfl, rfl, rfl, hze⟩

theorem slice_drop (b : Bytes) (k off len : Nat) : slice (b.drop k) off len = slice b (k + off) len := by
  unfold slice
  rw [List.drop_drop]

theorem State.regionMsg_heartbeat {r : CombReq} (ht : u r.req 0 1 = 1) :
    s.regionMsg n r = (s.hbReceived n (r.req.drop 16) true).msgAnswer r 0 0 0 (Verdict.ok 0 0 0) := by
  unfold State.regionMsg
  rw [ht]
  exact if_neg (by simp)

theorem State.run_regionHeartbeat {a : State} (ha : s.advance t = a) (h12 : a.comb.nbrs.length = 12) (h : a.hears w msg n 1 = true)
    (hv : a.hbValid n (msg.drop 16) = true) (ht : a.time64 < ((si msg 16 8).fdiv a.hbPeriodNs + 1) * a.hbPeriodNs + 10000000)
    (hl : (a.nbr n).st ≠ .lost) (he : bit (u msg 42 1) 1 = false ∨ (a.nbr n).st = .none) : let v := s.run t fun s => s.transactBy w 0x4050 msg
    (v.nbr n).heard = countHeard (a.nbr n).heard ((si msg 16 8).fdiv a.hbPeriodNs) true ∧ (v.nbr n).mismatch = false ∧
      (v.nbr n).st = (a.nbr n).st ∧ v.comb.entries = a.comb.entries := by
  have hn := State.hears_lt h
  obtain ⟨d, -, e, hty⟩ := State.run_heard ha h
  have es : si (msg.drop 16) 0 8 = si msg 16 8 := by
    unfold si u
    rw [slice_drop]
  have eu : u (msg.drop 16) 26 1 = u msg 42 1 := by
    unfold u
    rw [slice_drop]
  have k := State.hbReceived_effect (s := a.withDict d) (body := msg.drop 16) h12 hn hv (by rw [es]; exact ht) hl (by rw [eu]; exact he)
  rw [es] at k
  obtain ⟨k1, k2, k3, k4⟩ := k
  have er : ((a.withDict d).regionMsg n ⟨w, msg⟩).comb = ((a.withDict d).hbReceived n (msg.drop 16) true).comb := by
    rw [State.regionMsg_heartbeat (r := ⟨w, msg⟩) hty]
    exact State.msgAnswer_comb _ _ _ _ _ _
  have hc := e.trans er
  intro v
  have hvn : v.nbr n = ((a.withDict d).hbReceived n (msg.drop 16) true).nbr n := State.nbr_of_nbrs (congrArg Comb.nbrs hc) n
  rw [hvn]
  exact ⟨k1, k2, k3, (congrArg Comb.entries hc).trans k4⟩

/-! ### A neighbour lost (R301, R302) -/

theorem State.sendPhase_nbrs (s : State) (n type exch : Nat) : (s.sendPhase n type exch).comb.nbrs = s.comb.nbrs := by
  unfold State.sendPhase
  dsimp only
  rw [State.toNbr_comb]

/-- A request that fails leaves the neighbours. -/
theorem State.exchangeFail_nbrs (s : State) (f : Flight) (r : CombReq) (asked : List Asked) (v : Verdict) :
    (s.exchangeFail f r asked v).comb.nbrs = s.comb.nbrs := by
  have hph (l : List Asked) (x : State) : (l.foldl (fun s a => s.sendPhase a.nbr 4 a.exch) x).comb.nbrs = x.comb.nbrs := by
    induction l generalizing x with
    | nil => rfl
    | cons b l ih => exact (ih _).trans (State.sendPhase_nbrs _ _ _ _)
  unfold State.exchangeFail
  rw [State.endReq_comb]
  show (s.exchangeDrop f asked).comb.nbrs = _
  unfold State.exchangeDrop
  dsimp only
  rw [hph, State.combSettled_nbrs]
  obtain ⟨fl, e, -⟩ := ({ s with comb := s.comb.dropSeq f.seq } : State).noteLater_eq f.seq s.comb.entries
  rw [e]
  rfl

theorem State.failWaiting_nbrs (s : State) (n : Nat) : (s.failWaiting n).comb.nbrs = s.comb.nbrs := by
  have h (l : List Asking) (g : State → Asking → Verdict) (x : State) :
      (l.foldl (fun s x => s.exchangeFail x.f x.r x.asked (g s x)) x).comb.nbrs = x.comb.nbrs := by
    induction l generalizing x with
    | nil => rfl
    | cons b l ih => exact (ih _).trans (State.exchangeFail_nbrs _ _ _ _ _)
  exact h _ (fun s x => s.frozenVerdict x.f n) s

theorem State.loseNeighbour_effect (h12 : s.comb.nbrs.length = 12) (hn : n < 12) (h1 : s.up .comb = true) (h2 : s.nbrPresent n = true)
    (h3 : (s.nbr n).st ≠ .none) (h4 : (s.nbr n).st ≠ .lost) (h5 : ((s.nbr n).lastHeard + 4) * s.hbPeriodNs + 10000000 ≤ s.time64) :
    let v := s.loseNeighbour n
    (v.nbr n).st = .lost ∧ (v.nbr n).losses = wrap 32 ((s.nbr n).losses + 1) ∧ ∀ k, k < 12 → k ≠ n → v.nbr k = s.nbr k := by
  let y := s.setNbr n fun y => { y with st := .lost, losses := wrap 32 (y.losses + 1), theirs := false, ours := false, asked := false, heard := [] }
  have e : s.loseNeighbour n = (y.logEv .neighbourLost []).failWaiting n := by
    unfold State.loseNeighbour
    exact if_pos (by simp [h1, h2, h3, h4, h5])
  have hc : ((y.logEv .neighbourLost []).failWaiting n).comb.nbrs = y.comb.nbrs := (State.failWaiting_nbrs _ _).trans (congrArg Comb.nbrs (State.logEv_comb _ _ _))
  intro v
  have hv (k : Nat) : v.nbr k = y.nbr k := State.nbr_of_nbrs ((congrArg (fun x : State => x.comb.nbrs) e).trans hc) k
  have hyn : y.nbr n = { s.nbr n with st := .lost, losses := wrap 32 ((s.nbr n).losses + 1), theirs := false, ours := false, asked := false, heard := [] } :=
    State.nbr_setNbr h12 hn _
  rw [hv, hyn]
  exact ⟨rfl, rfl, fun k _ hk => (hv k).trans (State.nbr_setNbr_ne hk _)⟩

/-! ### The session to a neighbour (R293) -/

theorem State.endSession_sized (s : State) (i : Nat) : (s.endSession i).comb.nbrs.length = s.comb.nbrs.length := by
  have hr (l : List Hold) (x : State) : (l.foldl (fun s h => returnShadow s h.commit) x).comb = x.comb :=
    foldl_comb (fun (x : State) (h : Hold) => (returnShadow_same (pt := .comb) (by decide) x x h.commit).mpr rfl) l x
  have he (x : State) : (x.endHolds (.coil i)).comb = x.comb := hr _ _
  unfold State.endSession
  simp only []
  split
  · split
    · exact (State.setNbr_sized _ _).trans (congrArg (fun c : Comb => c.nbrs.length) (he _))
    · exact congrArg (fun c : Comb => c.nbrs.length) (he _)
  · exact congrArg (fun c : Comb => c.nbrs.length) (he _)

section
variable {α : Type} {f : Session → α} (hf : ∀ x q r, f { x with txSeq := q, reqNext := r } = f x)
include hf

theorem State.toNbr_field (s : State) (n idx i : Nat) (msg : Bytes) :
    (Tbl.get? (s.toNbr n idx msg).dict.sessions i).map f = (Tbl.get? s.dict.sessions i).map f := by
  unfold State.toNbr
  split
  · rfl
  · rename_i j _
    extract_lets y
    split
    · rfl
    · show (Tbl.get? (y.setSession j _).dict.sessions i).map f = _
      rw [State.setSession_get]
      split
      · rw [Option.map_map]
        exact congrArg (fun g => (Tbl.get? s.dict.sessions i).map g) (funext fun x => hf x _ _)
      · rfl

theorem State.sendSync_field (s : State) (n i : Nat) : (Tbl.get? (s.sendSync n).dict.sessions i).map f = (Tbl.get? s.dict.sessions i).map f := by
  have h (l : List Bytes) (x : State) : (Tbl.get? (l.foldl (fun s m => s.toNbr n 0x4050 m) x).dict.sessions i).map f
      = (Tbl.get? x.dict.sessions i).map f := by
    induction l generalizing x with
    | nil => rfl
    | cons m l ih => exact (ih _).trans (State.toNbr_field hf x n 0x4050 i m)
  unfold State.sendSync
  split
  · rfl
  · exact h _ _
end


/-- An ACCEPT that holds opens the session (R124). -/
structure State.Opens (s : State) (n : Nat) (raw : Bytes) : Prop where
  nonce : (s.nbr n).nonce ≠ []
  present : s.nbrPresent n = true
  key : (s.keyFor (u (s.nbrEntry n) 2 2) 1).isSome = true
  up : s.up .security = true ∧ s.up .network = true ∧ s.up .compute = true ∧ s.boot.boant = false
  form : u raw 0 1 = 1 ∧ openHeader raw 2 = true ∧ raw.length = 72 ∧ u raw 4 4 ≠ 0 ∧ u raw 16 2 = u (s.nbrEntry n) 2 2 ∧ u raw 19 1 = 0 ∧ u raw 22 2 = 0
  priv : u raw 18 1 ≤ 2
  id : u raw 20 2 = s.nbrId n
  tag : slice raw 56 16 = acceptConfirm (coilKeys (s.keySlot (u (s.nbrEntry n) 2 2)).material (s.nbr n).nonce (slice raw 24 32) (u raw 4 4)
    (u (s.nbrEntry n) 2 2) (u raw 18 1)) (raw.take 56)

/-- The keys of the session that an ACCEPT opens. -/
def State.openKeys (s : State) (n : Nat) (raw : Bytes) :=
  coilKeys (s.keySlot (u (s.nbrEntry n) 2 2)).material (s.nbr n).nonce (slice raw 24 32) (u raw 4 4) (u (s.nbrEntry n) 2 2) (u raw 18 1)

/-- The session that an ACCEPT opens. -/
def State.openSession (s : State) (n : Nat) (raw : Bytes) : Session :=
  { Session.fresh (u (s.nbrEntry n) 2 2) (s.keySlot (u (s.nbrEntry n) 2 2)).gen (u raw 18 1) (s.endSession (2 ^ 32 + n)).now with
    sid := u raw 4 4, keyIn := devKey (s.openKeys n raw), keyOut := hostKey (s.openKeys n raw), ivIn := devIv (s.openKeys n raw),
    ivOut := hostIv (s.openKeys n raw), nbr := some n }

/-- The neighbour has its session. -/
def State.sessionOpened (s : State) (n : Nat) (raw : Bytes) : State :=
  let y := s.endSession (2 ^ 32 + n)
  let z : State := { y with dict := { y.dict with sessions := Tbl.put y.dict.sessions (2 ^ 32 + n) (s.openSession n raw) } }
  z.setNbr n fun x => { x with session := some (2 ^ 32 + n), nonce := [] }

theorem State.nbrOpen_opens {raw : Bytes} (h : s.Opens n raw) :
    s.nbrOpen n raw = s.sessionOpened n raw ∨ s.nbrOpen n raw = (s.sessionOpened n raw).sendSync n := by
  obtain ⟨h1, h2, h3, ⟨h4, h5, h6, h7⟩, ⟨f1, f2, f3, f4, f5, f6, f7⟩, hp, hi, ht⟩ := h
  have e : s.nbrOpen n raw = if ((s.sessionOpened n raw).nbr n).st = .syncing && !((s.sessionOpened n raw).nbr n).asked && (s.sessionOpened n raw).up .comb
      then (s.sessionOpened n raw).sendSync n else s.sessionOpened n raw := by
    unfold State.nbrOpen
    refine (if_pos ?_).trans rfl
    simp [h1, h2, h3, h4, h5, h6, h7, f1, f2, f3, f4, f5, f6, f7, hp, hi, ht]
  rw [e]
  split
  · exact .inr rfl
  · exact .inl rfl

theorem State.run_nbrOpen {a : State} {raw : Bytes} (ha : s.advance t = a) (h12 : a.comb.nbrs.length = 12) (hn : n < 12) (h : a.Opens n raw) :
    let v := s.run t fun s => s.nbrOpen n raw
    (v.nbr n).session = some (2 ^ 32 + n) ∧ (v.nbr n).nonce = [] ∧
      (Tbl.get? v.dict.sessions (2 ^ 32 + n)).map (fun x => (x.slot, x.priv, x.keyIn, x.keyOut, x.nbr))
        = some (u (a.nbrEntry n) 2 2, u raw 18 1, devKey (a.openKeys n raw), hostKey (a.openKeys n raw), some n) := by
  have hl : ((({ a.endSession (2 ^ 32 + n) with dict := { (a.endSession (2 ^ 32 + n)).dict with
      sessions := Tbl.put (a.endSession (2 ^ 32 + n)).dict.sessions (2 ^ 32 + n) (a.openSession n raw) } } : State).comb.nbrs.length)) = 12 :=
    (State.endSession_sized a _).trans h12
  have hzn := State.nbr_setNbr hl hn fun x => { x with session := some (2 ^ 32 + n), nonce := [] }
  have hzl : (a.sessionOpened n raw).comb.nbrs.length = 12 := (State.setNbr_sized _ _).trans hl
  have hzs : Tbl.get? (a.sessionOpened n raw).dict.sessions (2 ^ 32 + n) = some (a.openSession n raw) := Tbl.get?_put _ _ _
  obtain ⟨k1, k2⟩ : ((a.sessionOpened n raw).nbr n).session = some (2 ^ 32 + n) ∧ ((a.sessionOpened n raw).nbr n).nonce = [] :=
    ⟨congrArg Neighbour.session hzn, congrArg Neighbour.nonce hzn⟩
  have hb := State.nbrOpen_opens h
  have hr := State.run_field (fun x => (x.slot, x.priv, x.keyIn, x.keyOut, x.nbr)) (fun _ _ => rfl) (fun _ _ _ => rfl) s t (2 ^ 32 + n) fun s => s.nbrOpen n raw
  have hc := State.run_comb s t fun s => s.nbrOpen n raw
  rw [ha] at hr hc
  intro v
  have hv (k : Nat) : v.nbr k = (a.nbrOpen n raw).nbr k := State.nbr_of_nbrs (congrArg Comb.nbrs hc) k
  rw [hv, hr]
  have hs : (Tbl.get? (a.sessionOpened n raw).dict.sessions (2 ^ 32 + n)).map (fun x => (x.slot, x.priv, x.keyIn, x.keyOut, x.nbr))
      = some (u (a.nbrEntry n) 2 2, u raw 18 1, devKey (a.openKeys n raw), hostKey (a.openKeys n raw), some n) := by
    rw [hzs]
    rfl
  rcases hb with e | e
  · rw [e]
    exact ⟨k1, k2, hs⟩
  · rw [e, State.sendSync_field (fun _ _ _ => rfl)]
    have hz : (((a.sessionOpened n raw).sendSync n).nbr n).session = some (2 ^ 32 + n) ∧ (((a.sessionOpened n raw).sendSync n).nbr n).nonce = [] := by
      rcases (a.sessionOpened n raw).sendSync_comb n with h | h
      · rw [State.nbr_of_nbrs (congrArg Comb.nbrs h)]
        exact ⟨k1, k2⟩
      · rw [State.nbr_of_nbrs (congrArg Comb.nbrs h), State.nbr_setNbr hzl hn]
        exact ⟨k1, k2⟩
    exact ⟨hz.1, hz.2, hs⟩

/-! ### Answers of a neighbour (R283, R542) -/

theorem State.run_answered_phase {a : State} (ha : s.advance t = a) {exch : Nat} (he : exch ≠ 0) : let v := s.run t fun s => s.nbrAnswered n exch
    v.comb = { a.comb with sent := a.comb.sent.filter fun x => !(x.nbr = n && x.exch = exch) } ∧ Only (told ++ [Part.comb]) a v := by
  subst ha
  have e : (s.advance t).nbrAnswered n exch = { s.advance t with comb := { (s.advance t).comb with
      sent := (s.advance t).comb.sent.filter fun x => !(x.nbr = n && x.exch = exch) } } := by
    unfold State.nbrAnswered
    exact if_neg he
  refine ⟨(State.run_comb ..).trans (congrArg State.comb e), Only.run (by decide) ?_⟩
  rw [e]
  exact (Only.refl _ _).step fun p hp => same_comb (Part.ne_of_notMem hp (by decide)) ..

theorem State.run_answered_notice {a : State} (ha : s.advance t = a) {i : Nat} (hi : a.stop.notices.findIdx? (fun x => x.nbr = n) = some i) :
    let v := s.run t fun s => s.nbrAnswered n 0
    v.stop = { a.stop with notices := a.stop.notices.eraseIdx i } ∧ Only (told ++ [Part.comb, Part.stop]) a v := by
  subst ha
  have e : (s.advance t).nbrAnswered n 0 = { s.advance t with
      comb := { (s.advance t).comb with sent := (s.advance t).comb.sent.filter fun x => !(x.nbr = n && x.exch = 0) }
      stop := { (s.advance t).stop with notices := (s.advance t).stop.notices.eraseIdx i } } := by
    unfold State.nbrAnswered
    dsimp only
    rw [if_pos rfl, hi]
  refine ⟨(State.run_stop ..).trans (congrArg State.stop e), Only.run (by decide) ?_⟩
  rw [e]
  intro p hp
  cases p <;> first | rfl | exact ⟨rfl, rfl⟩ | exact absurd (by decide) hp

/-! ### The obligation -/

/-- Settles O23: each message between neighbours, heartbeat, loss and session does to its neighbour what chapter 6 says. -/
theorem regionMessages : Obligations.RegionMessages := by
  unfold Obligations.RegionMessages
  refine ⟨?_, ?_, ?_, ?_, ?_, ?_, ?_, ?_, ?_⟩
  · intro s t n w msg a h hm hf hp
    exact ⟨_, rfl, State.run_shorten (a := a) rfl h hm hf hp⟩
  · intro s t n w msg a kept p live hs h hm hf hp hq
    exact ⟨_, rfl, State.run_sync (a := a) rfl (State.sized_nbrs hs) h hm hf hp hq⟩
  · intro s t n a ours live hs hn
    obtain ⟨k1, k2, k3⟩ := State.syncAnswered_effect (s := a) (State.sized_nbrs hs) hn
    have hc (k : Nat) : (s.run t fun s => s.syncAnswered n).nbr k = (a.syncAnswered n).nbr k :=
      State.nbr_of_nbrs (congrArg Comb.nbrs (State.run_comb s t _)) k
    exact ⟨_, rfl, (congrArg Neighbour.st (hc n)).trans k1, (congrArg Neighbour.ours (hc n)).trans k2, fun k hk hne => (hc k).trans (k3 k hk hne)⟩
  · intro s t a b hs h1 h2 h3
    exact ⟨_, rfl, State.run_heartbeatSend (a := a) rfl (State.sized_nbrs hs) h1 h2 h3⟩
  · intro s t n w msg a j hs h hv ht hl he
    exact ⟨_, rfl, State.run_regionHeartbeat (a := a) rfl (State.sized_nbrs hs) h hv ht hl he⟩
  · intro s t n a hs hn h1 h2 h3 h4 h5
    obtain ⟨k1, k2, k3⟩ := State.loseNeighbour_effect (s := a) (State.sized_nbrs hs) hn h1 h2 h3 h4 h5
    have hc (k : Nat) : (s.run t fun s => s.loseNeighbour n).nbr k = (a.loseNeighbour n).nbr k :=
      State.nbr_of_nbrs (congrArg Comb.nbrs (State.run_comb s t _)) k
    exact ⟨_, rfl, (congrArg Neighbour.st (hc n)).trans k1, (congrArg Neighbour.losses (hc n)).trans k2, fun k hk hne => (hc k).trans (k3 k hk hne)⟩
  · intro s t n raw a slot d hs hn h1 h2 h3 h4 h5 h6 h7 f1 f2 f3 f4 f5 hp f6 hi f7 ht
    exact ⟨_, rfl, State.run_nbrOpen (a := a) rfl (State.sized_nbrs hs) hn
      ⟨h1, h2, h3, ⟨h4, h5, h6, h7⟩, ⟨f1, f2, f3, f4, f5, f6, f7⟩, hp, hi, ht⟩⟩
  · intro s t n exch a he
    exact ⟨_, rfl, State.run_answered_phase (a := a) rfl he⟩
  · intro s t n i a hi
    exact ⟨_, rfl, State.run_answered_notice (a := a) rfl hi⟩

end Sys2Proof.Machine
end

section
set_option Elab.async false
/-!
PROOF. O60 fails: a DEV_RESULT whose packet the Dispatcher cannot take is not posted, and the exposure stays where it was. No clause says that the
queue of the results takes one.
-/

namespace Sys2Proof.Machine

/-- An exposure of slot 0 whose search has started. -/
def startedLatent : Latent := { slot := 0, arrival := 0, machine := 0, data := [], started := some default }

/-- The Fabric has failed while the Developer holds a started exposure. -/
def fabricGone : State :=
  { State.reset with
    islands := modNth State.reset.islands Island.fabric.id fun x => { x with st := .failed }
    dev := { State.reset.dev with latents := [startedLatent] } }

theorem fabricGone_ready : let a := fabricGone.advance 0
    a.up .developer = true ∧ a.up .fabric = false ∧ a.dev.latents = [startedLatent] := by
  decide +kernel

/-- Without the Fabric no engine posts. -/
theorem State.post?_none {s : State} (h : s.up .fabric = false) (q : Nat) (data : Bytes) : s.post? q data = none := by
  unfold State.post?
  rw [h]
  rfl

/-- A result that cannot be posted waits. -/
theorem State.devResult_unposted {s : State} (h : s.up .fabric = false) (slot : Nat) (sky : List SatEph) : s.devResult slot sky = s := by
  unfold State.devResult
  simp only [State.post?_none h]
  repeat' split
  all_goals rfl

/-- Refutes O60: the result of a started exposure is due while the Fabric has failed. It is not posted, and the exposure is still there. -/
theorem not_gnssConformanceComplete : ¬ Obligations.GnssConformanceComplete := by
  rintro ⟨-, -, -, -, -, -, -, -, -, -, -, -, -, -, -, -, -, -, hresult, -⟩
  obtain ⟨hu, hf, hl⟩ := fabricGone_ready
  obtain ⟨v, hv', hv, -⟩ := hresult fabricGone 0 0 0 [] startedLatent default hu (by rw [hl]; decide) (by rw [hl]; rfl) rfl
  cases hv'
  rw [State.run_dev, State.devResult_unposted hf, hl] at hv
  exact absurd hv (by decide)

end Sys2Proof.Machine
end

section
set_option Elab.async false
/-!
PROOF. What every step keeps, in one measure of the state: how many things each fixed list holds, the tables of the settings, the two
memories, and the latches of channel B.
-/

namespace Sys2Proof.Machine

/-- The tables of the settings that have rising keys. -/
def Settings.tables (g : Settings) : List (Tbl Bytes) :=
  [g.bank0.values, g.bank1.values, g.records, g.vol, g.inForce] ++ g.imported.toList.map fun b => b.1.values

/-- How many rings and neighbours the Comb has. -/
def Comb.rings (c : Comb) : Nat × Nat := (c.intake.length, c.nbrs.length)

/-- How many harts the Fabric has, and its shared SRAM. -/
def Fabric.frame (f : Fabric) : Nat × List Host.Cell := (f.harts.length, f.sram)

/-- The measure: numbers of things, tables, memories, and the latches of channel B. -/
structure Shape where
  islands  : Nat
  counters : Nat
  snapshot : Nat
  rings    : Nat × Nat
  rx       : Nat
  ins      : Nat
  souts    : Nat
  rows     : Nat
  verdicts : Nat
  modems   : Nat
  srcs     : Nat
  outs     : Nat
  caps     : Nat
  eth      : Nat
  can      : Nat
  frame    : Nat × List Host.Cell
  imgs     : Nat
  tables   : List (Tbl Bytes)
  dram     : List Host.Cell
  latches  : StopLatches

def State.shape (s : State) : Shape :=
  { islands := s.islands.length, counters := s.health.counters.length, snapshot := s.health.snapshot.length,
    rings := s.comb.rings, rx := s.track.ports.length, ins := s.stop.ins.length,
    souts := s.stop.outs.length, rows := s.conf.rows.length, verdicts := s.conf.verdicts.length, modems := s.radio.modems.length,
    srcs := s.tb.srcs.length, outs := s.outs.length, caps := s.caps.length, eth := s.net.ports.length, can := s.can.ports.length,
    frame := s.fabric.frame, imgs := s.boot.imgs.length, tables := s.settings.tables, dram := s.dram,
    latches := s.stop.b.latches }

@[simp] theorem State.shape_mk (now silicon cap clash islands resets health dict settings keys flash boot comb track dev base rover conf stop radio tb
    outs caps net can fabric dram log out free pending) :
    State.shape ⟨now, silicon, cap, clash, islands, resets, health, dict, settings, keys, flash, boot, comb, track, dev, base, rover, conf,
      stop, radio, tb, outs, caps, net, can, fabric, dram, log, out, free, pending⟩
      = { islands := islands.length, counters := health.counters.length, snapshot := health.snapshot.length,
          rings := comb.rings, rx := track.ports.length, ins := stop.ins.length,
          souts := stop.outs.length, rows := conf.rows.length, verdicts := conf.verdicts.length, modems := radio.modems.length,
          srcs := tb.srcs.length, outs := outs.length, caps := caps.length, eth := net.ports.length, can := can.ports.length,
          frame := fabric.frame, imgs := boot.imgs.length, tables := settings.tables, dram := dram,
          latches := stop.b.latches } := rfl

section
variable (s : State)
@[simp] theorem State.shape_islands : s.islands.length = s.shape.islands := rfl
@[simp] theorem State.shape_counters : s.health.counters.length = s.shape.counters := rfl
@[simp] theorem State.shape_snapshot : s.health.snapshot.length = s.shape.snapshot := rfl
@[simp] theorem State.shape_rings : s.comb.rings = s.shape.rings := rfl
@[simp] theorem State.shape_rx : s.track.ports.length = s.shape.rx := rfl
@[simp] theorem State.shape_ins : s.stop.ins.length = s.shape.ins := rfl
@[simp] theorem State.shape_souts : s.stop.outs.length = s.shape.souts := rfl
@[simp] theorem State.shape_rows : s.conf.rows.length = s.shape.rows := rfl
@[simp] theorem State.shape_verdicts : s.conf.verdicts.length = s.shape.verdicts := rfl
@[simp] theorem State.shape_modems : s.radio.modems.length = s.shape.modems := rfl
@[simp] theorem State.shape_srcs : s.tb.srcs.length = s.shape.srcs := rfl
@[simp] theorem State.shape_outs : s.outs.length = s.shape.outs := rfl
@[simp] theorem State.shape_caps : s.caps.length = s.shape.caps := rfl
@[simp] theorem State.shape_eth : s.net.ports.length = s.shape.eth := rfl
@[simp] theorem State.shape_can : s.can.ports.length = s.shape.can := rfl
@[simp] theorem State.shape_frame : s.fabric.frame = s.shape.frame := rfl
@[simp] theorem State.shape_imgs : s.boot.imgs.length = s.shape.imgs := rfl
@[simp] theorem State.shape_tables : s.settings.tables = s.shape.tables := rfl
@[simp] theorem State.shape_dram : s.dram = s.shape.dram := rfl
@[simp] theorem State.shape_latches : s.stop.b.latches = s.shape.latches := rfl
end


/-- A walk that keeps the measure at each step keeps it. -/
@[simp] theorem State.shape_foldl {α : Type} (f : State → α → State) (l : List α) (s : State) (h : ∀ s x, (f s x).shape = s.shape) :
    (l.foldl f s).shape = s.shape := by
  induction l generalizing s with
  | nil => rfl
  | cons x l ih => exact (ih _).trans (h _ _)

theorem State.shape_foldl_fst {α β : Type} (f : State × β → α → State × β) (l : List α) (z : State × β)
    (h : ∀ z x, (f z x).1.shape = z.1.shape) : (l.foldl f z).1.shape = z.1.shape := by
  induction l generalizing z with
  | nil => rfl
  | cons x l ih => exact (ih _).trans (h _ _)

@[simp] theorem State.shape_repeat (f : State → State) (n : Nat) (s : State) (h : ∀ s, (f s).shape = s.shape) :
    (Nat.repeat f n s).shape = s.shape := by
  induction n with
  | zero => rfl
  | succ n ih => exact (h _).trans ih

@[simp] theorem State.shape_ite (x y : State) (c : Prop) [Decidable c] : (if c then x else y).shape = if c then x.shape else y.shape := by
  split <;> rfl

/-! ### Parts -/

@[simp] theorem State.counted_length (s : State) (source param n : Nat) : (s.counted source param n).length = s.shape.counters := by
  unfold State.counted
  split <;> simp

section
variable (c : Comb)

@[simp] theorem Comb.rings_intake : c.intake.length = c.rings.1 := rfl
@[simp] theorem Comb.rings_nbrs : c.nbrs.length = c.rings.2 := rfl

@[simp] theorem Comb.rings_mk (entries openIn blocked retiring retired tracks intake outside flight seqLast waited nearFull exchNext sent prepared nbrs
    ageAt hbSeq hbPeriod hbEth hbBeacon hbEmpty emptied) :
    Comb.rings ⟨entries, openIn, blocked, retiring, retired, tracks, intake, outside, flight, seqLast, waited, nearFull, exchNext, sent, prepared, nbrs,
      ageAt, hbSeq, hbPeriod, hbEth, hbBeacon, hbEmpty, emptied⟩ = (intake.length, nbrs.length) := rfl

@[simp] theorem Comb.reclaim_rings (now b : Nat) : (c.reclaim now b).rings = c.rings := rfl

theorem Comb.place_rings {n now : Nat} {e : Entry} {c' : Comb} (h : c.place n now e = some c') : c'.rings = c.rings := by
  unfold Comb.place at h
  split at h
  · cases h
  · obtain ⟨i, -, rfl⟩ := Option.map_eq_some_iff.mp h
    rfl

@[simp] theorem Comb.placeAll_rings (n now : Nat) (l : List Entry) : (Comb.placeAll n now c l).1.rings = c.rings := by
  induction l generalizing c with
  | nil => rfl
  | cons e l ih =>
    unfold Comb.placeAll
    split
    · rename_i h
      exact (ih _).trans (c.place_rings h)
    · rfl

@[simp] theorem Comb.cutBy_rings (n now : Nat) (sel : Entry → Bool) (f : Entry → List Entry) : (c.cutBy n now sel f).1.rings = c.rings := by
  unfold Comb.cutBy
  simp

@[simp] theorem Comb.forceCut_rings (n now : Nat) (l : List Cov) : (c.forceCut n now l).1.rings = c.rings := c.cutBy_rings ..

@[simp] theorem Comb.commitSeq_rings (seq : Nat) : (c.commitSeq seq).rings = c.rings := rfl
@[simp] theorem Comb.dropSeq_rings (seq : Nat) : (c.dropSeq seq).rings = c.rings := rfl
@[simp] theorem Comb.endFlight_rings (seq : Nat) : (c.endFlight seq).rings = c.rings := rfl
@[simp] theorem Comb.flagUpset_rings (copy b : Nat) : (c.flagUpset copy b).rings = c.rings := rfl

@[simp] theorem Comb.refill_rings (q : Nat) : (c.refill q).rings = c.rings := by
  unfold Comb.refill
  split
  · split
    · simp
    · rfl
  · rfl

@[simp] theorem Comb.syncAll_rings (n now : Nat) (clash : Bool) (l : List Entry) : (Comb.syncAll n now c clash l).1.rings = c.rings := by
  induction l generalizing c clash with
  | nil => rfl
  | cons e l ih =>
    unfold Comb.syncAll
    simp only []
    split
    · rename_i h
      exact (ih _ _).trans (c.place_rings h)
    · rfl
end

@[simp] theorem Comb.rings_foldl {α : Type} (f : Comb → α → Comb) (l : List α) (c : Comb) (h : ∀ c x, (f c x).rings = c.rings) :
    (l.foldl f c).rings = c.rings := by
  induction l generalizing c with
  | nil => rfl
  | cons x l ih => exact (ih _).trans (h _ _)

section
variable (f : Fabric)

@[simp] theorem Fabric.frame_harts : f.harts.length = f.frame.1 := rfl
@[simp] theorem Fabric.frame_sram : f.sram = f.frame.2 := rfl

@[simp] theorem Fabric.frame_mk (brood readyNext harts fetchNext queues pktNext stray lost appBase appCount bundle reqs replies events tokenNext sram) :
    Fabric.frame ⟨brood, readyNext, harts, fetchNext, queues, pktNext, stray, lost, appBase, appCount, bundle, reqs, replies, events, tokenNext, sram⟩
      = (harts.length, sram) := rfl

@[simp] theorem Fabric.setDesc_frame (d : Nat) (x : Desc) : (f.setDesc d x).frame = f.frame := rfl
@[simp] theorem Fabric.setQueue_frame (q : Nat) (x : Queue) : (f.setQueue q x).frame = f.frame := rfl
@[simp] theorem Fabric.freeOf_frame (h : Nat) : (f.freeOf h).frame = f.frame := rfl
@[simp] theorem Fabric.returnOf_frame (h : Nat) : (f.returnOf h).frame = f.frame := rfl
@[simp] theorem Fabric.setHart_frame (h : Nat) (g : Hart → Hart) : (f.setHart h g).frame = f.frame := by
  simp [Fabric.setHart]
@[simp] theorem Fabric.setPhase_frame (q i : Nat) (ph : Option PktPhase) : (f.setPhase q i ph).frame = f.frame := rfl

@[simp] theorem Fabric.enter_frame (d : Nat) (x : Desc) : (f.enter d x).frame = f.frame := by
  unfold Fabric.enter
  split <;> rfl

@[simp] theorem Fabric.decr_frame (d : Nat) : (f.decr d).1.frame = f.frame := by
  unfold Fabric.decr
  simp only []
  split
  · exact f.enter_frame _ _
  · split <;> rfl
  · split <;> rfl
  · rfl
  · rfl
  · rfl

@[simp] theorem Fabric.submit_frame (applet : Bool) (idx v : Nat) : (f.submit applet idx v).1.frame = f.frame := by
  unfold Fabric.submit
  split
  · rfl
  · split
    · rfl
    · rfl
    · rfl
    · exact f.enter_frame _ _
    · exact f.enter_frame _ _
    · exact f.enter_frame _ _

@[simp] theorem Fabric.reissue_frame (applet : Bool) (idx : Nat) : (f.reissue applet idx).1.frame = f.frame := by
  unfold Fabric.reissue
  split
  · rfl
  · split
    · exact f.enter_frame _ _
    · rfl
end

section
variable (b : Timebase)

@[simp] theorem Timebase.rebase_srcs (t : Nat) (rate : Int) : (b.rebase t rate).srcs = b.srcs := rfl
@[simp] theorem Timebase.newFreq_srcs (t : Nat) (f : Int) : (b.newFreq t f).srcs = b.srcs := rfl
@[simp] theorem Timebase.setSrc_srcs (c : Nat) (f : TimeSrc → TimeSrc) : (b.setSrc c f).srcs.length = b.srcs.length := modNth_length _ _ _
@[simp] theorem Timebase.take_srcs (c t : Nat) (off : Int) (bound jump qt : Nat) :
    (b.take c t off bound jump qt).srcs.length = b.srcs.length := b.setSrc_srcs _ _
end

@[simp] theorem StopChan.upsetIn_latches (ch : StopChan) (copy : Nat) (l : Latch) (v : Nat) : (ch.upsetIn copy l v).latches = ch.latches :=
  Triple.struck_vote ..
@[simp] theorem StopChan.held_latches (ch : StopChan) (held : List (Latch × Nat)) : StopChan.latches { ch with held := held } = ch.latches := rfl

/-- Marks of the settings beside their tables. -/
@[simp] theorem Settings.tables_marks (g : Settings) (inUse named spares readOnly defaulted trialBank carried) :
    Settings.tables ⟨g.bank0, g.bank1, inUse, named, spares, readOnly, defaulted, trialBank, g.records, g.vol, g.inForce, carried, g.imported⟩
      = g.tables := rfl

@[simp] theorem StopChan.regoing_latches (ch : StopChan) (go : List Nat) : (ch.regoing go).latches = ch.latches := rfl

end Sys2Proof.Machine
end

section
set_option Elab.async false
/-!
PROOF. Operations that leave the measure as it is.
-/

namespace Sys2Proof.Machine

theorem State.offer_shape (s : State) (e : LogEv) : (State.offer s e).shape = s.shape := by
  unfold State.offer
  (repeat' split) <;> simp

theorem State.logEv_shape (s : State) (ev : Ev) (params : Bytes) : (State.logEv s ev params).shape = s.shape := by
  unfold State.logEv
  (repeat' split) <;> simp [State.offer_shape]

theorem State.count_shape (s : State) (source : Nat) (param : Nat) (n : Nat) : (State.count s source param n).shape = s.shape := by
  unfold State.count
  (repeat' split) <;> simp

theorem State.emit_shape (s : State) (o : Out) : (State.emit s o).shape = s.shape := by
  unfold State.emit
  (repeat' split) <;> simp

theorem State.timeMark_shape (s : State) : (State.timeMark s).shape = s.shape := by
  unfold State.timeMark
  (repeat' split) <;> simp [State.logEv_shape]

theorem State.setIsl_shape (s : State) (i : Island) (f : IslandRec → IslandRec) : (State.setIsl s i f).shape = s.shape := by
  unfold State.setIsl
  (repeat' split) <;> simp

theorem State.draw_shape (s : State) : (State.draw s).1.shape = s.shape := by
  unfold State.draw
  (repeat' split) <;> simp

theorem State.drawBytes_shape (s : State) (n : Nat) : (State.drawBytes s n).1.shape = s.shape := by
  unfold State.drawBytes
  (repeat' split) <;> simp

theorem State.decr_shape (s : State) (d : Nat) : (State.decr s d).shape = s.shape := by
  unfold State.decr
  (repeat' split) <;> simp [State.logEv_shape]

theorem State.decrN_shape (s : State) (d : Nat) (xs : Nat) : (State.decrN s d xs).shape = s.shape := by
  induction xs generalizing s with
  | zero => rfl
  | succ n ih => unfold State.decrN; rw [ih]; simp [State.decr_shape]

theorem State.setPkts_shape (s : State) (q : Nat) (pkts : List Pkt) : (State.setPkts s q pkts).shape = s.shape := by
  unfold State.setPkts
  simp; (repeat' split) <;> simp [State.decrN_shape]

theorem State.abandonOpen_shape (s : State) : (State.abandonOpen s).shape = s.shape := by
  unfold State.abandonOpen
  (repeat' split) <;> simp

theorem State.post?_shape (s : State) (q : Nat) (data : Bytes) {s' : State} (h : s.post? q data = some s') : s'.shape = s.shape := by
  unfold State.post? at h
  simp only [] at h
  split at h
  · cases h; simp [State.count_shape, State.setPkts_shape]
  · cases h

theorem State.post_shape (s : State) (q : Nat) (data : Bytes) : (State.post s q data).shape = s.shape := by
  unfold State.post
  cases e : s.post? q data with
  | none => rfl
  | some s' => exact State.post?_shape s q data e

theorem State.discardHart_shape (s : State) (h : Nat) (outcome : Nat) : (State.discardHart s h outcome).shape = s.shape := by
  unfold State.discardHart
  (repeat' split) <;> simp [State.post_shape]

theorem State.discardAll_shape (s : State) (outcome : Nat) : (State.discardAll s outcome).shape = s.shape := by
  unfold State.discardAll
  (repeat' split) <;> simp [State.discardHart_shape]

theorem State.wakeAll_shape (s : State) (wake : Nat) : (State.wakeAll s wake).shape = s.shape := by
  unfold State.wakeAll
  (repeat' split) <;> simp [State.emit_shape]

theorem State.completeTask_shape (s : State) (d : Nat) (outcome : Nat) : (State.completeTask s d outcome).shape = s.shape := by
  unfold State.completeTask
  (repeat' split) <;> simp [State.decr_shape]

theorem State.completeHart_shape (s : State) (h : Nat) (outcome : Nat) : (State.completeHart s h outcome).shape = s.shape := by
  unfold State.completeHart
  (repeat' split) <;> simp [State.completeTask_shape]

theorem State.setSession_shape (s : State) (i : Nat) (f : Session → Session) : (State.setSession s i f).shape = s.shape := by
  unfold State.setSession
  (repeat' split) <;> simp

theorem State.setApplet_shape (s : State) (f : Session → Session) : (State.setApplet s f).shape = s.shape := by
  unfold State.setApplet
  (repeat' split) <;> simp

theorem State.answer_shape (s : State) (c : Caller) (a : Ans) : (State.answer s c a).shape = s.shape := by
  unfold State.answer
  (repeat' split) <;> simp [State.setSession_shape, State.setApplet_shape, State.emit_shape]

theorem State.onSession_shape (s : State) (c : Caller) (f : Session → Session) : (State.onSession s c f).shape = s.shape := by
  unfold State.onSession
  (repeat' split) <;> simp [State.setSession_shape, State.setApplet_shape]

theorem State.answer?_shape (r : State × Option Ans) (c : Caller) : (State.answer? r c).shape = r.1.shape := by
  unfold State.answer?
  split
  · exact State.answer_shape _ _ _
  · rfl

theorem State.flushApplet_shape (s : State) : (State.flushApplet s).shape = s.shape := by
  unfold State.flushApplet
  simp [State.setApplet_shape]

theorem State.flushSession_shape (s : State) (i : Nat) : (State.flushSession s i).shape = s.shape := by
  unfold State.flushSession
  (repeat' split) <;> simp [State.setSession_shape]

theorem State.flush_shape (s : State) : (State.flush s).shape = s.shape := by
  unfold State.flush
  simp [State.flushApplet_shape, State.flushSession_shape]

theorem State.sendClose_shape (s : State) (i : Nat) : (State.sendClose s i).shape = s.shape := by
  unfold State.sendClose
  (repeat' split) <;> simp [State.emit_shape, State.setSession_shape]

theorem State.fillAll_shape (s : State) : (State.fillAll s).shape = s.shape := by
  unfold State.fillAll
  (repeat' split) <;> simp

theorem State.emitApplet_shape (s : State) (h : Nat) (word : Nat) (stage : Bytes) : (State.emitApplet s h word stage).shape = s.shape := by
  unfold State.emitApplet
  (repeat' split) <;> simp [State.offer_shape]

theorem State.logWriteNext_shape (s : State) : (State.logWriteNext s).shape = s.shape := by
  unfold State.logWriteNext
  (repeat' split) <;> simp [State.count_shape]

theorem State.timeMarkDue_shape (s : State) : (State.timeMarkDue s).shape = s.shape := by
  unfold State.timeMarkDue
  (repeat' split) <;> simp [State.timeMark_shape]

theorem State.rfOn_shape (s : State) (k : Nat) (tx : Bool) (from_ : Int) (till : Int) : (State.rfOn s k tx from_ till).shape = s.shape := by
  unfold State.rfOn
  (repeat' split) <;> simp [State.emit_shape]

theorem State.tuneTo_shape (s : State) (k : Nat) (entry : Bytes) (end_ : Int) : (State.tuneTo s k entry end_).shape = s.shape := by
  unfold State.tuneTo
  (repeat' split) <;> simp [State.emit_shape]

theorem State.listensDue_shape (s : State) (t0 : Int) (t1 : Int) : (State.listensDue s t0 t1).shape = s.shape := by
  unfold State.listensDue
  (repeat' split) <;> simp [State.rfOn_shape, State.tuneTo_shape]

theorem State.setModem_shape (s : State) (m : Nat) (f : Modem → Modem) : (State.setModem s m f).shape = s.shape := by
  unfold State.setModem
  (repeat' split) <;> simp

theorem State.moveTime_shape (s : State) (d : Int) : (State.moveTime s d).shape = s.shape := by
  unfold State.moveTime
  (repeat' split) <;> simp

theorem State.stepMark_shape (s : State) : (State.stepMark s).shape = s.shape := by
  unfold State.stepMark
  (repeat' split) <;> simp [State.timeMark_shape]

theorem State.acquire_shape (s : State) : (State.acquire s).shape = s.shape := by
  unfold State.acquire
  split
  · rfl
  · simp only []; split <;> simp [State.moveTime_shape, State.stepMark_shape, State.logEv_shape]

theorem State.markDisagree_shape (s : State) : (State.markDisagree s).shape = s.shape := by
  unfold State.markDisagree
  (repeat' split) <;> simp [State.logEv_shape]

theorem State.enterSlew_shape (s : State) (c : Nat) : (State.enterSlew s c).shape = s.shape := by
  unfold State.enterSlew
  (repeat' split) <;> simp

theorem State.enterHold_shape (s : State) (jump : Bool) : (State.enterHold s jump).shape = s.shape := by
  unfold State.enterHold
  (repeat' split) <;> simp [State.logEv_shape]

theorem State.servo_shape (s : State) : (State.servo s).shape = s.shape := by
  unfold State.servo
  simp; (repeat' split) <;> simp [State.markDisagree_shape, State.enterSlew_shape, State.enterHold_shape, State.logEv_shape]

theorem State.sourceGone_shape (s : State) (c : Nat) : (State.sourceGone s c).shape = s.shape := by
  unfold State.sourceGone
  (repeat' split) <;> simp [State.servo_shape]

theorem State.slewDone_shape (s : State) : (State.slewDone s).shape = s.shape := by
  unfold State.slewDone
  (repeat' split) <;> simp

theorem State.advance_shape (s : State) (t : Nat) : (State.advance s t).shape = s.shape := by
  unfold State.advance
  (repeat' split) <;> simp [State.slewDone_shape, State.count_shape, State.listensDue_shape]

theorem State.rollBound_shape (s : State) : (State.rollBound s).shape = s.shape := by
  unfold State.rollBound
  (repeat' split) <;> simp

theorem State.slewMoved_shape (s : State) : (State.slewMoved s).shape = s.shape := by
  unfold State.slewMoved
  (repeat' split) <;> simp

theorem State.slewRated_shape (s : State) : (State.slewRated s).shape = s.shape := by
  unfold State.slewRated
  (repeat' split) <;> simp

theorem State.refinChosen_shape (s : State) (v : Nat) : (State.refinChosen s v).shape = s.shape := by
  unfold State.refinChosen
  (repeat' split) <;> simp [State.rollBound_shape]

theorem State.steer_shape (s : State) (c : Nat) (off : Int) : (State.steer s c off).shape = s.shape := by
  unfold State.steer
  (repeat' split) <;> simp

theorem State.offset_shape (s : State) (c : Nat) (off : Int) (bound : Nat) : (State.offset s c off bound).shape = s.shape := by
  unfold State.offset
  (repeat' split) <;> simp [State.steer_shape, State.servo_shape]

theorem State.ppsEdge_shape (s : State) (edge : Int) : (State.ppsEdge s edge).shape = s.shape := by
  unfold State.ppsEdge
  simp only []
  (repeat' split) <;> simp [State.offset_shape]

theorem State.setCap_shape (s : State) (n : Nat) (f : Capture → Capture) : (State.setCap s n f).shape = s.shape := by
  unfold State.setCap
  (repeat' split) <;> simp

theorem State.postCaptures_shape (s : State) (n : Nat) (xs : Nat) : (State.postCaptures s n xs).shape = s.shape := by
  induction xs generalizing s with
  | zero => rfl
  | succ n ih =>
    unfold State.postCaptures
    split
    · rfl
    · split
      · rfl
      · rename_i e
        rw [ih, State.setCap_shape]
        exact State.post?_shape _ _ _ e

theorem State.capture_shape (s : State) (n : Nat) (rising : Bool) (quarter : Nat) (late : Bool) : (State.capture s n rising quarter late).shape = s.shape := by
  unfold State.capture
  (repeat' split) <;> simp [State.setCap_shape, State.postCaptures_shape]

theorem State.capEdge_shape (s : State) (n : Nat) (rising : Bool) (quarter : Nat) : (State.capEdge s n rising quarter).shape = s.shape := by
  unfold State.capEdge
  (repeat' split) <;> simp [State.ppsEdge_shape, State.setCap_shape, State.capture_shape]

theorem State.setOut_shape (s : State) (n : Nat) (f : TimeOut → TimeOut) : (State.setOut s n f).shape = s.shape := by
  unfold State.setOut
  (repeat' split) <;> simp

theorem State.pulseCommitted_shape (s : State) (n : Nat) : (State.pulseCommitted s n).shape = s.shape := by
  unfold State.pulseCommitted
  (repeat' split) <;> simp [State.setOut_shape]

theorem State.stepArm_shape (s : State) : (State.stepArm s).1.shape = s.shape := by
  unfold State.stepArm
  (repeat' split) <;> simp

theorem State.stepDisarm_shape (s : State) : (State.stepDisarm s).1.shape = s.shape := by
  unfold State.stepDisarm
  (repeat' split) <;> simp

theorem State.ppsTimeOfDay_shape (s : State) (v : Bytes) : (State.ppsTimeOfDay s v).1.shape = s.shape := by
  unfold State.ppsTimeOfDay
  simp; (repeat' split) <;> simp

theorem State.skipPulse_shape (s : State) (n : Nat) (k : Nat) : (State.skipPulse s n k).shape = s.shape := by
  unfold State.skipPulse
  (repeat' split) <;> simp [State.setOut_shape, State.logEv_shape]

theorem State.pulseDue_shape (s : State) (n : Nat) : (State.pulseDue s n).shape = s.shape := by
  unfold State.pulseDue
  simp; (repeat' split) <;> simp [State.skipPulse_shape, State.setOut_shape, State.emit_shape]

theorem State.pulseEnd_shape (s : State) (n : Nat) : (State.pulseEnd s n).shape = s.shape := by
  unfold State.pulseEnd
  (repeat' split) <;> simp [State.setOut_shape, State.emit_shape]

theorem State.qualify_shape (s : State) (c : Nat) : (State.qualify s c).shape = s.shape := by
  unfold State.qualify
  (repeat' split) <;> simp [State.servo_shape]

theorem State.refinBack_shape (s : State) (clock : Nat) : (State.refinBack s clock).shape = s.shape := by
  unfold State.refinBack
  (repeat' split) <;> simp [State.rollBound_shape, State.logEv_shape]

theorem State.refinLost_shape (s : State) : (State.refinLost s).shape = s.shape := by
  unfold State.refinLost
  (repeat' split) <;> simp [State.rollBound_shape, State.logEv_shape]

theorem State.takeStep_shape (s : State) : (State.takeStep s).shape = s.shape := by
  unfold State.takeStep
  (repeat' split) <;> simp [State.moveTime_shape, State.logEv_shape, State.stepMark_shape]

theorem State.todDue_shape (s : State) (n : Nat) : (State.todDue s n).shape = s.shape := by
  unfold State.todDue
  (repeat' split) <;> simp [State.emit_shape, State.setOut_shape]

theorem State.refreshGo_shape (s : State) : (State.refreshGo s).shape = s.shape := by
  unfold State.refreshGo
  (repeat' split) <;> simp

theorem State.toNbr_shape (s : State) (n : Nat) (index : Nat) (msg : Bytes) : (State.toNbr s n index msg).shape = s.shape := by
  unfold State.toNbr
  simp; (repeat' split) <;> simp [State.emit_shape, State.setSession_shape]

theorem State.sendNotices_shape (s : State) (reason : Nat) : (State.sendNotices s reason).shape = s.shape := by
  unfold State.sendNotices
  (repeat' split) <;> simp [State.toNbr_shape]

theorem State.answerWaiting_shape (s : State) : (State.answerWaiting s).shape = s.shape := by
  unfold State.answerWaiting
  (repeat' split) <;> simp [State.answer_shape]

theorem State.setIn_shape (s : State) (n : Nat) (f : StopIn → StopIn) : (State.setIn s n f).shape = s.shape := by
  unfold State.setIn
  (repeat' split) <;> simp

theorem State.cancelRelease_shape (s : State) : (State.cancelRelease s).shape = s.shape := by
  unfold State.cancelRelease
  (repeat' split) <;> simp

theorem State.heldTaken_shape (s : State) (before : StopBath) (h : Latch × Nat) : (State.heldTaken s before h).shape = s.shape := by
  unfold State.heldTaken
  (repeat' split) <;> simp [State.count_shape, State.sendNotices_shape]

theorem State.setNbr_shape (s : State) (n : Nat) (f : Neighbour → Neighbour) : (State.setNbr s n f).shape = s.shape := by
  unfold State.setNbr
  (repeat' split) <;> simp

theorem State.releaseArmed_shape (s : State) (v : Bytes) (priv : Nat) : (State.releaseArmed s v priv).1.shape = s.shape := by
  unfold State.releaseArmed
  (repeat' split) <;> simp [State.draw_shape]

theorem State.repeatNotice_shape (s : State) (n : Nat) : (State.repeatNotice s n).shape = s.shape := by
  unfold State.repeatNotice
  (repeat' split) <;> simp [State.toNbr_shape]

theorem State.sendVotes_shape (s : State) : (State.sendVotes s).shape = s.shape := by
  unfold State.sendVotes
  (repeat' split) <;> simp

theorem State.setSo_shape (s : State) (n : Nat) (f : StopOut → StopOut) : (State.setSo s n f).shape = s.shape := by
  unfold State.setSo
  (repeat' split) <;> simp

theorem State.siPin_shape (s : State) (n : Nat) (pin : Nat) (level : Bool) : (State.siPin s n pin level).shape = s.shape := by
  unfold State.siPin
  (repeat' split) <;> simp [State.setIn_shape]

theorem State.soPulseBegin_shape (s : State) (n : Nat) : (State.soPulseBegin s n).shape = s.shape := by
  unfold State.soPulseBegin
  (repeat' split) <;> simp [State.setSo_shape]

theorem State.soRecovered_shape (s : State) (n : Nat) (pp : Bool) (nn : Bool) : (State.soRecovered s n pp nn).shape = s.shape := by
  unfold State.soRecovered
  (repeat' split) <;> simp [State.setSo_shape]

theorem State.endCancel_shape (s : State) (n : Nat) (x : CanSend) (outcome : Nat) : (State.endCancel s n x outcome).shape = s.shape := by
  unfold State.endCancel
  (repeat' split) <;> simp [State.answer_shape]

theorem State.setCan_shape (s : State) (n : Nat) (f : CanPort → CanPort) : (State.setCan s n f).shape = s.shape := by
  unfold State.setCan
  (repeat' split) <;> simp

theorem State.endSend_shape (s : State) (n : Nat) (x : CanSend) (outcome : Nat) (stamp : Int × Nat) : (State.endSend s n x outcome stamp).shape = s.shape := by
  unfold State.endSend
  (repeat' split) <;> simp [State.setCan_shape, State.answer_shape]

theorem State.endSendsOf_shape (s : State) (p : Caller → Bool) (outcome : Nat) : (State.endSendsOf s p outcome).shape = s.shape := by
  unfold State.endSendsOf
  rw [State.shape_foldl]
  intro s n
  rw [State.shape_foldl]
  intro s x
  rw [State.endCancel_shape, State.endSend_shape]

theorem State.endSends_shape (s : State) (n : Nat) (outcome : Nat) : (State.endSends s n outcome).shape = s.shape := by
  unfold State.endSends
  (repeat' split) <;> simp [State.endCancel_shape, State.endSend_shape]

theorem State.canResetPort_shape (s : State) (n : Nat) : (State.canResetPort s n).shape = s.shape := by
  unfold State.canResetPort
  (repeat' split) <;> simp [State.setCan_shape, State.endSends_shape]

theorem State.canReset_shape (s : State) : (State.canReset s).shape = s.shape := by
  unfold State.canReset
  (repeat' split) <;> simp [State.canResetPort_shape]

theorem State.canSleepReq_shape (s : State) (n : Nat) : (State.canSleepReq s n).1.shape = s.shape := by
  unfold State.canSleepReq
  (repeat' split) <;> simp [State.setCan_shape]

theorem State.canWake_shape (s : State) (n : Nat) (cause : Nat) : (State.canWake s n cause).shape = s.shape := by
  unfold State.canWake
  (repeat' split) <;> simp [State.logEv_shape, State.emit_shape, State.setCan_shape]

theorem State.canWakeReq_shape (s : State) (n : Nat) : (State.canWakeReq s n).1.shape = s.shape := by
  unfold State.canWakeReq
  (repeat' split) <;> simp [State.canWake_shape, State.setCan_shape]

theorem State.bufferWritten_shape (s : State) (n : Nat) (b : Nat) (old : Nat) : (State.bufferWritten s n b old).shape = s.shape := by
  unfold State.bufferWritten
  (repeat' split) <;> simp [State.setCan_shape]

theorem State.canNoAcked_shape (s : State) (n : Nat) : (State.canNoAcked s n).shape = s.shape := by
  unfold State.canNoAcked
  (repeat' split) <;> simp [State.setCan_shape, State.logEv_shape]

theorem State.canErrored_shape (s : State) (n : Nat) (ack : Bool) : (State.canErrored s n ack).shape = s.shape := by
  unfold State.canErrored
  (repeat' split) <;> simp [State.canNoAcked_shape, State.setCan_shape]

theorem State.sendTried_shape (s : State) (n : Nat) (x : CanSend) (stamp : Int × Nat) (ok : Bool) : (State.sendTried s n x stamp ok).shape = s.shape := by
  unfold State.sendTried
  (repeat' split) <;> simp [State.endCancel_shape, State.endSend_shape, State.setCan_shape]

theorem State.refTried_shape (s : State) (n : Nat) (m : CanRefMsg) (stamp : Int × Nat) (ok : Bool) : (State.refTried s n m stamp ok).shape = s.shape := by
  unfold State.refTried
  (repeat' split) <;> simp [State.setCan_shape]

theorem State.bufferAck_shape (s : State) (n : Nat) (b : Nat) (seq : Nat) : (State.bufferAck s n b seq).1.shape = s.shape := by
  unfold State.bufferAck
  simp; (repeat' split) <;> simp [State.setCan_shape]

theorem State.canCancelReq_shape (s : State) (c : Caller) (req : Bytes) (trying : Bool) : (State.canCancelReq s c req trying).1.shape = s.shape := by
  unfold State.canCancelReq
  simp; (repeat' split) <;> simp [State.setCan_shape, State.endSend_shape]

theorem State.canEdge_shape (s : State) (n : Nat) (width : Nat) : (State.canEdge s n width).shape = s.shape := by
  unfold State.canEdge
  (repeat' split) <;> simp [State.canWake_shape]

theorem State.fifoTake_shape (s : State) (n : Nat) (i : Nat) (stamp : Int × Nat) (f : CanFrame) : (State.fifoTake s n i stamp f).shape = s.shape := by
  unfold State.fifoTake
  simp [State.draw_shape, State.setCan_shape, State.logEv_shape]

theorem State.placeFrame_shape (s : State) (n : Nat) (stamp : Int × Nat) (f : CanFrame) : (State.placeFrame s n stamp f).shape = s.shape := by
  unfold State.placeFrame
  (repeat' split) <;> simp [State.setCan_shape, State.fifoTake_shape]

theorem State.canRxGood_shape (s : State) (n : Nat) : (State.canRxGood s n).shape = s.shape := by
  unfold State.canRxGood
  simp [State.setCan_shape, State.draw_shape]

theorem State.canIntegrated_shape (s : State) (n : Nat) : (State.canIntegrated s n).shape = s.shape := by
  unfold State.canIntegrated
  (repeat' split) <;> simp [State.setCan_shape]

theorem State.canPortCommitted_shape (s : State) (n : Nat) : (State.canPortCommitted s n).shape = s.shape := by
  unfold State.canPortCommitted
  (repeat' split) <;> simp [State.setCan_shape, State.endSends_shape]

theorem State.canRecoverReq_shape (s : State) (n : Nat) : (State.canRecoverReq s n).1.shape = s.shape := by
  unfold State.canRecoverReq
  (repeat' split) <;> simp [State.setCan_shape]

theorem State.canRecovered_shape (s : State) (n : Nat) : (State.canRecovered s n).shape = s.shape := by
  unfold State.canRecovered
  (repeat' split) <;> simp [State.setCan_shape]

theorem State.canRestart_shape (s : State) : (State.canRestart s).shape = s.shape := by
  unfold State.canRestart
  (repeat' split) <;> simp [State.endSends_shape]

theorem State.putSend_shape (s : State) (c : Caller) (n : Nat) (b : Nat) (f : CanFrame) : (State.putSend s c n b f).shape = s.shape := by
  unfold State.putSend
  simp [State.draw_shape, State.setCan_shape]

theorem State.canSendReq_shape (s : State) (c : Caller) (req : Bytes) : (State.canSendReq s c req).1.shape = s.shape := by
  unfold State.canSendReq
  simp; (repeat' split) <;> simp [State.putSend_shape]

theorem State.canSleepIn_shape (s : State) (n : Nat) : (State.canSleepIn s n).shape = s.shape := by
  unfold State.canSleepIn
  (repeat' split) <;> simp [State.endSends_shape, State.emit_shape, State.setCan_shape]

theorem State.canStepped_shape (s : State) : (State.canStepped s).shape = s.shape := by
  unfold State.canStepped
  (repeat' split) <;> simp

theorem State.canTmCommitted_shape (s : State) : (State.canTmCommitted s).shape = s.shape := by
  unfold State.canTmCommitted
  (repeat' split) <;> simp

theorem State.canTx_shape (s : State) (c : Caller) (req : Bytes) (trying : Bool) : (State.canTx s c req trying).1.shape = s.shape := by
  unfold State.canTx
  (repeat' split) <;> simp [State.canCancelReq_shape, State.canSendReq_shape]

theorem State.postFifo_shape (s : State) (n : Nat) (i : Nat) (q : Nat) (xs : Nat) : (State.postFifo s n i q xs).shape = s.shape := by
  induction xs generalizing s with
  | zero => rfl
  | succ n ih =>
    unfold State.postFifo
    split
    · rfl
    · split
      · rfl
      · rename_i e
        rw [ih, State.setCan_shape]
        exact State.post?_shape _ _ _ e

theorem State.fifoPost_shape (s : State) (n : Nat) (i : Nat) : (State.fifoPost s n i).shape = s.shape := by
  unfold State.fifoPost
  (repeat' split) <;> simp [State.postFifo_shape]

theorem State.tmPort_shape (s : State) (k : Int) (n : Nat) : (State.tmPort s k n).shape = s.shape := by
  unfold State.tmPort
  (repeat' split) <;> simp [State.setCan_shape]

theorem State.tmBoundary_shape (s : State) : (State.tmBoundary s).shape = s.shape := by
  unfold State.tmBoundary
  (repeat' split) <;> simp [State.tmPort_shape]

theorem State.ageOut_shape (s : State) (mac : Nat) : (State.ageOut s mac).shape = s.shape := by
  unfold State.ageOut
  (repeat' split) <;> simp

theorem State.setEth_shape (s : State) (n : Nat) (f : EthPort → EthPort) : (State.setEth s n f).shape = s.shape := by
  unfold State.setEth
  (repeat' split) <;> simp

theorem State.setPtp_shape (s : State) (n : Nat) (st : Nat) (parent : Option PtpMsg) : (State.setPtp s n st parent).shape = s.shape := by
  unfold State.setPtp
  (repeat' split) <;> simp [State.setEth_shape, State.sourceGone_shape]

theorem State.decidePort_shape (s : State) (n : Nat) : (State.decidePort s n).shape = s.shape := by
  unfold State.decidePort
  simp; (repeat' split) <;> simp [State.setPtp_shape, State.setEth_shape]

theorem State.decidePorts_shape (s : State) : (State.decidePorts s).shape = s.shape := by
  unfold State.decidePorts
  (repeat' split) <;> simp [State.decidePort_shape]

theorem State.announceIn_shape (s : State) (n : Nat) (m : PtpMsg) : (State.announceIn s n m).shape = s.shape := by
  unfold State.announceIn
  (repeat' split) <;> simp [State.setEth_shape, State.decidePorts_shape]

theorem State.preMaster_shape (s : State) (n : Nat) : (State.preMaster s n).shape = s.shape := by
  unfold State.preMaster
  (repeat' split) <;> simp [State.setPtp_shape]

theorem State.enqueue_shape (s : State) (n : Nat) (e : EgFrame) : (State.enqueue s n e).shape = s.shape := by
  unfold State.enqueue
  (repeat' split) <;> simp [State.setEth_shape]

theorem State.sendPtp_shape (s : State) (n : Nat) (m : PtpMsg) (act : Depart) : (State.sendPtp s n m act).shape = s.shape := by
  unfold State.sendPtp
  (repeat' split) <;> simp [State.enqueue_shape]

theorem State.announceOut_shape (s : State) (n : Nat) : (State.announceOut s n).shape = s.shape := by
  unfold State.announceOut
  (repeat' split) <;> simp [State.preMaster_shape, State.setEth_shape, State.sendPtp_shape]

theorem State.announceTimeout_shape (s : State) (n : Nat) : (State.announceTimeout s n).shape = s.shape := by
  unfold State.announceTimeout
  (repeat' split) <;> simp [State.setEth_shape, State.setPtp_shape]

theorem State.ptpInit_shape (s : State) (n : Nat) : (State.ptpInit s n).shape = s.shape := by
  unfold State.ptpInit
  (repeat' split) <;> simp [State.setEth_shape, State.sourceGone_shape]

theorem State.setEthLink_shape (s : State) (n : Nat) (code : Nat) : (State.setEthLink s n code).shape = s.shape := by
  unfold State.setEthLink
  (repeat' split) <;> simp [State.setEth_shape, State.ptpInit_shape]

theorem State.ethConfigured_shape (s : State) (n : Nat) (old : Bytes) : (State.ethConfigured s n old).shape = s.shape := by
  unfold State.ethConfigured
  (repeat' split) <;> simp [State.setEthLink_shape]

theorem State.ptpCommitted_shape (s : State) (old : List Bytes) : (State.ptpCommitted s old).shape = s.shape := by
  unfold State.ptpCommitted
  (repeat' split) <;> simp [State.ptpInit_shape]

theorem State.controlWord_shape (s : State) (n : Nat) (w : Nat) : (State.controlWord s n w).shape = s.shape := by
  unfold State.controlWord
  (repeat' split) <;> simp [State.emit_shape, State.setEth_shape, State.setEthLink_shape]

theorem State.delayReqIn_shape (s : State) (n : Nat) (m : PtpMsg) : (State.delayReqIn s n m).shape = s.shape := by
  unfold State.delayReqIn
  (repeat' split) <;> simp [State.sendPtp_shape]

theorem State.delayReqOut_shape (s : State) (n : Nat) : (State.delayReqOut s n).shape = s.shape := by
  unfold State.delayReqOut
  (repeat' split) <;> simp [State.setEth_shape, State.sendPtp_shape]

theorem State.delayRespIn_shape (s : State) (n : Nat) (m : PtpMsg) : (State.delayRespIn s n m).shape = s.shape := by
  unfold State.delayRespIn
  simp; (repeat' split) <;> simp [State.setEth_shape]

theorem State.depart_shape (s : State) (n : Nat) (m : PtpMsg) (act : Depart) : (State.depart s n m act).1.shape = s.shape := by
  unfold State.depart
  (repeat' split) <;> simp [State.sendPtp_shape, State.setEth_shape]

theorem State.ethOut_shape (s : State) (n : Nat) (f : Bytes) : (State.ethOut s n f).shape = s.shape := by
  unfold State.ethOut
  (repeat' split) <;> simp [State.emit_shape]

theorem State.netRestart_shape (s : State) : (State.netRestart s).shape = s.shape := by
  unfold State.netRestart
  (repeat' split) <;> simp

theorem State.learn_shape (s : State) (mac : Nat) (n : Nat) : (State.learn s mac n).shape = s.shape := by
  unfold State.learn
  (repeat' split) <;> simp

theorem State.forward_shape (s : State) (n : Nat) (f : Bytes) : (State.forward s n f).shape = s.shape := by
  unfold State.forward
  (repeat' split) <;> simp [State.learn_shape, State.count_shape, State.setEth_shape, State.enqueue_shape]

theorem State.frameIn_shape (s : State) (n : Nat) (groups : Bytes) : (State.frameIn s n groups).shape = s.shape := by
  unfold State.frameIn
  (repeat' split) <;> simp [State.forward_shape, State.setEth_shape]

theorem State.uncorrected_shape (s : State) : (State.uncorrected s).shape = s.shape := by
  unfold State.uncorrected
  (repeat' split) <;> simp

theorem State.holdResidence_shape (s : State) (h : Residence) : (State.holdResidence s h).shape = s.shape := by
  unfold State.holdResidence
  (repeat' split) <;> simp

theorem State.residence_shape (s : State) (n : Nat) (e : EgFrame) (m : PtpMsg) : (State.residence s n e m).1.shape = s.shape := by
  unfold State.residence
  simp; (repeat' split) <;> simp [State.uncorrected_shape, State.holdResidence_shape]

theorem State.frameOut_shape (s : State) (n : Nat) : (State.frameOut s n).shape = s.shape := by
  unfold State.frameOut
  (repeat' split) <;> simp [State.setEth_shape, State.ethOut_shape, State.depart_shape, State.residence_shape]

theorem State.offerPtp_shape (s : State) (n : Nat) (leg : Int) : (State.offerPtp s n leg).shape = s.shape := by
  unfold State.offerPtp
  (repeat' split) <;> simp [State.setEth_shape, State.offset_shape]

theorem State.pcsSync_shape (s : State) (n : Nat) (up : Bool) : (State.pcsSync s n up).shape = s.shape := by
  unfold State.pcsSync
  (repeat' split) <;> simp [State.setEth_shape, State.setEthLink_shape]

theorem State.syncIn_shape (s : State) (n : Nat) (m : PtpMsg) : (State.syncIn s n m).shape = s.shape := by
  unfold State.syncIn
  simp [State.setEth_shape, State.offerPtp_shape]; (repeat' split) <;> simp [State.offerPtp_shape]

theorem State.syncOut_shape (s : State) (n : Nat) : (State.syncOut s n).shape = s.shape := by
  unfold State.syncOut
  (repeat' split) <;> simp [State.setEth_shape, State.sendPtp_shape]

theorem State.syncTimeout_shape (s : State) (n : Nat) : (State.syncTimeout s n).shape = s.shape := by
  unfold State.syncTimeout
  (repeat' split) <;> simp [State.sourceGone_shape, State.setEth_shape]

theorem State.dropKeyless_shape (s : State) : (State.dropKeyless s).shape = s.shape := by
  unfold State.dropKeyless
  (repeat' split) <;> simp [State.answer_shape]

theorem State.sealWith_shape (s : State) (binding : Nat) (key : Bytes) (plain : Bytes) : (State.sealWith s binding key plain).1.shape = s.shape := by
  unfold State.sealWith
  (repeat' split) <;> simp [State.drawBytes_shape]

theorem State.sealOp_shape (s : State) (binding : Nat) (data : Bytes) : (State.sealOp s binding data).1.shape = s.shape := by
  unfold State.sealOp
  (repeat' split) <;> simp [State.sealWith_shape]

theorem State.unsealOp_shape (s : State) (binding : Nat) (data : Bytes) : (State.unsealOp s binding data).1.shape = s.shape := by
  unfold State.unsealOp
  (repeat' split) <;> simp

theorem State.forwardOp_shape (s : State) (binding : Nat) (data : Bytes) : (State.forwardOp s binding data).1.shape = s.shape := by
  unfold State.forwardOp
  (repeat' split) <;> simp [State.sealWith_shape]

theorem State.sealPort_shape (s : State) (c : Caller) (req : Bytes) : (State.sealPort s c req).1.shape = s.shape := by
  unfold State.sealPort
  simp; (repeat' split) <;> simp [State.sealOp_shape, State.unsealOp_shape, State.forwardOp_shape]

theorem State.nearFull_shape (s : State) : (State.nearFull s).shape = s.shape := by
  unfold State.nearFull
  (repeat' split) <;> simp [State.logEv_shape]

theorem State.combSettled_shape (s : State) : (State.combSettled s).shape = s.shape := by
  unfold State.combSettled
  (repeat' split) <;> simp [State.nearFull_shape]

theorem State.blockExpire_shape (s : State) (bucket : Nat) (slot : Nat) : (State.blockExpire s bucket slot).shape = s.shape := by
  unfold State.blockExpire
  (repeat' split) <;> simp [State.combSettled_shape]

theorem State.pruneTracks_shape (s : State) : (State.pruneTracks s).shape = s.shape := by
  unfold State.pruneTracks
  (repeat' split) <;> simp

theorem State.blockSlot_shape (s : State) (bucket : Nat) (slot : Nat) : (State.blockSlot s bucket slot).shape = s.shape := by
  unfold State.blockSlot
  (repeat' split) <;> simp [State.logEv_shape, State.combSettled_shape, State.pruneTracks_shape]

theorem State.clearBlocked_shape (s : State) : (State.clearBlocked s).1.shape = s.shape := by
  unfold State.clearBlocked
  (repeat' split) <;> simp [State.combSettled_shape]

theorem State.retireDone_shape (s : State) (g : Nat) : (State.retireDone s g).shape = s.shape := by
  unfold State.retireDone
  (repeat' split) <;> simp [State.combSettled_shape, State.logEv_shape]

theorem State.retireGroup_shape (s : State) (g : Nat) : (State.retireGroup s g).shape = s.shape := by
  unfold State.retireGroup
  rw [State.combSettled_shape]
  have h (c : Comb) (l : List Entry) (f : Comb → Entry → Comb) (hf : ∀ c e, (f c e).rings = c.rings) :
      State.shape { s with comb := l.foldl f c } = { s.shape with rings := c.rings } := by
    simp [Comb.rings_foldl f l c hf]
  refine (h _ _ _ fun c e => ?_).trans (by simp)
  extract_lets b other c'
  split
  · split
    · simp [c']
    · rfl
  · rfl

theorem State.sweep_shape (s : State) (bucket : Nat) : (State.sweep s bucket).shape = s.shape := by
  unfold State.sweep
  (repeat' split) <;> simp [State.combSettled_shape, State.pruneTracks_shape]

theorem State.combAnswer_shape (s : State) (c : Caller) (out : Nat) (resp : Bytes) : (State.combAnswer s c out resp).shape = s.shape := by
  unfold State.combAnswer
  (repeat' split) <;> simp [State.answer_shape]

theorem State.combDiscard_shape (s : State) (out : Nat) (r : CombReq) : (State.combDiscard s out r).shape = s.shape := by
  unfold State.combDiscard
  (repeat' split) <;> simp [State.combAnswer_shape]

theorem State.noteLater_shape (s : State) (seq : Nat) (old : List Entry) : (State.noteLater s seq old).shape = s.shape := by
  unfold State.noteLater
  (repeat' split) <;> simp

theorem State.setFlight_shape (s : State) (seq : Nat) (f : Flight → Flight) : (State.setFlight s seq f).shape = s.shape := by
  unfold State.setFlight
  (repeat' split) <;> simp

theorem State.combReply_shape (s : State) (r : CombReq) (seq : Nat) (v : Verdict) (tail : Bytes) : (State.combReply s r seq v tail).shape = s.shape := by
  unfold State.combReply
  (repeat' split) <;> simp [State.combAnswer_shape, State.count_shape]

theorem State.endReq_shape (s : State) (r : CombReq) (seq : Nat) (v : Verdict) (tail : Bytes) : (State.endReq s r seq v tail).shape = s.shape := by
  unfold State.endReq
  (repeat' split) <;> simp [State.combReply_shape]

theorem State.seenBefore_shape (s : State) (f : Flight) : (State.seenBefore s f).shape = s.shape := by
  unfold State.seenBefore
  (repeat' split) <;> simp

theorem State.sendShorten_shape (s : State) (c : Comb) (l : List Entry) : (State.sendShorten s c l).shape = s.shape := by
  unfold State.sendShorten
  (repeat' split) <;> simp [State.toNbr_shape]

theorem State.release_shape (s : State) (r : Creq) (tacc : Nat) : (State.release s r tacc).1.shape = s.shape := by
  unfold State.release
  simp; (repeat' split) <;> simp [State.combSettled_shape, State.pruneTracks_shape, State.sendShorten_shape]

theorem State.writeEntries_shape (s : State) (d : Demand) (l : List Cov) : (State.writeEntries s d l).shape = s.shape := by
  unfold State.writeEntries
  (repeat' split) <;> simp [State.combSettled_shape]

theorem State.forceArea_shape (s : State) (now : Nat) (l : List Cov) : (State.forceArea s now l).1.shape = s.shape := by
  unfold State.forceArea
  (repeat' split) <;> simp [State.pruneTracks_shape, State.sendShorten_shape, State.logEv_shape]

theorem State.commitReq_shape (s : State) (r : Creq) (raw : Bytes) (f : Flight) (mirror : Nat) : (State.commitReq s r raw f mirror).1.shape = s.shape := by
  unfold State.commitReq
  (repeat' split) <;> simp [State.sendShorten_shape, State.forceArea_shape, State.combSettled_shape]

theorem State.sendPrepares_shape (s : State) (owner tag mirror seq : Nat) (parts : List (Nat × List Cov)) :
    (State.sendPrepares s owner tag mirror seq parts).1.shape = s.shape := by
  unfold State.sendPrepares
  rw [State.shape_foldl_fst]
  intro z x
  simp only []
  split <;> simp [State.toNbr_shape]

theorem State.runClaim_shape (s : State) (r : CombReq) (f : Flight) : (State.runClaim s r f).shape = s.shape := by
  unfold State.runClaim
  (repeat' split) <;> simp [State.endReq_shape, State.writeEntries_shape, State.commitReq_shape, State.sendPrepares_shape, State.setFlight_shape]

theorem State.runReq_shape (s : State) (r : CombReq) (f : Flight) : (State.runReq s r f).shape = s.shape := by
  unfold State.runReq
  simp; (repeat' split) <;> simp [State.endReq_shape, State.release_shape, State.runClaim_shape]

theorem State.runTrim_shape (s : State) (t : TrimOp) (f : Flight) : (State.runTrim s t f).shape = s.shape := by
  unfold State.runTrim
  simp; (repeat' split) <;> simp [State.combSettled_shape, State.pruneTracks_shape, State.sendShorten_shape]

theorem State.acceptOp_shape (s : State) (op : FlightOp) (counted : Bool) : (State.acceptOp s op counted).1.shape = s.shape := by
  unfold State.acceptOp
  (repeat' split) <;> simp [State.count_shape]

theorem State.acceptNext_shape (s : State) : (State.acceptNext s).shape = s.shape := by
  unfold State.acceptNext
  (repeat' split) <;> simp [State.acceptOp_shape]

theorem State.sendPhase_shape (s : State) (n : Nat) (type : Nat) (exch : Nat) : (State.sendPhase s n type exch).shape = s.shape := by
  unfold State.sendPhase
  (repeat' split) <;> simp [State.toNbr_shape]

theorem State.exchangeDrop_shape (s : State) (f : Flight) (asked : List Asked) : (State.exchangeDrop s f asked).shape = s.shape := by
  unfold State.exchangeDrop
  (repeat' split) <;> simp [State.combSettled_shape, State.noteLater_shape, State.sendPhase_shape]

theorem State.combEndFlight_shape (s : State) (out : Nat) (f : Flight) : (State.combEndFlight s out f).shape = s.shape := by
  unfold State.combEndFlight
  (repeat' split) <;> simp [State.exchangeDrop_shape, State.combDiscard_shape, State.combAnswer_shape, State.answer_shape]

theorem State.combEnd_shape (s : State) (p : Caller → Bool) (out : Nat) : (State.combEnd s p out).shape = s.shape := by
  unfold State.combEnd
  simp [State.combDiscard_shape, State.combEndFlight_shape]

theorem State.clashEnded_shape (s : State) : (State.clashEnded s).shape = s.shape := by
  unfold State.clashEnded
  (repeat' split) <;> simp [State.refreshGo_shape]

theorem State.clashHeard_shape (s : State) : (State.clashHeard s).shape = s.shape := by
  unfold State.clashHeard
  (repeat' split) <;> simp [State.refreshGo_shape, State.logEv_shape]

theorem State.clashSilent_shape (s : State) : (State.clashSilent s).shape = s.shape := by
  unfold State.clashSilent
  (repeat' split) <;> simp [State.clashEnded_shape]

theorem State.prepareTag_shape (s : State) (n : Nat) (ms : List Mirror) : (State.prepareTag s n ms).1.shape = s.shape := by
  unfold State.prepareTag
  (repeat' split) <;> simp [State.draw_shape]

theorem State.msgAnswer_shape (s : State) (r : CombReq) (owner : Nat) (tag : Nat) (seq : Nat) (v : Verdict) : (State.msgAnswer s r owner tag seq v).shape = s.shape := by
  unfold State.msgAnswer
  (repeat' split) <;> simp [State.combAnswer_shape]

theorem State.runPrepare_shape (s : State) (n : Nat) (r : CombReq) (f : Flight) : (State.runPrepare s n r f).shape = s.shape := by
  unfold State.runPrepare
  (repeat' split) <;> simp [State.prepareTag_shape, State.combSettled_shape, State.msgAnswer_shape]

theorem State.runShorten_shape (s : State) (n : Nat) (r : CombReq) (seq : Nat) : (State.runShorten s n r seq).shape = s.shape := by
  unfold State.runShorten
  (repeat' split) <;> simp [State.combSettled_shape, State.msgAnswer_shape]

theorem State.tryLive_shape (s : State) (n : Nat) : (State.tryLive s n).shape = s.shape := by
  unfold State.tryLive
  (repeat' split) <;> simp [State.logEv_shape, State.setNbr_shape]

theorem State.runSync_shape (s : State) (n : Nat) (r : CombReq) (f : Flight) : (State.runSync s n r f).shape = s.shape := by
  unfold State.runSync
  simp; (repeat' split) <;> simp [State.combSettled_shape, State.setNbr_shape, State.logEv_shape, State.msgAnswer_shape, State.tryLive_shape]

theorem State.dropPrepared_shape (s : State) (p : Prepared) : (State.dropPrepared s p).shape = s.shape := by
  unfold State.dropPrepared
  (repeat' split) <;> simp

theorem State.runLateAbort_shape (s : State) (n : Nat) (r : CombReq) (f : Flight) : (State.runLateAbort s n r f).shape = s.shape := by
  unfold State.runLateAbort
  simp; (repeat' split) <;> simp [State.msgAnswer_shape, State.dropPrepared_shape, State.combSettled_shape]

theorem State.helloNbr_shape (s : State) (n : Nat) : (State.helloNbr s n).shape = s.shape := by
  unfold State.helloNbr
  (repeat' split) <;> simp [State.drawBytes_shape, State.emit_shape, State.setNbr_shape]

theorem State.sendSync_shape (s : State) (n : Nat) : (State.sendSync s n).shape = s.shape := by
  unfold State.sendSync
  (repeat' split) <;> simp [State.toNbr_shape, State.setNbr_shape]

theorem State.enterSyncing_shape (s : State) (n : Nat) : (State.enterSyncing s n).shape = s.shape := by
  unfold State.enterSyncing
  (repeat' split) <;> simp [State.sendSync_shape, State.setNbr_shape]

theorem State.combIntake_shape (s : State) (c : Caller) (req : Bytes) : (State.combIntake s c req).shape = s.shape := by
  unfold State.combIntake
  (repeat' split) <;> simp [State.combReply_shape]

theorem State.hbJudged_shape (s : State) (n : Nat) (j : Int) (emptied : Bool) (eth : Bool) : (State.hbJudged s n j emptied eth).shape = s.shape := by
  unfold State.hbJudged
  (repeat' split) <;> simp [State.setNbr_shape, State.enterSyncing_shape, State.sendSync_shape]

theorem State.hbReceived_shape (s : State) (n : Nat) (body : Bytes) (eth : Bool) : (State.hbReceived s n body eth).shape = s.shape := by
  unfold State.hbReceived
  (repeat' split) <;> simp [State.logEv_shape, State.setNbr_shape, State.hbJudged_shape]

theorem State.commitPrepared_shape (s : State) (p : Prepared) : (State.commitPrepared s p).shape = s.shape := by
  unfold State.commitPrepared
  (repeat' split) <;> simp [State.combSettled_shape, State.noteLater_shape]

theorem State.runCommit_shape (s : State) (n : Nat) (r : CombReq) : (State.runCommit s n r).shape = s.shape := by
  unfold State.runCommit
  (repeat' split) <;> simp [State.msgAnswer_shape, State.commitPrepared_shape, State.dropPrepared_shape]

theorem State.runAbort_shape (s : State) (n : Nat) (r : CombReq) : (State.runAbort s n r).shape = s.shape := by
  unfold State.runAbort
  (repeat' split) <;> simp [State.msgAnswer_shape, State.combSettled_shape, State.noteLater_shape, State.dropPrepared_shape]

theorem State.combReleased_shape (s : State) : (State.combReleased s).shape = s.shape := by
  unfold State.combReleased
  (repeat' split) <;> simp [State.retireDone_shape, State.enterSyncing_shape]

theorem State.issueTrim_shape (s : State) (t : TrimOp) : (State.issueTrim s t).shape = s.shape := by
  unfold State.issueTrim
  (repeat' split) <;> simp [State.acceptOp_shape]

theorem State.epochAge_shape (s : State) : (State.epochAge s).shape = s.shape := by
  unfold State.epochAge
  (repeat' split) <;> simp [State.logEv_shape]

theorem State.exchangeCommit_shape (s : State) (f : Flight) (r : CombReq) (asked : List Asked) (note : Nat) (ents : Nat) (mirror : Nat) : (State.exchangeCommit s f r asked note ents mirror).shape = s.shape := by
  unfold State.exchangeCommit
  (repeat' split) <;> simp [State.commitReq_shape, State.endReq_shape, State.noteLater_shape, State.sendPhase_shape]

theorem State.exchangeFail_shape (s : State) (f : Flight) (r : CombReq) (asked : List Asked) (v : Verdict) : (State.exchangeFail s f r asked v).shape = s.shape := by
  unfold State.exchangeFail
  (repeat' split) <;> simp [State.endReq_shape, State.exchangeDrop_shape]

theorem State.failWaiting_shape (s : State) (n : Nat) : (State.failWaiting s n).shape = s.shape := by
  unfold State.failWaiting
  (repeat' split) <;> simp [State.exchangeFail_shape]

theorem State.hbNumber_shape (s : State) (p : Int) : (State.hbNumber s p).shape = s.shape := by
  unfold State.hbNumber
  (repeat' split) <;> simp

theorem State.heartbeat_shape (s : State) (sendTime : Int) : (State.heartbeat s sendTime).1.shape = s.shape := by
  unfold State.heartbeat
  simp only []
  (repeat' split) <;> simp [State.hbNumber_shape]

theorem State.heartbeatTo_shape (s : State) (n : Nat) : (State.heartbeatTo s n).shape = s.shape := by
  unfold State.heartbeatTo
  (repeat' split) <;> simp [State.setNbr_shape, State.toNbr_shape, State.helloNbr_shape]

theorem State.judgeExchange_shape (s : State) (x : Asking) (asked : List Asked) : (State.judgeExchange s x asked).shape = s.shape := by
  unfold State.judgeExchange
  (repeat' split) <;> simp [State.exchangeCommit_shape, State.exchangeFail_shape]

theorem State.loseNeighbour_shape (s : State) (n : Nat) : (State.loseNeighbour s n).shape = s.shape := by
  unfold State.loseNeighbour
  (repeat' split) <;> simp [State.setNbr_shape, State.failWaiting_shape, State.logEv_shape]

theorem State.nbrAnswered_shape (s : State) (n : Nat) (exch : Nat) : (State.nbrAnswered s n exch).shape = s.shape := by
  unfold State.nbrAnswered
  simp only []
  repeat' split
  all_goals simp

theorem State.prepareAnswer_shape (s : State) (n : Nat) (exch : Nat) (resp : Bytes) : (State.prepareAnswer s n exch resp).shape = s.shape := by
  unfold State.prepareAnswer
  (repeat' split) <;> simp [State.setFlight_shape, State.judgeExchange_shape]

theorem State.prepareTimeout_shape (s : State) (exch : Nat) : (State.prepareTimeout s exch).shape = s.shape := by
  unfold State.prepareTimeout
  (repeat' split) <;> simp [State.exchangeFail_shape]

theorem State.presume_shape (s : State) (n : Nat) (exch : Nat) : (State.presume s n exch).shape = s.shape := by
  unfold State.presume
  (repeat' split) <;> simp [State.commitPrepared_shape, State.logEv_shape]

theorem State.repeatPhase_shape (s : State) (n : Nat) (exch : Nat) : (State.repeatPhase s n exch).shape = s.shape := by
  unfold State.repeatPhase
  (repeat' split) <;> simp [State.toNbr_shape]

theorem State.sendHeartbeats_shape (s : State) : (State.sendHeartbeats s).shape = s.shape := by
  unfold State.sendHeartbeats
  (repeat' split) <;> simp [State.hbNumber_shape, State.heartbeatTo_shape]

theorem State.syncAnswered_shape (s : State) (n : Nat) : (State.syncAnswered s n).shape = s.shape := by
  unfold State.syncAnswered
  (repeat' split) <;> simp [State.tryLive_shape, State.setNbr_shape]

theorem State.setConf_shape (s : State) (m : Nat) (f : ConfSlot → ConfSlot) : (State.setConf s m f).shape = s.shape := by
  unfold State.setConf
  (repeat' split) <;> simp

theorem State.setAcked_shape (s : State) (m : Nat) (mode : Nat) : (State.setAcked s m mode).shape = s.shape := by
  unfold State.setAcked
  (repeat' split) <;> simp [State.setConf_shape]

theorem State.startMonitor_shape (s : State) (m : Nat) : (State.startMonitor s m).shape = s.shape := by
  unfold State.startMonitor
  (repeat' split) <;> simp [State.setConf_shape]

theorem State.swarmAck_shape (s : State) (m : Nat) (mode : Nat) (instant : Int) : (State.swarmAck s m mode instant).shape = s.shape := by
  unfold State.swarmAck
  (repeat' split) <;> simp [State.setAcked_shape, State.setConf_shape]

theorem State.stopMonitor_shape (s : State) (m : Nat) : (State.stopMonitor s m).shape = s.shape := by
  unfold State.stopMonitor
  (repeat' split) <;> simp [State.setConf_shape]

theorem State.swarmLost_shape (s : State) : (State.swarmLost s).shape = s.shape := by
  unfold State.swarmLost
  (repeat' split) <;> simp [State.logEv_shape]

theorem State.swarmCancel_shape (s : State) : (State.swarmCancel s).1.shape = s.shape := by
  unfold State.swarmCancel
  (repeat' split) <;> simp

theorem State.swarmNew_shape (s : State) (v : Bytes) : (State.swarmNew s v).1.shape = s.shape := by
  unfold State.swarmNew
  simp; (repeat' split) <;> simp

theorem State.swarmPort_shape (s : State) (v : Bytes) : (State.swarmPort s v).1.shape = s.shape := by
  unfold State.swarmPort
  simp; (repeat' split) <;> simp [State.swarmCancel_shape, State.swarmNew_shape]

theorem State.evalRow_shape (s : State) (m : Nat) (row : Nat) (cond : Bool) : (State.evalRow s m row cond).1.shape = s.shape := by
  unfold State.evalRow
  (repeat' split) <;> simp [State.setConf_shape]

theorem State.verdict_shape (s : State) (m : Nat) (action : Nat) (r : Record) : (State.verdict s m action r).shape = s.shape := by
  unfold State.verdict
  (repeat' split) <;> simp [State.setConf_shape, State.count_shape, State.post_shape]

theorem State.firstPair_shape (s : State) (m : Nat) (a : PairPos) : (State.firstPair s m a).1.shape = s.shape := by
  unfold State.firstPair
  (repeat' split) <;> simp [State.setConf_shape]

theorem State.refreshAge_shape (s : State) (m : Nat) (kind : Nat) (t : Int) : (State.refreshAge s m kind t).shape = s.shape := by
  unfold State.refreshAge
  (repeat' split) <;> simp [State.setConf_shape]

theorem State.trimTracks_shape (s : State) (m : Nat) (j : Judged) : (State.trimTracks s m j).shape = s.shape := by
  unfold State.trimTracks
  (repeat' split) <;> simp [State.issueTrim_shape]

theorem State.reportZones_shape (s : State) (ms : List Nat) : (State.reportZones s ms).shape = s.shape := by
  unfold State.reportZones
  (repeat' split) <;> simp [State.refreshGo_shape]

theorem State.keepPos_shape (s : State) (m : Nat) : (State.keepPos s m).shape = s.shape := by
  unfold State.keepPos
  (repeat' split) <;> simp [State.setConf_shape]

theorem State.outOfRange_shape (s : State) (m : Nat) (kind : Nat) (t : Int) : (State.outOfRange s m kind t).shape = s.shape := by
  unfold State.outOfRange
  (repeat' split) <;> simp [State.verdict_shape]

theorem State.issueConf_shape (s : State) (m : Nat) (op : ConfOp) : (State.issueConf s m op).shape = s.shape := by
  unfold State.issueConf
  (repeat' split) <;> simp [State.emit_shape]

theorem State.setLink_shape (s : State) (m : Nat) (f : Link → Link) : (State.setLink s m f).shape = s.shape := by
  unfold State.setLink
  (repeat' split) <;> simp

theorem State.ackSent_shape (s : State) (m : Nat) (l : Link) : (State.ackSent s m l).shape = s.shape := by
  unfold State.ackSent
  (repeat' split) <;> simp [State.setLink_shape, State.answer_shape]

theorem State.takeSegment_shape (s : State) (m : Nat) (b : Bytes) {s' : State} (h : s.takeSegment m b = some s') : s'.shape = s.shape := by
  unfold State.takeSegment at h
  simp only [] at h
  repeat' split at h
  all_goals first
    | (cases h; simp [State.setLink_shape]; done)
    | (rw [State.post?_shape _ _ _ h]; simp [State.setLink_shape])

theorem State.takeSegmentsIn_shape (s : State) (m : Nat) (xs : List (Nat × Bytes)) {s' : State} (h : s.takeSegmentsIn m xs = some s') : s'.shape = s.shape := by
  induction xs generalizing s with
  | nil => cases h; rfl
  | cons x t ih =>
    obtain ⟨ty, b⟩ := x
    unfold State.takeSegmentsIn at h
    split at h
    · split at h
      · rename_i e
        exact (ih _ h).trans (State.takeSegment_shape _ _ _ e)
      · cases h
    · exact ih _ h

theorem State.tryConnect_shape (s : State) (m : Nat) (acks : List (Nat × Int)) : (State.tryConnect s m acks).shape = s.shape := by
  unfold State.tryConnect
  (repeat' split) <;> simp [State.setAcked_shape, State.startMonitor_shape, State.setLink_shape]

theorem State.takeElems_shape (s : State) (m : Nat) (es : List (Nat × Bytes)) : (State.takeElems s m es).1.shape = s.shape := by
  unfold State.takeElems
  split
  · rfl
  · rename_i e
    simp only []
    split <;> simp [State.tryConnect_shape, State.swarmAck_shape, State.takeSegmentsIn_shape _ _ _ e]

theorem State.endLink_shape (s : State) (m : Nat) (cause : Nat) (reason : Option Nat) (a : Ans) : (State.endLink s m cause reason a).shape = s.shape := by
  unfold State.endLink
  split
  · rfl
  · simp only []; split <;> simp [State.answer_shape, State.logEv_shape, State.stopMonitor_shape]

theorem State.acceptReply_shape (s : State) (m : Nat) (l : Link) (f : RadioFrame) (es : List (Nat × Bytes)) (rssi : Int) : (State.acceptReply s m l f es rssi).shape = s.shape := by
  unfold State.acceptReply
  (repeat' split) <;> simp [State.setLink_shape, State.ackSent_shape, State.takeElems_shape, State.endLink_shape]

theorem State.endMessagesOf_shape (s : State) (p : Caller → Bool) (a : Ans) : (State.endMessagesOf s p a).shape = s.shape := by
  unfold State.endMessagesOf
  (repeat' split) <;> simp [State.answer_shape]

theorem State.endMessages_shape (s : State) (a : Ans) : (State.endMessages s a).shape = s.shape := by
  unfold State.endMessages
  (repeat' split) <;> simp [State.answer_shape]

theorem State.sendUpdate_shape (s : State) (m : Nat) (l : Link) (p : LinkPar) (chans : List Bytes) (instant : Nat) (offset : Nat) : (State.sendUpdate s m l p chans instant offset).shape = s.shape := by
  unfold State.sendUpdate
  (repeat' split) <;> simp [State.setLink_shape]

theorem State.remapLink_shape (s : State) (m : Nat) (l : Link) : (State.remapLink s m l).shape = s.shape := by
  unfold State.remapLink
  (repeat' split) <;> simp [State.setLink_shape, State.sendUpdate_shape]

theorem State.applyUpdate_shape (s : State) (m : Nat) : (State.applyUpdate s m).shape = s.shape := by
  unfold State.applyUpdate
  (repeat' split) <;> simp [State.setLink_shape, State.remapLink_shape]

theorem State.listenWritten_shape (s : State) (n : Nat) (v : Bytes) : (State.listenWritten s n v).shape = s.shape := by
  unfold State.listenWritten
  (repeat' split) <;> simp [State.setModem_shape]

theorem State.transmit_shape (s : State) (k : Nat) (chan : Nat) (a : Int) (ns : Nat) (f : RadioFrame) : (State.transmit s k chan a ns f).shape = s.shape := by
  unfold State.transmit
  (repeat' split) <;> simp [State.emit_shape, State.rfOn_shape]

theorem State.broadcast_shape (s : State) (k : Nat) (ftype : Nat) (rate : Nat) (a : Int) (key : Bytes) (payload : Bytes) : (State.broadcast s k ftype rate a key payload).shape = s.shape := by
  unfold State.broadcast
  (repeat' split) <;> simp [State.tuneTo_shape, State.setModem_shape, State.count_shape, State.transmit_shape]

theorem State.paramRequest_shape (s : State) (m : Nat) (v : Bytes) : (State.paramRequest s m v).1.shape = s.shape := by
  unfold State.paramRequest
  simp; (repeat' split) <;> simp [State.sendUpdate_shape]

theorem State.radioSend_shape (s : State) (c : Caller) (req : Bytes) : (State.radioSend s c req).1.shape = s.shape := by
  unfold State.radioSend
  simp; (repeat' split) <;> simp [State.setLink_shape]

theorem State.radioWaggle_shape (s : State) (c : Caller) (req : Bytes) : (State.radioWaggle s c req).1.shape = s.shape := by
  unfold State.radioWaggle
  simp; (repeat' split) <;> simp [State.setModem_shape]

theorem State.eventTune_shape (s : State) (l : Link) (n : Nat) (a : Int) : (State.eventTune s l n a).shape = s.shape := by
  unfold State.eventTune
  (repeat' split) <;> simp [State.tuneTo_shape]

theorem State.radioRestart_shape (s : State) : (State.radioRestart s).shape = s.shape := by
  unfold State.radioRestart
  (repeat' split) <;> simp [State.endMessages_shape]

theorem State.joinRespond_shape (s : State) (k : Nat) (id : Nat) (counter : Nat) (key : Bytes) (plain : Bytes) : (State.joinRespond s k id counter key plain).shape = s.shape := by
  unfold State.joinRespond
  (repeat' split) <;> simp [State.transmit_shape]

theorem State.joinAccept_shape (s : State) (k : Nat) (m : Nat) (id : Nat) (counter : Nat) (int : Nat) (len : Nat) (off : Nat) (key : Bytes) (mach : Bytes) : (State.joinAccept s k m id counter int len off key mach).shape = s.shape := by
  unfold State.joinAccept
  (repeat' split) <;> simp [State.logEv_shape, State.endLink_shape, State.draw_shape, State.drawBytes_shape, State.joinRespond_shape]

theorem State.joinOpen_shape (s : State) (k : Nat) (a : Int) (bytes : Nat) : (State.joinOpen s k a bytes).shape = s.shape := by
  unfold State.joinOpen
  (repeat' split) <;> simp [State.rfOn_shape]

theorem State.micFail_shape (s : State) (m : Option Nat) : (State.micFail s m).shape = s.shape := by
  unfold State.micFail
  (repeat' split) <;> simp [State.setLink_shape]

theorem State.replayDrop_shape (s : State) (m : Option Nat) : (State.replayDrop s m).shape = s.shape := by
  unfold State.replayDrop
  (repeat' split) <;> simp [State.setLink_shape]

theorem State.joinTimeout_shape (s : State) (m : Nat) : (State.joinTimeout s m).shape = s.shape := by
  unfold State.joinTimeout
  (repeat' split) <;> simp [State.endLink_shape]

theorem State.sendFarewell_shape (s : State) (m : Nat) : (State.sendFarewell s m).shape = s.shape := by
  unfold State.sendFarewell
  simp; (repeat' split) <;> simp [State.count_shape, State.transmit_shape, State.eventTune_shape]

theorem State.missReply_shape (s : State) (m : Nat) (l : Link) : (State.missReply s m l).shape = s.shape := by
  unfold State.missReply
  (repeat' split) <;> simp [State.count_shape, State.setLink_shape]

theorem State.takeStopFrame_shape (s : State) (m : Nat) (a : Nat) : (State.takeStopFrame s m a).1.shape = s.shape := by
  unfold State.takeStopFrame
  (repeat' split) <;> simp [State.setLink_shape]

theorem State.sendEvent_shape (s : State) (m : Nat) (n : Nat) (l : Link) : (State.sendEvent s m n l).shape = s.shape := by
  unfold State.sendEvent
  simp; (repeat' split) <;> simp [State.takeStopFrame_shape, State.setLink_shape, State.transmit_shape, State.eventTune_shape, State.count_shape, State.rfOn_shape]

theorem State.linkEvent_shape (s : State) (m : Nat) : (State.linkEvent s m).shape = s.shape := by
  unfold State.linkEvent
  simp; (repeat' split) <;> simp [State.applyUpdate_shape, State.sendFarewell_shape, State.missReply_shape, State.setLink_shape, State.endLink_shape, State.sendEvent_shape]

theorem State.linkReply_shape (s : State) (m : Nat) (f : RadioFrame) (offset : Int) (rssi : Int) : (State.linkReply s m f offset rssi).shape = s.shape := by
  unfold State.linkReply
  (repeat' split) <;> simp [State.micFail_shape, State.replayDrop_shape, State.acceptReply_shape]

theorem State.nbrBeacon_shape (s : State) (k : Nat) (n : Nat) (f : RadioFrame) : (State.nbrBeacon s k n f).shape = s.shape := by
  unfold State.nbrBeacon
  (repeat' split) <;> simp [State.micFail_shape, State.replayDrop_shape, State.clashHeard_shape, State.hbReceived_shape]

theorem State.replanModem_shape (s : State) (k : Nat) : (State.replanModem s k).shape = s.shape := by
  unfold State.replanModem
  (repeat' split) <;> simp [State.setModem_shape]

theorem State.sendBeacon_shape (s : State) (k : Nat) : (State.sendBeacon s k).shape = s.shape := by
  unfold State.sendBeacon
  (repeat' split) <;> simp [State.heartbeat_shape, State.setModem_shape, State.joinOpen_shape, State.broadcast_shape]

theorem State.waggleSent_shape (s : State) (k : Nat) (id : Nat) : (State.waggleSent s k id).shape = s.shape := by
  unfold State.waggleSent
  simp [State.setModem_shape]; (repeat' split) <;> simp [State.setModem_shape, State.answer_shape]

theorem State.sendWaggle_shape (s : State) (k : Nat) : (State.sendWaggle s k).shape = s.shape := by
  unfold State.sendWaggle
  (repeat' split) <;> simp [State.setModem_shape, State.broadcast_shape, State.waggleSent_shape]

theorem State.superviseLink_shape (s : State) (m : Nat) : (State.superviseLink s m).shape = s.shape := by
  unfold State.superviseLink
  (repeat' split) <;> simp [State.endLink_shape]

theorem State.setTrack_shape (s : State) (f : Tracking → Tracking) :
    (State.setTrack s f).shape = { s.shape with rx := (f s.track).ports.length } := by
  unfold State.setTrack
  simp

theorem State.setPort_shape (s : State) (g : Nat) (f : GsPort → GsPort) : (State.setPort s g f).shape = s.shape := by
  unfold State.setPort
  (repeat' split) <;> simp [State.setTrack_shape]

theorem State.offsetTick_shape (s : State) (g : Nat) (counter : Nat) : (State.offsetTick s g counter).shape = s.shape := by
  unfold State.offsetTick
  simp; (repeat' split) <;> simp [State.setPort_shape]

theorem State.jamJudge_shape (s : State) (g : Nat) (cond : Bool) : (State.jamJudge s g cond).shape = s.shape := by
  unfold State.jamJudge
  (repeat' split) <;> simp [State.setPort_shape, State.logEv_shape]

theorem State.agcUpdate_shape (s : State) (g : Nat) (edges : List GsEdge) (counter : Nat) : (State.agcUpdate s g edges counter).shape = s.shape := by
  unfold State.agcUpdate
  (repeat' split) <;> simp [State.offsetTick_shape, State.setPort_shape, State.jamJudge_shape, State.draw_shape, State.logEv_shape]

theorem State.reshare_shape (s : State) (g : Nat) (c : Nat) : (State.reshare s g c).shape = s.shape := by
  unfold State.reshare
  (repeat' split) <;> simp [State.setTrack_shape]

theorem State.reshareGroup_shape (s : State) (g : Nat) : (State.reshareGroup s g).shape = s.shape := by
  unfold State.reshareGroup
  (repeat' split) <;> simp [State.reshare_shape]

theorem State.standbyEnter_shape (s : State) : (State.standbyEnter s).1.shape = s.shape := by
  unfold State.standbyEnter
  (repeat' split) <;> simp [State.reshareGroup_shape, State.setTrack_shape]

theorem State.standbyExit_shape (s : State) : (State.standbyExit s).1.shape = s.shape := by
  unfold State.standbyExit
  (repeat' split) <;> simp [State.setTrack_shape]

theorem State.rateWritten_shape (s : State) : (State.rateWritten s).shape = s.shape := by
  unfold State.rateWritten
  (repeat' split) <;> simp [State.setTrack_shape]

theorem State.askAcquire_shape (s : State) (antenna : Nat) (x : Sig) : (State.askAcquire s antenna x).shape = s.shape := by
  unfold State.askAcquire
  (repeat' split) <;> simp

theorem State.setChan_shape (s : State) (ch : Nat) (f : Chan → Chan) : (State.setChan s ch f).shape = s.shape := by
  unfold State.setChan
  (repeat' split) <;> simp [State.setTrack_shape]

theorem State.bumpJump_shape (s : State) (ch : Nat) (corr : List Corr) : (State.bumpJump s ch corr).shape = s.shape := by
  unfold State.bumpJump
  (repeat' split) <;> simp [State.setChan_shape]

theorem State.clearPeak_shape (s : State) (x : Sig) : (State.clearPeak s x).shape = s.shape := by
  unfold State.clearPeak
  (repeat' split) <;> simp [State.setTrack_shape]

theorem State.clockBack_shape (s : State) (g : Nat) : (State.clockBack s g).shape = s.shape := by
  unfold State.clockBack
  (repeat' split) <;> simp [State.logEv_shape, State.setPort_shape]

theorem State.trackCommitted_shape (s : State) : (State.trackCommitted s).shape = s.shape := by
  unfold State.trackCommitted
  (repeat' split) <;> simp [State.setTrack_shape]

theorem State.clockLost_shape (s : State) (g : Nat) : (State.clockLost s g).shape = s.shape := by
  unfold State.clockLost
  (repeat' split) <;> simp [State.logEv_shape, State.reshareGroup_shape, State.setTrack_shape, State.setPort_shape]

theorem State.doaBand_shape (s : State) (band : Nat) (free : Nat) (phase : Nat → Chan → Int) (sight : Nat → Option V3) : (State.doaBand s band free phase sight).shape = s.shape := by
  unfold State.doaBand
  (repeat' split) <;> simp [State.setTrack_shape, State.setChan_shape, State.logEv_shape]

theorem State.trackRestart_shape (s : State) : (State.trackRestart s).shape = s.shape := by
  unfold State.trackRestart
  (repeat' split) <;> simp [State.setTrack_shape]

theorem State.trackPost_shape (s : State) (q : Nat) (b : Bytes) : (State.trackPost s q b).shape = s.shape := by
  unfold State.trackPost
  split
  · rename_i e
    exact State.post?_shape _ _ _ e
  · simp [State.logEv_shape, State.setTrack_shape]

theorem State.groupPacket_shape (s : State) (g : Nat) (nominal : Int) (first : Nat) (meas : Nat → ChanMeas) (pairs : List Pair) (step : Bool) : (State.groupPacket s g nominal first meas pairs step).shape = s.shape := by
  unfold State.groupPacket
  (repeat' split) <;> simp [State.setChan_shape, State.setTrack_shape, State.trackPost_shape]

theorem State.gsGap_shape (s : State) (g : Nat) : (State.gsGap s g).shape = s.shape := by
  unfold State.gsGap
  (repeat' split) <;> simp [State.setTrack_shape, State.setPort_shape]

theorem State.handover_shape (s : State) (antenna : Nat) (f : Found) : (State.handover s antenna f).shape = s.shape := by
  unfold State.handover
  simp; (repeat' split) <;> simp [State.reshare_shape, State.setTrack_shape]

theorem State.idleChan_shape (s : State) (ch : Nat) : (State.idleChan s ch).shape = s.shape := by
  unfold State.idleChan
  (repeat' split) <;> simp [State.setTrack_shape]

theorem State.jamClear_shape (s : State) (g : Nat) : (State.jamClear s g).shape = s.shape := by
  unfold State.jamClear
  (repeat' split) <;> simp [State.setPort_shape]

theorem State.lockStep_shape (s : State) (ch : Nat) (o : LockObs) : (State.lockStep s ch o).shape = s.shape := by
  unfold State.lockStep
  (repeat' split) <;> simp [State.setChan_shape, State.reshare_shape]

theorem State.loseChan_shape (s : State) (ch : Nat) : (State.loseChan s ch).shape = s.shape := by
  unfold State.loseChan
  (repeat' split) <;> simp [State.reshare_shape, State.askAcquire_shape, State.idleChan_shape]

theorem State.lockTimeout_shape (s : State) (ch : Nat) (st : Lock) (limit : Nat) : (State.lockTimeout s ch st limit).shape = s.shape := by
  unfold State.lockTimeout
  (repeat' split) <;> simp [State.loseChan_shape]

theorem State.navMessage_shape (s : State) (m : NavUnit) (news : NavNews) : (State.navMessage s m news).shape = s.shape := by
  unfold State.navMessage
  (repeat' split) <;> simp [State.setTrack_shape, State.trackPost_shape]

theorem State.trackApply_shape (s : State) : (State.trackApply s).shape = s.shape := by
  unfold State.trackApply
  dsimp only
  rw [State.shape_foldl _ _ _ fun s g => State.reshareGroup_shape s g, State.setTrack_shape]
  simp only [State.shape_rx]
  rw [State.shape_foldl]
  intro s x
  split
  · rw [State.shape_foldl _ _ _ fun s (e : Nat × Chan) => State.loseChan_shape s e.1, State.setPort_shape]
    split
    · rw [State.setPort_shape]
    · rfl
  · rfl

theorem State.trackEpoch_shape (s : State) (firsts : List Nat) (l : List ChanMeas) : (State.trackEpoch s firsts l).shape = s.shape := by
  unfold State.trackEpoch
  (repeat' split) <;> simp [State.setTrack_shape, State.trackApply_shape, State.doaBand_shape, State.groupPacket_shape]

theorem State.watchDwell_shape (s : State) (ch : Nat) (power : Nat) : (State.watchDwell s ch power).shape = s.shape := by
  unfold State.watchDwell
  simp; (repeat' split) <;> simp [State.setTrack_shape, State.logEv_shape]

theorem State.setDev_shape (s : State) (f : Developer → Developer) : (State.setDev s f).shape = s.shape := by
  unfold State.setDev
  (repeat' split) <;> simp

theorem State.devReset_shape (s : State) : (State.devReset s).shape = s.shape := by
  unfold State.devReset
  (repeat' split) <;> simp [State.setDev_shape]

theorem State.devIslandReset_shape (s : State) : (State.devIslandReset s).shape = s.shape := by
  unfold State.devIslandReset
  (repeat' split) <;> simp [State.setDev_shape]

theorem State.devAnswer_shape (s : State) (outcome : Nat) : (State.devAnswer s outcome).shape = s.shape := by
  unfold State.devAnswer
  (repeat' split) <;> simp [State.emit_shape]

theorem State.devRefuse_shape (s : State) (outcome : Nat) : (State.devRefuse s outcome).shape = s.shape := by
  unfold State.devRefuse
  (repeat' split) <;> simp [State.devAnswer_shape, State.setDev_shape]

theorem State.devFailed_shape (s : State) : (State.devFailed s).shape = s.shape := by
  unfold State.devFailed
  (repeat' split) <;> simp [State.setDev_shape, State.devRefuse_shape]

theorem State.devRelease_shape (s : State) : (State.devRelease s).shape = s.shape := by
  unfold State.devRelease
  (repeat' split) <;> simp [State.setDev_shape]

theorem State.devRestart_shape (s : State) : (State.devRestart s).shape = s.shape := by
  unfold State.devRestart
  (repeat' split) <;> simp [State.setDev_shape]

theorem State.devResult_shape (s : State) (slot : Nat) (sky : List SatEph) : (State.devResult s slot sky).shape = s.shape := by
  unfold State.devResult
  dsimp only
  repeat' split
  all_goals first
    | rfl
    | (have e := ‹State.post? _ _ _ = some _›
       rw [State.issueConf_shape, State.devAnswer_shape, State.setDev_shape]
       exact State.post?_shape _ _ _ e)

theorem State.exposureArrival_shape (s : State) (pkt : Bytes) : (State.exposureArrival s pkt).shape = s.shape := by
  unfold State.exposureArrival
  simp; (repeat' split) <;> simp [State.devRefuse_shape, State.setDev_shape]

theorem State.spend_shape (s : State) (own : Bool) (cost : Nat) {s' : State} (h : s.spend own cost = some s') : s'.shape = s.shape := by
  unfold State.spend at h
  simp only [Option.map_eq_some_iff] at h
  obtain ⟨p, -, rfl⟩ := h
  simp [State.count_shape, State.setDev_shape]

theorem State.exposureStart_shape (s : State) (sky : List SkySignal) : (State.exposureStart s sky).shape = s.shape := by
  unfold State.exposureStart
  simp only []
  repeat' split
  all_goals first
    | (simp [State.setDev_shape, State.devRefuse_shape]; done)
    | (rename_i e _; simp [State.setDev_shape, State.spend_shape _ _ _ e]; done)
    | (rename_i e; simp [State.setDev_shape, State.devRefuse_shape, State.spend_shape _ _ _ e]; done)

theorem State.ownDone_shape (s : State) (cap : Snapshot) (sky : List SatEph) : (State.ownDone s cap sky).shape = s.shape := by
  unfold State.ownDone
  (repeat' split) <;> simp [State.setDev_shape, State.handover_shape]

theorem State.ownStart_shape (s : State) : (State.ownStart s).shape = s.shape := by
  unfold State.ownStart
  split
  · rfl
  · split
    · rfl
    · split
      · rfl
      · extract_lets sigs cost p rest
        split
        · rfl
        · split
          · rfl
          · rename_i e
            extract_lets run
            rw [State.setDev_shape]
            exact State.spend_shape _ _ _ e

theorem State.reacquire_shape (s : State) (sky : List SkySignal) : (State.reacquire s sky).shape = s.shape := by
  unfold State.reacquire
  (repeat' split) <;> simp [State.setDev_shape]

theorem State.standbyExposure_shape (s : State) : (State.standbyExposure s).shape = s.shape := by
  unfold State.standbyExposure
  dsimp only
  split
  · rfl
  · rw [State.setDev_shape]
    generalize hg : s.spend true _ = o
    cases o with
    | none => rfl
    | some s' => exact State.spend_shape _ _ _ hg

theorem State.standbyResult_shape (s : State) (cap : Snapshot) (sky : List SatEph) : (State.standbyResult s cap sky).shape = s.shape := by
  unfold State.standbyResult
  split
  · rfl
  · rename_i x _
    simp only []
    split
    · rfl
    · rename_i s1 e
      have e' : s1.shape = s.shape := by
        split at e
        · cases e; rfl
        · exact State.spend_shape _ _ _ e
      (repeat' split) <;> simp [State.draw_shape, State.setDev_shape, State.offset_shape, State.logEv_shape, e']

theorem State.setBase_shape (s : State) (f : Base → Base) : (State.setBase s f).shape = s.shape := by
  unfold State.setBase
  (repeat' split) <;> simp

theorem State.baseCommitted_shape (s : State) : (State.baseCommitted s).shape = s.shape := by
  unfold State.baseCommitted
  (repeat' split) <;> simp [State.setBase_shape]

theorem State.withhold_shape (s : State) (nominal : Int) : (State.withhold s nominal).shape = s.shape := by
  unfold State.withhold
  (repeat' split) <;> simp [State.setBase_shape]

theorem State.skipRedo_shape (s : State) (nominal : Int) : (State.skipRedo s nominal).shape = s.shape := by
  unfold State.skipRedo
  (repeat' split) <;> simp [State.setBase_shape, State.withhold_shape]

theorem State.netSolve_shape (s : State) (sky : List SatEph) (nominal : Int) (l : List Nat) (spp : Option V3) : (State.netSolve s sky nominal l spp).shape = s.shape := by
  unfold State.netSolve
  (repeat' split) <;> simp [State.setBase_shape]

theorem State.offerGnss_shape (s : State) (clocks : List (Nat × Rat)) (fails : Nat) : (State.offerGnss s clocks fails).shape = s.shape := by
  unfold State.offerGnss
  (repeat' split) <;> simp [State.offset_shape]

theorem State.baseTo_shape (s : State) (st : Nat) : (State.baseTo s st).shape = s.shape := by
  unfold State.baseTo
  (repeat' split) <;> simp [State.setBase_shape]

theorem State.suspectStep_shape (s : State) (fails : Nat) : (State.suspectStep s fails).shape = s.shape := by
  unfold State.suspectStep
  (repeat' split) <;> simp [State.setBase_shape]

theorem State.baseJudge_shape (s : State) (fails : Nat) : (State.baseJudge s fails).shape = s.shape := by
  unfold State.baseJudge
  (repeat' split) <;> simp [State.setBase_shape, State.logEv_shape, State.baseTo_shape, State.suspectStep_shape]

theorem State.deliver_shape (s : State) (frames : List Bytes) : (State.deliver s frames).shape = s.shape := by
  unfold State.deliver
  (repeat' split) <;> simp [State.setBase_shape, State.setModem_shape, State.emit_shape, State.post_shape]

theorem State.corrections_shape (s : State) (nominal : Int) (l : List Nat) : (State.corrections s nominal l).shape = s.shape := by
  unfold State.corrections
  (repeat' split) <;> simp [State.setBase_shape, State.withhold_shape, State.deliver_shape]

theorem State.loadBase_shape (s : State) : (State.loadBase s).shape = s.shape := by
  unfold State.loadBase
  (repeat' split) <;> simp [State.setBase_shape]

theorem State.baseStart_shape (s : State) : (State.baseStart s).shape = s.shape := by
  unfold State.baseStart
  (repeat' split) <;> simp [State.baseTo_shape, State.setBase_shape]

theorem State.baseNoTracking_shape (s : State) : (State.baseNoTracking s).shape = s.shape := by
  unfold State.baseNoTracking
  (repeat' split) <;> simp [State.logEv_shape, State.baseTo_shape, State.setBase_shape]

theorem State.takeFrame_shape (s : State) (b : Bytes) : (State.takeFrame s b).shape = s.shape := by
  unfold State.takeFrame
  (repeat' split) <;> simp [State.setBase_shape]

theorem State.netPort_shape (s : State) (req : Bytes) : (State.netPort s req).1.shape = s.shape := by
  unfold State.netPort
  (repeat' split) <;> simp [State.takeFrame_shape, State.setBase_shape]

theorem State.setRover_shape (s : State) (f : Rover → Rover) : (State.setRover s f).shape = s.shape := by
  unfold State.setRover
  (repeat' split) <;> simp

theorem State.roverResetAll_shape (s : State) : (State.roverResetAll s).shape = s.shape := by
  unfold State.roverResetAll
  (repeat' split) <;> simp [State.setRover_shape]

theorem State.roverRestart_shape (s : State) : (State.roverRestart s).shape = s.shape := by
  unfold State.roverRestart
  (repeat' split) <;> simp [State.setRover_shape]

theorem State.roverIslandReset_shape (s : State) : (State.roverIslandReset s).shape = s.shape := by
  unfold State.roverIslandReset
  (repeat' split) <;> simp [State.roverRestart_shape]

theorem State.refusedFix_shape (s : State) (slot : Nat) (machine : Nat) (r : Bytes) (outcome : Nat) : (State.refusedFix s slot machine r outcome).1.shape = s.shape := by
  unfold State.refusedFix
  simp [State.drawBytes_shape]

theorem State.setRoverSlot_shape (s : State) (m : Nat) (f : RoverSlot → RoverSlot) : (State.setRoverSlot s m f).shape = s.shape := by
  unfold State.setRoverSlot
  (repeat' split) <;> simp [State.setRover_shape]

theorem State.postFix_shape (s : State) (m : Nat) (b : Bytes) : (State.postFix s m b).shape = s.shape := by
  unfold State.postFix
  (repeat' split) <;> simp [State.post_shape, State.setRoverSlot_shape]

theorem State.flushFixes_shape (s : State) : (State.flushFixes s).shape = s.shape := by
  unfold State.flushFixes
  (repeat' split) <;> simp [State.setRover_shape, State.postFix_shape]

theorem State.roverDrop_shape (s : State) (i : Nat) (x : RoverEpoch) (outcome : Nat) : (State.roverDrop s i x outcome).shape = s.shape := by
  unfold State.roverDrop
  simp [State.refusedFix_shape, State.flushFixes_shape, State.setRover_shape]

theorem State.roverFailed_shape (s : State) : (State.roverFailed s).shape = s.shape := by
  unfold State.roverFailed
  rw [State.shape_foldl]
  intro s x; (repeat' split) <;> simp [State.roverDrop_shape]

theorem State.roverReset_shape (s : State) (m : Nat) : (State.roverReset s m).1.shape = s.shape := by
  unfold State.roverReset
  (repeat' split) <;> simp [State.setRoverSlot_shape]

theorem State.roverRefuse_shape (s : State) (slot : Nat) (machine : Nat) (arrival : Int) (r : Bytes) (outcome : Nat) : (State.roverRefuse s slot machine arrival r outcome).shape = s.shape := by
  unfold State.roverRefuse
  simp [State.refusedFix_shape, State.flushFixes_shape, State.setRover_shape]

theorem State.obsArrival_shape (s : State) (pkt : Bytes) : (State.obsArrival s pkt).shape = s.shape := by
  unfold State.obsArrival
  simp; (repeat' split) <;> simp [State.issueConf_shape, State.roverRefuse_shape, State.setRoverSlot_shape, State.setRover_shape]

theorem State.roverRelease_shape (s : State) : (State.roverRelease s).shape = s.shape := by
  unfold State.roverRelease
  (repeat' split) <;> simp [State.setRover_shape]

theorem State.roverDamage_shape (s : State) (m : Nat) : (State.roverDamage s m).shape = s.shape := by
  unfold State.roverDamage
  (repeat' split) <;> simp [State.setRover_shape]

theorem State.roverDone_shape (s : State) (slot : Nat) (sky : List SatEph) : (State.roverDone s slot sky).shape = s.shape := by
  unfold State.roverDone
  (repeat' split) <;> simp [State.setRoverSlot_shape, State.setRover_shape, State.flushFixes_shape, State.count_shape, State.issueConf_shape]

theorem State.roverStart_shape (s : State) : (State.roverStart s).shape = s.shape := by
  unfold State.roverStart
  (repeat' split) <;> simp [State.roverDrop_shape, State.setRover_shape]

theorem State.setImg_shape (s : State) (i : Nat) (f : ImgSlot → ImgSlot) : (State.setImg s i f).shape = s.shape := by
  unfold State.setImg
  (repeat' split) <;> simp

theorem State.writeBoot_shape (s : State) : (State.writeBoot s).shape = s.shape := by
  unfold State.writeBoot
  simp only []
  split <;> simp

theorem State.nameTrial_shape (s : State) (slot : Nat) (attempts : Nat) (timeout : Nat) : (State.nameTrial s slot attempts timeout).shape = s.shape := by
  unfold State.nameTrial
  (repeat' split) <;> simp [State.setImg_shape, State.writeBoot_shape]

theorem State.activated_shape (s : State) : (State.activated s).shape = s.shape := by
  unfold State.activated
  (repeat' split) <;> simp [State.nameTrial_shape]

theorem State.blocksWorn_shape (s : State) (n : Nat) : (State.blocksWorn s n).shape = s.shape := by
  unfold State.blocksWorn
  (repeat' split) <;> simp [State.logEv_shape]

theorem State.boantEnd_shape (s : State) (port : Nat) (msg : Bytes) : (State.boantEnd s port msg).1.shape = s.shape := by
  unfold State.boantEnd
  simp; (repeat' split) <;> simp [State.emit_shape, State.setImg_shape, State.writeBoot_shape, State.nameTrial_shape]

theorem State.boantHeader_shape (s : State) (port : Nat) (msg : Bytes) : (State.boantHeader s port msg).shape = s.shape := by
  unfold State.boantHeader
  simp; (repeat' split) <;> simp [State.emit_shape, State.setImg_shape, State.writeBoot_shape]

theorem State.boantInfo_shape (s : State) (port : Nat) (msg : Bytes) : (State.boantInfo s port msg).shape = s.shape := by
  unfold State.boantInfo
  (repeat' split) <;> simp [State.emit_shape]

theorem State.boantPayload_shape (s : State) (port : Nat) (msg : Bytes) : (State.boantPayload s port msg).shape = s.shape := by
  unfold State.boantPayload
  (repeat' split) <;> simp [State.emit_shape]

theorem State.boantResets_shape (s : State) (port : Nat) (msg : Bytes) : (State.boantResets s port msg).1.shape = s.shape := by
  unfold State.boantResets
  (repeat' split) <;> simp [State.emit_shape]

theorem State.takeBoot_shape (s : State) (r : BootRecord) : (State.takeBoot s r).shape = s.shape := by
  unfold State.takeBoot
  (repeat' split) <;> simp

theorem State.bootTorn_shape (s : State) : (State.bootTorn s).shape = s.shape := by
  unfold State.bootTorn
  simp; (repeat' split) <;> simp [State.takeBoot_shape]

theorem State.updateBegin_shape (s : State) (c : Caller) (h : Bytes) : (State.updateBegin s c h).1.shape = s.shape := by
  unfold State.updateBegin
  simp only []
  split <;> simp [State.setImg_shape, State.writeBoot_shape]

theorem State.updateDone_shape (s : State) (x : Update) (data : Bytes) : (State.updateDone s x data).1.shape = s.shape := by
  unfold State.updateDone
  (repeat' split) <;> simp [State.setImg_shape, State.writeBoot_shape]

theorem State.updateSpoiled_shape (s : State) : (State.updateSpoiled s).shape = s.shape := by
  unfold State.updateSpoiled
  (repeat' split) <;> simp [State.setImg_shape, State.writeBoot_shape]

theorem State.enterBoant_shape (s : State) : (State.enterBoant s).shape = s.shape := by
  unfold State.enterBoant
  (repeat' split) <;> simp

theorem State.runSlot_shape (s : State) (i : Nat) : (State.runSlot s i).shape = s.shape := by
  unfold State.runSlot
  simp only []
  split <;> simp [State.logEv_shape]

theorem State.slotFailed_shape (s : State) (i : Nat) : (State.slotFailed s i).shape = s.shape := by
  unfold State.slotFailed
  (repeat' split) <;> simp [State.logEv_shape, State.writeBoot_shape, State.setImg_shape]

theorem State.recordSource_shape (s : State) (code : Nat) (reach : Nat) (island : Nat) : (State.recordSource s code reach island).shape = s.shape := by
  unfold State.recordSource
  (repeat' split) <;> simp

theorem State.sourcesGone_shape (s : State) : (State.sourcesGone s).shape = s.shape := by
  unfold State.sourcesGone
  (repeat' split) <;> simp [State.sourceGone_shape]

theorem State.endKeyWaits_shape (s : State) (p : Caller → Bool) (a : Ans) : (State.endKeyWaits s p a).shape = s.shape := by
  unfold State.endKeyWaits
  (repeat' split) <;> simp [State.answer_shape]

theorem State.endEvents_shape (s : State) (p : Caller → Bool) (a : Ans) : (State.endEvents s p a).shape = s.shape := by
  unfold State.endEvents
  (repeat' split) <;> simp [State.answer_shape]

theorem State.endThrough_shape (s : State) (i : Island) (out : Nat) : (State.endThrough s i out).shape = s.shape := by
  unfold State.endThrough
  (repeat' split) <;> simp [State.endKeyWaits_shape, State.combEnd_shape, State.endEvents_shape, State.endSendsOf_shape, State.endMessagesOf_shape]

theorem State.hartsReset_shape (s : State) : (State.hartsReset s).shape = s.shape := by
  unfold State.hartsReset
  (repeat' split) <;> simp

theorem State.reviveAon_shape (s : State) : (State.reviveAon s).shape = s.shape := by
  unfold State.reviveAon
  (repeat' split) <;> simp [State.setIsl_shape]

theorem State.replan_shape (s : State) : (State.replan s).shape = s.shape := by
  unfold State.replan
  (repeat' split) <;> simp

theorem State.channelAReleased_shape (s : State) : (State.channelAReleased s).shape = s.shape := by
  unfold State.channelAReleased
  (repeat' split) <;> simp [State.refreshGo_shape]

theorem State.modemReset_shape (s : State) (k : Nat) : (State.modemReset s k).shape = s.shape := by
  unfold State.modemReset
  (repeat' split) <;> simp [State.endLink_shape, State.setModem_shape, State.answer_shape]

theorem State.resetBlockOf_shape (s : State) (island : Nat) (block : Nat) : (State.resetBlockOf s island block).shape = s.shape := by
  unfold State.resetBlockOf
  (repeat' split) <;> simp [State.setPort_shape, State.setTrack_shape, State.modemReset_shape, State.setEth_shape, State.ptpInit_shape, State.canResetPort_shape, State.logEv_shape]

theorem State.countFault_shape (s : State) (i : Island) (c : FaultCause) : (State.countFault s i c).shape = s.shape := by
  unfold State.countFault
  (repeat' split) <;> simp [State.count_shape]

theorem State.watchdogServed_shape (s : State) : (State.watchdogServed s).shape = s.shape := by
  unfold State.watchdogServed
  (repeat' split) <;> simp

theorem State.addSlack_shape (s : State) (i : Island) (x : Int) : (State.addSlack s i x).shape = s.shape := by
  unfold State.addSlack
  (repeat' split) <;> simp [State.setIsl_shape]

theorem State.counterCleared_shape (s : State) (n : Nat) : (State.counterCleared s n).shape = s.shape := by
  unfold State.counterCleared
  (repeat' split) <;> simp

theorem State.budgetStep_shape (s : State) (i : Island) : (State.budgetStep s i).shape = s.shape := by
  unfold State.budgetStep
  (repeat' split) <;> simp [State.logEv_shape]

theorem State.eccCounted_shape (s : State) (i : Island) : (State.eccCounted s i).shape = s.shape := by
  unfold State.eccCounted
  (repeat' split) <;> simp [State.count_shape, State.setIsl_shape]

theorem State.latchUpset_shape (s : State) (i : Island) (copy : Nat) (l : Latch) (v : Nat) : (State.latchUpset s i copy l v).shape = s.shape := by
  unfold State.latchUpset
  (repeat' split) <;> simp

theorem State.corrected_shape (s : State) (i : Island) (a : EccAt) : (State.corrected s i a).shape = s.shape := by
  unfold State.corrected
  (repeat' split) <;> simp [State.eccCounted_shape, State.latchUpset_shape]

theorem State.descLost_shape (s : State) (d : Nat) : (State.descLost s d).shape = s.shape := by
  unfold State.descLost
  simp; (repeat' split) <;> simp [State.discardHart_shape, State.post_shape]

theorem State.keyLost_shape (s : State) (slot : Nat) : (State.keyLost s slot).shape = s.shape := by
  unfold State.keyLost
  (repeat' split) <;> simp

theorem State.marginAct_shape (s : State) (i : Island) : (State.marginAct s i).shape = s.shape := by
  unfold State.marginAct
  simp only []
  repeat' split
  all_goals simp [State.count_shape, State.logEv_shape, State.setIsl_shape]

theorem State.setTemps_shape (s : State) (temps : List Int) : (State.setTemps s temps).shape = s.shape := by
  unfold State.setTemps
  (repeat' split) <;> simp

theorem State.marginSampled_shape (s : State) (slacks : List Int) (temps : List Int) : (State.marginSampled s slacks temps).shape = s.shape := by
  unfold State.marginSampled
  simp only []
  split
  · rfl
  · rw [State.shape_foldl]
    · rw [State.shape_foldl]
      · simp [State.setTemps_shape]
      · intro s x; split <;> simp [State.addSlack_shape]
    · intro s x; split <;> simp [State.marginAct_shape]

theorem State.packetLost_shape (s : State) (q : Nat) (i : Nat) : (State.packetLost s q i).shape = s.shape := by
  unfold State.packetLost
  (repeat' split) <;> simp [State.logEv_shape, State.setPkts_shape]

theorem State.pageFails_shape (s : State) (p : Nat) (unc : Bool) : (State.pageFails s p unc).shape = s.shape := by
  unfold State.pageFails
  (repeat' split) <;> simp [State.logEv_shape]

theorem State.regionRetired_shape (s : State) (i : Island) (n : Nat) : (State.regionRetired s i n).shape = s.shape := by
  unfold State.regionRetired
  (repeat' split) <;> simp [State.logEv_shape, State.setIsl_shape, State.retireDone_shape, State.retireGroup_shape, State.budgetStep_shape]

theorem State.setTemp_shape (s : State) (i : Island) (temp : Int) : (State.setTemp s i temp).shape = s.shape := by
  unfold State.setTemp
  (repeat' split) <;> simp [State.setIsl_shape]

theorem State.stepSwitched_shape (s : State) (i : Island) : (State.stepSwitched s i).shape = s.shape := by
  unfold State.stepSwitched
  (repeat' split) <;> simp [State.budgetStep_shape, State.setIsl_shape]

theorem State.storeError_shape (s : State) (x : StoreRef) : (State.storeError s x).shape = s.shape := by
  unfold State.storeError
  (repeat' split) <;> simp [State.blockSlot_shape, State.roverDamage_shape, State.packetLost_shape, State.descLost_shape, State.keyLost_shape, State.endLink_shape]

theorem State.tempAbove_shape (s : State) (i : Island) (temp : Int) : (State.tempAbove s i temp).shape = s.shape := by
  unfold State.tempAbove
  (repeat' split) <;> simp [State.setTemp_shape, State.logEv_shape]

theorem State.tempBelow_shape (s : State) (temps : List Int) : (State.tempBelow s temps).shape = s.shape := by
  unfold State.tempBelow
  (repeat' split) <;> simp [State.setTemps_shape]

theorem State.vreqMoved_shape (s : State) : (State.vreqMoved s).shape = s.shape := by
  unfold State.vreqMoved
  (repeat' split) <;> simp

theorem State.touch_shape (s : State) (k : Nat) : (State.touch s k).shape = s.shape := by
  unfold State.touch
  (repeat' split) <;> simp

theorem State.countGens_shape (s : State) : (State.countGens s).shape = s.shape := by
  unfold State.countGens
  (repeat' split) <;> simp

theorem State.stamp_shape (s : State) : (State.stamp s).shape = s.shape := by
  unfold State.stamp
  (repeat' split) <;> simp [State.fillAll_shape, State.countGens_shape]

theorem State.unserved_shape (s : State) (c : Caller) (f : InFlight) (a : Ans) : (State.unserved s c f a).shape = s.shape := by
  unfold State.unserved
  (repeat' split) <;> simp [State.onSession_shape, State.answer_shape]

theorem State.seenBy_shape (s : State) (c : Caller) (k : Nat) : (State.seenBy s c k).shape = s.shape := by
  unfold State.seenBy
  (repeat' split) <;> simp

theorem State.takeEvent_shape (s : State) (tok : Nat) {e : AppletEvent} {s' : State} (h : s.takeEvent tok = some (e, s')) : s'.shape = s.shape := by
  unfold State.takeEvent at h
  split at h
  · cases h; simp
  · cases h

theorem State.appletPost_shape (s : State) (kind : Nat) (token : Nat) (k : Nat) (body : Bytes) : (State.appletPost s kind token k body).shape = s.shape := by
  unfold State.appletPost
  (repeat' split) <;> simp [State.post_shape]

theorem State.appletAsk_shape (s : State) (c : Caller) (kind : Nat) (k : Nat) (body : Bytes) : (State.appletAsk s c kind k body).shape = s.shape := by
  unfold State.appletAsk
  (repeat' split) <;> simp [State.appletPost_shape]

theorem State.appletSilent_shape (s : State) (tok : Nat) : (State.appletSilent s tok).shape = s.shape := by
  unfold State.appletSilent
  split
  · rfl
  · rename_i e
    split
    · rw [State.answer_shape]
      exact State.takeEvent_shape _ _ e
    · rfl

theorem State.canTxAny_shape (s : State) (c : Caller) (req : Bytes) : (State.canTxAny s c req).1.shape = s.shape := by
  unfold State.canTxAny
  (repeat' split) <;> simp [State.canTx_shape, State.draw_shape]

theorem State.notCarried_shape (s : State) (g : Nat) : (State.notCarried s g).shape = s.shape := by
  unfold State.notCarried
  (repeat' split) <;> simp

theorem State.takeHold_shape (s : State) (c : Caller) (g : Nat) : (State.takeHold s c g).shape = s.shape := by
  unfold State.takeHold
  (repeat' split) <;> simp

theorem State.machineCommand_shape (s : State) (m : Nat) (sub : Nat) (v : Bytes) : (State.machineCommand s m sub v).1.shape = s.shape := by
  unfold State.machineCommand
  (repeat' split) <;> simp [State.roverReset_shape, State.paramRequest_shape, State.endLink_shape]

theorem State.payloadOp_shape (s : State) (c : Caller) (v : Bytes) : (State.payloadOp s c v).1.shape = s.shape := by
  unfold State.payloadOp
  (repeat' split) <;> simp [State.updateDone_shape]

theorem State.subscribeOp_shape (s : State) (c : Caller) (idx : Nat) (sub : Nat) (param : Nat) : (State.subscribeOp s c idx sub param).1.shape = s.shape := by
  unfold State.subscribeOp
  simp; (repeat' split) <;> simp [State.onSession_shape]

theorem State.notifyDue_shape (s : State) (i : Nat) (k : Nat) : (State.notifyDue s i k).shape = s.shape := by
  unfold State.notifyDue
  simp; (repeat' split) <;> simp [State.countGens_shape, State.setApplet_shape, State.setSession_shape]

theorem State.xferAbandon_shape (s : State) (i : Nat) (k : Nat) : (State.xferAbandon s i k).shape = s.shape := by
  unfold State.xferAbandon
  (repeat' split) <;> simp [State.setApplet_shape, State.setSession_shape]

theorem State.hello_shape (s : State) (raw : Bytes) : (State.hello s raw).shape = s.shape := by
  unfold State.hello
  (repeat' split) <;> simp [State.logEv_shape, State.draw_shape, State.drawBytes_shape, State.emit_shape]

theorem State.removePkt_shape (s : State) (q : Nat) (i : Nat) : (State.removePkt s q i).shape = s.shape := by
  unfold State.removePkt
  (repeat' split) <;> simp [State.setPkts_shape]

theorem State.abandonOp_shape (s : State) (h : Nat) (q : Nat) : (State.abandonOp s h q).shape = s.shape := by
  unfold State.abandonOp
  (repeat' split) <;> simp [State.removePkt_shape]

theorem State.load_shape (s : State) (h : Nat) (v : Nat) : (State.load s h v).shape = s.shape := by
  unfold State.load
  (repeat' split) <;> simp [State.emit_shape]

theorem State.setFabric_shape (s : State) (f : Fabric → Fabric) :
    (State.setFabric s f).shape = { s.shape with frame := (f s.fabric).frame } := by
  unfold State.setFabric
  simp

theorem State.closeOp_shape (s : State) (h : Nat) (q : Nat) : (State.closeOp s h q).shape = s.shape := by
  unfold State.closeOp
  (repeat' split) <;> simp [State.load_shape, State.removePkt_shape, State.setFabric_shape, State.count_shape, State.setPkts_shape]

theorem State.completeOp_shape (s : State) (h : Nat) (v : Nat) : (State.completeOp s h v).shape = s.shape := by
  unfold State.completeOp
  (repeat' split) <;> simp [State.setFabric_shape, State.completeHart_shape]

theorem State.decrementOp_shape (s : State) (h : Nat) (v : Nat) : (State.decrementOp s h v).shape = s.shape := by
  unfold State.decrementOp
  (repeat' split) <;> simp [State.decr_shape]

theorem State.dropOp_shape (s : State) (h : Nat) (q : Nat) : (State.dropOp s h q).shape = s.shape := by
  unfold State.dropOp
  simp; (repeat' split) <;> simp [State.setFabric_shape]

theorem State.grant_shape (s : State) (h : Nat) (d : Nat) (x : Desc) : (State.grant s h d x).shape = s.shape := by
  unfold State.grant
  (repeat' split) <;> simp [State.setFabric_shape, State.load_shape, State.count_shape]

theorem State.wake_shape (s : State) (h : Nat) (code : Nat) : (State.wake s h code).shape = s.shape := by
  unfold State.wake
  (repeat' split) <;> simp [State.load_shape, State.setFabric_shape]

theorem State.fetchReturn_shape (s : State) (h : Nat) (code : Option Nat) : (State.fetchReturn s h code).shape = s.shape := by
  unfold State.fetchReturn
  (repeat' split) <;> simp [State.grant_shape, State.wake_shape]

theorem State.fetchExpires_shape (s : State) (h : Nat) : (State.fetchExpires s h).shape = s.shape := by
  unfold State.fetchExpires
  simp; (repeat' split) <;> simp [State.fetchReturn_shape]

theorem State.fetchOp_shape (s : State) (h : Nat) (timeout : Nat) : (State.fetchOp s h timeout).shape = s.shape := by
  unfold State.fetchOp
  (repeat' split) <;> simp [State.load_shape, State.completeHart_shape, State.setFabric_shape]

theorem State.peekOp_shape (s : State) (h : Nat) (idx : Nat) (high : Bool) : (State.peekOp s h idx high).shape = s.shape := by
  unfold State.peekOp
  simp; (repeat' split) <;> simp [State.setFabric_shape, State.load_shape]

theorem State.openOp_shape (s : State) (h : Nat) (q : Nat) : (State.openOp s h q).shape = s.shape := by
  unfold State.openOp
  (repeat' split) <;> simp [State.load_shape, State.setFabric_shape]

theorem State.popOp_shape (s : State) (h : Nat) (q : Nat) : (State.popOp s h q).shape = s.shape := by
  unfold State.popOp
  simp; (repeat' split) <;> simp [State.load_shape, State.setFabric_shape]

theorem State.pushWord_shape (s : State) (h : Nat) (q : Nat) (w : Nat) : (State.pushWord s h q w).shape = s.shape := by
  unfold State.pushWord
  (repeat' split) <;> simp [State.setFabric_shape]

theorem State.pushOp_shape (s : State) (h : Nat) (q : Nat) (words : List Nat) : (State.pushOp s h q words).shape = s.shape := by
  unfold State.pushOp
  (repeat' split) <;> simp [State.pushWord_shape]

theorem State.reissueOp_shape (s : State) (h : Nat) (idx : Nat) : (State.reissueOp s h idx).shape = s.shape := by
  unfold State.reissueOp
  simp; (repeat' split) <;> simp [State.setFabric_shape, State.load_shape]

theorem State.replyOp_shape (s : State) (h : Nat) : (State.replyOp s h).shape = s.shape := by
  unfold State.replyOp
  simp; (repeat' split) <;> simp [State.setFabric_shape, State.post_shape, State.decr_shape]

theorem State.submitOp_shape (s : State) (h : Nat) (idx : Nat) (lo : Nat) (hi : Nat) : (State.submitOp s h idx lo hi).shape = s.shape := by
  unfold State.submitOp
  simp; (repeat' split) <;> simp [State.setFabric_shape, State.load_shape]

theorem State.tagOp_shape (s : State) (h : Nat) (q : Nat) (v : Nat) : (State.tagOp s h q v).shape = s.shape := by
  unfold State.tagOp
  (repeat' split) <;> simp [State.setFabric_shape]

theorem State.mirrorOp_shape (s : State) (ok : Bool) : (State.mirrorOp s ok).shape = s.shape := by
  unfold State.mirrorOp
  (repeat' split) <;> simp [State.logEv_shape]

theorem State.offerEvent_shape (s : State) (code : Nat) (sev : Nat) (island : Nat) (params : Bytes) : (State.offerEvent s code sev island params).shape = s.shape := by
  unfold State.offerEvent
  (repeat' split) <;> simp [State.offer_shape]

theorem State.timeOffset_shape (s : State) (src : Nat) (off : Int) (bound : Nat) : (State.timeOffset s src off bound).shape = s.shape := by
  unfold State.timeOffset
  (repeat' split) <;> simp [State.offset_shape]

theorem State.timeStepped_shape (s : State) : (State.timeStepped s).shape = s.shape := by
  unfold State.timeStepped
  (repeat' split) <;> simp [State.takeStep_shape, State.canStepped_shape]

theorem State.accessFault_shape (s : State) (h : Nat) (addr : Nat) : (State.accessFault s h addr).shape = s.shape := by
  unfold State.accessFault
  (repeat' split) <;> simp [State.emit_shape]

theorem State.dispatcherAccess_shape (s : State) (h : Nat) (off : Nat) (store : Option Nat) {s' : State} (h' : s.dispatcherAccess h off store = some s') : s'.shape = s.shape := by
  unfold State.dispatcherAccess at h'
  dsimp only at h'
  repeat' split at h'
  all_goals first
    | (cases h'; done)
    | (cases h'; first | rfl | (simp [State.setFabric_shape, State.load_shape]; done))

theorem State.gasketLoad_shape (s : State) (h : Nat) (i : Island) (store : Option Nat) : (State.gasketLoad s h i store).shape = s.shape := by
  unfold State.gasketLoad
  (repeat' split) <;> simp [State.load_shape]

theorem State.queueAccess_shape (s : State) (h : Nat) (q : Nat) (off : Nat) (store : Option Nat) {s' : State} (h' : s.queueAccess h q off store = some s') : s'.shape = s.shape := by
  unfold State.queueAccess at h'
  repeat' split at h'
  all_goals first
    | (cases h'; done)
    | (cases h'; first | rfl | (simp [State.load_shape]; done))

theorem State.requestAccess_shape (s : State) (h : Nat) (comb : Bool) (off : Nat) (size : Nat) (store : Option Nat) {s' : State} (h' : s.requestAccess h comb off size store = some s') : s'.shape = s.shape := by
  unfold State.requestAccess at h'
  dsimp only at h'
  repeat' split at h'
  all_goals first
    | (cases h'; done)
    | (cases h'; first | rfl | (simp [State.setFabric_shape]; done))

theorem State.logbookAccess_shape (s : State) (h : Nat) (off : Nat) (store : Option Nat) {s' : State} (h' : s.logbookAccess h off store = some s') : s'.shape = s.shape := by
  unfold State.logbookAccess at h'
  dsimp only at h'
  repeat' split at h'
  all_goals first
    | (cases h'; done)
    | (cases h'; first | rfl | (simp [State.load_shape]; done))

theorem State.withFetchWord_shape (s : State) (nbits : Nat) (w : Nat) : (State.withFetchWord s nbits w).shape = s.shape := by
  unfold State.withFetchWord
  (repeat' split) <;> simp

end Sys2Proof.Machine
end

section
set_option Elab.async false
/-!
PROOF. What a step may do to the measure: it keeps the numbers of things and the order of tables and memories, and where no release acts it
leaves every latch of channel B that was set.
-/

namespace Sys2Proof.Machine

/-- Every fixed list has its number. -/
structure Shape.Sized (x : Shape) : Prop where
  islands  : x.islands = 12
  counters : x.counters = 64
  snapshot : x.snapshot = 64
  rings    : x.rings = (8, 12)
  rx       : x.rx = 4
  ins      : x.ins = 4
  souts    : x.souts = 4
  rows     : x.rows = 10
  verdicts : x.verdicts = 4
  modems   : x.modems = 8
  srcs     : x.srcs = 4
  outs     : x.outs = 8
  caps     : x.caps = 4
  eth      : x.eth = 4
  can      : x.can = 8
  harts    : x.frame.1 = 16
  imgs     : x.imgs = 2

/-- Tables and memories are in their one form. -/
structure Shape.Canonical (x : Shape) : Prop where
  tables : ∀ t ∈ x.tables, Tbl.rises t
  sram   : Memory.wf x.frame.2
  dram   : Memory.wf x.dram

/-- Every source bit of one set of latches is in the other. -/
def StopLatches.Within (x y : StopLatches) : Prop := ∀ l n, bit (x.bits l) n = true → bit (y.bits l) n = true

/-- From one measure to another sizes and forms are kept, and, where `q` says that no release acts, the latches of channel B. -/
structure Shape.Keeps (q : Prop) (x y : Shape) : Prop where
  sized     : x.Sized → y.Sized
  canonical : x.Canonical → y.Canonical
  latched   : q → x.latches.Within y.latches

section
variable {q : Prop} {a x y z : Shape}

/-- A measure is its fields. -/
@[simp] theorem Shape.eta (x : Shape) : (⟨x.islands, x.counters, x.snapshot, x.rings, x.rx, x.ins, x.souts, x.rows, x.verdicts, x.modems, x.srcs,
    x.outs, x.caps, x.eth, x.can, x.frame, x.imgs, x.tables, x.dram, x.latches⟩ : Shape) = x := rfl

@[simp] theorem Shape.Keeps.ite_iff (c : Prop) [Decidable c] :
    a.Keeps q (if c then x else y) ↔ (c → a.Keeps q x) ∧ (¬ c → a.Keeps q y) := by
  split <;> simp [*]

theorem Shape.Keeps.refl (q : Prop) (x : Shape) : x.Keeps q x := ⟨id, id, fun _ _ _ h => h⟩

theorem Shape.Keeps.trans (h : x.Keeps q y) (k : y.Keeps q z) : x.Keeps q z :=
  ⟨fun e => k.sized (h.sized e), fun e => k.canonical (h.canonical e), fun hq l n e => k.latched hq l n (h.latched hq l n e)⟩

@[simp] theorem Shape.Keeps.foldl {α : Type} (f : State → α → State) (l : List α) (s : State)
    (hf : ∀ s x, a.Keeps q s.shape → a.Keeps q (f s x).shape) (h : a.Keeps q s.shape) : a.Keeps q (l.foldl f s).shape := by
  induction l generalizing s with
  | nil => exact h
  | cons x l ih => exact ih _ (hf _ _ h)

/-! ### Fields that a reset sets to their number -/

variable (h : a.Keeps q x)
include h

theorem Shape.Keeps.rings : a.Keeps q { x with rings := (8, x.rings.2) } :=
  ⟨fun k => { h.sized k with rings := by rw [(h.sized k).rings] }, fun k => { h.canonical k with }, h.latched⟩
theorem Shape.Keeps.rx : a.Keeps q { x with rx := 4 } := ⟨fun k => { h.sized k with rx := rfl }, fun k => { h.canonical k with }, h.latched⟩
theorem Shape.Keeps.rows : a.Keeps q { x with rows := 10 } := ⟨fun k => { h.sized k with rows := rfl }, fun k => { h.canonical k with }, h.latched⟩
theorem Shape.Keeps.modems : a.Keeps q { x with modems := 8 } := ⟨fun k => { h.sized k with modems := rfl }, fun k => { h.canonical k with }, h.latched⟩
theorem Shape.Keeps.srcs : a.Keeps q { x with srcs := 4 } := ⟨fun k => { h.sized k with srcs := rfl }, fun k => { h.canonical k with }, h.latched⟩
theorem Shape.Keeps.eth : a.Keeps q { x with eth := 4 } := ⟨fun k => { h.sized k with eth := rfl }, fun k => { h.canonical k with }, h.latched⟩
theorem Shape.Keeps.verdicts : a.Keeps q { x with verdicts := 4 } := ⟨fun k => { h.sized k with verdicts := rfl }, fun k => { h.canonical k with }, h.latched⟩
theorem Shape.Keeps.verdictsOf (hy : a.Keeps q y) : a.Keeps q { x with verdicts := y.verdicts } :=
  ⟨fun k => { h.sized k with verdicts := (hy.sized k).verdicts }, fun k => { h.canonical k with }, h.latched⟩
theorem Shape.Keeps.snapshot : a.Keeps q { x with snapshot := x.counters } :=
  ⟨fun k => { h.sized k with snapshot := (h.sized k).counters }, fun k => { h.canonical k with }, h.latched⟩
theorem Shape.Keeps.frame : a.Keeps q { x with frame := (16, []) } :=
  ⟨fun k => { h.sized k with harts := rfl }, fun k => { h.canonical k with sram := Memory.wf_nil }, h.latched⟩
theorem Shape.Keeps.dram : a.Keeps q { x with dram := [] } :=
  ⟨fun k => { h.sized k with }, fun k => { h.canonical k with dram := Memory.wf_nil }, h.latched⟩
theorem Shape.Keeps.tables {t : List (Tbl Bytes)} (ht : (∀ t ∈ x.tables, Tbl.rises t) → ∀ y ∈ t, Tbl.rises y) : a.Keeps q { x with tables := t } :=
  ⟨fun k => { h.sized k with }, fun k => { h.canonical k with tables := ht (h.canonical k).tables }, h.latched⟩
theorem Shape.Keeps.latches {l : StopLatches} (hl : q → x.latches.Within l) : a.Keeps q { x with latches := l } :=
  ⟨fun k => { h.sized k with }, fun k => { h.canonical k with }, fun hq m n e => hl hq m n (h.latched hq m n e)⟩
end

/-! ### Resets of whole parts -/

theorem State.combDiscardAll_shape (s : State) (out : Nat) : (s.combDiscardAll out).shape = { s.shape with rings := (8, s.shape.rings.2) } := by
  unfold State.combDiscardAll
  simp [State.combSettled_shape, State.combDiscard_shape, State.combAnswer_shape, State.answer_shape]

theorem State.combReset_shape (s : State) : s.combReset.shape = { s.shape with rings := (8, s.shape.rings.2) } := by
  unfold State.combReset
  simp [State.combDiscardAll_shape, Comb.reset]

theorem State.confReset_shape (s : State) (wide : Bool) : (s.confReset wide).shape = { s.shape with rows := 10 } := by
  unfold State.confReset
  simp [State.startMonitor_shape]

theorem State.trackReset_shape (s : State) : s.trackReset.shape = { s.shape with rx := 4 } := by
  unfold State.trackReset
  simp [State.setTrack_shape, Tracking.reset]

theorem State.radioReset_shape (s : State) : s.radioReset.shape = { s.shape with modems := 8 } := by
  unfold State.radioReset
  simp [State.endMessages_shape, State.endLink_shape]

theorem State.netReset_shape (s : State) : s.netReset.shape = { s.shape with eth := 4 } := by
  unfold State.netReset
  simp only []
  split <;> simp [State.sourceGone_shape]

theorem State.timebaseReset_shape (s : State) : s.timebaseReset.shape = { s.shape with srcs := 4 } := by
  unfold State.timebaseReset
  simp [Timebase.reset]

theorem State.fabricReset_shape (s : State) : s.fabricReset.shape = { s.shape with frame := (16, []) } := by
  unfold State.fabricReset
  simp [State.wakeAll_shape, Fabric.reset]

theorem State.snapshotTaken_shape (s : State) : s.snapshotTaken.shape = { s.shape with snapshot := s.shape.counters } := by
  unfold State.snapshotTaken
  simp

theorem State.zeroCounts_shape (s : State) : s.zeroCounts.shape = { s.shape with verdicts := 4 } := by
  unfold State.zeroCounts
  simp

theorem State.keepCounts_shape (s old : State) : (s.keepCounts old).shape = { s.shape with verdicts := old.shape.verdicts } := by
  unfold State.keepCounts
  simp

end Sys2Proof.Machine
end

section
set_option Elab.async false
/-!
PROOF. What the first writers of settings, latches and memories do to the measure.
-/

namespace Sys2Proof.Machine

/-! ### Tables of settings -/

theorem putCanon_rises {t : Tbl Bytes} (k : Nat) (v d : Bytes) (h : Tbl.rises t) : Tbl.rises (putCanon t k v d) := by
  unfold putCanon
  split
  · exact Tbl.rising_del k h
  · exact Tbl.rising_put k v h

theorem rises_foldl {α : Type} (f : Tbl Bytes → α → Tbl Bytes) (l : List α) {t : Tbl Bytes} (h : Tbl.rises t)
    (hf : ∀ t x, Tbl.rises t → Tbl.rises (f t x)) : Tbl.rises (l.foldl f t) := by
  induction l generalizing t with
  | nil => exact h
  | cons x l ih => exact ih (hf t x h)

theorem Settings.forall_tables {g : Settings} {P : Tbl Bytes → Prop} : (∀ t ∈ g.tables, P t) ↔
    P g.bank0.values ∧ P g.bank1.values ∧ P g.records ∧ P g.vol ∧ P g.inForce ∧ ∀ b ∈ g.imported.toList, P b.1.values := by
  simp only [Settings.tables, List.mem_append, List.mem_cons, List.not_mem_nil, or_false, List.mem_map]
  constructor
  · intro h
    exact ⟨h _ (by simp), h _ (by simp), h _ (by simp), h _ (by simp), h _ (by simp), fun b hb => h _ (.inr ⟨b, hb, rfl⟩)⟩
  · rintro ⟨h0, h1, h2, h3, h4, h5⟩ t ((rfl | rfl | rfl | rfl | rfl) | ⟨b, hb, rfl⟩)
    exacts [h0, h1, h2, h3, h4, h5 b hb]

/-- All tables of the settings have rising keys. -/
def Settings.Rising (g : Settings) : Prop := ∀ t ∈ g.tables, Tbl.rises t

theorem Bank.write_rises {b : Bank} {t : Tbl Bytes} (n : Nat) (h : Tbl.rises t) : Tbl.rises (b.write t n).values := by
  unfold Bank.write
  split <;> exact h

theorem Settings.Rising.store {g : Settings} (k : Nat) (pers : Bool) (v d : Bytes) (h : g.Rising) : (g.store k pers v d).Rising := by
  obtain ⟨h0, h1, h2, h3, h4, h5⟩ := Settings.forall_tables.mp h
  unfold Settings.store
  split
  · exact Settings.forall_tables.mpr ⟨h0, h1, putCanon_rises k v d h2, h3, h4, h5⟩
  · split
    · unfold Settings.mapBank
      split
      · exact Settings.forall_tables.mpr ⟨Bank.write_rises _ (putCanon_rises k v d h0), h1, h2, h3, h4, h5⟩
      · exact Settings.forall_tables.mpr ⟨h0, Bank.write_rises _ (putCanon_rises k v d h1), h2, h3, h4, h5⟩
    · exact Settings.forall_tables.mpr ⟨h0, h1, h2, putCanon_rises k v d h3, h4, h5⟩

theorem Settings.Rising.putBank {g : Settings} (i : Nat) {b : Bank} (h : g.Rising) (hb : Tbl.rises b.values) : (g.putBank i b).Rising := by
  obtain ⟨h0, h1, h2, h3, h4, h5⟩ := Settings.forall_tables.mp h
  unfold Settings.putBank
  split
  · exact Settings.forall_tables.mpr ⟨hb, h1, h2, h3, h4, h5⟩
  · exact Settings.forall_tables.mpr ⟨h0, hb, h2, h3, h4, h5⟩

theorem Settings.Rising.imported {g : Settings} (h : g.Rising) {o : Option (Bank × List Nat)} (ho : ∀ b ∈ o.toList, Tbl.rises b.1.values) :
    Settings.Rising { g with imported := o } := by
  obtain ⟨h0, h1, h2, h3, h4, -⟩ := Settings.forall_tables.mp h
  exact Settings.forall_tables.mpr ⟨h0, h1, h2, h3, h4, ho⟩

theorem Settings.Rising.of_tables {g g' : Settings} (h : g.Rising) (e : g'.tables = g.tables) : g'.Rising := by
  unfold Settings.Rising
  rw [e]
  exact h

section
variable {q : Prop} {a : Shape} {s : State} (h : a.Keeps q s.shape)
include h

theorem State.settings_keeps {g : Settings} (hg : s.settings.Rising → g.Rising) : a.Keeps q (State.shape { s with settings := g }) := h.tables hg

theorem State.setVal_keeps (k : Nat) (v : Bytes) : a.Keeps q (s.setVal k v).shape :=
  State.settings_keeps h fun hg => hg.store k _ v _

theorem State.dropVolatile_keeps (i : Island) : a.Keeps q (s.dropVolatile i).shape := by
  refine State.settings_keeps h fun hg => ?_
  obtain ⟨h0, h1, h2, h3, h4, h5⟩ := Settings.forall_tables.mp hg
  exact Settings.forall_tables.mpr ⟨h0, h1, h2, h3.sublist (List.filter_sublist.map _), h4, h5⟩

theorem State.putInForce_keeps : a.Keeps q s.putInForce.shape := by
  refine State.settings_keeps h fun hg => ?_
  obtain ⟨h0, h1, h2, h3, -, h5⟩ := Settings.forall_tables.mp hg
  exact Settings.forall_tables.mpr ⟨h0, h1, h2, h3, rises_foldl _ _ List.Pairwise.nil fun t k ht => putCanon_rises _ _ _ ht, h5⟩

theorem State.lifeWritten_keeps (goal : Lifecycle) : a.Keeps q (s.lifeWritten goal).shape := by
  unfold State.lifeWritten
  simp only []
  split
  · refine h.tables fun hg => ?_
    obtain ⟨h0, h1, h2, h3, h4, h5⟩ := Settings.forall_tables.mp hg
    exact Settings.forall_tables.mpr ⟨h0, h1, Tbl.rising_del _ h2, h3, h4, h5⟩
  · exact h
  · exact h

theorem State.defaultBank_keeps : a.Keeps q s.defaultBank.shape :=
  State.settings_keeps h fun hg => hg.imported fun b hb => by
    simp only [Option.toList_some, List.mem_singleton] at hb
    rw [hb]
    exact List.Pairwise.nil

theorem State.importImage_keeps (b : Bytes) : a.Keeps q (s.importImage b).1.shape := by
  unfold State.importImage
  split
  · exact h
  · simp only [State.blocksWorn_shape]
    refine State.settings_keeps h fun hg => hg.imported fun c hc => ?_
    simp only [Option.toList_some, List.mem_singleton] at hc
    rw [hc]
    refine rises_foldl _ _ List.Pairwise.nil fun t e ht => ?_
    split
    · exact putCanon_rises _ _ _ ht
    · exact ht

theorem State.eraseBanks_keeps : a.Keeps q s.eraseBanks.shape := by
  unfold State.eraseBanks
  split
  · refine h.tables fun hg => ?_
    obtain ⟨-, -, h2, h3, h4, -⟩ := Settings.forall_tables.mp hg
    exact Settings.forall_tables.mpr ⟨List.Pairwise.nil, List.Pairwise.nil, h2, h3, h4, by simp⟩
  · exact h

theorem State.rejectTrial_keeps (why : RejectCause) : a.Keeps q (s.rejectTrial why).shape := by
  unfold State.rejectTrial
  split
  · exact h
  · simp only [State.logEv_shape, State.writeBoot_shape]
    refine Shape.Keeps.tables (x := State.shape { s.setImg _ _ with boot := _ }) ?_ fun hg => ?_
    · simpa [State.setImg_shape] using h
    · exact Settings.Rising.imported (g := s.settings) hg (by simp)

theorem State.confirmTrial_keeps : a.Keeps q s.confirmTrial.shape := by
  unfold State.confirmTrial
  split
  · exact h
  · simpa [State.logEv_shape, State.writeBoot_shape, State.setImg_shape] using h

end

/-- The settings once the bank that waits is taken. -/
theorem Settings.taken_rising {g : Settings} (hg : g.Rising) : Settings.Rising (match g.imported with
    | some (b, groups) =>
      if g.trialBank then { g.putBank g.inUse b with imported := none, carried := groups.map fun c => (c, 0) }
      else { g.putBank (1 - g.named) b with imported := none, named := 1 - g.named, carried := groups.map fun c => (c, 0) }
    | none => g) := by
  split
  · rename_i b groups e
    obtain ⟨-, -, -, -, -, h5⟩ := Settings.forall_tables.mp hg
    have hb : Tbl.rises b.values := h5 (b, groups) (by simp [e])
    split
    · exact ((hg.putBank g.inUse hb).imported (o := none) (by simp)).of_tables rfl
    · exact ((hg.putBank (1 - g.named) hb).imported (o := none) (by simp)).of_tables rfl
  · exact hg

section
variable {q : Prop} {a : Shape} {s : State} (h : a.Keeps q s.shape)
include h

theorem State.takeBanks_keeps : a.Keeps q s.takeBanks.shape := by
  have ht : s.settings.Rising → _ := Settings.taken_rising
  unfold State.takeBanks
  extract_lets g g' s' act ok nb src g3 s3
  replace ht : s.settings.Rising → g'.Rising := ht
  clear_value g'
  have hs : a.Keeps q s'.shape ∧ (s'.settings.Rising → g'.Rising) := by
    unfold s'
    split
    · exact ⟨h, ht⟩
    · exact ⟨by rw [State.writeBoot_shape]; exact State.settings_keeps h ht, id⟩
  obtain ⟨hs, hg⟩ := hs
  have hact : s'.settings.Rising → Tbl.rises (if ok then act.values else []) := fun e => by
    obtain ⟨h0, h1, -⟩ := Settings.forall_tables.mp (hg e)
    unfold act
    (repeat' split) <;> first | assumption | exact List.Pairwise.nil
  have h3 : a.Keeps q s3.shape := State.settings_keeps hs fun e => ((hg e).putBank (b := nb) _ (hact e)).of_tables rfl
  split
  · split
    · exact State.settings_keeps hs hg
    · split
      · exact h3
      · rw [State.logEv_shape]; exact h3
  · exact State.settings_keeps hs fun e => (hg e).of_tables rfl

end

end Sys2Proof.Machine
end

section
set_option Elab.async false
/-!
PROOF. What the Stop Bath does to the latches of channel B: sources set bits, a return joins the channels, only a release clears.
-/

namespace Sys2Proof.Machine

theorem getD_put_or {t : Tbl Nat} {k v i n : Nat} (hv : bit (Tbl.getD t k 0) n = true → bit v n = true)
    (h : bit (Tbl.getD t i 0) n = true) : bit (Tbl.getD (Tbl.put t k v) i 0) n = true := by
  by_cases e : i = k
  · subst e
    simp only [Tbl.getD, Tbl.get?_put]
    exact hv h
  · simpa only [Tbl.getD, Tbl.get?_put_ne e] using h

theorem StopLatches.Within.refl (x : StopLatches) : x.Within x := fun _ _ h => h

theorem StopLatches.Within.trans {x y z : StopLatches} (h : x.Within y) (k : y.Within z) : x.Within z := fun l n e => k l n (h l n e)

theorem StopLatches.within_put (x : StopLatches) (l : Latch) (src : Nat) : x.Within (x.put l (setBit (x.bits l) src)) := by
  have hs (v n : Nat) (h : bit v n = true) : bit (setBit v src) n = true := by
    unfold setBit
    rw [bit_or, h, Bool.true_or]
  have hp (t : Tbl Nat) (k v : Nat) : putBits t k (setBit v src) = Tbl.put t k (setBit v src) := if_neg (setBit_ne_zero v src)
  intro m n h
  cases l <;> cases m <;>
    first
    | exact h
    | exact hs _ _ h
    | (simp only [StopLatches.put, hp]; exact getD_put_or (hs _ _) h)

theorem unionBits_within (a b : Tbl Nat) (i n : Nat) (h : bit (Tbl.getD a i 0) n = true) : bit (Tbl.getD (unionBits a b) i 0) n = true := by
  unfold unionBits
  induction b generalizing a with
  | nil => exact h
  | cons e b ih => exact ih _ (getD_put_or (fun k => by rw [bit_or, k, Bool.true_or]) h)

@[simp] theorem StopChan.latched_latches (ch : StopChan) (x : StopLatches) : (ch.latched x).latches = x := Triple.of_vote x

theorem StopChan.within_set (ch : StopChan) (l : Latch) (src : Nat) : ch.latches.Within (ch.set l src).latches := by
  unfold StopChan.set StopChan.put
  rw [StopChan.latched_latches]
  exact StopLatches.within_put _ l src

theorem StopChan.within_takeSource (ch : StopChan) (st : IslandState) (l : Latch) (src : Nat) :
    ch.latches.Within (ch.takeSource st l src).latches := by
  cases st
  case running => exact ch.within_set l src
  all_goals exact .refl _

theorem StopChan.within_union (ch other : StopChan) : ch.latches.Within (ch.union other).latches := by
  unfold StopChan.union
  rw [StopChan.latched_latches]
  intro l n h
  cases l with
  | all =>
    show bit (ch.latches.all ||| _) n = true
    rw [bit_or, show bit ch.latches.all n = true from h, Bool.true_or]
  | zone z => exact unionBits_within _ _ _ _ h
  | group z => exact unionBits_within _ _ _ _ h
  | machine z => exact unionBits_within _ _ _ _ h

theorem StopChan.within_sets (l : List (Latch × Nat)) (ch : StopChan) : ch.latches.Within (l.foldl (fun c h => c.set h.1 h.2) ch).latches := by
  induction l generalizing ch with
  | nil => exact .refl _
  | cons h l ih => exact (ch.within_set h.1 h.2).trans (ih _)

theorem StopChan.within_returned (ch other : StopChan) : ch.latches.Within (ch.returned other).latches := by
  unfold StopChan.returned
  exact (ch.within_union other).trans (StopChan.within_sets _ _)

section
variable {q : Prop} {a : Shape} {s : State} (h : a.Keeps q s.shape)
include h

theorem State.setLatch_keeps (l : Latch) (src reason : Nat) : a.Keeps q (s.setLatch l src reason).shape := by
  unfold State.setLatch
  simp only [State.shape_ite, State.sendNotices_shape, State.count_shape, State.refreshGo_shape, ite_self]
  exact h.latches fun _ => StopChan.within_takeSource _ _ _ _

theorem State.resetLatch_keeps : a.Keeps q s.resetLatch.shape := by
  have hl : a.Keeps q _ := h.latches fun _ => StopChan.within_set _ .all 11
  unfold State.resetLatch
  simp only [State.shape_ite, State.sendNotices_shape, State.count_shape, ite_self]
  exact hl

theorem State.channelReturned_keeps (i : Island) : a.Keeps q (s.channelReturned i).shape := by
  have hf (l : List (Latch × Nat)) (t : State) (st : StopBath) (ht : a.Keeps q t.shape) :
      a.Keeps q ((l.foldl (fun s h => s.heldTaken st h) t.refreshGo).answerWaiting).shape := by
    simpa [State.answerWaiting_shape, State.heldTaken_shape, State.refreshGo_shape] using ht
  unfold State.channelReturned
  refine hf _ _ _ ?_
  split
  · exact h
  · exact h.latches fun _ => StopChan.within_returned _ _
  · exact h

/-- A release may clear latches, so that it keeps only the numbers and forms. -/
theorem State.releaseConfirmed_keeps (hq : ¬ q) (v : Bytes) (priv : Nat) : a.Keeps q (s.releaseConfirmed v priv).1.shape := by
  unfold State.releaseConfirmed
  extract_lets bad st st'
  clear_value bad
  cases bad
  case some => exact h
  case none =>
    simp only [State.refreshGo_shape]
    exact h.latches fun e => absurd e hq

end

theorem State.behind_keeps {q : Prop} {a : Shape} {s : State} {e : State × Option Ans} (h : a.Keeps q s.shape) (r : ObjRow) (he : a.Keeps q e.1.shape) :
    a.Keeps q (s.behind r e).1.shape := by
  unfold State.behind
  split
  · exact he
  · split
    · split
      · exact he
      · exact h
    · exact h

/-! ### Reaches without the Always-on island -/

theorem aon_not_chip : Island.aon ∉ reachIslands 1 0xFF := by decide

theorem firstFail_first {ok : Bool} {x : Ans} {l : List (Bool × Ans)} (h : firstFail ((ok, x) :: l) = none) : ok = true := by
  unfold firstFail at h
  split at h
  · assumption
  · cases h

theorem aon_not_target {s : State} {v : Bytes} (h : s.resetTargetOk v = true) : Island.aon ∉ reachIslands (u v 0 1) (u v 1 1) := by
  unfold State.resetTargetOk at h
  generalize u v 1 1 = i at h ⊢
  split at h
  case h_5 => cases h
  case h_3 hr =>
    rw [hr]
    simp only [Bool.and_eq_true, decide_eq_true_eq] at h
    obtain ⟨⟨h5, h10⟩, -⟩ := h
    interval_cases i <;> decide
  all_goals
    rename_i hr
    rw [hr]
    simp [reachIslands]

end Sys2Proof.Machine
end

section
set_option Elab.async false
/-!
PROOF. Operations that keep the measure, from the settings and the Stop Bath to resets and accesses.
-/

namespace Sys2Proof.Machine

section
variable {q : Prop} {a : Shape} {s : State} (h : a.Keeps q s.shape)
include h

theorem State.timebaseReset_keeps : a.Keeps q s.timebaseReset.shape := by
  rw [State.timebaseReset_shape]
  exact h.srcs

theorem State.applyStop_keeps (v : Bytes) : a.Keeps q (State.applyStop s v).shape := by
  unfold State.applyStop
  (repeat' split) <;> simp [h, State.setLatch_keeps, State.logEv_shape]

theorem State.siJudge_keeps (n : Nat) : a.Keeps q (State.siJudge s n).shape := by
  unfold State.siJudge
  (repeat' split) <;> simp [h, State.setIn_shape, State.setLatch_keeps]

theorem State.channelsDisagree_keeps : a.Keeps q (State.channelsDisagree s).shape := by
  unfold State.channelsDisagree
  (repeat' split) <;> simp [h, State.setLatch_keeps, State.logEv_shape]

theorem State.stopCmd_keeps (v : Bytes) (c : Caller) : a.Keeps q (State.stopCmd s v c).1.shape := by
  unfold State.stopCmd
  (repeat' split) <;> simp [h, State.applyStop_keeps]

theorem State.stopNotice_keeps (msg : Bytes) (c : Caller) : a.Keeps q (State.stopNotice s msg c).1.shape := by
  unfold State.stopNotice
  (repeat' split) <;> simp [h, State.setLatch_keeps, State.logEv_shape]

theorem State.siDebounced_keeps (n : Nat) (pin : Nat) : a.Keeps q (State.siDebounced s n pin).shape := by
  unfold State.siDebounced
  (repeat' split) <;> simp [h, State.setIn_shape, State.siJudge_keeps]

theorem State.siDiscrepant_keeps (n : Nat) : a.Keeps q (State.siDiscrepant s n).shape := by
  unfold State.siDiscrepant
  simp; (repeat' split) <;> simp [h, State.logEv_shape, State.setIn_shape, State.siJudge_keeps]

theorem State.soFaulted_keeps (n : Nat) (pp : Bool) (nn : Bool) : a.Keeps q (State.soFaulted s n pp nn).shape := by
  unfold State.soFaulted
  (repeat' split) <;> simp [h, State.setSo_shape, State.setLatch_keeps, State.logEv_shape]

theorem State.soPulseJudge_keeps (n : Nat) (pp : Bool) (nn : Bool) : a.Keeps q (State.soPulseJudge s n pp nn).shape := by
  unfold State.soPulseJudge
  (repeat' split) <;> simp [h, State.setSo_shape, State.setLatch_keeps, State.logEv_shape]

theorem State.canConfine_keeps (n : Nat) (was : Nat) : a.Keeps q (State.canConfine s n was).shape := by
  unfold State.canConfine
  (repeat' split) <;> simp [h, State.setCan_shape, State.endSends_shape, State.logEv_shape, State.setLatch_keeps]

theorem State.attemptEnd_keeps (n : Nat) (b : Nat) (sof : Nat) (outcome : CanAttempt) : a.Keeps q (State.attemptEnd s n b sof outcome).shape := by
  unfold State.attemptEnd
  simp; (repeat' split) <;> simp [h, State.emit_shape, State.setCan_shape, State.canErrored_shape, State.sendTried_shape, State.refTried_shape, State.canConfine_keeps]

theorem State.stopFrame_keeps (n : Nat) (f : CanFrame) : a.Keeps q (State.stopFrame s n f).shape := by
  unfold State.stopFrame
  (repeat' split) <;> simp [h, State.setLatch_keeps, State.logEv_shape]

theorem State.takeCanFrame_keeps (n : Nat) (stamp : Int × Nat) (f : CanFrame) : a.Keeps q (State.takeCanFrame s n stamp f).shape := by
  unfold State.takeCanFrame
  (repeat' split) <;> simp [h, State.count_shape, State.setCan_shape, State.stopFrame_keeps, State.placeFrame_shape]

theorem State.canFrameIn_keeps (n : Nat) (sof : Nat) (f : CanFrame) : a.Keeps q (State.canFrameIn s n sof f).shape := by
  unfold State.canFrameIn
  (repeat' split) <;> simp [h, State.takeCanFrame_keeps, State.canRxGood_shape, State.canWake_shape]

theorem State.canRxError_keeps (n : Nat) : a.Keeps q (State.canRxError s n).shape := by
  unfold State.canRxError
  (repeat' split) <;> simp [h, State.setCan_shape, State.emit_shape, State.canConfine_keeps]

theorem State.netReset_keeps : a.Keeps q s.netReset.shape := by
  rw [State.netReset_shape]
  exact h.eth

theorem returnShadow_keeps (commit : Nat) : a.Keeps q (returnShadow s commit).shape := by
  unfold returnShadow
  exact Shape.Keeps.foldl _ _ _ (fun s x h => State.setVal_keeps h _ _) h

theorem State.endHolds_keeps (e : Editor) : a.Keeps q (s.endHolds e).shape := by
  unfold State.endHolds
  exact .foldl _ _ _ (fun s x h => returnShadow_keeps h _) h

theorem State.endSession_keeps (i : Nat) : a.Keeps q (s.endSession i).shape := by
  have he : a.Keeps q (State.endHolds { s with dict := { s.dict with sessions := Tbl.del s.dict.sessions i } } (.coil i)).shape :=
    State.endHolds_keeps (by exact h) _
  unfold State.endSession
  simp only []
  (repeat' split) <;> simpa [State.setNbr_shape] using he

theorem State.withdrawKeys_keeps : a.Keeps q s.withdrawKeys.shape := by
  unfold State.withdrawKeys
  refine .foldl _ _ _ (fun s x h => State.endSession_keeps (by simpa [State.flushSession_shape] using h) _) ?_
  simpa [State.dropKeyless_shape] using h

theorem State.putKey_keeps (slot : Nat) (x : KeySlot) : a.Keeps q (s.putKey slot x).shape := by
  unfold State.putKey
  exact State.withdrawKeys_keeps (s := { s with keys := { s.keys with slots := Tbl.put s.keys.slots slot x } }) h

theorem State.keyWritten_keeps (c : Caller) (v : Bytes) : a.Keeps q (State.keyWritten s c v).1.shape := by
  unfold State.keyWritten
  (repeat' split) <;> simp [h, State.putKey_keeps, State.answer_shape]

theorem State.keyErased_keeps (c : Caller) (slot : Nat) : a.Keeps q (State.keyErased s c slot).1.shape := by
  unfold State.keyErased
  simp; (repeat' split) <;> simp [h, State.putKey_keeps, State.answer_shape]

theorem State.keyInvalidated_keeps (c : Caller) (slot : Nat) : a.Keeps q (State.keyInvalidated s c slot).1.shape := by
  unfold State.keyInvalidated
  simp; (repeat' split) <;> simp [h, State.putKey_keeps, State.answer_shape]

theorem State.keyReload_keeps (slot : Nat) : a.Keeps q (s.keyReload slot).shape := by
  unfold State.keyReload
  simp only []
  split
  · exact h
  · split
    · exact .foldl _ _ _ (fun s x h => by simpa [State.answer?_shape] using State.keyInvalidated_keeps h _ _) h
    · exact h

theorem State.combDiscardAll_keeps (out : Nat) : a.Keeps q (s.combDiscardAll out).shape := by
  rw [State.combDiscardAll_shape]
  exact h.rings

theorem State.combReset_keeps : a.Keeps q s.combReset.shape := by
  rw [State.combReset_shape]
  exact h.rings

theorem State.applyGroup_keeps (commit : Nat) : a.Keeps q (s.applyGroup commit).shape := by
  unfold State.applyGroup
  refine .foldl _ _ _ (fun s x h => ?_) h
  split
  · exact h
  · exact State.setVal_keeps h _ _

theorem State.applyVals_keeps (commit : Nat) (vals : GroupVals) : a.Keeps q (s.applyVals commit vals).shape := by
  unfold State.applyVals
  exact State.applyGroup_keeps (.foldl _ _ _ (fun s x h => State.setVal_keeps h _ _) h) _

theorem State.runSite_keeps (c : Caller) (vals : GroupVals) (seq : Nat) : a.Keeps q (s.runSite c vals seq).shape := by
  unfold State.runSite
  simp only [State.answer_shape, State.logEv_shape, State.combSettled_shape]
  iterate 5 apply State.setVal_keeps
  exact State.applyVals_keeps (by simpa using h) _ _

theorem State.closeNbr_keeps (n : Nat) : a.Keeps q (State.closeNbr s n).shape := by
  unfold State.closeNbr
  (repeat' split) <;> simp [h, State.endSession_keeps, State.sendClose_shape, State.setNbr_shape]

theorem State.nbrCommitted_keeps (old : Bytes) (n : Nat) : a.Keeps q (State.nbrCommitted s old n).shape := by
  unfold State.nbrCommitted
  (repeat' split) <;> simp [h, State.closeNbr_keeps, State.helloNbr_shape, State.enterSyncing_shape, State.setNbr_shape]

theorem State.runRegion_keeps (c : Caller) (vals : GroupVals) (seq : Nat) : a.Keeps q (s.runRegion c vals seq).shape := by
  unfold State.runRegion
  rw [State.answer_shape]
  have hf (t : State) (cf : List Flight) (ht : a.Keeps q t.shape) : a.Keeps q (State.shape { t with comb := { t.comb with flight := cf } }) := ht
  refine hf _ _ ?_
  refine Shape.Keeps.foldl (fun t n => t.nbrCommitted (s.nbrEntry n) n) _ _ (fun t n h => State.nbrCommitted_keeps h _ _) ?_
  exact State.setVal_keeps (State.applyVals_keeps (by simpa using h) _ _) _ _

theorem State.runFlight_keeps (f : Flight) : a.Keeps q (State.runFlight s f).shape := by
  unfold State.runFlight
  (repeat' split) <;> simp [h, State.runReq_shape, State.runTrim_shape, State.runPrepare_shape, State.runShorten_shape, State.runSync_shape, State.runLateAbort_shape, State.runSite_keeps, State.runRegion_keeps]

theorem State.tryFlight_keeps (f : Flight) : a.Keeps q (State.tryFlight s f).shape := by
  unfold State.tryFlight
  (repeat' split) <;> simp [h, State.setFlight_shape, State.noteLater_shape, State.runFlight_keeps]

theorem State.settle_keeps (seq : Nat) : a.Keeps q (s.settle seq).shape := by
  unfold State.settle
  refine .foldl _ _ _ (fun s f h => ?_) h
  split
  · exact State.tryFlight_keeps h _
  · exact h

theorem State.internalOp_keeps (op : FlightOp) : a.Keeps q (State.internalOp s op).shape := by
  unfold State.internalOp
  (repeat' split) <;> simp [h, State.acceptOp_shape, State.settle_keeps]

theorem State.regionMsg_keeps (n : Nat) (r : CombReq) : a.Keeps q (s.regionMsg n r).shape := by
  unfold State.regionMsg
  generalize u r.req 0 1 = ty
  dsimp only
  (repeat' split) <;>
    simp only [State.msgAnswer_shape, State.hbReceived_shape, State.runCommit_shape, State.runAbort_shape, h, State.internalOp_keeps h]

theorem State.neighbourPort_keeps (c : Caller) (msg : Bytes) : a.Keeps q (State.neighbourPort s c msg).shape := by
  unfold State.neighbourPort
  (repeat' split) <;> simp [h, State.answer_shape, State.clashHeard_shape, State.msgAnswer_shape, State.regionMsg_keeps]

theorem State.combRestart_keeps : a.Keeps q (State.combRestart s).shape := by
  unfold State.combRestart
  (repeat' split) <;> simp [h, State.combDiscardAll_keeps]

theorem State.judgeRow_keeps (op : Nat) (seq : Nat) : a.Keeps q (State.judgeRow s op seq).shape := by
  unfold State.judgeRow
  (repeat' split) <;> simp [h, State.settle_keeps]

theorem State.resume_keeps (seq : Nat) : a.Keeps q (State.resume s seq).shape := by
  unfold State.resume
  (repeat' split) <;> simp [h, State.tryFlight_keeps]

theorem State.trimRow_keeps (seq : Nat) : a.Keeps q (State.trimRow s seq).shape := by
  unfold State.trimRow
  (repeat' split) <;> simp [h, State.settle_keeps]

theorem State.act_keeps (m : Nat) (action : Nat) (causes : Nat) : a.Keeps q (State.act s m action causes).shape := by
  unfold State.act
  (repeat' split) <;> simp [h, State.logEv_shape, State.setLatch_keeps]

theorem State.confReset_keeps (wide : Bool) : a.Keeps q (s.confReset wide).shape := by
  rw [State.confReset_shape]
  exact h.rows

theorem State.evalRows_keeps (m : Nat) (causes : Nat) (xs : List (Nat × Bool)) : a.Keeps q (s.evalRows m causes xs).1.shape := by
  induction xs generalizing s with
  | nil => exact h
  | cons x t ih =>
    obtain ⟨row, cond⟩ := x
    unfold State.evalRows
    exact ih (State.act_keeps (by simpa [State.evalRow_shape] using h) _ _ _)

theorem State.conclude_keeps (m : Nat) (rows : List (Nat × Bool)) (r : Record) : a.Keeps q (State.conclude s m rows r).shape := by
  unfold State.conclude
  (repeat' split) <;> simp [h, State.evalRows_keeps, State.verdict_shape]

theorem State.judgePos_keeps (m : Nat) (kind : Nat) (j : Judged) (rows : List (Nat × Bool)) (causes : Nat) (d : Nat) (b : Nat) : a.Keeps q (State.judgePos s m kind j rows causes d b).shape := by
  unfold State.judgePos
  (repeat' split) <;> simp [h, State.setConf_shape, State.refreshAge_shape, State.conclude_keeps, State.trimTracks_shape, State.reportZones_shape, State.keepPos_shape]

theorem State.judgeFix_keeps (m : Nat) (t : Int) (e : Int) (n : Int) (ee : Int) (nn : Int) (en : Int) : a.Keeps q (State.judgeFix s m t e n ee nn en).shape := by
  unfold State.judgeFix
  (repeat' split) <;> simp [h, State.firstPair_shape, State.judgePos_keeps]

theorem State.judgeReported_keeps (m : Nat) (b : RepPos) : a.Keeps q (s.judgeReported m b).shape := by
  unfold State.judgeReported
  exact State.judgePos_keeps (by simpa [State.setConf_shape] using h) _ _ _ _ _ _ _

theorem State.judgeDeveloped_keeps (m : Nat) (t : Int) (pos : V3) (sigma : Nat) : a.Keeps q (State.judgeDeveloped s m t pos sigma).shape := by
  unfold State.judgeDeveloped
  (repeat' split) <;> simp [h, State.firstPair_shape, State.refreshAge_shape, State.reportZones_shape, State.keepPos_shape, State.conclude_keeps]

theorem State.judgeOp_keeps (m : Nat) (op : ConfOp) : a.Keeps q (State.judgeOp s m op).shape := by
  unfold State.judgeOp
  (repeat' split) <;> simp [h, State.judgeFix_keeps, State.judgeReported_keeps, State.judgeDeveloped_keeps, State.conclude_keeps]

theorem State.confRow_keeps (m : Nat) (kind : Nat) : a.Keeps q (s.confRow m kind).shape := by
  unfold State.confRow
  simp only []
  split
  · exact h
  · rename_i i _
    split
    · exact h
    · have ho : a.Keeps q (State.shape { s with conf := { s.conf with ops := s.conf.ops.eraseIdx i } }) := h
      split
      · exact h
      · split
        · exact h
        · split
          · split
            · exact State.judgeOp_keeps ho _ _
            · rw [State.outOfRange_shape]; exact ho
          · exact State.judgeOp_keeps ho _ _

theorem State.deviceRow_keeps (row : Nat) (cond : Bool) : a.Keeps q (s.deviceRow row cond).shape := by
  unfold State.deviceRow
  extract_lets n cf s' p
  have hs : a.Keeps q s'.shape := by simpa [s', cf] using h
  (repeat' split) <;> simp [hs, State.logEv_shape, State.setLatch_keeps]

theorem State.deviceTick_keeps (baseOperating : Bool) : a.Keeps q (State.deviceTick s baseOperating).shape := by
  unfold State.deviceTick
  (repeat' split) <;> simp [h, State.deviceRow_keeps]

theorem State.freshSlot_keeps (m : Nat) : a.Keeps q (State.freshSlot s m).shape := by
  unfold State.freshSlot
  (repeat' split) <;> simp [h, State.evalRows_keeps, State.setConf_shape, State.verdict_shape]

theorem State.freshTick_keeps : a.Keeps q s.freshTick.shape := by
  unfold State.freshTick
  split
  · rw [State.reportZones_shape]
    exact .foldl _ _ _ (fun s x h => State.freshSlot_keeps h _) h
  · exact h

theorem State.swarmInstant_keeps : a.Keeps q s.swarmInstant.shape := by
  unfold State.swarmInstant
  split
  · exact h
  · split
    · exact h
    · exact .foldl _ _ _ (fun s x h => by rw [State.setAcked_shape]; exact h) (State.setVal_keeps h _ _)

theorem State.swarmDeadline_keeps : a.Keeps q s.swarmDeadline.shape := by
  unfold State.swarmDeadline
  split
  · exact h
  · split
    · exact h
    · exact .foldl _ _ _ (fun s x h => State.act_keeps (by simpa [State.evalRow_shape, State.logEv_shape] using h) _ _ _) h

theorem State.radioReset_keeps : a.Keeps q s.radioReset.shape := by
  rw [State.radioReset_shape]
  exact h.modems

theorem State.machineWrite_keeps (m : Nat) (id : Nat) : a.Keeps q (State.machineWrite s m id).1.shape := by
  unfold State.machineWrite
  (repeat' split) <;> simp [h, State.setVal_keeps, State.endLink_shape]

theorem State.radioCommitted_keeps : a.Keeps q s.radioCommitted.shape := by
  unfold State.radioCommitted
  simp only [State.shape_mk, List.length_map]
  refine Shape.Keeps.foldl (fun s e => _) _ _ (fun s x h => ?_) (State.applyGroup_keeps h _)
  (repeat' split) <;> simp only [State.remapLink_shape, h]

theorem State.joinRequest_keeps (k : Nat) (f : RadioFrame) : a.Keeps q (State.joinRequest s k f).shape := by
  unfold State.joinRequest
  simp [h, State.logEv_shape]; (repeat' split) <;> simp [h, State.micFail_shape, State.replayDrop_shape, State.setVal_keeps, State.joinAccept_shape, State.joinRespond_shape]

theorem State.trackReset_keeps : a.Keeps q s.trackReset.shape := by
  rw [State.trackReset_shape]
  exact h.rx

theorem State.setSurveyState_keeps (n : Nat) : a.Keeps q (State.setSurveyState s n).shape := by
  unfold State.setSurveyState
  (repeat' split) <;> simp [h, State.setVal_keeps]

theorem State.surveyPoll_keeps : a.Keeps q (State.surveyPoll s).shape := by
  unfold State.surveyPoll
  (repeat' split) <;> simp [h, State.setSurveyState_keeps, State.setBase_shape]

theorem State.surveyEnd_keeps (n : Nat) : a.Keeps q (State.surveyEnd s n).shape := by
  unfold State.surveyEnd
  (repeat' split) <;> simp [h, State.baseStart_shape, State.setSurveyState_keeps, State.setBase_shape]

theorem State.surveyed_keeps (x : Survey) (sigma : Nat) : a.Keeps q (s.surveyed x sigma).shape := by
  unfold State.surveyed
  rw [State.logEv_shape]
  refine State.surveyEnd_keeps ?_ _
  rw [State.loadBase_shape]
  iterate 7 apply State.setVal_keeps
  exact h

theorem State.surveyEpoch_keeps (spp : Option V3) : a.Keeps q (State.surveyEpoch s spp).shape := by
  unfold State.surveyEpoch
  simp; (repeat' split) <;> simp [h, State.setBase_shape, State.surveyed_keeps, State.logEv_shape, State.surveyEnd_keeps]

theorem State.baseSolve_keeps (nominal : Int) (sky : List SatEph) : a.Keeps q (State.baseSolve s nominal sky).shape := by
  unfold State.baseSolve
  (repeat' split) <;> simp [h, State.setBase_shape, State.surveyPoll_keeps, State.netSolve_shape, State.offerGnss_shape, State.baseJudge_shape, State.corrections_shape, State.surveyEpoch_keeps]

theorem State.baseEpoch_keeps (nominal : Int) (sky : List SatEph) : a.Keeps q (State.baseEpoch s nominal sky).shape := by
  unfold State.baseEpoch
  (repeat' split) <;> simp [h, State.skipRedo_shape, State.setBase_shape, State.baseSolve_keeps]

theorem State.baseNominal_keeps : a.Keeps q (State.baseNominal s).shape := by
  unfold State.baseNominal
  (repeat' split) <;> simp [h, State.baseStart_shape, State.loadBase_shape, State.setVal_keeps, State.setBase_shape]

theorem State.baseReset_keeps : a.Keeps q (State.baseReset s).shape := by
  unfold State.baseReset
  (repeat' split) <;> simp [h, State.baseStart_shape, State.loadBase_shape, State.setBase_shape, State.logEv_shape, State.setSurveyState_keeps]

theorem State.surveyAbandon_keeps : a.Keeps q (State.surveyAbandon s).1.shape := by
  unfold State.surveyAbandon
  (repeat' split) <;> simp [h, State.surveyEnd_keeps]

theorem State.surveyStart_keeps (net : Bool) : a.Keeps q (State.surveyStart s net).1.shape := by
  unfold State.surveyStart
  (repeat' split) <;> simp [h, State.setSurveyState_keeps, State.baseTo_shape, State.setBase_shape]

theorem State.groupCommit_keeps (c : Nat) (who : Caller) : a.Keeps q (State.groupCommit s c who).1.shape := by
  unfold State.groupCommit
  (repeat' split) <;> simp [h, State.pulseCommitted_shape, State.applyGroup_keeps, State.canPortCommitted_shape, State.internalOp_keeps, State.trackCommitted_shape, State.baseCommitted_shape, State.radioCommitted_keeps, State.ptpCommitted_shape, State.canTmCommitted_shape]

theorem State.commitGroup_keeps (c : Nat) (who : Caller) : a.Keeps q (State.commitGroup s c who).1.shape := by
  unfold State.commitGroup
  (repeat' split) <;> simp [h, State.groupCommit_keeps]

theorem State.romSelect_keeps : a.Keeps q s.romSelect.1.shape := by
  unfold State.romSelect
  extract_lets b s' g n t
  have hs : a.Keeps q s'.shape := h
  clear_value s'
  simp only []
  (repeat' split) <;>
    simp [hs, g, t, State.enterBoant_shape, State.runSlot_shape, State.slotFailed_shape, State.rejectTrial_keeps, State.writeBoot_shape]

/-- The state of the Always-on island has its numbers again, but its latches are those of power-on. -/
theorem State.aonReset_keeps (hq : ¬ q) : a.Keeps q s.aonReset.shape := by
  refine ⟨fun k => ?_, fun k => { h.canonical k with }, fun e => absurd e hq⟩
  exact { h.sized k with
    islands := by simpa [State.aonReset] using (h.sized k).islands
    counters := rfl
    snapshot := rfl
    ins := by simpa [State.aonReset] using (h.sized k).ins
    souts := rfl }

theorem State.endDictionary_keeps : a.Keeps q s.endDictionary.shape := by
  have hf : a.Keeps q (s.dict.holds.foldl (fun s h => returnShadow s h.commit) s).shape := .foldl _ _ _ (fun s x h => returnShadow_keeps h _) h
  unfold State.endDictionary
  simpa using hf

theorem State.fabricReset_keeps : a.Keeps q s.fabricReset.shape := by
  rw [State.fabricReset_shape]
  exact h.frame

theorem State.clearIsland_keeps (i : Island) (wide : Bool) (hq : q → i ≠ .aon) : a.Keeps q (s.clearIsland i wide).shape := by
  unfold State.clearIsland
  split
  case h_1 => exact State.aonReset_keeps h fun e => hq e rfl
  case h_5 => simpa [State.roverResetAll_shape, State.setDev_shape] using h.dram
  all_goals
    (repeat' split) <;>
      simp [h, State.endKeyWaits_shape, State.endDictionary_keeps, State.endThrough_shape, State.hartsReset_shape, State.discardAll_shape, State.fabricReset_keeps, State.roverResetAll_shape, State.confReset_keeps, State.combReset_keeps, State.setBase_shape, State.roverIslandReset_shape, State.devReset_shape, State.devIslandReset_shape, State.trackReset_keeps, State.radioReset_keeps, State.canReset_shape, State.netReset_keeps, State.timebaseReset_keeps]

theorem State.endHoldsOf_keeps (i : Island) : a.Keeps q (s.endHoldsOf i).shape := by
  unfold State.endHoldsOf
  exact .foldl _ _ _ (fun s h => fun k => returnShadow_keeps k _) h

theorem State.enterReset_keeps (reach : Nat) (i : Island) (hq : q → i ≠ .aon) : a.Keeps q (s.enterReset reach i).shape := by
  unfold State.enterReset
  simp only []
  split
  · exact h
  · rw [State.setIsl_shape]
    exact State.dropVolatile_keeps (State.clearIsland_keeps (State.endHoldsOf_keeps h _) _ _ hq) _

theorem State.enterResets_keeps (reach : Nat) (l : List Island) (hq : q → .aon ∉ l) :
    a.Keeps q (l.foldl (fun s i => s.enterReset reach i) s).shape := by
  induction l generalizing s with
  | nil => exact h
  | cons i l ih =>
    refine ih (State.enterReset_keeps h _ _ fun e k => hq e (by simp [k])) fun e k => hq e (by simp [k])

theorem State.zeroCounts_keeps : a.Keeps q s.zeroCounts.shape := by
  rw [State.zeroCounts_shape]
  exact h.verdicts

omit h in
theorem State.keepCounts_keeps {old : State} (h : a.Keeps q s.shape) (ho : a.Keeps q old.shape) : a.Keeps q (s.keepCounts old).shape := by
  rw [State.keepCounts_shape]
  exact h.verdictsOf ho

theorem State.assertReset_keeps (code reach island : Nat) (hq : q → .aon ∉ reachIslands reach island) :
    a.Keeps q (s.assertReset code reach island).shape := by
  unfold State.assertReset
  extract_lets old s1 x rs s2 s3 s4 s5 s6 outs g b s7
  have h2 : a.Keeps q s2.shape := by simpa [s2, s1, rs, State.recordSource_shape] using h
  have h3 : a.Keeps q s3.shape := by
    unfold s3
    split
    · rw [State.sourcesGone_shape]
      exact State.clearIsland_keeps (by simpa [State.swarmLost_shape] using h2) _ _ fun _ => by decide
    · exact h2
  have h4 : a.Keeps q s4.shape := State.enterResets_keeps h3 _ _ hq
  have h5 : a.Keeps q s5.shape := by
    unfold s5
    split
    · rw [State.reviveAon_shape]
      exact State.zeroCounts_keeps h4
    · exact State.keepCounts_keeps h4 h
  rw [State.replan_shape]
  have h6 : a.Keeps q s6.shape := State.resetLatch_keeps h5
  unfold s7
  split
  · simpa [outs, g, b] using h6
  · exact h5

/-- Chip reach leaves the Always-on island. -/
theorem State.orderReset_keeps (code reach island : Nat) (hq : q → .aon ∉ reachIslands reach island) :
    a.Keeps q (s.orderReset code reach island).shape := by
  unfold State.orderReset
  refine State.assertReset_keeps ?_ _ _ _ hq
  split
  · exact Shape.Keeps.foldl (fun s (e : Nat × Session) => s.sendClose e.1) _ _ (fun s x h => by rw [State.sendClose_shape]; exact h)
      (by rw [State.flush_shape]; exact h)
  · rw [State.flush_shape]; exact h

theorem State.answerReset_keeps (c : Caller) (code reach island : Nat) (hq : q → .aon ∉ reachIslands reach island) :
    a.Keeps q (s.answerReset c code reach island).1.shape := by
  unfold State.answerReset
  exact State.orderReset_keeps (by rw [State.answer_shape]; exact h) _ _ _ hq

theorem State.activateUpdate_keeps (c : Caller) : a.Keeps q (s.activateUpdate c).1.shape := by
  unfold State.activateUpdate
  split
  · exact h
  · exact State.answerReset_keeps (by rw [State.activated_shape]; exact h) _ _ _ _ fun _ => aon_not_chip

theorem State.boantFinishOp_keeps (port : Nat) (msg : Bytes) : a.Keeps q (s.boantFinishOp port msg).shape := by
  have hb : a.Keeps q (s.boantEnd port msg).1.shape := by rw [State.boantEnd_shape]; exact h
  unfold State.boantFinishOp
  simp only []
  split
  · exact State.assertReset_keeps hb _ _ _ fun _ => aon_not_chip
  · exact hb

theorem State.boantResetOp_keeps (port : Nat) (msg : Bytes) : a.Keeps q (s.boantResetOp port msg).shape := by
  have hb : a.Keeps q (s.boantResets port msg).1.shape := by rw [State.boantResets_shape]; exact h
  unfold State.boantResetOp
  simp only []
  split
  · exact State.assertReset_keeps hb _ _ _ fun _ => aon_not_chip
  · exact hb

theorem State.tryCarried_keeps (c : Nat) : a.Keeps q (State.tryCarried s c).shape := by
  unfold State.tryCarried
  (repeat' split) <;> simp [h, State.groupCommit_keeps, State.logEv_shape]

theorem State.tryAllCarried_keeps : a.Keeps q s.tryAllCarried.shape := by
  unfold State.tryAllCarried
  exact .foldl _ _ _ (fun s x h => State.tryCarried_keeps h _) h

theorem State.resetDone_keeps : a.Keeps q (State.resetDone s).shape := by
  unfold State.resetDone
  (repeat' split) <;> simp [h, State.tryAllCarried_keeps, State.logEv_shape]

theorem State.failAction_keeps (i : Island) : a.Keeps q (s.failAction i).shape := by
  have hc (w : Bool) (hi : i ≠ .aon) : a.Keeps q (s.clearIsland i w).shape := State.clearIsland_keeps h _ _ fun _ => hi
  cases i
  case aon => exact State.setLatch_keeps h _ _ _
  case compute => exact State.setLatch_keeps (by simpa [State.hartsReset_shape, State.discardAll_shape] using h) _ _ _
  case security => exact hc true (by decide)
  case fixer => exact State.clearIsland_keeps (by simpa [State.roverFailed_shape] using h) _ _ fun _ => by decide
  case developer => simpa [State.failAction, State.devFailed_shape] using hc true (by decide)
  case tracking => simpa [State.failAction, State.baseNoTracking_shape] using hc true (by decide)
  all_goals exact State.setLatch_keeps (hc true (by decide)) _ _ _

theorem State.clockFails_keeps (i : Island) : a.Keeps q (s.clockFails i).shape := by
  unfold State.clockFails
  split
  · split
    · refine State.resetDone_keeps ?_
      rw [State.logEv_shape]
      exact State.keepCounts_keeps (State.failAction_keeps (by simpa [State.setIsl_shape] using h) _) (by simpa [State.setIsl_shape] using h)
    · exact h
  · exact h

theorem State.lifecycleCmd_keeps (c : Caller) (v : Bytes) : a.Keeps q (s.lifecycleCmd c v).1.shape := by
  unfold State.lifecycleCmd
  simp only []
  split
  · exact h
  · split
    · exact State.answerReset_keeps (by rw [State.logEv_shape]; exact State.lifeWritten_keeps h _) _ _ _ _ fun _ => aon_not_chip
    · exact h

theorem State.confirmUpdate_keeps (c : Caller) (v : Nat) : a.Keeps q (s.confirmUpdate c v).1.shape := by
  unfold State.confirmUpdate
  split
  · exact h
  · split
    · exact State.confirmTrial_keeps h
    · exact State.answerReset_keeps (State.rejectTrial_keeps h _) _ _ _ _ fun _ => aon_not_chip

theorem State.resetSettings_keeps (c : Caller) : a.Keeps q (s.resetSettings c).1.shape := by
  unfold State.resetSettings
  split
  · exact h
  · exact State.answerReset_keeps (by rw [State.blocksWorn_shape]; exact State.defaultBank_keeps h) _ _ _ _ fun _ => aon_not_chip

theorem State.enterBoantCmd_keeps (c : Caller) : a.Keeps q (s.enterBoantCmd c).1.shape := by
  unfold State.enterBoantCmd
  split
  · exact h
  · exact State.answerReset_keeps (by exact h) _ _ _ _ fun _ => aon_not_chip

/-- ResetCommand names no target whose reach holds the Always-on island. -/
theorem State.resetCommand_keeps (c : Caller) (v : Bytes) : a.Keeps q (s.resetCommand c v).1.shape := by
  unfold State.resetCommand
  simp only []
  split
  · exact h
  · rename_i hf
    split
    · rw [State.resetBlockOf_shape]; exact h
    · refine State.answerReset_keeps h _ _ _ _ fun _ => aon_not_target (s := s) ?_
      exact firstFail_first hf

theorem State.debugRequest_keeps : a.Keeps q s.debugRequest.shape := by
  unfold State.debugRequest
  split
  · exact State.assertReset_keeps h _ _ _ fun _ => aon_not_chip
  · exact h

theorem State.restartIsland_keeps (i : Island) : a.Keeps q (State.restartIsland s i).shape := by
  unfold State.restartIsland
  (repeat' split) <;> simp [h, State.cancelRelease_shape, State.endKeyWaits_shape, State.endThrough_shape, State.hartsReset_shape, State.discardAll_shape, State.wakeAll_shape, State.abandonOpen_shape, State.combRestart_keeps, State.roverRestart_shape, State.devRestart_shape, State.trackRestart_shape, State.radioRestart_shape, State.canRestart_shape, State.netRestart_shape]

theorem State.faultIn_keeps (i : Island) (c : FaultCause) : a.Keeps q (State.faultIn s i c).shape := by
  unfold State.faultIn
  (repeat' split) <;> simp [h, State.countFault_shape, State.restartIsland_keeps, State.setIsl_shape, State.logEv_shape]

theorem State.inputsJudged_keeps : a.Keeps q s.inputsJudged.shape := by
  unfold State.inputsJudged
  exact .foldl _ _ _ (fun s x h => State.siJudge_keeps h _) h

theorem State.islandFails_keeps (i : Island) (c : FailCause) : a.Keeps q (State.islandFails s i c).shape := by
  unfold State.islandFails
  (repeat' split) <;> simp [h, State.setIsl_shape, State.logEv_shape, State.keepCounts_keeps, State.failAction_keeps]

theorem State.keysLoaded_keeps : a.Keeps q s.keysLoaded.shape := by
  have he : a.Keeps q (State.eraseBanks { s with keys := { s.keys.load.1 with eraseDue := s.keys.load.1.eraseDue } }).shape := State.eraseBanks_keeps h
  unfold State.keysLoaded
  simp only []
  split
  · rw [State.logEv_shape]; exact he
  · exact he

theorem State.porRise_keeps (hq : ¬ q) (torn : Torn) : a.Keeps q (s.porRise torn).shape := by
  unfold State.porRise
  refine State.assertReset_keeps ?_ _ _ _ fun e => absurd e hq
  cases torn
  case boot => simpa [State.bootTorn_shape] using h
  all_goals exact h

theorem State.startIsland_keeps (i : Island) : a.Keeps q (State.startIsland s i).shape := by
  unfold State.startIsland
  ((repeat' split) <;> (first | (simp [h, State.keysLoaded_keeps, State.combReleased_shape, State.confReset_keeps, State.combReset_keeps, State.roverRelease_shape, State.baseReset_keeps, State.devRelease_shape, State.trackReset_keeps, State.radioReset_keeps, State.canReset_shape, State.netReset_keeps, State.channelAReleased_shape, State.timebaseReset_keeps]; done) | (cases pt <;> simp_all [Part.same]; done)))

theorem State.romStep_keeps : a.Keeps q s.romStep.shape := by
  have hr := State.romSelect_keeps h
  unfold State.romStep
  simp only []
  split
  · exact State.assertReset_keeps (State.rejectTrial_keeps hr _) _ _ _ fun _ => aon_not_chip
  · split
    · rw [State.replan_shape]; exact hr
    · have ht := State.inputsJudged_keeps (State.takeBanks_keeps hr)
      (repeat' split) <;> simp only [State.logEv_shape, State.putInForce_keeps ht, ht]

theorem State.releaseRow_keeps : a.Keeps q s.releaseRow.shape := by
  unfold State.releaseRow
  split
  · exact h
  · refine State.resetDone_keeps ?_
    split
    · refine Shape.Keeps.foldl (fun s i => ((s.setIsl i fun x => { x with st := .running }).startIsland i).keepCounts _) _ _
        (fun s i h => ?_) h
      have hs : a.Keeps q (s.setIsl i fun x => { x with st := .running }).shape := by rw [State.setIsl_shape]; exact h
      exact State.keepCounts_keeps (State.startIsland_keeps hs _) hs
    · exact State.romStep_keeps (by exact h)
    · exact h

theorem State.releaseSource_keeps (code : Nat) : a.Keeps q (State.releaseSource s code).shape := by
  unfold State.releaseSource
  (repeat' split) <;> simp [h, State.inputsJudged_keeps, State.setIsl_shape, State.replan_shape]

theorem State.resetPinHigh_keeps : a.Keeps q s.resetPinHigh.shape := by
  unfold State.resetPinHigh
  exact State.releaseSource_keeps (by exact h) _

theorem State.resetPinLow_keeps : a.Keeps q s.resetPinLow.shape := by
  unfold State.resetPinLow
  exact State.assertReset_keeps (by exact h) _ _ _ fun _ => aon_not_chip

theorem State.restartEnds_keeps (i : Island) : a.Keeps q (State.restartEnds s i).shape := by
  unfold State.restartEnds
  (repeat' split) <;> simp [h, State.setIsl_shape, State.swarmInstant_keeps, State.logEv_shape, State.channelReturned_keeps]

theorem State.trialExpires_keeps : a.Keeps q s.trialExpires.shape := by
  unfold State.trialExpires
  split
  · split
    · exact State.orderReset_keeps (State.rejectTrial_keeps h _) _ _ _ fun _ => aon_not_chip
    · exact h
  · exact h

theorem State.watchdogExpires_keeps : a.Keeps q s.watchdogExpires.shape := by
  unfold State.watchdogExpires
  split
  · exact State.assertReset_keeps (by rw [State.logEv_shape]; exact h) _ _ _ fun _ => aon_not_chip
  · exact h

theorem State.wipesDone_keeps (code : Nat) : a.Keeps q (State.wipesDone s code).shape := by
  unfold State.wipesDone
  (repeat' split) <;> simp [h, State.releaseSource_keeps]

theorem State.snapshotTaken_keeps : a.Keeps q s.snapshotTaken.shape := by
  rw [State.snapshotTaken_shape]
  exact h.snapshot

theorem State.rowFails_keeps (r : SramRow) (unc : Bool) : a.Keeps q (State.rowFails s r unc).shape := by
  unfold State.rowFails
  (repeat' split) <;> simp [h, State.regionRetired_shape, State.faultIn_keeps]

theorem State.tripReleased_keeps (temps : List Int) : a.Keeps q (State.tripReleased s temps).shape := by
  unfold State.tripReleased
  (repeat' split) <;> simp [h, State.setTemps_shape, State.releaseSource_keeps]

theorem State.tripped_keeps (i : Island) (temp : Int) : a.Keeps q (s.tripped i temp).shape := by
  unfold State.tripped
  simp only []
  split
  · exact State.assertReset_keeps (by simpa [State.setTemp_shape] using h) _ _ _ fun _ => aon_not_chip
  · rw [State.setTemp_shape]; exact h

theorem State.run_keeps (t : Nat) (body : State → State) (hb : ∀ y, a.Keeps q y.shape → a.Keeps q (body y).shape) :
    a.Keeps q (s.run t body).shape := by
  have hr : a.Keeps q ((body (s.advance t)).stamp.flush).shape := by
    rw [State.flush_shape, State.stamp_shape]
    exact hb _ (by rw [State.advance_shape]; exact h)
  exact hr

theorem State.exportImage_keeps : a.Keeps q s.exportImage.shape := by
  unfold State.exportImage
  exact State.setVal_keeps h _ _

theorem State.appletAnswer_keeps (tok : Nat) (outcome : Nat) (data : Bytes) : a.Keeps q (s.appletAnswer tok outcome data).shape := by
  unfold State.appletAnswer
  split
  · exact h
  · rename_i e t he
    have ht : a.Keeps q t.draw.1.shape := by rw [State.draw_shape, State.takeEvent_shape _ _ he]; exact h
    simp only [State.answer_shape]
    split
    · exact State.applyVals_keeps ht _ _
    · exact ht

theorem State.appletWrite_keeps (c : Caller) (idx : Nat) (sub : Nat) (v : Bytes) : a.Keeps q (State.appletWrite s c idx sub v).1.shape := by
  unfold State.appletWrite
  (repeat' split) <;> simp [h, State.setVal_keeps, State.appletPost_shape]

theorem State.storedAt_keeps (idx : Nat) (sub : Nat) (old : Bytes) (v : Bytes) : a.Keeps q (State.storedAt s idx sub old v).shape := by
  unfold State.storedAt
  (repeat' split) <;> simp [h, State.bufferWritten_shape, State.refreshGo_shape, State.clashEnded_shape, State.counterCleared_shape, State.servo_shape, State.slewRated_shape, State.refinChosen_shape, State.ethConfigured_shape, State.listenWritten_shape, State.rateWritten_shape, State.siJudge_keeps]

theorem State.applyWrite_keeps (idx : Nat) (sub : Nat) (v : Bytes) : a.Keeps q (State.applyWrite s idx sub v).1.shape := by
  unfold State.applyWrite
  (repeat' split) <;> simp [h, State.standbyEnter_shape, State.standbyExit_shape, State.canSleepReq_shape, State.canWakeReq_shape, State.machineWrite_keeps, State.rollBound_shape, State.slewMoved_shape, State.storedAt_keeps, State.setVal_keeps]

theorem State.readFront_keeps (c : Caller) (idx : Nat) (sub : Nat) (off : Nat) : a.Keeps q (State.readFront s c idx sub off).1.shape := by
  unfold State.readFront
  (repeat' split) <;> simp [h, State.exportImage_keeps]

theorem State.blockReadOp_keeps (c : Caller) (idx : Nat) (sub : Nat) (off : Nat) (max : Nat) : a.Keeps q (s.blockReadOp c idx sub off max).1.shape := by
  have e := State.readFront_keeps h c idx sub off
  unfold State.blockReadOp
  split <;> (rename_i hr; rw [hr] at e; exact e)

theorem State.readOp_keeps (c : Caller) (idx : Nat) (sub : Nat) (limited : Bool) : a.Keeps q (s.readOp c idx sub limited).1.shape := by
  have e := State.readFront_keeps h c idx sub 0
  unfold State.readOp
  split <;> (rename_i hr; rw [hr] at e; exact e)

theorem State.commitAt_keeps (c : Caller) (idx : Nat) : a.Keeps q (State.commitAt s c idx).1.shape := by
  unfold State.commitAt
  (repeat' split) <;> simp [h, State.appletAsk_shape, State.commitGroup_keeps]

theorem State.dropHold_keeps (g : Nat) : a.Keeps q (s.dropHold g).shape := by
  unfold State.dropHold
  exact returnShadow_keeps (by exact h) _

theorem State.discardOp_keeps (c : Caller) (r : ObjRow) (idx : Nat) : a.Keeps q (State.discardOp s c r idx).1.shape := by
  unfold State.discardOp
  (repeat' split) <;> simp [h, State.notCarried_shape, State.dropHold_keeps]

theorem State.stageDiscardOp_keeps (c : Caller) (idx : Nat) : a.Keeps q (State.stageDiscardOp s c idx).1.shape := by
  unfold State.stageDiscardOp
  simp; (repeat' split) <;> simp [h, State.seenBy_shape, State.discardOp_keeps]

/-- Of the command objects ReleaseConfirm alone clears a latch. -/
theorem State.command_keeps (c : Caller) (idx : Nat) (sub : Nat) (v : Bytes) (hq : q → idx ≠ 0x4843) : a.Keeps q (s.command c idx sub v).1.shape := by
  unfold State.command
  (repeat' split)
  case h_22 => exact State.releaseConfirmed_keeps h (fun e => hq e rfl) _ _
  all_goals
    simp [h, State.machineCommand_shape, State.canRecoverReq_shape, State.bufferAck_shape, State.stageDiscardOp_keeps, State.lifecycleCmd_keeps, State.keyWritten_keeps, State.keyErased_keeps, State.keyInvalidated_keeps, State.updateBegin_shape, State.payloadOp_shape, State.activateUpdate_keeps, State.confirmUpdate_keeps, State.resetSettings_keeps, State.importImage_keeps, State.enterBoantCmd_keeps, State.resetCommand_keeps, State.snapshotTaken_keeps, State.stepArm_shape, State.stepDisarm_shape, State.ppsTimeOfDay_shape, State.surveyAbandon_keeps, State.surveyStart_keeps, State.clearBlocked_shape, State.swarmPort_shape, State.stopCmd_keeps, State.releaseArmed_shape]

theorem State.writeEffect_keeps (c : Caller) (r : ObjRow) (idx : Nat) (sub : Nat) (v : Bytes) (hq : q → idx ≠ 0x4843) :
    a.Keeps q (s.writeEffect c r idx sub v).1.shape := by
  have ht : a.Keeps q ((s.takeHold c (r.commitOf idx)).notCarried (r.commitOf idx)).shape := by
    simpa [State.notCarried_shape, State.takeHold_shape] using h
  unfold State.writeEffect
  simp only []
  split
  · exact State.commitAt_keeps h _ _
  · split
    · split
      · exact State.appletWrite_keeps ht _ _ _ _
      · exact State.setVal_keeps ht _ _
    · split
      · exact State.appletWrite_keeps h _ _ _ _
      · split
        · exact State.command_keeps h _ _ _ _ hq
        · exact State.applyWrite_keeps h _ _ _

theorem State.writeOp_keeps (c : Caller) (idx : Nat) (sub : Nat) (v : Bytes) (hq : q → idx ≠ 0x4843) : a.Keeps q (s.writeOp c idx sub v).1.shape := by
  unfold State.writeOp
  split
  · exact h
  · rename_i r _
    have he := State.writeEffect_keeps h c r idx sub v hq
    split
    · exact h
    · extract_lets held e
      clear_value held
      split
      · exact he
      · split
        · exact h
        · split
          · exact h
          · split
            · split
              · exact he
              · exact h
            · exact State.behind_keeps h _ he

theorem State.portOp_keeps (c : Caller) (idx : Nat) (sub : Nat) (req : Bytes) : a.Keeps q (State.portOp s c idx sub req).1.shape := by
  unfold State.portOp
  (repeat' split) <;> simp [h, State.appletAsk_shape, State.sealPort_shape, State.canTxAny_shape, State.radioSend_shape, State.radioWaggle_shape, State.netPort_shape, State.combIntake_shape, State.neighbourPort_keeps, State.stopNotice_keeps]

theorem State.commitOp_keeps (c : Caller) (r : ObjRow) (idx : Nat) : a.Keeps q (State.commitOp s c r idx).1.shape := by
  unfold State.commitOp
  (repeat' split) <;> simp [h, State.commitAt_keeps]

theorem State.commitRec_keeps (c : Caller) (idx : Nat) (sub : Nat) (param : Nat) : a.Keeps q (State.commitRec s c idx sub param).1.shape := by
  unfold State.commitRec
  (repeat' split) <;> simp [h, State.commitOp_keeps, State.discardOp_keeps]

theorem State.inSession_keeps (c : Caller) (x : Session) (f : InFlight) (body : State → State × Option Ans)
    (hb : ∀ y, a.Keeps q y.shape → a.Keeps q (body y).1.shape) : a.Keeps q (s.inSession c x f body).shape := by
  unfold State.inSession
  split
  · rw [State.onSession_shape]; exact h
  · split
    · exact h
    · split
      · rw [State.onSession_shape, State.seenBy_shape]; exact h
      · rw [State.answer?_shape]
        exact hb _ (by rw [State.seenBy_shape, State.touch_shape, State.onSession_shape]; exact h)

theorem State.served_keeps (c : Caller) (f : InFlight) (body : State → State × Option Ans)
    (hb : ∀ y, a.Keeps q y.shape → a.Keeps q (body y).1.shape) : a.Keeps q (s.served c f body).shape := by
  unfold State.served
  split
  · split
    · split
      · exact h
      · exact State.inSession_keeps (by rw [State.setSession_shape]; exact h) _ _ _ _ hb
    · exact h
  · exact State.inSession_keeps h _ _ _ _ hb
  · rw [State.answer?_shape]
    exact hb _ (by rw [State.seenBy_shape]; exact h)
  · exact hb _ h

theorem State.access_keeps (c : Caller) (opcode k off : Nat) (body : State → State × Option Ans)
    (hb : ∀ y, a.Keeps q y.shape → a.Keeps q (body y).1.shape) : a.Keeps q (s.access c opcode k off body).shape := by
  unfold State.access
  simp only []
  split
  · rw [State.unserved_shape]; exact h
  · exact State.served_keeps h _ _ _ hb

theorem State.writeBy_keeps (c : Caller) (idx sub : Nat) (v : Bytes) (hq : q → idx ≠ 0x4843) : a.Keeps q (s.writeBy c idx sub v).shape :=
  State.access_keeps h _ _ _ _ _ fun _ hy => State.writeOp_keeps hy _ _ _ _ hq

theorem State.transactWith_keeps (c : Caller) (idx sub : Nat) (req : Bytes) (port : State → State × Option Ans)
    (hb : ∀ y, a.Keeps q y.shape → a.Keeps q (port y).1.shape) : a.Keeps q (s.transactWith c idx sub req port).1.shape := by
  unfold State.transactWith
  split
  · exact h
  · split
    · exact h
    · exact State.behind_keeps h _ (hb _ h)

theorem State.transactBy_keeps (c : Caller) (idx : Nat) (req : Bytes) : a.Keeps q (s.transactBy c idx req).shape :=
  State.access_keeps h _ _ _ _ _ fun _ hy => State.transactWith_keeps hy _ _ _ _ _ fun _ hz => State.portOp_keeps hz _ _ _ _

theorem State.retryCarried_keeps : a.Keeps q s.retryCarried.shape := by
  unfold State.retryCarried
  exact Shape.Keeps.foldl (fun s (x : Nat × Nat) => s.tryCarried x.1) _ _ (fun s x h => State.tryCarried_keeps h _) h

theorem State.coilClosed_keeps (hdr : Bytes) (body : Sealed) : a.Keeps q (State.coilClosed s hdr body).shape := by
  unfold State.coilClosed
  (repeat' split) <;> simp [h, State.endSession_keeps, State.sendClose_shape]

theorem State.coilIdle_keeps (i : Nat) : a.Keeps q (State.coilIdle s i).shape := by
  unfold State.coilIdle
  (repeat' split) <;> simp [h, State.endSession_keeps, State.sendClose_shape]

theorem State.holdTimeout_keeps (g : Nat) : a.Keeps q (State.holdTimeout s g).shape := by
  unfold State.holdTimeout
  (repeat' split) <;> simp [h, State.dropHold_keeps]

theorem State.nbrOpen_keeps (n : Nat) (raw : Bytes) : a.Keeps q (State.nbrOpen s n raw).shape := by
  unfold State.nbrOpen
  (repeat' split) <;> simp [h, State.endSession_keeps, State.setNbr_shape, State.sendSync_shape]

theorem State.usdoRead_keeps (port : Nat) (client : Nat) (idx : Nat) (sub : Nat) : a.Keeps q (s.usdoRead port client idx sub).1.shape := by
  have e := State.readOp_keeps h (.usdo port client) idx sub false
  unfold State.usdoRead
  split <;> rename_i hr <;> rw [hr] at e
  · split
    · rw [State.emit_shape]; exact e
    · exact e
  · exact e

theorem State.usdoWrite_keeps (port : Nat) (client : Nat) (idx : Nat) (sub : Nat) (ty : CanType) (v : Bytes) (hq : q → idx ≠ 0x4843) :
    a.Keeps q (s.usdoWrite port client idx sub ty v).1.shape := by
  unfold State.usdoWrite
  (repeat' split) <;> first | exact h | exact State.writeOp_keeps h _ _ _ _ hq

theorem State.memoryAccess_keeps (n : Nat) (shared : Bool) (x : HartAccess) : a.Keeps q (s.memoryAccess n shared x).shape := by
  unfold State.memoryAccess
  extract_lets m
  split
  · rw [State.load_shape]; exact h
  · unfold m
    split
    · rw [State.setFabric_shape]
      exact ⟨fun k => { h.sized k with }, fun k => { h.canonical k with sram := Memory.wf_store _ _ (h.canonical k).sram }, h.latched⟩
    · exact ⟨fun k => { h.sized k with }, fun k => { h.canonical k with dram := Memory.wf_store _ _ (h.canonical k).dram }, h.latched⟩

theorem State.hartAccess_keeps (n : Nat) (x : HartAccess) : a.Keeps q (s.hartAccess n x).shape := by
  have hf : a.Keeps q (s.accessFault n x.addr).shape := by rw [State.accessFault_shape]; exact h
  have hg (i : Island) : a.Keeps q (s.gasketLoad n i x.store).shape := by rw [State.gasketLoad_shape]; exact h
  have he {t : State} (e : t.shape = s.shape) : a.Keeps q t.shape := by rw [e]; exact h
  unfold State.hartAccess
  simp only []
  (repeat' split) <;> try simp only [hf, hg, State.memoryAccess_keeps h]
  · rename_i e; exact he (State.dispatcherAccess_shape _ _ _ _ e)
  · rename_i e; exact he (State.queueAccess_shape _ _ _ _ _ e)
  · rename_i e; exact he (State.requestAccess_shape _ _ _ _ _ _ e)
  · rename_i e; exact he (State.logbookAccess_shape _ _ _ _ e)

theorem State.look_keeps (m n : Nat) (p : PeekAt) : a.Keeps q (s.look m n p).shape := by
  unfold State.look
  split
  · rw [State.peekOp_shape]; exact h
  · exact State.hartAccess_keeps h _ _
  · rw [State.load_shape]; exact h

end

end Sys2Proof.Machine
end

section
set_option Elab.async false
/-!
PROOF. Accesses and commands keep the measure: every command keeps numbers and forms, and those that cannot carry a release keep the latches
of channel B.
-/

namespace Sys2Proof.Machine

/-! ### Records -/

/-- A record that cannot bring a value to ReleaseConfirm. -/
def Rec.sparesRelease (q : Rec) : Prop := q.opcode = 2 ∨ q.opcode = 4 → q.idx ≠ 0x4843

section
variable {q : Prop} {a : Shape} {s : State} (h : a.Keeps q s.shape)
include h

theorem State.onSession_keeps (c : Caller) (f : Session → Session) : a.Keeps q (s.onSession c f).shape := by
  rw [State.onSession_shape]
  exact h

theorem State.refuseRec_keeps (c : Caller) (r : Rec) : a.Keeps q (s.refuseRec c r).shape := by
  unfold State.refuseRec
  split
  · exact State.onSession_keeps h _ _
  · exact h

theorem State.transactOp_keeps (c : Caller) (idx sub : Nat) (req : Bytes) : a.Keeps q (s.transactOp c idx sub req).1.shape :=
  State.transactWith_keeps h _ _ _ _ _ fun _ hy => State.portOp_keeps hy _ _ _ _

theorem State.segmentOp_keeps (c : Caller) (opcode idx sub off total : Nat) (data : Bytes) (hq : q → opcode ≠ 6 → idx ≠ 0x4843) :
    a.Keeps q (s.segmentOp c opcode idx sub off total data).1.shape := by
  unfold State.segmentOp
  split
  · exact h
  · extract_lets k y
    have hy : a.Keeps q y.shape := State.onSession_keeps h _ _
    split
    · exact hy
    · split
      · split
        · rw [State.updateSpoiled_shape]; exact hy
        · exact hy
      · extract_lets whole f
        split
        · split
          · exact State.transactOp_keeps hy _ _ _ _
          · rename_i ho
            exact State.writeOp_keeps hy _ _ _ _ fun e => hq e ho
        · exact State.onSession_keeps hy _ _

theorem State.recOp_keeps (c : Caller) (r : Rec) (hq : q → r.sparesRelease) : a.Keeps q (s.recOp c r).1.shape := by
  unfold State.recOp
  split
  case h_1 => exact State.readOp_keeps h _ _ _ _
  case h_2 ho => exact State.writeOp_keeps h _ _ _ _ fun e => hq e (.inl ho)
  case h_3 => exact State.blockReadOp_keeps h _ _ _ _ _
  case h_4 ho => exact State.segmentOp_keeps h _ _ _ _ _ _ _ fun e _ => hq e (.inr ho)
  case h_5 => exact State.commitRec_keeps h _ _ _ _
  case h_6 => exact State.segmentOp_keeps h _ _ _ _ _ _ _ fun _ n => absurd rfl n
  case h_7 => rw [State.subscribeOp_shape]; exact h
  case h_8 => exact h

theorem State.record_keeps (c : Caller) (r : Rec) (hq : q → r.sparesRelease) : a.Keeps q (s.record c r).shape := by
  unfold State.record
  split
  · exact State.refuseRec_keeps h _ _
  · exact State.access_keeps h _ _ _ _ _ fun _ hy => State.recOp_keeps hy _ _ hq

theorem State.takeAnswer_keeps (c : Caller) (r : Rec) : a.Keeps q (s.takeAnswer c r).shape := by
  unfold State.takeAnswer
  split
  · exact State.refuseRec_keeps h _ _
  · exact State.access_keeps h _ _ _ _ _ fun _ hy => State.appletAnswer_keeps hy _ _ _

theorem State.windowSubmit_keeps (hq : ¬ q) (hart : Nat) (comb : Bool) (req : Bytes) (reply : Nat) :
    a.Keeps q (s.windowSubmit hart comb req reply).shape := by
  unfold State.windowSubmit
  split
  · exact h
  · extract_lets w o f id r sent _ taken
    have hsent : a.Keeps q sent.shape := by
      simp only [sent, State.emit_shape, State.shape_mk]
      simpa [f] using h
    have htaken : a.Keeps q taken.shape := hsent
    split
    · exact hsent
    · split
      · rw [State.combIntake_shape]; exact htaken
      · unfold State.windowRecord
        simp only []
        split
        · exact State.refuseRec_keeps htaken _ _
        · split
          · exact State.takeAnswer_keeps htaken _ _
          · exact State.record_keeps htaken _ _ fun e => absurd e hq

theorem State.coilDatagram_keeps (hq : ¬ q) (hdr : Bytes) (body : Sealed) : a.Keeps q (s.coilDatagram hdr body).shape := by
  unfold State.coilDatagram
  split
  · exact h
  · simp only []
    split
    · rw [State.setSession_shape]; exact h
    · refine Shape.Keeps.foldl (fun (s : State) (r : Rec) => (s.record _ r).stamp) _ _ (fun s r h => ?_)
        (by rw [State.setSession_shape]; exact h)
      rw [State.stamp_shape]
      exact State.record_keeps h _ _ fun e => absurd e hq

theorem State.usdoAccess_keeps (port client : Nat) (kind : UsdoKind) (k : Nat) {body : State → State × Option Ans}
    (hb : ∀ y, a.Keeps q y.shape → a.Keeps q (body y).1.shape) : a.Keeps q (s.usdoAccess port client kind k body).shape := by
  unfold State.usdoAccess
  split
  · exact h
  · cases kind with
    | unicast => exact State.access_keeps h _ _ _ _ _ hb
    | broadcast | routed => rw [State.emit_shape]; exact h

/-! ### Guards of commands -/

theorem State.guarded_keeps {p : Prop} [Decidable p] {t : State} (ht : a.Keeps q t.shape) : a.Keeps q (if p then t else s).shape := by
  split
  · exact ht
  · exact h

theorem State.byHart_keeps (n : Nat) {body : State → State} (hb : ∀ y, a.Keeps q y.shape → a.Keeps q (body y).shape) :
    a.Keeps q (s.byHart n body).shape := State.guarded_keeps h (hb s h)

theorem State.onQueue_keeps (n r : Nat) {body : State → State} (hb : ∀ y, a.Keeps q y.shape → a.Keeps q (body y).shape) :
    a.Keeps q (s.onQueue n r body).shape := State.guarded_keeps h (hb s h)

theorem State.queueStore_keeps (n r off : Nat) (may : Bool) {body : State → State} (hb : ∀ y, a.Keeps q y.shape → a.Keeps q (body y).shape) :
    a.Keeps q (s.queueStore n r off may body).shape := by
  unfold State.queueStore
  split
  · rw [State.accessFault_shape]; exact h
  · exact hb s h

theorem State.withFlash_keeps (x : Flash) {body : State → State} (hb : ∀ y, a.Keeps q y.shape → a.Keeps q (body y).shape) :
    a.Keeps q (s.withFlash x body).shape := hb { s with flash := x } h

end

/-! ### Every command -/

/-- A transformation of states that keeps the measure. -/
def Preserves (q : Prop) (body : State → State) : Prop := ∀ (a : Shape) (y : State), a.Keeps q y.shape → a.Keeps q (body y).shape

theorem Preserves.of_shape {q : Prop} {body : State → State} (h : ∀ y, (body y).shape = y.shape) : Preserves q body := fun a y hy => by
  rw [h y]
  exact hy

/-- Every command runs an effect that keeps the measure. -/
theorem exec_preserves (q : Prop) (c : Instr) (hq : q → mayClearLatch c = false) (s : State) :
    ∃ t body, exec c s = .next (s.run t body) ∧ Preserves q body := by
  cases c with
  -- writes of whole values; the two that may carry a release spare nothing
  | dictWrite | releaseConfirm =>
    exact ⟨_, _, rfl, fun a y hy => State.writeBy_keeps hy _ _ _ _ fun e => by cases hq e⟩
  | stageDiscard | capCommit | siteCommit | combClearBlocked | regionCommit | trackCommit | trackStandbyEnter
  | trackStandbyExit | baseCommit | surveyStartStandalone | surveyStartNetwork | surveyAbandon | policyCommit | swarmCommand
  | swarmCancel | stopCommand | releaseArm | radioCommit | timeStepArm | timeStepDisarm
  | ppsTimeOfDay | ptpCommit | canTmCommit | lifecycleProvision | lifecycleCommission | lifecycleDecommission
  | lifecycleScrap | updateHeader | updateActivate | updateConfirm | updateReject | boantEnter | resetChip | resetSystem
  | resetIsland | resetBlock | counterSelect | counterSnapshot =>
    exact ⟨_, _, rfl, fun a y hy => State.writeBy_keeps hy _ _ _ _ fun _ => by decide⟩
  | radioNeighbourListen t c n v => exact ⟨_, _, rfl, fun a y hy => State.writeBy_keeps hy _ _ _ _ fun _ => by decide⟩
  | ethPortConfig t c port v => exact ⟨_, _, rfl, fun a y hy => State.writeBy_keeps hy _ _ _ _ fun _ => by decide⟩
  | roverReset | linkParamRequest | linkEnd | machineIdWrite | timePulseCommit | canRecover | canPortCommit | canSleep
  | canWakeWrite | canBufferAck =>
    refine ⟨_, _, rfl, fun a y hy => ?_⟩
    split
    · exact State.writeBy_keeps hy _ _ _ _ fun _ => by omega
    · exact hy
  | keyWrite | keyErase | keyInvalidate | settingsReset | configImport =>
    exact ⟨_, _, rfl, fun a y hy => State.withFlash_keeps hy _ fun z hz => State.writeBy_keeps hz _ _ _ _ fun _ => by decide⟩
  -- requests to ports
  | combIntake | prepare | regionCommitMessage | regionAbort | shorten | sync | regionHeartbeat | baseNetPort | stopNeighbourNotice
  | radioSend | radioWaggle | canSend | forward | logQuery =>
    exact ⟨_, _, rfl, fun a y hy => State.transactBy_keeps hy _ _ _⟩
  | canCancel t c req trying =>
    exact ⟨_, _, rfl, fun a y hy => State.access_keeps hy _ _ _ _ _ fun z hz => State.transactWith_keeps hz _ _ _ _ _ fun x hx => by
      rw [State.canTx_shape]
      exact hx⟩
  -- records, datagrams, windows and USDO
  | coilRead | blockRead | coilCommit | coilDiscard | transact | subscribe | configExport =>
    exact ⟨_, _, rfl, fun a y hy => State.record_keeps hy _ _ fun _ => by simp [Rec.sparesRelease]⟩
  | coilWrite | blockWrite => exact ⟨_, _, rfl, fun a y hy => State.record_keeps hy _ _ fun e => by cases hq e⟩
  | updatePayload =>
    exact ⟨_, _, rfl, fun a y hy => State.withFlash_keeps hy _ fun z hz => State.record_keeps hz _ _ fun _ => by simp [Rec.sparesRelease]⟩
  | coilData => exact ⟨_, _, rfl, fun a y hy => State.coilDatagram_keeps hy (fun e => by cases hq e) _ _⟩
  | requestWindowSubmit =>
    exact ⟨_, _, rfl, fun a y hy => State.byHart_keeps hy _ fun z hz => State.windowSubmit_keeps hz (fun e => by cases hq e) _ _ _ _⟩
  | answer =>
    exact ⟨_, _, rfl, fun a y hy => State.byHart_keeps hy _ fun z hz => State.guarded_keeps hz (State.takeAnswer_keeps hz _ _)⟩
  | usdoUpload =>
    exact ⟨_, _, rfl, fun a y hy => State.usdoAccess_keeps hy _ _ _ _ fun z hz => State.usdoRead_keeps hz _ _ _ _⟩
  | usdoDownload =>
    exact ⟨_, _, rfl, fun a y hy => State.usdoAccess_keeps hy _ _ _ _ fun z hz => State.usdoWrite_keeps hz _ _ _ _ _ _ fun e => by cases hq e⟩
  -- sources of their own, and the release
  | por up => exact ⟨_, _, rfl, fun a y hy => State.porRise_keeps hy (fun e => by cases hq e) _⟩
  | bor => exact ⟨_, _, rfl, fun a y hy => State.assertReset_keeps hy _ _ _ fun e => by cases hq e⟩
  | resetNLow => exact ⟨_, _, rfl, fun a y hy => State.resetPinLow_keeps hy⟩
  | globalWatchdog => exact ⟨_, _, rfl, fun a y hy => State.watchdogExpires_keeps hy⟩
  | debugReset => exact ⟨_, _, rfl, fun a y hy => State.debugRequest_keeps hy⟩
  | thermalTrip => exact ⟨_, _, rfl, fun a y hy => State.tripped_keeps hy _ _⟩
  | trialTimeout => exact ⟨_, _, rfl, fun a y hy => State.trialExpires_keeps hy⟩
  | boantFinish => exact ⟨_, _, rfl, fun a y hy => State.boantFinishOp_keeps hy _ _⟩
  | boantReset => exact ⟨_, _, rfl, fun a y hy => State.boantResetOp_keeps hy _ _⟩
  | borRelease => exact ⟨_, _, rfl, fun a y hy => State.releaseSource_keeps hy 1⟩
  | resetNHigh => exact ⟨_, _, rfl, fun a y hy => State.resetPinHigh_keeps hy⟩
  | thermalTripRelease => exact ⟨_, _, rfl, fun a y hy => State.tripReleased_keeps hy _⟩
  | wipeComplete => exact ⟨_, _, rfl, fun a y hy => State.wipesDone_keeps hy _⟩
  | releaseRow => exact ⟨_, _, rfl, fun a y hy => State.releaseRow_keeps hy⟩
  | islandClockTimeout => exact ⟨_, _, rfl, fun a y hy => State.clockFails_keeps hy _⟩
  | globalWatchdogService =>
    exact ⟨_, _, rfl, fun a y hy => by
      rw [State.watchdogServed_shape]
      exact hy⟩
  -- the rest, chapter by chapter
  | coilHello | notify | coilClose | coilIdleTimeout | blockTransferAbandon | stageHoldTimeout | controllerIdClashEnd =>
    exact ⟨_, _, rfl, fun a y hy => by
      simp [hy, State.hello_shape, State.notifyDue_shape, State.coilClosed_keeps, State.coilIdle_keeps, State.xferAbandon_shape,
        State.holdTimeout_keeps, State.clashSilent_shape]⟩
  | islandFault | islandRestartEnd | islandFailed | islandWatchdogExpiry | protectedStoreError | correctedEccError =>
    exact ⟨_, _, rfl, fun a y hy => by
      simp [hy, State.faultIn_keeps, State.restartEnds_keeps, State.islandFails_keeps, State.storeError_shape, State.corrected_shape]⟩
  | combEpochAge | combAccept | claim | probe | amend | release | area | query | combWaitResume | combTrim | combSweep | combBlocked
  | combBlockExpiry | combRetire =>
    exact ⟨_, _, rfl, fun a y hy => by
      simp [hy, State.epochAge_shape, State.acceptNext_shape, State.judgeRow_keeps, State.resume_keeps, State.trimRow_keeps,
        State.sweep_shape, State.blockSlot_shape, State.blockExpire_shape, State.retireDone_shape]⟩
  | prepareAnswer | prepareTimeout | commitAbortRepeat | combPresumed | syncAnswer | heartbeatSend | neighbourLost
  | neighbourSessionOpen | neighbourAnswer =>
    exact ⟨_, _, rfl, fun a y hy => by
      simp [hy, State.prepareAnswer_shape, State.prepareTimeout_shape, State.repeatPhase_shape, State.presume_shape,
        State.syncAnswered_shape, State.sendHeartbeats_shape, State.loseNeighbour_shape, State.nbrOpen_keeps, State.nbrAnswered_shape]⟩
  | trackEpoch | navMessage | channelLockTransition | pullInTimeout | coastTimeout | watchDwell | secondPeakClear | agcUpdate
  | gsJamClear | gsClockLost | gsClockBack | gsGap | bumpJump =>
    exact ⟨_, _, rfl, fun a y hy => by
      simp [hy, State.trackEpoch_shape, State.navMessage_shape, State.lockStep_shape, State.lockTimeout_shape, State.watchDwell_shape,
        State.clearPeak_shape, State.agcUpdate_shape, State.jamClear_shape, State.clockLost_shape, State.clockBack_shape,
        State.gsGap_shape, State.bumpJump_shape]⟩
  | devExposureArrival | devExposureStart | devResult | devOwnSearchStart | devOwnSearchDone | devReacquireTick | devStandbyExposure
  | devStandbyResult =>
    exact ⟨_, _, rfl, fun a y hy => by
      simp [hy, State.exposureArrival_shape, State.exposureStart_shape, State.devResult_shape, State.ownStart_shape, State.ownDone_shape,
        State.reacquire_shape, State.standbyExposure_shape, State.standbyResult_shape]⟩
  | baseEpoch | roverObsArrival | roverEpochStart | roverEpochDone =>
    exact ⟨_, _, rfl, fun a y hy => by
      simp [hy, State.baseEpoch_keeps, State.obsArrival_shape, State.roverStart_shape, State.roverDone_shape]⟩
  | confFix | confReported | confDeveloped | confResultNotice | confFreshnessTick | confDeviceTick | swarmInstant | swarmDeadline =>
    exact ⟨_, _, rfl, fun a y hy => by
      simp [hy, State.confRow_keeps, State.freshTick_keeps, State.deviceTick_keeps, State.swarmInstant_keeps, State.swarmDeadline_keeps]⟩
  | siPinChange | siDebounceExpiry | siDiscrepancy | soFault | soPulseTest | soPulseTestEnd | soFaultEnd | stopNoticeRepeat | stopVote
  | stopChannelDisagree =>
    exact ⟨_, _, rfl, fun a y hy => by
      simp [hy, State.siPin_shape, State.siDebounced_keeps, State.siDiscrepant_keeps, State.soFaulted_keeps, State.soPulseBegin_shape,
        State.soPulseJudge_keeps, State.soRecovered_shape, State.repeatNotice_shape, State.sendVotes_shape, State.channelsDisagree_keeps]⟩
  | linkEvent | linkReplyReceived | linkSupervisionTimeout | linkJoinTimeout | beaconSend | joinRequest | neighbourBeacon | waggleSend
  | linkUpdateInstant | hyperperiodBoundary =>
    exact ⟨_, _, rfl, fun a y hy => by
      simp [hy, State.linkEvent_shape, State.linkReply_shape, State.superviseLink_shape, State.joinTimeout_shape, State.sendBeacon_shape,
        State.joinRequest_keeps, State.nbrBeacon_shape, State.sendWaggle_shape, State.applyUpdate_shape, State.replanModem_shape]⟩
  | refinLost | refinBack | timeOffset | timeSourceQualified | timeSourceNotPresent | timeAcquired | timeStep | timePulse | timePulseEnd
  | todMessage | timeCapture | capturePostRetry =>
    exact ⟨_, _, rfl, fun a y hy => by
      simp [hy, State.refinLost_shape, State.refinBack_shape, State.timeOffset_shape, State.qualify_shape, State.sourceGone_shape,
        State.acquire_shape, State.timeStepped_shape, State.pulseDue_shape, State.pulseEnd_shape, State.todDue_shape,
        State.capEdge_shape, State.postCaptures_shape]⟩
  | ethFrameReceived | ethFrameSent | ethAddressAgeing | sgmiiControlWord | pcsSyncChange | ptpSyncReceived | ptpAnnounceReceived
  | ptpAnnounceTimeout | ptpSyncTimeout | ptpAnnounceSend | ptpSyncSend | ptpDelayReqSend | ptpDelayReqReceived
  | ptpDelayRespReceived =>
    exact ⟨_, _, rfl, fun a y hy => by
      simp [hy, State.frameIn_shape, State.frameOut_shape, State.ageOut_shape, State.controlWord_shape, State.pcsSync_shape,
        State.syncIn_shape, State.announceIn_shape, State.announceTimeout_shape, State.syncTimeout_shape, State.announceOut_shape,
        State.syncOut_shape, State.delayReqOut_shape, State.delayReqIn_shape, State.delayRespIn_shape]⟩
  | canFrameReceived | canAttemptEnd | canBusOffRecovered | canIntegrationDone | canTmBoundary | canSleepEntry | canWakeEdge
  | canFifoPost | canErrorFrame =>
    exact ⟨_, _, rfl, fun a y hy => by
      simp [hy, State.canFrameIn_keeps, State.attemptEnd_keeps, State.canRecovered_shape, State.canIntegrated_shape,
        State.tmBoundary_shape, State.canSleepIn_shape, State.canEdge_shape, State.fifoPost_shape, State.canRxError_keeps]⟩
  | fetch | fetchGrant | fetchTimeout | complete | decrement | submit | reissue | peekDescriptor =>
    exact ⟨_, _, rfl, fun a y hy => State.byHart_keeps hy _ fun y hy => by
      simp [hy, State.fetchOp_shape, State.fetchReturn_shape, State.fetchExpires_shape, State.completeOp_shape, State.decrementOp_shape,
        State.submitOp_shape, State.reissueOp_shape, State.look_keeps]⟩
  | pop | queuePeek | queueOpen | close =>
    exact ⟨_, _, rfl, fun a y hy => State.onQueue_keeps hy _ _ fun y hy => by
      simp [hy, State.popOp_shape, State.load_shape, State.openOp_shape, State.closeOp_shape]⟩
  | push | tag | closeAbandon | drop =>
    exact ⟨_, _, rfl, fun a y hy => State.onQueue_keeps hy _ _ fun y hy => State.queueStore_keeps hy _ _ _ _ fun y hy => by
      simp [hy, State.pushOp_shape, State.tagOp_shape, State.abandonOp_shape, State.dropOp_shape]⟩
  | replyPost | appletNoAnswer =>
    exact ⟨_, _, rfl, fun a y hy => by
      simp [hy, State.replyOp_shape, State.appletSilent_shape]⟩
  | keySlotReload | configCommitRetry | boantInfo | boantHeader | boantData =>
    exact ⟨_, _, rfl, fun a y hy => by
      simp [hy, State.keyReload_keeps, State.retryCarried_keeps, State.boantInfo_shape, State.boantHeader_shape,
        State.boantPayload_shape]⟩
  | tempHigh | tempHighClear | marginSample | islandStepChange | vreqStep | sramRowSpare | lpddrPageRetire =>
    exact ⟨_, _, rfl, fun a y hy => by
      simp [hy, State.tempAbove_shape, State.tempBelow_shape, State.marginSampled_shape, State.stepSwitched_shape, State.vreqMoved_shape,
        State.rowFails_keeps, State.pageFails_shape]⟩
  | logEvent | logRecordWrite | logRecordClose | logMirrorWrite | timeMark | logSeek | emit =>
    exact ⟨_, _, rfl, fun a y hy => by
      simp [hy, State.offerEvent_shape, State.logWriteNext_shape, State.mirrorOp_shape, State.timeMarkDue_shape, State.emitApplet_shape]⟩
  -- the requests to seal and to unseal a message, whose names are commands of Lean
  | _ => exact ⟨_, _, rfl, fun a y hy => State.transactBy_keeps hy _ _ _⟩

/-! ### The three invariants -/

theorem State.sized_iff (s : State) : s.sized ↔ s.shape.Sized := by
  constructor
  · rintro ⟨h1, h2, h3, h4, h5, h6, h7, h8, h9, h10, h11, h12, h13, h14, h15, h16, h17, h18⟩
    exact ⟨h1, h2, h3, Prod.ext h4 h5, h6, h7, h8, h9, h10, h11, h12, h13, h14, h15, h16, h17, h18⟩
  · rintro ⟨h1, h2, h3, h4, h6, h7, h8, h9, h10, h11, h12, h13, h14, h15, h16, h17, h18⟩
    exact ⟨h1, h2, h3, congrArg Prod.fst h4, congrArg Prod.snd h4, h6, h7, h8, h9, h10, h11, h12, h13, h14, h15, h16, h17, h18⟩

theorem State.canonical_iff (s : State) : s.canonical ↔ s.shape.Canonical := by
  have ht : s.settings.Rising ↔ _ := Settings.forall_tables
  constructor
  · rintro ⟨h0, h1, h2, h3, h4, h5, hs, hd⟩
    exact ⟨ht.mpr ⟨h0, h1, h2, h3, h4, h5⟩, hs, hd⟩
  · rintro ⟨h, hs, hd⟩
    obtain ⟨h0, h1, h2, h3, h4, h5⟩ := ht.mp h
    exact ⟨h0, h1, h2, h3, h4, h5, hs, hd⟩

theorem exec_keeps {q : Prop} {c : Instr} (hq : q → mayClearLatch c = false) {s u : State} (h : exec c s = .next u) :
    s.shape.Keeps q u.shape := by
  obtain ⟨t, body, he, hb⟩ := exec_preserves q c hq s
  rw [he] at h
  injection h with h
  rw [← h]
  exact State.run_keeps (.refl q s.shape) t body (hb _)

/-- A step is the command at the front, or nothing. -/
theorem step_keeps {s u : State} (h : step s = .next u) : s.shape.Keeps False u.shape := by
  unfold step at h
  split at h
  · injection h with h
    rw [← h]
    exact .refl _ _
  · rename_i c rest e
    exact exec_keeps (s := { s with pending := rest }) (fun e => e.elim) h

/-- Settles O5: every command keeps the measure, which counts the things of each fixed list. -/
theorem stepKeepsSized : Obligations.StepKeepsSized := by
  unfold Obligations.StepKeepsSized
  intro s u hs h
  exact u.sized_iff.mpr ((step_keeps h).sized (s.sized_iff.mp hs))

/-- Settles O6: every command keeps the tables and memories of the measure in canonical form. -/
theorem stepKeepsCanonical : Obligations.StepKeepsCanonical := by
  unfold Obligations.StepKeepsCanonical
  intro s u hs h
  exact u.canonical_iff.mpr ((step_keeps h).canonical (s.canonical_iff.mp hs))

/-- Settles O7: a command that cannot carry a release keeps every latch of channel B that was set. -/
theorem latchesOnlyReleased : Obligations.LatchesOnlyReleased := by
  unfold Obligations.LatchesOnlyReleased
  intro s u c rest l n hp hc h hbit
  unfold step at h
  rw [hp] at h
  exact (exec_keeps (q := True) (fun _ => hc) h).latched trivial l n hbit

end Sys2Proof.Machine
end
